-- ==== Sys2Proof/Word.lean ====
section
/-! DEFINITION. The word types of the part (R10: bit 0 is the least significant bit) and the sparse map that holds
every large store of state as plain data. -/

namespace Sys2Proof

/-- A byte. -/
abbrev Byte := BitVec 8
/-- A 32-bit word: the unit of the check code (R483), of `v` registers and of event slots. -/
abbrev W32 := BitVec 32
/-- A 64-bit word: a control register (R10), a `u` register, an instruction word. -/
abbrev W64 := BitVec 64
/-- A 128-bit word: an order stamp (R48), a 16-byte group. -/
abbrev W128 := BitVec 128

/-- A 256-bit word: a digest or a key (R462). -/
abbrev W256 := BitVec 256

/-- A sparse store: key and value pairs in ascending key order, none of them at the value its key reads as when it is
not listed.  The operations and the predicate of that form stand in `Sys2Proof.Machine.Map`. -/
abbrev SMap (α : Type) := List (Nat × α)

end Sys2Proof
end

