-- ==== Sys2Proof/Types.lean ====
section
/-! DEFINITION. The plain data types that commands carry and the state holds: order stamps, log records, instruction
fields, the rows of the register tables. -/

namespace Sys2Proof.Machine

/-- The access codes of register fields (R15). -/
inductive Acc where
  | ro | rw | wo | w1c | w1s | rws
  deriving DecidableEq, Repr

/-- A named field of a register: its position, access code, reset value and the encodings a write may give it (R12). -/
structure Fld where
  lo : Nat
  w : Nat
  acc : Acc
  reset : Nat
  vmin : Nat
  vmax : Nat
  deriving DecidableEq, Repr

/-- A register of the control window with its instances: instance `(i, j)` lies at `base + s1 * i + s2 * j`,
`i < n1`, `j < n2` (R574). -/
structure RegRow where
  base : Nat
  s1 : Nat
  n1 : Nat
  s2 : Nat
  n2 : Nat
  flds : List Fld
  deriving DecidableEq, Repr

/-- An order stamp (R48). -/
structure Stamp where
  /-- Bits [127:64]: tick of the origin island's copy, raised by R50. -/
  tick : Nat := 0
  /-- Bits [63:48]: FAB_DEVICE_NUM of the origin package. -/
  device : Nat := 0
  /-- Bits [47:32]: origin island number (R18). -/
  island : Nat := 0
  /-- Bits [31:0]: position among the island's items of the same tick. -/
  seq : Nat := 0
  deriving DecidableEq, Repr, Inhabited

/-- An error log record (R495), 64 bytes in the log ring. -/
structure ErrRec where
  stamp : Stamp := {}
  /-- Time-base epoch of the stamp. -/
  epoch : Nat := 0
  /-- Class in [15:8], unit in [7:0] (R488). -/
  detector : Nat := 0
  /-- 0 CORRECTED, 1 UNCORRECTED, 2 FATAL, 3 INFO. -/
  severity : Nat := 0
  /-- 0 LOGGED to 12 DISCARDED. -/
  action : Nat := 0
  address : Nat := 0
  /-- What the address is (R495). -/
  space : Nat := 0
  /-- Tent, 0xFF if none. -/
  tent : Nat := 0xFF
  /-- Bit 0 INJECTED, bit 1 COALESCED. -/
  flags : Nat := 0
  count : Nat := 1
  detail : Nat := 0
  syndrome : Nat := 0
  reqSeq : Nat := 0
  logSeq : Nat := 0
  deriving DecidableEq, Repr, Inhabited

/-- What an item in a coupler carries. -/
inductive ItemKind where
  /-- A watermark: only a stamp (R51). -/
  | watermark
  /-- A message for a bay (R116): its destination bay store address and the event slot it signals. -/
  | message (addr slot : Nat)
  /-- Any other transaction. -/
  | transaction
  deriving DecidableEq, Repr

/-- A payload word in a coupler: its 32 data bits and whether it is poisoned (R485). -/
structure PWord where
  data : W32 := 0
  poison : Bool := false
  deriving DecidableEq, Repr, Inhabited

/-- An item that a coupler has accepted (R20, R21). -/
structure Item where
  stamp : Stamp := {}
  /-- Island that last forwarded the item. -/
  sender : Nat := 0
  /-- Receiving island. -/
  holder : Nat := 0
  kind : ItemKind := .transaction
  /-- Tent of the item, 0xFF if none. -/
  tent : Nat := 0xFF
  /-- The item's payload, word by word. -/
  payload : List PWord := []
  /-- Payload length in bytes. -/
  bytes : Nat := 0
  deriving DecidableEq, Repr

/-- An entry of a result list (R164): the 32-bit SCORE and the id. -/
structure ResEntry where
  score : W32 := 0
  id : Nat := 0
  deriving DecidableEq, Repr, Inhabited

/-- A result list (R177) as data: header fields and the COUNT valid entries. -/
structure ResList where
  k : Nat := 0
  short : Bool := false
  tied : Bool := false
  formatError : Bool := false
  keyType : Nat := 0
  smallest : Bool := false
  n : Nat := 0
  valid : Nat := 0
  nans : Nat := 0
  /-- THRESHOLD_TIES. -/
  ties : Nat := 0
  dropped : Nat := 0
  dups : Nat := 0
  entries : List ResEntry := []
  deriving DecidableEq, Repr, Inhabited

/-- The payload of a journal record (R408, R409). -/
inductive JPay where
  /-- The descriptor's submission queue and slot are kept beside what R408 lists (log entry 17). -/
  | admitReq (desc : List Byte) (submit adapter : Nat) (params bias text : List Byte) (sq slot : Nat)
  | leg (leg : Nat) (data : List Byte)
  | tokens (firstSeq records conditions preemptions ttft maxTbt sumTbt : Nat) (ids : List Nat)
  | cancel (target outcome : Nat)
  | complete (status conditions finalSeq : Nat) (summary : List Byte)
  deriving DecidableEq, Repr, Inhabited

/-- A journal record (R407). -/
structure JRec where
  /-- The model's own number of the record, 0 until it is appended. -/
  id : Nat := 0
  /-- Local log position at which it ends. -/
  pos : Nat := 0
  tent : Nat := 0
  cls : Nat := 0
  epoch : Nat := 0
  stamp : Stamp := {}
  req : Nat := 0
  pay : JPay := default
  /-- KEY_ID of the tent's key when it was appended, 0 without one (R425). -/
  keyId : W64 := 0
  carried : Bool := false
  /-- Tick of its append. -/
  since : Nat := 0
  /-- The peer has acknowledged it; its group has been written to both SSDs. -/
  acked : Bool := false
  written : Bool := false
  deriving DecidableEq, Repr, Inhabited

/-- The payload of a fabric transaction (R445). -/
inductive TxnPay where
  | none
  /-- Data words of a WRITE, READ_DATA, MESSAGE, ATOMIC_DATA or COLLECTIVE. -/
  | bytes (l : List Byte)
  /-- An ATOMIC's operation, operand and compare value. -/
  | atomic (op x cmp : Nat)
  /-- A JOURNAL record, or the acknowledgement of one by its number at the sender. -/
  | journal (r : JRec)
  | journalAck (id : Nat)
  /-- The start of a copy to a new peer (R414): the sender's oldest record, and its committed records. -/
  | copyIn (tail : Nat) (ids : List Nat)
  /-- A journal probe (R454) and its answer. -/
  | probe (answer : Bool)
  /-- LINK_NOTICE: the failed link of the sender and the last LSEQ it accepted there. -/
  | notice (link lseq : Nat)
  /-- FREEZE and RESUME: the tick; the acknowledgement, and whether the package froze late. -/
  | tick (t : Nat)
  | ack (late : Bool)
  /-- KEY_ID of a sealed tent (R474). -/
  | keyId (tent id : Nat)
  /-- A part of a collective: group, instance, member; `up` from a member to its parent, else a result; the sub-tree's
  value; operands that must match; and a status that ends the instance, 0 for none. -/
  | coll (group inst member : Nat) (up : Bool) (value : List Byte) (shape : List Nat) (status : Nat)
  deriving DecidableEq, Repr, Inhabited

/-- A fabric transaction (R445). -/
structure Txn where
  stamp : Stamp := {}
  dest : Nat := 0
  /-- 0 SYSTEM, 1 REQUEST, 2 REPLY, 3 COLLECTIVE. -/
  cls : Nat := 0
  op : Nat := 0
  tent : Nat := 0xFF
  /-- SRC_ISLAND and TAG of the issuer. -/
  src : Nat := 0
  tag : Nat := 0
  addr : Nat := 0
  /-- Bytes that SIZE names. -/
  size : Nat := 0
  pay : TxnPay := .none
  /-- The data of a WRITE of the package to itself are poisoned. -/
  bad : Bool := false
  deriving DecidableEq, Repr, Inhabited

/-- A flit (R434).  A HEAD carries its transaction; DATA flits carry the transaction's further bytes, by PART. -/
structure Flit where
  stamp : Stamp := {}
  /-- 0 IDLE, 1 WATERMARK, 2 HEAD, 3 DATA, 4 SEAL, 5 LINK_CTL. -/
  type : Nat := 0
  dest : Nat := 0
  lseq : Nat := 0
  cls : Nat := 0
  vc : Nat := 0
  part : Nat := 0
  /-- Flits of the transaction. -/
  parts : Nat := 1
  txn : Option Txn := none
  ack : Option Nat := none
  /-- Credits returned: class, virtual channel, entries. -/
  credit : Nat × Nat × Nat := (0, 0, 0)
  nak : Bool := false
  deriving DecidableEq, Repr, Inhabited

/-- The fields of a short-form instruction word (R97): every row of the bay instruction set carries these. -/
structure Short where
  dst : BitVec 6
  srca : BitVec 6
  srcb : BitVec 6
  srcc : BitVec 6
  pred : BitVec 3
  pneg : Bool
  func : BitVec 28
  deriving DecidableEq, Repr, Inhabited

end Sys2Proof.Machine
end

