-- ==== Sys2Proof/Syntax.lean ====
section
/-! DEFINITION. The commands of the part, one constructor a row of the spec's table of operations and events.  Operands
are what the event brings from outside the state: an address, a value, which unit, what a sensor read. -/

namespace Sys2Proof

open Sys2Proof.Machine

/-- The commands. -/
inductive Instr where
  /-- MALFORMED_CONTROL_ACCESS (R11): A control-window access that is not an aligned 64-bit load or store reads all ones or is discarded, and a PROTOCOL record is logged. -/
  | malformedControlAccess (off size : Nat) (write : Bool)
  /-- REGISTER_WRITE (R15): A write to a register that has no row of its own stores, clears or sets fields by their access codes and ignores reserved or invalid encodings. -/
  | registerWrite (off : Nat) (v : W64)
  /-- COUPLER_DELIVER (R20): A coupler delivers an accepted item in order to the receiving island, checking and correcting its payload, or stalls the sender while full. -/
  | couplerDeliver (src dst : Nat) (flips : List (Nat × Nat)) (ctlBad : Bool) (bridge tries : Nat)
  /-- TIME_BEACON (R40): Every 1,000 ticks the always-on domain sends the reference tick to every island, and each island compares its copy with it. -/
  | timeBeacon (drift : List (Nat × Int)) (absent : List Nat)
  /-- TIMING_FAULT (R41): An island more than 8 ticks off a beacon, or four beacons missed, logs a record and enters FAILSAFE. -/
  | timingFault (isl : Nat)
  /-- WATERMARK_SEND (R51): An island sends a watermark on a coupler or link that has carried nothing from it for 64 ticks. -/
  | watermarkSend (src dst : Nat)
  /-- TIME_SKEW_CLEAR (R43): Writing CLEAR to TIME_SKEW_MAX zeroes the recorded skew maxima. -/
  | timeSkewClear
  /-- PTP_MAPPING_UPDATE (R44): Lookout refreshes the tick-to-TAI mapping registers after a PTP offset computation, or at least every 125 ms, bracketed by UPDATE_SEQ. -/
  | ptpMappingUpdate (offset : W64) (rate : W32) (ptpState : Nat)
  /-- PPS_OUT_EDGE (R46): PPS_OUT rises at each whole TAI second while LOCKED, or else at each multiple of 10^9 ticks. -/
  | ppsOutEdge
  /-- PPS_IN_EDGE (R46): A rising edge of PPS_IN records the tick in TIME_PPS_IN_TICK. -/
  | ppsInEdge
  /-- TIME_CMP_WRITE (R47): A write to TIME_CMP0 or TIME_CMP1 sets a compare tick, and a value at or below TIME_NOW fires at once. -/
  | timeCmpWrite (k : Nat) (v : W64)
  /-- TIME_CMP_FIRE (R47): A comparator fires at the first tick at or above its value, sets CMP_FIRED and wakes the part if WAKE_EN is set. -/
  | timeCmpFire (k : Nat)
  /-- FREEZE_ARM (R58): A write of tick T to TIME_FREEZE_AT with enough lead arms or replaces a freeze, and otherwise sets TOO_SOON or IN_PROGRESS. -/
  | freezeArm (t : W64)
  /-- FREEZE_DISARM (R58): A write of all ones to TIME_FREEZE_AT disarms an armed freeze under the 1,000-tick condition. -/
  | freezeDisarm
  /-- FREEZE_CANCEL (R58): Writing 1 to TIME_FREEZE_CTL.CANCEL disarms an armed freeze, or sets CANCEL_REFUSED. -/
  | freezeCancel
  /-- FREEZE_TICK_REACHED (R57): At T, frozen-scope islands stop originating items, in-flight items are held, and STATE becomes DRAINING. -/
  | freezeTickReached
  /-- FREEZE_SETTLED (R62): Once T is settled at every frozen-scope island, STATE becomes FROZEN and DEV_STATE reads FROZEN. -/
  | freezeSettled
  /-- RESUME_ARM (R61): A write of U to TIME_RESUME_AT while FROZEN, with enough lead, sets the resume tick. -/
  | resumeArm (u : W64)
  /-- RESUME_TICK_REACHED (R61): At U, islands originate items again, held items are delivered, and the freeze returns to IDLE. -/
  | resumeTickReached
  /-- FREEZE_ACK_RECEIVE (R62): A peer's acknowledgement of a fabric-scope freeze adds to PEERS_ACKED, or reports LATE_PEER. -/
  | freezeAckReceive (late : Bool)
  /-- DUMP_GO (R63): Writing GO while FROZEN writes one 64-byte record per held item to TIME_DUMP_BASE, or refuses a bad span. -/
  | dumpGo
  /-- CREW_LAUNCH (R74): The head of a bay's launch queue launches once a crew slot and its register footprint are free. -/
  | crewLaunch (bay slot : Nat)
  /-- CREW_END (R72): A crew whose strands have all exited frees its slot and registers once its outstanding operations complete, and signals its event slot. -/
  | crewEnd (bay slot : Nat)
  /-- LONG_LATENCY_REPLY_LAND (R82): A long-latency reply lands in full for all strands, and the parked crew becomes ready or takes a deferred trap. -/
  | longLatencyReplyLand (bay slot id : Nat)
  /-- MESSAGE_DELIVER (R116): A message's bytes are copied into the destination bay store, and then the named slot is signalled. -/
  | messageDeliver (bay : Nat)
  /-- NOP (R102): No operation. -/
  | nop (bay slot : Nat) (f : Short)
  /-- IADD (R102): Integer add. -/
  | iadd (bay slot : Nat) (f : Short)
  /-- ISUB (R102): Integer subtract. -/
  | isub (bay slot : Nat) (f : Short)
  /-- IMUL (R102): Low 32 bits of an integer product. -/
  | imul (bay slot : Nat) (f : Short)
  /-- IMULH (R102): High 32 bits of an integer product. -/
  | imulh (bay slot : Nat) (f : Short)
  /-- IMAD (R102): Integer multiply-add. -/
  | imad (bay slot : Nat) (f : Short)
  /-- IMIN (R102): Integer minimum. -/
  | imin (bay slot : Nat) (f : Short)
  /-- IMAX (R102): Integer maximum. -/
  | imax (bay slot : Nat) (f : Short)
  /-- AND (R102): Bitwise AND. -/
  | and (bay slot : Nat) (f : Short)
  /-- OR (R102): Bitwise OR. -/
  | or (bay slot : Nat) (f : Short)
  /-- XOR (R102): Bitwise XOR. -/
  | xor (bay slot : Nat) (f : Short)
  /-- ANDN (R102): a AND NOT b. -/
  | andn (bay slot : Nat) (f : Short)
  /-- SHL (R102): Shift left. -/
  | shl (bay slot : Nat) (f : Short)
  /-- SHR (R102): Logical or arithmetic shift right. -/
  | shr (bay slot : Nat) (f : Short)
  /-- POPC (R102): Population count. -/
  | popc (bay slot : Nat) (f : Short)
  /-- CLZ (R102): Count leading zeros. -/
  | clz (bay slot : Nat) (f : Short)
  /-- IADDI (R102): Add an immediate. -/
  | iaddi (bay slot : Nat) (f : Short)
  /-- MOVI (R102): Move an immediate. -/
  | movi (bay slot : Nat) (f : Short)
  /-- MOVHI (R102): Set the high 16 bits of a register. -/
  | movhi (bay slot : Nat) (f : Short)
  /-- ISETP (R102): Integer compare to a predicate. -/
  | isetp (bay slot : Nat) (f : Short)
  /-- SEL (R102): Select a or b by a predicate. -/
  | sel (bay slot : Nat) (f : Short)
  /-- PLOP (R102): Predicate logic operation. -/
  | plop (bay slot : Nat) (f : Short)
  /-- SHFL (R102): Read a register of another lane. -/
  | shfl (bay slot : Nat) (f : Short)
  /-- VOTE (R102): Mask of strands whose predicate is true. -/
  | vote (bay slot : Nat) (f : Short)
  /-- BFE (R102): Bit-field extract. -/
  | bfe (bay slot : Nat) (f : Short)
  /-- BFI (R102): Bit-field insert. -/
  | bfi (bay slot : Nat) (f : Short)
  /-- MOVU (R102): Move half of a u register into a v register. -/
  | movu (bay slot : Nat) (f : Short)
  /-- FADD (R104): FP32 add. -/
  | fadd (bay slot : Nat) (f : Short)
  /-- FSUB (R104): FP32 subtract. -/
  | fsub (bay slot : Nat) (f : Short)
  /-- FMUL (R104): FP32 multiply. -/
  | fmul (bay slot : Nat) (f : Short)
  /-- FFMA (R104): FP32 fused multiply-add. -/
  | ffma (bay slot : Nat) (f : Short)
  /-- FMIN (R104): FP32 minimum number. -/
  | fmin (bay slot : Nat) (f : Short)
  /-- FMAX (R104): FP32 maximum number. -/
  | fmax (bay slot : Nat) (f : Short)
  /-- FSETP (R102): FP32 compare to a predicate. -/
  | fsetp (bay slot : Nat) (f : Short)
  /-- FABSNEG (R102): Clear or invert the sign bit. -/
  | fabsneg (bay slot : Nat) (f : Short)
  /-- FRCP (R104): Reciprocal. -/
  | frcp (bay slot : Nat) (f : Short)
  /-- FRSQ (R104): Reciprocal square root. -/
  | frsq (bay slot : Nat) (f : Short)
  /-- FEXP2 (R104): Base-2 exponential. -/
  | fexp2 (bay slot : Nat) (f : Short)
  /-- FLOG2 (R104): Base-2 logarithm. -/
  | flog2 (bay slot : Nat) (f : Short)
  /-- FTANH (R104): Hyperbolic tangent. -/
  | ftanh (bay slot : Nat) (f : Short)
  /-- F2I (R105): Convert FP32 to an integer, with saturation. -/
  | f2i (bay slot : Nat) (f : Short)
  /-- I2F (R105): Convert an integer to FP32. -/
  | i2f (bay slot : Nat) (f : Short)
  /-- F2N (R105): Convert FP32 to a narrow-format element. -/
  | f2n (bay slot : Nat) (f : Short)
  /-- N2F (R105): Convert a narrow-format element to FP32. -/
  | n2f (bay slot : Nat) (f : Short)
  /-- FCLASS (R102): Classify an FP32 value. -/
  | fclass (bay slot : Nat) (f : Short)
  /-- UADD (R102): Crew-uniform add. -/
  | uadd (bay slot : Nat) (f : Short)
  /-- UADDI (R102): Crew-uniform add of an immediate. -/
  | uaddi (bay slot : Nat) (f : Short)
  /-- UMOVI (R102): Crew-uniform move of an immediate. -/
  | umovi (bay slot : Nat) (f : Short)
  /-- ULUI (R102): Set the upper bits of a u register. -/
  | ului (bay slot : Nat) (f : Short)
  /-- UMUL (R102): Crew-uniform multiply. -/
  | umul (bay slot : Nat) (f : Short)
  /-- USHIFT (R102): Crew-uniform shift. -/
  | ushift (bay slot : Nat) (f : Short)
  /-- UAND (R102): Crew-uniform AND. -/
  | uand (bay slot : Nat) (f : Short)
  /-- UMOVV (R102): Copy a v register of the lowest active strand into a u register. -/
  | umovv (bay slot : Nat) (f : Short)
  /-- BRA (R112): Guarded branch that pushes a reconvergence entry when the strands diverge. -/
  | bra (bay slot : Nat) (f : Short)
  /-- JMPU (R112): Jump to a u-register target. -/
  | jmpu (bay slot : Nat) (f : Short)
  /-- LOOP (R102): Decrement a counter and branch while it is nonzero. -/
  | loop (bay slot : Nat) (f : Short)
  /-- CALL (R102): Save the return address and branch. -/
  | call (bay slot : Nat) (f : Short)
  /-- RET (R102): Return to a u-register address. -/
  | ret (bay slot : Nat) (f : Short)
  /-- EXIT (R72): The guarded strands end. -/
  | exit (bay slot : Nat) (f : Short)
  /-- LAUNCH (R113): Read a launch descriptor and queue it, or trap DESCRIPTOR_INVALID. -/
  | launch (bay slot : Nat) (f : Short)
  /-- LOAD_LOCAL (R108): Load from the bay store. -/
  | loadLocal (bay slot : Nat) (f : Short)
  /-- STORE_LOCAL (R108): Store to the bay store. -/
  | storeLocal (bay slot : Nat) (f : Short)
  /-- LOAD_ACC (R108): Load from the accumulator store. -/
  | loadAcc (bay slot : Nat) (f : Short)
  /-- STORE_ACC (R108): Store to the accumulator store. -/
  | storeAcc (bay slot : Nat) (f : Short)
  /-- LOAD_DEV (R109): Device-range load: long-latency unless it is served from a staged span. -/
  | loadDev (bay slot : Nat) (f : Short)
  /-- STORE_DEV (R109): Posted device-range store. -/
  | storeDev (bay slot : Nat) (f : Short)
  /-- ATOM_DEV (R110): Device-range atomic at the memory-side die. -/
  | atomDev (bay slot : Nat) (f : Short)
  /-- ATOM_LOCAL (R110): Bay store atomic. -/
  | atomLocal (bay slot : Nat) (f : Short)
  /-- FLASH_READ (R111): Read one 4 KiB granule into the bay store without migrating its panel. -/
  | flashRead (bay slot : Nat) (f : Short)
  /-- SPAN_CLEAR (R111): Remove a staged span entry. -/
  | spanClear (bay slot : Nat) (f : Short)
  /-- EV_SIGNAL (R114): Add a value to an event slot. -/
  | evSignal (bay slot : Nat) (f : Short)
  /-- EV_SET (R114): Write an event slot. -/
  | evSet (bay slot : Nat) (f : Short)
  /-- EV_WAIT (R86): Wait for an event slot to reach a value, parking the crew if it has not. -/
  | evWait (bay slot : Nat) (f : Short)
  /-- FENCE_LOCAL (R90): Perform earlier bay store and accumulator store accesses before later ones issue. -/
  | fenceLocal (bay slot : Nat) (f : Short)
  /-- FENCE_DEVICE (R91): Park the crew until its earlier device-range accesses are performed. -/
  | fenceDevice (bay slot : Nat) (f : Short)
  /-- FENCE_STAMP (R92): Write into a u register a tick that separates earlier effects from later ones. -/
  | fenceStamp (bay slot : Nat) (f : Short)
  /-- PARK (R115): Park the crew until its long-latency operations have landed. -/
  | park (bay slot : Nat) (f : Short)
  /-- YIELD (R76): Make the crew not ready for 4 clocks. -/
  | yield (bay slot : Nat) (f : Short)
  /-- MSG_SEND (R116): Send 1–64 bytes to a bay of the tent and signal a slot there. -/
  | msgSend (bay slot : Nat) (f : Short)
  /-- REMOTE_GET (R118): Copy from a remote device range into the bay store. -/
  | remoteGet (bay slot : Nat) (f : Short)
  /-- REMOTE_PUT (R118): Copy from the bay store to a remote device range. -/
  | remotePut (bay slot : Nat) (f : Short)
  /-- REMOTE_LOAD (R118): Load a word from a remote device range. -/
  | remoteLoad (bay slot : Nat) (f : Short)
  /-- REMOTE_ATOM (R118): Remote atomic. -/
  | remoteAtom (bay slot : Nat) (f : Short)
  /-- TRAP (R102): Trap SOFTWARE with a code. -/
  | trap (bay slot : Nat) (f : Short)
  /-- TIME (R102): Read the bay's tick copy into a u register. -/
  | time (bay slot : Nat) (f : Short)
  /-- CTR (R102): Read an event counter of this bay. -/
  | ctr (bay slot : Nat) (f : Short)
  /-- BAYINFO (R102): Read BAY_ID into a u register. -/
  | bayinfo (bay slot : Nat) (f : Short)
  /-- TRACE (R102): Write a trace point carrying a value. -/
  | trace (bay slot : Nat) (f : Short)
  /-- BRK (R102): Trap BREAKPOINT with a code. -/
  | brk (bay slot : Nat) (f : Short)
  /-- TR_SHAPE (R125): Rewire the truss to a shape and clear its weights and lists. -/
  | trShape (bay slot : Nat) (f : Short) (w2 : W64)
  /-- TR_WLOAD (R125): Load shadow weights. -/
  | trWload (bay slot : Nat) (f : Short) (w2 : W64)
  /-- TR_SWAP (R139): Make the shadow weights active and toggle PAIR_HALF. -/
  | trSwap (bay slot : Nat) (f : Short) (w2 : W64)
  /-- TR_RUN (R125): Stream activation vectors and write or add column results. -/
  | trRun (bay slot : Nat) (f : Short) (w2 : W64)
  /-- TR_CMP (R163): Compare-mode streaming that updates running top-K lists. -/
  | trCmp (bay slot : Nat) (f : Short) (w2 : W64)
  /-- TR_ACCZ (R125): Zero accumulator lines. -/
  | trAccz (bay slot : Nat) (f : Short) (w2 : W64)
  /-- TR_SYNC (R125): Complete once every earlier truss form of the bay has completed. -/
  | trSync (bay slot : Nat) (f : Short) (w2 : W64)
  /-- TRUSS_FORM_COMPLETE (R125): A truss form completes after its last write is performed and signals its slot. -/
  | trussFormComplete (bay : Nat)
  /-- DMA_LOAD (R126): DMA from the device range to a local space, optionally installing a staged span. -/
  | dmaLoad (bay slot : Nat) (f : Short) (w2 : W64)
  /-- DMA_STORE (R126): DMA from the bay store or accumulator store to the device range. -/
  | dmaStore (bay slot : Nat) (f : Short) (w2 : W64)
  /-- DMA_COPY (R126): DMA within local spaces. -/
  | dmaCopy (bay slot : Nat) (f : Short) (w2 : W64)
  /-- DMA_SCARF (R159): DMA into the bay store in scarf layout. -/
  | dmaScarf (bay slot : Nat) (f : Short) (w2 : W64)
  /-- DMA_UNSCARF (R159): Inverse scarf DMA to the device range. -/
  | dmaUnscarf (bay slot : Nat) (f : Short) (w2 : W64)
  /-- DMA_FILL (R126): Fill a local space with a pattern. -/
  | dmaFill (bay slot : Nat) (f : Short) (w2 : W64)
  /-- DMA_DESCRIPTOR_COMPLETE (R127): A DMA descriptor completes in channel order and signals its slot. -/
  | dmaDescriptorComplete (bay ch : Nat)
  /-- DMA_FAULT (R490): A descriptor that faults halts its channel unsignalled, and firmware ends the request concerned. -/
  | dmaFault (bay ch : Nat)
  /-- DMA_RESUME (R490): BAY_DMA_FAULT CMD RESUME drops the halted descriptor and continues the channel. -/
  | dmaResume (bay ch : Nat)
  /-- DMA_FLUSH (R490): BAY_DMA_FAULT CMD FLUSH drops every queued descriptor of the channel. -/
  | dmaFlush (bay ch : Nat)
  /-- SEL_TOPK (R179): Select the sorted top-K of N keys. -/
  | selTopk (bay slot : Nat) (f : Short) (w2 : W64)
  /-- SEL_HIST (R180): Write a pass histogram record. -/
  | selHist (bay slot : Nat) (f : Short) (w2 : W64)
  /-- SEL_EMIT (R181): Emit the elements at or beyond a threshold. -/
  | selEmit (bay slot : Nat) (f : Short) (w2 : W64)
  /-- MERGE (R182): Merge two result lists with deduplication by id. -/
  | merge (bay slot : Nat) (f : Short) (w2 : W64)
  /-- SELECT_FORM_COMPLETE (R186): A select or merge form finishes and signals its slot. -/
  | selectFormComplete (bay : Nat)
  /-- SMP_FEED (R129): Feed a logit block to the sampler slice. -/
  | smpFeed (bay slot : Nat) (f : Short) (w2 : W64)
  /-- SMP_CLOSE (R129): Close the bay's contribution to a step context. -/
  | smpClose (bay slot : Nat) (f : Short) (w2 : W64)
  /-- SMP_DRAFT (R129): Record draft probabilities for a position. -/
  | smpDraft (bay slot : Nat) (f : Short) (w2 : W64)
  /-- INDEX_REGISTER (R193): LANTERN_INDEX_BASE VALID=1 makes the engines read and check the index descriptor. -/
  | indexRegister (x : Nat) (v : W64)
  /-- INDEX_RETIRE (R193): VALID=0 retires an index, and it drains its queries. -/
  | indexRetire (x : Nat)
  /-- SEARCH_START (R201): At TICK(s)+8, with the gates clear and room in the engine, a query builds its query side and starts its sub-queries. -/
  | searchStart (n : Nat)
  /-- SEARCH_ROUND (R202): A sub-query expands W entries, scores new neighbours, and ends CONVERGED or ROUNDS. -/
  | searchRound (n j : Nat)
  /-- GRANULE_READ_COMPLETE (R206): A granule read lands and is checked, or ends the request DATA_ERROR. -/
  | granuleReadComplete (n j node : Nat)
  /-- RESCORE_LEG (R210): Select the best K of the beam by exact distance and merge the sub-query lists. -/
  | rescoreLeg (n : Nat)
  /-- CALLBACK_DONE (R209): The callback's DONE write is seen and its pass mask applied. -/
  | callbackDone (n : Nat)
  /-- CALLBACK_TIMEOUT (R209): A batch without DONE within CALLBACK_TIMEOUT_US fails every candidate in it. -/
  | callbackTimeout (n : Nat)
  /-- INDEX_INSERT (R213): Search, link neighbours by versioned copies, and write the new node's granule. -/
  | indexInsert (n : Nat)
  /-- INDEX_DELETE (R214): Mark a node deleted at commit. -/
  | indexDelete (n : Nat)
  /-- MUTATION_COMMIT (R215): After the mutation's writes are performed, set GATE, originate the commit stamp, write it, and clear GATE. -/
  | mutationCommit (n : Nat)
  /-- VERSION_RECLAIM (R217): Every RECLAIM_INTERVAL_US the owner engine reclaims versions that no active query needs. -/
  | versionReclaim (e : Nat)
  /-- GROUND_TRUTH_PASS (R218): Brute-force TR.CMP pass producing a recall record. -/
  | groundTruthPass (n : Nat)
  /-- TABLE_REGISTER (R221): TBL_DESC_BASE VALID=1 reads the table descriptor and allocates replicas. -/
  | tableRegister (x : Nat) (v : W64)
  /-- TABLE_RETIRE (R221): VALID=0 retires a table, and its commands drain. -/
  | tableRetire (x : Nat)
  /-- TABLE_COMMAND_ISSUE (R226): A table command is checked, stamped and split into shard parts, or refused. -/
  | tableCommandIssue (isl t n : Nat) (cmd : List Byte)
  /-- TABLE_GATHER (R229): A settled GATHER part reads rows once per window and writes them to every destination bay. -/
  | tableGather (id k : Nat) (given : List (List Byte × Bool))
  /-- TABLE_SCATTER (R229): A SCATTER part writes each distinct row once, the highest position winning. -/
  | tableScatter (id k : Nat)
  /-- TABLE_SCATTER_ADD (R230): A SCATTER_ADD part sums contributions per row and adds them in. -/
  | tableScatterAdd (id k : Nat) (order : List Nat)
  /-- TABLE_COMMAND_COMPLETE (R228): When every part is performed, signal the slots and send the 16-byte completion. -/
  | tableCommandComplete (id : Nat)
  /-- HOT_SAMPLE_INTERVAL (R231): At the end of each sampling interval, rows whose count reached HOT_THRESHOLD are marked hot. -/
  | hotSampleInterval (x : Nat) (counts : List (Nat × Nat))
  /-- REPLICA_COPY_COMPLETE (R231): The copy of a version's hot rows to every stack completes. -/
  | replicaCopyComplete (x n : Nat)
  /-- BUCKET_MOVE (R233): Firmware moves a MIGRATE bucket at cut tick C and rewrites its RIT entry. -/
  | bucketMove (x bucket shard slot cut : Nat)
  /-- TABLE_SWITCH (R235): A TBL_SWITCH write arms a new version at A, or sets SWITCH_REFUSED. -/
  | tableSwitch (v : W64)
  /-- TABLE_SWITCH_ACTIVATE (R234): At A the new version becomes current for stamps at or after A. -/
  | tableSwitchActivate (x : Nat)
  /-- PANEL_TABLE_CREATE (R240): MEM_PANEL_TABLE_BASE VALID=1 allocates a zeroed directory, or sets CFG_ERROR. -/
  | panelTableCreate (t rangeLog2 dir : Nat)
  /-- PANEL_TABLE_DESTROY (R240): VALID=0 frees a panel table whose panels are INVALID, or any RETAINED table. -/
  | panelTableDestroy (t : Nat)
  /-- PANEL_READ (R242): MEM_PANEL_READ loads a panel entry into MEM_PANEL_DATA0 and DATA1. -/
  | panelRead (t v : Nat)
  /-- MAP_HBM (R246): Take INVALID panels to RESIDENT on zeroed physical panels. -/
  | mapHbm (t v count : Nat) (picks : List Nat)
  /-- MAP_FLASH (R246): Take INVALID panels to FLASH without a flash copy. -/
  | mapFlash (t v count : Nat)
  /-- UNMAP (R246): Take panels to INVALID, freeing physical panels and extents. -/
  | unmap (t v count : Nat)
  /-- HINT_PREFETCH (R269): Start inbound migration of FLASH panels. -/
  | hintPrefetch (t v count : Nat)
  /-- HINT_PIN (R269): Pin panels, migrating FLASH ones in. -/
  | hintPin (t v count : Nat)
  /-- HINT_UNPIN (R269): Unpin panels. -/
  | hintUnpin (t v count : Nat)
  /-- HINT_DEMOTE (R269): Start outbound migration of unpinned RESIDENT panels. -/
  | hintDemote (t v count : Nat)
  /-- INBOUND_MIGRATION (R265): A migration engine takes a physical panel, sets MIGRATING_IN, and reads the panel's granules. -/
  | inboundMigration (m : Nat) (pick : Option Nat)
  /-- INBOUND_MIGRATION_DONE (R266): The panel becomes RESIDENT and its held accesses are performed in stamp order. -/
  | inboundMigrationDone (t v : Nat)
  /-- OUTBOUND_MIGRATION (R267): After a begin stamp, set MIGRATING_OUT and write back granules to flash. -/
  | outboundMigration (m : Nat) (pick : Option Nat)
  /-- OUTBOUND_WRITEBACK_DONE (R267): Once the writes complete, the engine closes the panel and originates the commit stamp c. -/
  | outboundWritebackDone (t v : Nat)
  /-- OUTBOUND_COMMIT_SETTLED (R267): Once c is settled, the panel becomes FLASH or returns to RESIDENT, and held accesses are served. -/
  | outboundCommitSettled (t v : Nat)
  /-- PANEL_RETIRE (R271): MEM_RETIRE copies or withdraws a physical panel and reports the result. -/
  | panelRetire (p : Nat)
  /-- FLASH_SET_CREATE (R261): VALID=1 with CREATE=1 builds a new flash set and zeroes its data. -/
  | flashSetCreate (k mask : Nat) (plp : Bool) (ident : W128)
  /-- FLASH_SET_ASSEMBLE (R261): VALID=1 with CREATE=0 assembles an existing set. -/
  | flashSetAssemble (k mask : Nat)
  /-- FLASH_REBUILD_GO (R263): Start rebuilding a failed slot onto a replacement SSD. -/
  | flashRebuildGo (k slot : Nat) (fresh : Option Nat) (supported : Bool)
  /-- FLASH_REBUILD_DONE (R263): The rebuild ends, DONE is set, and the slot is no longer failed. -/
  | flashRebuildDone (k : Nat)
  /-- NVME_COMPLETION (R257): A polled NVMe completion finishes a command, and a media error is reconstructed. -/
  | nvmeCompletion (id status : Nat)
  /-- NVME_COMMAND_TIMEOUT (R257): A command outstanding for 2 s is aborted, and the SSD is treated as failed. -/
  | nvmeCommandTimeout (id : Nat)
  /-- SSD_FAIL (R262): An SSD becomes failed, and the set turns DEGRADED or FAILED and moves its journal. -/
  | ssdFail (slot : Nat)
  /-- VOCAB_REGISTER (R274): KERF_VOCAB_BASE VALID=1 starts loading the vocabulary image into every Kerf unit. -/
  | vocabRegister (x : Nat) (v : W64)
  /-- VOCAB_LOAD_COMPLETE (R278): Loading ends: VALID reads 1, or the checks fail with a reason. -/
  | vocabLoadComplete (x : Nat)
  /-- VOCAB_RETIRE (R274): VALID=0 abandons a load or retires the slot. -/
  | vocabRetire (x : Nat)
  /-- TOKENIZE_LEG (R282): Kerf tokenizes the request's items by longest match within segments and cuts them at their limits. -/
  | tokenizeLeg (n : Nat)
  /-- KERF_CONTEXT_ACQUIRE (R287): A request takes a detokenization context when one is free. -/
  | kerfContextAcquire (n : Nat)
  /-- GUYLINE_CONTEXT_ACQUIRE (R298): A grammar request takes a Guyline context when one is free. -/
  | guylineContextAcquire (n : Nat)
  /-- GRAMMAR_REGISTER (R293): GUY_IMAGE_BASE VALID=1 has every engine check the grammar header. -/
  | grammarRegister (x : Nat) (v : W64)
  /-- GRAMMAR_LOAD_COMPLETE (R293): The header checks end with VALID, or with an error reason. -/
  | grammarLoadComplete (x : Nat)
  /-- GRAMMAR_RETIRE (R293): VALID=0 abandons a check or retires the grammar slot. -/
  | grammarRetire (x : Nat)
  /-- GUYLINE_MASK (R299): Guyline computes the allowed-token mask for a step once the configuration is known. -/
  | guylineMask (n j : Nat)
  /-- SQ_REGISTER (R304): SQ_CFG VALID=1 registers a submission queue, or sets CFG_ERROR. -/
  | sqRegister (q : Nat) (v : W64)
  /-- SQ_DISABLE (R304): SQ_CFG VALID=0 stops fetching. -/
  | sqDisable (q : Nat)
  /-- CQ_REGISTER (R304): CQ_CFG VALID=1 registers a completion queue. -/
  | cqRegister (c : Nat) (v : W64)
  /-- CQ_DISABLE (R304): CQ_CFG VALID=0 deregisters a completion queue unless an SQ names it. -/
  | cqDisable (c : Nat)
  /-- SQ_DOORBELL (R305): An SQ_TAIL write announces descriptors, and an out-of-range value is logged. -/
  | sqDoorbell (q : Nat) (v : W64)
  /-- CQ_DOORBELL (R307): A CQ_HEAD write frees completion-queue space, so that posting and fetching resume. -/
  | cqDoorbell (c : Nat) (v : W64)
  /-- DESCRIPTOR_FETCH (R306): The admission unit fetches the next descriptor round-robin over the SQs. -/
  | descriptorFetch
  /-- REQUEST_EMBED (R309): Admit an EMBED descriptor. -/
  | requestEmbed
  /-- REQUEST_SEARCH (R309): Admit a SEARCH descriptor. -/
  | requestSearch
  /-- REQUEST_RERANK (R309): Admit a RERANK descriptor. -/
  | requestRerank
  /-- REQUEST_GENERATE (R309): Admit a GENERATE descriptor. -/
  | requestGenerate
  /-- REQUEST_RAG (R309): Admit a RAG descriptor. -/
  | requestRag
  /-- REQUEST_TOKENIZE (R309): Admit a TOKENIZE descriptor. -/
  | requestTokenize
  /-- REQUEST_INDEX_MUTATE (R309): Admit an INDEX_MUTATE descriptor. -/
  | requestIndexMutate
  /-- REQUEST_TABLE_OP (R309): Admit a TABLE_OP descriptor. -/
  | requestTableOp
  /-- REQUEST_CANCEL (R337): Admit a CANCEL without credit for its target. -/
  | requestCancel
  /-- HELD_DESCRIPTOR_ADMIT (R313): A held descriptor is admitted at the first tick at which its class is open and has credit. -/
  | heldDescriptorAdmit (t c : Nat)
  /-- ACCEPT_RECORD_POST (R315): Once the ADMIT commit is done and the CQ has room, post the accept record. -/
  | acceptRecordPost (c : Nat)
  /-- EMBED_LEG (R29): The tent's bays run the embedding model on the query tokens. -/
  | embedLeg (n : Nat) (vec : List W32) (bad : Bool)
  /-- RERANK_LEG (R317): Score one pair per passage and order the scores largest-first. -/
  | rerankLeg (n : Nat) (scores : List PWord)
  /-- PACK_LEG (R321): Build the prompt from the template, keeping the longest leading run of passages that fits. -/
  | packLeg (n : Nat)
  /-- LEG_COMPLETE (R31): A leg's result is complete, its results are journaled or written, and the next leg starts. -/
  | legComplete (n : Nat)
  /-- RING_REGISTER (R325): STRM_REG_CMD REGISTER takes a slot and writes the ring header. -/
  | ringRegister (k t log2 : Nat)
  /-- RING_UNREGISTER (R325): UNREGISTER frees a ring slot that is not bound. -/
  | ringUnregister (k : Nat)
  /-- RING_READ (R325): READ loads a slot's registration into the status registers. -/
  | ringRead (k : Nat)
  /-- RING_CONSUMER_POLL (R329): While stalled, the part re-reads CONSUMER at least every 1 µs and resumes when space appears. -/
  | ringConsumerPoll (k : Nat)
  /-- RECORD_PUBLISH (R333): Once covering commits are done and earlier records published, advance PRODUCER. -/
  | recordPublish (n : Nat)
  /-- CANCEL_DECISION (R337): Once both stamps are settled, the Kerf unit decides the cancel against the natural end. -/
  | cancelDecision (n : Nat)
  /-- STEP_BOUNDARY (R341): After the previous close, the loop admits joins, reserves pages, and sizes chunks. -/
  | stepBoundary (t slot : Nat) (risk : List Nat) (cuts : List (Nat × Nat))
  /-- DRAFT_DRAW (R359): The central sampler draws a draft token and records q_j. -/
  | draftDraw (n ctx : Nat) (w : W32)
  /-- SAMPLER_DRAW (R356): Once every bay has closed, the central sampler applies bias, penalties, mask and temperature, then top-k, top-p and min-p, and draws. -/
  | samplerDraw (n ctx : Nat) (ws : List W32)
  /-- STEP_COMMIT (R342): The home sequencer originates a sequence's step commit and sends the TOKENS record. -/
  | stepCommit (n : Nat)
  /-- STEP_CLOSE (R343): The lead sequencer closes the step once every commit and KV write is done. -/
  | stepClose (t slot : Nat)
  /-- BATCH_DESCRIPTOR_WRITE (R350): A GEN_BATCH write queues a batch descriptor, or is ignored and logged when full. -/
  | batchDescriptorWrite (t : Nat) (v : W64)
  /-- BATCH_START (R350): A fixed batch starts once its requests reach PREFILL or end. -/
  | batchStart (t : Nat)
  /-- ADAPTER_INSTALL (R366): Install a new adapter version with an install stamp. -/
  | adapterInstall (t a : Nat)
  /-- ADAPTER_RETIRE (R368): End the slot's current version at a retire stamp. -/
  | adapterRetire (t a : Nat)
  /-- ADAPTER_QUERY (R370): Report the current version and DRAINED. -/
  | adapterQuery (t a : Nat)
  /-- TENT_CONFIGURE (R373): FREE to CONFIG, resetting the tent's registers and drawing a Cairn key. -/
  | tentConfigure (t : Nat) (key : W128)
  /-- TENT_ABORT (R373): CONFIG to FREE. -/
  | tentAbort (t : Nat)
  /-- TENT_ACTIVATE (R374): Check the configuration, reserve HBM, and make the tent ACTIVE. -/
  | tentActivate (t : Nat)
  /-- TENT_RESET (R375): Cancel the tent's work at a reset stamp and reset its bays. -/
  | tentReset (t : Nat)
  /-- TENT_RELEASE (R376): Stop admission and enter RELEASING. -/
  | tentRelease (t : Nat)
  /-- TENT_RELEASE_DRAINED (R376): When REQUESTS reads 0, the tent's bays are reset and leave it. -/
  | tentReleaseDrained (t : Nat)
  /-- TENT_FREE (R376): Once resources are deregistered and the key slot is cleared, STATE becomes FREE. -/
  | tentFree (t : Nat)
  /-- TENT_RELOAD_MODELS (R377): Reread and check the model table. -/
  | tentReloadModels (t : Nat)
  /-- QUOTA_WRITE (R379): A TENT_HBM QUOTA write outside CONFIG changes the reservation, or sets ERROR QUOTA. -/
  | quotaWrite (t : Nat) (v : W64)
  /-- MIGRATION_CUT_ARM (R387): A TENT_MIGRATE_AT write arms a placement cut, or sets CUT_REFUSED. -/
  | migrationCutArm (t : Nat) (v : W64)
  /-- MIGRATION_CUT (R388): At M the epoch increments, cut units discard later results and restart, and leaving bays stop. -/
  | migrationCut (t : Nat)
  /-- BAY_RESET (R563): A bay's crews and queues are discarded and its SRAMs zeroed. -/
  | bayReset (bay : Nat)
  /-- CREW_PREEMPT (R383): Firmware saves lower-rank crews so that a higher-rank launch fits. -/
  | crewPreempt (bay slot : Nat)
  /-- CREW_RESTORE (R386): Firmware restores a saved crew and moves its landed replies. -/
  | crewRestore (k slot : Nat)
  /-- SHAPE_RATE_WRITE (R391): A RATE write takes effect at the write. -/
  | shapeRateWrite (t c : Nat) (v : W64)
  /-- SHAPE_BURST_WRITE (R391): A BURST write caps the credit. -/
  | shapeBurstWrite (t c : Nat) (v : W64)
  /-- GATE_LIST_ARM (R393): A GATE_ACTIVATE_AT write reads and arms a gate list, or sets REFUSED. -/
  | gateListArm (a : W64)
  /-- GATE_LIST_ACTIVATE (R394): At A the armed list replaces the previous one at entry 0. -/
  | gateListActivate
  /-- GATE_ENTRY_ADVANCE (R394): When an entry's duration ends, the next entry's open classes take effect. -/
  | gateEntryAdvance
  /-- ACCT_ENABLE (R396): ACCT_TABLE_BASE VALID=1 zeroes the tables and starts counting. -/
  | acctEnable (t : Nat) (v : W64)
  /-- ACCT_DISABLE (R396): VALID=0 stops counting. -/
  | acctDisable (t : Nat)
  /-- ACCT_SNAPSHOT_ARM (R399): An ACCT_SNAPSHOT_AT write arms a snapshot at S. -/
  | acctSnapshotArm (v : W64)
  /-- ACCT_SNAPSHOT_WRITE (R399): Once S is settled, the snapshot tables are written and DONE is set. -/
  | acctSnapshotWrite
  /-- JOURNAL_ADMIT (R408): Append an ADMIT record. -/
  | journalAdmit
  /-- JOURNAL_LEG_RESULT (R409): Append a LEG_RESULT record. -/
  | journalLegResult
  /-- JOURNAL_TOKENS (R408): Append a TOKENS record. -/
  | journalTokens
  /-- JOURNAL_CANCEL (R410): Append a CANCEL record after the decision. -/
  | journalCancel
  /-- JOURNAL_COMPLETE (R408): Append a COMPLETE record. -/
  | journalComplete (n : Nat)
  /-- GROUP_COMMIT_WRITE (R412): After GROUP_US or 64 KiB, write the FLASH group with FUA to both journal SSDs. -/
  | groupCommitWrite
  /-- GROUP_WRITE_COMPLETE (R412): Both group writes complete, and the group is committed. -/
  | groupWriteComplete
  /-- MIRROR_TIMEOUT (R414): No peer acknowledgement within MIRROR_WAIT_MS sets MIRROR_STALLED and rejects MIRROR admissions. -/
  | mirrorTimeout
  /-- MIRROR_PEER_CHANGE (R414): A JRNL_MIRROR_PEER DEVICE write starts a resync to a new peer. -/
  | mirrorPeerChange (v : W64)
  /-- MIRROR_RESYNC_COMPLETE (R414): The copy to the new peer is acknowledged, and the stall clears. -/
  | mirrorResyncComplete
  /-- MIRROR_PROBE (R454): Every 1 ms probe the peer's journal unit to maintain CONNECTED. -/
  | mirrorProbe (answered : Bool)
  /-- HOST_BEAT (R428): BEAT renews the host lease. -/
  | hostBeat
  /-- HOST_ATTACH (R430): ATTACH clears ORPHAN and resumes fetching. -/
  | hostAttach
  /-- HOST_DETACH (R429): DETACH enters ORPHAN at once. -/
  | hostDetach
  /-- LEASE_EXPIRE (R429): The lease runs out, and the part enters ORPHAN. -/
  | leaseExpire
  /-- REPLAY_SCAN (R418): Firmware scans the journal source and recovers counted requests. -/
  | replayScan (bad : List Nat) (peer : List JRec)
  /-- RECOVERY_TABLE_WRITE (R425): JRNL_RECOVERY GO writes one entry per recovered request. -/
  | recoveryTableWrite (v : W64)
  /-- TENT_RECOVER (R425): JRNL_RECOVER GO resumes a tent's recovered requests, or is refused. -/
  | tentRecover (t : Nat)
  /-- REQUEST_REATTACH (R426): JRNL_REATTACH GO binds a recovered request to a ring from NEXT_SEQ. -/
  | requestReattach (k : Nat)
  /-- RANGER_WATCHDOG_EXPIRE (R431): A missed ranger watchdog passes its duties to the sibling and restarts it. -/
  | rangerWatchdogExpire (r : Nat)
  /-- RANGER_RESTART_COMPLETE (R431): The ranger restarts from its verified image, or the part enters FAILSAFE. -/
  | rangerRestartComplete (r : Nat) (ok : Bool)
  /-- LINKS_GO (R433): FAB_CFG.LINKS_GO locks the device number and brings enabled links up. -/
  | linksGo (v : W64)
  /-- LINK_TRAIN_RETRY (R433): A link that cannot train all lanes tries again every 100 ms. -/
  | linkTrainRetry (l : Nat) (peer : Option (Nat × Nat))
  /-- LINK_KEY_AGREE (R437): The link ends agree keys by authenticated ML-KEM-768. -/
  | linkKeyAgree (l : Nat) (ok : Bool)
  /-- LINK_REKEY (R437): Keys are agreed anew after 2^40 flits. -/
  | linkRekey (l : Nat)
  /-- LINK_TIME_EXCHANGE (R439): Every 1,000 ticks a LINK_CTL exchange measures round trip and skew, and the package slews toward its parent. -/
  | linkTimeExchange (l rtt : Nat) (skew : Int) (root hops : Nat)
  /-- LINK_UP (R433): With skew in bound, the link goes UP. -/
  | linkUp (l : Nat)
  /-- FLIT_SEND (R436): At each flit slot the sender picks a flit by class priority and credit. -/
  | flitSend (l : Nat)
  /-- FLIT_RECEIVE (R435): The receiver checks CRC and LSEQ, accepts or NAKs, handles ACK, credits and seals. -/
  | flitReceive (l : Nat) (f : Flit) (crcOk sealOk : Bool)
  /-- ACK_TIMER (R435): An ACK is sent at least every 200 ns. -/
  | ackTimer (l : Nat)
  /-- SEAL_IDLE_CLOSE (R437): A sender idle for 1 µs closes its seal block early. -/
  | sealIdleClose (l : Nat)
  /-- FLIT_FORWARD (R441): A flit for another device is routed by PRIMARY or ALTERNATE, or dropped. -/
  | flitForward (l : Nat)
  /-- ROUTE_WRITE (R442): A FAB_ROUTE_DATA write holds new flits for ROUTE_HOLD_US. -/
  | routeWrite (v : W64)
  /-- ROUTE_HOLD_EXPIRE (R442): After the hold, held flits go by the new entry. -/
  | routeHoldExpire (d : Nat)
  /-- TXN_READ (R446): The destination checks and serves a remote READ. -/
  | txnRead (k : Nat)
  /-- TXN_WRITE (R446): The destination checks and serves a remote WRITE. -/
  | txnWrite (k : Nat)
  /-- TXN_ATOMIC (R446): The destination performs a remote atomic. -/
  | txnAtomic (k : Nat)
  /-- TXN_MESSAGE (R446): The destination checks a remote MESSAGE and delivers it. -/
  | txnMessage (k : Nat)
  /-- TXN_READ_DATA (R445): Read data arrives for the issuer. -/
  | txnReadData (k : Nat)
  /-- TXN_WRITE_DONE (R445): Write completion arrives for the issuer. -/
  | txnWriteDone (k : Nat)
  /-- TXN_ATOMIC_DATA (R445): The old value of an atomic arrives. -/
  | txnAtomicData (k : Nat)
  /-- TXN_FAULT (R446): A fault reply arrives and is taken as REMOTE_FAULT. -/
  | txnFault (k : Nat)
  /-- TXN_COLLECTIVE (R452): A collective transaction from another member arrives. -/
  | txnCollective (k : Nat)
  /-- TXN_JOURNAL (R411): A peer writes a mirrored record into its incoming region and acknowledges it. -/
  | txnJournal (k : Nat)
  /-- TXN_JOURNAL_ACK (R411): A peer acknowledgement commits MIRROR records. -/
  | txnJournalAck (k : Nat)
  /-- TXN_LINK_NOTICE (R456): A far end's notice makes the sender replay its retry buffer after the named LSEQ and release held flits. -/
  | txnLinkNotice (k : Nat)
  /-- TXN_FREEZE (R62): A received freeze broadcast is armed, forwarded and acknowledged. -/
  | txnFreeze (k : Nat)
  /-- TXN_RESUME (R62): A received resume broadcast sets U. -/
  | txnResume (k : Nat)
  /-- KEYID_ANNOUNCE (R474): A package announces a sealed tent's KEY_ID to peers. -/
  | keyidAnnounce (t : Nat)
  /-- REMOTE_TIMEOUT (R447): No reply within REMOTE_TIMEOUT_MS ends the operation TIMEOUT. -/
  | remoteTimeout (tag : Nat)
  /-- LINK_DOWN (R455): A link goes DOWN with a reason, broadcasts a notice and holds its flits. -/
  | linkDown (l reason : Nat)
  /-- LINK_DISABLE (R455): Clearing ENABLE takes the link down. -/
  | linkDisable (l : Nat)
  /-- LINK_NOTICE_TIMEOUT (R457): No far-end notice in 100 µs discards buffered flits with LINK_LOST. -/
  | linkNoticeTimeout (l : Nat)
  /-- COLL_GROUP_REGISTER (R449): FAB_COLL_CFG VALID=1 registers a member list. -/
  | collGroupRegister (g : Nat) (v : W64)
  /-- COLL_DESCRIPTOR_TAKE (R450): The fabric unit takes a READY descriptor from the tent's queue. -/
  | collDescriptorTake (t : Nat)
  /-- COLL_ALL_REDUCE (R452): Reduce and distribute to all members. -/
  | collAllReduce (g inst : Nat)
  /-- COLL_REDUCE_SCATTER (R452): Reduce and scatter slices. -/
  | collReduceScatter (g inst : Nat)
  /-- COLL_BROADCAST (R452): Broadcast from the root. -/
  | collBroadcast (g inst : Nat)
  /-- COLL_HIST_SUM (R452): Sum histogram records to the root. -/
  | collHistSum (g inst : Nat)
  /-- COLL_SELECT_MERGE (R452): Merge result lists up the tree. -/
  | collSelectMerge (g inst : Nat)
  /-- COLL_TIMEOUT (R453): A member missing after COLL_TIMEOUT_MS ends the instance TIMEOUT. -/
  | collTimeout (g inst : Nat)
  /-- KEM_GENERATE (R470): Generate an ML-KEM key pair in a KEM slot. -/
  | kemGenerate (v : W64)
  /-- KEY_GENERATE (R470): Generate a root key in a key slot and write its blob. -/
  | keyGenerate (v : W64)
  /-- KEY_IMPORT (R471): Decapsulate and install an owner's root key. -/
  | keyImport (v : W64)
  /-- KEY_LOAD (R473): Reload a key blob. -/
  | keyLoad (v : W64)
  /-- KEY_CLEAR (R470): Erase a key slot that is not IN_USE. -/
  | keyClear (v : W64)
  /-- SESSION_OPEN (R475): Open an authorised client session. -/
  | sessionOpen (v : W64)
  /-- SESSION_LOAD (R473): Reload a session blob. -/
  | sessionLoad (v : W64)
  /-- SESSION_CLOSE (R470): Erase a session. -/
  | sessionClose (v : W64)
  /-- SEC_ATTEST (R468): Write a signed attestation report. -/
  | secAttest (v : W64)
  /-- SEALED_IMPORT (R479): Decrypt an owner image into the tent's device range. -/
  | sealedImport (v : W64)
  /-- CONSENT (R481): Accept a debug consent token for a window. -/
  | consent (v : W64)
  /-- CONSENT_REVOKE (R470): End every consent of a tent. -/
  | consentRevoke (v : W64)
  /-- GET_CERT (R470): Write the certificate chain. -/
  | getCert
  /-- SEC_GET_LOG (R470): Write the platform or tent measurement log. -/
  | secGetLog (v : W64)
  /-- DRBG_RESEED (R482): Reseed the DRBG after 2^20 generate requests. -/
  | drbgReseed
  /-- ENTROPY_HEALTH_FAIL (R482): A failed health test clears ENTROPY_OK and enters FAILSAFE. -/
  | entropyHealthFail
  /-- PATROL_SCRUB (R487): Patrol scrub reads every HBM line once per SCRUB_PERIOD_H. -/
  | patrolScrub (flips : List (Nat × Nat)) (owner : Nat)
  /-- ERROR_LOG_WRITE (R497): The RAS unit writes a record to the error log ring, holding or dropping records when it is full. -/
  | errorLogWrite
  /-- COALESCE_HOLD_EXPIRE (R496): A coalesced corrected record is written after 1 ms or at a full count. -/
  | coalesceHoldExpire
  /-- ERROR_LOG_REGISTER (R497): RAS_LOG_BASE VALID=1 registers the log ring, or sets CFG_ERROR. -/
  | errorLogRegister (v : W64)
  /-- INJECT_ARM (R499): RAS_INJECT_ARM arms an injection, or is refused. -/
  | injectArm (v : W64)
  /-- SRAM_REMAP (R493): Firmware moves a hard-failed word to a spare. -/
  | sramRemap (isl macro_ word : Nat)
  /-- BAY_RETIRE (R494): Firmware retires a bay and arms a cut that removes it. -/
  | bayRetire (bay : Nat)
  /-- FAILSAFE_FORCE (R506): RAS_FAILSAFE.FORCE enters FAILSAFE with cause HOST. -/
  | failsafeForce
  /-- CTR_SNAPSHOT_ARM (R511): OBS_CTR_SNAPSHOT_AT arms an engine counter snapshot. -/
  | ctrSnapshotArm (v : W64)
  /-- CTR_SNAPSHOT_WRITE (R511): Once S is settled, the snapshot area is written and DONE is set. -/
  | ctrSnapshotWrite
  /-- EVC_VALUE_WRITE (R515): An EVC_VALUE write sets the count, adding that clock's occurrences. -/
  | evcValueWrite (off : Nat) (v : W64) (n : Nat)
  /-- TEMP_PEAK_CLEAR (R517): OBS_AO_TEMP.CLEAR sets PEAK to MAX_NOW. -/
  | tempPeakClear (now sensor : Nat)
  /-- TRACE_EVENT_WRITE (R521): A traced event is written, or dropped into LOST and the reserve. -/
  | traceEventWrite (overflow : Bool)
  /-- TRACE_CONSUMER_WRITE (R522): OBS_TRACE_CONSUMER frees space, and a pending LOSS record is written. -/
  | traceConsumerWrite (v : W64)
  /-- TRIGGER_ARM (R524): OBS_TRIGGER ARM empties the reserve and arms. -/
  | triggerArm (v : W64)
  /-- TRIGGER_FIRE_HOST (R524): OBS_TRIGGER FIRE fires a HOST trigger. -/
  | triggerFireHost
  /-- TRIGGER_FIRE (R523): Once its source stamp is settled, the trigger fires and trims the reserve. -/
  | triggerFire
  /-- RESERVE_CLOSE (R523): When the post window end is settled or the reserve is full, STATE becomes DONE. -/
  | reserveClose
  /-- FWLOG_REGISTER (R525): OBS_FWLOG_BASE VALID=1 registers the firmware log ring. -/
  | fwlogRegister (v : W64)
  /-- FWLOG_WRITE (R526): Firmware writes a trace point to the log ring by LEVEL. -/
  | fwlogWrite (core point level tent : Nat) (args : List Nat)
  /-- FW_LOAD (R533): FW_LOAD_GO copies the Yedal image into the firmware area. -/
  | fwLoad (v : W64)
  /-- FW_VERIFY (R533): The ranger ROM verifies the copy and starts it, or sets REFUSED. -/
  | fwVerify
  /-- FW_CMDQ_DOORBELL (R534): An FW_CMDQ_TAIL write announces firmware commands. -/
  | fwCmdqDoorbell (v : W64)
  /-- FW_EVTQ_DOORBELL (R534): An FW_EVTQ_HEAD write frees event queue slots. -/
  | fwEvtqDoorbell (v : W64)
  /-- FW_PING (R536): Respond with the image SVN. -/
  | fwPing
  /-- FW_GET_INFO (R536): Write the image's trace point table. -/
  | fwGetInfo
  /-- FW_LAUNCH (R536): Run one crew on a bay of the tent at the lowest rank. -/
  | fwLaunch
  /-- FW_RETIRE_BAY (R536): Retire a bay on command. -/
  | fwRetireBay
  /-- CREW_RESUME (R536): Restore a crew held at a breakpoint and continue it. -/
  | crewResume
  /-- CREW_DISCARD (R536): Discard a held crew and end its request DEVICE_FAULT. -/
  | crewDiscard
  /-- FW_GET_REMAP (R536): Write the remap list and the retired bays. -/
  | fwGetRemap
  /-- TRAP_RECORD_HANDLE (R537): Firmware handles a trap record by continuing, ending the request, or holding the crew. -/
  | trapRecordHandle (d : Nat) (dataErr : Bool)
  /-- BASECAMP_RESET (R538): Lookout restarts Basecamp alone with BOOT_CAUSE 3. -/
  | basecampReset (ok : Bool)
  /-- BASECAMP_HALT_TIMEOUT (R538): All Basecamp cores halted for 1 s trigger a Basecamp reset. -/
  | basecampHaltTimeout
  /-- SENSOR_POLL (R539): Lookout reads every sensor once per millisecond. -/
  | sensorPoll (p : Nat) (temps stackTemps : List Int) (rails : List (Nat × Nat))
  /-- THERMAL_CAP_UPDATE (R541): Every 100 ms Lookout steps THERMAL_CAP and writes PWR_CAP_W. -/
  | thermalCapUpdate
  /-- LK_SENSORS (R542): The mailbox writes a sensor snapshot. -/
  | lkSensors
  /-- LK_GET_LOG (R542): The mailbox writes management log records. -/
  | lkGetLog (v : W64)
  /-- LK_INFO (R542): The mailbox writes SVNs and configuration. -/
  | lkInfo
  /-- LK_ENROLL (R542): Add the first trust key. -/
  | lkEnroll
  /-- MGMT_HELLO (R543): A client HELLO is answered with ACCEPT, or the connection is refused. -/
  | mgmtHello (conn : Nat) (hello : List Byte)
  /-- MGMT_FINISH (R543): A client FINISH is verified and the session keys are derived. -/
  | mgmtFinish (conn : Nat) (ct sig : List Byte)
  /-- MGMT_INFO (R545): Management INFO request. -/
  | mgmtInfo (conn type seq : Nat) (cipher : List Byte) (tag : Nat)
  /-- MGMT_SENSORS (R545): Management SENSORS request. -/
  | mgmtSensors (conn seq : Nat) (cipher : List Byte) (tag : Nat)
  /-- MGMT_GET_LOG (R545): Management GET_LOG request. -/
  | mgmtGetLog (conn seq : Nat) (cipher : List Byte) (tag : Nat)
  /-- SET_POWER_CAP (R541): Set OPERATOR_CAP within 10 ms. -/
  | setPowerCap (conn seq : Nat) (cipher : List Byte) (tag : Nat)
  /-- SET_CONFIG (R545): Store the host region size, THERMAL_SOFT_C and the PTP domain. -/
  | setConfig (conn seq : Nat) (cipher : List Byte) (tag : Nat)
  /-- MGMT_RESET_WARM (R545): Management warm reset. -/
  | mgmtResetWarm (conn seq : Nat) (cipher : List Byte) (tag : Nat)
  /-- MGMT_RESET_COLD (R545): Management cold reset. -/
  | mgmtResetCold (conn seq : Nat) (cipher : List Byte) (tag : Nat)
  /-- MGMT_RESET_BASECAMP (R545): Management Basecamp reset. -/
  | mgmtResetBasecamp (conn seq : Nat) (cipher : List Byte) (tag : Nat)
  /-- UPDATE_BEGIN (R547): Open an update and erase the inactive bank or pending slot. -/
  | updateBegin (conn seq : Nat) (cipher : List Byte) (tag : Nat)
  /-- UPDATE_DATA (R547): Write staged image data at the next offset. -/
  | updateData (conn seq : Nat) (cipher : List Byte) (tag : Nat)
  /-- UPDATE_COMMIT (R547): Verify the staged image and mark it pending. -/
  | updateCommit (conn seq : Nat) (cipher : List Byte) (tag : Nat)
  /-- TRUST_ADD (R545): Add a client key digest to the trust list. -/
  | trustAdd (conn seq : Nat) (cipher : List Byte) (tag : Nat)
  /-- TRUST_REMOVE (R545): Remove a trust entry, but not the last. -/
  | trustRemove (conn seq : Nat) (cipher : List Byte) (tag : Nat)
  /-- MGMT_ATTEST (R545): Produce a platform report. -/
  | mgmtAttest (conn seq : Nat) (cipher : List Byte) (tag : Nat)
  /-- REQUEST_A0 (R550): PWR_STATE REQUEST A0 returns from A2. -/
  | requestA0
  /-- REQUEST_A2 (R553): Gate every bay and enter A2, or set REFUSED. -/
  | requestA2
  /-- REQUEST_S1 (R554): Latch wake settings and start S1 entry, or set REFUSED. -/
  | requestS1
  /-- S1_ENTRY (R554): After Basecamp halts or 10 ms pass, PWR_MAIN_EN is deasserted. -/
  | s1Entry (halted : Bool)
  /-- ISLAND_CLOCK_STOP (R550): An island idle for 1,000 ticks stops its clock. -/
  | islandClockStop (n : Nat)
  /-- ISLAND_CLOCK_RESTART (R550): An item arriving at a stopped island restarts its clock within 20 ticks. -/
  | islandClockRestart (n : Nat)
  /-- STACK_WAKE (R553): An access in A2 brings stacks out of self-refresh. -/
  | stackWake (stack : Nat)
  /-- STACK_SELF_REFRESH (R553): After 100 µs without access, stacks return to self-refresh. -/
  | stackSelfRefresh (stack : Nat)
  /-- WAKE_EVENT (R555): A WAKE_N fall returns A2 to A0, or starts a cold start from S1. -/
  | wakeEvent
  /-- AO_SENSOR_READ (R556): Every 10 µs the always-on domain reads the die sensors and evaluates the trips. -/
  | aoSensorRead (temps : List Int)
  /-- SUP0_FAULT (R556): A rail out of tolerance for 1 µs, or PWR_MAIN_GOOD low, enters FAILSAFE. -/
  | sup0Fault
  /-- SUP1_RESET (R556): An always-on rail drop causes a power-on reset. -/
  | sup1Reset
  /-- DUTY_UPDATE (R559): Every 10 µs measure power and set truss duty D. -/
  | dutyUpdate (p : Nat)
  /-- DUTY_MIN_CLEAR (R569): PWR_DUTY.CLEAR sets DUTY_MIN to DUTY. -/
  | dutyMinClear
  /-- PWR_RESET_WARM (R562): PWR_RESET KIND WARM with the key starts a warm reset. -/
  | pwrResetWarm (v : W64)
  /-- PWR_RESET_COLD (R562): PWR_RESET KIND COLD with the key starts a cold reset. -/
  | pwrResetCold (v : W64)
  /-- PKG_RESET_ASSERT (R565): PKG_RESET_N low for 10 µs starts a cold reset and holds it. -/
  | pkgResetAssert
  /-- PKG_RESET_RELEASE (R565): A rising PKG_RESET_N begins start-up step 1. -/
  | pkgResetRelease
  /-- AON_POWER_GOOD (R562): Always-on rails good start a power-on reset with a new epoch. -/
  | aonPowerGood
  /-- STARTUP_STEP_ADVANCE (R566): When a start-up step completes, the next one starts, through READY, or start-up stops on failure. -/
  | startupStepAdvance (ok : Bool) (slots bases : List Nat) (control : Nat) (found : List (Nat × Nat × Bool × Bool))
  /-- ILLEGAL_OPCODE (R99): A fetched instruction word whose major opcode is reserved or unlisted traps ILLEGAL_OPCODE and sends a trap record. -/
  | illegalOpcode (bay slot : Nat)
  /-- LOG_RING_SPACE_RETURN (R497): The part finds CONSUMER advanced on a full error log ring and writes its held records, preceded by a LOSS record for those it dropped. -/
  | logRingSpaceReturn
  /-- ETHERNET_FRAME_RECEIVE (R486): A frame arriving on a 400 GbE port or on the management port is checked by FCS and FEC, counted, logged on error, and passed on. -/
  | ethernetFrameReceive (port : Nat) (fec good : Bool)
  /-- ETHERNET_FRAME_TRANSMIT (R491): A frame sent by Basecamp on a 400 GbE port is transmitted, aborted with a bad FCS if it holds poison, or replaced by idles in FAILSAFE. -/
  | ethernetFrameTransmit (port a n : Nat)
  /-- MGMT_CONNECTION_CLOSE (R543): A management client closes its TCP connection, and Lookout ends the session and frees its place among the four. -/
  | mgmtConnectionClose (conn : Nat)
  /-- CONSENT_WINDOW_BOUNDARY (R481): The reference reaches a consent's START or END tick, and CONSENT_ACTIVE and the plaintext debug scopes of the tent turn on or off. -/
  | consentWindowBoundary
  deriving DecidableEq, Repr

end Sys2Proof
end

