-- ==== Sys2Proof/WellFormed.lean ====
section
/-! DEFINITION. What a command may name: every operand that is the number of a unit lies in the range the spec gives
that unit.  A sender sends no other command (log entry 6). -/

namespace Sys2Proof

/-- A check of an operand, by what the operand names. -/
inductive Names where
  /-- A bay number (R23). -/
  | bay (n : Nat)
  /-- A crew slot (R65). -/
  | crewSlot (n : Nat)
  /-- A tent number (R579). -/
  | tent (n : Nat)
  /-- A submission or completion queue (R303). -/
  | queue (n : Nat)
  /-- A scheduling class (R392). -/
  | reqClass (n : Nat)
  /-- An index slot (R193). -/
  | index (n : Nat)
  /-- A table slot (R221). -/
  | table (n : Nat)
  /-- A vocabulary slot (R274). -/
  | vocab (n : Nat)
  /-- A grammar slot (R293). -/
  | grammar (n : Nat)
  /-- A comparator (R47). -/
  | comparator (n : Nat)
  /-- A flash set (R579). -/
  | flashSet (n : Nat)
  /-- An SSD slot (R256). -/
  | ssd (n : Nat)
  /-- A ring registration slot (R325). -/
  | ring (n : Nat)
  /-- A fabric link (R18). -/
  | link (n : Nat)
  /-- A device number (R48). -/
  | device (n : Nat)
  /-- A compute die (R18). -/
  | die (n : Nat)
  /-- A collective group (R449). -/
  | group (n : Nat)
  /-- A ranger core (R18). -/
  | ranger (n : Nat)
  /-- A migration engine (R18). -/
  | migration (n : Nat)
  /-- A Lantern engine (R18). -/
  | lantern (n : Nat)
  /-- An HBM stack (R2). -/
  | stack (n : Nat)
  /-- An Ethernet port, the management port being 4 (R2). -/
  | port (n : Nat)
  /-- An island number (R18). -/
  | island (n : Nat)
  /-- A DMA channel (R121). -/
  | channel (n : Nat)
  /-- An adapter slot (R579). -/
  | adapter (n : Nat)
  /-- A sensor (R540). -/
  | sensor (n : Nat)
  /-- A log point of a firmware image (R526). -/
  | point (n : Nat)
  /-- A firmware log level (R526). -/
  | level (n : Nat)
  /-- An aligned offset of a 64-bit register of the control window (R11, R574). -/
  | controlOffset (n : Nat)
  /-- The tent of a firmware log record, 0xFF for none (R519). -/
  | owner (n : Nat)
  deriving DecidableEq, Repr

/-- The operand is in the range. -/
def Names.ok : Names → Bool
  | .bay n => decide (n < 256)
  | .crewSlot n => decide (n < 256)
  | .tent n => decide (n < 64)
  | .queue n => decide (n < 64)
  | .reqClass n => decide (n < 8)
  | .index n => decide (n < 64)
  | .table n => decide (n < 256)
  | .vocab n => decide (n < 8)
  | .grammar n => decide (n < 64)
  | .comparator n => decide (n < 2)
  | .flashSet n => decide (n < 2)
  | .ssd n => decide (n < 16)
  | .ring n => decide (n < 65536)
  | .link n => decide (n < 16)
  | .device n => decide (n < 4096)
  | .die n => decide (n < 4)
  | .group n => decide (n < 256)
  | .ranger n => decide (n < 8)
  | .migration n => decide (n < 6)
  | .lantern n => decide (n < 24)
  | .stack n => decide (n < 12)
  | .port n => decide (n < 5)
  | .island n => decide (n < 1024)
  | .channel n => decide (n < 8)
  | .adapter n => decide (n < 1024)
  | .sensor n => decide (n < 48)
  | .point n => decide (n < 32768)
  | .level n => decide (n < 4)
  | .controlOffset n => decide (n < 0x400000) && n % 8 == 0
  | .owner n => decide (n < 64) || n == 0xFF

/-- The units that a command names. -/
def Instr.names : Instr → List Names
  | .malformedControlAccess _ _ _ => []
  | .registerWrite off _ => [.controlOffset off]
  | .couplerDeliver src dst _ _ _ _ => [.island src, .island dst]
  | .timeBeacon _ _ => []
  | .timingFault isl => [.island isl]
  | .watermarkSend src dst => [.island src, .island dst]
  | .timeSkewClear => []
  | .ptpMappingUpdate _ _ _ => []
  | .ppsOutEdge => []
  | .ppsInEdge => []
  | .timeCmpWrite k _ => [.comparator k]
  | .timeCmpFire k => [.comparator k]
  | .freezeArm _ => []
  | .freezeDisarm => []
  | .freezeCancel => []
  | .freezeTickReached => []
  | .freezeSettled => []
  | .resumeArm _ => []
  | .resumeTickReached => []
  | .freezeAckReceive _ => []
  | .dumpGo => []
  | .crewLaunch bay slot => [.bay bay, .crewSlot slot]
  | .crewEnd bay slot => [.bay bay, .crewSlot slot]
  | .longLatencyReplyLand bay _ _ => [.bay bay]
  | .messageDeliver bay => [.bay bay]
  | .nop bay slot _ => [.bay bay, .crewSlot slot]
  | .iadd bay slot _ => [.bay bay, .crewSlot slot]
  | .isub bay slot _ => [.bay bay, .crewSlot slot]
  | .imul bay slot _ => [.bay bay, .crewSlot slot]
  | .imulh bay slot _ => [.bay bay, .crewSlot slot]
  | .imad bay slot _ => [.bay bay, .crewSlot slot]
  | .imin bay slot _ => [.bay bay, .crewSlot slot]
  | .imax bay slot _ => [.bay bay, .crewSlot slot]
  | .and bay slot _ => [.bay bay, .crewSlot slot]
  | .or bay slot _ => [.bay bay, .crewSlot slot]
  | .xor bay slot _ => [.bay bay, .crewSlot slot]
  | .andn bay slot _ => [.bay bay, .crewSlot slot]
  | .shl bay slot _ => [.bay bay, .crewSlot slot]
  | .shr bay slot _ => [.bay bay, .crewSlot slot]
  | .popc bay slot _ => [.bay bay, .crewSlot slot]
  | .clz bay slot _ => [.bay bay, .crewSlot slot]
  | .iaddi bay slot _ => [.bay bay, .crewSlot slot]
  | .movi bay slot _ => [.bay bay, .crewSlot slot]
  | .movhi bay slot _ => [.bay bay, .crewSlot slot]
  | .isetp bay slot _ => [.bay bay, .crewSlot slot]
  | .sel bay slot _ => [.bay bay, .crewSlot slot]
  | .plop bay slot _ => [.bay bay, .crewSlot slot]
  | .shfl bay slot _ => [.bay bay, .crewSlot slot]
  | .vote bay slot _ => [.bay bay, .crewSlot slot]
  | .bfe bay slot _ => [.bay bay, .crewSlot slot]
  | .bfi bay slot _ => [.bay bay, .crewSlot slot]
  | .movu bay slot _ => [.bay bay, .crewSlot slot]
  | .fadd bay slot _ => [.bay bay, .crewSlot slot]
  | .fsub bay slot _ => [.bay bay, .crewSlot slot]
  | .fmul bay slot _ => [.bay bay, .crewSlot slot]
  | .ffma bay slot _ => [.bay bay, .crewSlot slot]
  | .fmin bay slot _ => [.bay bay, .crewSlot slot]
  | .fmax bay slot _ => [.bay bay, .crewSlot slot]
  | .fsetp bay slot _ => [.bay bay, .crewSlot slot]
  | .fabsneg bay slot _ => [.bay bay, .crewSlot slot]
  | .frcp bay slot _ => [.bay bay, .crewSlot slot]
  | .frsq bay slot _ => [.bay bay, .crewSlot slot]
  | .fexp2 bay slot _ => [.bay bay, .crewSlot slot]
  | .flog2 bay slot _ => [.bay bay, .crewSlot slot]
  | .ftanh bay slot _ => [.bay bay, .crewSlot slot]
  | .f2i bay slot _ => [.bay bay, .crewSlot slot]
  | .i2f bay slot _ => [.bay bay, .crewSlot slot]
  | .f2n bay slot _ => [.bay bay, .crewSlot slot]
  | .n2f bay slot _ => [.bay bay, .crewSlot slot]
  | .fclass bay slot _ => [.bay bay, .crewSlot slot]
  | .uadd bay slot _ => [.bay bay, .crewSlot slot]
  | .uaddi bay slot _ => [.bay bay, .crewSlot slot]
  | .umovi bay slot _ => [.bay bay, .crewSlot slot]
  | .ului bay slot _ => [.bay bay, .crewSlot slot]
  | .umul bay slot _ => [.bay bay, .crewSlot slot]
  | .ushift bay slot _ => [.bay bay, .crewSlot slot]
  | .uand bay slot _ => [.bay bay, .crewSlot slot]
  | .umovv bay slot _ => [.bay bay, .crewSlot slot]
  | .bra bay slot _ => [.bay bay, .crewSlot slot]
  | .jmpu bay slot _ => [.bay bay, .crewSlot slot]
  | .loop bay slot _ => [.bay bay, .crewSlot slot]
  | .call bay slot _ => [.bay bay, .crewSlot slot]
  | .ret bay slot _ => [.bay bay, .crewSlot slot]
  | .exit bay slot _ => [.bay bay, .crewSlot slot]
  | .launch bay slot _ => [.bay bay, .crewSlot slot]
  | .loadLocal bay slot _ => [.bay bay, .crewSlot slot]
  | .storeLocal bay slot _ => [.bay bay, .crewSlot slot]
  | .loadAcc bay slot _ => [.bay bay, .crewSlot slot]
  | .storeAcc bay slot _ => [.bay bay, .crewSlot slot]
  | .loadDev bay slot _ => [.bay bay, .crewSlot slot]
  | .storeDev bay slot _ => [.bay bay, .crewSlot slot]
  | .atomDev bay slot _ => [.bay bay, .crewSlot slot]
  | .atomLocal bay slot _ => [.bay bay, .crewSlot slot]
  | .flashRead bay slot _ => [.bay bay, .crewSlot slot]
  | .spanClear bay slot _ => [.bay bay, .crewSlot slot]
  | .evSignal bay slot _ => [.bay bay, .crewSlot slot]
  | .evSet bay slot _ => [.bay bay, .crewSlot slot]
  | .evWait bay slot _ => [.bay bay, .crewSlot slot]
  | .fenceLocal bay slot _ => [.bay bay, .crewSlot slot]
  | .fenceDevice bay slot _ => [.bay bay, .crewSlot slot]
  | .fenceStamp bay slot _ => [.bay bay, .crewSlot slot]
  | .park bay slot _ => [.bay bay, .crewSlot slot]
  | .yield bay slot _ => [.bay bay, .crewSlot slot]
  | .msgSend bay slot _ => [.bay bay, .crewSlot slot]
  | .remoteGet bay slot _ => [.bay bay, .crewSlot slot]
  | .remotePut bay slot _ => [.bay bay, .crewSlot slot]
  | .remoteLoad bay slot _ => [.bay bay, .crewSlot slot]
  | .remoteAtom bay slot _ => [.bay bay, .crewSlot slot]
  | .trap bay slot _ => [.bay bay, .crewSlot slot]
  | .time bay slot _ => [.bay bay, .crewSlot slot]
  | .ctr bay slot _ => [.bay bay, .crewSlot slot]
  | .bayinfo bay slot _ => [.bay bay, .crewSlot slot]
  | .trace bay slot _ => [.bay bay, .crewSlot slot]
  | .brk bay slot _ => [.bay bay, .crewSlot slot]
  | .trShape bay slot _ _ => [.bay bay, .crewSlot slot]
  | .trWload bay slot _ _ => [.bay bay, .crewSlot slot]
  | .trSwap bay slot _ _ => [.bay bay, .crewSlot slot]
  | .trRun bay slot _ _ => [.bay bay, .crewSlot slot]
  | .trCmp bay slot _ _ => [.bay bay, .crewSlot slot]
  | .trAccz bay slot _ _ => [.bay bay, .crewSlot slot]
  | .trSync bay slot _ _ => [.bay bay, .crewSlot slot]
  | .trussFormComplete bay => [.bay bay]
  | .dmaLoad bay slot _ _ => [.bay bay, .crewSlot slot]
  | .dmaStore bay slot _ _ => [.bay bay, .crewSlot slot]
  | .dmaCopy bay slot _ _ => [.bay bay, .crewSlot slot]
  | .dmaScarf bay slot _ _ => [.bay bay, .crewSlot slot]
  | .dmaUnscarf bay slot _ _ => [.bay bay, .crewSlot slot]
  | .dmaFill bay slot _ _ => [.bay bay, .crewSlot slot]
  | .dmaDescriptorComplete bay ch => [.bay bay, .channel ch]
  | .dmaFault bay ch => [.bay bay, .channel ch]
  | .dmaResume bay ch => [.bay bay, .channel ch]
  | .dmaFlush bay ch => [.bay bay, .channel ch]
  | .selTopk bay slot _ _ => [.bay bay, .crewSlot slot]
  | .selHist bay slot _ _ => [.bay bay, .crewSlot slot]
  | .selEmit bay slot _ _ => [.bay bay, .crewSlot slot]
  | .merge bay slot _ _ => [.bay bay, .crewSlot slot]
  | .selectFormComplete bay => [.bay bay]
  | .smpFeed bay slot _ _ => [.bay bay, .crewSlot slot]
  | .smpClose bay slot _ _ => [.bay bay, .crewSlot slot]
  | .smpDraft bay slot _ _ => [.bay bay, .crewSlot slot]
  | .indexRegister x _ => [.index x]
  | .indexRetire x => [.index x]
  | .searchStart _ => []
  | .searchRound _ _ => []
  | .granuleReadComplete _ _ _ => []
  | .rescoreLeg _ => []
  | .callbackDone _ => []
  | .callbackTimeout _ => []
  | .indexInsert _ => []
  | .indexDelete _ => []
  | .mutationCommit _ => []
  | .versionReclaim e => [.lantern e]
  | .groundTruthPass _ => []
  | .tableRegister x _ => [.table x]
  | .tableRetire x => [.table x]
  | .tableCommandIssue isl t _ _ => [.island isl, .tent t]
  | .tableGather _ _ _ => []
  | .tableScatter _ _ => []
  | .tableScatterAdd _ _ _ => []
  | .tableCommandComplete _ => []
  | .hotSampleInterval x _ => [.table x]
  | .replicaCopyComplete x _ => [.table x]
  | .bucketMove x _ _ _ _ => [.table x]
  | .tableSwitch _ => []
  | .tableSwitchActivate x => [.table x]
  | .panelTableCreate t _ _ => [.tent t]
  | .panelTableDestroy t => [.tent t]
  | .panelRead t _ => [.tent t]
  | .mapHbm t _ _ _ => [.tent t]
  | .mapFlash t _ _ => [.tent t]
  | .unmap t _ _ => [.tent t]
  | .hintPrefetch t _ _ => [.tent t]
  | .hintPin t _ _ => [.tent t]
  | .hintUnpin t _ _ => [.tent t]
  | .hintDemote t _ _ => [.tent t]
  | .inboundMigration m _ => [.migration m]
  | .inboundMigrationDone t _ => [.tent t]
  | .outboundMigration m _ => [.migration m]
  | .outboundWritebackDone t _ => [.tent t]
  | .outboundCommitSettled t _ => [.tent t]
  | .panelRetire _ => []
  | .flashSetCreate k _ _ _ => [.flashSet k]
  | .flashSetAssemble k _ => [.flashSet k]
  | .flashRebuildGo k slot _ _ => [.flashSet k, .ssd slot]
  | .flashRebuildDone k => [.flashSet k]
  | .nvmeCompletion _ _ => []
  | .nvmeCommandTimeout _ => []
  | .ssdFail slot => [.ssd slot]
  | .vocabRegister x _ => [.vocab x]
  | .vocabLoadComplete x => [.vocab x]
  | .vocabRetire x => [.vocab x]
  | .tokenizeLeg _ => []
  | .kerfContextAcquire _ => []
  | .guylineContextAcquire _ => []
  | .grammarRegister x _ => [.grammar x]
  | .grammarLoadComplete x => [.grammar x]
  | .grammarRetire x => [.grammar x]
  | .guylineMask _ _ => []
  | .sqRegister q _ => [.queue q]
  | .sqDisable q => [.queue q]
  | .cqRegister c _ => [.queue c]
  | .cqDisable c => [.queue c]
  | .sqDoorbell q _ => [.queue q]
  | .cqDoorbell c _ => [.queue c]
  | .descriptorFetch => []
  | .requestEmbed => []
  | .requestSearch => []
  | .requestRerank => []
  | .requestGenerate => []
  | .requestRag => []
  | .requestTokenize => []
  | .requestIndexMutate => []
  | .requestTableOp => []
  | .requestCancel => []
  | .heldDescriptorAdmit t c => [.tent t, .reqClass c]
  | .acceptRecordPost c => [.queue c]
  | .embedLeg _ _ _ => []
  | .rerankLeg _ _ => []
  | .packLeg _ => []
  | .legComplete _ => []
  | .ringRegister k t _ => [.ring k, .tent t]
  | .ringUnregister k => [.ring k]
  | .ringRead k => [.ring k]
  | .ringConsumerPoll k => [.ring k]
  | .recordPublish _ => []
  | .cancelDecision _ => []
  | .stepBoundary t _ _ _ => [.tent t]
  | .draftDraw _ _ _ => []
  | .samplerDraw _ _ _ => []
  | .stepCommit _ => []
  | .stepClose t _ => [.tent t]
  | .batchDescriptorWrite t _ => [.tent t]
  | .batchStart t => [.tent t]
  | .adapterInstall t a => [.tent t, .adapter a]
  | .adapterRetire t a => [.tent t, .adapter a]
  | .adapterQuery t a => [.tent t, .adapter a]
  | .tentConfigure t _ => [.tent t]
  | .tentAbort t => [.tent t]
  | .tentActivate t => [.tent t]
  | .tentReset t => [.tent t]
  | .tentRelease t => [.tent t]
  | .tentReleaseDrained t => [.tent t]
  | .tentFree t => [.tent t]
  | .tentReloadModels t => [.tent t]
  | .quotaWrite t _ => [.tent t]
  | .migrationCutArm t _ => [.tent t]
  | .migrationCut t => [.tent t]
  | .bayReset bay => [.bay bay]
  | .crewPreempt bay slot => [.bay bay, .crewSlot slot]
  | .crewRestore _ slot => [.crewSlot slot]
  | .shapeRateWrite t c _ => [.tent t, .reqClass c]
  | .shapeBurstWrite t c _ => [.tent t, .reqClass c]
  | .gateListArm _ => []
  | .gateListActivate => []
  | .gateEntryAdvance => []
  | .acctEnable t _ => [.tent t]
  | .acctDisable t => [.tent t]
  | .acctSnapshotArm _ => []
  | .acctSnapshotWrite => []
  | .journalAdmit => []
  | .journalLegResult => []
  | .journalTokens => []
  | .journalCancel => []
  | .journalComplete _ => []
  | .groupCommitWrite => []
  | .groupWriteComplete => []
  | .mirrorTimeout => []
  | .mirrorPeerChange _ => []
  | .mirrorResyncComplete => []
  | .mirrorProbe _ => []
  | .hostBeat => []
  | .hostAttach => []
  | .hostDetach => []
  | .leaseExpire => []
  | .replayScan _ _ => []
  | .recoveryTableWrite _ => []
  | .tentRecover t => [.tent t]
  | .requestReattach _ => []
  | .rangerWatchdogExpire r => [.ranger r]
  | .rangerRestartComplete r _ => [.ranger r]
  | .linksGo _ => []
  | .linkTrainRetry l _ => [.link l]
  | .linkKeyAgree l _ => [.link l]
  | .linkRekey l => [.link l]
  | .linkTimeExchange l _ _ _ _ => [.link l]
  | .linkUp l => [.link l]
  | .flitSend l => [.link l]
  | .flitReceive l _ _ _ => [.link l]
  | .ackTimer l => [.link l]
  | .sealIdleClose l => [.link l]
  | .flitForward l => [.link l]
  | .routeWrite _ => []
  | .routeHoldExpire d => [.device d]
  | .txnRead _ => []
  | .txnWrite _ => []
  | .txnAtomic _ => []
  | .txnMessage _ => []
  | .txnReadData _ => []
  | .txnWriteDone _ => []
  | .txnAtomicData _ => []
  | .txnFault _ => []
  | .txnCollective _ => []
  | .txnJournal _ => []
  | .txnJournalAck _ => []
  | .txnLinkNotice _ => []
  | .txnFreeze _ => []
  | .txnResume _ => []
  | .keyidAnnounce t => [.tent t]
  | .remoteTimeout _ => []
  | .linkDown l _ => [.link l]
  | .linkDisable l => [.link l]
  | .linkNoticeTimeout l => [.link l]
  | .collGroupRegister g _ => [.group g]
  | .collDescriptorTake t => [.tent t]
  | .collAllReduce g _ => [.group g]
  | .collReduceScatter g _ => [.group g]
  | .collBroadcast g _ => [.group g]
  | .collHistSum g _ => [.group g]
  | .collSelectMerge g _ => [.group g]
  | .collTimeout g _ => [.group g]
  | .kemGenerate _ => []
  | .keyGenerate _ => []
  | .keyImport _ => []
  | .keyLoad _ => []
  | .keyClear _ => []
  | .sessionOpen _ => []
  | .sessionLoad _ => []
  | .sessionClose _ => []
  | .secAttest _ => []
  | .sealedImport _ => []
  | .consent _ => []
  | .consentRevoke _ => []
  | .getCert => []
  | .secGetLog _ => []
  | .drbgReseed => []
  | .entropyHealthFail => []
  | .patrolScrub _ _ => []
  | .errorLogWrite => []
  | .coalesceHoldExpire => []
  | .errorLogRegister _ => []
  | .injectArm _ => []
  | .sramRemap isl _ _ => [.island isl]
  | .bayRetire bay => [.bay bay]
  | .failsafeForce => []
  | .ctrSnapshotArm _ => []
  | .ctrSnapshotWrite => []
  | .evcValueWrite _ _ _ => []
  | .tempPeakClear _ sensor => [.sensor sensor]
  | .traceEventWrite _ => []
  | .traceConsumerWrite _ => []
  | .triggerArm _ => []
  | .triggerFireHost => []
  | .triggerFire => []
  | .reserveClose => []
  | .fwlogRegister _ => []
  | .fwlogWrite core point level tent _ => [.ranger core, .point point, .level level, .owner tent]
  | .fwLoad _ => []
  | .fwVerify => []
  | .fwCmdqDoorbell _ => []
  | .fwEvtqDoorbell _ => []
  | .fwPing => []
  | .fwGetInfo => []
  | .fwLaunch => []
  | .fwRetireBay => []
  | .crewResume => []
  | .crewDiscard => []
  | .fwGetRemap => []
  | .trapRecordHandle d _ => [.die d]
  | .basecampReset _ => []
  | .basecampHaltTimeout => []
  | .sensorPoll _ _ _ _ => []
  | .thermalCapUpdate => []
  | .lkSensors => []
  | .lkGetLog _ => []
  | .lkInfo => []
  | .lkEnroll => []
  | .mgmtHello _ _ => []
  | .mgmtFinish _ _ _ => []
  | .mgmtInfo _ _ _ _ _ => []
  | .mgmtSensors _ _ _ _ => []
  | .mgmtGetLog _ _ _ _ => []
  | .setPowerCap _ _ _ _ => []
  | .setConfig _ _ _ _ => []
  | .mgmtResetWarm _ _ _ _ => []
  | .mgmtResetCold _ _ _ _ => []
  | .mgmtResetBasecamp _ _ _ _ => []
  | .updateBegin _ _ _ _ => []
  | .updateData _ _ _ _ => []
  | .updateCommit _ _ _ _ => []
  | .trustAdd _ _ _ _ => []
  | .trustRemove _ _ _ _ => []
  | .mgmtAttest _ _ _ _ => []
  | .requestA0 => []
  | .requestA2 => []
  | .requestS1 => []
  | .s1Entry _ => []
  | .islandClockStop n => [.island n]
  | .islandClockRestart n => [.island n]
  | .stackWake stack => [.stack stack]
  | .stackSelfRefresh stack => [.stack stack]
  | .wakeEvent => []
  | .aoSensorRead _ => []
  | .sup0Fault => []
  | .sup1Reset => []
  | .dutyUpdate _ => []
  | .dutyMinClear => []
  | .pwrResetWarm _ => []
  | .pwrResetCold _ => []
  | .pkgResetAssert => []
  | .pkgResetRelease => []
  | .aonPowerGood => []
  | .startupStepAdvance _ _ _ _ _ => []
  | .illegalOpcode bay slot => [.bay bay, .crewSlot slot]
  | .logRingSpaceReturn => []
  | .ethernetFrameReceive port _ _ => [.port port]
  | .ethernetFrameTransmit port _ _ => [.port port]
  | .mgmtConnectionClose _ => []
  | .consentWindowBoundary => []

/-- A command is well formed: every unit it names is one of the part. -/
def Instr.wf (i : Instr) : Bool := i.names.all Names.ok

end Sys2Proof
end

