-- ==== Sys2Proof/Decode.lean ====
section
/-! DEFINITION. The commands that a word spells by the bits of the spec's table: the table gives no row any bits, since its
rows are operations and events of the block. -/

namespace Sys2Proof

/-- The command that the `nbits` bits of `w` spell by the table: none, for every word. -/
def decodeTableWord (_nbits _w : Nat) : Option Instr := none

end Sys2Proof
end

