-- ==== Sys2Proof/Config.lean ====
section
/-! DEFINITION. What an implementation fixes and the spec leaves open: every constant here is opaque, so that nothing can
be proved of its value.  A free value drawn during a run is `freeValue` applied to the counter that the state carries. -/

namespace Sys2Proof.Config

/-- The free values of the model: the counter of `State` picks one, and nothing constrains it (log entry 5). -/
opaque freeValue : Nat → Nat

/-- The two hashes of Lantern's visited filter (R205): which, and the local id. -/
opaque visitHash : Nat → Nat → Nat

/-! Functions of FIPS 202, FIPS 203, FIPS 204 and AES-256-GCM, and the secrets of the part: the spec names them and does not
restate them, and nothing in the model depends on their values (log entry 16). -/

/-- SHA3-256 (R462). -/
opaque sha3 : List Byte → W256
/-- The AES-256-GCM keystream byte of a key, a nonce and a position, and the tag of a key, a nonce, the additional data and
the ciphertext. -/
opaque gcmStream : W256 → Nat → Nat → Byte
opaque gcmTag : W256 → Nat → List Byte → List Byte → W128
/-- ML-KEM-768: the encapsulation key of a key pair, and the shared secret that a key pair gives for a ciphertext. -/
opaque kemKey : W256 → List Byte
opaque kemSecret : W256 → List Byte → W256
/-- ML-DSA-44: the signature of the device, and the device's public key. -/
opaque deviceSign : List Byte → List Byte
opaque deviceKey : List Byte
/-- The certificate chain (R461). -/
opaque certificate : List Byte
/-- ML-DSA-44 verification: public key, message, signature. -/
opaque verify : List Byte → List Byte → List Byte → Bool
/-- The digests of the four signing keys in the Lookout ROM (R464). -/
opaque romKey : Nat → W256
/-- The PUF root (R460). -/
opaque pufRoot : W256
/-- A 256-bit value from the DRBG (R482), by the counter of free values. -/
opaque drbg : Nat → W256

/-! Contents whose layout the spec leaves to the part: the trace point table of a Yedal image (R526), the list that GET_REMAP
writes (R536), the values that INFO writes (R542), and the fields of an assembly descriptor's body (R5, R547; field 0 is the
DEVICE_TAG it names). -/

opaque pointTable : List Byte → List Byte
opaque remapList : List (Nat × Nat × Nat) → List Nat → List Byte
opaque infoBytes : List Nat → List Byte
opaque descriptorField : List Byte → Nat → Nat

end Sys2Proof.Config
end

