-- ==== Sys2Proof/Machine/Map.lean ====
section
/-! DEFINITION. The sparse maps: reading, writing and the canonical form.  `d` gives what an unlisted key reads as. -/

namespace Sys2Proof.Machine

/-- The value at key `k`; `d k` where the map does not list `k`. -/
def SMap.get {α : Type} (d : Nat → α) : SMap α → Nat → α
  | [], k => d k
  | (j, v) :: m, k => if j = k then v else SMap.get d m k

/-- The map without key `k`. -/
def SMap.erase {α : Type} : SMap α → Nat → SMap α
  | [], _ => []
  | (j, v) :: m, k => if j = k then SMap.erase m k else (j, v) :: SMap.erase m k

/-- The map with `v` at key `k`, placed in ascending key order. -/
def SMap.put {α : Type} : SMap α → Nat → α → SMap α
  | [], k, v => [(k, v)]
  | (j, w) :: m, k, v =>
    if k < j then (k, v) :: (j, w) :: m
    else if j = k then (k, v) :: m
    else (j, w) :: SMap.put m k v

/-- Write `v` at key `k`.  Writing what an unlisted key reads as removes the entry, so that equal contents are equal
data. -/
def SMap.set {α : Type} [DecidableEq α] (d : Nat → α) (m : SMap α) (k : Nat) (v : α) : SMap α :=
  if v = d k then SMap.erase m k else SMap.put m k v

/-- Change the value at key `k`. -/
def SMap.mod {α : Type} [DecidableEq α] (d : Nat → α) (m : SMap α) (k : Nat) (f : α → α) : SMap α :=
  SMap.set d m k (f (SMap.get d m k))

/-- The keys listed, in ascending order. -/
def SMap.keys {α : Type} (m : SMap α) : List Nat := m.map (·.1)

/-- Every key lies above `n`, in ascending order, and no entry is at its default. -/
def SMap.wfFrom {α : Type} [DecidableEq α] (d : Nat → α) : Nat → SMap α → Bool
  | _, [] => true
  | n, (k, v) :: m => decide (n ≤ k) && decide (v ≠ d k) && SMap.wfFrom d (k + 1) m

/-- The canonical form: keys strictly rising and no entry equal to what an unlisted key reads as. -/
def SMap.wf {α : Type} [DecidableEq α] (d : Nat → α) (m : SMap α) : Bool := SMap.wfFrom d 0 m

/-- Write the values of `vs` at consecutive keys from `k`. -/
def SMap.setList {α : Type} [DecidableEq α] (d : Nat → α) (m : SMap α) : Nat → List α → SMap α
  | _, [] => m
  | k, v :: vs => SMap.setList d (SMap.set d m k v) (k + 1) vs

/-- The values at `n` consecutive keys from `k`. -/
def SMap.getList {α : Type} (d : Nat → α) (m : SMap α) (k n : Nat) : List α :=
  (List.range n).map fun i => SMap.get d m (k + i)

/-- The map that holds `f k` at each key below `n`. -/
def SMap.tabulate {α : Type} [DecidableEq α] (d : α) (n : Nat) (f : Nat → α) : SMap α :=
  (List.range n).filterMap fun k => if f k = d then none else some (k, f k)

/-- Change every value listed. -/
def SMap.mapVals {α : Type} [DecidableEq α] (d : Nat → α) (f : α → α) (m : SMap α) : SMap α :=
  m.filterMap fun e => if f e.2 = d e.1 then none else some (e.1, f e.2)

/-- Drop every key in `[k, k + n)`: they read as their default again. -/
def SMap.clearRange {α : Type} (m : SMap α) (k n : Nat) : SMap α :=
  m.filter fun e => decide (e.1 < k) || decide (k + n ≤ e.1)

end Sys2Proof.Machine
end

