-- ==== Sys2Proof/Machine/RegTable.lean ====
section
/-! DEFINITION. The register tables of the spec (R15, R574 and the rule each row names): one offset function for each
register, one position for each named field, and one row for each register with its fields' access codes, reset values
and valid encodings.  Offsets are from the base of the control window.  A reset value that the spec takes from the
descriptor, the RPMB device, a list of Lookout's or flash metadata stands here as 0 and is written by the step of
start-up that loads it; a field of an identifier that names its own instance is computed at the read. -/

namespace Sys2Proof.Machine

/-- DEV_ID (21_control_map.md, R578). -/
def rDevId : Nat := 0x0
/-- Bits [31:0] of DEV_ID: SIGNATURE. -/
def fDevIdSignature : Nat × Nat := (0, 32)
/-- Bits [39:32] of DEV_ID: COMPUTE_STEP. -/
def fDevIdComputeStep : Nat × Nat := (32, 8)
/-- Bits [47:40] of DEV_ID: MSD_STEP. -/
def fDevIdMsdStep : Nat × Nat := (40, 8)
/-- Bits [55:48] of DEV_ID: IOD_STEP. -/
def fDevIdIodStep : Nat × Nat := (48, 8)
/-- Bits [63:56] of DEV_ID: MAP_VERSION. -/
def fDevIdMapVersion : Nat × Nat := (56, 8)
/-- DEV_ASSEMBLY (00_scope.md, R5). -/
def rDevAssembly : Nat := 0x8
/-- Bits [15:0] of DEV_ASSEMBLY: PART_NUMBER. -/
def fDevAssemblyPartNumber : Nat × Nat := (0, 16)
/-- Bits [19:16] of DEV_ASSEMBLY: HBM_STACKS. -/
def fDevAssemblyHbmStacks : Nat × Nat := (16, 4)
/-- Bits [23:20] of DEV_ASSEMBLY: MSD_COUNT. -/
def fDevAssemblyMsdCount : Nat × Nat := (20, 4)
/-- Bits [27:24] of DEV_ASSEMBLY: IOD_COUNT. -/
def fDevAssemblyIodCount : Nat × Nat := (24, 4)
/-- Bits [35:28] of DEV_ASSEMBLY: FABRIC_LINKS. -/
def fDevAssemblyFabricLinks : Nat × Nat := (28, 8)
/-- Bits [43:36] of DEV_ASSEMBLY: BASECAMP_CORES. -/
def fDevAssemblyBasecampCores : Nat × Nat := (36, 8)
/-- Bits [47:44] of DEV_ASSEMBLY: COMPUTE_DIES. -/
def fDevAssemblyComputeDies : Nat × Nat := (44, 4)
/-- Bits [55:48] of DEV_ASSEMBLY: DESC_FORMAT. -/
def fDevAssemblyDescFormat : Nat × Nat := (48, 8)
/-- DEV_CAP (21_control_map.md, R579). -/
def rDevCap : Nat := 0x10
/-- Bits [6:0] of DEV_CAP: TENTS. -/
def fDevCapTents : Nat × Nat := (0, 7)
/-- Bits [13:7] of DEV_CAP: INDEX_SLOTS. -/
def fDevCapIndexSlots : Nat × Nat := (7, 7)
/-- Bits [22:14] of DEV_CAP: TABLE_SLOTS. -/
def fDevCapTableSlots : Nat × Nat := (14, 9)
/-- Bits [26:23] of DEV_CAP: VOCAB_SLOTS. -/
def fDevCapVocabSlots : Nat × Nat := (23, 4)
/-- Bits [33:27] of DEV_CAP: GRAMMAR_SLOTS. -/
def fDevCapGrammarSlots : Nat × Nat := (27, 7)
/-- Bits [44:34] of DEV_CAP: ADAPTER_SLOTS. -/
def fDevCapAdapterSlots : Nat × Nat := (34, 11)
/-- Bits [47:45] of DEV_CAP: FLASH_SETS. -/
def fDevCapFlashSets : Nat × Nat := (45, 3)
/-- Bits [48:48] of DEV_CAP: SEALED. -/
def fDevCapSealed : Nat × Nat := (48, 1)
/-- Bits [49:49] of DEV_CAP: FABRIC. -/
def fDevCapFabric : Nat × Nat := (49, 1)
/-- DEV_STATE (21_control_map.md, R580). -/
def rDevState : Nat := 0x18
/-- Bits [2:0] of DEV_STATE: STATE. -/
def fDevStateState : Nat × Nat := (0, 3)
/-- Bits [8:8] of DEV_STATE: IS_ORPHAN. -/
def fDevStateIsOrphan : Nat × Nat := (8, 1)
/-- Bits [9:9] of DEV_STATE: IS_FROZEN. -/
def fDevStateIsFrozen : Nat × Nat := (9, 1)
/-- Bits [10:10] of DEV_STATE: IS_FAILSAFE. -/
def fDevStateIsFailsafe : Nat × Nat := (10, 1)
/-- Bits [11:11] of DEV_STATE: IS_SLEEP. -/
def fDevStateIsSleep : Nat × Nat := (11, 1)
/-- Bits [19:16] of DEV_STATE: START_STEP. -/
def fDevStateStartStep : Nat × Nat := (16, 4)
/-- TIME_NOW (02_time_order.md, R39). -/
def rTimeNow : Nat := 0x10000
/-- Bits [63:0] of TIME_NOW: TICK. -/
def fTimeNowTick : Nat × Nat := (0, 64)
/-- TIME_FREEZE_AT (02_time_order.md, R62). -/
def rTimeFreezeAt : Nat := 0x10008
/-- Bits [63:0] of TIME_FREEZE_AT: FREEZE_TICK. -/
def fTimeFreezeAtFreezeTick : Nat × Nat := (0, 64)
/-- TIME_RESUME_AT (02_time_order.md, R62). -/
def rTimeResumeAt : Nat := 0x10010
/-- Bits [63:0] of TIME_RESUME_AT: RESUME_TICK. -/
def fTimeResumeAtResumeTick : Nat × Nat := (0, 64)
/-- TIME_FREEZE_STATUS (02_time_order.md, R62). -/
def rTimeFreezeStatus : Nat := 0x10018
/-- Bits [2:0] of TIME_FREEZE_STATUS: STATE. -/
def fTimeFreezeStatusState : Nat × Nat := (0, 3)
/-- Bits [3:3] of TIME_FREEZE_STATUS: SCOPE_FABRIC. -/
def fTimeFreezeStatusScopeFabric : Nat × Nat := (3, 1)
/-- Bits [4:4] of TIME_FREEZE_STATUS: TOO_SOON. -/
def fTimeFreezeStatusTooSoon : Nat × Nat := (4, 1)
/-- Bits [5:5] of TIME_FREEZE_STATUS: LATE_PEER. -/
def fTimeFreezeStatusLatePeer : Nat × Nat := (5, 1)
/-- Bits [6:6] of TIME_FREEZE_STATUS: CANCEL_REFUSED. -/
def fTimeFreezeStatusCancelRefused : Nat × Nat := (6, 1)
/-- Bits [7:7] of TIME_FREEZE_STATUS: IN_PROGRESS. -/
def fTimeFreezeStatusInProgress : Nat × Nat := (7, 1)
/-- Bits [19:8] of TIME_FREEZE_STATUS: PEERS_ACKED. -/
def fTimeFreezeStatusPeersAcked : Nat × Nat := (8, 12)
/-- Bits [63:32] of TIME_FREEZE_STATUS: HELD_ITEMS. -/
def fTimeFreezeStatusHeldItems : Nat × Nat := (32, 32)
/-- TIME_PTP_OFFSET (02_time_order.md, R44). -/
def rTimePtpOffset : Nat := 0x10020
/-- Bits [63:0] of TIME_PTP_OFFSET: OFFSET. -/
def fTimePtpOffsetOffset : Nat × Nat := (0, 64)
/-- TIME_SKEW_MAX (02_time_order.md, R43). -/
def rTimeSkewMax : Nat := 0x10028
/-- Bits [7:0] of TIME_SKEW_MAX: ISLAND_SKEW. -/
def fTimeSkewMaxIslandSkew : Nat × Nat := (0, 8)
/-- Bits [15:8] of TIME_SKEW_MAX: LINK_SKEW. -/
def fTimeSkewMaxLinkSkew : Nat × Nat := (8, 8)
/-- Bits [27:16] of TIME_SKEW_MAX: WORST_ISLAND. -/
def fTimeSkewMaxWorstIsland : Nat × Nat := (16, 12)
/-- Bits [31:28] of TIME_SKEW_MAX: WORST_LINK. -/
def fTimeSkewMaxWorstLink : Nat × Nat := (28, 4)
/-- Bits [63:63] of TIME_SKEW_MAX: CLEAR. -/
def fTimeSkewMaxClear : Nat × Nat := (63, 1)
/-- TIME_FREEZE_CTL (02_time_order.md, R62). -/
def rTimeFreezeCtl : Nat := 0x10030
/-- Bits [0:0] of TIME_FREEZE_CTL: SCOPE. -/
def fTimeFreezeCtlScope : Nat × Nat := (0, 1)
/-- Bits [1:1] of TIME_FREEZE_CTL: CANCEL. -/
def fTimeFreezeCtlCancel : Nat × Nat := (1, 1)
/-- TIME_PTP_STATUS (02_time_order.md, R44). -/
def rTimePtpStatus : Nat := 0x10038
/-- Bits [1:0] of TIME_PTP_STATUS: PTP_STATE. -/
def fTimePtpStatusPtpState : Nat × Nat := (0, 2)
/-- Bits [39:8] of TIME_PTP_STATUS: RATE_PPB. -/
def fTimePtpStatusRatePpb : Nat × Nat := (8, 32)
/-- Bits [63:48] of TIME_PTP_STATUS: UPDATE_SEQ. -/
def fTimePtpStatusUpdateSeq : Nat × Nat := (48, 16)
/-- TIME_CMP0 (02_time_order.md, R47). -/
def rTimeCmp0 : Nat := 0x10040
/-- Bits [63:0] of TIME_CMP0: TICK. -/
def fTimeCmp0Tick : Nat × Nat := (0, 64)
/-- TIME_CMP1 (02_time_order.md, R47). -/
def rTimeCmp1 : Nat := 0x10048
/-- Bits [63:0] of TIME_CMP1: TICK. -/
def fTimeCmp1Tick : Nat × Nat := (0, 64)
/-- TIME_DUMP_BASE (02_time_order.md, R63). -/
def rTimeDumpBase : Nat := 0x10050
/-- Bits [63:0] of TIME_DUMP_BASE: ADDR. -/
def fTimeDumpBaseAddr : Nat × Nat := (0, 64)
/-- TIME_DUMP_CTL (02_time_order.md, R63). -/
def rTimeDumpCtl : Nat := 0x10058
/-- Bits [0:0] of TIME_DUMP_CTL: GO. -/
def fTimeDumpCtlGo : Nat × Nat := (0, 1)
/-- Bits [1:1] of TIME_DUMP_CTL: DONE. -/
def fTimeDumpCtlDone : Nat × Nat := (1, 1)
/-- Bits [63:32] of TIME_DUMP_CTL: RECORDS. -/
def fTimeDumpCtlRecords : Nat × Nat := (32, 32)
/-- TIME_PPS_IN_TICK (02_time_order.md, R46). -/
def rTimePpsInTick : Nat := 0x10060
/-- Bits [63:0] of TIME_PPS_IN_TICK: TICK. -/
def fTimePpsInTickTick : Nat × Nat := (0, 64)
/-- TIME_EPOCH (02_time_order.md, R39). -/
def rTimeEpoch : Nat := 0x10068
/-- Bits [31:0] of TIME_EPOCH: EPOCH. -/
def fTimeEpochEpoch : Nat × Nat := (0, 32)
/-- TIME_PTP_BASE (02_time_order.md, R44). -/
def rTimePtpBase : Nat := 0x10070
/-- Bits [63:0] of TIME_PTP_BASE: BASE. -/
def fTimePtpBaseBase : Nat × Nat := (0, 64)
/-- TENT_CTL (13_tents.md, R372). -/
def rTentCtl (i : Nat) : Nat := 0x20000 + 0x100 * i
/-- Bits [2:0] of TENT_CTL: STATE. -/
def fTentCtlState : Nat × Nat := (0, 3)
/-- Bits [6:3] of TENT_CTL: CMD. -/
def fTentCtlCmd : Nat × Nat := (3, 4)
/-- Bits [10:7] of TENT_CTL: ERROR. -/
def fTentCtlError : Nat × Nat := (7, 4)
/-- Bits [63:32] of TENT_CTL: REQUESTS. -/
def fTentCtlRequests : Nat × Nat := (32, 32)
/-- TENT_BAYS (13_tents.md, R372). -/
def rTentBays (i j : Nat) : Nat := 0x20008 + 0x100 * i + 0x8 * j
/-- Bits [63:0] of TENT_BAYS: BAYS. -/
def fTentBaysBays : Nat × Nat := (0, 64)
/-- TENT_HBM (13_tents.md, R372). -/
def rTentHbm (i : Nat) : Nat := 0x20028 + 0x100 * i
/-- Bits [23:0] of TENT_HBM: QUOTA. -/
def fTentHbmQuota : Nat × Nat := (0, 24)
/-- Bits [35:24] of TENT_HBM: STACKS. -/
def fTentHbmStacks : Nat × Nat := (24, 12)
/-- Bits [36:36] of TENT_HBM: INTERLEAVE. -/
def fTentHbmInterleave : Nat × Nat := (36, 1)
/-- TENT_FLASH (13_tents.md, R372). -/
def rTentFlash (i : Nat) : Nat := 0x20030 + 0x100 * i
/-- Bits [0:0] of TENT_FLASH: ENABLE. -/
def fTentFlashEnable : Nat × Nat := (0, 1)
/-- Bits [1:1] of TENT_FLASH: SET. -/
def fTentFlashSet : Nat × Nat := (1, 1)
/-- Bits [26:2] of TENT_FLASH: BASE_K. -/
def fTentFlashBaseK : Nat × Nat := (2, 25)
/-- Bits [51:27] of TENT_FLASH: COUNT_K. -/
def fTentFlashCountK : Nat × Nat := (27, 25)
/-- TENT_DURABILITY (13_tents.md, R372). -/
def rTentDurability (i : Nat) : Nat := 0x20038 + 0x100 * i
/-- Bits [1:0] of TENT_DURABILITY: CLASS. -/
def fTentDurabilityClass : Nat × Nat := (0, 2)
/-- TENT_BATCH (13_tents.md, R372). -/
def rTentBatch (i : Nat) : Nat := 0x20040 + 0x100 * i
/-- Bits [0:0] of TENT_BATCH: MODE. -/
def fTentBatchMode : Nat × Nat := (0, 1)
/-- Bits [9:1] of TENT_BATCH: BAYS. -/
def fTentBatchBays : Nat × Nat := (1, 9)
/-- TENT_KEYSLOT (13_tents.md, R372). -/
def rTentKeyslot (i : Nat) : Nat := 0x20048 + 0x100 * i
/-- Bits [5:0] of TENT_KEYSLOT: SLOT. -/
def fTentKeyslotSlot : Nat × Nat := (0, 6)
/-- TENT_QUOTA (13_tents.md, R372). -/
def rTentQuota (i : Nat) : Nat := 0x20050 + 0x100 * i
/-- Bits [14:0] of TENT_QUOTA: HOLD_MAX. -/
def fTentQuotaHoldMax : Nat × Nat := (0, 15)
/-- Bits [32:16] of TENT_QUOTA: RINGS_MAX. -/
def fTentQuotaRingsMax : Nat × Nat := (16, 17)
/-- Bits [39:33] of TENT_QUOTA: SQ_MAX. -/
def fTentQuotaSqMax : Nat × Nat := (33, 7)
/-- TENT_CAIRN_KEY0 (13_tents.md, R372). -/
def rTentCairnKey0 (i : Nat) : Nat := 0x20058 + 0x100 * i
/-- Bits [63:0] of TENT_CAIRN_KEY0: KEY_LO. -/
def fTentCairnKey0KeyLo : Nat × Nat := (0, 64)
/-- TENT_CAIRN_KEY1 (13_tents.md, R372). -/
def rTentCairnKey1 (i : Nat) : Nat := 0x20060 + 0x100 * i
/-- Bits [63:0] of TENT_CAIRN_KEY1: KEY_HI. -/
def fTentCairnKey1KeyHi : Nat × Nat := (0, 64)
/-- TENT_MODELS (13_tents.md, R372). -/
def rTentModels (i : Nat) : Nat := 0x20068 + 0x100 * i
/-- Bits [55:6] of TENT_MODELS: ADDR. -/
def fTentModelsAddr : Nat × Nat := (6, 50)
/-- Bits [63:56] of TENT_MODELS: COUNT. -/
def fTentModelsCount : Nat × Nat := (56, 8)
/-- TENT_SAVE (13_tents.md, R372). -/
def rTentSave (i : Nat) : Nat := 0x20070 + 0x100 * i
/-- Bits [9:0] of TENT_SAVE: LOCAL_KIB. -/
def fTentSaveLocalKib : Nat × Nat := (0, 10)
/-- Bits [55:22] of TENT_SAVE: ADDR. -/
def fTentSaveAddr : Nat × Nat := (22, 34)
/-- TENT_MIGRATE_AT (13_tents.md, R372). -/
def rTentMigrateAt (i : Nat) : Nat := 0x20078 + 0x100 * i
/-- Bits [63:0] of TENT_MIGRATE_AT: CUT_TICK. -/
def fTentMigrateAtCutTick : Nat × Nat := (0, 64)
/-- TENT_STATUS (13_tents.md, R372). -/
def rTentStatus (i : Nat) : Nat := 0x20080 + 0x100 * i
/-- Bits [31:0] of TENT_STATUS: EPOCH. -/
def fTentStatusEpoch : Nat × Nat := (0, 32)
/-- Bits [32:32] of TENT_STATUS: CUT_PENDING. -/
def fTentStatusCutPending : Nat × Nat := (32, 1)
/-- Bits [33:33] of TENT_STATUS: CUT_REFUSED. -/
def fTentStatusCutRefused : Nat × Nat := (33, 1)
/-- Bits [63:48] of TENT_STATUS: STALE. -/
def fTentStatusStale : Nat × Nat := (48, 16)
/-- GEN_CFG (12_generation.md, R369). -/
def rGenCfg (i : Nat) : Nat := 0x28000 + 0x20 * i
/-- Bits [15:0] of GEN_CFG: STEP_TOKENS. -/
def fGenCfgStepTokens : Nat × Nat := (0, 16)
/-- Bits [26:16] of GEN_CFG: MAX_RUNNING. -/
def fGenCfgMaxRunning : Nat × Nat := (16, 11)
/-- Bits [30:27] of GEN_CFG: SPEC_MAX. -/
def fGenCfgSpecMax : Nat × Nat := (27, 4)
/-- Bits [38:32] of GEN_CFG: RISK_MARGIN_PCT. -/
def fGenCfgRiskMarginPct : Nat × Nat := (32, 7)
/-- Bits [46:40] of GEN_CFG: RISK_SHARE_PCT. -/
def fGenCfgRiskSharePct : Nat × Nat := (40, 7)
/-- GEN_BATCH (12_generation.md, R369). -/
def rGenBatch (i : Nat) : Nat := 0x28008 + 0x20 * i
/-- Bits [55:6] of GEN_BATCH: ADDR. -/
def fGenBatchAddr : Nat × Nat := (6, 50)
/-- GEN_STATUS (12_generation.md, R369). -/
def rGenStatus (i : Nat) : Nat := 0x28010 + 0x20 * i
/-- Bits [10:0] of GEN_STATUS: RUNNING. -/
def fGenStatusRunning : Nat × Nat := (0, 11)
/-- Bits [26:11] of GEN_STATUS: WAITING. -/
def fGenStatusWaiting : Nat × Nat := (11, 16)
/-- Bits [29:27] of GEN_STATUS: BATCH_QUEUE. -/
def fGenStatusBatchQueue : Nat × Nat := (27, 3)
/-- Bits [55:32] of GEN_STATUS: STEP_US. -/
def fGenStatusStepUs : Nat × Nat := (32, 24)
/-- Bits [63:56] of GEN_STATUS: BATCH_SKIPPED. -/
def fGenStatusBatchSkipped : Nat × Nat := (56, 8)
/-- GEN_COUNTS (12_generation.md, R369). -/
def rGenCounts (i : Nat) : Nat := 0x28018 + 0x20 * i
/-- Bits [31:0] of GEN_COUNTS: STEPS. -/
def fGenCountsSteps : Nat × Nat := (0, 32)
/-- Bits [47:32] of GEN_COUNTS: PREEMPTIONS. -/
def fGenCountsPreemptions : Nat × Nat := (32, 16)
/-- Bits [55:48] of GEN_COUNTS: ZERO_MASS. -/
def fGenCountsZeroMass : Nat × Nat := (48, 8)
/-- Bits [63:56] of GEN_COUNTS: NAN_LOGITS. -/
def fGenCountsNanLogits : Nat × Nat := (56, 8)
/-- GEN_ADAPTER_ADDR (12_generation.md, R370). -/
def rGenAdapterAddr : Nat := 0x28800
/-- Bits [55:6] of GEN_ADAPTER_ADDR: ADDR. -/
def fGenAdapterAddrAddr : Nat × Nat := (6, 50)
/-- GEN_ADAPTER_CMD (12_generation.md, R370). -/
def rGenAdapterCmd : Nat := 0x28808
/-- Bits [9:0] of GEN_ADAPTER_CMD: SLOT. -/
def fGenAdapterCmdSlot : Nat × Nat := (0, 10)
/-- Bits [15:10] of GEN_ADAPTER_CMD: TENT. -/
def fGenAdapterCmdTent : Nat × Nat := (10, 6)
/-- Bits [17:16] of GEN_ADAPTER_CMD: OP. -/
def fGenAdapterCmdOp : Nat × Nat := (16, 2)
/-- GEN_ADAPTER_STATUS (12_generation.md, R370). -/
def rGenAdapterStatus : Nat := 0x28810
/-- Bits [0:0] of GEN_ADAPTER_STATUS: BUSY. -/
def fGenAdapterStatusBusy : Nat × Nat := (0, 1)
/-- Bits [3:1] of GEN_ADAPTER_STATUS: RESULT. -/
def fGenAdapterStatusResult : Nat × Nat := (1, 3)
/-- Bits [4:4] of GEN_ADAPTER_STATUS: DRAINED. -/
def fGenAdapterStatusDrained : Nat × Nat := (4, 1)
/-- Bits [63:32] of GEN_ADAPTER_STATUS: VERSION. -/
def fGenAdapterStatusVersion : Nat × Nat := (32, 32)
/-- SQ_BASE (11_requests.md, R303). -/
def rSqBase (i : Nat) : Nat := 0x30000 + 0x20 * i
/-- Bits [55:8] of SQ_BASE: ADDR. -/
def fSqBaseAddr : Nat × Nat := (8, 48)
/-- SQ_CFG (11_requests.md, R303). -/
def rSqCfg (i : Nat) : Nat := 0x30008 + 0x20 * i
/-- Bits [0:0] of SQ_CFG: VALID. -/
def fSqCfgValid : Nat × Nat := (0, 1)
/-- Bits [1:1] of SQ_CFG: CFG_ERROR. -/
def fSqCfgCfgError : Nat × Nat := (1, 1)
/-- Bits [6:2] of SQ_CFG: LOG2. -/
def fSqCfgLog2 : Nat × Nat := (2, 5)
/-- Bits [12:7] of SQ_CFG: TENT. -/
def fSqCfgTent : Nat × Nat := (7, 6)
/-- Bits [18:13] of SQ_CFG: CQ. -/
def fSqCfgCq : Nat × Nat := (13, 6)
/-- SQ_TAIL (11_requests.md, R303). -/
def rSqTail (i : Nat) : Nat := 0x30010 + 0x20 * i
/-- Bits [15:0] of SQ_TAIL: TAIL. -/
def fSqTailTail : Nat × Nat := (0, 16)
/-- SQ_HEAD (11_requests.md, R303). -/
def rSqHead (i : Nat) : Nat := 0x30018 + 0x20 * i
/-- Bits [15:0] of SQ_HEAD: HEAD. -/
def fSqHeadHead : Nat × Nat := (0, 16)
/-- Bits [63:32] of SQ_HEAD: FETCHED. -/
def fSqHeadFetched : Nat × Nat := (32, 32)
/-- CQ_BASE (11_requests.md, R303). -/
def rCqBase (i : Nat) : Nat := 0x30800 + 0x20 * i
/-- Bits [55:5] of CQ_BASE: ADDR. -/
def fCqBaseAddr : Nat × Nat := (5, 51)
/-- CQ_CFG (11_requests.md, R303). -/
def rCqCfg (i : Nat) : Nat := 0x30808 + 0x20 * i
/-- Bits [0:0] of CQ_CFG: VALID. -/
def fCqCfgValid : Nat × Nat := (0, 1)
/-- Bits [1:1] of CQ_CFG: CFG_ERROR. -/
def fCqCfgCfgError : Nat × Nat := (1, 1)
/-- Bits [6:2] of CQ_CFG: LOG2. -/
def fCqCfgLog2 : Nat × Nat := (2, 5)
/-- Bits [12:7] of CQ_CFG: TENT. -/
def fCqCfgTent : Nat × Nat := (7, 6)
/-- Bits [13:13] of CQ_CFG: FULL. -/
def fCqCfgFull : Nat × Nat := (13, 1)
/-- CQ_HEAD (11_requests.md, R303). -/
def rCqHead (i : Nat) : Nat := 0x30810 + 0x20 * i
/-- Bits [15:0] of CQ_HEAD: HEAD. -/
def fCqHeadHead : Nat × Nat := (0, 16)
/-- CQ_TAIL (11_requests.md, R303). -/
def rCqTail (i : Nat) : Nat := 0x30818 + 0x20 * i
/-- Bits [15:0] of CQ_TAIL: TAIL. -/
def fCqTailTail : Nat × Nat := (0, 16)
/-- Bits [16:16] of CQ_TAIL: PHASE. -/
def fCqTailPhase : Nat × Nat := (16, 1)
/-- SHAPE_RATE (13_tents.md, R392). -/
def rShapeRate (i j : Nat) : Nat := 0x34000 + 0x100 * i + 0x20 * j
/-- Bits [31:0] of SHAPE_RATE: RATE. -/
def fShapeRateRate : Nat × Nat := (0, 32)
/-- Bits [32:32] of SHAPE_RATE: UNLIMITED. -/
def fShapeRateUnlimited : Nat × Nat := (32, 1)
/-- SHAPE_BURST (13_tents.md, R392). -/
def rShapeBurst (i j : Nat) : Nat := 0x34008 + 0x100 * i + 0x20 * j
/-- Bits [31:0] of SHAPE_BURST: BURST. -/
def fShapeBurstBurst : Nat × Nat := (0, 32)
/-- SHAPE_CREDIT (13_tents.md, R392). -/
def rShapeCredit (i j : Nat) : Nat := 0x34010 + 0x100 * i + 0x20 * j
/-- Bits [63:0] of SHAPE_CREDIT: CREDIT. -/
def fShapeCreditCredit : Nat × Nat := (0, 64)
/-- SHAPE_HELD (13_tents.md, R392). -/
def rShapeHeld (i j : Nat) : Nat := 0x34018 + 0x100 * i + 0x20 * j
/-- Bits [14:0] of SHAPE_HELD: HELD. -/
def fShapeHeldHeld : Nat × Nat := (0, 15)
/-- GATE_LIST_BASE (13_tents.md, R393). -/
def rGateListBase : Nat := 0x38000
/-- Bits [5:0] of GATE_LIST_BASE: COUNT_M1. -/
def fGateListBaseCountM1 : Nat × Nat := (0, 6)
/-- Bits [55:6] of GATE_LIST_BASE: ADDR. -/
def fGateListBaseAddr : Nat × Nat := (6, 50)
/-- GATE_ACTIVATE_AT (13_tents.md, R393). -/
def rGateActivateAt : Nat := 0x38008
/-- Bits [63:0] of GATE_ACTIVATE_AT: ACTIVATE_TICK. -/
def fGateActivateAtActivateTick : Nat × Nat := (0, 64)
/-- GATE_CURRENT (13_tents.md, R393). -/
def rGateCurrent : Nat := 0x38010
/-- Bits [5:0] of GATE_CURRENT: ENTRY. -/
def fGateCurrentEntry : Nat × Nat := (0, 6)
/-- Bits [6:6] of GATE_CURRENT: LIST. -/
def fGateCurrentList : Nat × Nat := (6, 1)
/-- Bits [7:7] of GATE_CURRENT: PENDING. -/
def fGateCurrentPending : Nat × Nat := (7, 1)
/-- Bits [8:8] of GATE_CURRENT: REFUSED. -/
def fGateCurrentRefused : Nat × Nat := (8, 1)
/-- Bits [23:16] of GATE_CURRENT: OPEN. -/
def fGateCurrentOpen : Nat × Nat := (16, 8)
/-- ACCT_TABLE_BASE (13_tents.md, R396). -/
def rAcctTableBase (i : Nat) : Nat := 0x40000 + 0x8 * i
/-- Bits [0:0] of ACCT_TABLE_BASE: VALID. -/
def fAcctTableBaseValid : Nat × Nat := (0, 1)
/-- Bits [1:1] of ACCT_TABLE_BASE: CFG_ERROR. -/
def fAcctTableBaseCfgError : Nat × Nat := (1, 1)
/-- Bits [55:6] of ACCT_TABLE_BASE: ADDR. -/
def fAcctTableBaseAddr : Nat × Nat := (6, 50)
/-- ACCT_SNAPSHOT_AT (13_tents.md, R399). -/
def rAcctSnapshotAt : Nat := 0x40800
/-- Bits [63:0] of ACCT_SNAPSHOT_AT: SNAPSHOT_TICK. -/
def fAcctSnapshotAtSnapshotTick : Nat × Nat := (0, 64)
/-- ACCT_SNAPSHOT_DONE (13_tents.md, R399). -/
def rAcctSnapshotDone : Nat := 0x40808
/-- Bits [0:0] of ACCT_SNAPSHOT_DONE: DONE. -/
def fAcctSnapshotDoneDone : Nat × Nat := (0, 1)
/-- Bits [1:1] of ACCT_SNAPSHOT_DONE: PENDING. -/
def fAcctSnapshotDonePending : Nat × Nat := (1, 1)
/-- Bits [2:2] of ACCT_SNAPSHOT_DONE: REFUSED. -/
def fAcctSnapshotDoneRefused : Nat × Nat := (2, 1)
/-- JRNL_CFG (14_journal.md, R417). -/
def rJrnlCfg : Nat := 0x50000
/-- Bits [5:0] of JRNL_CFG: AREA_GIB. -/
def fJrnlCfgAreaGib : Nat × Nat := (0, 6)
/-- Bits [6:6] of JRNL_CFG: FLASH_SET. -/
def fJrnlCfgFlashSet : Nat × Nat := (6, 1)
/-- Bits [17:8] of JRNL_CFG: GROUP_US. -/
def fJrnlCfgGroupUs : Nat × Nat := (8, 10)
/-- Bits [31:18] of JRNL_CFG: MIRROR_WAIT_MS. -/
def fJrnlCfgMirrorWaitMs : Nat × Nat := (18, 14)
/-- JRNL_HEAD (14_journal.md, R417). -/
def rJrnlHead : Nat := 0x50008
/-- Bits [63:0] of JRNL_HEAD: POSITION. -/
def fJrnlHeadPosition : Nat × Nat := (0, 64)
/-- JRNL_COMMITTED (14_journal.md, R417). -/
def rJrnlCommitted : Nat := 0x50010
/-- Bits [63:0] of JRNL_COMMITTED: POSITION. -/
def fJrnlCommittedPosition : Nat × Nat := (0, 64)
/-- JRNL_MIRROR_PEER (14_journal.md, R417). -/
def rJrnlMirrorPeer : Nat := 0x50018
/-- Bits [11:0] of JRNL_MIRROR_PEER: DEVICE. -/
def fJrnlMirrorPeerDevice : Nat × Nat := (0, 12)
/-- Bits [12:12] of JRNL_MIRROR_PEER: ENABLE. -/
def fJrnlMirrorPeerEnable : Nat × Nat := (12, 1)
/-- Bits [13:13] of JRNL_MIRROR_PEER: CONNECTED. -/
def fJrnlMirrorPeerConnected : Nat × Nat := (13, 1)
/-- Bits [14:14] of JRNL_MIRROR_PEER: RESYNC. -/
def fJrnlMirrorPeerResync : Nat × Nat := (14, 1)
/-- Bits [27:16] of JRNL_MIRROR_PEER: SOURCE0. -/
def fJrnlMirrorPeerSource0 : Nat × Nat := (16, 12)
/-- Bits [39:28] of JRNL_MIRROR_PEER: SOURCE1. -/
def fJrnlMirrorPeerSource1 : Nat × Nat := (28, 12)
/-- Bits [40:40] of JRNL_MIRROR_PEER: SOURCE0_VALID. -/
def fJrnlMirrorPeerSource0Valid : Nat × Nat := (40, 1)
/-- Bits [41:41] of JRNL_MIRROR_PEER: SOURCE1_VALID. -/
def fJrnlMirrorPeerSource1Valid : Nat × Nat := (41, 1)
/-- JRNL_LEASE_MS (14_journal.md, R417). -/
def rJrnlLeaseMs : Nat := 0x50020
/-- Bits [15:0] of JRNL_LEASE_MS: LEASE_MS. -/
def fJrnlLeaseMsLeaseMs : Nat × Nat := (0, 16)
/-- JRNL_HEARTBEAT (14_journal.md, R417). -/
def rJrnlHeartbeat : Nat := 0x50028
/-- Bits [0:0] of JRNL_HEARTBEAT: BEAT. -/
def fJrnlHeartbeatBeat : Nat × Nat := (0, 1)
/-- Bits [1:1] of JRNL_HEARTBEAT: ATTACH. -/
def fJrnlHeartbeatAttach : Nat × Nat := (1, 1)
/-- Bits [2:2] of JRNL_HEARTBEAT: DETACH. -/
def fJrnlHeartbeatDetach : Nat × Nat := (2, 1)
/-- Bits [63:32] of JRNL_HEARTBEAT: REMAINING_MS. -/
def fJrnlHeartbeatRemainingMs : Nat × Nat := (32, 32)
/-- JRNL_STATUS (14_journal.md, R417). -/
def rJrnlStatus : Nat := 0x50030
/-- Bits [0:0] of JRNL_STATUS: ORPHAN. -/
def fJrnlStatusOrphan : Nat × Nat := (0, 1)
/-- Bits [1:1] of JRNL_STATUS: REPLAYING. -/
def fJrnlStatusReplaying : Nat × Nat := (1, 1)
/-- Bits [2:2] of JRNL_STATUS: MIRROR_STALLED. -/
def fJrnlStatusMirrorStalled : Nat × Nat := (2, 1)
/-- Bits [3:3] of JRNL_STATUS: FLASH_DEGRADED. -/
def fJrnlStatusFlashDegraded : Nat × Nat := (3, 1)
/-- Bits [63:32] of JRNL_STATUS: REJECTED. -/
def fJrnlStatusRejected : Nat × Nat := (32, 32)
/-- JRNL_TAIL (14_journal.md, R417). -/
def rJrnlTail : Nat := 0x50038
/-- Bits [63:0] of JRNL_TAIL: POSITION. -/
def fJrnlTailPosition : Nat × Nat := (0, 64)
/-- JRNL_RECOVERY (14_journal.md, R417). -/
def rJrnlRecovery : Nat := 0x50040
/-- Bits [0:0] of JRNL_RECOVERY: GO. -/
def fJrnlRecoveryGo : Nat × Nat := (0, 1)
/-- Bits [55:6] of JRNL_RECOVERY: ADDR. -/
def fJrnlRecoveryAddr : Nat × Nat := (6, 50)
/-- JRNL_RECOVERY_STATUS (14_journal.md, R417). -/
def rJrnlRecoveryStatus : Nat := 0x50048
/-- Bits [0:0] of JRNL_RECOVERY_STATUS: DONE. -/
def fJrnlRecoveryStatusDone : Nat × Nat := (0, 1)
/-- Bits [63:32] of JRNL_RECOVERY_STATUS: ENTRIES. -/
def fJrnlRecoveryStatusEntries : Nat × Nat := (32, 32)
/-- JRNL_REATTACH_SEQ (14_journal.md, R417). -/
def rJrnlReattachSeq : Nat := 0x50050
/-- Bits [63:0] of JRNL_REATTACH_SEQ: REQ_SEQ. -/
def fJrnlReattachSeqReqSeq : Nat × Nat := (0, 64)
/-- JRNL_REATTACH (14_journal.md, R417). -/
def rJrnlReattach : Nat := 0x50058
/-- Bits [15:0] of JRNL_REATTACH: RING_SLOT. -/
def fJrnlReattachRingSlot : Nat × Nat := (0, 16)
/-- Bits [16:16] of JRNL_REATTACH: GO. -/
def fJrnlReattachGo : Nat × Nat := (16, 1)
/-- JRNL_REATTACH_NEXT (14_journal.md, R417). -/
def rJrnlReattachNext : Nat := 0x50060
/-- Bits [63:0] of JRNL_REATTACH_NEXT: NEXT_SEQ. -/
def fJrnlReattachNextNextSeq : Nat × Nat := (0, 64)
/-- JRNL_REATTACH_STATUS (14_journal.md, R417). -/
def rJrnlReattachStatus : Nat := 0x50068
/-- Bits [0:0] of JRNL_REATTACH_STATUS: BUSY. -/
def fJrnlReattachStatusBusy : Nat × Nat := (0, 1)
/-- Bits [3:1] of JRNL_REATTACH_STATUS: RESULT. -/
def fJrnlReattachStatusResult : Nat × Nat := (1, 3)
/-- JRNL_RECOVER (14_journal.md, R417). -/
def rJrnlRecover : Nat := 0x50070
/-- Bits [5:0] of JRNL_RECOVER: TENT. -/
def fJrnlRecoverTent : Nat × Nat := (0, 6)
/-- Bits [6:6] of JRNL_RECOVER: GO. -/
def fJrnlRecoverGo : Nat × Nat := (6, 1)
/-- Bits [7:7] of JRNL_RECOVER: BUSY. -/
def fJrnlRecoverBusy : Nat × Nat := (7, 1)
/-- Bits [10:8] of JRNL_RECOVER: RESULT. -/
def fJrnlRecoverResult : Nat × Nat := (8, 3)
/-- STRM_REG_ADDR (11_requests.md, R325). -/
def rStrmRegAddr : Nat := 0x60000
/-- Bits [55:6] of STRM_REG_ADDR: ADDR. -/
def fStrmRegAddrAddr : Nat × Nat := (6, 50)
/-- STRM_REG_CMD (11_requests.md, R325). -/
def rStrmRegCmd : Nat := 0x60008
/-- Bits [15:0] of STRM_REG_CMD: SLOT. -/
def fStrmRegCmdSlot : Nat × Nat := (0, 16)
/-- Bits [21:16] of STRM_REG_CMD: TENT. -/
def fStrmRegCmdTent : Nat × Nat := (16, 6)
/-- Bits [23:22] of STRM_REG_CMD: OP. -/
def fStrmRegCmdOp : Nat × Nat := (22, 2)
/-- Bits [28:24] of STRM_REG_CMD: LOG2. -/
def fStrmRegCmdLog2 : Nat × Nat := (24, 5)
/-- STRM_REG_STATUS (11_requests.md, R325). -/
def rStrmRegStatus : Nat := 0x60010
/-- Bits [2:0] of STRM_REG_STATUS: RESULT. -/
def fStrmRegStatusResult : Nat × Nat := (0, 3)
/-- Bits [7:3] of STRM_REG_STATUS: LOG2. -/
def fStrmRegStatusLog2 : Nat × Nat := (3, 5)
/-- Bits [13:8] of STRM_REG_STATUS: TENT. -/
def fStrmRegStatusTent : Nat × Nat := (8, 6)
/-- Bits [14:14] of STRM_REG_STATUS: IS_BOUND. -/
def fStrmRegStatusIsBound : Nat × Nat := (14, 1)
/-- STRM_REG_DATA (11_requests.md, R325). -/
def rStrmRegData : Nat := 0x60018
/-- Bits [55:6] of STRM_REG_DATA: ADDR. -/
def fStrmRegDataAddr : Nat × Nat := (6, 50)
/-- STRM_REG_REQ (11_requests.md, R325). -/
def rStrmRegReq : Nat := 0x60020
/-- Bits [63:0] of STRM_REG_REQ: SEQ. -/
def fStrmRegReqSeq : Nat × Nat := (0, 64)
/-- STRM_STATUS (11_requests.md, R325). -/
def rStrmStatus : Nat := 0x60028
/-- Bits [16:0] of STRM_STATUS: REGISTERED. -/
def fStrmStatusRegistered : Nat × Nat := (0, 17)
/-- Bits [33:17] of STRM_STATUS: BOUND. -/
def fStrmStatusBound : Nat × Nat := (17, 17)
/-- Bits [50:34] of STRM_STATUS: STALLED. -/
def fStrmStatusStalled : Nat × Nat := (34, 17)
/-- STRM_STALLS (11_requests.md, R325). -/
def rStrmStalls : Nat := 0x60030
/-- Bits [63:0] of STRM_STALLS: COUNT. -/
def fStrmStallsCount : Nat × Nat := (0, 64)
/-- KERF_VOCAB_BASE (10_text.md, R274). -/
def rKerfVocabBase (i : Nat) : Nat := 0x80000 + 0x8 * i
/-- Bits [0:0] of KERF_VOCAB_BASE: VALID. -/
def fKerfVocabBaseValid : Nat × Nat := (0, 1)
/-- Bits [1:1] of KERF_VOCAB_BASE: DESC_ERROR. -/
def fKerfVocabBaseDescError : Nat × Nat := (1, 1)
/-- Bits [2:2] of KERF_VOCAB_BASE: DRAINING. -/
def fKerfVocabBaseDraining : Nat × Nat := (2, 1)
/-- Bits [3:3] of KERF_VOCAB_BASE: SHARED. -/
def fKerfVocabBaseShared : Nat × Nat := (3, 1)
/-- Bits [4:4] of KERF_VOCAB_BASE: LOADING. -/
def fKerfVocabBaseLoading : Nat × Nat := (4, 1)
/-- Bits [55:6] of KERF_VOCAB_BASE: ADDR. -/
def fKerfVocabBaseAddr : Nat × Nat := (6, 50)
/-- Bits [61:56] of KERF_VOCAB_BASE: TENT. -/
def fKerfVocabBaseTent : Nat × Nat := (56, 6)
/-- KERF_CFG (10_text.md, R286). -/
def rKerfCfg : Nat := 0x80100
/-- Bits [19:0] of KERF_CFG: QUERY_DEFAULT. -/
def fKerfCfgQueryDefault : Nat × Nat := (0, 20)
/-- Bits [39:20] of KERF_CFG: PASSAGE_DEFAULT. -/
def fKerfCfgPassageDefault : Nat × Nat := (20, 20)
/-- KERF_LAST_ERROR (10_text.md, R302). -/
def rKerfLastError : Nat := 0x80108
/-- Bits [2:0] of KERF_LAST_ERROR: REASON. -/
def fKerfLastErrorReason : Nat × Nat := (0, 3)
/-- Bits [10:8] of KERF_LAST_ERROR: SLOT. -/
def fKerfLastErrorSlot : Nat × Nat := (8, 3)
/-- KERF_STATUS (10_text.md, R302). -/
def rKerfStatus (i : Nat) : Nat := 0x80180 + 0x8 * i
/-- Bits [8:0] of KERF_STATUS: SRAM_FREE. -/
def fKerfStatusSramFree : Nat × Nat := (0, 9)
/-- Bits [30:16] of KERF_STATUS: CONTEXTS. -/
def fKerfStatusContexts : Nat × Nat := (16, 15)
/-- Bits [47:32] of KERF_STATUS: STOP_MATCHES. -/
def fKerfStatusStopMatches : Nat × Nat := (32, 16)
/-- Bits [63:48] of KERF_STATUS: FALLBACK_ITEMS. -/
def fKerfStatusFallbackItems : Nat × Nat := (48, 16)
/-- GUY_IMAGE_BASE (10_text.md, R293). -/
def rGuyImageBase (i : Nat) : Nat := 0x80200 + 0x8 * i
/-- Bits [0:0] of GUY_IMAGE_BASE: VALID. -/
def fGuyImageBaseValid : Nat × Nat := (0, 1)
/-- Bits [1:1] of GUY_IMAGE_BASE: DESC_ERROR. -/
def fGuyImageBaseDescError : Nat × Nat := (1, 1)
/-- Bits [2:2] of GUY_IMAGE_BASE: DRAINING. -/
def fGuyImageBaseDraining : Nat × Nat := (2, 1)
/-- Bits [5:3] of GUY_IMAGE_BASE: VOCAB. -/
def fGuyImageBaseVocab : Nat × Nat := (3, 3)
/-- Bits [55:6] of GUY_IMAGE_BASE: ADDR. -/
def fGuyImageBaseAddr : Nat × Nat := (6, 50)
/-- Bits [61:56] of GUY_IMAGE_BASE: TENT. -/
def fGuyImageBaseTent : Nat × Nat := (56, 6)
/-- Bits [62:62] of GUY_IMAGE_BASE: LOADING. -/
def fGuyImageBaseLoading : Nat × Nat := (62, 1)
/-- GUY_STATUS (10_text.md, R302). -/
def rGuyStatus (i : Nat) : Nat := 0x80400 + 0x8 * i
/-- Bits [14:0] of GUY_STATUS: CONTEXTS. -/
def fGuyStatusContexts : Nat × Nat := (0, 15)
/-- Bits [31:16] of GUY_STATUS: LATE_MASKS. -/
def fGuyStatusLateMasks : Nat × Nat := (16, 16)
/-- Bits [47:32] of GUY_STATUS: DEAD. -/
def fGuyStatusDead : Nat × Nat := (32, 16)
/-- Bits [63:48] of GUY_STATUS: INCONSISTENT. -/
def fGuyStatusInconsistent : Nat × Nat := (48, 16)
/-- GUY_LAST_ERROR (10_text.md, R302). -/
def rGuyLastError : Nat := 0x80440
/-- Bits [2:0] of GUY_LAST_ERROR: REASON. -/
def fGuyLastErrorReason : Nat × Nat := (0, 3)
/-- Bits [13:8] of GUY_LAST_ERROR: SLOT. -/
def fGuyLastErrorSlot : Nat × Nat := (8, 6)
/-- LANTERN_INDEX_BASE (07_search.md, R193). -/
def rLanternIndexBase (i : Nat) : Nat := 0xA0000 + 0x8 * i
/-- Bits [0:0] of LANTERN_INDEX_BASE: VALID. -/
def fLanternIndexBaseValid : Nat × Nat := (0, 1)
/-- Bits [1:1] of LANTERN_INDEX_BASE: DESC_ERROR. -/
def fLanternIndexBaseDescError : Nat × Nat := (1, 1)
/-- Bits [2:2] of LANTERN_INDEX_BASE: DRAINING. -/
def fLanternIndexBaseDraining : Nat × Nat := (2, 1)
/-- Bits [55:6] of LANTERN_INDEX_BASE: ADDR. -/
def fLanternIndexBaseAddr : Nat × Nat := (6, 50)
/-- Bits [61:56] of LANTERN_INDEX_BASE: TENT. -/
def fLanternIndexBaseTent : Nat × Nat := (56, 6)
/-- LANTERN_CFG (07_search.md, R219). -/
def rLanternCfg : Nat := 0xA0200
/-- Bits [15:0] of LANTERN_CFG: CALLBACK_TIMEOUT_US. -/
def fLanternCfgCallbackTimeoutUs : Nat × Nat := (0, 16)
/-- Bits [31:16] of LANTERN_CFG: RECLAIM_INTERVAL_US. -/
def fLanternCfgReclaimIntervalUs : Nat × Nat := (16, 16)
/-- LANTERN_WORK (07_search.md, R219). -/
def rLanternWork : Nat := 0xA0208
/-- Bits [55:0] of LANTERN_WORK: BASE. -/
def fLanternWorkBase : Nat × Nat := (0, 56)
/-- LANTERN_STATUS (07_search.md, R220). -/
def rLanternStatus (i : Nat) : Nat := 0xA0400 + 0x8 * i
/-- Bits [12:0] of LANTERN_STATUS: ACTIVE. -/
def fLanternStatusActive : Nat × Nat := (0, 13)
/-- Bits [23:13] of LANTERN_STATUS: QUEUED. -/
def fLanternStatusQueued : Nat × Nat := (13, 11)
/-- Bits [24:24] of LANTERN_STATUS: MUTATING. -/
def fLanternStatusMutating : Nat × Nat := (24, 1)
/-- Bits [47:32] of LANTERN_STATUS: GATE_WAITS. -/
def fLanternStatusGateWaits : Nat × Nat := (32, 16)
/-- Bits [63:48] of LANTERN_STATUS: VERSION_STALLS. -/
def fLanternStatusVersionStalls : Nat × Nat := (48, 16)
/-- TBL_DESC_BASE (08_tables.md, R221). -/
def rTblDescBase (i : Nat) : Nat := 0xB0000 + 0x8 * i
/-- Bits [0:0] of TBL_DESC_BASE: VALID. -/
def fTblDescBaseValid : Nat × Nat := (0, 1)
/-- Bits [1:1] of TBL_DESC_BASE: DESC_ERROR. -/
def fTblDescBaseDescError : Nat × Nat := (1, 1)
/-- Bits [2:2] of TBL_DESC_BASE: DRAINING. -/
def fTblDescBaseDraining : Nat × Nat := (2, 1)
/-- Bits [55:6] of TBL_DESC_BASE: ADDR. -/
def fTblDescBaseAddr : Nat × Nat := (6, 50)
/-- Bits [61:56] of TBL_DESC_BASE: TENT. -/
def fTblDescBaseTent : Nat × Nat := (56, 6)
/-- TBL_SWITCH (08_tables.md, R235). -/
def rTblSwitch : Nat := 0xB0800
/-- Bits [7:0] of TBL_SWITCH: SLOT. -/
def fTblSwitchSlot : Nat × Nat := (0, 8)
/-- Bits [63:14] of TBL_SWITCH: ADDR. -/
def fTblSwitchAddr : Nat × Nat := (14, 50)
/-- TBL_SWITCH_AT (08_tables.md, R235). -/
def rTblSwitchAt : Nat := 0xB0808
/-- Bits [63:0] of TBL_SWITCH_AT: ACTIVATE_TICK. -/
def fTblSwitchAtActivateTick : Nat × Nat := (0, 64)
/-- TBL_CFG (08_tables.md, R238). -/
def rTblCfg : Nat := 0xB0810
/-- Bits [15:0] of TBL_CFG: SAMPLE_INTERVAL_US. -/
def fTblCfgSampleIntervalUs : Nat × Nat := (0, 16)
/-- TBL_WORK (08_tables.md, R238). -/
def rTblWork : Nat := 0xB0818
/-- Bits [55:0] of TBL_WORK: OFFSET. -/
def fTblWorkOffset : Nat × Nat := (0, 56)
/-- TBL_NEAR (08_tables.md, R238). -/
def rTblNear : Nat := 0xB0820
/-- Bits [3:0] of TBL_NEAR: MSD_0. -/
def fTblNearMsd0 : Nat × Nat := (0, 4)
/-- Bits [7:4] of TBL_NEAR: MSD_1. -/
def fTblNearMsd1 : Nat × Nat := (4, 4)
/-- Bits [11:8] of TBL_NEAR: MSD_2. -/
def fTblNearMsd2 : Nat × Nat := (8, 4)
/-- Bits [15:12] of TBL_NEAR: MSD_3. -/
def fTblNearMsd3 : Nat × Nat := (12, 4)
/-- TBL_STATUS (08_tables.md, R237). -/
def rTblStatus (i : Nat) : Nat := 0xB1000 + 0x8 * i
/-- Bits [31:0] of TBL_STATUS: VERSION. -/
def fTblStatusVersion : Nat × Nat := (0, 32)
/-- Bits [32:32] of TBL_STATUS: SWITCH_PENDING. -/
def fTblStatusSwitchPending : Nat × Nat := (32, 1)
/-- Bits [33:33] of TBL_STATUS: OLD_DRAINING. -/
def fTblStatusOldDraining : Nat × Nat := (33, 1)
/-- Bits [34:34] of TBL_STATUS: SWITCH_REFUSED. -/
def fTblStatusSwitchRefused : Nat × Nat := (34, 1)
/-- Bits [35:35] of TBL_STATUS: REPLICA_COPYING. -/
def fTblStatusReplicaCopying : Nat × Nat := (35, 1)
/-- Bits [63:40] of TBL_STATUS: OLD_REFS. -/
def fTblStatusOldRefs : Nat × Nat := (40, 24)
/-- TBL_ENGINE_STATUS (08_tables.md, R238). -/
def rTblEngineStatus (i : Nat) : Nat := 0xB1800 + 0x8 * i
/-- Bits [5:0] of TBL_ENGINE_STATUS: PARTS. -/
def fTblEngineStatusParts : Nat × Nat := (0, 6)
/-- Bits [39:8] of TBL_ENGINE_STATUS: ROW_READS. -/
def fTblEngineStatusRowReads : Nat × Nat := (8, 32)
/-- Bits [55:40] of TBL_ENGINE_STATUS: COALESCED. -/
def fTblEngineStatusCoalesced : Nat × Nat := (40, 16)
/-- Bits [63:56] of TBL_ENGINE_STATUS: REFUSED. -/
def fTblEngineStatusRefused : Nat × Nat := (56, 8)
/-- MEM_PANEL_TABLE_BASE (09_memory.md, R240). -/
def rMemPanelTableBase (i : Nat) : Nat := 0xC0000 + 0x8 * i
/-- Bits [0:0] of MEM_PANEL_TABLE_BASE: VALID. -/
def fMemPanelTableBaseValid : Nat × Nat := (0, 1)
/-- Bits [1:1] of MEM_PANEL_TABLE_BASE: CFG_ERROR. -/
def fMemPanelTableBaseCfgError : Nat × Nat := (1, 1)
/-- Bits [7:2] of MEM_PANEL_TABLE_BASE: RANGE_LOG2. -/
def fMemPanelTableBaseRangeLog2 : Nat × Nat := (2, 6)
/-- Bits [8:8] of MEM_PANEL_TABLE_BASE: RETAINED. -/
def fMemPanelTableBaseRetained : Nat × Nat := (8, 1)
/-- Bits [55:12] of MEM_PANEL_TABLE_BASE: DIR_ADDR. -/
def fMemPanelTableBaseDirAddr : Nat × Nat := (12, 44)
/-- MEM_FLASHSET_CFG (09_memory.md, R261). -/
def rMemFlashsetCfg (i : Nat) : Nat := 0xC0200 + 0x20 * i
/-- Bits [15:0] of MEM_FLASHSET_CFG: SSD_MASK. -/
def fMemFlashsetCfgSsdMask : Nat × Nat := (0, 16)
/-- Bits [16:16] of MEM_FLASHSET_CFG: VALID. -/
def fMemFlashsetCfgValid : Nat × Nat := (16, 1)
/-- Bits [17:17] of MEM_FLASHSET_CFG: CREATE. -/
def fMemFlashsetCfgCreate : Nat × Nat := (17, 1)
/-- Bits [18:18] of MEM_FLASHSET_CFG: PLP. -/
def fMemFlashsetCfgPlp : Nat × Nat := (18, 1)
/-- Bits [19:19] of MEM_FLASHSET_CFG: CFG_ERROR. -/
def fMemFlashsetCfgCfgError : Nat × Nat := (19, 1)
/-- MEM_FLASHSET_STATUS (09_memory.md, R261). -/
def rMemFlashsetStatus (i : Nat) : Nat := 0xC0208 + 0x20 * i
/-- Bits [2:0] of MEM_FLASHSET_STATUS: STATE. -/
def fMemFlashsetStatusState : Nat × Nat := (0, 3)
/-- Bits [23:8] of MEM_FLASHSET_STATUS: FAILED_SLOTS. -/
def fMemFlashsetStatusFailedSlots : Nat × Nat := (8, 16)
/-- Bits [63:32] of MEM_FLASHSET_STATUS: RECONSTRUCTS. -/
def fMemFlashsetStatusReconstructs : Nat × Nat := (32, 32)
/-- MEM_FLASHSET_EXTENTS (09_memory.md, R261). -/
def rMemFlashsetExtents (i : Nat) : Nat := 0xC0210 + 0x20 * i
/-- Bits [34:0] of MEM_FLASHSET_EXTENTS: DATA_EXTENTS. -/
def fMemFlashsetExtentsDataExtents : Nat × Nat := (0, 35)
/-- MEM_FLASHSET_REBUILD (09_memory.md, R261). -/
def rMemFlashsetRebuild (i : Nat) : Nat := 0xC0218 + 0x20 * i
/-- Bits [3:0] of MEM_FLASHSET_REBUILD: SLOT. -/
def fMemFlashsetRebuildSlot : Nat × Nat := (0, 4)
/-- Bits [4:4] of MEM_FLASHSET_REBUILD: GO. -/
def fMemFlashsetRebuildGo : Nat × Nat := (4, 1)
/-- Bits [5:5] of MEM_FLASHSET_REBUILD: DONE. -/
def fMemFlashsetRebuildDone : Nat × Nat := (5, 1)
/-- Bits [63:24] of MEM_FLASHSET_REBUILD: STRIPES_DONE. -/
def fMemFlashsetRebuildStripesDone : Nat × Nat := (24, 40)
/-- MEM_RETIRE (09_memory.md, R270). -/
def rMemRetire : Nat := 0xC0240
/-- Bits [23:0] of MEM_RETIRE: PHYS_PANEL. -/
def fMemRetirePhysPanel : Nat × Nat := (0, 24)
/-- MEM_RETIRE_STATUS (09_memory.md, R270). -/
def rMemRetireStatus : Nat := 0xC0248
/-- Bits [0:0] of MEM_RETIRE_STATUS: BUSY. -/
def fMemRetireStatusBusy : Nat × Nat := (0, 1)
/-- Bits [3:1] of MEM_RETIRE_STATUS: RESULT. -/
def fMemRetireStatusResult : Nat × Nat := (1, 3)
/-- Bits [63:32] of MEM_RETIRE_STATUS: RETIRED_COUNT. -/
def fMemRetireStatusRetiredCount : Nat × Nat := (32, 32)
/-- MEM_HINT (09_memory.md, R269). -/
def rMemHint : Nat := 0xC0250
/-- Bits [39:0] of MEM_HINT: PANEL. -/
def fMemHintPanel : Nat × Nat := (0, 40)
/-- Bits [45:40] of MEM_HINT: TENT. -/
def fMemHintTent : Nat × Nat := (40, 6)
/-- Bits [47:46] of MEM_HINT: OP. -/
def fMemHintOp : Nat × Nat := (46, 2)
/-- Bits [63:50] of MEM_HINT: COUNT_M1. -/
def fMemHintCountM1 : Nat × Nat := (50, 14)
/-- MEM_MAP (09_memory.md, R246). -/
def rMemMap : Nat := 0xC0258
/-- Bits [39:0] of MEM_MAP: PANEL. -/
def fMemMapPanel : Nat × Nat := (0, 40)
/-- Bits [45:40] of MEM_MAP: TENT. -/
def fMemMapTent : Nat × Nat := (40, 6)
/-- Bits [47:46] of MEM_MAP: OP. -/
def fMemMapOp : Nat × Nat := (46, 2)
/-- Bits [63:50] of MEM_MAP: COUNT_M1. -/
def fMemMapCountM1 : Nat × Nat := (50, 14)
/-- MEM_OP_STATUS (09_memory.md, R248). -/
def rMemOpStatus : Nat := 0xC0260
/-- Bits [0:0] of MEM_OP_STATUS: BUSY. -/
def fMemOpStatusBusy : Nat × Nat := (0, 1)
/-- Bits [1:1] of MEM_OP_STATUS: OVERRUN. -/
def fMemOpStatusOverrun : Nat × Nat := (1, 1)
/-- Bits [7:4] of MEM_OP_STATUS: RESULT. -/
def fMemOpStatusResult : Nat × Nat := (4, 4)
/-- Bits [8:8] of MEM_OP_STATUS: FROM_HINT. -/
def fMemOpStatusFromHint : Nat × Nat := (8, 1)
/-- Bits [46:32] of MEM_OP_STATUS: PANELS_DONE. -/
def fMemOpStatusPanelsDone : Nat × Nat := (32, 15)
/-- MEM_PANEL_READ (09_memory.md, R242). -/
def rMemPanelRead : Nat := 0xC0268
/-- Bits [39:0] of MEM_PANEL_READ: PANEL. -/
def fMemPanelReadPanel : Nat × Nat := (0, 40)
/-- Bits [45:40] of MEM_PANEL_READ: TENT. -/
def fMemPanelReadTent : Nat × Nat := (40, 6)
/-- MEM_PANEL_DATA0 (09_memory.md, R242). -/
def rMemPanelData0 : Nat := 0xC0270
/-- Bits [63:0] of MEM_PANEL_DATA0: WORD0. -/
def fMemPanelData0Word0 : Nat × Nat := (0, 64)
/-- MEM_PANEL_DATA1 (09_memory.md, R242). -/
def rMemPanelData1 : Nat := 0xC0278
/-- Bits [63:0] of MEM_PANEL_DATA1: WORD1. -/
def fMemPanelData1Word1 : Nat × Nat := (0, 64)
/-- MEM_HOST_REGION (09_memory.md, R252). -/
def rMemHostRegion : Nat := 0xC0280
/-- Bits [55:16] of MEM_HOST_REGION: BASE. -/
def fMemHostRegionBase : Nat × Nat := (16, 40)
/-- Bits [63:56] of MEM_HOST_REGION: SIZE_GIB. -/
def fMemHostRegionSizeGib : Nat × Nat := (56, 8)
/-- MEM_PTPOOL (09_memory.md, R252). -/
def rMemPtpool : Nat := 0xC0288
/-- Bits [55:16] of MEM_PTPOOL: BASE. -/
def fMemPtpoolBase : Nat × Nat := (16, 40)
/-- Bits [63:56] of MEM_PTPOOL: SIZE_64MIB. -/
def fMemPtpoolSize64mib : Nat × Nat := (56, 8)
/-- MEM_TENT_STATUS (09_memory.md, R272). -/
def rMemTentStatus (i : Nat) : Nat := 0xC0400 + 0x8 * i
/-- Bits [23:0] of MEM_TENT_STATUS: RESIDENT. -/
def fMemTentStatusResident : Nat × Nat := (0, 24)
/-- Bits [47:24] of MEM_TENT_STATUS: PINNED. -/
def fMemTentStatusPinned : Nat × Nat := (24, 24)
/-- Bits [59:48] of MEM_TENT_STATUS: MIGRATING. -/
def fMemTentStatusMigrating : Nat × Nat := (48, 12)
/-- MEM_MIG_STATUS (09_memory.md, R272). -/
def rMemMigStatus (i : Nat) : Nat := 0xC0600 + 0x8 * i
/-- Bits [6:0] of MEM_MIG_STATUS: IN_FLIGHT. -/
def fMemMigStatusInFlight : Nat × Nat := (0, 7)
/-- Bits [19:7] of MEM_MIG_STATUS: QUEUED. -/
def fMemMigStatusQueued : Nat × Nat := (7, 13)
/-- Bits [47:32] of MEM_MIG_STATUS: EVICT_ABORTED. -/
def fMemMigStatusEvictAborted : Nat × Nat := (32, 16)
/-- Bits [63:48] of MEM_MIG_STATUS: QUOTA_FAILURES. -/
def fMemMigStatusQuotaFailures : Nat × Nat := (48, 16)
/-- FAB_DEVICE_NUM (15_fabric.md, R459). -/
def rFabDeviceNum : Nat := 0x100000
/-- Bits [11:0] of FAB_DEVICE_NUM: DEVICE. -/
def fFabDeviceNumDevice : Nat × Nat := (0, 12)
/-- Bits [12:12] of FAB_DEVICE_NUM: LOCKED. -/
def fFabDeviceNumLocked : Nat × Nat := (12, 1)
/-- FAB_CFG (15_fabric.md, R459). -/
def rFabCfg : Nat := 0x100008
/-- Bits [15:0] of FAB_CFG: REMOTE_TIMEOUT_MS. -/
def fFabCfgRemoteTimeoutMs : Nat × Nat := (0, 16)
/-- Bits [31:16] of FAB_CFG: COLL_TIMEOUT_MS. -/
def fFabCfgCollTimeoutMs : Nat × Nat := (16, 16)
/-- Bits [47:32] of FAB_CFG: ROUTE_HOLD_US. -/
def fFabCfgRouteHoldUs : Nat × Nat := (32, 16)
/-- Bits [48:48] of FAB_CFG: LINKS_GO. -/
def fFabCfgLinksGo : Nat × Nat := (48, 1)
/-- FAB_STATUS (15_fabric.md, R459). -/
def rFabStatus : Nat := 0x100010
/-- Bits [11:0] of FAB_STATUS: TIME_ROOT. -/
def fFabStatusTimeRoot : Nat × Nat := (0, 12)
/-- Bits [23:12] of FAB_STATUS: ROOT_HOPS. -/
def fFabStatusRootHops : Nat × Nat := (12, 12)
/-- Bits [27:24] of FAB_STATUS: TIME_PARENT. -/
def fFabStatusTimeParent : Nat × Nat := (24, 4)
/-- Bits [28:28] of FAB_STATUS: PARENT_VALID. -/
def fFabStatusParentValid : Nat × Nat := (28, 1)
/-- Bits [44:29] of FAB_STATUS: LINKS_UP. -/
def fFabStatusLinksUp : Nat × Nat := (29, 16)
/-- FAB_STALE (15_fabric.md, R459). -/
def rFabStale : Nat := 0x100018
/-- Bits [63:0] of FAB_STALE: STALE_REPLIES. -/
def fFabStaleStaleReplies : Nat × Nat := (0, 64)
/-- FAB_ROUTE_SEL (15_fabric.md, R459). -/
def rFabRouteSel : Nat := 0x100020
/-- Bits [11:0] of FAB_ROUTE_SEL: DEVICE. -/
def fFabRouteSelDevice : Nat × Nat := (0, 12)
/-- FAB_ROUTE_DATA (15_fabric.md, R459). -/
def rFabRouteData : Nat := 0x100028
/-- Bits [3:0] of FAB_ROUTE_DATA: PRIMARY. -/
def fFabRouteDataPrimary : Nat × Nat := (0, 4)
/-- Bits [4:4] of FAB_ROUTE_DATA: PRIMARY_VALID. -/
def fFabRouteDataPrimaryValid : Nat × Nat := (4, 1)
/-- Bits [8:5] of FAB_ROUTE_DATA: ALTERNATE. -/
def fFabRouteDataAlternate : Nat × Nat := (5, 4)
/-- Bits [9:9] of FAB_ROUTE_DATA: ALTERNATE_VALID. -/
def fFabRouteDataAlternateValid : Nat × Nat := (9, 1)
/-- FAB_LINK_CFG (15_fabric.md, R459). -/
def rFabLinkCfg (i : Nat) : Nat := 0x100100 + 0x20 * i
/-- Bits [0:0] of FAB_LINK_CFG: ENABLE. -/
def fFabLinkCfgEnable : Nat × Nat := (0, 1)
/-- Bits [1:1] of FAB_LINK_CFG: DATELINE. -/
def fFabLinkCfgDateline : Nat × Nat := (1, 1)
/-- FAB_LINK_STATUS (15_fabric.md, R459). -/
def rFabLinkStatus (i : Nat) : Nat := 0x100108 + 0x20 * i
/-- Bits [2:0] of FAB_LINK_STATUS: STATE. -/
def fFabLinkStatusState : Nat × Nat := (0, 3)
/-- Bits [6:3] of FAB_LINK_STATUS: DOWN_REASON. -/
def fFabLinkStatusDownReason : Nat × Nat := (3, 4)
/-- Bits [19:8] of FAB_LINK_STATUS: PEER_DEVICE. -/
def fFabLinkStatusPeerDevice : Nat × Nat := (8, 12)
/-- Bits [23:20] of FAB_LINK_STATUS: PEER_LINK. -/
def fFabLinkStatusPeerLink : Nat × Nat := (20, 4)
/-- Bits [39:24] of FAB_LINK_STATUS: RTT_TICKS. -/
def fFabLinkStatusRttTicks : Nat × Nat := (24, 16)
/-- Bits [47:40] of FAB_LINK_STATUS: SKEW. -/
def fFabLinkStatusSkew : Nat × Nat := (40, 8)
/-- FAB_LINK_COUNTS (15_fabric.md, R459). -/
def rFabLinkCounts (i : Nat) : Nat := 0x100110 + 0x20 * i
/-- Bits [31:0] of FAB_LINK_COUNTS: REPLAYS. -/
def fFabLinkCountsReplays : Nat × Nat := (0, 32)
/-- Bits [63:32] of FAB_LINK_COUNTS: FEC_CORRECTED. -/
def fFabLinkCountsFecCorrected : Nat × Nat := (32, 32)
/-- FAB_LINK_ERRS (15_fabric.md, R459). -/
def rFabLinkErrs (i : Nat) : Nat := 0x100118 + 0x20 * i
/-- Bits [31:0] of FAB_LINK_ERRS: FEC_UNCORRECTABLE. -/
def fFabLinkErrsFecUncorrectable : Nat × Nat := (0, 32)
/-- Bits [47:32] of FAB_LINK_ERRS: DOWN_EVENTS. -/
def fFabLinkErrsDownEvents : Nat × Nat := (32, 16)
/-- Bits [63:48] of FAB_LINK_ERRS: DROPPED. -/
def fFabLinkErrsDropped : Nat × Nat := (48, 16)
/-- FAB_TENT_SPAN (15_fabric.md, R459). -/
def rFabTentSpan (i : Nat) : Nat := 0x100400 + 0x8 * i
/-- Bits [11:0] of FAB_TENT_SPAN: LOW. -/
def fFabTentSpanLow : Nat × Nat := (0, 12)
/-- Bits [23:12] of FAB_TENT_SPAN: HIGH. -/
def fFabTentSpanHigh : Nat × Nat := (12, 12)
/-- Bits [24:24] of FAB_TENT_SPAN: ENABLE. -/
def fFabTentSpanEnable : Nat × Nat := (24, 1)
/-- FAB_TENT_COLLQ (15_fabric.md, R459). -/
def rFabTentCollq (i : Nat) : Nat := 0x100600 + 0x8 * i
/-- Bits [3:0] of FAB_TENT_COLLQ: LOG2. -/
def fFabTentCollqLog2 : Nat × Nat := (0, 4)
/-- Bits [4:4] of FAB_TENT_COLLQ: VALID. -/
def fFabTentCollqValid : Nat × Nat := (4, 1)
/-- Bits [5:5] of FAB_TENT_COLLQ: CFG_ERROR. -/
def fFabTentCollqCfgError : Nat × Nat := (5, 1)
/-- Bits [55:6] of FAB_TENT_COLLQ: ADDR. -/
def fFabTentCollqAddr : Nat × Nat := (6, 50)
/-- FAB_COLL_ADDR (15_fabric.md, R459). -/
def rFabCollAddr (i : Nat) : Nat := 0x100800 + 0x10 * i
/-- Bits [55:6] of FAB_COLL_ADDR: ADDR. -/
def fFabCollAddrAddr : Nat × Nat := (6, 50)
/-- FAB_COLL_CFG (15_fabric.md, R459). -/
def rFabCollCfg (i : Nat) : Nat := 0x100808 + 0x10 * i
/-- Bits [0:0] of FAB_COLL_CFG: VALID. -/
def fFabCollCfgValid : Nat × Nat := (0, 1)
/-- Bits [1:1] of FAB_COLL_CFG: CFG_ERROR. -/
def fFabCollCfgCfgError : Nat × Nat := (1, 1)
/-- Bits [13:2] of FAB_COLL_CFG: MEMBERS_M1. -/
def fFabCollCfgMembersM1 : Nat × Nat := (2, 12)
/-- Bits [19:14] of FAB_COLL_CFG: TENT. -/
def fFabCollCfgTent : Nat × Nat := (14, 6)
/-- SEC_CMD (16_security.md, R469). -/
def rSecCmd : Nat := 0x120000
/-- Bits [4:0] of SEC_CMD: OP. -/
def fSecCmdOp : Nat × Nat := (0, 5)
/-- Bits [23:8] of SEC_CMD: SLOT. -/
def fSecCmdSlot : Nat × Nat := (8, 16)
/-- Bits [29:24] of SEC_CMD: TENT. -/
def fSecCmdTent : Nat × Nat := (24, 6)
/-- Bits [30:30] of SEC_CMD: TENT_VALID. -/
def fSecCmdTentValid : Nat × Nat := (30, 1)
/-- SEC_CMD_ADDR (16_security.md, R469). -/
def rSecCmdAddr : Nat := 0x120008
/-- Bits [55:6] of SEC_CMD_ADDR: ADDR. -/
def fSecCmdAddrAddr : Nat × Nat := (6, 50)
/-- SEC_CMD_STATUS (16_security.md, R469). -/
def rSecCmdStatus : Nat := 0x120010
/-- Bits [0:0] of SEC_CMD_STATUS: BUSY. -/
def fSecCmdStatusBusy : Nat × Nat := (0, 1)
/-- Bits [4:1] of SEC_CMD_STATUS: RESULT. -/
def fSecCmdStatusResult : Nat × Nat := (1, 4)
/-- Bits [63:32] of SEC_CMD_STATUS: OUT_BYTES. -/
def fSecCmdStatusOutBytes : Nat × Nat := (32, 32)
/-- SEC_IMPORT_DST (16_security.md, R469). -/
def rSecImportDst : Nat := 0x120018
/-- Bits [55:0] of SEC_IMPORT_DST: ADDR. -/
def fSecImportDstAddr : Nat × Nat := (0, 56)
/-- SEC_ID (16_security.md, R469). -/
def rSecId : Nat := 0x120020
/-- Bits [63:0] of SEC_ID: DEVICE_TAG. -/
def fSecIdDeviceTag : Nat × Nat := (0, 64)
/-- SEC_STATE (16_security.md, R469). -/
def rSecState : Nat := 0x120028
/-- Bits [0:0] of SEC_STATE: IDENTITY_OK. -/
def fSecStateIdentityOk : Nat × Nat := (0, 1)
/-- Bits [1:1] of SEC_STATE: ENTROPY_OK. -/
def fSecStateEntropyOk : Nat × Nat := (1, 1)
/-- Bits [2:2] of SEC_STATE: CONSENT_ACTIVE. -/
def fSecStateConsentActive : Nat × Nat := (2, 1)
/-- Bits [23:8] of SEC_STATE: KEM_BUSY. -/
def fSecStateKemBusy : Nat × Nat := (8, 16)
/-- Bits [40:24] of SEC_STATE: SESSIONS. -/
def fSecStateSessions : Nat × Nat := (24, 17)
/-- SEC_FLOOR (16_security.md, R469). -/
def rSecFloor (i : Nat) : Nat := 0x120100 + 0x8 * i
/-- Bits [31:0] of SEC_FLOOR: FLOOR. -/
def fSecFloorFloor : Nat × Nat := (0, 32)
/-- Bits [63:32] of SEC_FLOOR: RUNNING_SVN. -/
def fSecFloorRunningSvn : Nat × Nat := (32, 32)
/-- SEC_KEYSLOT (16_security.md, R469). -/
def rSecKeyslot (i : Nat) : Nat := 0x120800 + 0x10 * i
/-- Bits [0:0] of SEC_KEYSLOT: VALID. -/
def fSecKeyslotValid : Nat × Nat := (0, 1)
/-- Bits [1:1] of SEC_KEYSLOT: SEALED. -/
def fSecKeyslotSealed : Nat × Nat := (1, 1)
/-- Bits [2:2] of SEC_KEYSLOT: DEBUG_CONSENT. -/
def fSecKeyslotDebugConsent : Nat × Nat := (2, 1)
/-- Bits [3:3] of SEC_KEYSLOT: IN_USE. -/
def fSecKeyslotInUse : Nat × Nat := (3, 1)
/-- Bits [4:4] of SEC_KEYSLOT: CONSENT_ACTIVE. -/
def fSecKeyslotConsentActive : Nat × Nat := (4, 1)
/-- SEC_KEYID (16_security.md, R469). -/
def rSecKeyid (i : Nat) : Nat := 0x120808 + 0x10 * i
/-- Bits [63:0] of SEC_KEYID: KEY_ID. -/
def fSecKeyidKeyId : Nat × Nat := (0, 64)
/-- RAS_INJECT_SEL (17_ras.md, R506). -/
def rRasInjectSel : Nat := 0x130000
/-- Bits [11:0] of RAS_INJECT_SEL: ISLAND. -/
def fRasInjectSelIsland : Nat × Nat := (0, 12)
/-- Bits [31:16] of RAS_INJECT_SEL: DETECTOR. -/
def fRasInjectSelDetector : Nat × Nat := (16, 16)
/-- RAS_INJECT_MASK (17_ras.md, R506). -/
def rRasInjectMask : Nat := 0x130008
/-- Bits [38:0] of RAS_INJECT_MASK: MASK. -/
def fRasInjectMaskMask : Nat × Nat := (0, 39)
/-- RAS_INJECT_ARM (17_ras.md, R506). -/
def rRasInjectArm : Nat := 0x130010
/-- Bits [0:0] of RAS_INJECT_ARM: ARM. -/
def fRasInjectArmArm : Nat × Nat := (0, 1)
/-- Bits [1:1] of RAS_INJECT_ARM: ARMED. -/
def fRasInjectArmArmed : Nat × Nat := (1, 1)
/-- Bits [2:2] of RAS_INJECT_ARM: FIRED. -/
def fRasInjectArmFired : Nat × Nat := (2, 1)
/-- Bits [3:3] of RAS_INJECT_ARM: REFUSED. -/
def fRasInjectArmRefused : Nat × Nat := (3, 1)
/-- Bits [63:32] of RAS_INJECT_ARM: FIRE_COUNT. -/
def fRasInjectArmFireCount : Nat × Nat := (32, 32)
/-- RAS_LOG_BASE (17_ras.md, R506). -/
def rRasLogBase : Nat := 0x130018
/-- Bits [0:0] of RAS_LOG_BASE: VALID. -/
def fRasLogBaseValid : Nat × Nat := (0, 1)
/-- Bits [5:1] of RAS_LOG_BASE: LOG2. -/
def fRasLogBaseLog2 : Nat × Nat := (1, 5)
/-- Bits [55:6] of RAS_LOG_BASE: ADDR. -/
def fRasLogBaseAddr : Nat × Nat := (6, 50)
/-- Bits [56:56] of RAS_LOG_BASE: CFG_ERROR. -/
def fRasLogBaseCfgError : Nat × Nat := (56, 1)
/-- RAS_LOG_STATUS (17_ras.md, R506). -/
def rRasLogStatus : Nat := 0x130020
/-- Bits [10:0] of RAS_LOG_STATUS: HELD. -/
def fRasLogStatusHeld : Nat × Nat := (0, 11)
/-- Bits [11:11] of RAS_LOG_STATUS: OVERFLOW. -/
def fRasLogStatusOverflow : Nat × Nat := (11, 1)
/-- Bits [63:32] of RAS_LOG_STATUS: LOST. -/
def fRasLogStatusLost : Nat × Nat := (32, 32)
/-- RAS_FAILSAFE (17_ras.md, R506). -/
def rRasFailsafe : Nat := 0x130028
/-- Bits [0:0] of RAS_FAILSAFE: ACTIVE. -/
def fRasFailsafeActive : Nat × Nat := (0, 1)
/-- Bits [1:1] of RAS_FAILSAFE: FORCE. -/
def fRasFailsafeForce : Nat × Nat := (1, 1)
/-- Bits [2:2] of RAS_FAILSAFE: SCOPE_ALL. -/
def fRasFailsafeScopeAll : Nat × Nat := (2, 1)
/-- Bits [15:8] of RAS_FAILSAFE: CAUSE. -/
def fRasFailsafeCause : Nat × Nat := (8, 8)
/-- RAS_FAILSAFE_TICK (17_ras.md, R506). -/
def rRasFailsafeTick : Nat := 0x130030
/-- Bits [63:0] of RAS_FAILSAFE_TICK: TICK. -/
def fRasFailsafeTickTick : Nat × Nat := (0, 64)
/-- RAS_FAILSAFE_TENTS (17_ras.md, R506). -/
def rRasFailsafeTents : Nat := 0x130038
/-- Bits [63:0] of RAS_FAILSAFE_TENTS: TENTS. -/
def fRasFailsafeTentsTents : Nat × Nat := (0, 64)
/-- RAS_SCRUB_CFG (17_ras.md, R506). -/
def rRasScrubCfg : Nat := 0x130040
/-- Bits [7:0] of RAS_SCRUB_CFG: SCRUB_PERIOD_H. -/
def fRasScrubCfgScrubPeriodH : Nat × Nat := (0, 8)
/-- Bits [8:8] of RAS_SCRUB_CFG: ENABLE. -/
def fRasScrubCfgEnable : Nat × Nat := (8, 1)
/-- RAS_REMAP_STATUS (17_ras.md, R506). -/
def rRasRemapStatus : Nat := 0x130048
/-- Bits [12:0] of RAS_REMAP_STATUS: ENTRIES. -/
def fRasRemapStatusEntries : Nat × Nat := (0, 13)
/-- Bits [13:13] of RAS_REMAP_STATUS: LIST_FULL. -/
def fRasRemapStatusListFull : Nat × Nat := (13, 1)
/-- Bits [21:14] of RAS_REMAP_STATUS: RETIRED_BAYS. -/
def fRasRemapStatusRetiredBays : Nat × Nat := (14, 8)
/-- RAS_CLASS_COUNT (17_ras.md, R506). -/
def rRasClassCount (i : Nat) : Nat := 0x130100 + 0x8 * i
/-- Bits [31:0] of RAS_CLASS_COUNT: CORRECTED. -/
def fRasClassCountCorrected : Nat × Nat := (0, 32)
/-- Bits [63:32] of RAS_CLASS_COUNT: UNCORRECTED. -/
def fRasClassCountUncorrected : Nat × Nat := (32, 32)
/-- OBS_TRACE_BASE (18_observability.md, R518). -/
def rObsTraceBase : Nat := 0x140000
/-- Bits [55:12] of OBS_TRACE_BASE: ADDR. -/
def fObsTraceBaseAddr : Nat × Nat := (12, 44)
/-- OBS_TRACE_SIZE (18_observability.md, R518). -/
def rObsTraceSize : Nat := 0x140008
/-- Bits [12:0] of OBS_TRACE_SIZE: AREA_MIB. -/
def fObsTraceSizeAreaMib : Nat × Nat := (0, 13)
/-- Bits [25:13] of OBS_TRACE_SIZE: CURRENT_MIB. -/
def fObsTraceSizeCurrentMib : Nat × Nat := (13, 13)
/-- OBS_TRACE_CTL (18_observability.md, R518). -/
def rObsTraceCtl : Nat := 0x140010
/-- Bits [0:0] of OBS_TRACE_CTL: ENABLE. -/
def fObsTraceCtlEnable : Nat × Nat := (0, 1)
/-- Bits [15:1] of OBS_TRACE_CTL: CATEGORIES. -/
def fObsTraceCtlCategories : Nat × Nat := (1, 15)
/-- Bits [16:16] of OBS_TRACE_CTL: TENT_EN. -/
def fObsTraceCtlTentEn : Nat × Nat := (16, 1)
/-- Bits [22:17] of OBS_TRACE_CTL: TENT. -/
def fObsTraceCtlTent : Nat × Nat := (17, 6)
/-- Bits [23:23] of OBS_TRACE_CTL: WINDOWED. -/
def fObsTraceCtlWindowed : Nat × Nat := (23, 1)
/-- OBS_TRACE_PRODUCER (18_observability.md, R518). -/
def rObsTraceProducer : Nat := 0x140018
/-- Bits [63:0] of OBS_TRACE_PRODUCER: PRODUCER. -/
def fObsTraceProducerProducer : Nat × Nat := (0, 64)
/-- OBS_TRACE_CONSUMER (18_observability.md, R518). -/
def rObsTraceConsumer : Nat := 0x140020
/-- Bits [63:0] of OBS_TRACE_CONSUMER: CONSUMER. -/
def fObsTraceConsumerConsumer : Nat × Nat := (0, 64)
/-- OBS_TRACE_WIN_START (18_observability.md, R518). -/
def rObsTraceWinStart : Nat := 0x140028
/-- Bits [63:0] of OBS_TRACE_WIN_START: WIN_START. -/
def fObsTraceWinStartWinStart : Nat × Nat := (0, 64)
/-- OBS_TRACE_WIN_END (18_observability.md, R518). -/
def rObsTraceWinEnd : Nat := 0x140030
/-- Bits [63:0] of OBS_TRACE_WIN_END: WIN_END. -/
def fObsTraceWinEndWinEnd : Nat × Nat := (0, 64)
/-- OBS_TRACE_LOST (18_observability.md, R518). -/
def rObsTraceLost : Nat := 0x140038
/-- Bits [63:0] of OBS_TRACE_LOST: LOST. -/
def fObsTraceLostLost : Nat × Nat := (0, 64)
/-- OBS_TRACE_RESERVE (18_observability.md, R524). -/
def rObsTraceReserve : Nat := 0x140040
/-- Bits [11:0] of OBS_TRACE_RESERVE: RESERVE_MIB. -/
def fObsTraceReserveReserveMib : Nat × Nat := (0, 12)
/-- Bits [31:12] of OBS_TRACE_RESERVE: PRE_US. -/
def fObsTraceReservePreUs : Nat × Nat := (12, 20)
/-- Bits [51:32] of OBS_TRACE_RESERVE: POST_US. -/
def fObsTraceReservePostUs : Nat × Nat := (32, 20)
/-- OBS_TRIGGER (18_observability.md, R524). -/
def rObsTrigger : Nat := 0x140048
/-- Bits [2:0] of OBS_TRIGGER: SOURCE. -/
def fObsTriggerSource : Nat × Nat := (0, 3)
/-- Bits [3:3] of OBS_TRIGGER: ARM. -/
def fObsTriggerArm : Nat × Nat := (3, 1)
/-- Bits [4:4] of OBS_TRIGGER: FIRE. -/
def fObsTriggerFire : Nat × Nat := (4, 1)
/-- Bits [5:5] of OBS_TRIGGER: REFUSED. -/
def fObsTriggerRefused : Nat × Nat := (5, 1)
/-- Bits [7:6] of OBS_TRIGGER: STATE. -/
def fObsTriggerState : Nat × Nat := (6, 2)
/-- OBS_TRIGGER_ARG (18_observability.md, R524). -/
def rObsTriggerArg : Nat := 0x140050
/-- Bits [63:0] of OBS_TRIGGER_ARG: ARG. -/
def fObsTriggerArgArg : Nat × Nat := (0, 64)
/-- OBS_TRIGGER_TICK (18_observability.md, R524). -/
def rObsTriggerTick : Nat := 0x140058
/-- Bits [63:0] of OBS_TRIGGER_TICK: TICK. -/
def fObsTriggerTickTick : Nat × Nat := (0, 64)
/-- OBS_RESERVE_STATUS (18_observability.md, R524). -/
def rObsReserveStatus : Nat := 0x140060
/-- Bits [31:0] of OBS_RESERVE_STATUS: OLDEST. -/
def fObsReserveStatusOldest : Nat × Nat := (0, 32)
/-- Bits [63:32] of OBS_RESERVE_STATUS: COUNT. -/
def fObsReserveStatusCount : Nat × Nat := (32, 32)
/-- OBS_RESERVE_LOST (18_observability.md, R524). -/
def rObsReserveLost : Nat := 0x140068
/-- Bits [63:0] of OBS_RESERVE_LOST: RESERVE_OVERWRITTEN. -/
def fObsReserveLostReserveOverwritten : Nat × Nat := (0, 64)
/-- OBS_CTR_SNAPSHOT_ADDR (18_observability.md, R524). -/
def rObsCtrSnapshotAddr : Nat := 0x140070
/-- Bits [55:6] of OBS_CTR_SNAPSHOT_ADDR: ADDR. -/
def fObsCtrSnapshotAddrAddr : Nat × Nat := (6, 50)
/-- OBS_CTR_SNAPSHOT_AT (18_observability.md, R524). -/
def rObsCtrSnapshotAt : Nat := 0x140078
/-- Bits [63:0] of OBS_CTR_SNAPSHOT_AT: SNAPSHOT_TICK. -/
def fObsCtrSnapshotAtSnapshotTick : Nat × Nat := (0, 64)
/-- OBS_CTR_SNAPSHOT_DONE (18_observability.md, R524). -/
def rObsCtrSnapshotDone : Nat := 0x140080
/-- Bits [0:0] of OBS_CTR_SNAPSHOT_DONE: DONE. -/
def fObsCtrSnapshotDoneDone : Nat × Nat := (0, 1)
/-- Bits [1:1] of OBS_CTR_SNAPSHOT_DONE: PENDING. -/
def fObsCtrSnapshotDonePending : Nat × Nat := (1, 1)
/-- Bits [2:2] of OBS_CTR_SNAPSHOT_DONE: REFUSED. -/
def fObsCtrSnapshotDoneRefused : Nat × Nat := (2, 1)
/-- OBS_FWLOG_BASE (18_observability.md, R525). -/
def rObsFwlogBase : Nat := 0x140090
/-- Bits [0:0] of OBS_FWLOG_BASE: VALID. -/
def fObsFwlogBaseValid : Nat × Nat := (0, 1)
/-- Bits [5:1] of OBS_FWLOG_BASE: LOG2. -/
def fObsFwlogBaseLog2 : Nat × Nat := (1, 5)
/-- Bits [55:6] of OBS_FWLOG_BASE: ADDR. -/
def fObsFwlogBaseAddr : Nat × Nat := (6, 50)
/-- Bits [56:56] of OBS_FWLOG_BASE: CFG_ERROR. -/
def fObsFwlogBaseCfgError : Nat × Nat := (56, 1)
/-- OBS_FWLOG_STATUS (18_observability.md, R525). -/
def rObsFwlogStatus : Nat := 0x140098
/-- Bits [63:0] of OBS_FWLOG_STATUS: LOST. -/
def fObsFwlogStatusLost : Nat × Nat := (0, 64)
/-- OBS_FWLOG_LEVEL (18_observability.md, R525). -/
def rObsFwlogLevel : Nat := 0x1400A0
/-- Bits [1:0] of OBS_FWLOG_LEVEL: LEVEL. -/
def fObsFwlogLevelLevel : Nat × Nat := (0, 2)
/-- OBS_AO_BAY (18_observability.md, R517). -/
def rObsAoBay (i : Nat) : Nat := 0x141000 + 0x8 * i
/-- Bits [63:0] of OBS_AO_BAY: TRUSS_BUSY. -/
def fObsAoBayTrussBusy : Nat × Nat := (0, 64)
/-- OBS_AO_TENT_ADMIT (18_observability.md, R517). -/
def rObsAoTentAdmit (i : Nat) : Nat := 0x141800 + 0x10 * i
/-- Bits [63:0] of OBS_AO_TENT_ADMIT: ADMISSIONS. -/
def fObsAoTentAdmitAdmissions : Nat × Nat := (0, 64)
/-- OBS_AO_TENT_DONE (18_observability.md, R517). -/
def rObsAoTentDone (i : Nat) : Nat := 0x141808 + 0x10 * i
/-- Bits [63:0] of OBS_AO_TENT_DONE: COMPLETIONS. -/
def fObsAoTentDoneCompletions : Nat × Nat := (0, 64)
/-- OBS_AO_TEMP (18_observability.md, R517). -/
def rObsAoTemp : Nat := 0x141C00
/-- Bits [7:0] of OBS_AO_TEMP: MAX_NOW. -/
def fObsAoTempMaxNow : Nat × Nat := (0, 8)
/-- Bits [15:8] of OBS_AO_TEMP: PEAK. -/
def fObsAoTempPeak : Nat × Nat := (8, 8)
/-- Bits [21:16] of OBS_AO_TEMP: PEAK_SENSOR. -/
def fObsAoTempPeakSensor : Nat × Nat := (16, 6)
/-- Bits [63:63] of OBS_AO_TEMP: CLEAR. -/
def fObsAoTempClear : Nat × Nat := (63, 1)
/-- FW_LOAD_BASE (19_firmware_mgmt.md, R532). -/
def rFwLoadBase : Nat := 0x160000
/-- Bits [55:12] of FW_LOAD_BASE: ADDR. -/
def fFwLoadBaseAddr : Nat × Nat := (12, 44)
/-- FW_LOAD_GO (19_firmware_mgmt.md, R532). -/
def rFwLoadGo : Nat := 0x160008
/-- Bits [0:0] of FW_LOAD_GO: GO. -/
def fFwLoadGoGo : Nat × Nat := (0, 1)
/-- FW_STATUS (19_firmware_mgmt.md, R532). -/
def rFwStatus : Nat := 0x160010
/-- Bits [2:0] of FW_STATUS: STATE. -/
def fFwStatusState : Nat × Nat := (0, 3)
/-- Bits [7:4] of FW_STATUS: REASON. -/
def fFwStatusReason : Nat × Nat := (4, 4)
/-- Bits [15:8] of FW_STATUS: RANGERS_UP. -/
def fFwStatusRangersUp : Nat × Nat := (8, 8)
/-- Bits [47:16] of FW_STATUS: SVN. -/
def fFwStatusSvn : Nat × Nat := (16, 32)
/-- FW_AREA (19_firmware_mgmt.md, R532). -/
def rFwArea : Nat := 0x160018
/-- Bits [55:20] of FW_AREA: BASE. -/
def fFwAreaBase : Nat × Nat := (20, 36)
/-- Bits [63:56] of FW_AREA: SIZE_64MIB. -/
def fFwAreaSize64mib : Nat × Nat := (56, 8)
/-- FW_CMDQ_BASE (19_firmware_mgmt.md, R534). -/
def rFwCmdqBase : Nat := 0x160100
/-- Bits [0:0] of FW_CMDQ_BASE: VALID. -/
def fFwCmdqBaseValid : Nat × Nat := (0, 1)
/-- Bits [5:1] of FW_CMDQ_BASE: LOG2. -/
def fFwCmdqBaseLog2 : Nat × Nat := (1, 5)
/-- Bits [55:6] of FW_CMDQ_BASE: ADDR. -/
def fFwCmdqBaseAddr : Nat × Nat := (6, 50)
/-- FW_CMDQ_TAIL (19_firmware_mgmt.md, R534). -/
def rFwCmdqTail : Nat := 0x160108
/-- Bits [15:0] of FW_CMDQ_TAIL: TAIL. -/
def fFwCmdqTailTail : Nat × Nat := (0, 16)
/-- FW_CMDQ_HEAD (19_firmware_mgmt.md, R534). -/
def rFwCmdqHead : Nat := 0x160110
/-- Bits [15:0] of FW_CMDQ_HEAD: HEAD. -/
def fFwCmdqHeadHead : Nat × Nat := (0, 16)
/-- FW_EVTQ_BASE (19_firmware_mgmt.md, R534). -/
def rFwEvtqBase : Nat := 0x160118
/-- Bits [0:0] of FW_EVTQ_BASE: VALID. -/
def fFwEvtqBaseValid : Nat × Nat := (0, 1)
/-- Bits [5:1] of FW_EVTQ_BASE: LOG2. -/
def fFwEvtqBaseLog2 : Nat × Nat := (1, 5)
/-- Bits [55:6] of FW_EVTQ_BASE: ADDR. -/
def fFwEvtqBaseAddr : Nat × Nat := (6, 50)
/-- FW_EVTQ_HEAD (19_firmware_mgmt.md, R534). -/
def rFwEvtqHead : Nat := 0x160120
/-- Bits [15:0] of FW_EVTQ_HEAD: HEAD. -/
def fFwEvtqHeadHead : Nat × Nat := (0, 16)
/-- FW_EVTQ_TAIL (19_firmware_mgmt.md, R534). -/
def rFwEvtqTail : Nat := 0x160128
/-- Bits [15:0] of FW_EVTQ_TAIL: TAIL. -/
def fFwEvtqTailTail : Nat × Nat := (0, 16)
/-- Bits [16:16] of FW_EVTQ_TAIL: PHASE. -/
def fFwEvtqTailPhase : Nat × Nat := (16, 1)
/-- FW_IRQ_ADDR (19_firmware_mgmt.md, R534). -/
def rFwIrqAddr : Nat := 0x160130
/-- Bits [63:0] of FW_IRQ_ADDR: ADDR. -/
def fFwIrqAddrAddr : Nat × Nat := (0, 64)
/-- FW_IRQ_DATA (19_firmware_mgmt.md, R534). -/
def rFwIrqData : Nat := 0x160138
/-- Bits [31:0] of FW_IRQ_DATA: DATA. -/
def fFwIrqDataData : Nat × Nat := (0, 32)
/-- Bits [32:32] of FW_IRQ_DATA: ENABLE. -/
def fFwIrqDataEnable : Nat × Nat := (32, 1)
/-- FW_EVTQ_LOST (19_firmware_mgmt.md, R534). -/
def rFwEvtqLost : Nat := 0x160140
/-- Bits [63:0] of FW_EVTQ_LOST: LOST. -/
def fFwEvtqLostLost : Nat × Nat := (0, 64)
/-- LK_ADDR (19_firmware_mgmt.md, R542). -/
def rLkAddr : Nat := 0x160200
/-- Bits [55:6] of LK_ADDR: ADDR. -/
def fLkAddrAddr : Nat × Nat := (6, 50)
/-- LK_CMD (19_firmware_mgmt.md, R542). -/
def rLkCmd : Nat := 0x160208
/-- Bits [3:0] of LK_CMD: OP. -/
def fLkCmdOp : Nat × Nat := (0, 4)
/-- Bits [63:4] of LK_CMD: ARG. -/
def fLkCmdArg : Nat × Nat := (4, 60)
/-- LK_STATUS (19_firmware_mgmt.md, R542). -/
def rLkStatus : Nat := 0x160210
/-- Bits [0:0] of LK_STATUS: BUSY. -/
def fLkStatusBusy : Nat × Nat := (0, 1)
/-- Bits [3:1] of LK_STATUS: RESULT. -/
def fLkStatusResult : Nat × Nat := (1, 3)
/-- Bits [63:32] of LK_STATUS: BYTES. -/
def fLkStatusBytes : Nat × Nat := (32, 32)
/-- PWR_CAP_W (20_power_package.md, R569). -/
def rPwrCapW : Nat := 0x170000
/-- Bits [15:0] of PWR_CAP_W: WATTS. -/
def fPwrCapWWatts : Nat × Nat := (0, 16)
/-- PWR_STATE (20_power_package.md, R569). -/
def rPwrState : Nat := 0x170008
/-- Bits [1:0] of PWR_STATE: CURRENT. -/
def fPwrStateCurrent : Nat × Nat := (0, 2)
/-- Bits [3:2] of PWR_STATE: REQUEST. -/
def fPwrStateRequest : Nat × Nat := (2, 2)
/-- Bits [4:4] of PWR_STATE: REFUSED. -/
def fPwrStateRefused : Nat × Nat := (4, 1)
/-- Bits [5:5] of PWR_STATE: TRANSITION. -/
def fPwrStateTransition : Nat × Nat := (5, 1)
/-- Bits [27:16] of PWR_STATE: IDLE_ISLANDS. -/
def fPwrStateIdleIslands : Nat × Nat := (16, 12)
/-- PWR_DUTY (20_power_package.md, R569). -/
def rPwrDuty : Nat := 0x170010
/-- Bits [8:0] of PWR_DUTY: DUTY. -/
def fPwrDutyDuty : Nat × Nat := (0, 9)
/-- Bits [17:9] of PWR_DUTY: DUTY_CEIL. -/
def fPwrDutyDutyCeil : Nat × Nat := (9, 9)
/-- Bits [26:18] of PWR_DUTY: DUTY_MIN. -/
def fPwrDutyDutyMin : Nat × Nat := (18, 9)
/-- Bits [27:27] of PWR_DUTY: CLEAR. -/
def fPwrDutyClear : Nat × Nat := (27, 1)
/-- Bits [63:32] of PWR_DUTY: THROTTLE_MS. -/
def fPwrDutyThrottleMs : Nat × Nat := (32, 32)
/-- PWR_POWER (20_power_package.md, R569). -/
def rPwrPower : Nat := 0x170018
/-- Bits [31:0] of PWR_POWER: POWER_MW. -/
def fPwrPowerPowerMw : Nat × Nat := (0, 32)
/-- Bits [63:32] of PWR_POWER: PEAK_MW. -/
def fPwrPowerPeakMw : Nat × Nat := (32, 32)
/-- PWR_WAKE_CFG (20_power_package.md, R569). -/
def rPwrWakeCfg : Nat := 0x170020
/-- Bits [0:0] of PWR_WAKE_CFG: CMP0_WAKE. -/
def fPwrWakeCfgCmp0Wake : Nat × Nat := (0, 1)
/-- Bits [1:1] of PWR_WAKE_CFG: CMP1_WAKE. -/
def fPwrWakeCfgCmp1Wake : Nat × Nat := (1, 1)
/-- PWR_TRIP_STATUS (20_power_package.md, R569). -/
def rPwrTripStatus : Nat := 0x170028
/-- Bits [3:0] of PWR_TRIP_STATUS: TRIP_ACTIVE. -/
def fPwrTripStatusTripActive : Nat × Nat := (0, 4)
/-- Bits [7:4] of PWR_TRIP_STATUS: TRIP_SEEN. -/
def fPwrTripStatusTripSeen : Nat × Nat := (4, 4)
/-- Bits [9:8] of PWR_TRIP_STATUS: SUP_SEEN. -/
def fPwrTripStatusSupSeen : Nat × Nat := (8, 2)
/-- Bits [11:10] of PWR_TRIP_STATUS: CMP_FIRED. -/
def fPwrTripStatusCmpFired : Nat × Nat := (10, 2)
/-- PWR_RESET (20_power_package.md, R569). -/
def rPwrReset : Nat := 0x170030
/-- Bits [1:0] of PWR_RESET: KIND. -/
def fPwrResetKind : Nat × Nat := (0, 2)
/-- Bits [15:8] of PWR_RESET: KEY. -/
def fPwrResetKey : Nat × Nat := (8, 8)
/-- PWR_RESET_CAUSE (20_power_package.md, R569). -/
def rPwrResetCause : Nat := 0x170038
/-- Bits [2:0] of PWR_RESET_CAUSE: KIND. -/
def fPwrResetCauseKind : Nat × Nat := (0, 3)
/-- Bits [7:4] of PWR_RESET_CAUSE: SOURCE. -/
def fPwrResetCauseSource : Nat × Nat := (4, 4)
/-- Bits [15:8] of PWR_RESET_CAUSE: FAILSAFE_CAUSE. -/
def fPwrResetCauseFailsafeCause : Nat × Nat := (8, 8)
/-- BAY_ID (01_architecture.md, R25). -/
def rBayId (i : Nat) : Nat := 0x200000 + 0x1000 * i
/-- Bits [7:0] of BAY_ID: BAY_NUM. -/
def fBayIdBayNum : Nat × Nat := (0, 8)
/-- Bits [9:8] of BAY_ID: COMPUTE_DIE. -/
def fBayIdComputeDie : Nat × Nat := (8, 2)
/-- Bits [22:16] of BAY_ID: PHYS_BAY. -/
def fBayIdPhysBay : Nat × Nat := (16, 7)
/-- Bits [43:32] of BAY_ID: ISLAND. -/
def fBayIdIsland : Nat × Nat := (32, 12)
/-- Bits [53:48] of BAY_ID: TENT. -/
def fBayIdTent : Nat × Nat := (48, 6)
/-- Bits [56:56] of BAY_ID: TENT_VALID. -/
def fBayIdTentValid : Nat × Nat := (56, 1)
/-- Bits [61:61] of BAY_ID: RETIRED. -/
def fBayIdRetired : Nat × Nat := (61, 1)
/-- BAY_CREWS (03_bays_strands.md, R95). -/
def rBayCrews (i : Nat) : Nat := 0x200010 + 0x1000 * i
/-- Bits [8:0] of BAY_CREWS: RESIDENT. -/
def fBayCrewsResident : Nat × Nat := (0, 9)
/-- Bits [17:9] of BAY_CREWS: READY. -/
def fBayCrewsReady : Nat × Nat := (9, 9)
/-- Bits [26:18] of BAY_CREWS: PARKED. -/
def fBayCrewsParked : Nat × Nat := (18, 9)
/-- Bits [35:27] of BAY_CREWS: EVENT_WAIT. -/
def fBayCrewsEventWait : Nat × Nat := (27, 9)
/-- Bits [49:36] of BAY_CREWS: STRANDS. -/
def fBayCrewsStrands : Nat × Nat := (36, 14)
/-- Bits [54:50] of BAY_CREWS: LAUNCH_QUEUE. -/
def fBayCrewsLaunchQueue : Nat × Nat := (50, 5)
/-- BAY_TRAP (04_isa.md, R133). -/
def rBayTrap (i : Nat) : Nat := 0x200018 + 0x1000 * i
/-- Bits [31:0] of BAY_TRAP: COUNT. -/
def fBayTrapCount : Nat × Nat := (0, 32)
/-- Bits [39:32] of BAY_TRAP: LAST_CAUSE. -/
def fBayTrapLastCause : Nat × Nat := (32, 8)
/-- Bits [47:40] of BAY_TRAP: LAST_SLOT. -/
def fBayTrapLastSlot : Nat × Nat := (40, 8)
/-- Bits [62:48] of BAY_TRAP: LAST_PC. -/
def fBayTrapLastPc : Nat × Nat := (48, 15)
/-- BAY_TRUSS (05_truss.md, R166). -/
def rBayTruss (i : Nat) : Nat := 0x200020 + 0x1000 * i
/-- Bits [1:0] of BAY_TRUSS: SHAPE. -/
def fBayTrussShape : Nat × Nat := (0, 2)
/-- Bits [2:2] of BAY_TRUSS: PAIR_HALF. -/
def fBayTrussPairHalf : Nat × Nat := (2, 1)
/-- Bits [3:3] of BAY_TRUSS: PAIR_PENDING. -/
def fBayTrussPairPending : Nat × Nat := (3, 1)
/-- Bits [7:4] of BAY_TRUSS: QUEUE. -/
def fBayTrussQueue : Nat × Nat := (4, 4)
/-- Bits [8:8] of BAY_TRUSS: SHADOW_BUSY. -/
def fBayTrussShadowBusy : Nat × Nat := (8, 1)
/-- Bits [47:16] of BAY_TRUSS: NAN_RESULTS. -/
def fBayTrussNanResults : Nat × Nat := (16, 32)
/-- BAY_SELECT (06_selection.md, R190). -/
def rBaySelect (i : Nat) : Nat := 0x200028 + 0x1000 * i
/-- Bits [2:0] of BAY_SELECT: QUEUE. -/
def fBaySelectQueue : Nat × Nat := (0, 3)
/-- Bits [3:3] of BAY_SELECT: BUSY. -/
def fBaySelectBusy : Nat × Nat := (3, 1)
/-- Bits [39:8] of BAY_SELECT: NAN_DROPPED. -/
def fBaySelectNanDropped : Nat × Nat := (8, 32)
/-- Bits [55:40] of BAY_SELECT: FORMAT_ERRORS. -/
def fBaySelectFormatErrors : Nat × Nat := (40, 16)
/-- BAY_DMA_FAULT (17_ras.md, R490). -/
def rBayDmaFault (i : Nat) : Nat := 0x200030 + 0x1000 * i
/-- Bits [7:0] of BAY_DMA_FAULT: HALTED. -/
def fBayDmaFaultHalted : Nat × Nat := (0, 8)
/-- Bits [10:8] of BAY_DMA_FAULT: LAST_CHANNEL. -/
def fBayDmaFaultLastChannel : Nat × Nat := (8, 3)
/-- Bits [31:16] of BAY_DMA_FAULT: DESC_INDEX. -/
def fBayDmaFaultDescIndex : Nat × Nat := (16, 16)
/-- Bits [35:32] of BAY_DMA_FAULT: CAUSE. -/
def fBayDmaFaultCause : Nat × Nat := (32, 4)
/-- Bits [42:40] of BAY_DMA_FAULT: CMD_CHANNEL. -/
def fBayDmaFaultCmdChannel : Nat × Nat := (40, 3)
/-- Bits [44:43] of BAY_DMA_FAULT: CMD. -/
def fBayDmaFaultCmd : Nat × Nat := (43, 2)
/-- BAY_EVC_WIN_START (18_observability.md, R514). -/
def rBayEvcWinStart (i : Nat) : Nat := 0x200100 + 0x1000 * i
/-- Bits [63:0] of BAY_EVC_WIN_START: START. -/
def fBayEvcWinStartStart : Nat × Nat := (0, 64)
/-- BAY_EVC_WIN_END (18_observability.md, R514). -/
def rBayEvcWinEnd (i : Nat) : Nat := 0x200108 + 0x1000 * i
/-- Bits [63:0] of BAY_EVC_WIN_END: END. -/
def fBayEvcWinEndEnd : Nat × Nat := (0, 64)
/-- BAY_EVC_CFG (18_observability.md, R514). -/
def rBayEvcCfg (i j : Nat) : Nat := 0x200110 + 0x1000 * i + 0x10 * j
/-- Bits [11:0] of BAY_EVC_CFG: SOURCE. -/
def fBayEvcCfgSource : Nat × Nat := (0, 12)
/-- Bits [15:12] of BAY_EVC_CFG: INSTANCE. -/
def fBayEvcCfgInstance : Nat × Nat := (12, 4)
/-- Bits [16:16] of BAY_EVC_CFG: LEVEL. -/
def fBayEvcCfgLevel : Nat × Nat := (16, 1)
/-- Bits [17:17] of BAY_EVC_CFG: WINDOWED. -/
def fBayEvcCfgWindowed : Nat × Nat := (17, 1)
/-- Bits [18:18] of BAY_EVC_CFG: TENT_EN. -/
def fBayEvcCfgTentEn : Nat × Nat := (18, 1)
/-- Bits [24:19] of BAY_EVC_CFG: TENT. -/
def fBayEvcCfgTent : Nat × Nat := (19, 6)
/-- Bits [25:25] of BAY_EVC_CFG: ENABLE. -/
def fBayEvcCfgEnable : Nat × Nat := (25, 1)
/-- BAY_EVC_VALUE (18_observability.md, R514). -/
def rBayEvcValue (i j : Nat) : Nat := 0x200118 + 0x1000 * i + 0x10 * j
/-- Bits [63:0] of BAY_EVC_VALUE: COUNT. -/
def fBayEvcValueCount : Nat × Nat := (0, 64)
/-- MSD_ID (21_control_map.md, R581). -/
def rMsdId (i : Nat) : Nat := 0x300000 + 0x4000 * i
/-- Bits [0:0] of MSD_ID: PRESENT. -/
def fMsdIdPresent : Nat × Nat := (0, 1)
/-- Bits [3:1] of MSD_ID: DIE. -/
def fMsdIdDie : Nat × Nat := (1, 3)
/-- Bits [15:4] of MSD_ID: ISLAND_BASE. -/
def fMsdIdIslandBase : Nat × Nat := (4, 12)
/-- MSD_EVC_WIN_START (18_observability.md, R514). -/
def rMsdEvcWinStart (i : Nat) : Nat := 0x300100 + 0x4000 * i
/-- Bits [63:0] of MSD_EVC_WIN_START: START. -/
def fMsdEvcWinStartStart : Nat × Nat := (0, 64)
/-- MSD_EVC_WIN_END (18_observability.md, R514). -/
def rMsdEvcWinEnd (i : Nat) : Nat := 0x300108 + 0x4000 * i
/-- Bits [63:0] of MSD_EVC_WIN_END: END. -/
def fMsdEvcWinEndEnd : Nat × Nat := (0, 64)
/-- MSD_EVC_CFG (18_observability.md, R514). -/
def rMsdEvcCfg (i j : Nat) : Nat := 0x300110 + 0x4000 * i + 0x10 * j
/-- Bits [11:0] of MSD_EVC_CFG: SOURCE. -/
def fMsdEvcCfgSource : Nat × Nat := (0, 12)
/-- Bits [15:12] of MSD_EVC_CFG: INSTANCE. -/
def fMsdEvcCfgInstance : Nat × Nat := (12, 4)
/-- Bits [16:16] of MSD_EVC_CFG: LEVEL. -/
def fMsdEvcCfgLevel : Nat × Nat := (16, 1)
/-- Bits [17:17] of MSD_EVC_CFG: WINDOWED. -/
def fMsdEvcCfgWindowed : Nat × Nat := (17, 1)
/-- Bits [18:18] of MSD_EVC_CFG: TENT_EN. -/
def fMsdEvcCfgTentEn : Nat × Nat := (18, 1)
/-- Bits [24:19] of MSD_EVC_CFG: TENT. -/
def fMsdEvcCfgTent : Nat × Nat := (19, 6)
/-- Bits [25:25] of MSD_EVC_CFG: ENABLE. -/
def fMsdEvcCfgEnable : Nat × Nat := (25, 1)
/-- MSD_EVC_VALUE (18_observability.md, R514). -/
def rMsdEvcValue (i j : Nat) : Nat := 0x300118 + 0x4000 * i + 0x10 * j
/-- Bits [63:0] of MSD_EVC_VALUE: COUNT. -/
def fMsdEvcValueCount : Nat × Nat := (0, 64)
/-- IOD_ID (21_control_map.md, R581). -/
def rIodId (i : Nat) : Nat := 0x380000 + 0x4000 * i
/-- Bits [0:0] of IOD_ID: PRESENT. -/
def fIodIdPresent : Nat × Nat := (0, 1)
/-- Bits [3:1] of IOD_ID: DIE. -/
def fIodIdDie : Nat × Nat := (1, 3)
/-- Bits [15:4] of IOD_ID: ISLAND_BASE. -/
def fIodIdIslandBase : Nat × Nat := (4, 12)
/-- IOD_EVC_WIN_START (18_observability.md, R514). -/
def rIodEvcWinStart (i : Nat) : Nat := 0x380100 + 0x4000 * i
/-- Bits [63:0] of IOD_EVC_WIN_START: START. -/
def fIodEvcWinStartStart : Nat × Nat := (0, 64)
/-- IOD_EVC_WIN_END (18_observability.md, R514). -/
def rIodEvcWinEnd (i : Nat) : Nat := 0x380108 + 0x4000 * i
/-- Bits [63:0] of IOD_EVC_WIN_END: END. -/
def fIodEvcWinEndEnd : Nat × Nat := (0, 64)
/-- IOD_EVC_CFG (18_observability.md, R514). -/
def rIodEvcCfg (i j : Nat) : Nat := 0x380110 + 0x4000 * i + 0x10 * j
/-- Bits [11:0] of IOD_EVC_CFG: SOURCE. -/
def fIodEvcCfgSource : Nat × Nat := (0, 12)
/-- Bits [15:12] of IOD_EVC_CFG: INSTANCE. -/
def fIodEvcCfgInstance : Nat × Nat := (12, 4)
/-- Bits [16:16] of IOD_EVC_CFG: LEVEL. -/
def fIodEvcCfgLevel : Nat × Nat := (16, 1)
/-- Bits [17:17] of IOD_EVC_CFG: WINDOWED. -/
def fIodEvcCfgWindowed : Nat × Nat := (17, 1)
/-- Bits [18:18] of IOD_EVC_CFG: TENT_EN. -/
def fIodEvcCfgTentEn : Nat × Nat := (18, 1)
/-- Bits [24:19] of IOD_EVC_CFG: TENT. -/
def fIodEvcCfgTent : Nat × Nat := (19, 6)
/-- Bits [25:25] of IOD_EVC_CFG: ENABLE. -/
def fIodEvcCfgEnable : Nat × Nat := (25, 1)
/-- IOD_EVC_VALUE (18_observability.md, R514). -/
def rIodEvcValue (i j : Nat) : Nat := 0x380118 + 0x4000 * i + 0x10 * j
/-- Bits [63:0] of IOD_EVC_VALUE: COUNT. -/
def fIodEvcValueCount : Nat × Nat := (0, 64)

/-- The registers of block DEV. -/
def regRowsDev : List RegRow := [
  ⟨0x0, 0x0, 1, 0x0, 1, [⟨0, 32, .ro, 0x56544831, 0x0, 0xFFFFFFFF⟩, ⟨32, 8, .ro, 0x0, 0x0, 0xFF⟩, ⟨40, 8, .ro, 0x0, 0x0, 0xFF⟩, ⟨48, 8, .ro, 0x0, 0x0, 0xFF⟩, ⟨56, 8, .ro, 0x1, 0x0, 0xFF⟩]⟩,
  ⟨0x8, 0x0, 1, 0x0, 1, [⟨0, 16, .ro, 0x0, 0x0, 0xFFFF⟩, ⟨16, 4, .ro, 0x0, 0x0, 0xF⟩, ⟨20, 4, .ro, 0x0, 0x0, 0xF⟩, ⟨24, 4, .ro, 0x0, 0x0, 0xF⟩, ⟨28, 8, .ro, 0x0, 0x0, 0xFF⟩, ⟨36, 8, .ro, 0x0, 0x0, 0xFF⟩, ⟨44, 4, .ro, 0x0, 0x0, 0xF⟩, ⟨48, 8, .ro, 0x0, 0x0, 0xFF⟩]⟩,
  ⟨0x10, 0x0, 1, 0x0, 1, [⟨0, 7, .ro, 0x40, 0x0, 0x7F⟩, ⟨7, 7, .ro, 0x40, 0x0, 0x7F⟩, ⟨14, 9, .ro, 0x100, 0x0, 0x1FF⟩, ⟨23, 4, .ro, 0x8, 0x0, 0xF⟩, ⟨27, 7, .ro, 0x40, 0x0, 0x7F⟩, ⟨34, 11, .ro, 0x400, 0x0, 0x7FF⟩, ⟨45, 3, .ro, 0x2, 0x0, 0x7⟩, ⟨48, 1, .ro, 0x1, 0x0, 0x1⟩, ⟨49, 1, .ro, 0x1, 0x0, 0x1⟩]⟩,
  ⟨0x18, 0x0, 1, 0x0, 1, [⟨0, 3, .ro, 0x0, 0x0, 0x7⟩, ⟨8, 1, .ro, 0x0, 0x0, 0x1⟩, ⟨9, 1, .ro, 0x0, 0x0, 0x1⟩, ⟨10, 1, .ro, 0x0, 0x0, 0x1⟩, ⟨11, 1, .ro, 0x0, 0x0, 0x1⟩, ⟨16, 4, .ro, 0x0, 0x0, 0xF⟩]⟩]

/-- The registers of block TIME. -/
def regRowsTime : List RegRow := [
  ⟨0x10000, 0x0, 1, 0x0, 1, [⟨0, 64, .ro, 0x0, 0x0, 0xFFFFFFFFFFFFFFFF⟩]⟩,
  ⟨0x10008, 0x0, 1, 0x0, 1, [⟨0, 64, .rw, 0xFFFFFFFFFFFFFFFF, 0x0, 0xFFFFFFFFFFFFFFFF⟩]⟩,
  ⟨0x10010, 0x0, 1, 0x0, 1, [⟨0, 64, .rw, 0xFFFFFFFFFFFFFFFF, 0x0, 0xFFFFFFFFFFFFFFFF⟩]⟩,
  ⟨0x10018, 0x0, 1, 0x0, 1, [⟨0, 3, .ro, 0x0, 0x0, 0x7⟩, ⟨3, 1, .ro, 0x0, 0x0, 0x1⟩, ⟨4, 1, .w1c, 0x0, 0x0, 0x1⟩, ⟨5, 1, .w1c, 0x0, 0x0, 0x1⟩, ⟨6, 1, .w1c, 0x0, 0x0, 0x1⟩, ⟨7, 1, .w1c, 0x0, 0x0, 0x1⟩, ⟨8, 12, .ro, 0x0, 0x0, 0xFFF⟩, ⟨32, 32, .ro, 0x0, 0x0, 0xFFFFFFFF⟩]⟩,
  ⟨0x10020, 0x0, 1, 0x0, 1, [⟨0, 64, .ro, 0x0, 0x0, 0xFFFFFFFFFFFFFFFF⟩]⟩,
  ⟨0x10028, 0x0, 1, 0x0, 1, [⟨0, 8, .ro, 0x0, 0x0, 0xFF⟩, ⟨8, 8, .ro, 0x0, 0x0, 0xFF⟩, ⟨16, 12, .ro, 0x0, 0x0, 0xFFF⟩, ⟨28, 4, .ro, 0x0, 0x0, 0xF⟩, ⟨63, 1, .wo, 0x0, 0x0, 0x1⟩]⟩,
  ⟨0x10030, 0x0, 1, 0x0, 1, [⟨0, 1, .rw, 0x0, 0x0, 0x1⟩, ⟨1, 1, .wo, 0x0, 0x0, 0x1⟩]⟩,
  ⟨0x10038, 0x0, 1, 0x0, 1, [⟨0, 2, .ro, 0x0, 0x0, 0x3⟩, ⟨8, 32, .ro, 0x0, 0x0, 0xFFFFFFFF⟩, ⟨48, 16, .ro, 0x0, 0x0, 0xFFFF⟩]⟩,
  ⟨0x10040, 0x0, 1, 0x0, 1, [⟨0, 64, .rw, 0xFFFFFFFFFFFFFFFF, 0x0, 0xFFFFFFFFFFFFFFFF⟩]⟩,
  ⟨0x10048, 0x0, 1, 0x0, 1, [⟨0, 64, .rw, 0xFFFFFFFFFFFFFFFF, 0x0, 0xFFFFFFFFFFFFFFFF⟩]⟩,
  ⟨0x10050, 0x0, 1, 0x0, 1, [⟨0, 64, .rw, 0x0, 0x0, 0xFFFFFFFFFFFFFFFF⟩]⟩,
  ⟨0x10058, 0x0, 1, 0x0, 1, [⟨0, 1, .wo, 0x0, 0x0, 0x1⟩, ⟨1, 1, .ro, 0x0, 0x0, 0x1⟩, ⟨32, 32, .ro, 0x0, 0x0, 0xFFFFFFFF⟩]⟩,
  ⟨0x10060, 0x0, 1, 0x0, 1, [⟨0, 64, .ro, 0x0, 0x0, 0xFFFFFFFFFFFFFFFF⟩]⟩,
  ⟨0x10068, 0x0, 1, 0x0, 1, [⟨0, 32, .ro, 0x0, 0x0, 0xFFFFFFFF⟩]⟩,
  ⟨0x10070, 0x0, 1, 0x0, 1, [⟨0, 64, .ro, 0x0, 0x0, 0xFFFFFFFFFFFFFFFF⟩]⟩]

/-- The registers of block TENT. -/
def regRowsTent : List RegRow := [
  ⟨0x20000, 0x100, 64, 0x0, 1, [⟨0, 3, .ro, 0x0, 0x0, 0x7⟩, ⟨3, 4, .wo, 0x0, 0x0, 0xF⟩, ⟨7, 4, .ro, 0x0, 0x0, 0xF⟩, ⟨32, 32, .ro, 0x0, 0x0, 0xFFFFFFFF⟩]⟩,
  ⟨0x20008, 0x100, 64, 0x8, 4, [⟨0, 64, .rw, 0x0, 0x0, 0xFFFFFFFFFFFFFFFF⟩]⟩,
  ⟨0x20028, 0x100, 64, 0x0, 1, [⟨0, 24, .rw, 0x0, 0x0, 0xFFFFFF⟩, ⟨24, 12, .rw, 0x0, 0x0, 0xFFF⟩, ⟨36, 1, .rw, 0x0, 0x0, 0x1⟩]⟩,
  ⟨0x20030, 0x100, 64, 0x0, 1, [⟨0, 1, .rw, 0x0, 0x0, 0x1⟩, ⟨1, 1, .rw, 0x0, 0x0, 0x1⟩, ⟨2, 25, .rw, 0x0, 0x0, 0x1FFFFFF⟩, ⟨27, 25, .rw, 0x0, 0x0, 0x1FFFFFF⟩]⟩,
  ⟨0x20038, 0x100, 64, 0x0, 1, [⟨0, 2, .rw, 0x0, 0x0, 0x2⟩]⟩,
  ⟨0x20040, 0x100, 64, 0x0, 1, [⟨0, 1, .ro, 0x0, 0x0, 0x1⟩, ⟨1, 9, .ro, 0x0, 0x0, 0x1FF⟩]⟩,
  ⟨0x20048, 0x100, 64, 0x0, 1, [⟨0, 6, .rw, 0x0, 0x0, 0x3F⟩]⟩,
  ⟨0x20050, 0x100, 64, 0x0, 1, [⟨0, 15, .rw, 0x0, 0x0, 0x4000⟩, ⟨16, 17, .rw, 0x0, 0x0, 0x10000⟩, ⟨33, 7, .rw, 0x0, 0x0, 0x40⟩]⟩,
  ⟨0x20058, 0x100, 64, 0x0, 1, [⟨0, 64, .wo, 0x0, 0x0, 0xFFFFFFFFFFFFFFFF⟩]⟩,
  ⟨0x20060, 0x100, 64, 0x0, 1, [⟨0, 64, .wo, 0x0, 0x0, 0xFFFFFFFFFFFFFFFF⟩]⟩,
  ⟨0x20068, 0x100, 64, 0x0, 1, [⟨6, 50, .rw, 0x0, 0x0, 0x3FFFFFFFFFFFF⟩, ⟨56, 8, .rw, 0x0, 0x1, 0xFF⟩]⟩,
  ⟨0x20070, 0x100, 64, 0x0, 1, [⟨0, 10, .rw, 0x0, 0x0, 0x3FF⟩, ⟨22, 34, .rw, 0x0, 0x0, 0x3FFFFFFFF⟩]⟩,
  ⟨0x20078, 0x100, 64, 0x0, 1, [⟨0, 64, .rw, 0xFFFFFFFFFFFFFFFF, 0x0, 0xFFFFFFFFFFFFFFFF⟩]⟩,
  ⟨0x20080, 0x100, 64, 0x0, 1, [⟨0, 32, .ro, 0x0, 0x0, 0xFFFFFFFF⟩, ⟨32, 1, .ro, 0x0, 0x0, 0x1⟩, ⟨33, 1, .w1c, 0x0, 0x0, 0x1⟩, ⟨48, 16, .ro, 0x0, 0x0, 0xFFFF⟩]⟩,
  ⟨0x28000, 0x20, 64, 0x0, 1, [⟨0, 16, .rw, 0x800, 0x20, 0xFFFF⟩, ⟨16, 11, .rw, 0x100, 0x1, 0x400⟩, ⟨27, 4, .rw, 0x4, 0x0, 0x8⟩, ⟨32, 7, .rw, 0x14, 0x0, 0x64⟩, ⟨40, 7, .rw, 0x32, 0x0, 0x64⟩]⟩,
  ⟨0x28008, 0x20, 64, 0x0, 1, [⟨6, 50, .wo, 0x0, 0x0, 0x3FFFFFFFFFFFF⟩]⟩,
  ⟨0x28010, 0x20, 64, 0x0, 1, [⟨0, 11, .ro, 0x0, 0x0, 0x7FF⟩, ⟨11, 16, .ro, 0x0, 0x0, 0xFFFF⟩, ⟨27, 3, .ro, 0x0, 0x0, 0x7⟩, ⟨32, 24, .ro, 0x0, 0x0, 0xFFFFFF⟩, ⟨56, 8, .ro, 0x0, 0x0, 0xFF⟩]⟩,
  ⟨0x28018, 0x20, 64, 0x0, 1, [⟨0, 32, .ro, 0x0, 0x0, 0xFFFFFFFF⟩, ⟨32, 16, .ro, 0x0, 0x0, 0xFFFF⟩, ⟨48, 8, .ro, 0x0, 0x0, 0xFF⟩, ⟨56, 8, .ro, 0x0, 0x0, 0xFF⟩]⟩,
  ⟨0x28800, 0x0, 1, 0x0, 1, [⟨6, 50, .rw, 0x0, 0x0, 0x3FFFFFFFFFFFF⟩]⟩,
  ⟨0x28808, 0x0, 1, 0x0, 1, [⟨0, 10, .wo, 0x0, 0x0, 0x3FF⟩, ⟨10, 6, .wo, 0x0, 0x0, 0x3F⟩, ⟨16, 2, .wo, 0x0, 0x0, 0x3⟩]⟩,
  ⟨0x28810, 0x0, 1, 0x0, 1, [⟨0, 1, .ro, 0x0, 0x0, 0x1⟩, ⟨1, 3, .ro, 0x0, 0x0, 0x7⟩, ⟨4, 1, .ro, 0x0, 0x0, 0x1⟩, ⟨32, 32, .ro, 0x0, 0x0, 0xFFFFFFFF⟩]⟩]

/-- The registers of block ADMIT. -/
def regRowsAdmit : List RegRow := [
  ⟨0x30000, 0x20, 64, 0x0, 1, [⟨8, 48, .rw, 0x0, 0x0, 0xFFFFFFFFFFFF⟩]⟩,
  ⟨0x30008, 0x20, 64, 0x0, 1, [⟨0, 1, .rw, 0x0, 0x0, 0x1⟩, ⟨1, 1, .ro, 0x0, 0x0, 0x1⟩, ⟨2, 5, .rw, 0x0, 0x0, 0x1F⟩, ⟨7, 6, .rw, 0x0, 0x0, 0x3F⟩, ⟨13, 6, .rw, 0x0, 0x0, 0x3F⟩]⟩,
  ⟨0x30010, 0x20, 64, 0x0, 1, [⟨0, 16, .rw, 0x0, 0x0, 0xFFFF⟩]⟩,
  ⟨0x30018, 0x20, 64, 0x0, 1, [⟨0, 16, .ro, 0x0, 0x0, 0xFFFF⟩, ⟨32, 32, .ro, 0x0, 0x0, 0xFFFFFFFF⟩]⟩,
  ⟨0x30800, 0x20, 64, 0x0, 1, [⟨5, 51, .rw, 0x0, 0x0, 0x7FFFFFFFFFFFF⟩]⟩,
  ⟨0x30808, 0x20, 64, 0x0, 1, [⟨0, 1, .rw, 0x0, 0x0, 0x1⟩, ⟨1, 1, .ro, 0x0, 0x0, 0x1⟩, ⟨2, 5, .rw, 0x0, 0x0, 0x1F⟩, ⟨7, 6, .ro, 0x0, 0x0, 0x3F⟩, ⟨13, 1, .ro, 0x0, 0x0, 0x1⟩]⟩,
  ⟨0x30810, 0x20, 64, 0x0, 1, [⟨0, 16, .rw, 0x0, 0x0, 0xFFFF⟩]⟩,
  ⟨0x30818, 0x20, 64, 0x0, 1, [⟨0, 16, .ro, 0x0, 0x0, 0xFFFF⟩, ⟨16, 1, .ro, 0x1, 0x0, 0x1⟩]⟩,
  ⟨0x34000, 0x100, 64, 0x20, 8, [⟨0, 32, .rw, 0x0, 0x0, 0xFFFFFFFF⟩, ⟨32, 1, .rw, 0x1, 0x0, 0x1⟩]⟩,
  ⟨0x34008, 0x100, 64, 0x20, 8, [⟨0, 32, .rw, 0x1, 0x1, 0xFFFFFFFF⟩]⟩,
  ⟨0x34010, 0x100, 64, 0x20, 8, [⟨0, 64, .ro, 0x0, 0x0, 0xFFFFFFFFFFFFFFFF⟩]⟩,
  ⟨0x34018, 0x100, 64, 0x20, 8, [⟨0, 15, .ro, 0x0, 0x0, 0x7FFF⟩]⟩,
  ⟨0x38000, 0x0, 1, 0x0, 1, [⟨0, 6, .rw, 0x0, 0x0, 0x3F⟩, ⟨6, 50, .rw, 0x0, 0x0, 0x3FFFFFFFFFFFF⟩]⟩,
  ⟨0x38008, 0x0, 1, 0x0, 1, [⟨0, 64, .rw, 0xFFFFFFFFFFFFFFFF, 0x0, 0xFFFFFFFFFFFFFFFF⟩]⟩,
  ⟨0x38010, 0x0, 1, 0x0, 1, [⟨0, 6, .ro, 0x0, 0x0, 0x3F⟩, ⟨6, 1, .ro, 0x0, 0x0, 0x1⟩, ⟨7, 1, .ro, 0x0, 0x0, 0x1⟩, ⟨8, 1, .w1c, 0x0, 0x0, 0x1⟩, ⟨16, 8, .ro, 0xFF, 0x0, 0xFF⟩]⟩]

/-- The registers of block ACCT. -/
def regRowsAcct : List RegRow := [
  ⟨0x40000, 0x8, 64, 0x0, 1, [⟨0, 1, .rws, 0x0, 0x0, 0x1⟩, ⟨1, 1, .ro, 0x0, 0x0, 0x1⟩, ⟨6, 50, .rws, 0x0, 0x0, 0x3FFFFFFFFFFFF⟩]⟩,
  ⟨0x40800, 0x0, 1, 0x0, 1, [⟨0, 64, .rw, 0xFFFFFFFFFFFFFFFF, 0x0, 0xFFFFFFFFFFFFFFFF⟩]⟩,
  ⟨0x40808, 0x0, 1, 0x0, 1, [⟨0, 1, .ro, 0x0, 0x0, 0x1⟩, ⟨1, 1, .ro, 0x0, 0x0, 0x1⟩, ⟨2, 1, .w1c, 0x0, 0x0, 0x1⟩]⟩]

/-- The registers of block JRNL. -/
def regRowsJrnl : List RegRow := [
  ⟨0x50000, 0x0, 1, 0x0, 1, [⟨0, 6, .rws, 0x4, 0x1, 0x20⟩, ⟨6, 1, .rw, 0x0, 0x0, 0x1⟩, ⟨8, 10, .rw, 0x14, 0x1, 0x3E8⟩, ⟨18, 14, .rw, 0x32, 0x1, 0x2710⟩]⟩,
  ⟨0x50008, 0x0, 1, 0x0, 1, [⟨0, 64, .ro, 0x0, 0x0, 0xFFFFFFFFFFFFFFFF⟩]⟩,
  ⟨0x50010, 0x0, 1, 0x0, 1, [⟨0, 64, .ro, 0x0, 0x0, 0xFFFFFFFFFFFFFFFF⟩]⟩,
  ⟨0x50018, 0x0, 1, 0x0, 1, [⟨0, 12, .rw, 0x0, 0x0, 0xFFF⟩, ⟨12, 1, .rw, 0x0, 0x0, 0x1⟩, ⟨13, 1, .ro, 0x0, 0x0, 0x1⟩, ⟨14, 1, .ro, 0x0, 0x0, 0x1⟩, ⟨16, 12, .ro, 0x0, 0x0, 0xFFF⟩, ⟨28, 12, .ro, 0x0, 0x0, 0xFFF⟩, ⟨40, 1, .ro, 0x0, 0x0, 0x1⟩, ⟨41, 1, .ro, 0x0, 0x0, 0x1⟩]⟩,
  ⟨0x50020, 0x0, 1, 0x0, 1, [⟨0, 16, .rw, 0x7D0, 0x64, 0xEA60⟩]⟩,
  ⟨0x50028, 0x0, 1, 0x0, 1, [⟨0, 1, .wo, 0x0, 0x0, 0x1⟩, ⟨1, 1, .wo, 0x0, 0x0, 0x1⟩, ⟨2, 1, .wo, 0x0, 0x0, 0x1⟩, ⟨32, 32, .ro, 0x0, 0x0, 0xFFFFFFFF⟩]⟩,
  ⟨0x50030, 0x0, 1, 0x0, 1, [⟨0, 1, .ro, 0x0, 0x0, 0x1⟩, ⟨1, 1, .ro, 0x0, 0x0, 0x1⟩, ⟨2, 1, .ro, 0x0, 0x0, 0x1⟩, ⟨3, 1, .ro, 0x0, 0x0, 0x1⟩, ⟨32, 32, .ro, 0x0, 0x0, 0xFFFFFFFF⟩]⟩,
  ⟨0x50038, 0x0, 1, 0x0, 1, [⟨0, 64, .ro, 0x0, 0x0, 0xFFFFFFFFFFFFFFFF⟩]⟩,
  ⟨0x50040, 0x0, 1, 0x0, 1, [⟨0, 1, .wo, 0x0, 0x0, 0x1⟩, ⟨6, 50, .rw, 0x0, 0x0, 0x3FFFFFFFFFFFF⟩]⟩,
  ⟨0x50048, 0x0, 1, 0x0, 1, [⟨0, 1, .ro, 0x0, 0x0, 0x1⟩, ⟨32, 32, .ro, 0x0, 0x0, 0xFFFFFFFF⟩]⟩,
  ⟨0x50050, 0x0, 1, 0x0, 1, [⟨0, 64, .rw, 0x0, 0x0, 0xFFFFFFFFFFFFFFFF⟩]⟩,
  ⟨0x50058, 0x0, 1, 0x0, 1, [⟨0, 16, .wo, 0x0, 0x0, 0xFFFF⟩, ⟨16, 1, .wo, 0x0, 0x0, 0x1⟩]⟩,
  ⟨0x50060, 0x0, 1, 0x0, 1, [⟨0, 64, .rw, 0x0, 0x0, 0xFFFFFFFFFFFFFFFF⟩]⟩,
  ⟨0x50068, 0x0, 1, 0x0, 1, [⟨0, 1, .ro, 0x0, 0x0, 0x1⟩, ⟨1, 3, .ro, 0x0, 0x0, 0x7⟩]⟩,
  ⟨0x50070, 0x0, 1, 0x0, 1, [⟨0, 6, .wo, 0x0, 0x0, 0x3F⟩, ⟨6, 1, .wo, 0x0, 0x0, 0x1⟩, ⟨7, 1, .ro, 0x0, 0x0, 0x1⟩, ⟨8, 3, .ro, 0x0, 0x0, 0x7⟩]⟩]

/-- The registers of block STRM. -/
def regRowsStrm : List RegRow := [
  ⟨0x60000, 0x0, 1, 0x0, 1, [⟨6, 50, .rw, 0x0, 0x0, 0x3FFFFFFFFFFFF⟩]⟩,
  ⟨0x60008, 0x0, 1, 0x0, 1, [⟨0, 16, .wo, 0x0, 0x0, 0xFFFF⟩, ⟨16, 6, .wo, 0x0, 0x0, 0x3F⟩, ⟨22, 2, .wo, 0x0, 0x0, 0x3⟩, ⟨24, 5, .wo, 0x0, 0x0, 0x1F⟩]⟩,
  ⟨0x60010, 0x0, 1, 0x0, 1, [⟨0, 3, .ro, 0x0, 0x0, 0x7⟩, ⟨3, 5, .ro, 0x0, 0x0, 0x1F⟩, ⟨8, 6, .ro, 0x0, 0x0, 0x3F⟩, ⟨14, 1, .ro, 0x0, 0x0, 0x1⟩]⟩,
  ⟨0x60018, 0x0, 1, 0x0, 1, [⟨6, 50, .ro, 0x0, 0x0, 0x3FFFFFFFFFFFF⟩]⟩,
  ⟨0x60020, 0x0, 1, 0x0, 1, [⟨0, 64, .ro, 0x0, 0x0, 0xFFFFFFFFFFFFFFFF⟩]⟩,
  ⟨0x60028, 0x0, 1, 0x0, 1, [⟨0, 17, .ro, 0x0, 0x0, 0x1FFFF⟩, ⟨17, 17, .ro, 0x0, 0x0, 0x1FFFF⟩, ⟨34, 17, .ro, 0x0, 0x0, 0x1FFFF⟩]⟩,
  ⟨0x60030, 0x0, 1, 0x0, 1, [⟨0, 64, .ro, 0x0, 0x0, 0xFFFFFFFFFFFFFFFF⟩]⟩]

/-- The registers of block TEXT. -/
def regRowsText : List RegRow := [
  ⟨0x80000, 0x8, 8, 0x0, 1, [⟨0, 1, .rw, 0x0, 0x0, 0x1⟩, ⟨1, 1, .ro, 0x0, 0x0, 0x1⟩, ⟨2, 1, .ro, 0x0, 0x0, 0x1⟩, ⟨3, 1, .rw, 0x0, 0x0, 0x1⟩, ⟨4, 1, .ro, 0x0, 0x0, 0x1⟩, ⟨6, 50, .rw, 0x0, 0x0, 0x3FFFFFFFFFFFF⟩, ⟨56, 6, .rw, 0x0, 0x0, 0x3F⟩]⟩,
  ⟨0x80100, 0x0, 1, 0x0, 1, [⟨0, 20, .rw, 0x2000, 0x0, 0xFFFFF⟩, ⟨20, 20, .rw, 0x800, 0x0, 0xFFFFF⟩]⟩,
  ⟨0x80108, 0x0, 1, 0x0, 1, [⟨0, 3, .ro, 0x0, 0x0, 0x7⟩, ⟨8, 3, .ro, 0x0, 0x0, 0x7⟩]⟩,
  ⟨0x80180, 0x8, 4, 0x0, 1, [⟨0, 9, .ro, 0x100, 0x0, 0x1FF⟩, ⟨16, 15, .ro, 0x0, 0x0, 0x7FFF⟩, ⟨32, 16, .ro, 0x0, 0x0, 0xFFFF⟩, ⟨48, 16, .ro, 0x0, 0x0, 0xFFFF⟩]⟩,
  ⟨0x80200, 0x8, 64, 0x0, 1, [⟨0, 1, .rw, 0x0, 0x0, 0x1⟩, ⟨1, 1, .ro, 0x0, 0x0, 0x1⟩, ⟨2, 1, .ro, 0x0, 0x0, 0x1⟩, ⟨3, 3, .rw, 0x0, 0x0, 0x7⟩, ⟨6, 50, .rw, 0x0, 0x0, 0x3FFFFFFFFFFFF⟩, ⟨56, 6, .rw, 0x0, 0x0, 0x3F⟩, ⟨62, 1, .ro, 0x0, 0x0, 0x1⟩]⟩,
  ⟨0x80400, 0x8, 4, 0x0, 1, [⟨0, 15, .ro, 0x0, 0x0, 0x7FFF⟩, ⟨16, 16, .ro, 0x0, 0x0, 0xFFFF⟩, ⟨32, 16, .ro, 0x0, 0x0, 0xFFFF⟩, ⟨48, 16, .ro, 0x0, 0x0, 0xFFFF⟩]⟩,
  ⟨0x80440, 0x0, 1, 0x0, 1, [⟨0, 3, .ro, 0x0, 0x0, 0x7⟩, ⟨8, 6, .ro, 0x0, 0x0, 0x3F⟩]⟩]

/-- The registers of block SRCH. -/
def regRowsSrch : List RegRow := [
  ⟨0xA0000, 0x8, 64, 0x0, 1, [⟨0, 1, .rw, 0x0, 0x0, 0x1⟩, ⟨1, 1, .ro, 0x0, 0x0, 0x1⟩, ⟨2, 1, .ro, 0x0, 0x0, 0x1⟩, ⟨6, 50, .rw, 0x0, 0x0, 0x3FFFFFFFFFFFF⟩, ⟨56, 6, .rw, 0x0, 0x0, 0x3F⟩]⟩,
  ⟨0xA0200, 0x0, 1, 0x0, 1, [⟨0, 16, .rw, 0x3E8, 0x1, 0xFFFF⟩, ⟨16, 16, .rw, 0x64, 0x1, 0xFFFF⟩]⟩,
  ⟨0xA0208, 0x0, 1, 0x0, 1, [⟨0, 56, .ro, 0x0, 0x0, 0xFFFFFFFFFFFFFF⟩]⟩,
  ⟨0xA0400, 0x8, 24, 0x0, 1, [⟨0, 13, .ro, 0x0, 0x0, 0x1FFF⟩, ⟨13, 11, .ro, 0x0, 0x0, 0x7FF⟩, ⟨24, 1, .ro, 0x0, 0x0, 0x1⟩, ⟨32, 16, .ro, 0x0, 0x0, 0xFFFF⟩, ⟨48, 16, .ro, 0x0, 0x0, 0xFFFF⟩]⟩]

/-- The registers of block TBL. -/
def regRowsTbl : List RegRow := [
  ⟨0xB0000, 0x8, 256, 0x0, 1, [⟨0, 1, .rw, 0x0, 0x0, 0x1⟩, ⟨1, 1, .ro, 0x0, 0x0, 0x1⟩, ⟨2, 1, .ro, 0x0, 0x0, 0x1⟩, ⟨6, 50, .rw, 0x0, 0x0, 0x3FFFFFFFFFFFF⟩, ⟨56, 6, .rw, 0x0, 0x0, 0x3F⟩]⟩,
  ⟨0xB0800, 0x0, 1, 0x0, 1, [⟨0, 8, .wo, 0x0, 0x0, 0xFF⟩, ⟨14, 50, .wo, 0x0, 0x0, 0x3FFFFFFFFFFFF⟩]⟩,
  ⟨0xB0808, 0x0, 1, 0x0, 1, [⟨0, 64, .rw, 0x0, 0x0, 0xFFFFFFFFFFFFFFFF⟩]⟩,
  ⟨0xB0810, 0x0, 1, 0x0, 1, [⟨0, 16, .rw, 0x3E8, 0x1, 0xFFFF⟩]⟩,
  ⟨0xB0818, 0x0, 1, 0x0, 1, [⟨0, 56, .ro, 0x0, 0x0, 0xFFFFFFFFFFFFFF⟩]⟩,
  ⟨0xB0820, 0x0, 1, 0x0, 1, [⟨0, 4, .ro, 0x0, 0x0, 0xF⟩, ⟨4, 4, .ro, 0x0, 0x0, 0xF⟩, ⟨8, 4, .ro, 0x0, 0x0, 0xF⟩, ⟨12, 4, .ro, 0x0, 0x0, 0xF⟩]⟩,
  ⟨0xB1000, 0x8, 256, 0x0, 1, [⟨0, 32, .ro, 0x0, 0x0, 0xFFFFFFFF⟩, ⟨32, 1, .ro, 0x0, 0x0, 0x1⟩, ⟨33, 1, .ro, 0x0, 0x0, 0x1⟩, ⟨34, 1, .w1c, 0x0, 0x0, 0x1⟩, ⟨35, 1, .ro, 0x0, 0x0, 0x1⟩, ⟨40, 24, .ro, 0x0, 0x0, 0xFFFFFF⟩]⟩,
  ⟨0xB1800, 0x8, 12, 0x0, 1, [⟨0, 6, .ro, 0x0, 0x0, 0x3F⟩, ⟨8, 32, .ro, 0x0, 0x0, 0xFFFFFFFF⟩, ⟨40, 16, .ro, 0x0, 0x0, 0xFFFF⟩, ⟨56, 8, .ro, 0x0, 0x0, 0xFF⟩]⟩]

/-- The registers of block MEM. -/
def regRowsMem : List RegRow := [
  ⟨0xC0000, 0x8, 64, 0x0, 1, [⟨0, 1, .rws, 0x0, 0x0, 0x1⟩, ⟨1, 1, .ro, 0x0, 0x0, 0x1⟩, ⟨2, 6, .rws, 0x0, 0x0, 0x3F⟩, ⟨8, 1, .ro, 0x0, 0x0, 0x1⟩, ⟨12, 44, .ro, 0x0, 0x0, 0xFFFFFFFFFFF⟩]⟩,
  ⟨0xC0200, 0x20, 2, 0x0, 1, [⟨0, 16, .rw, 0x0, 0x0, 0xFFFF⟩, ⟨16, 1, .rw, 0x0, 0x0, 0x1⟩, ⟨17, 1, .rw, 0x0, 0x0, 0x1⟩, ⟨18, 1, .rw, 0x0, 0x0, 0x1⟩, ⟨19, 1, .ro, 0x0, 0x0, 0x1⟩]⟩,
  ⟨0xC0208, 0x20, 2, 0x0, 1, [⟨0, 3, .ro, 0x0, 0x0, 0x7⟩, ⟨8, 16, .ro, 0x0, 0x0, 0xFFFF⟩, ⟨32, 32, .ro, 0x0, 0x0, 0xFFFFFFFF⟩]⟩,
  ⟨0xC0210, 0x20, 2, 0x0, 1, [⟨0, 35, .ro, 0x0, 0x0, 0x7FFFFFFFF⟩]⟩,
  ⟨0xC0218, 0x20, 2, 0x0, 1, [⟨0, 4, .rw, 0x0, 0x0, 0xF⟩, ⟨4, 1, .wo, 0x0, 0x0, 0x1⟩, ⟨5, 1, .ro, 0x0, 0x0, 0x1⟩, ⟨24, 40, .ro, 0x0, 0x0, 0xFFFFFFFFFF⟩]⟩,
  ⟨0xC0240, 0x0, 1, 0x0, 1, [⟨0, 24, .wo, 0x0, 0x0, 0xFFFFFF⟩]⟩,
  ⟨0xC0248, 0x0, 1, 0x0, 1, [⟨0, 1, .ro, 0x0, 0x0, 0x1⟩, ⟨1, 3, .ro, 0x0, 0x0, 0x7⟩, ⟨32, 32, .ro, 0x0, 0x0, 0xFFFFFFFF⟩]⟩,
  ⟨0xC0250, 0x0, 1, 0x0, 1, [⟨0, 40, .wo, 0x0, 0x0, 0xFFFFFFFFFF⟩, ⟨40, 6, .wo, 0x0, 0x0, 0x3F⟩, ⟨46, 2, .wo, 0x0, 0x0, 0x3⟩, ⟨50, 14, .wo, 0x0, 0x0, 0x3FFF⟩]⟩,
  ⟨0xC0258, 0x0, 1, 0x0, 1, [⟨0, 40, .wo, 0x0, 0x0, 0xFFFFFFFFFF⟩, ⟨40, 6, .wo, 0x0, 0x0, 0x3F⟩, ⟨46, 2, .wo, 0x0, 0x0, 0x3⟩, ⟨50, 14, .wo, 0x0, 0x0, 0x3FFF⟩]⟩,
  ⟨0xC0260, 0x0, 1, 0x0, 1, [⟨0, 1, .ro, 0x0, 0x0, 0x1⟩, ⟨1, 1, .w1c, 0x0, 0x0, 0x1⟩, ⟨4, 4, .ro, 0x0, 0x0, 0xF⟩, ⟨8, 1, .ro, 0x0, 0x0, 0x1⟩, ⟨32, 15, .ro, 0x0, 0x0, 0x7FFF⟩]⟩,
  ⟨0xC0268, 0x0, 1, 0x0, 1, [⟨0, 40, .wo, 0x0, 0x0, 0xFFFFFFFFFF⟩, ⟨40, 6, .wo, 0x0, 0x0, 0x3F⟩]⟩,
  ⟨0xC0270, 0x0, 1, 0x0, 1, [⟨0, 64, .ro, 0x0, 0x0, 0xFFFFFFFFFFFFFFFF⟩]⟩,
  ⟨0xC0278, 0x0, 1, 0x0, 1, [⟨0, 64, .ro, 0x0, 0x0, 0xFFFFFFFFFFFFFFFF⟩]⟩,
  ⟨0xC0280, 0x0, 1, 0x0, 1, [⟨16, 40, .ro, 0x0, 0x0, 0xFFFFFFFFFF⟩, ⟨56, 8, .ro, 0x0, 0x0, 0xFF⟩]⟩,
  ⟨0xC0288, 0x0, 1, 0x0, 1, [⟨16, 40, .ro, 0x0, 0x0, 0xFFFFFFFFFF⟩, ⟨56, 8, .ro, 0x0, 0x0, 0xFF⟩]⟩,
  ⟨0xC0400, 0x8, 64, 0x0, 1, [⟨0, 24, .ro, 0x0, 0x0, 0xFFFFFF⟩, ⟨24, 24, .ro, 0x0, 0x0, 0xFFFFFF⟩, ⟨48, 12, .ro, 0x0, 0x0, 0xFFF⟩]⟩,
  ⟨0xC0600, 0x8, 6, 0x0, 1, [⟨0, 7, .ro, 0x0, 0x0, 0x7F⟩, ⟨7, 13, .ro, 0x0, 0x0, 0x1FFF⟩, ⟨32, 16, .ro, 0x0, 0x0, 0xFFFF⟩, ⟨48, 16, .ro, 0x0, 0x0, 0xFFFF⟩]⟩]

/-- The registers of block FAB. -/
def regRowsFab : List RegRow := [
  ⟨0x100000, 0x0, 1, 0x0, 1, [⟨0, 12, .rws, 0x0, 0x0, 0xFFF⟩, ⟨12, 1, .ro, 0x0, 0x0, 0x1⟩]⟩,
  ⟨0x100008, 0x0, 1, 0x0, 1, [⟨0, 16, .rw, 0x1F4, 0x1, 0xFFFF⟩, ⟨16, 16, .rw, 0xA, 0x1, 0xFFFF⟩, ⟨32, 16, .rw, 0x14, 0x1, 0xFFFF⟩, ⟨48, 1, .w1s, 0x0, 0x0, 0x1⟩]⟩,
  ⟨0x100010, 0x0, 1, 0x0, 1, [⟨0, 12, .ro, 0x0, 0x0, 0xFFF⟩, ⟨12, 12, .ro, 0x0, 0x0, 0xFFF⟩, ⟨24, 4, .ro, 0x0, 0x0, 0xF⟩, ⟨28, 1, .ro, 0x0, 0x0, 0x1⟩, ⟨29, 16, .ro, 0x0, 0x0, 0xFFFF⟩]⟩,
  ⟨0x100018, 0x0, 1, 0x0, 1, [⟨0, 64, .ro, 0x0, 0x0, 0xFFFFFFFFFFFFFFFF⟩]⟩,
  ⟨0x100020, 0x0, 1, 0x0, 1, [⟨0, 12, .rw, 0x0, 0x0, 0xFFF⟩]⟩,
  ⟨0x100028, 0x0, 1, 0x0, 1, [⟨0, 4, .rw, 0x0, 0x0, 0xF⟩, ⟨4, 1, .rw, 0x0, 0x0, 0x1⟩, ⟨5, 4, .rw, 0x0, 0x0, 0xF⟩, ⟨9, 1, .rw, 0x0, 0x0, 0x1⟩]⟩,
  ⟨0x100100, 0x20, 16, 0x0, 1, [⟨0, 1, .rw, 0x1, 0x0, 0x1⟩, ⟨1, 1, .rw, 0x0, 0x0, 0x1⟩]⟩,
  ⟨0x100108, 0x20, 16, 0x0, 1, [⟨0, 3, .ro, 0x0, 0x0, 0x7⟩, ⟨3, 4, .ro, 0x0, 0x0, 0xF⟩, ⟨8, 12, .ro, 0x0, 0x0, 0xFFF⟩, ⟨20, 4, .ro, 0x0, 0x0, 0xF⟩, ⟨24, 16, .ro, 0x0, 0x0, 0xFFFF⟩, ⟨40, 8, .ro, 0x0, 0x0, 0xFF⟩]⟩,
  ⟨0x100110, 0x20, 16, 0x0, 1, [⟨0, 32, .ro, 0x0, 0x0, 0xFFFFFFFF⟩, ⟨32, 32, .ro, 0x0, 0x0, 0xFFFFFFFF⟩]⟩,
  ⟨0x100118, 0x20, 16, 0x0, 1, [⟨0, 32, .ro, 0x0, 0x0, 0xFFFFFFFF⟩, ⟨32, 16, .ro, 0x0, 0x0, 0xFFFF⟩, ⟨48, 16, .ro, 0x0, 0x0, 0xFFFF⟩]⟩,
  ⟨0x100400, 0x8, 64, 0x0, 1, [⟨0, 12, .rw, 0x0, 0x0, 0xFFF⟩, ⟨12, 12, .rw, 0x0, 0x0, 0xFFF⟩, ⟨24, 1, .rw, 0x0, 0x0, 0x1⟩]⟩,
  ⟨0x100600, 0x8, 64, 0x0, 1, [⟨0, 4, .rw, 0x0, 0x4, 0xC⟩, ⟨4, 1, .rw, 0x0, 0x0, 0x1⟩, ⟨5, 1, .ro, 0x0, 0x0, 0x1⟩, ⟨6, 50, .rw, 0x0, 0x0, 0x3FFFFFFFFFFFF⟩]⟩,
  ⟨0x100800, 0x10, 256, 0x0, 1, [⟨6, 50, .rw, 0x0, 0x0, 0x3FFFFFFFFFFFF⟩]⟩,
  ⟨0x100808, 0x10, 256, 0x0, 1, [⟨0, 1, .rw, 0x0, 0x0, 0x1⟩, ⟨1, 1, .ro, 0x0, 0x0, 0x1⟩, ⟨2, 12, .rw, 0x0, 0x0, 0xFFF⟩, ⟨14, 6, .rw, 0x0, 0x0, 0x3F⟩]⟩]

/-- The registers of block SEC. -/
def regRowsSec : List RegRow := [
  ⟨0x120000, 0x0, 1, 0x0, 1, [⟨0, 5, .wo, 0x0, 0x0, 0x1F⟩, ⟨8, 16, .wo, 0x0, 0x0, 0xFFFF⟩, ⟨24, 6, .wo, 0x0, 0x0, 0x3F⟩, ⟨30, 1, .wo, 0x0, 0x0, 0x1⟩]⟩,
  ⟨0x120008, 0x0, 1, 0x0, 1, [⟨6, 50, .rw, 0x0, 0x0, 0x3FFFFFFFFFFFF⟩]⟩,
  ⟨0x120010, 0x0, 1, 0x0, 1, [⟨0, 1, .ro, 0x0, 0x0, 0x1⟩, ⟨1, 4, .ro, 0x0, 0x0, 0xF⟩, ⟨32, 32, .ro, 0x0, 0x0, 0xFFFFFFFF⟩]⟩,
  ⟨0x120018, 0x0, 1, 0x0, 1, [⟨0, 56, .rw, 0x0, 0x0, 0xFFFFFFFFFFFFFF⟩]⟩,
  ⟨0x120020, 0x0, 1, 0x0, 1, [⟨0, 64, .ro, 0x0, 0x0, 0xFFFFFFFFFFFFFFFF⟩]⟩,
  ⟨0x120028, 0x0, 1, 0x0, 1, [⟨0, 1, .ro, 0x0, 0x0, 0x1⟩, ⟨1, 1, .ro, 0x0, 0x0, 0x1⟩, ⟨2, 1, .ro, 0x0, 0x0, 0x1⟩, ⟨8, 16, .ro, 0x0, 0x0, 0xFFFF⟩, ⟨24, 17, .ro, 0x0, 0x0, 0x1FFFF⟩]⟩,
  ⟨0x120100, 0x8, 5, 0x0, 1, [⟨0, 32, .ro, 0x0, 0x0, 0xFFFFFFFF⟩, ⟨32, 32, .ro, 0x0, 0x0, 0xFFFFFFFF⟩]⟩,
  ⟨0x120800, 0x10, 64, 0x0, 1, [⟨0, 1, .ro, 0x0, 0x0, 0x1⟩, ⟨1, 1, .ro, 0x0, 0x0, 0x1⟩, ⟨2, 1, .ro, 0x0, 0x0, 0x1⟩, ⟨3, 1, .ro, 0x0, 0x0, 0x1⟩, ⟨4, 1, .ro, 0x0, 0x0, 0x1⟩]⟩,
  ⟨0x120808, 0x10, 64, 0x0, 1, [⟨0, 64, .ro, 0x0, 0x0, 0xFFFFFFFFFFFFFFFF⟩]⟩]

/-- The registers of block RAS. -/
def regRowsRas : List RegRow := [
  ⟨0x130000, 0x0, 1, 0x0, 1, [⟨0, 12, .rw, 0x0, 0x0, 0xFFF⟩, ⟨16, 16, .rw, 0x0, 0x0, 0xFFFF⟩]⟩,
  ⟨0x130008, 0x0, 1, 0x0, 1, [⟨0, 39, .rw, 0x0, 0x0, 0x7FFFFFFFFF⟩]⟩,
  ⟨0x130010, 0x0, 1, 0x0, 1, [⟨0, 1, .wo, 0x0, 0x0, 0x1⟩, ⟨1, 1, .ro, 0x0, 0x0, 0x1⟩, ⟨2, 1, .w1c, 0x0, 0x0, 0x1⟩, ⟨3, 1, .w1c, 0x0, 0x0, 0x1⟩, ⟨32, 32, .ro, 0x0, 0x0, 0xFFFFFFFF⟩]⟩,
  ⟨0x130018, 0x0, 1, 0x0, 1, [⟨0, 1, .rw, 0x0, 0x0, 0x1⟩, ⟨1, 5, .rw, 0x0, 0x0, 0x1F⟩, ⟨6, 50, .rw, 0x0, 0x0, 0x3FFFFFFFFFFFF⟩, ⟨56, 1, .ro, 0x0, 0x0, 0x1⟩]⟩,
  ⟨0x130020, 0x0, 1, 0x0, 1, [⟨0, 11, .ro, 0x0, 0x0, 0x7FF⟩, ⟨11, 1, .w1c, 0x0, 0x0, 0x1⟩, ⟨32, 32, .ro, 0x0, 0x0, 0xFFFFFFFF⟩]⟩,
  ⟨0x130028, 0x0, 1, 0x0, 1, [⟨0, 1, .ro, 0x0, 0x0, 0x1⟩, ⟨1, 1, .wo, 0x0, 0x0, 0x1⟩, ⟨2, 1, .ro, 0x0, 0x0, 0x1⟩, ⟨8, 8, .ro, 0x0, 0x0, 0xFF⟩]⟩,
  ⟨0x130030, 0x0, 1, 0x0, 1, [⟨0, 64, .ro, 0x0, 0x0, 0xFFFFFFFFFFFFFFFF⟩]⟩,
  ⟨0x130038, 0x0, 1, 0x0, 1, [⟨0, 64, .ro, 0x0, 0x0, 0xFFFFFFFFFFFFFFFF⟩]⟩,
  ⟨0x130040, 0x0, 1, 0x0, 1, [⟨0, 8, .rw, 0x18, 0x1, 0xFF⟩, ⟨8, 1, .rw, 0x1, 0x0, 0x1⟩]⟩,
  ⟨0x130048, 0x0, 1, 0x0, 1, [⟨0, 13, .ro, 0x0, 0x0, 0x1FFF⟩, ⟨13, 1, .ro, 0x0, 0x0, 0x1⟩, ⟨14, 8, .ro, 0x0, 0x0, 0xFF⟩]⟩,
  ⟨0x130100, 0x8, 18, 0x0, 1, [⟨0, 32, .ro, 0x0, 0x0, 0xFFFFFFFF⟩, ⟨32, 32, .ro, 0x0, 0x0, 0xFFFFFFFF⟩]⟩]

/-- The registers of block OBS. -/
def regRowsObs : List RegRow := [
  ⟨0x140000, 0x0, 1, 0x0, 1, [⟨12, 44, .ro, 0x0, 0x0, 0xFFFFFFFFFFF⟩]⟩,
  ⟨0x140008, 0x0, 1, 0x0, 1, [⟨0, 13, .rws, 0x100, 0x0, 0x1000⟩, ⟨13, 13, .ro, 0x0, 0x0, 0x1FFF⟩]⟩,
  ⟨0x140010, 0x0, 1, 0x0, 1, [⟨0, 1, .rw, 0x0, 0x0, 0x1⟩, ⟨1, 15, .rw, 0x0, 0x0, 0x7FFF⟩, ⟨16, 1, .rw, 0x0, 0x0, 0x1⟩, ⟨17, 6, .rw, 0x0, 0x0, 0x3F⟩, ⟨23, 1, .rw, 0x0, 0x0, 0x1⟩]⟩,
  ⟨0x140018, 0x0, 1, 0x0, 1, [⟨0, 64, .ro, 0x0, 0x0, 0xFFFFFFFFFFFFFFFF⟩]⟩,
  ⟨0x140020, 0x0, 1, 0x0, 1, [⟨0, 64, .rw, 0x0, 0x0, 0xFFFFFFFFFFFFFFFF⟩]⟩,
  ⟨0x140028, 0x0, 1, 0x0, 1, [⟨0, 64, .rw, 0x0, 0x0, 0xFFFFFFFFFFFFFFFF⟩]⟩,
  ⟨0x140030, 0x0, 1, 0x0, 1, [⟨0, 64, .rw, 0xFFFFFFFFFFFFFFFF, 0x0, 0xFFFFFFFFFFFFFFFF⟩]⟩,
  ⟨0x140038, 0x0, 1, 0x0, 1, [⟨0, 64, .ro, 0x0, 0x0, 0xFFFFFFFFFFFFFFFF⟩]⟩,
  ⟨0x140040, 0x0, 1, 0x0, 1, [⟨0, 12, .rws, 0x0, 0x0, 0xFFF⟩, ⟨12, 20, .rw, 0x64, 0x0, 0xFFFFF⟩, ⟨32, 20, .rw, 0x190, 0x0, 0xFFFFF⟩]⟩,
  ⟨0x140048, 0x0, 1, 0x0, 1, [⟨0, 3, .rw, 0x0, 0x0, 0x7⟩, ⟨3, 1, .wo, 0x0, 0x0, 0x1⟩, ⟨4, 1, .wo, 0x0, 0x0, 0x1⟩, ⟨5, 1, .w1c, 0x0, 0x0, 0x1⟩, ⟨6, 2, .ro, 0x0, 0x0, 0x3⟩]⟩,
  ⟨0x140050, 0x0, 1, 0x0, 1, [⟨0, 64, .rw, 0x0, 0x0, 0xFFFFFFFFFFFFFFFF⟩]⟩,
  ⟨0x140058, 0x0, 1, 0x0, 1, [⟨0, 64, .ro, 0x0, 0x0, 0xFFFFFFFFFFFFFFFF⟩]⟩,
  ⟨0x140060, 0x0, 1, 0x0, 1, [⟨0, 32, .ro, 0x0, 0x0, 0xFFFFFFFF⟩, ⟨32, 32, .ro, 0x0, 0x0, 0xFFFFFFFF⟩]⟩,
  ⟨0x140068, 0x0, 1, 0x0, 1, [⟨0, 64, .ro, 0x0, 0x0, 0xFFFFFFFFFFFFFFFF⟩]⟩,
  ⟨0x140070, 0x0, 1, 0x0, 1, [⟨6, 50, .rw, 0x0, 0x0, 0x3FFFFFFFFFFFF⟩]⟩,
  ⟨0x140078, 0x0, 1, 0x0, 1, [⟨0, 64, .rw, 0xFFFFFFFFFFFFFFFF, 0x0, 0xFFFFFFFFFFFFFFFF⟩]⟩,
  ⟨0x140080, 0x0, 1, 0x0, 1, [⟨0, 1, .ro, 0x0, 0x0, 0x1⟩, ⟨1, 1, .ro, 0x0, 0x0, 0x1⟩, ⟨2, 1, .w1c, 0x0, 0x0, 0x1⟩]⟩,
  ⟨0x140090, 0x0, 1, 0x0, 1, [⟨0, 1, .rw, 0x0, 0x0, 0x1⟩, ⟨1, 5, .rw, 0x0, 0x0, 0x1F⟩, ⟨6, 50, .rw, 0x0, 0x0, 0x3FFFFFFFFFFFF⟩, ⟨56, 1, .ro, 0x0, 0x0, 0x1⟩]⟩,
  ⟨0x140098, 0x0, 1, 0x0, 1, [⟨0, 64, .ro, 0x0, 0x0, 0xFFFFFFFFFFFFFFFF⟩]⟩,
  ⟨0x1400A0, 0x0, 1, 0x0, 1, [⟨0, 2, .rw, 0x2, 0x0, 0x3⟩]⟩,
  ⟨0x141000, 0x8, 256, 0x0, 1, [⟨0, 64, .ro, 0x0, 0x0, 0xFFFFFFFFFFFFFFFF⟩]⟩,
  ⟨0x141800, 0x10, 64, 0x0, 1, [⟨0, 64, .ro, 0x0, 0x0, 0xFFFFFFFFFFFFFFFF⟩]⟩,
  ⟨0x141808, 0x10, 64, 0x0, 1, [⟨0, 64, .ro, 0x0, 0x0, 0xFFFFFFFFFFFFFFFF⟩]⟩,
  ⟨0x141C00, 0x0, 1, 0x0, 1, [⟨0, 8, .ro, 0x0, 0x0, 0xFF⟩, ⟨8, 8, .ro, 0x0, 0x0, 0xFF⟩, ⟨16, 6, .ro, 0x0, 0x0, 0x3F⟩, ⟨63, 1, .wo, 0x0, 0x0, 0x1⟩]⟩]

/-- The registers of block FW. -/
def regRowsFw : List RegRow := [
  ⟨0x160000, 0x0, 1, 0x0, 1, [⟨12, 44, .rw, 0x0, 0x0, 0xFFFFFFFFFFF⟩]⟩,
  ⟨0x160008, 0x0, 1, 0x0, 1, [⟨0, 1, .wo, 0x0, 0x0, 0x1⟩]⟩,
  ⟨0x160010, 0x0, 1, 0x0, 1, [⟨0, 3, .ro, 0x0, 0x0, 0x7⟩, ⟨4, 4, .ro, 0x0, 0x0, 0xF⟩, ⟨8, 8, .ro, 0x0, 0x0, 0xFF⟩, ⟨16, 32, .ro, 0x0, 0x0, 0xFFFFFFFF⟩]⟩,
  ⟨0x160018, 0x0, 1, 0x0, 1, [⟨20, 36, .ro, 0x0, 0x0, 0xFFFFFFFFF⟩, ⟨56, 8, .ro, 0x0, 0x0, 0xFF⟩]⟩,
  ⟨0x160100, 0x0, 1, 0x0, 1, [⟨0, 1, .rw, 0x0, 0x0, 0x1⟩, ⟨1, 5, .rw, 0x0, 0x4, 0xC⟩, ⟨6, 50, .rw, 0x0, 0x0, 0x3FFFFFFFFFFFF⟩]⟩,
  ⟨0x160108, 0x0, 1, 0x0, 1, [⟨0, 16, .rw, 0x0, 0x0, 0xFFFF⟩]⟩,
  ⟨0x160110, 0x0, 1, 0x0, 1, [⟨0, 16, .ro, 0x0, 0x0, 0xFFFF⟩]⟩,
  ⟨0x160118, 0x0, 1, 0x0, 1, [⟨0, 1, .rw, 0x0, 0x0, 0x1⟩, ⟨1, 5, .rw, 0x0, 0x4, 0xC⟩, ⟨6, 50, .rw, 0x0, 0x0, 0x3FFFFFFFFFFFF⟩]⟩,
  ⟨0x160120, 0x0, 1, 0x0, 1, [⟨0, 16, .rw, 0x0, 0x0, 0xFFFF⟩]⟩,
  ⟨0x160128, 0x0, 1, 0x0, 1, [⟨0, 16, .ro, 0x0, 0x0, 0xFFFF⟩, ⟨16, 1, .ro, 0x1, 0x0, 0x1⟩]⟩,
  ⟨0x160130, 0x0, 1, 0x0, 1, [⟨0, 64, .rw, 0x0, 0x0, 0xFFFFFFFFFFFFFFFF⟩]⟩,
  ⟨0x160138, 0x0, 1, 0x0, 1, [⟨0, 32, .rw, 0x0, 0x0, 0xFFFFFFFF⟩, ⟨32, 1, .rw, 0x0, 0x0, 0x1⟩]⟩,
  ⟨0x160140, 0x0, 1, 0x0, 1, [⟨0, 64, .ro, 0x0, 0x0, 0xFFFFFFFFFFFFFFFF⟩]⟩,
  ⟨0x160200, 0x0, 1, 0x0, 1, [⟨6, 50, .rw, 0x0, 0x0, 0x3FFFFFFFFFFFF⟩]⟩,
  ⟨0x160208, 0x0, 1, 0x0, 1, [⟨0, 4, .wo, 0x0, 0x0, 0xF⟩, ⟨4, 60, .wo, 0x0, 0x0, 0xFFFFFFFFFFFFFFF⟩]⟩,
  ⟨0x160210, 0x0, 1, 0x0, 1, [⟨0, 1, .ro, 0x0, 0x0, 0x1⟩, ⟨1, 3, .ro, 0x0, 0x0, 0x7⟩, ⟨32, 32, .ro, 0x0, 0x0, 0xFFFFFFFF⟩]⟩]

/-- The registers of block PWR. -/
def regRowsPwr : List RegRow := [
  ⟨0x170000, 0x0, 1, 0x0, 1, [⟨0, 16, .ro, 0x0, 0x0, 0xFFFF⟩]⟩,
  ⟨0x170008, 0x0, 1, 0x0, 1, [⟨0, 2, .ro, 0x0, 0x0, 0x3⟩, ⟨2, 2, .wo, 0x0, 0x0, 0x3⟩, ⟨4, 1, .w1c, 0x0, 0x0, 0x1⟩, ⟨5, 1, .ro, 0x0, 0x0, 0x1⟩, ⟨16, 12, .ro, 0x0, 0x0, 0xFFF⟩]⟩,
  ⟨0x170010, 0x0, 1, 0x0, 1, [⟨0, 9, .ro, 0x100, 0x0, 0x1FF⟩, ⟨9, 9, .ro, 0x100, 0x0, 0x1FF⟩, ⟨18, 9, .ro, 0x100, 0x0, 0x1FF⟩, ⟨27, 1, .wo, 0x0, 0x0, 0x1⟩, ⟨32, 32, .ro, 0x0, 0x0, 0xFFFFFFFF⟩]⟩,
  ⟨0x170018, 0x0, 1, 0x0, 1, [⟨0, 32, .ro, 0x0, 0x0, 0xFFFFFFFF⟩, ⟨32, 32, .ro, 0x0, 0x0, 0xFFFFFFFF⟩]⟩,
  ⟨0x170020, 0x0, 1, 0x0, 1, [⟨0, 1, .rw, 0x0, 0x0, 0x1⟩, ⟨1, 1, .rw, 0x0, 0x0, 0x1⟩]⟩,
  ⟨0x170028, 0x0, 1, 0x0, 1, [⟨0, 4, .ro, 0x0, 0x0, 0xF⟩, ⟨4, 4, .w1c, 0x0, 0x0, 0xF⟩, ⟨8, 2, .w1c, 0x0, 0x0, 0x3⟩, ⟨10, 2, .w1c, 0x0, 0x0, 0x3⟩]⟩,
  ⟨0x170030, 0x0, 1, 0x0, 1, [⟨0, 2, .wo, 0x0, 0x0, 0x3⟩, ⟨8, 8, .wo, 0x0, 0x0, 0xFF⟩]⟩,
  ⟨0x170038, 0x0, 1, 0x0, 1, [⟨0, 3, .ro, 0x0, 0x0, 0x7⟩, ⟨4, 4, .ro, 0x0, 0x0, 0xF⟩, ⟨8, 8, .ro, 0x0, 0x0, 0xFF⟩]⟩]

/-- The registers of block BAY. -/
def regRowsBay : List RegRow := [
  ⟨0x200000, 0x1000, 256, 0x0, 1, [⟨0, 8, .ro, 0x0, 0x0, 0xFF⟩, ⟨8, 2, .ro, 0x0, 0x0, 0x3⟩, ⟨16, 7, .ro, 0x0, 0x0, 0x7F⟩, ⟨32, 12, .ro, 0x0, 0x0, 0xFFF⟩, ⟨48, 6, .ro, 0x0, 0x0, 0x3F⟩, ⟨56, 1, .ro, 0x0, 0x0, 0x1⟩, ⟨61, 1, .ro, 0x0, 0x0, 0x1⟩]⟩,
  ⟨0x200010, 0x1000, 256, 0x0, 1, [⟨0, 9, .ro, 0x0, 0x0, 0x1FF⟩, ⟨9, 9, .ro, 0x0, 0x0, 0x1FF⟩, ⟨18, 9, .ro, 0x0, 0x0, 0x1FF⟩, ⟨27, 9, .ro, 0x0, 0x0, 0x1FF⟩, ⟨36, 14, .ro, 0x0, 0x0, 0x3FFF⟩, ⟨50, 5, .ro, 0x0, 0x0, 0x1F⟩]⟩,
  ⟨0x200018, 0x1000, 256, 0x0, 1, [⟨0, 32, .ro, 0x0, 0x0, 0xFFFFFFFF⟩, ⟨32, 8, .ro, 0x0, 0x0, 0xFF⟩, ⟨40, 8, .ro, 0x0, 0x0, 0xFF⟩, ⟨48, 15, .ro, 0x0, 0x0, 0x7FFF⟩]⟩,
  ⟨0x200020, 0x1000, 256, 0x0, 1, [⟨0, 2, .ro, 0x0, 0x0, 0x3⟩, ⟨2, 1, .ro, 0x0, 0x0, 0x1⟩, ⟨3, 1, .ro, 0x0, 0x0, 0x1⟩, ⟨4, 4, .ro, 0x0, 0x0, 0xF⟩, ⟨8, 1, .ro, 0x0, 0x0, 0x1⟩, ⟨16, 32, .ro, 0x0, 0x0, 0xFFFFFFFF⟩]⟩,
  ⟨0x200028, 0x1000, 256, 0x0, 1, [⟨0, 3, .ro, 0x0, 0x0, 0x7⟩, ⟨3, 1, .ro, 0x0, 0x0, 0x1⟩, ⟨8, 32, .ro, 0x0, 0x0, 0xFFFFFFFF⟩, ⟨40, 16, .ro, 0x0, 0x0, 0xFFFF⟩]⟩,
  ⟨0x200030, 0x1000, 256, 0x0, 1, [⟨0, 8, .ro, 0x0, 0x0, 0xFF⟩, ⟨8, 3, .ro, 0x0, 0x0, 0x7⟩, ⟨16, 16, .ro, 0x0, 0x0, 0xFFFF⟩, ⟨32, 4, .ro, 0x0, 0x0, 0xF⟩, ⟨40, 3, .wo, 0x0, 0x0, 0x7⟩, ⟨43, 2, .wo, 0x0, 0x0, 0x3⟩]⟩,
  ⟨0x200100, 0x1000, 256, 0x0, 1, [⟨0, 64, .rw, 0x0, 0x0, 0xFFFFFFFFFFFFFFFF⟩]⟩,
  ⟨0x200108, 0x1000, 256, 0x0, 1, [⟨0, 64, .rw, 0xFFFFFFFFFFFFFFFF, 0x0, 0xFFFFFFFFFFFFFFFF⟩]⟩,
  ⟨0x200110, 0x1000, 256, 0x10, 8, [⟨0, 12, .rw, 0x0, 0x0, 0xFFF⟩, ⟨12, 4, .rw, 0x0, 0x0, 0xF⟩, ⟨16, 1, .rw, 0x0, 0x0, 0x1⟩, ⟨17, 1, .rw, 0x0, 0x0, 0x1⟩, ⟨18, 1, .rw, 0x0, 0x0, 0x1⟩, ⟨19, 6, .rw, 0x0, 0x0, 0x3F⟩, ⟨25, 1, .rw, 0x0, 0x0, 0x1⟩]⟩,
  ⟨0x200118, 0x1000, 256, 0x10, 8, [⟨0, 64, .rw, 0x0, 0x0, 0xFFFFFFFFFFFFFFFF⟩]⟩]

/-- The registers of block MSD. -/
def regRowsMsd : List RegRow := [
  ⟨0x300000, 0x4000, 6, 0x0, 1, [⟨0, 1, .ro, 0x0, 0x0, 0x1⟩, ⟨1, 3, .ro, 0x0, 0x0, 0x7⟩, ⟨4, 12, .ro, 0x0, 0x0, 0xFFF⟩]⟩,
  ⟨0x300100, 0x4000, 6, 0x0, 1, [⟨0, 64, .rw, 0x0, 0x0, 0xFFFFFFFFFFFFFFFF⟩]⟩,
  ⟨0x300108, 0x4000, 6, 0x0, 1, [⟨0, 64, .rw, 0xFFFFFFFFFFFFFFFF, 0x0, 0xFFFFFFFFFFFFFFFF⟩]⟩,
  ⟨0x300110, 0x4000, 6, 0x10, 16, [⟨0, 12, .rw, 0x0, 0x0, 0xFFF⟩, ⟨12, 4, .rw, 0x0, 0x0, 0xF⟩, ⟨16, 1, .rw, 0x0, 0x0, 0x1⟩, ⟨17, 1, .rw, 0x0, 0x0, 0x1⟩, ⟨18, 1, .rw, 0x0, 0x0, 0x1⟩, ⟨19, 6, .rw, 0x0, 0x0, 0x3F⟩, ⟨25, 1, .rw, 0x0, 0x0, 0x1⟩]⟩,
  ⟨0x300118, 0x4000, 6, 0x10, 16, [⟨0, 64, .rw, 0x0, 0x0, 0xFFFFFFFFFFFFFFFF⟩]⟩]

/-- The registers of block IOD. -/
def regRowsIod : List RegRow := [
  ⟨0x380000, 0x4000, 4, 0x0, 1, [⟨0, 1, .ro, 0x0, 0x0, 0x1⟩, ⟨1, 3, .ro, 0x0, 0x0, 0x7⟩, ⟨4, 12, .ro, 0x0, 0x0, 0xFFF⟩]⟩,
  ⟨0x380100, 0x4000, 4, 0x0, 1, [⟨0, 64, .rw, 0x0, 0x0, 0xFFFFFFFFFFFFFFFF⟩]⟩,
  ⟨0x380108, 0x4000, 4, 0x0, 1, [⟨0, 64, .rw, 0xFFFFFFFFFFFFFFFF, 0x0, 0xFFFFFFFFFFFFFFFF⟩]⟩,
  ⟨0x380110, 0x4000, 4, 0x10, 16, [⟨0, 12, .rw, 0x0, 0x0, 0xFFF⟩, ⟨12, 4, .rw, 0x0, 0x0, 0xF⟩, ⟨16, 1, .rw, 0x0, 0x0, 0x1⟩, ⟨17, 1, .rw, 0x0, 0x0, 0x1⟩, ⟨18, 1, .rw, 0x0, 0x0, 0x1⟩, ⟨19, 6, .rw, 0x0, 0x0, 0x3F⟩, ⟨25, 1, .rw, 0x0, 0x0, 0x1⟩]⟩,
  ⟨0x380118, 0x4000, 4, 0x10, 16, [⟨0, 64, .rw, 0x0, 0x0, 0xFFFFFFFFFFFFFFFF⟩]⟩]

/-- Every register of the control window. -/
def regRows : List RegRow :=
  [regRowsDev, regRowsTime, regRowsTent, regRowsAdmit, regRowsAcct, regRowsJrnl, regRowsStrm, regRowsText, regRowsSrch,
    regRowsTbl, regRowsMem, regRowsFab, regRowsSec, regRowsRas, regRowsObs, regRowsFw, regRowsPwr, regRowsBay, regRowsMsd,
    regRowsIod].flatten

/-- The registers of the block that an offset lies in (R574). -/
def regBlock (off : Nat) : List RegRow :=
  if off < 0xC0000 then
    if off < 0x50000 then
      if off < 0x20000 then
        if off < 0x10000 then regRowsDev else regRowsTime
      else
        if off < 0x30000 then
          regRowsTent
        else
          if off < 0x40000 then regRowsAdmit else regRowsAcct
    else
      if off < 0x80000 then
        if off < 0x60000 then regRowsJrnl else regRowsStrm
      else
        if off < 0xA0000 then
          regRowsText
        else
          if off < 0xB0000 then regRowsSrch else regRowsTbl
  else
    if off < 0x160000 then
      if off < 0x120000 then
        if off < 0x100000 then regRowsMem else regRowsFab
      else
        if off < 0x130000 then
          regRowsSec
        else
          if off < 0x140000 then regRowsRas else regRowsObs
    else
      if off < 0x200000 then
        if off < 0x170000 then regRowsFw else regRowsPwr
      else
        if off < 0x300000 then
          regRowsBay
        else
          if off < 0x380000 then regRowsMsd else regRowsIod

end Sys2Proof.Machine
end

