-- ==== Sys2Proof/Machine/StateBase.lean ====
section
/-! DEFINITION. The parts of the state that chapters 00 to 02, 17, 20 and 21 of the spec name: the assembly descriptor,
the islands' clocks, the freeze, the always-on domain, the RAS unit.  A field's default is its value at reset. -/

namespace Sys2Proof.Machine

/-- The verified assembly descriptor (R2, R5, R23, R558, R578).  The values stand for a VTH-1204 with spares 64 to 67
on every compute die: DESIGN CHOICE, log entry 2. -/
structure Descriptor where
  /-- PART_NUMBER, 16 bits. -/
  part : Nat := 0x1204
  /-- HBM_STACKS. -/
  stackCount : Nat := 12
  /-- MSD_COUNT. -/
  msds : Nat := 6
  /-- IOD_COUNT. -/
  iods : Nat := 4
  /-- FABRIC_LINKS. -/
  links : Nat := 16
  /-- BASECAMP_CORES. -/
  cores : Nat := 64
  /-- DESC_FORMAT, 8 bits. -/
  format : Nat := 3
  /-- COMPUTE_STEP, MSD_STEP and IOD_STEP, 8 bits each. -/
  computeStep : Nat := 0
  msdStep : Nat := 0
  iodStep : Nat := 0
  /-- Spare physical bays of compute dies 0 to 3, four each. -/
  spares : List (List Nat) := [[64, 65, 66, 67], [64, 65, 66, 67], [64, 65, 66, 67], [64, 65, 66, 67]]
  /-- DUTY_CEIL, 9 bits. -/
  dutyCeil : Nat := 256
  /-- Power envelope in watts (R2). -/
  envelope : Nat := 1100
  /-- Memory-side die whose replicas serve compute dies 0 to 3 (R238). -/
  near : List Nat := [0, 1, 2, 3]
  deriving DecidableEq, Repr, Inhabited

/-- One island's clock and stamp state (R40, R41, R49, R50, R51, R550). -/
structure Island where
  /-- The island's copy of the tick count minus the reference. -/
  off : Int := 0
  /-- Reference tick of the last slew (R40: at most one in 16 ticks). -/
  lastSlew : Nat := 0
  /-- Consecutive beacons missed (R41). -/
  missed : Nat := 0
  /-- Highest TICK among the items received, watermarks included (R50). -/
  highTick : Nat := 0
  /-- TICK of the last item originated, and the SEQ the next item of that TICK takes (R49). -/
  lastTick : Nat := 0
  nextSeq : Nat := 0
  /-- The island's clock is stopped (state A1, R550). -/
  stopped : Bool := false
  /-- Ticks for which the clock was stopped or the island without power (R508), and since when it is. -/
  offTicks : Nat := 0
  offSince : Option Nat := none
  /-- Tick of the island's last activity, for the 1,000 idle ticks of R550. -/
  idleSince : Nat := 0
  /-- The island has been powered and takes its copy from the next beacon (R552). -/
  fresh : Bool := false
  /-- A timing fault has been found at the last beacon (R41). -/
  fault : Bool := false
  deriving DecidableEq, Repr, Inhabited

/-- The freeze in hand beside the registers of R62. -/
structure FreezeSt where
  /-- Tick at which STATE became DRAINING. -/
  drainAt : Nat := 0
  /-- Packages that have been sent the broadcast of R62 through this package, links by number. -/
  sentTo : List Nat := []
  /-- Total of the frozen spans [T, U) so far, which R60 leaves out of the counts it lists. -/
  frozenTicks : Nat := 0
  deriving DecidableEq, Repr, Inhabited

/-- The always-on domain: kept by every reset but power-on (R562). -/
structure AlwaysOn where
  /-- The tick count of the reference, 64 bits (R37). -/
  tick : Nat := 0
  /-- The epoch number of the time base, 32 bits (R39). -/
  epoch : Nat := 0
  /-- The sequence mark: end of the last block of request sequence numbers reserved (R312). -/
  seqMark : Nat := 0
  /-- PWR_RESET_CAUSE KIND, SOURCE and FAILSAFE_CAUSE (R569). -/
  causeKind : Nat := 0
  causeSource : Nat := 0
  causeFailsafe : Nat := 0
  /-- Start-up step in progress, 0 before AON_POWER_GOOD (R566, R580). -/
  startStep : Nat := 0
  /-- Start-up stopped on a failure (R567). -/
  startFailed : Bool := false
  /-- BOOT_SEL[1:0] pins and the value latched at step 1 (R568). -/
  bootSelPins : Nat := 0
  bootSel : Nat := 0
  /-- Start-up holds where BOOT_SEL has it hold (R568). -/
  startHold : Bool := false
  /-- A warm reset that drains: its tick and SOURCE (R564). -/
  warm : Option (Nat × Nat) := none
  /-- Pins (R570): PKG_RESET_N and PPS_IN in; THERM_ALERT_N and PWR_MAIN_EN out. -/
  pkgResetN : Bool := true
  ppsIn : Bool := false
  /-- Reference tick of the latest rise of PPS_OUT. -/
  ppsOut : Option Nat := none
  thermAlertN : Bool := true
  mainEn : Bool := false
  /-- Tick until which an injected trip asserts THERM_ALERT_N (R500), and an injected TRIP1 that the next update takes. -/
  alertUntil : Nat := 0
  trip1Once : Bool := false
  /-- A cold reset is held by PKG_RESET_N (R565). -/
  heldInReset : Bool := false
  /-- The comparators have fired since their last write (R47). -/
  cmpDone0 : Bool := false
  cmpDone1 : Bool := false
  /-- An accepted S1 request that has not completed, and S1 itself (R554). -/
  s1Pending : Bool := false
  s1 : Bool := false
  /-- Tick at which the S1 request was accepted (the 10 ms of R554). -/
  s1Since : Nat := 0
  /-- WAKE_EN bits and compare ticks latched at the S1 request (R554). -/
  s1Wake0 : Bool := false
  s1Wake1 : Bool := false
  s1Cmp0 : W64 := 0xFFFFFFFFFFFFFFFF
  s1Cmp1 : W64 := 0xFFFFFFFFFFFFFFFF
  /-- A wake event latched before PWR_MAIN_EN falls: its SOURCE code (R555). -/
  wakeLatched : Option Nat := none
  /-- Tick of a TRIP3 emergency off still in force (R557). -/
  thermalOff : Option Nat := none
  /-- Log records dropped at a warm reset and the stamp of the first (R587). -/
  logDropped : Nat := 0
  logDroppedFirst : Option Stamp := none
  deriving DecidableEq, Repr, Inhabited

/-- A record held for coalescing with the tick of its first occurrence (R496). -/
structure Coalesce where
  since : Nat := 0
  record : ErrRec := {}
  deriving DecidableEq, Repr, Inhabited

/-- The RAS unit beside the registers of R506. -/
structure RasSt where
  /-- Records that have reached the RAS unit and are not yet written, held or dropped, oldest first. -/
  arrived : List ErrRec := []
  /-- Corrected records held for coalescing (R496). -/
  coalescing : List Coalesce := []
  /-- Records held while the ring is full or not registered, at most 1,024 (R497). -/
  held : List ErrRec := []
  /-- Stamp of the first record dropped since the last LOSS record, and how many (R497). -/
  lossFirst : Option Stamp := none
  lossCount : Nat := 0
  /-- Position of the next record in the log since cold reset (R495 LOG_SEQ). -/
  logSeq : Nat := 0
  /-- PRODUCER and the CONSUMER last taken of the log ring (R497, R328), and the last invalid CONSUMER logged. -/
  producer : Nat := 0
  consumer : Nat := 0
  badConsumer : List Nat := []
  /-- Firmware's error queues, one a ranger core (R497): core number to records, oldest first. -/
  fwErr : SMap (List ErrRec) := []
  /-- Stamp of the ARM write of the armed injection (R499). -/
  injectStamp : Option Stamp := none
  /-- Line at which patrol scrub stands and the pass number (R487). -/
  scrubLine : Nat := 0
  scrubPass : Nat := 0
  deriving DecidableEq, Repr, Inhabited

/-- A byte-addressed store whose 32-bit words carry poison (R483, R485): the key of a poison mark is the byte address
divided by four. -/
structure Store where
  bytes : SMap Byte := []
  poison : SMap Bool := []
  deriving DecidableEq, Repr, Inhabited

end Sys2Proof.Machine
end

