-- ==== Sys2Proof/Machine/StateBay.lean ====
section
/-! DEFINITION. The state of a bay (chapters 03 to 06 of the spec): crews of strands, memories, event slots, staged
spans, the truss, the queues of the units.  A field's default is its value at bay reset (R552, R563). -/

namespace Sys2Proof.Machine

/-- A `v` register: 32 bits and its poison bit (R69, R107). -/
structure VReg where
  val : W32 := 0
  poison : Bool := false
  deriving DecidableEq, Repr, Inhabited

/-- A `u` register: 64 bits and its poison bit (R70, R107). -/
structure UReg where
  val : W64 := 0
  poison : Bool := false
  deriving DecidableEq, Repr, Inhabited

/-- A predicate register and its poison bit (R69, R107). -/
structure PReg where
  val : Bool := false
  poison : Bool := false
  deriving DecidableEq, Repr, Inhabited

/-- An entry of the reconvergence stack (R78).  While `second` is false the strands that took the branch run and `mask`
holds those that did not; the entry counts toward the depth of 16.  Once those that took it have reached the
reconvergence address the entry is popped, `second` is true and `mask` holds the strands that wait there. -/
structure Reconv where
  reconv : Nat := 0
  fall : Nat := 0
  mask : W32 := 0
  second : Bool := false
  deriving DecidableEq, Repr, Inhabited

/-- What a long-latency operation does when it lands (R80, R82). -/
structure LongOp where
  /-- Number of the operation within its crew. -/
  id : Nat := 0
  /-- Word address of the instruction that issued it. -/
  pc : Nat := 0
  /-- The reply is here and can land. -/
  ready : Bool := false
  /-- The operation waits for a reply from another package: its transaction number (R445). -/
  remote : Option Nat := none
  /-- `v` registers it fills, by 64 × lane + register, with what lands there. -/
  regs : List (Nat × VReg) := []
  /-- Bay store address and payload bytes it writes when it lands. -/
  addr : Nat := 0
  bytes : List Byte := []
  poisoned : Bool := false
  /-- Event slot it signals. -/
  slot : Option Nat := none
  /-- Deferred trap it raises instead of landing: cause, faulting lanes, detail (R130). -/
  trap : Option (Nat × W32 × W64) := none
  /-- Entries it takes in the bay's table of 4,096 outstanding memory requests (R82). -/
  reqs : Nat := 0
  /-- It is an outstanding FENCE.DEVICE, complete once the crew's earlier accesses are performed (R91). -/
  fence : Bool := false
  deriving DecidableEq, Repr, Inhabited

/-- Why a crew is parked (R81). -/
inductive Park where
  | running
  /-- A source register that this long-latency operation has yet to fill. -/
  | operand (id : Nat)
  /-- A ninth long-latency operation. -/
  | ninth
  /-- PARK, FENCE.DEVICE or EXIT while operations are outstanding. -/
  | drain
  /-- EV.WAIT on a slot for a value. -/
  | event (slot : Nat) (target : W32)
  /-- LAUNCH with the launch queue full. -/
  | launch
  deriving DecidableEq, Repr, Inhabited

/-- A resident crew (R69 to R82). -/
structure Crew where
  /-- Declared register count: 8, 16, 32 or 64. -/
  count : Nat := 8
  /-- Program counter, 15 bits (R100). -/
  pc : Nat := 0
  /-- Active strands of the path that runs. -/
  active : W32 := 0xFFFFFFFF
  /-- Strands that have ended (R72). -/
  ended : W32 := 0
  stack : List Reconv := []
  /-- `v` registers by 64 × lane + register; predicates by 8 × lane + number; `u` registers by number. -/
  v : SMap VReg := []
  p : SMap PReg := []
  u : SMap UReg := []
  park : Park := .running
  /-- Outstanding long-latency operations, oldest first (R81), and the number of the next. -/
  ops : List LongOp := []
  nextOp : Nat := 0
  /-- Tick before which YIELD keeps the crew from being ready (R76). -/
  notBefore : Nat := 0
  /-- Every strand has executed EXIT, and the crew ends once its operations have landed (R72). -/
  exiting : Bool := false
  /-- The crew has trapped and issues nothing more (R130). -/
  trapped : Bool := false
  /-- Crew slot under which it is held at a breakpoint (R537). -/
  held : Option Nat := none
  /-- Event slot signalled when the crew ends. -/
  endSlot : Option Nat := none
  /-- Staged spans whose data the crew may read: entries whose event it has waited on, or fenced, since (R84). -/
  spansSeen : List Nat := []
  /-- Request whose leg the crew runs (0: none) and its scheduling class rank (R382). -/
  request : Nat := 0
  rank : Nat := 0
  /-- Firmware command that launched it, 0 for none (R536). -/
  cmd : Nat := 0
  /-- Position among the bay's launches (R383). -/
  launchNo : Nat := 0
  /-- Highest TICK stamped on an effect of the crew (R92). -/
  lastEffect : Nat := 0
  deriving DecidableEq, Repr, Inhabited

/-- A launch descriptor in the launch queue (R71, R113). -/
structure LaunchDesc where
  entry : Nat := 0
  count : Nat := 8
  endSlot : Option Nat := none
  /-- Initial `u` registers. -/
  u : List UReg := []
  request : Nat := 0
  rank : Nat := 0
  /-- Firmware command that launches it, 0 for none (R536). -/
  cmd : Nat := 0
  deriving DecidableEq, Repr, Inhabited

/-- A staged span (R84). -/
structure Span where
  /-- Device-range address and length mapped, and the bay store address that holds them. -/
  dev : Nat := 0
  len : Nat := 0
  base : Nat := 0
  /-- Event slot of the installing DMA, and whether its completion has been signalled. -/
  slot : Option Nat := none
  done : Bool := false
  deriving DecidableEq, Repr, Inhabited

/-- A queued long form (R119): its opcode, the values its `u` operands held at issue, FUNC and the second word. -/
structure LongForm where
  op : Nat := 0
  a : W64 := 0
  b : W64 := 0
  c : W64 := 0
  /-- Value of the `u` register that DST names (SEL.EMIT). -/
  d : W64 := 0
  func : Nat := 0
  w2 : W64 := 0
  /-- Crew slot and request of the issuer. -/
  crew : Nat := 0
  request : Nat := 0
  deriving DecidableEq, Repr, Inhabited

/-- A running compare-mode list (R163, R165): the list, the elements left out at its last entry's key, whether a poisoned
value has entered it (R491). -/
structure RunList where
  list : ResList := {}
  out : Nat := 0
  bad : Bool := false
  deriving DecidableEq, Repr, Inhabited

/-- The truss (R134, R155, R166). -/
structure Truss where
  /-- Shape in effect: 0 S128, 1 S64, 2 S32, 3 S16. -/
  shape : Nat := 0
  /-- Active and shadow weights: the cell word of row `r` and column `n` at key `r * C + n`. -/
  active : SMap PWord := []
  shadow : SMap PWord := []
  /-- Weight scales of the active and the shadow tile, block-major (R154). -/
  activeScale : SMap PWord := []
  shadowScale : SMap PWord := []
  /-- The shadow tile is an MX tile of one K position a cell (R155), and so is the active one. -/
  shadowPair : Bool := false
  activePair : Bool := false
  /-- A tile has been made active since TR.SHAPE (R155: the first is half 0). -/
  anyActive : Bool := false
  pairHalf : Bool := false
  /-- Pair buffer by 16 × column + vector, as FP32 words, and whether it holds half-0 sums. -/
  pairBuf : SMap PWord := []
  pairPending : Bool := false
  /-- Column results that were NaN since bay reset, 32 bits, saturating. -/
  nans : Nat := 0
  /-- Running compare-mode lists by the bay store address of the first list of their TR.CMP, in stream order (R165). -/
  lists : SMap (List RunList) := []
  /-- Queue of truss forms, oldest first, at most 8 (R121). -/
  queue : List LongForm := []
  deriving DecidableEq, Repr, Inhabited

/-- A DMA channel (R121, R127, R490). -/
structure DmaChan where
  queue : List LongForm := []
  halted : Bool := false
  /-- Descriptors the channel has started, modulo 65,536. -/
  started : Nat := 0
  deriving DecidableEq, Repr, Inhabited

/-- A bay. -/
structure Bay where
  /-- Tent that owns the bay (R585). -/
  tent : Option Nat := none
  /-- Retired (R25, R390); the mark outlives a bay reset. -/
  retired : Bool := false
  /-- Power-gated (R552, R553). -/
  gated : Bool := false
  /-- The part has yet to reset the bay (R375, R376, R388). -/
  resetDue : Bool := false
  /-- Crews launched. -/
  launches : Nat := 0
  /-- Resident crews by crew slot (R65). -/
  crews : SMap (Option Crew) := []
  /-- Launch queue, at most 16, served in order (R74). -/
  launchq : List LaunchDesc := []
  /-- Bay store, 4 MiB, and accumulator store, 1 MiB, with their poison marks. -/
  store : Store := {}
  acc : Store := {}
  /-- Instruction store, 32,768 words, and the words that read as uncorrectable. -/
  istore : SMap W64 := []
  istoreBad : SMap Bool := []
  /-- Event slots, 256 × 32 bits (R85). -/
  events : SMap PWord := []
  /-- Staged span entries 0 to 7 (R84). -/
  spans : SMap (Option Span) := []
  truss : Truss := {}
  /-- DMA channels 0 to 7. -/
  dma : SMap DmaChan := []
  /-- Select and merge queue, at most 4, and sampler slice queue, at most 8 (R121). -/
  selq : List LongForm := []
  smpq : List LongForm := []
  /-- BAY_SELECT counts (R190): forms completed, NaN keys, tie counts as the register has them, by field position. -/
  selCounts : SMap Nat := []
  /-- BAY_TRAP (R133). -/
  trapCount : Nat := 0
  trapCause : Nat := 0
  trapSlot : Nat := 0
  trapPc : Nat := 0
  /-- BAY_DMA_FAULT (R490): last channel, DESC_INDEX and CAUSE. -/
  dmaLast : Nat := 0
  dmaIndex : Nat := 0
  dmaCause : Nat := 0
  deriving DecidableEq, Repr, Inhabited

/-- A trap record (R132). -/
structure TrapRec where
  stamp : Stamp := {}
  pc : Nat := 0
  cause : Nat := 0
  slot : Nat := 0
  lanes : W32 := 0
  detail : W64 := 0
  /-- The bay that sent it, which the stamp's island names. -/
  bay : Nat := 0
  deriving DecidableEq, Repr, Inhabited

end Sys2Proof.Machine
end

