-- ==== Sys2Proof/Machine/StateFabric.lean ====
section
/-! DEFINITION. The state of the fabric unit (chapter 15 of the spec).  A field's default is its value at cold reset. -/

namespace Sys2Proof.Machine

/-- A link beside its FAB_LINK registers. -/
structure Link where
  /-- Flits routed to the link and not sent, oldest first. -/
  queue : List Flit := []
  /-- Retry buffer, oldest first, at most 1,024; flits to send again; how often the oldest has been replayed. -/
  retry : List Flit := []
  resend : List Flit := []
  replays : Nat := 0
  /-- Next LSEQ to send, and the next one expected. -/
  txSeq : Nat := 0
  rxSeq : Nat := 0
  /-- Credits used of those the far end grants, receive buffer entries that it may not fill, and credits to return, by
  2 × class + virtual channel. -/
  used : SMap Nat := []
  filled : SMap Nat := []
  returns : SMap Nat := []
  /-- The latest flit put on the wire. -/
  wire : Option Flit := none
  /-- The ends have agreed keys (R437). -/
  keyed : Bool := false
  /-- Flits accepted since the last ACK, the tick of that ACK, and a NAK to send. -/
  ackDue : Nat := 0
  ackTick : Nat := 0
  nakDue : Bool := false
  /-- Flits in the seal block of each direction, and flits since the keys were agreed. -/
  sealTx : Nat := 0
  sealRx : Nat := 0
  flits : Nat := 0
  /-- Tick of the last flit sent, of the last exchange, of the last failed training, of the oldest unacknowledged flit. -/
  lastTx : Nat := 0
  exchanged : Nat := 0
  trainedAt : Nat := 0
  unackedAt : Nat := 0
  /-- The latest exchange found the skew within R42; the far end's time root and its hops to it. -/
  skewOk : Bool := false
  farRoot : Nat := 4095
  farHops : Nat := 0
  /-- Class served last, and slots since the last SYSTEM flit. -/
  lastClass : Nat := 0
  sinceSystem : Nat := 4
  /-- Flits for other packages in the receive buffer. -/
  forward : List Flit := []
  /-- The link has failed and waits for the far end's notice (R456): since when, and the new flits it holds. -/
  waiting : Option Nat := none
  held : List Flit := []
  /-- The retry buffer at that failure. -/
  lost : List Flit := []
  deriving DecidableEq, Repr, Inhabited

/-- What a remote operation does with its reply (R118, R445). -/
inductive RemoteUse where
  /-- Data for `v` registers: register key and size. -/
  | regs (dest size : Nat)
  /-- Data for the bay store at this offset of the operation's bytes. -/
  | store (off : Nat)
  /-- Nothing but completion. -/
  | done
  deriving DecidableEq, Repr, Inhabited

/-- A transaction that waits for its reply. -/
structure RemoteOp where
  tag : Nat := 0
  tent : Nat := 0
  dest : Nat := 0
  stamp : Stamp := {}
  bay : Nat := 0
  slot : Nat := 0
  opId : Nat := 0
  pc : Nat := 0
  lane : Nat := 0
  addr : Nat := 0
  use : RemoteUse := .done
  /-- Unfrozen tick of its issue. -/
  since : Nat := 0
  /-- Nothing waits for the reply any more: it is dropped when it comes. -/
  dead : Bool := false
  /-- A flit of it was dropped for want of a route. -/
  noRoute : Bool := false
  deriving DecidableEq, Repr, Inhabited

/-- A registered group (R449): tent, and each member's device and bay. -/
structure CollGroup where
  tent : Nat := 0
  members : List (Nat × Nat) := []
  deriving DecidableEq, Repr, Inhabited

/-- A member of an instance that has joined on this package (R450 to R452). -/
structure CollMember where
  member : Nat := 0
  bay : Nat := 0
  slot : Nat := 0
  dst : Nat := 0
  statusAddr : Nat := 0
  /-- Its contribution, and whether a word of it is poisoned. -/
  value : List Byte := []
  bad : Bool := false
  /-- Its sub-tree's value has been sent to its parent on another package. -/
  sent : Bool := false
  /-- Its part is over. -/
  finished : Bool := false
  deriving DecidableEq, Repr, Inhabited

/-- An instance of a collective. -/
structure CollInst where
  group : Nat := 0
  inst : Nat := 0
  /-- OP, ELEM, REDUCE, COUNT, SEL of the first to join. -/
  shape : List Nat := []
  joined : List CollMember := []
  /-- Values of sub-trees whose root is a member on another package. -/
  remote : List (Nat × List Byte) := []
  /-- Results that the root sent, by member. -/
  results : List (Nat × List Byte) := []
  /-- Unfrozen tick of the first join. -/
  since : Nat := 0
  /-- Status other than DONE that ends the instance, 0 for none, and whether the other packages have been told. -/
  status : Nat := 0
  told : Bool := false
  deriving DecidableEq, Repr, Inhabited

/-- The fabric unit. -/
structure FabricSt where
  links : SMap Link := []
  /-- Routing entries by device number (R441). -/
  routes : SMap W64 := []
  /-- Route holds (R442): device number to the tick they end; the flits held. -/
  holds : SMap Nat := []
  heldFlits : List Flit := []
  /-- Transactions for this package whose flits are still to come: their stamp, the HEAD flit's transaction, and the flits
  that have come. -/
  partial_ : List (Stamp × Option Txn × Nat) := []
  /-- Transactions for this package that no unit has served, with the link that brought them, oldest first. -/
  arrived : List (Nat × Txn) := []
  ops : List RemoteOp := []
  nextTag : Nat := 0
  /-- KEY_IDs that other packages have announced, by 4,096 × tent + device. -/
  keyIds : SMap Nat := []
  groups : SMap (Option CollGroup) := []
  insts : List CollInst := []
  deriving DecidableEq, Repr, Inhabited

end Sys2Proof.Machine
end

