-- ==== Sys2Proof/Machine/StateFw.lean ====
section
/-! DEFINITION. The state of firmware's queues, of Lookout and of what Lookout keeps in management flash and in the RPMB device
(chapters 16, 19 and 20 of the spec).  A field's default is its value at cold reset; that of a non-volatile field, its value
as delivered. -/

namespace Sys2Proof.Machine

/-- An event entry that waits for room in the event queue (R535). -/
structure FwEvent where
  type : Nat := 0
  status : Nat := 0
  tag : Nat := 0
  stamp : Stamp := {}
  args : List Nat := []
  deriving DecidableEq, Repr, Inhabited

/-- A LAUNCH command in progress (R536). -/
structure FwCmd where
  /-- The model's own number, from 1, by which its crew names it. -/
  id : Nat := 0
  tag : Nat := 0
  tent : Nat := 0
  bay : Nat := 0
  desc : LaunchDesc := {}
  deriving DecidableEq, Repr, Inhabited

/-- Firmware beside the FW registers (R531 to R536). -/
structure FwSt where
  /-- The image copied into the firmware area. -/
  image : List Byte := []
  /-- Events that wait while the event queue is full, oldest first. -/
  waiting : List FwEvent := []
  progress : List FwCmd := []
  /-- LAUNCH commands taken so far. -/
  launches : Nat := 0
  /-- MSI writes sent, and the address and data of the latest (R534). -/
  msis : Nat := 0
  msi : Option (W64 × W32) := none
  deriving DecidableEq, Repr, Inhabited

/-- A reading of every sensor (R539). -/
structure Sensors where
  tick : Nat := 0
  epoch : Nat := 0
  /-- Package power in milliwatts. -/
  powerMw : Nat := 0
  /-- Die temperatures and stack temperatures in 1/16 °C, two's complement, 16 bits. -/
  temps : List Nat := []
  stackTemps : List Nat := []
  /-- Millivolts and milliamps of rails 0 to 31. -/
  rails : List (Nat × Nat) := []
  deriving DecidableEq, Repr, Inhabited

/-- A management session, from its HELLO on (R543, R544). -/
structure MgmtSession where
  /-- Client key; the KEM seed of ACCEPT; H1. -/
  key : List Byte := []
  seed : W256 := 0
  h1 : W256 := 0
  /-- FINISH was accepted: the keys from and to the client, and the SEQ each direction takes next. -/
  on : Bool := false
  c2l : W256 := 0
  l2c : W256 := 0
  seqIn : Nat := 0
  seqOut : Nat := 0
  deriving DecidableEq, Repr, Inhabited

/-- An update that UPDATE_BEGIN opened (R547). -/
structure Update where
  component : Nat := 0
  bytes : Nat := 0
  data : List Byte := []
  deriving DecidableEq, Repr, Inhabited

/-- Lookout's state, which a warm reset keeps (R562). -/
structure LookSt where
  sensors : Sensors := {}
  /-- THERMAL_CAP as 5 % steps below the envelope, and the tick of its last step (R541). -/
  capSteps : Nat := 0
  capTick : Nat := 0
  /-- Management sessions by connection. -/
  sessions : SMap (Option MgmtSession) := []
  /-- The last message sent on a connection. -/
  replies : SMap (List Byte) := []
  update : Option Update := none
  /-- A restart of Basecamp is due (R538). -/
  restart : Bool := false
  /-- Basecamp runs: core 0 has been released. -/
  basecamp : Bool := false
  deriving DecidableEq, Repr, Inhabited

/-- A record of the management log (R549). -/
structure MgmtRec where
  stamp : Stamp := {}
  epoch : Nat := 0
  type : Nat := 0
  result : Nat := 0
  source : Nat := 0
  keyTag : Nat := 0
  arg0 : Nat := 0
  arg1 : Nat := 0
  seq : Nat := 0
  deriving DecidableEq, Repr, Inhabited

/-- A verified image: header and body (R463). -/
structure Image where
  bytes : List Byte := []
  svn : Nat := 0
  deriving DecidableEq, Repr, Inhabited

/-- Management flash and the RPMB device (R465, R541, R545, R547 to R549). -/
structure MgmtFlash where
  log : List MgmtRec := []
  nextSeq : Nat := 0
  /-- OPERATOR_CAP; none: the assembly's envelope. -/
  operatorCap : Option Nat := none
  hostGib : Nat := 32
  softC : Nat := 95
  ptpDomain : Nat := 0
  /-- Digests of the client keys of the trust list. -/
  trust : List W256 := []
  /-- Floors by component; keys revoked, bit k for ROM digest k. -/
  floors : SMap Nat := []
  revoked : Nat := 0
  /-- Active and pending image of components 1 to 3, failed attempts in a row of the pending one, and whether bank B is the
  active one. -/
  active : SMap Image := []
  pending : SMap (Option Image) := []
  attempts : SMap Nat := []
  bankB : SMap Bool := []
  deriving DecidableEq, Repr, Inhabited

end Sys2Proof.Machine
end

