-- ==== Sys2Proof/Machine/StateLantern.lean ====
section
/-! DEFINITION. The state of Lantern (chapter 07 of the spec).  A field's default is its value at cold reset. -/

namespace Sys2Proof.Machine

/-- A shard entry of an index descriptor (R194). -/
structure Shard where
  idBase : Nat := 0
  nodes : Nat := 0
  nodeTable0 : Nat := 0
  nodeTable1 : Nat := 0
  granules : Nat := 0
  directory : Nat := 0
  versionArea : Nat := 0
  versionGranules : Nat := 0
  dirLog2 : Nat := 0
  owner : Nat := 0
  entries : List Nat := []
  deriving DecidableEq, Repr, Inhabited

/-- An index descriptor as the engines read it at registration (R193, R194). -/
structure Index where
  slot : Nat := 0
  tent : Nat := 0
  /-- METRIC is inner product, else L2. -/
  inner : Bool := false
  /-- VEC_FORMAT of R122. -/
  fmt : Nat := 7
  dim : Nat := 0
  codes : Nat := 1
  engines : Nat := 0
  fmt0 : Nat := 0
  fmt1 : Nat := 0
  maxDegree : Nat := 0
  insertL : Nat := 0
  params0 : Nat := 0
  params1 : Nat := 0
  shards : List Shard := []
  deriving DecidableEq, Repr, Inhabited

/-- The query side of a code (R196): the sketch, or y with its tables. -/
structure CodeSide where
  fmt : Nat := 0
  inner : Bool := false
  /-- Bits of sketch(q). -/
  sketch : List Bool := []
  /-- y = P q. -/
  y : List W32 := []
  /-- T[d][c] at place 16 d + c. -/
  table : List W32 := []
  scales : List W32 := []
  deriving DecidableEq, Repr, Inhabited

/-- A place of the beam (R202). -/
structure BeamEntry where
  node : Nat := 0
  score : W32 := 0
  expanded : Bool := false
  deriving DecidableEq, Repr, Inhabited

/-- What a granule read brought: the exact distance and the neighbour list (R203, R206). -/
structure Landed where
  node : Nat := 0
  dist : W32 := 0
  neighbours : List Nat := []
  deriving DecidableEq, Repr, Inhabited

/-- A sub-query: one query vector over one shard (R202). -/
structure SubQuery where
  shard : Nat := 0
  vec : List W32 := []
  side : CodeSide := {}
  /-- In position order. -/
  beam : List BeamEntry := []
  /-- Bits set in the visited filter (R205). -/
  visited : List Nat := []
  /-- Granules that have landed: kept until the entry leaves the beam unexpanded. -/
  landed : List Landed := []
  /-- Nodes whose granule read is on its way. -/
  reading : List Nat := []
  /-- Entries of the round in progress, and whether the round consumes `extra`. -/
  round : Option (List Nat × Bool) := none
  l : Nat := 0
  rounds : Nat := 0
  extra : Nat := 0
  /-- 0 CONVERGED, 1 ROUNDS. -/
  ended : Option Nat := none
  /-- Granule reads since the last round ended. -/
  roundReads : Nat := 0
  deriving DecidableEq, Repr, Inhabited

/-- The counts of the statistics record (R211). -/
structure SearchStats where
  expansions : Nat := 0
  reads : Nat := 0
  prefetchUnused : Nat := 0
  scored : Nat := 0
  filterRejected : Nat := 0
  deletedSkipped : Nat := 0
  callbackRejected : Nat := 0
  callbackTimeouts : Nat := 0
  deriving DecidableEq, Repr, Inhabited

/-- A callback batch that the engine has posted (R209). -/
structure Batch64 where
  /-- Sub-query and node of each candidate. -/
  cands : List (Nat × Nat) := []
  since : Nat := 0
  deriving DecidableEq, Repr, Inhabited

/-- A query on an engine. -/
structure Query where
  seq : Nat := 0
  engine : Nat := 0
  /-- Snapshot s. -/
  snapshot : Stamp := {}
  index : Index := {}
  /-- Filter clauses: MASK, VALUE, OP. -/
  clauses : List (W64 × W64 × Nat) := []
  subs : List SubQuery := []
  stats : SearchStats := {}
  /-- Candidates of re-scoring that pass the clauses, once they are known; those the callback has still to test, those that
  have passed it. -/
  cands : Option (List (Nat × Nat)) := none
  todo : List (Nat × Nat) := []
  passed : List (Nat × Nat) := []
  batch : Option Batch64 := none
  /-- Lists of a GROUND_TRUTH request, one a query vector. -/
  lists : List ResList := []
  deriving DecidableEq, Repr, Inhabited

/-- A granule of a version area in use (R197, R217). -/
structure Version where
  addr : Nat := 0
  node : Nat := 0
  /-- The stamp in its COMMIT; none until the commit. -/
  commit : Option Stamp := none
  deriving DecidableEq, Repr, Inhabited

/-- A mutation whose granules and records are written and whose commit is to come (R213 to R215). -/
structure Mutation where
  seq : Nat := 0
  index : Index := {}
  shard : Nat := 0
  /-- New versions: node and granule address. -/
  versions : List (Nat × Nat) := []
  /-- Node that a DELETE marks. -/
  delete : Option Nat := none
  deriving DecidableEq, Repr, Inhabited

/-- Lantern. -/
structure LanternSt where
  /-- Descriptors of the valid slots. -/
  indexes : SMap (Option Index) := []
  queries : List Query := []
  mutations : List Mutation := []
  /-- Version granules in use, by tent and address of the version area: 2^56 × tent + address. -/
  versions : SMap (List Version) := []
  /-- Requests that have waited for a gate (R201), or for a version granule (R217). -/
  gateWaited : List Nat := []
  stalled : List Nat := []
  /-- Reference tick of each engine's latest reclamation. -/
  reclaimed : SMap Nat := []
  deriving DecidableEq, Repr, Inhabited

end Sys2Proof.Machine
end

