-- ==== Sys2Proof/Machine/StateMem.lean ====
section
/-! DEFINITION. The state of the device range and the flash tier (chapter 09 of the spec): panel tables, physical
panels, held accesses, migrations, SSDs and flash sets.  A field's default is its value at cold reset. -/

namespace Sys2Proof.Machine

/-- A panel entry (R244). -/
structure Panel where
  /-- 0 INVALID, 1 RESIDENT, 2 FLASH, 3 MIGRATING_IN, 4 MIGRATING_OUT, 5 RETIRED. -/
  state : Nat := 0
  pin : Bool := false
  homeFlash : Bool := false
  accessed : Bool := false
  /-- Bit g: granule g differs from its flash copy. -/
  dirty : BitVec 16 := 0
  /-- HBM_PANEL, 24 bits. -/
  hbm : Nat := 0
  /-- EXTENT, 35 bits. -/
  extent : Nat := 0
  deriving DecidableEq, Repr, Inhabited

/-- What a retention record holds (R243). -/
structure Retention where
  stackMask : Nat := 0
  interleave : Bool := false
  quota : Nat := 0
  flashEnable : Bool := false
  flashSet : Nat := 0
  baseK : Nat := 0
  countK : Nat := 0
  keyId : W64 := 0
  deriving DecidableEq, Repr, Inhabited

/-- A tent's panel table (R240, R241); VALID, RETAINED, RANGE_LOG2 and DIR_ADDR stand in MEM_PANEL_TABLE_BASE. -/
structure PanelTable where
  /-- Panel entries by panel number. -/
  panels : SMap Panel := []
  /-- Spans of 4,096 panels that have a leaf: directory index to the leaf's place in the pool, in units of 64 KiB,
  plus one. -/
  leaves : SMap Nat := []
  /-- Panel at which the next eviction sweep starts (R268). -/
  sweep : Nat := 0
  retention : Option Retention := none
  deriving DecidableEq, Repr, Inhabited

/-- What an access does once it is performed (R109, R110, R245). -/
inductive AccOp where
  | load
  | store
  /-- An atomic of R110: its operation code; the compare value of CAS. -/
  | atom (op : Nat) (cmp : W64)
  deriving DecidableEq, Repr, Inhabited

/-- One lane's device-range access, held while its panel is not RESIDENT (R266, R267). -/
structure Access where
  stamp : Stamp := {}
  tent : Nat := 0
  /-- Device-range address and size in bytes. -/
  addr : Nat := 0
  size : Nat := 0
  op : AccOp := .load
  /-- Data of a store or operand of an atomic, and its poison. -/
  data : W128 := 0
  poison : Bool := false
  /-- Bay, crew slot and operation that the result returns to, and the `v` register (64 × lane + register) it fills. -/
  bay : Nat := 0
  slot : Nat := 0
  opId : Nat := 0
  /-- Word address of the instruction. -/
  pc : Nat := 0
  dest : Option Nat := none
  /-- The load sign-extends. -/
  signed : Bool := false
  deriving DecidableEq, Repr, Inhabited

/-- A migration request in an engine's queue or in flight (R265, R267). -/
structure Migration where
  tent : Nat := 0
  panel : Nat := 0
  /-- Write-back to flash, not inbound. -/
  out : Bool := false
  /-- A demand request (an access or an eviction for one), not a hint. -/
  demand : Bool := false
  /-- Order stamp of the request. -/
  stamp : Stamp := {}
  /-- Write-back: the writes have completed, the panel is closed, and the commit stamp is `commit` (R267). -/
  commit : Option Stamp := none
  /-- DIRTY as it stood when the write-back began (R243). -/
  beganDirty : BitVec 16 := 0
  /-- Inbound panel this eviction makes room for. -/
  forPanel : Option Nat := none
  deriving DecidableEq, Repr, Inhabited

/-- A migration engine (R265): its queue of at most 4,096 requests and its migrations in flight, at most 64. -/
structure MigEngine where
  queue : List Migration := []
  flight : List Migration := []
  /-- EVICT_ABORTED and QUOTA_FAILURES (R272), 16 bits each, saturating. -/
  aborted : Nat := 0
  quotaFailures : Nat := 0
  deriving DecidableEq, Repr, Inhabited

/-- Who uses a physical panel: tent and panel, or the replacement of a retired one (R271). -/
structure PhysUse where
  tent : Nat := 0
  panel : Nat := 0
  /-- Stack mask and interleaving under which it was taken (R250). -/
  stackMask : Nat := 0
  interleave : Bool := false
  deriving DecidableEq, Repr, Inhabited

/-- An NVMe command outstanding on an SSD (R257). -/
structure NvmeCmd where
  id : Nat := 0
  /-- Tent and panel whose migration issued it. -/
  tent : Nat := 0
  panel : Nat := 0
  ssd : Nat := 0
  /-- Set and data granule it serves. -/
  set : Nat := 0
  granule : Nat := 0
  write : Bool := false
  since : Nat := 0
  deriving DecidableEq, Repr, Inhabited

/-- A flash set as assembled (R258, R261), beside its MEM_FLASHSET registers. -/
structure FlashSet where
  /-- Slot numbers in slot order: entry k is the SSD of index k. -/
  slots : List Nat := []
  stripes : Nat := 0
  /-- Smallest SSD capacity in granules, less 262,144. -/
  gmin : Nat := 0
  identity : W128 := 0
  /-- Extents in use, by extent number: the tent that holds it plus one. -/
  extents : SMap Nat := []
  /-- A rebuild in progress: SSD index. -/
  rebuilding : Option Nat := none
  /-- A write is in progress on the set (R554). -/
  writing : Bool := false
  deriving DecidableEq, Repr, Inhabited

/-- Metadata that the part has written on an SSD (R261). -/
structure SsdMeta where
  identity : W128 := 0
  mask : Nat := 0
  plp : Bool := false
  set : Nat := 0
  deriving DecidableEq, Repr, Inhabited

/-- An SSD and its contents, kept by every reset (R256, R258, R562). -/
structure Ssd where
  present : Bool := false
  /-- It meets R256. -/
  supported : Bool := true
  /-- Capacity in 4 KiB granules. -/
  granules : Nat := 0
  volatileCache : Bool := false
  info : Option SsdMeta := none
  /-- Bytes of the data granules: 4,096 × offset + byte. -/
  data : SMap Byte := []
  /-- Stripes named in its intent log (R260). -/
  intent : List Nat := []
  /-- Data granules in the set's poison list (R264). -/
  poison : List Nat := []
  /-- Journal area of the reserved granules (R405): the records of the FLASH log, oldest first. -/
  journal : List JRec := []
  deriving DecidableEq, Repr, Inhabited

/-- The device range and its memories. -/
structure MemSt where
  /-- The host region by Basecamp physical address (R586), unlisted bytes 0. -/
  host : Store := {}
  /-- The HBM of tent panels and of the part's areas by HBM physical address (R249), unlisted bytes 0. -/
  hbm : Store := {}
  /-- Bits of stored HBM codewords that are in error, by word address (R487). -/
  flips : SMap Nat := []
  tables : SMap PanelTable := []
  /-- Physical panels in use, by HBM_PANEL. -/
  phys : SMap (Option PhysUse) := []
  /-- Panels of the carved areas on every stack: first slot and count (R252, R583). -/
  carved : List (Nat × Nat) := []
  /-- First slot of the retirement reserve, 64 slots on every stack (R271, R583). -/
  reserveSlot : Nat := 0
  /-- CONTROL_BASE, kept over warm and Basecamp resets (R586); 0 before the first start-up places it. -/
  controlBase : Nat := 0
  /-- An UNMAP that waits for a migration to end (R246): tent, next panel, panels left. -/
  unmapping : Option (Nat × Nat × Nat) := none
  /-- A retirement that waits for a migration to end: the physical panel. -/
  retiring : Option Nat := none
  /-- Accesses held while their panel is not served, in order of arrival. -/
  held : List Access := []
  mig : SMap MigEngine := []
  sets : SMap FlashSet := []
  nvme : List NvmeCmd := []
  nextNvme : Nat := 0
  /-- Granules, by set and number, whose read met a media error that could not be reconstructed (R262). -/
  unread : List (Nat × Nat) := []
  /-- HBM stacks in self-refresh and the tick of their last access (R553). -/
  selfRefresh : SMap Bool := []
  lastAccess : SMap Nat := []
  deriving DecidableEq, Repr, Inhabited

end Sys2Proof.Machine
end

