-- ==== Sys2Proof/Machine/StateObs.lean ====
section
/-! DEFINITION. The state of counters, trace and logs (chapter 18 of the spec). -/

namespace Sys2Proof.Machine

/-- A trace record (R519). -/
structure TraceRec where
  stamp : Stamp := {}
  type : Nat := 0
  tent : Nat := 0xFF
  /-- Bit 0 SEALED, bit 1 RESERVE_HELD, bit 2 INJECTED. -/
  flags : Nat := 0
  arg0 : Nat := 0
  arg1 : Nat := 0
  deriving DecidableEq, Repr, Inhabited

/-- The counters of one engine (R507); IDLE is what the engine's other clocks leave. -/
structure EngineCtr where
  busy : Nat := 0
  stall : Nat := 0
  /-- REASON[0-15]. -/
  reasons : SMap Nat := []
  /-- Live tick at which the counters were zeroed, and ticks until then for which the island had been off. -/
  since : Nat := 0
  off : Nat := 0
  /-- BUSY, STALL and reasons at the tick of a snapshot that is pending (R511). -/
  held : Option (Nat × Nat × SMap Nat) := none
  deriving DecidableEq, Repr, Inhabited

/-- A record of the firmware log ring (R525). -/
structure FwLogRec where
  stamp : Stamp := {}
  epoch : Nat := 0
  point : Nat := 0
  level : Nat := 0
  core : Nat := 0
  args : List Nat := []
  deriving DecidableEq, Repr, Inhabited

/-- Trace unit, snapshot and firmware log beside the registers of R518, R524 and R525. -/
structure ObsSt where
  /-- Events on their way to the trace unit, in the order it takes them (R521). -/
  events : List TraceRec := []
  /-- First and last dropped event since the last LOSS record, how many, and whether the reserve took any (R522). -/
  lossFirst : Option Stamp := none
  lossLast : Option Stamp := none
  lossCount : Nat := 0
  lossHeld : Bool := false
  /-- Records of the reserve with their index, oldest first (R523), and the index of the next. -/
  reserve : List (Nat × TraceRec) := []
  reserveNext : Nat := 0
  /-- Stamp of the source event of an armed trigger that is not settled yet, and of the trigger that fired. -/
  source : Option Stamp := none
  fired : Option Stamp := none
  badConsumer : List Nat := []
  /-- Engine counters by record number of R513. -/
  engines : SMap EngineCtr := []
  /-- Snapshots written (R512). -/
  snapshots : Nat := 0
  /-- RESERVE_MIB in effect since the latest cold start (R524). -/
  reserveMib : Nat := 0
  /-- PRODUCER, CONSUMER last taken and LOG_SEQ of the firmware log ring; records held, and dropped ones not yet reported. -/
  fwProducer : Nat := 0
  fwConsumer : Nat := 0
  fwSeq : Nat := 0
  fwHeld : List FwLogRec := []
  fwLossFirst : Option Stamp := none
  fwLossCount : Nat := 0
  fwBadConsumer : List Nat := []
  deriving DecidableEq, Repr, Inhabited

end Sys2Proof.Machine
end

