-- ==== Sys2Proof/Machine/StateReq.lean ====
section
/-! DEFINITION. The state of requests, stream rings, tents, shaping, accounting and the journal (chapters 11, 13 and 14 of
the spec).  A field's default is its value at cold reset. -/

namespace Sys2Proof.Machine

/-- A descriptor that the admission unit has fetched (R306, R312), and one that it holds (R313). -/
structure Fetched where
  /-- The 256 bytes of R308. -/
  bytes : List Byte := []
  sq : Nat := 0
  slot : Nat := 0
  cq : Nat := 0
  /-- SQ_CFG.TENT of its queue. -/
  sqTent : Nat := 0
  /-- Submission tick, and the count of unfrozen ticks at it. -/
  tick : Nat := 0
  live : Nat := 0
  /-- A 32-bit word of the descriptor was poisoned when it was fetched. -/
  poison : Bool := false
  deriving DecidableEq, Repr, Inhabited

/-- An accept record that waits to be posted (R312, R315, R337). -/
structure Accept where
  cq : Nat := 0
  seq : Nat := 0
  tick : Nat := 0
  /-- 0x0000 accepted, 0x0030 REJECTED. -/
  status : Nat := 0
  flags : Nat := 0
  tent : Nat := 0
  reason : Nat := 0
  slot : Nat := 0
  sq : Nat := 0
  client : Nat := 0
  /-- Tick at which it began to wait for the ADMIT commit (R413). -/
  since : Nat := 0
  deriving DecidableEq, Repr, Inhabited

/-- A CANCEL that has been admitted and whose accept record has not been posted (R337). -/
structure Cancel where
  seq : Nat := 0
  tent : Nat := 0
  client : Nat := 0
  target : Nat := 0
  stamp : Stamp := {}
  /-- OUTCOME of R408, once decided. -/
  outcome : Option Nat := none
  deriving DecidableEq, Repr, Inhabited

/-- A composed stream record (R330). -/
structure StrmRec where
  tick : Nat := 0
  token : Nat := 0
  status : Nat := 0
  rflags : Nat := 0
  payload : List Byte := []
  deriving DecidableEq, Repr, Inhabited

/-- The records of one token, of one result, or the FINAL record: published by one PRODUCER write (R333). -/
structure PubGroup where
  records : List StrmRec := []
  stamp : Stamp := {}
  /-- A journal record has to cover it: its number, once it has been appended. -/
  covered : Bool := true
  cover : Option Nat := none
  final : Bool := false
  /-- Generated tokens in the group: those of one step. -/
  tokens : Nat := 0
  deriving DecidableEq, Repr, Inhabited

/-- Tokens of one text item (R284, R285). -/
structure TextItem where
  id : Nat := 0
  tokens : List Nat := []
  deriving DecidableEq, Repr, Inhabited

/-- A running sequence's part of a request (chapter 12 of the spec). -/
structure Seq where
  /-- Generated tokens, in order, each with the TICK of its step commit. -/
  tokens : List Nat := []
  /-- Prompt positions prefilled, and whether the sequence has joined its loop's running set. -/
  prefilled : Nat := 0
  running : Bool := false
  /-- Tick at which it became ready to join. -/
  readyAt : Nat := 0
  /-- KV pages held, of the generator and of the draft model. -/
  pages : Nat := 0
  draftPages : Nat := 0
  /-- Pre-empted and not rejoined: the tick of the pre-emption; and KV kept in flash. -/
  preemptedAt : Option Nat := none
  deferredAt : Option Nat := none
  /-- Bound adapter version. -/
  adapter : Nat := 0
  /-- The verification pass: draft tokens with their probabilities, and the drawn ones. -/
  drafts : List (Nat × List (Nat × W32)) := []
  drawn : List Nat := []
  /-- Position that waits for a mask, and masks computed. -/
  masks : SMap (List Bool) := []
  specOn : Bool := true
  accepted : Nat := 0
  proposed : Nat := 0
  /-- Kerf context: detokenization slot, held bytes and automaton state (R287, R290). -/
  kerf : Option Nat := none
  held : List Byte := []
  stopState : Nat := 0
  /-- Guyline context and configuration: nonterminal and stack of the grammar automaton (R298). -/
  guy : Option Nat := none
  guyState : Nat := 0
  guyStack : List Nat := []
  /-- Latency: tick of the first publication and of the latest; the fields of R332. -/
  firstAt : Option Nat := none
  lastAt : Nat := 0
  ttft : Nat := 0
  maxTbt : Nat := 0
  sumTbt : Nat := 0
  published : Nat := 0
  /-- Unfrozen ticks of the current gap spent stalled on the ring (R362). -/
  stallTicks : Nat := 0
  deriving DecidableEq, Repr, Inhabited

/-- A request (R28 to R33, R312). -/
structure Request where
  seq : Nat := 0
  tent : Nat := 0
  kind : Nat := 0
  cls : Nat := 0
  client : Nat := 0
  tag : Nat := 0
  desc : List Byte := []
  sq : Nat := 0
  slot : Nat := 0
  /-- Submission tick, admission stamp and its epoch. -/
  submit : Nat := 0
  submitLive : Nat := 0
  admitReq : Stamp := {}
  epoch : Nat := 0
  /-- Bound units (R30): home compute die, Kerf unit, Lantern engine; ring slot (R327). -/
  home : Nat := 0
  kerf : Nat := 0
  engine : Option Nat := none
  ring : Option Nat := none
  /-- Slots bound at admission: vocabulary, grammar; an index or slot that the request may not use. -/
  vocab : Option Nat := none
  grammar : Option Nat := none
  badSlot : Bool := false
  /-- The index bound at admission, as its engines hold it (R193). -/
  index : Option Index := none
  /-- Inputs as captured: sampling parameter block, bias list, request text, and whether a word of them was poisoned. -/
  params : List Byte := []
  bias : List Byte := []
  text : List Byte := []
  textBad : Bool := false
  /-- The stop automaton as Kerf has read it (R289), empty for none. -/
  stop : List Byte := []
  /-- Legs not complete, the current one first, by the codes of R520; whether it has started and whether its result is
  complete. -/
  legs : List Nat := []
  started : Bool := false
  ready : Bool := false
  /-- Placement epoch and tick at which the current leg started (R388). -/
  legEpoch : Nat := 0
  legTick : Nat := 0
  /-- The accept record has been posted. -/
  accepted : Bool := false
  /-- Leg results. -/
  query : List Nat := []
  passages : List TextItem := []
  vector : List W32 := []
  list : ResList := {}
  stats : List Byte := []
  result : List Byte := []
  resultBad : Bool := false
  scores : List ResEntry := []
  /-- Packed passages: id, score, tokens; the prompt. -/
  packed : List (Nat × W32 × Nat) := []
  prompt : List Nat := []
  gen : Seq := {}
  conditions : Nat := 0
  preemptions : Nat := 0
  /-- Natural end: status and stamp (R335). -/
  ended : Option (Nat × Stamp) := none
  /-- Composed groups that are not published, and records published. -/
  groups : List PubGroup := []
  published : Nat := 0
  /-- The FINAL record has been composed and its COMPLETE appended. -/
  closing : Bool := false
  finalDone : Bool := false
  /-- Waiting: the tick at which the present wait began; sums of R398. -/
  waitFrom : Option Nat := none
  waited : Nat := 0
  deferTicks : Nat := 0
  deferrals : Nat := 0
  preemptTicks : Nat := 0
  /-- Tick of a placement cut whose restarted work has not come back to where it stood (R389). -/
  cutSince : Option Nat := none
  /-- Recovered from the journal (R420): it waits for JRNL_RECOVER, and for JRNL_REATTACH. -/
  recovered : Bool := false
  resumed : Bool := false
  /-- Its counted records, in the order of R406; the cancel that ended it; the FINAL summary that the journal holds. -/
  replay : List JRec := []
  cancelledAt : Option (Nat × Stamp) := none
  finalSummary : List Byte := []
  /-- COMMITTED_RECORDS of R425. -/
  committedRecords : Nat := 0
  /-- The groups of every record published, for a binding that starts again at an earlier SEQ (R426). -/
  history : List PubGroup := []
  /-- The part has been ORPHAN since its acceptance, so that its binding may be moved (R426, R430). -/
  orphaned : Bool := false
  deriving DecidableEq, Repr, Inhabited

/-- A registered stream ring (R325 to R329). -/
structure Ring where
  addr : Nat := 0
  log2 : Nat := 0
  tent : Nat := 0
  producer : Nat := 0
  consumer : Nat := 0
  badConsumer : List Nat := []
  /-- Sequence number of the bound request, 0 if none. -/
  bound : Nat := 0
  /-- Stall episodes of that request, and the unfrozen tick at which the one in progress began. -/
  stalls : Nat := 0
  stalled : Option Nat := none
  deriving DecidableEq, Repr, Inhabited

/-- The admission unit. -/
structure Admit where
  fetched : List Fetched := []
  held : List Fetched := []
  /-- SQ fetched from last (R306). -/
  lastSq : Nat := 63
  accepts : List Accept := []
  cancels : List Cancel := []
  requests : SMap (Option Request) := []
  rings : SMap (Option Ring) := []
  /-- Next request sequence number of this epoch (R312). -/
  nextSeq : Nat := 1
  /-- Round-robin places of R30: the home die last chosen for each tent, the Kerf unit last chosen. -/
  lastHome : SMap Nat := []
  lastKerf : Nat := 3
  deriving DecidableEq, Repr, Inhabited

/-- The journal unit (R405, R411 to R416, R428). -/
structure Journal where
  /-- Records on their way to the unit, oldest first. -/
  sent : List JRec := []
  /-- The local log, oldest first. -/
  log : List JRec := []
  nextId : Nat := 1
  /-- FLASH records gathered, the tick of the first, and the group being written. -/
  gather : List Nat := []
  gatherSince : Nat := 0
  writing : List Nat := []
  /-- SSD slots that hold the FLASH copy. -/
  ssds : List Nat := []
  /-- Incoming mirror regions 0 and 1: records of the source package in append order. -/
  incoming : SMap (List JRec) := []
  /-- GiB of the journal area, sampled at the latest power-on or cold start (R583). -/
  areaGib : Nat := 4
  /-- Records still to be copied to a new peer, and those acknowledged while MIRROR commits wait (R414). -/
  resync : List Nat := []
  ackHeld : List Nat := []
  /-- Probes unanswered (R454). -/
  probesLost : Nat := 0
  /-- Unfrozen tick at which the lease was last renewed, and whether it runs: from the first ATTACH (R428, R430). -/
  leaseSet : Nat := 0
  leaseRunning : Bool := false
  /-- Requests of the latest replay, in sequence order. -/
  recovered : List Nat := []
  /-- Tents whose resumption is in progress. -/
  resuming : Option Nat := none
  deriving DecidableEq, Repr, Inhabited

/-- A contribution to an account (R397, R398). -/
structure Contrib where
  tent : Nat := 0
  client : Nat := 0
  stamp : Stamp := {}
  admissions : Nat := 0
  completions : Nat := 0
  rejections : Nat := 0
  preemptions : Nat := 0
  wait : Nat := 0
  waitCount : Nat := 0
  preemptTicks : Nat := 0
  defer : Nat := 0
  deferrals : Nat := 0
  deriving DecidableEq, Repr, Inhabited

/-- Accounting (R396, R399). -/
structure Acct where
  /-- Stamp key after which a tent's contributions count, by tent. -/
  since : SMap Nat := []
  /-- Contributions stamped at or after a pending snapshot's tick. -/
  late : List Contrib := []
  /-- Snapshots written, by tent. -/
  count : SMap Nat := []
  deriving DecidableEq, Repr, Inhabited

/-- A shaper credit at a tick (R391). -/
structure Credit where
  credit : Nat := 0
  at_ : Nat := 0
  deriving DecidableEq, Repr, Inhabited

/-- A gate list (R393). -/
structure GateList where
  /-- Durations and open classes. -/
  entries : List (Nat × Nat) := []
  start : Nat := 0
  deriving DecidableEq, Repr, Inhabited

/-- A crew saved by a pre-emption (R384). -/
structure Saved where
  bay : Nat := 0
  tent : Nat := 0
  crew : Crew := {}
  /-- Number by which replies on their way name it, 256 or more; tick at which the save began. -/
  token : Nat := 0
  since : Nat := 0
  /-- Bytes of its context, and whether the bay's save region holds it. -/
  bytes : Nat := 0
  local_ : Bool := false
  deriving DecidableEq, Repr, Inhabited

/-- A tent beside its registers. -/
structure Tent where
  /-- Activation stamp and release stamp (R373). -/
  activated : Option Stamp := none
  released : Option Stamp := none
  /-- The model table as last read, COUNT entries of 64 bytes (R377). -/
  models : List Byte := []
  modelCount : Nat := 0
  modelAddr : Nat := 0
  /-- Pending placement (R387): the words written to TENT_BAYS0 to 3 in ACTIVE. -/
  pendingBays : SMap W64 := []
  hasPending : Bool := false
  /-- The cut armed: M and the new mask. -/
  cutAt : Option Nat := none
  cutBays : List W64 := []
  /-- Key identity under which the tent was last activated since its CONFIGURE (R243). -/
  keyId : W64 := 0
  /-- The Cairn namespace key (R373). -/
  cairnKey : W128 := 0
  /-- Reset stamp while RESETTING; REQUESTS read 0 while RELEASING and the bays have left. -/
  drained : Bool := false
  credits : SMap Credit := []
  deriving DecidableEq, Repr, Inhabited

end Sys2Proof.Machine
end

