-- ==== Sys2Proof/Machine/StateSec.lean ====
section
/-! DEFINITION. The state of the key engine and of the measurement logs (chapter 16 of the spec).  A field's default is its
value at every reset. -/

namespace Sys2Proof.Machine

/-- A key slot beside SEC_KEYSLOT and SEC_KEYID (R469, R471). -/
structure KeySlot where
  root : W256 := 0
  policy : Nat := 0
  /-- Highest consent counter accepted since the key was loaded (R481). -/
  counter : Nat := 0
  deriving DecidableEq, Repr, Inhabited

/-- An open session (R475). -/
structure Session where
  tent : Nat := 0
  client : Nat := 0
  secret : W256 := 0
  deriving DecidableEq, Repr, Inhabited

/-- A consent in force or to come (R481). -/
structure Consent where
  tent : Nat := 0
  scope : Nat := 0
  start : Nat := 0
  stop : Nat := 0
  deriving DecidableEq, Repr, Inhabited

/-- An entry of a measurement log (R466). -/
structure LogEntry where
  component : Nat := 0
  result : Nat := 0
  svn : Nat := 0
  epoch : Nat := 0
  stamp : Stamp := {}
  digest : W256 := 0
  deriving DecidableEq, Repr, Inhabited

/-- A measurement log with its chain value. -/
structure MLog where
  entries : List LogEntry := []
  chain : W256 := 0
  deriving DecidableEq, Repr, Inhabited

/-- The key engine. -/
structure SecSt where
  keys : SMap KeySlot := []
  /-- Seeds of the KEM slots' key pairs. -/
  kem : SMap (Option W256) := []
  sessions : SMap (Option Session) := []
  consents : List Consent := []
  platform : MLog := {}
  tentLogs : SMap MLog := []
  /-- An IMPORT whose writes a freeze holds: tent, buffer and destination. -/
  importing : Option (Nat × Nat × Nat) := none
  /-- Generate requests of the DRBG since its last seeding (R482). -/
  draws : Nat := 0
  deriving DecidableEq, Repr, Inhabited

end Sys2Proof.Machine
end

