-- ==== Sys2Proof/Machine/StateTables.lean ====
section
/-! DEFINITION. The state of the table engines (chapter 08 of the spec).  A field's default is its value at cold reset. -/

namespace Sys2Proof.Machine

/-- A shard entry of a table descriptor (R222). -/
structure TblShard where
  base : Nat := 0
  device : Nat := 0
  engine : Nat := 0
  slots : Nat := 0
  deriving DecidableEq, Repr, Inhabited

/-- A replicated row: its number, bytes, and whether the copy is poisoned. -/
structure Replica where
  row : Nat := 0
  bytes : List Byte := []
  poison : Bool := false
  deriving DecidableEq, Repr, Inhabited

/-- A version of a table: its descriptor as read (R222), its hot set and the replicas copied so far (R231). -/
structure TblVer where
  addr : Nat := 0
  mode : Nat := 0
  elem : Nat := 0
  rowBytes : Nat := 4
  rows : Nat := 1
  version : Nat := 0
  shards : List TblShard := []
  bucketLog2 : Nat := 0
  hotMax : Nat := 0
  rit : Nat := 0
  threshold : Nat := 0
  hot : List Nat := []
  replicas : List Replica := []
  deriving DecidableEq, Repr, Inhabited

/-- A bucket move in progress (R233): the bucket, where it goes, and the cut tick. -/
structure TblMove where
  bucket : Nat := 0
  shard : Nat := 0
  slot : Nat := 0
  cut : Nat := 0
  deriving DecidableEq, Repr, Inhabited

/-- A registered table, or a retired one whose commands drain (R221, R235, R236). -/
structure TblReg where
  id : Nat := 0
  slot : Nat := 0
  tent : Nat := 0
  retired : Bool := false
  cur : TblVer := {}
  /-- The pending switch: its activation tick and its version. -/
  next : Option (Nat × TblVer) := none
  /-- The previous version while it drains. -/
  old : Option TblVer := none
  /-- Accesses of each row in the sampling interval, the tick at which it began, and the rows marked with their sampled
  counts (R231). -/
  accesses : SMap Nat := []
  sampled : Nat := 0
  marks : List (Nat × Nat) := []
  /-- Accesses by bucket and by shard (R233). -/
  bucketCount : SMap Nat := []
  shardCount : SMap Nat := []
  moves : List TblMove := []
  deriving DecidableEq, Repr, Inhabited

/-- One index of a command: its position, the row, and the row slot; none where it is out of range (R224, R229). -/
structure TblIndex where
  pos : Nat := 0
  row : Nat := 0
  slot : Option Nat := none
  deriving DecidableEq, Repr, Inhabited

/-- A part of a command: what is left of its work on one shard (R227). -/
structure TblPart where
  shard : Nat := 0
  left : List TblIndex := []
  started : Bool := false
  deriving DecidableEq, Repr, Inhabited

/-- A table command in progress (R225 to R228). -/
structure TblCmd where
  id : Nat := 0
  stamp : Stamp := {}
  /-- Island of the issuer, its tent, the request it works for (0: none), and whether it is a TABLE_OP. -/
  issuer : Nat := 0
  tent : Nat := 0
  req : Nat := 0
  isOp : Bool := false
  /-- The registration and the version bound. -/
  reg : Nat := 0
  version : Nat := 0
  /-- The 64 bytes. -/
  bytes : List Byte := []
  parts : List TblPart := []
  rangeCount : Nat := 0
  poison : Bool := false
  rowReads : Nat := 0
  deriving DecidableEq, Repr, Inhabited

/-- The table engines. -/
structure TablesSt where
  regs : List TblReg := []
  nextReg : Nat := 1
  cmds : List TblCmd := []
  nextCmd : Nat := 1
  /-- Completions that issuers other than the admission unit have received: island and bytes. -/
  done : List (Nat × List Byte) := []
  /-- Row reads saved, by engine. -/
  coalesced : SMap Nat := []
  deriving DecidableEq, Repr, Inhabited

end Sys2Proof.Machine
end

