-- ==== Sys2Proof/Machine/StateText.lean ====
section
/-! DEFINITION. The state of Kerf, Guyline and generation (chapters 10 and 12 of the spec).  A field's default is its value
at cold reset. -/

namespace Sys2Proof.Machine

/-- A vocabulary slot beside its KERF_VOCAB_BASE register (R274 to R276). -/
structure Vocab where
  /-- The image as every Kerf unit's SRAM holds it. -/
  image : List Byte := []
  /-- Words of it that are poisoned, by number. -/
  bad : List Nat := []
  /-- Its place there and its length, in units of 64 KiB; no unit while nothing is held. -/
  place : Nat := 0
  units : Nat := 0
  /-- Stamps `v` and `r`. -/
  since : Option Stamp := none
  retired : Option Stamp := none
  deriving DecidableEq, Repr, Inhabited

/-- A grammar slot beside its GUY_IMAGE_BASE register (R293). -/
structure Grammar where
  since : Option Stamp := none
  retired : Option Stamp := none
  deriving DecidableEq, Repr, Inhabited

/-- An adapter version (R366 to R368). -/
structure AdapterVer where
  version : Nat := 0
  model : Nat := 0
  image : Nat := 0
  installed : Stamp := {}
  /-- Stamp at which it stopped being current. -/
  ended : Option Stamp := none
  deriving DecidableEq, Repr, Inhabited

/-- A block of Cairn (R323, R324). -/
structure CairnBlock where
  key : W128 := 0
  ns : W128 := 0
  /-- Tent, model slot, adapter slot and version under which it was built. -/
  tent : Nat := 0
  slot : Nat := 0
  adapterSlot : Nat := 0
  adapter : Nat := 0
  ids : List Nat := []
  /-- Running sequences that hold it; tick of its last use. -/
  holders : List Nat := []
  used : Nat := 0
  deriving DecidableEq, Repr, Inhabited

/-- A sequence's part of a step (R344 to R346, R359, R360). -/
structure StepSeq where
  seq : Nat := 0
  /-- Prompt positions it prefills in the step; depth of its speculation. -/
  chunk : Nat := 0
  depth : Nat := 0
  /-- Its last prompt position is in the step, or it decodes: a token is drawn. -/
  draws : Bool := false
  /-- The sampler has decided; tokens emitted. -/
  decided : Bool := false
  tokens : List Nat := []
  /-- Tokens with the bytes Kerf released for each, and the status of the end they bring. -/
  released : List (Nat × List Byte) := []
  status : Option Nat := none
  /-- Contexts that the tokens leave: Kerf's held bytes and automaton state, Guyline's configuration. -/
  held : List Byte := []
  stopState : Nat := 0
  guyState : Nat := 0
  guyStack : List Nat := []
  committed : Bool := false
  /-- The sampler has waited for its mask (R299). -/
  late : Bool := false
  deriving DecidableEq, Repr, Inhabited

/-- A step in progress (R341). -/
structure GenStep where
  number : Nat := 0
  began : Nat := 0
  positions : Nat := 0
  seqs : List StepSeq := []
  deriving DecidableEq, Repr, Inhabited

/-- A fixed batch that runs (R350). -/
structure Batch where
  slot : Nat := 0
  tag : W64 := 0
  members : List Nat := []
  deriving DecidableEq, Repr, Inhabited

/-- A step loop (R341, R349, R350). -/
structure GenLoop where
  step : Option GenStep := none
  steps : Nat := 0
  /-- The step is run once more because a crew of it trapped (R537). -/
  reran : Bool := false
  deriving DecidableEq, Repr, Inhabited

/-- Logits that a crew has given a sampler slice (R129). -/
structure Feed where
  position : Nat := 0
  first : Nat := 0
  logits : List PWord := []
  /-- SMP.DRAFT: probabilities of the draft model. -/
  draft : Bool := false
  deriving DecidableEq, Repr, Inhabited

/-- One bay's slice for one step context. -/
structure Slice where
  feeds : List Feed := []
  closed : Bool := false
  deriving DecidableEq, Repr, Inhabited

/-- Kerf, Guyline and the step loops. -/
structure TextSt where
  vocabs : SMap Vocab := []
  grammars : SMap Grammar := []
  /-- Adapter versions that are current or hold requests, and the last version number, by 1,024 × tent + slot. -/
  adapters : SMap (List AdapterVer) := []
  lastVersion : SMap Nat := []
  cairn : List CairnBlock := []
  /-- Step loops by 256 × tent + model slot. -/
  loops : SMap GenLoop := []
  /-- Batch descriptors queued and the batches that run, by tent; requests that some batch has named. -/
  batches : SMap (List Nat) := []
  running : SMap (List Batch) := []
  named : List Nat := []
  /-- Slices by 2^64 × bay + context. -/
  slices : SMap Slice := []
  deriving DecidableEq, Repr, Inhabited

end Sys2Proof.Machine
end

