-- ==== Sys2Proof/Machine/State.lean ====
section
/-! DEFINITION. The state of the block as plain data, the state after reset, and why a step can stop. -/

namespace Sys2Proof.Machine

/-- Everything that a cold reset clears. -/
structure Device where
  /-- Control registers by offset in the control window (R574); unlisted ones at their reset value. -/
  regs : SMap W64 := []
  /-- What the control-window port last answered to a malformed read (R11). -/
  portData : W64 := 0
  /-- Frames that a 400 GbE port has aborted with a bad FCS (R491). -/
  ethBadFcs : Nat := 0
  /-- The assembly descriptor loaded at start-up (R5). -/
  desc : Descriptor := {}
  /-- Islands' clocks by island number (R18). -/
  islands : SMap Island := []
  /-- Couplers' queues, oldest item first, by 4,096 × sending island + receiving island (R20). -/
  couplers : SMap (List Item) := []
  /-- Tick of the sender's copy at the last item of each coupler (R51). -/
  couplerSent : SMap Nat := []
  /-- Items delivered to an island and not yet taken by its unit. -/
  inbox : SMap (List Item) := []
  freeze : FreezeSt := {}
  ras : RasSt := {}
  bays : SMap Bay := []
  /-- Trap queues of the ranger cores by compute die (R132). -/
  traps : SMap (List TrapRec) := []
  mem : MemSt := {}
  obs : ObsSt := {}
  adm : Admit := {}
  jrnl : Journal := {}
  acct : Acct := {}
  tents : SMap Tent := []
  /-- The gate list in effect and the one armed (R393, R394). -/
  gate : Option GateList := none
  gateArmed : Option GateList := none
  /-- Crews saved by pre-emptions (R384). -/
  saved : List Saved := []
  /-- Number the next saved crew takes. -/
  nextToken : Nat := 256
  /-- Restarts of each ranger core, by live tick (R431). -/
  rangers : SMap (List Nat) := []
  lantern : LanternSt := {}
  tables : TablesSt := {}
  fab : FabricSt := {}
  text : TextSt := {}
  sec : SecSt := {}
  fw : FwSt := {}
  /-- Ticks with D below DUTY_CEIL that THROTTLE_MS has not counted yet (R569). -/
  throttle : Nat := 0
  look : LookSt := {}
  deriving DecidableEq, Repr, Inhabited

/-- What every reset keeps (R562). -/
structure NonVol where
  /-- SSDs by slot (R256). -/
  ssds : SMap Ssd := []
  /-- Retirement list of physical panels, which Lookout keeps in its management flash (R271). -/
  retired : List Nat := []
  /-- Lookout's remap list: island, macro and word (R493). -/
  remaps : List (Nat × Nat × Nat) := []
  /-- Islands of the bays retired in operation (R494). -/
  retiredBays : List Nat := []
  mgmt : MgmtFlash := {}
  /-- The assembly descriptor in force (R5, R547). -/
  desc : Descriptor := {}
  deriving DecidableEq, Repr, Inhabited

/-- The block: the always-on domain, the non-volatile stores, everything else, and the commands that wait. -/
structure State where
  ao : AlwaysOn := {}
  nv : NonVol := {}
  dev : Device := {}
  /-- The model's own: index of the next free value (log entry 5). -/
  free : Nat := 0
  /-- The commands that wait, first in, first out. -/
  pending : List Instr := []
  deriving DecidableEq, Repr

/-- Why the machine stops with a fault. -/
inductive Fault where
  /-- A crew fetches an instruction-store word that a DMA has not finished writing, and "executes an undefined
  instruction" (R68).  Raised by ILLEGAL_OPCODE, the one command that fetches; safe, since nothing goes on. -/
  | undefinedInstruction
  deriving DecidableEq, Repr

/-- Why a command has no meaning. -/
inductive Refusal where
  /-- The command's meaning has not been written.  Raised by the dispatch alone; safe. -/
  | notModelled (mnemonic : String)
  deriving DecidableEq, Repr

/-- The machine right after reset: every field at the reset value its declaration names. -/
def State.reset : State := {}

end Sys2Proof.Machine
end

