-- ==== Sys2Proof/Machine/Ops.lean ====
section
/-! DEFINITION. The named operations over the state: control registers, byte stores, island clocks and stamps, free
values, the error log. -/

namespace Sys2Proof.Machine

/-! Words. -/

/-- Bits `[lo + w - 1 : lo]` of a word. -/
def getBits (x : W64) (lo w : Nat) : Nat := (x.toNat >>> lo) % 2 ^ w

/-- A word with bits `[lo + w - 1 : lo]` replaced by the low bits of `v`. -/
def setBits (x : W64) (lo w v : Nat) : W64 :=
  BitVec.ofNat 64 (x.toNat % 2 ^ lo + (v % 2 ^ w) * 2 ^ lo + (x.toNat >>> (lo + w)) * 2 ^ (lo + w))

/-- A list of bytes as a little-endian number (R10). -/
def leNat : List Byte → Nat
  | [] => 0
  | b :: bs => b.toNat + 256 * leNat bs

/-- The low `n` bytes of a number, little-endian (R10). -/
def leBytes : Nat → Nat → List Byte
  | 0, _ => []
  | n + 1, x => BitVec.ofNat 8 x :: leBytes n (x / 256)

/-- Bits of a word as a list of positions. -/
def bitList (n x : Nat) : List Nat := (List.range n).filter fun i => x.testBit i

/-- Set or clear bit `i` of a number. -/
def setBit (x i : Nat) (b : Bool) : Nat :=
  if x.testBit i then (if b then x else x - 2 ^ i) else (if b then x + 2 ^ i else x)

/-! Control registers (R15, R574). -/

/-- The instance indices of an offset in a row. -/
def RegRow.index (r : RegRow) (off : Nat) : Option (Nat × Nat) :=
  if off < r.base then none
  else
    let d := off - r.base
    let i := if r.n1 ≤ 1 then 0 else min (d / r.s1) (r.n1 - 1)
    let e := d - (if r.n1 ≤ 1 then 0 else r.s1 * i)
    let j := if r.n2 ≤ 1 then 0 else min (e / r.s2) (r.n2 - 1)
    if e = (if r.n2 ≤ 1 then 0 else r.s2 * j) then some (i, j) else none

/-- The row of the register at an offset, with its instance indices; `none` where no register lies. -/
def findReg (off : Nat) : List RegRow → Option (RegRow × Nat × Nat)
  | [] => none
  | r :: rs => match r.index off with
    | some (i, j) => some (r, i, j)
    | none => findReg off rs

/-- The reset value of the register at an offset: its fields' reset values, zero elsewhere. -/
def regReset (off : Nat) : W64 :=
  match findReg off (regBlock off) with
  | none => 0
  | some (r, _, _) => r.flds.foldl (fun x f => setBits x f.lo f.w f.reset) 0

/-- The stored value of the register at an offset. -/
def State.rd (s : State) (off : Nat) : W64 := SMap.get regReset s.dev.regs off

/-- Store a register whole. -/
def State.wr (s : State) (off : Nat) (v : W64) : State :=
  { s with dev := { s.dev with regs := SMap.set regReset s.dev.regs off v } }

/-- A field of a register. -/
def State.fld (s : State) (off : Nat) (f : Nat × Nat) : Nat := getBits (s.rd off) f.1 f.2

/-- A one-bit field. -/
def State.flag (s : State) (off : Nat) (f : Nat × Nat) : Bool := s.fld off f != 0

/-- Set a field of a register. -/
def State.setFld (s : State) (off : Nat) (f : Nat × Nat) (v : Nat) : State :=
  s.wr off (setBits (s.rd off) f.1 f.2 v)

/-- Set a one-bit field. -/
def State.setFlag (s : State) (off : Nat) (f : Nat × Nat) (b : Bool) : State :=
  s.setFld off f (if b then 1 else 0)

/-- Add to a saturating count. -/
def State.addFld (s : State) (off : Nat) (f : Nat × Nat) (n : Nat) : State :=
  s.setFld off f (min (s.fld off f + n) (2 ^ f.2 - 1))

/-- One field of a register after a write of `v` by its access code (R12, R15): RW and RWS store a valid encoding, W1C
clears and W1S sets the bits written as 1, the rest ignore the write. -/
def Fld.written (f : Fld) (old v : W64) : W64 :=
  let x := getBits v f.lo f.w
  match f.acc with
  | .rw => if f.vmin ≤ x ∧ x ≤ f.vmax then setBits old f.lo f.w x else old
  | .rws => if f.vmin ≤ x ∧ x ≤ f.vmax then setBits old f.lo f.w x else old
  | .w1c => setBits old f.lo f.w (getBits (old &&& ~~~v) f.lo f.w)
  | .w1s => setBits old f.lo f.w (getBits (old ||| v) f.lo f.w)
  | .ro => old
  | .wo => old

/-- A register after a write of `v` by its fields' access codes. -/
def fieldsWritten (fs : List Fld) (old v : W64) : W64 := fs.foldl (fun x f => f.written x v) old

/-- Write a register by its fields' access codes; nothing where no register lies (R575). -/
def State.writeReg (s : State) (off : Nat) (v : W64) : State :=
  match findReg off (regBlock off) with
  | none => s
  | some (r, _, _) => s.wr off (fieldsWritten r.flds (s.rd off) v)

/-- A register after a warm reset: RWS fields keep their value, every other field takes its reset value (R15). -/
def regAfterWarm (off : Nat) (old : W64) : W64 :=
  match findReg off (regBlock off) with
  | none => 0
  | some (r, _, _) =>
    r.flds.foldl (fun x f => setBits x f.lo f.w (if f.acc = .rws then getBits old f.lo f.w else f.reset)) 0

/-! Byte stores with poison (R485). -/

/-- The byte at an address; an unlisted byte reads as 0 (log entry 3). -/
def Store.byte (m : Store) (a : Nat) : Byte := SMap.get (fun _ => 0) m.bytes a

/-- `n` bytes from an address. -/
def Store.read (m : Store) (a n : Nat) : List Byte := (List.range n).map fun i => m.byte (a + i)

/-- `n` bytes from an address as a little-endian number. -/
def Store.num (m : Store) (a n : Nat) : Nat := leNat (m.read a n)

/-- Whether the 32-bit word at `4 * w` is poisoned. -/
def Store.bad (m : Store) (w : Nat) : Bool := SMap.get (fun _ => false) m.poison w

/-- Whether any 32-bit word that the `n` bytes from `a` touch is poisoned. -/
def Store.poisoned (m : Store) (a n : Nat) : Bool :=
  n != 0 && (List.range ((a + n - 1) / 4 - a / 4 + 1)).any fun i => m.bad (a / 4 + i)

/-- Write bytes.  Clean data clears the poison of every word it covers whole and of no other; poisoned data poisons every
word it touches (R485). -/
def Store.write (m : Store) (a : Nat) (bs : List Byte) (bad : Bool := false) : Store :=
  let words := if bs = [] then [] else (List.range ((a + bs.length - 1) / 4 - a / 4 + 1)).map (a / 4 + ·)
  { bytes := SMap.setList (fun _ => 0) m.bytes a bs
    poison := words.foldl (fun p w =>
      if bad then SMap.set (fun _ => false) p w true
      else if a ≤ 4 * w ∧ 4 * w + 4 ≤ a + bs.length then SMap.set (fun _ => false) p w false
      else p) m.poison }

/-- Write a number as `n` little-endian bytes. -/
def Store.put (m : Store) (a n x : Nat) (bad : Bool := false) : Store := m.write a (leBytes n x) bad

/-- Copy bytes word by word with their poison: what a DMA or a migration does (R490). -/
def Store.copyWords (src : Store) (sa : Nat) (dst : Store) (da : Nat) (n : Nat) : Store :=
  let whole := dst.write da (src.read sa n)
  (List.range ((n + 3) / 4)).foldl (fun d i =>
    if src.poisoned (sa + 4 * i) (min 4 (n - 4 * i)) then
      { d with poison := SMap.set (fun _ => false) d.poison ((da + 4 * i) / 4) true }
    else d) whole

/-- The host region's bytes from a Basecamp physical address. -/
def State.hostRead (s : State) (a n : Nat) : List Byte := s.dev.mem.host.read a n
def State.hostNum (s : State) (a n : Nat) : Nat := s.dev.mem.host.num a n
def State.hostWrite (s : State) (a : Nat) (bs : List Byte) : State :=
  { s with dev := { s.dev with mem := { s.dev.mem with host := s.dev.mem.host.write a bs } } }
def State.hostPut (s : State) (a n x : Nat) : State := s.hostWrite a (leBytes n x)

/-- Base and size of the host region (R252). -/
def State.hostBase (s : State) : Nat := s.fld rMemHostRegion fMemHostRegionBase * 2 ^ 16
def State.hostSize (s : State) : Nat := s.fld rMemHostRegion fMemHostRegionSizeGib * 2 ^ 30

/-- Whether `[a, a + n)` lies wholly in the host region. -/
def State.inHost (s : State) (a n : Nat) : Bool :=
  decide (s.hostBase ≤ a) && decide (a + n ≤ s.hostBase + s.hostSize)

/-! Bays. -/

/-- Bay `n`. -/
def State.bay (s : State) (n : Nat) : Bay := SMap.get (fun _ => {}) s.dev.bays n
def State.setBay (s : State) (n : Nat) (b : Bay) : State :=
  { s with dev := { s.dev with bays := SMap.set (fun _ => {}) s.dev.bays n b } }

/-- The rank-`k` enabled physical bay of a compute die whose spares are listed: counted upward from 0 (R23). -/
def physBay (spares : List Nat) : Nat → Nat → Nat → Nat
  | 0, p, _ => p
  | fuel + 1, p, k =>
    if spares.contains p then physBay spares fuel (p + 1) k
    else match k with
      | 0 => p
      | k + 1 => physBay spares fuel (p + 1) k

/-- The physical bay of bay `n` (R23). -/
def State.physOf (s : State) (n : Nat) : Nat := physBay (s.dev.desc.spares.getD (n / 64) []) 68 0 (n % 64)

/-- The island number of bay `n` (R25). -/
def State.bayIsland (s : State) (n : Nat) : Nat := 0x80 * (n / 64) + s.physOf n

/-! Islands, stamps and the freeze. -/

/-- Island numbers that the spec names singly (R18). -/
def islAdmit : Nat := 0x308
def islJournal : Nat := 0x309
def islPort : Nat := 0x30A
def islRas : Nat := 0x30B
def islLookout : Nat := 0x320
def islAlwaysOn : Nat := 0x321
def islMgmt : Nat := 0x322
def islSampler (d : Nat) : Nat := 0x80 * d + 0x44
def islGuyline (d : Nat) : Nat := 0x80 * d + 0x45
def islRanger (r : Nat) : Nat := 0x80 * (r / 2) + 0x46 + r % 2
def islSequencer (d : Nat) : Nat := 0x80 * d + 0x48
def islStack (σ : Nat) : Nat := 0x200 + 0x20 * (σ / 2) + σ % 2
def islLantern (e : Nat) : Nat := 0x200 + 0x20 * (e / 4) + 2 + e % 4
def islTable (e : Nat) : Nat := 0x200 + 0x20 * (e / 2) + 6 + e % 2
def islMigration (m : Nat) : Nat := 0x200 + 0x20 * m + 8
def islStaging (m : Nat) : Nat := 0x200 + 0x20 * m + 9
def islLink (l : Nat) : Nat := 0x300 + 0x40 * (l / 4) + l % 4
def islEth (i : Nat) : Nat := 0x300 + 0x40 * i + 4
def islPcie (i : Nat) : Nat := 0x300 + 0x40 * i + 5
def islKerf (i : Nat) : Nat := 0x300 + 0x40 * i + 6
def islCore (c : Nat) : Nat := 0x300 + 0x40 * (c / 16) + 0x10 + c % 16

/-- Whether a number names an island of the assembly (R18). -/
def State.isIsland (s : State) (n : Nat) : Bool :=
  if n < 0x200 then decide (n % 0x80 ≤ 0x48)
  else if n < 0x2C0 then decide ((n - 0x200) / 0x20 < s.dev.desc.msds) && decide ((n - 0x200) % 0x20 ≤ 9)
  else if n < 0x300 then true
  else if n < 0x400 then
    let i := (n - 0x300) / 0x40
    let r := (n - 0x300) % 0x40
    decide (i < s.dev.desc.iods) &&
      (decide (r ≤ 6) || (decide (0x10 ≤ r) && decide (r ≤ 0x1F)) ||
        (i == 0 && (decide (8 ≤ r ∧ r ≤ 0xB) || decide (0x20 ≤ r ∧ r ≤ 0x22))))
  else false

/-- An island's clock state. -/
def State.isl (s : State) (n : Nat) : Island := SMap.get (fun _ => {}) s.dev.islands n
def State.setIsl (s : State) (n : Nat) (i : Island) : State :=
  { s with dev := { s.dev with islands := SMap.set (fun _ => {}) s.dev.islands n i } }

/-- An island's copy of the tick count (R40). -/
def State.copy (s : State) (n : Nat) : Nat := ((s.ao.tick : Int) + (s.isl n).off).toNat

/-- The TICK an island gives the next item it originates (R50). -/
def State.stampTick (s : State) (n : Nat) : Nat := max (max (s.copy n) (s.isl n).highTick) (s.isl n).lastTick

/-- FAB_DEVICE_NUM of the package (R48). -/
def State.deviceNum (s : State) : Nat := s.fld rFabDeviceNum fFabDeviceNumDevice

/-- An island's clock runs again (R508, R550). -/
def Island.wake (i : Island) (now : Nat) : Island :=
  { i with stopped := false, idleSince := now, offSince := none
           offTicks := i.offTicks + (match i.offSince with | some t => now - t | none => 0) }

/-- An island's clock stops. -/
def Island.sleep (i : Island) (now : Nat) : Island := { i with stopped := true, offSince := some (i.offSince.getD now) }

/-- Ticks until now for which the island was off. -/
def Island.off_ (i : Island) (now : Nat) : Nat := i.offTicks + (match i.offSince with | some t => now - t | none => 0)

/-- Originate an item at an island: its stamp, and the state with the island's count moved on (R49, R50). -/
def State.originate (s : State) (n : Nat) : Stamp × State :=
  let i := s.isl n
  let t := s.stampTick n
  let q := if t = i.lastTick then i.nextSeq else 0
  (⟨t, s.deviceNum, n, q⟩, s.setIsl n { i.wake s.ao.tick with lastTick := t, nextSeq := q + 1 })

/-- An island receives an item with this TICK (R50). -/
def State.receive (s : State) (n t : Nat) : State :=
  let i := s.isl n
  s.setIsl n { i.wake s.ao.tick with highTick := max i.highTick t }

/-- A stamp as the 128-bit number by which stamps are compared (R48). -/
def Stamp.key (t : Stamp) : Nat := t.tick * 2 ^ 64 + t.device * 2 ^ 48 + t.island * 2 ^ 32 + t.seq

/-- One stamp is before another (R8). -/
def Stamp.before (a b : Stamp) : Bool := decide (a.key < b.key)

/-- A stamp's 16 bytes. -/
def Stamp.bytes (t : Stamp) : List Byte := leBytes 16 t.key

/-- A stamp read back from its 128-bit number. -/
def Stamp.ofKey (k : Nat) : Stamp := ⟨k / 2 ^ 64, k / 2 ^ 48 % 2 ^ 16, k / 2 ^ 32 % 2 ^ 16, k % 2 ^ 32⟩

/-- A stamp is settled in the package: without back-pressure, by TICK + 200 (R52). -/
def State.settled (s : State) (t : Stamp) : Bool := decide (t.tick + 200 ≤ s.ao.tick)

/-- TIME_FREEZE_STATUS.STATE: 0 IDLE, 1 ARMED, 2 DRAINING, 3 FROZEN, 4 RESUMING. -/
def State.freezeState (s : State) : Nat := s.fld rTimeFreezeStatus fTimeFreezeStatusState

/-- The freeze applies to an island (R56). -/
def freezeScope (n : Nat) : Bool :=
  !(n == islPort || n == islRas || n == islLookout || n == islAlwaysOn || n == islMgmt ||
    (decide (0x300 ≤ n) && (((n - 0x300) % 0x40 == 4) ||
      (decide (0x10 ≤ (n - 0x300) % 0x40) && decide ((n - 0x300) % 0x40 ≤ 0x1F)))))

/-- A freeze keeps the island from originating an item now (R57). -/
def State.blocked (s : State) (n : Nat) : Bool :=
  freezeScope n &&
    (if s.freezeState = 1 ∨ s.freezeState = 2 then decide ((s.rd rTimeFreezeAt).toNat < s.stampTick n)
     else decide (s.freezeState = 3 ∨ s.freezeState = 4))

/-- Do `f` where the island may act; nothing changes while a freeze keeps it (R57, log entry 6). -/
def State.acting (s : State) (n : Nat) (f : State → State) : State := if s.blocked n then s else f s

/-! Free values. -/

/-- Draw a free value (log entry 5). -/
def State.drawFree (s : State) : Nat × State := (Config.freeValue s.free, { s with free := s.free + 1 })

/-! The error log (R495 to R498). -/

/-- Change the RAS unit's state. -/
def State.modRas (s : State) (f : RasSt → RasSt) : State :=
  { s with dev := { s.dev with ras := f s.dev.ras } }

/-- The 64 bytes of a log record (R495). -/
def ErrRec.encode (r : ErrRec) : List Byte :=
  r.stamp.bytes ++ leBytes 4 r.epoch ++ leBytes 2 r.detector ++ leBytes 1 r.severity ++ leBytes 1 r.action ++
    leBytes 8 r.address ++ leBytes 1 r.space ++ leBytes 1 r.tent ++ leBytes 1 r.flags ++ leBytes 1 0 ++
    leBytes 2 r.count ++ leBytes 2 r.detail ++ leBytes 8 r.syndrome ++ leBytes 8 r.reqSeq ++ leBytes 8 r.logSeq

/-- The ranger core whose error queue takes a record of this island (R497). -/
def errQueue (isl : Nat) : Nat := if isl < 0x200 then 2 * (isl / 0x80) else 0

/-- Count an occurrence in its class counter (R496, R506). -/
def State.countClass (s : State) (detector severity : Nat) : State :=
  let off := rRasClassCount (detector / 256)
  if severity = 0 then s.addFld off fRasClassCountCorrected 1
  else if severity = 1 ∨ severity = 2 then s.addFld off fRasClassCountUncorrected 1
  else s

/-- Two corrected occurrences that one record counts (R496). -/
def ErrRec.same (a b : ErrRec) : Bool :=
  a.detector == b.detector && a.stamp.island == b.stamp.island && a.address == b.address && a.syndrome == b.syndrome

/-- Add a corrected occurrence to the holds, or start one. -/
def coalesce (now : Nat) (r : ErrRec) : List Coalesce → List Coalesce
  | [] => [⟨now, r⟩]
  | c :: cs =>
    if c.record.same r then
      { c with record := { c.record with count := min (c.record.count + 1) 65535, flags := c.record.flags ||| 2 } } :: cs
    else c :: coalesce now r cs

/-- An armed injection that this detector's next access at this island fires: one whose stamp is after the ARM write
(R499). -/
def State.armedAt (s : State) (isl detector : Nat) : Bool :=
  s.flag rRasInjectArm fRasInjectArmArmed && s.fld rRasInjectSel fRasInjectSelIsland == isl &&
    s.fld rRasInjectSel fRasInjectSelDetector == detector &&
    (match s.dev.ras.injectStamp with
      | some a => decide (a.tick < s.stampTick isl)
      | none => false)

/-- The armed injection that an access fires: the mask, and the state with it spent. -/
def State.fire (s : State) (isl detector : Nat) : Option Nat × State :=
  if s.armedAt isl detector then
    (some (s.fld rRasInjectMask fRasInjectMaskMask),
      ((s.setFlag rRasInjectArm fRasInjectArmArmed false).setFlag rRasInjectArm fRasInjectArmFired true).addFld
        rRasInjectArm fRasInjectArmFireCount 1)
  else (none, s)

/-- An error record may be the source of an armed ERROR trigger (R524). -/
def State.errorSource (s : State) (detector severity : Nat) (st : Stamp) : State :=
  let a := (s.rd rObsTriggerArg).toNat
  if s.dev.obs.source.isNone ∧ s.fld rObsTrigger fObsTriggerState = 1 ∧ s.fld rObsTrigger fObsTriggerSource = 2 ∧
      detector / 256 = a % 256 ∧ a / 256 % 4 ≤ severity then
    { s with dev := { s.dev with obs := { s.dev.obs with source := some st } } }
  else s

/-- A detection at an island: its stamp and the state with the record on its way to the RAS unit.  Corrected records are
held for coalescing first (R496); every record also goes to firmware (R497).  A detector that checks no code word or flit
fires its injection when it trips (R499). -/
def State.logAt (s : State) (isl : Nat) (r : ErrRec) : Stamp × State :=
  let (inj, s) := if r.detector < 0x0900 then (none, s) else s.fire isl r.detector
  let (st, s) := s.originate isl
  let r := { r with stamp := st, epoch := s.ao.epoch, flags := if inj.isSome then r.flags ||| 1 else r.flags }
  let s := (s.countClass r.detector r.severity).errorSource r.detector r.severity st
  let fw (x : RasSt) : RasSt :=
    { x with fwErr := SMap.mod (fun _ => []) x.fwErr (errQueue isl) (· ++ [r]) }
  if r.severity = 0 then
    (st, s.modRas fun x => fw { x with coalescing := coalesce s.ao.tick r x.coalescing })
  else (st, s.modRas fun x => fw { x with arrived := x.arrived ++ [r] })

/-- A detection whose stamp nothing else needs. -/
def State.log (s : State) (isl : Nat) (r : ErrRec) : State := (s.logAt isl r).2

/-- A PROTOCOL record of R584. -/
def protocolRec (detail action address space : Nat) (syndrome : Nat := 0) (tent : Nat := 0xFF) (req : Nat := 0) :
    ErrRec :=
  { detector := 0x1100, severity := 3, action := action, address := address, space := space, detail := detail,
    syndrome := syndrome, tent := tent, reqSeq := req }

/-- CONSUMER of a ring as R328 takes it: the value to use, and whether the value read is invalid. -/
def takeConsumer (producer consumer log2 read : Nat) : Nat × Bool :=
  if consumer ≤ read ∧ read ≤ producer ∧ producer ≤ read + 2 ^ log2 then (read, false) else (consumer, true)

end Sys2Proof.Machine
end

