-- ==== Sys2Proof/Machine/Trace.lean ====
section
/-! DEFINITION. Originating trace events (R520, R521), counting selected events (R514 to R516) and engine clocks
(R507).  The trace unit takes the events by TRACE_EVENT_WRITE. -/

namespace Sys2Proof.Machine

def State.modObs (s : State) (f : ObsSt → ObsSt) : State := { s with dev := { s.dev with obs := f s.dev.obs } }

/-- The category of an event type (R520); `none` for the types written whatever the categories. -/
def traceCategory (type : Nat) : Option Nat :=
  if 0x10 ≤ type ∧ type ≤ 0x7F then some (type / 16 - 1)
  else if type = 0x80 then some 7
  else if type = 0x81 then some 8
  else none

/-- The event passes ENABLE, the categories and the tent and window filters (R521). -/
def State.traced (s : State) (type tent tick : Nat) : Bool :=
  s.flag rObsTraceCtl fObsTraceCtlEnable &&
    (match traceCategory type with
      | some c => (s.fld rObsTraceCtl fObsTraceCtlCategories).testBit c
      | none => true) &&
    (!s.flag rObsTraceCtl fObsTraceCtlTentEn || tent == 0xFF || tent == s.fld rObsTraceCtl fObsTraceCtlTent) &&
    (!s.flag rObsTraceCtl fObsTraceCtlWindowed ||
      (decide ((s.rd rObsTraceWinStart).toNat ≤ tick) && decide (tick < (s.rd rObsTraceWinEnd).toNat)))

/-- An event of this type with this stamp is on its way to the trace unit; it may be the source of an armed EVENT
trigger (R524). -/
def State.traceAt (s : State) (st : Stamp) (type tent arg0 arg1 : Nat) (flags : Nat := 0) : State :=
  if s.traced type tent st.tick then
    s.modObs fun o =>
      { o with
        events := o.events ++ [⟨st, type, tent, flags, arg0 % 2 ^ 32, arg1 % 2 ^ 64⟩]
        source := if o.source.isNone ∧ s.fld rObsTrigger fObsTriggerState = 1 ∧ s.fld rObsTrigger fObsTriggerSource = 3 ∧
            (s.rd rObsTriggerArg).toNat % 2 ^ 16 = type then some st else o.source }
  else s

/-- Originate a trace event at an island (R521). -/
def State.trace (s : State) (isl type tent arg0 arg1 : Nat) (flags : Nat := 0) : State :=
  if s.traced type tent (s.stampTick isl) then
    let (st, s) := s.originate isl
    s.traceAt st type tent arg0 arg1 flags
  else s

/-- Event counter `k` of a block window counts this occurrence (R514, R515). -/
def State.eventCounts (s : State) (win k code inst tent tick : Nat) : Bool :=
  let cfg := s.rd (win + 0x110 + 0x10 * k)
  getBits cfg 25 1 == 1 && getBits cfg 0 12 == code && getBits cfg 12 4 == inst &&
    (getBits cfg 17 1 == 0 ||
      (decide ((s.rd (win + 0x100)).toNat ≤ tick) && decide (tick < (s.rd (win + 0x108)).toNat))) &&
    (getBits cfg 18 1 == 0 || getBits cfg 19 6 == tent)

/-- `n` occurrences of an event in a block window with `kmax` counters. -/
def State.countEvent (s : State) (win kmax code inst tent tick n : Nat) : State :=
  (List.range kmax).foldl (fun s k =>
    if s.eventCounts win k code inst tent tick then
      let off := win + 0x118 + 0x10 * k
      let add := if getBits (s.rd (win + 0x110 + 0x10 * k)) 16 1 = 1 then min n 1 else n
      s.wr off (s.rd off + BitVec.ofNat 64 add)
    else s) s

/-- `n` occurrences of a bay event (codes 0x001 to 0x00F). -/
def State.bayEvent (s : State) (bay code : Nat) (n : Nat := 1) : State :=
  s.countEvent (0x200000 + 0x1000 * bay) 8 code 0 ((s.bay bay).tent.getD 0xFF) (s.stampTick (s.bayIsland bay)) n

/-- `n` occurrences of a memory-side die's event. -/
def State.msdEvent (s : State) (m code inst tent : Nat) (n : Nat := 1) : State :=
  s.countEvent (0x300000 + 0x4000 * m) 16 code inst tent s.ao.tick n

/-- `n` occurrences of an I/O die's event. -/
def State.iodEvent (s : State) (i code inst tent : Nat) (n : Nat := 1) : State :=
  s.countEvent (0x380000 + 0x4000 * i) 16 code inst tent s.ao.tick n

/-- Record numbers of engines in the counter snapshot (R513). -/
def engTruss (n : Nat) : Nat := n
def engStrand (n : Nat) : Nat := 256 + n
def engSelect (n : Nat) : Nat := 512 + n
def engDma (n : Nat) : Nat := 768 + n
def engSlice (n : Nat) : Nat := 1024 + n
def engLantern (e : Nat) : Nat := 1280 + e
def engTable (e : Nat) : Nat := 1304 + e
def engMigration (m : Nat) : Nat := 1316 + m
def engHbm (σ : Nat) : Nat := 1322 + σ
def engKerf (i : Nat) : Nat := 1334 + i
def engFlash (i : Nat) : Nat := 1338 + i
def engLink (l : Nat) : Nat := 1342 + l
def engAdmission : Nat := 1358
def engGuyline (d : Nat) : Nat := 1359 + d

/-- Type of the engine of a record, its number within the type, and its island (R510, R513); type 0 for an engine absent
from the assembly. -/
def State.engineOf_ (s : State) (r : Nat) : Nat × Nat × Nat :=
  let there (c : Bool) (ty n isl : Nat) : Nat × Nat × Nat := if c then (ty, n, isl) else (0, 0, 0)
  let d := s.dev.desc
  if r < 1280 then (r / 256 + 1, r % 256, s.bayIsland (r % 256))
  else if r < 1304 then there (decide (r - 1280 < 4 * d.msds)) 6 (r - 1280) (islLantern (r - 1280))
  else if r < 1316 then there (decide (r - 1304 < 2 * d.msds)) 7 (r - 1304) (islTable (r - 1304))
  else if r < 1322 then there (decide (r - 1316 < d.msds)) 8 (r - 1316) (islMigration (r - 1316))
  else if r < 1334 then there (decide (r - 1322 < d.stackCount)) 9 (r - 1322) (islStack (r - 1322))
  else if r < 1338 then there (decide (r - 1334 < d.iods)) 10 (r - 1334) (islKerf (r - 1334))
  else if r < 1342 then there (decide (r - 1338 < d.iods)) 11 (r - 1338) (islPcie (r - 1338))
  else if r < 1358 then there (decide (r - 1342 < d.links)) 12 (r - 1342) (islLink (r - 1342))
  else if r = 1358 then (13, 0, islAdmit)
  else (14, r - 1359, islGuyline (r - 1359))

/-- Clocks of an engine in `n` ticks, by its island's clock (R19). -/
def engineClocks (type n : Nat) : Nat :=
  if 6 ≤ type ∧ type ≤ 9 then n * 5 / 4 else if type = 12 then n * 7 / 4 else n

/-- The counts that a pending snapshot takes stand once the island's copy has reached its tick (R511). -/
def State.holdCounts (s : State) (e : Nat) (c : EngineCtr) : EngineCtr :=
  if s.flag rObsCtrSnapshotDone fObsCtrSnapshotDonePending ∧ c.held.isNone ∧
      (s.rd rObsCtrSnapshotAt).toNat ≤ s.copy (s.engineOf_ e).2.2 then
    { c with held := some (c.busy, c.stall, c.reasons) }
  else c

/-- An engine advances work in `n` clocks (R507; log entry 7). -/
def State.busy (s : State) (e : Nat) (n : Nat := 1) : State :=
  s.modObs fun o => { o with engines := SMap.mod (fun _ => {}) o.engines e fun c =>
    let c := s.holdCounts e c
    { c with busy := c.busy + n } }

/-- An engine holds work it cannot advance in a clock, for reason `r` (R507, R509). -/
def State.stallFor (s : State) (e r : Nat) : State :=
  s.modObs fun o => { o with engines := SMap.mod (fun _ => {}) o.engines e fun c =>
    let c := s.holdCounts e c
    { c with stall := c.stall + 1, reasons := SMap.mod (fun _ => 0) c.reasons r (· + 1) } }

end Sys2Proof.Machine
end

