-- ==== Sys2Proof/Machine/ReqCore.lean ====
section
/-! DEFINITION. Requests, rings and accounts as shared operations: descriptor fields (R308, R310), contributions (R396 to
R398), ends of requests (R335, R339), composed records (R330 to R332), records sent to the journal (R407, R408). -/

namespace Sys2Proof.Machine

/-! Requests. -/

def State.modAdm (s : State) (f : Admit → Admit) : State := { s with dev := { s.dev with adm := f s.dev.adm } }
def State.req (s : State) (n : Nat) : Option Request := SMap.get (fun _ => none) s.dev.adm.requests n
def State.setReq (s : State) (n : Nat) (r : Option Request) : State :=
  s.modAdm fun a => { a with requests := SMap.set (fun _ => none) a.requests n r }
def State.modReq (s : State) (n : Nat) (f : Request → Request) : State :=
  match s.req n with
  | none => s
  | some r => s.setReq n (some (f r))
def State.allReqs (s : State) : List Request := s.dev.adm.requests.filterMap (·.2)

def State.ring (s : State) (k : Nat) : Option Ring := SMap.get (fun _ => none) s.dev.adm.rings k
def State.setRing (s : State) (k : Nat) (r : Option Ring) : State :=
  s.modAdm fun a => { a with rings := SMap.set (fun _ => none) a.rings k r }

def State.tent (s : State) (t : Nat) : Tent := SMap.get (fun _ => {}) s.dev.tents t
def State.setTent (s : State) (t : Nat) (x : Tent) : State :=
  { s with dev := { s.dev with tents := SMap.set (fun _ => {}) s.dev.tents t x } }
def State.modTent (s : State) (t : Nat) (f : Tent → Tent) : State := s.setTent t (f (s.tent t))

/-- TENT_CTL.STATE: 0 FREE, 1 CONFIG, 2 ACTIVE, 3 RESETTING, 4 RELEASING. -/
def State.tentState (s : State) (t : Nat) : Nat := s.fld (rTentCtl t) fTentCtlState
/-- TENT_DURABILITY.CLASS: 0 VOLATILE, 1 MIRROR, 2 FLASH. -/
def State.durability (s : State) (t : Nat) : Nat := s.fld (rTentDurability t) fTentDurabilityClass
/-- A tent's bays on compute die `j`, in the placement in effect. -/
def State.dieBays (s : State) (t j : Nat) : Nat := (s.rd (rTentBays t j)).toNat
/-- Bay `n` is one of a tent's. -/
def State.hasBay (s : State) (t n : Nat) : Bool := (s.dieBays t (n / 64)).testBit (n % 64)
/-- A tent's bays, ascending. -/
def State.tentBays (s : State) (t : Nat) : List Nat := (List.range 256).filter (s.hasBay t)

/-! Descriptor fields (R308, R310). -/

/-- `n` bytes of a descriptor, or of any block, as a number. -/
def field (d : List Byte) (off n : Nat) : Nat := leNat ((d.drop off).take n)

def dKind (d : List Byte) : Nat := field d 0 1
def dClass (d : List Byte) : Nat := field d 1 1
def dTent (d : List Byte) : Nat := field d 2 1
def dFlags (d : List Byte) : Nat := field d 3 1
def dClient (d : List Byte) : Nat := field d 4 4
def dTag (d : List Byte) : Nat := field d 8 8
def dTtft (d : List Byte) : Nat := field d 0x10 4
def dTbt (d : List Byte) : Nat := field d 0x14 4
def dTextAddr (d : List Byte) : Nat := field d 0x18 8
def dTextBytes (d : List Byte) : Nat := field d 0x20 4
def dMaxNew (d : List Byte) : Nat := field d 0x24 4
def dParams (d : List Byte) : Nat := field d 0x28 8
def dRing (d : List Byte) : Nat := field d 0x30 8
def dRingLog2 (d : List Byte) : Nat := field d 0x38 4
def dModel (d : List Byte) : Nat := field d 0x3C 2
def dAdapter (d : List Byte) : Nat := field d 0x3E 2
def dVocab (d : List Byte) : Nat := field d 0x40 1
def dGrammar (d : List Byte) : Nat := field d 0x41 1
def dEmbedSlot (d : List Byte) : Nat := field d 0x42 2
def dRerankSlot (d : List Byte) : Nat := field d 0x44 2
def dDraft (d : List Byte) : Nat := field d 0x46 2
def dQueryLimit (d : List Byte) : Nat := field d 0x48 4
def dPassageLimit (d : List Byte) : Nat := field d 0x4C 4
def dBudget (d : List Byte) : Nat := field d 0x50 4
def dRerankDepth (d : List Byte) : Nat := field d 0x54 2
def dPassages (d : List Byte) : Nat := field d 0x56 2
def dStop (d : List Byte) : Nat := field d 0x58 8
def dTemplate (d : List Byte) : Nat := field d 0x60 8
def dPair (d : List Byte) : Nat := field d 0x68 8
def dPassageAddr (d : List Byte) : Nat := field d 0x70 8

/-- The kinds of R309 that carry a text block. -/
def textKind (k : Nat) : Bool := decide (1 ≤ k) && decide (k ≤ 6)
/-- The kinds that generate. -/
def genKind (k : Nat) : Bool := k == 4 || k == 5

/-! Accounts (R396 to R398). -/

/-- An entry of a live table: where its bytes lie in the host region. -/
def State.acctEntry (s : State) (t e : Nat) : Nat := s.fld (rAcctTableBase t) fAcctTableBaseAddr * 64 + 64 + 64 * e

/-- Add to a field of `n` bytes. -/
def State.hostAdd (s : State) (a n x : Nat) : State := s.hostPut a n (s.hostNum a n + x)

/-- Add a contribution to one entry (R397). -/
def State.acctAdd (s : State) (a : Nat) (c : Contrib) : State :=
  let s := (((s.hostAdd a 8 c.admissions).hostAdd (a + 8) 8 c.completions).hostAdd (a + 0x10) 4 c.rejections).hostAdd
    (a + 0x14) 4 c.preemptions
  let s := (s.hostAdd (a + 0x18) 8 c.wait).hostPut (a + 0x20) 8 (max (s.hostNum (a + 0x20) 8) c.wait)
  (((s.hostAdd (a + 0x28) 8 c.preemptTicks).hostAdd (a + 0x30) 8 c.defer).hostAdd (a + 0x38) 4 c.waitCount).hostAdd
    (a + 0x3C) 4 c.deferrals

/-- Apply a contribution to its client's entry and to the tent's totals. -/
def State.acctApply (s : State) (c : Contrib) : State :=
  (s.acctAdd (s.acctEntry c.tent c.client) c).acctAdd (s.acctEntry c.tent 65536) c

/-- A snapshot is armed for tick `S` (R399). -/
def State.acctPending (s : State) : Bool := s.flag rAcctSnapshotDone fAcctSnapshotDonePending

/-- Account a contribution: nothing where the tent's table is off or the stamp is before it came on; after a pending
snapshot's tick it waits (R396, R399). -/
def State.contribute (s : State) (c : Contrib) : State :=
  if !s.flag (rAcctTableBase c.tent) fAcctTableBaseValid || decide (64 ≤ c.tent) ||
      decide (c.stamp.key ≤ SMap.get (fun _ => 0) s.dev.acct.since c.tent) then s
  else if s.acctPending && decide ((s.rd rAcctSnapshotAt).toNat ≤ c.stamp.tick) then
    { s with dev := { s.dev with acct := { s.dev.acct with late := s.dev.acct.late ++ [c] } } }
  else s.acctApply c

/-! Waiting (R398). -/

/-- Ticks the part has run outside freezes (R60). -/
def State.liveTick (s : State) : Nat :=
  (if 2 ≤ s.freezeState then min s.ao.tick (s.rd rTimeFreezeAt).toNat else s.ao.tick) - s.dev.freeze.frozenTicks

/-- A wait of the request begins, or ends and is added up. -/
def Request.beginWait (r : Request) (now : Nat) : Request :=
  { r with waitFrom := if r.waitFrom.isSome then r.waitFrom else some now }
def Request.endWait (r : Request) (now : Nat) : Request :=
  match r.waitFrom with
  | none => r
  | some t => { r with waitFrom := none, waited := r.waited + (now - t) }

/-- Restarted work is back where the cut found it: the ticks lost are accounted (R389, R398). -/
def State.endCut (s : State) (n : Nat) (st : Stamp) : State :=
  match s.req n with
  | none => s
  | some r => match r.cutSince with
    | none => s
    | some d =>
      let s := s.contribute
        { tent := r.tent, client := r.client, stamp := st, preemptions := 1, preemptTicks := s.liveTick - d }
      s.modReq n fun q => { q with preemptTicks := q.preemptTicks + (s.liveTick - d), cutSince := none }

/-! Composed records. -/

/-- Cut bytes into payloads of 40 (R331). -/
def payloads : Nat → List Byte → List (List Byte)
  | 0, _ => []
  | fuel + 1, bs => if bs.length ≤ 40 then [bs] else bs.take 40 :: payloads fuel (bs.drop 40)

/-- Set CONT on every record but the last (R331). -/
def withCont : List StrmRec → List StrmRec
  | [] => []
  | [r] => [r]
  | r :: rs => { r with rflags := r.rflags ||| 1 } :: withCont rs

/-- The records of one token (R331): its released bytes, or one record without bytes. -/
def tokenRecords (tick token : Nat) (bs : List Byte) : List StrmRec :=
  withCont ((payloads (bs.length + 1) bs).map fun p => { tick := tick, token := token, payload := p })

/-- Result records (R331): TOKEN is the byte offset of the record's first result byte. -/
def resultRecords (tick : Nat) (bs : List Byte) : List StrmRec :=
  if bs = [] then []
  else
    let ps := payloads (bs.length + 1) bs
    withCont ((List.range ps.length).map fun i =>
      { tick := tick, token := 40 * i, rflags := 8, payload := ps.getD i [] })

/-- Records composed and not published. -/
def Request.waiting (r : Request) : Nat := r.groups.foldl (fun n g => n + g.records.length) 0

/-! Ends (R335, R339). -/

/-- The request is over when no leg runs any more: it has ended. -/
def Request.finished (r : Request) : Bool := r.ended.isSome

/-- A request reaches an end, if no end of it has an earlier stamp; a fault publishes nothing after it (R335, R339). -/
def Request.end_ (r : Request) (status : Nat) (st : Stamp) : Request :=
  let first := match r.ended with
    | none => true
    | some e => st.before e.2
  if !first || r.closing then r
  else
    { r with ended := some (status, st), legs := [], started := false, ready := false
             groups := if status = 0x31 ∨ status = 0x40 ∨ status = 0x41 then []
               else r.groups.filter fun g => !st.before g.stamp
             gen := { r.gen with running := false, pages := 0, draftPages := 0 } }

/-- Record of a unit that consumed poison and ended a request (R491). -/
def poisonRec (tent seq : Nat) : ErrRec :=
  { detector := 0x1000, severity := 1, action := 5, tent := tent, reqSeq := seq }

/-- End a request with a status at a stamp (R335). -/
def State.endRequest (s : State) (n status : Nat) (st : Stamp) : State := s.modReq n fun r => r.end_ status st

/-- End a request at a unit's island, at the stamp where the fault is found; poison consumed is logged. -/
def State.endAt (s : State) (n status isl : Nat) (poison : Bool := false) : State :=
  let t := ((s.req n).map (·.tent)).getD 0xFF
  if poison then
    let (st, s) := s.logAt isl (poisonRec t n)
    s.endRequest n status st
  else
    let (st, s) := s.originate isl
    s.endRequest n status st

/-- Raise condition flags of R340. -/
def State.raise (s : State) (n mask : Nat) : State := s.modReq n fun r => { r with conditions := r.conditions ||| mask }

/-! Records sent to the journal (R32, R408). -/

def State.modJrnl (s : State) (f : Journal → Journal) : State := { s with dev := { s.dev with jrnl := f s.dev.jrnl } }

/-- Send a record to the journal unit. -/
def State.sendJournal (s : State) (r : JRec) : State := s.modJrnl fun j => { j with sent := j.sent ++ [r] }

/-- A record of a request, with its tent's class at the stamp. -/
def State.jrecFor (s : State) (r : Request) (st : Stamp) (p : JPay) : JRec :=
  { tent := r.tent, cls := s.durability r.tent, epoch := s.ao.epoch, stamp := st, req := r.seq, pay := p }

/-- A tent's requests accepted and without a terminal record (TENT_CTL.REQUESTS). -/
def State.requestCount (s : State) (t : Nat) : Nat := (s.allReqs.filter fun r => r.tent == t && !r.finalDone).length

end Sys2Proof.Machine
end

