-- ==== Sys2Proof/Machine/Acct.lean ====
section
/-! DEFINITION. The ACCT block (R396 to R399): accounting tables and snapshots. -/

namespace Sys2Proof.Machine

/-- Bytes of one table, and of a tent's accounting area. -/
def acctTable : Nat := 64 + 64 * 65537
def acctArea : Nat := 2 * acctTable

/-- A tent's table is on, and where its area starts. -/
def State.acctOn (s : State) (t : Nat) : Bool := s.flag (rAcctTableBase t) fAcctTableBaseValid
def State.acctBase (s : State) (t : Nat) : Nat := s.fld (rAcctTableBase t) fAcctTableBaseAddr * 64

/-- Zero bytes of the host region, with their poison. -/
def State.hostZero (s : State) (a n : Nat) : State :=
  let h := s.dev.mem.host
  { s with dev := { s.dev with mem := { s.dev.mem with
      host := { bytes := SMap.clearRange h.bytes a n, poison := SMap.clearRange h.poison (a / 4) ((n + 3) / 4) } } } }

/-- Copy bytes within the host region: the part's own tables, which hold no poison. -/
def State.hostCopy (s : State) (a b n : Nat) : State :=
  let src := s.dev.mem.host.bytes.filter fun e => decide (a ≤ e.1) && decide (e.1 < a + n)
  let s := s.hostZero b n
  { s with dev := { s.dev with mem := { s.dev.mem with
      host := { s.dev.mem.host with
        bytes := src.foldl (fun m e => SMap.set (fun _ => 0) m (e.1 - a + b) e.2) s.dev.mem.host.bytes } } } }

def State.modAcct (s : State) (f : Acct → Acct) : State := { s with dev := { s.dev with acct := f s.dev.acct } }

/-- ACCT_ENABLE (R396): a write of `v` to ACCT_TABLE_BASE of tent `t` with VALID = 1. -/
def execAcctEnable (t : Nat) (v : W64) (s : State) : Host.Outcome State Fault Refusal :=
  let r := rAcctTableBase t
  let a := getBits v 6 50 * 64
  let overlap := (List.range 64).any fun u => u != t && s.acctOn u &&
    decide (a < s.acctBase u + acctArea) && decide (s.acctBase u < a + acctArea)
  if 64 ≤ t then .next s
  else if !s.inHost a acctArea ∨ overlap then .next (s.setFlag r fAcctTableBaseCfgError true)
  else
    let (st, s) := s.originate islPort
    let s := (s.hostZero a acctArea).setFld r fAcctTableBaseAddr (getBits v 6 50)
    .next (((s.setFlag r fAcctTableBaseValid true).setFlag r fAcctTableBaseCfgError false).modAcct fun x =>
      { x with since := SMap.set (fun _ => 0) x.since t st.key, count := SMap.set (fun _ => 0) x.count t 0 })

/-- ACCT_DISABLE (R396). -/
def execAcctDisable (t : Nat) (s : State) : Host.Outcome State Fault Refusal :=
  if 64 ≤ t then .next s
  else .next ((s.setFlag (rAcctTableBase t) fAcctTableBaseValid false).setFlag (rAcctTableBase t) fAcctTableBaseCfgError false)

/-- ACCT_SNAPSHOT_ARM (R399): a write of `v` to ACCT_SNAPSHOT_AT. -/
def execAcctSnapshotArm (v : W64) (s : State) : Host.Outcome State Fault Refusal :=
  if v.toNat < s.ao.tick + 10000 ∨ s.acctPending then .next (s.setFlag rAcctSnapshotDone fAcctSnapshotDoneRefused true)
  else .next (((s.wr rAcctSnapshotAt v).setFlag rAcctSnapshotDone fAcctSnapshotDoneDone false).setFlag rAcctSnapshotDone
    fAcctSnapshotDonePending true)

/-- Write one tent's snapshot table (R397). -/
def State.snapshotTent (s : State) (t : Nat) : State :=
  if !s.acctOn t then s
  else
    let b := s.acctBase t + acctTable
    let n := (SMap.get (fun _ => 0) s.dev.acct.count t + 1) % 2 ^ 32
    let s := s.hostCopy (s.acctBase t + 64) (b + 64) (acctTable - 64)
    let s := ((s.hostPut b 8 (s.rd rAcctSnapshotAt).toNat).hostPut (b + 8) 4 s.ao.epoch).hostPut (b + 0xC) 4 n
    s.modAcct fun x => { x with count := SMap.set (fun _ => 0) x.count t n }

/-- A contribution stamped before `S` to a valid table is still to come: an admission neither accepted nor refused, or a
FINAL record that is not published (R397, R398). -/
def State.acctOwed (s : State) : Bool :=
  let S := (s.rd rAcctSnapshotAt).toNat
  (s.dev.adm.accepts.any fun a => a.status == 0 && s.acctOn a.tent &&
    match s.dev.adm.cancels.find? (·.seq == a.seq) with
    | some c => decide (c.stamp.tick < S)
    | none => match s.req a.seq with
      | some r => decide (r.admitReq.tick < S)
      | none => false) ||
  (s.allReqs.any fun r => s.acctOn r.tent && !r.finalDone && r.groups.any fun g => g.final && decide (g.stamp.tick < S))

/-- ACCT_SNAPSHOT_WRITE (R399): once S is settled and no contribution before it is owed, every valid table is written, and
the contributions that waited are counted. -/
def execAcctSnapshotWrite (s : State) : Host.Outcome State Fault Refusal :=
  if !s.acctPending ∨ s.ao.tick < (s.rd rAcctSnapshotAt).toNat + 200 ∨ s.blocked islAdmit ∨ s.acctOwed then .next s
  else
    let s := (List.range 64).foldl State.snapshotTent s
    let s := (s.setFlag rAcctSnapshotDone fAcctSnapshotDonePending false).setFlag rAcctSnapshotDone fAcctSnapshotDoneDone true
    let late := s.dev.acct.late
    .next (late.foldl (fun s c => if s.acctOn c.tent then s.acctApply c else s) (s.modAcct fun x => { x with late := [] }))

end Sys2Proof.Machine
end

