-- ==== Sys2Proof/Machine/SecCore.lean ====
section
/-! DEFINITION. Keys and sealing as shared operations (R462, R474, R476, R477). -/

namespace Sys2Proof.Machine

def State.modSec (s : State) (f : SecSt → SecSt) : State := { s with dev := { s.dev with sec := f s.dev.sec } }
def State.keySlot (s : State) (k : Nat) : KeySlot := SMap.get (fun _ => {}) s.dev.sec.keys k
def State.session (s : State) (k : Nat) : Option Session := SMap.get (fun _ => none) s.dev.sec.sessions k

/-- Key slot a tent names. -/
def State.tentKey (s : State) (t : Nat) : Nat := s.fld (rTentKeyslot t) fTentKeyslotSlot
def State.keyValid (s : State) (k : Nat) : Bool := s.flag (rSecKeyslot k) fSecKeyslotValid

/-- The tent is sealed: its key slot holds a key whose POLICY has SEALED (R469, R471). -/
def State.sealed (s : State) (t : Nat) : Bool :=
  s.keyValid (s.tentKey t) && s.flag (rSecKeyslot (s.tentKey t)) fSecKeyslotSealed

/-- The bytes of an ASCII label. -/
def labelBytes (l : String) : List Byte := l.toList.map fun c => BitVec.ofNat 8 c.toNat

/-- KDF of R462. -/
def kdf (k : W256) (label : String) (ctx : List Byte) : W256 :=
  Config.sha3 (leBytes 32 k.toNat ++ labelBytes label ++ ctx)

/-- AES-256-GCM: the ciphertext of a plaintext. -/
def gcmCrypt (k : W256) (nonce : Nat) (p : List Byte) : List Byte :=
  (List.range p.length).map fun i => p.getD i 0 ^^^ Config.gcmStream k nonce i

/-- The plaintext of a ciphertext whose tag verifies. -/
def gcmOpen (k : W256) (nonce : Nat) (aad c : List Byte) (tag : Nat) : Option (List Byte) :=
  if (Config.gcmTag k nonce aad c).toNat = tag then some (gcmCrypt k nonce c) else none

/-- The session of an envelope may serve a request (R476). -/
def State.envelopeSession (s : State) (t client : Nat) (env : List Byte) : Option Session :=
  match s.session (field env 4 4) with
  | some x => if x.tent = t ∧ x.client = client ∧ field env 0 2 = 1 then some x else none
  | none => none

/-- Item `i` of a sealed request: the plaintext of its envelope; `none` where R476 ends the request. -/
def State.openEnvelope (s : State) (t client i : Nat) (env : List Byte) : Option (List Byte) :=
  match s.envelopeSession t client env with
  | none => none
  | some x =>
    gcmOpen (kdf x.secret "vothes-text" ((env.drop 8).take 16)) i (env.take 32) (env.drop 48) (field env 0x20 16)

/-- The stream key of a sealed request (R462). -/
def State.streamKey (s : State) (r : Request) : W256 :=
  let x := match s.session (field r.text 4 4) with
    | some x => x.secret
    | none => 0
  kdf x "vothes-stream" (leBytes 4 r.epoch ++ leBytes 8 r.admitReq.tick ++ leBytes 8 r.seq ++ (r.text.drop 8).take 16)

/-- A composed 64-byte record of a sealed request: TOKEN and PAYLOAD encrypted in place, and the tag (R477). -/
def State.sealRecord (s : State) (r : Request) (n : Nat) (b : List Byte) : List Byte × List Byte :=
  let k := s.streamKey r
  let nonce := n
  let c := gcmCrypt k nonce ((b.drop 0x10).take 4 ++ b.drop 0x18)
  (b.take 0x10 ++ c.take 4 ++ (b.drop 0x14).take 4 ++ c.drop 4,
    leBytes 16 (Config.gcmTag k nonce (b.take 0x10 ++ (b.drop 0x14).take 4) c).toNat)

end Sys2Proof.Machine
end

