-- ==== Sys2Proof/Machine/FabricCore.lean ====
section
/-! DEFINITION. Sending over the fabric (R434, R436, R438, R441, R442, R445, R456): transactions into flits, routing, the
links' queues, broadcasts. -/

namespace Sys2Proof.Machine

def State.modFab (s : State) (f : FabricSt → FabricSt) : State := { s with dev := { s.dev with fab := f s.dev.fab } }
def State.link (s : State) (l : Nat) : Link := SMap.get (fun _ => {}) s.dev.fab.links l
def State.setLink (s : State) (l : Nat) (x : Link) : State :=
  s.modFab fun f => { f with links := SMap.set (fun _ => {}) f.links l x }
def State.modLink (s : State) (l : Nat) (f : Link → Link) : State := s.setLink l (f (s.link l))

/-- FAB_LINK_STATUS.STATE: 0 DOWN, 1 TRAINING, 2 KEYING, 3 UP, 4 DISABLED. -/
def State.linkState (s : State) (l : Nat) : Nat := s.fld (rFabLinkStatus l) fFabLinkStatusState
def State.linkUp (s : State) (l : Nat) : Bool := decide (l < s.dev.desc.links) && s.linkState l == 3
/-- Links that are UP, ascending. -/
def State.upLinks (s : State) : List Nat := (List.range s.dev.desc.links).filter s.linkUp

/-! Flits (R434, R445). -/

/-- Data bytes of a transaction beside its header. -/
def Txn.dataBytes (t : Txn) : Nat :=
  match t.pay with
  | .bytes l => l.length
  | .atomic .. => 16
  | .journal r => partSize r
  | .coll _ _ _ _ v _ _ => v.length
  | _ => 0
where
  /-- Bytes of a journal record: its payload's lists and its 48-byte header. -/
  partSize (r : JRec) : Nat := 48 + (match r.pay with
    | .admitReq d _ _ p b x _ _ => d.length + p.length + b.length + x.length
    | .leg _ d => d.length
    | .tokens _ _ _ _ _ _ _ ids => 4 * ids.length
    | .cancel .. => 0
    | .complete _ _ _ m => m.length)

/-- Flits that a transaction takes: 212 bytes in the HEAD flit, 228 in each DATA flit. -/
def Txn.flitCount (t : Txn) : Nat := 1 + (t.dataBytes - 212 + 227) / 228

/-- A transaction as flits, in order. -/
def Txn.flits (t : Txn) : List Flit :=
  (List.range t.flitCount).map fun i =>
    { stamp := t.stamp, type := if i = 0 then 2 else 3, dest := t.dest, cls := t.cls, part := i, parts := t.flitCount
      txn := if i = 0 then some t else none }

/-! Routing (R441, R442, R456). -/

/-- The routing entry of a device. -/
def State.route (s : State) (d : Nat) : W64 := SMap.get (fun _ => 0) s.dev.fab.routes d
def routePrimary (e : W64) : Nat := getBits e fFabRouteDataPrimary.1 4
def routePrimaryValid (e : W64) : Bool := getBits e fFabRouteDataPrimaryValid.1 1 == 1
def routeAlternate (e : W64) : Nat := getBits e fFabRouteDataAlternate.1 4
def routeAlternateValid (e : W64) : Bool := getBits e fFabRouteDataAlternateValid.1 1 == 1

/-- The link for a flit to device `d` that arrived over `from_` (R441). -/
def State.nextLink (s : State) (d : Nat) (from_ : Option Nat) : Option Nat :=
  let e := s.route d
  if routePrimaryValid e ∧ s.linkUp (routePrimary e) = true ∧ from_ ≠ some (routePrimary e) then some (routePrimary e)
  else if routeAlternateValid e ∧ s.linkUp (routeAlternate e) = true then some (routeAlternate e)
  else none

/-- Put a flit on a link's queue: VC 1 over a DATELINE link; a flit that turns back starts again on VC 0 (R438). -/
def State.queueFlit (s : State) (l : Nat) (from_ : Option Nat) (f : Flit) : State :=
  let vc := if from_ = some l then 0 else f.vc
  let vc := if s.flag (rFabLinkCfg l) fFabLinkCfgDateline then 1 else vc
  s.modLink l fun x => { x with queue := x.queue ++ [{ f with vc := vc }] }

/-- A flit is dropped for want of a route: counted at its PRIMARY link, and noted for an operation of this package. -/
def State.dropFlit (s : State) (f : Flit) : State :=
  let s := s.addFld (rFabLinkErrs (routePrimary (s.route f.dest))) fFabLinkErrsDropped 1
  match f.txn with
  | some t =>
    if t.stamp.device = s.deviceNum then
      s.modFab fun x => { x with ops := x.ops.map fun o => if o.tag = t.tag ∧ t.cls = 1 then { o with noRoute := true } else o }
    else s
  | none => s

/-- Send one flit on: held for its route or for a failed PRIMARY, queued, or dropped.  In FAILSAFE only SYSTEM traffic
goes (R454). -/
def State.sendFlit (s : State) (from_ : Option Nat) (f : Flit) : State :=
  let e := s.route f.dest
  if s.flag rRasFailsafe fRasFailsafeActive ∧ f.cls ≠ 0 then s
  else if SMap.get (fun _ => 0) s.dev.fab.holds f.dest ≠ 0 then s.modFab fun x => { x with heldFlits := x.heldFlits ++ [f] }
  else if routePrimaryValid e ∧ (s.link (routePrimary e)).waiting.isSome then
    s.modLink (routePrimary e) fun x => { x with held := x.held ++ [f] }
  else match s.nextLink f.dest from_ with
    | some l => s.queueFlit l from_ f
    | none => s.dropFlit f

/-- The link number under which a transaction of this package to itself arrives (R118). -/
def loopLink : Nat := 16

/-- Send a transaction of this package; one to its own device number arrives at once. -/
def State.fabSend (s : State) (t : Txn) : State :=
  if t.dest = s.deviceNum then s.modFab fun x => { x with arrived := x.arrived ++ [(loopLink, t)] }
  else t.flits.foldl (fun s f => s.sendFlit none f) s

/-- Send a SYSTEM transaction over one link to the package at its far end. -/
def State.linkSend (s : State) (l : Nat) (t : Txn) : State :=
  { t with dest := s.fld (rFabLinkStatus l) fFabLinkStatusPeerDevice : Txn }.flits.foldl
    (fun s f => s.queueFlit l none f) s

/-- What link buffers hold for the dump of R63: link, stamp, tent, bytes. -/
def State.heldLinks (s : State) : List (Nat × Stamp × Nat × List Byte) :=
  (s.dev.fab.links.flatMap fun e => e.2.forward.map fun f =>
    (e.1, f.stamp, (f.txn.map (·.tent)).getD 0xFF, (match f.txn with
      | some t => (match t.pay with | .bytes b => b | _ => [])
      | none => []))) ++
  s.dev.fab.arrived.map fun e => (e.1, e.2.stamp, e.2.tent, (match e.2.pay with | .bytes b => b | _ => []))

/-- Replies for a crew that is gone are dropped (R385): `p` names its operations. -/
def State.orphanOps (s : State) (p : RemoteOp → Bool) : State :=
  s.modFab fun x => { x with ops := x.ops.map fun o => if p o then { o with dead := true } else o }

/-- FREEZE (0x41) or RESUME (0x42) over every link that is UP and not in `but` (R62, R454). -/
def State.fabBroadcast (s : State) (op tick : Nat) (but : List Nat := []) : State :=
  (s.upLinks.filter fun l => !but.contains l).foldl (fun s l =>
    let (st, s) := s.originate islPort
    s.linkSend l { stamp := st, op := op, pay := .tick tick }) s

end Sys2Proof.Machine
end

