-- ==== Sys2Proof/Machine/FwCore.lean ====
section
/-! DEFINITION. Posting firmware's events (R534, R535) and the management log (R549), as shared operations. -/

namespace Sys2Proof.Machine

def State.modFw (s : State) (f : FwSt → FwSt) : State := { s with dev := { s.dev with fw := f s.dev.fw } }
def State.modLook (s : State) (f : LookSt → LookSt) : State := { s with dev := { s.dev with look := f s.dev.look } }
def State.modMgmt (s : State) (f : MgmtFlash → MgmtFlash) : State := { s with nv := { s.nv with mgmt := f s.nv.mgmt } }

/-- Ranger core `r` runs its image. -/
def State.rangerUp (s : State) (r : Nat) : Bool := (s.fld rFwStatus fFwStatusRangersUp).testBit r

/-- Firmware runs: a verified image, and a ranger core that runs it. -/
def State.fwRuns (s : State) : Bool :=
  s.fld rFwStatus fFwStatusState == 3 && s.fld rFwStatus fFwStatusRangersUp != 0

/-- The ranger core that does firmware's work of compute die `d`: the die's first core, or its sibling while that one
restarts (R431). -/
def State.rangerOf (s : State) (d : Nat) : Nat := if s.rangerUp (2 * d) ∨ !s.rangerUp (2 * d + 1) then 2 * d else 2 * d + 1

/-! The event queue. -/

/-- Entries of a registered firmware queue, 0 where it is not VALID. -/
def State.fwqSize (s : State) (base : Nat) : Nat :=
  if s.flag base fFwCmdqBaseValid then 2 ^ s.fld base fFwCmdqBaseLog2 else 0

/-- The event queue has a free slot (R305). -/
def State.evtRoom (s : State) : Bool :=
  let n := s.fwqSize rFwEvtqBase
  decide (n ≠ 0) && (s.fld rFwEvtqTail fFwEvtqTailTail + 1) % n != s.fld rFwEvtqHead fFwEvtqHeadHead % n

/-- The 64 bytes of an event entry (R535). -/
def FwEvent.encode (e : FwEvent) (phase : Nat) : List Byte :=
  leBytes 1 e.type ++ leBytes 1 phase ++ leBytes 2 e.status ++ leBytes 4 e.tag ++ e.stamp.bytes ++
    (List.range 5).flatMap fun k => leBytes 8 (e.args.getD k 0)

/-- Write an event at TAIL, and send the MSI where it is enabled (R534). -/
def State.writeEvent (s : State) (e : FwEvent) : State :=
  let n := s.fwqSize rFwEvtqBase
  let t := s.fld rFwEvtqTail fFwEvtqTailTail % n
  let p := s.fld rFwEvtqTail fFwEvtqTailPhase
  let s := s.hostWrite (s.fld rFwEvtqBase fFwEvtqBaseAddr * 64 + 64 * t) (e.encode p)
  let s := s.setFld rFwEvtqTail fFwEvtqTailTail ((t + 1) % n)
  let s := if t + 1 = n then s.setFld rFwEvtqTail fFwEvtqTailPhase (1 - p) else s
  if s.flag rFwIrqData fFwIrqDataEnable then
    s.modFw fun f => { f with
      msis := f.msis + 1, msi := some (s.rd rFwIrqAddr, BitVec.ofNat 32 (s.fld rFwIrqData fFwIrqDataData)) }
  else s

/-- Events that waited are written while there is room. -/
def State.drainEvents : Nat → State → State
  | 0, s => s
  | fuel + 1, s => match s.dev.fw.waiting with
    | [] => s
    | e :: es => if s.evtRoom then State.drainEvents fuel ((s.modFw fun f => { f with waiting := es }).writeEvent e) else s

/-- Post an event from a ranger core: a response (type 1) is never dropped; of unsolicited events at most 256 wait (R536). -/
def State.postEvent (s : State) (core type status tag : Nat) (args : List Nat) : State :=
  if !s.fwRuns then s
  else
    let (st, s) := s.originate (islRanger core)
    let e : FwEvent := { type := type, status := status, tag := tag, stamp := st, args := args }
    if s.evtRoom && s.dev.fw.waiting.isEmpty then s.writeEvent e
    else if type ≠ 1 ∧ 256 ≤ (s.dev.fw.waiting.filter (·.type != 1)).length then s.addFld rFwEvtqLost fFwEvtqLostLost 1
    else s.modFw fun f => { f with waiting := f.waiting ++ [e] }

/-- A LAUNCH command ends with a response. -/
def State.endLaunch (s : State) (id status arg : Nat) : State :=
  match s.dev.fw.progress.find? (·.id == id) with
  | none => s
  | some c =>
    (s.modFw fun f => { f with progress := f.progress.filter (·.id != id) }).postEvent (s.rangerOf (c.bay / 64)) 1 status c.tag [arg]

/-! The management log. -/

/-- Append a record; the ring keeps the latest 65,536. -/
def State.mgmtLog (s : State) (type : Nat) (result : Nat := 0) (source : Nat := 0) (keyTag : Nat := 0) (arg0 : Nat := 0)
    (arg1 : Nat := 0) : State :=
  let (st, s) := s.originate islLookout
  s.modMgmt fun m =>
    let r : MgmtRec := { stamp := st, epoch := s.ao.epoch, type := type, result := result, source := source, keyTag := keyTag,
                         arg0 := arg0, arg1 := arg1, seq := m.nextSeq }
    { m with log := (m.log ++ [r]).drop (m.log.length + 1 - 65536), nextSeq := m.nextSeq + 1 }

end Sys2Proof.Machine
end

