-- ==== Sys2Proof/Machine/Hooks.lean ====
section
/-! DEFINITION. Work of the engines that other units end: entering FAILSAFE (R503, R504, R582), Lantern's queues (R30, R191),
discarding a tent's queries and table commands (R375), consents (R481). -/

namespace Sys2Proof.Machine

/-! Lantern and the table engines. -/

def State.modLantern (s : State) (f : LanternSt → LanternSt) : State := { s with dev := { s.dev with lantern := f s.dev.lantern } }
def State.indexOf (s : State) (x : Nat) : Option Index := SMap.get (fun _ => none) s.dev.lantern.indexes x
def State.modTables (s : State) (f : TablesSt → TablesSt) : State := { s with dev := { s.dev with tables := f s.dev.tables } }

/-- The query's request still runs. -/
def State.queryLive (s : State) (q : Query) : Bool :=
  match s.req q.seq with
  | some r => r.ended.isNone
  | none => false

/-- ACTIVE of an engine: sub-queries (R191). -/
def State.lanternActive (s : State) (e : Nat) : Nat :=
  s.dev.lantern.queries.foldl (fun n q => if q.engine = e ∧ s.queryLive q then n + q.subs.length else n) 0

/-- The index that a descriptor of a kind names: INDEX of its query or mutation block (R200, R212). -/
def descIndex (d : List Byte) : Option Nat :=
  if dKind d = 2 ∨ dKind d = 5 then some (field d 0xC0 1) else if dKind d = 7 then some (field d 0x41 1) else none

/-- The valid index of the tent that a descriptor names (R193). -/
def State.bindIndex (s : State) (t : Nat) (d : List Byte) : Option Index :=
  match descIndex d with
  | none => none
  | some x => match s.indexOf x with
    | some i => if i.tent = t then some i else none
    | none => none

/-- The engine with the fewest active queries among those serving the index, the lower on a tie (R30); a mutation's is
the owner of its shard (R212). -/
def State.lanternPick (s : State) (d : List Byte) (i : Option Index) : Option Nat :=
  match i with
  | none => none
  | some x =>
    if dKind d = 7 then some (x.shards.getD (field d 0x42 1) {}).owner
    else (bitList 24 x.engines).foldl (fun b e => match b with
      | none => some e
      | some c => if s.lanternActive e < s.lanternActive c then some e else some c) none

/-- Drop a tent's queries and mutations; version granules of mutations without a commit are free again. -/
def State.lanternDiscardTent (s : State) (t : Nat) : State :=
  s.modLantern fun l => { l with
    queries := l.queries.filter fun q => q.index.tent != t
    mutations := l.mutations.filter fun m => m.index.tent != t
    versions := SMap.mapVals (fun _ => []) (fun vs => vs.filter fun v =>
      v.commit.isSome || !l.mutations.any fun m => m.index.tent == t && m.versions.any fun w => w.2 == v.addr) l.versions }

/-- Drop a tent's table commands. -/
def State.tableDiscardTent (s : State) (t : Nat) : State :=
  s.modTables fun x => { x with cmds := x.cmds.filter fun c => c.tent != t }

/-! Consents (R481). -/

/-- A consent of the tent with a scope bit (0 DUMP, 1 MEMORY, 2 TRACE) covers a tick. -/
def State.consents (s : State) (t bit tick : Nat) : Bool :=
  s.dev.sec.consents.any fun c => c.tent == t && c.scope.testBit bit && decide (c.start ≤ tick) && decide (tick < c.stop)

/-- A sealed tent's data stamped with a tick that no consent opens (R474). -/
def State.sealedHidden (s : State) (t bit tick : Nat) : Bool := decide (t < 64) && s.sealed t && !s.consents t bit tick

/-! FAILSAFE (R503, R504, R582). -/

/-- A tent is affected. -/
def State.tentStopped (s : State) (t : Nat) : Bool :=
  s.flag rRasFailsafe fRasFailsafeActive && (s.rd rRasFailsafeTents).toNat.testBit t

/-- An affected tent's bay: crews discarded, nothing queued. -/
def Bay.stop (b : Bay) : Bay :=
  { b with crews := [], launchq := [], selq := [], smpq := [], dma := [], truss := { b.truss with queue := [] } }

/-- Step 3 of R504 for tent `t` at the FAILSAFE stamp. -/
def State.failTent (s : State) (f : Stamp) (t : Nat) : State :=
  let s := ((s.lanternDiscardTent t).tableDiscardTent t).orphanOps (·.tent == t)
  let s : State := { s with dev := { s.dev with
    bays := SMap.mapVals (fun _ => {}) (fun (b : Bay) => if b.tent = some t then b.stop else b) s.dev.bays
    saved := s.dev.saved.filter (·.tent != t)
    mem := { s.dev.mem with held := s.dev.mem.held.filter (·.tent != t) }
    text := { s.dev.text with loops := s.dev.text.loops.filter fun e => e.1 / 256 != t } } }
  ((s.allReqs.filter fun r => r.tent == t && !r.finalDone).map (·.seq)).foldl (fun s n => s.endRequest n 0x41 f) s

/-- The FATAL record of a cause, and the FAILSAFE stamp f, which lies after it (R504, R582). -/
def State.failStamp (s : State) (isl : Nat) (r : ErrRec) (cause : Nat) : Stamp × State :=
  let (d, s) := s.logAt isl { r with severity := 2, action := 11, detail := cause }
  (s.receive islRas (d.tick + if islRas ≤ isl then 1 else 0)).originate islRas

/-- Traffic that a link keeps in FAILSAFE (R454). -/
def Link.systemOnly (x : Link) : Link :=
  { x with queue := x.queue.filter (·.cls == 0), held := x.held.filter (·.cls == 0) }

/-- Enter FAILSAFE with a cause found at an island, or add its tents to the scope (R503 to R505, R582): `scope` names one
tent, else every tent that is not FREE.  Firmware posts a FAILSAFE event (R535), and Lookout logs it (R549). -/
def State.enterFailsafe (s : State) (isl : Nat) (r : ErrRec) (cause : Nat) (scope : Option Nat) : State :=
  let first := !s.flag rRasFailsafe fRasFailsafeActive
  let (f, s) := s.failStamp isl r cause
  let ts := match scope with
    | some t => [t]
    | none => (List.range 64).filter fun t => s.tentState t != 0
  let s := if first then
      ((s.setFlag rRasFailsafe fRasFailsafeActive true).setFld rRasFailsafe fRasFailsafeCause cause).wr rRasFailsafeTick
        (BitVec.ofNat 64 f.tick)
    else s
  let s := if scope.isNone then s.setFlag rRasFailsafe fRasFailsafeScopeAll true else s
  let s := s.wr rRasFailsafeTents (s.rd rRasFailsafeTents ||| BitVec.ofNat 64 (ts.foldl (fun n t => n + 2 ^ t) 0))
  let s := s.modFab fun x => { x with
    links := SMap.mapVals (fun _ => {}) Link.systemOnly x.links
    heldFlits := x.heldFlits.filter (·.cls == 0) }
  let s := ts.foldl (fun s t => s.failTent f t) s
  (s.postEvent (s.rangerOf 0) 5 0 0 [cause]).mgmtLog 10 0 0 0 cause

end Sys2Proof.Machine
end

