-- ==== Sys2Proof/Machine/JournalCore.lean ====
section
/-! DEFINITION. The journal unit's records, its local log and commits (R403, R405 to R407, R413, R416). -/

namespace Sys2Proof.Machine

/-! Conditions of the part (R580). -/

/-- The part is in FAILSAFE. -/
def State.failsafe (s : State) : Bool := s.flag rRasFailsafe fRasFailsafeActive
/-- The host is detached, or its lease has expired (R429). -/
def State.orphan (s : State) : Bool := s.flag rJrnlStatus fJrnlStatusOrphan
/-- Start-up is over (R566). -/
def State.booted (s : State) : Bool := s.ao.startStep == 12 && s.ao.warm.isNone
/-- The admission unit fetches (R306, R429, R564). -/
def State.fetching (s : State) : Bool := s.booted && !s.failsafe && !s.orphan

/-! Sizes. -/

/-- Round up to a multiple of 16. -/
def ceil16 (n : Nat) : Nat := 16 * ((n + 15) / 16)

/-- Bytes of a payload (R408 to R410). -/
def JPay.size : JPay → Nat
  | .admitReq d _ _ ps bs tx _ _ => if ps = [] ∧ bs = [] ∧ tx = [] then d.length + 8 else d.length + 16 + ps.length + bs.length + tx.length
  | .leg _ d => 8 + d.length
  | .tokens _ _ _ _ _ _ _ ids => 32 + 4 * ids.length
  | .cancel _ _ => 16
  | .complete _ _ _ sm => 16 + sm.length

/-- Bytes of a record's parts in the local log (R407). -/
def partBytes (n : Nat) : Nat :=
  n / 16384 * (48 + 16384) + (if n % 16384 = 0 ∧ n ≠ 0 then 0 else 48 + max 16 (ceil16 (n % 16384)))

def JRec.size (r : JRec) : Nat := partBytes r.pay.size

/-- KIND of a record (R407). -/
def JPay.kind : JPay → Nat
  | .admitReq .. => 1
  | .leg .. => 2
  | .tokens .. => 3
  | .cancel .. => 4
  | .complete .. => 5

/-! Commit (R403). -/

/-- Whether record `r` of the log is committed: it, and every earlier-appended record of its class. -/
def State.recCommitted (s : State) (r : JRec) : Bool :=
  if r.cls = 0 then true
  else
    let mine := s.dev.jrnl.log.filter fun q => q.cls == r.cls && decide (q.id ≤ r.id)
    if r.cls = 1 then mine.all (·.acked) else mine.all (·.written)

/-- The log holds a committed record that meets `p`. -/
def State.committedWith (s : State) (p : JRec → Bool) : Bool :=
  s.dev.jrnl.log.any fun r => p r && s.recCommitted r

/-- The record of a number is committed; a record that has left the log was. -/
def State.idCommitted (s : State) (n : Nat) : Bool :=
  match s.dev.jrnl.log.find? (·.id == n) with
  | some r => s.recCommitted r
  | none => decide (n < s.dev.jrnl.nextId)

/-- The ADMIT of a request is committed. -/
def State.admitCommitted (s : State) (n : Nat) : Bool := s.committedWith fun r => r.req == n && r.pay.kind == 1

/-- The COMPLETE of a request is committed. -/
def State.completeCommitted (s : State) (n : Nat) : Bool := s.committedWith fun r => r.req == n && r.pay.kind == 5

/-! The local log (R405, R416). -/

/-- Bytes of the local log: half of what the header leaves of the area. -/
def State.logCapacity (s : State) : Nat := (s.dev.jrnl.areaGib * 2 ^ 30 - 65536) / 2

/-- Bytes ever appended, and the oldest position still held. -/
def State.jrnlHead (s : State) : Nat := (s.rd rJrnlHead).toNat
def State.jrnlTail (s : State) : Nat :=
  match s.dev.jrnl.log with
  | [] => s.jrnlHead
  | r :: _ => r.pos - r.size

/-- A request has a committed COMPLETE and a published FINAL, or ended ABANDONED (R416). -/
def State.reqReleased (s : State) (n : Nat) : Bool :=
  match s.req n with
  | some q => q.finalDone && (s.completeCommitted n || q.ended.any (·.1 == 0x42))
  | none => !s.dev.adm.cancels.any (·.seq == n)

/-- A record is releasable (R416): its request's are; the CANCEL record of a CANCEL once its accept record is posted and its
target's records are releasable. -/
def State.releasable (s : State) (r : JRec) : Bool :=
  s.reqReleased r.req && (match r.pay with
    | .cancel t _ => s.reqReleased t
    | _ => true)

/-- The tail advances over releasable records (R416). -/
def State.trimLog (s : State) : State := s.modJrnl fun j => { j with log := j.log.dropWhile s.releasable }

/-- Advance the tail over records until `n` bytes fit: releasable ones go, the others are carried (R416). -/
def State.makeRoom (s : State) (n : Nat) : Nat → State
  | 0 => s
  | fuel + 1 =>
    if s.jrnlHead + n ≤ s.jrnlTail + s.logCapacity then s
    else match s.dev.jrnl.log with
      | [] => s
      | r :: rs =>
        if s.releasable r then State.makeRoom (s.modJrnl fun j => { j with log := rs }) n fuel
        else
          let p := s.jrnlHead + r.size
          State.makeRoom ((s.modJrnl fun j => { j with log := rs ++ [{ r with carried := true, pos := p }] }).wr
            rJrnlHead (BitVec.ofNat 64 p)) n fuel

/-- Live bytes of the log. -/
def State.liveBytes (s : State) : Nat :=
  s.dev.jrnl.log.foldl (fun n r => if s.releasable r then n else n + r.size) 0

/-- Send a MIRROR record to the peer (R411). -/
def State.mirrorSend (s : State) (r : JRec) : State :=
  if r.cls = 1 ∧ s.flag rJrnlMirrorPeer fJrnlMirrorPeerEnable then
    let (st, s) := s.originate islJournal
    s.fabSend { stamp := st, dest := s.fld rJrnlMirrorPeer fJrnlMirrorPeerDevice, op := 0x30, tag := r.id, pay := .journal r }
  else s

/-- Append a record to the local log: its number and the new state; `none` where no space is left even after carrying
(R413, R416). -/
def State.appendRec (s : State) (r : JRec) : Option (Nat × State) :=
  if s.logCapacity < s.liveBytes + r.size then none
  else
    let s := s.trimLog
    let s := s.makeRoom r.size (s.dev.jrnl.log.length + 1)
    let n := s.dev.jrnl.nextId
    let p := s.jrnlHead + r.size
    let r := { r with id := n, pos := p, since := s.ao.tick, keyId := (s.tent r.tent).keyId }
    let s := (s.modJrnl fun j =>
      { j with
        log := j.log ++ [r], nextId := n + 1
        gather := if r.cls = 2 then j.gather ++ [n] else j.gather
        gatherSince := if r.cls = 2 ∧ j.gather = [] then s.ao.tick else j.gatherSince }).wr
      rJrnlHead (BitVec.ofNat 64 p)
    some (n, (s.iodEvent 0 0x20F 0 r.tent).mirrorSend r)

/-- Local log position below which every record is committed (JRNL_COMMITTED). -/
def State.committedPosition (s : State) : Nat :=
  match s.dev.jrnl.log.find? fun r => !s.recCommitted r with
  | some r => r.pos - r.size
  | none => s.jrnlHead

/-- The SSDs of the journal set that hold the FLASH copy: the two lowest-indexed that are not failed (R412). -/
def State.journalSsds (s : State) : List Nat :=
  let k := s.fld rJrnlCfg fJrnlCfgFlashSet
  if s.flag (rMemFlashsetCfg k) fMemFlashsetCfgValid then
    ((SMap.get (fun _ => {}) s.dev.mem.sets k).slots.filter fun i =>
      !(s.fld (rMemFlashsetStatus k) fMemFlashsetStatusFailedSlots).testBit i).take 2
  else []

/-- Append records to the journal area of an SSD. -/
def State.ssdJournal (s : State) (slot : Nat) (rs : List JRec) : State :=
  let x : Ssd := SMap.get (fun _ => {}) s.nv.ssds slot
  let y : Ssd := { x with journal := x.journal ++ rs.filter fun r => !x.journal.any (·.id == r.id) }
  { s with nv := { s.nv with ssds := SMap.set (fun _ => {}) s.nv.ssds slot y } }

/-- FLASH_DEGRADED: fewer than three SSDs of the journal set are not failed (R415). -/
def State.flashDegraded (s : State) : Bool :=
  let k := s.fld rJrnlCfg fJrnlCfgFlashSet
  s.flag (rMemFlashsetCfg k) fMemFlashsetCfgValid &&
    decide (((SMap.get (fun _ => {}) s.dev.mem.sets k).slots.filter fun i =>
      !(s.fld (rMemFlashsetStatus k) fMemFlashsetStatusFailedSlots).testBit i).length < 3)

/-- A journal SSD may have failed (R415): the next SSD takes every written FLASH record of each request without a
committed COMPLETE. -/
def State.journalSsdFailed (s : State) : State :=
  let rs := s.dev.jrnl.log.filter fun r => r.cls == 2 && r.written && !s.completeCommitted r.req
  let s := (s.journalSsds.filter fun i => !s.dev.jrnl.ssds.contains i).foldl (fun s i => s.ssdJournal i rs) s
  s.modJrnl fun j => { j with ssds := s.journalSsds }

/-- MIRROR admissions are rejected (R414). -/
def State.mirrorStalled (s : State) : Bool := s.flag rJrnlStatus fJrnlStatusMirrorStalled

end Sys2Proof.Machine
end

