-- ==== Sys2Proof/Machine/Shaping.lean ====
section
/-! DEFINITION. Shapers and gate lists (R391 to R395). -/

namespace Sys2Proof.Machine

/-- RATE, UNLIMITED and BURST of a (tent, class). -/
def State.rate (s : State) (t c : Nat) : Nat := s.fld (rShapeRate t c) fShapeRateRate
def State.unlimited (s : State) (t c : Nat) : Bool := s.flag (rShapeRate t c) fShapeRateUnlimited
def State.burst (s : State) (t c : Nat) : Nat := s.fld (rShapeBurst t c) fShapeBurstBurst

/-- The credit of a (tent, class) at a tick, in nano-credits (R391). -/
def State.creditAt (s : State) (t c tick : Nat) : Nat :=
  let x : Credit := SMap.get (fun _ => {}) (s.tent t).credits c
  min (s.burst t c * 1000000000) (x.credit + s.rate t c * (tick - x.at_))

/-- Set the credit at a tick. -/
def State.setCredit (s : State) (t c tick v : Nat) : State :=
  s.modTent t fun x => { x with credits := SMap.set (fun _ => {}) x.credits c ⟨v, tick⟩ }

/-- The entry of a list in effect `off` ticks into its period. -/
def entryAt : List (Nat × Nat) → Nat → Nat → Nat × Nat
  | [], i, _ => (i, 0xFF)
  | (d, o) :: es, i, off => if off < d then (i, o) else entryAt es (i + 1) (off - d)

/-- The entry of a gate list in effect at a tick, and its open classes (R394). -/
def GateList.at_ (g : GateList) (t : Nat) : Nat × Nat :=
  let p := g.entries.foldl (fun n e => n + e.1) 0
  entryAt g.entries 0 ((t - g.start) % p)

/-- The gate list in effect at a tick: an armed list from its activation tick, else the one before it. -/
def State.gateFor (s : State) (t : Nat) : Option GateList :=
  match s.dev.gateArmed with
  | some g => if g.start ≤ t then some g else s.dev.gate
  | none => s.dev.gate

/-- A class is open at a tick; with no list every class is (R394, R395). -/
def State.classOpen (s : State) (c t : Nat) : Bool :=
  match s.gateFor t with
  | none => true
  | some g => (g.at_ t).2.testBit c

/-- A (tent, class) has credit at a tick (R391). -/
def State.hasCredit (s : State) (t c tick : Nat) : Bool :=
  s.unlimited t c || decide (1000000000 ≤ s.creditAt t c tick)

/-- Take the credit of one admission. -/
def State.takeCredit (s : State) (t c tick : Nat) : State :=
  if s.unlimited t c then s else s.setCredit t c tick (s.creditAt t c tick - 1000000000)

/-- A write to a register of a tent that is FREE is ignored and sets ERROR to STATE (R372). -/
def State.tentWrite (s : State) (t : Nat) (f : State → State) : State :=
  if 64 ≤ t then s
  else if s.tentState t = 0 then s.setFld (rTentCtl t) fTentCtlError 1 else f s

/-- SHAPE_RATE_WRITE (R391): the credit before the write accrues at the old rate. -/
def execShapeRateWrite (t c : Nat) (v : W64) (s : State) : Host.Outcome State Fault Refusal :=
  if 8 ≤ c then .next s
  else .next (s.tentWrite t fun s =>
    let now := s.copy islAdmit
    (s.setCredit t c now (s.creditAt t c now)).writeReg (rShapeRate t c) v)

/-- SHAPE_BURST_WRITE (R391): the credit becomes at most the new burst. -/
def execShapeBurstWrite (t c : Nat) (v : W64) (s : State) : Host.Outcome State Fault Refusal :=
  if 8 ≤ c then .next s
  else .next (s.tentWrite t fun s =>
    let now := s.copy islAdmit
    let x := s.creditAt t c now
    let s := s.writeReg (rShapeBurst t c) v
    s.setCredit t c now (min x (s.burst t c * 1000000000)))

/-- The entries of a gate list in the host region (R393). -/
def State.readGateList (s : State) : List (Nat × Nat) :=
  let a := s.fld rGateListBase fGateListBaseAddr * 64
  (List.range (s.fld rGateListBase fGateListBaseCountM1 + 1)).map fun i =>
    (s.hostNum (a + 16 * i) 8, s.hostNum (a + 16 * i + 8) 1)

/-- GATE_LIST_ARM (R393): a write of A to GATE_ACTIVATE_AT. -/
def execGateListArm (a : W64) (s : State) : Host.Outcome State Fault Refusal :=
  let n := s.fld rGateListBase fGateListBaseCountM1 + 1
  let es := s.readGateList
  if a.toNat < s.ao.tick + 20000 ∨ s.inHost (s.fld rGateListBase fGateListBaseAddr * 64) (16 * n) = false ∨
      (es.all fun e => decide (1000 ≤ e.1) && decide (e.1 ≤ 2 ^ 48)) = false then
    .next (s.setFlag rGateCurrent fGateCurrentRefused true)
  else
    let s := (s.wr rGateActivateAt a).setFlag rGateCurrent fGateCurrentPending true
    .next { s with dev := { s.dev with gateArmed := some ⟨es, a.toNat⟩ } }

/-- Show the entry in effect in GATE_CURRENT. -/
def State.showGate (s : State) : State :=
  match s.dev.gate with
  | none => s
  | some g =>
    let e := g.at_ s.ao.tick
    ((s.setFld rGateCurrent fGateCurrentEntry e.1).setFlag rGateCurrent fGateCurrentList true).setFld
      rGateCurrent fGateCurrentOpen e.2

/-- GATE_LIST_ACTIVATE (R394): at A the armed list replaces the one before it. -/
def execGateListActivate (s : State) : Host.Outcome State Fault Refusal :=
  match s.dev.gateArmed with
  | none => .next s
  | some g =>
    if s.ao.tick < g.start then .next s
    else
      let s : State := { s with dev := { s.dev with gate := some g, gateArmed := none } }
      .next ((s.setFlag rGateCurrent fGateCurrentPending false).showGate)

/-- GATE_ENTRY_ADVANCE (R394): the entry in effect at the present tick takes effect. -/
def execGateEntryAdvance (s : State) : Host.Outcome State Fault Refusal := .next s.showGate

end Sys2Proof.Machine
end

