-- ==== Sys2Proof/Machine/Admission.lean ====
section
/-! DEFINITION. Queues, fetching and admission (R303 to R316, R381), the bindings of R30 and R276, and accept records. -/

namespace Sys2Proof.Machine

/-! Queues (R303 to R305). -/

def State.sqValid (s : State) (q : Nat) : Bool := s.flag (rSqCfg q) fSqCfgValid
def State.sqCq (s : State) (q : Nat) : Nat := s.fld (rSqCfg q) fSqCfgCq
def State.sqTent (s : State) (q : Nat) : Nat := s.fld (rSqCfg q) fSqCfgTent
def State.sqSize (s : State) (q : Nat) : Nat := 2 ^ s.fld (rSqCfg q) fSqCfgLog2
def State.cqValid (s : State) (c : Nat) : Bool := s.flag (rCqCfg c) fCqCfgValid
def State.cqSize (s : State) (c : Nat) : Nat := 2 ^ s.fld (rCqCfg c) fCqCfgLog2

/-- A completion queue is full (R305). -/
def State.cqFull (s : State) (c : Nat) : Bool :=
  (s.fld (rCqTail c) fCqTailTail + 1) % s.cqSize c == s.fld (rCqHead c) fCqHeadHead % s.cqSize c

/-- LOG2 is 4 to 16 and a queue of entries of `n` bytes lies wholly in the host region (R304). -/
def State.queueFits (s : State) (addr log2 n : Nat) : Bool :=
  decide (4 ≤ log2) && decide (log2 ≤ 16) && s.inHost addr (n * 2 ^ log2)

/-- VALID submission queues of a tent, one left out (R381). -/
def State.sqCount (s : State) (t but : Nat) : Nat :=
  ((List.range 64).filter fun q => q != but && s.sqValid q && s.sqTent q == t).length

/-- A VALID = 1 write of `v` to SQ_CFG `q` meets R304 and R381. -/
def State.sqAccepts (s : State) (q : Nat) (v : W64) : Bool :=
  let c := getBits v 13 6
  let t := getBits v 7 6
  s.queueFits (s.fld (rSqBase q) fSqBaseAddr * 256) (getBits v 2 5) 256 && s.cqValid c &&
    !((List.range 64).any fun p => p != q && s.sqValid p && s.sqCq p == c && s.sqTent p != t) &&
    decide (s.sqCount t q + 1 ≤ s.fld (rTentQuota t) fTentQuotaSqMax)

/-- SQ_REGISTER (R304): a write of `v` to SQ_CFG `q` with VALID = 1.  The queue's positions stay as they stand (log
entry 14). -/
def execSqRegister (q : Nat) (v : W64) (s : State) : Host.Outcome State Fault Refusal :=
  if 64 ≤ q then .next s
  else if s.sqAccepts q v then
    let c := getBits v 13 6
    let first := !((List.range 64).any fun p => p != q && s.sqValid p && s.sqCq p == c)
    let s := (s.writeReg (rSqCfg q) (setBits v 0 1 1)).setFlag (rSqCfg q) fSqCfgCfgError false
    .next (if first then s.setFld (rCqCfg c) fCqCfgTent (getBits v 7 6) else s)
  else .next (s.setFlag (rSqCfg q) fSqCfgCfgError true)

/-- SQ_DISABLE (R304): a write with VALID = 0 stops fetching. -/
def execSqDisable (q : Nat) (s : State) : Host.Outcome State Fault Refusal :=
  if 64 ≤ q then .next s
  else .next ((s.setFlag (rSqCfg q) fSqCfgValid false).setFlag (rSqCfg q) fSqCfgCfgError false)

/-- CQ_REGISTER (R304): a write of `v` to CQ_CFG `c` with VALID = 1. -/
def execCqRegister (c : Nat) (v : W64) (s : State) : Host.Outcome State Fault Refusal :=
  if 64 ≤ c then .next s
  else if s.queueFits (s.fld (rCqBase c) fCqBaseAddr * 32) (getBits v 2 5) 32 then
    .next ((s.writeReg (rCqCfg c) (setBits v 0 1 1)).setFlag (rCqCfg c) fCqCfgCfgError false)
  else .next (s.setFlag (rCqCfg c) fCqCfgCfgError true)

/-- CQ_DISABLE (R304): refused while a VALID SQ names the queue. -/
def execCqDisable (c : Nat) (s : State) : Host.Outcome State Fault Refusal :=
  if 64 ≤ c then .next s
  else if (List.range 64).any fun q => s.sqValid q && s.sqCq q == c then
    .next (s.setFlag (rCqCfg c) fCqCfgCfgError true)
  else .next ((s.setFlag (rCqCfg c) fCqCfgValid false).setFlag (rCqCfg c) fCqCfgCfgError false)

/-- A doorbell write of `v` at `off` to a queue of `n` entries: ignored and logged when it is `n` or more (R305,
R584). -/
def State.doorbell (s : State) (off n : Nat) (v : W64) (tent : Nat) : State :=
  if n ≤ getBits v 0 16 then s.log islPort (protocolRec 2 12 off 9 v.toNat tent) else s.writeReg off v

/-- SQ_DOORBELL (R305): a write of `v` to SQ_TAIL `q`. -/
def execSqDoorbell (q : Nat) (v : W64) (s : State) : Host.Outcome State Fault Refusal :=
  if 64 ≤ q then .next s else .next (s.doorbell (rSqTail q) (s.sqSize q) v (s.sqTent q))

/-- CQ_DOORBELL (R305, R307): a write of `v` to CQ_HEAD `c`. -/
def execCqDoorbell (c : Nat) (v : W64) (s : State) : Host.Outcome State Fault Refusal :=
  if 64 ≤ c then .next s else .next (s.doorbell (rCqHead c) (s.cqSize c) v (s.fld (rCqCfg c) fCqCfgTent))

/-! Fetching (R306, R307). -/

/-- Descriptors are pending in SQ `q`, and its completion queue has room. -/
def State.fetchable (s : State) (q : Nat) : Bool :=
  s.sqValid q && s.fld (rSqHead q) fSqHeadHead % s.sqSize q != s.fld (rSqTail q) fSqTailTail % s.sqSize q &&
    s.cqValid (s.sqCq q) && !s.cqFull (s.sqCq q)

/-- The queues in turn after the last one fetched from. -/
def turns (last : Nat) : List Nat := (List.range 64).map fun i => (last + 1 + i) % 64

/-- Reject a descriptor (R314, R315): the accept record waits for its CQ, and the rejection is accounted to the SQ's
tent (R398). -/
def State.reject (s : State) (f : Fetched) (reason : Nat) : State :=
  let (st, s) := s.originate islAdmit
  let s := s.modAdm fun a => { a with accepts := a.accepts ++
    [{ cq := f.cq, tick := st.tick, status := 0x30, tent := dTent f.bytes, reason := reason, slot := f.slot, sq := f.sq,
       client := dClient f.bytes % 65536 }] }
  let s := if reason = 6 then s.addFld rJrnlStatus fJrnlStatusRejected 1 else s
  (s.iodEvent 0 0x202 0 f.sqTent).contribute
    { tent := f.sqTent, client := dClient f.bytes % 65536, stamp := st, rejections := 1 }

/-- The kinds of R309. -/
def kindKnown (k : Nat) : Bool := (decide (1 ≤ k) && decide (k ≤ 8)) || k == 0x0F

/-- DESCRIPTOR_FETCH (R306): the next descriptor of the SQs in turn. -/
def execDescriptorFetch (s : State) : Host.Outcome State Fault Refusal :=
  if !s.fetching || s.blocked islAdmit then .next s
  else match (turns s.dev.adm.lastSq).find? s.fetchable with
    | none => .next s
    | some q =>
      let h := s.fld (rSqHead q) fSqHeadHead % s.sqSize q
      let a := s.fld (rSqBase q) fSqBaseAddr * 256 + 256 * h
      let f : Fetched :=
        { bytes := s.hostRead a 256, sq := q, slot := h, cq := s.sqCq q, sqTent := s.sqTent q, tick := s.copy islAdmit
          live := s.liveTick, poison := s.dev.mem.host.poisoned a 256 }
      let s := (s.setFld (rSqHead q) fSqHeadHead ((h + 1) % s.sqSize q)).addFld (rSqHead q) fSqHeadFetched 1
      let s := s.modAdm fun x => { x with lastSq := q }
      if kindKnown (dKind f.bytes) then .next (s.modAdm fun x => { x with fetched := x.fetched ++ [f] })
      else .next (s.reject f 1)

/-! Bindings (R30, R276, R293, R312, R327, R367). -/

/-- The slot of a tent's registered ring with this address and size. -/
def State.findRing (s : State) (t addr log2 : Nat) : Option Nat :=
  (s.dev.adm.rings.find? fun e => match e.2 with
    | some r => r.addr == addr && r.log2 == log2 && r.tent == t
    | none => false).map (·.1)

/-- The ring a descriptor names is registered and not bound to an unfinished request (R314). -/
def State.freeRing (s : State) (t addr log2 : Nat) : Option Nat :=
  match s.findRing t addr log2 with
  | none => none
  | some k => match s.ring k with
    | some r => if r.bound = 0 then some k else none
    | none => none

/-- Compute dies that hold at least one of the tent's bays. -/
def State.tentDies (s : State) (t : Nat) : List Nat := (List.range 4).filter fun d => s.dieBays t d != 0

/-- The element after the last one chosen, in ascending order and round. -/
def nextRound (l : List Nat) (last : Nat) : Nat := (l.find? fun d => last < d).getD (l.headD 0)

/-- A stamp lies after a slot's `v` and before its `r`. -/
def boundBy (since retired : Option Stamp) (st : Stamp) : Bool :=
  (match since with | some v => v.before st | none => false) &&
    (match retired with | some r => st.before r | none => true)

def State.vocab (s : State) (x : Nat) : Vocab := SMap.get (fun _ => {}) s.dev.text.vocabs x
def State.grammar (s : State) (x : Nat) : Grammar := SMap.get (fun _ => {}) s.dev.text.grammars x

/-- A request of the tent may use a vocabulary slot (R276). -/
def State.vocabUsable (s : State) (t x : Nat) (st : Stamp) : Bool :=
  decide (x < 8) && boundBy (s.vocab x).since (s.vocab x).retired st &&
    (s.flag (rKerfVocabBase x) fKerfVocabBaseShared || s.fld (rKerfVocabBase x) fKerfVocabBaseTent == t)

/-- A request of the tent on vocabulary slot `v` may use a grammar slot (R293). -/
def State.grammarUsable (s : State) (t x v : Nat) (st : Stamp) : Bool :=
  decide (x < 64) && boundBy (s.grammar x).since (s.grammar x).retired st &&
    s.fld (rGuyImageBase x) fGuyImageBaseTent == t && s.fld (rGuyImageBase x) fGuyImageBaseVocab == v

/-- Adapter versions of a slot (R366). -/
def State.adapters (s : State) (t a : Nat) : List AdapterVer := SMap.get (fun _ => []) s.dev.text.adapters (1024 * t + a)

/-- The version that a stamp binds (R367): the latest installed before it and not ended before it; 0 for none. -/
def bindVersion (vs : List AdapterVer) (st : Stamp) : Nat :=
  ((vs.filter fun v => v.installed.before st && (match v.ended with | some e => st.before e | none => true)).getLast?.map
    (·.version)).getD 0

/-- The legs of a kind (R28), by the codes of R520; SEARCH with a query vector leaves out TOKENIZE and EMBED. -/
def legsOf (d : List Byte) : List Nat :=
  match dKind d with
  | 1 => [1, 2]
  | 2 => if field d 0xE8 8 = 0 then [1, 2, 3, 4] else [3, 4]
  | 3 => [1, 5]
  | 4 => [1, 7, 8]
  | 5 => [1, 2, 3, 4, 5, 6, 7, 8]
  | 6 => [1]
  | 7 => [9]
  | 8 => [10]
  | _ => []

/-- A leg waits for an engine's queue, a context or a batch before it starts (R398). -/
def legQueued (k : Nat) : Bool := k == 3 || k == 7 || k == 9 || k == 10

/-- The current leg starts: its wait ends (R398). -/
def State.legStart (s : State) (n isl : Nat) : State :=
  match s.req n with
  | none => s
  | some r =>
    let s := s.trace isl 0x11 r.tent (r.legs.headD 0) n
    s.modReq n fun r => { (r.endWait s.liveTick) with
      started := true, legTick := s.ao.tick, legEpoch := s.fld (rTentStatus r.tent) fTentStatusEpoch }

/-- The island that runs a leg: the request's Kerf unit, its engine, or its home die's step sequencer. -/
def Request.legIsland (r : Request) : Nat :=
  match r.legs.headD 0 with
  | 1 => islKerf r.kerf
  | 6 => islKerf r.kerf
  | 3 => islLantern (r.engine.getD 0)
  | 4 => islLantern (r.engine.getD 0)
  | 9 => islLantern (r.engine.getD 0)
  | 10 => islTable 0
  | _ => islSequencer r.home

/-- The current leg may start: at once where nothing is waited for (R31, R32). -/
def State.legReady (s : State) (n : Nat) : State :=
  match s.req n with
  | none => s
  | some r =>
    if r.legs = [] then s
    else if legQueued (r.legs.headD 0) then s.modReq n fun r => r.beginWait s.liveTick
    else s.legStart n r.legIsland

/-! Admission (R312). -/

/-- The next request sequence number, and the state with a block of numbers reserved in the mark before its first is
assigned. -/
def State.takeSeq (s : State) : Nat × State :=
  let n := s.dev.adm.nextSeq
  let s := s.modAdm fun a => { a with nextSeq := n + 1 }
  (n, if s.ao.seqMark < n then { s with ao := { s.ao with seqMark := s.ao.seqMark + 65536 } } else s)

/-- The sampling parameter block and its bias list as the host region holds them (R355), and whether a word of them is
poisoned. -/
def State.readParams (s : State) (d : List Byte) : List Byte × List Byte × Bool :=
  let a := dParams d
  if a = 0 ∨ !s.inHost a 128 then ([], [], false)
  else
    let p := s.hostRead a 128
    let n := 8 * field p 0x28 4
    let b := field p 0x30 8
    if 1024 < field p 0x28 4 ∨ !s.inHost b n then (p, [], s.dev.mem.host.poisoned a 128)
    else (p, s.hostRead b n, s.dev.mem.host.poisoned a 128 || s.dev.mem.host.poisoned b n)

/-- The request text as received, and whether a word of it is poisoned; a sealed request's is an envelope (R476). -/
def State.readText (s : State) (d : List Byte) : List Byte × Bool :=
  let n := dTextBytes d
  if 4194304 + 48 < n ∨ !s.inHost (dTextAddr d) n ∨ !textKind (dKind d) then ([], false)
  else (s.hostRead (dTextAddr d) n, s.dev.mem.host.poisoned (dTextAddr d) n)

/-- Bind a ring to a request: REQUEST_SEQ and STALLS of its header are written (R326, R327). -/
def State.bindRing (s : State) (k n : Nat) : State :=
  match s.ring k with
  | none => s
  | some r => ((s.setRing k (some { r with bound := n, stalls := 0, stalled := none })).hostPut (r.addr + 0x10) 8 n).hostPut
      (r.addr + 0x18) 4 0

/-- The request that a descriptor becomes. -/
def State.newRequest (s : State) (f : Fetched) (n : Nat) (st : Stamp) : Request :=
  let d := f.bytes
  let t := dTent d
  let home := nextRound (s.tentDies t) (SMap.get (fun _ => 3) s.dev.adm.lastHome t)
  let gr := genKind (dKind d) && dGrammar d != 0xFF
  let (ps, bs, bad) := s.readParams d
  let (tx, bad') := s.readText d
  { seq := n, tent := t, kind := dKind d, cls := dClass d, client := dClient d % 65536, tag := dTag d, desc := d
    sq := f.sq, slot := f.slot, submit := f.tick, submitLive := f.live, admitReq := st, epoch := s.ao.epoch
    home := home, kerf := (s.dev.adm.lastKerf + 1) % s.dev.desc.iods
    engine := s.lanternPick d (s.bindIndex t d), index := s.bindIndex t d
    ring := s.freeRing t (dRing d) (dRingLog2 d)
    vocab := if textKind (dKind d) ∧ s.vocabUsable t (dVocab d) st then some (dVocab d) else none
    grammar := if gr ∧ s.grammarUsable t (dGrammar d) (dVocab d) st then some (dGrammar d) else none
    badSlot := (textKind (dKind d) && !s.vocabUsable t (dVocab d) st) ||
      (gr && !s.grammarUsable t (dGrammar d) (dVocab d) st) || ((descIndex d).isSome && (s.bindIndex t d).isNone)
    params := ps, bias := bs, text := tx, textBad := bad || bad'
    legs := legsOf d, waitFrom := some f.live, orphaned := s.orphan
    gen := { adapter := if genKind (dKind d) ∧ dAdapter d ≠ 0xFFFF then bindVersion (s.adapters t (dAdapter d)) st else 0 } }

/-- The ADMIT record of a request (R408, R410). -/
def State.admitRecord (s : State) (r : Request) : JRec :=
  s.jrecFor r r.admitReq (if s.durability r.tent = 0 then .admitReq r.desc r.submit 0 [] [] [] r.sq r.slot
    else .admitReq r.desc r.submit r.gen.adapter r.params r.bias r.text r.sq r.slot)

/-- Steps 3 and 4 of R312 for a descriptor that has passed its checks. -/
def State.admitReq (s : State) (f : Fetched) : State :=
  let d := f.bytes
  let (n, s) := s.takeSeq
  let (st, s) := s.originate islAdmit
  let s := (s.trace islAdmit 0x10 (dTent d) (dKind d + 256 * dClass d) n).iodEvent 0 0x201 0 (dTent d)
  let acc : Accept :=
    { cq := f.cq, seq := n, tick := st.tick, tent := dTent d, slot := f.slot, sq := f.sq, client := dClient d % 65536
      since := s.ao.tick }
  let s := s.modAdm fun a => { a with accepts := a.accepts ++ [acc] }
  if dKind d = 0x0F then
    s.modAdm fun a => { a with cancels := a.cancels ++
      [{ seq := n, tent := dTent d, client := dClient d % 65536, target := field d 0x40 8, stamp := st }] }
  else
    let r := s.newRequest f n st
    let s := s.setReq n (some r)
    let s := s.modAdm fun a => { a with lastHome := SMap.set (fun _ => 3) a.lastHome r.tent r.home, lastKerf := r.kerf }
    let s := match r.ring with
      | some k => s.bindRing k n
      | none => s
    let s := (s.sendJournal (s.admitRecord r)).legReady n
    -- a descriptor or an input that holds poison ends the request where it is found (R491)
    if f.poison then s.endAt n 0x40 islAdmit true else s

/-- The reason of R314 for which a fetched descriptor is rejected, 0 for none; held descriptors are counted apart. -/
def State.rejectReason (s : State) (f : Fetched) : Nat :=
  let d := f.bytes
  if 7 < dClass d then 2
  else if dTent d ≠ f.sqTent ∨ 64 ≤ dTent d ∨ s.tentState (dTent d) ≠ 2 then 3
  else if dKind d = 0x0F then (if dRing d ≠ 0 ∨ dRingLog2 d ≠ 0 then 4 else if s.durability (dTent d) = 1 ∧ s.mirrorStalled then 6 else 0)
  else if (s.freeRing (dTent d) (dRing d) (dRingLog2 d)).isNone then 4
  else if s.durability (dTent d) = 1 ∧ s.mirrorStalled then 6
  else 0

/-- Held descriptors of a tent, and of one of its classes in submission order. -/
def State.heldOf (s : State) (t : Nat) : List Fetched := s.dev.adm.held.filter fun f => dTent f.bytes == t
def State.heldIn (s : State) (t c : Nat) : List Fetched := (s.heldOf t).filter fun f => dClass f.bytes == c

/-- The decision at the TICK the admission stamp would carry (R391, R395). -/
def State.mayAdmit (s : State) (t c : Nat) : Bool :=
  let a := s.stampTick islAdmit
  s.classOpen c a && s.hasCredit t c a

/-- Steps 1 to 4 of R312 on the descriptor at the front, if it is of kind `k`. -/
def State.admitFront (s : State) (k : Nat) : State :=
  match s.dev.adm.fetched with
  | [] => s
  | f :: fs =>
    if dKind f.bytes ≠ k ∨ s.blocked islAdmit then s
    else
      let s := s.modAdm fun a => { a with fetched := fs }
      let t := dTent f.bytes
      let c := dClass f.bytes
      let why := s.rejectReason f
      if why ≠ 0 then s.reject f why
      else if k = 0x0F then s.admitReq f
      else if s.heldIn t c = [] ∧ s.mayAdmit t c then (s.takeCredit t c (s.stampTick islAdmit)).admitReq f
      else if s.fld (rTentQuota t) fTentQuotaHoldMax ≤ (s.heldOf t).length then s.reject f 5
      else s.modAdm fun a => { a with held := a.held ++ [f] }

/-- REQUEST_EMBED (R309, R312). -/
def execRequestEmbed (s : State) : Host.Outcome State Fault Refusal := .next (s.admitFront 1)
/-- REQUEST_SEARCH (R309, R312). -/
def execRequestSearch (s : State) : Host.Outcome State Fault Refusal := .next (s.admitFront 2)
/-- REQUEST_RERANK (R309, R312). -/
def execRequestRerank (s : State) : Host.Outcome State Fault Refusal := .next (s.admitFront 3)
/-- REQUEST_GENERATE (R309, R312). -/
def execRequestGenerate (s : State) : Host.Outcome State Fault Refusal := .next (s.admitFront 4)
/-- REQUEST_RAG (R309, R312). -/
def execRequestRag (s : State) : Host.Outcome State Fault Refusal := .next (s.admitFront 5)
/-- REQUEST_TOKENIZE (R309, R312). -/
def execRequestTokenize (s : State) : Host.Outcome State Fault Refusal := .next (s.admitFront 6)
/-- REQUEST_INDEX_MUTATE (R309, R312). -/
def execRequestIndexMutate (s : State) : Host.Outcome State Fault Refusal := .next (s.admitFront 7)
/-- REQUEST_TABLE_OP (R309, R312). -/
def execRequestTableOp (s : State) : Host.Outcome State Fault Refusal := .next (s.admitFront 8)
/-- REQUEST_CANCEL (R312, R337): without credit. -/
def execRequestCancel (s : State) : Host.Outcome State Fault Refusal := .next (s.admitFront 0x0F)

/-- HELD_DESCRIPTOR_ADMIT (R313, R395): the first held descriptor of a (tent, class).  Its tent or ring may have changed
while it waited, so the checks of R314 apply at its decision (log entry 15). -/
def execHeldDescriptorAdmit (t c : Nat) (s : State) : Host.Outcome State Fault Refusal :=
  match s.heldIn t c with
  | [] => .next s
  | f :: _ =>
    if s.blocked islAdmit ∨ !s.booted ∨ s.failsafe then .next s
    else if s.rejectReason f ≠ 0 then
      .next ((s.modAdm fun a => { a with held := a.held.erase f }).reject f (s.rejectReason f))
    else if s.mayAdmit t c then
      let s := s.modAdm fun a => { a with held := a.held.erase f }
      .next ((s.takeCredit t c (s.stampTick islAdmit)).admitReq f)
    else .next s

/-! Accept records (R307, R315, R33, R413). -/

/-- The ADMIT commit of a request has failed: its legs' work is discarded, its ring freed, and its accept record carries
REJECTED, JOURNAL (R33, R314, R413). -/
def State.admitFailed (s : State) (n : Nat) : State :=
  match s.req n with
  | none => s
  | some r =>
    if r.accepted then s
    else
      let s : State := match r.ring with
        | some k => s.setRing k ((s.ring k).map fun (x : Ring) => { x with bound := 0, stalled := none })
        | none => s
      let s := (s.setReq n none).modJrnl fun j =>
        { j with sent := j.sent.filter (·.req != n), log := j.log.filter (·.req != n)
                 gather := j.gather.filter fun i => !j.log.any fun q => q.id == i && q.req == n }
      match s.dev.adm.accepts.find? (·.seq == n) with
      | none => s
      | some a =>
        let s := s.modAdm fun x => { x with accepts := x.accepts.filter (·.seq != n) }
        s.reject { bytes := r.desc, sq := a.sq, slot := a.slot, cq := a.cq, sqTent := r.tent } 6

/-- An accept record can be posted: a rejection at once, an acceptance once ADMIT is committed, a CANCEL's once its
decision and its CANCEL record's commit are done (R312, R337). -/
def State.acceptReady (s : State) (a : Accept) : Bool :=
  if a.status = 0x30 then true
  else match s.dev.adm.cancels.find? (·.seq == a.seq) with
    | some c => c.outcome.isSome && s.committedWith fun r => r.req == a.seq && r.pay.kind == 4
    | none => s.admitCommitted a.seq

/-- The record that CQ `c` takes next: the accepted requests of one SQ in the order of their numbers (R400). -/
def State.nextAccept (s : State) (c : Nat) : Option Accept :=
  s.dev.adm.accepts.find? fun a => a.cq == c && s.acceptReady a &&
    (a.status == 0x30 || !s.dev.adm.accepts.any fun b => b.sq == a.sq && b.status == 0 && decide (b.seq < a.seq))

/-- The 32 bytes of R315. -/
def Accept.encode (a : Accept) (phase : Nat) : List Byte :=
  leBytes 8 a.seq ++ leBytes 8 a.tick ++ leBytes 2 a.status ++ leBytes 2 a.flags ++ leBytes 1 a.tent ++
    leBytes 1 a.reason ++ leBytes 2 a.slot ++ leBytes 1 a.sq ++ leBytes 1 phase ++ leBytes 6 0

/-- Write a record at TAIL; PHASE inverts each time TAIL wraps (R307). -/
def State.postAccept (s : State) (c : Nat) (a : Accept) : State :=
  let t := s.fld (rCqTail c) fCqTailTail % s.cqSize c
  let p := s.fld (rCqTail c) fCqTailPhase
  let s := s.hostWrite (s.fld (rCqBase c) fCqBaseAddr * 32 + 32 * t) (a.encode p)
  let s := s.setFld (rCqTail c) fCqTailTail ((t + 1) % s.cqSize c)
  if t + 1 = s.cqSize c then s.setFld (rCqTail c) fCqTailPhase (1 - p) else s

/-- An acceptance takes effect: the counts of R398 and R517. -/
def State.noteAccept (s : State) (a : Accept) : State :=
  let s := s.wr (rObsAoTentAdmit a.tent) (s.rd (rObsAoTentAdmit a.tent) + 1)
  match s.dev.adm.cancels.find? (·.seq == a.seq) with
  | some c =>
    let s := s.contribute { tent := a.tent, client := a.client, stamp := c.stamp, admissions := 1 }
    let (st, s) := s.originate islAdmit
    (s.modAdm fun x => { x with cancels := x.cancels.filter (·.seq != a.seq) }).contribute
      { tent := a.tent, client := a.client, stamp := st, completions := 1 }
  | none =>
    let st : Stamp := match s.req a.seq with
      | some r => r.admitReq
      | none => {}
    let s := s.modReq a.seq fun r => { r with accepted := true }
    s.contribute
      { tent := a.tent, client := a.client, stamp := st, admissions := 1 }

/-- ACCEPT_RECORD_POST (R307, R312, R315): to completion queue `c`, once it has room. -/
def execAcceptRecordPost (c : Nat) (s : State) : Host.Outcome State Fault Refusal :=
  if 64 ≤ c ∨ !s.cqValid c ∨ s.cqFull c ∨ s.blocked islAdmit then .next s
  else match s.nextAccept c with
    | none => .next s
    | some a =>
      let late := match s.dev.adm.cancels.find? (·.seq == a.seq) with
        | some x => x.outcome != some 1
        | none => false
      let a' := { a with flags := if late then 0x40 else 0 }
      let s := (s.postAccept c a').modAdm fun x => { x with accepts := x.accepts.erase a }
      .next (if a.status = 0 then s.noteAccept a' else s)

end Sys2Proof.Machine
end

