-- ==== Sys2Proof/Machine/Ecc.lean ====
section
/-! DEFINITION. The check code of on-die data and HBM words (R483 to R485), and injected errors (R499). -/

namespace Sys2Proof.Machine

/-- The columns of the data bits (R483). -/
def eccCols : List Nat :=
  [0x07, 0x0B, 0x0D, 0x0E, 0x13, 0x15, 0x16, 0x19, 0x1A, 0x1C, 0x23, 0x25, 0x26, 0x29, 0x2A, 0x2C,
   0x31, 0x32, 0x34, 0x38, 0x43, 0x45, 0x46, 0x49, 0x4A, 0x4C, 0x51, 0x52, 0x54, 0x58, 0x61, 0x62]

/-- The check bits of a data word: the XOR of the columns of its set bits. -/
def eccCheck (d : Nat) : Nat :=
  ((List.range 32).zip eccCols).foldl (fun c e => if d.testBit e.1 then c ^^^ e.2 else c) 0

/-- The stored codeword: data in [31:0], check bits in [38:32]; a poisoned word's check bits are XORed with 0x70. -/
def eccEncode (d : Nat) (poison : Bool) : Nat := d + (eccCheck d ^^^ (if poison then 0x70 else 0)) * 2 ^ 32

/-- What a checker makes of a codeword as read (R484). -/
inductive EccResult where
  | clean (d : Nat)
  /-- Corrected; the syndrome. -/
  | corrected (d : Nat) (syn : Nat)
  | poisoned (d : Nat)
  /-- Uncorrectable and treated as poisoned; the syndrome. -/
  | bad (d : Nat) (syn : Nat)
  deriving DecidableEq, Repr

/-- Decode a codeword by its syndrome (R484). -/
def eccDecode (c : Nat) : EccResult :=
  let d := c % 2 ^ 32
  let s := (c / 2 ^ 32) % 128 ^^^ eccCheck d
  if s = 0 then .clean d
  else if s = 0x70 then .poisoned d
  else if s ∈ [1, 2, 4, 8, 16, 32, 64] then .corrected d s
  else match eccCols.findIdx? (· == s) with
    | some i => .corrected (d ^^^ 2 ^ i) s
    | none => .bad d s

/-- What a checker at an island does with its result: the word delivered, and the state with its log record (R484, R489). -/
def State.deliver (s : State) (isl detector space addr flags : Nat) : EccResult → PWord × State
  | .clean d => (⟨BitVec.ofNat 32 d, false⟩, s)
  | .poisoned d => (⟨BitVec.ofNat 32 d, true⟩, s)
  | .corrected d syn =>
    (⟨BitVec.ofNat 32 d, false⟩,
      s.log isl { detector := detector, severity := 0, action := 1, address := addr, space := space, flags := flags,
                  syndrome := syn })
  | .bad d syn =>
    (⟨BitVec.ofNat 32 d, true⟩,
      s.log isl { detector := detector, severity := 1, action := 2, address := addr, space := space, flags := flags,
                  syndrome := syn })

/-- Check one stored word at an island whose codeword was read with `flips` bits inverted, beside any injection.  A codeword
read as it was stored is delivered as it is (R484). -/
def State.checkWord (s : State) (isl detector space addr flips : Nat) (w : PWord) : PWord × State :=
  let p := s.fire isl detector
  if p.1 = none ∧ flips = 0 then (w, p.2)
  else
    p.2.deliver isl detector space addr (if p.1.isSome then 1 else 0)
      (eccDecode (eccEncode w.data.toNat w.poison ^^^ flips ^^^ p.1.getD 0))

end Sys2Proof.Machine
end

