-- ==== Sys2Proof/Machine/Flash.lean ====
section
/-! DEFINITION. Flash sets: the stripe layout, the Reed–Solomon code, granule reads and writes, the poison list (R255 to
R264). -/

namespace Sys2Proof.Machine

/-! The field GF(2⁸) with polynomial 0x11D (R259). -/

/-- Multiply by α = 0x02. -/
def gfDouble (a : Nat) : Nat := if 2 * a ≥ 256 then (2 * a) ^^^ 0x11D else 2 * a

/-- Product over the low `k` bits of `b`. -/
def gfMulBits : Nat → Nat → Nat → Nat
  | 0, _, _ => 0
  | k + 1, a, b => (if b % 2 = 1 then a else 0) ^^^ gfMulBits k (gfDouble a) (b / 2)

def gfMul (a b : Nat) : Nat := gfMulBits 8 a b

/-- `a ^ n`. -/
def gfPow (a : Nat) : Nat → Nat
  | 0 => 1
  | n + 1 => gfMul a (gfPow a n)

/-- The inverse of a nonzero element: `a ^ 254`. -/
def gfInv (a : Nat) : Nat := gfPow a 254

/-- The weight of slot `j` in the second parity equation: α ^ (15 − j). -/
def slotWeight (j : Nat) : Nat := gfPow 2 (15 - j)

/-- The parity bytes of one byte position from the 14 data bytes in slot order (R259). -/
def parityBytes (data : List Nat) : Nat × Nat :=
  let s := ((List.range 14).zip data).foldl
    (fun (acc : Nat × Nat) e => (acc.1 ^^^ e.2, acc.2 ^^^ gfMul e.2 (slotWeight e.1))) (0, 0)
  let c14 := gfMul (s.1 ^^^ s.2) (gfInv 3)
  (c14, s.1 ^^^ c14)

/-- Recover the byte of slot `want` from the known slots' bytes, at most two of the 16 being lost (R259). -/
def recoverByte (known : List (Nat × Nat)) (lost : List Nat) (want : Nat) : Nat :=
  let s := known.foldl
    (fun (acc : Nat × Nat) e => (acc.1 ^^^ e.2, acc.2 ^^^ gfMul e.2 (slotWeight e.1))) (0, 0)
  match lost.filter (· ≠ want) with
  | [] => s.1
  | o :: _ =>
    gfMul (s.2 ^^^ gfMul (slotWeight o) s.1) (gfInv (slotWeight want ^^^ slotWeight o))

/-! Sets and SSDs. -/

/-- Reserved granules at the start of every SSD (R258). -/
def reservedGranules : Nat := 262144

def State.flashSet (s : State) (k : Nat) : FlashSet := SMap.get (fun _ => {}) s.dev.mem.sets k
def State.setFlashSet (s : State) (k : Nat) (x : FlashSet) : State :=
  { s with dev := { s.dev with mem := { s.dev.mem with sets := SMap.set (fun _ => {}) s.dev.mem.sets k x } } }
def State.ssd (s : State) (slot : Nat) : Ssd := SMap.get (fun _ => {}) s.nv.ssds slot
def State.setSsd (s : State) (slot : Nat) (x : Ssd) : State :=
  { s with nv := { s.nv with ssds := SMap.set (fun _ => {}) s.nv.ssds slot x } }

/-- Stripe and slot of a data granule (R258). -/
def stripeOf (d : Nat) : Nat × Nat := (d / 14, d % 14)

/-- SSD index and granule offset of slot `j` of stripe `st` in a set of `n` SSDs (R258). -/
def placeOf (n st j : Nat) : Nat × Nat :=
  let g := 16 * st + j
  ((g + st) % n, g / n)

/-- The logical block address of granule offset `o` on an SSD with LBAs of `lba` bytes (R258). -/
def lbaOf (o lba : Nat) : Nat := (reservedGranules + o) * (4096 / lba)

/-- Slots of the set treated as failed, as a mask over SSD slots (R262). -/
def State.failedSlots (s : State) (k : Nat) : Nat :=
  s.fld (rMemFlashsetStatus k) fMemFlashsetStatusFailedSlots

/-- The SSD of index `i` can be used for stripe `st`: it is not failed, or it is being rebuilt and the stripe is done
(R263). -/
def State.usable (s : State) (k i st : Nat) : Bool :=
  let fs := s.flashSet k
  let slot := fs.slots.getD i 99
  decide (slot < 16) && (!(s.failedSlots k).testBit slot ||
    (fs.rebuilding == some i &&
      decide (st < s.fld (rMemFlashsetRebuild k) fMemFlashsetRebuildStripesDone)))

/-- The bytes of slot `j` of stripe `st`; `none` where its SSD cannot be used. -/
def State.slotBytes (s : State) (k st j : Nat) : Option (List Byte) :=
  let fs := s.flashSet k
  let (i, o) := placeOf fs.slots.length st j
  if s.usable k i st then
    some ((List.range 4096).map fun t => SMap.get (fun _ => 0) (s.ssd (fs.slots.getD i 99)).data (4096 * o + t))
  else none

/-- Slots of the stripe whose granules are lost. -/
def State.lostSlots (s : State) (k st : Nat) : List Nat :=
  (List.range 16).filter fun j => !s.usable k (placeOf (s.flashSet k).slots.length st j).1 st

/-- A granule rebuilt from the other granules of its stripe; `none` where more than two are lost (R259, R262).
`extra` adds a slot whose read met a media error. -/
def State.reconstruct (s : State) (k st j : Nat) (extra : List Nat := []) : Option (List Byte) :=
  let lost := ((s.lostSlots k st) ++ extra).eraseDups
  if 2 < lost.length then none
  else
    let rest := ((List.range 16).filter fun i => !lost.contains i).filterMap fun i =>
      (s.slotBytes k st i).map fun b => (i, b)
    some ((List.range 4096).map fun t =>
      BitVec.ofNat 8 (recoverByte (rest.map fun e => (e.1, (e.2.getD t 0).toNat)) lost j))

/-- Data granule `d` of a set: its bytes, or `none` where its stripe cannot be read (R262). -/
def State.readGranule (s : State) (k d : Nat) : Option (List Byte) :=
  let (st, j) := stripeOf d
  match s.slotBytes k st j with
  | some b => some b
  | none => s.reconstruct k st j

/-- The granule is in the set's poison list (R264). -/
def State.granulePoisoned (s : State) (k d : Nat) : Bool :=
  (s.flashSet k).slots.any fun slot =>
    !(s.failedSlots k).testBit slot && (s.ssd slot).poison.contains d

/-- The two lowest-indexed SSDs of the set that are not failed (R260). -/
def State.logSsds (s : State) (k : Nat) : List Nat :=
  ((s.flashSet k).slots.filter fun slot => !(s.failedSlots k).testBit slot).take 2

/-- Add or remove a granule of the poison list, of at most 65,536 entries (R264); `none` where the list is full. -/
def State.setPoisonList (s : State) (k d : Nat) (bad : Bool) : Option State :=
  if s.granulePoisoned k d = bad then some s
  else if bad && decide (65536 ≤ ((s.logSsds k).map fun slot => (s.ssd slot).poison.length).foldl max 0) then none
  else some ((s.logSsds k).foldl (fun s slot =>
    let x := s.ssd slot
    s.setSsd slot { x with poison := if bad then x.poison ++ [d] else x.poison.filter (· ≠ d) }) s)

/-- Store one granule on an SSD. -/
def State.storeGranule (s : State) (slot o : Nat) (b : List Byte) : State :=
  let x := s.ssd slot
  s.setSsd slot { x with data := SMap.setList (fun _ => 0) x.data (4096 * o) b }

/-- Store slot `j` of a stripe where its SSD can be used. -/
def State.storeSlot (s : State) (k st j : Nat) (b : List Byte) : State :=
  let fs := s.flashSet k
  let (i, o) := placeOf fs.slots.length st j
  if s.usable k i st then s.storeGranule (fs.slots.getD i 99) o b else s

/-- The two parity granules of a stripe from its 14 data granules (R259). -/
def parityGranules (data : List (List Byte)) : List Byte × List Byte :=
  let p := (List.range 4096).map fun t => parityBytes (data.map fun b => (b.getD t 0).toNat)
  (p.map fun e => BitVec.ofNat 8 e.1, p.map fun e => BitVec.ofNat 8 e.2)

/-- Write a data granule with its stripe's parity (R260, R262): the parity is computed as if every SSD were present.
`none` where the stripe's old data cannot be read: the set is FAILED. -/
def State.writeGranule (s : State) (k d : Nat) (b : List Byte) : Option State :=
  let (st, j) := stripeOf d
  let old := (List.range 14).map fun i => if i = j then some b else
    match s.slotBytes k st i with
    | some x => some x
    | none => s.reconstruct k st i
  if old.all Option.isSome then
    let p := parityGranules (old.map fun x => x.getD [])
    some (((s.storeSlot k st j b).storeSlot k st 14 p.1).storeSlot k st 15 p.2)
  else none

/-- Name a stripe in the intent log of the set's two lowest-indexed SSDs, or clear it (R260). -/
def State.setIntent (s : State) (k st : Nat) (on : Bool) : State :=
  (s.logSsds k).foldl (fun s slot =>
    let x := s.ssd slot
    s.setSsd slot { x with intent := if on then x.intent ++ [st] else x.intent.filter (· ≠ st) }) s

/-- Recompute the parity of a stripe (R260). -/
def State.fixParity (s : State) (k st : Nat) : State :=
  let data := (List.range 14).map fun i => ((s.slotBytes k st i).getD ((s.reconstruct k st i).getD []))
  let p := parityGranules data
  (s.storeSlot k st 14 p.1).storeSlot k st 15 p.2

/-- The state of a set from its failed SSDs (R262): DEGRADED while every stripe has lost at most two granules. -/
def setState (n failed : Nat) : Nat :=
  if failed = 0 then 1 else if failed = 1 ∨ (failed = 2 ∧ n = 16) then 2 else 4

/-- Count of bits set in a 16-bit mask. -/
def ones16 (m : Nat) : Nat := (bitList 16 m).length

end Sys2Proof.Machine
end

