-- ==== Sys2Proof/Machine/Encoding.lean ====
section
/-! DEFINITION. The 64-bit instruction word of the bays and its fields (R96). -/

namespace Sys2Proof.Machine

/-- The word of a major opcode and its fields. -/
def Short.word (op : Nat) (f : Short) : W64 :=
  BitVec.ofNat 64 (op % 256 * 2 ^ 56 + f.dst.toNat * 2 ^ 50 + f.srca.toNat * 2 ^ 44 + f.srcb.toNat * 2 ^ 38 +
    f.srcc.toNat * 2 ^ 32 + f.pred.toNat * 2 ^ 29 + (if f.pneg then 2 ^ 28 else 0) + f.func.toNat)

/-- The major opcode of a word. -/
def wordOpcode (w : W64) : Nat := w.toNat / 2 ^ 56

/-- The fields of a word. -/
def wordShort (w : W64) : Short :=
  { dst := BitVec.ofNat 6 (w.toNat / 2 ^ 50), srca := BitVec.ofNat 6 (w.toNat / 2 ^ 44)
    srcb := BitVec.ofNat 6 (w.toNat / 2 ^ 38), srcc := BitVec.ofNat 6 (w.toNat / 2 ^ 32)
    pred := BitVec.ofNat 3 (w.toNat / 2 ^ 29), pneg := w.toNat.testBit 28, func := BitVec.ofNat 28 w.toNat }

end Sys2Proof.Machine
end

