-- ==== Sys2Proof/Machine/Float.lean ====
section
/-! DEFINITION. Floating-point values and formats (R104, R105, R143 to R146): an element is decoded to an exact value,
the operation is exact, and one rounding narrows the result. -/

namespace Sys2Proof.Machine

/-- A floating-point value: NaN, an infinity, or `m * 2 ^ e` with a sign (zero keeps its sign). -/
inductive FVal where
  | nan
  | inf (neg : Bool)
  | fin (neg : Bool) (m : Nat) (e : Int)
  deriving DecidableEq, Repr, Inhabited

/-- The special encodings a format has (R143). -/
inductive FKind where
  /-- Infinities and NaNs as IEEE 754 has them. -/
  | ieee
  /-- No infinity; one NaN, all exponent and mantissa bits set (E4M3). -/
  | nanOnly
  /-- Neither infinity nor NaN. -/
  | finite
  deriving DecidableEq, Repr, Inhabited

/-- An element format: exponent width, mantissa width, bias, special encodings. -/
structure FFmt where
  ew : Nat
  mw : Nat
  bias : Nat
  kind : FKind
  deriving DecidableEq, Repr, Inhabited

/-- IEEE 754 binary32. -/
def f32 : FFmt := ⟨8, 23, 127, .ieee⟩

/-- The floating-point format of a format code of R122, with the layout of R143. -/
def fmtOf (code : Nat) : Option FFmt :=
  if code = 0 then some ⟨4, 3, 7, .nanOnly⟩
  else if code = 1 then some ⟨5, 2, 15, .ieee⟩
  else if code = 2 then some ⟨3, 2, 3, .finite⟩
  else if code = 3 then some ⟨2, 3, 1, .finite⟩
  else if code = 4 then some ⟨2, 1, 1, .finite⟩
  else if code = 7 then some ⟨8, 7, 127, .ieee⟩
  else if code = 8 then some ⟨5, 10, 15, .ieee⟩
  else none

/-- Width of a format in bits. -/
def FFmt.width (f : FFmt) : Nat := 1 + f.ew + f.mw

/-- The value of an encoding (R143). -/
def decodeF (f : FFmt) (x : Nat) : FVal :=
  let s := x.testBit (f.ew + f.mw)
  let e := (x >>> f.mw) % 2 ^ f.ew
  let m := x % 2 ^ f.mw
  let lo : Int := 1 - (f.bias : Int) - f.mw
  if e = 0 then .fin s m lo
  else
    let norm := FVal.fin s (2 ^ f.mw + m) (lo + (e : Int) - 1)
    if e = 2 ^ f.ew - 1 then
      match f.kind with
      | .ieee => if m = 0 then .inf s else .nan
      | .nanOnly => if m = 2 ^ f.mw - 1 then .nan else norm
      | .finite => norm
    else norm

/-- `m / 2 ^ k` rounded to the nearest integer, ties to even. -/
def roundShift (m k : Nat) : Nat :=
  let q := m >>> k
  let r := m % 2 ^ k
  if 2 * r > 2 ^ k then q + 1
  else if 2 * r = 2 ^ k ∧ k ≠ 0 then q + q % 2
  else q

/-- The largest finite magnitude of a format, as an encoding without sign. -/
def maxFinite (f : FFmt) : Nat :=
  match f.kind with
  | .ieee => (2 ^ f.ew - 1) * 2 ^ f.mw - 1
  | .nanOnly => 2 ^ (f.ew + f.mw) - 2
  | .finite => 2 ^ (f.ew + f.mw) - 1

/-- The magnitude encoding of `m * 2 ^ e` rounded to nearest-even, without an upper bound. -/
def roundMag (f : FFmt) (m : Nat) (e : Int) : Nat :=
  if m = 0 then 0
  else
    let lo : Int := 1 - (f.bias : Int) - f.mw
    let q := max (e + (Nat.log2 m : Int) - f.mw) lo
    let n := if q ≤ e then m <<< (e - q).toNat else roundShift m (q - e).toNat
    -- n carries into the exponent by itself: encodings of one sign are consecutive integers
    n + (q - lo).toNat * 2 ^ f.mw

/-- Encode a value, rounding to nearest-even; a NaN takes the encoding `nanBits`.  Overflow gives infinity where the
format has one, else the largest finite magnitude (R105). -/
def encodeF (f : FFmt) (nanBits : Nat) : FVal → Nat
  | .nan => nanBits
  | .inf s =>
    (if s then 2 ^ (f.ew + f.mw) else 0) +
      (if f.kind = .ieee then (2 ^ f.ew - 1) * 2 ^ f.mw else maxFinite f)
  | .fin s m e =>
    let mag := roundMag f m e
    (if s then 2 ^ (f.ew + f.mw) else 0) +
      (if mag ≤ maxFinite f then mag
       else if f.kind = .ieee then (2 ^ f.ew - 1) * 2 ^ f.mw else maxFinite f)

/-- The FP32 encoding of a value; a NaN result is 0x7FC0_0000 (R104). -/
def encode32 (x : FVal) : W32 := BitVec.ofNat 32 (encodeF f32 0x7FC00000 x)

/-- The value of an FP32 word. -/
def decode32 (w : W32) : FVal := decodeF f32 w.toNat

/-- Negate a value. -/
def FVal.neg : FVal → FVal
  | .nan => .nan
  | .inf s => .inf (!s)
  | .fin s m e => .fin (!s) m e

/-- The signed mantissa of a finite value at exponent `e0 ≤ e`. -/
def FVal.scaled (s : Bool) (m : Nat) (e e0 : Int) : Int :=
  let n : Int := ((m <<< (e - e0).toNat : Nat) : Int)
  if s then -n else n

/-- The exact sum; an exact zero sum of opposite signs is +0 (round to nearest). -/
def FVal.add : FVal → FVal → FVal
  | .nan, _ => .nan
  | _, .nan => .nan
  | .inf s, .inf t => if s = t then .inf s else .nan
  | .inf s, .fin _ _ _ => .inf s
  | .fin _ _ _, .inf t => .inf t
  | .fin s m e, .fin t n k =>
    let e0 := min e k
    let r := FVal.scaled s m e e0 + FVal.scaled t n k e0
    if r = 0 then .fin (s && t) 0 e0 else .fin (decide (r < 0)) r.natAbs e0

/-- The exact product. -/
def FVal.mul : FVal → FVal → FVal
  | .nan, _ => .nan
  | _, .nan => .nan
  | .inf s, .inf t => .inf (s != t)
  | .inf s, .fin t n _ => if n = 0 then .nan else .inf (s != t)
  | .fin s m _, .inf t => if m = 0 then .nan else .inf (s != t)
  | .fin s m e, .fin t n k => .fin (s != t) (m * n) (e + k)

/-- Ordering of two values: `none` when one is NaN, else the sign of `a - b` (zeros are equal). -/
def FVal.cmp (a b : FVal) : Option Ordering :=
  match a, b with
  | .nan, _ => none
  | _, .nan => none
  | .inf s, .inf t => some (if s = t then .eq else if s then .lt else .gt)
  | .inf s, .fin _ _ _ => some (if s then .lt else .gt)
  | .fin _ _ _, .inf t => some (if t then .gt else .lt)
  | .fin s m e, .fin t n k =>
    let e0 := min e k
    some (compare (FVal.scaled s m e e0) (FVal.scaled t n k e0))

/-- The value is NaN. -/
def FVal.isNan (a : FVal) : Bool := decide (a = .nan)

/-- The value's sign bit. -/
def FVal.sign : FVal → Bool
  | .nan => false
  | .inf s => s
  | .fin s _ _ => s

/-- FP32 sum, difference, product and fused multiply-add, each with one rounding (R104). -/
def fadd (a b : W32) : W32 := encode32 ((decode32 a).add (decode32 b))
def fsub (a b : W32) : W32 := encode32 ((decode32 a).add (decode32 b).neg)
def fmul (a b : W32) : W32 := encode32 ((decode32 a).mul (decode32 b))
def ffma (a b c : W32) : W32 := encode32 (((decode32 a).mul (decode32 b)).add (decode32 c))

/-- The order of R104 for FMIN and FMAX: −0 lies below +0. -/
def fbelow (a b : W32) : Bool :=
  match (decode32 a).cmp (decode32 b) with
  | some .lt => true
  | some .eq => (decode32 a).sign && !(decode32 b).sign
  | _ => false

/-- Minimum and maximum number (R104): the other operand when exactly one is NaN. -/
def fmin (a b : W32) : W32 :=
  if (decode32 a).isNan then (if (decode32 b).isNan then 0x7FC00000 else b)
  else if (decode32 b).isNan then a
  else if fbelow b a then b else a
def fmax (a b : W32) : W32 :=
  if (decode32 a).isNan then (if (decode32 b).isNan then 0x7FC00000 else b)
  else if (decode32 b).isNan then a
  else if fbelow a b then b else a

/-- The comparison codes of ISETP and FSETP: 0 EQ, 1 NE, 2 LT, 3 LE, 4 GT, 5 GE. -/
def cmpCode (k : Nat) (o : Ordering) : Bool :=
  if k = 0 then o == .eq else if k = 1 then o != .eq else if k = 2 then o == .lt
  else if k = 3 then o != .gt else if k = 4 then o == .gt else o != .lt

/-- FSETP: `unord` is the result of an unordered compare (FUNC[3]). -/
def fcompare (k : Nat) (unord : Bool) (a b : W32) : Bool :=
  match (decode32 a).cmp (decode32 b) with
  | none => unord
  | some o => cmpCode k o

/-- The magnitude `m * 2 ^ e` truncated toward zero to an integer. -/
def truncMag (m : Nat) (e : Int) : Nat := if 0 ≤ e then m <<< e.toNat else m >>> (-e).toNat

/-- F2I (R105): toward zero, saturating; NaN gives 0. -/
def f2i (unsigned : Bool) (a : W32) : W32 :=
  match decode32 a with
  | .nan => 0
  | .inf s =>
    if unsigned then (if s then 0 else 0xFFFFFFFF) else (if s then 0x80000000 else 0x7FFFFFFF)
  | .fin s m e =>
    let n := truncMag m e
    if unsigned then (if s then 0 else BitVec.ofNat 32 (min n 0xFFFFFFFF))
    else if s then BitVec.ofInt 32 (-((min n 0x80000000 : Nat) : Int))
    else BitVec.ofNat 32 (min n 0x7FFFFFFF)

/-- I2F (R105): nearest-even. -/
def i2f (unsigned : Bool) (a : W32) : W32 :=
  if unsigned then encode32 (.fin false a.toNat 0)
  else encode32 (.fin a.msb a.toInt.natAbs 0)

/-- FCLASS (R102): the class bits of an FP32 word. -/
def fclass (a : W32) : W32 :=
  let s := a.msb
  let e := (a.toNat >>> 23) % 256
  let m := a.toNat % 2 ^ 23
  let bit : Nat :=
    if e = 255 then (if m ≠ 0 then 8 else if s then 0 else 7)
    else if e = 0 then (if m = 0 then (if s then 3 else 4) else if s then 2 else 5)
    else if s then 1 else 6
  BitVec.ofNat 32 (2 ^ bit)

/-! The approximations of R104.  Each gives the encodings the bound allows, of which a free value picks one. -/

/-- Encodings of magnitude within `ulps` units of an exact magnitude that lies in `[t, t + 1)` encodings; `exact` says
that it is `t`. -/
def ulpChoices (ulps t : Nat) (exact : Bool) : List Nat :=
  ((List.range (2 * ulps + 1)).map fun k => t + k - (if exact then ulps else ulps - 1)).filter
    fun x => decide (x ≤ 0x7F800000) && (exact || decide (x ≤ t + ulps))

/-- Truncated FP32 magnitude encoding of `num / den * 2 ^ e`, and whether it is exact. -/
def truncQuot (num den : Nat) (e : Int) : Nat × Bool :=
  if num = 0 then (0, true)
  else
    -- scale so that the quotient has at least 26 bits
    let k := Nat.log2 den + 28 - Nat.log2 num
    let q := (num <<< k) / den
    let rest := (num <<< k) % den
    let e' := e - k
    let lo : Int := -149
    let p := max (e' + (Nat.log2 q : Int) - 23) lo
    let n := if p ≤ e' then q <<< (e' - p).toNat else q >>> (p - e').toNat
    let lost := if p ≤ e' then 0 else q % 2 ^ (p - e').toNat
    (min (n + (p - lo).toNat * 2 ^ 23) 0x7F800000, decide (rest = 0) && decide (lost = 0))

/-- Pick the element of a list that a free value names; 0 of an empty list. -/
def pick (l : List Nat) (free : Nat) : Nat := l.getD (free % l.length) 0

/-- A signed FP32 encoding from a magnitude. -/
def signed32 (s : Bool) (mag : Nat) : W32 := BitVec.ofNat 32 ((if s then 2 ^ 31 else 0) + mag)

/-- FRCP: within 1 ulp of `1 / a`. -/
def frcp (free : Nat) (a : W32) : W32 :=
  match decode32 a with
  | .nan => 0x7FC00000
  | .inf s => signed32 s 0
  | .fin s m e =>
    if m = 0 then signed32 s 0x7F800000
    else
      let t := truncQuot 1 m (-e)
      signed32 s (pick (ulpChoices 1 t.1 t.2) free)

/-- Integer square root of `n` by bits: `fuel` bits from the top. -/
def isqrt : Nat → Nat → Nat → Nat
  | 0, _, r => r
  | k + 1, n, r => let t := r + 2 ^ k; isqrt k n (if t * t ≤ n then t else r)

/-- FRSQ: within 1 ulp of `1 / √a`. -/
def frsq (free : Nat) (a : W32) : W32 :=
  match decode32 a with
  | .nan => 0x7FC00000
  | .inf s => if s then 0x7FC00000 else 0
  | .fin s m e =>
    if m = 0 then signed32 s 0x7F800000
    else if s then 0x7FC00000
    else
      -- 1/√(m·2^e) with e even: √(2^2k / m) · 2^(−k − e/2)
      let m' := if e % 2 = 0 then m else 2 * m
      let h := (e - (if e % 2 = 0 then 0 else 1)) / 2
      let r := isqrt 60 (2 ^ 100 / m') 0
      let t := truncQuot r 1 (-50 - h)
      signed32 false (pick (ulpChoices 1 t.1 (decide (r * r * m' = 2 ^ 100))) free)

/-- The first terms of `e ^ y`, `y` scaled by `2 ^ 80`: `n` counts terms, `term` is the current one. -/
def expTerms : Nat → Nat → Nat → Nat → Nat → Nat
  | 0, _, _, _, acc => acc
  | k + 1, y, n, term, acc => expTerms k y (n + 1) (term * y / 2 ^ 80 / n) (acc + term)

/-- ln 2 times `2 ^ 80`. -/
def ln2 : Nat := 837963523372001241319907

/-- `2 ^ f` times `2 ^ 80` for `f = x / 2 ^ 80 < 1`. -/
def exp2Frac (x : Nat) : Nat := expTerms 30 (x * ln2 / 2 ^ 80) 1 (2 ^ 80) 0

/-- FEXP2: within 2 ulp of `2 ^ a`. -/
def fexp2 (free : Nat) (a : W32) : W32 :=
  match decode32 a with
  | .nan => 0x7FC00000
  | .inf s => if s then 0 else 0x7F800000
  | .fin s m e =>
    -- the argument times 2^80, floored
    let x : Int :=
      let n : Nat := truncMag m (e + 80)
      if s then -(n : Int) else n
    let i := x / 2 ^ 80
    let f := (x % 2 ^ 80).toNat
    if i ≥ 129 then 0x7F800000
    else if i < -200 then BitVec.ofNat 32 (pick (ulpChoices 2 0 false) free)
    else
      let t := truncQuot (exp2Frac f) 1 (i - 80)
      BitVec.ofNat 32 (pick (ulpChoices 2 t.1 (decide (f = 0))) free)

/-- Bits of `log2 x` for `x` in `[1, 2)` scaled by `2 ^ 96`, by repeated squaring. -/
def log2Bits : Nat → Nat → Nat → Nat
  | 0, _, acc => acc
  | k + 1, x, acc =>
    let y := x * x / 2 ^ 96
    if y ≥ 2 ^ 97 then log2Bits k (y / 2) (2 * acc + 1) else log2Bits k y (2 * acc)

/-- FLOG2: within 2 ulp of `log2 a`. -/
def flog2 (free : Nat) (a : W32) : W32 :=
  match decode32 a with
  | .nan => 0x7FC00000
  | .inf s => if s then 0x7FC00000 else 0x7F800000
  | .fin s m e =>
    if m = 0 then 0xFF800000
    else if s then 0x7FC00000
    else
      let n := Nat.log2 m
      let frac := log2Bits 70 (m <<< (96 - n)) 0
      let r : Int := ((e + n) * 2 ^ 70) + frac
      let t := truncQuot r.natAbs 1 (-70)
      signed32 (decide (r < 0)) (pick (ulpChoices 2 t.1 (decide (frac = 0))) free)

/-- FTANH: within 2⁻²² of `tanh a`. -/
def ftanh (free : Nat) (a : W32) : W32 :=
  match decode32 a with
  | .nan => 0x7FC00000
  | .inf s => if s then 0xBF800000 else 0x3F800000
  | .fin s m e =>
    if m = 0 then a
    else
      -- |a| times 2^80, held below 32
      let x := min (truncMag m (e + 80)) (32 * 2 ^ 80)
      -- 2^(2|a| log2 e) = 2^(2|a| / ln 2)
      let z := 2 * x * 2 ^ 80 / ln2
      let big := exp2Frac (z % 2 ^ 80) <<< (z / 2 ^ 80)
      -- tanh = 1 − 2 / (exp + 1), times 2^80
      let th := 2 ^ 80 - 2 * 2 ^ 160 / (big + 2 ^ 80)
      let dev := free % (2 ^ 20 - 2 ^ 17)
      let lo := 2 ^ 80 + th * 1 - (2 ^ 19 - 2 ^ 16) * 2 ^ 39
      let v : Int := ((lo + dev * 2 ^ 39 : Nat) : Int) - 2 ^ 80
      encode32 (.fin (s != decide (v < 0)) v.natAbs (-80))

end Sys2Proof.Machine
end

