-- ==== Sys2Proof/Machine/Operands.lean ====
section
/-! DEFINITION. Crews and their operands: register reads and writes with poison (R69, R107), the form and range checks of
an instruction (R97 to R99), traps (R130 to R132), reconvergence (R78), event slots (R85, R86), and the issue of one
instruction by one crew. -/

namespace Sys2Proof.Machine

/-! Lanes and registers. -/

/-- Lane `l` is in the mask. -/
def lane (m : W32) (l : Nat) : Bool := m.getLsbD l

/-- The lanes of a mask, ascending. -/
def lanes (m : W32) : List Nat := (List.range 32).filter fun l => lane m l

/-- A mask of the lanes that satisfy a test. -/
def laneMask (p : Nat → Bool) : W32 :=
  BitVec.ofNat 32 ((List.range 32).foldl (fun m l => if p l then m + 2 ^ l else m) 0)

def Crew.readV (c : Crew) (l n : Nat) : VReg := SMap.get (fun _ => {}) c.v (64 * l + n)
def Crew.writeV (c : Crew) (l n : Nat) (x : VReg) : Crew :=
  { c with v := SMap.set (fun _ => {}) c.v (64 * l + n) x }
def Crew.readU (c : Crew) (n : Nat) : UReg := SMap.get (fun _ => {}) c.u n
def Crew.writeU (c : Crew) (n : Nat) (x : UReg) : Crew := { c with u := SMap.set (fun _ => {}) c.u n x }

/-- A predicate; p0 always reads 1 (R69). -/
def Crew.readP (c : Crew) (l n : Nat) : PReg :=
  if n = 0 then ⟨true, false⟩ else SMap.get (fun _ => {}) c.p (8 * l + n)

/-- Write a predicate; writes to p0 are ignored (R69). -/
def Crew.writeP (c : Crew) (l n : Nat) (x : PReg) : Crew :=
  if n = 0 then c else { c with p := SMap.set (fun _ => {}) c.p (8 * l + n) x }

/-- The guard of a lane: the predicate after the negate bit (R77). -/
def Crew.guardOf (c : Crew) (f : Short) (l : Nat) : Bool := (c.readP l f.pred.toNat).val != f.pneg

/-- The strands that execute a guarded instruction: active with a true guard (R77). -/
def Crew.executing (c : Crew) (f : Short) : W32 := laneMask fun l => lane c.active l && c.guardOf f l

/-- Active strands whose guard is poisoned (R107). -/
def Crew.badGuard (c : Crew) (f : Short) : W32 :=
  laneMask fun l => lane c.active l && (c.readP l f.pred.toNat).poison

/-! Reconvergence (R78). -/

/-- Take the reconvergence steps that the path now at `pc` with no or some active strands has reached.  Returns the new
PC, active mask and stack. -/
def reconverge : List Reconv → Nat → W32 → Nat × W32 × List Reconv
  | [], pc, act => (pc, act, [])
  | e :: es, pc, act =>
    if act = 0 then
      -- every strand of this path has ended: the other path, or the strands that wait, go on
      if e.second then reconverge es e.reconv e.mask else (e.fall, e.mask, es)
    else if pc = e.reconv then
      if e.second then reconverge es pc (act ||| e.mask)
      else
        -- the entry is popped; the others run from the fall-through address to the same point
        if e.fall = e.reconv then reconverge es pc (act ||| e.mask)
        else (e.fall, e.mask, { e with mask := act, second := true } :: es)
    else (pc, act, e :: es)

/-- The crew at `pc`, after any reconvergence. -/
def Crew.goto (c : Crew) (pc : Nat) : Crew :=
  let r := reconverge c.stack pc c.active
  { c with pc := r.1, active := r.2.1, stack := r.2.2 }

/-- A PC moved by a signed number of words; an address outside the instruction store traps at the fetch (R68). -/
def pcPlus (pc : Nat) (d : Int) : Nat := (((pc : Int) + d) % 65536).toNat

/-- Entries that count toward the depth of 16 (R79). -/
def Crew.depth (c : Crew) : Nat := (c.stack.filter fun e => !e.second).length

/-! The bay's crews. -/

def Bay.crew (b : Bay) (slot : Nat) : Option Crew := SMap.get (fun _ => none) b.crews slot
def Bay.setCrew (b : Bay) (slot : Nat) (c : Option Crew) : Bay :=
  { b with crews := SMap.set (fun _ => none) b.crews slot c }
def State.crew (s : State) (bay slot : Nat) : Option Crew := (s.bay bay).crew slot
def State.modBay (s : State) (bay : Nat) (f : Bay → Bay) : State := s.setBay bay (f (s.bay bay))
def State.setCrew (s : State) (bay slot : Nat) (c : Crew) : State := s.modBay bay (·.setCrew slot (some c))
/-- Change a crew: a resident one by its slot, a saved one by its token, 256 or more (R385). -/
def State.modCrew (s : State) (bay slot : Nat) (f : Crew → Crew) : State :=
  if 256 ≤ slot then
    { s with dev := { s.dev with saved := s.dev.saved.map fun x =>
        if x.token = slot then { x with crew := f x.crew } else x } }
  else match s.crew bay slot with
    | none => s
    | some c => s.setCrew bay slot (f c)

/-- Resident crews with their slots, ascending. -/
def Bay.resident (b : Bay) : List (Nat × Crew) := b.crews.filterMap fun e => e.2.map fun c => (e.1, c)

/-- Park or go on once `ready` holds. -/
def Crew.wakeIf (c : Crew) (ready : Bool) : Crew := if ready then { c with park := .running } else c

/-- An event wait is satisfied: counter minus target, signed, is at or above zero (R85). -/
def waitMet (counter target : W32) : Bool := decide (0 ≤ (counter - target).toInt)

/-- The crew after slot `n` is re-evaluated (R86): one parked on it whose wait is satisfied goes on, and may then read the
staged spans whose event it is (R84). -/
def Bay.woken (b : Bay) (n : Nat) (c : Crew) : Crew :=
  match c.park with
  | .event slot target =>
    if slot = n ∧ waitMet (SMap.get (fun _ => {}) b.events n).data target = true then
      let seen := (List.range 8).filter fun k =>
        match SMap.get (fun _ => none) b.spans k with
        | some sp => sp.done && sp.slot == some n
        | none => false
      { c with park := .running, spansSeen := c.spansSeen ++ seen }
    else c
  | _ => c

/-- Re-evaluate every crew parked on slot `n` (R86). -/
def Bay.wakeSlot (b : Bay) (n : Nat) : Bay :=
  { b with crews := b.crews.map fun e => (e.1, e.2.map (b.woken n)) }

/-- Write event slot `n` and wake its waiters in the same evaluation (R85, R86). -/
def Bay.setEvent (b : Bay) (n : Nat) (x : PWord) : Bay :=
  { b with events := SMap.set (fun _ => {}) b.events n x }.wakeSlot n

/-- Signal event slot `n` by `k` (R87). -/
def Bay.signal (b : Bay) (n : Nat) (k : W32) : Bay :=
  let x := SMap.get (fun _ => {}) b.events n
  b.setEvent n { x with data := x.data + k }

/-- Signal the slot a completing operation names, if any, by 1 (R87). -/
def Bay.signalOpt (b : Bay) : Option Nat → Bay
  | none => b
  | some n => b.signal n 1

/-- A crew that waits for its outstanding operations goes on once none is left (R81). -/
def Crew.drained (c : Crew) : Crew := if c.ops = [] ∧ c.park = .drain then { c with park := .running } else c

/-! Traps (R130 to R133). -/

/-- The trap causes (R131). -/
def trapIllegalOpcode : Nat := 0x01
def trapBadOperand : Nat := 0x02
def trapRegRange : Nat := 0x03
def trapReconvOverflow : Nat := 0x04
def trapIfetchRange : Nat := 0x05
def trapMisaligned : Nat := 0x06
def trapLocalRange : Nat := 0x07
def trapDeviceRange : Nat := 0x08
def trapPanelRetired : Nat := 0x09
def trapDescriptorInvalid : Nat := 0x0A
def trapTentViolation : Nat := 0x0B
def trapPoisonedControl : Nat := 0x0C
def trapIfetchEcc : Nat := 0x0D
def trapRemoteFault : Nat := 0x0E
def trapSoftware : Nat := 0x0F
def trapBreakpoint : Nat := 0x10

/-- A trap stops the crew and sends its record to the trap queue of the die's ranger cores (R130, R132, R133). -/
def State.trap (s : State) (bay slot pc cause : Nat) (lns : W32) (detail : W64) : State :=
  let isl := s.bayIsland bay
  let (st, s) := s.originate isl
  let r : TrapRec := ⟨st, pc, cause, slot, lns, detail, bay⟩
  let s := (s.modCrew bay slot fun c => { c with trapped := true }).modBay bay fun b =>
    { b with trapCount := min (b.trapCount + 1) (2 ^ 32 - 1), trapCause := cause, trapSlot := slot, trapPc := pc }
  let s : State := { s with dev := { s.dev with
    traps := SMap.mod (fun _ => []) s.dev.traps (bay / 64) (· ++ [r]) } }
  (s.bayEvent bay 0x00C).trace isl 0x33 ((s.bay bay).tent.getD 0xFF) cause pc

/-! The form of an instruction (R96 to R99). -/

/-- What a register field names (R97). -/
inductive OpKind where
  /-- Unused: the field must be zero. -/
  | none
  /-- A `v` register, or the first of a group of `n`. -/
  | v (n : Nat)
  | u
  | p
  /-- Ignored, whatever it holds. -/
  | any
  deriving DecidableEq, Repr

/-- The operands of an instruction: what its fields name, which FUNC bits it uses, whether it takes a guard, and whether
a second word follows. -/
structure OpForm where
  dst : OpKind := .none
  a : OpKind := .none
  b : OpKind := .none
  c : OpKind := .none
  func : Nat := 0
  guarded : Bool := false
  long : Bool := false
  /-- The destination is also a source. -/
  dstRead : Bool := false
  deriving DecidableEq, Repr

/-- A field holds a value its kind admits; a register group is aligned (R97, R108). -/
def OpKind.fits (k : OpKind) (x : Nat) : Bool :=
  match k with
  | .none => x == 0
  | .v n => x % n == 0
  | .u => decide (x < 16)
  | .p => decide (x < 8)
  | .any => true

/-- A `v` operand lies below the declared register count (R69). -/
def OpKind.inRange (k : OpKind) (x count : Nat) : Bool :=
  match k with
  | .v n => decide (x + n ≤ count)
  | _ => true

/-- Every field is well formed: unused fields and FUNC bits are zero, and a guard stands only where R98 admits one. -/
def OpForm.wellFormed (k : OpForm) (f : Short) : Bool :=
  k.dst.fits f.dst.toNat && k.a.fits f.srca.toNat && k.b.fits f.srcb.toNat && k.c.fits f.srcc.toNat &&
    (f.func.toNat &&& k.func == f.func.toNat) && (k.guarded || (f.pred == 0 && !f.pneg))

/-- Every `v` operand lies below the declared register count. -/
def OpForm.inRange (k : OpForm) (f : Short) (count : Nat) : Bool :=
  k.dst.inRange f.dst.toNat count && k.a.inRange f.srca.toNat count && k.b.inRange f.srcb.toNat count &&
    k.c.inRange f.srcc.toNat count

/-- The `v` registers a source field reads. -/
def OpKind.regs (k : OpKind) (x : Nat) : List Nat :=
  match k with
  | .v n => (List.range n).map (x + ·)
  | _ => []

/-- The outstanding operation, if any, that has yet to fill a register the instruction reads (R81). -/
def Crew.pendingFor (c : Crew) (k : OpForm) (f : Short) : Option Nat :=
  let srcs := k.a.regs f.srca.toNat ++ k.b.regs f.srcb.toNat ++ k.c.regs f.srcc.toNat ++
    (if k.dstRead then k.dst.regs f.dst.toNat else [])
  (c.ops.find? fun o => o.regs.any fun r => srcs.contains (r.1 % 64)).map (·.id)

/-- The crew can issue now (R75): resident, not parked, held, trapped or ended, and past any YIELD. -/
def State.canIssue (s : State) (bay : Nat) (c : Crew) : Bool :=
  !s.blocked (s.bayIsland bay) && !(s.bay bay).gated && decide (c.park = .running) && !c.trapped && c.held.isNone &&
    !c.exiting && decide (c.notBefore ≤ s.copy (s.bayIsland bay))

/-- The word of the instruction store at a PC, and whether it reads as uncorrectable. -/
def Bay.fetch (b : Bay) (pc : Nat) : W64 × Bool :=
  (SMap.get (fun _ => 0) b.istore pc, SMap.get (fun _ => false) b.istoreBad pc)

/-- A queued DMA form writes the instruction-store word and is not complete (R68): LOCAL_SPACE 2, DMA.LOAD, DMA.COPY or
DMA.FILL. -/
def LongForm.writesWord (d : LongForm) (pc : Nat) : Bool :=
  (d.op == 0x90 || d.op == 0x92 || d.op == 0x95) && getBits d.w2 12 2 == 2 &&
    decide (d.a.toNat ≤ 8 * pc) && decide (8 * pc < d.a.toNat + getBits d.w2 32 23)

/-- An unfinished DMA of the bay writes the word. -/
def Bay.writingWord (b : Bay) (pc : Nat) : Bool :=
  b.dma.any fun e => e.2.queue.any (·.writesWord pc)

/-- The crew's fetch at its PC (R68, R96, R100) takes the instruction of opcode `op` with fields `f`, and second word `w2` for a
long form: no other instruction's command concerns it (log entry 6).  A word that reads as uncorrectable, or a PC outside the
store, traps whatever it holds; a word that a DMA has not finished writing is ILLEGAL_OPCODE's concern. -/
def State.fetches (s : State) (bay slot op : Nat) (f : Short) (w2 : Option W64) : Bool :=
  match s.crew bay slot with
  | none => true
  | some c =>
    let w := (s.bay bay).fetch c.pc
    decide (32767 < c.pc) || (!(s.bay bay).writingWord c.pc && (w.2 || w.1 == f.word op &&
      (match w2 with
        | none => true
        | some x => c.pc == 32767 || ((s.bay bay).fetch (c.pc + 1)).2 || ((s.bay bay).fetch (c.pc + 1)).1 == x)))

/-- Earlier device-range accesses of the crew are not all performed: one is held for its panel, or waits for another
package (R91). -/
def State.deviceBusy (s : State) (bay slot : Nat) (c : Crew) : Bool :=
  (c.ops.any fun o => !o.fence && !o.ready) || s.dev.mem.held.any fun a => a.bay == bay && a.slot == slot

/-- An outstanding operation can land now. -/
def State.opReady (s : State) (bay slot : Nat) (c : Crew) (o : LongOp) : Bool :=
  if o.fence then !s.deviceBusy bay slot c else o.ready

/-- A freeze holds replies in the bay's receiving couplers (R57). -/
def State.heldLanding (s : State) (bay : Nat) : Bool := s.blocked (s.bayIsland bay)

/-- The crew advances past the instruction. -/
def Crew.advance (c : Crew) (k : OpForm) : Crew := c.goto (c.pc + (if k.long then 2 else 1))

/-- Fetch the instruction word with its check (R489): whether it reads as uncorrectable. -/
def State.fetchCheck (s : State) (bay pc : Nat) : Bool × State :=
  let b := s.bay bay
  let w : W64 := SMap.get (fun _ => 0) b.istore pc
  let (x, s) := s.checkWord (s.bayIsland bay) 0x0300 5 pc 0
    ⟨w.truncate 32, SMap.get (fun _ => false) b.istoreBad pc⟩
  (x.poison, s)

/-- Read the first source register of the lowest executing lane with its check: an injected error that cannot be
corrected leaves the register poisoned (R489, R499). -/
def State.regCheck (s : State) (bay slot : Nat) (f : Short) (k : OpForm) (c : Crew) : Crew × State :=
  match k.a.regs f.srca.toNat, lanes c.active with
  | n :: _, l :: _ =>
    let r := c.readV l n
    let (x, s) := s.checkWord (s.bayIsland bay) 0x0200 4 (slot * 2048 + 64 * l + n) 0 ⟨r.val, r.poison⟩
    (if x.poison = r.poison then c else c.writeV l n ⟨r.val, x.poison⟩, s)
  | _, _ => (c, s)

/-- One crew issues one instruction: the checks that every instruction passes, each with its precise trap, then `body`
with the crew and the lanes that execute.  A crew that cannot issue changes nothing (log entry 6). -/
def State.issue (s : State) (bay slot : Nat) (f : Short) (k : OpForm) (body : Crew → W32 → State → State) : State :=
  match s.crew bay slot with
  | none => s
  | some c =>
    if !s.canIssue bay c then s
    else if c.pc > 32767 ∨ (k.long = true ∧ c.pc = 32767) then
      s.trap bay slot c.pc trapIfetchRange c.active 0
    else
      let (bad, s) := s.fetchCheck bay c.pc
      if bad then s.trap bay slot c.pc trapIfetchEcc c.active 0
      else if !k.wellFormed f then s.trap bay slot c.pc trapBadOperand c.active 0
      else if !k.inRange f c.count then s.trap bay slot c.pc trapRegRange c.active 0
      else if k.guarded = true ∧ c.badGuard f ≠ 0 then
        s.trap bay slot c.pc trapPoisonedControl (c.badGuard f) 0
      else match c.pendingFor k f with
        | some id => (s.setCrew bay slot { c with park := .operand id }).bayEvent bay 0x004
        | none =>
          let (c, s) := s.regCheck bay slot f k c
          let s := (s.bayEvent bay 0x001).busy (engStrand bay)
          body c (if k.guarded then c.executing f else c.active) s

/-- A body that traps for a whole instruction. -/
def State.trapAll (s : State) (bay slot : Nat) (c : Crew) (cause : Nat) (detail : W64 := 0) : State :=
  s.trap bay slot c.pc cause c.active detail

/-- A free value for each lane of one instruction, and the state past them. -/
def State.laneFree (s : State) (l : Nat) : Nat := Config.freeValue (s.free + l)
def State.skipFree (s : State) : State := { s with free := s.free + 32 }

/-- Write one result per executing lane. -/
def Crew.writeLanes (c : Crew) (ex : W32) (n : Nat) (g : Nat → VReg) : Crew :=
  (lanes ex).foldl (fun d l => d.writeV l n (g l)) c

/-- Write one predicate per executing lane. -/
def Crew.writePreds (c : Crew) (ex : W32) (n : Nat) (g : Nat → PReg) : Crew :=
  (lanes ex).foldl (fun d l => d.writeP l n (g l)) c

/-- A strand operation with one `v` result: `g` gives it from the crew as it stood, lane by lane. -/
def State.strand (s : State) (bay slot : Nat) (f : Short) (k : OpForm)
    (bad : Crew → Bool) (g : State → Crew → Nat → VReg) : State :=
  s.issue bay slot f { k with guarded := true, dst := .v 1 } fun c ex s =>
    if bad c then s.trapAll bay slot c trapBadOperand
    else s.setCrew bay slot ((c.writeLanes ex f.dst.toNat (g s c)).advance k)

/-- A two-source strand operation on `v` registers with no variant the checks must see. -/
def State.alu2 (s : State) (bay slot : Nat) (f : Short) (mask : Nat) (op : W32 → W32 → W32) : State :=
  s.strand bay slot f { a := .v 1, b := .v 1, func := mask } (fun _ => false) fun _ c l =>
    let a := c.readV l f.srca.toNat
    let b := c.readV l f.srcb.toNat
    ⟨op a.val b.val, a.poison || b.poison⟩

/-- A three-source strand operation. -/
def State.alu3 (s : State) (bay slot : Nat) (f : Short) (op : W32 → W32 → W32 → W32) : State :=
  s.strand bay slot f { a := .v 1, b := .v 1, c := .v 1 } (fun _ => false) fun _ c l =>
    let a := c.readV l f.srca.toNat
    let b := c.readV l f.srcb.toNat
    let d := c.readV l f.srcc.toNat
    ⟨op a.val b.val d.val, a.poison || b.poison || d.poison⟩

/-- A one-source strand operation. -/
def State.alu1 (s : State) (bay slot : Nat) (f : Short) (mask : Nat) (op : W32 → W32) : State :=
  s.strand bay slot f { a := .v 1, func := mask } (fun _ => false) fun _ c l =>
    let a := c.readV l f.srca.toNat
    ⟨op a.val, a.poison⟩

/-- A one-source approximation, whose result a free value picks within its bound (R104). -/
def State.approx (s : State) (bay slot : Nat) (f : Short) (op : Nat → W32 → W32) : State :=
  (s.strand bay slot f { a := .v 1 } (fun _ => false) fun s c l =>
    let a := c.readV l f.srca.toNat
    ⟨op (s.laneFree l) a.val, a.poison⟩).skipFree

/-- A crew-uniform operation with a `u` result: it executes once if a strand is active (R70). -/
def State.uniform (s : State) (bay slot : Nat) (f : Short) (k : OpForm) (g : Crew → UReg) : State :=
  s.issue bay slot f { k with dst := .u } fun c _ s =>
    s.setCrew bay slot ((if c.active = 0 then c else c.writeU f.dst.toNat (g c)).advance k)

/-- The immediate of FUNC, sign-extended from bit 27 (R97). -/
def imm32 (f : Short) : W32 := f.func.signExtend 32
def imm64 (f : Short) : W64 := f.func.signExtend 64

end Sys2Proof.Machine
end

