-- ==== Sys2Proof/Machine/DevMem.lean ====
section
/-! DEFINITION. The device range (R239, R244, R245, R249, R266): panel entries, HBM addresses, reads and writes, and
accesses held while their panel is brought in. -/

namespace Sys2Proof.Machine

/-! Panel tables. -/

def State.modMem (s : State) (f : MemSt → MemSt) : State := { s with dev := { s.dev with mem := f s.dev.mem } }
def State.table (s : State) (t : Nat) : PanelTable := SMap.get (fun _ => {}) s.dev.mem.tables t
def State.setTable (s : State) (t : Nat) (x : PanelTable) : State :=
  s.modMem fun m => { m with tables := SMap.set (fun _ => {}) m.tables t x }
def State.panel (s : State) (t v : Nat) : Panel := SMap.get (fun _ => {}) (s.table t).panels v
def State.setPanel (s : State) (t v : Nat) (p : Panel) : State :=
  let x := s.table t
  s.setTable t { x with panels := SMap.set (fun _ => {}) x.panels v p }

/-- The tent has a panel table that serves accesses: VALID, and not RETAINED awaiting reattachment (R240, R243). -/
def State.tableServes (s : State) (t : Nat) : Bool :=
  decide (t < 64) && s.flag (rMemPanelTableBase t) fMemPanelTableBaseValid &&
    !s.flag (rMemPanelTableBase t) fMemPanelTableBaseRetained

/-- One past the last device-range address the tent may use (R239). -/
def State.rangeEnd (s : State) (t : Nat) : Nat :=
  2 ^ s.fld (rMemPanelTableBase t) fMemPanelTableBaseRangeLog2

/-- The tent's stack mask and interleaving (TENT_HBM). -/
def State.tentStacks (s : State) (t : Nat) : Nat := s.fld (rTentHbm t) fTentHbmStacks
def State.tentInterleave (s : State) (t : Nat) : Bool := s.flag (rTentHbm t) fTentHbmInterleave

/-- The HBM physical address of byte `off` of a physical panel (R249). -/
def hbmAddress (stackMask : Nat) (interleave : Bool) (p off : Nat) : Nat :=
  let σ := p / 2 ^ 20
  let slot := p % 2 ^ 20
  let g := off / 4096
  let set := bitList 12 stackMask
  let σ' := if interleave then set.getD ((set.findIdx (· == σ) + g) % set.length) σ else σ
  2 ^ 36 * σ' + 4096 * (16 * slot + g) + off % 4096

/-- The HBM physical address of a device-range address whose panel holds a physical panel. -/
def State.physAddr (s : State) (t a : Nat) : Nat :=
  hbmAddress (s.tentStacks t) (s.tentInterleave t) (s.panel t (a / 65536)).hbm (a % 65536)

/-- How an access to a panel is served (R245). -/
inductive Served where
  /-- From HBM. -/
  | hbm
  /-- Held: FLASH, MIGRATING_IN, or a closed MIGRATING_OUT panel. -/
  | wait
  /-- Fault under R239. -/
  | invalid
  /-- PANEL_RETIRED. -/
  | retired
  deriving DecidableEq, Repr

/-- The panel's write-back has closed it at the HBM controllers (R267). -/
def State.closed (s : State) (t v : Nat) : Bool :=
  s.dev.mem.mig.any fun e => e.2.flight.any fun m => m.out && m.tent == t && m.panel == v && m.commit.isSome

/-- How `n` bytes from device-range address `a` of a tent are served; the bytes lie in one panel. -/
def State.served (s : State) (t a n : Nat) : Served :=
  if !s.tableServes t ∨ s.rangeEnd t < a + n then .invalid
  else
    let st := (s.panel t (a / 65536)).state
    if st = 1 then .hbm
    else if st = 2 ∨ st = 3 then .wait
    else if st = 4 then (if s.closed t (a / 65536) then .wait else .hbm)
    else if st = 5 then .retired
    else .invalid

/-- Every panel that `n` bytes from `a` touch, with its serving; the worst decides. -/
def State.servedSpan (s : State) (t a n : Nat) : Served :=
  if n = 0 then .hbm
  else
    let vs := (List.range ((a + n - 1) / 65536 - a / 65536 + 1)).map fun i =>
      s.served t (max a (65536 * (a / 65536 + i))) 1
    if s.rangeEnd t < a + n ∨ vs.contains .invalid then .invalid
    else if vs.contains .retired then .retired
    else if vs.contains .wait then .wait
    else .hbm

/-- The first address of a span whose panel has to be brought in. -/
def State.firstWait (s : State) (t a n : Nat) : Nat :=
  (((List.range ((a + n - 1) / 65536 - a / 65536 + 1)).map fun i => max a (65536 * (a / 65536 + i))).find? fun x =>
    s.served t x 1 == .wait).getD a

/-! Reading and writing HBM. -/

/-- Read one aligned HBM word with its check (R484, R487): a corrected word is rewritten, an uncorrectable one is
delivered poisoned and stays. -/
def State.hbmWord (s : State) (pa : Nat) : PWord × State :=
  let w : PWord := ⟨BitVec.ofNat 32 (s.dev.mem.hbm.num (4 * (pa / 4)) 4), s.dev.mem.hbm.bad (pa / 4)⟩
  let flips := SMap.get (fun _ => 0) s.dev.mem.flips (pa / 4)
  let (w', s') := s.checkWord (islStack (pa / 2 ^ 36)) 0x0700 1 (4 * (pa / 4)) flips w
  if flips ≠ 0 ∧ w'.poison = false then
    (w', s'.modMem fun m => { m with flips := SMap.set (fun _ => 0) m.flips (pa / 4) 0 })
  else (w', s')

/-- Mark a panel accessed, or written in one granule (R244, R245). -/
def State.touch (s : State) (t a : Nat) (write : Bool) : State :=
  let p := s.panel t (a / 65536)
  let g := a % 65536 / 4096
  s.setPanel t (a / 65536) { p with
    accessed := true, dirty := if write then p.dirty ||| BitVec.ofNat 16 (2 ^ g) else p.dirty }

/-- Read `n` aligned words of a tent's device range that is served from HBM. -/
def State.devWords (s : State) (t : Nat) : Nat → Nat → List PWord × State
  | _, 0 => ([], s)
  | a, n + 1 =>
    let (w, s) := s.hbmWord (s.physAddr t a)
    let (ws, s) := State.devWords s t (a + 4) n
    (w :: ws, s)

/-- The bytes of words, and whether any is poisoned. -/
def wordBytes (ws : List PWord) : List Byte := ws.flatMap fun w => leBytes 4 w.data.toNat

/-- Read `n` bytes of a tent's device range that is served from HBM: the bytes, whether any word of them is poisoned,
and the state with the panels touched. -/
def State.devRead (s : State) (t a n : Nat) : List Byte × Bool × State :=
  if n = 0 then ([], false, s)
  else
    let k := (a + n - 1) / 4 - a / 4 + 1
    let (ws, s) := s.devWords t (4 * (a / 4)) k
    let s := (List.range ((a + n - 1) / 65536 - a / 65536 + 1)).foldl
      (fun s i => s.touch t (65536 * (a / 65536 + i)) false) s
    (((wordBytes ws).drop (a % 4)).take n, ws.any (·.poison), s)

/-- Read-through (R245): the bytes and poison without touching panel or counters. -/
def State.devPeek (s : State) (t a n : Nat) : List Byte × Bool :=
  ((List.range n).map (fun i => s.dev.mem.hbm.byte (s.physAddr t (a + i))),
    n != 0 && (List.range ((a + n - 1) / 4 - a / 4 + 1)).any fun i =>
      s.dev.mem.hbm.bad (s.physAddr t (4 * (a / 4 + i)) / 4))

/-- Write bytes that lie in one granule. -/
def State.devWriteIn (s : State) (t a : Nat) (bs : List Byte) (bad : Bool) : State :=
  let pa := s.physAddr t a
  (s.modMem fun m =>
    { m with hbm := m.hbm.write pa bs bad
             flips := (List.range ((pa % 4 + bs.length + 3) / 4)).foldl
               (fun fl i => SMap.set (fun _ => 0) fl (pa / 4 + i) 0) m.flips }).touch t a true

/-- Write bytes of a tent's device range that is served from HBM, granule by granule. -/
def State.devWriteFrom (s : State) (t : Nat) (bad : Bool) : Nat → Nat → List Byte → State
  | 0, _, _ => s
  | fuel + 1, a, bs =>
    if bs = [] then s
    else
      let k := 4096 - a % 4096
      State.devWriteFrom (s.devWriteIn t a (bs.take k) bad) t bad fuel (a + k) (bs.drop k)

/-- Write bytes of a tent's device range that is served from HBM. -/
def State.devWrite (s : State) (t a : Nat) (bs : List Byte) (bad : Bool := false) : State :=
  s.devWriteFrom t bad (bs.length / 4096 + 2) a bs

/-! Held accesses. -/

/-- The migration engine of a panel: that of its granule 0's stack; a panel without a physical one belongs to the engine
of the tent's lowest stack (R265). -/
def State.engineOf (s : State) (t v : Nat) : Nat :=
  let p := s.panel t v
  if p.state = 1 ∨ p.state = 3 ∨ p.state = 4 then p.hbm / 2 ^ 20 / 2
  else (bitList 12 (s.tentStacks t)).headD 0 / 2

def State.mig (s : State) (m : Nat) : MigEngine := SMap.get (fun _ => {}) s.dev.mem.mig m
def State.setMig (s : State) (m : Nat) (x : MigEngine) : State :=
  s.modMem fun y => { y with mig := SMap.set (fun _ => {}) y.mig m x }

/-- An inbound migration of the panel is queued or in flight already (R266). -/
def State.inboundPending (s : State) (t v : Nat) : Bool :=
  s.dev.mem.mig.any fun e => (e.2.queue ++ e.2.flight).any fun m => !m.out && m.tent == t && m.panel == v

/-- Queue a migration request; a full queue takes it once an entry frees (R265). -/
def State.queueMigration (s : State) (m : Migration) : State :=
  let e := s.engineOf m.tent m.panel
  let x := s.mig e
  s.setMig e { x with queue := x.queue ++ [m] }

/-- Start bringing in a FLASH panel for an access or a hint, unless one is on its way (R265, R266). -/
def State.requestInbound (s : State) (t v : Nat) (st : Stamp) (demand : Bool) : State :=
  if s.inboundPending t v ∨ (s.panel t v).state ≠ 2 then s
  else s.queueMigration { tent := t, panel := v, demand := demand, stamp := st }

/-- Hold an access until its panel is served (R245, R266). -/
def State.hold (s : State) (a : Access) : State :=
  (s.modMem fun m => { m with held := m.held ++ [a] }).requestInbound a.tent (a.addr / 65536) a.stamp true

/-! Performing an access. -/

/-- Sign-extend the low `8 * n` bits of a number to 32 bits. -/
def signExt (n x : Nat) : Nat :=
  if n < 4 ∧ x.testBit (8 * n - 1) then x + (2 ^ 32 - 2 ^ (8 * n)) else x

/-- The `v` registers a value of `size` bytes fills from register key `d`. -/
def fillRegs (d size : Nat) (signed : Bool) (x : Nat) (bad : Bool) : List (Nat × VReg) :=
  if size ≤ 4 then [(d, ⟨BitVec.ofNat 32 (if signed then signExt size x else x), bad⟩)]
  else (List.range (size / 4)).map fun i => (d + i, ⟨BitVec.ofNat 32 (x / 2 ^ (32 * i)), bad⟩)

/-- The new value of an atomic (R110) on `w` bits. -/
def atomNew (op w old x cmp : Nat) : Nat :=
  let o := BitVec.ofNat w old
  let v := BitVec.ofNat w x
  if op = 0 then (o + v).toNat
  else if op = 1 then (if v.slt o then v.toNat else o.toNat)
  else if op = 2 then min o.toNat v.toNat
  else if op = 3 then (if o.slt v then v.toNat else o.toNat)
  else if op = 4 then max o.toNat v.toNat
  else if op = 5 then (o &&& v).toNat
  else if op = 6 then (o ||| v).toNat
  else if op = 7 then (o ^^^ v).toNat
  else if op = 8 then v.toNat
  else if op = 9 then (if o.toNat = cmp % 2 ^ w then v.toNat else o.toNat)
  else (fadd (BitVec.ofNat 32 old) (BitVec.ofNat 32 x)).toNat

/-- What lands in the operation's registers. -/
def State.fillOp (s : State) (bay slot id : Nat) (rs : List (Nat × VReg)) : State :=
  s.modCrew bay slot fun c =>
    { c with ops := c.ops.map fun o => if o.id = id then { o with regs := o.regs.filter (fun r =>
      !rs.any fun q => q.1 == r.1) ++ rs } else o }

/-- Perform one lane's access on a panel served from HBM. -/
def State.perform (s : State) (a : Access) : State :=
  match a.op with
  | .load =>
    let (bs, bad, s) := s.devRead a.tent a.addr a.size
    match a.dest with
    | some d => s.fillOp a.bay a.slot a.opId (fillRegs d a.size a.signed (leNat bs) bad)
    | none => s
  | .store => s.devWrite a.tent a.addr (leBytes a.size a.data.toNat) a.poison
  | .atom op cmp =>
    let (bs, bad, s) := s.devRead a.tent a.addr a.size
    let old := leNat bs
    let s := s.devWrite a.tent a.addr
      (leBytes a.size (atomNew op (8 * a.size) old a.data.toNat cmp.toNat)) (bad || a.poison)
    match a.dest with
    | some d => s.fillOp a.bay a.slot a.opId (fillRegs d a.size false old bad)
    | none => s

/-- Merge lane `l`'s fault into an operation's deferred trap: the lowest faulting lane's cause stands, and the mask holds
every faulting lane (R130). -/
def LongOp.fault (o : LongOp) (cause l addr : Nat) : LongOp :=
  let bit := BitVec.ofNat 32 (2 ^ l)
  { o with trap := some (match o.trap with
      | some (k, m, d) =>
        if (lanes m).headD 32 ≤ l then (k, m ||| bit, d) else (cause, m ||| bit, BitVec.ofNat 64 addr)
      | none => (cause, bit, BitVec.ofNat 64 addr)) }

/-- A deferred trap lands instead of the operation's registers; a posted store has its fault reply land alone (R109,
R130). -/
def State.failOp (s : State) (bay slot id pc cause l addr : Nat) : State :=
  s.modCrew bay slot fun c =>
    if c.ops.any (·.id == id) then
      { c with ops := c.ops.map fun o => if o.id = id then o.fault cause l addr else o }
    else { c with ops := c.ops ++ [({ id := id, pc := pc, ready := true } : LongOp).fault cause l addr] }

/-- The lane of an access: that of the register it fills. -/
def Access.lane (a : Access) : Nat := (a.dest.getD 0) / 64

/-- Serve an access now, hold it, or fault (R109, R245). -/
def State.access (s : State) (a : Access) (l : Nat) : State :=
  match s.served a.tent a.addr a.size with
  | .hbm => s.perform a
  | .wait => s.hold a
  | .invalid => s.failOp a.bay a.slot a.opId a.pc trapDeviceRange l a.addr
  | .retired => s.failOp a.bay a.slot a.opId a.pc trapPanelRetired l a.addr

/-- An operation is ready to land once none of its accesses is held. -/
def State.markReady (s : State) (bay slot id : Nat) : State :=
  if s.dev.mem.held.any fun a => a.bay == bay && a.slot == slot && a.opId == id then s
  else s.modCrew bay slot fun c =>
    { c with ops := c.ops.map fun o => if o.id = id ∧ o.remote.isNone ∧ !o.fence then { o with ready := true } else o }

/-- Insert a held access in stamp order. -/
def insertAccess (a : Access) : List Access → List Access
  | [] => [a]
  | b :: bs => if a.stamp.key < b.stamp.key then a :: b :: bs else b :: insertAccess a bs

/-- Serve the accesses held for a panel, in stamp order, as its state now has it (R266, R267). -/
def State.serveHeld (s : State) (t v : Nat) (keep : Access → Bool := fun _ => false) : State :=
  let mine := s.dev.mem.held.filter fun a => a.tent == t && a.addr / 65536 == v && !keep a
  let rest := s.dev.mem.held.filter fun a => !(a.tent == t && a.addr / 65536 == v && !keep a)
  let s := s.modMem fun m => { m with held := rest }
  let s := (mine.foldr insertAccess []).foldl (fun s a => s.access a a.lane) s
  mine.foldl (fun s a => s.markReady a.bay a.slot a.opId) s

end Sys2Proof.Machine
end

