-- ==== Sys2Proof/Machine/StrandInt.lean ====
section
/-! DEFINITION. Strand integer and logic instructions, opcodes 0x00 to 0x1A (R102, R103). -/

namespace Sys2Proof.Machine

/-- IMULH: the high 32 bits of the signed or unsigned product. -/
def mulHigh (unsigned : Bool) (a b : W32) : W32 :=
  if unsigned then ((a.zeroExtend 64 * b.zeroExtend 64) >>> 32).truncate 32
  else ((a.signExtend 64 * b.signExtend 64) >>> 32).truncate 32

/-- Below, signed or unsigned. -/
def below (unsigned : Bool) (a b : W32) : Bool := if unsigned then a.ult b else a.slt b

/-- The order of two words, signed or unsigned. -/
def wordCmp (unsigned : Bool) (a b : W32) : Ordering :=
  if below unsigned a b then .lt else if below unsigned b a then .gt else .eq

/-- Number of ones. -/
def popcount (a : W32) : Nat := ((List.range 32).filter fun i => a.getLsbD i).length

/-- Leading zeros; 32 for zero. -/
def leadingZeros (a : W32) : Nat := if a = 0 then 32 else 31 - Nat.log2 a.toNat

/-- FUNC as a number, and one of its bits. -/
def fn (f : Short) : Nat := f.func.toNat
def fbit (f : Short) (i : Nat) : Bool := f.func.getLsbD i

/-- The field of BFE and BFI: position FUNC[4:0], width FUNC[10:5]. -/
def fieldLo (f : Short) : Nat := fn f % 32
def fieldWidth (f : Short) : Nat := fn f / 32 % 64

/-- The field is one of width 1 to 32 (R102). -/
def fieldOk (f : Short) : Bool := decide (1 ≤ fieldWidth f) && decide (fieldWidth f ≤ 32)

/-- The bits of the field that lie in the word. -/
def fieldIn (f : Short) : Bool := decide (fieldLo f + fieldWidth f ≤ 32)

/-- BFE of a field inside the word. -/
def extractField (f : Short) (a : W32) : W32 :=
  let x := a.toNat / 2 ^ fieldLo f % 2 ^ fieldWidth f
  if fbit f 11 && x.testBit (fieldWidth f - 1) then BitVec.ofInt 32 ((x : Int) - 2 ^ fieldWidth f)
  else BitVec.ofNat 32 x

/-- BFI of a field inside the word. -/
def insertField (f : Short) (a b : W32) : W32 :=
  BitVec.ofNat 32 (a.toNat % 2 ^ fieldLo f + b.toNat % 2 ^ fieldWidth f * 2 ^ fieldLo f +
    a.toNat / 2 ^ (fieldLo f + fieldWidth f) * 2 ^ (fieldLo f + fieldWidth f))

/-- A compare that writes a predicate: `op` gives it from the two words. -/
def State.setPred (s : State) (bay slot : Nat) (f : Short) (op : W32 → W32 → Bool) : State :=
  let k : OpForm := { dst := .p, a := .v 1, b := .v 1, func := 0xF, guarded := true }
  s.issue bay slot f k fun c ex s =>
    if 5 < fn f % 8 then s.trapAll bay slot c trapBadOperand
    else s.setCrew bay slot ((c.writePreds ex f.dst.toNat fun l =>
      let a := c.readV l f.srca.toNat
      let b := c.readV l f.srcb.toNat
      ⟨op a.val b.val, a.poison || b.poison⟩).advance k)

/-- The logic operations of PLOP: 0 AND, 1 OR, 2 XOR, 3 ANDN. -/
def predOp (k : Nat) (a b : Bool) : Bool :=
  if k = 0 then a && b else if k = 1 then a || b else if k = 2 then a != b else a && !b

/-- NOP (R102): no effect but the advance of the PC. -/
def execNop (bay slot : Nat) (f : Short) (s : State) : Host.Outcome State Fault Refusal :=
  if !s.fetches bay slot 0x00 f none then .next s else
  .next (s.issue bay slot f { guarded := true } fun c _ s => s.setCrew bay slot (c.advance {}))

/-- IADD (R102, R103): `a + b`, wrapping. -/
def execIadd (bay slot : Nat) (f : Short) (s : State) : Host.Outcome State Fault Refusal :=
  if !s.fetches bay slot 0x01 f none then .next s else
  .next (s.alu2 bay slot f 0 fun a b => a + b)

/-- ISUB (R102, R103): `a - b`, wrapping. -/
def execIsub (bay slot : Nat) (f : Short) (s : State) : Host.Outcome State Fault Refusal :=
  if !s.fetches bay slot 0x02 f none then .next s else
  .next (s.alu2 bay slot f 0 fun a b => a - b)

/-- IMUL (R102, R103): the low 32 bits of the product. -/
def execImul (bay slot : Nat) (f : Short) (s : State) : Host.Outcome State Fault Refusal :=
  if !s.fetches bay slot 0x03 f none then .next s else
  .next (s.alu2 bay slot f 0 fun a b => a * b)

/-- IMULH (R102, R103): the high 32 bits; FUNC[0] unsigned. -/
def execImulh (bay slot : Nat) (f : Short) (s : State) : Host.Outcome State Fault Refusal :=
  if !s.fetches bay slot 0x04 f none then .next s else
  .next (s.alu2 bay slot f 1 (mulHigh (fbit f 0)))

/-- IMAD (R102, R103): the low 32 bits of `a * b + c`. -/
def execImad (bay slot : Nat) (f : Short) (s : State) : Host.Outcome State Fault Refusal :=
  if !s.fetches bay slot 0x05 f none then .next s else
  .next (s.alu3 bay slot f fun a b c => a * b + c)

/-- IMIN (R102, R103): minimum; FUNC[0] unsigned. -/
def execImin (bay slot : Nat) (f : Short) (s : State) : Host.Outcome State Fault Refusal :=
  if !s.fetches bay slot 0x06 f none then .next s else
  .next (s.alu2 bay slot f 1 fun a b => if below (fbit f 0) b a then b else a)

/-- IMAX (R102, R103): maximum; FUNC[0] unsigned. -/
def execImax (bay slot : Nat) (f : Short) (s : State) : Host.Outcome State Fault Refusal :=
  if !s.fetches bay slot 0x07 f none then .next s else
  .next (s.alu2 bay slot f 1 fun a b => if below (fbit f 0) a b then b else a)

/-- AND (R102, R103): bitwise AND. -/
def execAnd (bay slot : Nat) (f : Short) (s : State) : Host.Outcome State Fault Refusal :=
  if !s.fetches bay slot 0x08 f none then .next s else
  .next (s.alu2 bay slot f 0 fun a b => a &&& b)

/-- OR (R102, R103): bitwise OR. -/
def execOr (bay slot : Nat) (f : Short) (s : State) : Host.Outcome State Fault Refusal :=
  if !s.fetches bay slot 0x09 f none then .next s else
  .next (s.alu2 bay slot f 0 fun a b => a ||| b)

/-- XOR (R102, R103): bitwise XOR. -/
def execXor (bay slot : Nat) (f : Short) (s : State) : Host.Outcome State Fault Refusal :=
  if !s.fetches bay slot 0x0A f none then .next s else
  .next (s.alu2 bay slot f 0 fun a b => a ^^^ b)

/-- ANDN (R102, R103): `a AND NOT b`. -/
def execAndn (bay slot : Nat) (f : Short) (s : State) : Host.Outcome State Fault Refusal :=
  if !s.fetches bay slot 0x0B f none then .next s else
  .next (s.alu2 bay slot f 0 fun a b => a &&& ~~~b)

/-- SHL (R102, R103): `a << (b mod 32)`. -/
def execShl (bay slot : Nat) (f : Short) (s : State) : Host.Outcome State Fault Refusal :=
  if !s.fetches bay slot 0x0C f none then .next s else
  .next (s.alu2 bay slot f 0 fun a b => a <<< (b.toNat % 32))

/-- SHR (R102, R103): `a >> (b mod 32)`; FUNC[0] arithmetic. -/
def execShr (bay slot : Nat) (f : Short) (s : State) : Host.Outcome State Fault Refusal :=
  if !s.fetches bay slot 0x0D f none then .next s else
  .next (s.alu2 bay slot f 1 fun a b => if fbit f 0 then a.sshiftRight (b.toNat % 32) else a >>> (b.toNat % 32))

/-- POPC (R102): number of ones. -/
def execPopc (bay slot : Nat) (f : Short) (s : State) : Host.Outcome State Fault Refusal :=
  if !s.fetches bay slot 0x0E f none then .next s else
  .next (s.alu1 bay slot f 0 fun a => BitVec.ofNat 32 (popcount a))

/-- CLZ (R102): leading zeros. -/
def execClz (bay slot : Nat) (f : Short) (s : State) : Host.Outcome State Fault Refusal :=
  if !s.fetches bay slot 0x0F f none then .next s else
  .next (s.alu1 bay slot f 0 fun a => BitVec.ofNat 32 (leadingZeros a))

/-- IADDI (R102, R97): `a` plus the sign-extended immediate. -/
def execIaddi (bay slot : Nat) (f : Short) (s : State) : Host.Outcome State Fault Refusal :=
  if !s.fetches bay slot 0x10 f none then .next s else
  .next (s.alu1 bay slot f 0xFFFFFFF fun a => a + imm32 f)

/-- MOVI (R102, R97): the sign-extended immediate. -/
def execMovi (bay slot : Nat) (f : Short) (s : State) : Host.Outcome State Fault Refusal :=
  if !s.fetches bay slot 0x11 f none then .next s else
  .next (s.strand bay slot f { func := 0xFFFFFFF } (fun _ => false) fun _ _ _ => ⟨imm32 f, false⟩)

/-- MOVHI (R102): FUNC[15:0] becomes the high half; the low half is kept. -/
def execMovhi (bay slot : Nat) (f : Short) (s : State) : Host.Outcome State Fault Refusal :=
  if !s.fetches bay slot 0x12 f none then .next s else
  .next (s.strand bay slot f { func := 0xFFFF, dstRead := true } (fun _ => false) fun _ c l =>
    let d := c.readV l f.dst.toNat
    ⟨BitVec.ofNat 32 (fn f % 65536 * 65536 + d.val.toNat % 65536), d.poison⟩)

/-- ISETP (R102): integer compare to a predicate; FUNC[3] unsigned. -/
def execIsetp (bay slot : Nat) (f : Short) (s : State) : Host.Outcome State Fault Refusal :=
  if !s.fetches bay slot 0x13 f none then .next s else
  .next (s.setPred bay slot f fun a b => cmpCode (fn f % 8) (wordCmp (fbit f 3) a b))

/-- SEL (R102): `a` if p(SRCC) else `b`; a poisoned source poisons the result, selected or not (R107). -/
def execSel (bay slot : Nat) (f : Short) (s : State) : Host.Outcome State Fault Refusal :=
  if !s.fetches bay slot 0x14 f none then .next s else
  .next (s.strand bay slot f { a := .v 1, b := .v 1, c := .p } (fun _ => false) fun _ c l =>
    let a := c.readV l f.srca.toNat
    let b := c.readV l f.srcb.toNat
    let p := c.readP l f.srcc.toNat
    let x := if p.val then a else b
    ⟨x.val, a.poison || b.poison || p.poison⟩)

/-- PLOP (R102): predicate logic. -/
def execPlop (bay slot : Nat) (f : Short) (s : State) : Host.Outcome State Fault Refusal :=
  if !s.fetches bay slot 0x15 f none then .next s else
  .next (let k : OpForm := { dst := .p, a := .p, b := .p, func := 3, guarded := true }
    s.issue bay slot f k fun c ex s => s.setCrew bay slot ((c.writePreds ex f.dst.toNat fun l =>
      let a := c.readP l f.srca.toNat
      let b := c.readP l f.srcb.toNat
      ⟨predOp (fn f % 4) a.val b.val, a.poison || b.poison⟩).advance k))

/-- SHFL (R102): register `a` of lane `b AND 31`, active or not. -/
def execShfl (bay slot : Nat) (f : Short) (s : State) : Host.Outcome State Fault Refusal :=
  if !s.fetches bay slot 0x16 f none then .next s else
  .next (s.strand bay slot f { a := .v 1, b := .v 1 } (fun _ => false) fun _ c l =>
    let b := c.readV l f.srcb.toNat
    let a := c.readV (b.val.toNat % 32) f.srca.toNat
    ⟨a.val, a.poison || b.poison⟩)

/-- VOTE (R102): the mask of executing strands whose p(SRCA) is 1. -/
def execVote (bay slot : Nat) (f : Short) (s : State) : Host.Outcome State Fault Refusal :=
  if !s.fetches bay slot 0x17 f none then .next s else
  .next (s.strand bay slot f { a := .p } (fun _ => false) fun _ c _ =>
    let ex := c.executing f
    ⟨laneMask fun i => lane ex i && (c.readP i f.srca.toNat).val, (lanes ex).any fun i => (c.readP i f.srca.toNat).poison⟩)

/-- BFE (R102): bit-field extract; a field that runs past bit 31 gives a free value (log entry 8). -/
def execBfe (bay slot : Nat) (f : Short) (s : State) : Host.Outcome State Fault Refusal :=
  if !s.fetches bay slot 0x18 f none then .next s else
  .next ((s.strand bay slot f { a := .v 1, func := 0xFFF } (fun _ => !fieldOk f) fun s c l =>
    let a := c.readV l f.srca.toNat
    ⟨if fieldIn f then extractField f a.val else BitVec.ofNat 32 (s.laneFree l), a.poison⟩).skipFree)

/-- BFI (R102): bit-field insert; a field that runs past bit 31 gives a free value (log entry 8). -/
def execBfi (bay slot : Nat) (f : Short) (s : State) : Host.Outcome State Fault Refusal :=
  if !s.fetches bay slot 0x19 f none then .next s else
  .next ((s.strand bay slot f { a := .v 1, b := .v 1, func := 0x7FF } (fun _ => !fieldOk f) fun s c l =>
    let a := c.readV l f.srca.toNat
    let b := c.readV l f.srcb.toNat
    ⟨if fieldIn f then insertField f a.val b.val else BitVec.ofNat 32 (s.laneFree l), a.poison || b.poison⟩).skipFree)

/-- MOVU (R102): the low or (FUNC[0]) high half of a `u` register. -/
def execMovu (bay slot : Nat) (f : Short) (s : State) : Host.Outcome State Fault Refusal :=
  if !s.fetches bay slot 0x1A f none then .next s else
  .next (s.strand bay slot f { a := .u, func := 1 } (fun _ => false) fun _ c _ =>
    let a := c.readU f.srca.toNat
    ⟨if fbit f 0 then (a.val >>> 32).truncate 32 else a.val.truncate 32, a.poison⟩)

end Sys2Proof.Machine
end

