-- ==== Sys2Proof/Machine/Flow.lean ====
section
/-! DEFINITION. Control flow and launch, opcodes 0x48 to 0x4E (R72, R74, R78, R102, R112, R113). -/

namespace Sys2Proof.Machine

/-- A signed field of FUNC of `w` bits at `lo`. -/
def sfield (f : Short) (lo w : Nat) : Int :=
  let x := fn f / 2 ^ lo % 2 ^ w
  if x < 2 ^ (w - 1) then x else (x : Int) - 2 ^ w

/-- The crew of a branch: alike for all active strands, or with an entry pushed (R78, R112). -/
def Crew.branch (c : Crew) (f : Short) (taken : W32) : Crew :=
  let target := pcPlus c.pc (sfield f 14 14)
  if taken = 0 then c.goto (c.pc + 1)
  else if taken = c.active then c.goto target
  else
    let e : Reconv := { reconv := c.pc + fn f % 2 ^ 14, fall := c.pc + 1, mask := c.active &&& ~~~taken }
    ({ c with active := taken, stack := e :: c.stack } : Crew).goto target

/-- BRA (R78, R79, R112): a divergent branch at a depth of 16 traps RECONV_OVERFLOW. -/
def execBra (bay slot : Nat) (f : Short) (s : State) : Host.Outcome State Fault Refusal :=
  if !s.fetches bay slot 0x48 f none then .next s else
  .next (s.issue bay slot f { func := 0xFFFFFFF, guarded := true } fun c ex s =>
    if ex ≠ 0 ∧ ex ≠ c.active ∧ 16 ≤ c.depth then s.trapAll bay slot c trapReconvOverflow
    else s.setCrew bay slot (c.branch f ex))

/-- Jump to the low 15 bits of a `u` register; a poisoned target traps (R107). -/
def State.jumpU (s : State) (bay slot : Nat) (f : Short) : State :=
  s.issue bay slot f { a := .u } fun c _ s =>
    let a := c.readU f.srca.toNat
    if a.poison then s.trapAll bay slot c trapPoisonedControl
    else s.setCrew bay slot (c.goto (a.val.toNat % 32768))

/-- JMPU (R102, R112). -/
def execJmpu (bay slot : Nat) (f : Short) (s : State) : Host.Outcome State Fault Refusal :=
  if !s.fetches bay slot 0x49 f none then .next s else
  .next (s.jumpU bay slot f)

/-- RET (R102, R112). -/
def execRet (bay slot : Nat) (f : Short) (s : State) : Host.Outcome State Fault Refusal :=
  if !s.fetches bay slot 0x4C f none then .next s else
  .next (s.jumpU bay slot f)

/-- LOOP (R102): decrement and branch while nonzero.  A poisoned counter decides the branch, so it traps (R107). -/
def execLoop (bay slot : Nat) (f : Short) (s : State) : Host.Outcome State Fault Refusal :=
  if !s.fetches bay slot 0x4A f none then .next s else
  .next (s.issue bay slot f { dst := .u, func := 0xFFFF, dstRead := true } fun c _ s =>
    let d := c.readU f.dst.toNat
    if d.poison then s.trapAll bay slot c trapPoisonedControl
    else
      let n := d.val - 1
      let c' := c.writeU f.dst.toNat ⟨n, false⟩
      s.setCrew bay slot (c'.goto (if n = 0 then c.pc + 1 else pcPlus c.pc (sfield f 0 16))))

/-- CALL (R102): the return address goes to `ud`. -/
def execCall (bay slot : Nat) (f : Short) (s : State) : Host.Outcome State Fault Refusal :=
  if !s.fetches bay slot 0x4B f none then .next s else
  .next (s.issue bay slot f { dst := .u, func := 0xFFFF } fun c _ s =>
    s.setCrew bay slot ((c.writeU f.dst.toNat ⟨BitVec.ofNat 64 (c.pc + 1), false⟩).goto
      (pcPlus c.pc (sfield f 0 16))))

/-- The crew once `ex` have ended: their path ends with its last strand, and the crew is ending once no path is left. -/
def Crew.exit (c : Crew) (ex : W32) : Crew :=
  let c' := { c with active := c.active &&& ~~~ex, ended := c.ended ||| ex }
  let c' := if c'.active = 0 then c'.goto c.pc else c'.goto (c.pc + 1)
  if c'.active = 0 then { c' with exiting := true, park := if c'.ops = [] then .running else .drain } else c'

/-- EXIT (R72): the guarded strands end; a crew with operations outstanding parks until they complete. -/
def execExit (bay slot : Nat) (f : Short) (s : State) : Host.Outcome State Fault Refusal :=
  if !s.fetches bay slot 0x4D f none then .next s else
  .next (s.issue bay slot f { guarded := true } fun c ex s => s.setCrew bay slot (c.exit ex))

/-- The launch descriptor in 136 bytes of a bay store (R113); `none` where a field is invalid. -/
def readLaunch (m : Store) (a request rank : Nat) : Option LaunchDesc :=
  let entry := m.num a 2
  let regs := m.num (a + 2) 1
  let flags := m.num (a + 3) 1
  if entry ≤ 32767 ∧ (regs = 8 ∨ regs = 16 ∨ regs = 32 ∨ regs = 64) ∧ flags ≤ 1 ∧ m.num (a + 5) 3 = 0 then
    some { entry := entry, count := regs
           endSlot := if flags = 1 then some (m.num (a + 4) 1) else none
           u := (List.range 16).map fun i =>
             ⟨BitVec.ofNat 64 (m.num (a + 8 + 8 * i) 8), m.poisoned (a + 8 + 8 * i) 8⟩
           request := request, rank := rank }
  else none

/-- Bytes of the bay store and of the accumulator store (R65). -/
def bayStoreSize : Nat := 0x400000
def accStoreSize : Nat := 0x100000

/-- Where the bay store ends for the crews of the bay's tent: below its save region (R384). -/
def State.bayEnd (s : State) (bay : Nat) : Nat :=
  match (s.bay bay).tent with
  | some t => bayStoreSize - 1024 * s.fld (rTentSave t) fTentSaveLocalKib
  | none => bayStoreSize

/-- LAUNCH (R74, R107, R113): queue the descriptor at bay store address `ua`; a full queue parks the crew until an entry
frees, and the instruction is issued again. -/
def execLaunch (bay slot : Nat) (f : Short) (s : State) : Host.Outcome State Fault Refusal :=
  if !s.fetches bay slot 0x4E f none then .next s else
  .next (s.issue bay slot f { a := .u } fun c _ s =>
    let a := c.readU f.srca.toNat
    let n := a.val.toNat
    let b := s.bay bay
    if a.poison then s.trapAll bay slot c trapPoisonedControl
    else if n % 8 ≠ 0 then s.trapAll bay slot c trapMisaligned a.val
    else if s.bayEnd bay < n + 136 then s.trapAll bay slot c trapLocalRange a.val
    else if b.store.poisoned n 8 then s.trapAll bay slot c trapPoisonedControl
    else match readLaunch b.store n c.request c.rank with
      | none => s.trapAll bay slot c trapDescriptorInvalid
      | some d =>
        if 16 ≤ b.launchq.length then (s.setCrew bay slot { c with park := .launch }).bayEvent bay 0x004
        else (s.modBay bay fun b => { b with launchq := b.launchq ++ [d] }).setCrew bay slot (c.advance {}))

end Sys2Proof.Machine
end

