-- ==== Sys2Proof/Machine/BayMem.lean ====
section
/-! DEFINITION. Bay store and device-range memory, opcodes 0x50 to 0x59 (R84, R108 to R111). -/

namespace Sys2Proof.Machine

/-! The M format (R108). -/

/-- Bytes of a size code; `none` where it is reserved. -/
def sizeBytes (code : Nat) : Option Nat :=
  if code = 0 ∨ code = 5 then some 1 else if code = 1 ∨ code = 6 then some 2 else if code = 2 then some 4
  else if code = 3 then some 8 else if code = 4 then some 16 else none

/-- The code's bytes, or 4. -/
def mBytes (f : Short) : Nat := (sizeBytes (fn f % 8)).getD 4

/-- Registers of the data group. -/
def mGroup (f : Short) : Nat := if mBytes f ≤ 4 then 1 else mBytes f / 4

/-- Form of an M-format instruction: a load names its data in DST, a store in SRCC; NOIDX ignores the index. -/
def mForm (f : Short) (store : Bool) : OpForm :=
  { dst := if store then .none else .v (mGroup f), a := .u, b := if fbit f 3 then .any else .v 1
    c := if store then .v (mGroup f) else .none, func := 0xFFFFFFF, guarded := true }

/-- The size code is one the instruction accepts: sign-extending codes for loads only, codes 2 to 4 for the accumulator
store. -/
def mCodeOk (f : Short) (store acc : Bool) : Bool :=
  let k := fn f % 8
  (sizeBytes k).isSome && (!store || decide (k ≤ 4)) && (!acc || (decide (2 ≤ k) && decide (k ≤ 4)))

/-- The effective address of a lane: `ua`, the zero-extended index, and the signed offset FUNC[27:4]. -/
def mAddr (c : Crew) (f : Short) (l : Nat) : Nat :=
  let off := BitVec.ofInt 64 (sfield f 4 24)
  let idx : W64 := if fbit f 3 then 0 else (c.readV l f.srcb.toNat).val.zeroExtend 64
  ((c.readU f.srca.toNat).val + idx + off).toNat

/-- Lanes whose base or index is poisoned (R107). -/
def mPoison (c : Crew) (f : Short) (ex : W32) : W32 :=
  laneMask fun l => lane ex l &&
    ((c.readU f.srca.toNat).poison || (!fbit f 3 && (c.readV l f.srcb.toNat).poison))

/-- The data a lane stores: a group of registers, low register first, and its poison. -/
def groupData (c : Crew) (n k l : Nat) : Nat × Bool :=
  (List.range k).foldl (fun (acc : Nat × Bool) i =>
    let r := c.readV l (n + i)
    (acc.1 + r.val.toNat * 2 ^ (32 * i), acc.2 || r.poison)) (0, false)

/-- The lanes in the order their accesses take effect: the part defines none (R94), so a free value turns it. -/
def State.laneOrder (s : State) (ex : W32) : List Nat :=
  let ls := lanes ex
  let k := s.laneFree 0 % ls.length
  ls.drop k ++ ls.take k

/-- A per-lane precise fault: the lowest-numbered faulting lane's cause and address, and every faulting lane (R130). -/
def laneFault (ex : W32) (cause : Nat → Option Nat) : Option (Nat × Nat × W32) :=
  match (lanes ex).filter fun l => (cause l).isSome with
  | [] => none
  | l :: _ => some (l, (cause l).getD 0, laneMask fun i => lane ex i && (cause i).isSome)

/-- Cause of a local access: misaligned, or beyond the end of its store (R108). -/
def localCause (size a n : Nat) : Option Nat :=
  if a % n ≠ 0 then some trapMisaligned else if size < a + n then some trapLocalRange else none

/-- The bay store or the accumulator store. -/
def Bay.mem (b : Bay) (acc : Bool) : Store := if acc then b.acc else b.store
def Bay.setMem (b : Bay) (acc : Bool) (m : Store) : Bay := if acc then { b with acc := m } else { b with store := m }

/-- Read `n` bytes of a local store with the check of each word (R484, R489). -/
def State.localRead (s : State) (bay : Nat) (acc : Bool) (a n : Nat) : Nat × Bool × State :=
  let m := (s.bay bay).mem acc
  let r := (List.range ((a + n - 1) / 4 - a / 4 + 1)).foldl (fun (r : Bool × State) i =>
    let w := a / 4 + i
    let (x, s) := r.2.checkWord (s.bayIsland bay) 0x0100 (if acc then 3 else 2) (4 * w) 0
      ⟨BitVec.ofNat 32 (m.num (4 * w) 4), m.bad w⟩
    (r.1 || x.poison, s)) (false, s)
  (m.num a n, r.1, r.2)

/-- The checks of an M-format access before it acts; `go` acts. -/
def State.mAccess (s : State) (bay slot : Nat) (f : Short) (store acc : Bool) (cause : Nat → Option Nat)
    (c : Crew) (ex : W32) (go : State → State) : State :=
  if !mCodeOk f store acc then s.trapAll bay slot c trapBadOperand
  else if mPoison c f ex ≠ 0 then s.trap bay slot c.pc trapPoisonedControl (mPoison c f ex) 0
  else match laneFault ex fun l => cause (mAddr c f l) with
    | some (l, k, m) => s.trap bay slot c.pc k m (BitVec.ofNat 64 (mAddr c f l))
    | none => go s

/-- A load from a local store. -/
def State.loadLocal (s : State) (bay slot : Nat) (f : Short) (acc : Bool) : State :=
  s.issue bay slot f (mForm f false) fun c ex s =>
    s.mAccess bay slot f false acc (fun a => localCause (if acc then accStoreSize else s.bayEnd bay) a (mBytes f))
      c ex fun s =>
      let r := (lanes ex).foldl (fun (r : Crew × State) l =>
        let (x, bad, s) := r.2.localRead bay acc (mAddr c f l) (mBytes f)
        let regs := fillRegs (64 * l + f.dst.toNat) (mBytes f) (decide (5 ≤ fn f % 8)) x bad
        (regs.foldl (fun d (q : Nat × VReg) => { d with v := SMap.set (fun _ => {}) d.v q.1 q.2 }) r.1, s)) (c, s)
      r.2.setCrew bay slot (r.1.advance {})

/-- A store to a local store. -/
def State.storeLocal (s : State) (bay slot : Nat) (f : Short) (acc : Bool) : State :=
  (s.issue bay slot f (mForm f true) fun c ex s =>
    s.mAccess bay slot f true acc (fun a => localCause (if acc then accStoreSize else s.bayEnd bay) a (mBytes f))
      c ex fun s =>
      (s.modBay bay fun b => (s.laneOrder ex).foldl (fun b l =>
        let d := groupData c f.srcc.toNat (mGroup f) l
        b.setMem acc ((b.mem acc).put (mAddr c f l) (mBytes f) d.1 d.2)) b).setCrew bay slot (c.advance {})).skipFree

/-- LOAD_LOCAL (R108). -/
def execLoadLocal (bay slot : Nat) (f : Short) (s : State) : Host.Outcome State Fault Refusal :=
  if !s.fetches bay slot 0x50 f none then .next s else
  .next (s.loadLocal bay slot f false)
/-- STORE_LOCAL (R108). -/
def execStoreLocal (bay slot : Nat) (f : Short) (s : State) : Host.Outcome State Fault Refusal :=
  if !s.fetches bay slot 0x51 f none then .next s else
  .next (s.storeLocal bay slot f false)
/-- LOAD_ACC (R108). -/
def execLoadAcc (bay slot : Nat) (f : Short) (s : State) : Host.Outcome State Fault Refusal :=
  if !s.fetches bay slot 0x52 f none then .next s else
  .next (s.loadLocal bay slot f true)
/-- STORE_ACC (R108). -/
def execStoreAcc (bay slot : Nat) (f : Short) (s : State) : Host.Outcome State Fault Refusal :=
  if !s.fetches bay slot 0x53 f none then .next s else
  .next (s.storeLocal bay slot f true)

/-! Device range. -/

/-- The staged span entry that serves a load of `n` bytes at `a` for a crew (R84). -/
def Bay.spanFor (b : Bay) (c : Crew) (a n : Nat) : Option Span :=
  ((List.range 8).filterMap fun k =>
    match SMap.get (fun _ => none) b.spans k with
    | some sp =>
      if sp.done && c.spansSeen.contains k && decide (sp.dev ≤ a) && decide (a + n ≤ sp.dev + sp.len) then some sp
      else none
    | none => none).head?

/-- Requests outstanding in the bay's table (R82). -/
def Bay.requests (b : Bay) : Nat := b.resident.foldl (fun n e => e.2.ops.foldl (fun n o => n + o.reqs) n) 0

/-- Long-latency operations of the crew that count among the eight (R81). -/
def Crew.outstanding (c : Crew) : Nat := (c.ops.filter fun o => !o.fence).length

/-- Begin a long-latency operation: park on a ninth, stall on a full request table, else record it and go on with `go`
(R81, R82).  `s0` is the state before the attempt: a crew that parks or stalls has issued nothing. -/
def State.beginLong (s s0 : State) (bay slot : Nat) (c : Crew) (o : LongOp) (go : Nat → State → State) : State :=
  if 8 ≤ c.outstanding then (s0.setCrew bay slot { c with park := .ninth }).bayEvent bay 0x004
  else if 4096 < (s.bay bay).requests + o.reqs then s0.stallFor (engStrand bay) 5
  else
    let id := c.nextOp
    let s := s.setCrew bay slot { c.advance {} with
      ops := c.ops ++ [{ o with id := id, pc := c.pc }], nextOp := id + 1 }
    go id s

/-- The tent whose device range the bay's crews address; a bay of no tent addresses none. -/
def State.bayTent (s : State) (bay : Nat) : Nat := (s.bay bay).tent.getD 64

/-- Every device-range address of an M access is one of 56 bits and naturally aligned (R108, R109). -/
def devCause (n a : Nat) : Option Nat := if a % n ≠ 0 then some trapMisaligned else none

/-- Record the stamp of an effect of the crew (R92). -/
def State.noteEffect (s : State) (bay slot : Nat) (st : Stamp) : State :=
  s.modCrew bay slot fun c => { c with lastEffect := max c.lastEffect st.tick }

/-- LOAD_DEV (R80 to R84, R109): from staged spans alone it completes at once; otherwise it is a long-latency operation
whose accesses are performed, or held while a panel is brought in. -/
def execLoadDev (bay slot : Nat) (f : Short) (s : State) : Host.Outcome State Fault Refusal :=
  if !s.fetches bay slot 0x54 f none then .next s else
  let s0 := s
  .next (s.issue bay slot f (mForm f false) fun c ex s =>
    s.mAccess bay slot f false false (devCause (mBytes f)) c ex fun s =>
      let n := mBytes f
      let key (l : Nat) := 64 * l + f.dst.toNat
      let signed := decide (5 ≤ fn f % 8)
      let hit (l : Nat) := (s.bay bay).spanFor c (mAddr c f l) n
      let staged := (lanes ex).flatMap fun l =>
        match hit l with
        | some sp =>
          let a := sp.base + (mAddr c f l - sp.dev)
          fillRegs (key l) n signed ((s.bay bay).store.num a n) ((s.bay bay).store.poisoned a n)
        | none => []
      let miss := (lanes ex).filter fun l => (hit l).isNone
      if miss = [] then
        let c' := staged.foldl (fun d (q : Nat × VReg) => { d with v := SMap.set (fun _ => {}) d.v q.1 q.2 }) c
        (s.setCrew bay slot (c'.advance {})).bayEvent bay 0x007
      else
        let regs := miss.flatMap fun l => fillRegs (key l) n false 0 false
        s.beginLong s0 bay slot c { regs := staged ++ regs, reqs := miss.length } fun id s =>
          let (st, s) := s.originate (s.bayIsland bay)
          let s := (s.noteEffect bay slot st).bayEvent bay 0x006
          (miss.foldl (fun s l => s.access
            { stamp := st, tent := s.bayTent bay, addr := mAddr c f l, size := n, op := .load, bay := bay, slot := slot
              opId := id, pc := c.pc, dest := some (key l), signed := signed } l) s).markReady bay slot id)

/-- STORE_DEV (R80, R109): posted; a store to a panel that is not RESIDENT is held at the memory side. -/
def execStoreDev (bay slot : Nat) (f : Short) (s : State) : Host.Outcome State Fault Refusal :=
  if !s.fetches bay slot 0x55 f none then .next s else
  .next (s.issue bay slot f (mForm f true) fun c ex s =>
    s.mAccess bay slot f true false (devCause (mBytes f)) c ex fun s =>
      let id := c.nextOp
      let s := s.setCrew bay slot { c.advance {} with nextOp := id + 1 }
      let (st, s) := s.originate (s.bayIsland bay)
      let s := s.noteEffect bay slot st
      (s.laneOrder ex).foldl (fun s l =>
        let d := groupData c f.srcc.toNat (mGroup f) l
        s.access { stamp := st, tent := s.bayTent bay, addr := mAddr c f l, size := mBytes f, op := .store
                   data := BitVec.ofNat 128 d.1, poison := d.2, bay := bay, slot := slot, opId := id, pc := c.pc } l)
        s).skipFree

/-! Atomics (R110). -/

/-- Operation, width in bytes and NORET of an atomic. -/
def atomOp (f : Short) : Nat := fn f % 16
def atomBytes (f : Short) : Nat := if fbit f 4 then 8 else 4
def atomNoret (f : Short) : Bool := fbit f 5

/-- Form of an atomic: `d` is unused by a NORET form that is no CAS; 64 bits use register pairs. -/
def atomForm (f : Short) (mask : Nat) : OpForm :=
  let n := atomBytes f / 4
  { dst := if atomNoret f && atomOp f != 9 then .none else .v n, a := .u, b := .v 1, c := .v n, func := mask
    guarded := true, dstRead := atomOp f == 9 }

/-- The operation exists; FADD is of 32 bits (R110). -/
def atomOk (f : Short) : Bool := decide (atomOp f ≤ 10) && !(atomOp f == 10 && fbit f 4)

/-- A lane's address `ua + b`, and the lanes whose address is poisoned. -/
def atomAddr (c : Crew) (f : Short) (l : Nat) : Nat :=
  ((c.readU f.srca.toNat).val + (c.readV l f.srcb.toNat).val.zeroExtend 64).toNat
def atomPoison (c : Crew) (f : Short) (ex : W32) : W32 :=
  laneMask fun l => lane ex l && ((c.readU f.srca.toNat).poison || (c.readV l f.srcb.toNat).poison)

/-- ATOM_DEV (R80, R109, R110): posted with NORET, else long-latency with the old value. -/
def execAtomDev (bay slot : Nat) (f : Short) (s : State) : Host.Outcome State Fault Refusal :=
  if !s.fetches bay slot 0x56 f none then .next s else
  let s0 := s
  .next (s.issue bay slot f (atomForm f 0x3F) fun c ex s =>
    let n := atomBytes f
    if !atomOk f then s.trapAll bay slot c trapBadOperand
    else if atomPoison c f ex ≠ 0 then s.trap bay slot c.pc trapPoisonedControl (atomPoison c f ex) 0
    else match laneFault ex fun l => devCause n (atomAddr c f l) with
      | some (l, k, m) => s.trap bay slot c.pc k m (BitVec.ofNat 64 (atomAddr c f l))
      | none =>
        let key (l : Nat) := 64 * l + f.dst.toNat
        let go (id : Nat) (s : State) : State :=
          let (st, s) := s.originate (s.bayIsland bay)
          let s := s.noteEffect bay slot st
          ((s.laneOrder ex).foldl (fun s l =>
            let d := groupData c f.srcc.toNat (n / 4) l
            let cmp := groupData c f.dst.toNat (n / 4) l
            s.access { stamp := st, tent := s.bayTent bay, addr := atomAddr c f l, size := n
                       op := .atom (atomOp f) (BitVec.ofNat 64 cmp.1), data := BitVec.ofNat 128 d.1
                       poison := d.2 || (atomOp f == 9 && cmp.2)
                       bay := bay, slot := slot, opId := id, pc := c.pc
                       dest := if atomNoret f then none else some (key l) } l) s).markReady bay slot id
        if atomNoret f then go c.nextOp (s.setCrew bay slot { c.advance {} with nextOp := c.nextOp + 1 })
        else
          s.beginLong s0 bay slot c
            { regs := (lanes ex).flatMap fun l => fillRegs (key l) n false 0 false, reqs := (lanes ex).length } go).skipFree

/-- ATOM_LOCAL (R110): operations 0 to 7 and 10 on 32 bits of the bay store. -/
def execAtomLocal (bay slot : Nat) (f : Short) (s : State) : Host.Outcome State Fault Refusal :=
  if !s.fetches bay slot 0x57 f none then .next s else
  .next (s.issue bay slot f (atomForm f 0x2F) fun c ex s =>
    if !atomOk f ∨ atomOp f = 8 ∨ atomOp f = 9 then s.trapAll bay slot c trapBadOperand
    else if atomPoison c f ex ≠ 0 then s.trap bay slot c.pc trapPoisonedControl (atomPoison c f ex) 0
    else match laneFault ex fun l => localCause (s.bayEnd bay) (atomAddr c f l) 4 with
      | some (l, k, m) => s.trap bay slot c.pc k m (BitVec.ofNat 64 (atomAddr c f l))
      | none =>
        let r := (s.laneOrder ex).foldl (fun (r : Crew × State) l =>
          let a := atomAddr c f l
          let (old, bad, s) := r.2.localRead bay false a 4
          let x := c.readV l f.srcc.toNat
          let new := atomNew (atomOp f) 32 old x.val.toNat 0
          let s := s.modBay bay fun b => { b with store := b.store.put a 4 new (bad || x.poison) }
          (if atomNoret f then r.1 else r.1.writeV l f.dst.toNat ⟨BitVec.ofNat 32 old, bad⟩, s)) (c, s)
        r.2.setCrew bay slot (r.1.advance {})).skipFree

/-! Granule reads and spans (R111). -/

/-- What a read-through of one granule of a tent returns (R245): bytes, or the trap cause. -/
def State.granuleThrough (s : State) (t a : Nat) : (List Byte × Bool) ⊕ Nat :=
  match s.served t a 4096 with
  | .hbm => .inl (s.devPeek t a 4096)
  | .invalid => .inr trapDeviceRange
  | .retired => .inr trapPanelRetired
  | .wait =>
    let p := s.panel t (a / 65536)
    if p.state = 4 then .inl (s.devPeek t a 4096)
    else if p.homeFlash then
      let k := s.fld (rTentFlash t) fTentFlashSet
      let d := 16 * p.extent + a % 65536 / 4096
      match s.readGranule k d with
      | some b => .inl (b, s.granulePoisoned k d)
      | none => .inl (List.replicate 4096 0, true)
    else .inl (List.replicate 4096 0, false)

/-- FLASH_READ (R111): one granule into the bay store without migrating its panel; long-latency. -/
def execFlashRead (bay slot : Nat) (f : Short) (s : State) : Host.Outcome State Fault Refusal :=
  if !s.fetches bay slot 0x58 f none then .next s else
  let s0 := s
  .next (s.issue bay slot f { a := .u, b := .u, func := 0x1FF } fun c _ s =>
    let a := c.readU f.srca.toNat
    let b := c.readU f.srcb.toNat
    if a.poison || b.poison then s.trapAll bay slot c trapPoisonedControl
    else if a.val.toNat % 4096 ≠ 0 then s.trapAll bay slot c trapMisaligned a.val
    else if b.val.toNat % 4096 ≠ 0 then s.trapAll bay slot c trapMisaligned b.val
    else if s.bayEnd bay < b.val.toNat + 4096 then s.trapAll bay slot c trapLocalRange b.val
    else
      let o : LongOp := match s.granuleThrough (s.bayTent bay) a.val.toNat with
        | .inl (bs, bad) =>
          { ready := true, addr := b.val.toNat, bytes := bs, poisoned := bad, reqs := 64
            slot := if fbit f 8 then some (fn f % 256) else none }
        | .inr k => { ready := true, trap := some (k, c.active, a.val), reqs := 64 }
      s.beginLong s0 bay slot c o fun _ s => s)

/-- Remove a span entry, so that no crew reads it any more (R84). -/
def Bay.clearSpan (b : Bay) (k : Nat) : Bay :=
  let b := { b with spans := SMap.set (fun _ => none) b.spans k none }
  b.resident.foldl (fun b e =>
    if e.2.spansSeen.contains k then
      b.setCrew e.1 (some { e.2 with spansSeen := e.2.spansSeen.filter (· ≠ k) })
    else b) b

/-- SPAN_CLEAR (R84, R111): entry FUNC[2:0]. -/
def execSpanClear (bay slot : Nat) (f : Short) (s : State) : Host.Outcome State Fault Refusal :=
  if !s.fetches bay slot 0x59 f none then .next s else
  .next (s.issue bay slot f { func := 7 } fun c _ s =>
    (s.setCrew bay slot (c.advance {})).modBay bay (·.clearSpan (fn f)))

end Sys2Proof.Machine
end

