-- ==== Sys2Proof/Machine/Measure.lean ====
section
/-! DEFINITION. Measurement logs (R466, R467). -/

namespace Sys2Proof.Machine

/-- The 64 bytes of an entry at a position of its log. -/
def LogEntry.encode (e : LogEntry) (i : Nat) : List Byte :=
  leBytes 4 i ++ leBytes 1 e.component ++ leBytes 1 e.result ++ leBytes 2 0 ++ leBytes 4 e.svn ++ leBytes 4 e.epoch ++
    e.stamp.bytes ++ leBytes 32 e.digest.toNat

/-- Append an entry: the chain value takes it in. -/
def MLog.append (l : MLog) (e : LogEntry) : MLog :=
  { entries := l.entries ++ [e]
    chain := Config.sha3 (leBytes 32 l.chain.toNat ++ e.encode l.entries.length) }

def MLog.bytes (l : MLog) : List Byte := ((List.range l.entries.length).zip l.entries).flatMap fun e => e.2.encode e.1

def State.tentLog (s : State) (t : Nat) : MLog := SMap.get (fun _ => {}) s.dev.sec.tentLogs t
def State.setTentLog (s : State) (t : Nat) (l : MLog) : State :=
  s.modSec fun x => { x with tentLogs := SMap.set (fun _ => {}) x.tentLogs t l }

/-- A tent log holds 4,096 entries. -/
def State.tentLogFull (s : State) (t : Nat) : Bool := decide (4096 ≤ (s.tentLog t).entries.length)

/-- Append an event of a tent: 0x10 ACTIVATE, 0x11 IMPORT, 0x12 RELOAD_MODELS, 0x13 CONSENT. -/
def State.measureTent (s : State) (t component : Nat) (st : Stamp) (digest : W256) : State :=
  s.setTentLog t ((s.tentLog t).append { component := component, epoch := s.ao.epoch, stamp := st, digest := digest })

/-- Append an image's verification to the platform log. -/
def State.measureImage (s : State) (component svn : Nat) (ok : Bool) (st : Stamp) (digest : W256) : State :=
  let e : LogEntry :=
    { component := component, result := if ok then 0 else 1, svn := svn, epoch := s.ao.epoch, stamp := st, digest := digest }
  s.modSec fun x => { x with platform := x.platform.append e }

/-- The tent configuration digest (R467). -/
def State.tentConfig (s : State) (t : Nat) : W256 :=
  let w (off : Nat) : List Byte := leBytes 8 (s.rd off).toNat
  let k := s.tentKey t
  Config.sha3 (w (rTentBays t 0) ++ w (rTentBays t 1) ++ w (rTentBays t 2) ++ w (rTentBays t 3) ++ w (rTentHbm t) ++
    w (rTentFlash t) ++ w (rTentDurability t) ++ w (rTentQuota t) ++ w (rTentModels t) ++ w (rFabTentSpan t) ++
    w (rGenCfg t) ++ leBytes 8 (s.keySlot k).policy ++ w (rSecKeyid k))

/-- KEY_ID of the key that a tent's slot holds (R462). -/
def State.tentKeyId (s : State) (t : Nat) : W64 := s.rd (rSecKeyid (s.tentKey t))

end Sys2Proof.Machine
end

