-- ==== Sys2Proof/Machine/Images.lean ====
section
/-! DEFINITION. Signed images (R463, R464). -/

namespace Sys2Proof.Machine

/-- SVN and the COMMIT_FLOOR flag of an image's header. -/
def imageSvn (b : List Byte) : Nat := field b 4 4
def imageCommits (b : List Byte) : Bool := (field b 3 1).testBit 0

/-- The ROM digest that an image's PUBKEY matches. -/
def imageKey (b : List Byte) : Option Nat :=
  (List.range 4).find? fun k => Config.romKey k == Config.sha3 ((b.drop 0x80).take 1312)

/-- The message that ML-DSA-44 signs, for an image. -/
def imageMessage (b : List Byte) : List Byte :=
  leBytes 1 0 ++ leBytes 1 12 ++ labelBytes "vothes-image" ++ b.take 0x5A0

/-- The first check of R464 that an image of a component fails, in the order of R533: 1 KEY, 2 REVOKED, 3 SIGNATURE, 4 DIGEST,
5 COMPONENT, 6 SVN; 0 where it is accepted. -/
def State.imageResult (s : State) (component : Nat) (b : List Byte) : Nat :=
  match imageKey b with
  | none => 1
  | some k =>
    if s.nv.mgmt.revoked.testBit k then 2
    else if !Config.verify ((b.drop 0x80).take 1312) (imageMessage b) ((b.drop 0x5A0).take 2420) then 3
    else if Config.sha3 ((b.drop 4096).take (field b 8 8)) ≠ BitVec.ofNat 256 (field b 0x10 32) then 4
    else if field b 2 1 ≠ component then 5
    else if imageSvn b < SMap.get (fun _ => 0) s.nv.mgmt.floors component then 6
    else 0

/-- Verify an image at an island whose image check is detector `det`: the result, and the state with its measurement; a refusal
is logged, and an injection makes one (R466, R500). -/
def State.verifyImage (s : State) (isl det component : Nat) (b : List Byte) : Nat × State :=
  let r := if s.armedAt isl det then 3 else s.imageResult component b
  let s := if r = 0 then s else s.log isl { detector := det, severity := 3, action := 12, detail := r }
  let (st, s) := s.originate isl
  (r, s.measureImage component (imageSvn b) (r == 0) st (Config.sha3 b))

/-- READY: pending images that this start took become active, and floors rise (R465, R548). -/
def State.commitUpdates (s : State) : State :=
  [1, 2, 3].foldl (fun s c =>
    match SMap.get (fun _ => none) s.nv.mgmt.pending c with
    | none => s
    | some p =>
      if SMap.get (fun _ => 0) s.nv.mgmt.attempts c = 0 then s
      else
        let f := SMap.get (fun _ => 0) s.nv.mgmt.floors c
        let f := if imageCommits p.bytes then max f p.svn else f
        let s := s.modMgmt fun m => { m with
          active := SMap.set (fun _ => {}) m.active c p, pending := SMap.set (fun _ => none) m.pending c none
          attempts := SMap.set (fun _ => 0) m.attempts c 0, floors := SMap.set (fun _ => 0) m.floors c f
          bankB := SMap.set (fun _ => false) m.bankB c (!SMap.get (fun _ => false) m.bankB c) }
        (s.setFld (rSecFloor c) fSecFloorFloor f).mgmtLog 8 0 0 0 c p.svn) s

end Sys2Proof.Machine
end

