-- ==== Sys2Proof/Machine/Streams.lean ====
section
/-! DEFINITION. Stream rings, publication and cancel decisions (R325 to R333, R337, R362, R363). -/

namespace Sys2Proof.Machine

/-! Registration (R325, R381). -/

/-- Bytes of a ring of 2^`l` records: header, slots, and a sealed tent's tag ring (R326). -/
def ringBytes (l : Nat) (isSealed : Bool) : Nat := 64 + 64 * 2 ^ l + (if isSealed then 16 * 2 ^ l else 0)

/-- Rings a tent has registered. -/
def State.ringCount (s : State) (t : Nat) : Nat :=
  (s.dev.adm.rings.filter fun e => match e.2 with | some r => r.tent == t | none => false).length

/-- The range overlaps a registered ring. -/
def State.ringOverlap (s : State) (a n : Nat) : Bool :=
  s.dev.adm.rings.any fun e => match e.2 with
    | some r => decide (a < r.addr + ringBytes r.log2 (s.sealed r.tent)) && decide (r.addr < a + n)
    | none => false

/-- RESULT of a STRM_REG_CMD write. -/
def State.strmResult (s : State) (n : Nat) : State := s.setFld rStrmRegStatus fStrmRegStatusResult n

/-- RING_REGISTER (R325, R326): slot `k` takes the ring at STRM_REG_ADDR. -/
def execRingRegister (k t log2 : Nat) (s : State) : Host.Outcome State Fault Refusal :=
  let a := s.fld rStrmRegAddr fStrmRegAddrAddr * 64
  let n := ringBytes log2 (s.sealed t)
  if 65536 ≤ k ∨ 64 ≤ t then .next s
  else if log2 < 6 ∨ 20 < log2 ∨ !s.inHost a n ∨ s.fld (rTentQuota t) fTentQuotaRingsMax ≤ s.ringCount t then
    .next (s.strmResult 1)
  else if s.ringOverlap a n then .next (s.strmResult 2)
  else if (s.ring k).isSome then .next (s.strmResult 3)
  else
    let s := s.setRing k (some { addr := a, log2 := log2, tent := t })
    .next ((((s.hostPut a 8 0).hostPut (a + 0x10) 8 0).hostPut (a + 0x18) 4 0).strmResult 0)

/-- RING_UNREGISTER (R325): refused while the ring is bound. -/
def execRingUnregister (k : Nat) (s : State) : Host.Outcome State Fault Refusal :=
  match s.ring k with
  | none => .next (s.strmResult 5)
  | some r => if r.bound ≠ 0 then .next (s.strmResult 4) else .next ((s.setRing k none).strmResult 0)

/-- RING_READ (R325). -/
def execRingRead (k : Nat) (s : State) : Host.Outcome State Fault Refusal :=
  match s.ring k with
  | none => .next (s.strmResult 5)
  | some r =>
    let s := ((s.strmResult 0).setFld rStrmRegStatus fStrmRegStatusLog2 r.log2).setFld rStrmRegStatus fStrmRegStatusTent
      r.tent
    let s := (s.setFlag rStrmRegStatus fStrmRegStatusIsBound (r.bound != 0)).wr rStrmRegReq (BitVec.ofNat 64 r.bound)
    .next (s.wr rStrmRegData (BitVec.ofNat 64 r.addr))

/-! CONSUMER (R328, R329). -/

/-- The island that reads a ring's CONSUMER: the Kerf unit of its bound request (R584). -/
def State.ringIsland (s : State) (r : Ring) : Nat :=
  match s.req r.bound with
  | some q => islKerf q.kerf
  | none => islKerf 0

/-- Re-read CONSUMER: an invalid value is ignored, and logged once. -/
def State.pollRing (s : State) (k : Nat) : State :=
  match s.ring k with
  | none => s
  | some r =>
    let v := s.hostNum (r.addr + 8) 8
    let (c, bad) := takeConsumer r.producer r.consumer r.log2 v
    if bad then
      if r.badConsumer.contains v then s
      else
        let s := s.setRing k (some { r with badConsumer := r.badConsumer ++ [v] })
        s.log (s.ringIsland r) (protocolRec 3 12 r.addr 11 v r.tent r.bound)
    else s.setRing k (some { r with consumer := c })

/-- A ring has room for `n` records. -/
def Ring.room (r : Ring) (n : Nat) : Bool := decide (r.producer + n ≤ r.consumer + 2 ^ r.log2)

/-- A stall episode begins (R329). -/
def State.stallBegin (s : State) (k : Nat) (r : Ring) : State :=
  if r.stalled.isSome then s
  else
    let s := s.setRing k (some { r with stalled := some s.liveTick, stalls := r.stalls + 1 })
    let s := (s.hostPut (r.addr + 0x18) 4 (r.stalls + 1)).wr rStrmStalls (s.rd rStrmStalls + 1)
    match s.req r.bound with
    | some q => s.iodEvent q.kerf 0x206 0 r.tent
    | none => s

/-- A stall episode ends: its ticks leave the gap that runs (R362). -/
def State.stallEnd (s : State) (k : Nat) : State :=
  match s.ring k with
  | none => s
  | some r => match r.stalled with
    | none => s
    | some t =>
      let d := s.liveTick - t
      (s.setRing k (some { r with stalled := none })).modReq r.bound fun q =>
        { q with gen := { q.gen with stallTicks := q.gen.stallTicks + d } }

/-- Records of the group that stands next. -/
def Request.nextSize (r : Request) : Nat :=
  match r.groups with
  | [] => 1
  | g :: _ => g.records.length

/-- RING_CONSUMER_POLL (R328, R329): a stalled request resumes when space appears. -/
def execRingConsumerPoll (k : Nat) (s : State) : Host.Outcome State Fault Refusal :=
  let s := s.pollRing k
  match s.ring k with
  | none => .next s
  | some r =>
    let n := match s.req r.bound with
      | some q => q.nextSize
      | none => 1
    .next (if r.room n then s.stallEnd k else s)

/-! Publication (R330 to R333). -/

/-- The 64 bytes of a record (R330). -/
def StrmRec.encode (r : StrmRec) (n : Nat) (isSealed : Bool) : List Byte :=
  leBytes 8 n ++ leBytes 8 r.tick ++ leBytes 4 r.token ++ leBytes 2 r.status ++
    leBytes 1 (if r.rflags &&& 2 = 2 then 0 else r.payload.length) ++
    leBytes 1 (if isSealed then r.rflags ||| 4 else r.rflags) ++
    r.payload ++ List.replicate (40 - r.payload.length) 0

/-- Write one record, the `n`th of its request, at place `p` of the ring's life. -/
def State.writeRecord (s : State) (q : Request) (k : Ring) (p n : Nat) (r : StrmRec) : State :=
  let slot := p % 2 ^ k.log2
  if s.sealed q.tent then
    let (b, tag) := s.sealRecord q n (r.encode n true)
    (s.hostWrite (k.addr + 64 + 64 * slot) b).hostWrite (k.addr + 64 + 64 * 2 ^ k.log2 + 16 * slot) tag
  else s.hostWrite (k.addr + 64 + 64 * slot) (r.encode n false)

/-- Write records at consecutive places. -/
def State.writeRecords (s : State) (q : Request) (k : Ring) : Nat → Nat → List StrmRec → State
  | _, _, [] => s
  | p, n, r :: rs => State.writeRecords (s.writeRecord q k p n r) q k (p + 1) (n + 1) rs

/-- Whole microseconds of a count of ticks, 32 bits. -/
def micros (t : Nat) : Nat := min (t / 1000) (2 ^ 32 - 1)

/-- Account the publication of the tokens of one step (R362, R363). -/
def Request.timeTokens (r : Request) (now n : Nat) : Request :=
  if n = 0 then r
  else
    let g := r.gen
    match g.firstAt with
    | none =>
      let d := now - r.submitLive
      { r with
        gen := { g with firstAt := some now, lastAt := now, ttft := d, published := g.published + n, stallTicks := 0 }
        conditions := if dTtft r.desc ≠ 0 ∧ 1000 * dTtft r.desc < d then r.conditions ||| 8 else r.conditions }
    | some _ =>
      let d := now - g.lastAt - g.stallTicks
      { r with
        gen := { g with lastAt := now, maxTbt := max g.maxTbt d, sumTbt := g.sumTbt + d, published := g.published + n
                        stallTicks := 0 }
        conditions := if dTbt r.desc ≠ 0 ∧ 1000 * dTbt r.desc < d then r.conditions ||| 8 else r.conditions }

/-- TOKEN_COUNT of a request (R332, R336): tokens generated that produced records; tokens from TOKENIZE for the other
kinds. -/
def Request.tokenCount (r : Request) : Nat :=
  if genKind r.kind then r.gen.published + r.groups.foldl (fun n g => n + g.tokens) 0
  else r.query.length + r.passages.foldl (fun n p => n + p.tokens.length) 0

/-- PROMPT_TOKENS of a request. -/
def Request.promptTokens (r : Request) : Nat :=
  if genKind r.kind then r.prompt.length else r.query.length + r.passages.foldl (fun n p => n + p.tokens.length) 0

/-- The FINAL summary, bytes 0x18 to 0x3F of R332. -/
def Request.summary (r : Request) : List Byte :=
  let n := r.tokenCount
  leBytes 4 n ++ leBytes 4 (if r.gen.firstAt.isSome then micros r.gen.ttft else 0) ++
    leBytes 4 (if n < 2 then 0 else micros r.gen.maxTbt) ++
    leBytes 4 (if n < 2 then 0 else micros (r.gen.sumTbt / (n - 1))) ++
    leBytes 2 (r.conditions % 512) ++ leBytes 2 (min r.preemptions 65535) ++ leBytes 4 r.promptTokens ++
    leBytes 8 r.seq ++ leBytes 8 r.tag

/-- The conditions of R333 for a group: its journal record is committed, and a FINAL record's stamp is settled. -/
def State.groupReady (s : State) (g : PubGroup) : Bool :=
  (g.covered || (match g.cover with | some n => s.idCommitted n | none => false)) && (!g.final || s.settled g.stamp)

/-- The group's records; a FINAL record carries the summary as it stands. -/
def Request.recordsOf (r : Request) (g : PubGroup) : List StrmRec :=
  if g.final then g.records.map fun x => { x with payload := if r.finalSummary = [] then r.summary else r.finalSummary }
  else g.records

/-- A FINAL record has been published: the ring is free, and the request's counts are settled (R327, R398, R517). -/
def State.finalPublished (s : State) (r : Request) (k : Nat) (g : PubGroup) : State :=
  let s := s.setRing k ((s.ring k).map fun (x : Ring) => { x with bound := 0, stalled := none })
  let s := s.wr (rObsAoTentDone r.tent) (s.rd (rObsAoTentDone r.tent) + 1)
  let s := s.trace (islKerf r.kerf) 0x13 r.tent ((r.ended.map (·.1)).getD 0) r.seq
  let s := s.contribute
    { tent := r.tent, client := r.client, stamp := g.stamp, completions := 1, wait := (r.endWait s.liveTick).waited
      waitCount := 1, defer := r.deferTicks, deferrals := r.deferrals }
  s.modReq r.seq fun q => { q with finalDone := true, ring := none, waitFrom := none }

/-- Publish the group at the front into ring `k`, with one PRODUCER write. -/
def State.publishGroup (s : State) (r : Request) (k : Nat) (x : Ring) (g : PubGroup) (gs : List PubGroup) : State :=
  let rs := r.recordsOf g
  let s := s.writeRecords r x x.producer r.published rs
  let s := s.hostPut x.addr 8 (x.producer + rs.length)
  let s := s.setRing k (some { x with producer := x.producer + rs.length })
  let s := s.iodEvent r.kerf 0x205 0 r.tent rs.length
  let now := s.liveTick
  let s := s.modReq r.seq fun q =>
    { (q.timeTokens now g.tokens) with
      groups := gs, published := q.published + rs.length
      history := q.history ++ [{ g with covered := true, tokens := 0 }] }
  if g.final then s.finalPublished r k g else s

/-- RECORD_PUBLISH (R329, R333): the oldest composed group of a request, once it may be published and the ring has room;
else the request stalls. -/
def execRecordPublish (n : Nat) (s : State) : Host.Outcome State Fault Refusal :=
  match s.req n with
  | none => .next s
  | some r => match r.groups, r.ring with
    | g :: gs, some k =>
      if !s.groupReady g ∨ (r.recovered && !r.resumed) ∨ s.blocked (islKerf r.kerf) then .next s
      else
        let s := s.pollRing k
        match s.ring k with
        | none => .next s
        | some x =>
          if x.room (r.recordsOf g).length then
            let s := s.stallEnd k
            match s.req n, s.ring k with
            | some r, some x => .next (s.publishGroup r k x g gs)
            | _, _ => .next s
          else .next (s.stallBegin k x)
    | _, _ => .next s

/-! Cancel (R337, R410). -/

/-- OUTCOME of a cancel (R408): 0 the natural end came first, 1 cancelled, 2 no effect. -/
def State.cancelOutcome (s : State) (c : Cancel) : Nat :=
  match s.req c.target with
  | none => 2
  | some r =>
    if r.tent ≠ c.tent ∨ r.finalDone then 2
    else match r.ended with
      | some e => if e.2.before c.stamp then 0 else 1
      | none => 1

/-- CANCEL_LATE of the target where its natural end came first and the cancel is before its FINAL record's stamp. -/
def Request.lateCancel (r : Request) (c : Stamp) : Request :=
  let f := match r.groups.find? (·.final) with
    | some g => c.before g.stamp
    | none => true
  if f then { r with conditions := r.conditions ||| 0x40 } else r

/-- The target ends CANCELLED at the cancel's stamp: groups stamped before it stay to be published. -/
def Request.cancel (r : Request) (c : Stamp) : Request := r.end_ 0x10 c

/-- CANCEL_DECISION (R337): once the cancel's stamp and its target's end are settled, the target's Kerf unit decides; the
CANCEL record then goes to the journal (R410). -/
def execCancelDecision (n : Nat) (s : State) : Host.Outcome State Fault Refusal :=
  match s.dev.adm.cancels.find? (·.seq == n) with
  | none => .next s
  | some c =>
    let isl := match s.req c.target with
      | some r => islKerf r.kerf
      | none => islAdmit
    let due := s.settled c.stamp && (match s.req c.target with
      | some r => (match r.ended with | some e => s.settled e.2 | none => true)
      | none => true)
    if c.outcome.isSome ∨ !due ∨ s.blocked isl then .next s
    else
      let o := s.cancelOutcome c
      let s := s.modAdm fun a => { a with cancels := a.cancels.map fun x =>
        if x.seq = n then { x with outcome := some o } else x }
      let s := if o = 1 then s.modReq c.target (·.cancel c.stamp)
        else if o = 0 then s.modReq c.target (·.lateCancel c.stamp) else s
      .next (s.sendJournal
        { tent := c.tent, cls := s.durability c.tent, epoch := s.ao.epoch, stamp := c.stamp, req := n
          pay := .cancel c.target o })

end Sys2Proof.Machine
end

