-- ==== Sys2Proof/Machine/Journal.lean ====
section
/-! DEFINITION. The journal unit (R403, R408 to R416, R428 to R430, R454): appends, group writes, the mirror and the host's
lease. -/

namespace Sys2Proof.Machine

/-! Appends. -/

/-- The oldest record of a kind on its way to the unit. -/
def State.nextSent (s : State) (k : Nat) : Option JRec := s.dev.jrnl.sent.find? fun r => r.pay.kind == k

/-- Take a record out of those on their way. -/
def State.takeSent (s : State) (r : JRec) : State := s.modJrnl fun j => { j with sent := j.sent.erase r }

/-- The groups whose publication the record covers wait for its commit: those of its stamp; result records are covered by
RESULT, returned passages by PACK (R333, R409). -/
def State.coverGroups (s : State) (r : JRec) (id : Nat) : State :=
  let covers : Bool := match r.pay with
    | .leg k _ => k == 3 || k == 4
    | _ => true
  s.modReq r.req fun q => { q with groups := q.groups.map fun g =>
    if covers ∧ !g.covered ∧ g.cover.isNone ∧ g.stamp = r.stamp then { g with cover := some id } else g }

/-- Append the oldest record of a kind; one without space waits (R413). -/
def State.appendNext (s : State) (k : Nat) : State :=
  match s.nextSent k with
  | none => s
  | some r =>
    if s.blocked islJournal then s
    else match (s.takeSent r).appendRec r with
      | some (id, s) => s.coverGroups r id
      | none => s

/-- An ADMIT cannot commit (R413, R414): fewer than two journal SSDs remain for FLASH, or the mirror is stalled. -/
def State.admitLost (s : State) (r : JRec) : Bool :=
  (r.cls == 2 && decide (s.journalSsds.length < 2)) || (r.cls == 1 && s.mirrorStalled)

/-- JOURNAL_ADMIT (R408, R413): an ADMIT without space, without SSDs or with the mirror stalled fails. -/
def execJournalAdmit (s : State) : Host.Outcome State Fault Refusal :=
  match s.nextSent 1 with
  | none => .next s
  | some r =>
    if s.blocked islJournal then .next s
    else if s.admitLost r then .next ((s.takeSent r).admitFailed r.req)
    else match (s.takeSent r).appendRec r with
      | some (_, s) => .next s
      | none => .next ((s.takeSent r).admitFailed r.req)

/-- JOURNAL_LEG_RESULT (R409). -/
def execJournalLegResult (s : State) : Host.Outcome State Fault Refusal := .next (s.appendNext 2)
/-- JOURNAL_TOKENS (R408). -/
def execJournalTokens (s : State) : Host.Outcome State Fault Refusal := .next (s.appendNext 3)
/-- JOURNAL_CANCEL (R410): the record follows the decision. -/
def execJournalCancel (s : State) : Host.Outcome State Fault Refusal := .next (s.appendNext 4)

/-- A cancel of the request that is not decided yet (R337). -/
def State.cancelOpen (s : State) (n : Nat) : Bool := s.dev.adm.cancels.any fun c => c.target == n && c.outcome.isNone

/-- The FINAL record (R330, R332); its summary is filled when it is published. -/
def finalRecord (tick status : Nat) : StrmRec := { tick := tick, token := 0xFFFFFFFF, status := status, rflags := 2 }

/-- The COMPLETE record of a request (R408). -/
def State.completeRec (s : State) (r : Request) (st : Stamp) (status : Nat) : JRec :=
  s.jrecFor r st (.complete status (r.conditions % 512) (r.published + r.waiting) r.summary)

/-- JOURNAL_COMPLETE (R332, R335, R408): a request's end is settled and no cancel of it is open; its Kerf unit composes
the FINAL record, and COMPLETE is appended under its stamp.  An ABANDONED end is not journaled (R423). -/
def execJournalComplete (n : Nat) (s : State) : Host.Outcome State Fault Refusal :=
  match s.req n with
  | none => .next s
  | some r => match r.ended with
    | none => .next s
    | some e =>
      if r.closing ∨ (r.recovered && !r.resumed) ∨ !s.settled e.2 ∨ s.cancelOpen n ∨ s.blocked (islKerf r.kerf) ∨ s.blocked islJournal then .next s
      else
        let (st, s') := s.originate (islKerf r.kerf)
        let close (s : State) (covered : Bool) (id : Option Nat) : State :=
          s.modReq n fun q => { q with
            closing := true
            groups := q.groups ++
              [{ records := [finalRecord st.tick e.1], stamp := st, covered := covered, cover := id, final := true }] }
        if e.1 = 0x42 then .next (close s' true none)
        else match s'.appendRec (s'.completeRec r st e.1) with
          | some (id, s') => .next (close s' false (some id))
          | none => .next s

/-! Group writes (R412, R415, R429). -/

/-- Bytes gathered. -/
def State.gathered (s : State) : Nat :=
  (s.dev.jrnl.log.filter fun r => s.dev.jrnl.gather.contains r.id).foldl (fun n r => n + r.size) 0

/-- GROUP_COMMIT_WRITE (R412): after GROUP_US, or 64 KiB, or at once in ORPHAN. -/
def execGroupCommitWrite (s : State) : Host.Outcome State Fault Refusal :=
  let j := s.dev.jrnl
  let due := s.orphan || decide (65536 ≤ s.gathered) ||
    decide (j.gatherSince + 1000 * s.fld rJrnlCfg fJrnlCfgGroupUs ≤ s.ao.tick)
  if j.gather = [] ∨ j.writing ≠ [] ∨ !due ∨ s.journalSsds.length < 2 then .next s
  else .next (s.modJrnl fun j => { j with writing := j.gather, gather := [], ssds := s.journalSsds })

/-- GROUP_WRITE_COMPLETE (R412): both writes have completed, and the group is committed. -/
def execGroupWriteComplete (s : State) : Host.Outcome State Fault Refusal :=
  let j := s.dev.jrnl
  if j.writing = [] ∨ s.journalSsds.length < 2 then .next s
  else
    let rs := j.log.filter fun r => j.writing.contains r.id
    let s := s.journalSsds.foldl (fun s k => s.ssdJournal k rs) s
    .next (s.modJrnl fun j => { j with
      writing := [], log := j.log.map fun r => if j.writing.contains r.id then { r with written := true } else r })

/-! The mirror (R411, R414, R454). -/

/-- The peer has not acknowledged a record, or has still to acknowledge the copy of it (R414). -/
def State.mirrorAwaited (s : State) (r : JRec) : Bool :=
  r.cls == 1 && ((!r.acked && !s.dev.jrnl.ackHeld.contains r.id) || s.dev.jrnl.resync.contains r.id)

/-- A MIRROR record of the log that the peer has not acknowledged in MIRROR_WAIT_MS. -/
def State.mirrorLate (s : State) (r : JRec) : Bool :=
  s.mirrorAwaited r && decide (r.since + 1000000 * s.fld rJrnlCfg fJrnlCfgMirrorWaitMs ≤ s.ao.tick)

/-- MIRROR_TIMEOUT (R413, R414): MIRROR_STALLED is set, and the ADMIT commits that the peer let wait have failed. -/
def execMirrorTimeout (s : State) : Host.Outcome State Fault Refusal :=
  let late := s.dev.jrnl.log.filter s.mirrorLate
  if late = [] then .next s
  else
    let s := s.setFlag rJrnlStatus fJrnlStatusMirrorStalled true
    .next ((late.filter fun r => r.pay.kind == 1 && !r.acked).foldl (fun s r => s.admitFailed r.req) s)

/-- MIRROR records of requests without a committed COMPLETE. -/
def State.mirrorOpen (s : State) : List Nat :=
  (s.dev.jrnl.log.filter fun r => r.cls == 1 && !s.completeCommitted r.req).map (·.id)

/-- A write of JRNL_MIRROR_PEER that left `s` names a new peer (R414): mirroring is on, and DEVICE or ENABLE changed or the
mirror is stalled. -/
def State.namesPeer (s : State) (v : W64) : Bool :=
  let r := rJrnlMirrorPeer
  let t := s.writeReg r v
  t.flag r fJrnlMirrorPeerEnable &&
    (t.fld r fJrnlMirrorPeerDevice != s.fld r fJrnlMirrorPeerDevice || !s.flag r fJrnlMirrorPeerEnable || s.mirrorStalled)

/-- The copy to a new peer begins (R414): the peer truncates its region to the commit position, and takes every MIRROR record
of each request without a committed COMPLETE. -/
def State.beginResync (s : State) : State :=
  let log := s.dev.jrnl.log
  let open_ := s.mirrorOpen
  let tail := log.foldl (fun n r => min n r.id) s.dev.jrnl.nextId
  let done := (log.filter s.recCommitted).map (·.id)
  let s := (s.setFlag rJrnlMirrorPeer fJrnlMirrorPeerConnected false).setFlag rJrnlMirrorPeer fJrnlMirrorPeerResync true
  let s := s.modJrnl fun j => { j with
    resync := open_, ackHeld := [], probesLost := 0
    log := j.log.map fun r => if open_.contains r.id then { r with since := s.ao.tick } else r }
  let (st, s) := s.originate islJournal
  let s := s.fabSend { stamp := st, dest := s.fld rJrnlMirrorPeer fJrnlMirrorPeerDevice, op := 0x30, pay := .copyIn tail done }
  (log.filter fun r => open_.contains r.id).foldl (fun s r => s.mirrorSend r) s

/-- MIRROR_PEER_CHANGE (R414, R454): a write of `v` to JRNL_MIRROR_PEER; where it names a new peer, the copy to it begins. -/
def execMirrorPeerChange (v : W64) (s : State) : Host.Outcome State Fault Refusal :=
  let t := s.writeReg rJrnlMirrorPeer v
  .next (if s.namesPeer v then t.beginResync
    else if t.flag rJrnlMirrorPeer fJrnlMirrorPeerEnable then t
    else t.setFlag rJrnlMirrorPeer fJrnlMirrorPeerConnected false)

/-- MIRROR_RESYNC_COMPLETE (R414): every record of the copy is acknowledged; the stall ends and waiting commits proceed. -/
def execMirrorResyncComplete (s : State) : Host.Outcome State Fault Refusal :=
  if !s.flag rJrnlMirrorPeer fJrnlMirrorPeerResync ∨ s.dev.jrnl.resync ≠ [] then .next s
  else
    let s := s.modJrnl fun j => { j with
      ackHeld := [], log := j.log.map fun r => if j.ackHeld.contains r.id then { r with acked := true } else r }
    .next ((s.setFlag rJrnlMirrorPeer fJrnlMirrorPeerResync false).setFlag rJrnlStatus fJrnlStatusMirrorStalled false)

/-- A probe of the peer's journal unit. -/
def State.probePeer (s : State) : State :=
  let (st, s) := s.originate islJournal
  s.fabSend { stamp := st, dest := s.fld rJrnlMirrorPeer fJrnlMirrorPeerDevice, op := 0x30, pay := .probe false }

/-- MIRROR_PROBE (R454): at a multiple of 1 ms; CONNECTED reads 1 while the peer answers within MIRROR_WAIT_MS. -/
def execMirrorProbe (answered : Bool) (s : State) : Host.Outcome State Fault Refusal :=
  if !s.flag rJrnlMirrorPeer fJrnlMirrorPeerEnable ∨ s.blocked islJournal then .next s
  else if answered then
    .next ((s.probePeer.modJrnl fun j => { j with probesLost := 0 }).setFlag rJrnlMirrorPeer fJrnlMirrorPeerConnected true)
  else
    let n := s.dev.jrnl.probesLost + 1
    let s := s.probePeer.modJrnl fun j => { j with probesLost := n }
    .next (if s.fld rJrnlCfg fJrnlCfgMirrorWaitMs ≤ n then s.setFlag rJrnlMirrorPeer fJrnlMirrorPeerConnected false
      else s)

/-! The host's lease (R428 to R430). -/

/-- HOST_BEAT (R428): BEAT renews the lease. -/
def execHostBeat (s : State) : Host.Outcome State Fault Refusal :=
  .next (if s.dev.jrnl.leaseRunning then s.modJrnl fun j => { j with leaseSet := s.liveTick } else s)

/-- HOST_ATTACH (R430): ORPHAN clears, and the lease runs; a boot image that a Basecamp reset took has brought the part to
READY again (R548). -/
def execHostAttach (s : State) : Host.Outcome State Fault Refusal :=
  let t := (s.setFlag rJrnlStatus fJrnlStatusOrphan false).modJrnl fun j =>
    { j with leaseSet := s.liveTick, leaseRunning := true }
  .next (if t.booted then t.commitUpdates else t)

/-- The part enters ORPHAN (R429). -/
def State.enterOrphan (s : State) : State :=
  let s := (s.allReqs.map (·.seq)).foldl (fun s n => s.modReq n fun r => { r with orphaned := true }) s
  (s.setFlag rJrnlStatus fJrnlStatusOrphan true).modJrnl fun j => { j with leaseRunning := false }

/-- HOST_DETACH (R429): at once; before the first ATTACH the part is never ORPHAN. -/
def execHostDetach (s : State) : Host.Outcome State Fault Refusal :=
  .next (if s.dev.jrnl.leaseRunning then s.enterOrphan else s)

/-- Ticks of the lease that are left (R428). -/
def State.leaseLeft (s : State) : Nat :=
  if s.dev.jrnl.leaseRunning then
    s.dev.jrnl.leaseSet + 1000000 * s.fld rJrnlLeaseMs fJrnlLeaseMsLeaseMs - s.liveTick
  else 0

/-- LEASE_EXPIRE (R429). -/
def execLeaseExpire (s : State) : Host.Outcome State Fault Refusal :=
  .next (if s.dev.jrnl.leaseRunning && s.leaseLeft == 0 then s.enterOrphan else s)

end Sys2Proof.Machine
end

