-- ==== Sys2Proof/Machine/Selection.lean ====
section
/-! DEFINITION. The ordering rules of selection and the result list (R168 to R184): used by the select unit, the compare
mode of the truss, Lantern and the select-merge collective. -/

namespace Sys2Proof.Machine

/-- Width of a key type in bits (R168). -/
def keyWidth (ty : Nat) : Nat := if ty = 0 ∨ ty = 5 ∨ ty = 6 then 32 else if ty = 1 ∨ ty = 2 then 16 else 8

/-- The floating-point format of key types 0 to 4. -/
def keyFmt (ty : Nat) : FFmt :=
  if ty = 0 then f32 else if ty = 1 then ⟨8, 7, 127, .ieee⟩ else if ty = 2 then ⟨5, 10, 15, .ieee⟩
  else if ty = 3 then ⟨4, 3, 7, .nanOnly⟩ else ⟨5, 2, 15, .ieee⟩

/-- A key is NaN (R169). -/
def keyNan (ty x : Nat) : Bool := decide (ty ≤ 4) && (decodeF (keyFmt ty) x).isNan

/-- −0 is replaced by +0 (R169). -/
def keyZero (ty x : Nat) : Nat := if ty ≤ 4 ∧ x = 2 ^ (keyWidth ty - 1) then 0 else x

/-- T(x): the order-preserving map to unsigned keys (R168). -/
def keyT (ty x : Nat) : Nat :=
  let w := keyWidth ty
  if ty = 6 then x
  else if ty = 5 then (x + 2 ^ 31) % 2 ^ 32
  else if x < 2 ^ (w - 1) then x + 2 ^ (w - 1) else 2 ^ w - 1 - x

/-- The select key S (R170): the lower is preferred. -/
def keyS (ty : Nat) (smallest : Bool) (x : Nat) : Nat :=
  let w := keyWidth ty
  let t := keyT ty (keyZero ty x)
  (if smallest then t else 2 ^ w - 1 - t) * 2 ^ (32 - w)

/-- The score of an element (R178): widened to FP32, or the integer itself. -/
def keyScore (ty x : Nat) : W32 :=
  if ty ≤ 4 then encode32 (decodeF (keyFmt ty) (keyZero ty x)) else BitVec.ofNat 32 x

/-- The key type by which scores are compared: FP32 for every floating-point type. -/
def scoreType (ty : Nat) : Nat := if ty ≤ 4 then 0 else ty

/-- The select key of an entry's score. -/
def ResEntry.s (ty : Nat) (smallest : Bool) (e : ResEntry) : Nat := keyS (scoreType ty) smallest e.score.toNat

/-- The id reserved for sentinels (R176). -/
def noId : Nat := 0xFFFFFFFFFFFFFFFF

/-- The sentinel score (R174). -/
def sentinelScore (ty : Nat) (smallest : Bool) : W32 :=
  if ty ≤ 4 then (if smallest then 0x7F800000 else 0xFF800000)
  else if ty = 5 then (if smallest then 0x7FFFFFFF else 0x80000000)
  else if smallest then 0xFFFFFFFF else 0

/-- Entry order: ascending S, then ascending id (R172). -/
def entryLe (ty : Nat) (smallest : Bool) (a b : ResEntry) : Bool :=
  let x := a.s ty smallest
  let y := b.s ty smallest
  decide (x < y) || (x == y && decide (a.id ≤ b.id))

/-- Insert an entry into an ordered list, behind entries it ties with wholly. -/
def insertEntry (ty : Nat) (smallest : Bool) (e : ResEntry) : List ResEntry → List ResEntry
  | [] => [e]
  | x :: xs => if entryLe ty smallest x e then x :: insertEntry ty smallest e xs else e :: x :: xs

/-- Order entries (R172). -/
def sortEntries (ty : Nat) (smallest : Bool) (l : List ResEntry) : List ResEntry :=
  l.foldl (fun acc e => insertEntry ty smallest e acc) []

/-- Entries whose key is that of the last of `kept`, among `all` (R173). -/
def tiesAt (ty : Nat) (smallest : Bool) (kept all : List ResEntry) : Nat :=
  match kept.getLast? with
  | none => 0
  | some e => (all.filter fun x => x.s ty smallest == e.s ty smallest).length

/-- SEL.TOPK over elements given as raw key and id (R171 to R176): the K first in order, which is what the threshold
procedure of R171 selects. -/
def selectTop (ty : Nat) (smallest : Bool) (k : Nat) (els : List (Nat × Nat)) : ResList :=
  let good := els.filter fun e => !keyNan ty e.1 && e.2 != noId
  let all := sortEntries ty smallest (good.map fun e => ⟨keyScore ty e.1, e.2⟩)
  let kept := all.take k
  let ties := tiesAt ty smallest kept all
  { k := k, short := decide (all.length < k)
    tied := decide (tiesAt ty smallest kept kept < ties)
    keyType := ty, smallest := smallest, n := els.length, valid := good.length
    nans := (els.filter fun e => keyNan ty e.1).length
    ties := ties, dropped := (els.filter fun e => !keyNan ty e.1 && e.2 == noId).length, entries := kept }

/-- S of the element behind an entry, on the key's own width. -/
def sOfEntry (ty : Nat) (smallest : Bool) (good : List (Nat × Nat)) (e : ResEntry) : Nat :=
  match good.find? fun x => x.2 == e.id && keyScore ty x.1 == e.score with
  | some x => keyS ty smallest x.1
  | none => 0

/-- SEL.EMIT at threshold `τ` with a tie limit (R181). -/
def selectEmit (ty : Nat) (smallest : Bool) (τ limit : Nat) (els : List (Nat × Nat)) : ResList :=
  let good := els.filter fun e => !keyNan ty e.1 && e.2 != noId
  let all := sortEntries ty smallest (good.map fun e => ⟨keyScore ty e.1, e.2⟩)
  let sOf : ResEntry → Nat := fun e => sOfEntry ty smallest good e
  let below : List ResEntry := all.filter fun e => decide (sOf e < τ)
  let at_ := all.filter fun e => sOf e == τ
  let kept := below ++ at_.take limit
  { k := kept.length, tied := decide (limit < at_.length), keyType := ty, smallest := smallest
    n := els.length, valid := good.length, nans := (els.filter fun e => keyNan ty e.1).length
    ties := if at_ = [] then tiesAt ty smallest kept all else at_.length
    dropped := (els.filter fun e => !keyNan ty e.1 && e.2 == noId).length, entries := kept }

/-- Fold an entry into a list by id, keeping the better score (R163, R182): the list and whether it was folded. -/
def foldEntry (ty : Nat) (smallest : Bool) (e : ResEntry) (l : List ResEntry) : List ResEntry × Bool :=
  if l.any (·.id == e.id) then
    (l.map fun x => if x.id = e.id ∧ e.s ty smallest < x.s ty smallest then e else x, true)
  else (l ++ [e], false)

/-- MERGE of two lists with `k` places (R182, R183). -/
def mergeLists (ty : Nat) (smallest : Bool) (k : Nat) (a b : ResList) : ResList :=
  let bad := a.keyType != ty || b.keyType != ty || a.smallest != smallest || b.smallest != smallest ||
    a.formatError || b.formatError
  if bad then
    { k := k, short := decide (0 < k), formatError := true, keyType := ty, smallest := smallest }
  else
    let ins := a.entries ++ b.entries
    let nan (e : ResEntry) : Bool := keyNan (scoreType ty) e.score.toNat
    let good := ins.filter fun e => !nan e && e.id != noId
    let folded := good.foldl (fun (r : List ResEntry × Nat) e =>
      let x := foldEntry ty smallest e r.1
      (x.1, if x.2 then r.2 + 1 else r.2)) ([], 0)
    let all := sortEntries ty smallest folded.1
    let kept := all.take k
    let thr : W32 := (kept.getLast?.map (·.score)).getD (sentinelScore ty smallest)
    let inThr := tiesAt ty smallest kept all
    let carry (x : ResList) : Nat :=
      match x.entries.getLast? with
      | some e => if x.tied ∧ e.score = thr then x.ties - tiesAt ty smallest x.entries x.entries else 0
      | none => 0
    let same (x : ResList) : Bool :=
      x.tied && decide (x.entries.getLast?.map (·.score) = some thr)
    { k := k, short := decide (kept.length < k)
      tied := decide (tiesAt ty smallest kept kept < inThr) || same a || same b
      keyType := ty, smallest := smallest, n := a.n + b.n
      valid := a.valid + b.valid - folded.2
      nans := a.nans + b.nans + (ins.filter nan).length
      ties := inThr + carry a + carry b
      dropped := a.dropped + b.dropped + (ins.filter fun e => !nan e && e.id == noId).length
      dups := a.dups + b.dups + folded.2, entries := kept }

/-- Stride of a list of `k` places (R177). -/
def listStride (k : Nat) : Nat := 64 * ((64 + 16 * k + 63) / 64)

/-- The 16 bytes of an entry (R164). -/
def ResEntry.bytes (e : ResEntry) : List Byte := leBytes 4 e.score.toNat ++ leBytes 4 0 ++ leBytes 8 e.id

/-- The header of a list (R177). -/
def ResList.header (r : ResList) : List Byte :=
  let flags := (if r.short then 1 else 0) + (if r.tied then 2 else 0) + (if r.nans ≠ 0 then 256 else 0) +
    (if r.formatError then 32768 else 0)
  let thr := (r.entries.getLast?.map (·.score)).getD (sentinelScore r.keyType r.smallest)
  leBytes 4 r.entries.length ++ leBytes 4 r.k ++ leBytes 2 flags ++ leBytes 1 r.keyType ++
    leBytes 1 (if r.smallest then 1 else 0) ++ leBytes 4 thr.toNat ++ leBytes 8 r.n ++ leBytes 8 r.valid ++
    leBytes 8 r.nans ++ leBytes 8 r.ties ++ leBytes 8 r.dropped ++ leBytes 8 r.dups

/-- The bytes of a list: its header, its entries, and sentinels at places COUNT to K − 1 (R174, R177). -/
def ResList.bytes (r : ResList) : List Byte :=
  r.header ++ r.entries.flatMap ResEntry.bytes ++
    (List.replicate (r.k - r.entries.length) ⟨sentinelScore r.keyType r.smallest, noId⟩).flatMap ResEntry.bytes

/-- Read a list back from a byte store; `limit` is the end of the store, past which its entries may not run (R182). -/
def readList (m : Store) (a limit : Nat) : ResList :=
  let count := m.num a 4
  let flags := m.num (a + 8) 2
  { k := m.num (a + 4) 4, short := flags.testBit 0, tied := flags.testBit 1
    formatError := decide (limit < a + 64 + 16 * count)
    keyType := m.num (a + 10) 1, smallest := m.num (a + 11) 1 == 1
    n := m.num (a + 16) 8, valid := m.num (a + 24) 8, nans := m.num (a + 32) 8, ties := m.num (a + 40) 8
    dropped := m.num (a + 48) 8, dups := m.num (a + 56) 8
    entries := if limit < a + 64 + 16 * count then []
      else (List.range count).map fun i => ⟨BitVec.ofNat 32 (m.num (a + 64 + 16 * i) 4), m.num (a + 72 + 16 * i) 8⟩ }

/-- One candidate joins a running list of `k` places (R163): the list, and the count of elements left out whose key is
the last entry's. -/
def runningInsert (r : ResList) (out : Nat) (e : ResEntry) : ResList × Nat :=
  let ty := r.keyType
  let sm := r.smallest
  let r : ResList := { r with n := r.n + 1 }
  if keyNan (scoreType ty) e.score.toNat then ({ r with nans := r.nans + 1 }, out)
  else if e.id = noId then ({ r with dropped := r.dropped + 1 }, out)
  else
    let e : ResEntry := { e with score := BitVec.ofNat 32 (keyZero (scoreType ty) e.score.toNat) }
    let oldLast : Option Nat := r.entries.getLast?.map (·.s ty sm)
    let x := foldEntry ty sm e r.entries
    let all := sortEntries ty sm x.1
    let kept := all.take r.k
    let last : Option Nat := kept.getLast?.map (·.s ty sm)
    let lost := (all.drop r.k).filter fun y => some (y.s ty sm) == last
    let out' : Nat := (if last == oldLast then out else 0) + lost.length
    ({ r with entries := kept, valid := if x.2 then r.valid else r.valid + 1
              dups := if x.2 then r.dups + 1 else r.dups }, out')

/-- A running list's final form (R165, R173, R174). -/
def ResList.finish (r : ResList) (out : Nat) : ResList :=
  { r with short := decide (r.entries.length < r.k), tied := decide (0 < out)
           ties := tiesAt r.keyType r.smallest r.entries r.entries + out }

/-- The histogram of pass `p` over the elements that match `prefix` (R180): 256 bins, VALID, MATCHED, NAN_COUNT. -/
def selectHist (ty : Nat) (smallest : Bool) (p prefix_ : Nat) (els : List (Nat × Nat)) :
    List Nat × Nat × Nat × Nat :=
  let good := els.filter fun e => !keyNan ty e.1 && e.2 != noId
  let ss := good.map fun e => keyS ty smallest e.1
  let mat := ss.filter fun x => x / 2 ^ (32 - 8 * p) == prefix_ / 2 ^ (32 - 8 * p)
  ((List.range 256).map fun b => (mat.filter fun x => x / 2 ^ (24 - 8 * p) % 256 == b).length,
    good.length, mat.length, (els.filter fun e => keyNan ty e.1).length)

end Sys2Proof.Machine
end

