-- ==== Sys2Proof/Machine/Kerf.lean ====
section
/-! DEFINITION. Kerf's functions on images, text and tokens: the vocabulary image and its checks (R278 to R280),
tokenization (R281, R282, R285), the stop automaton (R289), holdback and release (R290, R292). -/

namespace Sys2Proof.Machine

/-! The vocabulary image (R278 to R280). -/

/-- `n` bytes at `off` as a number. -/
def num (b : List Byte) (off n : Nat) : Nat := leNat ((b.drop off).take n)

def pad64 (n : Nat) : Nat := 64 * ((n + 63) / 64)

def vSize (b : List Byte) : Nat := num b 4 4
def vFallback (b : List Byte) : Nat := num b 0x10 4
def vEos (b : List Byte) : Nat := num b 0x14 4
def vBos (b : List Byte) : Nat := num b 0x18 4
def vTrie (b : List Byte) : Nat := num b 0x1C 4
def vHeap (b : List Byte) : Nat := num b 0x20 4
def vBytes (b : List Byte) : Nat := num b 0x24 4
/-- Where the token table, the trie and the heap start. -/
def vTableAt : Nat := 0x180
def vTrieAt (b : List Byte) : Nat := vTableAt + pad64 (4 * vSize b)
def vHeapAt (b : List Byte) : Nat := vTrieAt b + pad64 (8 * vTrie b)

/-- OFFSET, LENGTH and SPECIAL of a token (R280). -/
def tokOffset (b : List Byte) (t : Nat) : Nat := num b (vTableAt + 4 * t) 4 % 2 ^ 22
def tokLength (b : List Byte) (t : Nat) : Nat := num b (vTableAt + 4 * t) 4 / 2 ^ 22 % 128
def tokSpecial (b : List Byte) (t : Nat) : Bool := (num b (vTableAt + 4 * t) 4).testBit 29
/-- The bytes of a token. -/
def tokBytes (b : List Byte) (t : Nat) : List Byte := (b.drop (vHeapAt b + tokOffset b t)).take (tokLength b t)

/-- BASE, CHECK, TERMINAL and TOKEN of a trie entry (R280). -/
def trieBase (b : List Byte) (n : Nat) : Nat := num b (vTrieAt b + 8 * n) 8 % 2 ^ 21
def trieCheck (b : List Byte) (n : Nat) : Nat := num b (vTrieAt b + 8 * n) 8 / 2 ^ 21 % 2 ^ 21
def trieTerminal (b : List Byte) (n : Nat) : Bool := (num b (vTrieAt b + 8 * n) 8).testBit 42
def trieToken (b : List Byte) (n : Nat) : Nat := num b (vTrieAt b + 8 * n) 8 / 2 ^ 44 % 2 ^ 18

/-- The child of a trie entry on a byte. -/
def trieChild (b : List Byte) (n c : Nat) : Option Nat :=
  let t := trieBase b n + c
  if t < vTrie b ∧ t ≠ 0 ∧ trieCheck b t = n then some t else none

/-- Every range of the header and of the token table (R278, R280). -/
def vocabRanges (b : List Byte) : Bool :=
  decide (257 ≤ vSize b) && decide (vSize b ≤ 262144) && decide (vFallback b + 255 < vSize b) &&
    decide (1 ≤ vTrie b) && decide (vTrie b ≤ 2097152) && decide (vHeap b ≤ 4194304) &&
    (decide (vBos b < vSize b) || vBos b == 0xFFFFFFFF) &&
    (List.range (vSize b)).all fun t => decide (tokLength b t ≤ 64) && decide (tokOffset b t + tokLength b t ≤ vHeap b)

/-- The reason of the first check of R278 that an image fails, 0 for none: 1 FORMAT, 2 RANGE, 4 FALLBACK, 5 SPECIAL. -/
def vocabCheck (b : List Byte) : Nat :=
  if num b 0 2 ≠ 1 then 1
  else if vBytes b ≠ vHeapAt b + vHeap b then 1
  else if vocabRanges b = false then 2
  else if ((List.range 256).all fun c =>
      let t := vFallback b + c
      tokLength b t == 1 && !tokSpecial b t && tokBytes b t == [BitVec.ofNat 8 c]) = false then 4
  else if (decide (vEos b < vSize b) && tokSpecial b (vEos b) && tokLength b (vEos b) == 0) = false then 5
  else match (List.range (vTrie b)).find? fun n =>
      trieTerminal b n && (decide (vSize b ≤ trieToken b n) || tokSpecial b (trieToken b n)) with
    | none => 0
    | some n => if vSize b ≤ trieToken b n then 2 else 5

/-! Byte classes (R279). -/

def byteClass (b : List Byte) (c : Byte) : Nat := num b (0x40 + c.toNat) 1
def classOf (b : List Byte) (c : Byte) : Nat := byteClass b c % 16
def breakBefore (b : List Byte) (c : Byte) : Bool := (byteClass b c).testBit 4
def breakAfter (b : List Byte) (c : Byte) : Bool := (byteClass b c).testBit 5
def contByte (b : List Byte) (c : Byte) : Bool := (byteClass b c).testBit 6
def splitBit (b : List Byte) (x y : Nat) : Bool := (num b (0x140 + 2 * x) 2).testBit y

/-- A split point between a position with head `h` and one with byte `c`. -/
def splitsAt (b : List Byte) (h c : Byte) : Bool :=
  !contByte b c && (breakAfter b h || breakBefore b c || splitBit b (classOf b h) (classOf b c))

/-! UTF-8 (R281, R290). -/

/-- Range of the second byte after a lead byte, and the length of the sequence (Unicode, Table 3-7). -/
def utf8Lead (c : Nat) : Option (Nat × Nat × Nat) :=
  if 0xC2 ≤ c ∧ c ≤ 0xDF then some (2, 0x80, 0xBF)
  else if c = 0xE0 then some (3, 0xA0, 0xBF)
  else if (0xE1 ≤ c ∧ c ≤ 0xEC) ∨ c = 0xEE ∨ c = 0xEF then some (3, 0x80, 0xBF)
  else if c = 0xED then some (3, 0x80, 0x9F)
  else if c = 0xF0 then some (4, 0x90, 0xBF)
  else if 0xF1 ≤ c ∧ c ≤ 0xF3 then some (4, 0x80, 0xBF)
  else if c = 0xF4 then some (4, 0x80, 0x8F)
  else none

/-- The bytes after a lead byte are those of a well-formed sequence, as far as they go. -/
def utf8Tail (lo hi : Nat) (l : List Byte) : Bool :=
  match l with
  | [] => true
  | c :: cs => decide (lo ≤ c.toNat) && decide (c.toNat ≤ hi) &&
    cs.all fun d => decide (0x80 ≤ d.toNat) && decide (d.toNat ≤ 0xBF)

/-- Length of the well-formed sequence that starts a list, 0 for none. -/
def utf8Len : List Byte → Nat
  | [] => 0
  | c :: cs =>
    if c.toNat < 0x80 then 1
    else match utf8Lead c.toNat with
      | none => 0
      | some (n, lo, hi) => if n - 1 ≤ cs.length ∧ utf8Tail lo hi (cs.take (n - 1)) then n else 0

/-- Which bytes are well-formed; `k` bytes of a sequence are still to come. -/
def wellFormed8 : Nat → List Byte → List Bool
  | _, [] => []
  | k + 1, _ :: cs => true :: wellFormed8 k cs
  | 0, c :: cs => if utf8Len (c :: cs) = 0 then false :: wellFormed8 0 cs
    else true :: wellFormed8 (utf8Len (c :: cs) - 1) cs

/-- The list is a proper, nonempty prefix of a well-formed sequence. -/
def utf8Prefix : List Byte → Bool
  | [] => false
  | c :: cs => match utf8Lead c.toNat with
    | none => false
    | some (n, lo, hi) => decide (cs.length + 1 < n) && utf8Tail lo hi cs

/-- Length of a trailing proper prefix of a well-formed sequence, 0 to 3 (R290). -/
def utf8Hold (l : List Byte) : Nat :=
  ([3, 2, 1].find? fun k => k ≤ l.length && utf8Prefix (l.drop (l.length - k))).getD 0

/-! Tokenization (R279, R282). -/

/-- Cut text, each byte with its well-formedness, into segments; `h` is the head of the position before. A CONT byte with no
byte of CONT = 0 before it is its own head. -/
def segments (b : List Byte) : Option Byte → List (Byte × Bool) → List (Byte × Bool) → List (List (Byte × Bool))
  | _, cur, [] => if cur = [] then [] else [cur]
  | h, cur, (c, w) :: cs =>
    let h' := if contByte b c then (match h with | none => c | some g => if contByte b g then c else g) else c
    match h with
    | none => segments b (some h') [(c, w)] cs
    | some g => if splitsAt b g c then cur :: segments b (some h') [(c, w)] cs
      else segments b (some h') (cur ++ [(c, w)]) cs

/-- A word of the image is poisoned. -/
def wordBad (bad : List Nat) (off : Nat) : Bool := bad.contains (off / 4) || bad.contains ((off + 4) / 4)

/-- The longest match from trie entry `n`: the best token so far with its end, and whether a poisoned word of the image
was used. -/
def longestMatch (b : List Byte) (bad : List Nat) : Nat → Nat → Nat → Option (Nat × Nat) → List (Byte × Bool) →
    Option (Nat × Nat) × Bool
  | 0, _, _, best, _ => (best, false)
  | _ + 1, _, _, best, [] => (best, false)
  | fuel + 1, n, q, best, (c, w) :: cs =>
    if w = false then (best, false)
    else
      let used := wordBad bad (vTrieAt b + 8 * n)
      match trieChild b n c.toNat with
      | none => (best, used)
      | some t =>
        let best := if trieTerminal b t then some (trieToken b t, q + 1) else best
        let r := longestMatch b bad fuel t (q + 1) best cs
        (r.1, used || wordBad bad (vTrieAt b + 8 * t) || r.2)

/-- The tokens of a segment, each with whether it is byte-fallback, and whether poison was used. -/
def segmentTokens (b : List Byte) (bad : List Nat) : Nat → List (Byte × Bool) → List (Nat × Bool) × Bool
  | 0, _ => ([], false)
  | _ + 1, [] => ([], false)
  | fuel + 1, (c, w) :: cs =>
    let m := longestMatch b bad 64 0 0 none ((c, w) :: cs)
    match m.1 with
    | none =>
      let r := segmentTokens b bad fuel cs
      ((vFallback b + c.toNat, true) :: r.1, m.2 || r.2)
    | some (t, n) =>
      let r := segmentTokens b bad fuel (((c, w) :: cs).drop n)
      ((t, false) :: r.1, m.2 || r.2)

/-- Every token of a text item (R282). -/
def tokenizeAll (b : List Byte) (bad : List Nat) (text : List Byte) : List (Nat × Bool) × Bool :=
  let rs := (segments b none [] (text.zip (wellFormed8 0 text))).map fun g => segmentTokens b bad (g.length + 1) g
  (rs.flatMap (·.1), rs.any (·.2))

/-- A text item as tokenized and cut at its limit (R285). -/
structure Tokenized where
  tokens : List Nat := []
  truncated : Bool := false
  fallback : Bool := false
  bad : Bool := false
  deriving DecidableEq, Repr

def tokenizeItem (v : Vocab) (text : List Byte) (limit : Nat) : Tokenized :=
  let r := tokenizeAll v.image v.bad text
  let kept := r.1.take limit
  { tokens := kept.map (·.1), truncated := decide (limit < r.1.length), fallback := kept.any (·.2), bad := r.2 }

/-! The stop automaton (R289). -/

def stopStates (a : List Byte) : Nat := num a 4 2
def stopClasses (a : List Byte) : Nat := num a 6 2
def stopInfoAt : Nat := 0x140
def stopNextAt (a : List Byte) : Nat := stopInfoAt + pad64 (2 * stopStates a)
/-- Bytes of an automaton. -/
def stopBytes (a : List Byte) : Nat := stopNextAt a + 2 * stopStates a * stopClasses a

/-- The header of an automaton is in range. -/
def stopHeaderOk (a : List Byte) : Bool :=
  num a 0 2 == 1 && decide (1 ≤ num a 2 1) && decide (num a 2 1 ≤ 16) && decide (1 ≤ stopStates a) &&
    decide (stopStates a ≤ 1025) && decide (1 ≤ stopClasses a) && decide (stopClasses a ≤ 256)

/-- Every other field of an automaton is in range. -/
def stopBodyOk (a : List Byte) : Bool :=
  ((List.range 256).all fun c => decide (num a (0x40 + c) 1 < stopClasses a)) &&
    ((List.range (stopStates a)).all fun x =>
      decide (num a (stopInfoAt + 2 * x) 1 ≤ 64) && decide (num a (stopInfoAt + 2 * x + 1) 1 ≤ 63)) &&
    ((List.range (stopStates a * stopClasses a)).all fun i => decide (num a (stopNextAt a + 2 * i) 2 < stopStates a))

/-- MATCH and DEPTH of a state, and the next state on a byte; a request without an automaton has MATCH and DEPTH 0. -/
def stopMatch (a : List Byte) (x : Nat) : Nat := if a = [] then 0 else num a (stopInfoAt + 2 * x) 1
def stopDepth (a : List Byte) (x : Nat) : Nat := if a = [] then 0 else num a (stopInfoAt + 2 * x + 1) 1
def stopNext (a : List Byte) (x : Nat) (c : Byte) : Nat :=
  if a = [] then 0 else num a (stopNextAt a + 2 * (x * stopClasses a + num a (0x40 + c.toNat) 1)) 2

/-! Holdback and release (R290, R292). -/

/-- A detokenization context after some bytes: pending bytes, automaton state, bytes released, and whether a stop string
has completed. -/
structure Detok where
  held : List Byte := []
  state : Nat := 0
  out : List Byte := []
  stopped : Bool := false
  deriving DecidableEq, Repr

/-- One byte of a token (R290). -/
def Detok.byte (a : List Byte) (incl : Bool) (d : Detok) (c : Byte) : Detok :=
  if d.stopped then d
  else
    let x := stopNext a d.state c
    let p := d.held ++ [c]
    let m := stopMatch a x
    if 0 < m then
      let cut := p.length - min m p.length
      { held := [], state := x, stopped := true, out := d.out ++ p.take cut ++ (if incl then p.drop cut else []) }
    else
      let h := min p.length (max (stopDepth a x) (utf8Hold p))
      { held := p.drop (p.length - h), state := x, out := d.out ++ p.take (p.length - h) }

/-- A generated token (R288): EOS appends no bytes. -/
def Detok.token (v a : List Byte) (incl : Bool) (d : Detok) (t : Nat) : Detok :=
  (if t = vEos v then [] else tokBytes v t).foldl (Detok.byte a incl) { d with out := [] }

/-- Release the pending bytes (R292). -/
def Detok.flush (d : Detok) : Detok := { d with held := [], out := d.out ++ d.held }

end Sys2Proof.Machine
end

