-- ==== Sys2Proof/Machine/Guyline.lean ====
section
/-! DEFINITION. Guyline's functions: configurations of a grammar image and the mask of a configuration (R294 to R301). -/

namespace Sys2Proof.Machine

/-- Why Guyline cannot go on with an image. -/
inductive GErr where
  /-- A panel has to be brought in: device-range address. -/
  | wait (addr : Nat)
  /-- A record or index is out of range, or an address faults (R297). -/
  | broken (addr : Nat)
  /-- A word is poisoned (R491). -/
  | poison (addr : Nat)
  deriving DecidableEq, Repr

/-- `n` bytes at a device-range address of the image's tent, as a number. -/
def State.gRead (s : State) (t a n : Nat) : Except GErr Nat :=
  match s.servedSpan t a n with
  | .hbm =>
    let (b, bad) := s.devPeek t a n
    if bad then .error (.poison a) else .ok (leNat b)
  | .wait => .error (.wait (s.firstWait t a n))
  | .invalid => .error (.broken a)
  | .retired => .error (.broken a)

/-- A configuration (R295): a state and a stack, its top first. -/
structure GConf where
  state : Nat := 0
  stack : List Nat := []
  deriving DecidableEq, Repr, Inhabited

/-- A grammar image: owning tent, address and the header fields used (R294). -/
structure GImage where
  tent : Nat := 0
  addr : Nat := 0
  states : Nat := 0
  transitions : Nat := 0
  start : Nat := 0
  maxDepth : Nat := 0
  stateTable : Nat := 0
  transTable : Nat := 0
  bitmaps : Nat := 0
  bitmapCount : Nat := 0
  stride : Nat := 0
  deriving DecidableEq, Repr

/-- The image of grammar slot `x`. -/
def State.gImage (s : State) (x : Nat) : Except GErr GImage := do
  let t := s.fld (rGuyImageBase x) fGuyImageBaseTent
  let a := s.fld (rGuyImageBase x) fGuyImageBaseAddr * 64
  let states ← s.gRead t (a + 4) 4
  let transitions ← s.gRead t (a + 8) 4
  let start ← s.gRead t (a + 0x18) 4
  let depth ← s.gRead t (a + 0x1C) 1
  let st ← s.gRead t (a + 0x20) 8
  let tr ← s.gRead t (a + 0x28) 8
  let bm ← s.gRead t (a + 0x30) 8
  let bc ← s.gRead t (a + 0x38) 4
  let stride ← s.gRead t (a + 0x3C) 4
  pure ⟨t, a, states, transitions, start, depth, st, tr, bm, bc, stride⟩

/-- Where a state record lies. -/
def GImage.stateAt (g : GImage) (x : Nat) : Nat := g.addr + g.stateTable + 16 * x

/-- TRANS_FIRST, TRANS_COUNT, FLAGS and BITMAP of a state. -/
def State.gState (s : State) (g : GImage) (x : Nat) : Except GErr (Nat × Nat × Nat × Nat) := do
  if g.states ≤ x then throw (.broken (g.stateAt x))
  let first ← s.gRead g.tent (g.stateAt x) 4
  let count ← s.gRead g.tent (g.stateAt x + 4) 2
  let flags ← s.gRead g.tent (g.stateAt x + 6) 2
  let bm ← s.gRead g.tent (g.stateAt x + 8) 4
  if 512 < count ∨ g.transitions < first + count then throw (.broken (g.stateAt x))
  pure (first, count, flags, bm)

/-- The first transition, of `n` from index `i`, that takes a byte (R295); `none`: the byte is refused. -/
def State.gTrans (s : State) (g : GImage) (c : GConf) (b : Nat) : Nat → Nat → Except GErr (Option GConf)
  | 0, _ => pure none
  | n + 1, i => do
    let a := g.addr + g.transTable + 8 * i
    let lo ← s.gRead g.tent a 1
    let hi ← s.gRead g.tent (a + 1) 1
    let op ← s.gRead g.tent (a + 2) 1
    let sym ← s.gRead g.tent (a + 3) 1
    let next ← s.gRead g.tent (a + 4) 4
    if g.states ≤ next ∨ 2 < op then throw (.broken a)
    let takes := decide (lo ≤ b) && decide (b ≤ hi) &&
      (op == 0 || (op == 1 && decide (c.stack.length < g.maxDepth)) || (op == 2 && c.stack.head? == some sym))
    if takes then
      pure (some ⟨next, if op = 1 then sym :: c.stack else if op = 2 then c.stack.drop 1 else c.stack⟩)
    else State.gTrans s g c b n (i + 1)

/-- Move a configuration by one byte. -/
def State.gByte (s : State) (g : GImage) (c : GConf) (b : Nat) : Except GErr (Option GConf) := do
  let (first, count, _, _) ← s.gState g c.state
  s.gTrans g c b count first

/-- Move a configuration by bytes. -/
def State.gMove (s : State) (g : GImage) : GConf → List Byte → Except GErr (Option GConf)
  | c, [] => pure (some c)
  | c, b :: bs => do
    match ← s.gByte g c b.toNat with
    | none => pure none
    | some c => State.gMove s g c bs

/-- The configuration is accepting (R295). -/
def State.gAccepting (s : State) (g : GImage) (c : GConf) : Except GErr Bool := do
  let (_, _, flags, _) ← s.gState g c.state
  pure (flags.testBit 0 && c.stack.isEmpty)

/-- The tokens that the walk of R297 allows below trie entry `n`: TERMINAL entries whose path bytes move the
configuration without a refusal. -/
def State.gWalk (s : State) (g : GImage) (v : List Byte) : Nat → Nat → GConf → Except GErr (List Nat)
  | 0, _, _ => pure []
  | fuel + 1, n, c => do
    let parts ← (List.range 256).mapM fun b =>
      match trieChild v n b with
      | none => pure []
      | some t => do
        match ← s.gByte g c b with
        | none => pure []
        | some c' => do
          let below ← State.gWalk s g v fuel t c'
          let k := trieToken v t
          pure (if trieTerminal v t && !tokSpecial v k && tokLength v k != 0 then k :: below else below)
    pure parts.flatten

/-- The byte-fallback tokens that a configuration takes, tested apart (R297). -/
def State.gFallback (s : State) (g : GImage) (v : List Byte) (c : GConf) : Except GErr (List Nat) := do
  let parts ← (List.range 256).mapM fun b => do
    match ← s.gByte g c b with
    | none => pure []
    | some _ => pure [vFallback v + b]
  pure parts.flatten

/-- The allowed tokens of a configuration other than EOS: the bitmap of a STATIC state, or the walk (R296, R297). -/
def State.gAllowed (s : State) (g : GImage) (v : List Byte) (c : GConf) : Except GErr (List Nat) := do
  let (_, _, flags, bm) ← s.gState g c.state
  if flags.testBit 1 then
    if g.bitmapCount ≤ bm then throw (.broken (g.stateAt c.state))
    let bits ← s.gRead g.tent (g.addr + g.bitmaps + bm * g.stride) g.stride
    pure ((List.range (vSize v)).filter fun t => bits.testBit t && !tokSpecial v t && tokLength v t != 0)
  else do
    let a ← s.gWalk g v (vTrie v) 0 c
    let b ← s.gFallback g v c
    pure (a ++ b)

/-- The mask of a configuration: token by token, EOS exactly where it is accepting (R296). -/
def State.gMask (s : State) (g : GImage) (v : List Byte) (c : GConf) : Except GErr (List Bool) := do
  let allowed ← s.gAllowed g v c
  let acc ← s.gAccepting g c
  pure ((List.range (vSize v)).map fun t => if t = vEos v then acc else allowed.contains t)

/-- Move a configuration by tokens, EOS by none: `none` where a token's bytes are refused. -/
def State.gTokens (s : State) (g : GImage) (v : List Byte) : GConf → List Nat → Except GErr (Option GConf)
  | c, [] => pure (some c)
  | c, t :: ts => do
    if t = vEos v then State.gTokens s g v c ts
    else match ← s.gMove g c (tokBytes v t) with
      | none => pure none
      | some c => State.gTokens s g v c ts

/-- The first of some tokens by which a configuration cannot be moved. -/
def State.gRefuser (s : State) (g : GImage) (v : List Byte) : GConf → List Nat → Option Nat
  | _, [] => none
  | c, t :: ts => match s.gTokens g v c [t] with
    | .ok (some c) => State.gRefuser s g v c ts
    | _ => some t

end Sys2Proof.Machine
end

