-- ==== Sys2Proof/Machine/Inputs.lean ====
section
/-! DEFINITION. What the legs read: units' reads of a tent's device range, model slots (R377), the checks of a request's
parameters (R308, R310, R311, R355), templates and prompts (R320 to R322). -/

namespace Sys2Proof.Machine

/-! Units' reads. -/

/-- A unit of the part reads `n` bytes of a tent's device range. -/
def State.unitRead (s : State) (t a n : Nat) : Except GErr (List Byte × State) :=
  match s.servedSpan t a n with
  | .hbm =>
    let (b, bad, s) := s.devRead t a n
    if bad then .error (.poison a) else .ok (b, s)
  | .wait => .error (.wait (s.firstWait t a n))
  | .invalid => .error (.broken a)
  | .retired => .error (.broken a)

/-- A unit's read could not go on: the panel is brought in, or the request ends INPUT_INVALID or DATA_ERROR (R335,
R491). -/
def State.unitFail (s : State) (n t isl : Nat) : GErr → State
  | .wait a =>
    let (st, s) := s.originate isl
    s.requestInbound t (a / 65536) st true
  | .broken _ => s.endAt n 0x31 isl
  | .poison _ => s.endAt n 0x40 isl true

/-! Model slots (R377). -/

/-- A field of model slot `x`'s entry. -/
def State.modelFld (s : State) (t x off n : Nat) : Nat := field (s.tent t).models (64 * x + off) n
def State.modelRole (s : State) (t x : Nat) : Nat := if x < (s.tent t).modelCount then s.modelFld t x 0 1 else 0
def State.modelVocab (s : State) (t x : Nat) : Nat := s.modelFld t x 1 1
def State.modelMax (s : State) (t x : Nat) : Nat := s.modelFld t x 4 4
def State.poolPages (s : State) (t x : Nat) : Nat := s.modelFld t x 0x18 4

/-! The sampling parameter block (R355). -/

/-- A ≤ B as FP32 values; false for a NaN. -/
def fle (a b : Nat) : Bool :=
  match (decodeF f32 a).cmp (decodeF f32 b) with
  | some .lt => true
  | some .eq => true
  | _ => false

def fzero (a : Nat) : Bool := a == 0 || a == 0x80000000

def pTopK (p : List Byte) : Nat := field p 4 4
def pTemp (p : List Byte) : Nat := if p = [] then 0x3F800000 else field p 8 4
def pTopP (p : List Byte) : Nat := if p = [] ∨ fzero (field p 0xC 4) then 0x3F800000 else field p 0xC 4
def pMinP (p : List Byte) : Nat := field p 0x10 4
def pRep (p : List Byte) : Nat := if p = [] ∨ fzero (field p 0x14 4) then 0x3F800000 else field p 0x14 4
def pFreq (p : List Byte) : Nat := field p 0x18 4
def pPres (p : List Byte) : Nat := field p 0x1C 4
def pWindow (p : List Byte) : Nat := field p 0x20 4
def pSpec (p : List Byte) : Nat := field p 0x24 1
def pBiasCount (p : List Byte) : Nat := field p 0x28 4
def pPrompt (p : List Byte) : Bool := (field p 2 2).testBit 0
def pNoSpec (p : List Byte) : Bool := (field p 2 2).testBit 1

/-- Every field of the block is in its range (R355). -/
def paramsOk (p : List Byte) : Bool :=
  p == [] ||
    (field p 0 2 == 1 && decide (pTopK p ≤ 65536) &&
      (fzero (field p 8 4) || (fle 0x3C23D70A (field p 8 4) && fle (field p 8 4) 0x42C80000)) &&
      fle 0 (pTopP p) && !fzero (pTopP p) && fle (pTopP p) 0x3F800000 &&
      fle 0 (pMinP p) && fle (pMinP p) 0x3F7FFFFF && fle 0x3DCCCCCD (pRep p) && fle (pRep p) 0x41200000 &&
      fle 0xC1200000 (pFreq p) && fle (pFreq p) 0x41200000 && fle 0xC1200000 (pPres p) && fle (pPres p) 0x41200000 &&
      decide (pWindow p ≤ 524288) && decide (pSpec p ≤ 8) && decide (pBiasCount p ≤ 1024))

def fnan (a : Nat) : Bool := (decodeF f32 a).isNan

/-- The bias entries as (token, FP32) pairs. -/
def biasList (b : List Byte) : List (Nat × W32) :=
  (List.range (b.length / 8)).map fun i => (field b (8 * i) 4, BitVec.ofNat 32 (field b (8 * i + 4) 4))

/-- The biases of a token added up in list order; `none` without an entry. -/
def biasOf (l : List (Nat × W32)) (t : Nat) : Option W32 :=
  l.foldl (fun x e => if e.1 = t then some (match x with | none => e.2 | some y => fadd y e.2) else x) none

/-- Tokens below VOCAB_SIZE, no NaN, and no sum that is one (R355). -/
def biasOk (v : Nat) (l : List (Nat × W32)) : Bool :=
  l.all fun e => decide (e.1 < v) && !fnan e.2.toNat && !((biasOf l e.1).any fun x => fnan x.toNat)

/-! Descriptors (R308, R310, R367, R377). -/

/-- The vocabulary a request is bound to. -/
def State.reqVocab (s : State) (r : Request) : Vocab := s.vocab (r.vocab.getD 0)

/-- The adapter version applies to another model slot, or the slot has none (R367). -/
def State.adapterFault (s : State) (r : Request) : Bool :=
  genKind r.kind && dAdapter r.desc != 0xFFFF &&
    (r.gen.adapter == 0 ||
      !((s.adapters r.tent (dAdapter r.desc)).any fun v => v.version == r.gen.adapter && v.model == dModel r.desc))

/-- The model slots a request names match their use (R308, R310, R377). -/
def State.slotsOk (s : State) (r : Request) : Bool :=
  let d := r.desc
  let role := s.modelRole r.tent
  (if r.kind = 1 ∨ (r.kind = 2 ∧ field d 0xE8 8 = 0) then role (dModel d) == 1 else true) &&
    (if r.kind = 3 then role (dModel d) == 2 else true) &&
    (if genKind r.kind then role (dModel d) == 3 else true) &&
    (if r.kind = 5 then role (dEmbedSlot d) == 1 && role (dRerankSlot d) == 2 else true) &&
    (if genKind r.kind ∧ dDraft d ≠ 0xFFFF then
      role (dDraft d) == 4 && s.modelVocab r.tent (dDraft d) == s.modelVocab r.tent (dModel d)
    else true)

/-- The text block's ranges and its fields that another kind uses (R310, R322). -/
def textBlockOk (r : Request) : Bool :=
  let d := r.desc
  let gen := genKind r.kind
  let pairs := r.kind == 3 || r.kind == 5
  let k := if field d 0xCC 2 = 0 then 10 else field d 0xCC 2
  (gen || dGrammar d == 0xFF) && (r.kind == 5 || (dEmbedSlot d == 0 && dRerankSlot d == 0)) &&
    (gen || dDraft d == 0xFFFF) && decide (dQueryLimit d ≤ 524288) &&
    (if pairs then decide (dPassageLimit d ≤ 524288) else dPassageLimit d == 0) &&
    (if r.kind = 5 ∨ (r.kind = 4 ∧ dTemplate d ≠ 0) then
      decide (1 ≤ dBudget d) && decide (dBudget d ≤ 524288) && decide (dBudget d + dMaxNew d ≤ 524288)
    else dBudget d == 0) &&
    (if r.kind = 5 then decide (1 ≤ dRerankDepth d) && decide (dRerankDepth d ≤ k) else dRerankDepth d == 0) &&
    (if r.kind = 3 then decide (1 ≤ dPassages d) && decide (dPassages d ≤ 512) else dPassages d == 0) &&
    (gen || dStop d == 0) && (if r.kind = 5 then dTemplate d != 0 else if r.kind = 4 then true else dTemplate d == 0) &&
    (pairs || (dPair d == 0 && dPassageAddr d == 0))

/-- A fault in the request's parameters or text that ends it INPUT_INVALID (R308, R310, R355, R283). -/
def State.inputFault (s : State) (r : Request) : Bool :=
  let d := r.desc
  r.badSlot || decide (65536 ≤ dClient d) ||
    (if genKind r.kind then dMaxNew d == 0 || decide (524288 < dMaxNew d) else dMaxNew d != 0) ||
    (textKind r.kind && (!textBlockOk r || decide (4194304 + 48 < dTextBytes d) || !s.inHost (dTextAddr d) (dTextBytes d))) ||
    !s.slotsOk r || s.adapterFault r ||
    (genKind r.kind && dParams d != 0 && (r.params == [] || !paramsOk r.params ||
      r.bias.length != 8 * pBiasCount r.params || !biasOk (vSize (s.reqVocab r).image) (biasList r.bias)))

/-! Templates and prompts (R320, R321). -/

/-- An element of a template: 0 TOKENS, 1 QUERY, 2 PASSAGES; its token ids. -/
structure TElem where
  type : Nat := 0
  ids : List Nat := []
  deriving DecidableEq, Repr

/-- Read the elements of a template from record `i` on, `n` of them. -/
def State.readElems (t a : Nat) : Nat → Nat → State → Except GErr (List TElem × State)
  | 0, _, s => pure ([], s)
  | n + 1, i, s => do
    let (e, s) ← s.unitRead t (a + 64 + 16 * i) 16
    let count := field e 4 4
    let (b, s) ← (if count = 0 then pure ([], s) else s.unitRead t (field e 8 8) (4 * count))
    let ids := (List.range count).map fun k => field b (4 * k) 4
    let (es, s) ← State.readElems t a n (i + 1) s
    if 2 < field e 0 1 ∨ (field e 0 1 = 1 ∧ count ≠ 0) then throw (.broken a)
    pure ({ type := field e 0 1, ids := ids } :: es, s)

/-- A template of a tent for a vocabulary, with `pass` PASSAGES elements (R320). -/
def State.readTemplate (s : State) (t a : Nat) (v : List Byte) (pass : Nat) : Except GErr (List TElem × State) := do
  let (h, s) ← s.unitRead t a 64
  let n := field h 2 2
  if a % 64 ≠ 0 ∨ field h 0 2 ≠ 1 ∨ n = 0 ∨ 32 < n ∨ field h 8 8 ≠ num v 8 8 then throw (.broken a)
  let (es, s) ← State.readElems t a n 0 s
  if (es.filter (·.type == 1)).length ≠ 1 ∨ (es.filter (·.type == 2)).length ≠ pass ∨
      (es.any fun e => e.ids.any fun x => decide (vSize v ≤ x)) = true then throw (.broken a)
  pure (es, s)

/-- The tokens of a prompt (R321). -/
def buildPrompt (es : List TElem) (query : List Nat) (passages : List (List Nat)) : List Nat :=
  es.flatMap fun e =>
    if e.type = 1 then query
    else if e.type = 2 then passages.flatMap fun p => e.ids ++ p
    else e.ids

/-- Fixed and query tokens of a prompt, and the separator's length. -/
def fixedTokens (es : List TElem) (query : List Nat) : Nat := (buildPrompt es query []).length
def separator (es : List TElem) : Nat := ((es.find? (·.type == 2)).map (·.ids.length)).getD 0

/-- Passages kept: the longest leading run whose total fits (R321). -/
def packRun (budget sep : Nat) : Nat → List (List Nat) → Nat
  | _, [] => 0
  | used, p :: ps => if used + sep + p.length ≤ budget then 1 + packRun budget sep (used + sep + p.length) ps else 0

end Sys2Proof.Machine
end

