-- ==== Sys2Proof/Machine/Text.lean ====
section
/-! DEFINITION. The TEXT block (R273 to R302): vocabulary and grammar slots, tokenization, contexts and masks. -/

namespace Sys2Proof.Machine

def State.modText (s : State) (f : TextSt → TextSt) : State := { s with dev := { s.dev with text := f s.dev.text } }
def State.setVocab (s : State) (x : Nat) (v : Vocab) : State :=
  s.modText fun t => { t with vocabs := SMap.set (fun _ => {}) t.vocabs x v }
def State.setGrammar (s : State) (x : Nat) (g : Grammar) : State :=
  s.modText fun t => { t with grammars := SMap.set (fun _ => {}) t.grammars x g }

/-! Vocabulary slots (R274, R275). -/

/-- Requests bound to a retired vocabulary slot still run (R274). -/
def State.vocabDraining (s : State) (x : Nat) : Bool :=
  (s.vocab x).retired.isSome && s.allReqs.any fun r => r.vocab == some x && !r.finalDone
/-- Requests bound to a retired grammar slot still run (R293). -/
def State.grammarDraining (s : State) (x : Nat) : Bool :=
  (s.grammar x).retired.isSome && s.allReqs.any fun r => r.grammar == some x && !r.finalDone

/-- A vocabulary slot holds SRAM: it is valid or drains. -/
def State.holdsSram (s : State) (x : Nat) : Bool :=
  decide ((s.vocab x).units ≠ 0) && (s.flag (rKerfVocabBase x) fKerfVocabBaseValid || s.vocabDraining x)

/-- A 64 KiB unit of vocabulary SRAM is free. -/
def State.sramFree (s : State) (u : Nat) : Bool :=
  !(List.range 8).any fun x => s.holdsSram x && decide ((s.vocab x).place ≤ u) && decide (u < (s.vocab x).place + (s.vocab x).units)

/-- The lowest place of `n` free units among 256 (R275). -/
def State.sramPlace (s : State) (n : Nat) : Option Nat :=
  (List.range (257 - n)).find? fun p => (List.range n).all fun i => s.sramFree (p + i)

/-- A registration of vocabulary slot `x` fails with a reason (R274, R302). -/
def State.vocabFail (s : State) (x reason : Nat) : State :=
  let s := (s.setFlag (rKerfVocabBase x) fKerfVocabBaseLoading false).setFlag (rKerfVocabBase x) fKerfVocabBaseDescError true
  (s.setFld rKerfLastError fKerfLastErrorReason reason).setFld rKerfLastError fKerfLastErrorSlot x

/-- VOCAB_REGISTER (R274): a write of `v` to KERF_VOCAB_BASE `x` with VALID = 1. -/
def execVocabRegister (x : Nat) (v : W64) (s : State) : Host.Outcome State Fault Refusal :=
  let a := rKerfVocabBase x
  if 8 ≤ x ∨ s.flag a fKerfVocabBaseValid ∨ s.flag a fKerfVocabBaseLoading then .next s
  else if s.vocabDraining x then .next (s.vocabFail x 6)
  else
    let s := ((s.writeReg a v).setFlag a fKerfVocabBaseValid false).setFlag a fKerfVocabBaseDescError false
    .next (s.setFlag a fKerfVocabBaseLoading true)

/-- Words of `n` bytes from an address that are poisoned, by number. -/
def State.badWords (s : State) (t a n : Nat) : List Nat :=
  (List.range ((n + 3) / 4)).filter fun i => (s.devPeek t (a + 4 * i) 4).2

/-- VOCAB_LOAD_COMPLETE (R274, R275, R278): every Kerf unit has read the image and checked it. -/
def execVocabLoadComplete (x : Nat) (s : State) : Host.Outcome State Fault Refusal :=
  let a := rKerfVocabBase x
  if 8 ≤ x ∨ !s.flag a fKerfVocabBaseLoading ∨ s.blocked (islKerf 0) then .next s
  else
    let t := s.fld a fKerfVocabBaseTent
    let addr := s.fld a fKerfVocabBaseAddr * 64
    match s.servedSpan t addr 0x180 with
    | .wait =>
      let (st, s) := s.originate (islKerf 0)
      .next (s.requestInbound t (addr / 65536) st true)
    | .hbm =>
      let n := vBytes (s.devPeek t addr 0x180).1
      let hdr := (s.devPeek t addr 0x180).1
      if num hdr 0 2 ≠ 1 ∨ n ≠ vHeapAt hdr + vHeap hdr then .next (s.vocabFail x 1)
      else match s.servedSpan t addr n with
        | .wait =>
          let (st, s) := s.originate (islKerf 0)
          .next (((List.range (n / 65536 + 2)).foldl (fun s i =>
            if addr / 65536 + i ≤ (addr + n - 1) / 65536 then s.requestInbound t (addr / 65536 + i) st true else s) s))
        | .hbm =>
          let (img, _, s) := s.devRead t addr n
          let bad := s.badWords t addr n
          let reason := vocabCheck img
          if reason ≠ 0 then .next (s.vocabFail x reason)
          else match s.sramPlace ((n + 65535) / 65536) with
            | none => .next (s.vocabFail x 3)
            | some p =>
              let (st, s) := s.originate (islKerf 0)
              let s := s.setVocab x
                { image := img, bad := bad, place := p, units := (n + 65535) / 65536, since := some st, retired := none }
              .next (((s.setFlag a fKerfVocabBaseLoading false).setFlag a fKerfVocabBaseValid true).setFlag a
                fKerfVocabBaseDescError false)
        | _ => .next (s.vocabFail x 2)
    | _ => .next (s.vocabFail x 2)

/-- VOCAB_RETIRE (R274, R276): a write of VALID = 0 abandons a load, or retires the slot at stamp `r`. -/
def execVocabRetire (x : Nat) (s : State) : Host.Outcome State Fault Refusal :=
  let a := rKerfVocabBase x
  if 8 ≤ x then .next s
  else if s.flag a fKerfVocabBaseLoading then .next (s.setFlag a fKerfVocabBaseLoading false)
  else if s.flag a fKerfVocabBaseValid then
    let (st, s) := s.originate (islKerf 0)
    .next ((s.setVocab x { s.vocab x with retired := some st }).setFlag a fKerfVocabBaseValid false)
  else .next s

/-! Grammar slots (R293, R294). -/

/-- A registration of grammar slot `x` fails with a reason (R293, R302). -/
def State.grammarFail (s : State) (x reason : Nat) : State :=
  let s := (s.setFlag (rGuyImageBase x) fGuyImageBaseLoading false).setFlag (rGuyImageBase x) fGuyImageBaseDescError true
  (s.setFld rGuyLastError fGuyLastErrorReason reason).setFld rGuyLastError fGuyLastErrorSlot x

/-- GRAMMAR_REGISTER (R293): a write of `v` to GUY_IMAGE_BASE `x` with VALID = 1. -/
def execGrammarRegister (x : Nat) (v : W64) (s : State) : Host.Outcome State Fault Refusal :=
  let a := rGuyImageBase x
  if 64 ≤ x ∨ s.flag a fGuyImageBaseValid ∨ s.flag a fGuyImageBaseLoading then .next s
  else if s.grammarDraining x then .next (s.grammarFail x 5)
  else
    let s := ((s.writeReg a v).setFlag a fGuyImageBaseValid false).setFlag a fGuyImageBaseDescError false
    .next (s.setFlag a fGuyImageBaseLoading true)

/-- The ranges of a grammar image's header (R294). -/
def grammarHeaderOk (h : List Byte) : Bool :=
  let v := num h 0xC 4
  decide (1 ≤ num h 4 4) && decide (num h 4 4 ≤ 1048576) && decide (1 ≤ num h 8 4) && decide (num h 8 4 ≤ 16777216) &&
    decide (num h 0x18 4 < num h 4 4) && decide (1 ≤ num h 0x1C 1) && decide (num h 0x1C 1 ≤ 64) &&
    num h 0x20 8 % 64 == 0 && num h 0x28 8 % 64 == 0 && num h 0x30 8 % 64 == 0 &&
    num h 0x3C 4 == 64 * ((v + 511) / 512)

/-- GRAMMAR_LOAD_COMPLETE (R293): every Guyline engine has read and checked the header. -/
def execGrammarLoadComplete (x : Nat) (s : State) : Host.Outcome State Fault Refusal :=
  let a := rGuyImageBase x
  if 64 ≤ x ∨ !s.flag a fGuyImageBaseLoading ∨ s.blocked (islGuyline 0) then .next s
  else
    let t := s.fld a fGuyImageBaseTent
    match s.unitRead t (s.fld a fGuyImageBaseAddr * 64) 128 with
    | .error (.wait w) =>
      let (st, s) := s.originate (islGuyline 0)
      .next (s.requestInbound t (w / 65536) st true)
    | .error _ => .next (s.grammarFail x 2)
    | .ok (h, s) =>
      let k := s.fld a fGuyImageBaseVocab
      let v := (s.vocab k).image
      if num h 0 2 ≠ 1 then .next (s.grammarFail x 1)
      else if grammarHeaderOk h = false then .next (s.grammarFail x 2)
      else if s.flag (rKerfVocabBase k) fKerfVocabBaseValid = false then .next (s.grammarFail x 3)
      else if num h 0x10 8 ≠ num v 8 8 ∨ num h 0xC 4 ≠ vSize v then .next (s.grammarFail x 4)
      else
        let (st, s) := s.originate (islGuyline 0)
        let s := s.setGrammar x { since := some st, retired := none }
        .next (((s.setFlag a fGuyImageBaseLoading false).setFlag a fGuyImageBaseValid true).setFlag a
          fGuyImageBaseDescError false)

/-- GRAMMAR_RETIRE (R293). -/
def execGrammarRetire (x : Nat) (s : State) : Host.Outcome State Fault Refusal :=
  let a := rGuyImageBase x
  if 64 ≤ x then .next s
  else if s.flag a fGuyImageBaseLoading then .next (s.setFlag a fGuyImageBaseLoading false)
  else if s.flag a fGuyImageBaseValid then
    let (st, s) := s.originate (islGuyline 0)
    .next ((s.setGrammar x { s.grammar x with retired := some st }).setFlag a fGuyImageBaseValid false)
  else .next s

/-! The TOKENIZE leg (R282 to R285, R316). -/

/-- A request as its inputs stand when TOKENIZE reads them: a VOLATILE tent's are read then, any other's were captured
with ADMIT (R355, R408, R410). -/
def State.freshInputs (s : State) (r : Request) : Request :=
  if s.durability r.tent ≠ 0 ∨ r.recovered then r
  else
    let (p, b, bad) := s.readParams r.desc
    let (t, bad') := s.readText r.desc
    { r with params := p, bias := b, text := t, textBad := bad || bad' }

/-- The plaintext of item `i` of a request (R281, R476). -/
def State.plainItem (s : State) (r : Request) (i : Nat) (b : List Byte) : Option (List Byte) :=
  if s.sealed r.tent then s.openEnvelope r.tent r.client i b else some b

/-- Limits of the text item and of a passage, defaults taken (R284, R310). -/
def State.queryLimit (s : State) (r : Request) : Nat :=
  if dQueryLimit r.desc ≠ 0 then dQueryLimit r.desc
  else if r.kind = 4 ∨ r.kind = 6 then 524288 else s.fld rKerfCfg fKerfCfgQueryDefault
def State.passageLimit (s : State) (r : Request) : Nat :=
  if dPassageLimit r.desc ≠ 0 then dPassageLimit r.desc else s.fld rKerfCfg fKerfCfgPassageDefault

/-- Note an item: its conditions and the counts of R285 and R516. -/
def State.noteItem (s : State) (r : Request) (k : Tokenized) : State :=
  let s := s.raise r.seq ((if k.truncated then 4 else 0) + (if k.fallback then 0x80 else 0))
  let s := if k.fallback then s.addFld (rKerfStatus r.kerf) fKerfStatusFallbackItems 1 else s
  s.iodEvent r.kerf 0x204 0 r.tent k.tokens.length

/-- A RERANK request's listed passage `i`: its bytes, and whether a word is poisoned; `none` where it does not lie in the
host region or is too long (R283, R311). -/
def State.hostPassage (s : State) (r : Request) (i : Nat) : Option (List Byte × Bool) :=
  let e := dPassageAddr r.desc + 16 * i
  if !s.inHost e 16 then none
  else
    let a := s.hostNum e 8
    let n := s.hostNum (e + 8) 4
    let env := if s.sealed r.tent then 48 else 0
    if n = 0 then some ([], s.dev.mem.host.poisoned e 16)
    else if 4194304 + env < n ∨ !s.inHost a n then none
    else some (s.hostRead a n, s.dev.mem.host.poisoned e 16 || s.dev.mem.host.poisoned a n)

/-- Tokenize the listed passages of a RERANK request from `i` on: an error is a terminal status. -/
def State.rerankItems (r : Request) (v : Vocab) : Nat → Nat → State → Except Nat (List TextItem × State)
  | 0, _, s => pure ([], s)
  | n + 1, i, s => do
    match s.hostPassage r i with
    | none => throw 0x31
    | some (b, bad) =>
      if bad then throw 0x40
      match if b = [] then some [] else s.plainItem r (i + 1) b with
      | none => throw 0x31
      | some p =>
        let k := tokenizeItem v p (s.passageLimit r)
        if k.bad then throw 0x40
        let (ps, s) ← State.rerankItems r v n (i + 1) (s.noteItem r k)
        pure ({ id := i, tokens := k.tokens } :: ps, s)

/-- The stop automaton of a request (R289). -/
def State.readStop (s : State) (r : Request) : Except GErr (List Byte × State) :=
  if dStop r.desc = 0 then pure ([], s)
  else do
    let (h, s) ← s.unitRead r.tent (dStop r.desc) 0x40
    if !stopHeaderOk h then throw (.broken (dStop r.desc))
    let (a, s) ← s.unitRead r.tent (dStop r.desc) (stopBytes h)
    if !stopBodyOk a then throw (.broken (dStop r.desc))
    pure (a, s)

/-- The prompt of a GENERATE request: its tokens, or its template's (R320 to R322). -/
def State.generatePrompt (s : State) (r : Request) (v : List Byte) (query : List Nat) :
    Except GErr (List Nat × State) :=
  if r.kind ≠ 4 then pure ([], s)
  else if dTemplate r.desc = 0 then pure (query, s)
  else do
    let (es, s) ← s.readTemplate r.tent (dTemplate r.desc) v 0
    if dBudget r.desc < fixedTokens es query then throw (.broken (dTemplate r.desc))
    pure (buildPrompt es query [], s)

/-- Finish TOKENIZE: the results of the leg are complete. -/
def State.tokenized (s : State) (r : Request) (query prompt : List Nat) (passages : List TextItem) (stop : List Byte) :
    State :=
  s.modReq r.seq fun q => { q with
    params := r.params, bias := r.bias, text := r.text, query := query, prompt := prompt, passages := passages
    stop := stop, ready := true }

/-- TOKENIZE_LEG (R282, R283, R285, R316): a request whose TOKENIZE leg has started. -/
def execTokenizeLeg (n : Nat) (s : State) : Host.Outcome State Fault Refusal :=
  match s.req n with
  | none => .next s
  | some r0 =>
    if r0.legs.head? ≠ some 1 ∨ !r0.started ∨ r0.ready ∨ s.blocked (islKerf r0.kerf) then .next s
    else
      let r := s.freshInputs r0
      let isl := islKerf r.kerf
      if r.textBad then .next (s.endAt n 0x40 isl true)
      else if s.inputFault r then .next (s.endAt n 0x31 isl)
      else match s.readStop r with
        | .error e => .next (s.unitFail n r.tent isl e)
        | .ok (stop, s) => match s.plainItem r 0 r.text with
          | none => .next (s.endAt n 0x31 isl)
          | some text =>
            let v := s.reqVocab r
            let k := tokenizeItem v text (s.queryLimit r)
            -- too long an item yields no token (R283)
            if 4194304 < text.length then .next (s.endAt n 0x31 isl)
            else if k.bad then .next (s.endAt n 0x40 isl true)
            else match s.generatePrompt r v.image k.tokens with
              | .error e => .next (s.unitFail n r.tent isl e)
              | .ok (prompt, s) =>
                match State.rerankItems r v (if r.kind = 3 then dPassages r.desc else 0) 0 (s.noteItem r k) with
                | .error st => .next (s.endAt n st isl (st == 0x40))
                | .ok (ps, s) => .next (s.tokenized r k.tokens prompt ps stop)

/-! Contexts (R287, R298). -/

/-- Detokenization contexts in use in a Kerf unit, and Guyline contexts on a compute die. -/
def State.kerfContexts (s : State) (i : Nat) : Nat :=
  (s.allReqs.filter fun r => r.gen.kerf.isSome && r.kerf == i && !r.finalDone).length
def State.guyContexts (s : State) (d : Nat) : Nat :=
  (s.allReqs.filter fun r => r.gen.guy.isSome && r.home == d && !r.finalDone).length

/-- A request that waits before PREFILL, or before the prefill of its resumption (R421). -/
def Request.beforePrefill (r : Request) : Bool :=
  r.ended.isNone && ((r.legs.head? == some 7 && !r.started) ||
    (r.resumed && r.legs.head? == some 8 && r.gen.preemptedAt.isSome))

/-- KERF_CONTEXT_ACQUIRE (R287): a request before PREFILL takes a free context; those that wait take them in
admission-stamp order. -/
def execKerfContextAcquire (n : Nat) (s : State) : Host.Outcome State Fault Refusal :=
  match s.req n with
  | none => .next s
  | some r =>
    let earlier := s.allReqs.any fun q => q.beforePrefill && q.kerf == r.kerf && q.gen.kerf.isNone && q.admitReq.before r.admitReq
    if !r.beforePrefill ∨ r.gen.kerf.isSome ∨ earlier ∨ 16384 ≤ s.kerfContexts r.kerf then .next s
    else .next (s.modReq n fun q => { q with gen := { q.gen with kerf := some (s.kerfContexts r.kerf) } })

/-- A request with a grammar image that is inconsistent or out of range ends INPUT_INVALID, and the Guyline engine logs
it (R297, R584). -/
def State.imageInconsistent (s : State) (r : Request) (addr token : Nat) : State :=
  let isl := islGuyline r.home
  let (st, s) := s.logAt isl (protocolRec 6 5 addr 7 token r.tent r.seq)
  (s.endRequest r.seq 0x31 st).addFld (rGuyStatus r.home) fGuyStatusInconsistent 1

/-- GUYLINE_CONTEXT_ACQUIRE (R298): the context carries the configuration START with an empty stack (R295), moved by the
tokens of a resumed request (R421). -/
def execGuylineContextAcquire (n : Nat) (s : State) : Host.Outcome State Fault Refusal :=
  match s.req n with
  | none => .next s
  | some r =>
    let earlier := s.allReqs.any fun q => q.beforePrefill && q.grammar.isSome && q.home == r.home && q.gen.guy.isNone &&
      q.admitReq.before r.admitReq
    if !r.beforePrefill ∨ r.grammar.isNone ∨ r.gen.guy.isSome ∨ earlier ∨ 16384 ≤ s.guyContexts r.home then .next s
    else
      let x := r.grammar.getD 0
      let res : Except GErr (Option GConf) := do
        let g ← s.gImage x
        s.gTokens g (s.reqVocab r).image ⟨g.start, []⟩ r.gen.tokens
      match res with
      | .error e => .next (s.unitFail n r.tent (islGuyline r.home) e)
      | .ok none =>
        let tok := match s.gImage x with
          | .error _ => 0
          | .ok g => (s.gRefuser g (s.reqVocab r).image ⟨g.start, []⟩ r.gen.tokens).getD 0
        .next (s.imageInconsistent r (s.fld (rGuyImageBase x) fGuyImageBaseAddr * 64) tok)
      | .ok (some c) => .next (s.modReq n fun q => { q with
          gen := { q.gen with guy := some (s.guyContexts r.home), guyState := c.state, guyStack := c.stack } })

/-! Masks (R299 to R301). -/

/-- Guyline cannot go on with an image. -/
def State.guyFail (s : State) (r : Request) (t token : Nat) : GErr → State
  | .wait a =>
    let (st, s) := s.originate (islGuyline r.home)
    s.requestInbound t (a / 65536) st true
  | .broken a => s.imageInconsistent r a token
  | .poison _ => s.endAt r.seq 0x40 (islGuyline r.home) true

/-- The configuration a request's context carries. -/
def Seq.conf (g : Seq) : GConf := ⟨g.guyState, g.guyStack⟩

/-- The first of a request's drawn tokens by which its configuration cannot move (R297, R584). -/
def State.refusedToken (s : State) (r : Request) (ts : List Nat) : Nat :=
  match s.gImage (r.grammar.getD 0) with
  | .error _ => ts.headD 0
  | .ok g => (s.gRefuser g (s.reqVocab r).image r.gen.conf ts).getD 0

/-- Every draft token before position `j` is allowed at its position (R300). -/
def Request.draftsAllowed (r : Request) (j : Nat) : Bool :=
  (List.range j).all fun i => match r.gen.drafts[i]? with
    | some d => (SMap.get (fun _ => []) r.gen.masks i).getD d.1 false
    | none => false

/-- GUYLINE_MASK (R296 to R301): the mask of position `j` of a request's next draw. -/
def execGuylineMask (n j : Nat) (s : State) : Host.Outcome State Fault Refusal :=
  match s.req n with
  | none => .next s
  | some r =>
    if r.gen.guy.isNone ∨ r.ended.isSome ∨ s.blocked (islGuyline r.home) ∨ !r.draftsAllowed j then .next s
    else
      let x := r.grammar.getD 0
      let v := (s.reqVocab r).image
      let ds := (r.gen.drafts.take j).map (·.1)
      let res : Except GErr (Option (List Bool)) := do
        let g ← s.gImage x
        match ← s.gTokens g v r.gen.conf ds with
        | none => pure none
        | some c => pure (some (← s.gMask g v c))
      match res with
      | .error e => .next (s.guyFail r (s.fld (rGuyImageBase x) fGuyImageBaseTent) 0 e)
      | .ok none =>
        -- an allowed draft token whose bytes refuse: the image is not consistent (R297)
        .next (s.imageInconsistent r (s.fld (rGuyImageBase x) fGuyImageBaseAddr * 64) (s.refusedToken r ds))
      | .ok (some m) =>
        if j = 0 ∧ m.all (· == false) then
          -- the dead state (R301): its stamp is the Guyline engine's
          .next ((s.endAt n 0x20 (islGuyline r.home)).addFld (rGuyStatus r.home) fGuyStatusDead 1)
        else .next (s.modReq n fun q => { q with
          gen := { q.gen with masks := SMap.set (fun _ => []) q.gen.masks j m } })

end Sys2Proof.Machine
end

