-- ==== Sys2Proof/Machine/Legs.lean ====
section
/-! DEFINITION. The EMBED, RERANK and PACK legs and the completion of a leg (R28 to R33, R317 to R322, R409). -/

namespace Sys2Proof.Machine

/-- The current leg of a request is `k`, has started and is not complete. -/
def Request.inLeg (r : Request) (k : Nat) : Bool := r.legs.head? == some k && r.started && !r.ready

/-- EMBED_LEG (R29, R316): the embedding model's output for the query tokens is `vec`; a poisoned word ends the request. -/
def execEmbedLeg (n : Nat) (vec : List W32) (bad : Bool) (s : State) : Host.Outcome State Fault Refusal :=
  match s.req n with
  | none => .next s
  | some r =>
    if !r.inLeg 2 ∨ s.blocked (islSequencer r.home) then .next s
    else if s.inputFault r then .next (s.endAt n 0x31 (islSequencer r.home))
    else if bad then .next (s.endAt n 0x40 (islSequencer r.home) true)
    else .next (s.modReq n fun q => { q with vector := vec, ready := true })

/-! RERANK (R317). -/

/-- Passage `id` of a RAG request's directory, tokenized and cut (R311, R316, R285). -/
def State.ragPassage (r : Request) (v : Vocab) (id : Nat) (s : State) : Except GErr (TextItem × State) := do
  let (e, s) ← s.unitRead r.tent (dPassageAddr r.desc + 16 * id) 16
  let n := field e 8 4
  if 4194304 < n then throw (.broken (dPassageAddr r.desc + 16 * id))
  let (b, s) ← (if n = 0 then pure ([], s) else s.unitRead r.tent (field e 0 8) n)
  let k := tokenizeItem v b (s.passageLimit r)
  if k.bad then throw (.poison (field e 0 8))
  pure ({ id := id, tokens := k.tokens }, s.noteItem r k)

/-- The passages of a RAG request's first entries. -/
def State.ragPassages (r : Request) (v : Vocab) : List Nat → State → Except GErr (List TextItem × State)
  | [], s => pure ([], s)
  | i :: is, s => do
    let (p, s) ← State.ragPassage r v i s
    let (ps, s) ← State.ragPassages r v is s
    pure (p :: ps, s)

/-- The passages that RERANK scores (R316, R317). -/
def State.rerankPassages (s : State) (r : Request) (v : Vocab) : Except GErr (List TextItem × State) :=
  if r.kind = 3 then pure (r.passages, s)
  else State.ragPassages r v ((r.list.entries.take (dRerankDepth r.desc)).map (·.id)) s

/-- Condition flags of a result list (R340). -/
def ResList.conditions (l : ResList) : Nat :=
  (if l.short then 1 else 0) + (if l.tied then 2 else 0) + (if l.nans = 0 then 0 else 0x100)

/-- RERANK_LEG (R317): the pairs are built and the re-ranker's FP32 scores, in pair order, are `scores`; they are ordered
largest-first. -/
def execRerankLeg (n : Nat) (scores : List PWord) (s : State) : Host.Outcome State Fault Refusal :=
  match s.req n with
  | none => .next s
  | some r =>
    if !r.inLeg 5 ∨ s.blocked (islSequencer r.home) then .next s
    else
      let isl := islSequencer r.home
      let v := s.reqVocab r
      let res : Except GErr (List TElem × List TextItem × State) := do
        let (es, s) ← s.readTemplate r.tent (dPair r.desc) v.image 1
        let (ps, s) ← s.rerankPassages r v
        pure (es, ps, s)
      match res with
      | .error e => .next (s.unitFail n r.tent isl e)
      | .ok (es, ps, s) =>
        let slot := if r.kind = 3 then dModel r.desc else dRerankSlot r.desc
        if ps.any fun p => decide (s.modelMax r.tent slot < (buildPrompt es r.query [p.tokens]).length) then
          .next (s.endAt n 0x31 isl)
        else if scores.length ≠ ps.length then .next s
        else if scores.any (·.poison) then .next (s.endAt n 0x40 isl true)
        else
          let k := if r.kind = 3 then dPassages r.desc else dRerankDepth r.desc
          let l := selectTop 0 false k ((scores.zip ps).map fun x => (x.1.data.toNat, x.2.id))
          .next ((s.raise n l.conditions).modReq n fun q => { q with passages := ps, list := l, ready := true })

/-! PACK (R321, R319). -/

/-- Tokens of a passage of a request. -/
def Request.passageTokens (r : Request) (id : Nat) : List Nat :=
  ((r.passages.find? (·.id == id)).map (·.tokens)).getD []

/-- The returned passages of R319: 16 bytes each. -/
def packedBytes (l : List (Nat × W32 × Nat)) : List Byte :=
  l.flatMap fun e => leBytes 8 e.1 ++ leBytes 4 e.2.1.toNat ++ leBytes 4 e.2.2

/-- PACK_LEG (R321, R322). -/
def execPackLeg (n : Nat) (s : State) : Host.Outcome State Fault Refusal :=
  match s.req n with
  | none => .next s
  | some r =>
    if !r.inLeg 6 ∨ s.blocked (islKerf r.kerf) then .next s
    else
      let isl := islKerf r.kerf
      match s.readTemplate r.tent (dTemplate r.desc) (s.reqVocab r).image 1 with
      | .error e => .next (s.unitFail n r.tent isl e)
      | .ok (es, s) =>
        let fixed := fixedTokens es r.query
        if dBudget r.desc < fixed then .next (s.endAt n 0x31 isl)
        else
          let ranked := r.list.entries.map fun e => (e, r.passageTokens e.id)
          let kept := ranked.take (packRun (dBudget r.desc) (separator es) fixed (ranked.map (·.2)))
          .next (s.modReq n fun q => { q with
            packed := kept.map fun e => (e.1.id, e.1.score, e.2.length)
            prompt := buildPrompt es r.query (kept.map (·.2)), ready := true })

/-! Completion (R31, R335, R409). -/

/-- The result bytes of a request of a kind other than GENERATE and RAG (R318). -/
def Request.resultBytes (r : Request) : List Byte :=
  match r.kind with
  | 1 => r.vector.flatMap fun x => leBytes 4 x.toNat
  | 2 => if r.result = [] then r.list.bytes ++ r.stats else r.result
  | 3 => r.list.bytes
  | 6 => r.query.flatMap fun t => leBytes 4 t
  | 8 => r.result
  | _ => []

/-- The leg data that a completed leg journals, with its LEG code (R408, R409); an INDEX_MUTATE has no result bytes
(R318). -/
def Request.legData (r : Request) (st : Stamp) : List (Nat × List Byte) :=
  (match r.legs.headD 0 with
    | 4 => [(1, if r.result = [] then r.list.bytes ++ r.stats else r.result)]
    | 5 => [(2, r.list.bytes)]
    | 6 => [(3, (r.packed.flatMap fun e => leBytes 8 e.1) ++ leBytes 4 r.prompt.length ++
        leBytes 16 ((Config.sha3 (r.prompt.flatMap fun t => leBytes 4 t)).toNat % 2 ^ 128))]
    | 9 => [(5, if r.result = [] then st.bytes else r.result)]
    | _ => []) ++
  (if r.legs.length = 1 ∧ !genKind r.kind ∧ r.kind ≠ 7 then [(4, r.resultBytes)] else [])

/-- Records that a completed leg composes: the result, or the passages returned (R318, R319). -/
def Request.legRecords (r : Request) (st : Stamp) : List StrmRec :=
  if r.legs.headD 0 = 6 ∧ (dFlags r.desc).testBit 1 then resultRecords st.tick (packedBytes r.packed)
  else if r.legs.length = 1 ∧ !genKind r.kind then resultRecords st.tick r.resultBytes
  else []

/-- Journal a completed leg's data (R409), none for a VOLATILE tent (R410). -/
def State.journalLeg (s : State) (r : Request) (st : Stamp) : State :=
  if s.durability r.tent = 0 then s
  else (r.legData st).foldl (fun s d => s.sendJournal (s.jrecFor r st (.leg d.1 d.2))) s

/-- The request with its completed leg taken away: the next leg, or the natural end OK_DONE. -/
def Request.nextLeg (r : Request) (st : Stamp) (covered : Bool) : Request :=
  let recs := r.legRecords st
  let r := { r with
    groups := if recs = [] then r.groups else r.groups ++ ([⟨recs, st, covered, none, false, 0⟩] : List PubGroup) }
  if r.legs.length = 1 ∧ !genKind r.kind then r.end_ 0 st
  else { r with legs := r.legs.drop 1, started := false, ready := false }

/-- LEG_COMPLETE (R31, R335, R409). -/
def execLegComplete (n : Nat) (s : State) : Host.Outcome State Fault Refusal :=
  match s.req n with
  | none => .next s
  | some r =>
    if !r.ready ∨ r.legs = [] ∨ r.ended.isSome ∨ s.blocked r.legIsland then .next s
    else if r.resultBad then .next (s.endAt n 0x40 r.legIsland true)
    else
      let (st, s) := s.originate r.legIsland
      let s := ((s.traceAt st 0x12 r.tent (r.legs.headD 0) n).journalLeg r st).endCut n st
      let s := s.modReq n fun q => q.nextLeg st (s.durability r.tent == 0)
      .next (s.legReady n)

end Sys2Proof.Machine
end

