-- ==== Sys2Proof/Machine/EngMem.lean ====
section
/-! DEFINITION. Accesses of Lantern and of the table engines to a tent's device range (R239, R245, R489): a small state
monad that stops where a panel has to be brought in or the request ends. -/

namespace Sys2Proof.Machine

/-- Why an engine cannot go on. -/
inductive EngErr where
  /-- A panel has to be brought in: device-range address. -/
  | wait (addr : Nat)
  /-- The request ends with this status; whether the unit logs the data it met at the address (R198, R491). -/
  | stop (status addr : Nat) (bad : Bool)
  deriving DecidableEq, Repr

/-- An engine's work: all of it is done, or none. -/
abbrev EM := StateT State (Except EngErr)

def EM.stop {α : Type} (status addr : Nat) (bad : Bool := false) : EM α := fun _ => .error (.stop status addr bad)

/-- `n` bytes from `a` of tent `t` are served from HBM now. -/
def EM.served (t a n : Nat) : EM Unit := fun s =>
  match s.servedSpan t a n with
  | .hbm => .ok ((), s)
  | .wait => .error (.wait (s.firstWait t a n))
  | .invalid => .error (.stop 0x41 a false)
  | .retired => .error (.stop 0x40 a false)

/-- Read bytes; poison ends the request. -/
def EM.read (t a n : Nat) : EM (List Byte) := do
  EM.served t a n
  let s ← get
  let (b, bad, s) := s.devRead t a n
  if bad then EM.stop 0x40 a true
  else
    set s
    return b

/-- Write bytes. -/
def EM.write (t a : Nat) (bs : List Byte) : EM Unit := do
  EM.served t a bs.length
  modify fun s => s.devWrite t a bs

/-- The log record of a unit that met bad data. -/
def badData (t n a : Nat) : ErrRec := { poisonRec t n with address := a, space := 7 }

/-- Request `n` cannot go on at an engine's island. -/
def State.engFail (s : State) (n t isl : Nat) : EngErr → State
  | .wait a =>
    let (st, s) := s.originate isl
    s.requestInbound t (a / 65536) st true
  | .stop status a bad =>
    if bad then
      let (st, s) := s.logAt isl (badData t n a)
      s.endRequest n status st
    else s.endAt n status isl

/-- Do an engine's work for request `n`. -/
def State.engine (s : State) (n t isl : Nat) (w : EM Unit) : State :=
  match w s with
  | .ok ((), s) => s
  | .error e => s.engFail n t isl e

end Sys2Proof.Machine
end

