-- ==== Sys2Proof/Machine/Coupler.lean ====
section
/-! DEFINITION. Couplers (R20, R51, R486, R489): delivery in order with the check of the payload, and watermarks. -/

namespace Sys2Proof.Machine

/-- The key of the coupler path from one island to another. -/
def couplerKey (src dst : Nat) : Nat := src * 4096 + dst

/-- The items a coupler path holds, oldest first. -/
def State.coupler (s : State) (src dst : Nat) : List Item :=
  SMap.get (fun _ => []) s.dev.couplers (couplerKey src dst)

/-- Replace the items of a coupler path. -/
def State.setCoupler (s : State) (src dst : Nat) (l : List Item) : State :=
  { s with dev := { s.dev with couplers := SMap.set (fun _ => []) s.dev.couplers (couplerKey src dst) l } }

/-- The sending island puts an item behind those the path holds (R20). -/
def State.send (s : State) (src dst : Nat) (i : Item) : State :=
  let s := s.setCoupler src dst (s.coupler src dst ++ [i])
  { s with dev := { s.dev with
      couplerSent := SMap.set (fun _ => 0) s.dev.couplerSent (couplerKey src dst) (s.copy src) } }

/-- Items delivered to an island that its unit has not taken. -/
def State.inboxOf (s : State) (n : Nat) : List Item := SMap.get (fun _ => []) s.dev.inbox n
def State.setInbox (s : State) (n : Nat) (l : List Item) : State :=
  { s with dev := { s.dev with inbox := SMap.set (fun _ => []) s.dev.inbox n l } }

/-- The mask of inverted codeword bits of payload word `k`. -/
def flipsOf (flips : List (Nat × Nat)) (k : Nat) : Nat :=
  flips.foldl (fun m e => if e.1 = k then m ^^^ e.2 else m) 0

/-- Check every payload word at the receiving coupler (R486): the words delivered and the state with the records. -/
def State.checkPayload (s : State) (dst : Nat) (flips : List (Nat × Nat)) : Nat → List PWord → List PWord × State
  | _, [] => ([], s)
  | k, w :: ws =>
    let (w', s) := s.checkWord dst 0x0500 0 0 (flipsOf flips k) w
    let (ws', s) := State.checkPayload s dst flips (k + 1) ws
    (w' :: ws', s)

/-- Log `n` failed attempts of a die-to-die transfer that its bridge resent (R489). -/
def State.logReplays (s : State) (bridge : Nat) : Nat → State
  | 0 => s
  | n + 1 =>
    State.logReplays (s.log bridge { detector := 0x0600, severity := 0, action := 7 }) bridge n

/-- Whether a freeze holds an item in the receiving coupler (R57). -/
def State.heldByFreeze (s : State) (dst : Nat) : Bool := freezeScope dst && decide (2 ≤ s.freezeState)

/-- COUPLER_DELIVER (R20): the oldest item of the path from `src` to `dst` reaches its island.  `flips` names the
codeword bits inverted in flight by payload word, `ctlBad` an uncorrectable stamp, routing or kind field, `tries` the
failed attempts at the bridge `bridge` (0: none). -/
def execCouplerDeliver (src dst : Nat) (flips : List (Nat × Nat)) (ctlBad : Bool) (bridge tries : Nat) (s : State) :
    Host.Outcome State Fault Refusal :=
  match s.coupler src dst with
  | [] => .next s
  | i :: is =>
    if s.heldByFreeze dst then .next s
    else if tries ≥ 4 then
      -- all four resends failed (R489, R582)
      .next ((s.setCoupler src dst is).enterFailsafe bridge
        { detector := 0x0600, address := dst, space := 12 } 6 none)
    else
      let s := (s.setCoupler src dst is).logReplays bridge tries
      if ctlBad then
        .next (s.enterFailsafe dst { detector := 0x0500, address := src, space := 12 } 5 none)
      else
        let (ws, s) := s.checkPayload dst flips 0 i.payload
        let s := s.receive dst i.stamp.tick
        match i.kind with
        | .watermark => .next s
        | _ => .next (s.setInbox dst (s.inboxOf dst ++ [{ i with payload := ws }]))

/-- WATERMARK_SEND (R51): on a path that has carried nothing from the island for 64 ticks of its copy. -/
def execWatermarkSend (src dst : Nat) (s : State) : Host.Outcome State Fault Refusal :=
  if s.blocked src ∨
      s.copy src < SMap.get (fun _ => 0) s.dev.couplerSent (couplerKey src dst) + 64 then .next s
  else
    let (st, s) := s.originate src
    .next (s.send src dst { stamp := st, sender := src, holder := dst, kind := .watermark })

end Sys2Proof.Machine
end

