-- ==== Sys2Proof/Machine/Remote.lean ====
section
/-! DEFINITION. Messages and remote access as bays issue them (R116 to R118), opcodes 0x68 to 0x6C, and what a reply does
(R385, R445 to R447). -/

namespace Sys2Proof.Machine

/-! Operations that wait for another package. -/

/-- Issue one transaction of a crew's operation: its stamp, its tag, and the entry that waits for the reply. -/
def State.remoteIssue (s : State) (o : RemoteOp) (t : Txn) : State :=
  let isl := s.bayIsland o.bay
  let (st, s) := s.originate isl
  let tag := s.dev.fab.nextTag
  let s := s.noteEffect o.bay o.slot st
  let s := s.modFab fun x => { x with
    nextTag := (tag + 1) % 2 ^ 32
    ops := x.ops ++ [{ o with tag := tag, stamp := st, tent := t.tent, dest := t.dest, since := s.liveTick }] }
  s.fabSend { t with stamp := st, src := isl, tag := tag, cls := 1 }

/-- The operation has no reply outstanding any more: it can land. -/
def State.remoteOver (s : State) (bay slot id : Nat) : State :=
  if s.dev.fab.ops.any fun o => o.bay == bay && o.slot == slot && o.opId == id && !o.dead then s
  else s.modCrew bay slot fun c =>
    { c with ops := c.ops.map fun o => if o.id = id then { o with remote := none, ready := true } else o }

/-- Take an operation out of those that wait. -/
def State.dropOp (s : State) (o : RemoteOp) : State := s.modFab fun x => { x with ops := x.ops.filter (·.tag != o.tag) }

/-- Data arrive for an operation (R118, R445). -/
def State.remoteData (s : State) (o : RemoteOp) (b : List Byte) (bad : Bool) : State :=
  let s := s.dropOp o
  if o.dead then s
  else
    let s := match o.use with
      | .regs d n => s.fillOp o.bay o.slot o.opId (fillRegs d n false (leNat b) bad)
      | .store off => s.modCrew o.bay o.slot fun c => { c with ops := c.ops.map fun (q : LongOp) =>
          if q.id = o.opId then
            { q with bytes := q.bytes.take off ++ b ++ q.bytes.drop (off + b.length), poisoned := q.poisoned || bad }
          else q }
      | .done => s
    s.remoteOver o.bay o.slot o.opId

/-- A deferred trap with this detail in place of the operation's landing; a posted one has its fault land alone. -/
def State.remoteTrap (s : State) (o : RemoteOp) (cause detail : Nat) : State :=
  s.failOp o.bay o.slot o.opId o.pc cause o.lane detail

/-- A fault of an operation: REMOTE_FAULT with its code, or, of a local device-range access, the trap that R109 gives (R118,
R446). -/
def State.remoteFault (s : State) (o : RemoteOp) (code : Nat) : State :=
  let s := s.dropOp o
  if o.dead then s
  else
    let s := if o.dest = s.deviceNum ∧ code = 3 then s.remoteTrap o trapDeviceRange o.addr
      else if o.dest = s.deviceNum ∧ code = 4 then s.remoteTrap o trapPanelRetired o.addr
      else s.remoteTrap o trapRemoteFault code
    s.remoteOver o.bay o.slot o.opId

/-! MSG.SEND (R116, R117). -/

/-- Bytes of the bay store from `a` with their poison. -/
def State.storeBytesOf (s : State) (bay a n : Nat) : List Byte × Bool :=
  ((s.bay bay).store.read a n, (s.bay bay).store.poisoned a n)

/-- Payload words of a message. -/
def wordsOf (b : List Byte) (bad : Bool) : List PWord :=
  (List.range ((b.length + 3) / 4)).map fun i => ⟨BitVec.ofNat 32 (leNat ((b.drop (4 * i)).take 4)), bad⟩

/-- MSG_SEND: 1 to 64 bytes to a bay of the tent, whose slot is then signalled; posted.  To another package, a payload that
holds poison sends nothing and takes REMOTE_FAULT with code POISON (R491, R492). -/
def execMsgSend (bay slot : Nat) (f : Short) (s : State) : Host.Outcome State Fault Refusal :=
  if !s.fetches bay slot 0x68 f none then .next s else
  .next (s.issue bay slot f { a := .u, b := .u, c := .u, func := 0x7F } fun c _ s =>
    let n := fn f
    let a := (c.readU f.srca.toNat).val.toNat
    let b := (c.readU f.srcb.toNat).val
    let d := (c.readU f.srcc.toNat).val.toNat
    let target := getBits b 0 8
    let dev := getBits b 8 12
    let ev := getBits b 20 8
    if n = 0 ∨ 64 < n then s.trapAll bay slot c trapBadOperand
    else if (c.readU f.srca.toNat).poison || (c.readU f.srcb.toNat).poison || (c.readU f.srcc.toNat).poison then
      s.trapAll bay slot c trapPoisonedControl
    else if s.bayEnd bay < a + n then s.trapAll bay slot c trapLocalRange (BitVec.ofNat 64 a)
    else if dev = s.deviceNum ∧ (s.bay target).tent ≠ (s.bay bay).tent then s.trapAll bay slot c trapTentViolation
    else
      let (m, bad) := s.storeBytesOf bay a n
      let id := c.nextOp
      let s := s.setCrew bay slot { c.advance {} with nextOp := id + 1 }
      if dev = s.deviceNum then
        let (st, s) := s.originate (s.bayIsland bay)
        (s.noteEffect bay slot st).send (s.bayIsland bay) (s.bayIsland target)
          { stamp := st, sender := s.bayIsland bay, holder := s.bayIsland target, kind := .message d ev, tent := s.bayTent bay
            payload := wordsOf m bad, bytes := n }
      else if bad then s.failOp bay slot id c.pc trapRemoteFault ((lanes c.active).headD 0) 5
      else
        (s.bayEvent bay 0x00E).remoteIssue { bay := bay, slot := slot, opId := id, pc := c.pc, lane := (lanes c.active).headD 0 }
          { dest := dev, op := 4, tent := s.bayTent bay, addr := d % 2 ^ 22 + target * 2 ^ 22 + ev * 2 ^ 30, size := n, pay := .bytes m })

/-- The oldest message among delivered items, and the rest. -/
def takeMessage : List Item → Option (Item × Nat × Nat × List Item)
  | [] => none
  | i :: is => match i.kind with
    | .message a e => some (i, a, e, is)
    | _ => (takeMessage is).map fun r => (r.1, r.2.1, r.2.2.1, i :: r.2.2.2)

/-- The bytes of payload words. -/
def payloadBytes (n : Nat) (ws : List PWord) : List Byte := (ws.flatMap fun w => leBytes 4 w.data.toNat).take n

/-- MESSAGE_DELIVER (R116): the oldest message at a bay is copied to its bay store, and then its slot is signalled. -/
def execMessageDeliver (bay : Nat) (s : State) : Host.Outcome State Fault Refusal :=
  let isl := s.bayIsland bay
  match takeMessage (s.inboxOf isl) with
  | none => .next s
  | some (i, a, e, is) =>
    if s.heldByFreeze isl then .next s
    else
      let s := s.setInbox isl is
      if (s.bay bay).tent ≠ some i.tent then .next s
      else
        let room := bayStoreSize - a
        .next ((s.modBay bay fun b =>
          { b with store := b.store.write a ((payloadBytes i.bytes i.payload).take room) (i.payload.any (·.poison)) }.signal e 1).bayEvent
            bay 0x00D)

/-! REMOTE.LOAD and REMOTE.ATOM (R118). -/

/-- Device number of an instruction word. -/
def remoteDevice (f : Short) : Nat := fn f / 256 % 4096

/-- REMOTE_LOAD: a local device-range load where the device number is the part's own. -/
def execRemoteLoad (bay slot : Nat) (f : Short) (s : State) : Host.Outcome State Fault Refusal :=
  if !s.fetches bay slot 0x6B f none then .next s else
  let k := fn f % 8
  let n := if k = 3 then 8 else 4
  let s0 := s
  .next (s.issue bay slot f { dst := .v (n / 4), a := .u, b := .v 1, func := 0xFFF07, guarded := true } fun c ex s =>
    if k ≠ 2 ∧ k ≠ 3 then s.trapAll bay slot c trapBadOperand
    else if atomPoison c f ex ≠ 0 then s.trap bay slot c.pc trapPoisonedControl (atomPoison c f ex) 0
    else match laneFault ex fun l => devCause n (atomAddr c f l) with
      | some (l, k, m) => s.trap bay slot c.pc k m (BitVec.ofNat 64 (atomAddr c f l))
      | none =>
        let key (l : Nat) := 64 * l + f.dst.toNat
        let own := remoteDevice f == s.deviceNum
        s.beginLong s0 bay slot c { regs := (lanes ex).flatMap fun l => fillRegs (key l) n false 0 false, reqs := (lanes ex).length
                                    remote := if own then none else some 0 } fun id s =>
          if own then
            let (st, s) := s.originate (s.bayIsland bay)
            ((lanes ex).foldl (fun s l => s.access
              { stamp := st, tent := s.bayTent bay, addr := atomAddr c f l, size := n, op := .load, bay := bay, slot := slot
                opId := id, pc := c.pc, dest := some (key l) } l) (s.noteEffect bay slot st)).markReady bay slot id
          else (lanes ex).foldl (fun s l => s.remoteIssue
            { bay := bay, slot := slot, opId := id, pc := c.pc, lane := l, addr := atomAddr c f l, use := .regs (key l) n }
            { dest := remoteDevice f, op := 1, tent := s.bayTent bay, addr := atomAddr c f l, size := n }) (s.bayEvent bay 0x00E))

/-- Lanes whose operand, or compare value, of a remote atomic is poisoned. -/
def remotePoison (c : Crew) (f : Short) (ex : W32) : W32 :=
  laneMask fun l => lane ex l && ((groupData c f.srcc.toNat (atomBytes f / 4) l).2 ||
    (atomOp f == 9 && (groupData c f.dst.toNat (atomBytes f / 4) l).2))

/-- REMOTE_ATOM: operations as ATOM.DEV; to another package a poisoned operand traps (R107, R492). -/
def execRemoteAtom (bay slot : Nat) (f : Short) (s : State) : Host.Outcome State Fault Refusal :=
  if !s.fetches bay slot 0x6C f none then .next s else
  let s0 := s
  .next (s.issue bay slot f (atomForm f 0xFFF3F) fun c ex s =>
    let n := atomBytes f
    if !atomOk f then s.trapAll bay slot c trapBadOperand
    else if atomPoison c f ex ≠ 0 then s.trap bay slot c.pc trapPoisonedControl (atomPoison c f ex) 0
    else if remoteDevice f ≠ s.deviceNum ∧ remotePoison c f ex ≠ 0 then
      s.trap bay slot c.pc trapPoisonedControl (remotePoison c f ex) 0
    else match laneFault ex fun l => devCause n (atomAddr c f l) with
      | some (l, k, m) => s.trap bay slot c.pc k m (BitVec.ofNat 64 (atomAddr c f l))
      | none =>
        let key (l : Nat) := 64 * l + f.dst.toNat
        let own := remoteDevice f == s.deviceNum
        let regs := if atomNoret f then [] else (lanes ex).flatMap fun l => fillRegs (key l) n false 0 false
        (s.beginLong s0 bay slot c { regs := regs, reqs := (lanes ex).length, remote := if own then none else some 0 } fun id s =>
          if own then
            let (st, s) := s.originate (s.bayIsland bay)
            ((s.laneOrder ex).foldl (fun s l =>
              let d := groupData c f.srcc.toNat (n / 4) l
              let cmp := groupData c f.dst.toNat (n / 4) l
              s.access { stamp := st, tent := s.bayTent bay, addr := atomAddr c f l, size := n
                         op := .atom (atomOp f) (BitVec.ofNat 64 cmp.1), data := BitVec.ofNat 128 d.1
                         poison := d.2 || (atomOp f == 9 && cmp.2)
                         bay := bay, slot := slot, opId := id, pc := c.pc
                         dest := if atomNoret f then none else some (key l) } l) (s.noteEffect bay slot st)).markReady bay slot id
          else (s.laneOrder ex).foldl (fun s l =>
            let d := groupData c f.srcc.toNat (n / 4) l
            let cmp := (groupData c f.dst.toNat (n / 4) l).1
            s.remoteIssue
              { bay := bay, slot := slot, opId := id, pc := c.pc, lane := l, addr := atomAddr c f l
                use := if atomNoret f then .done else .regs (key l) n }
              { dest := remoteDevice f, op := 3, tent := s.bayTent bay, addr := atomAddr c f l, size := n
                pay := .atomic (atomOp f) d.1 cmp }) (s.bayEvent bay 0x00E)).skipFree)

/-! REMOTE.GET and REMOTE.PUT (R118, R445). -/

/-- The transactions of a copy of `n` bytes: offset and bytes of each, 4,096 at most. -/
def copyPieces (n : Nat) : List (Nat × Nat) := (List.range ((n + 4095) / 4096)).map fun i => (4096 * i, min 4096 (n - 4096 * i))

/-- The checks of a copy at issue, then `go` with the remote address, the bay store address, the bytes and the device. -/
def State.remoteCopy (s : State) (bay slot : Nat) (f : Short) (go : Crew → Nat → Nat → Nat → Nat → State → State) : State :=
  s.issue bay slot f { a := .u, b := .u, c := .u, func := 0x1FFFFFF } fun c _ s =>
    let a := (c.readU f.srca.toNat).val.toNat
    let d := (c.readU f.srcc.toNat).val.toNat
    let n := 64 * (fn f % 65536)
    if n = 0 then s.trapAll bay slot c trapBadOperand
    else if (c.readU f.srca.toNat).poison || (c.readU f.srcb.toNat).poison || (c.readU f.srcc.toNat).poison then
      s.trapAll bay slot c trapPoisonedControl
    else if s.bayEnd bay < d + n then s.trapAll bay slot c trapLocalRange (BitVec.ofNat 64 d)
    else go c a d n (getBits (c.readU f.srcb.toNat).val 0 12) s

/-- The slot that the copy signals. -/
def remoteSlot (f : Short) : Option Nat := if fbit f 24 then some (fn f / 65536 % 256) else none

/-- REMOTE_GET. -/
def execRemoteGet (bay slot : Nat) (f : Short) (s : State) : Host.Outcome State Fault Refusal :=
  if !s.fetches bay slot 0x69 f none then .next s else
  let s0 := s
  .next (s.remoteCopy bay slot f fun c a d n dev s =>
    s.beginLong s0 bay slot c { remote := some 0, addr := d, bytes := List.replicate n 0, slot := remoteSlot f, reqs := min (n / 64) 4096 }
      fun id s => (copyPieces n).foldl (fun s p => s.remoteIssue
        { bay := bay, slot := slot, opId := id, pc := c.pc, lane := (lanes c.active).headD 0, addr := a + p.1, use := .store p.1 }
        { dest := dev, op := 1, tent := s.bayTent bay, addr := a + p.1, size := p.2 }) (s.bayEvent bay 0x00E))

/-- REMOTE_PUT: one whose source holds poison sends nothing to another package, and takes REMOTE_FAULT with code POISON
(R491). -/
def execRemotePut (bay slot : Nat) (f : Short) (s : State) : Host.Outcome State Fault Refusal :=
  if !s.fetches bay slot 0x6A f none then .next s else
  let s0 := s
  .next (s.remoteCopy bay slot f fun c a d n dev s =>
    let (b, bad) := s.storeBytesOf bay d n
    let l := (lanes c.active).headD 0
    if bad ∧ dev ≠ s.deviceNum then
      s.beginLong s0 bay slot c
        { ready := true, trap := some (trapRemoteFault, BitVec.ofNat 32 (2 ^ l), 5), reqs := min (n / 64) 4096 } fun _ s => s
    else
      s.beginLong s0 bay slot c { remote := some 0, slot := remoteSlot f, reqs := min (n / 64) 4096 } fun id s =>
        (copyPieces n).foldl (fun s p => s.remoteIssue
          { bay := bay, slot := slot, opId := id, pc := c.pc, lane := l, addr := a + p.1 }
          { dest := dev, op := 2, tent := s.bayTent bay, addr := a + p.1, size := p.2, pay := .bytes ((b.drop p.1).take p.2)
            bad := bad })
          (s.bayEvent bay 0x00E))

end Sys2Proof.Machine
end

