-- ==== Sys2Proof/Machine/Fabric.lean ====
section
/-! DEFINITION. Fabric links (R432 to R443, R455 to R457): bring-up, flits, sealing, time exchange, routing and link
failure. -/

namespace Sys2Proof.Machine

/-- The package has the link. -/
def State.hasLink (s : State) (l : Nat) : Bool := decide (l < s.dev.desc.links)

/-- Set a link's STATE, LINKS_UP with it, and trace the change (R520). -/
def State.setLinkState (s : State) (l st : Nat) : State :=
  let s := s.setFld (rFabLinkStatus l) fFabLinkStatusState st
  let s := s.setFld rFabStatus fFabStatusLinksUp (setBit (s.fld rFabStatus fFabStatusLinksUp) l (st == 3))
  s.trace (islLink l) 0x60 0xFF (l + 256 * st + 4096 * s.fld (rFabLinkStatus l) fFabLinkStatusDownReason)
    (s.fld (rFabLinkStatus l) fFabLinkStatusPeerDevice)

/-- The time root, the hops to it and the parent (R439): the lowest device number that any UP link reports, and this
package's own. -/
def State.timeTree (s : State) : State :=
  let ls := s.upLinks
  let root := ls.foldl (fun r l => min r (s.link l).farRoot) s.deviceNum
  let cand := ls.filter fun l => (s.link l).farRoot == root
  let best := cand.foldl (fun (b : Option Nat) l => match b with
    | none => some l
    | some k => if (s.link l).farHops < (s.link k).farHops then some l else some k) none
  let s := s.setFld rFabStatus fFabStatusTimeRoot root
  match (if root = s.deviceNum then none else best) with
  | none => (s.setFld rFabStatus fFabStatusRootHops 0).setFlag rFabStatus fFabStatusParentValid false
  | some l => ((s.setFld rFabStatus fFabStatusRootHops ((s.link l).farHops + 1)).setFld rFabStatus fFabStatusTimeParent l).setFlag
      rFabStatus fFabStatusParentValid true

/-! Down (R455, R456). -/

/-- A link goes DOWN: its notice is broadcast to the far end's package, and what it has not sent is held (R456). -/
def State.takeDown (s : State) (l reason : Nat) : State :=
  let up := s.linkUp l
  let x := s.link l
  let s := (s.setFld (rFabLinkStatus l) fFabLinkStatusDownReason reason).setLinkState l (if reason = 8 then 4 else 0)
  let s := s.addFld (rFabLinkErrs l) fFabLinkErrsDownEvents 1
  if !up then s.setLink l { x with keyed := false, trainedAt := s.ao.tick }
  else
    let s := (s.setLink l { x with
      queue := [], held := x.queue.filter (fun f => f.type == 2 || f.type == 3) ++ x.held, waiting := some s.ao.tick
      keyed := false, trainedAt := s.ao.tick, resend := [], retry := [], lost := x.lost ++ x.retry }).timeTree
    s.upLinks.foldl (fun s m =>
      let (st, s) := s.originate (islLink l)
      let t : Txn := { stamp := st, dest := s.fld (rFabLinkStatus l) fFabLinkStatusPeerDevice, op := 0x40
                       pay := .notice l ((x.rxSeq + 4095) % 4096) }
      t.flits.foldl (fun s f => s.queueFlit m none f) s) s

/-- LINK_DOWN (R455): block lock lost (2), a flit replayed eight times (3), no ACK for 10 µs with flits outstanding (4), skew
(5), a flit that breaks the protocol (7). -/
def execLinkDown (l reason : Nat) (s : State) : Host.Outcome State Fault Refusal :=
  let x := s.link l
  let st := s.linkState l
  let due : Bool :=
    if reason = 2 ∨ reason = 7 then true
    else if reason = 3 then decide (8 ≤ x.replays)
    else if reason = 4 then x.retry != [] && decide (x.unackedAt + 10000 ≤ s.ao.tick)
    else if reason = 5 then !x.skewOk
    else false
  if !s.hasLink l ∨ st = 0 ∨ st = 4 ∨ !due then .next s
  else .next (s.takeDown l reason)

/-- LINK_DISABLE (R455): 0 written to ENABLE of link `l`. -/
def execLinkDisable (l : Nat) (s : State) : Host.Outcome State Fault Refusal :=
  if !s.hasLink l then .next s
  else
    let s := s.setFlag (rFabLinkCfg l) fFabLinkCfgEnable false
    .next (if s.linkState l = 4 then s else s.takeDown l 8)

/-- The operation of another package whose request or reply is lost hears of it by a FAULT transaction (R446, R457). -/
def State.tellLost (s : State) (l code : Nat) (t : Txn) : State :=
  let dst := if t.cls = 1 then t.stamp.device else t.dest
  if (t.cls = 1 ∨ (t.cls = 2 ∧ t.op ≠ 0x1F)) ∧ dst ≠ s.deviceNum then
    let (st, s) := s.originate (islLink l)
    s.fabSend { stamp := st, dest := dst, cls := 2, op := 0x1F, tent := t.tent, src := t.src, tag := t.tag, addr := code }
  else s

/-- Operations whose flits are lost end with a fault, and instances that wait on them end UNREACHABLE (R457). -/
def State.loseFlits (s : State) (l code : Nat) (fs : List Flit) : State :=
  let gone := s.dev.fab.ops.filter fun o => fs.any fun f => f.stamp == o.stamp
  let s := gone.foldl (fun s o => s.remoteFault o code) s
  fs.foldl (fun s f => match f.txn with
    | some t => (match t.pay with
      | .coll g i _ _ _ _ _ => s.modFab fun x => { x with insts := x.insts.map fun y =>
          if y.group = g ∧ y.inst = i ∧ y.status = 0 then { y with status := 5 } else y }
      | _ => s.tellLost l code t)
    | none => s) s

/-- LINK_NOTICE_TIMEOUT (R457): no notice from the far end within 100 µs. -/
def execLinkNoticeTimeout (l : Nat) (s : State) : Host.Outcome State Fault Refusal :=
  let x := s.link l
  match x.waiting with
  | none => .next s
  | some t =>
    if s.ao.tick < t + 100000 then .next s
    else .next ((s.setLink l { x with waiting := none, lost := [], held := [] }).loseFlits l 8 (x.lost ++ x.held))

/-! Bring-up (R433, R437, R440). -/

/-- LINKS_GO (R433, R440): a write of `v` to FAB_CFG with LINKS_GO = 1 locks the device number and starts training. -/
def execLinksGo (v : W64) (s : State) : Host.Outcome State Fault Refusal :=
  let s := (s.writeReg rFabCfg v).setFlag rFabCfg fFabCfgLinksGo true
  let s := s.setFlag rFabDeviceNum fFabDeviceNumLocked true
  .next ((List.range s.dev.desc.links).foldl (fun s l =>
    if s.flag (rFabLinkCfg l) fFabLinkCfgEnable ∧ s.linkState l = 0 then s.setLinkState l 1 else s) s)

/-- LINK_TRAIN_RETRY (R433, R440): a link trains all its lanes and learns its peer, or stays DOWN and tries again 100 ms
later. -/
def execLinkTrainRetry (l : Nat) (peer : Option (Nat × Nat)) (s : State) : Host.Outcome State Fault Refusal :=
  let x := s.link l
  let again := s.linkState l == 0 && decide (x.trainedAt + 100000000 ≤ s.ao.tick)
  if !s.hasLink l ∨ !s.flag (rFabLinkCfg l) fFabLinkCfgEnable ∨ !s.flag rFabCfg fFabCfgLinksGo ∨ (s.linkState l ≠ 1 ∧ !again) then
    .next s
  else match peer with
    | none => .next (s.takeDown l 1)
    | some (d, k) =>
      let s := (s.setFld (rFabLinkStatus l) fFabLinkStatusPeerDevice d).setFld (rFabLinkStatus l) fFabLinkStatusPeerLink k
      if d % 4096 = s.deviceNum then .next (s.takeDown l 7)
      else .next ((s.setLink l { x with keyed := false, skewOk := false }).setLinkState l 2)

/-- LINK_KEY_AGREE (R437): both ends are authenticated by their device keys (`ok`). -/
def execLinkKeyAgree (l : Nat) (ok : Bool) (s : State) : Host.Outcome State Fault Refusal :=
  if !s.hasLink l ∨ s.linkState l ≠ 2 ∨ !ok then .next s
  else .next (s.modLink l fun x => { x with keyed := true, sealTx := 0, sealRx := 0, flits := 0 })

/-- LINK_REKEY (R437): after 2^40 flits. -/
def execLinkRekey (l : Nat) (s : State) : Host.Outcome State Fault Refusal :=
  if (s.link l).flits < 2 ^ 40 then .next s
  else .next (s.modLink l fun x => { x with flits := 0 })

/-- LINK_UP (R433, R442): keys are agreed and the skew is within R42.  Flits whose PRIMARY has come up again are held for
ROUTE_HOLD_US. -/
def execLinkUp (l : Nat) (s : State) : Host.Outcome State Fault Refusal :=
  let x := s.link l
  if !s.hasLink l ∨ s.linkState l ≠ 2 ∨ !x.keyed ∨ !x.skewOk then .next s
  else
    let again := s.fld (rFabLinkErrs l) fFabLinkErrsDownEvents != 0
    let until_ := s.ao.tick + 1000 * s.fld rFabCfg fFabCfgRouteHoldUs
    let s := s.setLink l
      { x with txSeq := 0, rxSeq := 0, retry := [], used := [], filled := [], returns := []
               replays := 0, ackDue := 0, nakDue := false, lastTx := s.ao.tick, ackTick := s.ao.tick, lastClass := 0, sinceSystem := 4 }
    let s := (s.setLinkState l 3).timeTree
    let mine := s.dev.fab.routes.filter fun e => routePrimaryValid e.2 && routePrimary e.2 == l
    let holds := mine.foldl (fun (m : SMap Nat) (e : Nat × W64) => SMap.set (fun _ => 0) m e.1 until_) s.dev.fab.holds
    .next (if again then s.modFab fun f => { f with holds := holds } else s)

/-! Time (R42, R439). -/

/-- LINK_TIME_EXCHANGE (R42, R439): the round trip, the skew to the peer, and the peer's root and hops to it.  Toward the
time parent the reference slews by a tick; before READY it may step forward by the skew. -/
def execLinkTimeExchange (l rtt : Nat) (skew : Int) (root hops : Nat) (s : State) : Host.Outcome State Fault Refusal :=
  let x := s.link l
  if !s.hasLink l ∨ !x.keyed ∨ s.ao.tick < x.exchanged + 1000 then .next s
  else
    let s := (s.setFld (rFabLinkStatus l) fFabLinkStatusRttTicks (min rtt 65535)).setFld (rFabLinkStatus l) fFabLinkStatusSkew
      (BitVec.ofInt 8 (max (-128) (min 127 skew))).toNat
    let booting := s.ao.startStep != 12
    let s := s.setLink l { x with
      exchanged := s.ao.tick, skewOk := decide (skew.natAbs ≤ 25) || (booting && decide (0 ≤ skew)), farRoot := root, farHops := hops }
    let s := s.timeTree
    let parent := s.flag rFabStatus fFabStatusParentValid && s.fld rFabStatus fFabStatusTimeParent == l
    .next (if booting ∧ 25 < skew then { s with ao := { s.ao with tick := s.ao.tick + skew.toNat } }
      else if parent ∧ 0 < skew then { s with ao := { s.ao with tick := s.ao.tick + 1 } }
      else s)

/-! Sending (R434 to R437). -/

/-- Key of a (class, virtual channel). -/
def creditKey (cls vc : Nat) : Nat := 2 * cls + vc % 2

/-- The sender holds a credit for a flit (R436). -/
def Link.mayCarry (x : Link) (f : Flit) : Bool := decide (SMap.get (fun _ => 0) x.used (creditKey f.cls f.vc) < 64)

/-- The first waiting flit of a class that has a credit. -/
def Link.nextOf (x : Link) (c : Nat) : Option Flit :=
  match x.queue.find? (·.cls == c) with
  | some f => if x.mayCarry f then some f else none
  | none => none

/-- The flit for this slot among new ones (R436): SYSTEM, at most one slot in four while another class waits, then the other
classes round-robin. -/
def Link.pick (x : Link) : Option Flit :=
  let turn := (List.range 3).map fun i => 1 + (x.lastClass + i) % 3
  let other := (turn.filterMap x.nextOf).head?
  match x.nextOf 0, other with
  | some f, none => some f
  | some f, some g => if 3 ≤ x.sinceSystem then some f else some g
  | none, o => o

/-- The credits that the next flit returns: those of the lowest (class, virtual channel) with any. -/
def Link.giveCredits (x : Link) : (Nat × Nat × Nat) × Link :=
  match x.returns with
  | [] => ((0, 0, 0), x)
  | (k, n) :: rs =>
    ((k / 2, k % 2, min n 255), { x with returns := if n ≤ 255 then rs else (k, n - 255) :: rs
                                         filled := SMap.mod (fun _ => 0) x.filled k (· - min n 255) })

/-- Put a flit on the wire: LSEQ, ACK, NAK and credits are filled in; every flit sent takes its own LSEQ, and HEAD, DATA, SEAL
and LINK_CTL flits stay in the retry buffer. -/
def State.transmit (s : State) (l : Nat) (f : Flit) : State :=
  let (cr, x) := (s.link l).giveCredits
  let g := { f with lseq := x.txSeq, ack := some ((x.rxSeq + 4095) % 4096), credit := cr, nak := x.nakDue }
  let data := f.type = 2 ∨ f.type = 3
  let sealed := data ∨ f.type = 5
  let s := s.setLink l { x with
    wire := some g, txSeq := (x.txSeq + 1) % 4096, retry := x.retry ++ [g], ackDue := 0, ackTick := s.ao.tick, nakDue := false
    sealTx := if f.type = 4 then 0 else if sealed then x.sealTx + 1 else x.sealTx
    flits := x.flits + 1, lastTx := s.ao.tick, unackedAt := if x.retry = [] then s.ao.tick else x.unackedAt
    used := if data then SMap.mod (fun _ => 0) x.used (creditKey f.cls f.vc) (· + 1) else x.used
    lastClass := if data ∧ f.cls ≠ 0 then f.cls else x.lastClass
    sinceSystem := if data ∧ f.cls = 0 then 0 else min 4 (x.sinceSystem + 1) }
  (s.iodEvent (l / 4) 0x20A (l % 4) 0xFF).busy (engLink l)

/-- FLIT_SEND (R435 to R437): at a flit slot, a replayed flit goes first, then a SEAL flit that closes a block of 255, a
LINK_CTL flit that carries a NAK, and then the flit that R436 picks. -/
def execFlitSend (l : Nat) (s : State) : Host.Outcome State Fault Refusal :=
  let x := s.link l
  if !s.linkUp l then .next s
  else match x.resend with
    | f :: fs =>
      let s := s.setLink l { x with wire := some f, resend := fs, lastTx := s.ao.tick, flits := x.flits + 1 }
      .next (((s.addFld (rFabLinkCounts l) fFabLinkCountsReplays 1).iodEvent (l / 4) 0x20C (l % 4) 0xFF).iodEvent (l / 4) 0x20A
        (l % 4) 0xFF)
    | [] =>
      if 1024 ≤ x.retry.length then .next s
      else
        let (st, s') := s.originate (islLink l)
        if 255 ≤ x.sealTx then .next (s'.transmit l { stamp := st, type := 4 })
        else if x.nakDue then .next (s'.transmit l { stamp := st, type := 5 })
        else match x.pick with
          | none => .next s
          | some f =>
            -- a freeze leaves only SYSTEM traffic on the links
            if s.blocked (islLink l) ∧ f.cls ≠ 0 then .next s
            else
              let s := s.modLink l fun y => { y with queue := y.queue.erase f }
              -- FAILSAFE drops every class but SYSTEM (R454)
              .next (if s.flag rRasFailsafe fRasFailsafeActive ∧ f.cls ≠ 0 then s else s.transmit l f)

/-- ACK_TIMER (R435): an ACK at least every 64 flits received and every 200 ns. -/
def execAckTimer (l : Nat) (s : State) : Host.Outcome State Fault Refusal :=
  let x := s.link l
  if !s.linkUp l ∨ x.ackDue = 0 ∨ (x.ackDue < 64 ∧ s.ao.tick < x.ackTick + 200) ∨ 1024 ≤ x.retry.length then .next s
  else
    let (st, s) := s.originate (islLink l)
    .next (s.transmit l { stamp := st, type := 5 })

/-- SEAL_IDLE_CLOSE (R437): a sender idle for 1 µs closes its block. -/
def execSealIdleClose (l : Nat) (s : State) : Host.Outcome State Fault Refusal :=
  let x := s.link l
  if !s.linkUp l ∨ x.sealTx = 0 ∨ s.ao.tick < x.lastTx + 1000 ∨ 1024 ≤ x.retry.length then .next s
  else
    let (st, s) := s.originate (islLink l)
    .next (s.transmit l { stamp := st, type := 4 })

/-! Receiving (R435 to R437, R445). -/

/-- Drop the flits of a retry buffer up to and including an LSEQ, if it names one of them. -/
def ackRetry (a : Nat) (fs : List Flit) : List Flit :=
  match fs.findIdx? (·.lseq == a) with
  | some i => fs.drop (i + 1)
  | none => fs

/-- The ACK, NAK and credits of a flit. -/
def Link.control (x : Link) (f : Flit) (now : Nat) : Link :=
  let retry := match f.ack with
    | some a => ackRetry a x.retry
    | none => x.retry
  let moved := decide (retry.length < x.retry.length)
  let k := creditKey f.credit.1 f.credit.2.1
  { x with
    retry := retry, unackedAt := if moved then now else x.unackedAt
    resend := if f.nak then retry else x.resend.filter fun g => retry.any (·.lseq == g.lseq)
    replays := if moved then 0 else if f.nak ∧ retry ≠ [] then x.replays + 1 else x.replays
    used := SMap.mod (fun _ => 0) x.used k (· - f.credit.2.2) }

/-- A package's answer to a SYSTEM transaction that no row of its own serves: a probe is answered, a KEY_ID is kept. -/
def State.systemTxn (s : State) (t : Txn) : Option State :=
  match t.pay with
  | .probe answer =>
    if answer then some s
    else
      let (st, s) := s.originate islJournal
      some (s.fabSend { stamp := st, dest := t.stamp.device, op := 0x31, pay := .probe true })
  | .keyId tent id => some (s.modFab fun x => { x with keyIds := SMap.set (fun _ => 0) x.keyIds (4096 * tent + t.stamp.device) id })
  | .ack _ => some s
  | _ => none

/-- One flit of a transaction for this package has come: once all have, the transaction arrives. -/
def State.assemble (s : State) (l : Nat) (f : Flit) : State :=
  let old := s.dev.fab.partial_.find? fun p => p.1 == f.stamp
  let head := match f.txn with
    | some t => some t
    | none => old.bind (·.2.1)
  let n := (old.map (·.2.2)).getD 0 + 1
  let rest := s.dev.fab.partial_.filter fun p => p.1 != f.stamp
  match head with
  | some t =>
    if t.flitCount ≤ n then
      let s := s.modFab fun x => { x with partial_ := rest }
      match s.systemTxn t with
      | some s => s
      | none => s.modFab fun x => { x with arrived := x.arrived ++ [(l, t)] }
    else s.modFab fun x => { x with partial_ := rest ++ [(f.stamp, some t, n)] }
  | none => s.modFab fun x => { x with partial_ := rest ++ [(f.stamp, none, n)] }

/-- An entry of the receive buffer is free again. -/
def State.returnCredit (s : State) (l : Nat) (f : Flit) : State :=
  s.modLink l fun x => { x with returns := SMap.mod (fun _ => 0) x.returns (creditKey f.cls f.vc) (· + 1) }

/-- A HEAD or DATA flit is accepted. -/
def State.takeFlit (s : State) (l : Nat) (f : Flit) : State :=
  let s := s.modLink l fun x => { x with filled := SMap.mod (fun _ => 0) x.filled (creditKey f.cls f.vc) (· + 1) }
  if s.flag rRasFailsafe fRasFailsafeActive ∧ f.cls ≠ 0 then s.returnCredit l f
  else if f.dest = s.deviceNum then (s.assemble l f).returnCredit l f
  else s.modLink l fun x => { x with forward := x.forward ++ [f] }

/-- A flit that passes its CRC comes in LSEQ order. -/
def State.acceptFlit (s : State) (l : Nat) (f : Flit) (sealOk : Bool) : State :=
  let data := f.type = 2 ∨ f.type = 3
  let s := s.modLink l fun x => { x with
    rxSeq := (x.rxSeq + 1) % 4096, ackDue := x.ackDue + 1
    sealRx := if f.type = 4 then 0 else if data ∨ f.type = 5 then x.sealRx + 1 else x.sealRx }
  let s := (s.receive (islLink l) f.stamp.tick).iodEvent (l / 4) 0x20B (l % 4) 0xFF
  if f.type = 4 ∧ !sealOk then
    -- tampered data may have been delivered (R437)
    (s.takeDown l 6).enterFailsafe (islLink l) { detector := 0x0800, address := f.lseq, space := 10 } 2 none
  else if data then
    if 64 ≤ SMap.get (fun _ => 0) (s.link l).filled (creditKey f.cls f.vc) then s.takeDown l 7 else s.takeFlit l f
  else s

/-- FLIT_RECEIVE (R434 to R437): a flit comes over link `l`; `crcOk` says whether its CRC holds, `sealOk` whether a SEAL
flit's tag matches. -/
def execFlitReceive (l : Nat) (f : Flit) (crcOk sealOk : Bool) (s : State) : Host.Outcome State Fault Refusal :=
  if !s.linkUp l then .next s
  else
    let (inj, s) := s.fire (islLink l) 0x0800
    if !crcOk ∨ (inj.getD 0) % 2 ^ 32 ≠ 0 then
      let s := s.log (islLink l) { detector := 0x0800, severity := 0, action := 7, address := f.lseq, space := 10
                                   flags := if inj.isSome then 1 else 0 }
      .next (s.modLink l fun x => { x with nakDue := true })
    else if 5 < f.type then .next (s.takeDown l 7)
    else
      let s := s.modLink l fun x => x.control f s.ao.tick
      if 8 ≤ (s.link l).replays then .next (s.takeDown l 3)
      else if f.type ≤ 1 then .next (s.receive (islLink l) f.stamp.tick)
      else if f.lseq ≠ (s.link l).rxSeq then .next (s.modLink l fun x => { x with nakDue := true })
      else .next (s.acceptFlit l f sealOk)

/-- FLIT_FORWARD (R438, R441): the oldest flit for another device leaves the receive buffer of link `l`. -/
def execFlitForward (l : Nat) (s : State) : Host.Outcome State Fault Refusal :=
  match (s.link l).forward with
  | [] => .next s
  | f :: fs =>
    if s.blocked (islLink l) ∧ f.cls ≠ 0 then .next s
    else
      let s := (s.modLink l fun x => { x with forward := fs }).returnCredit l f
      .next (s.sendFlit (some l) f)

/-! Routes (R441, R442). -/

/-- ROUTE_WRITE (R442): a write of `v` to FAB_ROUTE_DATA; an entry whose PRIMARY was valid takes effect after a hold. -/
def execRouteWrite (v : W64) (s : State) : Host.Outcome State Fault Refusal :=
  let d := getBits (s.rd rFabRouteSel) 0 12
  let old := s.route d
  let s := s.modFab fun x => { x with routes := SMap.set (fun _ => 0) x.routes d (v &&& 0x3FF) }
  let u := s.ao.tick + 1000 * s.fld rFabCfg fFabCfgRouteHoldUs
  .next (if routePrimaryValid old then s.modFab fun x => { x with holds := SMap.set (fun _ => 0) x.holds d u } else s)

/-- ROUTE_HOLD_EXPIRE (R442): the flits held for device `d` go by the new entry. -/
def execRouteHoldExpire (d : Nat) (s : State) : Host.Outcome State Fault Refusal :=
  let u := SMap.get (fun _ => 0) s.dev.fab.holds d
  if u = 0 ∨ s.ao.tick < u then .next s
  else
    let fs := s.dev.fab.heldFlits.filter (·.dest == d)
    let s := s.modFab fun x => { x with holds := SMap.set (fun _ => 0) x.holds d 0, heldFlits := x.heldFlits.filter (·.dest != d) }
    .next (fs.foldl (fun s f => s.sendFlit none f) s)

end Sys2Proof.Machine
end

