-- ==== Sys2Proof/Machine/FabricTxn.lean ====
section
/-! DEFINITION. Fabric transactions that have arrived (R62, R411, R445 to R448, R454, R456, R474). -/

namespace Sys2Proof.Machine

/-- The `k`-th transaction that waits, if it has this OP, with the link that brought it. -/
def State.arrivedTxn (s : State) (k op : Nat) : Option (Nat × Txn) :=
  match s.dev.fab.arrived[k]? with
  | some e => if e.2.op = op then some e else none
  | none => none

/-- Take it. -/
def State.takeTxn (s : State) (k : Nat) : State := s.modFab fun x => { x with arrived := x.arrived.eraseIdx k }

/-! Requests at the destination (R446, R448, R474). -/

/-- KEY_ID of the key that a tent is sealed with, 0 without one. -/
def State.sealKeyId (s : State) (t : Nat) : Nat := if s.sealed t then (s.rd (rSecKeyid (s.tentKey t))).toNat else 0

/-- The tent's span enables the source device, and both packages hold the same key. -/
def State.spanOk (s : State) (t dev : Nat) : Bool :=
  decide (t < 64) && s.tentState t == 2 && s.flag (rFabTentSpan t) fFabTentSpanEnable &&
    decide (s.fld (rFabTentSpan t) fFabTentSpanLow ≤ dev) && decide (dev ≤ s.fld (rFabTentSpan t) fFabTentSpanHigh) &&
    SMap.get (fun _ => 0) s.dev.fab.keyIds (4096 * t + dev) == s.sealKeyId t

/-- Why a request is refused before it is performed; `none`: it may be performed or has to wait for its panel. -/
def State.remoteRefusal (s : State) (t : Txn) : Option Nat :=
  if t.stamp.device ≠ s.deviceNum ∧ !s.spanOk t.tent t.stamp.device then some 2
  else if t.op = 4 then
    (if (s.bay (t.addr / 2 ^ 22 % 256)).tent = some t.tent then none else some 7)
  else match s.servedSpan t.tent t.addr t.size with
    | .invalid => some 3
    | .retired => some 4
    | _ => none

/-- The island at which a transaction is served. -/
def serveIsland (l : Nat) : Nat := islLink (if l = loopLink then 0 else l)

/-- Send a reply to the issuer. -/
def State.reply (s : State) (l : Nat) (t : Txn) (op addr size : Nat) (pay : TxnPay) : State :=
  let (st, s) := s.originate (serveIsland l)
  s.fabSend { stamp := st, dest := t.stamp.device, cls := 2, op := op, tent := t.tent, src := t.src, tag := t.tag, addr := addr
              size := size, pay := pay }

/-- The operation of this package that waits under a tag. -/
def State.opOf (s : State) (tag : Nat) : Option RemoteOp := s.dev.fab.ops.find? (·.tag == tag)

/-- A fault reply; of an access of this package to itself, its fault. -/
def State.replyFault (s : State) (l : Nat) (t : Txn) (code : Nat) : State :=
  if l = loopLink then (match s.opOf t.tag with
    | some o => s.remoteFault o code
    | none => s)
  else s.reply l t 0x1F code 0 .none

/-- Data or completion for the issuer. -/
def State.replyData (s : State) (l : Nat) (t : Txn) (op : Nat) (b : List Byte) (bad : Bool) : State :=
  if l = loopLink then (match s.opOf t.tag with
    | some o => s.remoteData o b bad
    | none => s)
  else s.reply l t op t.addr b.length (if b = [] then .none else .bytes b)

/-- Serve the `k`-th transaction if it has this OP: refuse it, wait for its panel, or perform it.  Messages and writes of
one bay are performed in issue order (R443). -/
def State.serveTxn (s : State) (k op : Nat) (go : Nat → Txn → State → State) : State :=
  match s.arrivedTxn k op with
  | none => s
  | some (l, t) =>
    let ordered := op = 2 ∨ op = 4
    let behind := (s.dev.fab.arrived.take k).any fun e => (e.2.op == 2 || e.2.op == 4) && e.2.stamp.device == t.stamp.device &&
      e.2.stamp.island == t.stamp.island
    if s.blocked (serveIsland l) ∨ (ordered ∧ behind) then s
    else match s.remoteRefusal t with
      | some code =>
        let s := s.takeTxn k
        let s := if op = 4 then s.log (serveIsland l) { detector := 0x0E00, severity := 3, action := 12, tent := t.tent } else s
        s.replyFault l t code
      | none =>
        if op ≠ 4 ∧ s.servedSpan t.tent t.addr t.size = .wait then
          s.requestInbound t.tent (s.firstWait t.tent t.addr t.size / 65536) t.stamp true
        else go l t (s.takeTxn k)

/-- TXN_READ (R446): poisoned data are a fault, but for an access of the package to itself. -/
def execTxnRead (k : Nat) (s : State) : Host.Outcome State Fault Refusal :=
  .next (s.serveTxn k 1 fun l t s =>
    let (b, bad, s) := s.devRead t.tent t.addr t.size
    if bad ∧ l ≠ loopLink then s.replyFault l t 5 else s.replyData l t 0x11 b bad)

/-- TXN_WRITE (R446). -/
def execTxnWrite (k : Nat) (s : State) : Host.Outcome State Fault Refusal :=
  .next (s.serveTxn k 2 fun l t s =>
    let b := match t.pay with
      | .bytes b => b.take t.size
      | _ => []
    (s.devWrite t.tent t.addr b t.bad).replyData l t 0x12 [] false)

/-- TXN_ATOMIC (R110, R446). -/
def execTxnAtomic (k : Nat) (s : State) : Host.Outcome State Fault Refusal :=
  .next (s.serveTxn k 3 fun l t s =>
    match t.pay with
    | .atomic op x cmp =>
      let (b, bad, s) := s.devRead t.tent t.addr t.size
      if bad then s.replyFault l t 5
      else (s.devWrite t.tent t.addr (leBytes t.size (atomNew op (8 * t.size) (leNat b) x cmp))).replyData l t 0x13 b false
    | _ => s)

/-- TXN_MESSAGE (R117, R446): the message goes on to its bay; it has no reply but a fault. -/
def execTxnMessage (k : Nat) (s : State) : Host.Outcome State Fault Refusal :=
  .next (s.serveTxn k 4 fun l t s =>
    let b := match t.pay with
      | .bytes b => b.take t.size
      | _ => []
    let target := t.addr / 2 ^ 22 % 256
    s.send (serveIsland l) (s.bayIsland target)
      { stamp := t.stamp, sender := serveIsland l, holder := s.bayIsland target, kind := .message (t.addr % 2 ^ 22) (t.addr / 2 ^ 30 % 256)
        tent := t.tent, payload := wordsOf b false, bytes := b.length })

/-! Replies at the issuer (R445 to R447). -/

/-- A reply arrives: one that nothing waits for is counted in STALE_REPLIES. -/
def State.takeReply (s : State) (k op : Nat) (go : RemoteOp → Txn → State → State) : State :=
  match s.arrivedTxn k op with
  | none => s
  | some (l, t) =>
    if s.blocked (serveIsland l) then s
    else
      let s := s.takeTxn k
      match s.opOf t.tag with
      | none => s.addFld rFabStale fFabStaleStaleReplies 1
      | some o =>
        if o.dead then (s.dropOp o).addFld (rTentStatus o.tent) fTentStatusStale 1
        else go o t s

/-- TXN_READ_DATA. -/
def execTxnReadData (k : Nat) (s : State) : Host.Outcome State Fault Refusal :=
  .next (s.takeReply k 0x11 fun o t s => s.remoteData o (match t.pay with
    | .bytes b => b
    | _ => []) false)
/-- TXN_WRITE_DONE. -/
def execTxnWriteDone (k : Nat) (s : State) : Host.Outcome State Fault Refusal :=
  .next (s.takeReply k 0x12 fun o _ s => s.remoteData o [] false)
/-- TXN_ATOMIC_DATA. -/
def execTxnAtomicData (k : Nat) (s : State) : Host.Outcome State Fault Refusal :=
  .next (s.takeReply k 0x13 fun o t s => s.remoteData o (match t.pay with
    | .bytes b => b
    | _ => []) false)
/-- TXN_FAULT (R446): the code arrives as REMOTE_FAULT. -/
def execTxnFault (k : Nat) (s : State) : Host.Outcome State Fault Refusal :=
  .next (s.takeReply k 0x1F fun o t s => s.remoteFault o (t.addr % 256))

/-- REMOTE_TIMEOUT (R447): no reply within REMOTE_TIMEOUT_MS; a dropped flit is reported as NO_ROUTE.  A message has no
reply to wait for. -/
def execRemoteTimeout (tag : Nat) (s : State) : Host.Outcome State Fault Refusal :=
  match s.opOf tag with
  | none => .next s
  | some o =>
    if s.liveTick < o.since + 1000000 * s.fld rFabCfg fFabCfgRemoteTimeoutMs then .next s
    else
      let posted : Bool := match s.crew o.bay o.slot with
        | some c => !c.ops.any (·.id == o.opId)
        | none => true
      .next (if posted ∧ !o.noRoute then s.dropOp o else s.remoteFault o (if o.noRoute then 1 else 6))

/-! The journal's mirror (R411, R454). -/

/-- The incoming region for a source package: its own, or a free one. -/
def State.mirrorRegion (s : State) (dev : Nat) : Option Nat :=
  let r := rJrnlMirrorPeer
  if s.flag r fJrnlMirrorPeerSource0Valid ∧ s.fld r fJrnlMirrorPeerSource0 = dev then some 0
  else if s.flag r fJrnlMirrorPeerSource1Valid ∧ s.fld r fJrnlMirrorPeerSource1 = dev then some 1
  else if !s.flag r fJrnlMirrorPeerSource0Valid then some 0
  else if !s.flag r fJrnlMirrorPeerSource1Valid then some 1
  else none

/-- The region of a source package is truncated to the source's commit position (R414): of the records that the source still
holds, numbered from `tail`, those of `ids` stay. -/
def State.truncateRegion (s : State) (dev tail : Nat) (ids : List Nat) : State :=
  let r := rJrnlMirrorPeer
  let own : Bool := (s.flag r fJrnlMirrorPeerSource0Valid && s.fld r fJrnlMirrorPeerSource0 == dev) ||
    (s.flag r fJrnlMirrorPeerSource1Valid && s.fld r fJrnlMirrorPeerSource1 == dev)
  match s.mirrorRegion dev with
  | some i =>
    if own then s.modJrnl fun j => { j with
      incoming := SMap.mod (fun _ => []) j.incoming i (·.filter fun x => decide (x.id < tail) || ids.contains x.id) }
    else s
  | none => s

/-- TXN_JOURNAL (R411, R414): the record is written to the incoming region of its source and acknowledged; the start of a
copy truncates that region. -/
def execTxnJournal (k : Nat) (s : State) : Host.Outcome State Fault Refusal :=
  match s.arrivedTxn k 0x30 with
  | none => .next s
  | some (_, t) => match t.pay with
    | .journal r =>
      let dev := t.stamp.device
      if s.blocked islJournal then .next s
      else match s.mirrorRegion dev with
        | none => .next (s.takeTxn k)
        | some i =>
          let s := s.takeTxn k
          let s := if i = 0 then
              (s.setFld rJrnlMirrorPeer fJrnlMirrorPeerSource0 dev).setFlag rJrnlMirrorPeer fJrnlMirrorPeerSource0Valid true
            else (s.setFld rJrnlMirrorPeer fJrnlMirrorPeerSource1 dev).setFlag rJrnlMirrorPeer fJrnlMirrorPeerSource1Valid true
          let s := s.modJrnl fun j => { j with incoming := SMap.mod (fun _ => []) j.incoming i (· ++ [r]) }
          let (st, s) := s.originate islJournal
          .next (s.fabSend { stamp := st, dest := dev, op := 0x31, pay := .journalAck r.id })
    | .copyIn tail ids =>
      let dev := t.stamp.device
      if s.blocked islJournal then .next s
      else .next ((s.takeTxn k).truncateRegion dev tail ids)
    | _ => .next (s.takeTxn k)

/-- MIRROR commits wait: the peer has stalled, or a copy to a new one is in progress (R414). -/
def State.mirrorWaits (s : State) : Bool := s.mirrorStalled || s.flag rJrnlMirrorPeer fJrnlMirrorPeerResync

/-- TXN_JOURNAL_ACK (R403, R411, R414): the peer holds a record. -/
def execTxnJournalAck (k : Nat) (s : State) : Host.Outcome State Fault Refusal :=
  match s.arrivedTxn k 0x31 with
  | none => .next s
  | some (_, t) =>
    if s.blocked islJournal then .next s
    else
      let s := s.takeTxn k
      match t.pay with
      | .journalAck id =>
        if t.stamp.device ≠ s.fld rJrnlMirrorPeer fJrnlMirrorPeerDevice then .next s
        else if s.mirrorWaits then
          .next (s.modJrnl fun j => { j with resync := j.resync.filter (· != id), ackHeld := j.ackHeld ++ [id] })
        else .next (s.modJrnl fun j => { j with log := j.log.map fun r => if r.id = id then { r with acked := true } else r })
      | _ => .next s

/-! Link notices (R456). -/

/-- Flits of a retry buffer that lie after an LSEQ that the far end has accepted. -/
def afterLseq (a : Nat) (fs : List Flit) : List Flit :=
  match fs.findIdx? (·.lseq == a) with
  | some i => fs.drop (i + 1)
  | none => fs

/-- TXN_LINK_NOTICE (R456): the link to the failed one replays its retry buffer after the LSEQ named, by new routes, and
then releases what it holds. -/
def execTxnLinkNotice (k : Nat) (s : State) : Host.Outcome State Fault Refusal :=
  match s.arrivedTxn k 0x40 with
  | none => .next s
  | some (_, t) => match t.pay with
    | .notice far lseq =>
      let s := s.takeTxn k
      match (List.range s.dev.desc.links).find? fun l => (s.link l).waiting.isSome &&
          s.fld (rFabLinkStatus l) fFabLinkStatusPeerDevice == t.stamp.device && s.fld (rFabLinkStatus l) fFabLinkStatusPeerLink == far with
      | none => .next s
      | some l =>
        let x := s.link l
        let again := (afterLseq lseq x.lost).filter fun f => f.type == 2 || f.type == 3
        let s := s.setLink l { x with waiting := none, lost := [], held := [] }
        let s := s.addFld (rFabLinkCounts l) fFabLinkCountsReplays again.length
        .next ((again ++ x.held).foldl (fun s f => s.sendFlit none { f with vc := 0 }) s)
    | _ => .next (s.takeTxn k)

/-! Freeze and resume (R62). -/

/-- Forward a broadcast over the other links, with the stamp it came with (R21, R62). -/
def State.forwardBroadcast (s : State) (l : Nat) (t : Txn) : State :=
  (s.upLinks.filter (· != l)).foldl (fun s m => s.linkSend m t) s

/-- TXN_FREEZE (R62): the same tick is armed, forwarded and acknowledged; a package that hears of it less than 1,000 ticks
ahead freezes at once and says so. -/
def execTxnFreeze (k : Nat) (s : State) : Host.Outcome State Fault Refusal :=
  match s.arrivedTxn k 0x41 with
  | none => .next s
  | some (l, t) => match t.pay with
    | .tick at_ =>
      let s := s.takeTxn k
      if s.freezeState ≠ 0 then .next s
      else
        let late := decide (at_ < s.ao.tick + 1000)
        let s := (s.wr rTimeFreezeAt (BitVec.ofNat 64 at_)).setFlag rTimeFreezeStatus fTimeFreezeStatusScopeFabric true
        let s := if late then s.setFld rTimeFreezeStatus fTimeFreezeStatusState 2 else s.setFld rTimeFreezeStatus fTimeFreezeStatusState 1
        let s : State := if late then { s with dev := { s.dev with freeze := { s.dev.freeze with drainAt := s.ao.tick } } } else s
        let (st, s) := (s.forwardBroadcast l t).originate islPort
        .next (s.fabSend { stamp := st, dest := t.stamp.device, op := 0x41, pay := .ack late })
    | _ => .next (s.takeTxn k)

/-- TXN_RESUME (R61, R62): the same U is taken and forwarded. -/
def execTxnResume (k : Nat) (s : State) : Host.Outcome State Fault Refusal :=
  match s.arrivedTxn k 0x42 with
  | none => .next s
  | some (l, t) => match t.pay with
    | .tick u =>
      if s.freezeState = 2 then .next s
      else
        let s := s.takeTxn k
        if s.freezeState ≠ 3 then .next s
        else .next (((s.wr rTimeResumeAt (BitVec.ofNat 64 u)).setFld rTimeFreezeStatus fTimeFreezeStatusState 4).forwardBroadcast l t)
    | _ => .next (s.takeTxn k)

/-- KEYID_ANNOUNCE (R474): an ACTIVE sealed tent's KEY_ID goes to the packages of its span. -/
def execKeyidAnnounce (t : Nat) (s : State) : Host.Outcome State Fault Refusal :=
  let r := rFabTentSpan t
  if 64 ≤ t ∨ s.tentState t ≠ 2 ∨ !s.sealed t ∨ !s.flag r fFabTentSpanEnable then .next s
  else
    let lo := s.fld r fFabTentSpanLow
    let ds := ((List.range (s.fld r fFabTentSpanHigh + 1 - lo)).map (lo + ·)).filter (· != s.deviceNum)
    .next (ds.foldl (fun s d =>
      let (st, s) := s.originate islLookout
      s.fabSend { stamp := st, dest := d, pay := .keyId t (s.sealKeyId t) }) s)

end Sys2Proof.Machine
end

