-- ==== Sys2Proof/Machine/Long.lean ====
section
/-! DEFINITION. Issuing a long form into its unit's queue (R119 to R121), and what a unit reads of a local store.  An
address past the end of its store is named by no rule: the unit reads a free byte there and a write there is lost
(log entry 10). -/

namespace Sys2Proof.Machine

/-- A field of the second word. -/
def w2f (w2 : W64) (lo w : Nat) : Nat := getBits w2 lo w

/-- The slot that a long form signals when it completes (R119). -/
def w2slot (w2 : W64) : Option Nat := if w2f w2 8 1 = 1 then some (w2f w2 0 8) else none

/-- Issue a long form: the first word's checks, the second word's (`ok`), poisoned `u` operands, a full queue, and then
the queue itself (R107, R119 to R121).  `uses` are the `u` registers whose values the form uses.  A form that finds
its queue full has not issued: the crew stalls (R76). -/
def State.issueLong (s : State) (bay slot : Nat) (f : Short) (w2 : W64) (op : Nat) (k : OpForm)
    (uses : List Nat) (ok : LongForm → Bay → Bool) (full : Bay → Bool) (eng reason : Nat)
    (push : Bay → LongForm → Bay) : State :=
  let s0 := s
  s.issue bay slot f { k with long := true } fun c _ s =>
    let d : LongForm :=
      { op := op, a := (c.readU f.srca.toNat).val, b := (c.readU f.srcb.toNat).val, c := (c.readU f.srcc.toNat).val
        d := (c.readU f.dst.toNat).val, func := f.func.toNat, w2 := w2, crew := slot, request := c.request }
    if !ok d (s.bay bay) then s.trapAll bay slot c trapDescriptorInvalid
    else if uses.any fun n => (c.readU n).poison then s.trapAll bay slot c trapPoisonedControl
    else if full (s.bay bay) then s0.stallFor eng reason
    else (s.setCrew bay slot (c.advance { k with long := true })).modBay bay fun b => push b d

/-! Local stores as a unit reads them. -/

/-- The byte at an address of a store of `size` bytes; past its end, a free value. -/
def Store.viewByte (m : Store) (size free a : Nat) : Byte :=
  if a < size then m.byte a else BitVec.ofNat 8 (Config.freeValue (free + a))

/-- Whether the word holding an address is poisoned. -/
def Store.viewBad (m : Store) (size a : Nat) : Bool := decide (a < size) && m.bad (a / 4)

/-- `n` bytes as a number. -/
def Store.viewNum (m : Store) (size free a n : Nat) : Nat :=
  leNat ((List.range n).map fun i => m.viewByte size free (a + i))

/-- `w` bits from a bit address, with the poison of the words they lie in. -/
def Store.viewBits (m : Store) (size free bit w : Nat) : PWord :=
  let a := bit / 8
  let n := (bit + w - 1) / 8 - a + 1
  ⟨BitVec.ofNat 32 (m.viewNum size free a n / 2 ^ (bit % 8) % 2 ^ w),
    (List.range n).any fun i => m.viewBad size (a + i)⟩

/-- Write bytes that lie in a store of `size` bytes; those past its end are lost. -/
def Store.writeIn (m : Store) (size a : Nat) (bs : List Byte) (bad : Bool := false) : Store :=
  m.write a (bs.take (size - a)) bad

/-- Move past the free values that one form may have read. -/
def State.skipForm (s : State) : State := { s with free := s.free + 2 ^ 66 }

/-- The bay store as a unit reads it from `a`, its first word checked (R484, R489). -/
def State.feedStore (s : State) (bay a : Nat) : Store × State :=
  let m := (s.bay bay).store
  let (x, s) := s.checkWord (s.bayIsland bay) 0x0100 2 (4 * (a / 4)) 0
    ⟨BitVec.ofNat 32 (m.num (4 * (a / 4)) 4), m.bad (a / 4)⟩
  (if x.poison then { m with poison := SMap.set (fun _ => false) m.poison (a / 4) true } else m, s)

end Sys2Proof.Machine
end

