-- ==== Sys2Proof/Machine/Truss.lean ====
section
/-! DEFINITION. The truss (chapter 05 of the spec): the forms of R123 to R125 at issue, and what each computes when it
completes. -/

namespace Sys2Proof.Machine

/-! The second word (R123). -/

def wFmtA (w2 : W64) : Nat := w2f w2 9 4
def wFmtW (w2 : W64) : Nat := w2f w2 13 4
def wMx (w2 : W64) : Bool := w2f w2 17 1 == 1
def wAccum (w2 : W64) : Bool := w2f w2 18 1 == 1
def wCount (w2 : W64) : Nat := w2f w2 19 17
def wShape (w2 : W64) : Nat := w2f w2 36 2
def wMode (w2 : W64) : Nat := w2f w2 38 2
def wK (w2 : W64) : Nat := w2f w2 40 6 + 1
def wCmpNew (w2 : W64) : Bool := w2f w2 46 1 == 1
def wCmpEmit (w2 : W64) : Bool := w2f w2 47 1 == 1

/-- Rows and columns of a shape (R136). -/
def shapeRows (sh : Nat) : Nat := 128 >>> sh
def shapeCols (sh : Nat) : Nat := 128 <<< sh

/-- The packing P of a weight format (R135). -/
def packing (fw : Nat) (mx : Bool) : Nat :=
  if fw = 5 then 4 else if fw = 4 then 2 else if (fw = 2 ∨ fw = 3) ∧ mx then 2 else 1

/-- Width of the weight row word (R135). -/
def weightBits (fw : Nat) (mx : Bool) : Nat :=
  if fw = 15 then 32 else if fw = 7 ∨ fw = 5 ∨ ((fw = 2 ∨ fw = 3) ∧ mx) then 16 else 8

/-- Width of the activation row word (R135). -/
def actBits (fw : Nat) (mx : Bool) : Nat :=
  if fw = 15 then 32 else if fw = 7 then 16 else 8 * packing fw mx

/-- Lane `j` of a weight row word (R135). -/
def weightLane (fw j x : Nat) : Nat :=
  if fw = 15 then x else if fw = 7 then x % 2 ^ 16
  else if fw = 4 ∨ fw = 5 then x / 2 ^ (4 * j) % 16
  else if fw = 2 ∨ fw = 3 then x / 2 ^ (8 * j) % 64
  else x % 256

/-- Lane `j` of an activation row word: a byte, or the whole word of BF16 and BIN (R135). -/
def actLane (fw j x : Nat) : Nat := if fw = 15 then x else if fw = 7 then x % 2 ^ 16 else x / 2 ^ (8 * j) % 256

/-- A weight format that the truss accepts, with its MX condition (R124). -/
def weightOk (fw : Nat) (mx : Bool) : Bool :=
  (decide (fw ≤ 7) || fw == 15) && (fw != 5 || mx) && ((fw != 7 && fw != 15) || !mx)

/-- The format pair and mode that the truss accepts (R124). -/
def pairOk (w2 : W64) : Bool :=
  let a := wFmtA w2
  let w := wFmtW w2
  let m := wMode w2
  weightOk w (wMx w2) &&
    (if w ≤ 5 then decide (a ≤ 1) else a == w) &&
    ((m == 3) == (w == 15)) &&
    ((m != 1 && m != 2) || (decide (a ≤ 1) && decide (w ≤ 1)) || w == 6 || w == 7)

/-- COUNT is in its range (R123). -/
def countOk (w2 : W64) : Bool := decide (1 ≤ wCount w2) && decide (wCount w2 ≤ 65536)

/-- Bits [63:48] are zero (R123). -/
def trussReserved (w2 : W64) : Bool := w2f w2 48 16 == 0

/-- The shape set by the latest earlier TR.SHAPE of the bay (R156). -/
def Bay.issueShape (b : Bay) : Nat :=
  b.truss.queue.foldl (fun sh d => if d.op = 0x80 then wShape d.w2 else sh) b.truss.shape

/-- A half of an MX block: S16, MX = 1 and P = 1 (R155). -/
def halfTile (sh : Nat) (w2 : W64) : Bool := sh == 3 && wMx w2 && packing (wFmtW w2) true == 1

/-- Issue a truss form (R119 to R121). -/
def State.issueTruss (s : State) (bay slot : Nat) (f : Short) (w2 : W64) (op : Nat) (k : OpForm) (uses : List Nat)
    (ok : Bay → Bool) : State :=
  s.issueLong bay slot f w2 op k uses (fun _ b => trussReserved w2 && ok b)
    (fun b => decide (8 ≤ b.truss.queue.length)) (engStrand bay) 2
    (fun b d => { b with truss := { b.truss with queue := b.truss.queue ++ [d] } })

/-- TR.SHAPE at issue (R125). -/
def execTrShape (bay slot : Nat) (f : Short) (w2 : W64) (s : State) : Host.Outcome State Fault Refusal :=
  if !s.fetches bay slot 0x80 f (some w2) then .next s else
  .next (s.issueTruss bay slot f w2 0x80 {} [] fun _ => true)

/-- TR.WLOAD at issue (R124, R125). -/
def execTrWload (bay slot : Nat) (f : Short) (w2 : W64) (s : State) : Host.Outcome State Fault Refusal :=
  if !s.fetches bay slot 0x81 f (some w2) then .next s else
  .next (s.issueTruss bay slot f w2 0x81 { a := .u, b := .u }
    ([f.srca.toNat] ++ if wMx w2 then [f.srcb.toNat] else []) fun _ => weightOk (wFmtW w2) (wMx w2))

/-- TR.SWAP at issue (R125). -/
def execTrSwap (bay slot : Nat) (f : Short) (w2 : W64) (s : State) : Host.Outcome State Fault Refusal :=
  if !s.fetches bay slot 0x82 f (some w2) then .next s else
  .next (s.issueTruss bay slot f w2 0x82 {} [] fun _ => true)

/-- TR.RUN at issue (R124, R125, R156). -/
def execTrRun (bay slot : Nat) (f : Short) (w2 : W64) (s : State) : Host.Outcome State Fault Refusal :=
  if !s.fetches bay slot 0x83 f (some w2) then .next s else
  .next (s.issueTruss bay slot f w2 0x83 { a := .u, b := .u } [f.srca.toNat, f.srcb.toNat] fun b =>
    pairOk w2 && wMode w2 != 3 && countOk w2 && (!halfTile b.issueShape w2 || decide (wCount w2 ≤ 16)))

/-- TR.CMP at issue (R124, R125, R156). -/
def execTrCmp (bay slot : Nat) (f : Short) (w2 : W64) (s : State) : Host.Outcome State Fault Refusal :=
  if !s.fetches bay slot 0x84 f (some w2) then .next s else
  .next (s.issueTruss bay slot f w2 0x84 { a := .u, b := .u, c := .u } [f.srca.toNat, f.srcb.toNat, f.srcc.toNat]
    fun b => pairOk w2 && countOk w2 && !halfTile b.issueShape w2)

/-- TR.ACCZ at issue (R125). -/
def execTrAccz (bay slot : Nat) (f : Short) (w2 : W64) (s : State) : Host.Outcome State Fault Refusal :=
  if !s.fetches bay slot 0x85 f (some w2) then .next s else
  .next (s.issueTruss bay slot f w2 0x85 { b := .u } [f.srcb.toNat] fun _ => countOk w2)

/-- TR.SYNC at issue (R125). -/
def execTrSync (bay slot : Nat) (f : Short) (w2 : W64) (s : State) : Host.Outcome State Fault Refusal :=
  if !s.fetches bay slot 0x86 f (some w2) then .next s else
  .next (s.issueTruss bay slot f w2 0x86 {} [] fun _ => true)

/-! Arithmetic. -/

/-- The value of an element (R143, R144, R146). -/
def elemValue (fmt : Nat) (mx : Bool) (x : Nat) : FVal :=
  if fmt = 5 then
    (if x % 8 = 0 then .fin false 0 0 else .fin (x.testBit 3) 1 (((x % 8 : Nat) : Int) - 8))
  else if fmt = 6 then
    let n := (BitVec.ofNat 8 x).toInt
    .fin (decide (n < 0)) n.natAbs (if mx then -6 else 0)
  else match fmtOf fmt with
    | some g => decodeF g x
    | none => .fin false 0 0

/-- Number of ones among 32 bits. -/
def ones32 (x : Nat) : Nat := ((List.range 32).filter fun i => x.testBit i).length

/-- What a cell adds for one lane (R147, R161). -/
def laneTerm (w2 : W64) (a w : Nat) : W32 :=
  let mx := wMx w2
  let va := elemValue (wFmtA w2) mx a
  let vw := elemValue (wFmtW w2) mx w
  if wMode w2 = 0 then encode32 (va.mul vw)
  else if wMode w2 = 3 then encode32 (.fin false (ones32 (a ^^^ w)) 0)
  else
    let d := va.add vw.neg
    if wMode w2 = 1 then encode32 (d.mul d)
    else match d with
      | .nan => encode32 .nan
      | .inf _ => encode32 (.inf false)
      | .fin _ m e => encode32 (.fin false m e)

/-- A cell: the products of its lanes, lane 0 first, onto the partial sum (R147). -/
def cellSum (w2 : W64) (acc : W32) (a w : Nat) : W32 :=
  (List.range (packing (wFmtW w2) (wMx w2))).foldl
    (fun acc j => fadd acc (laneTerm w2 (actLane (wFmtW w2) j a) (weightLane (wFmtW w2) j w))) acc

/-- The factor that a scale station applies, `none` where a scale is NaN (R153, R162). -/
def stationFactor (w2 : W64) (sw sa : Nat) : Option FVal :=
  if sw = 255 ∨ (wMode w2 = 0 ∧ sa = 255) then none
  else if wMode w2 = 0 then some (.fin false 1 ((sw : Int) + sa - 254))
  else if wMode w2 = 1 then some (.fin false 1 (2 * (sw : Int) - 254))
  else some (.fin false 1 ((sw : Int) - 127))

/-- Blocks in a tile (R154). -/
def tileBlocks (sh : Nat) (w2 : W64) : Nat := max (shapeRows sh * packing (wFmtW w2) (wMx w2) / 32) 1

/-- The row words and scales of one vector in one column: activations by row, weights by row, scales by block. -/
def columnRows (w2 : W64) (rows : List (PWord × PWord)) (acc : W32) : W32 :=
  rows.foldl (fun acc r => cellSum w2 acc r.1.data.toNat r.2.data.toNat) acc

/-- The scaled block sum, NaN where a scale is (R149, R153). -/
def scaled (w2 : W64) (sum : W32) (sw sa : Nat) : W32 :=
  match stationFactor w2 sw sa with
  | none => 0x7FC00000
  | some k => encode32 ((decode32 sum).mul k)

/-- The column result over `blocks` blocks of `per` rows (R147, R149, R153): `rows` in row order, scales by block. -/
def columnSum (w2 : W64) (rows : List (PWord × PWord)) (sw sa : Nat → Nat) (blocks per : Nat) : W32 :=
  if wMx w2 then
    (List.range blocks).foldl (fun acc q =>
      fadd acc (scaled w2 (columnRows w2 ((rows.drop (q * per)).take per) 0) (sw q) (sa q))) 0
  else columnRows w2 rows 0

/-- The scarf layout (R157): row stride, tile size, bit address. -/
def scarfStride (rt j k e : Nat) : Nat := 64 * (((j + (rt - 1) * k) * e + 511) / 512)
def scarfTile (rt j k e : Nat) : Nat := rt * scarfStride rt j k e
def scarfBit (rt j k e a t i p : Nat) : Nat :=
  8 * (a + t * scarfTile rt j k e + i * scarfStride rt j k e) + (p + i * k) * e

/-- What a streaming form reads for vector `v` and column `n`: the row words, and whether any is poisoned (R491). -/
def vectorRows (b : Bay) (m : Store) (size free : Nat) (d : LongForm) (v n : Nat) : List (PWord × PWord) :=
  let sh := b.truss.shape
  let e := actBits (wFmtW d.w2) (wMx d.w2)
  (List.range (shapeRows sh)).map fun r =>
    (m.viewBits size free (scarfBit (shapeRows sh) (wCount d.w2) 1 e d.a.toNat 0 r v) e,
      SMap.get (fun _ => {}) b.truss.active (r * shapeCols sh + n))

/-- Address of the activation scales: the first byte after the activation tile (R154). -/
def actScaleBase (sh : Nat) (d : LongForm) : Nat :=
  d.a.toNat + scarfTile (shapeRows sh) (wCount d.w2) 1 (actBits (wFmtW d.w2) (wMx d.w2))

/-- The activation scale of block `q` of vector `v` (R154). -/
def actScale (m : Store) (size free sh : Nat) (d : LongForm) (v q : Nat) : PWord :=
  m.viewBits size free (8 * (actScaleBase sh d + v * tileBlocks sh d.w2 + q)) 8

/-- The weight scale of block `q` of column `n` of the active tile (R154). -/
def Bay.weightScale (b : Bay) (q n : Nat) : PWord :=
  SMap.get (fun _ => {}) b.truss.activeScale (q * shapeCols b.truss.shape + n)

/-- Whether anything that enters a column for a vector is poisoned (R491). -/
def columnBad (b : Bay) (m : Store) (size free : Nat) (d : LongForm) (v n : Nat) : Bool :=
  ((vectorRows b m size free d v n).any fun r => r.1.poison || r.2.poison) ||
    (wMx d.w2 && (List.range (tileBlocks b.truss.shape d.w2)).any fun q =>
      (actScale m size free b.truss.shape d v q).poison || (b.weightScale q n).poison)

/-- The column result of vector `v` in column `n` (R147 to R153, R161, R162). -/
def columnResult (b : Bay) (m : Store) (size free : Nat) (d : LongForm) (v n : Nat) : PWord :=
  let w2 := d.w2
  ⟨columnSum w2 (vectorRows b m size free d v n)
      (fun q => (b.weightScale q n).data.toNat)
      (fun q => (actScale m size free b.truss.shape d v q).data.toNat)
      (tileBlocks b.truss.shape w2) (32 / packing (wFmtW w2) (wMx w2)),
    columnBad b m size free d v n⟩

/-- The unscaled column sum of a half tile (R155). -/
def halfSum (b : Bay) (m : Store) (size free : Nat) (d : LongForm) (v n : Nat) : PWord :=
  ⟨columnRows d.w2 (vectorRows b m size free d v n) 0, columnBad b m size free d v n⟩

/-- A result is NaN (R149). -/
def nan32 (w : W32) : Bool := (decode32 w).isNan

/-- Write or add one column result at an accumulator address (R151). -/
def sillWrite (m : Store) (size free a : Nat) (accum : Bool) (x : PWord) : Store :=
  let old := m.viewBits size free (8 * a) 32
  let v := if accum then fadd old.data x.data else x.data
  m.writeIn size a (leBytes 4 v.toNat) (x.poison || (accum && old.poison))

/-- The results of a TR.RUN by vector and column, written to the accumulator store (R151, R160). -/
def Bay.runWrite (b : Bay) (accSize free : Nat) (d : LongForm) (res : Nat → Nat → PWord) : Bay :=
  let c := shapeCols b.truss.shape
  let cells := (List.range (wCount d.w2)).flatMap fun v => (List.range c).map fun n => (v, n)
  let nan := (cells.filter fun x => nan32 (res x.1 x.2).data).length
  { b with
    acc := cells.foldl (fun m x => sillWrite m accSize free
      (d.b.toNat + x.2 * scarfStride c (wCount d.w2) 0 32 + 4 * x.1) (wAccum d.w2) (res x.1 x.2)) b.acc
    truss := { b.truss with nans := min (b.truss.nans + nan) (2 ^ 32 - 1) } }

/-- TR.RUN on the inputs `m` (R125, R155). -/
def Bay.trRun (b : Bay) (m : Store) (free : Nat) (d : LongForm) : Bay :=
  let t := b.truss
  let c := shapeCols t.shape
  if halfTile t.shape d.w2 then
    if !t.pairHalf then
      { b with truss := { t with
          pairPending := true
          pairBuf := SMap.tabulate {} (16 * c) fun k =>
            if k % 16 < wCount d.w2 then halfSum b m bayStoreSize free d (k % 16) (k / 16) else {} } }
    else
      let res (v n : Nat) : PWord :=
        let h := halfSum b m bayStoreSize free d v n
        let o := SMap.get (fun _ => {}) t.pairBuf (16 * n + v)
        ⟨scaled d.w2 (fadd o.data h.data) (b.weightScale 0 n).data.toNat
          (actScale m bayStoreSize free t.shape d v 0).data.toNat, o.poison || h.poison⟩
      let b := b.runWrite accStoreSize free d res
      { b with truss := { b.truss with pairPending := false, pairBuf := [] } }
  else b.runWrite accStoreSize free d (columnResult b m bayStoreSize free d)

/-- Bytes a free value fills (R152, R165, R185). -/
def freeBytes (free n : Nat) : List Byte := (List.range n).map fun i => BitVec.ofNat 8 (Config.freeValue (free + i))

/-- One query's list after the columns of a tile (R163). -/
def RunList.step (r : RunList) (cands : List (PWord × Nat)) : RunList :=
  cands.foldl (fun r e =>
    let x := runningInsert r.list r.out ⟨e.1.data, e.2⟩
    ⟨x.1, x.2, r.bad || e.1.poison⟩) r

/-- TR.CMP on the inputs `m` (R163 to R165): the lists are internal until a form with CMP_EMIT writes them, and their
bytes hold free values until then.  A form that continues lists that none started finds free bytes too, and writes them
(log entry 11). -/
def Bay.trCmp (b : Bay) (m : Store) (free : Nat) (d : LongForm) : Bay :=
  let n := shapeCols b.truss.shape
  let count := wCount d.w2
  let sm := wMode d.w2 != 0
  let key := d.c.toNat
  let old := if wCmpNew d.w2 then List.replicate count { list := { k := wK d.w2, keyType := 0, smallest := sm } }
    else SMap.get (fun _ => []) b.truss.lists key
  let k := ((old.head?.map fun r => r.list.k).getD (wK d.w2))
  let res := columnResult b m bayStoreSize free d
  let cands (v : Nat) : List (PWord × Nat) :=
    (List.range n).map fun i => (res v i, (d.b.toNat + i) % 2 ^ 64)
  let lists := (List.range old.length).map fun v =>
    let r := old.getD v {}
    if v < count then r.step (cands v) else r
  let nan := (List.range count).foldl (fun t v => t + ((cands v).filter fun e => nan32 e.1.data).length) 0
  let stride := listStride k
  let put (st : Store) (v : Nat) : Store :=
    match lists[v]? with
    | some r =>
      if wCmpEmit d.w2 then
        let bs := (r.list.finish r.out).bytes
        st.writeIn bayStoreSize (key + v * stride) (bs ++ List.replicate (stride - bs.length) 0) r.bad
      else st.writeIn bayStoreSize (key + v * stride) (freeBytes (free + 2 ^ 65 + v * stride) stride)
    | none => st.writeIn bayStoreSize (key + v * stride) (freeBytes (free + 2 ^ 65 + v * stride) stride)
  { b with
    store := (List.range count).foldl put b.store
    truss := { b.truss with lists := SMap.set (fun _ => []) b.truss.lists key lists
                            nans := min (b.truss.nans + nan) (2 ^ 32 - 1) } }

/-- TR.WLOAD on the inputs `m` (R135 to R137, R154, R160).  A BIN weight takes the active and the shadow register of its
cell and is active at once. -/
def Bay.trWload (b : Bay) (m : Store) (free : Nat) (d : LongForm) : Bay :=
  let t := b.truss
  let r := shapeRows t.shape
  let c := shapeCols t.shape
  let e := weightBits (wFmtW d.w2) (wMx d.w2)
  let cells : SMap PWord := SMap.tabulate {} (r * c) fun k =>
    m.viewBits bayStoreSize free (scarfBit r c 0 e d.a.toNat 0 (k / c) (k % c)) e
  let scales : SMap PWord := if !wMx d.w2 then [] else
    SMap.tabulate {} (tileBlocks t.shape d.w2 * c) fun k => m.viewBits bayStoreSize free (8 * (d.b.toNat + k)) 8
  let t := { t with shadow := cells, shadowScale := scales
                    shadowPair := wMx d.w2 && packing (wFmtW d.w2) true == 1 }
  { b with truss := if wFmtW d.w2 = 15 then { t with active := cells, activeScale := scales, activePair := false
                                                     anyActive := true } else t }

/-- TR.SWAP (R125, R137, R155): the shadow becomes active; the first tile is half 0 and each later swap of an MX tile of
one position a cell toggles PAIR_HALF. -/
def Truss.swap (t : Truss) : Truss :=
  { t with active := t.shadow, activeScale := t.shadowScale, activePair := t.shadowPair, anyActive := true
           pairHalf := if !t.anyActive then false else if t.shadowPair then !t.pairHalf else t.pairHalf }

/-- TR.SHAPE (R125, R155): the lists in the bay store stay (R165). -/
def Truss.reshape (t : Truss) (sh : Nat) : Truss :=
  { t with shape := sh, active := [], shadow := [], activeScale := [], shadowScale := [], shadowPair := false
           activePair := false, anyActive := false, pairHalf := false, pairBuf := [], pairPending := false }

/-- What a truss form does, on the inputs `m` of the bay store. -/
def Bay.trussForm (b : Bay) (m : Store) (free : Nat) (d : LongForm) : Bay :=
  if d.op = 0x80 then { b with truss := b.truss.reshape (wShape d.w2) }
  else if d.op = 0x81 then b.trWload m free d
  else if d.op = 0x82 then { b with truss := b.truss.swap }
  else if d.op = 0x83 then b.trRun m free d
  else if d.op = 0x84 then b.trCmp m free d
  else if d.op = 0x85 then
    { b with acc := b.acc.writeIn accStoreSize d.b.toNat (List.replicate (64 * wCount d.w2) 0) }
  else b

/-- Stream clocks a form keeps the truss busy (R138, R139; log entry 7). -/
def trussClocks (sh : Nat) (d : LongForm) : Nat :=
  if d.op = 0x80 then 64 else if d.op = 0x81 then shapeRows sh else if d.op = 0x83 ∨ d.op = 0x84 then
    wCount d.w2 * (if wFmtW d.w2 = 7 then 4 else 1)
  else 1

/-- TRUSS_FORM_COMPLETE (R120, R125): the oldest truss form of the bay runs, is performed and signals its slot. -/
def execTrussFormComplete (bay : Nat) (s : State) : Host.Outcome State Fault Refusal :=
  .next (s.acting (s.bayIsland bay) fun s =>
    match (s.bay bay).truss.queue with
    | [] => s
    | d :: ds =>
      let reads := d.op == 0x81 || d.op == 0x83 || d.op == 0x84
      let (m, s) := if reads then s.feedStore bay d.a.toNat else ((s.bay bay).store, s)
      let n := trussClocks (s.bay bay).truss.shape d
      let s := s.modBay bay fun b =>
        let b := b.trussForm m s.free d
        { b with truss := { b.truss with queue := ds } }.signalOpt (w2slot d.w2)
      let s := (s.busy (engTruss bay) n).addFld (rObsAoBay bay) fObsAoBayTrussBusy n
      (if d.op = 0x83 ∨ d.op = 0x84 then s.bayEvent bay 0x008 (wCount d.w2) else s).skipForm)

end Sys2Proof.Machine
end

