-- ==== Sys2Proof/Machine/Select.lean ====
section
/-! DEFINITION. The select unit of a bay (R128, R167 to R186, R190): SEL.TOPK, SEL.HIST, SEL.EMIT and MERGE. -/

namespace Sys2Proof.Machine

/-! The second word (R128). -/

def sKeyType (w2 : W64) : Nat := w2f w2 9 3
def sSmallest (w2 : W64) : Bool := w2f w2 12 1 == 1
def sExplicit (w2 : W64) : Bool := w2f w2 13 1 == 1
def sK (w2 : W64) : Nat := w2f w2 15 17
def sN (w2 : W64) : Nat := w2f w2 32 32

/-- Bytes of a key. -/
def keyBytes (ty : Nat) : Nat := keyWidth ty / 8

/-- K, KEY_TYPE and the reserved bit are in range (R119, R128). -/
def selFields (w2 : W64) : Bool :=
  decide (sKeyType w2 ≤ 6) && w2f w2 14 1 == 0 && decide (1 ≤ sK w2) && decide (sK w2 ≤ 65536)

/-- Bytes of a list of `k` places. -/
def listBytes (k : Nat) : Nat := 64 + 16 * k

/-- The key array, the ids and the result area stand where R167 has them. -/
def selArrays (w2 : W64) (keys ids : Nat) (useIds : Bool) (result size : Nat) : Bool :=
  let e := keyBytes (sKeyType w2)
  decide (1 ≤ sN w2) && keys % e == 0 && decide (keys + e * sN w2 ≤ bayStoreSize) &&
    (!useIds || (if sExplicit w2 then ids % 8 == 0 && decide (ids + 8 * sN w2 ≤ bayStoreSize)
      else decide (ids + sN w2 - 1 < 2 ^ 64 - 1))) &&
    decide (result + size ≤ bayStoreSize)

/-- Issue a select form (R119 to R121). -/
def State.issueSelect (s : State) (bay slot : Nat) (f : Short) (w2 : W64) (op : Nat) (k : OpForm) (uses : List Nat)
    (ok : LongForm → Bool) : State :=
  s.issueLong bay slot f w2 op k uses (fun d _ => ok d) (fun b => decide (4 ≤ b.selq.length)) (engStrand bay) 3
    fun b d => { b with selq := b.selq ++ [d] }

/-- SEL.TOPK at issue. -/
def execSelTopk (bay slot : Nat) (f : Short) (w2 : W64) (s : State) : Host.Outcome State Fault Refusal :=
  if !s.fetches bay slot 0x98 f (some w2) then .next s else
  .next (s.issueSelect bay slot f w2 0x98 { a := .u, b := .u, c := .u } [f.srca.toNat, f.srcb.toNat, f.srcc.toNat]
    fun d => selFields w2 && selArrays w2 d.a.toNat d.b.toNat true d.c.toNat (listBytes (sK w2)))

/-- SEL.HIST at issue (R180): the pass lies in the key, and the prefix has no bit below its digits. -/
def execSelHist (bay slot : Nat) (f : Short) (w2 : W64) (s : State) : Host.Outcome State Fault Refusal :=
  if !s.fetches bay slot 0x99 f (some w2) then .next s else
  .next (s.issueSelect bay slot f w2 0x99 { a := .u, b := .u, c := .u, func := 3 }
    [f.srca.toNat, f.srcb.toNat, f.srcc.toNat] fun d =>
      let p := f.func.toNat
      decide (sKeyType w2 ≤ 6) && w2f w2 14 1 == 0 && decide (8 * p < keyWidth (sKeyType w2)) &&
        d.b.toNat % 2 ^ (32 - 8 * p) == 0 && d.c.toNat % 64 == 0 &&
        selArrays w2 d.a.toNat 0 false d.c.toNat 2112)

/-- SEL.EMIT at issue (R181): DST names the `u` register that holds the ids. -/
def execSelEmit (bay slot : Nat) (f : Short) (w2 : W64) (s : State) : Host.Outcome State Fault Refusal :=
  if !s.fetches bay slot 0x9A f (some w2) then .next s else
  .next (s.issueSelect bay slot f w2 0x9A { dst := .u, a := .u, b := .u, c := .u }
    [f.dst.toNat, f.srca.toNat, f.srcb.toNat, f.srcc.toNat]
    fun d => selFields w2 && selArrays w2 d.a.toNat d.d.toNat true d.c.toNat 64)

/-- MERGE at issue (R182): N and EXPLICIT_IDS are ignored. -/
def execMerge (bay slot : Nat) (f : Short) (w2 : W64) (s : State) : Host.Outcome State Fault Refusal :=
  if !s.fetches bay slot 0x9B f (some w2) then .next s else
  .next (s.issueSelect bay slot f w2 0x9B { a := .u, b := .u, c := .u } [f.srca.toNat, f.srcb.toNat, f.srcc.toNat]
    fun d => selFields w2 && decide (d.c.toNat + listBytes (sK w2) ≤ bayStoreSize))

/-! Execution. -/

/-- The elements of a form: raw key and id. -/
def selElems (m : Store) (d : LongForm) (ids : Nat) (useIds : Bool) : List (Nat × Nat) :=
  let e := keyBytes (sKeyType d.w2)
  (List.range (sN d.w2)).map fun i =>
    (m.num (d.a.toNat + e * i) e,
      if !useIds then 0 else if sExplicit d.w2 then m.num (ids + 8 * i) 8 else ids + i)

/-- Input areas of a form: address and length. -/
def selInputs (m : Store) (d : LongForm) : List (Nat × Nat) :=
  if d.op = 0x9B then
    [(d.a.toNat, listBytes (m.num d.a.toNat 4)), (d.b.toNat, listBytes (m.num d.b.toNat 4))]
  else
    let e := keyBytes (sKeyType d.w2)
    (d.a.toNat, e * sN d.w2) ::
      (if d.op ≠ 0x99 ∧ sExplicit d.w2 = true then [((if d.op = 0x9A then d.d else d.b).toNat, 8 * sN d.w2)] else [])

/-- Two areas overlap. -/
def overlap (a n b k : Nat) : Bool := decide (a < b + k) && decide (b < a + n)

/-- A list cut off at the end of the bay store (R181). -/
def ResList.cut (r : ResList) (a : Nat) : ResList :=
  if a + listBytes r.entries.length ≤ bayStoreSize then r
  else
    let es := r.entries.take ((bayStoreSize - a - 64) / 16)
    { r with entries := es, k := es.length, formatError := true }

/-- What a form writes: its bytes, NaN elements dropped, and whether it set FORMAT_ERROR. -/
def selResult (m : Store) (d : LongForm) : List Byte × Nat × Bool :=
  let ty := sKeyType d.w2
  let sm := sSmallest d.w2
  if d.op = 0x98 then
    let r := selectTop ty sm (sK d.w2) (selElems m d d.b.toNat true)
    (r.bytes, r.nans, false)
  else if d.op = 0x99 then
    let h := selectHist ty sm (d.func % 4) (d.b.toNat % 2 ^ 32) (selElems m d 0 false)
    (h.1.flatMap (leBytes 8 ·) ++ leBytes 8 h.2.1 ++ leBytes 8 h.2.2.1 ++ leBytes 8 h.2.2.2 ++ List.replicate 40 0,
      h.2.2.2, false)
  else if d.op = 0x9A then
    let r := (selectEmit ty sm (d.b.toNat % 2 ^ 32) (sK d.w2) (selElems m d d.d.toNat true)).cut d.c.toNat
    (r.bytes, r.nans, r.formatError)
  else
    let a := readList m d.a.toNat bayStoreSize
    let b := readList m d.b.toNat bayStoreSize
    let r := mergeLists ty sm (sK d.w2) a b
    (r.bytes, r.nans - (a.nans + b.nans), r.formatError)

/-- Whether a form reads a poisoned key, score or id (R491). -/
def selBad (m : Store) (d : LongForm) : Bool :=
  (selInputs m d).any fun e => m.poisoned e.1 (min e.2 (bayStoreSize - e.1))

/-- Run a form on the inputs `m`: an overlapping result is free bytes (R185). -/
def Bay.selForm (b : Bay) (m : Store) (free : Nat) (d : LongForm) : Bay :=
  let r := selResult m d
  let c := d.c.toNat
  let bs := if (selInputs m d).any fun e => overlap e.1 e.2 c r.1.length then freeBytes free r.1.length else r.1
  { b with
    store := b.store.writeIn bayStoreSize c bs (selBad m d)
    selCounts := SMap.mod (fun _ => 0) (SMap.mod (fun _ => 0) b.selCounts 8 fun n => min (n + r.2.1) (2 ^ 32 - 1)) 40
      fun n => min (n + if r.2.2 then 1 else 0) 65535 }

/-- SELECT_FORM_COMPLETE (R87, R120): the oldest form of the select queue finishes and signals its slot. -/
def execSelectFormComplete (bay : Nat) (s : State) : Host.Outcome State Fault Refusal :=
  .next (s.acting (s.bayIsland bay) fun s =>
    match (s.bay bay).selq with
    | [] => s
    | d :: ds =>
      let (m, s) := s.feedStore bay d.a.toNat
      let s := s.modBay bay fun b => ({ b.selForm m s.free d with selq := ds } : Bay).signalOpt (w2slot d.w2)
      ((s.bayEvent bay 0x00A).busy (engSelect bay) ((sN d.w2 + 63) / 64 + 64)).skipForm)

end Sys2Proof.Machine
end

