-- ==== Sys2Proof/Machine/Collectives.lean ====
section
/-! DEFINITION. Collectives (R449 to R453). -/

namespace Sys2Proof.Machine

def State.collGroup (s : State) (g : Nat) : Option CollGroup := SMap.get (fun _ => none) s.dev.fab.groups g
def State.collInst (s : State) (g i : Nat) : Option CollInst := s.dev.fab.insts.find? fun x => x.group == g && x.inst == i
def State.setInst (s : State) (x : CollInst) : State :=
  s.modFab fun f => { f with insts := f.insts.map fun y => if y.group = x.group ∧ y.inst = x.inst then x else y }

/-- The fabric unit that serves a tent (R449): the first link island of I/O die t mod IOD_COUNT. -/
def State.collIsland (s : State) (t : Nat) : Nat := 0x300 + 0x40 * (t % s.dev.desc.iods)

/-! Groups (R449). -/

/-- No member appears twice. -/
def noTwice : List (Nat × Nat) → Bool
  | [] => true
  | x :: xs => !xs.contains x && noTwice xs

/-- COLL_GROUP_REGISTER (R449): a write of `v` to FAB_COLL_CFG `g`; with VALID = 0 or refused, no group is registered. -/
def execCollGroupRegister (g : Nat) (v : W64) (s : State) : Host.Outcome State Fault Refusal :=
  if 256 ≤ g then .next s
  else
    let r := rFabCollCfg g
    let s := (s.writeReg r v).setFlag r fFabCollCfgValid false
    let s := s.modFab fun f => { f with groups := SMap.set (fun _ => none) f.groups g none }
    if getBits v 0 1 = 0 then .next s else
    let m := s.fld r fFabCollCfgMembersM1 + 1
    let t := s.fld r fFabCollCfgTent
    let a := s.fld (rFabCollAddr g) fFabCollAddrAddr * 64
    let ms := (List.range m).map fun i => (s.hostNum (a + 4 * i) 2, s.hostNum (a + 4 * i + 2) 1)
    if s.inHost a (4 * m) ∧ noTwice ms = true ∧ (ms.all fun e => e.1 != s.deviceNum || s.hasBay t e.2) = true then
      .next (((s.modFab fun f => { f with groups := SMap.set (fun _ => none) f.groups g (some ⟨t, ms⟩) }).setFlag r
        fFabCollCfgCfgError false).setFlag r fFabCollCfgValid true)
    else .next (s.setFlag r fFabCollCfgCfgError true)

/-! Values (R452). -/

/-- Shape of an instance: OP, ELEM, REDUCE, COUNT, SEL. -/
def sOp (l : List Nat) : Nat := l.getD 0 0
def sElem (l : List Nat) : Nat := l.getD 1 0
def sReduce (l : List Nat) : Nat := l.getD 2 0
def sCount (l : List Nat) : Nat := l.getD 3 0
def sSel (l : List Nat) : Nat := l.getD 4 0

/-- Bytes of an element, in memory and in a partial result: BF16 travels as FP32. -/
def elemBytes (e : Nat) : Nat := if e = 1 then 2 else if e = 3 then 8 else 4
def wideBytes (e : Nat) : Nat := if e = 3 then 8 else 4

/-- Reduce two elements. -/
def reduceElem (e r x y : Nat) : Nat :=
  if e = 0 ∨ e = 1 then
    let a := BitVec.ofNat 32 x
    let b := BitVec.ofNat 32 y
    (if r = 0 then fadd a b else if r = 1 then fmax a b else fmin a b).toNat
  else if e = 2 then
    let a := BitVec.ofNat 32 x
    let b := BitVec.ofNat 32 y
    (if r = 0 then a + b else if r = 1 then (if a.slt b then b else a) else (if a.slt b then a else b)).toNat
  else if r = 0 then (x + y) % 2 ^ 64 else if r = 1 then max x y else min x y

/-- A list as its bytes (R177). -/
def listOfBytes (b : List Byte) : ResList := readList (({} : Store).write 0 b) 0 b.length

/-- Combine two values of an instance: element by element, field by field, or by MERGE. -/
def combine (sh : List Nat) (a b : List Byte) : List Byte :=
  if sOp sh = 4 then (List.range 264).flatMap fun i => leBytes 8 (field a (8 * i) 8 + field b (8 * i) 8)
  else if sOp sh = 5 then
    (mergeLists (sSel sh % 8) (sSel sh / 8 % 2 == 1) (sCount sh) (listOfBytes a) (listOfBytes b)).bytes
  else
    let n := wideBytes (sElem sh)
    (List.range (sCount sh)).flatMap fun i => leBytes n (reduceElem (sElem sh) (sReduce sh) (field a (n * i) n) (field b (n * i) n))

/-- A contribution as it enters the reduction. -/
def widenValue (sh : List Nat) (b : List Byte) : List Byte :=
  if sOp sh ≤ 2 ∧ sElem sh = 1 then (halves' b).flatMap fun x => leBytes 4 x.toNat else b
where
  /-- BF16 elements as FP32. -/
  halves' (b : List Byte) : List W32 := (List.range (b.length / 2)).map fun i => BitVec.ofNat 32 (field b (2 * i) 2 * 2 ^ 16)

/-- The root's value as a result: BF16 is rounded once (R452). -/
def narrowValue (sh : List Nat) (b : List Byte) : List Byte :=
  if sOp sh ≤ 2 ∧ sElem sh = 1 then (List.range (b.length / 4)).flatMap fun i =>
    leBytes 2 (encodeF ⟨8, 7, 127, .ieee⟩ 0x7FC0 (decode32 (BitVec.ofNat 32 (field b (4 * i) 4)))) else b

/-- Bytes that a member contributes from SRC. -/
def srcBytes (sh : List Nat) : Nat :=
  if sOp sh = 4 then 2112 else if sOp sh = 5 then 64 + 16 * sCount sh else elemBytes (sElem sh) * sCount sh

/-- The value of the sub-tree of member `m`: its own, then its children's in ascending order; `none` while one is not
known. -/
def CollInst.subtree (x : CollInst) (members : Nat) : Nat → Nat → Option (List Byte)
  | 0, _ => none
  | fuel + 1, m =>
    match x.joined.find? (·.member == m) with
    | none => (x.remote.find? (·.1 == m)).map (·.2)
    | some c =>
      if sOp x.shape = 3 then some c.value
      else ((List.range 4).map fun i => 4 * m + 1 + i).foldl (fun a k =>
        if members ≤ k then a
        else match a, CollInst.subtree x members fuel k with
          | some a, some b => some (combine x.shape a b)
          | _, _ => none) (some c.value)

/-- What member `m` of `n` receives of the result: all of it, a slice, or nothing. -/
def memberResult (sh : List Nat) (n m : Nat) (b : List Byte) : Option (List Byte) :=
  if sOp sh = 2 then
    let k := b.length / n
    some ((b.drop (m * k)).take k)
  else if 4 ≤ sOp sh then (if m = 0 then some b else none)
  else some b

/-! Descriptors (R450, R451). -/

/-- Join an instance, or start it. -/
def State.joinInst (s : State) (g i : Nat) (sh : List Nat) (m : CollMember) : State :=
  match s.collInst g i with
  | none => s.modFab fun f => { f with insts := f.insts ++ [{ group := g, inst := i, shape := sh, joined := [m], since := s.liveTick }] }
  | some x =>
    let clash := x.shape ≠ [] ∧ x.shape ≠ sh
    s.setInst { x with
      shape := if x.shape = [] then sh else x.shape, joined := x.joined ++ [m], status := if clash ∧ x.status = 0 then 4 else x.status }

/-- A descriptor whose group has members on other packages contributes poison, which no flit may carry (R492). -/
def State.collPoison (s : State) (x : CollGroup) (d : List Byte) : Bool :=
  let sh := [field d 0 1, field d 1 1, field d 2 1, field d 0x10 4, field d 0xC 1]
  let src := field d 0x18 8
  (x.members.any fun e => e.1 != s.deviceNum) && (sOp sh != 3 || field d 8 2 == 0) &&
    (s.bay (field d 0xA 1)).store.poisoned src (min (srcBytes sh) (bayStoreSize - src))

/-- A descriptor read from the queue of tent `t` joins its instance; one that its group does not match, or that would send
poison, is discarded, with a log record. -/
def State.joinDescriptor (s : State) (isl t : Nat) (d : List Byte) : State :=
  let g := field d 3 1
  let bay := field d 0xA 1
  let mem := field d 8 2
  let sh := [field d 0 1, field d 1 1, field d 2 1, field d 0x10 4, field d 0xC 1]
  match s.collGroup g with
  | none => s.log isl { detector := 0x0E00, severity := 3, action := 12, tent := t }
  | some x =>
    if x.tent ≠ t ∨ x.members[mem]? ≠ some (s.deviceNum, bay) then s.log isl { detector := 0x0E00, severity := 3, action := 12, tent := t }
    else if s.collPoison x d then s.log isl { detector := 0x1000, severity := 1, action := 12, tent := t }
    else
      let src := field d 0x18 8
      let n := min (srcBytes sh) (bayStoreSize - src)
      let st := (s.bay bay).store
      let own := sOp sh ≠ 3 ∨ mem = 0
      s.joinInst g (field d 4 4) sh
        { member := mem, bay := bay, slot := field d 0xB 1, dst := field d 0x20 8, statusAddr := field d 0x28 8
          value := if own then widenValue sh (st.read src n) else [], bad := own && st.poisoned src n }

/-- COLL_DESCRIPTOR_TAKE (R450, R453): the descriptor at HEAD of tent `t`'s queue, once READY. -/
def execCollDescriptorTake (t : Nat) (s : State) : Host.Outcome State Fault Refusal :=
  let r := rFabTentCollq t
  let isl := s.collIsland t
  if 64 ≤ t ∨ !s.flag r fFabTentCollqValid ∨ s.blocked isl then .next s
  else
    let a := s.fld r fFabTentCollqAddr * 64
    let log2 := s.fld r fFabTentCollqLog2
    let work : EM (Option (List Byte)) := do
      let h ← EM.read t a 64
      let head := field h 8 8
      let p := a + 64 + 64 * (head % 2 ^ log2)
      let d ← EM.read t p 64
      let s ← get
      let full := 16 ≤ (s.dev.fab.insts.filter fun x => x.group == field d 3 1).length ∧ (s.collInst (field d 3 1) (field d 4 4)).isNone
      if field d 0x30 8 ≠ 1 ∨ full then return none
      EM.write t (p + 0x30) (leBytes 8 0)
      EM.write t (a + 8) (leBytes 8 (head + 1))
      return some d
    match work s with
    | .error e => .next (s.engFail 0 t isl e)
    | .ok (none, _) => .next s
    | .ok (some d, s) => .next (s.joinDescriptor isl t d)

/-! Progress and ends (R452, R453). -/

/-- Send a part of an instance to a member's package. -/
def State.collSend (s : State) (isl dev tent g i m : Nat) (up : Bool) (v : List Byte) (sh : List Nat) (status : Nat) : State :=
  let (st, s) := s.originate isl
  s.fabSend { stamp := st, dest := dev, cls := 3, op := 0x20, tent := tent, src := isl, size := v.length
              pay := .coll g i m up v sh status }

/-- The end of a member's part: its result, if any, its status word, and its slot.  A status word whose panel has to be
brought in leaves the part open. -/
def State.endMember (s : State) (t : Nat) (m : CollMember) (v : Option (List Byte)) (bad : Bool) (status : Nat) :
    Bool × State :=
  match s.servedSpan t m.statusAddr 8 with
  | .wait =>
    let (st, s) := s.originate (s.collIsland t)
    (false, s.requestInbound t (m.statusAddr / 65536) st true)
  | how =>
    let s := match v with
      | some b => s.modBay m.bay fun y => { y with store := y.store.write m.dst (b.take (bayStoreSize - m.dst)) bad }
      | none => s
    let s := if how = .hbm then s.devWrite t m.statusAddr (leBytes 8 status) else s
    (true, s.modBay m.bay fun y => y.signal m.slot 1)

/-- End the parts of the members of this package that `v` gives a value or an end. -/
def State.endMembers (s : State) (t status : Nat) (x : CollInst) (v : CollMember → Option (Option (List Byte))) : CollInst × State :=
  let bad := x.joined.any (·.bad)
  let r := x.joined.foldl (fun (r : List CollMember × State) m =>
    if m.finished then (r.1 ++ [m], r.2)
    else match v m with
      | none => (r.1 ++ [m], r.2)
      | some b =>
        let (done, s) := r.2.endMember t m b bad status
        (r.1 ++ [{ m with finished := done }], s)) ([], s)
  ({ x with joined := r.1 }, r.2)

/-- Members of the group on this package. -/
def State.ownMembers (s : State) (g : CollGroup) : List Nat :=
  (List.range g.members.length).filter fun m => ((g.members[m]?).map (·.1)) == some s.deviceNum

/-- An instance is over here once every member of this package that joined has ended, and all have joined or the instance has
failed. -/
def State.closeInst (s : State) (g : CollGroup) (x : CollInst) : State :=
  let own := s.ownMembers g
  if x.joined.all (·.finished) ∧ (x.status ≠ 0 ∨ own.all fun m => x.joined.any (·.member == m)) then
    s.modFab fun f => { f with insts := f.insts.filter fun y => !(y.group == x.group && y.inst == x.inst) }
  else s.setInst x

/-- Members on other packages. -/
def State.farMembers (s : State) (g : CollGroup) : List (Nat × Nat) :=
  (List.range g.members.length).filterMap fun m => match g.members[m]? with
    | some e => if e.1 = s.deviceNum then none else some (m, e.1)
    | none => none

/-- A failed instance: every joined member ends with the status, DST undefined, and the other packages are told. -/
def State.failInst (s : State) (isl : Nat) (g : CollGroup) (x : CollInst) : State :=
  let s := if x.told then s
    else ((s.farMembers g).map (·.2)).foldl (fun (r : List Nat × State) d =>
      if r.1.contains d then r else (d :: r.1, r.2.collSend isl d g.tent x.group x.inst 0 false [] [] x.status)) ([], s) |>.2
  let n := if sOp x.shape = 2 then srcBytes x.shape / g.members.length else srcBytes x.shape
  let free := (List.range n).map fun i => BitVec.ofNat 8 (Config.freeValue (s.free + i))
  let (y, s) := s.endMembers g.tent x.status { x with told := true } fun _ => some (some free)
  { s with free := s.free + n }.closeInst g y

/-- The select units that merged lists count a form each (R452). -/
def State.countMerges (s : State) (members : Nat) (x : CollInst) : State :=
  if sOp x.shape ≠ 5 then s
  else x.joined.foldl (fun s m =>
    let n := ((List.range 4).filter fun i => decide (4 * m.member + 1 + i < members)).length
    s.bayEvent m.bay 0x00A n) s

/-- The root's result goes to the members of this package and to the others. -/
def State.distribute (s : State) (isl : Nat) (g : CollGroup) (x : CollInst) (b : List Byte) : State :=
  let n := g.members.length
  let r := narrowValue x.shape b
  let s := if x.told then s
    else (s.farMembers g).foldl (fun s e => match memberResult x.shape n e.1 r with
      | some v => s.collSend isl e.2 g.tent x.group x.inst e.1 false v [] 0
      | none => s) (s.countMerges n x)
  let (y, s) := s.endMembers g.tent 1 { x with told := true } fun m => some (memberResult x.shape n m.member r)
  s.closeInst g y

/-- Sub-trees whose parents are on other packages are sent up; members whose result has come, or who receive none, end. -/
def State.relay (s : State) (isl : Nat) (g : CollGroup) (x : CollInst) : State :=
  let n := g.members.length
  let r := x.joined.foldl (fun (r : List CollMember × State) m =>
    let parent := (g.members[(m.member - 1) / 4]?).getD (s.deviceNum, 0)
    if m.sent ∨ m.member = 0 ∨ sOp x.shape = 3 ∨ parent.1 = s.deviceNum then (r.1 ++ [m], r.2)
    else match x.subtree n (n + 1) m.member with
      | none => (r.1 ++ [m], r.2)
      | some v => (r.1 ++ [{ m with sent := true }],
          r.2.collSend isl parent.1 g.tent x.group x.inst m.member true v x.shape 0)) ([], s)
  let y : CollInst := { x with joined := r.1 }
  let (y, s) := r.2.endMembers g.tent 1 y fun m =>
    match x.results.find? (·.1 == m.member) with
    | some e => some (some e.2)
    | none => if 4 ≤ sOp x.shape ∧ m.member ≠ 0 ∧ (y.subtree n (n + 1) m.member).isSome then some none else none
  s.closeInst g y

/-- One move of instance `i` of group `g`, if it is of operation `op`: end it with its status, distribute the root's
result, or pass sub-trees on. -/
def State.collMove (s : State) (op g i : Nat) : State :=
  match s.collGroup g, s.collInst g i with
  | some gr, some x =>
    let isl := s.collIsland gr.tent
    if sOp x.shape ≠ op ∨ s.blocked isl then s
    else
      -- a bay that a migration cut took from the tent ends the instance (R453)
      let cut := x.joined.any fun m => !m.finished && !s.hasBay gr.tent m.bay
      let x := if cut ∧ x.status = 0 then { x with status := 3 } else x
      if x.status ≠ 0 then s.failInst isl gr x
      else if x.joined.any (·.member == 0) then
        (match x.subtree gr.members.length (gr.members.length + 1) 0 with
        | some b => s.distribute isl gr x b
        | none => s.relay isl gr x)
      else s.relay isl gr x
  | _, _ => s

/-- COLL_ALL_REDUCE (R452, R453). -/
def execCollAllReduce (g i : Nat) (s : State) : Host.Outcome State Fault Refusal := .next (s.collMove 1 g i)
/-- COLL_REDUCE_SCATTER (R452, R453). -/
def execCollReduceScatter (g i : Nat) (s : State) : Host.Outcome State Fault Refusal := .next (s.collMove 2 g i)
/-- COLL_BROADCAST (R452, R453). -/
def execCollBroadcast (g i : Nat) (s : State) : Host.Outcome State Fault Refusal := .next (s.collMove 3 g i)
/-- COLL_HIST_SUM (R452, R453). -/
def execCollHistSum (g i : Nat) (s : State) : Host.Outcome State Fault Refusal := .next (s.collMove 4 g i)
/-- COLL_SELECT_MERGE (R452, R453). -/
def execCollSelectMerge (g i : Nat) (s : State) : Host.Outcome State Fault Refusal := .next (s.collMove 5 g i)

/-- The package knows that member `m` has joined: here, or in a sub-tree whose value has come. -/
def CollInst.hasJoined (x : CollInst) : Nat → Nat → Bool
  | 0, _ => false
  | fuel + 1, m => x.joined.any (·.member == m) || x.remote.any (·.1 == m) || (m != 0 && hasJoined' x fuel ((m - 1) / 4))
where
  /-- An ancestor's sub-tree has come. -/
  hasJoined' (x : CollInst) : Nat → Nat → Bool
  | 0, _ => false
  | fuel + 1, m => x.remote.any (·.1 == m) || (m != 0 && hasJoined' x fuel ((m - 1) / 4))

/-- COLL_TIMEOUT (R453): a member did not join within COLL_TIMEOUT_MS of the first join. -/
def execCollTimeout (g i : Nat) (s : State) : Host.Outcome State Fault Refusal :=
  match s.collGroup g, s.collInst g i with
  | some gr, some x =>
    let missing := x.results == [] && !((List.range gr.members.length).all (x.hasJoined 16))
    if x.status ≠ 0 ∨ x.told ∨ !missing ∨ s.blocked (s.collIsland gr.tent) ∨
        s.liveTick < x.since + 1000000 * s.fld rFabCfg fFabCfgCollTimeoutMs then .next s
    else .next (s.failInst (s.collIsland gr.tent) gr { x with status := 2 })
  | _, _ => .next s

/-- TXN_COLLECTIVE (R452, R453): a sub-tree's value, a result or a status arrives from another package. -/
def execTxnCollective (k : Nat) (s : State) : Host.Outcome State Fault Refusal :=
  match s.arrivedTxn k 0x20 with
  | none => .next s
  | some (l, t) => match t.pay with
    | .coll g i m up v sh status =>
      if s.blocked (serveIsland l) then .next s
      else
        let s := s.takeTxn k
        let x := (s.collInst g i).getD { group := g, inst := i, since := s.liveTick }
        let s := if (s.collInst g i).isNone then s.modFab fun f => { f with insts := f.insts ++ [x] } else s
        let clash := up ∧ x.shape ≠ [] ∧ x.shape ≠ sh
        .next (s.setInst { x with
          shape := if x.shape = [] ∧ up then sh else x.shape
          remote := if up then x.remote ++ [(m, v)] else x.remote
          results := if up ∨ status ≠ 0 then x.results else x.results ++ [(m, v)]
          status := if x.status ≠ 0 then x.status else if clash then 4 else status
          told := x.told || status != 0 })
    | _ => .next (s.takeTxn k)

end Sys2Proof.Machine
end

