-- ==== Sys2Proof/Machine/Panels.lean ====
section
/-! DEFINITION. Panel tables, mapping, hints and retirement (R240 to R248, R269 to R271). -/

namespace Sys2Proof.Machine

/-! Physical panels (R249, R250, R252, R271, R583). -/

/-- Stacks over which a panel of this placement at stack `σ` spreads: its row's, or its own. -/
def spread (stackMask : Nat) (interleave : Bool) (σ : Nat) : List Nat := if interleave then bitList 12 stackMask else [σ]

/-- A stack's slot can hold a tent panel: outside the carved areas and not retired. -/
def State.slotGood (s : State) (σ slot : Nat) : Bool :=
  decide (σ < s.dev.desc.stackCount) && decide (slot < 2 ^ 20) &&
    !(s.dev.mem.carved.any fun e => decide (e.1 ≤ slot) && decide (slot < e.1 + e.2)) &&
    !s.nv.retired.contains (2 ^ 20 * σ + slot)

/-- The slot lies in the retirement reserve. -/
def State.inReserve (s : State) (slot : Nat) : Bool :=
  decide (s.dev.mem.reserveSlot ≤ slot) && decide (slot < s.dev.mem.reserveSlot + 64)

/-- A use of the same slot leaves room for this placement: another stack, or another panel of the same row (R250). -/
def PhysUse.admits (u : PhysUse) (p : Nat) (stackMask : Nat) (interleave : Bool) (σ : Nat) : Bool :=
  let mine := spread stackMask interleave σ
  let other := spread u.stackMask u.interleave (p / 2 ^ 20)
  !(mine.any other.contains) || (interleave && u.interleave && u.stackMask == stackMask && p / 2 ^ 20 != σ)

/-- Physical panel `p` is free for a tent of this placement. -/
def State.panelFree (s : State) (stackMask : Nat) (interleave : Bool) (p : Nat) : Bool :=
  let σ := p / 2 ^ 20
  let slot := p % 2 ^ 20
  (bitList 12 stackMask).contains σ && (spread stackMask interleave σ).all (fun x => s.slotGood x slot) &&
    (SMap.get (fun _ => none) s.dev.mem.phys p).isNone &&
    s.dev.mem.phys.all fun e =>
      e.1 % 2 ^ 20 != slot || (match e.2 with
        | some u => u.admits e.1 stackMask interleave σ
        | none => true)

/-- TENT_HBM.QUOTA. -/
def State.quota (s : State) (t : Nat) : Nat := s.fld (rTentHbm t) fTentHbmQuota

/-- Tent panels of a stack (R583). -/
def State.tentPanels (s : State) (σ : Nat) : Nat :=
  2 ^ 20 - (s.dev.mem.carved.foldl (fun n e => n + e.2) 64) - (s.nv.retired.filter fun p => p / 2 ^ 20 == σ).length

/-- Physical panels of a stack that a tent holds. -/
def State.heldOn (s : State) (σ t : Nat) : Nat :=
  (s.dev.mem.phys.filter fun e => e.1 / 2 ^ 20 == σ && (match e.2 with
    | some u => u.tent == t
    | none => false)).length

/-- Panels of a stack that a tent with QUOTA `quota` over the stacks of a mask reserves (R379). -/
def stackShare (stackMask quota σ : Nat) : Nat :=
  if stackMask.testBit σ then quota / (bitList 12 stackMask).length else 0

/-- Panels of a stack that tent `u` keeps from tent `t`: what it has reserved or its retained table's record holds
(R243, R379), and what it holds beyond. -/
def State.reservedBy (s : State) (σ t u : Nat) : Nat :=
  if u = t then 0
  else
    max (s.heldOn σ u)
      (if 2 ≤ s.fld (rTentCtl u) fTentCtlState ∧ s.fld (rTentCtl u) fTentCtlState ≤ 4 then
        stackShare (s.tentStacks u) (s.quota u) σ
      else match (s.table u).retention with
        | some r => stackShare r.stackMask r.quota σ
        | none => 0)
def State.reservedOn (s : State) (σ t : Nat) : Nat := (List.range 64).foldl (fun n u => n + s.reservedBy σ t u) 0

/-- Unused panels of a tent's reservation on a stack (R379). -/
def State.stackRoom (s : State) (t σ : Nat) : Nat := stackShare (s.tentStacks t) (s.quota t) σ - s.heldOn σ t

/-- A new panel of the tent may lie on stack `σ` (R379): its reservation there is not used up, a confined tent has most
left there, the lower stack on a tie, and a tent without a reservation yet takes none of another's. -/
def State.stackOpen (s : State) (t σ : Nat) : Bool :=
  decide (0 < s.stackRoom t σ) &&
    (s.tentInterleave t || (bitList 12 (s.tentStacks t)).all fun x =>
      decide (s.stackRoom t x < s.stackRoom t σ) || (s.stackRoom t x == s.stackRoom t σ && decide (σ ≤ x))) &&
    (s.fld (rTentCtl t) fTentCtlState != 1 || decide (s.reservedOn σ t + s.heldOn σ t < s.tentPanels σ))

/-- Physical panel `p` is free for tent `t` where R379 has its next panel. -/
def State.mayTake (s : State) (t p : Nat) : Bool :=
  s.panelFree (s.tentStacks t) (s.tentInterleave t) p && !s.inReserve (p % 2 ^ 20) && s.stackOpen t (p / 2 ^ 20)

/-- A free tent panel for a tent: the one the part picks, or else the lowest slot of the lowest stack (log entry 13). -/
def State.pickPanel (s : State) (t : Nat) (pick : Option Nat) : Option Nat :=
  match pick with
  | some p => if s.mayTake t p then some p else none
  | none => (((bitList 12 (s.tentStacks t)).filter (s.stackOpen t)).flatMap fun σ =>
      (List.range (2 ^ 20)).map (2 ^ 20 * σ + ·)).find? (s.mayTake t)

/-- Panels of a tent that hold a physical panel (R272 RESIDENT). -/
def State.residentCount (s : State) (t : Nat) : Nat :=
  ((s.table t).panels.filter fun e => e.2.state == 1 || e.2.state == 3 || e.2.state == 4).length
def State.pinnedCount (s : State) (t : Nat) : Nat := ((s.table t).panels.filter fun e => e.2.pin).length
def State.migratingCount (s : State) (t : Nat) : Nat :=
  ((s.table t).panels.filter fun e => e.2.state == 3 || e.2.state == 4).length

/-- Record or drop the use of a physical panel. -/
def State.setPhys (s : State) (p : Nat) (u : Option PhysUse) : State :=
  s.modMem fun m => { m with phys := SMap.set (fun _ => none) m.phys p u }

/-- Clear `n` bytes of HBM: they read as clean zeros. -/
def State.hbmClear (s : State) (a n : Nat) : State :=
  s.modMem fun m => { m with
    hbm := ⟨SMap.clearRange m.hbm.bytes a n, SMap.clearRange m.hbm.poison (a / 4) (n / 4)⟩
    flips := SMap.clearRange m.flips (a / 4) (n / 4) }

/-- Zero a tent's physical panel (R246, R265). -/
def State.zeroPanel (s : State) (stackMask : Nat) (interleave : Bool) (p : Nat) : State :=
  (List.range 16).foldl (fun s g => s.hbmClear (hbmAddress stackMask interleave p (4096 * g)) 4096) s

/-- Give a tent panel a zeroed physical panel. -/
def State.takePanel (s : State) (t v p : Nat) : State :=
  (s.zeroPanel (s.tentStacks t) (s.tentInterleave t) p).setPhys p
    (some ⟨t, v, s.tentStacks t, s.tentInterleave t⟩)

/-! Extents (R258, R267, R379). -/

/-- Extents of the tent's flash share: set, first extent, one past the last. -/
def State.flashShare (s : State) (t : Nat) : Nat × Nat × Nat :=
  let b := 1024 * s.fld (rTentFlash t) fTentFlashBaseK
  (s.fld (rTentFlash t) fTentFlashSet, b, b + 1024 * s.fld (rTentFlash t) fTentFlashCountK)

def State.flashEnabled (s : State) (t : Nat) : Bool := s.flag (rTentFlash t) fTentFlashEnable

def State.extentFree (s : State) (k e : Nat) : Bool := SMap.get (fun _ => 0) (s.flashSet k).extents e == 0
def State.setExtent (s : State) (k e u : Nat) : State :=
  let x := s.flashSet k
  s.setFlashSet k { x with extents := SMap.set (fun _ => 0) x.extents e u }

/-- A free extent of the tent's share: the one picked, or the lowest (log entry 13). -/
def State.pickExtent (s : State) (t : Nat) (pick : Option Nat) : Option Nat :=
  let (k, a, b) := s.flashShare t
  match pick with
  | some e => if a ≤ e ∧ e < b ∧ s.extentFree k e = true then some e else none
  | none => ((List.range (b - a)).map (a + ·)).find? (s.extentFree k)

/-! Leaves and the pool (R241, R242). -/

/-- Bytes of a tent's directory: eight for each span of 4,096 panels. -/
def dirBytes (rangeLog2 : Nat) : Nat := 8 * 2 ^ (rangeLog2 - 28)

/-- Bytes of the pool: HBM capacity / 512. -/
def State.poolSize (s : State) : Nat := s.fld rMemPtpool fMemPtpoolSize64mib * 2 ^ 26

/-- Bytes of the pool in use: directories in 4 KiB pages and leaves of 64 KiB. -/
def State.poolUsed (s : State) : Nat :=
  (List.range 64).foldl (fun n t =>
    if s.flag (rMemPanelTableBase t) fMemPanelTableBaseValid then
      n + 4096 * ((dirBytes (s.fld (rMemPanelTableBase t) fMemPanelTableBaseRangeLog2) + 4095) / 4096) +
        65536 * (s.table t).leaves.length
    else n) 0

/-- Allocate the leaf of a panel, if it is absent; `none` where the pool is full. -/
def State.takeLeaf (s : State) (t v : Nat) : Option State :=
  let x := s.table t
  if SMap.get (fun _ => 0) x.leaves (v / 4096) ≠ 0 then some s
  else if s.poolUsed + 65536 ≤ s.poolSize then
    some (s.setTable t { x with leaves := SMap.set (fun _ => 0) x.leaves (v / 4096) 1 })
  else none

/-- Free the leaf of a panel once every panel of its span is INVALID. -/
def State.dropLeaf (s : State) (t v : Nat) : State :=
  let x := s.table t
  if x.panels.any fun e => e.1 / 4096 == v / 4096 && e.2.state != 0 then s
  else s.setTable t { x with leaves := SMap.set (fun _ => 0) x.leaves (v / 4096) 0 }

/-! Panel table commands. -/

/-- PANEL_TABLE_CREATE (R240): a write of VALID = 1 with `rangeLog2`.  `dir` is the pool page that the part gives the
directory (R242 leaves the place open). -/
def execPanelTableCreate (t rangeLog2 dir : Nat) (s : State) : Host.Outcome State Fault Refusal :=
  let r := rMemPanelTableBase t
  if 64 ≤ t then .next s
  else if rangeLog2 < 28 ∨ 56 < rangeLog2 ∨ s.flag r fMemPanelTableBaseValid = true ∨
      s.poolSize < s.poolUsed + 4096 * ((dirBytes rangeLog2 + 4095) / 4096) then
    .next (s.setFlag r fMemPanelTableBaseCfgError true)
  else
    let page := s.fld rMemPtpool fMemPtpoolBase * 16 + dir % (s.poolSize / 4096)
    .next ((((((s.setTable t {}).setFlag r fMemPanelTableBaseValid true).setFlag r fMemPanelTableBaseCfgError false).setFld
      r fMemPanelTableBaseRangeLog2 rangeLog2).setFlag r fMemPanelTableBaseRetained false).setFld
      r fMemPanelTableBaseDirAddr page)

/-- Free every physical panel and extent of a tent's table (R243). -/
def State.freeTable (s : State) (t : Nat) : State :=
  let x := s.table t
  let k := match x.retention with
    | some r => r.flashSet
    | none => s.fld (rTentFlash t) fTentFlashSet
  x.panels.foldl (fun s e =>
    let s := if e.2.state = 1 ∨ e.2.state = 3 ∨ e.2.state = 4 then s.setPhys e.2.hbm none else s
    if e.2.homeFlash then s.setExtent k e.2.extent 0 else s) s

/-- PANEL_TABLE_DESTROY (R240, R243): a write of VALID = 0. -/
def execPanelTableDestroy (t : Nat) (s : State) : Host.Outcome State Fault Refusal :=
  let r := rMemPanelTableBase t
  if 64 ≤ t then .next s
  else if s.flag r fMemPanelTableBaseRetained = false ∧ ((s.table t).panels.any fun e => e.2.state != 0) = true then
    .next (s.setFlag r fMemPanelTableBaseCfgError true)
  else
    let s := (s.freeTable t).setTable t {}
    .next ((((s.setFlag r fMemPanelTableBaseValid false).setFlag r fMemPanelTableBaseCfgError false).setFlag
      r fMemPanelTableBaseRetained false).setFld r fMemPanelTableBaseDirAddr 0)

/-- The two words of a panel entry (R244). -/
def Panel.word0 (p : Panel) : W64 :=
  BitVec.ofNat 64 (p.state + (if p.pin then 8 else 0) + (if p.homeFlash then 16 else 0) +
    (if p.accessed then 32 else 0) + p.dirty.toNat * 64 +
    (if p.state = 1 ∨ p.state = 3 ∨ p.state = 4 then p.hbm * 2 ^ 32 else 0))
def Panel.word1 (p : Panel) : W64 := BitVec.ofNat 64 (if p.homeFlash then p.extent else 0)

/-- One past the last panel of a tent's range; 0 without a table. -/
def State.panelEnd (s : State) (t : Nat) : Nat :=
  if t < 64 ∧ s.flag (rMemPanelTableBase t) fMemPanelTableBaseValid = true then s.rangeEnd t / 65536 else 0

/-- PANEL_READ (R242): MEM_PANEL_READ loads the entry; a panel beyond the range reads as zero. -/
def execPanelRead (t v : Nat) (s : State) : Host.Outcome State Fault Refusal :=
  let p : Panel := if v < s.panelEnd t then s.panel t v else {}
  .next ((s.wr rMemPanelData0 p.word0).wr rMemPanelData1 p.word1)

/-! MEM_MAP and MEM_HINT (R246 to R248, R269). -/

/-- Report a MEM_MAP or MEM_HINT write (R248). -/
def State.memReport (s : State) (hint busy : Bool) (result done : Nat) : State :=
  let old := s.rd rMemOpStatus
  s.wr rMemOpStatus (BitVec.ofNat 64 ((if busy then 1 else 0) + 2 * getBits old 1 1 + 16 * result +
    (if hint then 256 else 0) + 2 ^ 32 * done))

/-- Process the panels from `v` in order with `f`, which answers a RESULT or the next state, and stop at the first that
fails; each panel's change has a stamp of its own (R247). -/
def State.eachPanel (t : Nat) (f : State → Stamp → Nat → Except Nat State) : Nat → Nat → Nat → State → Nat × Nat × State
  | 0, _, done, s => (0, done, s)
  | n + 1, v, done, s =>
    if s.panelEnd t ≤ v then (1, done, s)
    else match f (s.originate islPort).2 (s.originate islPort).1 v with
      | .error r => (r, done, s)
      | .ok s => State.eachPanel t f n (v + 1) (done + 1) s

/-- A MEM_MAP or MEM_HINT write of `count` panels that can be completed at once: BUSY and the table come first
(R248). -/
def State.memOp (s : State) (hint : Bool) (t v count : Nat) (f : State → Stamp → Nat → Except Nat State) : State :=
  if s.flag rMemOpStatus fMemOpStatusBusy then s.setFlag rMemOpStatus fMemOpStatusOverrun true
  else if t < 64 ∧ s.flag (rMemPanelTableBase t) fMemPanelTableBaseRetained = true then s.memReport hint false 8 0
  else if 64 ≤ t ∨ s.flag (rMemPanelTableBase t) fMemPanelTableBaseValid = false then s.memReport hint false 6 0
  else
    let (r, done, s) := State.eachPanel t f (min count 16384) v 0 s
    s.memReport hint false r done

/-- MAP_HBM (R246): `picks` are the physical panels that the part takes, in order. -/
def execMapHbm (t v count : Nat) (picks : List Nat) (s : State) : Host.Outcome State Fault Refusal :=
  .next (s.memOp false t v count fun s _ x =>
    if (s.panel t x).state ≠ 0 then .error 2
    else if s.quota t ≤ s.residentCount t then .error 3
    else match s.pickPanel t picks[x - v]? with
      | none => .error 3
      | some p => match s.takeLeaf t x with
        | none => .error 5
        | some s => .ok ((s.takePanel t x p).setPanel t x { state := 1, hbm := p }))

/-- MAP_FLASH (R246). -/
def execMapFlash (t v count : Nat) (s : State) : Host.Outcome State Fault Refusal :=
  .next (s.memOp false t v count fun s _ x =>
    if (s.panel t x).state ≠ 0 then .error 2
    else if !s.flashEnabled t then .error 4
    else match s.takeLeaf t x with
      | none => .error 5
      | some s => .ok (s.setPanel t x { state := 2 }))

/-- The panel's migration, or the accesses held for it, have to end before an UNMAP or a retirement takes it (R246, R247). -/
def State.moving (s : State) (t v : Nat) : Bool :=
  (s.panel t v).state == 3 || (s.panel t v).state == 4 ||
    s.dev.mem.held.any fun a => a.tent == t && a.addr / 65536 == v

/-- Migration requests of a panel that is gone leave the queues. -/
def State.unqueue (s : State) (t v : Nat) : State :=
  (List.range 6).foldl (fun s m =>
    s.setMig m { s.mig m with queue := (s.mig m).queue.filter fun r => !(r.tent == t && r.panel == v) }) s

/-- Take one panel to INVALID, freeing what it held, at a stamp of the MEM unit (R246, R247). -/
def State.unmapPanel (s : State) (t v : Nat) : State :=
  let p := s.panel t v
  if p.state = 0 then s
  else
    let s := (s.originate islPort).2.unqueue t v
    let s := if p.state = 1 then s.setPhys p.hbm none else s
    let s := if p.homeFlash then s.setExtent (s.fld (rTentFlash t) fTentFlashSet) p.extent 0 else s
    ((s.setPanel t v {}).dropLeaf t v).serveHeld t v

/-- Unmap `n` panels from `v`; at a panel that migrates, the write stays BUSY until it can go on (R246, R247). -/
def State.unmapFrom (t : Nat) : Nat → Nat → Nat → State → State
  | 0, _, done, s => ({ s with dev := { s.dev with mem := { s.dev.mem with unmapping := none } } }).memReport false false
      0 done
  | n + 1, v, done, s =>
    if s.panelEnd t ≤ v then (s.modMem fun m => { m with unmapping := none }).memReport false false 1 done
    else if s.moving t v then
      (s.modMem fun m => { m with unmapping := some (t, v, n + 1) }).memReport false true 0 done
    else State.unmapFrom t n (v + 1) (done + 1) (s.unmapPanel t v)

/-- UNMAP (R246, R247). -/
def execUnmap (t v count : Nat) (s : State) : Host.Outcome State Fault Refusal :=
  if s.flag rMemOpStatus fMemOpStatusBusy then .next (s.setFlag rMemOpStatus fMemOpStatusOverrun true)
  else if t < 64 ∧ s.flag (rMemPanelTableBase t) fMemPanelTableBaseRetained = true then
    .next (s.memReport false false 8 0)
  else if 64 ≤ t ∨ s.flag (rMemPanelTableBase t) fMemPanelTableBaseValid = false then
    .next (s.memReport false false 6 0)
  else .next (State.unmapFrom t (min count 16384) v 0 s)

/-- HINT_PREFETCH (R269). -/
def execHintPrefetch (t v count : Nat) (s : State) : Host.Outcome State Fault Refusal :=
  .next (s.memOp true t v count fun s st x => .ok (s.requestInbound t x st false))

/-- HINT_PIN (R269): at least 16 panels of the quota stay unpinned. -/
def execHintPin (t v count : Nat) (s : State) : Host.Outcome State Fault Refusal :=
  .next (s.memOp true t v count fun s st x =>
    let p := s.panel t x
    if p.state = 0 ∨ p.state = 5 then .ok s
    else if !p.pin && decide (s.quota t < s.pinnedCount t + 1 + 16) then .error 3
    else .ok ((s.setPanel t x { p with pin := true }).requestInbound t x st false))

/-- HINT_UNPIN (R269). -/
def execHintUnpin (t v count : Nat) (s : State) : Host.Outcome State Fault Refusal :=
  .next (s.memOp true t v count fun s _ x =>
    let p := s.panel t x
    if p.state = 0 ∨ p.state = 5 then .ok s else .ok (s.setPanel t x { p with pin := false }))

/-- An outbound migration of the panel is queued or in flight. -/
def State.outboundPending (s : State) (t v : Nat) : Bool :=
  s.dev.mem.mig.any fun e => (e.2.queue ++ e.2.flight).any fun m => m.out && m.tent == t && m.panel == v

/-- HINT_DEMOTE (R269): nothing without a flash share. -/
def execHintDemote (t v count : Nat) (s : State) : Host.Outcome State Fault Refusal :=
  .next (s.memOp true t v count fun s st x =>
    let p := s.panel t x
    if p.state = 1 ∧ p.pin = false ∧ s.flashEnabled t = true ∧ s.outboundPending t x = false then
      .ok (s.queueMigration { tent := t, panel := x, out := true, stamp := st })
    else .ok s)

/-! Retirement (R270, R271). -/

/-- Report a retirement. -/
def State.retireReport (s : State) (busy : Bool) (result : Nat) : State :=
  s.wr rMemRetireStatus (BitVec.ofNat 64 ((if busy then 1 else 0) + 2 * result + 2 ^ 32 * s.nv.retired.length))

/-- Enter a physical panel in the retirement list. -/
def State.retireEntry (s : State) (p : Nat) : State := { s with nv := { s.nv with retired := s.nv.retired ++ [p] } }

/-- A granule of physical panel `p` holds a word that reads as uncorrectable. -/
def State.granuleLost (s : State) (stackMask : Nat) (interleave : Bool) (p g : Nat) : Bool :=
  (List.range 1024).any fun i =>
    let a := hbmAddress stackMask interleave p (4096 * g + 4 * i)
    match eccDecode (eccEncode (s.dev.mem.hbm.num a 4) (s.dev.mem.hbm.bad (a / 4)) ^^^
      SMap.get (fun _ => 0) s.dev.mem.flips (a / 4)) with
    | .bad _ _ => true
    | _ => false

/-- Copy a granule of a tent panel to a replacement, or read it again from flash (R271). -/
def State.replaceGranule (s : State) (u : PhysUse) (p q g : Nat) : State :=
  let a := hbmAddress u.stackMask u.interleave p (4096 * g)
  let b := hbmAddress u.stackMask u.interleave q (4096 * g)
  if s.granuleLost u.stackMask u.interleave p g then
    let k := s.fld (rTentFlash u.tent) fTentFlashSet
    let d := 16 * (s.panel u.tent u.panel).extent + g
    match s.readGranule k d with
    | some bs => (s.hbmClear b 4096).modMem fun m => { m with hbm := m.hbm.write b bs (s.granulePoisoned k d) }
    | none => s
  else (s.hbmClear b 4096).modMem fun m => { m with hbm := m.hbm.copyWords a m.hbm b 4096 }

/-- Retire a physical panel that holds a tent panel which does not migrate: the RESULT and the state. -/
def State.retireUsed (s : State) (p : Nat) (u : PhysUse) : Nat × State :=
  let e := s.panel u.tent u.panel
  let lost := (List.range 16).filter fun g => s.granuleLost u.stackMask u.interleave p g
  let refetch := lost.filter fun g => e.homeFlash && !e.dirty.getLsbD g &&
    (s.readGranule (s.fld (rTentFlash u.tent) fTentFlashSet) (16 * e.extent + g)).isSome
  let gone := decide (refetch.length < lost.length)
  let spare := ((List.range 64).map fun i => 2 ^ 20 * (p / 2 ^ 20) + s.dev.mem.reserveSlot + i).find?
    (s.panelFree u.stackMask u.interleave)
  let s := s.retireEntry p
  let kill (s : State) : State :=
    ((s.setPhys p none).setPanel u.tent u.panel { e with state := 5 }).serveHeld u.tent u.panel
  match spare with
  | some q =>
    if gone then (2, kill s)
    else
      let s := (List.range 16).foldl (fun s g => s.replaceGranule u p q g) s
      let s := ((s.setPhys p none).setPhys q (some u)).setPanel u.tent u.panel { e with hbm := q }
      (if refetch = [] then 0 else 1, s)
  | none =>
    if gone ∨ s.flashEnabled u.tent = false then (2, kill s)
    else
      let (st, s) := s.originate (islMigration (p / 2 ^ 20 / 2))
      (if refetch = [] then 0 else 1,
        s.queueMigration { tent := u.tent, panel := u.panel, out := true, demand := true, stamp := st })

/-- Retire physical panel `p`, or wait for its migration (R271). -/
def State.retire (s : State) (p : Nat) : State :=
  let σ := p / 2 ^ 20
  let slot := p % 2 ^ 20
  if s.dev.desc.stackCount ≤ σ then s.retireReport false 6
  else if s.nv.retired.contains p then s.retireReport false 5
  else if 4096 ≤ s.nv.retired.length then s.retireReport false 4
  else if s.dev.mem.carved.any fun e => decide (e.1 ≤ slot) && decide (slot < e.1 + e.2) then
    (s.retireEntry p).retireReport false 7
  else match SMap.get (fun _ => none) s.dev.mem.phys p with
    | none => (s.retireEntry p).retireReport false 3
    | some u =>
      if s.moving u.tent u.panel then (s.modMem fun m => { m with retiring := some p }).retireReport true 0
      else
        let (r, s) := s.retireUsed p u
        (s.modMem fun m => { m with retiring := none }).retireReport false r

/-- PANEL_RETIRE (R270, R271): a write of MEM_RETIRE; ignored while BUSY. -/
def execPanelRetire (p : Nat) (s : State) : Host.Outcome State Fault Refusal :=
  if s.flag rMemRetireStatus fMemRetireStatusBusy then .next s else .next (s.retire (p % 2 ^ 24))

/-- Go on with an UNMAP and a retirement that waited for a migration that has ended. -/
def State.memResume (s : State) : State :=
  let s := match s.dev.mem.unmapping with
    | some (t, v, n) => State.unmapFrom t n v (s.fld rMemOpStatus fMemOpStatusPanelsDone) s
    | none => s
  match s.dev.mem.retiring with
  | some p => s.retire p
  | none => s

end Sys2Proof.Machine
end

