-- ==== Sys2Proof/Machine/Migrate.lean ====
section
/-! DEFINITION. Migration between HBM and flash (R265 to R268), and NVMe commands (R257, R262). -/

namespace Sys2Proof.Machine

/-! Flash failures. -/

/-- The set that uses an SSD slot: its number, and the SSD's index in it. -/
def State.setOfSlot (s : State) (slot : Nat) : Option (Nat × Nat) :=
  ([0, 1].filterMap fun k =>
    if s.flag (rMemFlashsetCfg k) fMemFlashsetCfgValid then
      (((s.flashSet k).slots.findIdx? (· == slot)).map fun i => (k, i))
    else none).head?

/-- A FLASH record: an SSD error or a reconstruction (R488). -/
def flashRec (severity action d : Nat) : ErrRec :=
  { detector := 0x0A00, severity := severity, action := action, address := d, space := 8 }

/-- Set a set's STATE from its failed slots; a rebuild in progress reads REBUILDING (R262, R263). -/
def State.refreshSet (s : State) (k : Nat) : State :=
  let fs := s.flashSet k
  let st := setState fs.slots.length (ones16 (s.failedSlots k))
  s.setFld (rMemFlashsetStatus k) fMemFlashsetStatusState (if fs.rebuilding.isSome ∧ st = 2 then 3 else st)

/-- With fewer than two journal SSDs left, the ADMIT commits of FLASH tents have failed (R413). -/
def State.flashAdmitsFailed (s : State) : State :=
  if 2 ≤ s.journalSsds.length then s
  else (s.dev.jrnl.log.filter fun r => r.cls == 2 && !r.written && r.pay.kind == 1).foldl (fun s r => s.admitFailed r.req) s

/-- An SSD is treated as failed (R262): its commands end, its set turns DEGRADED or FAILED, and the journal moves if it
stood there (R415). -/
def State.failSsd (s : State) (slot : Nat) : State :=
  match s.setOfSlot slot with
  | none => s
  | some (k, i) =>
    if (s.failedSlots k).testBit slot ∧ (s.flashSet k).rebuilding ≠ some i then s
    else
      let s := s.setFld (rMemFlashsetStatus k) fMemFlashsetStatusFailedSlots (setBit (s.failedSlots k) slot true)
      let x := s.flashSet k
      let s := s.setFlashSet k { x with rebuilding := if x.rebuilding = some i then none else x.rebuilding }
      let s := s.modMem fun m => { m with nvme := m.nvme.filter (·.ssd ≠ slot) }
      (((s.refreshSet k).log (islPcie (slot / 4)) (flashRec 1 0 slot)).journalSsdFailed).flashAdmitsFailed

/-- The set cannot serve a stripe that has lost more than two granules. -/
def State.setFailed (s : State) (k : Nat) : Bool :=
  s.fld (rMemFlashsetStatus k) fMemFlashsetStatusState == 4 ||
    !s.flag (rMemFlashsetCfg k) fMemFlashsetCfgValid

/-- A granule read that had to be reconstructed: counted and logged (R261, R262). -/
def State.noteReconstruct (s : State) (k d : Nat) : State :=
  let st := stripeOf d
  let i := (placeOf (s.flashSet k).slots.length st.1 st.2).1
  let slot := (s.flashSet k).slots.getD i 0
  let s := s.addFld (rMemFlashsetStatus k) fMemFlashsetStatusReconstructs 1
  (s.log (islPcie (slot / 4)) (flashRec 0 8 d)).iodEvent (slot / 4) 0x209 0 0xFF

/-- Issue an NVMe command for a granule, on its SSD (R257). -/
def State.nvmeIssue (s : State) (t v k d : Nat) (write : Bool) : State :=
  let st := stripeOf d
  let i := (placeOf (s.flashSet k).slots.length st.1 st.2).1
  let slot := (s.flashSet k).slots.getD i 99
  if s.usable k i st.1 then
    (s.modMem fun m => { m with
      nvme := m.nvme ++ [⟨m.nextNvme, t, v, slot, k, d, write, s.ao.tick⟩], nextNvme := m.nextNvme + 1 }).iodEvent
      (slot / 4) (if write then 0x208 else 0x207) 0 t
  else s

/-- NVMe commands of a panel's migration are outstanding. -/
def State.nvmeBusy (s : State) (t v : Nat) : Bool := s.dev.mem.nvme.any fun c => c.tent == t && c.panel == v

/-- NVME_COMPLETION (R257, R262): command `id` finishes with a status: 0 good, 1 a read media error, whose granule is
reconstructed, 2 a failed write, which fails the SSD. -/
def execNvmeCompletion (id status : Nat) (s : State) : Host.Outcome State Fault Refusal :=
  match s.dev.mem.nvme.find? (·.id == id) with
  | none => .next s
  | some c =>
    let s := s.modMem fun m => { m with nvme := m.nvme.filter (·.id ≠ id) }
    if status = 0 then .next s
    else if c.write then .next (s.failSsd c.ssd)
    else if (s.reconstruct c.set (stripeOf c.granule).1 (stripeOf c.granule).2 [(stripeOf c.granule).2]).isSome then
      .next (s.noteReconstruct c.set c.granule)
    else .next (s.modMem fun m => { m with unread := m.unread ++ [(c.set, c.granule)] })

/-- NVME_COMMAND_TIMEOUT (R257, R262): a command outstanding for 2 s is aborted and its SSD treated as failed. -/
def execNvmeCommandTimeout (id : Nat) (s : State) : Host.Outcome State Fault Refusal :=
  match s.dev.mem.nvme.find? fun c => c.id == id && decide (c.since + 2000000000 ≤ s.ao.tick) with
  | none => .next s
  | some c => .next (s.failSsd c.ssd)

/-- SSD_FAIL (R262): the controller reports fatal status or its link goes down. -/
def execSsdFail (slot : Nat) (s : State) : Host.Outcome State Fault Refusal := .next (s.failSsd slot)

/-! Queues (R265). -/

/-- An inbound request waits for the eviction made for it. -/
def State.awaitsVictim (s : State) (r : Migration) : Bool :=
  !r.out && s.dev.mem.mig.any fun e => (e.2.queue ++ e.2.flight).any fun m =>
    m.out && m.tent == r.tent && m.forPanel == some r.panel

/-- The request an engine serves next: demand before hints, each class in stamp order. -/
def State.nextRequest (s : State) (m : Nat) : Option Migration :=
  let q := (s.mig m).queue.filter fun r => !s.awaitsVictim r
  let best (l : List Migration) : Option Migration :=
    l.foldl (fun (b : Option Migration) r =>
      match b with
      | none => some r
      | some x => if r.stamp.key < x.stamp.key then some r else some x) none
  match best (q.filter (·.demand)) with
  | some r => some r
  | none => best (q.filter fun r => !r.demand)

/-- Remove a request from an engine's queue. -/
def State.dropRequest (s : State) (m : Nat) (r : Migration) : State :=
  let x := s.mig m
  s.setMig m { x with queue := x.queue.filter (· ≠ r) }

/-- Record of a migration engine in the PROTOCOL class (R584). -/
def State.migLog (s : State) (m detail action t v : Nat) : State :=
  s.log (islMigration m) (protocolRec detail action (65536 * v) 7 0 t)

/-! The sweep (R268). -/

/-- Panels in sweep order from `start`. -/
def sweepOrder (x : PanelTable) (start : Nat) : List Nat :=
  let ks := x.panels.map (·.1)
  (ks.filter fun k => decide (start ≤ k)) ++ ks.filter fun k => decide (k < start)

/-- Sweep for a victim: a panel with ACCESSED is passed over once and cleared. -/
def State.sweepFor (s : State) (t : Nat) : List Nat → Option Nat × State
  | [] => (none, s)
  | v :: vs =>
    let p := s.panel t v
    if p.pin ∨ p.state ≠ 1 ∨ s.outboundPending t v = true then State.sweepFor s t vs
    else if p.accessed then State.sweepFor (s.setPanel t v { p with accessed := false }) t vs
    else
      let x := s.table t
      (some v, s.setTable t { x with sweep := v + 1 })

/-- The victim of a whole sweep, the second round taking panels passed over in the first. -/
def State.victim (s : State) (t : Nat) : Option Nat × State :=
  let o := sweepOrder (s.table t) (s.table t).sweep
  s.sweepFor t (o ++ o)

/-! Inbound (R265, R266). -/

/-- Fail the accesses held for a panel with a deferred trap. -/
def State.failHeld (s : State) (t v cause : Nat) : State :=
  let mine := s.dev.mem.held.filter fun a => a.tent == t && a.addr / 65536 == v
  let s := s.modMem fun m => { m with held := m.held.filter fun a => !(a.tent == t && a.addr / 65536 == v) }
  mine.foldl (fun s a => (s.failOp a.bay a.slot a.opId a.pc cause a.lane a.addr).markReady a.bay a.slot a.opId) s

/-- The tent may take one more physical panel. -/
def State.quotaFree (s : State) (t : Nat) : Bool := decide (s.residentCount t < s.quota t)

/-- INBOUND_MIGRATION (R265, R268): engine `m` serves its next request, an inbound one.  `pick` is the physical panel the
part takes. -/
def execInboundMigration (m : Nat) (pick : Option Nat) (s : State) : Host.Outcome State Fault Refusal :=
  .next (s.acting (islMigration m) fun s =>
    match s.nextRequest m with
    | none => s
    | some r =>
      let t := r.tent
      let v := r.panel
      if r.out ∨ 64 ≤ (s.mig m).flight.length then s
      else if (s.panel t v).state ≠ 2 then s.dropRequest m r
      else if s.quotaFree t then
        match s.pickPanel t pick with
        | none => s
        | some p =>
          let s := s.dropRequest m r
          let x := s.mig m
          let s := s.setMig m { x with flight := x.flight ++ [r] }
          let s := (s.takePanel t v p).setPanel t v { s.panel t v with state := 3, hbm := p }
          let s := if (s.panel t v).homeFlash then
              (List.range 16).foldl (fun s g =>
                s.nvmeIssue t v (s.fld (rTentFlash t) fTentFlashSet) (16 * (s.panel t v).extent + g) false) s
            else s
          s.busy (engMigration m)
      else
        let (w, s) := s.victim t
        match w with
        | some w =>
          let (st, s) := s.originate (islMigration m)
          s.queueMigration { tent := t, panel := w, out := true, demand := true, stamp := st, forPanel := some v }
        | none =>
          let s := s.dropRequest m r
          let x := s.mig m
          let s := s.setMig m { x with quotaFailures := min (x.quotaFailures + 1) 65535 }
          let held := s.dev.mem.held.any fun a => a.tent == t && a.addr / 65536 == v
          ((s.migLog m 8 (if held then 3 else 0) t v).failHeld t v trapDeviceRange).memResume)

/-- The engine that has a migration of the panel in flight. -/
def State.flightOf (s : State) (out : Bool) (t v : Nat) : Option (Nat × Migration) :=
  (s.dev.mem.mig.filterMap fun e =>
    (e.2.flight.find? fun r => r.out == out && r.tent == t && r.panel == v).map fun r => (e.1, r)).head?

/-- Remove a migration from flight. -/
def State.endFlight (s : State) (m : Nat) (r : Migration) : State :=
  let x := s.mig m
  s.setMig m { x with flight := x.flight.filter (· ≠ r) }

/-- Fill one granule of a panel being brought in: its flash granule, reconstructed where needed; poisoned where it
cannot be read or stands in the poison list (R262, R264, R265). -/
def State.fillGranule (s : State) (t v g : Nat) : State :=
  let p := s.panel t v
  let k := s.fld (rTentFlash t) fTentFlashSet
  let d := 16 * p.extent + g
  let a := hbmAddress (s.tentStacks t) (s.tentInterleave t) p.hbm (4096 * g)
  let st := stripeOf d
  let s := if (s.slotBytes k st.1 st.2).isNone ∧ (s.reconstruct k st.1 st.2).isSome then s.noteReconstruct k d else s
  if s.dev.mem.unread.contains (k, d) then
    s.modMem fun m => { m with hbm := m.hbm.write a (List.replicate 4096 0) true, unread := m.unread.filter (· ≠ (k, d)) }
  else match s.readGranule k d with
    | some b => s.modMem fun m => { m with hbm := m.hbm.write a b (s.granulePoisoned k d) }
    | none => s.modMem fun m => { m with hbm := m.hbm.write a (List.replicate 4096 0) true }

/-- INBOUND_MIGRATION_DONE (R265, R266): once its reads have completed the panel is RESIDENT, and the accesses held for it
are performed in stamp order. -/
def execInboundMigrationDone (t v : Nat) (s : State) : Host.Outcome State Fault Refusal :=
  match s.flightOf false t v with
  | none => .next s
  | some (m, r) =>
    .next (s.acting (islMigration m) fun s =>
      if s.nvmeBusy t v then s.stallFor (engMigration m) 0
      else
        let s := s.endFlight m r
        let s := if (s.panel t v).homeFlash then (List.range 16).foldl (fun s g => s.fillGranule t v g) s else s
        let s := s.setPanel t v { s.panel t v with state := 1, dirty := 0, accessed := true }
        let s := ((s.serveHeld t v).msdEvent m 0x109 0 t).busy (engMigration m) 16
        (s.trace (islMigration m) 0x40 t t v).memResume)

/-! Outbound (R267). -/

/-- Write one granule of a panel back; `none` where the set is FAILED or the poison list is full (R260, R262, R264). -/
def State.writeBack (s : State) (t v g : Nat) : Option State :=
  let p := s.panel t v
  let k := s.fld (rTentFlash t) fTentFlashSet
  let d := 16 * p.extent + g
  let a := hbmAddress (s.tentStacks t) (s.tentInterleave t) p.hbm (4096 * g)
  if s.setFailed k then none
  else match s.setPoisonList k d (s.dev.mem.hbm.poisoned a 4096) with
    | none => none
    | some s => ((s.setIntent k (stripeOf d).1 true).writeGranule k d (s.dev.mem.hbm.read a 4096)).map
        fun s => s.nvmeIssue t v k d true

/-- Write granules back in order. -/
def State.writeBackAll (s : State) (t v : Nat) : List Nat → Option State
  | [] => some s
  | g :: gs => match s.writeBack t v g with
    | none => none
    | some s => State.writeBackAll s t v gs

/-- OUTBOUND_MIGRATION (R267 steps 1 to 3): engine `m` serves its next request, an outbound one.  `pick` is the extent the
part takes where the panel has no flash copy. -/
def execOutboundMigration (m : Nat) (pick : Option Nat) (s : State) : Host.Outcome State Fault Refusal :=
  .next (s.acting (islMigration m) fun s =>
    match s.nextRequest m with
    | none => s
    | some r =>
      let t := r.tent
      let v := r.panel
      let p := s.panel t v
      if !r.out ∨ 64 ≤ (s.mig m).flight.length then s
      else if p.state ≠ 1 then s.dropRequest m r
      else
        let s := s.dropRequest m r
        let (_, s) := s.originate (islMigration m)
        let k := s.fld (rTentFlash t) fTentFlashSet
        match (if p.homeFlash then some p.extent else s.pickExtent t pick) with
        | none => s.migLog m 7 0 t v
        | some e =>
          let gs := if p.homeFlash then bitList 16 p.dirty.toNat else List.range 16
          let s' := (s.setExtent k e (t + 1)).setPanel t v { p with state := 4, extent := e, dirty := 0 }
          match s'.writeBackAll t v gs with
          | some s' =>
            let x := s'.mig m
            (s'.setMig m { x with flight := x.flight ++ [{ r with beganDirty := p.dirty }] }).busy (engMigration m) 16
          | none =>
            -- the write-back fails and the panel stays RESIDENT; a full poison list writes a record (R262, R264)
            if s.setFailed k then s else s.log (islMigration m) (flashRec 1 0 (16 * e)))

/-- OUTBOUND_WRITEBACK_DONE (R267 steps 4 and 5): the writes have completed, the panel is closed at its controllers, and
the engine originates the commit stamp. -/
def execOutboundWritebackDone (t v : Nat) (s : State) : Host.Outcome State Fault Refusal :=
  match s.flightOf true t v with
  | none => .next s
  | some (m, r) =>
    .next (s.acting (islMigration m) fun s =>
      if s.nvmeBusy t v then s.stallFor (engMigration m) 1
      else if r.commit.isSome then s
      else
        let k := s.fld (rTentFlash t) fTentFlashSet
        let e := (s.panel t v).extent
        let s := (List.range 16).foldl (fun s g => s.setIntent k (stripeOf (16 * e + g)).1 false) s
        let (st, s) := s.originate (islMigration m)
        let x := s.mig m
        s.setMig m { x with flight := x.flight.map fun q => if q = r then { r with commit := some st } else q })

/-- OUTBOUND_COMMIT_SETTLED (R267 steps 6 and 7): once the commit stamp is settled, accesses before it are performed in
HBM; a clean panel becomes FLASH and a dirty one RESIDENT again; accesses after it are served under that state. -/
def execOutboundCommitSettled (t v : Nat) (s : State) : Host.Outcome State Fault Refusal :=
  match s.flightOf true t v with
  | none => .next s
  | some (m, r) =>
    match r.commit with
    | none => .next s
    | some c =>
      .next (s.acting (islMigration m) fun s =>
        if !s.settled c then s
        else
          let s := (s.endFlight m r).serveHeld t v (keep := fun a => !a.stamp.before c)
          let p := s.panel t v
          let k := s.fld (rTentFlash t) fTentFlashSet
          let s :=
            if p.dirty = 0 then
              let s := (s.setPhys p.hbm none).setPanel t v { p with state := 2, homeFlash := true }
              (s.msdEvent m 0x10A 0 t).trace (islMigration m) 0x41 t t v
            else
              let s := if p.homeFlash then s else s.setExtent k p.extent 0
              let x := s.mig m
              let s := s.setMig m { x with aborted := min (x.aborted + 1) 65535 }
              ((s.setPanel t v { p with state := 1 }).msdEvent m 0x10B 0 t).trace (islMigration m) 0x42 t t v
          (s.serveHeld t v).memResume)

end Sys2Proof.Machine
end

