-- ==== Sys2Proof/Machine/FlashSets.lean ====
section
/-! DEFINITION. Building, assembling and rebuilding flash sets (R258, R260, R261, R263). -/

namespace Sys2Proof.Machine

/-- SSD slots of the assembly: four root ports an I/O die (R257). -/
def State.ssdSlots (s : State) : Nat := 4 * s.dev.desc.iods

/-- The other set's mask, if it is valid. -/
def State.otherMask (s : State) (k : Nat) : Nat :=
  let o := 1 - k % 2
  if s.flag (rMemFlashsetCfg o) fMemFlashsetCfgValid then s.fld (rMemFlashsetCfg o) fMemFlashsetCfgSsdMask else 0

/-- The mask names 8 to 16 slots of the assembly, none of the other set's (R258, R261). -/
def State.maskOk (s : State) (k mask : Nat) : Bool :=
  decide (8 ≤ ones16 mask) && (mask &&& s.otherMask k == 0) && decide (mask < 2 ^ s.ssdSlots)

/-- An SSD meets R256. -/
def Ssd.fits (x : Ssd) : Bool := x.present && x.supported && decide (524288 ≤ x.granules)

/-- Smallest capacity of the SSDs in a mask, less the reserved granules (R258). -/
def State.gminOf (s : State) (slots : List Nat) : Nat :=
  (slots.foldl (fun g i => if (s.ssd i).present then min g (s.ssd i).granules else g) (2 ^ 64)) - reservedGranules

/-- A failed VALID write (R261). -/
def State.setCfgFail (s : State) (k : Nat) : State :=
  (s.setFlag (rMemFlashsetCfg k) fMemFlashsetCfgValid false).setFlag (rMemFlashsetCfg k) fMemFlashsetCfgCfgError true

/-- Extents in use by the tents whose flash share lies in a set. -/
def State.extentsInUse (s : State) (k : Nat) : SMap Nat :=
  s.dev.mem.tables.foldl (fun m e =>
    let set := match e.2.retention with
      | some r => r.flashSet
      | none => s.fld (rTentFlash e.1) fTentFlashSet
    if set = k then
      e.2.panels.foldl (fun m q => if q.2.homeFlash then SMap.set (fun _ => 0) m q.2.extent (e.1 + 1) else m) m
    else m) []

/-- Set the registers and the layout of a set that is valid now. -/
def State.bringUp (s : State) (k mask : Nat) (plp : Bool) (ident : W128) (failed : Nat) : State :=
  let slots := bitList 16 mask
  let g := s.gminOf slots
  let stripes := slots.length * g / 16
  let s := s.setFlashSet k { slots := slots, stripes := stripes, gmin := g, identity := ident
                             extents := s.extentsInUse k }
  let c := rMemFlashsetCfg k
  let s := ((((s.setFld c fMemFlashsetCfgSsdMask mask).setFlag c fMemFlashsetCfgValid true).setFlag
    c fMemFlashsetCfgPlp plp).setFlag c fMemFlashsetCfgCfgError false)
  let s := (s.wr (rMemFlashsetStatus k) 0).setFld (rMemFlashsetStatus k) fMemFlashsetStatusFailedSlots failed
  (s.setFld (rMemFlashsetExtents k) fMemFlashsetExtentsDataExtents (14 * stripes / 16)).refreshSet k

/-- FLASH_SET_CREATE (R261): VALID written to 1 with CREATE = 1.  `ident` is the new set identity. -/
def execFlashSetCreate (k mask : Nat) (plp : Bool) (ident : W128) (s : State) : Host.Outcome State Fault Refusal :=
  if 2 ≤ k ∨ s.flag (rMemFlashsetCfg k) fMemFlashsetCfgValid = true then .next s
  else
    let slots := bitList 16 mask
    if s.maskOk k mask && slots.all fun i => (s.ssd i).fits then
      let s := slots.foldl (fun s i =>
        s.setSsd i { s.ssd i with info := some ⟨ident, mask, plp, k⟩, data := [], intent := [], poison := [], journal := [] })
        s
      .next (s.bringUp k mask plp ident 0)
    else .next (s.setCfgFail k)

/-- The metadata that the SSDs of a mask agree on, at most one of them missing; and the missing slots (R261). -/
def State.agreedMeta (s : State) (mask : Nat) : Option (SsdMeta × List Nat) :=
  let slots := bitList 16 mask
  match (slots.filterMap fun i => if (s.ssd i).present then (s.ssd i).info else none).head? with
  | none => none
  | some x =>
    let missing := slots.filter fun i =>
      !((s.ssd i).present && ((s.ssd i).info.map fun y => y.identity == x.identity && y.mask == mask) == some true)
    if x.mask = mask ∧ missing.length ≤ 1 then some (x, missing) else none

/-- Recompute the parity of every stripe that the set's intent log names, and clear the log (R260). -/
def State.replayIntent (s : State) (k : Nat) : State :=
  let sts := ((s.flashSet k).slots.flatMap fun i => (s.ssd i).intent).eraseDups
  let s := sts.foldl (fun s st => s.fixParity k st) s
  (s.flashSet k).slots.foldl (fun s i => s.setSsd i { s.ssd i with intent := [] }) s

/-- Assemble an existing set (R261). -/
def State.assembleSet (s : State) (k mask : Nat) : State :=
  if !s.maskOk k mask then s.setCfgFail k
  else match s.agreedMeta mask with
    | none => s.setCfgFail k
    | some (x, missing) =>
      (s.bringUp k mask x.plp x.identity (missing.foldl (fun m i => setBit m i true) 0)).replayIntent k

/-- FLASH_SET_ASSEMBLE (R261): VALID written to 1 with CREATE = 0. -/
def execFlashSetAssemble (k mask : Nat) (s : State) : Host.Outcome State Fault Refusal :=
  if 2 ≤ k ∨ s.flag (rMemFlashsetCfg k) fMemFlashsetCfgValid = true then .next s else .next (s.assembleSet k mask)

/-- FLASH_REBUILD_GO (R263): the slot is failed; `fresh` gives the replacement SSD found in it, by capacity in granules
and whether it meets R256. -/
def execFlashRebuildGo (k slot : Nat) (fresh : Option Nat) (supported : Bool) (s : State) :
    Host.Outcome State Fault Refusal :=
  let fs := s.flashSet k
  match fs.slots.findIdx? (· == slot), fresh with
  | some i, some g =>
    if k < 2 ∧ s.flag (rMemFlashsetCfg k) fMemFlashsetCfgValid = true ∧ (s.failedSlots k).testBit slot = true ∧
        fs.rebuilding = none ∧ supported = true ∧ fs.gmin + reservedGranules ≤ g ∧ s.setFailed k = false then
      let plp := s.flag (rMemFlashsetCfg k) fMemFlashsetCfgPlp
      let mask := s.fld (rMemFlashsetCfg k) fMemFlashsetCfgSsdMask
      let s := s.setSsd slot { present := true, supported := true, granules := g
                               info := some ⟨fs.identity, mask, plp, k⟩ }
      let s := s.setFlashSet k { fs with rebuilding := some i }
      .next ((s.wr (rMemFlashsetRebuild k) (BitVec.ofNat 64 slot)).refreshSet k)
    else .next s
  | _, _ => .next s

/-- Rebuild one stripe onto the SSD of index `i`. -/
def State.rebuildStripe (s : State) (k i st : Nat) : State :=
  let fs := s.flashSet k
  (List.range 16).foldl (fun s j =>
    let p := placeOf fs.slots.length st j
    if p.1 = i then
      match s.reconstruct k st j with
      | some b => s.storeGranule (fs.slots.getD i 99) p.2 b
      | none => s
    else s) s

/-- FLASH_REBUILD_DONE (R263): the stripes are rebuilt in ascending order, DONE is set and the slot is no longer
failed. -/
def execFlashRebuildDone (k : Nat) (s : State) : Host.Outcome State Fault Refusal :=
  let fs := s.flashSet k
  match fs.rebuilding with
  | none => .next s
  | some i =>
    let slot := fs.slots.getD i 0
    let s := (List.range fs.stripes).foldl (fun s st => s.rebuildStripe k i st) s
    -- the poison list is kept on every SSD of the set that is not failed
    let ps := ((fs.slots.filter (· ≠ slot)).flatMap fun x => (s.ssd x).poison).eraseDups
    let s := s.setSsd slot { s.ssd slot with poison := ps }
    let s := s.setFlashSet k { fs with rebuilding := none }
    let s := s.setFld (rMemFlashsetStatus k) fMemFlashsetStatusFailedSlots (setBit (s.failedSlots k) slot false)
    let r := rMemFlashsetRebuild k
    .next (((s.setFlag r fMemFlashsetRebuildDone true).setFld r fMemFlashsetRebuildStripesDone fs.stripes).refreshSet k)

end Sys2Proof.Machine
end

