-- ==== Sys2Proof/Machine/Freeze.lean ====
section
/-! DEFINITION. The global freeze (R56 to R62). -/

namespace Sys2Proof.Machine

/-- All ones: no tick (R58). -/
def noTick : W64 := 0xFFFFFFFFFFFFFFFF

/-- Set TIME_FREEZE_STATUS.STATE. -/
def State.setFreeze (s : State) (n : Nat) : State := s.setFld rTimeFreezeStatus fTimeFreezeStatusState n

/-- Set one of the refusal flags of TIME_FREEZE_STATUS. -/
def State.freezeFlag (s : State) (f : Nat × Nat) : State := s.setFlag rTimeFreezeStatus f true

/-- End the freeze in hand: STATE is IDLE and both tick registers read all ones (R58, R561). -/
def State.freezeIdle (s : State) : State :=
  (((((s.setFreeze 0).wr rTimeFreezeAt noTick).wr rTimeResumeAt noTick).setFld rTimeFreezeStatus
    fTimeFreezeStatusHeldItems 0).setFlag rTimeFreezeStatus fTimeFreezeStatusScopeFabric false).setFlag rTimeDumpCtl
    fTimeDumpCtlDone false

/-- Disarm an armed freeze if at least 1,000 ticks remain; `late` is the flag set when a freeze is past arming. -/
def State.disarm (s : State) (late : Nat × Nat) : State :=
  if s.freezeState = 0 then s
  else if s.freezeState = 1 then
    if s.ao.tick + 1000 ≤ (s.rd rTimeFreezeAt).toNat then s.freezeIdle
    else s.freezeFlag fTimeFreezeStatusCancelRefused
  else s.freezeFlag late

/-- Arm tick `t` (R58), broadcasting it in fabric scope (R62). -/
def State.armFreeze (s : State) (t : W64) : State :=
  let fab := s.flag rTimeFreezeCtl fTimeFreezeCtlScope
  if 2 ≤ s.freezeState then s.freezeFlag fTimeFreezeStatusInProgress
  else if t.toNat < s.ao.tick + (if fab then 10000 else 2000) then s.freezeFlag fTimeFreezeStatusTooSoon
  else
    let s := ((s.wr rTimeFreezeAt t).setFreeze 1).setFlag rTimeFreezeStatus fTimeFreezeStatusScopeFabric fab
    let s := s.setFld rTimeFreezeStatus fTimeFreezeStatusPeersAcked 0
    if fab then s.fabBroadcast 0x41 t.toNat else s

/-- FREEZE_ARM (R58): a write of a tick to TIME_FREEZE_AT; all ones name no tick. -/
def execFreezeArm (t : W64) (s : State) : Host.Outcome State Fault Refusal :=
  .next (if t = noTick then s.disarm fTimeFreezeStatusInProgress else s.armFreeze t)

/-- FREEZE_DISARM (R58): a write of all ones to TIME_FREEZE_AT. -/
def execFreezeDisarm (s : State) : Host.Outcome State Fault Refusal :=
  .next (s.disarm fTimeFreezeStatusInProgress)

/-- FREEZE_CANCEL (R58): 1 written to TIME_FREEZE_CTL.CANCEL. -/
def execFreezeCancel (s : State) : Host.Outcome State Fault Refusal :=
  .next (s.disarm fTimeFreezeStatusCancelRefused)

/-- FREEZE_TICK_REACHED (R57): the reference reaches T. -/
def execFreezeTickReached (s : State) : Host.Outcome State Fault Refusal :=
  if s.freezeState = 1 ∧ (s.rd rTimeFreezeAt).toNat ≤ s.ao.tick then
    .next ({ s with dev := { s.dev with freeze := { s.dev.freeze with drainAt := s.ao.tick } } }.setFreeze 2)
  else .next s

/-- The items that frozen-scope receivers hold, watermarks left out (R51, R57), in the order of the dump. -/
def State.heldItems (s : State) : List Item :=
  (s.dev.couplers.flatMap (·.2)).filter fun i => freezeScope i.holder && decide (i.kind ≠ .watermark)

/-- Items held in couplers and link buffers. -/
def State.heldCount (s : State) : Nat := s.heldItems.length + s.heldLinks.length

/-- FREEZE_SETTLED (R62): T is settled at every frozen-scope island, by T + 200 (R52). -/
def execFreezeSettled (s : State) : Host.Outcome State Fault Refusal :=
  if s.freezeState = 2 ∧ (s.rd rTimeFreezeAt).toNat + 200 ≤ s.ao.tick then
    .next ((s.setFreeze 3).setFld rTimeFreezeStatus fTimeFreezeStatusHeldItems s.heldCount)
  else .next s

/-- RESUME_ARM (R61): a write of U to TIME_RESUME_AT, taken only while FROZEN and 2,000 ticks ahead. -/
def execResumeArm (u : W64) (s : State) : Host.Outcome State Fault Refusal :=
  if s.freezeState = 3 ∧ s.ao.tick + 2000 ≤ u.toNat then
    let s := (s.wr rTimeResumeAt u).setFreeze 4
    .next (if s.flag rTimeFreezeStatus fTimeFreezeStatusScopeFabric then s.fabBroadcast 0x42 u.toNat else s)
  else .next (s.freezeFlag fTimeFreezeStatusTooSoon)

/-- RESUME_TICK_REACHED (R61): the reference reaches U; the ticks in [T, U) stop counting for R60. -/
def execResumeTickReached (s : State) : Host.Outcome State Fault Refusal :=
  let t := (s.rd rTimeFreezeAt).toNat
  let u := (s.rd rTimeResumeAt).toNat
  if s.freezeState = 4 ∧ u ≤ s.ao.tick then
    .next ({ s with dev := { s.dev with freeze :=
      { s.dev.freeze with frozenTicks := s.dev.freeze.frozenTicks + (u - t) } } }.freezeIdle)
  else .next s

/-- FREEZE_ACK_RECEIVE (R62): a peer acknowledges a fabric-scope freeze, or reports that it froze late. -/
def execFreezeAckReceive (late : Bool) (s : State) : Host.Outcome State Fault Refusal :=
  if s.flag rTimeFreezeStatus fTimeFreezeStatusScopeFabric ∧ s.freezeState ≠ 0 then
    let s := s.addFld rTimeFreezeStatus fTimeFreezeStatusPeersAcked 1
    .next (if late then s.freezeFlag fTimeFreezeStatusLatePeer else s)
  else .next s

end Sys2Proof.Machine
end

