-- ==== Sys2Proof/Machine/Crews.lean ====
section
/-! DEFINITION. Launching, ending and landing (R71 to R74, R82, R130). -/

namespace Sys2Proof.Machine

/-- Register file a crew takes, in KiB (R73). -/
def footprint (count : Nat) : Nat := count / 8

/-- Register file in use, in KiB. -/
def Bay.regsUsed (b : Bay) : Nat := b.resident.foldl (fun n e => n + footprint e.2.count) 0

/-- The crew slot and the register footprint of the descriptor are both free (R74). -/
def Bay.canLaunch (b : Bay) (d : LaunchDesc) (slot : Nat) : Bool :=
  decide (slot < 256) && (b.crew slot).isNone && decide (b.regsUsed + footprint d.count ≤ 1024)

/-- A crew just launched (R71): `v0` holds the lane number and `v1` the crew slot. -/
def newCrew (d : LaunchDesc) (slot : Nat) : Crew :=
  let c : Crew := { count := d.count, pc := d.entry, endSlot := d.endSlot, request := d.request, rank := d.rank, cmd := d.cmd }
  let c := (List.range 32).foldl (fun c l =>
    (c.writeV l 0 ⟨BitVec.ofNat 32 l, false⟩).writeV l 1 ⟨BitVec.ofNat 32 slot, false⟩) c
  ((List.range 16).zip d.u).foldl (fun c e => c.writeU e.1 e.2) c

/-- Crews parked on a full launch queue issue their LAUNCH again (R74). -/
def Bay.wakeLaunch (b : Bay) : Bay :=
  b.resident.foldl (fun b e =>
    if e.2.park = .launch then b.setCrew e.1 (some { e.2 with park := .running }) else b) b

/-- CREW_LAUNCH (R71, R74): the head of the launch queue launches into `slot` once it fits. -/
def execCrewLaunch (bay slot : Nat) (s : State) : Host.Outcome State Fault Refusal :=
  let b := s.bay bay
  match b.launchq with
  | [] => .next s
  | d :: ds =>
    if b.canLaunch d slot && !b.gated && !b.resetDue && !s.blocked (s.bayIsland bay) then
      let b := ({ b with launchq := ds, launches := b.launches + 1 }.setCrew slot
        (some { newCrew d slot with launchNo := b.launches })).wakeLaunch
      let s := (s.setBay bay b).bayEvent bay 0x003
      .next (s.trace (s.bayIsland bay) 0x30 (b.tent.getD 0xFF) (bay + 256 * slot) d.entry)
    else .next s

/-- CREW_END (R72): an ended crew with no operation outstanding frees its slot and registers, and its slot is signalled
by 1; a LAUNCH command responds (R536). -/
def execCrewEnd (bay slot : Nat) (s : State) : Host.Outcome State Fault Refusal :=
  match s.crew bay slot with
  | none => .next s
  | some c =>
    if c.exiting ∧ c.ops = [] ∧ s.blocked (s.bayIsland bay) = false then
      .next ((s.modBay bay fun b => (b.setCrew slot none).signalOpt c.endSlot).endLaunch c.cmd 0 0)
    else .next s

/-- The crew with operation `o` landed: its registers filled, and whatever waited for it ready (R81, R82). -/
def Crew.land (c : Crew) (o : LongOp) : Crew :=
  let c := { c with ops := c.ops.filter (·.id ≠ o.id)
                    v := o.regs.foldl (fun (v : SMap VReg) (r : Nat × VReg) => SMap.set (fun _ => {}) v r.1 r.2) c.v }
  let c := if c.park = .operand o.id ∨ c.park = .ninth then { c with park := .running } else c
  c.drained

/-- LONG_LATENCY_REPLY_LAND (R80 to R82, R130): operation `id` of a crew lands in full, or raises its deferred trap. -/
def execLongLatencyReplyLand (bay slot id : Nat) (s : State) : Host.Outcome State Fault Refusal :=
  match s.crew bay slot with
  | none => .next s
  | some c =>
    match c.ops.find? fun o => o.id == id && s.opReady bay slot c o with
    | none => .next s
    | some o =>
      if s.heldLanding bay then .next s
      else
        let s := s.setCrew bay slot (c.land o)
        match o.trap with
        | some t => .next (s.trap bay slot o.pc t.1 t.2.1 t.2.2)
        | none =>
          .next (s.modBay bay fun b =>
            { b with store := if o.bytes = [] then b.store else b.store.write o.addr o.bytes o.poisoned }.signalOpt
              o.slot)

end Sys2Proof.Machine
end

