-- ==== Sys2Proof/Machine/Sampler.lean ====
section
/-! DEFINITION. The sampler: slices of logits (R129), the stages of R356 to R358, and verification (R360). -/

namespace Sys2Proof.Machine

/-- FP32 quotient, rounded once to nearest-even. -/
def fdiv (a b : W32) : W32 :=
  match decode32 a, decode32 b with
  | .nan, _ => 0x7FC00000
  | _, .nan => 0x7FC00000
  | .inf _, .inf _ => 0x7FC00000
  | .inf s, .fin t _ _ => encode32 (.inf (s != t))
  | .fin s _ _, .inf t => encode32 (.fin (s != t) 0 0)
  | .fin s m e, .fin t n k =>
    if n = 0 then (if m = 0 then 0x7FC00000 else encode32 (.inf (s != t)))
    else
      -- 64 extra quotient bits and a sticky bit decide the rounding
      let sh := 64 + Nat.log2 n
      let q := (m <<< sh) / n
      let r := (m <<< sh) % n
      encode32 (.fin (s != t) (2 * q + (if r = 0 then 0 else 1)) (e - k - sh - 1))

/-- FP32 less-than; false for a NaN. -/
def flt (a b : W32) : Bool := decide ((decode32 a).cmp (decode32 b) = some .lt)

def negInf : W32 := 0xFF800000
def posInf : W32 := 0x7F800000
/-- A NaN counts as −Inf from stage 1 on (R356). -/
def nanLow (x : W32) : W32 := if (decode32 x).isNan then negInf else x

/-- A processed distribution: tokens of nonzero mass with it, in the order of stage 6, or the one token drawn without a
DRBG word; whether R358 applied, and whether a logit was NaN. -/
structure Dist where
  order : List (Nat × W32) := []
  point : Option Nat := none
  zeroMass : Bool := false
  nan : Bool := false
  deriving DecidableEq, Repr, Inhabited

/-- The sampling parameters of a position. -/
structure SampleArgs where
  /-- Stage 1 to 7 values; 0 turns TOP_K off. -/
  topK : Nat := 0
  temperature : W32 := 0x3F800000
  topP : W32 := 0x3F800000
  minP : W32 := 0
  repetition : W32 := 0x3F800000
  frequency : W32 := 0
  presence : W32 := 0
  bias : List (Nat × W32) := []
  /-- Tokens in the penalty window. -/
  window : List Nat := []
  deriving DecidableEq, Repr, Inhabited

/-- Stages 1 and 2 on one logit: the count of the token in the window is `c`. -/
def SampleArgs.adjust (p : SampleArgs) (bias : Option W32) (c : Nat) (raw : W32) : W32 :=
  let x := nanLow raw
  let x := match bias with
    | none => x
    | some b => nanLow (fadd x b)
  if c = 0 then x
  else
    let x := if flt 0 x then fdiv x p.repetition else fmul x p.repetition
    nanLow (fsub (fsub x (fmul p.frequency (encode32 (.fin false c 0)))) p.presence)

/-- The largest value of a list of (id, value) pairs, ties to the lower id; a NaN counts as −Inf. -/
def bestOf : List (Nat × W32) → Option (Nat × W32)
  | [] => none
  | (t, x) :: l =>
    match bestOf l with
    | none => some (t, nanLow x)
    | some (u, y) => if flt (nanLow x) y then some (u, y) else some (t, nanLow x)

/-- log₂ e as FP32. -/
def log2e : W32 := 0x3FB8AA3B

/-- e of each kept token (R356 stage 6, R357), the largest first; the values 2^x are those FEXP2's bound allows. -/
def masses (free : Nat) (kept : List (Nat × W32)) : List (Nat × W32) :=
  let top := ((kept.head?).map (·.2)).getD 0
  if top = posInf then kept.map fun e => (e.1, if e.2 = posInf then 0x3F800000 else 0)
  else kept.map fun e => (e.1, fexp2 (Config.freeValue (free + e.1)) (fmul (fsub e.2 top) log2e))

/-- Sum in FP32, in order. -/
def fsum (l : List (Nat × W32)) : W32 := l.foldl (fun x e => fadd x e.2) 0

/-- The shortest leading run whose sum reaches `need`. -/
def leadRun (need : W32) : W32 → List (Nat × W32) → List (Nat × W32)
  | _, [] => []
  | acc, e :: es => let acc := fadd acc e.2
    if flt acc need then e :: leadRun need acc es else [e]

/-- Stages 1 to 7 of R356 with R357 and R358; `mask` is none where stage 3 does nothing. -/
def process (p : SampleArgs) (mask : Option (List Bool)) (free : Nat) (logits : List W32) : Dist :=
  let ids := List.range logits.length
  let raw := ids.zip logits
  let nan := raw.any fun e => (decode32 e.2).isNan
  let s2 := raw.map fun e => (e.1, p.adjust ((p.bias.foldl (fun x b => if b.1 = e.1 then
    some (match x with | none => b.2 | some y => fadd y b.2) else x) none)) (p.window.count e.1) e.2)
  let allowed (t : Nat) : Bool := match mask with
    | none => true
    | some m => m.getD t false
  let ok := s2.filter fun e => allowed e.1
  if ok.all fun e => e.2 == negInf then
    -- zero mass: the largest raw logit
    { point := (bestOf (raw.filter fun e => allowed e.1)).map (·.1), zeroMass := true, nan := nan }
  else if p.temperature = 0 ∨ p.temperature = 0x80000000 then { point := (bestOf ok).map (·.1), nan := nan }
  else
    let s4 := ok.map fun e => (e.1, fdiv e.2 p.temperature)
    let sorted := (sortEntries 0 false (s4.map fun e => ⟨e.2, e.1⟩)).map fun e => (e.id, e.score)
    let kept := (if p.topK = 0 then sorted else sorted.take p.topK).filter fun e => e.2 != negInf
    if kept = [] then { point := (bestOf ok).map (·.1), zeroMass := true, nan := nan }
    else
      let es := masses free kept
      let run := leadRun (fmul p.topP (fsum es)) 0 es
      let floor := fmul p.minP (((bestOf run).map (·.2)).getD 0)
      { order := run.filter fun e => !flt e.2 floor && flt 0 e.2, nan := nan }

/-- (r + 0.5) / 2³² in FP32 (R356 stage 8, R360). -/
def unitWord (r : W32) : W32 := encode32 (.fin false (2 * r.toNat + 1) (-33))

/-- The first token whose cumulative mass exceeds the target; the last one where rounding leaves none. -/
def walkTo (target : W32) : W32 → List (Nat × W32) → Option Nat
  | _, [] => none
  | acc, e :: es => let acc := fadd acc e.2
    if flt target acc then some e.1
    else match walkTo target acc es with
      | none => some e.1
      | some t => some t

/-- Stage 8. -/
def Dist.draw (d : Dist) (r : W32) : Option Nat :=
  match d.point with
  | some t => some t
  | none => walkTo (fmul (unitWord r) (fsum d.order)) 0 d.order

/-- The probability of a token. -/
def Dist.prob (d : Dist) (t : Nat) : W32 :=
  match d.point with
  | some u => if u = t then 0x3F800000 else 0
  | none => match d.order.find? (·.1 == t) with
    | some e => fdiv e.2 (fsum d.order)
    | none => 0

/-- The tokens of a distribution with their probabilities. -/
def Dist.probs (d : Dist) : List (Nat × W32) :=
  match d.point with
  | some t => [(t, 0x3F800000)]
  | none => d.order.map fun e => (e.1, d.prob e.1)

/-- R_j (R360): the target's probabilities less the draft's; the target's distribution where it has no mass. -/
def residual (p : Dist) (q : List (Nat × W32)) : Dist :=
  let r := (p.probs.map fun e =>
    (e.1, fsub e.2 (((q.find? (·.1 == e.1)).map (·.2)).getD 0))).filter fun e => flt 0 e.2
  if r = [] then p else { order := r }

/-- Verification (R360): `ps` are the target's distributions of the positions computed, `none` from a position whose mask
allows no token; `ds` the drafts with their probabilities; `rs` the DRBG words in the order they are used. -/
def verify (greedy : Bool) : List (Option Dist) → List (Nat × List (Nat × W32)) → List W32 → List Nat
  | none :: _, _, _ => []
  | [], _, _ => []
  | some p :: _, [], rs => (p.draw (rs.headD 0)).toList
  | some p :: ps, (d, q) :: ds, rs =>
    let qd := ((q.find? (·.1 == d)).map (·.2)).getD 0
    let accept := if greedy then decide (p.point = some d)
      else
        let ratio := if flt 0 qd then fdiv (p.prob d) qd else if flt 0 (p.prob d) then 0x3F800000 else 0
        let bound := if flt 0x3F800000 ratio then 0x3F800000 else ratio
        flt (unitWord (rs.headD 0)) bound
    let rs := if greedy then rs else rs.drop 1
    if accept then d :: verify greedy ps ds rs
    else if greedy then p.point.toList
    else ((residual p q).draw (rs.headD 0)).toList

/-! Slices (R129). -/

def sliceKey (bay ctx : Nat) : Nat := 2 ^ 64 * bay + ctx
def State.slice (s : State) (bay ctx : Nat) : Slice := SMap.get (fun _ => {}) s.dev.text.slices (sliceKey bay ctx)
def State.setSlice (s : State) (bay ctx : Nat) (x : Slice) : State :=
  { s with dev := { s.dev with text := { s.dev.text with
      slices := SMap.set (fun _ => {}) s.dev.text.slices (sliceKey bay ctx) x } } }

/-- COUNT, POSITION and the reserved bits of the second word are in range (R119, R129). -/
def smpFields (w2 : W64) : Bool :=
  decide (1 ≤ w2f w2 9 17) && decide (w2f w2 9 17 ≤ 65536) && decide (w2f w2 26 4 ≤ 8)

/-- The block of logits that a form names in the accumulator store; past its end, free values. -/
def State.logitBlock (s : State) (bay : Nat) (d : LongForm) : List PWord :=
  let m := (s.bay bay).acc
  (List.range (w2f d.w2 9 17)).map fun i =>
    let a := d.b.toNat + 4 * i
    ⟨BitVec.ofNat 32 (m.viewNum accStoreSize s.free a 4), m.viewBad accStoreSize a⟩

/-- Issue a sampler form; the slice performs it at issue (log entry 18). -/
def State.issueSmp (s : State) (bay slot : Nat) (f : Short) (w2 : W64) (op : Nat) (uses : List Nat)
    (ok : LongForm → Bool) (act : State → LongForm → State) : State :=
  s.issue bay slot f { a := .u, b := .u, c := .u, long := true } fun c _ s =>
    let d : LongForm :=
      { op := op, a := (c.readU f.srca.toNat).val, b := (c.readU f.srcb.toNat).val, c := (c.readU f.srcc.toNat).val
        w2 := w2, crew := slot, request := c.request }
    if !smpFields w2 || !ok d then s.trapAll bay slot c trapDescriptorInvalid
    else if uses.any fun n => (c.readU n).poison then s.trapAll bay slot c trapPoisonedControl
    else
      let s := s.setCrew bay slot (c.advance { a := .u, b := .u, c := .u, long := true })
      ((act s d).modBay bay fun b => b.signalOpt (w2slot w2)).skipForm

/-- SMP_FEED (R129): after SMP.CLOSE for the same context it traps DESCRIPTOR_INVALID. -/
def execSmpFeed (bay slot : Nat) (f : Short) (w2 : W64) (s : State) : Host.Outcome State Fault Refusal :=
  if !s.fetches bay slot 0xA0 f (some w2) then .next s else
  .next (s.issueSmp bay slot f w2 0xA0 [f.srca.toNat, f.srcb.toNat, f.srcc.toNat]
    (fun d => !(s.slice bay d.a.toNat).closed) fun s d =>
      let x := s.slice bay d.a.toNat
      (s.setSlice bay d.a.toNat { x with feeds := x.feeds ++
        [{ position := w2f w2 26 4, first := d.c.toNat, logits := s.logitBlock bay d }] }).bayEvent bay 0x00B)

/-- SMP_CLOSE (R129). -/
def execSmpClose (bay slot : Nat) (f : Short) (w2 : W64) (s : State) : Host.Outcome State Fault Refusal :=
  if !s.fetches bay slot 0xA1 f (some w2) then .next s else
  .next (s.issueSmp bay slot f w2 0xA1 [f.srca.toNat] (fun _ => true) fun s d =>
    s.setSlice bay d.a.toNat { s.slice bay d.a.toNat with closed := true })

/-- SMP_DRAFT (R129): the draft model's probabilities of its proposed tokens for a position. -/
def execSmpDraft (bay slot : Nat) (f : Short) (w2 : W64) (s : State) : Host.Outcome State Fault Refusal :=
  if !s.fetches bay slot 0xA2 f (some w2) then .next s else
  .next (s.issueSmp bay slot f w2 0xA2 [f.srca.toNat, f.srcb.toNat, f.srcc.toNat] (fun _ => true) fun s d =>
    let x := s.slice bay d.a.toNat
    s.setSlice bay d.a.toNat { x with feeds := x.feeds ++
      [{ position := w2f w2 26 4, first := d.c.toNat, logits := s.logitBlock bay d, draft := true }] })

/-- The merged logit of a token at a position: the block that covers it; `none` where no bay fed it. -/
def mergedLogit (feeds : List Feed) (t : Nat) : Option PWord :=
  (feeds.find? fun f => decide (f.first ≤ t) && decide (t < f.first + f.logits.length)).map fun f =>
    f.logits.getD (t - f.first) {}

/-- The merged logits of `v` tokens at a position of a context over a tent's bays, and whether any is poisoned; a token
that no bay fed has a free value. -/
def State.mergedLogits (s : State) (bays : List Nat) (ctx pos v : Nat) : List W32 × Bool :=
  let feeds := (bays.flatMap fun b => (s.slice b ctx).feeds).filter fun f => f.position == pos && !f.draft
  let ws := (List.range v).map fun t => (mergedLogit feeds t).getD ⟨BitVec.ofNat 32 (Config.freeValue (s.free + t)), false⟩
  (ws.map (·.data), ws.any (·.poison))

/-- Every bay of a context has closed it. -/
def State.ctxClosed (s : State) (bays : List Nat) (ctx : Nat) : Bool :=
  !bays.isEmpty && bays.all fun b => (s.slice b ctx).closed

/-- The context's slices are free again. -/
def State.dropCtx (s : State) (bays : List Nat) (ctx : Nat) : State := bays.foldl (fun s b => s.setSlice b ctx {}) s

end Sys2Proof.Machine
end

