-- ==== Sys2Proof/Machine/GenCore.lean ====
section
/-! DEFINITION. Step loops as shared operations: rank (R349, R364), page pools (R352), pre-emption (R354), Cairn (R323,
R324), chunks (R346). -/

namespace Sys2Proof.Machine

/-! Loops (R341). -/

def loopKey (t slot : Nat) : Nat := 256 * t + slot
def State.genLoop (s : State) (t slot : Nat) : GenLoop := SMap.get (fun _ => {}) s.dev.text.loops (loopKey t slot)
def State.setLoop (s : State) (t slot : Nat) (l : GenLoop) : State :=
  s.modText fun x => { x with loops := SMap.set (fun _ => {}) x.loops (loopKey t slot) l }

/-- The lead sequencer: that of the lowest-numbered compute die that holds bays of the tent. -/
def State.leadSeq (s : State) (t : Nat) : Nat := islSequencer ((s.tentDies t).headD 0)

/-- Requests of a loop that may still take part in its steps. -/
def State.loopReqs (s : State) (t slot : Nat) : List Request :=
  s.allReqs.filter fun r => r.tent == t && genKind r.kind && dModel r.desc == slot && r.ended.isNone &&
    (!r.recovered || r.resumed)

/-- The request speculates: it has a draft slot and not NO_SPEC (R359). -/
def Request.speculates (r : Request) : Bool := dDraft r.desc != 0xFFFF && !pNoSpec r.params

/-- Insertion sort. -/
def insertBy {α : Type} (lt : α → α → Bool) (x : α) : List α → List α
  | [] => [x]
  | y :: ys => if lt x y then x :: y :: ys else y :: insertBy lt x ys
def sortBy {α : Type} (lt : α → α → Bool) : List α → List α
  | [] => []
  | x :: xs => insertBy lt x (sortBy lt xs)

/-! Rank (R349, R364, R365). -/

/-- A request's deadline. -/
def Request.deadline (r : Request) : Option Nat :=
  match r.gen.firstAt with
  | none => if dTtft r.desc = 0 then none else some (r.submitLive + 1000 * dTtft r.desc)
  | some _ => if dTbt r.desc = 0 then none else some (r.gen.lastAt + 1000 * dTbt r.desc)

/-- The part of the rank below class and risk: earlier deadline, none last, then the earlier admission stamp. -/
def Request.sooner (a b : Request) : Bool :=
  match a.deadline, b.deadline with
  | some x, some y => decide (x < y) || (x == y && a.admitReq.before b.admitReq)
  | some _, none => true
  | none, some _ => false
  | none, none => a.admitReq.before b.admitReq

/-- Request `a` ranks above `b`; those in `risk` are at risk. -/
def outranks (risk : List Nat) (a b : Request) : Bool :=
  decide (b.cls < a.cls) ||
    (a.cls == b.cls &&
      ((risk.contains a.seq && !risk.contains b.seq) ||
        (risk.contains a.seq == risk.contains b.seq && a.sooner b)))

/-! Pages (R352). -/

/-- Cairn blocks of a pool. -/
def State.poolBlocks (s : State) (t slot : Nat) : List CairnBlock :=
  s.dev.text.cairn.filter fun b => b.tent == t && b.slot == slot

/-- Blocks of a pool that a sequence holds. -/
def State.heldBlocks (s : State) (t slot n : Nat) : Nat :=
  ((s.poolBlocks t slot).filter fun b => b.holders.contains n).length

/-- Pages of a pool in use: pages of sequences and of blocks. -/
def State.kvUsed (s : State) (t slot : Nat) : Nat :=
  s.allReqs.foldl (fun n r =>
    if r.tent = t then
      n + (if dModel r.desc = slot then r.gen.pages else 0) + (if dDraft r.desc = slot then r.gen.draftPages else 0)
    else n) (s.poolBlocks t slot).length

def State.kvFits (s : State) (t slot n : Nat) : Bool := n == 0 || decide (s.kvUsed t slot + n ≤ s.poolPages t slot)

/-- Pages a sequence lacks so that its target pool holds `a` positions and its draft pool `b`. -/
def State.lacks (s : State) (r : Request) (a b : Nat) : Nat × Nat :=
  ((a + 31) / 32 - r.gen.pages - s.heldBlocks r.tent (dModel r.desc) r.seq,
    if r.speculates then (b + 31) / 32 - r.gen.draftPages - s.heldBlocks r.tent (dDraft r.desc) r.seq else 0)

def State.lacksFit (s : State) (r : Request) (n : Nat × Nat) : Bool :=
  s.kvFits r.tent (dModel r.desc) n.1 && s.kvFits r.tent (dDraft r.desc) n.2

/-- Reserve pages for a sequence. -/
def State.takePages (s : State) (n : Nat) (p : Nat × Nat) : State :=
  s.modReq n fun q => { q with gen := { q.gen with pages := q.gen.pages + p.1, draftPages := q.gen.draftPages + p.2 } }

/-- A sequence still holds its blocks: it has not ended. -/
def State.holding (s : State) (n : Nat) : Bool :=
  match s.req n with
  | some r => r.ended.isNone
  | none => false

/-- The least recently used block of a pool that no running sequence holds. -/
def State.lruBlock (s : State) (t slot : Nat) : Option CairnBlock :=
  (sortBy (fun (a b : CairnBlock) => decide (a.used < b.used))
    ((s.poolBlocks t slot).filter fun b => !b.holders.any s.holding)).head?

/-- Free unheld Cairn blocks until the pages fit or none is left (R352 step 3, R324). -/
def State.evictBlocks (r : Request) (n : Nat × Nat) : Nat → State → State
  | 0, s => s
  | fuel + 1, s =>
    if s.lacksFit r n then s
    else
      let slot := if s.kvFits r.tent (dModel r.desc) n.1 then dDraft r.desc else dModel r.desc
      match s.lruBlock r.tent slot with
      | none => s
      | some b => State.evictBlocks r n fuel (s.modText fun x => { x with cairn := x.cairn.erase b })

/-- A sequence lets go of its blocks. -/
def State.dropHolds (s : State) (n : Nat) : State :=
  s.modText fun x => { x with cairn := x.cairn.map fun b => { b with holders := b.holders.erase n } }

/-- Pre-empt a sequence (R354): a tent with a flash share keeps its KV there, any other's is recomputed. -/
def State.preemptSeq (s : State) (n : Nat) : State :=
  match s.req n with
  | none => s
  | some r =>
    let kept := s.flag (rTentFlash r.tent) fTentFlashEnable
    let s := (s.dropHolds n).addFld (rGenCounts r.tent) fGenCountsPreemptions 1
    s.modReq n fun q => { q with
      preemptions := q.preemptions + 1, conditions := q.conditions ||| 0x10
      gen := { q.gen with
        running := false, pages := 0, draftPages := 0, preemptedAt := some s.liveTick
        prefilled := if kept then q.gen.prefilled else 0 } }

/-! Cairn (R323, R324). -/

/-- The keys of a prompt's whole blocks. -/
def cairnKeys (ns : W128) (slot adapterSlot version : Nat) : Nat → W128 → List Nat → List W128
  | 0, _, _ => []
  | fuel + 1, prev, ids =>
    if ids.length < 32 then []
    else
      let k := BitVec.ofNat 128 (Config.sha3 (leBytes 16 ns.toNat ++ leBytes 2 slot ++ leBytes 2 adapterSlot ++
        leBytes 4 version ++ leBytes 16 prev.toNat ++ (ids.take 32).flatMap fun t => leBytes 4 t)).toNat
      k :: cairnKeys ns slot adapterSlot version fuel k (ids.drop 32)

/-- Keys of a request's prompt on its target slot, or on its draft slot: the draft runs without an adapter (R367). -/
def State.promptKeys (s : State) (r : Request) (draft : Bool) : List W128 :=
  let ns := (s.tent r.tent).cairnKey
  if draft then cairnKeys ns (dDraft r.desc) 0xFFFF 0 (r.prompt.length + 1) 0 r.prompt
  else cairnKeys ns (dModel r.desc) (dAdapter r.desc) r.gen.adapter (r.prompt.length + 1) 0 r.prompt

/-- Leading keys that hit, of those from block `i` on: the stored token ids equal the prompt's. -/
def State.cairnHits (s : State) (ids : List Nat) : List W128 → List CairnBlock
  | [] => []
  | k :: ks =>
    match s.dev.text.cairn.find? fun b => b.key == k && b.ids == ids.take 32 with
    | none => []
    | some b => b :: State.cairnHits s (ids.drop 32) ks

/-- The positions a sequence prefills: its prompt, and on a rejoin every token generated (R345, R354). -/
def Request.target (r : Request) : List Nat := r.prompt ++ r.gen.tokens

/-- Whole blocks that a prefill reuses, target and draft: before the block with its last position. -/
def State.cairnLookup (s : State) (r : Request) : List CairnBlock × List CairnBlock :=
  if (dFlags r.desc).testBit 2 then ([], [])
  else
    let lim := (r.target.length - 1) / 32
    let a := (s.cairnHits r.prompt (s.promptKeys r false)).take lim
    if r.speculates then
      let b := (s.cairnHits r.prompt (s.promptKeys r true)).take lim
      (a.take b.length, b.take a.length)
    else (a, [])

/-- Hold the blocks of its own tent; a block of another tent is copied to the sequence's own pages. -/
def State.holdBlocks (s : State) (n t : Nat) (bs : List CairnBlock) : State :=
  s.modText fun x => { x with cairn := x.cairn.map fun b =>
    if (bs.any fun c => c.key == b.key) = true then
      { b with used := s.liveTick, holders := if b.tent = t ∧ !b.holders.contains n then b.holders ++ [n] else b.holders }
    else b }

/-- A block whose KV has been written is inserted under its key: the sequence's page becomes the block's. -/
def State.insertBlock (s : State) (r : Request) (draft : Bool) (i : Nat) : State :=
  match (s.promptKeys r draft)[i]? with
  | none => s
  | some k =>
    if (s.dev.text.cairn.any fun b => b.key == k) = true then s
    else
      let s := s.modText fun x => { x with cairn := x.cairn ++
        [{ key := k, ns := (s.tent r.tent).cairnKey, tent := r.tent, slot := if draft then dDraft r.desc else dModel r.desc
           adapterSlot := if draft then 0xFFFF else dAdapter r.desc, adapter := if draft then 0 else r.gen.adapter
           ids := (r.prompt.drop (32 * i)).take 32, holders := [r.seq], used := s.liveTick }] }
      s.modReq r.seq fun q => { q with gen :=
        if draft then { q.gen with draftPages := q.gen.draftPages - 1 } else { q.gen with pages := q.gen.pages - 1 } }

/-- Insert the whole prompt blocks that positions `[a, b)` complete. -/
def State.insertBlocks (s : State) (n a b : Nat) : State :=
  (List.range (b / 32 - a / 32)).foldl (fun s i =>
    match s.req n with
    | none => s
    | some r =>
      let s := s.insertBlock r false (a / 32 + i)
      if r.speculates then s.insertBlock r true (a / 32 + i) else s) s

/-! Chunks (R346). -/

/-- The chunk of a joiner with `rest` positions to go, `left` positions left and `f` counts a position. -/
def chunkOf (rest left f : Nat) : Nat := if rest * f ≤ left then rest else left / f / 32 * 32

/-- A ring holds a DECODE sequence's next step up (R329), or an impaired journal does (R413). -/
def State.stepHeld (s : State) (r : Request) : Bool :=
  (match r.ring with
    | some k => match s.ring k with
      | some x => x.stalled.isSome || !x.room 1
      | none => false
    | none => false) ||
    (((s.durability r.tent == 1 && s.mirrorStalled) ||
        (s.durability r.tent == 2 && decide (s.journalSsds.length < 2))) &&
      r.groups.any fun g => !g.covered && !(match g.cover with | some i => s.idCommitted i | none => false))

/-- Speculation depth of a decode step (R359). -/
def State.specDepth (s : State) (r : Request) : Nat :=
  let lim := s.fld (rGenCfg r.tent) fGenCfgSpecMax
  if r.speculates then
    min (min (if pSpec r.params = 0 then lim else pSpec r.params) lim) (dMaxNew r.desc - r.gen.tokens.length - 1)
  else 0

end Sys2Proof.Machine
end

