-- ==== Sys2Proof/Machine/Generation.lean ====
section
/-! DEFINITION. The GENERATION block (R341 to R370): step boundaries, draws, commits and closes, batches, adapters. -/

namespace Sys2Proof.Machine

/-! The boundary (R341, R344, R346, R349, R352 to R354). -/

/-- A sequence decodes in the loop's running set. -/
def Request.decoding (r : Request) : Bool := r.legs.head? == some 8 && r.gen.running

/-- A request that may join: it has its contexts and waits before PREFILL, is part-way through its prompt, or has to
rejoin (R349, R354). -/
def Request.joins (r : Request) : Bool :=
  !r.gen.running && (r.legs.head? == some 7 || r.legs.head? == some 8) && r.gen.kerf.isSome &&
    (r.grammar.isNone || r.gen.guy.isSome)

/-- It has taken part in a step since it last joined. -/
def Request.joined (r : Request) : Bool := r.gen.running || r.gen.pages != 0 || (r.started && r.legs.head? == some 7)

/-- A fixed-batch tent's request is in a batch that runs on its slot (R348, R350). -/
def State.batched (s : State) (r : Request) : Bool :=
  decide (32 ≤ (s.tentBays r.tent).length) ||
    ((SMap.get (fun _ => []) s.dev.text.running r.tent).any fun b => b.slot == dModel r.desc && b.members.contains r.seq)

/-- The running sequence of lowest rank. -/
def State.lowest (s : State) (t slot : Nat) (risk : List Nat) : Option Request :=
  (sortBy (outranks risk) ((s.loopReqs t slot).filter (·.decoding))).getLast?

/-- Cut the depth until the pages fit (R352 step 2). -/
def State.cutDepth (s : State) (r : Request) : Nat → Nat
  | 0 => 0
  | k + 1 =>
    if s.lacksFit r (s.lacks r (r.target.length + k + 2) (r.target.length + k + 1)) then k + 1 else s.cutDepth r k

/-- Steps 3 and 4 of R352 for a sequence at depth 0: free blocks, then pre-empt until its pages fit or it has itself been
pre-empted; a pre-empted sequence leaves the plan. -/
def State.makePages (n : Nat) (risk : List Nat) : Nat → State → List StepSeq → State × List StepSeq
  | 0, s, plan => (s, plan)
  | fuel + 1, s, plan =>
    match s.req n with
    | none => (s, plan)
    | some r =>
      if !r.gen.running then (s, plan)
      else
        let need := s.lacks r (r.target.length + 1) r.target.length
        let s := s.evictBlocks r need (s.dev.text.cairn.length + 1)
        if s.lacksFit r need then (s, plan)
        else match s.lowest r.tent (dModel r.desc) risk with
          | none => (s, plan)
          | some v => State.makePages n risk fuel (s.preemptSeq v.seq) (plan.filter fun x => x.seq != v.seq)

/-- Positions that a part of a step carries: a decode step's k + 1 and k, a chunk once for each model (R344, R346). -/
def State.positionsOf (s : State) (x : StepSeq) : Nat :=
  match s.req x.seq with
  | some r => if x.chunk = 0 ∧ r.gen.running then 2 * x.depth + 1 else x.chunk * (if r.speculates then 2 else 1)
  | none => 0
def State.positions (s : State) (plan : List StepSeq) : Nat := plan.foldl (fun n x => n + s.positionsOf x) 0

/-- Reserve for the running sequences in rank order (R352 steps 1 to 4); one that finds no position left sits the step
out. -/
def State.planRunning (t : Nat) (risk : List Nat) : List Nat → State → List StepSeq → State × List StepSeq
  | [], s, plan => (s, plan)
  | n :: ns, s, plan =>
    match s.req n with
    | none => State.planRunning t risk ns s plan
    | some r =>
      let left := s.fld (rGenCfg t) fGenCfgStepTokens - s.positions plan
      if !r.gen.running || s.stepHeld r || left == 0 then State.planRunning t risk ns s plan
      else
        let k := s.cutDepth r (min (s.specDepth r) ((left - 1) / 2))
        let need := s.lacks r (r.target.length + k + 1) (r.target.length + k)
        let (s, plan) := if s.lacksFit r need then (s, plan)
          else State.makePages n risk (s.allReqs.length + 1) s plan
        match s.req n with
        | none => State.planRunning t risk ns s plan
        | some q =>
          if !q.gen.running then State.planRunning t risk ns s plan
          else
            let need := s.lacks q (q.target.length + k + 1) (q.target.length + k)
            State.planRunning t risk ns (s.takePages n need) (plan ++ [{ seq := n, depth := k, draws := true }])

/-- A deferral of the request ends, or begins (R353): before its first leg step the wait itself counts. -/
def Request.endDefer (r : Request) (now : Nat) : Request :=
  match r.gen.deferredAt with
  | none => r
  | some d => { r with gen := { r.gen with deferredAt := none }, deferTicks := r.deferTicks + (now - d)
                       waited := r.waited + (now - d) }
def Request.beginDefer (r : Request) (now : Nat) : Request :=
  if r.started ∧ r.gen.deferredAt.isNone ∧ r.gen.preemptedAt.isNone then
    { r with gen := { r.gen with deferredAt := some now }, deferrals := r.deferrals + 1 }
  else r

/-- The pre-emption of a sequence is over: its ticks are accounted (R354, R398). -/
def State.endPreempt (s : State) (n : Nat) (st : Stamp) : State :=
  match s.req n with
  | none => s
  | some r => match r.gen.preemptedAt with
    | none => s
    | some d =>
      let s := s.contribute
        { tent := r.tent, client := r.client, stamp := st, preemptions := 1, preemptTicks := s.liveTick - d }
      s.modReq n fun q => { q with
        preemptTicks := q.preemptTicks + (s.liveTick - d), gen := { q.gen with preemptedAt := none } }

/-- A joiner takes its chunk, with the blocks it reuses, `hit` positions of them. -/
def State.takeJoin (s : State) (r : Request) (hit chunk : Nat) (blocks : List CairnBlock) (need : Nat × Nat) : State :=
  let s := (s.holdBlocks r.seq r.tent blocks).takePages r.seq need
  let s := s.modReq r.seq fun q =>
    { (q.endDefer s.liveTick) with gen := { (q.endDefer s.liveTick).gen with prefilled := r.gen.prefilled + hit } }
  let s := if r.legs.head? = some 7 ∧ !r.started then s.legStart r.seq (islSequencer r.home) else s
  -- KV that flash kept needs no prefill: the sequence runs again (R354)
  if chunk = 0 ∧ r.legs.head? = some 8 then
    let (st, s) := s.originate (s.leadSeq r.tent)
    (s.endPreempt r.seq st).modReq r.seq fun q => { q with gen := { q.gen with running := true } }
  else s

/-- Take the joins in rank order (R346, R349, R352 step 5): one that gets no chunk or no pages is deferred, and none after
it joins.  `cuts` are the blocks that R365 leaves a joiner; `share` the positions left to joiners at risk. -/
def State.planJoins (t : Nat) (risk : List Nat) (cuts : List (Nat × Nat)) :
    List Request → Nat → State → List StepSeq → State × List StepSeq
  | [], _, s, plan => (s, plan)
  | r :: rs, share, s, plan =>
    let active := ((s.loopReqs t (dModel r.desc)).filter (·.joined)).length
    if !r.joined && decide (s.fld (rGenCfg t) fGenCfgMaxRunning ≤ active) then
      State.planJoins t risk cuts rs share s plan
    else
      let f := if r.speculates then 2 else 1
      let (tb, db) := if r.gen.prefilled = 0 then s.cairnLookup r else ([], [])
      let hit := 32 * tb.length
      let rest := r.target.length - r.gen.prefilled - hit
      let all := s.fld (rGenCfg t) fGenCfgStepTokens - s.positions plan
      let left := if risk.contains r.seq then min all share else all
      let chunk := chunkOf rest left f
      let chunk := match cuts.find? (·.1 == r.seq) with
        | some c => if 32 * c.2 < chunk then 32 * c.2 else chunk
        | none => chunk
      let done := r.gen.prefilled + hit + chunk
      let mine := (tb ++ db).filter fun b => b.tent == r.tent
      let raw := s.lacks r done done
      let need := (raw.1 - (mine.filter fun b => b.slot == dModel r.desc).length,
        raw.2 - (mine.filter fun b => b.slot == dDraft r.desc && r.speculates).length)
      let s' := (s.holdBlocks r.seq r.tent (tb ++ db)).evictBlocks r need (s.dev.text.cairn.length + 1)
      if (chunk = 0 ∧ rest ≠ 0) ∨ !s'.lacksFit r need then
        -- no joiner after it joins in this step
        ((r :: rs).foldl (fun s (q : Request) => s.modReq q.seq (·.beginDefer s.liveTick)) s, plan)
      else
        let s := s'.takeJoin r hit chunk (tb ++ db) need
        let x : StepSeq :=
          { seq := r.seq, chunk := chunk, draws := decide (chunk = rest) && r.legs.head? == some 7 }
        State.planJoins t risk cuts rs (if risk.contains r.seq then share - chunk * f else share) s
          (if chunk = 0 ∧ r.legs.head? = some 8 then plan else plan ++ [x])

/-- STEP_BOUNDARY (R341): of the loop of tent `t` on model slot `slot`; firmware's projections (R365) name the requests at
risk and the chunks cut. -/
def execStepBoundary (t slot : Nat) (risk : List Nat) (cuts : List (Nat × Nat)) (s : State) :
    Host.Outcome State Fault Refusal :=
  let l := s.genLoop t slot
  let lead := s.leadSeq t
  if 64 ≤ t ∨ l.step.isSome ∨ s.blocked lead then .next s
  else
    let rs := sortBy (outranks risk) ((s.loopReqs t slot).filter fun r => s.batched r)
    let (s, plan) := State.planRunning t risk ((rs.filter (·.decoding)).map (·.seq)) s []
    let now := sortBy (outranks risk) ((s.loopReqs t slot).filter fun r => s.batched r && r.joins)
    let share := s.fld (rGenCfg t) fGenCfgStepTokens * s.fld (rGenCfg t) fGenCfgRiskSharePct / 100
    let (s, plan) := State.planJoins t risk cuts now share s plan
    if plan = [] then .next s
    else
      let running := ((s.loopReqs t slot).filter (·.joined)).length
      let p : GenStep := { number := l.steps, began := s.liveTick, positions := s.positions plan, seqs := plan }
      let s := s.setLoop t slot { l with step := some p }
      .next (s.trace lead 0x20 t running l.steps)

/-! The decisions (R356 to R361). -/

/-- A sequence's part of the open step of its loop. -/
def State.stepSeq (s : State) (r : Request) : Option StepSeq :=
  match (s.genLoop r.tent (dModel r.desc)).step with
  | some p => p.seqs.find? (·.seq == r.seq)
  | none => none

def State.setStepSeq (s : State) (r : Request) (x : StepSeq) : State :=
  let l := s.genLoop r.tent (dModel r.desc)
  s.setLoop r.tent (dModel r.desc) { l with step := l.step.map fun (p : GenStep) =>
    { p with seqs := p.seqs.map fun y => if y.seq = x.seq then x else y } }

/-- The sampling parameters at a position: the drafts of earlier positions count as generated (R356). -/
def Request.sampleArgs (r : Request) (drafts : List Nat) : SampleArgs :=
  let p := r.params
  let g := r.gen.tokens ++ drafts
  let g := if pWindow p = 0 then g else g.drop (g.length - pWindow p)
  let w (x : Nat) : W32 := BitVec.ofNat 32 x
  { topK := pTopK p, temperature := w (pTemp p), topP := w (pTopP p), minP := w (pMinP p), repetition := w (pRep p)
    frequency := w (pFreq p), presence := w (pPres p), bias := biasList r.bias
    window := if pPrompt p then r.prompt ++ g else g }

def Request.greedy (r : Request) : Bool := fzero (pTemp r.params)

/-- Generate requests of the DRBG (R482). -/
def State.countDraws (s : State) (n : Nat) : State :=
  { s with dev := { s.dev with sec := { s.dev.sec with draws := s.dev.sec.draws + n } } }

/-- DRAFT_DRAW (R359): the draft model's logits of its next position lie in context `ctx`; `r` is the DRBG word. -/
def execDraftDraw (n ctx : Nat) (w : W32) (s : State) : Host.Outcome State Fault Refusal :=
  match s.req n with
  | none => .next s
  | some r => match s.stepSeq r with
    | none => .next s
    | some x =>
      let bays := s.tentBays r.tent
      let j := r.gen.drafts.length
      if r.ended.isSome ∨ x.decided ∨ x.depth ≤ j ∨ !s.ctxClosed bays ctx ∨ s.blocked (islSampler r.home) then .next s
      else
        let v := vSize (s.reqVocab r).image
        let (logits, bad) := s.mergedLogits bays ctx j v
        if bad then .next ((s.dropCtx bays ctx).endAt n 0x40 (islSampler r.home) true)
        else
          let d := process (r.sampleArgs (r.gen.drafts.map (·.1))) none (s.free + v) logits
          let s : State := { s with free := s.free + 2 * v }
          let s := (s.dropCtx bays ctx).countDraws (if d.point.isSome then 0 else 1)
          match d.draw w with
          | none => .next s
          | some t => .next (s.modReq n fun q => { q with gen := { q.gen with drafts := q.gen.drafts ++ [(t, d.probs)] } })

/-- What the masks let the sampler do at position `j`: wait, compute with a mask, or not compute (R299, R300). -/
inductive MaskState where
  | wait
  | mask (m : Option (List Bool))
  | stop
  deriving DecidableEq, Repr

def Request.maskAt (r : Request) (j : Nat) : MaskState :=
  if r.gen.guy.isNone then .mask none
  else if !r.draftsAllowed j then .stop
  else
    let m := SMap.get (fun _ => []) r.gen.masks j
    if m = [] then .wait
    else if j ≠ 0 ∧ (m.all (· == false)) = true then .stop
    else .mask (some m)

/-- The processed distributions of positions `j` on, `n` of them, and whether a logit is poisoned. -/
def State.positionDists (s : State) (r : Request) (ctx v : Nat) : Nat → Nat → List (Option Dist) × Bool
  | 0, _ => ([], false)
  | n + 1, j =>
    match r.maskAt j with
    | .mask m =>
      let at_ : State := { s with free := s.free + 2 * v * j }
      let (logits, bad) := at_.mergedLogits (s.tentBays r.tent) ctx j v
      let d := process (r.sampleArgs ((r.gen.drafts.take j).map (·.1))) m (at_.free + v) logits
      let (ds, bad') := s.positionDists r ctx v n (j + 1)
      (some d :: ds, bad || bad')
    | _ => ([none], false)

/-- Pass emitted tokens to Kerf in order (R288, R290 to R292, R336, R361): the tokens kept with their bytes, the context,
and the status of the end. -/
def kerfTokens (v stop : List Byte) (incl : Bool) (room : Nat) (d : Detok) :
    List Nat → List (Nat × List Byte) × Detok × Option Nat
  | [] => ([], d, none)
  | t :: ts =>
    let e := Detok.token v stop incl d t
    if e.stopped then ([(t, e.out)], e, some 2)
    else if t = vEos v then ([(t, e.flush.out)], e.flush, some 1)
    else if room ≤ 1 then ([(t, e.flush.out)], e.flush, some 3)
    else
      let (xs, d, st) := kerfTokens v stop incl (room - 1) e ts
      ((t, e.out) :: xs, d, st)

/-- Count the draws of a pass: NaN logits by position, zero mass by draw (R356, R358). -/
def State.countDists (s : State) (t emitted : Nat) (ds : List (Option Dist)) : State :=
  let nans := (ds.filter fun d => d.any (·.nan)).length
  let zeros := ((ds.take emitted).filter fun d => d.any (·.zeroMass)).length
  (s.addFld (rGenCounts t) fGenCountsNanLogits nans).addFld (rGenCounts t) fGenCountsZeroMass zeros

/-- The sampler has decided (R361): Guyline's configuration and Kerf's context advance by the tokens in order; the advance
holds from the step commit. -/
def State.takeTokens (s : State) (r : Request) (x : StepSeq) (ts : List Nat) : State :=
  let v := (s.reqVocab r).image
  let (kept, d, st) := kerfTokens v r.stop ((dFlags r.desc).testBit 0) (dMaxNew r.desc - r.gen.tokens.length)
    { held := r.gen.held, state := r.gen.stopState } ts
  let ids := kept.map (·.1)
  let done (s : State) (c : GConf) : State :=
    let s := if st = some 2 then s.addFld (rKerfStatus r.kerf) fKerfStatusStopMatches 1 else s
    s.setStepSeq r { x with
      decided := true, tokens := ids, released := kept, status := st, held := d.held, stopState := d.state
      guyState := c.state, guyStack := c.stack }
  if r.gen.guy.isNone then done s r.gen.conf
  else
    let g := r.grammar.getD 0
    match (do let i ← s.gImage g; s.gTokens i v r.gen.conf ids : Except GErr (Option GConf)) with
    | .error e => s.guyFail r (s.fld (rGuyImageBase g) fGuyImageBaseTent) (s.refusedToken r ids) e
    | .ok none => s.imageInconsistent r (s.fld (rGuyImageBase g) fGuyImageBaseAddr * 64) (s.refusedToken r ids)
    | .ok (some c) => done s c

/-- SAMPLER_DRAW (R345, R356 to R361): every bay has closed context `ctx`; `ws` are the DRBG words in the order used. -/
def execSamplerDraw (n ctx : Nat) (ws : List W32) (s : State) : Host.Outcome State Fault Refusal :=
  match s.req n with
  | none => .next s
  | some r => match s.stepSeq r with
    | none => .next s
    | some x =>
      let bays := s.tentBays r.tent
      if r.ended.isSome ∨ !x.draws ∨ x.decided ∨ r.gen.drafts.length < x.depth ∨ !s.ctxClosed bays ctx ∨
          s.blocked (islSampler r.home) then .next s
      else if (List.range (x.depth + 1)).any fun j => r.maskAt j == .wait then
        -- the sampler waits for the mask, and the step counts as late once (R299)
        .next (if x.late then s
          else (s.setStepSeq r { x with late := true }).addFld (rGuyStatus r.home) fGuyStatusLateMasks 1)
      else
        let v := vSize (s.reqVocab r).image
        let (ds, bad) := s.positionDists r ctx v (x.depth + 1) 0
        if bad then .next ((s.dropCtx bays ctx).endAt n 0x40 (islSampler r.home) true)
        else
          let ts := verify r.greedy ds r.gen.drafts ws
          let s : State := { s with free := s.free + 2 * v * (x.depth + 1) }
          let s := ((s.dropCtx bays ctx).countDraws ws.length).countDists r.tent ts.length ds
          .next ((s.takeTokens r x ts).skipForm)

/-! Commit and close (R342, R343). -/

/-- The TOKENS record of a step commit (R408); none for a VOLATILE tent (R410). -/
def State.journalTokens (s : State) (r : Request) (st : Stamp) (records : Nat) (ids : List Nat) : State :=
  if s.durability r.tent = 0 then s
  else s.sendJournal (s.jrecFor r st
    (.tokens (r.published + r.waiting) records (r.conditions % 512) (min r.preemptions 65535)
      (if r.gen.firstAt.isSome then micros r.gen.ttft else 0) (micros r.gen.maxTbt) (r.gen.sumTbt / 1000) ids))

/-- The request after a step commit: its tokens, their records as one group, its leg, and its end. -/
def Request.commitStep (r : Request) (st : Stamp) (x : StepSeq) (covered : Bool) (now : Nat) : Request :=
  let g : PubGroup :=
    { records := x.released.flatMap fun e => tokenRecords st.tick e.1 e.2, stamp := st, covered := covered
      tokens := x.tokens.length }
  let first := r.legs.head? == some 7
  let r := { r with
    gen := { r.gen with tokens := r.gen.tokens ++ x.tokens, running := true, held := x.held, stopState := x.stopState
                        guyState := x.guyState, guyStack := x.guyStack, drafts := [], masks := []
                        prefilled := if first then r.target.length else r.gen.prefilled }
    groups := r.groups ++ [g], legs := if first then r.legs.drop 1 else r.legs
    legTick := if first then now else r.legTick }
  match x.status with
  | none => r
  | some e => r.end_ e st

/-- STEP_COMMIT (R335, R342). -/
def execStepCommit (n : Nat) (s : State) : Host.Outcome State Fault Refusal :=
  match s.req n with
  | none => .next s
  | some r => match s.stepSeq r with
    | none => .next s
    | some x =>
      let isl := islSequencer r.home
      if r.ended.isSome ∨ !x.decided ∨ x.committed ∨ s.blocked isl then .next s
      else
        let (st, s) := s.originate isl
        let recs := (x.released.flatMap fun e => tokenRecords st.tick e.1 e.2).length
        let s := s.journalTokens r st recs x.tokens
        let s := s.setStepSeq r { x with committed := true }
        let s := s.traceAt st 0x21 r.tent x.tokens.length n
        let s := if r.legs.head? = some 7 then (s.trace isl 0x12 r.tent 7 n).trace isl 0x11 r.tent 8 n else s
        let s := s.modReq n fun q => q.commitStep st x (s.durability r.tent == 0) s.ao.tick
        let s := s.endCut n st
        let s := if x.status.isSome then (s.trace isl 0x12 r.tent 8 n).dropHolds n else s
        .next s

/-- A sequence's part at the close: its positions are written, its prompt's blocks enter Cairn, and a rejoin whose prefill
is complete runs again (R324, R345, R354). -/
def State.closeSeq (s : State) (st : Stamp) (x : StepSeq) : State :=
  match s.req x.seq with
  | none => s
  | some r =>
    if r.ended.isSome then s.dropHolds x.seq
    else if x.chunk = 0 ∧ !x.draws then s
    else
      let a := if x.committed ∧ x.chunk ≠ 0 then r.gen.prefilled - x.chunk else r.gen.prefilled
      let b := if x.committed then r.gen.prefilled else r.gen.prefilled + x.chunk
      let s := s.modReq x.seq fun q => { q with gen := { q.gen with prefilled := b } }
      let s := s.insertBlocks x.seq a (min b r.prompt.length)
      if !x.draws ∧ b = r.target.length ∧ r.legs.head? = some 8 then
        (s.endPreempt x.seq st).modReq x.seq fun q => { q with gen := { q.gen with running := true } }
      else s

/-- STEP_CLOSE (R343): every sequence of the step that draws has its step commit, or has ended. -/
def execStepClose (t slot : Nat) (s : State) : Host.Outcome State Fault Refusal :=
  let l := s.genLoop t slot
  match l.step with
  | none => .next s
  | some p =>
    let lead := s.leadSeq t
    let open_ := p.seqs.any fun x => x.draws && !x.committed && (match s.req x.seq with
      | some r => r.ended.isNone
      | none => false)
    if open_ || s.blocked lead then .next s
    else
      let (st, s) := s.originate lead
      let s := p.seqs.foldl (fun s x => s.closeSeq st x) s
      let s := s.traceAt st 0x22 t p.positions p.number
      let s := (s.addFld (rGenCounts t) fGenCountsSteps 1).setFld (rGenStatus t) fGenStatusStepUs
        (min ((s.liveTick - p.began) / 1000) (2 ^ 24 - 1))
      .next (s.setLoop t slot { step := none, steps := l.steps + 1 })

/-! Fixed batches (R350, R351). -/

/-- Descriptors a tent's loops have queued. -/
def State.batchQueue (s : State) (t : Nat) : List Nat := SMap.get (fun _ => []) s.dev.text.batches t

/-- BATCH_DESCRIPTOR_WRITE (R350): a write of `v` to GEN_BATCH of tent `t`. -/
def execBatchDescriptorWrite (t : Nat) (v : W64) (s : State) : Host.Outcome State Fault Refusal :=
  if 64 ≤ t then .next s
  else if s.tentState t = 0 then .next (s.setFld (rTentCtl t) fTentCtlError 1)
  else if 4 ≤ (s.batchQueue t).length then
    .next (s.log islPort (protocolRec 4 12 (rGenBatch t) 9 v.toNat t))
  else .next (s.modText fun x => { x with
    batches := SMap.set (fun _ => []) x.batches t (s.batchQueue t ++ [getBits v 6 50 * 64]) })

/-- A request that a descriptor names is skipped: `seen` are the ones it named before. -/
def State.batchSkips (s : State) (t slot : Nat) (seen : List Nat) (n : Nat) : Bool :=
  match s.req n with
  | none => true
  | some r => r.tent != t || !genKind r.kind || dModel r.desc != slot || r.ended.isSome || seen.contains n ||
      s.dev.text.named.contains n

/-- The members of a batch in the order named. -/
def State.batchMembers (s : State) (t slot : Nat) : List Nat → List Nat → List Nat
  | _, [] => []
  | seen, n :: ns =>
    if s.batchSkips t slot seen n then s.batchMembers t slot (n :: seen) ns
    else n :: s.batchMembers t slot (n :: seen) ns

/-- A request has reached PREFILL, or ended. -/
def State.atPrefill (s : State) (n : Nat) : Bool :=
  match s.req n with
  | some r => r.ended.isSome || r.legs.head? == some 7 || r.legs.head? == some 8
  | none => true

/-- Batches of a tent that still run: some sequence has not ended. -/
def State.liveBatches (s : State) (t : Nat) : List Batch :=
  (SMap.get (fun _ => []) s.dev.text.running t).filter fun b =>
    b.members.any fun n => match s.req n with | some r => r.ended.isNone | none => false

/-- BATCH_START (R350): the batch at the front of the queue starts once its loop runs none and every request it names has
reached PREFILL or ended. -/
def execBatchStart (t : Nat) (s : State) : Host.Outcome State Fault Refusal :=
  match s.batchQueue t with
  | [] => .next s
  | a :: as =>
    let slot := s.hostNum (a + 4) 2
    let count := s.hostNum (a + 2) 2
    let ok := s.inHost a (64 + 8 * count) && s.hostNum a 2 == 1 && decide (1 ≤ count) && decide (count ≤ 256)
    let names := if ok then (List.range count).map fun i => s.hostNum (a + 0x40 + 8 * i) 8 else []
    let live := s.liveBatches t
    if (ok && (live.any fun b => b.slot == slot)) || !names.all s.atPrefill || s.blocked (s.leadSeq t) then .next s
    else
      let ms := s.batchMembers t slot [] names
      let s := s.addFld (rGenStatus t) fGenStatusBatchSkipped (names.length - ms.length)
      .next (s.modText fun x => { x with
        batches := SMap.set (fun _ => []) x.batches t as, named := x.named ++ ms
        running := SMap.set (fun _ => []) x.running t
          (if ms = [] then live else live ++ [⟨slot, BitVec.ofNat 64 (s.hostNum (a + 8) 8), ms⟩]) })

/-! Adapters (R366 to R368, R370). -/

def State.setAdapters (s : State) (t a : Nat) (vs : List AdapterVer) : State :=
  s.modText fun x => { x with adapters := SMap.set (fun _ => []) x.adapters (1024 * t + a) vs }

/-- A version of a slot holds requests. -/
def State.versionHeld (s : State) (t a : Nat) (v : AdapterVer) : Bool :=
  s.allReqs.any fun r => r.tent == t && genKind r.kind && dAdapter r.desc == a && r.gen.adapter == v.version && !r.finalDone

/-- The slot's current version. -/
def currentVersion (vs : List AdapterVer) : Option AdapterVer := vs.find? (·.ended.isNone)

/-- No version other than the current one holds requests. -/
def State.adapterDrained (s : State) (t a : Nat) : Bool :=
  !(s.adapters t a).any fun v => v.ended.isSome && s.versionHeld t a v

/-- The slot's versions without those that are not current and hold no request (R368). -/
def State.keptVersions (s : State) (t a : Nat) : List AdapterVer :=
  (s.adapters t a).filter fun v => v.ended.isNone || s.versionHeld t a v

/-- RESULT and VERSION of a command. -/
def State.adapterResult (s : State) (result version : Nat) : State :=
  (s.setFld rGenAdapterStatus fGenAdapterStatusResult result).setFld rGenAdapterStatus fGenAdapterStatusVersion version

/-- The check of an image header in a tent's device range: 0 OK, 1 FORMAT, 2 RANGE, 3 MODEL. -/
def State.adapterCheck (s : State) (t a : Nat) (h : List Byte) : Nat :=
  let layers := field h 6 2
  let targets := field h 0xC 4
  let n := 16 * layers * (bitList 7 targets).length
  if field h 0 2 ≠ 1 then 1
  else if field h 2 2 = 0 ∨ 256 < field h 2 2 ∨ layers = 0 ∨ 256 < layers ∨ 128 ≤ targets ∨
      (field h 0x10 1 ≠ 0 ∧ field h 0x10 1 ≠ 7) ∨ a % 64 ≠ 0 then 2
  else match s.servedSpan t (field h 0x18 8) n with
    | .invalid => 2
    | .retired => 2
    | _ => if s.modelRole t (field h 4 2) ≠ 3 then 3 else 0

/-- The MODEL_SLOT of an image's header. -/
def adapterModel (h : List Byte) : Nat := field h 4 2

/-- ADAPTER_INSTALL (R366): the image at GEN_ADAPTER_ADDR becomes the next version of slot `a` of tent `t`. -/
def execAdapterInstall (t a : Nat) (s : State) : Host.Outcome State Fault Refusal :=
  if 64 ≤ t ∨ 1024 ≤ a ∨ s.blocked (s.leadSeq t) then .next s
  else if !s.adapterDrained t a then .next (s.adapterResult 4 0)
  else
    let addr := s.fld rGenAdapterAddr fGenAdapterAddrAddr * 64
    match s.unitRead t addr 64 with
    | .error (.wait w) =>
      let (st, s) := s.originate (s.leadSeq t)
      .next (s.requestInbound t (w / 65536) st true)
    | .error _ => .next (s.adapterResult 2 0)
    | .ok (h, s) =>
      let e := s.adapterCheck t addr h
      if e ≠ 0 then .next (s.adapterResult e 0)
      else
        let (st, s) := s.originate (s.leadSeq t)
        let v := SMap.get (fun _ => 0) s.dev.text.lastVersion (1024 * t + a) + 1
        let old := (s.keptVersions t a).map fun (x : AdapterVer) => { x with ended := some (x.ended.getD st) }
        let s := s.setAdapters t a (old ++ [{ version := v, model := adapterModel h, image := addr, installed := st }])
        let s := s.modText fun x => { x with lastVersion := SMap.set (fun _ => 0) x.lastVersion (1024 * t + a) v }
        .next (s.adapterResult 0 v)

/-- ADAPTER_RETIRE (R368): the slot's current version ends at the retire stamp. -/
def execAdapterRetire (t a : Nat) (s : State) : Host.Outcome State Fault Refusal :=
  if 64 ≤ t ∨ 1024 ≤ a ∨ s.blocked (s.leadSeq t) then .next s
  else match currentVersion (s.adapters t a) with
    | none => .next (s.adapterResult 5 0)
    | some _ =>
      let (st, s) := s.originate (s.leadSeq t)
      let s := s.setAdapters t a ((s.adapters t a).map fun (x : AdapterVer) => { x with ended := some (x.ended.getD st) })
      .next ((s.setAdapters t a (s.keptVersions t a)).adapterResult 0 0)

/-- ADAPTER_QUERY (R370). -/
def execAdapterQuery (t a : Nat) (s : State) : Host.Outcome State Fault Refusal :=
  if 64 ≤ t ∨ 1024 ≤ a then .next s
  else
    let s := s.setFlag rGenAdapterStatus fGenAdapterStatusDrained (s.adapterDrained t a)
    match currentVersion (s.adapters t a) with
    | none => .next (s.adapterResult 5 0)
    | some v => .next (s.adapterResult 0 v.version)

end Sys2Proof.Machine
end

