-- ==== Sys2Proof/Machine/Tents.lean ====
section
/-! DEFINITION. The TENT block (R371 to R390, R563): life cycle, model tables, placement, crew pre-emption, migration. -/

namespace Sys2Proof.Machine

/-- ERROR of TENT_CTL. -/
def State.tentError (s : State) (t n : Nat) : State := s.setFld (rTentCtl t) fTentCtlError n
def State.setTentState (s : State) (t n : Nat) : State := s.setFld (rTentCtl t) fTentCtlState n

/-- Run a command from state `n`; from any other it sets ERROR to STATE (R373). -/
def State.tentCommand (s : State) (t n : Nat) (f : State → State) : State :=
  if 64 ≤ t then s else if s.tentState t = n then f s else s.tentError t 1

/-! Configuration (R372, R373). -/

/-- The registers that CONFIGURE returns to their reset values. -/
def configRegs (t : Nat) : List Nat :=
  [rTentBays t 0, rTentBays t 1, rTentBays t 2, rTentBays t 3, rTentHbm t, rTentFlash t, rTentDurability t, rTentBatch t,
   rTentKeyslot t, rTentQuota t, rTentCairnKey0 t, rTentCairnKey1 t, rTentModels t, rTentSave t, rTentMigrateAt t,
   rTentStatus t, rGenCfg t, rGenBatch t, rGenStatus t, rGenCounts t, rFabTentSpan t, rFabTentCollq t] ++
  (List.range 8).flatMap fun c => [rShapeRate t c, rShapeBurst t c, rShapeCredit t c, rShapeHeld t c]

/-- TENT_CONFIGURE (R373): `key` is the value drawn from the DRBG. -/
def execTentConfigure (t : Nat) (key : W128) (s : State) : Host.Outcome State Fault Refusal :=
  .next (s.tentCommand t 0 fun s =>
    let s := (configRegs t).foldl (fun s off => s.wr off (regReset off)) s
    let s := (s.setTent t { cairnKey := key }).setTentLog t {}
    let s := s.modText fun x => { x with batches := SMap.set (fun _ => []) x.batches t [] }
    s.setTentState t 1)

/-- TENT_ABORT (R373). -/
def execTentAbort (t : Nat) (s : State) : Host.Outcome State Fault Refusal :=
  .next (s.tentCommand t 1 fun s => s.setTentState t 0)

/-! The checks of R374. -/

/-- A bay of the assembly in service. -/
def State.bayGood (s : State) (n : Nat) : Bool := decide (n < 256) && !(s.bay n).retired

/-- Bay `n` is another tent's, is about to be, or has yet to be reset. -/
def State.bayTaken (s : State) (t n : Nat) : Bool :=
  (match (s.bay n).tent with | some u => u != t | none => (s.bay n).resetDue) ||
    (List.range 64).any fun u => u != t && (s.tent u).cutAt.isSome && (((s.tent u).cutBays.getD (n / 64) 0).toNat.testBit (n % 64))

/-- A mask of bays meets R378: none taken, and of each group of four all that are not retired or none. -/
def State.baysOk (s : State) (t : Nat) (mask : List W64) : Bool :=
  let has (n : Nat) : Bool := (mask.getD (n / 64) 0).toNat.testBit (n % 64)
  ((List.range 256).all fun n => !has n || (s.bayGood n && !s.bayTaken t n)) &&
    (List.range 64).all fun g =>
      let good := (List.range 4).filter fun i => s.bayGood (4 * g + i)
      (good.all fun i => has (4 * g + i)) || (good.all fun i => !has (4 * g + i))

/-- TENT_BAYS0 to 3 as they stand. -/
def State.bayMask (s : State) (t : Nat) : List W64 := (List.range 4).map fun j => s.rd (rTentBays t j)

/-- Each stack of the tent can supply its share of a quota (R379). -/
def State.quotaFits (s : State) (t quota : Nat) : Bool :=
  let l := bitList 12 (s.tentStacks t)
  !l.isEmpty && quota % l.length == 0 && l.all fun σ =>
    decide (σ < s.dev.desc.stackCount) && decide (s.reservedOn σ t + quota / l.length ≤ s.tentPanels σ)

/-- What the tent holds already lies within the reservation to be made (R379). -/
def State.heldFits (s : State) (t : Nat) : Bool :=
  (List.range 12).all fun σ => decide (s.heldOn σ t ≤ stackShare (s.tentStacks t) (s.quota t) σ)

/-- The flash shares a tent holds against others, each as set, first extent, one past the last: its own and what its
retained table keeps (R243, R380). -/
def State.sharesOf (s : State) (u : Nat) : List (Nat × Nat × Nat) :=
  (if s.tentState u ≠ 0 ∧ s.flashEnabled u = true then [s.flashShare u] else []) ++
    match (s.table u).retention with
    | some r => if r.flashEnable then [(r.flashSet, 1024 * r.baseK, 1024 * (r.baseK + r.countK))] else []
    | none => []

/-- The flash share meets R380. -/
def State.flashOk (s : State) (t : Nat) : Bool :=
  let x := s.flashShare t
  !s.flashEnabled t ||
    (s.flag (rMemFlashsetCfg x.1) fMemFlashsetCfgValid &&
      decide (x.2.2 ≤ s.fld (rMemFlashsetExtents x.1) fMemFlashsetExtentsDataExtents) &&
      (List.range 64).all fun u => u == t || (s.sharesOf u).all fun y =>
        y.1 != x.1 || decide (y.2.2 ≤ x.2.1) || decide (x.2.2 ≤ y.2.1))

/-- The durability class can be served (R404). -/
def State.durableOk (s : State) (t : Nat) : Bool :=
  match s.durability t with
  | 0 => true
  | 1 => s.flag rJrnlMirrorPeer fJrnlMirrorPeerEnable && s.flag rJrnlMirrorPeer fJrnlMirrorPeerConnected
  | _ =>
    let c := rMemFlashsetCfg (s.fld rJrnlCfg fJrnlCfgFlashSet)
    s.flag c fMemFlashsetCfgValid && s.flag c fMemFlashsetCfgPlp && decide (2 ≤ s.journalSsds.length)

/-- A retained table's checks (R243): 0, or the ERROR. -/
def State.retainedError (s : State) (t : Nat) : Nat :=
  match (s.table t).retention with
  | none => 0
  | some r =>
    if s.tentStacks t ≠ r.stackMask ∨ s.tentInterleave t ≠ r.interleave ∨ s.quota t < s.residentCount t then 3
    else if s.flashEnabled t ≠ r.flashEnable ∨ s.fld (rTentFlash t) fTentFlashSet ≠ r.flashSet ∨
        s.fld (rTentFlash t) fTentFlashBaseK ≠ r.baseK ∨ s.fld (rTentFlash t) fTentFlashCountK ≠ r.countK then 4
    else if r.keyId ≠ 0 ∧ s.tentKeyId t ≠ r.keyId then 6
    else 0

/-! Model tables (R377). -/

/-- A span of the tent's device range lies in panels that are neither INVALID nor RETIRED. -/
def State.spanMapped (s : State) (t a n : Nat) : Bool :=
  match s.servedSpan t a n with
  | .hbm => true
  | .wait => true
  | _ => false

/-- An entry of the table meets R377. -/
def State.modelEntryOk (s : State) (t : Nat) (e : List Byte) : Bool :=
  let role := field e 0 1
  let image := field e 8 8
  let pages := field e 0x18 4
  let bytes := field e 0x1C 4
  decide (role ≤ 4) &&
    (role == 0 ||
      (decide (field e 1 1 ≤ 7) && field e 4 4 != 0 && image != 0 && s.spanMapped t image 1 &&
        (decide (role < 3) || (pages != 0 && bytes != 0 && s.spanMapped t (field e 0x10 8) (pages * bytes)))))

/-- Read the model table: its bytes and how many entries; `none` where it breaks R377. -/
def State.readModels (s : State) (t : Nat) : Except GErr (Nat × List Byte × State) :=
  let n := s.fld (rTentModels t) fTentModelsCount
  let a := s.fld (rTentModels t) fTentModelsAddr * 64
  if n = 0 then .error (.broken a)
  else match s.unitRead t a (64 * n) with
    | .error e => .error e
    | .ok (b, s) =>
      if (List.range n).all fun i => s.modelEntryOk t ((b.drop (64 * i)).take 64) then .ok (n, b, s) else .error (.broken a)

/-- The table read takes effect; Cairn removes the blocks of every slot whose entry changed. -/
def State.useModels (s : State) (t n : Nat) (b : List Byte) : State :=
  let old := s.tent t
  let row (l : List Byte) (i : Nat) : List Byte := (l.drop (64 * i)).take 64
  let keep (c : CairnBlock) : Bool := c.tent != t || row old.models c.slot == row b c.slot
  let s := s.modText fun x => { x with cairn := x.cairn.filter keep }
  s.modTent t fun x => { x with models := b, modelCount := n, modelAddr := s.fld (rTentModels t) fTentModelsAddr * 64 }

/-! Activation (R373, R374). -/

/-- HOLD_MAX of all active tents with this one; one that is RESETTING counts as active (R374). -/
def State.holdSum (s : State) (t : Nat) : Nat :=
  (List.range 64).foldl (fun n u =>
    if u = t ∨ s.tentState u = 2 ∨ s.tentState u = 3 then n + s.fld (rTentQuota u) fTentQuotaHoldMax else n) 0

/-- The first failing check before the model table, 0 for none. -/
def State.activateError (s : State) (t : Nat) : Nat :=
  let r := s.retainedError t
  if !s.baysOk t (s.bayMask t) then 2
  else if r = 3 ∨ !s.quotaFits t (s.quota t) ∨ !s.heldFits t then 3
  else if r = 4 ∨ !s.flashOk t then 4
  else if !s.durableOk t then 5
  else if r = 6 ∨ !s.keyValid (s.tentKey t) then 6
  else 0

/-- TENT_BATCH follows the placement in effect (R348). -/
def State.setBatch (s : State) (t : Nat) : State :=
  let n := (s.tentBays t).length
  (s.setFld (rTentBatch t) fTentBatchBays n).setFld (rTentBatch t) fTentBatchMode (if 32 ≤ n then 1 else 0)

/-- Every gated bay is powered, its contents zero and its truss as R166 says (R552, R553). -/
def State.powerBays (s : State) : State :=
  (List.range 256).foldl (fun s n =>
    let b := s.bay n
    if b.gated then
      (s.setBay n { b with gated := false, truss := { nans := b.truss.nans } }).setIsl (s.bayIsland n)
        { (s.isl (s.bayIsland n)).wake s.ao.tick with fresh := true }
    else s) s

/-- The package returns from A2 to A0 first (R553). -/
def State.leaveA2 (s : State) : State :=
  if s.fld rPwrState fPwrStateCurrent = 2 then
    ((s.powerBays.setFld rPwrState fPwrStateCurrent 0).setFlag rPwrState fPwrStateTransition false).modMem fun m =>
      { m with selfRefresh := [] }
  else s

/-- The tent's Cairn namespace key: the derived one where it is sealed (R462, R474). -/
def State.namespaceKey (s : State) (t : Nat) : W128 :=
  if s.sealed t then BitVec.ofNat 128 (kdf (s.keySlot (s.tentKey t)).root "vothes-cairn" []).toNat
  else (s.tent t).cairnKey

/-- The tent becomes ACTIVE. -/
def State.activate (s : State) (t n : Nat) (b : List Byte) : State :=
  let s := s.leaveA2
  let (st, s) := s.originate islAdmit
  let ns := s.namespaceKey t
  let key := s.tentKeyId t
  let s := s.useModels t n b
  let s := s.modTent t fun x => { x with
    activated := some st, released := none, keyId := key, cairnKey := ns, hasPending := false, cutAt := none }
  let s := (List.range 8).foldl (fun s c => s.setCredit t c st.tick (s.burst t c * 1000000000)) s
  let s := (s.tentBays t).foldl (fun s k => s.setBay k { s.bay k with tent := some t }) s
  let s := (s.setTable t { s.table t with retention := none }).setFlag (rMemPanelTableBase t) fMemPanelTableBaseRetained false
  ((s.setBatch t).measureTent t 0x10 st (s.tentConfig t)).setTentState t 2

/-- TENT_ACTIVATE (R243, R374). -/
def execTentActivate (t : Nat) (s : State) : Host.Outcome State Fault Refusal :=
  .next (s.tentCommand t 1 fun s =>
    let e := s.activateError t
    if e ≠ 0 then s.tentError t e
    else if s.blocked islAdmit then s
    else
      -- a retained table is read as it will stand
      match (s.setFlag (rMemPanelTableBase t) fMemPanelTableBaseRetained false).readModels t with
      | .error (.wait a) =>
        let (st, s) := s.originate islAdmit
        s.requestInbound t (a / 65536) st true
      | .error _ => s.tentError t 7
      | .ok (n, b, _) => if 16384 < s.holdSum t then s.tentError t 8 else s.activate t n b)

/-- TENT_RELOAD_MODELS (R377): refused, it changes nothing. -/
def execTentReloadModels (t : Nat) (s : State) : Host.Outcome State Fault Refusal :=
  .next (s.tentCommand t 2 fun s =>
    if s.tentLogFull t then s.tentError t 7
    else if s.blocked islAdmit then s
    else match s.readModels t with
      | .error (.wait a) =>
        let (st, s) := s.originate islAdmit
        s.requestInbound t (a / 65536) st true
      | .error _ => s.tentError t 7
      | .ok (n, b, s) =>
        let (st, s) := s.originate islAdmit
        (s.useModels t n b).measureTent t 0x12 st (Config.sha3 b))

/-! Bay reset (R508, R563, R585). -/

/-- A bay's crews, queues and saved crews are discarded; the part resets it next.  Replies on their way to a saved crew are
dropped, and counted (R385). -/
def State.condemnBay (s : State) (n : Nat) : State :=
  let b := s.bay n
  let gone := s.dev.saved.filter (·.bay == n)
  let late := gone.foldl (fun k x => k + (x.crew.ops.filter fun o => !o.ready).length) 0
  let s := match b.tent with
    | some t => s.addFld (rTentStatus t) fTentStatusStale late
    | none => s
  let c : Bay := { b with crews := [], launchq := [], selq := [], smpq := [], dma := [], resetDue := true
                          truss := { b.truss with queue := [] } }
  let s := (s.orphanOps (·.bay == n)).setBay n c
  { s with dev := { s.dev with
      saved := s.dev.saved.filter (·.bay != n)
      mem := { s.dev.mem with held := s.dev.mem.held.filter (·.bay != n) } } }

/-- The counters of a bay's engines start again from zero. -/
def State.zeroEngines (s : State) (n : Nat) : State :=
  [engTruss n, engStrand n, engSelect n, engDma n, engSlice n].foldl (fun s e =>
    s.modObs fun o => { o with engines := SMap.mod (fun _ => {}) o.engines e fun c =>
      { since := s.liveTick, off := (s.isl (s.bayIsland n)).off_ s.ao.tick, held := (s.holdCounts e c).held } }) s

/-- A bay as its reset leaves it. -/
def Bay.fresh (b : Bay) (tent : Option Nat) : Bay := { tent := tent, retired := b.retired, gated := b.gated }

/-- The tent is RESETTING and every bay of it has been reset (R375). -/
def State.resetOver (s : State) (t : Nat) : State :=
  if s.tentState t = 3 ∧ ((s.tentBays t).any fun n => (s.bay n).resetDue) = false then s.setTentState t 2 else s

/-- BAY_RESET (R563): of a bay that the part has to reset.  It stays with a tent that is being reset, and leaves one that is
released or whose placement lacks it. -/
def execBayReset (bay : Nat) (s : State) : Host.Outcome State Fault Refusal :=
  let b := s.bay bay
  if !b.resetDue then .next s
  else
    let keep := match b.tent with
      | some t => s.hasBay t bay && s.tentState t == 3
      | none => false
    let s := (s.setBay bay (b.fresh (if keep then b.tent else none))).zeroEngines bay
    .next (match b.tent with
      | some t => s.resetOver t
      | none => s)

/-! Reset and release (R375, R376). -/

/-- A request of a reset tent ends as if a CANCEL with the reset stamp had been decided against it. -/
def State.resetRequest (s : State) (r : Stamp) (n : Nat) : State :=
  match s.req n with
  | none => s
  | some q =>
    if q.finalDone then s
    else if q.ended.any fun e => e.2.before r then s.modReq n (·.lateCancel r)
    else (s.modReq n (·.cancel r)).dropHolds n

/-- TENT_RESET (R375): steps 1 to 4 but the bays' own reset, which BAY_RESET carries out; the last one returns STATE to
ACTIVE. -/
def execTentReset (t : Nat) (s : State) : Host.Outcome State Fault Refusal :=
  .next (s.tentCommand t 2 fun s =>
    if s.blocked islAdmit then s
    else
      let (r, s) := (s.setTentState t 3).originate islAdmit
      let held := s.heldOf t
      let s := s.modAdm fun a => { a with held := a.held.filter fun f => dTent f.bytes != t }
      let s := held.foldl (fun s f => s.reject f 7) s
      let s := ((s.allReqs.filter (·.tent == t)).map (·.seq)).foldl (fun s n => s.resetRequest r n) s
      let s := (s.lanternDiscardTent t).tableDiscardTent t
      let s := s.modText fun x => { x with loops := x.loops.filter fun e => e.1 / 256 != t }
      ((s.tentBays t).foldl (fun s n => s.condemnBay n) s).resetOver t)

/-- TENT_RELEASE (R376): admission stops. -/
def execTentRelease (t : Nat) (s : State) : Host.Outcome State Fault Refusal :=
  .next (s.tentCommand t 2 fun s =>
    if s.blocked islAdmit then s
    else
      let (st, s) := s.originate islAdmit
      (s.modTent t fun x => { x with released := some st }).setTentState t 4)

/-- TENT_RELEASE_DRAINED (R376): REQUESTS reads 0; the tent's bays are to be reset and leave it. -/
def execTentReleaseDrained (t : Nat) (s : State) : Host.Outcome State Fault Refusal :=
  if 64 ≤ t ∨ s.tentState t ≠ 4 ∨ (s.tent t).drained ∨ s.requestCount t ≠ 0 then .next s
  else .next ((s.tentBays t).foldl (fun s n => s.condemnBay n) (s.modTent t fun x => { x with drained := true }))

/-- A slot of the tent is still registered (R376). -/
def State.tentRegistered (s : State) (t : Nat) : Bool :=
  s.flag (rMemPanelTableBase t) fMemPanelTableBaseValid ||
    ((List.range 64).any fun q => s.sqValid q && s.sqTent q == t) ||
    (s.dev.adm.rings.any fun e => e.2.any (·.tent == t)) ||
    ((List.range 64).any fun x => s.flag (rLanternIndexBase x) fLanternIndexBaseValid &&
      s.fld (rLanternIndexBase x) fLanternIndexBaseTent == t) ||
    ((List.range 256).any fun x => s.flag (rTblDescBase x) fTblDescBaseValid && s.fld (rTblDescBase x) fTblDescBaseTent == t) ||
    ((List.range 8).any fun x => (s.flag (rKerfVocabBase x) fKerfVocabBaseValid || s.flag (rKerfVocabBase x)
      fKerfVocabBaseLoading) && s.fld (rKerfVocabBase x) fKerfVocabBaseTent == t) ||
    ((List.range 64).any fun x => (s.flag (rGuyImageBase x) fGuyImageBaseValid || s.flag (rGuyImageBase x)
      fGuyImageBaseLoading) && s.fld (rGuyImageBase x) fGuyImageBaseTent == t) ||
    ((List.range 1024).any fun a => (currentVersion (s.adapters t a)).isSome) || s.keyValid (s.tentKey t)

/-- TENT_FREE (R376): the bays have left, nothing of the tent is registered, and its key slot is cleared. -/
def execTentFree (t : Nat) (s : State) : Host.Outcome State Fault Refusal :=
  if 64 ≤ t ∨ s.tentState t ≠ 4 ∨ !(s.tent t).drained ∨ ((List.range 256).any fun n => (s.bay n).tent == some t) = true ∨
      s.tentRegistered t = true then .next s
  else .next ((s.modText fun x => { x with cairn := x.cairn.filter (·.tent != t) }).setTentState t 0)

/-! TENT_HBM (R372, R379). -/

/-- QUOTA_WRITE (R372, R379): a write of `v` to TENT_HBM of tent `t`. -/
def execQuotaWrite (t : Nat) (v : W64) (s : State) : Host.Outcome State Fault Refusal :=
  if 64 ≤ t then .next s
  else if s.tentState t = 0 then .next (s.tentError t 1)
  else if s.tentState t = 1 then .next (s.writeReg (rTentHbm t) v)
  else
    let r := rTentHbm t
    let q := getBits v 0 24
    let s := if getBits v 24 12 ≠ s.tentStacks t ∨ getBits v 36 1 ≠ s.fld r fTentHbmInterleave then s.tentError t 1 else s
    if (s.quotaFits t q = true ∨ (q ≤ s.quota t ∧ q % (bitList 12 (s.tentStacks t)).length = 0)) ∧ s.residentCount t ≤ q then
      .next (s.setFld r fTentHbmQuota q)
    else .next (s.tentError t 8)

/-! Crew pre-emption (R383 to R386). -/

/-- The work of request `a` ranks above that of `b`; work for no request ranks below every request (R371). -/
def State.workAbove (s : State) (a b : Nat) : Bool :=
  match s.req a, s.req b with
  | some x, some y => outranks [] x y
  | some _, none => true
  | none, _ => false

/-- A step sequencer launched the crew for a generation step. -/
def State.genCrew (s : State) (c : Crew) : Bool :=
  match s.req c.request with
  | some r => genKind r.kind && (r.legs.head? == some 7 || r.legs.head? == some 8)
  | none => false

/-- Bytes of a saved context (R384). -/
def contextBytes (regs : Nat) : Nat := 64 * ((4608 + 132 * regs + 63) / 64)

/-- Bytes of a bay's saved contexts in its save region, or in its HBM area. -/
def State.savedBytes (s : State) (bay : Nat) (loc : Bool) : Nat :=
  s.dev.saved.foldl (fun n x => if x.bay = bay ∧ x.local_ = loc then n + x.bytes else n) 0

/-- The crew is the one to save: the head does not fit, the crew ranks below it, and no other such crew ranks lower, or
equal and later launched. -/
def State.preemptee (s : State) (bay slot : Nat) (c : Crew) : Bool :=
  let b := s.bay bay
  match b.launchq.head? with
  | none => false
  | some d =>
    let fits := (List.range 256).any fun k => b.canLaunch d k
    let lower (x : Crew) : Bool := s.workAbove d.request x.request && !s.genCrew x && !x.trapped
    !fits && lower c && !(b.resident.any fun e => e.1 != slot && lower e.2 &&
      (s.workAbove c.request e.2.request || (!s.workAbove e.2.request c.request && decide (c.launchNo < e.2.launchNo))))

/-- The crew's accesses on their way take another name. -/
def State.renameHeld (s : State) (bay old new : Nat) : State :=
  (s.modMem fun m => { m with held := m.held.map fun a => if a.bay = bay ∧ a.slot = old then { a with slot := new } else a }).modFab
    fun x => { x with ops := x.ops.map fun o => if o.bay = bay ∧ o.slot = old then { o with slot := new } else o }

/-- Where the context goes, and the state with its bytes written: their layout is firmware's own; `none` where neither
place has room. -/
def State.saveContext (s : State) (bay t n : Nat) : Option (Bool × State) :=
  let loc := 1024 * s.fld (rTentSave t) fTentSaveLocalKib
  let bs := (List.range n).map fun i => BitVec.ofNat 8 (Config.freeValue (s.free + i))
  if s.savedBytes bay true + n ≤ loc then
    let a := bayStoreSize - loc + s.savedBytes bay true
    some (true, { s.modBay bay fun b => { b with store := b.store.write a bs } with free := s.free + n })
  else
    let a := s.fld (rTentSave t) fTentSaveAddr * 2 ^ 22 + 2 ^ 22 * bay + s.savedBytes bay false
    if s.savedBytes bay false + n ≤ 2 ^ 22 ∧ s.servedSpan t a n = .hbm then
      some (false, { s.devWrite t a bs with free := s.free + n })
    else none

/-- A request's work has been pre-empted: PREEMPTED is raised, and one more counted (R340, R397). -/
def State.notePreempt (s : State) (n : Nat) : State :=
  s.modReq n fun q => { q with preemptions := q.preemptions + 1, conditions := q.conditions ||| 0x10 }

/-- CREW_PREEMPT (R383 to R385). -/
def execCrewPreempt (bay slot : Nat) (s : State) : Host.Outcome State Fault Refusal :=
  match s.crew bay slot, (s.bay bay).tent with
  | some c, some t =>
    if !s.preemptee bay slot c ∨ s.blocked (s.bayIsland bay) then .next s
    else
      let n := contextBytes c.count
      match s.saveContext bay t n with
      | none =>
        -- a full save area leaves the crew running
        .next (s.log (islRanger (2 * (bay / 64))) { detector := 0x0E00, severity := 3, action := 0, tent := t })
      | some (loc, s) =>
        let k := s.dev.nextToken
        let x : Saved :=
          { bay := bay, tent := t, crew := c, token := k, since := s.liveTick, bytes := n, local_ := loc }
        let s := (s.modBay bay fun b => b.setCrew slot none).renameHeld bay slot k
        let s : State := { s with dev := { s.dev with saved := s.dev.saved ++ [x], nextToken := k + 1 } }
        .next (((s.bayEvent bay 0x00F).trace (s.bayIsland bay) 0x31 t (bay + 256 * slot) c.pc).notePreempt c.request)
  | _, _ => .next s

/-- CREW_RESTORE (R386): the saved crew of token `k` returns to its bay, in any slot with room. -/
def execCrewRestore (k slot : Nat) (s : State) : Host.Outcome State Fault Refusal :=
  match s.dev.saved.find? (·.token == k) with
  | none => .next s
  | some x =>
    let b := s.bay x.bay
    if 256 ≤ slot ∨ x.crew.held.isSome ∨ (b.crew slot).isSome ∨ 1024 < b.regsUsed + footprint x.crew.count ∨ b.resetDue ∨
        s.blocked (s.bayIsland x.bay) then .next s
    else
      let s := (s.modBay x.bay fun b => b.setCrew slot (some x.crew)).renameHeld x.bay k slot
      let s : State := { s with dev := { s.dev with saved := s.dev.saved.filter (·.token != k) } }
      let isl := s.bayIsland x.bay
      let s := s.trace isl 0x32 x.tent (x.bay + 256 * slot) x.crew.pc
      match s.req x.crew.request with
      | none => .next s
      | some r =>
        let (st, s) := s.originate isl
        let d := s.liveTick - x.since
        .next ((s.contribute
          { tent := r.tent, client := r.client, stamp := st, preemptions := 1, preemptTicks := d }).modReq r.seq fun q =>
            { q with preemptTicks := q.preemptTicks + d })

/-! Migration (R387 to R390). -/

/-- The placement that the next cut would put in effect: the words written since, else those in effect. -/
def State.pendingMask (s : State) (t : Nat) : List W64 :=
  if (s.tent t).hasPending then
    (List.range 4).map fun j => (SMap.get (fun j => s.rd (rTentBays t j)) (s.tent t).pendingBays j)
  else s.bayMask t

/-- Arm a cut. -/
def State.armCut (s : State) (t m : Nat) (mask : List W64) : State :=
  ((s.modTent t fun x => { x with cutAt := some m, cutBays := mask, hasPending := false, pendingBays := [] }).wr
    (rTentMigrateAt t) (BitVec.ofNat 64 m)).setFlag (rTentStatus t) fTentStatusCutPending true

/-- MIGRATION_CUT_ARM (R387): a write of `v` to TENT_MIGRATE_AT of tent `t`. -/
def execMigrationCutArm (t : Nat) (v : W64) (s : State) : Host.Outcome State Fault Refusal :=
  if 64 ≤ t then .next s
  else if s.tentState t = 0 then .next (s.tentError t 1)
  else
    let mask := s.pendingMask t
    if s.tentState t ≠ 2 ∨ v.toNat < s.ao.tick + 100000 ∨ (s.tent t).cutAt.isSome ∨ !s.baysOk t mask then
      .next ((s.modTent t fun x => { x with hasPending := false, pendingBays := [] }).setFlag (rTentStatus t)
        fTentStatusCutRefused true)
    else .next (s.armCut t v.toNat mask)

/-- The legs that run on the tent's bays: EMBED, RESCORE and RERANK; a step carries PREFILL and DECODE. -/
def bayLeg (k : Nat) : Bool := k == 2 || k == 4 || k == 5

/-- A request's leg is cut: it restarts on the new placement (R388, R389). -/
def State.cutLeg (s : State) (n : Nat) : State :=
  match s.req n with
  | none => s
  | some r =>
    if r.ended.isNone ∧ r.started ∧ !r.ready ∧ bayLeg (r.legs.headD 0) then
      (s.notePreempt n).modReq n fun q => { q with
        legTick := s.ao.tick, cutSince := some (q.cutSince.getD s.liveTick)
        legEpoch := s.fld (rTentStatus r.tent) fTentStatusEpoch }
    else s

/-- The open steps of a tent run again from their boundaries; their step commits stand, and what the samplers had decided is
discarded and counted (R388, R389). -/
def State.cutSteps (s : State) (t : Nat) : State :=
  let mine := s.dev.text.loops.filter fun e => e.1 / 256 == t
  let seqs := mine.flatMap fun e => match e.2.step with | some p => p.seqs | none => []
  let open_ := seqs.filter fun x => !x.committed && (match s.req x.seq with | some r => r.ended.isNone | none => false)
  let s := mine.foldl (fun s e => s.setLoop t (e.1 % 256) { e.2 with step := none }) s
  let s := open_.foldl (fun s x => (s.notePreempt x.seq).modReq x.seq fun q =>
    { q with cutSince := some (q.cutSince.getD s.liveTick), gen := { q.gen with drafts := [], masks := [] } }) s
  s.addFld (rTentStatus t) fTentStatusStale (open_.filter (·.decided)).length

/-- A request whose home die holds no bay any more takes another (R389, R30). -/
def State.rehome (s : State) (t : Nat) : State :=
  ((s.allReqs.filter fun r => r.tent == t && !r.finalDone).map (·.seq)).foldl (fun s n =>
    match s.req n with
    | none => s
    | some r =>
      if (s.tentDies t).contains r.home then s
      else
        let d := nextRound (s.tentDies t) (SMap.get (fun _ => 3) s.dev.adm.lastHome t)
        (s.modReq n fun q => { q with home := d }).modAdm fun a =>
          { a with lastHome := SMap.set (fun _ => 3) a.lastHome t d }) s

/-- TENT_BATCH changes at the cut: into continuous mode the running batch joins the running set; into fixed mode the running
sequences of each loop form one batch (R389). -/
def State.remode (s : State) (t : Nat) : State :=
  let old := s.fld (rTentBatch t) fTentBatchMode
  let s := s.setBatch t
  let new := s.fld (rTentBatch t) fTentBatchMode
  if old = new then s
  else
    let run := s.allReqs.filter fun r => r.tent == t && genKind r.kind && r.ended.isNone && (r.joined || r.gen.preemptedAt.isSome)
    let slots := (run.map fun r => dModel r.desc).eraseDups
    let bs : List Batch := if new = 1 then []
      else slots.map fun k => ⟨k, 0, (run.filter fun r => dModel r.desc == k).map (·.seq)⟩
    s.modText fun x => { x with
      running := SMap.set (fun _ => []) x.running t bs
      named := if new = 1 then x.named else x.named ++ run.map (·.seq) }

/-- The cut at M (R388, R389). -/
def State.cut (s : State) (t : Nat) : State :=
  let mask := (s.tent t).cutBays
  let has (l : List W64) (n : Nat) : Bool := (l.getD (n / 64) 0).toNat.testBit (n % 64)
  let old := s.bayMask t
  let leaving := (List.range 256).filter fun n => has old n && !has mask n
  let arriving := (List.range 256).filter fun n => has mask n && !has old n
  let s := (List.range 4).foldl (fun s j => s.wr (rTentBays t j) (mask.getD j 0)) s
  let s := (s.modTent t fun x => { x with cutAt := none, cutBays := [] }).setFlag (rTentStatus t) fTentStatusCutPending false
  let s := s.setFld (rTentStatus t) fTentStatusEpoch (s.fld (rTentStatus t) fTentStatusEpoch + 1)
  let s := if leaving = [] then s
    else (((s.allReqs.filter (·.tent == t)).map (·.seq)).foldl (fun s n => s.cutLeg n) s).cutSteps t
  let s := leaving.foldl (fun s n => s.condemnBay n) s
  let s := arriving.foldl (fun s n => s.setBay n { s.bay n with tent := some t }) s
  (s.rehome t).remode t

/-- MIGRATION_CUT (R388): the tick count reaches M. -/
def execMigrationCut (t : Nat) (s : State) : Host.Outcome State Fault Refusal :=
  match (s.tent t).cutAt with
  | none => .next s
  | some m => if s.ao.tick < m then .next s else .next (s.cut t)

/-- Firmware removes a retired bay of an active tent (R390): it arms a cut, or takes the bay out of the pending one. -/
def State.firmwareCut (s : State) (t bay : Nat) : State :=
  let drop (l : List W64) : List W64 := (List.range 4).map fun j =>
    if j = bay / 64 then BitVec.ofNat 64 (setBit (l.getD j 0).toNat (bay % 64) false) else l.getD j 0
  let soon := s.ao.tick + 10000
  match (s.tent t).cutAt with
  | some m => s.armCut t (if soon ≤ m then m else soon) (drop (s.tent t).cutBays)
  | none => s.armCut t soon (drop (s.bayMask t))

end Sys2Proof.Machine
end

