-- ==== Sys2Proof/Machine/Ras.lean ====
section
/-! DEFINITION. The error log ring, injection, remapping, bay retirement, patrol scrub and a host's FAILSAFE (chapter 17 of
the spec). -/

namespace Sys2Proof.Machine

/-- Address of the log ring's header and records in it as a power of two (R497). -/
def State.logRing (s : State) : Nat := s.fld rRasLogBase fRasLogBaseAddr * 64
def State.logLog2 (s : State) : Nat := s.fld rRasLogBase fRasLogBaseLog2

/-- Take the log ring's CONSUMER, logging an invalid value once (R328, R584). -/
def State.pollLogConsumer (s : State) : State :=
  let x := s.dev.ras
  let v := s.hostNum (s.logRing + 8) 8
  let (c, bad) := takeConsumer x.producer x.consumer s.logLog2 v
  if bad then
    if x.badConsumer.contains v then s
    else (s.log islRas (protocolRec 3 12 s.logRing 11 v)).modRas fun x => { x with badConsumer := x.badConsumer ++ [v] }
  else s.modRas fun x => { x with consumer := c }

/-- The log ring has room for a record. -/
def State.logRoom (s : State) : Bool :=
  s.flag rRasLogBase fRasLogBaseValid && decide (s.dev.ras.producer < s.dev.ras.consumer + 2 ^ s.logLog2)

/-- Write a record to the ring and then advance PRODUCER (R497); the ERROR trace event names it (R520). -/
def State.logPut (s : State) (r : ErrRec) : State :=
  let x := s.dev.ras
  let r := { r with logSeq := x.logSeq }
  let s := s.hostWrite (s.logRing + 64 + 64 * (x.producer % 2 ^ s.logLog2)) r.encode
  let s := s.hostPut s.logRing 8 (x.producer + 1)
  let s := s.modRas fun x => { x with logSeq := x.logSeq + 1, producer := x.producer + 1 }
  if r.detector = 0 then s
  else s.traceAt r.stamp 0x0070 r.tent r.detector r.logSeq (if r.flags.testBit 0 then 4 else 0)

/-- The LOSS record of the records dropped (R497). -/
def lossRec (st : Stamp) (epoch count : Nat) : ErrRec :=
  { stamp := st, epoch := epoch, detector := 0, severity := 3, action := 12, count := min count 65535 }

/-- Write a record, or hold it, or drop it and count it (R497). -/
def State.logTake (s : State) (r : ErrRec) : State :=
  if s.logRoom && s.dev.ras.held.isEmpty && s.dev.ras.lossFirst.isNone then s.logPut r
  else if s.dev.ras.held.length < 1024 then s.modRas fun x => { x with held := x.held ++ [r] }
  else
    let s := (s.addFld rRasLogStatus fRasLogStatusLost 1).setFlag rRasLogStatus fRasLogStatusOverflow true
    let s := if s.flag rRasLogBase fRasLogBaseValid then
        s.hostPut (s.logRing + 16) 8 (s.fld rRasLogStatus fRasLogStatusLost)
      else s
    s.modRas fun x =>
      { x with lossFirst := some (x.lossFirst.getD r.stamp), lossCount := x.lossCount + 1 }

/-- Write what waits while there is room: the LOSS record of dropped records, then the records held (R497, R587). -/
def State.logDrain : Nat → State → State
  | 0, s => s
  | fuel + 1, s =>
    if !s.logRoom then s
    else match s.dev.ras.lossFirst with
      | some st =>
        let r := lossRec st s.ao.epoch s.dev.ras.lossCount
        State.logDrain fuel ((s.modRas fun x => { x with lossFirst := none, lossCount := 0 }).logPut r)
      | none => match s.dev.ras.held with
        | r :: rs => State.logDrain fuel ((s.modRas fun x => { x with held := rs }).logPut r)
        | [] => s

/-! Commands of the RAS unit. -/

/-- ERROR_LOG_WRITE: the RAS unit takes the next record that has reached it. -/
def execErrorLogWrite (s : State) : Host.Outcome State Fault Refusal :=
  match s.dev.ras.arrived with
  | [] => .next s
  | r :: rs => .next ((s.modRas fun x => { x with arrived := rs }).logTake r)

/-- LOG_RING_SPACE_RETURN: CONSUMER has advanced. -/
def execLogRingSpaceReturn (s : State) : Host.Outcome State Fault Refusal :=
  .next (if s.flag rRasLogBase fRasLogBaseValid then s.pollLogConsumer.logDrain 1026 else s)

/-- A record held for coalescing is due (R496): 1 ms after its first occurrence, or at a full COUNT. -/
def Coalesce.due (c : Coalesce) (now : Nat) : Bool := decide (c.since + 1000000 ≤ now) || decide (65535 ≤ c.record.count)

/-- COALESCE_HOLD_EXPIRE. -/
def execCoalesceHoldExpire (s : State) : Host.Outcome State Fault Refusal :=
  let cs := s.dev.ras.coalescing
  let now := s.ao.tick
  .next ((cs.filter (·.due now)).foldl (fun s c => s.logTake c.record)
    (s.modRas fun x => { x with coalescing := cs.filter fun c => !c.due now }))

/-- A write of VALID = 1 to a log ring's register is refused (R497, R525). -/
def State.ringRefused (s : State) (v : W64) : Bool :=
  let log2 := getBits v fRasLogBaseLog2.1 fRasLogBaseLog2.2
  let addr := getBits v fRasLogBaseAddr.1 fRasLogBaseAddr.2 * 64
  decide (log2 < 6) || decide (20 < log2) || !s.inHost addr (64 + 64 * 2 ^ log2)

/-- ERROR_LOG_REGISTER: a write of `v` to RAS_LOG_BASE. -/
def execErrorLogRegister (v : W64) (s : State) : Host.Outcome State Fault Refusal :=
  if getBits v 0 1 = 0 then .next (s.writeReg rRasLogBase v)
  else if s.ringRefused v then
    .next ((s.setFlag rRasLogBase fRasLogBaseValid false).setFlag rRasLogBase fRasLogBaseCfgError true)
  else
    let s := (s.writeReg rRasLogBase v).setFlag rRasLogBase fRasLogBaseCfgError false
    let s := s.hostWrite s.logRing (List.replicate 64 0)
    .next ((s.modRas fun x => { x with producer := 0, consumer := 0, badConsumer := [] }).logDrain 1026)

/-! Injection (R499, R500). -/

/-- Whether a detector exists at an island: classes with one detector at an island are unit 0. -/
def State.detectorExists (s : State) (isl det : Nat) : Bool :=
  let u := det % 256
  let bay := decide (isl < 0x200) && decide (isl % 0x80 ≤ 0x43)
  let io := decide (0x300 ≤ isl)
  let o := (isl - 0x300) % 0x40
  let m := (isl - 0x200) % 0x20
  let ranger := decide (isl < 0x200) && (isl % 0x80 == 0x46 || isl % 0x80 == 0x47)
  let link := io && decide (o ≤ 3) && decide (4 * ((isl - 0x300) / 0x40) + o < s.dev.desc.links)
  let engine := decide (isl < 0x200) && decide (isl % 0x80 ≤ 0x47) || decide (0x200 ≤ isl) && decide (isl < 0x2C0) &&
    decide (2 ≤ m) || io && (o == 6 || decide (0x10 ≤ o ∧ o ≤ 0x1F)) || isl == islAdmit || isl == islJournal || isl == islLookout
  s.isIsland isl && (match det / 256 with
    | 0x01 | 0x02 | 0x03 => u == 0 && bay
    | 0x04 => u == 0 && engine
    | 0x05 => u == 0 && !(decide (0x2C0 ≤ isl) && decide (isl < 0x300))
    | 0x06 => u == 0 && decide (0x2C0 ≤ isl) && decide (isl < 0x300)
    | 0x07 => u == 0 && decide (0x200 ≤ isl) && decide (isl < 0x2C0) && decide (m ≤ 1)
    | 0x08 => u == 0 && link
    | 0x09 | 0x0A => u == 0 && io && o == 5
    | 0x0B => u == 0 && (io && o == 4 || isl == islMgmt)
    | 0x0C => u == 0
    | 0x0D => decide (u ≤ 5) && isl == islAlwaysOn
    | 0x0E => decide (u ≤ 1) && ranger
    | 0x0F => u == 0 && isl == islAlwaysOn || u == 1 && isl == islLookout || u == 2 && isl == islRanger 0
    | 0x10 => u == 0 && engine
    | 0x11 => u == 0 && (isl == islPort || isl == islRas || ranger || decide (isl < 0x200) && isl % 0x80 == 0x45 ||
        decide (0x200 ≤ isl) && decide (isl < 0x2C0) && m == 8 || io && o == 6)
    | _ => false)

/-- INJECT_ARM: a write of `v` to RAS_INJECT_ARM. -/
def execInjectArm (v : W64) (s : State) : Host.Outcome State Fault Refusal :=
  let s := s.writeReg rRasInjectArm v
  if getBits v 0 1 = 0 then .next s
  else if s.flag rRasInjectArm fRasInjectArmArmed ∨
      !s.detectorExists (s.fld rRasInjectSel fRasInjectSelIsland) (s.fld rRasInjectSel fRasInjectSelDetector) then
    .next (s.setFlag rRasInjectArm fRasInjectArmRefused true)
  else
    let (st, s) := s.originate islPort
    .next ((s.setFlag rRasInjectArm fRasInjectArmArmed true).modRas fun x => { x with injectStamp := some st })

/-! Hard faults (R493, R494). -/

/-- SRAM_REMAP: firmware, having found a word of a macro hard-failed, installs a remap entry. -/
def execSramRemap (isl macro_ word : Nat) (s : State) : Host.Outcome State Fault Refusal :=
  let l := s.nv.remaps
  if !s.isIsland isl ∨ 4096 ≤ l.length ∨ l.contains (isl, macro_, word) = true ∨
      4 ≤ (l.filter fun e => e.1 == isl && e.2.1 == macro_).length then .next s
  else
    let s : State := { s with nv := { s.nv with remaps := l ++ [(isl, macro_, word)] } }
    let s := s.setFld rRasRemapStatus fRasRemapStatusEntries (l.length + 1)
    .next (s.setFlag rRasRemapStatus fRasRemapStatusListFull (l.length + 1 == 4096))

/-- Firmware retires a bay: an active tent's bay leaves it at a cut (R390). -/
def State.retireBay (s : State) (bay : Nat) : State :=
  if 256 ≤ bay ∨ (s.bay bay).retired then s
  else
    let s := s.setBay bay { s.bay bay with retired := true }
    let s : State := { s with nv := { s.nv with retiredBays := s.nv.retiredBays ++ [s.bayIsland bay] } }
    let s := s.addFld rRasRemapStatus fRasRemapStatusRetiredBays 1
    let s := s.postEvent (s.rangerOf (bay / 64)) 3 0 0 [bay]
    match (s.bay bay).tent with
    | some t => if s.tentState t = 2 then s.firmwareCut t bay else s
    | none => s

/-- BAY_RETIRE (R494). -/
def execBayRetire (bay : Nat) (s : State) : Host.Outcome State Fault Refusal :=
  .next (s.acting (islRanger (s.rangerOf (bay / 64))) (·.retireBay bay))

/-! Patrol scrub (R487). -/

/-- The slot of a physical address lies in carved area `k`: 1 the pool, 4 the journal area. -/
def State.inCarved (s : State) (k pa : Nat) : Bool :=
  match s.dev.mem.carved[k]? with
  | some e => decide (e.1 ≤ pa / 65536 % 2 ^ 20) && decide (pa / 65536 % 2 ^ 20 < e.1 + e.2)
  | none => false

/-- Scrub one word of a line whose codeword shows `flips`: an uncorrectable word of the pool or of the journal area's
header puts the part in FAILSAFE (R489). -/
def State.scrubWord (s : State) (owner : Option Nat) (pa : Nat) : State :=
  let w := s.dev.mem.hbm.num pa 4
  let lost := match eccDecode (eccEncode w (s.dev.mem.hbm.bad (pa / 4)) ^^^ SMap.get (fun _ => 0) s.dev.mem.flips (pa / 4)) with
    | .bad _ _ => true
    | _ => false
  let header := s.inCarved 4 pa && !s.inCarved 4 (pa - 65536) && pa / 2 ^ 36 == 0
  let r : ErrRec := { detector := 0x0700, address := pa, space := 1 }
  if lost && s.inCarved 1 pa then s.enterFailsafe (islStack (pa / 2 ^ 36)) r 8 owner
  else if lost && header then s.enterFailsafe (islStack (pa / 2 ^ 36)) r 8 none
  else (s.hbmWord pa).2

/-- PATROL_SCRUB: the next line of 64 bytes; `flips` gives the codeword bits of its words that have gone wrong since the
last read, and `owner` the tent that owns an entry of the pool in it. -/
def execPatrolScrub (flips : List (Nat × Nat)) (owner : Nat) (s : State) : Host.Outcome State Fault Refusal :=
  let total := s.dev.desc.stackCount * 2 ^ 30
  if !s.flag rRasScrubCfg fRasScrubCfgEnable ∨ total = 0 then .next s
  else
    let line := s.dev.ras.scrubLine
    let isl := islStack (line / 2 ^ 30)
    .next (s.acting isl fun s =>
      let s := s.modMem fun m => { m with flips := flips.foldl (fun f e =>
        if e.1 < 16 then SMap.mod (fun _ => 0) f (16 * line + e.1) (· ^^^ e.2 % 2 ^ 39) else f) m.flips }
      let s := (List.range 16).foldl (fun s i =>
        s.scrubWord (if owner < 64 then some owner else none) (64 * line + 4 * i)) s
      s.modRas fun x => { x with
        scrubLine := if line + 1 < total then line + 1 else 0
        scrubPass := if line + 1 < total then x.scrubPass else x.scrubPass + 1 })

/-- FAILSAFE_FORCE: a write of FORCE to RAS_FAILSAFE (R503, R582). -/
def execFailsafeForce (s : State) : Host.Outcome State Fault Refusal :=
  .next (s.enterFailsafe islPort { detector := 0x1100, address := rRasFailsafe, space := 9 } 9 none)

end Sys2Proof.Machine
end

