-- ==== Sys2Proof/Machine/Obs.lean ====
section
/-! DEFINITION. Counter snapshots, event counters, the trace unit with its trigger and reserve, and the firmware log ring
(chapter 18 of the spec). -/

namespace Sys2Proof.Machine

/-! Counter snapshots (R511 to R513). -/

def snapshotBytes : Nat := 261760

/-- CTR_SNAPSHOT_ARM: a write of `v` to OBS_CTR_SNAPSHOT_AT. -/
def execCtrSnapshotArm (v : W64) (s : State) : Host.Outcome State Fault Refusal :=
  if v.toNat < s.ao.tick + 10000 ∨ s.flag rObsCtrSnapshotDone fObsCtrSnapshotDonePending then
    .next (s.setFlag rObsCtrSnapshotDone fObsCtrSnapshotDoneRefused true)
  else
    let s := (s.wr rObsCtrSnapshotAt v).setFlag rObsCtrSnapshotDone fObsCtrSnapshotDonePending true
    .next ((s.setFlag rObsCtrSnapshotDone fObsCtrSnapshotDoneDone false).modObs fun o => { o with
      engines := SMap.mapVals (fun _ => {}) (fun (c : EngineCtr) => { c with held := none }) o.engines })

/-- The 192 bytes of engine record `r` for a snapshot at tick `at_` (R512). -/
def State.engineRecord (s : State) (at_ r : Nat) : List Byte :=
  let (ty, n, isl) := s.engineOf_ r
  if ty = 0 then List.replicate 192 0
  else
    let c := SMap.get (fun _ => {}) s.dev.obs.engines r
    let (busy, stall, reasons) := c.held.getD (c.busy, c.stall, c.reasons)
    let ticks := (at_ - (s.ao.tick - s.liveTick)) - c.since - ((s.isl isl).off_ at_ - c.off)
    leBytes 1 ty ++ leBytes 1 n ++ leBytes 2 isl ++ leBytes 4 0 ++ leBytes 8 busy ++ leBytes 8 stall ++
      leBytes 8 (engineClocks ty ticks - busy - stall) ++ List.replicate 32 0 ++
      (List.range 16).flatMap fun k => leBytes 8 (SMap.get (fun _ => 0) reasons k)

/-- CTR_SNAPSHOT_WRITE: the tick of a pending snapshot is settled. -/
def execCtrSnapshotWrite (s : State) : Host.Outcome State Fault Refusal :=
  let at_ := (s.rd rObsCtrSnapshotAt).toNat
  if !s.flag rObsCtrSnapshotDone fObsCtrSnapshotDonePending ∨ !s.settled { tick := at_ } then .next s
  else
    let s := s.modObs fun o => { o with snapshots := o.snapshots + 1 }
    let a := s.fld rObsCtrSnapshotAddr fObsCtrSnapshotAddrAddr * 64
    let head := leBytes 8 at_ ++ leBytes 4 s.ao.epoch ++ leBytes 4 1363 ++ leBytes 8 s.dev.obs.snapshots ++ List.replicate 40 0
    let s := if s.inHost a snapshotBytes then s.hostWrite a (head ++ (List.range 1363).flatMap (s.engineRecord at_)) else s
    .next ((s.setFlag rObsCtrSnapshotDone fObsCtrSnapshotDonePending false).setFlag rObsCtrSnapshotDone
      fObsCtrSnapshotDoneDone true)

/-! Event counters (R514, R515). -/

/-- The offset of EVC_VALUE of a block's counter: its window and counter number. -/
def evcOf (off : Nat) : Option (Nat × Nat) :=
  let part (base size : Nat) (n kmax : Nat) : Option (Nat × Nat) :=
    let d := (off - base) % size
    if base ≤ off ∧ off < base + n * size ∧ 0x118 ≤ d ∧ (d - 0x118) % 0x10 = 0 ∧ (d - 0x118) / 0x10 < kmax then
      some (off - d, (d - 0x118) / 0x10)
    else none
  match part 0x200000 0x1000 256 8 with
  | some r => some r
  | none => match part 0x300000 0x4000 6 16 with
    | some r => some r
    | none => part 0x380000 0x4000 4 16

/-- EVC_VALUE_WRITE: the value written replaces the count, and `n` occurrences of that clock are added. -/
def execEvcValueWrite (off : Nat) (v : W64) (n : Nat) (s : State) : Host.Outcome State Fault Refusal :=
  match evcOf off with
  | none => .next s
  | some (win, k) =>
    let on := getBits (s.rd (win + 0x110 + 0x10 * k)) 25 1 == 1
    .next (s.wr off (v + if on then BitVec.ofNat 64 n else 0))

/-! The always-on set (R517). -/

/-- TEMP_PEAK_CLEAR: PEAK becomes MAX_NOW, the highest reading `now`, of sensor `sensor`. -/
def execTempPeakClear (now sensor : Nat) (s : State) : Host.Outcome State Fault Refusal :=
  .next (((s.setFld rObsAoTemp fObsAoTempMaxNow now).setFld rObsAoTemp fObsAoTempPeak now).setFld rObsAoTemp
    fObsAoTempPeakSensor sensor)

/-! The trace unit (R518 to R524). -/

/-- The 32 bytes of a trace record (R519). -/
def TraceRec.encode (r : TraceRec) : List Byte :=
  r.stamp.bytes ++ leBytes 2 r.type ++ leBytes 1 r.tent ++ leBytes 1 r.flags ++ leBytes 4 r.arg0 ++ leBytes 8 r.arg1

/-- Records that the reserve and the general buffer hold (R518). -/
def State.reserveCap (s : State) : Nat := s.dev.obs.reserveMib * 2 ^ 20 / 32
def State.traceCap (s : State) : Nat :=
  (s.fld rObsTraceSize fObsTraceSizeCurrentMib - s.dev.obs.reserveMib) * 2 ^ 20 / 32
def State.traceBase (s : State) : Nat := s.fld rObsTraceBase fObsTraceBaseAddr * 4096

/-- Free records of the general buffer. -/
def State.traceRoom (s : State) : Nat := (s.rd rObsTraceConsumer).toNat + s.traceCap - (s.rd rObsTraceProducer).toNat

/-- Write a record to the general buffer. -/
def State.tracePut (s : State) (r : TraceRec) : State :=
  let p := (s.rd rObsTraceProducer).toNat
  (s.hostWrite (s.traceBase + 32 * (p % s.traceCap)) r.encode).wr rObsTraceProducer (BitVec.ofNat 64 (p + 1))

def State.triggerState (s : State) : Nat := s.fld rObsTrigger fObsTriggerState

/-- OLDEST and COUNT of the reserve. -/
def State.reserveStatus (s : State) : State :=
  let l := s.dev.obs.reserve
  let first := match l with | e :: _ => e.1 % s.reserveCap | [] => 0
  (s.setFld rObsReserveStatus fObsReserveStatusOldest first).setFld rObsReserveStatus fObsReserveStatusCount l.length

/-- Place a record in the reserve. -/
def State.reservePut (s : State) (r : TraceRec) : State :=
  let n := s.dev.obs.reserveNext
  let s := s.hostWrite (s.traceBase + 32 * s.traceCap + 32 * (n % s.reserveCap)) r.encode
  (s.modObs fun o => { o with reserve := o.reserve ++ [(n, r)], reserveNext := n + 1 }).reserveStatus

/-- Window of a trigger that fired: its first and last tick plus one (R523). -/
def State.triggerWindow (s : State) : Nat × Nat :=
  let t := (s.rd rObsTriggerTick).toNat
  (t - 1000 * s.fld rObsTraceReserve fObsTraceReservePreUs, t + 1000 * s.fld rObsTraceReserve fObsTraceReservePostUs)

/-- Discard the reserve's records before a tick (R523); what is left stands one after another from the oldest kept. -/
def State.reserveTrim (s : State) (from_ : Nat) : State :=
  let kept := s.dev.obs.reserve.filter fun e => decide (from_ ≤ e.2.stamp.tick)
  let first := match kept with | e :: _ => e.1 | [] => s.dev.obs.reserveNext
  kept.foldl (fun s e => s.reservePut e.2) (s.modObs fun o => { o with reserve := [], reserveNext := first }).reserveStatus

/-- Offer a dropped record to the reserve (R523): whether it took it. -/
def State.reserveTake (s : State) (r : TraceRec) : Bool × State :=
  let full := decide (s.reserveCap ≤ s.dev.obs.reserve.length)
  if s.triggerState = 1 then
    if s.reserveCap = 0 then (false, s)
    else if full then
      let s := s.modObs fun o => { o with reserve := o.reserve.drop 1 }
      (true, (s.addFld rObsReserveLost fObsReserveLostReserveOverwritten 1).reservePut r)
    else (true, s.reservePut r)
  else if s.triggerState = 2 ∧ !full ∧ s.triggerWindow.1 ≤ r.stamp.tick ∧ r.stamp.tick < s.triggerWindow.2 then
    (true, s.reservePut r)
  else (false, s)

/-- The pending LOSS record (R522): the first tick dropped, the last stamp dropped, how many, and RESERVE_HELD. -/
def State.traceLoss (s : State) : State :=
  match s.dev.obs.lossFirst, s.dev.obs.lossLast with
  | some a, some b =>
    if s.traceRoom < 2 then s
    else
      let o := s.dev.obs
      (s.tracePut ⟨b, 1, 0xFF, if o.lossHeld then 2 else 0, min o.lossCount (2 ^ 32 - 1), a.tick⟩).modObs fun o => { o with
        lossFirst := none, lossLast := none, lossCount := 0, lossHeld := false }
  | _, _ => s

/-- Write a record to the general buffer, or drop it into LOST and the reserve. -/
def State.traceTake (s : State) (r : TraceRec) : State :=
  let s := s.traceLoss
  if s.dev.obs.lossFirst.isNone ∧ 0 < s.traceRoom then s.tracePut r
  else
    let (held, s) := (s.addFld rObsTraceLost fObsTraceLostLost 1).reserveTake r
    s.modObs fun o => { o with
      lossFirst := some (match o.lossFirst with | some a => if r.stamp.before a then r.stamp else a | none => r.stamp)
      lossLast := some (match o.lossLast with | some a => if a.before r.stamp then r.stamp else a | none => r.stamp)
      lossCount := o.lossCount + 1
      lossHeld := o.lossHeld || held }

/-- TRACE_EVENT_WRITE: the trace unit takes the next event; `overflow` when its die's collector could not hold it. -/
def execTraceEventWrite (overflow : Bool) (s : State) : Host.Outcome State Fault Refusal :=
  match s.dev.obs.events with
  | [] => .next s
  | r :: rs =>
    let s := s.modObs fun o => { o with events := rs }
    .next (if overflow then
        let s := s.addFld rObsTraceLost fObsTraceLostLost 1
        s.modObs fun o => { o with
          lossFirst := some (match o.lossFirst with | some a => if r.stamp.before a then r.stamp else a | none => r.stamp)
          lossLast := some (match o.lossLast with | some a => if a.before r.stamp then r.stamp else a | none => r.stamp)
          lossCount := o.lossCount + 1 }
      else s.traceTake r)

/-- TRACE_CONSUMER_WRITE: a write of `v` to OBS_TRACE_CONSUMER, checked under R328. -/
def execTraceConsumerWrite (v : W64) (s : State) : Host.Outcome State Fault Refusal :=
  let c := (s.rd rObsTraceConsumer).toNat
  let p := (s.rd rObsTraceProducer).toNat
  if c ≤ v.toNat ∧ v.toNat ≤ p then .next (s.wr rObsTraceConsumer v).traceLoss
  else if s.dev.obs.badConsumer.contains v.toNat then .next s
  else .next ((s.log islPort (protocolRec 3 12 rObsTraceConsumer 9 v.toNat)).modObs fun o => { o with badConsumer := o.badConsumer ++ [v.toNat] })

/-! Trigger (R523, R524). -/

/-- TRIGGER_ARM: a write of `v` with ARM to OBS_TRIGGER. -/
def execTriggerArm (v : W64) (s : State) : Host.Outcome State Fault Refusal :=
  if 4 < getBits v fObsTriggerSource.1 fObsTriggerSource.2 then .next s
  else if s.dev.obs.reserveMib = 0 ∨ s.triggerState = 1 then .next (s.setFlag rObsTrigger fObsTriggerRefused true)
  else
    let s := (s.writeReg rObsTrigger v).setFld rObsTrigger fObsTriggerState 1
    .next ((s.modObs fun o => { o with reserve := [], reserveNext := 0, source := none, fired := none }).reserveStatus)

/-- TRIGGER_FIRE_HOST: a write with FIRE; a HOST trigger that is armed takes the write's stamp. -/
def execTriggerFireHost (s : State) : Host.Outcome State Fault Refusal :=
  if s.triggerState = 1 ∧ s.fld rObsTrigger fObsTriggerSource = 1 ∧ s.dev.obs.source.isNone then
    let (st, s) := s.originate islPort
    .next (s.modObs fun o => { o with source := some st })
  else .next s

/-- Stamp of the source event of the armed trigger: a TIME trigger's is the first tick at or above ARG. -/
def State.triggerSource (s : State) : Option Stamp :=
  match s.dev.obs.source with
  | some t => some t
  | none =>
    let a := (s.rd rObsTriggerArg).toNat
    if s.fld rObsTrigger fObsTriggerSource = 4 ∧ a ≤ s.ao.tick then some { tick := a, device := s.deviceNum, island := islRas }
    else none

/-- TRIGGER_FIRE: the source stamp of the armed trigger is settled; the reserve is trimmed and TRIGGER is written. -/
def execTriggerFire (s : State) : Host.Outcome State Fault Refusal :=
  match s.triggerSource with
  | none => .next s
  | some t =>
    if s.triggerState ≠ 1 ∨ !s.settled t then .next s
    else
      let s := ((s.setFld rObsTrigger fObsTriggerState 2).wr rObsTriggerTick (BitVec.ofNat 64 t.tick)).modObs fun o =>
        { o with source := none, fired := some t }
      let s := s.reserveTrim s.triggerWindow.1
      let r : TraceRec := ⟨t, 0x90, 0xFF, 0, s.fld rObsTrigger fObsTriggerSource, t.tick⟩
      let s := s.traceLoss
      .next (if s.dev.obs.lossFirst.isNone ∧ 0 < s.traceRoom then s.tracePut r
        else if s.dev.obs.reserve.length < s.reserveCap then s.reservePut r else s.traceTake r)

/-- RESERVE_CLOSE: the end of the window is settled, or the reserve is full. -/
def execReserveClose (s : State) : Host.Outcome State Fault Refusal :=
  if s.triggerState = 2 ∧ (s.settled { tick := s.triggerWindow.2 } ∨ s.reserveCap ≤ s.dev.obs.reserve.length) then
    .next (s.setFld rObsTrigger fObsTriggerState 3)
  else .next s

/-! The firmware log ring (R525, R526). -/

/-- The 64 bytes of a firmware log record at a position. -/
def FwLogRec.encode (r : FwLogRec) (seq : Nat) : List Byte :=
  r.stamp.bytes ++ leBytes 4 r.epoch ++ leBytes 2 r.point ++ leBytes 1 r.level ++ leBytes 1 r.core ++
    ((List.range 4).flatMap fun k => leBytes 8 (r.args.getD k 0)) ++ leBytes 8 seq

def State.fwRing (s : State) : Nat := s.fld rObsFwlogBase fObsFwlogBaseAddr * 64
def State.fwRoom (s : State) : Bool :=
  s.flag rObsFwlogBase fObsFwlogBaseValid &&
    decide (s.dev.obs.fwProducer < s.dev.obs.fwConsumer + 2 ^ s.fld rObsFwlogBase fObsFwlogBaseLog2)

/-- Write a record and advance PRODUCER. -/
def State.fwPut (s : State) (r : FwLogRec) : State :=
  let o := s.dev.obs
  let s := s.hostWrite (s.fwRing + 64 + 64 * (o.fwProducer % 2 ^ s.fld rObsFwlogBase fObsFwlogBaseLog2)) (r.encode o.fwSeq)
  (s.hostPut s.fwRing 8 (o.fwProducer + 1)).modObs fun o => { o with fwProducer := o.fwProducer + 1, fwSeq := o.fwSeq + 1 }

/-- Write the LOSS record and the records held while there is room. -/
def State.fwDrain : Nat → State → State
  | 0, s => s
  | fuel + 1, s =>
    if !s.fwRoom then s
    else match s.dev.obs.fwLossFirst with
      | some st =>
        let r : FwLogRec := { stamp := st, epoch := s.ao.epoch, args := [s.dev.obs.fwLossCount] }
        State.fwDrain fuel ((s.modObs fun o => { o with fwLossFirst := none, fwLossCount := 0 }).fwPut r)
      | none => match s.dev.obs.fwHeld with
        | r :: rs => State.fwDrain fuel ((s.modObs fun o => { o with fwHeld := rs }).fwPut r)
        | [] => s

/-- Take the ring's CONSUMER at ranger core `core` (R328, R584). -/
def State.fwPoll (s : State) (core : Nat) : State :=
  if !s.flag rObsFwlogBase fObsFwlogBaseValid then s
  else
    let o := s.dev.obs
    let v := s.hostNum (s.fwRing + 8) 8
    let (c, bad) := takeConsumer o.fwProducer o.fwConsumer (s.fld rObsFwlogBase fObsFwlogBaseLog2) v
    if bad then
      if o.fwBadConsumer.contains v then s
      else (s.log (islRanger core) (protocolRec 3 12 s.fwRing 11 v)).modObs fun o => { o with fwBadConsumer := o.fwBadConsumer ++ [v] }
    else s.modObs fun o => { o with fwConsumer := c }

/-- Write a record, hold it, or drop it. -/
def State.fwTake (s : State) (r : FwLogRec) : State :=
  if s.fwRoom && s.dev.obs.fwHeld.isEmpty && s.dev.obs.fwLossFirst.isNone then s.fwPut r
  else if s.dev.obs.fwHeld.length < 1024 then s.modObs fun o => { o with fwHeld := o.fwHeld ++ [r] }
  else
    let s := s.addFld rObsFwlogStatus fObsFwlogStatusLost 1
    let s := if s.flag rObsFwlogBase fObsFwlogBaseValid then
        s.hostPut (s.fwRing + 16) 8 (s.fld rObsFwlogStatus fObsFwlogStatusLost)
      else s
    s.modObs fun o => { o with fwLossFirst := some (o.fwLossFirst.getD r.stamp), fwLossCount := o.fwLossCount + 1 }

/-- FWLOG_REGISTER: a write of `v` to OBS_FWLOG_BASE. -/
def execFwlogRegister (v : W64) (s : State) : Host.Outcome State Fault Refusal :=
  if getBits v 0 1 = 0 then .next (s.writeReg rObsFwlogBase v)
  else if s.ringRefused v then
    .next ((s.setFlag rObsFwlogBase fObsFwlogBaseValid false).setFlag rObsFwlogBase fObsFwlogBaseCfgError true)
  else
    let s := (s.writeReg rObsFwlogBase v).setFlag rObsFwlogBase fObsFwlogBaseCfgError false
    let s := s.hostWrite s.fwRing (List.replicate 64 0)
    .next ((s.modObs fun o => { o with fwProducer := 0, fwConsumer := 0, fwBadConsumer := [] }).fwDrain 1026)

/-- Levels of the fixed points: 0 ERROR, 1 WARN, 2 INFO, 3 DEBUG. -/
def fixedLevel (point : Nat) : Option Nat := if point = 0 then none else [2, 1, 1, 2, 3, 2, 0, 1, 2, 2, 3][point - 1]?

/-- FWLOG_WRITE: ranger core `core` writes trace point `point` of tent `tent` with its arguments; a point that is not fixed
has the level its image's table gives. -/
def execFwlogWrite (core point level tent : Nat) (args : List Nat) (s : State) : Host.Outcome State Fault Refusal :=
  if 8 ≤ core ∨ point = 0 ∨ 0x8000 ≤ point ∨ 4 ≤ level then .next s
  else
    .next (s.acting (islRanger core) fun s =>
      let (st, s) := s.originate (islRanger core)
      let lv := (fixedLevel point).getD level
      let s := (s.fwPoll core).fwDrain 1026
      let s := if lv ≤ s.fld rObsFwlogLevel fObsFwlogLevelLevel then
          s.fwTake { stamp := st, epoch := s.ao.epoch, point := point, level := lv, core := core, args := args.take 4 }
        else s
      let hide := s.sealedHidden tent 2 st.tick
      s.traceAt st 0x81 tent point (if hide then 0 else args.getD 0 0) (if hide then 1 else 0))

end Sys2Proof.Machine
end

