-- ==== Sys2Proof/Machine/Control.lean ====
section
/-! DEFINITION. The control window: malformed accesses, writes of registers that have no row of their own, the dump of held
items, and the Ethernet ports (R11, R12, R15, R63, R64, R372, R486, R491, R574 to R577). -/

namespace Sys2Proof.Machine

/-! Accesses (R11, R575, R577). -/

/-- MALFORMED_CONTROL_ACCESS: an access that is not a naturally aligned 64-bit one; a read returns all ones. -/
def execMalformedControlAccess (off size : Nat) (write : Bool) (s : State) : Host.Outcome State Fault Refusal :=
  if off % 8 = 0 ∧ size = 8 then .next s
  else
    let s := s.log islPort (protocolRec 1 12 off 9)
    .next (if write then s else { s with dev := { s.dev with portData := 0xFFFFFFFFFFFFFFFF } })

/-- Instance `i` of the registers of a row exists in the assembly (R7, R575). -/
def Descriptor.hasInstance (d : Descriptor) (base i : Nat) : Bool :=
  if 0x300000 ≤ base ∧ base < 0x318000 then decide (i < d.msds)
  else if 0x380000 ≤ base then decide (i < d.iods)
  else if base = rLanternStatus 0 then decide (i < 4 * d.msds)
  else if base = rTblEngineStatus 0 then decide (i < 2 * d.msds)
  else if base = rKerfStatus 0 then decide (i < d.iods)
  else if base = rMemMigStatus 0 then decide (i < d.msds)
  else if rFabLinkCfg 0 ≤ base ∧ base ≤ rFabLinkErrs 0 then decide (i < d.links)
  else true

/-- A bay's window takes no write: the bay is retired, or the package is in A2 (R575, R577). -/
def State.bayWindowShut (s : State) (base i : Nat) : Bool :=
  decide (0x200000 ≤ base ∧ base < 0x300000) && ((s.bay i).retired || s.fld rPwrState fPwrStateCurrent == 2)

/-- The register at an offset: its row and instance, where it exists and takes writes. -/
def State.writable (s : State) (off : Nat) : Option (RegRow × Nat × Nat) :=
  match findReg off (regBlock off) with
  | none => none
  | some (r, i, j) => if s.dev.desc.hasInstance r.base i ∧ !s.bayWindowShut r.base i then some (r, i, j) else none

/-! Guards on fields that take a write only in some states (R12). -/

/-- A write to a register of tent `t` whose fields are all CONFIG fields (R372). -/
def State.configWrite (s : State) (t off : Nat) (v : W64) : State :=
  if s.tentState t = 1 then s.writeReg off v
  else if s.tentState t = 0 ∨ (s.writeReg off v).rd off ≠ s.rd off then s.tentError t 1
  else s

/-- TENT_BAYS j of tent `t`: CONFIG, or the pending placement in ACTIVE (R387). -/
def State.writeTentBays (s : State) (t j : Nat) (v : W64) : State :=
  if s.tentState t = 2 then
    s.modTent t fun x => { x with hasPending := true, pendingBays := SMap.set (fun j => s.rd (rTentBays t j)) x.pendingBays j v }
  else s.configWrite t (rTentBays t j) v

/-- Half `k` of the Cairn namespace key: CONFIG, and not on a sealed tent (R372, R474). -/
def State.writeCairnKey (s : State) (t k : Nat) (v : W64) : State :=
  let old := (s.tent t).cairnKey.toNat
  let lo := if k = 0 then v.toNat else old % 2 ^ 64
  let hi := if k = 1 then v.toNat else old / 2 ^ 64
  let key : W128 := BitVec.ofNat 128 (lo + 2 ^ 64 * hi)
  if s.tentState t = 1 then
    if s.sealed t then s else s.modTent t fun x => { x with cairnKey := key }
  else if s.tentState t = 0 ∨ key ≠ (s.tent t).cairnKey then s.tentError t 1
  else s

/-- A write to a tent's register other than a CONFIG one: ignored while the tent is FREE. -/
def State.tentOther (s : State) (t off : Nat) (v : W64) : State :=
  if s.tentState t = 0 then s.tentError t 1 else s.writeReg off v

/-- JRNL_CFG: FLASH_SET keeps its value while a FLASH tent is not FREE (R417). -/
def State.writeJrnlCfg (s : State) (v : W64) : State :=
  let busy := (List.range 64).any fun t => s.tentState t != 0 && s.fld (rTentDurability t) fTentDurabilityClass == 2
  let v := if busy then setBits v fJrnlCfgFlashSet.1 fJrnlCfgFlashSet.2 (s.fld rJrnlCfg fJrnlCfgFlashSet) else v
  s.writeReg rJrnlCfg v

/-- FAB_TENT_COLLQ: VALID with LOG2 outside 4 to 12 is refused (R459). -/
def State.writeCollq (s : State) (t : Nat) (v : W64) : State :=
  let r := rFabTentCollq t
  let l := getBits v fFabTentCollqLog2.1 fFabTentCollqLog2.2
  if getBits v fFabTentCollqValid.1 fFabTentCollqValid.2 = 1 ∧ (l < 4 ∨ 12 < l) then
    (s.setFlag r fFabTentCollqValid false).setFlag r fFabTentCollqCfgError true
  else (s.writeReg r v).setFlag r fFabTentCollqCfgError false

/-- A SOURCE code of R516 that an event counter of a block may take, and the number of engines its INSTANCE chooses among. -/
def eventSource (block code : Nat) (d : Descriptor) (i : Nat) : Option Nat :=
  if block = 0 then (if code ≤ 0x0F then some 1 else none)
  else if block = 1 then
    (if code < 0x100 ∨ 0x10C < code then none
     else if 0x101 ≤ code ∧ code ≤ 0x103 then some 2
     else if 0x104 ≤ code ∧ code ≤ 0x106 then some 4
     else if code = 0x107 ∨ code = 0x108 then some 2 else some 1)
  else if code < 0x200 ∨ 0x20F < code then none
  else if 0x20A ≤ code ∧ code ≤ 0x20C then some (min 4 (d.links - 4 * i)) else some 1

/-- EVC_CFG: a SOURCE of another block, or an INSTANCE that names no engine, leaves its field as it was (R515). -/
def State.writeEvcCfg (s : State) (block i off : Nat) (v : W64) : State :=
  let old := s.rd off
  let v := if (eventSource block (getBits v 0 12) s.dev.desc i).isSome then v else setBits v 0 12 (getBits old 0 12)
  let n := (eventSource block (getBits v 0 12) s.dev.desc i).getD 1
  let v := if getBits v 12 4 < n then v else setBits v 12 4 (getBits old 12 4)
  s.writeReg off v

/-- FAB_LINK_CFG: clearing ENABLE takes the link down, setting it lets the link train (R433, R455). -/
def State.writeLinkCfg (s : State) (l : Nat) (v : W64) : State :=
  let was := s.flag (rFabLinkCfg l) fFabLinkCfgEnable
  let t := s.writeReg (rFabLinkCfg l) v
  let on := t.flag (rFabLinkCfg l) fFabLinkCfgEnable
  if was && !on then t.takeDown l 8
  else if !was && on then (if t.flag rFabCfg fFabCfgLinksGo then t.setLinkState l 1 else t.setLinkState l 0)
  else t

/-- MEM_FLASHSET_CFG with VALID = 0: the set goes offline (R261). -/
def State.writeFlashsetCfg (s : State) (k : Nat) (v : W64) : State :=
  let was := s.flag (rMemFlashsetCfg k) fMemFlashsetCfgValid
  let s := s.writeReg (rMemFlashsetCfg k) v
  if was then s.setFld (rMemFlashsetStatus k) fMemFlashsetStatusState 0 else s

/-- Registers every write of which has a row of its own. -/
def rowedBases : List Nat :=
  [rTimeFreezeAt, rTimeResumeAt, rTimeCmp0, rTimeCmp1, rTentHbm 0, rTentMigrateAt 0, rGenBatch 0, rSqCfg 0, rSqTail 0, rCqCfg 0,
    rCqHead 0, rShapeRate 0 0, rShapeBurst 0 0, rGateActivateAt, rAcctTableBase 0, rAcctSnapshotAt, rJrnlMirrorPeer,
    rKerfVocabBase 0, rGuyImageBase 0, rLanternIndexBase 0, rTblDescBase 0, rTblSwitch, rMemPanelTableBase 0, rMemRetire,
    rMemPanelRead, rFabRouteData, rFabCollCfg 0, rRasLogBase, rObsTraceConsumer, rObsCtrSnapshotAt, rObsFwlogBase, rFwCmdqTail,
    rFwEvtqHead, rBayEvcValue 0 0, rMsdEvcValue 0 0, rIodEvcValue 0 0]

/-- A write whose command fields give it a row of its own. -/
def rowedWrite (base : Nat) (v : W64) : Bool :=
  rowedBases.contains base ||
    (base == rTentCtl 0 && decide (1 ≤ getBits v 3 4 ∧ getBits v 3 4 ≤ 6)) ||
    (base == rMemMap && getBits v 46 2 != 3) || base == rMemHint ||
    (base == rSecCmd && decide (getBits v 0 5 < 14)) ||
    (base == rLkCmd && decide (1 ≤ getBits v 0 4 ∧ getBits v 0 4 ≤ 4)) ||
    (base == rMemFlashsetCfg 0 && getBits v 16 1 == 1) ||
    (base == rObsTrigger && getBits v 3 2 != 0) ||
    (base == rRasInjectArm && getBits v 0 1 == 1) ||
    (base == rFabCfg && getBits v 48 1 == 1) ||
    (base == rJrnlRecovery && getBits v 0 1 == 1)

/-- A write of `v` to the register of row base `base`, instance (i, j), at `off`. -/
def State.regWrite (s : State) (base i j off : Nat) (v : W64) : State :=
  if base = rTentBays 0 0 then s.writeTentBays i j v
  else if base = rTentFlash 0 ∨ base = rTentDurability 0 ∨ base = rTentKeyslot 0 ∨ base = rTentSave 0 then s.configWrite i off v
  else if base = rTentModels 0 then (if s.tentState i = 2 then s.writeReg off v else s.configWrite i off v)
  else if base = rTentCairnKey0 0 then s.writeCairnKey i 0 v
  else if base = rTentCairnKey1 0 then s.writeCairnKey i 1 v
  else if base = rTentQuota 0 ∨ base = rTentStatus 0 then s.tentOther i off v
  else if base = rJrnlCfg then s.writeJrnlCfg v
  else if base = rFabDeviceNum then (if s.flag off fFabDeviceNumLocked then s else s.writeReg off v)
  else if base = rGenCfg 0 then s.tentOther i off v
  else if base = rFabTentSpan 0 then (if s.tentState i = 1 then s.writeReg off v else if s.tentState i = 0 then s.tentError i 1 else s)
  else if base = rFabTentCollq 0 then (if s.tentState i = 0 then s.tentError i 1 else s.writeCollq i v)
  else if base = rFabLinkCfg 0 then s.writeLinkCfg i v
  else if base = rMemFlashsetCfg 0 then s.writeFlashsetCfg i v
  else if base = rBayEvcCfg 0 0 then s.writeEvcCfg 0 i off v
  else if base = rMsdEvcCfg 0 0 then s.writeEvcCfg 1 i off v
  else if base = rIodEvcCfg 0 0 then s.writeEvcCfg 2 i off v
  else if base = rObsTraceReserve then
    (if getBits v 0 12 < s.fld rObsTraceSize fObsTraceSizeAreaMib then s.writeReg off v
     else s.writeReg off (setBits v 0 12 (s.fld off fObsTraceReserveReserveMib)))
  else if base = rMemMap then
    (if s.flag rMemOpStatus fMemOpStatusBusy then s.setFlag rMemOpStatus fMemOpStatusOverrun true
     else
      let t := rMemPanelTableBase (getBits v 40 6)
      s.memReport false false (if s.flag t fMemPanelTableBaseRetained then 8 else if s.flag t fMemPanelTableBaseValid then 7 else 6) 0)
  else if base = rSecCmd then
    (if s.flag rSecCmdStatus fSecCmdStatusBusy then s else s.setFld rSecCmdStatus fSecCmdStatusResult 1)
  else if base = rLkCmd then (if s.flag rLkStatus fLkStatusBusy then s else s.setFld rLkStatus fLkStatusResult 1)
  else s.writeReg off v

/-- REGISTER_WRITE: a write of `v` at an offset whose register, with that value, has no row of its own. -/
def execRegisterWrite (off : Nat) (v : W64) (s : State) : Host.Outcome State Fault Refusal :=
  match s.writable off with
  | none => .next s
  | some (r, i, j) => .next (if rowedWrite r.base v then s else s.regWrite r.base i j off v)

/-! The dump of held items (R63, R64). -/

/-- The 64-byte record of a held item. -/
def dumpRecord (st : Stamp) (holder sender kind flags tent len : Nat) (payload : List Byte) (hide : Bool) : List Byte :=
  let n := min len 40
  let f := (if hide then 1 else 0) + flags + (if 40 < len then 4 else 0)
  st.bytes ++ leBytes 2 holder ++ leBytes 2 sender ++ leBytes 1 kind ++ leBytes 1 f ++ leBytes 1 tent ++ leBytes 1 n ++
    (List.range 40).map fun i => if hide ∨ n ≤ i then 0 else payload.getD i 0

/-- Every record of the dump: coupler items, then the transactions that link buffers hold. -/
def State.dumpRecords (s : State) : List (List Byte) :=
  let now := s.copy islPort
  let outside := if s.flag rTimeFreezeStatus fTimeFreezeStatusScopeFabric then 0 else 2
  let n := s.heldLinks.length - s.dev.fab.arrived.length
  (s.heldItems.map fun i => dumpRecord i.stamp i.holder i.sender 0 0 i.tent i.bytes
    (i.payload.flatMap fun w => leBytes 4 w.data.toNat) (s.sealedHidden i.tent 0 now)) ++
  (List.range s.heldLinks.length).map fun k =>
    match s.heldLinks[k]? with
    | none => []
    | some (l, st, t, b) => dumpRecord st (0xF000 + l) (islLink l) 1 (if n ≤ k then outside else 0) t b.length b
        (s.sealedHidden t 0 now)

/-- DUMP_GO: 1 written to TIME_DUMP_CTL.GO. -/
def execDumpGo (s : State) : Host.Outcome State Fault Refusal :=
  let a := (s.rd rTimeDumpBase).toNat
  let n := s.heldCount
  if s.freezeState ≠ 3 then .next s
  else if a % 64 ≠ 0 ∨ !s.inHost a (64 * n) then
    let s := s.log islPort (protocolRec 5 12 a 11 n)
    .next ((s.setFlag rTimeDumpCtl fTimeDumpCtlDone true).setFld rTimeDumpCtl fTimeDumpCtlRecords 0)
  else
    let rs := s.dumpRecords
    .next (((s.hostWrite a rs.flatten).setFlag rTimeDumpCtl fTimeDumpCtlDone true).setFld rTimeDumpCtl fTimeDumpCtlRecords
      rs.length)

/-! Ethernet (R486, R491, R504). -/

/-- Island of an Ethernet port: 400 GbE ports 0 to 3, then the management port. -/
def ethIsland (port : Nat) : Nat := if port < 4 then islEth port else islMgmt
/-- I/O die that counts a port's frames. -/
def ethDie (port : Nat) : Nat := if port < 4 then port else 0
/-- The port exists. -/
def State.hasEth (s : State) (port : Nat) : Bool := decide (port < s.dev.desc.iods) || port == 4

/-- ETHERNET_FRAME_RECEIVE: a frame arrives; `fec` says that FEC corrected symbols of it, `good` that its FCS matches. -/
def execEthernetFrameReceive (port : Nat) (fec good : Bool) (s : State) : Host.Outcome State Fault Refusal :=
  if !s.hasEth port then .next s
  else
    let isl := ethIsland port
    let (inj, s) := s.fire isl 0x0B00
    let good : Bool := good && (match inj with | some m => m % 2 ^ 32 == 0 | none => true)
    let flags := if inj.isSome then 1 else 0
    let s := s.iodEvent (ethDie port) 0x20E 0 0xFF
    .next (if !good then s.log isl { detector := 0x0B00, severity := 1, action := 12, flags := flags }
      else if fec then s.log isl { detector := 0x0B00, severity := 0, action := 1, flags := flags }
      else s)

/-- ETHERNET_FRAME_TRANSMIT: Basecamp sends the `n` bytes at host-region address `a` on 400 GbE port `port`; in FAILSAFE the
port sends idles, and a frame that holds poison goes out with a bad FCS. -/
def execEthernetFrameTransmit (port a n : Nat) (s : State) : Host.Outcome State Fault Refusal :=
  if !s.hasEth port ∨ 4 ≤ port ∨ s.failsafe then .next s
  else
    let s := s.iodEvent (ethDie port) 0x20D 0 0xFF
    .next { s with dev := { s.dev with ethBadFcs := s.dev.ethBadFcs + (if s.dev.mem.host.poisoned a n then 1 else 0) } }

end Sys2Proof.Machine
end

