-- ==== Sys2Proof/Machine/Dma.lean ====
section
/-! DEFINITION. DMA descriptors (R126, R127, R157 to R159, R84, R490): their checks at issue, and what each moves when it
completes. -/

namespace Sys2Proof.Machine

/-! The second word (R126). -/

def dChannel (w2 : W64) : Nat := w2f w2 9 3
def dSpace (w2 : W64) : Nat := w2f w2 12 2
def dSpan (w2 : W64) : Bool := w2f w2 14 1 == 1
def dEntry (w2 : W64) : Nat := w2f w2 15 3
def dElem (w2 : W64) : Nat := 4 <<< w2f w2 18 2
def dShape (w2 : W64) : Nat := w2f w2 20 2
def dSkew (w2 : W64) : Nat := w2f w2 22 8
def dLength (w2 : W64) : Nat := w2f w2 32 23

/-- Pitch and J of a scarf form (R158). -/
def dPitch (c : W64) : Nat := getBits c 0 48
def dJ (c : W64) : Nat := if getBits c 48 16 = 0 then 65536 else getBits c 48 16

/-- Rows of a scarf tile: the row count of SHAPE for DMA.SCARF, the column count for DMA.UNSCARF (R158). -/
def dRows (op : Nat) (w2 : W64) : Nat := if op = 0x93 then shapeRows (dShape w2) else shapeCols (dShape w2)

/-- Bytes that the tiles of a scarf form take (R157). -/
def LongForm.tileSpan (d : LongForm) : Nat :=
  dLength d.w2 * scarfTile (dRows d.op d.w2) (dJ d.c) (dSkew d.w2) (dElem d.w2)

/-- Bytes of a device-range row of a scarf form. -/
def LongForm.rowBytes (d : LongForm) : Nat := dLength d.w2 * dRows d.op d.w2 * dElem d.w2 / 8

/-- Bytes that a descriptor writes or reads locally. -/
def LongForm.localBytes (d : LongForm) : Nat := if d.op = 0x93 ∨ d.op = 0x94 then d.tileSpan else dLength d.w2

/-- The checks of a DMA form at issue (R119, R126, R127): reserved bits, the space, LENGTH, SPAN, whose span is at most
1 MiB of bay store (R84). -/
def dmaOk (d : LongForm) : Bool :=
  let w := d.w2
  let scarf := d.op == 0x93 || d.op == 0x94
  w2f w 30 2 == 0 && w2f w 55 9 == 0 && decide (dSpace w ≤ 2) &&
    (d.op != 0x93 || dSpace w == 0) && ((d.op != 0x91 && d.op != 0x94) || decide (dSpace w ≤ 1)) &&
    (scarf || (decide (4 ≤ dLength w) && decide (dLength w ≤ 4194304) && dLength w % 4 == 0 &&
      (dSpace w != 2 || dLength w % 8 == 0))) &&
    (!dSpan w || ((d.op == 0x90 || d.op == 0x93) && dSpace w == 0 && decide (d.localBytes ≤ 1048576)))

def Bay.chan (b : Bay) (c : Nat) : DmaChan := SMap.get (fun _ => {}) b.dma c
def Bay.setChan (b : Bay) (c : Nat) (x : DmaChan) : Bay := { b with dma := SMap.set (fun _ => {}) b.dma c x }

/-- Issue a DMA form; its issue orders the issuing strands' local writes before it (R93). -/
def State.issueDma (s : State) (bay slot : Nat) (f : Short) (w2 : W64) (op : Nat) (k : OpForm) (uses : List Nat) :
    State :=
  s.issueLong bay slot f w2 op k uses (fun d _ => dmaOk d)
    (fun b => decide (16 ≤ (b.chan (dChannel w2)).queue.length)) (engStrand bay) 1
    fun b d =>
      let x := b.chan (dChannel w2)
      b.setChan (dChannel w2) { x with queue := x.queue ++ [d] }

/-- DMA.LOAD at issue. -/
def execDmaLoad (bay slot : Nat) (f : Short) (w2 : W64) (s : State) : Host.Outcome State Fault Refusal :=
  if !s.fetches bay slot 0x90 f (some w2) then .next s else
  .next (s.issueDma bay slot f w2 0x90 { a := .u, b := .u } [f.srca.toNat, f.srcb.toNat])
/-- DMA.STORE at issue. -/
def execDmaStore (bay slot : Nat) (f : Short) (w2 : W64) (s : State) : Host.Outcome State Fault Refusal :=
  if !s.fetches bay slot 0x91 f (some w2) then .next s else
  .next (s.issueDma bay slot f w2 0x91 { a := .u, b := .u } [f.srca.toNat, f.srcb.toNat])
/-- DMA.COPY at issue. -/
def execDmaCopy (bay slot : Nat) (f : Short) (w2 : W64) (s : State) : Host.Outcome State Fault Refusal :=
  if !s.fetches bay slot 0x92 f (some w2) then .next s else
  .next (s.issueDma bay slot f w2 0x92 { a := .u, b := .u } [f.srca.toNat, f.srcb.toNat])
/-- DMA.SCARF at issue. -/
def execDmaScarf (bay slot : Nat) (f : Short) (w2 : W64) (s : State) : Host.Outcome State Fault Refusal :=
  if !s.fetches bay slot 0x93 f (some w2) then .next s else
  .next (s.issueDma bay slot f w2 0x93 { a := .u, b := .u, c := .u } [f.srca.toNat, f.srcb.toNat, f.srcc.toNat])
/-- DMA.UNSCARF at issue. -/
def execDmaUnscarf (bay slot : Nat) (f : Short) (w2 : W64) (s : State) : Host.Outcome State Fault Refusal :=
  if !s.fetches bay slot 0x94 f (some w2) then .next s else
  .next (s.issueDma bay slot f w2 0x94 { a := .u, b := .u, c := .u } [f.srca.toNat, f.srcb.toNat, f.srcc.toNat])
/-- DMA.FILL at issue. -/
def execDmaFill (bay slot : Nat) (f : Short) (w2 : W64) (s : State) : Host.Outcome State Fault Refusal :=
  if !s.fetches bay slot 0x95 f (some w2) then .next s else
  .next (s.issueDma bay slot f w2 0x95 { a := .u, c := .u } [f.srca.toNat, f.srcc.toNat])

/-! Local spaces word by word. -/

/-- Size of a local space in bytes. -/
def spaceSize (sp : Nat) : Nat := if sp = 0 then bayStoreSize else if sp = 1 then accStoreSize else 8 * 32768

/-- Write one 32-bit word with its poison to a local space; an instruction word holding a poisoned half reads as
uncorrectable. -/
def Bay.putWord (b : Bay) (sp a : Nat) (w : PWord) : Bay :=
  let bs := leBytes 4 w.data.toNat
  if sp = 2 then
    { b with
      istore := (List.range 4).foldl (fun m i =>
        SMap.mod (fun _ => 0) m ((a + i) / 8) fun x => setBits x (8 * ((a + i) % 8)) 8 (bs.getD i 0).toNat) b.istore
      istoreBad := if w.poison then SMap.set (fun _ => false) b.istoreBad (a / 8) true
        else if a % 8 = 0 then SMap.set (fun _ => false) b.istoreBad (a / 8) false else b.istoreBad }
  else b.setMem (sp == 1) ((b.mem (sp == 1)).write a bs w.poison)

/-- Write consecutive words. -/
def Bay.putWords (b : Bay) (sp a : Nat) (ws : List PWord) : Bay :=
  ((List.range ws.length).foldl (fun b i => b.putWord sp (a + 4 * i) (ws.getD i {})) b)

/-- Read `n` words of the bay store or accumulator store with their check; the flag says that a word was found
uncorrectable, and the words stop there (R489, R490). -/
def State.dmaReadLocal (s : State) (bay : Nat) (acc : Bool) : Nat → Nat → List PWord × Bool × State
  | _, 0 => ([], false, s)
  | a, n + 1 =>
    let was := ((s.bay bay).mem acc).poisoned a 4
    let (x, bad, s) := s.localRead bay acc a 4
    if bad && !was then ([], true, s)
    else
      let (ws, f, s) := State.dmaReadLocal s bay acc (a + 4) n
      (⟨BitVec.ofNat 32 x, bad⟩ :: ws, f, s)

/-- Read `n` words of a tent's device range, as `dmaReadLocal` does. -/
def State.dmaReadDev (s : State) (t : Nat) : Nat → Nat → List PWord × Bool × State
  | _, 0 => ([], false, s)
  | a, n + 1 =>
    let was := (s.devPeek t a 4).2
    let (bs, bad, s) := s.devRead t a 4
    if bad && !was then ([], true, s)
    else
      let (ws, f, s) := State.dmaReadDev s t (a + 4) n
      (⟨BitVec.ofNat 32 (leNat bs), bad⟩ :: ws, f, s)

/-- Write consecutive words to a tent's device range. -/
def State.dmaWriteDev (s : State) (t a : Nat) (ws : List PWord) : State :=
  (List.range ws.length).foldl (fun s i =>
    let w := ws.getD i {}
    s.devWrite t (a + 4 * i) (leBytes 4 w.data.toNat) w.poison) s

/-! Scarf transforms (R157 to R159). -/

/-- `n` bits of a number's byte list, and poison, as an element. -/
def elemAt (byte : Nat → Byte) (bad : Nat → Bool) (bit e : Nat) : PWord :=
  let a := bit / 8
  let n := (bit + e - 1) / 8 - a + 1
  ⟨BitVec.ofNat 32 (leNat ((List.range n).map fun i => byte (a + i)) / 2 ^ (bit % 8) % 2 ^ e),
    (List.range n).any fun i => bad (a + i)⟩

/-- The words of the tiles that DMA.SCARF writes, from the elements `elem t i j`. -/
def scarfWords (d : LongForm) (elem : Nat → Nat → Nat → PWord) : List PWord :=
  let rt := dRows d.op d.w2
  let j := dJ d.c
  let k := dSkew d.w2
  let e := dElem d.w2
  let row := scarfStride rt j k e
  let tile := scarfTile rt j k e
  (List.range (d.tileSpan / 4)).map fun w =>
    let t := 4 * w / tile
    let i := 4 * w % tile / row
    let p0 := 8 * (4 * w % tile % row) / e
    (List.range (32 / e)).foldl (fun (acc : PWord) x =>
      let p := p0 + x
      if i * k ≤ p ∧ p < i * k + j then
        let v := elem t i (p - i * k)
        ⟨acc.data + BitVec.ofNat 32 (v.data.toNat * 2 ^ (e * x)), acc.poison || v.poison⟩
      else acc) {}

/-- The words of device-range row `j` that DMA.UNSCARF writes. -/
def unscarfRow (d : LongForm) (m : Store) (j : Nat) : List PWord :=
  let rt := dRows d.op d.w2
  let e := dElem d.w2
  (List.range (d.rowBytes / 4)).map fun w =>
    (List.range (32 / e)).foldl (fun (acc : PWord) x =>
      let q := w * (32 / e) + x
      let v := elemAt m.byte (fun a => m.bad (a / 4))
        (scarfBit rt (dJ d.c) (dSkew d.w2) e d.a.toNat (q / rt) (q % rt) j) e
      ⟨acc.data + BitVec.ofNat 32 (v.data.toNat * 2 ^ (e * x)), acc.poison || v.poison⟩) {}

/-! Running a descriptor. -/

/-- What came of running a descriptor. -/
inductive DmaEnd where
  /-- Moved whole. -/
  | done
  /-- A device-range panel is on its way: the descriptor waits. -/
  | wait
  /-- A fault of R490, by its cause. -/
  | fault (cause : Nat)
  deriving DecidableEq, Repr

/-- Device-range spans that a descriptor touches: address and length. -/
def LongForm.devSpans (d : LongForm) : List (Nat × Nat) :=
  if d.op = 0x90 ∨ d.op = 0x91 then [(d.b.toNat, dLength d.w2)]
  else if d.op = 0x93 ∨ d.op = 0x94 then
    (List.range (dJ d.c)).map fun j => (d.b.toNat + j * dPitch d.c, d.rowBytes)
  else []

/-- How the device range serves the spans of a descriptor; the worst decides. -/
def State.dmaServed (s : State) (t : Nat) (d : LongForm) : Served :=
  let vs := d.devSpans.map fun e => s.servedSpan t e.1 e.2
  if vs.contains .invalid then .invalid else if vs.contains .retired then .retired
  else if vs.contains .wait then .wait else .hbm

/-- Ask for every panel that a descriptor waits on (R266). -/
def State.dmaRequest (s : State) (bay t : Nat) (d : LongForm) : State :=
  let (st, s) := s.originate (s.bayIsland bay)
  d.devSpans.foldl (fun s e =>
    (List.range ((e.1 + e.2 - 1) / 65536 - e.1 / 65536 + 1)).foldl
      (fun s i => s.requestInbound t (e.1 / 65536 + i) st true) s) s

/-- A descriptor's local ranges lie in their stores (R490). -/
def LongForm.localOk (d : LongForm) : Bool :=
  decide (d.a.toNat + d.localBytes ≤ spaceSize (dSpace d.w2)) &&
    (d.op != 0x92 || decide (d.b.toNat + dLength d.w2 ≤ bayStoreSize))

/-- Words moved before an uncorrectable one: how many of them had been written is open (log entry 12). -/
def State.dmaPart (s : State) (f : Bool) (ws : List PWord) : List PWord :=
  if f then ws.take (Config.freeValue s.free % (ws.length + 1)) else ws

/-- Move what a descriptor moves; the flag says that it met an uncorrectable word. -/
def State.dmaMove (s : State) (bay t : Nat) (d : LongForm) : Bool × State :=
  let sp := dSpace d.w2
  let a := d.a.toNat
  let n := dLength d.w2 / 4
  if d.op = 0x90 then
    let (ws, f, s) := s.dmaReadDev t d.b.toNat n
    (f, s.modBay bay fun b => b.putWords sp a (s.dmaPart f ws))
  else if d.op = 0x91 then
    let (ws, f, s) := s.dmaReadLocal bay (sp == 1) a n
    (f, s.dmaWriteDev t d.b.toNat (s.dmaPart f ws))
  else if d.op = 0x92 then
    let (ws, f, s) := s.dmaReadLocal bay false d.b.toNat n
    (f, s.modBay bay fun b => b.putWords sp a (s.dmaPart f ws))
  else if d.op = 0x95 then
    let w (i : Nat) : PWord := ⟨BitVec.ofNat 32 (d.c.toNat / 2 ^ (32 * (i % 2))), false⟩
    (false, s.modBay bay fun b => b.putWords sp a ((List.range n).map w))
  else if d.op = 0x93 then
    -- every source word is read with its check, then the tiles are formed
    let r := d.devSpans.foldl (fun (r : Bool × State) e =>
      if r.1 then r
      else
        let x := r.2.dmaReadDev t e.1 ((e.2 + 3) / 4)
        (x.2.1, x.2.2)) (false, s)
    let s := r.2
    let elem (tt i j : Nat) : PWord :=
      let row := d.b.toNat + j * dPitch d.c
      elemAt (fun x => ((s.devPeek t x 1).1).headD 0) (fun x => (s.devPeek t x 1).2)
        (8 * row + (tt * dRows d.op d.w2 + i) * dElem d.w2) (dElem d.w2)
    (r.1, s.modBay bay fun b => b.putWords 0 a (s.dmaPart r.1 (scarfWords d elem)))
  else
    let (_, f, s) := s.dmaReadLocal bay (sp == 1) a ((d.tileSpan + 3) / 4)
    let m := (s.bay bay).mem (sp == 1)
    (f, (List.range (dJ d.c)).foldl (fun s j =>
      s.dmaWriteDev t (d.b.toNat + j * dPitch d.c) (s.dmaPart f (unscarfRow d m j))) s)

/-- Run the front descriptor of a channel. -/
def State.dmaRun (s : State) (bay : Nat) (d : LongForm) : DmaEnd × State :=
  let t := s.bayTent bay
  if !d.localOk then (.fault 4, s)
  else match s.dmaServed t d with
    | .invalid => (.fault 2, s)
    | .retired => (.fault 3, s)
    | .wait => (.wait, s.dmaRequest bay t d)
    | .hbm =>
      let (f, s) := s.dmaMove bay t d
      (if f then .fault 1 else .done, { s with free := s.free + 1 })

/-- Bytes that a descriptor moves. -/
def LongForm.moved (d : LongForm) : Nat := d.localBytes

/-- Install the destination as a staged span, in place of whatever the entry held (R84). -/
def Bay.installSpan (b : Bay) (d : LongForm) : Bay :=
  if dSpan d.w2 then
    let b := b.clearSpan (dEntry d.w2)
    let sp : Span := { dev := d.b.toNat, len := d.localBytes, base := d.a.toNat, slot := w2slot d.w2
                       done := (w2slot d.w2).isSome }
    { b with spans := SMap.set (fun _ => none) b.spans (dEntry d.w2) (some sp) }
  else b

/-- The front descriptor of a channel that runs: not halted, frozen or gated. -/
def State.dmaFront (s : State) (bay ch : Nat) : Option LongForm :=
  let b := s.bay bay
  if s.blocked (s.bayIsland bay) ∨ b.gated = true ∨ (b.chan ch).halted = true then none else (b.chan ch).queue.head?

/-- Drop the front descriptor, which had started. -/
def DmaChan.pop (x : DmaChan) : DmaChan := { x with queue := x.queue.drop 1, started := (x.started + 1) % 65536 }

/-- DMA_DESCRIPTOR_COMPLETE (R84, R87, R93, R127): the front descriptor of the channel is performed and signals. -/
def execDmaDescriptorComplete (bay ch : Nat) (s : State) : Host.Outcome State Fault Refusal :=
  match s.dmaFront bay ch with
  | none => .next s
  | some d =>
    let (e, s') := s.dmaRun bay d
    match e with
    | .fault _ => .next s
    | .wait => .next (s'.stallFor (engDma bay) 2)
    | .done =>
      let n := (d.moved + 63) / 64
      let s := s'.modBay bay fun b => ((b.setChan ch (b.chan ch).pop).installSpan d).signalOpt (w2slot d.w2)
      .next ((s.bayEvent bay 0x009 n).busy (engDma bay) n)

/-- Discard the crews of a request's leg on a bay (R490). -/
def Bay.discardRequest (b : Bay) (req : Nat) : Bay :=
  if req = 0 then b
  else b.resident.foldl (fun b e => if e.2.request = req then b.setCrew e.1 none else b) b

/-- DMA_FAULT (R127, R490): the front descriptor faults; its channel halts unsignalled, and firmware ends the request
whose leg issued it, discards that leg's crews on the bay and flushes the channel. -/
def execDmaFault (bay ch : Nat) (s : State) : Host.Outcome State Fault Refusal :=
  match s.dmaFront bay ch with
  | none => .next s
  | some d =>
    let (e, s') := s.dmaRun bay d
    match e with
    | .done => .next s
    | .wait => .next s
    | .fault cause =>
      let s := s'.modBay bay fun b =>
        let x := b.chan ch
        let b := b.setChan ch { x with halted := true }
        { b with dmaLast := ch, dmaIndex := x.started, dmaCause := cause }
      if d.request = 0 then .next s
      else
        let (st, s) := s.originate (s.bayIsland bay)
        let s := s.endRequest d.request (if cause = 1 ∨ cause = 3 then 0x40 else 0x41) st
        .next (s.modBay bay fun b =>
          (b.discardRequest d.request).setChan ch { (b.chan ch).pop with queue := [], halted := false })

/-- DMA_RESUME (R490): BAY_DMA_FAULT.CMD RESUME drops the halted descriptor and the channel goes on. -/
def execDmaResume (bay ch : Nat) (s : State) : Host.Outcome State Fault Refusal :=
  .next (s.modBay bay fun b =>
    let x := b.chan ch
    if x.halted then b.setChan ch { x.pop with halted := false } else b)

/-- DMA_FLUSH (R490): BAY_DMA_FAULT.CMD FLUSH drops every queued descriptor of the channel; none signals. -/
def execDmaFlush (bay ch : Nat) (s : State) : Host.Outcome State Fault Refusal :=
  .next (s.modBay bay fun b =>
    let x := b.chan ch
    b.setChan ch { x with queue := [], halted := false, started := if x.halted then (x.started + 1) % 65536 else x.started })

end Sys2Proof.Machine
end

