-- ==== Sys2Proof/Machine/Events.lean ====
section
/-! DEFINITION. Events, fences, park and yield, opcodes 0x60 to 0x67 (R85, R86, R90 to R92, R114, R115). -/

namespace Sys2Proof.Machine

/-- Form of an event instruction: `ua` gives the value when FUNC[8] is 1, FUNC[27:9] when it is 0 (R114). -/
def eventForm (f : Short) : OpForm :=
  if fbit f 8 then { a := .u, func := 0x1FF } else { func := 0xFFFFFFF }

/-- Slot and value of an event instruction. -/
def eventSlot (f : Short) : Nat := fn f % 256
def eventValue (f : Short) (c : Crew) : PWord :=
  if fbit f 8 then
    let a := c.readU f.srca.toNat
    ⟨a.val.truncate 32, a.poison⟩
  else ⟨BitVec.ofNat 32 (fn f / 512), false⟩

/-- EV_SIGNAL (R85, R114): add to the slot; waiters are re-evaluated. -/
def execEvSignal (bay slot : Nat) (f : Short) (s : State) : Host.Outcome State Fault Refusal :=
  if !s.fetches bay slot 0x60 f none then .next s else
  .next (s.issue bay slot f (eventForm f) fun c _ s =>
    let v := eventValue f c
    (s.setCrew bay slot (c.advance {})).modBay bay fun b =>
      let x := SMap.get (fun _ => {}) b.events (eventSlot f)
      b.setEvent (eventSlot f) ⟨x.data + v.data, x.poison || v.poison⟩)

/-- EV_SET (R85, R114): write the slot; waiters are re-evaluated. -/
def execEvSet (bay slot : Nat) (f : Short) (s : State) : Host.Outcome State Fault Refusal :=
  if !s.fetches bay slot 0x61 f none then .next s else
  .next (s.issue bay slot f (eventForm f) fun c _ s =>
    (s.setCrew bay slot (c.advance {})).modBay bay fun b => b.setEvent (eventSlot f) (eventValue f c))

/-- EV_WAIT (R85, R86): satisfied at once, or the crew parks on the slot.  The slot is evaluated as the wait is taken, so
an update of the same clock counts. -/
def execEvWait (bay slot : Nat) (f : Short) (s : State) : Host.Outcome State Fault Refusal :=
  if !s.fetches bay slot 0x62 f none then .next s else
  .next (s.issue bay slot f (eventForm f) fun c _ s =>
    let c' := { c.advance {} with park := .event (eventSlot f) (eventValue f c).data }
    let s := (s.setCrew bay slot c').modBay bay (·.wakeSlot (eventSlot f))
    match s.crew bay slot with
    | some d => if d.park = .running then s else s.bayEvent bay 0x004
    | none => s)

/-- FENCE_LOCAL (R84, R90): earlier local accesses are performed before later ones issue; here each is performed as it
issues.  Spans whose event has been signalled may be read from now on. -/
def execFenceLocal (bay slot : Nat) (f : Short) (s : State) : Host.Outcome State Fault Refusal :=
  if !s.fetches bay slot 0x63 f none then .next s else
  .next (s.issue bay slot f {} fun c _ s =>
    let seen := (List.range 8).filter fun k =>
      match SMap.get (fun _ => none) (s.bay bay).spans k with
      | some sp => sp.done
      | none => false
    s.setCrew bay slot { c.advance {} with spansSeen := c.spansSeen ++ seen })

/-- FENCE_DEVICE (R91): the crew parks while the fence is outstanding. -/
def execFenceDevice (bay slot : Nat) (f : Short) (s : State) : Host.Outcome State Fault Refusal :=
  if !s.fetches bay slot 0x64 f none then .next s else
  .next (s.issue bay slot f {} fun c _ s =>
    if s.deviceBusy bay slot c then
      let op : LongOp := { id := c.nextOp, pc := c.pc, fence := true }
      s.setCrew bay slot { c.advance {} with park := .drain, ops := c.ops ++ [op], nextOp := c.nextOp + 1 }
    else s.setCrew bay slot (c.advance {}))

/-- FENCE_STAMP (R92): `ud` takes a tick above every earlier effect's; the crew issues nothing more before its bay's
copy has reached it. -/
def execFenceStamp (bay slot : Nat) (f : Short) (s : State) : Host.Outcome State Fault Refusal :=
  if !s.fetches bay slot 0x65 f none then .next s else
  .next (s.issue bay slot f { dst := .u } fun c _ s =>
    let t := max (s.stampTick (s.bayIsland bay)) c.lastEffect + 1
    s.setCrew bay slot { (c.writeU f.dst.toNat ⟨BitVec.ofNat 64 t, false⟩).advance {} with
      notBefore := max c.notBefore t })

/-- PARK (R115): until every outstanding long-latency operation has landed or been performed. -/
def execPark (bay slot : Nat) (f : Short) (s : State) : Host.Outcome State Fault Refusal :=
  if !s.fetches bay slot 0x66 f none then .next s else
  .next (s.issue bay slot f {} fun c _ s =>
    if c.ops = [] then s.setCrew bay slot (c.advance {})
    else (s.setCrew bay slot { c.advance {} with park := .drain }).bayEvent bay 0x004)

/-- YIELD (R76): not ready for the next 4 clocks of the bay, 1 GHz and so 4 ticks. -/
def execYield (bay slot : Nat) (f : Short) (s : State) : Host.Outcome State Fault Refusal :=
  if !s.fetches bay slot 0x67 f none then .next s else
  .next (s.issue bay slot f {} fun c _ s =>
    s.setCrew bay slot { c.advance {} with notBefore := s.copy (s.bayIsland bay) + 5 })

end Sys2Proof.Machine
end

