-- ==== Sys2Proof/Machine/Firmware.lean ====
section
/-! DEFINITION. Loading Yedal, the firmware queues, the commands of R536 and the handling of traps (R533 to R537). -/

namespace Sys2Proof.Machine

/-! Loading (R533). -/

/-- The load stops, or the image is refused, with a REASON. -/
def State.fwRefused (s : State) (reason : Nat) : State :=
  (s.setFld rFwStatus fFwStatusState 4).setFld rFwStatus fFwStatusReason reason

/-- FW_LOAD: a write of GO to FW_LOAD_GO; the image is copied into the firmware area. -/
def execFwLoad (v : W64) (s : State) : Host.Outcome State Fault Refusal :=
  let st := s.fld rFwStatus fFwStatusState
  let a := s.fld rFwLoadBase fFwLoadBaseAddr * 4096
  let n := 4096 + s.hostNum (a + 8) 8
  .next (if getBits v 0 1 = 0 then s
    else if st ≠ 0 ∧ st ≠ 4 then s.log islPort (protocolRec 4 12 rFwLoadGo 9 v.toNat)
    else if !s.inHost a 4096 then s.fwRefused 8
    else if 2 ^ 26 < n then s.fwRefused 7
    else if !s.inHost a n then s.fwRefused 8
    else ((s.setFld rFwStatus fFwStatusState 2).setFld rFwStatus fFwStatusReason 0).modFw fun f =>
      { f with image := s.hostRead a n })

/-- FW_VERIFY: the ranger boot ROM checks the copy; every ranger starts an accepted image. -/
def execFwVerify (s : State) : Host.Outcome State Fault Refusal :=
  if s.fld rFwStatus fFwStatusState ≠ 2 then .next s
  else
    let b := s.dev.fw.image
    let (r, s) := s.verifyImage (islRanger 0) 0x0F02 4 b
    .next (if r ≠ 0 then s.fwRefused r
      else
        let s := (s.setFld rFwStatus fFwStatusState 3).setFld rFwStatus fFwStatusRangersUp 0xFF
        let s := s.setFld rFwStatus fFwStatusSvn (imageSvn b)
        s.setFld (rSecFloor 4) fSecFloorRunningSvn (imageSvn b))

/-! Queues (R534). -/

/-- A doorbell write to a firmware queue (R305, R534). -/
def State.fwDoorbell (s : State) (off base : Nat) (v : W64) : State :=
  if s.fwqSize base ≤ getBits v 0 16 then s.log islPort (protocolRec 2 12 off 9 v.toNat) else s.writeReg off v

/-- FW_CMDQ_DOORBELL: a write of `v` to FW_CMDQ_TAIL. -/
def execFwCmdqDoorbell (v : W64) (s : State) : Host.Outcome State Fault Refusal :=
  .next (s.fwDoorbell rFwCmdqTail rFwCmdqBase v)

/-- FW_EVTQ_DOORBELL: a write of `v` to FW_EVTQ_HEAD; events that waited take the freed slots. -/
def execFwEvtqDoorbell (v : W64) (s : State) : Host.Outcome State Fault Refusal :=
  let s := s.fwDoorbell rFwEvtqHead rFwEvtqBase v
  .next (s.drainEvents s.dev.fw.waiting.length)

/-! Commands (R535, R536). -/

def cmdOp (e : List Byte) : Nat := field e 0 2
def cmdTag (e : List Byte) : Nat := field e 4 4
def cmdTent (e : List Byte) : Nat := field e 8 1
def cmdArg (e : List Byte) (k : Nat) : Nat := field e (0x10 + 8 * k) 8

/-- The entry at HEAD of the command queue. -/
def State.fwEntry (s : State) : Option (List Byte) :=
  let n := s.fwqSize rFwCmdqBase
  let h := s.fld rFwCmdqHead fFwCmdqHeadHead
  if n = 0 ∨ h % n = s.fld rFwCmdqTail fFwCmdqTailTail % n then none
  else some (s.hostRead (s.fld rFwCmdqBase fFwCmdqBaseAddr * 64 + 64 * (h % n)) 64)

/-- Firmware has taken the entry at HEAD. -/
def State.fwTaken (s : State) : State :=
  s.setFld rFwCmdqHead fFwCmdqHeadHead ((s.fld rFwCmdqHead fFwCmdqHeadHead + 1) % s.fwqSize rFwCmdqBase)

/-- Respond to an entry from ranger core 0, or its sibling. -/
def State.respond (s : State) (e : List Byte) (status : Nat) (arg : Nat := 0) : State :=
  s.postEvent (s.rangerOf 0) 1 status (cmdTag e) [arg]

/-- The crew of a LAUNCH command is queued, resident or saved. -/
def State.cmdAlive (s : State) (c : FwCmd) : Bool :=
  (s.dev.bays.any fun e => e.2.launchq.any (·.cmd == c.id) || e.2.resident.any fun x => x.2.cmd == c.id) ||
    s.dev.saved.any (·.crew.cmd == c.id)

/-- A LAUNCH command whose crew was discarded: a kernel that a cut took is launched again on the tent's lowest bay with room
(R389), and otherwise the command responds with STATE. -/
def State.relaunch (s : State) (c : FwCmd) : State :=
  if s.tentState c.tent ≠ 2 ∨ s.tentStopped c.tent then s.endLaunch c.id 3 0
  else match (s.tentBays c.tent).find? fun n => decide ((s.bay n).launchq.length < 16) with
    | none => s
    | some n =>
      (s.modBay n fun b => { b with launchq := b.launchq ++ [c.desc] }).modFw fun f =>
        { f with progress := f.progress.map fun x => if x.id = c.id then { x with bay := n } else x }

def State.fwReap (s : State) : State :=
  (s.dev.fw.progress.filter fun c => !s.cmdAlive c).foldl (fun s c => s.relaunch c) s

/-- Carry out the entry at HEAD if it is command `op`: `f` answers whether firmware could take it, and the state after.  An
OP that no command has is refused here, in its place in the queue. -/
def State.fwCommand (s : State) (op : Nat) (f : List Byte → State → Bool × State) : State :=
  if !s.fwRuns ∨ s.blocked (islRanger (s.rangerOf 0)) then s
  else
    let s := s.fwReap
    match s.fwEntry with
    | none => s
    | some e =>
      if cmdOp e < 1 ∨ 7 < cmdOp e then s.fwTaken.respond e 1
      else if cmdOp e ≠ op then s
      else
        let (taken, s) := f e s
        if taken then s.fwTaken else s

/-- FW_PING. -/
def execFwPing (s : State) : Host.Outcome State Fault Refusal :=
  .next (s.fwCommand 1 fun e s => (true, s.respond e 0 (s.fld rFwStatus fFwStatusSvn)))

/-- Write at most ARG1 bytes to the buffer at ARG0. -/
def State.fwWrite (s : State) (e b : List Byte) : State :=
  if !s.inHost (cmdArg e 0) (cmdArg e 1) then s.respond e 2
  else
    let c := b.take (cmdArg e 1)
    (s.hostWrite (cmdArg e 0) c).respond e 0 c.length

/-- FW_GET_INFO. -/
def execFwGetInfo (s : State) : Host.Outcome State Fault Refusal :=
  .next (s.fwCommand 2 fun e s => (true, s.fwWrite e (Config.pointTable s.dev.fw.image)))

/-- The refusal of a command on a bay of TENT: 2 RANGE, 3 STATE, 0 for none. -/
def State.bayRefusal (s : State) (e : List Byte) : Nat :=
  if 64 ≤ cmdTent e ∨ 256 ≤ cmdArg e 0 ∨ !s.hasBay (cmdTent e) (cmdArg e 0) then 2
  else if s.tentState (cmdTent e) ≠ 2 then 3
  else 0

/-- FW_LAUNCH: one crew at the lowest rank, for no request. -/
def execFwLaunch (s : State) : Host.Outcome State Fault Refusal :=
  .next (s.fwCommand 3 fun e s =>
    let t := cmdTent e
    let bay := cmdArg e 0
    let r := s.bayRefusal e
    if r ≠ 0 then (true, s.respond e r)
    else if s.sealed t then (true, s.respond e 4)
    else if 64 ≤ s.dev.fw.progress.length ∨ 16 ≤ (s.bay bay).launchq.length then (false, s)
    else match s.servedSpan t (cmdArg e 1) 136 with
      | .wait =>
        let (st, s) := s.originate (islRanger (s.rangerOf (bay / 64)))
        (false, s.requestInbound t (s.firstWait t (cmdArg e 1) 136 / 65536) st true)
      | .hbm =>
        let (b, bad, s) := s.devRead t (cmdArg e 1) 136
        match if bad ∨ cmdArg e 1 % 8 ≠ 0 then none else readLaunch (({} : Store).write 0 b) 0 0 0 with
        | none => (true, s.respond e 2)
        | some d =>
          let id := s.dev.fw.launches + 1
          let d := { d with cmd := id }
          let c : FwCmd := { id := id, tag := cmdTag e, tent := t, bay := bay, desc := d }
          (true, (s.modBay bay fun b => { b with launchq := b.launchq ++ [d] }).modFw fun f =>
            { f with progress := f.progress ++ [c], launches := id })
      | _ => (true, s.respond e 2))

/-- FW_RETIRE_BAY. -/
def execFwRetireBay (s : State) : Host.Outcome State Fault Refusal :=
  .next (s.fwCommand 4 fun e s =>
    let r := s.bayRefusal e
    (true, if r ≠ 0 then s.respond e r else (s.retireBay (cmdArg e 0)).respond e 0))

/-- FW_GET_REMAP. -/
def execFwGetRemap (s : State) : Host.Outcome State Fault Refusal :=
  .next (s.fwCommand 7 fun e s => (true, s.fwWrite e (Config.remapList s.nv.remaps s.nv.retiredBays)))

/-! Crews held at breakpoints (R537). -/

/-- A crew that goes on after its BRK. -/
def Crew.afterBreak (c : Crew) : Crew := { (c.goto (c.pc + 1)) with trapped := false, held := none }

/-- The crew held at a slot of a bay: its context's token, 0 for a crew that still stands in its slot. -/
def State.heldCrew (s : State) (bay slot : Nat) : Option (Nat × Crew) :=
  match s.dev.saved.find? fun x => x.bay == bay && x.crew.held == some slot with
  | some x => some (x.token, x.crew)
  | none => match s.crew bay slot with
    | some c => if c.held = some slot then some (0, c) else none
    | none => none

/-- CREW_RESUME: the crew returns to its slot, or to the lowest free one, once the register file has room. -/
def execCrewResume (s : State) : Host.Outcome State Fault Refusal :=
  .next (s.fwCommand 5 fun e s =>
    let bay := cmdArg e 0
    let r := s.bayRefusal e
    if r ≠ 0 then (true, s.respond e r)
    else match s.heldCrew bay (cmdArg e 1) with
      | none => (true, s.respond e 3)
      | some (0, c) => (true, (s.setCrew bay (cmdArg e 1) c.afterBreak).respond e 0)
      | some (k, c) =>
        let b := s.bay bay
        match (cmdArg e 1 :: List.range 256).find? fun n => decide (n < 256) && (b.crew n).isNone with
        | none => (false, s)
        | some n =>
          if 1024 < b.regsUsed + footprint c.count ∨ b.resetDue then (false, s)
          else
            let s := (s.setCrew bay n c.afterBreak).renameHeld bay k n
            let s : State := { s with dev := { s.dev with saved := s.dev.saved.filter (·.token != k) } }
            (true, (s.trace (s.bayIsland bay) 0x32 (b.tent.getD 0xFF) (bay + 256 * n) c.afterBreak.pc).respond e 0))

/-- Discard the crews of a bay that `p` picks: replies on their way find none of them. -/
def State.dropCrews (s : State) (bay : Nat) (p : Crew → Bool) : State :=
  let s := ((s.bay bay).resident.filter (p ·.2)).foldl (fun s e =>
    let k := s.dev.nextToken
    let s := (s.modBay bay (·.setCrew e.1 none)).renameHeld bay e.1 k
    { s with dev := { s.dev with nextToken := k + 1 } }) s
  let q : LaunchDesc → Crew := fun d => { request := d.request, cmd := d.cmd }
  let s := s.modBay bay fun b => { b with launchq := b.launchq.filter fun d => !p (q d) }
  { s with dev := { s.dev with saved := s.dev.saved.filter fun x => x.bay != bay || !p x.crew } }

/-- CREW_DISCARD: the request of a held crew ends DEVICE_FAULT. -/
def execCrewDiscard (s : State) : Host.Outcome State Fault Refusal :=
  .next (s.fwCommand 6 fun e s =>
    let bay := cmdArg e 0
    let r := s.bayRefusal e
    if r ≠ 0 then (true, s.respond e r)
    else match s.heldCrew bay (cmdArg e 1) with
      | none => (true, s.respond e 3)
      | some (_, c) =>
        let s := s.dropCrews bay fun x => x.held == some (cmdArg e 1)
        let s := (s.endAt c.request 0x41 (islRanger (s.rangerOf (bay / 64)))).endLaunch c.cmd 6 trapBreakpoint
        (true, s.respond e 0))

/-! Trap handling (R537). -/

/-- The status that R131 gives a trap's request; `dataErr` is firmware's choice for SOFTWARE. -/
def trapStatus (r : TrapRec) (dataErr : Bool) : Nat :=
  if r.cause = trapSoftware then (if dataErr then 0x40 else 0x41)
  else if r.cause = 0x09 ∨ r.cause = 0x0C ∨ r.cause = 0x0D ∨ (r.cause = 0x0E ∧ r.detail.toNat = 5) then 0x40
  else 0x41

/-- The step loop whose open step serves a request. -/
def State.loopOf (s : State) (n : Nat) : Option (Nat × GenLoop) :=
  s.dev.text.loops.find? fun e => match e.2.step with
    | some p => p.seqs.any (·.seq == n)
    | none => false

/-- Sequences of an open step without a step commit. -/
def GenStep.uncommitted (p : GenStep) : List Nat := (p.seqs.filter (!·.committed)).map (·.seq)

/-- A crew of a generation step trapped: the step runs once more from its boundary, and a second trap ends the sequences
that have no commit. -/
def State.stepTrap (s : State) (k : Nat) (l : GenLoop) (status : Nat) (st : Stamp) : State :=
  let ns := match l.step with | some p => p.uncommitted | none => []
  if l.reran then ns.foldl (fun s n => s.endRequest n status st) s
  else
    let s := s.setLoop (k / 256) (k % 256) { l with step := none, reran := true }
    ns.foldl (fun s n => s.modReq n fun q => { q with gen := { q.gen with drafts := [], masks := [] } }) s

/-- A trap that ends a request, or a LAUNCH command. -/
def State.trapEnds (s : State) (r : TrapRec) (c : Crew) (status : Nat) : State :=
  if c.cmd ≠ 0 then (s.dropCrews r.bay fun x => x.cmd == c.cmd).endLaunch c.cmd 6 r.cause
  else if c.request = 0 then s.dropCrews r.bay fun x => x.trapped && x.request == 0 && x.launchNo == c.launchNo
  else
    let s := if s.genCrew c then (match s.loopOf c.request with
        | some (k, l) => s.stepTrap k l status r.stamp
        | none => s.endRequest c.request status r.stamp)
      else s.endRequest c.request status r.stamp
    s.dropCrews r.bay fun x => x.request == c.request

/-- A crew at a breakpoint is saved and held; a full save area leaves it in its slot (R384). -/
def State.holdCrew (s : State) (r : TrapRec) (c : Crew) : State :=
  let c := { c with held := some r.slot }
  match (s.bay r.bay).tent with
  | none => s.setCrew r.bay r.slot c
  | some t => match s.saveContext r.bay t (contextBytes c.count) with
    | none => (s.setCrew r.bay r.slot c).log (islRanger (s.rangerOf (r.bay / 64)))
        { detector := 0x0E00, severity := 3, action := 0, tent := t }
    | some (loc, s) =>
      let k := s.dev.nextToken
      let x : Saved := { bay := r.bay, tent := t, crew := c, token := k, since := s.liveTick
                         bytes := contextBytes c.count, local_ := loc }
      let s := (s.modBay r.bay (·.setCrew r.slot none)).renameHeld r.bay r.slot k
      let l := s.dev.saved ++ [x]
      { s with dev := { s.dev with saved := l, nextToken := k + 1 } }

/-- TRAP_RECORD_HANDLE: firmware takes the oldest trap record of compute die `d`; `dataErr` is its choice of a status for a
SOFTWARE trap that ends a request. -/
def execTrapRecordHandle (d : Nat) (dataErr : Bool) (s : State) : Host.Outcome State Fault Refusal :=
  let core := s.rangerOf d
  if 4 ≤ d ∨ !s.fwRuns ∨ !s.rangerUp core ∨ s.blocked (islRanger core) then .next s
  else match SMap.get (fun _ => []) s.dev.traps d with
    | [] => .next s
    | r :: rs =>
      let s : State := { s with dev := { s.dev with traps := SMap.set (fun _ => []) s.dev.traps d rs } }
      match s.crew r.bay r.slot with
      | none => .next s
      | some c =>
        if !c.trapped then .next s
        else if r.cause = trapSoftware ∧ 0x8000 ≤ r.detail.toNat then
          .next ((s.setCrew r.bay r.slot c.afterBreak).postEvent core 2 0 0 [r.cause, r.detail.toNat, r.pc, r.bay])
        else if r.cause = trapBreakpoint then
          .next ((s.holdCrew r c).postEvent core 2 0 0 [r.cause, r.detail.toNat, r.pc, r.bay])
        else
          let s := if r.cause = 0x0D then
              s.modBay r.bay fun b => { b with istoreBad := SMap.set (fun _ => false) b.istoreBad r.pc false }
            else s
          .next (s.trapEnds r c (trapStatus r dataErr))

end Sys2Proof.Machine
end

