-- ==== Sys2Proof/Machine/LanternCore.lean ====
section
/-! DEFINITION. Lantern's data (R194 to R200, R203, R204, R207): codes and their scores, node records, the version
directory, granules, filters, query blocks. -/

namespace Sys2Proof.Machine

/-! Arithmetic. -/

def fneg (a : W32) : W32 := encode32 (decode32 a).neg

/-- An element of VEC_FORMAT, or of a matrix in FP16, widened to FP32. -/
def widen (fmt x : Nat) : W32 :=
  match fmtOf fmt with
  | some f => encode32 (decodeF f x)
  | none => 0

/-- FP32 rounded to BF16. -/
def bf16 (w : W32) : Nat := encodeF ⟨8, 7, 127, .ieee⟩ 0x7FC0 (decode32 w)

/-- `n` elements of two bytes from byte `off`. -/
def halves (fmt : Nat) (b : List Byte) (off n : Nat) : List W32 :=
  (List.range n).map fun i => widen fmt (field b (off + 2 * i) 2)

/-- Σ aᵢ bᵢ and Σ (aᵢ − bᵢ)², in ascending i (R196, R203). -/
def dotAsc (l : List (W32 × W32)) : W32 := l.foldl (fun x e => fadd x (fmul e.1 e.2)) 0
def sqdAsc (l : List (W32 × W32)) : W32 := l.foldl (fun x e => fadd x (fmul (fsub e.1 e.2) (fsub e.1 e.2))) 0

/-- The exact distance (R203). -/
def Index.distance (x : Index) (q v : List W32) : W32 := if x.inner then dotAsc (q.zip v) else sqdAsc (q.zip v)

/-- Order of code scores: ascending. -/
def scoreKey (w : W32) : Nat := keyS 0 true w.toNat

/-! Codes (R196). -/

def codeRows (fmt : Nat) : Nat := if fmt = 0 then 256 else if fmt = 1 then 64 else 32

/-- y = P q, or R x. -/
def project (mat : List Byte) (rows dim : Nat) (v : List W32) : List W32 :=
  (List.range rows).map fun i => dotAsc ((halves 8 mat (2 * dim * i) dim).zip v)

/-- The query side of code table `k`, without the tables of an L2 or inner product that only a score needs. -/
def Index.side (x : Index) (k : Nat) (v : List W32) : EM CodeSide := do
  let fmt := if k = 0 then x.fmt0 else x.fmt1
  let p := if k = 0 then x.params0 else x.params1
  let rows := codeRows fmt
  let mat ← EM.read x.tent (p + 0x40) (2 * rows * x.dim)
  let y := project mat rows x.dim v
  let after := p + 0x40 + 2 * rows * x.dim
  if fmt = 0 then return { fmt := 0, inner := x.inner, sketch := y.map fun w => fcompare 5 false w 0, y := y }
  else if fmt = 1 then
    let c ← EM.read x.tent after 2048
    let cs := halves 8 c 0 1024
    let cell (i : Nat) : W32 :=
      let a := y.getD (i / 16) 0
      let b := cs.getD i 0
      if x.inner then fmul (fneg a) b else fmul (fsub a b) (fsub a b)
    return { fmt := 1, inner := x.inner, y := y, table := (List.range 1024).map cell, scales := cs }
  else
    let sc ← EM.read x.tent after 128
    return { fmt := 2, inner := x.inner, y := y, scales := (List.range 32).map fun d => BitVec.ofNat 32 (field sc (4 * d) 4) }

/-- Cell d of a LUT4X64 code, and byte d of an INT8X32 code as FP32. -/
def lutCell (c : List Byte) (d : Nat) : Nat := field c (d / 2) 1 / 16 ^ (d % 2) % 16
def intByte (c : List Byte) (d : Nat) : W32 := i2f false (BitVec.ofNat 32 (signExt 1 (field c d 1)))

/-- The code score; the lower is the better. -/
def CodeSide.score (x : CodeSide) (c : List Byte) : W32 :=
  if x.fmt = 0 then
    let n := ((List.range 256).filter fun i => x.sketch.getD i false != (field c (i / 8) 1).testBit (i % 8)).length
    encode32 (.fin false n 0)
  else if x.fmt = 1 then (List.range 64).foldl (fun a d => fadd a (x.table.getD (16 * d + lutCell c d) 0)) 0
  else if x.inner then
    fneg ((List.range 32).foldl (fun a d => fadd a (fmul (fmul (x.y.getD d 0) (x.scales.getD d 0)) (intByte c d))) 0)
  else (List.range 32).foldl (fun a d =>
    let e := fsub (x.y.getD d 0) (fmul (x.scales.getD d 0) (intByte c d))
    fadd a (fmul e e)) 0

/-- The nearest of 16 centroids to y_d, the lower on equal distance. -/
def nearestCell (y : W32) (cs : List W32) : Nat :=
  ((List.range 16).foldl (fun (b : Nat × W32) c =>
    let d := fmul (fsub y (cs.getD c 0)) (fsub y (cs.getD c 0))
    if scoreKey d < scoreKey b.2 then (c, d) else b) (0, fmul (fsub y (cs.getD 0 0)) (fsub y (cs.getD 0 0)))).1

/-- y / s to the nearest integer, ties to even, saturated to ±127; `none` where the quotient is none (R196 gives no
result there). -/
def quotInt (y s : W32) : Option Int :=
  match decode32 y, decode32 s with
  | .fin a m e, .fin b n k =>
    if n = 0 then none
    else
      let num := if k ≤ e then m * 2 ^ (e - k).toNat else m
      let den := if k ≤ e then n else n * 2 ^ (k - e).toNat
      let q := num / den
      let r := num % den
      let q := if den < 2 * r ∨ (2 * r = den ∧ q % 2 = 1) then q + 1 else q
      let q := min q 127
      some (if a != b then -(q : Int) else q)
  | .inf a, .fin b _ _ => some (if a != b then -127 else 127)
  | .fin _ _ _, .inf _ => some 0
  | _, _ => none

/-- The code that a vector's query side stands for (R196); a quotient without a result is a free value. -/
def CodeSide.encode (x : CodeSide) (free : Nat) : List Byte :=
  if x.fmt = 0 then
    leBytes 32 (((List.range 256).filter fun i => x.sketch.getD i false).foldl (fun n i => n + 2 ^ i) 0)
  else if x.fmt = 1 then
    (List.range 32).map fun i => BitVec.ofNat 8
      (nearestCell (x.y.getD (2 * i) 0) ((x.scales.drop (32 * i)).take 16) +
        16 * nearestCell (x.y.getD (2 * i + 1) 0) ((x.scales.drop (32 * i + 16)).take 16))
  else (List.range 32).map fun d =>
    match quotInt (x.y.getD d 0) (x.scales.getD d 0) with
    | some z => BitVec.ofInt 8 z
    | none => BitVec.ofNat 8 (Config.freeValue (free + d))

/-! Node records (R195). -/

def Index.shard (x : Index) (j : Nat) : Shard := x.shards.getD j {}

/-- The code of a node in table `k`, and its attribute word. -/
def Index.code (x : Index) (j k node : Nat) : EM (List Byte) :=
  EM.read x.tent (if k = 0 then (x.shard j).nodeTable0 + 40 * node else (x.shard j).nodeTable1 + 32 * node) 32
def Index.attr (x : Index) (j node : Nat) : EM W64 := do
  let b ← EM.read x.tent ((x.shard j).nodeTable0 + 40 * node + 0x20) 8
  return BitVec.ofNat 64 (leNat b)

/-! The version directory (R199). -/

/-- A directory entry and where it lies. -/
structure DirEntry where
  place : Nat := 0
  used : Bool := false
  deleted : Bool := false
  addr : Nat := 0
  stamp : Nat := 0
  deriving DecidableEq, Repr

/-- The entry at `k` places after a node's first. -/
def Shard.dirPlace (x : Shard) (node k : Nat) : Nat :=
  x.directory + 64 + 32 * ((node * 0x9E3779B1 % 2 ^ 32 + k) % 2 ^ x.dirLog2)

/-- Probe for a node: its entry, or the first free place not in `taken`, or neither within 64 places. -/
def Index.probe (x : Index) (j node : Nat) (taken : List Nat) : Nat → Nat → EM (Option DirEntry)
  | 0, _ => return none
  | n + 1, k => do
    let a := (x.shard j).dirPlace node k
    let b ← EM.read x.tent a 32
    if (field b 4 4).testBit 0 then
      if field b 0 4 = node then
        return some ⟨a, true, (field b 4 4).testBit 1, field b 8 8, field b 0x10 16⟩
      else Index.probe x j node taken n (k + 1)
    else if taken.contains a then Index.probe x j node taken n (k + 1)
    else return some { place := a }

/-- The entry of a node, if it has one. -/
def Index.entry (x : Index) (j node : Nat) : EM (Option DirEntry) := do
  match ← x.probe j node [] 64 0 with
  | some e => return (if e.used then some e else none)
  | none => return none

/-- The node is deleted at a snapshot (R208, R216). -/
def DirEntry.deletedAt (e : Option DirEntry) (snap : Nat) : Bool :=
  match e with
  | some e => e.deleted && decide (e.stamp < snap)
  | none => false

/-! Granules (R197, R198, R204). -/

def Index.homeGranule (x : Index) (j node : Nat) : Nat := (x.shard j).granules + 4096 * node

/-- Read-through of one granule: bad data end the request DATA_ERROR. -/
def Index.granule (x : Index) (node a : Nat) : EM (List Byte) := fun s =>
  match s.granuleThrough x.tent a with
  | .inr k => .error (.stop (if k = trapDeviceRange then 0x41 else 0x40) a false)
  | .inl (b, bad) =>
    if bad ∨ field b 0 2 ≠ 1 ∨ field b 4 4 ≠ node then .error (.stop 0x40 a true) else .ok (b, s)

/-- Follow PREV to a version committed before the snapshot: the granule and how many were read. -/
def Index.walk (x : Index) (node snap : Nat) : Nat → Nat → Nat → EM (List Byte × Nat)
  | 0, a, _ => EM.stop 0x40 a true
  | fuel + 1, a, k => do
    let b ← x.granule node a
    if field b 8 16 = 0 ∨ field b 8 16 < snap then return (b, k + 1)
    else if field b 0x18 8 = 0 then EM.stop 0x40 a true
    else Index.walk x node snap fuel (field b 0x18 8) (k + 1)

/-- The visible version of a node (R204). -/
def Index.visible (x : Index) (j node snap : Nat) : EM (List Byte × Nat) := do
  match ← x.entry j node with
  | none => x.walk node snap 1 (x.homeGranule j node) 0
  | some e => x.walk node snap ((x.shard j).versionGranules + 2) e.addr 0

/-- Neighbours of a granule with their distances, and its vector. -/
def granuleNeighbours (b : List Byte) : List (Nat × W32) :=
  (List.range (min (field b 2 1) 48)).map fun i => (field b (0x40 + 4 * i) 4, BitVec.ofNat 32 (field b (0x100 + 4 * i) 4))
def Index.granuleVector (x : Index) (b : List Byte) : List W32 := halves x.fmt b 0x200 x.dim

/-! Filters (R207). -/

/-- A node's attribute word meets a clause. -/
def clausePass (attr : W64) (c : W64 × W64 × Nat) : Bool :=
  let a := (attr &&& c.1).toNat
  let v := c.2.1.toNat
  match c.2.2 with
  | 0 => a == v
  | 1 => a != v
  | 2 => decide (a < v)
  | 3 => decide (a ≤ v)
  | 4 => decide (v < a)
  | 5 => decide (v ≤ a)
  | 6 => a != 0
  | _ => a == 0

/-! Query blocks (R200). -/

/-- The 64 bytes of a query block. -/
def qBlock (d : List Byte) : List Byte := (d.drop 0xC0).take 64
def dflt (x d : Nat) : Nat := if x = 0 then d else x
def qIndex (b : List Byte) : Nat := field b 0 1
def qCode (b : List Byte) : Nat := field b 1 1
def qFilterOr (b : List Byte) : Bool := (field b 2 2).testBit 0
def qCodeOnly (b : List Byte) : Bool := (field b 2 2).testBit 2
def qTruth (b : List Byte) : Bool := (field b 2 2).testBit 3
def qL (b : List Byte) : Nat := dflt (field b 4 2) 128
def qW (b : List Byte) : Nat := dflt (field b 6 1) 4
def qP (b : List Byte) : Nat := if (field b 2 2).testBit 1 then 0 else dflt (field b 7 1) 4
def qMaxRounds (b : List Byte) : Nat := dflt (field b 8 2) 256
def qBudget (b : List Byte) : Nat := field b 0xA 2
def qK (b : List Byte) : Nat := dflt (field b 0xC 2) 10
def qDepth (b : List Byte) : Nat := dflt (field b 0xE 2) (min (2 * qK b) (qL b))
def qClauses (b : List Byte) : Nat := field b 0x10 1
def qBay (b : List Byte) : Nat := field b 0x11 1
def qQueries (b : List Byte) : Nat := dflt (field b 0x12 2) 1
def qSlot (b : List Byte) : Nat := field b 0x14 1
def qFilterAddr (b : List Byte) : Nat := field b 0x18 8
def qBuf (b : List Byte) : Nat := field b 0x20 8
def qVec (b : List Byte) : Nat := field b 0x28 8
def qStop (b : List Byte) : Nat := max (qK b) (qDepth b)

/-- Every value of the block is in its range (R200, R218). -/
def State.queryOk (s : State) (t : Nat) (x : Index) (b : List Byte) : Bool :=
  decide (qCode b < x.codes) && decide (16 ≤ qL b) && decide (qL b ≤ 512) && decide (qW b ≤ 8) &&
    decide (field b 7 1 ≤ 16) && decide (qMaxRounds b ≤ 4096) && decide (qBudget b ≤ 4096) && decide (qK b ≤ 512) &&
    decide (qK b ≤ qL b) && decide (qK b ≤ qDepth b) && decide (qDepth b ≤ qL b) && decide (qClauses b ≤ 8) &&
    decide (qQueries b ≤ 256) && (qTruth b || qQueries b == 1) && (!qTruth b || decide (qK b ≤ 64)) &&
    (qBuf b == 0 || (s.hasBay t (qBay b) && qBuf b % 64 == 0))

end Sys2Proof.Machine
end

