-- ==== Sys2Proof/Machine/LanternSearch.lean ====
section
/-! DEFINITION. The beam search of a sub-query (R202, R205, R206) and re-scoring's candidates (R207, R208, R210). -/

namespace Sys2Proof.Machine

/-- What a sub-query runs under. -/
structure SearchArgs where
  index : Index := {}
  code : Nat := 0
  w : Nat := 4
  p : Nat := 4
  k : Nat := 10
  depth : Nat := 20
  maxRounds : Nat := 256
  budget : Nat := 0
  clauses : List (W64 × W64 × Nat) := []
  filterOr : Bool := false
  /-- The snapshot as a stamp's number. -/
  snap : Nat := 0

/-- The arguments that a query block gives. -/
def Query.args (q : Query) (b : List Byte) : SearchArgs :=
  { index := q.index, code := qCode b, w := qW b, p := qP b, k := qK b, depth := qDepth b, maxRounds := qMaxRounds b
    budget := qBudget b, clauses := q.clauses, filterOr := qFilterOr b, snap := q.snapshot.key }

/-- A sub-query with the counts of its query. -/
abbrev Sub := SubQuery × SearchStats

/-! The visited filter (R205). -/

def visitBits (node : Nat) : List Nat := [Config.visitHash 0 node % 65536, Config.visitHash 1 node % 65536]
def SubQuery.seen (x : SubQuery) (node : Nat) : Bool := (visitBits node).all x.visited.contains
def SubQuery.visit (x : SubQuery) (node : Nat) : SubQuery := { x with visited := (visitBits node ++ x.visited).eraseDups }

/-! The beam. -/

/-- Insert by ascending score, equal scores by ascending node. -/
def insertBeam (e : BeamEntry) : List BeamEntry → List BeamEntry
  | [] => [e]
  | x :: xs =>
    if scoreKey e.score < scoreKey x.score ∨ (scoreKey e.score = scoreKey x.score ∧ e.node < x.node) then e :: x :: xs
    else x :: insertBeam e xs

/-- A granule read is issued (R206). -/
def Sub.issue (x : Sub) (node : Nat) : Sub :=
  if x.1.reading.contains node ∨ (x.1.landed.any fun d => d.node == node) = true then x
  else ({ x.1 with reading := x.1.reading ++ [node], roundReads := x.1.roundReads + 1 }, { x.2 with reads := x.2.reads + 1 })

/-- An entry leaves the beam: what was read for it is dropped, and counted where it was not expanded. -/
def Sub.drop (x : Sub) (e : BeamEntry) : Sub :=
  let had := x.1.reading.contains e.node || x.1.landed.any fun d => d.node == e.node
  ({ x.1 with reading := x.1.reading.erase e.node, landed := x.1.landed.filter fun d => d.node != e.node },
    if had && !e.expanded then { x.2 with prefetchUnused := x.2.prefetchUnused + 1 } else x.2)

/-- A scored node joins the beam, which keeps its best L; a place below P has its granule read issued. -/
def Sub.insert (x : Sub) (p : Nat) (e : BeamEntry) : Sub :=
  let all := insertBeam e x.1.beam
  let x : Sub := ({ x.1 with beam := all.take x.1.l }, x.2)
  let x := (all.drop x.1.l).foldl Sub.drop x
  if (x.1.beam.take p).any fun y => y.node == e.node then x.issue e.node else x

/-- Score the neighbours that have not been visited. -/
def scoreNew (a : SearchArgs) : List Nat → Sub → EM Sub
  | [], x => return x
  | n :: ns, x => do
    if x.1.seen n then scoreNew a ns x
    else
      let c ← a.index.code x.1.shard a.code n
      let x : Sub := (x.1.visit n, { x.2 with scored := x.2.scored + 1 })
      scoreNew a ns (x.insert a.p { node := n, score := x.1.side.score c })

/-- A new sub-query on one shard: the entry points scored and visited, the first P prefetched. -/
def startSub (a : SearchArgs) (l j : Nat) (vec : List W32) : EM Sub := do
  let side ← a.index.side a.code vec
  let es := (a.index.shard j).entries.eraseDups
  let scored ← es.mapM fun n => do
    let c ← a.index.code j a.code n
    return ({ node := n, score := side.score c } : BeamEntry)
  let beam := (scored.foldl (fun b e => insertBeam e b) []).take l
  let x : SubQuery := es.foldl SubQuery.visit { shard := j, vec := vec, side := side, beam := beam, l := l }
  return (beam.take a.p).foldl (fun (y : Sub) e => y.issue e.node) (x, {})

/-! Filters and deletes (R207, R208). -/

/-- The node passes the clauses, and whether it is deleted at the snapshot. -/
def nodeTest (a : SearchArgs) (j node : Nat) : EM (Bool × Bool) := do
  let w ← if a.clauses = [] then pure 0 else a.index.attr j node
  let pass := a.clauses = [] || (if a.filterOr then a.clauses.any (clausePass w) else a.clauses.all (clausePass w))
  let e ← a.index.entry j node
  return (pass, DirEntry.deletedAt e a.snap)

/-- Beam entries that pass and are not deleted. -/
def passing (a : SearchArgs) (j : Nat) : List BeamEntry → EM Nat
  | [] => return 0
  | e :: es => do
    let (pass, gone) ← nodeTest a j e.node
    let n ← passing a j es
    return (if pass && !gone then n + 1 else n)

/-- enough(beam) (R202). -/
def enough (a : SearchArgs) (x : SubQuery) : EM Bool := do
  let n ← passing a x.shard x.beam
  return decide (a.k ≤ n)

/-! A round (R202). -/

/-- The W lowest unexpanded entries. -/
def SubQuery.frontier (x : SubQuery) (w : Nat) : List Nat := ((x.beam.filter fun e => !e.expanded).take w).map (·.node)

/-- Begin a round: the sub-query ends, or its entries are chosen and their granules asked for. -/
def beginRound (a : SearchArgs) (x : Sub) : EM Sub := do
  let open_ := (x.1.beam.take (max a.k a.depth)).any fun e => !e.expanded
  let go (y : Sub) (extra : Bool) : Sub :=
    let es := y.1.frontier a.w
    es.foldl (fun z n => z.issue n) ({ y.1 with round := some (es, extra) }, y.2)
  if !open_ then
    let ok ← enough a x.1
    if ok || x.1.extra == a.budget || x.1.l == 512 then return ({ x.1 with ended := some 0 }, x.2)
    else return go ({ x.1 with l := min (2 * x.1.l) 512, extra := x.1.extra + 1 }, x.2) true
  else if x.1.rounds = a.maxRounds then
    let ok ← enough a x.1
    if ok || x.1.extra == a.budget then return ({ x.1 with ended := some 1 }, x.2)
    else return go ({ x.1 with extra := x.1.extra + 1 }, x.2) true
  else return go x false

/-- Expand the entries of the round, whose granules have all landed. -/
def expandRound (a : SearchArgs) (es : List Landed) (extra : Bool) (x : Sub) : EM Sub := do
  let mark (e : BeamEntry) : BeamEntry := if (es.any fun d => d.node == e.node) = true then { e with expanded := true } else e
  let x : Sub := ({ x.1 with beam := x.1.beam.map mark, round := none, rounds := if extra then x.1.rounds else x.1.rounds + 1 },
    { x.2 with expansions := x.2.expansions + es.length })
  scoreNew a (es.flatMap fun d => d.neighbours) x

/-- One step of a sub-query: choose the round's entries, and expand them once their granules are there. -/
def stepSub (a : SearchArgs) (x : Sub) : EM Sub := do
  let x ← if x.1.round.isNone then beginRound a x else pure x
  match x.1.round with
  | none => return x
  | some (ns, extra) =>
    let es := ns.filterMap fun n => x.1.landed.find? fun d => d.node == n
    if es.length = ns.length then expandRound a es extra x else return x

/-- A granule lands (R198, R203, R204). -/
def land (a : SearchArgs) (node : Nat) (x : Sub) : EM Sub := do
  if !x.1.reading.contains node then return x
  let (g, n) ← a.index.visible x.1.shard node a.snap
  let d : Landed :=
    { node := node, dist := a.index.distance x.1.vec (a.index.granuleVector g), neighbours := (granuleNeighbours g).map (·.1) }
  return ({ x.1 with reading := x.1.reading.erase node, landed := x.1.landed ++ [d], roundReads := x.1.roundReads + (n - 1) },
    { x.2 with reads := x.2.reads + (n - 1) })

/-! Re-scoring (R210). -/

/-- The places that re-scoring looks at, with what fails counted: the nodes left. -/
def rescoreNodes (a : SearchArgs) (j : Nat) : List BeamEntry → SearchStats → EM (List Nat × SearchStats)
  | [], c => return ([], c)
  | e :: es, c => do
    let (pass, gone) ← nodeTest a j e.node
    let c := if !pass then { c with filterRejected := c.filterRejected + 1 }
      else if gone then { c with deletedSkipped := c.deletedSkipped + 1 } else c
    let (ns, c) ← rescoreNodes a j es c
    return (if pass && !gone then e.node :: ns else ns, c)

/-- The list of one sub-query over nodes that passed (R210): exact distances, or code scores with CODE_ONLY. -/
def SubQuery.list (x : SubQuery) (a : SearchArgs) (codeOnly : Bool) (nodes : List Nat) : ResList :=
  let key (n : Nat) : Nat :=
    if codeOnly then ((x.beam.find? fun e => e.node == n).map fun e => e.score.toNat).getD 0
    else ((x.landed.find? fun d => d.node == n).map fun d => d.dist.toNat).getD 0
  selectTop 0 (codeOnly || !a.index.inner) a.k (nodes.map fun n => (key n, (a.index.shard x.shard).idBase + n))

/-- Run a search to its end at once, every read landing as it is issued: what an INSERT does (R213). -/
def runSub (a : SearchArgs) : Nat → Sub → EM Sub
  | 0, x => return x
  | fuel + 1, x => do
    if x.1.ended.isSome then return x
    let x ← stepSub a x
    let x ← x.1.reading.foldlM (fun y n => land a n y) x
    runSub a fuel x

end Sys2Proof.Machine
end

