-- ==== Sys2Proof/Machine/Lantern.lean ====
section
/-! DEFINITION. The SRCH block (R191 to R218): index slots, the SEARCH and RESCORE legs, callbacks, mutations, reclamation,
ground truth. -/

namespace Sys2Proof.Machine

def State.query (s : State) (n : Nat) : Option Query := s.dev.lantern.queries.find? (·.seq == n)
def State.setQuery (s : State) (q : Query) : State :=
  s.modLantern fun l => { l with queries := l.queries.map fun p => if p.seq = q.seq then q else p }
def State.dropQuery (s : State) (n : Nat) : State := s.modLantern fun l => { l with queries := l.queries.filter (·.seq != n) }

/-! Registration (R193, R194). -/

/-- A shard entry of a descriptor. -/
def shardOf (b : List Byte) : Shard :=
  { idBase := field b 0 8, nodes := field b 8 8, nodeTable0 := field b 0x10 8, nodeTable1 := field b 0x18 8
    granules := field b 0x20 8, directory := field b 0x28 8, versionArea := field b 0x30 8
    versionGranules := field b 0x38 4, dirLog2 := field b 0x3C 1, owner := field b 0x3D 1
    entries := (List.range (min (field b 0x3E 2) 16)).map fun i => field b (0x40 + 4 * i) 4 }

/-- A descriptor's header and shard entries. -/
def indexOfBytes (slot tent : Nat) (h e : List Byte) : Index :=
  { slot := slot, tent := tent, inner := field h 2 1 == 1, fmt := field h 3 1, dim := field h 4 2, codes := field h 6 1
    engines := field h 8 4, fmt0 := field h 0xC 1, fmt1 := field h 0xD 1, maxDegree := field h 0xE 1
    insertL := field h 0x10 2, params0 := field h 0x20 8, params1 := field h 0x28 8
    shards := (List.range (field h 7 1)).map fun i => shardOf ((e.drop (128 * i)).take 128) }

/-- The ranges of the header (R194). -/
def indexHeaderOk (h : List Byte) (engines : Nat) : Bool :=
  field h 0 2 == 1 && decide (field h 2 1 ≤ 1) && (field h 3 1 == 7 || field h 3 1 == 8) && decide (1 ≤ field h 4 2) &&
    decide (field h 4 2 ≤ 1024) && decide (1 ≤ field h 6 1) && decide (field h 6 1 ≤ 2) && decide (1 ≤ field h 7 1) &&
    decide (field h 7 1 ≤ 16) && decide (field h 8 4 < 2 ^ engines) && decide (field h 0xC 1 ≤ 2) &&
    decide (field h 0xD 1 ≤ (if field h 6 1 = 1 then 0 else 2)) && decide (1 ≤ field h 0xE 1) && decide (field h 0xE 1 ≤ 48) &&
    decide (16 ≤ field h 0x10 2) && decide (field h 0x10 2 ≤ 512)

/-- The ranges of a shard entry. -/
def shardOk (x : Index) (b : List Byte) (s : Shard) : Bool :=
  decide (1 ≤ s.nodes) && decide (s.nodes ≤ 2 ^ 32) && decide (s.idBase + s.nodes - 1 < 2 ^ 64 - 1) &&
    (x.codes == 2 || s.nodeTable1 == 0) && s.granules % 4096 == 0 && s.versionArea % 4096 == 0 &&
    decide (10 ≤ s.dirLog2) && decide (s.dirLog2 ≤ 32) && x.engines.testBit s.owner && decide (1 ≤ field b 0x3E 2) &&
    decide (field b 0x3E 2 ≤ 16)

/-- The shards' id ranges are disjoint. -/
def disjointIds : List Shard → Bool
  | [] => true
  | x :: xs => (xs.all fun y => decide (x.idBase + x.nodes ≤ y.idBase) || decide (y.idBase + y.nodes ≤ x.idBase)) &&
    disjointIds xs

/-- Read the descriptor of slot `x` from address `a` of tent `t`: `none` where it breaks a range. -/
def readIndex (x t a engines : Nat) : EM (Option Index) := do
  let h ← EM.read t a 64
  if !indexHeaderOk h engines then return none
  let e ← EM.read t (a + 64) (128 * field h 7 1)
  let ix := indexOfBytes x t h e
  let ok := (List.range ix.shards.length).all fun i => shardOk ix ((e.drop (128 * i)).take 128) (ix.shards.getD i {})
  return (if ok && disjointIds ix.shards then some ix else none)

/-- INDEX_REGISTER (R193): a write of `v` to LANTERN_INDEX_BASE `x` with VALID = 1. -/
def execIndexRegister (x : Nat) (v : W64) (s : State) : Host.Outcome State Fault Refusal :=
  let r := rLanternIndexBase x
  if 64 ≤ x ∨ s.flag r fLanternIndexBaseValid then .next s
  else
    let s := (s.writeReg r v).setFlag r fLanternIndexBaseValid false
    let t := s.fld r fLanternIndexBaseTent
    match readIndex x t (s.fld r fLanternIndexBaseAddr * 64) (4 * s.dev.desc.msds) s with
    | .error (.wait a) =>
      let (st, s) := s.originate islPort
      .next (s.requestInbound t (a / 65536) st true)
    | .error _ => .next (s.setFlag r fLanternIndexBaseDescError true)
    | .ok (none, s) => .next (s.setFlag r fLanternIndexBaseDescError true)
    | .ok (some ix, s) =>
      let s := s.modLantern fun l => { l with indexes := SMap.set (fun _ => none) l.indexes x (some ix) }
      .next ((s.setFlag r fLanternIndexBaseDescError false).setFlag r fLanternIndexBaseValid true)

/-- INDEX_RETIRE (R193): VALID = 0; queries bound to the index go on. -/
def execIndexRetire (x : Nat) (s : State) : Host.Outcome State Fault Refusal :=
  if 64 ≤ x then .next s
  else .next ((s.modLantern fun l => { l with indexes := SMap.set (fun _ => none) l.indexes x none }).setFlag
    (rLanternIndexBase x) fLanternIndexBaseValid false)

/-- DRAINING of a slot (R193): queries of a retired index still run. -/
def State.indexDraining (s : State) (x : Nat) : Bool :=
  s.allReqs.any fun r => r.ended.isNone && (match r.index with
    | some ix => ix.slot == x && s.indexOf x != some ix
    | none => false)

/-! Engines (R191, R220). -/

/-- A request waits for its SEARCH leg. -/
def Request.waitsSearch (r : Request) : Bool := r.legs.head? == some 3 && !r.started && r.ended.isNone

/-- QUEUED of an engine. -/
def State.lanternQueued (s : State) (e : Nat) : Nat :=
  min 1024 (s.allReqs.filter fun r => r.waitsSearch && r.engine == some e).length

/-! SEARCH (R200 to R206). -/

/-- The query vectors of a request: the EMBED output, or read from memory; `none` where a vector is not of DIM elements. -/
def queryVectors (r : Request) (x : Index) : EM (Option (List (List W32))) := do
  let b := qBlock r.desc
  if qVec b = 0 then return (if r.vector.length = x.dim then some (List.replicate (qQueries b) r.vector) else none)
  else
    let v ← EM.read r.tent (qVec b) (4 * x.dim * qQueries b)
    return some ((List.range (qQueries b)).map fun i =>
      (List.range x.dim).map fun d => BitVec.ofNat 32 (field v (4 * (x.dim * i + d)) 4))

/-- The filter clauses; another OP value ends the request INPUT_INVALID (R207). -/
def readClauses (r : Request) : EM (List (W64 × W64 × Nat)) := do
  let b := qBlock r.desc
  if qClauses b = 0 then return []
  let c ← EM.read r.tent (qFilterAddr b) (24 * qClauses b)
  let cs := (List.range (qClauses b)).map fun i =>
    (BitVec.ofNat 64 (field c (24 * i) 8), BitVec.ofNat 64 (field c (24 * i + 8) 8), field c (24 * i + 16) 1)
  if cs.any fun c => decide (7 < c.2.2) then EM.stop 0x31 (qFilterAddr b) else return cs

/-- Some GATE of the index is nonzero (R201). -/
def gateShut (x : Index) : EM Bool := do
  let gs ← x.shards.mapM fun sh => EM.read x.tent sh.directory 8
  return gs.any fun g => leNat g != 0

/-- Add counts up. -/
def SearchStats.plus (a b : SearchStats) : SearchStats :=
  ⟨a.expansions + b.expansions, a.reads + b.reads, a.prefetchUnused + b.prefetchUnused, a.scored + b.scored,
    a.filterRejected + b.filterRejected, a.deletedSkipped + b.deletedSkipped, a.callbackRejected + b.callbackRejected,
    a.callbackTimeouts + b.callbackTimeouts⟩

/-- Put a query's sub-queries on its engine. -/
def startQuery (r : Request) (x : Index) (e : Nat) (vs : List (List W32)) : EM Query := do
  let b := qBlock r.desc
  let cs ← readClauses r
  let q : Query := { seq := r.seq, engine := e, snapshot := r.admitReq, index := x, clauses := cs }
  let pairs := vs.flatMap fun v => (List.range x.shards.length).map fun j => (v, j)
  let subs ← pairs.mapM fun p => startSub (q.args b) (qL b) p.2 p.1
  return { q with subs := subs.map (·.1), stats := subs.foldl (fun c y => c.plus y.2) {} }

/-- Another request of the engine goes first: admission-stamp order (R191). -/
def State.searchBehind (s : State) (r : Request) : Bool :=
  s.allReqs.any fun p => p.waitsSearch && p.engine == r.engine && p.admitReq.before r.admitReq

/-- SEARCH_START (R201): the request's snapshot is its admission stamp. -/
def execSearchStart (n : Nat) (s : State) : Host.Outcome State Fault Refusal :=
  match s.req n with
  | none => .next s
  | some r =>
    let e := r.engine.getD 0
    let isl := islLantern e
    if !r.waitsSearch ∨ s.blocked isl ∨ s.searchBehind r ∨ s.copy isl < r.admitReq.tick + 8 then .next s
    else match r.index with
      | none => .next (s.endAt n 0x31 isl)
      | some x =>
        let b := qBlock r.desc
        let first := (legsOf r.desc).head? == some 3
        if !s.queryOk r.tent x b ∨ (first && s.inputFault r) then .next (s.endAt n 0x31 isl)
        else if 4096 < s.lanternActive e + qQueries b * x.shards.length then .next s
        else match gateShut x s with
          | .error err => .next (s.engFail n r.tent isl err)
          | .ok (true, s) =>
            .next (if s.dev.lantern.gateWaited.contains n then s
              else (s.addFld (rLanternStatus e) fLanternStatusGateWaits 1).modLantern fun l =>
                { l with gateWaited := l.gateWaited ++ [n] })
          | .ok (false, s) =>
            match queryVectors r x s with
            | .error err => .next (s.engFail n r.tent isl err)
            | .ok (none, s) => .next (s.endAt n 0x31 isl)
            | .ok (some vs, s) =>
              match startQuery r x e vs s with
              | .error err => .next (s.engFail n r.tent isl err)
              | .ok (q, s) =>
                .next ((s.modLantern fun l => { l with queries := l.queries ++ [q] }).legStart n isl)

/-- The counts that moved, as events of the engine's die (R516). -/
def State.lanternEvents (s : State) (e t : Nat) (a b : SearchStats) : State :=
  (s.msdEvent (e / 4) 0x105 (e % 4) t (b.reads - a.reads)).msdEvent (e / 4) 0x106 (e % 4) t (b.prefetchUnused - a.prefetchUnused)

/-- Write back sub-query `j` of a query, with the counts. -/
def State.putSub (s : State) (q : Query) (t j : Nat) (x : Sub) : State :=
  let q' : Query := { q with subs := q.subs.set j x.1, stats := x.2 }
  (s.setQuery q').lanternEvents q.engine t q.stats x.2

/-- SEARCH_ROUND (R202): sub-query `j` of a query chooses the entries of its next round, or expands them once their
granules have landed, or ends. -/
def execSearchRound (n j : Nat) (s : State) : Host.Outcome State Fault Refusal :=
  match s.req n, s.query n with
  | some r, some q => match q.subs[j]? with
    | none => .next s
    | some x =>
      let isl := islLantern q.engine
      if !r.inLeg 3 ∨ x.ended.isSome ∨ s.blocked isl then .next s
      else match stepSub (q.args (qBlock r.desc)) (x, q.stats) s with
        | .error err => .next (s.engFail n r.tent isl err)
        | .ok (y, s) =>
          -- a round has ended where its entries, if any, were expanded
          let ran := y.1.round.isNone && y.1.ended.isNone
          let s := s.busy (engLantern q.engine)
          let s := if ran then
              (s.trace isl 0x50 r.tent y.1.roundReads n).msdEvent (q.engine / 4) 0x104 (q.engine % 4) r.tent
            else s
          let y : Sub := (if ran then { y.1 with roundReads := 0 } else y.1, y.2)
          let s := s.putSub q r.tent j y
          let finished := (q.subs.set j y.1).all fun z => z.ended.isSome
          .next (if finished then s.modReq n fun p => { p with ready := true } else s)
  | _, _ => .next s

/-- GRANULE_READ_COMPLETE (R198, R203, R204, R206): the read of `node` in sub-query `j` lands. -/
def execGranuleReadComplete (n j node : Nat) (s : State) : Host.Outcome State Fault Refusal :=
  match s.req n, s.query n with
  | some r, some q => match q.subs[j]? with
    | none => .next s
    | some x =>
      let isl := islLantern q.engine
      if r.ended.isSome ∨ s.blocked isl then .next s
      else match land (q.args (qBlock r.desc)) node (x, q.stats) s with
        | .error err => .next (s.engFail n r.tent isl err)
        | .ok (y, s) => .next (s.putSub q r.tent j y)
  | _, _ => .next s

/-! RESCORE (R209 to R211). -/

/-- The candidates of re-scoring over every sub-query, and the reads that they still need. -/
def rescoreAll (a : SearchArgs) (codeOnly : Bool) : List (Nat × SubQuery) → SearchStats →
    EM (List (Nat × Nat) × List SubQuery × SearchStats)
  | [], c => return ([], [], c)
  | (j, x) :: xs, c => do
    let (ns, c) ← rescoreNodes a x.shard (x.beam.take a.depth) c
    let y : Sub := if codeOnly then (x, c) else ns.foldl (fun (z : Sub) n => z.issue n) (x, c)
    let (more, subs, c) ← rescoreAll a codeOnly xs y.2
    return (ns.map (fun n => (j, n)) ++ more, y.1 :: subs, c)

/-- Post the next callback batch (R209): the header and the ids are written, and the slot is signalled. -/
def postBatch (r : Request) (q : Query) (b : List Byte) (now : Nat) : EM Query := do
  let cs := q.todo.take 64
  let ids := cs.map fun c => (q.index.shard ((q.subs.getD c.1 {}).shard)).idBase + c.2
  EM.write r.tent (qBuf b) (leBytes 4 cs.length ++ List.replicate 60 0 ++ ids.flatMap fun i => leBytes 8 i)
  modify fun s => s.modBay (qBay b) fun y => y.signal (qSlot b) 1
  return { q with batch := some { cands := cs, since := now } }

/-- Merge the lists of the shards of one query vector (R210, R182). -/
def mergeAll (smallest : Bool) (k : Nat) : List ResList → ResList
  | [] => { k := k, short := decide (0 < k), smallest := smallest }
  | x :: xs => xs.foldl (fun a b => mergeLists 0 smallest k a b) x

/-- The lists of a query, one a query vector. -/
def Query.results (q : Query) (a : SearchArgs) (b : List Byte) : List ResList :=
  let keep := q.passed
  let per (j : Nat) : ResList :=
    (q.subs.getD j {}).list a (qCodeOnly b) ((keep.filter fun c => c.1 == j).map (·.2))
  let n := q.index.shards.length
  (List.range (q.subs.length / max n 1)).map fun v =>
    mergeAll (qCodeOnly b || !q.index.inner) a.k ((List.range n).map fun j => per (v * n + j))

/-- One value where all agree, else a free value: R211 names none for several sub-queries. -/
def agreed (free : Nat) (l : List Nat) : Nat :=
  let x := l.headD 0
  if l.all (· == x) then x else Config.freeValue free

/-- The statistics record (R211). -/
def Query.record (q : Query) (free : Nat) : List Byte :=
  let c := q.stats
  let sum (f : SubQuery → Nat) : Nat := q.subs.foldl (fun n x => n + f x) 0
  leBytes 4 (sum fun x => x.rounds + x.extra) ++ leBytes 4 (sum fun x => x.extra) ++ leBytes 4 c.expansions ++ leBytes 4 c.reads ++
    leBytes 4 c.prefetchUnused ++ leBytes 4 c.scored ++ leBytes 4 c.filterRejected ++ leBytes 4 c.deletedSkipped ++
    leBytes 4 c.callbackRejected ++ leBytes 4 c.callbackTimeouts ++ leBytes 2 (agreed free (q.subs.map (·.l))) ++
    leBytes 1 (agreed (free + 1) (q.subs.map fun x => x.ended.getD 0)) ++ leBytes 5 0 ++ leBytes 8 q.snapshot.tick ++ leBytes 8 0

/-- The leg's result is complete; a GROUND_TRUTH request keeps its lists for the pass of R218. -/
def State.finishQuery (s : State) (r : Request) (q : Query) : State :=
  let b := qBlock r.desc
  let ls := q.results (q.args b) b
  let l := ls.headD {}
  let s := s.raise r.seq (ls.foldl (fun c x => c ||| x.conditions) 0)
  if qTruth b then s.setQuery { q with lists := ls }
  else
    let s := (s.dropQuery r.seq).modReq r.seq fun p => { p with list := l, stats := q.record s.free, ready := true }
    { s with free := s.free + 2 }

/-- Reads are still on their way. -/
def Query.reading (q : Query) : Bool := q.subs.any fun x => x.reading != []

/-- RESCORE_LEG (R209, R210): asks for the granules it lacks, posts the next callback batch, or selects the lists. -/
def execRescoreLeg (n : Nat) (s : State) : Host.Outcome State Fault Refusal :=
  match s.req n, s.query n with
  | some r, some q =>
    let isl := islLantern q.engine
    let b := qBlock r.desc
    if !r.inLeg 4 ∨ s.blocked isl ∨ q.lists ≠ [] ∨ q.batch.isSome then .next s
    else match q.cands with
      | none =>
        match rescoreAll (q.args b) (qCodeOnly b) ((List.range q.subs.length).zip q.subs) q.stats s with
        | .error err => .next (s.engFail n r.tent isl err)
        | .ok ((cs, subs, c), s) =>
          let call := qBuf b != 0 && !qTruth b
          .next ((s.setQuery { q with
            cands := some cs, subs := subs, stats := c, todo := if call then cs else [], passed := if call then [] else cs
            }).lanternEvents q.engine r.tent q.stats c)
      | some _ =>
        if q.reading then .next s
        else if q.todo ≠ [] then
          match postBatch r q b s.liveTick s with
          | .error err => .next (s.engFail n r.tent isl err)
          | .ok (q, s) => .next (s.setQuery q)
        else .next (s.finishQuery r q)
  | _, _ => .next s

/-- A batch is over: those of its candidates that `ok` names pass. -/
def Query.endBatch (q : Query) (ok : Nat → Bool) (timeouts : Nat) : Query :=
  match q.batch with
  | none => q
  | some x =>
    let good := ((List.range x.cands.length).filter ok).filterMap fun i => x.cands[i]?
    { q with
      batch := none, todo := q.todo.drop x.cands.length, passed := q.passed ++ good
      stats := { q.stats with callbackRejected := q.stats.callbackRejected + (x.cands.length - good.length)
                              callbackTimeouts := q.stats.callbackTimeouts + timeouts } }

/-- CALLBACK_DONE (R209): the engine sees DONE = 1 and applies the pass mask. -/
def execCallbackDone (n : Nat) (s : State) : Host.Outcome State Fault Refusal :=
  match s.req n, s.query n with
  | some r, some q =>
    let isl := islLantern q.engine
    if r.ended.isSome ∨ q.batch.isNone ∨ s.blocked isl then .next s
    else match EM.read r.tent (qBuf (qBlock r.desc)) 64 s with
      | .error err => .next (s.engFail n r.tent isl err)
      | .ok (h, s) =>
        if field h 8 8 ≠ 1 then .next s
        else .next (s.setQuery (q.endBatch (fun i => (field h 0x10 8).testBit i) 0))
  | _, _ => .next s

/-- CALLBACK_TIMEOUT (R209). -/
def execCallbackTimeout (n : Nat) (s : State) : Host.Outcome State Fault Refusal :=
  match s.query n with
  | some q => match q.batch with
    | some x =>
      if s.blocked (islLantern q.engine) ∨
          s.liveTick < x.since + 1000 * s.fld rLanternCfg fLanternCfgCallbackTimeoutUs then .next s
      else .next (s.setQuery (q.endBatch (fun _ => false) 1))
    | none => .next s
  | none => .next s

/-! Mutations (R212 to R216). -/

def mBlock (d : List Byte) : List Byte := (d.drop 0x40).take 64
def mOp (d : List Byte) : Nat := field (mBlock d) 0 1
def mShard (d : List Byte) : Nat := field (mBlock d) 2 1
def mNode (d : List Byte) : Nat := field (mBlock d) 4 4

/-- The version area of a shard, as a key. -/
def versionKey (x : Index) (j : Nat) : Nat := 2 ^ 56 * x.tent + (x.shard j).versionArea
def State.versions (s : State) (x : Index) (j : Nat) : List Version :=
  SMap.get (fun _ => []) s.dev.lantern.versions (versionKey x j)
def State.setVersions (s : State) (x : Index) (j : Nat) (l : List Version) : State :=
  s.modLantern fun y => { y with versions := SMap.set (fun _ => []) y.versions (versionKey x j) l }

/-- The lowest `n` free granules of a version area. -/
def State.freeVersions (s : State) (x : Index) (j n : Nat) : List Nat :=
  let used := (s.versions x j).map (·.addr)
  (((List.range (x.shard j).versionGranules).map fun i => (x.shard j).versionArea + 4096 * i).filter fun a =>
    !used.contains a).take n

/-- The mutation leg of a request has its turn on the shard: none of the shard runs, and none waits with an earlier stamp. -/
def State.mutationTurn (s : State) (r : Request) (x : Index) : Bool :=
  !s.allReqs.any fun p => p.seq != r.seq && p.legs.head? == some 9 && p.ended.isNone &&
    (match p.index with | some y => y.slot == x.slot && y.tent == x.tent | none => false) &&
    mShard p.desc == mShard r.desc && (p.started || p.admitReq.before r.admitReq)

/-- The newest version of a node: its directory entry, and the address, of a node that is present. -/
def newest (x : Index) (j node : Nat) : EM (Option DirEntry × Option Nat) := do
  match ← x.entry j node with
  | some e => return (some e, some e.addr)
  | none =>
    let a := x.homeGranule j node
    let s ← get
    match s.granuleThrough x.tent a with
    | .inr k => EM.stop (if k = trapDeviceRange then 0x41 else 0x40) a
    | .inl (b, bad) =>
      if bad then EM.stop 0x40 a true
      else return (none, if field b 0 2 = 1 ∧ field b 4 4 = node then some a else none)

/-- The neighbour list of a copy after the new node is linked (R213 step 3): the copy's bytes, or `none` where the
neighbour stays as it is. -/
def linkNode (x : Index) (b : List Byte) (node : Nat) (d : W32) : Option (List Byte) :=
  let ns := granuleNeighbours b
  let put (l : List (Nat × W32)) : List Byte :=
    let pad := List.replicate (48 - l.length) 0
    b.take 2 ++ leBytes 1 l.length ++ leBytes 1 0 ++ (b.drop 4).take 0x3C ++
      (l.map (·.1) ++ pad).flatMap (leBytes 4) ++ (l.map (fun e => e.2.toNat) ++ pad).flatMap (leBytes 4) ++ b.drop 0x1C0
  if ns.length < x.maxDegree then some (put (ns ++ [(node, d)]))
  else
    let far := (List.range ns.length).foldl (fun (m : Option Nat) i =>
      match m with
      | none => some i
      | some k => if scoreKey (ns.getD k (0, 0)).2 ≤ scoreKey (ns.getD i (0, 0)).2 then some i else some k) none
    match far with
    | none => none
    | some k => if scoreKey d < scoreKey (ns.getD k (0, 0)).2 then some (put (ns.set k (node, d))) else none

/-- The new node's granule (R213 step 4). -/
def newGranule (node : Nat) (ns : List (Nat × W32)) (vec : List Byte) : List Byte :=
  let pad := List.replicate (48 - ns.length) 0
  leBytes 2 1 ++ leBytes 1 ns.length ++ leBytes 1 0 ++ leBytes 4 node ++ List.replicate 0x38 0 ++
    (ns.map (·.1) ++ pad).flatMap (leBytes 4) ++ (ns.map (fun e => e.2.toNat) ++ pad).flatMap (leBytes 4) ++
    List.replicate 0x40 0 ++ vec ++ List.replicate (2048 - vec.length) 0 ++ List.replicate 1536 0

/-- The copies that link a node to its neighbours: node, address of the version copied, and bytes. -/
def linkCopies (x : Index) (j node : Nat) : List (Nat × W32) → EM (List (Nat × List Byte))
  | [] => return []
  | (n, d) :: ns => do
    let (_, at_) ← newest x j n
    let more ← linkCopies x j node ns
    match at_ with
    | none => return more
    | some a =>
      let g ← x.granule n a
      match linkNode x g node d with
      | none => return more
      | some b => return (n, b.take 0x18 ++ leBytes 8 a ++ b.drop 0x20) :: more

/-- Every node named finds a directory place within 64 probes (R217). -/
def placesFor (x : Index) (j : Nat) : List Nat → List Nat → EM (Option (List (Nat × Nat)))
  | [], _ => return some []
  | n :: ns, taken => do
    match ← x.probe j n taken 64 0 with
    | none => return none
    | some e =>
      match ← placesFor x j ns (e.place :: taken) with
      | none => return none
      | some l => return some ((n, e.place) :: l)

/-- The search of an INSERT (R213 steps 1 and 2): the new node's neighbours, in ascending distance. -/
def insertNeighbours (x : Index) (j snap : Nat) (vec : List W32) : EM (List (Nat × W32)) := do
  let k := min x.maxDegree x.insertL
  let a : SearchArgs := { index := x, k := k, depth := k, snap := snap }
  let y ← startSub a x.insertL j vec
  let y ← y.1.reading.foldlM (fun z n => land a n z) y
  let y ← runSub a 2048 y
  let (ns, _) ← rescoreNodes a j (y.1.beam.take k) {}
  let y ← ns.foldlM (fun (z : Sub) n => land a n (z.issue n)) y
  let l := (y.1.list a false ns).entries.map fun e => (e.id - (x.shard j).idBase, e.score)
  return sortBy (fun (p q : Nat × W32) => decide (scoreKey p.2 < scoreKey q.2)) (l.take x.maxDegree)

/-- What an INSERT writes before its commit, or the version granules that it lacks (R213, R217). -/
def insertNode (r : Request) (x : Index) : EM (Option Mutation) := do
  let d := r.desc
  let j := mShard d
  let node := mNode d
  let (e, at_) ← newest x j node
  if (x.shards.length ≤ j ∨ (x.shard j).nodes ≤ node) ∨ e.isSome ∨ at_.isSome then EM.stop 0x31 0
  let raw ← EM.read r.tent (field (mBlock d) 0x10 8) (2 * x.dim)
  let vec := halves x.fmt raw 0 x.dim
  let ns ← insertNeighbours x j r.admitReq.key vec
  let copies ← linkCopies x j node ns
  match ← placesFor x j (node :: copies.map (·.1)) [] with
  | none => EM.stop 0x31 0
  | some _ =>
    let all := (node, newGranule node ns raw) :: copies
    let s ← get
    let free := s.freeVersions x j all.length
    if free.length < all.length then return none
    let put := all.zip free
    put.forM fun e => EM.write x.tent e.2 e.1.2
    let c0 ← x.side 0 vec
    EM.write x.tent ((x.shard j).nodeTable0 + 40 * node) (c0.encode s.free ++ leBytes 8 (field (mBlock d) 8 8))
    if x.codes = 2 then
      let c1 ← x.side 1 vec
      EM.write x.tent ((x.shard j).nodeTable1 + 32 * node) (c1.encode (s.free + 32))
    modify fun s => { s.setVersions x j (s.versions x j ++ put.map fun e => ⟨e.2, e.1.1, none⟩) with free := s.free + 64 }
    return some { seq := r.seq, index := x, shard := j, versions := put.map fun e => (e.1.1, e.2) }

/-- The mutation leg starts (R212): the request, its index and engine, or `none` where it has no turn. -/
def State.mutationReady (s : State) (n op : Nat) : Option (Request × Option Index) :=
  match s.req n with
  | none => none
  | some r =>
    if r.legs.head? ≠ some 9 ∨ r.ended.isSome ∨ r.ready ∨ mOp r.desc ≠ op ∨ (s.dev.lantern.mutations.any (·.seq == n)) = true then none
    else match r.index with
      | none => some (r, none)
      | some x => if s.mutationTurn r x then some (r, some x) else none

/-- The engine that runs the mutations of a request's shard. -/
def mutationEngine (r : Request) (x : Index) : Nat := (x.shard (mShard r.desc)).owner

/-- The leg is started where it is not yet. -/
def State.mutationStart (s : State) (r : Request) (isl : Nat) : State := if r.started then s else s.legStart r.seq isl

/-- INDEX_INSERT (R213, R217). -/
def execIndexInsert (n : Nat) (s : State) : Host.Outcome State Fault Refusal :=
  match s.mutationReady n 1 with
  | none => .next s
  | some (r, none) => .next (s.endAt n 0x31 (islLantern (r.engine.getD 0)))
  | some (r, some x) =>
    let e := mutationEngine r x
    let isl := islLantern e
    if s.blocked isl then .next s
    else
      let s := s.mutationStart r isl
      match insertNode r x s with
      | .error err => .next (s.engFail n r.tent isl err)
      | .ok (some m, s) => .next (s.modLantern fun l => { l with mutations := l.mutations ++ [m] })
      | .ok (none, _) =>
        .next (if s.dev.lantern.stalled.contains n then s
          else (s.addFld (rLanternStatus e) fLanternStatusVersionStalls 1).modLantern fun l =>
            { l with stalled := l.stalled ++ [n] })

/-- A DELETE's outcome (R214): `none` no effect, else the mutation. -/
def deleteNode (r : Request) (x : Index) : EM (Option Mutation) := do
  let j := mShard r.desc
  let node := mNode r.desc
  if x.shards.length ≤ j ∨ (x.shard j).nodes ≤ node then EM.stop 0x31 0
  let (e, at_) ← newest x j node
  if at_.isNone then EM.stop 0x31 0
  else if (match e with | some e => e.deleted | none => false) then return none
  else match ← placesFor x j [node] [] with
    | none => EM.stop 0x31 0
    | some _ => return some { seq := r.seq, index := x, shard := j, delete := some node }

/-- INDEX_DELETE (R214). -/
def execIndexDelete (n : Nat) (s : State) : Host.Outcome State Fault Refusal :=
  match s.mutationReady n 2 with
  | none => .next s
  | some (r, none) => .next (s.endAt n 0x31 (islLantern (r.engine.getD 0)))
  | some (r, some x) =>
    let isl := islLantern (mutationEngine r x)
    if s.blocked isl then .next s
    else
      let s := s.mutationStart r isl
      match deleteNode r x s with
      | .error err => .next (s.engFail n r.tent isl err)
      | .ok (none, s) => .next (s.modReq n fun q => { q with ready := true })
      | .ok (some m, s) => .next (s.modLantern fun l => { l with mutations := l.mutations ++ [m] })

/-- Steps 2 to 5 of R215 with commit stamp `c`. -/
def commitMutation (m : Mutation) (c : Stamp) : EM Unit := do
  let x := m.index
  let sh := x.shard m.shard
  EM.write x.tent sh.directory (leBytes 8 1)
  m.versions.forM fun v => EM.write x.tent (v.2 + 8) c.bytes
  let names := (m.versions.map fun v => (v.1, v.2)) ++ (match m.delete with
    | some n => [(n, x.homeGranule m.shard n)]
    | none => [])
  names.forM fun v => do
    match ← x.probe m.shard v.1 [] 64 0 with
    | none => return ()
    | some e =>
      let addr := if m.delete.isSome ∧ e.used then e.addr else v.2
      EM.write x.tent e.place (leBytes 4 v.1 ++ leBytes 4 (if m.delete.isSome ∨ e.deleted then 3 else 1) ++ leBytes 8 addr ++
        (if m.delete.isSome then c.bytes else leBytes 16 e.stamp))
      if e.used then return ()
      else
        let u ← EM.read x.tent (sh.directory + 8) 8
        EM.write x.tent (sh.directory + 8) (leBytes 8 (leNat u + 1))
  EM.write x.tent sh.directory (leBytes 8 0)

/-- MUTATION_COMMIT (R215). -/
def execMutationCommit (n : Nat) (s : State) : Host.Outcome State Fault Refusal :=
  match s.req n, s.dev.lantern.mutations.find? (·.seq == n) with
  | some r, some m =>
    let isl := islLantern (mutationEngine r m.index)
    if r.ended.isSome ∨ s.blocked isl then .next s
    else
      let (c, s') := s.originate isl
      match commitMutation m c s' with
      | .error err => .next (s.engFail n r.tent isl err)
      | .ok ((), s) =>
        let mine := m.versions.map (·.2)
        let s := s.setVersions m.index m.shard ((s.versions m.index m.shard).map fun v =>
          if mine.contains v.addr then { v with commit := some c } else v)
        let s := s.modLantern fun l => { l with mutations := l.mutations.filter (·.seq != n) }
        .next (s.modReq n fun q => { q with result := c.bytes, ready := true })
  | _, _ => .next s

/-- A version is superseded for every active query of its index (R217). -/
def State.reclaimable (s : State) (x : Index) (l : List Version) (v : Version) : Bool :=
  match v.commit with
  | none => false
  | some c => l.any fun w => w.node == v.node && (match w.commit with
    | some d => c.before d && (s.dev.lantern.queries.all fun q =>
        !s.queryLive q || q.index.tent != x.tent || q.index.slot != x.slot || d.before q.snapshot)
    | none => false)

/-- VERSION_RECLAIM (R217): engine `e`, every RECLAIM_INTERVAL_US, for the shards it owns. -/
def execVersionReclaim (e : Nat) (s : State) : Host.Outcome State Fault Refusal :=
  if 4 * s.dev.desc.msds ≤ e ∨ s.blocked (islLantern e) ∨
      s.ao.tick < SMap.get (fun _ => 0) s.dev.lantern.reclaimed e +
        1000 * s.fld rLanternCfg fLanternCfgReclaimIntervalUs then .next s
  else
    let xs := (List.range 64).filterMap s.indexOf
    let s := xs.foldl (fun s x => (List.range x.shards.length).foldl (fun s j =>
      if (x.shard j).owner = e then
        let l := s.versions x j
        s.setVersions x j (l.filter fun v => !s.reclaimable x l v)
      else s) s) s
    .next (s.modLantern fun l => { l with reclaimed := SMap.set (fun _ => 0) l.reclaimed e s.ao.tick })

/-! Idempotence after a recovery (R422). -/

/-- A recovered mutation has taken effect: an INSERT whose node has a version, or a DELETE whose node has a delete stamp,
after the request's admission stamp. -/
def State.lanternDone (s : State) (r : Request) : Bool :=
  match r.index with
  | none => false
  | some x =>
    let j := mShard r.desc
    let node := mNode r.desc
    let look : EM Bool := do
      let (e, at_) ← newest x j node
      if mOp r.desc = 2 then return (match e with
        | some e => e.deleted && decide (r.admitReq.key < e.stamp)
        | none => false)
      else match at_ with
        | none => return false
        | some a =>
          let g ← x.granule node a
          return decide (r.admitReq.key < field g 8 16)
    match look s with
    | .ok (b, _) => b
    | .error _ => false

/-! Ground truth (R218). -/

/-- The BF16 distance of TR.CMP: SQD for L2, MAC for inner product. -/
def truthScore (x : Index) (q v : List W32) : W32 :=
  let w2 : W64 := BitVec.ofNat 64 (7 * 2 ^ 9 + 7 * 2 ^ 13 + (if x.inner then 0 else 1) * 2 ^ 38)
  (q.zip v).foldl (fun a e => fadd a (laneTerm w2 (bf16 e.1) (bf16 e.2))) 0

/-- The nodes of a shard that the pass streams: present, not deleted, passing the clauses; with their vectors. -/
def truthNodes (a : SearchArgs) (j : Nat) : List Nat → EM (List (Nat × List W32))
  | [] => return []
  | n :: ns => do
    let x := a.index
    let more ← truthNodes a j ns
    let (_, at_) ← newest x j n
    if at_.isNone then return more
    let (pass, gone) ← nodeTest a j n
    if !pass || gone then return more
    -- a node whose insert is not visible has no version before the snapshot
    let s ← get
    match x.visible j n a.snap s with
    | .ok ((g, _), _) => return ((x.shard j).idBase + n, x.granuleVector g) :: more
    | .error (.stop 0x40 _ true) => return more
    | .error e => throw e

/-- The brute-force list of one query vector (R163, R218). -/
def truthList (x : Index) (k : Nat) (q : List W32) (ns : List (Nat × List W32)) : ResList :=
  let r := ns.foldl (fun (r : ResList × Nat) e => runningInsert r.1 r.2 ⟨truthScore x q e.2, e.1⟩)
    (({ k := k, keyType := 0, smallest := !x.inner } : ResList), 0)
  r.1.finish r.2

/-- GROUND_TRUTH_PASS (R218): the leg's result is the search lists and the recall record. -/
def execGroundTruthPass (n : Nat) (s : State) : Host.Outcome State Fault Refusal :=
  match s.req n, s.query n with
  | some r, some q =>
    let isl := islSequencer r.home
    let b := qBlock r.desc
    if !r.inLeg 4 ∨ q.lists = [] ∨ s.blocked isl then .next s
    else
      let a := q.args b
      let res : Except EngErr (List (List (Nat × List W32)) × State) :=
        ((List.range q.index.shards.length).mapM fun j => truthNodes a j (List.range (q.index.shard j).nodes)) s
      match res with
      | .error err => .next (s.engFail n r.tent isl err)
      | .ok (ns, s) =>
        let ns := ns.flatten
        let m := max q.index.shards.length 1
        let brute := (List.range q.lists.length).map fun v => truthList q.index a.k ((q.subs.getD (v * m) {}).vec) ns
        let pairs := q.lists.zip brute
        let hits := pairs.foldl (fun h p => h + (p.1.entries.filter fun e => p.2.entries.any fun f => f.id == e.id).length) 0
        let denom := brute.foldl (fun h l => h + min a.k l.entries.length) 0
        let rec_ := leBytes 4 q.lists.length ++ leBytes 4 a.k ++ leBytes 8 hits ++ leBytes 8 denom ++ leBytes 8 ns.length ++
          leBytes 4 (brute.filter (·.tied)).length ++ List.replicate 28 0
        .next ((s.dropQuery n).modReq n fun p => { p with
          list := q.lists.headD {}, result := q.lists.flatMap ResList.bytes ++ rec_, ready := true })
  | _, _ => .next s

end Sys2Proof.Machine
end

