-- ==== Sys2Proof/Machine/Resets.lean ====
section
/-! DEFINITION. The resets as shared operations (R243, R561 to R565, R587) and the power cap (R541). -/

namespace Sys2Proof.Machine

/-! What a warm reset keeps (R562, R15, R517). -/

/-- Registers whose RO fields a warm reset keeps: what start-up steps 1 to 3 and 5 and Lookout set, what the HBM that is kept
stands for, and what counts from the cold reset. -/
def warmKeeps (off : Nat) : Bool :=
  [rDevId, rDevAssembly, rDevCap, rFabDeviceNum, rTimePtpOffset, rTimePtpStatus, rTimePtpBase, rJrnlHead, rJrnlMirrorPeer, rLanternWork,
    rTblWork, rTblWork + 8, rMemHostRegion, rMemPtpool, rSecId, rSecState, rRasRemapStatus, rObsTraceBase, rObsTraceSize,
    rObsTraceLost, rFwArea, rPwrCapW, rPwrDuty, rPwrPower, rPwrTripStatus, rObsAoTemp].contains off ||
    (decide (rMemPanelTableBase 0 ≤ off) && decide (off < rMemPanelTableBase 64)) ||
    (decide (rSecFloor 1 ≤ off) && decide (off ≤ rSecFloor 4)) ||
    (decide (rRasClassCount 1 ≤ off) && decide (off ≤ rRasClassCount 17)) ||
    (decide (rObsAoBay 0 ≤ off) && decide (off < rObsAoTemp)) ||
    (List.range 16).any fun l => off == rFabLinkCounts l

/-- A register after a warm reset. -/
def warmReg (off : Nat) (old : W64) : W64 :=
  match findReg off (regBlock off) with
  | none => 0
  | some (r, _, _) =>
    r.flds.foldl (fun x f =>
      let keep := f.acc = .rws ∨ (f.acc = .ro ∧ warmKeeps off)
      setBits x f.lo f.w (if keep then getBits old f.lo f.w else f.reset)) 0

/-- Islands after a reset: their clocks run, and no stamp of the epoch is given twice. -/
def freshIslands (m : SMap Island) : SMap Island :=
  SMap.mapVals (fun _ => {}) (fun (i : Island) => { lastTick := i.lastTick, nextSeq := i.nextSeq }) m

/-- A panel after a warm reset (R243): an inbound one is FLASH again, an outbound one RESIDENT with the DIRTY bits it had. -/
def Panel.afterWarm (p : Panel) (began : BitVec 16) : Panel :=
  if p.state = 3 then { p with state := 2, hbm := 0 }
  else if p.state = 4 then { p with state := 1, dirty := p.dirty ||| began }
  else p

/-- DIRTY of a panel when the write-back in flight began. -/
def State.beganDirty (s : State) (t v : Nat) : BitVec 16 :=
  match (s.dev.mem.mig.flatMap fun e => e.2.flight).find? fun m => m.out && m.tent == t && m.panel == v with
  | some m => m.beganDirty
  | none => 0

/-- The retention record of a tent whose panel table is VALID; a table that no ACTIVATE has reattached keeps its record. -/
def State.retain (s : State) (t : Nat) : Retention :=
  match (s.table t).retention with
  | some r => r
  | none =>
    { stackMask := s.tentStacks t, interleave := s.tentInterleave t, quota := s.quota t, flashEnable := s.flashEnabled t
      flashSet := s.fld (rTentFlash t) fTentFlashSet, baseK := s.fld (rTentFlash t) fTentFlashBaseK
      countK := s.fld (rTentFlash t) fTentFlashCountK, keyId := (s.tent t).keyId }

/-- The memory that a warm reset keeps. -/
def State.warmMem (s : State) : MemSt :=
  let m := s.dev.mem
  let valid (t : Nat) : Bool := s.flag (rMemPanelTableBase t) fMemPanelTableBaseValid
  let tables := m.tables.map fun e => (e.1,
    if valid e.1 then { e.2 with
      panels := e.2.panels.map fun p => (p.1, p.2.afterWarm (s.beganDirty e.1 p.1)), retention := some (s.retain e.1) }
    else e.2)
  let inbound := m.tables.flatMap fun e => (e.2.panels.filter fun p => p.2.state == 3).map fun p => p.2.hbm
  { host := m.host, hbm := m.hbm, flips := m.flips, tables := tables
    phys := inbound.foldl (fun p h => SMap.set (fun _ => none) p h none) m.phys
    carved := m.carved, controlBase := m.controlBase, reserveSlot := m.reserveSlot, unread := m.unread }

/-- Bays retired in operation stay so (R494). -/
def State.markRetired (s : State) : State :=
  (List.range 256).foldl (fun s n =>
    if s.nv.retiredBays.contains (s.bayIsland n) then s.setBay n { s.bay n with retired := true } else s) s

/-- The RAS unit writes what it holds (R587). -/
def State.flushLog (s : State) : State :=
  let cs := s.dev.ras.coalescing
  let s := cs.foldl (fun s c => s.logTake c.record) (s.modRas fun x => { x with coalescing := [] })
  let rs := s.dev.ras.arrived
  let s := rs.foldl (fun s r => s.logTake r) (s.modRas fun x => { x with arrived := [] })
  (if s.flag rRasLogBase fRasLogBaseValid then s.pollLogConsumer else s).logDrain 1026

/-- Cause code of the FAILSAFE in effect. -/
def State.failsafeCause (s : State) : Nat := if s.failsafe then s.fld rRasFailsafe fRasFailsafeCause else 0

/-- The islands named in R562 are reset, and start-up resumes at step 4 (R564, R587). -/
def State.warmReset (s : State) (source : Nat) : State :=
  let s := s.flushLog.trimLog
  let ras := s.dev.ras
  let lost := ras.held.length + ras.lossCount
  let first := match ras.lossFirst, ras.held with
    | some a, _ => some a
    | none, r :: _ => some r.stamp
    | none, [] => none
  let cause := s.failsafeCause
  let j := s.dev.jrnl
  let o := s.dev.obs
  let frozen := s.ao.tick - s.liveTick
  let regs := s.dev.regs.filterMap fun e =>
    let v := warmReg e.1 e.2
    if v = regReset e.1 then none else some (e.1, v)
  let dev : Device :=
    { regs := regs, desc := s.dev.desc, islands := freshIslands s.dev.islands, freeze := { frozenTicks := frozen }
      ras := { logSeq := ras.logSeq, lossFirst := first, lossCount := lost, scrubLine := ras.scrubLine, scrubPass := ras.scrubPass }
      mem := s.warmMem
      obs := { engines := o.engines, snapshots := o.snapshots, reserveMib := o.reserveMib, fwSeq := o.fwSeq }
      adm := { nextSeq := s.ao.seqMark + 1 }
      jrnl := { log := j.log, nextId := j.nextId, incoming := j.incoming, areaGib := j.areaGib }
      lantern := { versions := s.dev.lantern.versions }, sec := {}, look := { s.dev.look with basecamp := false } }
  let ao := { s.ao with
    causeKind := 2, causeSource := source, causeFailsafe := cause, startStep := 4, startFailed := false, startHold := false
    warm := none, s1Pending := false, wakeLatched := none, logDropped := lost, logDroppedFirst := first }
  let s : State := { s with ao := ao, dev := dev }
  let s := (List.range 64).foldl (fun s t =>
    if s.flag (rMemPanelTableBase t) fMemPanelTableBaseValid then
      s.setFlag (rMemPanelTableBase t) fMemPanelTableBaseRetained true
    else s) s
  let s := s.setFlag rSecState fSecStateConsentActive false
  let s := (s.setFlag rJrnlMirrorPeer fJrnlMirrorPeerConnected false).setFlag rJrnlMirrorPeer fJrnlMirrorPeerResync false
  ((s.setFld rRasLogStatus fRasLogStatusLost ras.held.length).setFlag rRasLogStatus fRasLogStatusOverflow
    (!ras.held.isEmpty)).markRetired

/-- A reset ends the freeze in hand (R561); the ticks from T to now stop counting. -/
def State.endFreeze (s : State) : State :=
  if s.freezeState = 0 then s
  else
    let f : FreezeSt := { frozenTicks := s.ao.tick - s.liveTick }
    ({ s with dev := { s.dev with freeze := f } } : State).freezeIdle

/-! Cold and power-on resets (R562, R565). -/

/-- The area sizes that take effect at the next cold reset are kept over it (R417, R518, R583). -/
def State.keepAreas (s old : State) : State :=
  (s.setFld rJrnlCfg fJrnlCfgAreaGib (old.fld rJrnlCfg fJrnlCfgAreaGib)).setFld rObsTraceSize fObsTraceSizeAreaMib
    (old.fld rObsTraceSize fObsTraceSizeAreaMib)

/-- Every domain but the always-on one is reset, and the main rails go; start-up goes to `step`, 0 while held. -/
def State.coldReset (s : State) (kind source step : Nat) : State :=
  let cause := if s.ao.thermalOff.isSome then s.ao.causeFailsafe else s.failsafeCause
  let dev : Device := { islands := freshIslands s.dev.islands, adm := { nextSeq := s.ao.seqMark + 1 } }
  ({ s with
    dev := dev
    ao := { s.ao with
      causeKind := kind, causeSource := source, causeFailsafe := cause, startStep := step, startFailed := false
      startHold := false, warm := none, mainEn := false, heldInReset := false, cmpDone0 := false, cmpDone1 := false
      s1Pending := false, s1 := false, wakeLatched := none, thermalOff := none, thermAlertN := true, alertUntil := 0
      trip1Once := false, logDropped := 0, logDroppedFirst := none } } : State).keepAreas s

/-- Everything is reset: the tick count restarts and a new epoch begins (R37, R39). -/
def State.powerOn (s : State) (source : Nat) : State :=
  { s with
    dev := {}
    ao := { epoch := s.ao.epoch + 1, causeSource := source, startStep := 1, bootSelPins := s.ao.bootSelPins
            pkgResetN := s.ao.pkgResetN } }

/-- Rank of the reset in progress, 0 for none: 1 warm, 2 cold, 3 power-on (R561).  A reset is in progress until its start-up
reaches step 6, where Basecamp starts. -/
def State.resetRank (s : State) : Nat :=
  if s.ao.warm.isSome then 1
  else if s.ao.startStep = 0 ∨ 6 ≤ s.ao.startStep ∨ s.ao.startFailed ∨ s.ao.startHold then 0
  else if s.ao.causeKind = 2 then 1 else if s.ao.causeKind = 0 then 3 else 2

/-- A cold reset that a request asks for. -/
def State.requestCold (s : State) (source : Nat) : State :=
  if 2 ≤ s.resetRank ∨ s.ao.s1 ∨ s.ao.startStep = 0 then s else s.coldReset 1 source 1

/-- A warm reset that a request asks for: admission stops fetching, a freeze ends and the part drains (R561, R564); in recovery start-up no die is
powered, and Lookout logs the request (R568). -/
def State.requestWarm (s : State) (source : Nat) : State :=
  if s.ao.bootSel = 2 then s.mgmtLog 11 3
  else if 1 ≤ s.resetRank ∨ s.ao.s1 ∨ s.ao.startStep < 4 then s
  else
    let (st, s) := s.endFreeze.originate islAlwaysOn
    { s with ao := { s.ao with warm := some (st.tick, source) } }

/-! The power cap (R541). -/

/-- The value that Lookout writes to PWR_CAP_W. -/
def State.capWatts (s : State) : Nat :=
  let e := s.dev.desc.envelope
  min (s.nv.mgmt.operatorCap.getD e) (e - e * 5 * s.dev.look.capSteps / 100)

/-- Write PWR_CAP_W; a change makes an entry of the given type in the management log. -/
def State.writeCap (s : State) (type source keyTag : Nat) : State :=
  if s.fld rPwrCapW fPwrCapWWatts = s.capWatts then s
  else (s.setFld rPwrCapW fPwrCapWWatts s.capWatts).mgmtLog type 0 source keyTag s.capWatts

end Sys2Proof.Machine
end

