-- ==== Sys2Proof/Machine/Power.lean ====
section
/-! DEFINITION. Power states, the always-on comparators, the duty controller, reset requests, start-up and the timer compares
(chapter 20 of the spec, R47). -/

namespace Sys2Proof.Machine

/-! Power states (R550 to R555). -/

def State.setPwrState (s : State) (n : Nat) : State := s.setFld rPwrState fPwrStateCurrent n
def State.inA2 (s : State) : Bool := s.fld rPwrState fPwrStateCurrent == 2

/-- REQUEST_A0. -/
def execRequestA0 (s : State) : Host.Outcome State Fault Refusal := .next s.leaveA2

/-- A request of A2 is refused (R553). -/
def State.a2Refused (s : State) : Bool :=
  ((List.range 64).any fun t => decide (2 ≤ s.tentState t)) || (s.dev.mem.mig.any fun e => !e.2.flight.isEmpty) ||
    s.freezeState != 0 || s.failsafe

/-- A bay as power gating leaves it: its memories lose their contents (R552), its window reads what it held (R577). -/
def Bay.gate (b : Bay) : Bay :=
  { tent := b.tent, retired := b.retired, gated := true, truss := { b.truss with queue := [], lists := [] }
    selCounts := b.selCounts, trapCount := b.trapCount, trapCause := b.trapCause, trapSlot := b.trapSlot, trapPc := b.trapPc
    dmaLast := b.dmaLast, dmaIndex := b.dmaIndex, dmaCause := b.dmaCause }

/-- A bay is power-gated (R552). -/
def State.gateBay (s : State) (n : Nat) : State :=
  let b := s.bay n
  (s.setBay n b.gate).setIsl (s.bayIsland n)
    ((s.isl (s.bayIsland n)).sleep s.ao.tick)

/-- REQUEST_A2: every bay is gated, and the stacks enter self-refresh. -/
def execRequestA2 (s : State) : Host.Outcome State Fault Refusal :=
  if s.a2Refused then .next (s.setFlag rPwrState fPwrStateRefused true)
  else if s.inA2 then .next s
  else
    let s := (List.range 256).foldl State.gateBay s
    .next ((s.modMem fun m => { m with
      selfRefresh := (List.range s.dev.desc.stackCount).map fun σ => (σ, true) }).setPwrState 2)

/-- A flash set has a write in progress. -/
def State.flashWriting (s : State) : Bool := !s.dev.mem.nvme.isEmpty || !s.dev.jrnl.writing.isEmpty

/-- A request of S1 is refused (R554). -/
def State.s1Refused (s : State) : Bool :=
  s.a2Refused || ((List.range 64).any fun t => s.tentState t != 0) ||
    s.flag rJrnlMirrorPeer fJrnlMirrorPeerSource0Valid || s.flag rJrnlMirrorPeer fJrnlMirrorPeerSource1Valid || s.flashWriting

/-- REQUEST_S1: the wake settings are latched, and S1 entry begins. -/
def execRequestS1 (s : State) : Host.Outcome State Fault Refusal :=
  if s.s1Refused then .next (s.setFlag rPwrState fPwrStateRefused true)
  else if s.ao.s1Pending then .next s
  else
    let s := s.setFlag rPwrState fPwrStateTransition true
    .next { s with ao := { s.ao with
      s1Pending := true, s1Since := s.ao.tick
      s1Wake0 := s.flag rPwrWakeCfg fPwrWakeCfgCmp0Wake, s1Wake1 := s.flag rPwrWakeCfg fPwrWakeCfgCmp1Wake
      s1Cmp0 := s.rd rTimeCmp0, s1Cmp1 := s.rd rTimeCmp1 } }

/-- Only the always-on domain runs: everything else has lost its power. -/
def State.enterS1 (s : State) : State :=
  ({ s with
    dev := { islands := freshIslands s.dev.islands }
    ao := { s.ao with mainEn := false, s1 := true, s1Pending := false, startStep := 0, warm := none } } : State).keepAreas s

/-- A wake from S1: a cold start (R555). -/
def State.wake (s : State) (source : Nat) : State := s.coldReset 3 source 1

/-- S1_ENTRY: every Basecamp core is halted, or 10 ms have passed; a wake that was latched begins at once. -/
def execS1Entry (halted : Bool) (s : State) : Host.Outcome State Fault Refusal :=
  if !s.ao.s1Pending ∨ (!halted ∧ s.ao.tick < s.ao.s1Since + 10000000) then .next s
  else match s.ao.wakeLatched with
    | some src => .next (s.enterS1.wake src)
    | none => .next s.enterS1

/-- An island has no work and its couplers are empty (R550). -/
def State.islandIdle (s : State) (n : Nat) : Bool :=
  (s.dev.couplers.all fun e => e.1 % 4096 != n || e.2.isEmpty) && (SMap.get (fun _ => []) s.dev.inbox n).isEmpty &&
    ((List.range 256).all fun b => s.bayIsland b != n || ((s.bay b).resident.isEmpty && (s.bay b).launchq.isEmpty &&
      (s.bay b).truss.queue.isEmpty && (s.bay b).selq.isEmpty && (s.bay b).smpq.isEmpty &&
      (s.bay b).dma.all fun c => c.2.queue.isEmpty))

/-- ISLAND_CLOCK_STOP (R550): an island other than the always-on domain, without work for 1,000 ticks. -/
def execIslandClockStop (n : Nat) (s : State) : Host.Outcome State Fault Refusal :=
  let i := s.isl n
  if !s.isIsland n ∨ n = islAlwaysOn ∨ i.stopped ∨ s.ao.tick < i.idleSince + 1000 ∨ !s.islandIdle n then .next s
  else .next (s.setIsl n (i.sleep s.ao.tick))

/-- ISLAND_CLOCK_RESTART (R550): an item has arrived at one of its couplers. -/
def execIslandClockRestart (n : Nat) (s : State) : Host.Outcome State Fault Refusal :=
  let i := s.isl n
  let arrived := (s.dev.couplers.any fun e => e.1 % 4096 == n && !e.2.isEmpty) || !(SMap.get (fun _ => []) s.dev.inbox n).isEmpty
  let gated := (List.range 256).any fun b => s.bayIsland b == n && (s.bay b).gated
  if i.stopped ∧ arrived ∧ !gated then .next (s.setIsl n (i.wake s.ao.tick)) else .next s

/-- STACK_WAKE (R553): an access in A2 brings stack `σ` out of self-refresh. -/
def execStackWake (σ : Nat) (s : State) : Host.Outcome State Fault Refusal :=
  if !s.inA2 ∨ s.dev.desc.stackCount ≤ σ then .next s
  else .next (s.modMem fun m => { m with
    selfRefresh := SMap.set (fun _ => false) m.selfRefresh σ false
    lastAccess := SMap.set (fun _ => 0) m.lastAccess σ s.ao.tick })

/-- STACK_SELF_REFRESH (R553): 100 µs without an access. -/
def execStackSelfRefresh (σ : Nat) (s : State) : Host.Outcome State Fault Refusal :=
  if !s.inA2 ∨ s.dev.desc.stackCount ≤ σ ∨ s.ao.tick < SMap.get (fun _ => 0) s.dev.mem.lastAccess σ + 100000 then .next s
  else .next (s.modMem fun m => { m with selfRefresh := SMap.set (fun _ => false) m.selfRefresh σ true })

/-- A wake event with its SOURCE (R555). -/
def State.wakeEvent (s : State) (source : Nat) : State :=
  if s.ao.s1Pending then
    { s with ao := { s.ao with wakeLatched := some (s.ao.wakeLatched.getD source) } }
  else if s.ao.s1 then
    match s.ao.thermalOff with
    | none => s.wake source
    | some t => if source = 6 ∧ t + 1000000000 ≤ s.ao.tick then s.wake 5 else s
  else s.leaveA2

/-- WAKE_EVENT: a falling edge of WAKE_N. -/
def execWakeEvent (s : State) : Host.Outcome State Fault Refusal := .next (s.wakeEvent 6)

/-! Timer compares (R47, R556). -/

def State.cmpReg (k : Nat) : Nat := if k = 0 then rTimeCmp0 else rTimeCmp1
def State.cmpDone (s : State) (k : Nat) : Bool := if k = 0 then s.ao.cmpDone0 else s.ao.cmpDone1
def State.setCmpDone (s : State) (k : Nat) (b : Bool) : State :=
  { s with ao := if k = 0 then { s.ao with cmpDone0 := b } else { s.ao with cmpDone1 := b } }

/-- Comparator `k` fires: CMP_FIRED, a management log record whose TYPE the spec leaves open, and the wake. -/
def State.cmpFire (s : State) (k : Nat) : State :=
  let s := s.setCmpDone k true
  let b := s.fld rPwrTripStatus fPwrTripStatusCmpFired
  let s := s.setFld rPwrTripStatus fPwrTripStatusCmpFired (setBit b k true)
  let (x, s) := s.drawFree
  let s := s.mgmtLog (x % 2 ^ 16) 0 0 0 k
  if s.flag rPwrWakeCfg (if k = 0 then fPwrWakeCfgCmp0Wake else fPwrWakeCfgCmp1Wake) then s.wakeEvent (7 + k) else s

/-- TIME_CMP_WRITE: a write of `v` to TIME_CMP `k`; a value at or below TIME_NOW fires at once. -/
def execTimeCmpWrite (k : Nat) (v : W64) (s : State) : Host.Outcome State Fault Refusal :=
  if 2 ≤ k then .next s
  else
    let s := (s.wr (State.cmpReg k) v).setCmpDone k false
    .next (if v.toNat ≤ s.ao.tick then s.cmpFire k else s)

/-- TIME_CMP_FIRE: the first tick at or above the value; in S1 the values latched at its request act. -/
def execTimeCmpFire (k : Nat) (s : State) : Host.Outcome State Fault Refusal :=
  if 2 ≤ k ∨ s.cmpDone k then .next s
  else if s.ao.s1 then
    let on := if k = 0 then s.ao.s1Wake0 else s.ao.s1Wake1
    let v := if k = 0 then s.ao.s1Cmp0 else s.ao.s1Cmp1
    .next (if v.toNat ≤ s.ao.tick ∧ s.ao.thermalOff.isNone then
        (if on then (s.setCmpDone k true).wake (7 + k) else s.setCmpDone k true)
      else s)
  else .next (if (s.rd (State.cmpReg k)).toNat ≤ s.ao.tick then s.cmpFire k else s)

/-! The always-on comparators (R556, R557). -/

/-- Trip and clear levels of TRIP0 to TRIP3, in °C. -/
def tripLevel (k : Nat) : Nat := [100, 103, 105, 110].getD k 0
def tripClear (k : Nat) : Nat := [95, 98, 105, 110].getD k 0

/-- TRIP_ACTIVE after a reading. -/
def tripsAfter (active : Nat) (t : Int) : Nat :=
  (List.range 4).foldl (fun a k =>
    if (tripLevel k : Int) ≤ t then setBit a k true else if t < (tripClear k : Int) then setBit a k false else a) active

/-- The record of a trip or a supply fault. -/
def envRec (unit : Nat) : ErrRec := { detector := 0x0D00 + unit, severity := 3 }

/-- TRIP `k` fires. -/
def State.tripFire (s : State) (k : Nat) (injected : Bool) : State :=
  let s := s.setFld rPwrTripStatus fPwrTripStatusTripSeen (setBit (s.fld rPwrTripStatus fPwrTripStatusTripSeen) k true)
  if k = 0 then
    let s := (s.log islAlwaysOn (envRec 0)).mgmtLog 6
    if injected then { s with ao := { s.ao with alertUntil := s.ao.tick + 1000000 } } else s
  else if k = 1 then
    let s := s.log islAlwaysOn (envRec 1)
    if injected then { s with ao := { s.ao with trip1Once := true } } else s
  else if k = 2 then s.enterFailsafe islAlwaysOn (envRec 2) 7 none
  else
    let cause := s.failsafeCause
    let s := s.enterS1
    { s with ao := { s.ao with causeKind := 3, causeSource := 5, causeFailsafe := cause, thermalOff := some s.ao.tick } }

/-- AO_SENSOR_READ: `temps` are the readings of the die sensors in °C. -/
def execAoSensorRead (temps : List Int) (s : State) : Host.Outcome State Fault Refusal :=
  if s.ao.s1 ∨ s.ao.startStep = 0 then .next s
  else
    let (top, sensor) := ((List.range temps.length).zip temps).foldl
      (fun (b : Int × Nat) e => if b.1 < e.2 then (e.2, e.1) else b) (temps.headD 0, 0)
    let old := s.fld rPwrTripStatus fPwrTripStatusTripActive
    let new := tripsAfter old top
    let s := s.setFld rPwrTripStatus fPwrTripStatusTripActive new
    let now := (BitVec.ofInt 8 top).toNat
    let s := s.setFld rObsAoTemp fObsAoTempMaxNow now
    let s := if s.fld rObsAoTemp fObsAoTempPeak < now then
        (s.setFld rObsAoTemp fObsAoTempPeak now).setFld rObsAoTemp fObsAoTempPeakSensor sensor
      else s
    let s := (List.range 4).foldl (fun s k =>
      let inj := s.armedAt islAlwaysOn (0x0D00 + k)
      let s := if inj ∧ k = 3 then (s.fire islAlwaysOn 0x0D03).2 else s
      if !s.ao.s1 ∧ (inj ∨ (new.testBit k ∧ !old.testBit k)) then s.tripFire k (inj && !new.testBit k) else s) s
    .next { s with ao := { s.ao with thermAlertN := decide (new = 0) && decide (s.ao.alertUntil ≤ s.ao.tick) } }

/-- SUP0_FAULT. -/
def execSup0Fault (s : State) : Host.Outcome State Fault Refusal :=
  if s.ao.s1 ∨ !s.ao.mainEn then .next s
  else
    let b := s.fld rPwrTripStatus fPwrTripStatusSupSeen
    .next ((s.setFld rPwrTripStatus fPwrTripStatusSupSeen (setBit b 0 true)).enterFailsafe islAlwaysOn (envRec 4) 7 none)

/-- SUP1_RESET: a power-on reset. -/
def execSup1Reset (s : State) : Host.Outcome State Fault Refusal := .next (s.powerOn 4)

/-! Duty (R558, R559, R569). -/

/-- D after an update at package power `p` under `cap`, both in milliwatts. -/
def dutyNext (trip1 : Bool) (p cap d ceil : Nat) : Nat :=
  if trip1 then 0
  else if cap < p then d - (256 * (p - cap) + cap - 1) / cap
  else if 100 * p < 97 * cap then min ceil (d + 4)
  else d

/-- DUTY_UPDATE: the telemetry gives package power `p` in milliwatts. -/
def execDutyUpdate (p : Nat) (s : State) : Host.Outcome State Fault Refusal :=
  if s.ao.s1 ∨ s.ao.startStep < 4 then .next s
  else
    let cap := 1000 * min s.dev.desc.envelope (s.fld rPwrCapW fPwrCapWWatts)
    let trip1 := (s.fld rPwrTripStatus fPwrTripStatusTripActive).testBit 1 || s.ao.trip1Once
    let d := dutyNext trip1 p cap (s.fld rPwrDuty fPwrDutyDuty) s.dev.desc.dutyCeil
    let s : State := { s with ao := { s.ao with trip1Once := false } }
    let s := s.setFld rPwrDuty fPwrDutyDuty d
    let s := s.setFld rPwrDuty fPwrDutyDutyMin (min d (s.fld rPwrDuty fPwrDutyDutyMin))
    let s := (s.setFld rPwrPower fPwrPowerPowerMw p).setFld rPwrPower fPwrPowerPeakMw (max p (s.fld rPwrPower fPwrPowerPeakMw))
    let t := s.dev.throttle + if d < s.dev.desc.dutyCeil then 10000 else 0
    let s := s.addFld rPwrDuty fPwrDutyThrottleMs (t / 1000000)
    .next { s with dev := { s.dev with throttle := t % 1000000 } }

/-- DUTY_MIN_CLEAR. -/
def execDutyMinClear (s : State) : Host.Outcome State Fault Refusal :=
  .next (s.setFld rPwrDuty fPwrDutyDutyMin (s.fld rPwrDuty fPwrDutyDuty))

/-! Reset requests (R561, R562, R565, R569). -/

/-- A write of `v` to PWR_RESET carries the key. -/
def resetKey (v : W64) : Bool := getBits v fPwrResetKey.1 fPwrResetKey.2 == 0xA5

/-- PWR_RESET_WARM. -/
def execPwrResetWarm (v : W64) (s : State) : Host.Outcome State Fault Refusal :=
  .next (if resetKey v ∧ getBits v 0 2 = 1 then s.requestWarm 2 else s)

/-- PWR_RESET_COLD. -/
def execPwrResetCold (v : W64) (s : State) : Host.Outcome State Fault Refusal :=
  .next (if resetKey v ∧ getBits v 0 2 = 2 then s.requestCold 2 else s)

/-- PKG_RESET_ASSERT: PKG_RESET_N has been low for 10 µs; the part stays in reset while it is. -/
def execPkgResetAssert (s : State) : Host.Outcome State Fault Refusal :=
  let early : Bool := match s.ao.thermalOff with
    | some t => decide (s.ao.tick < t + 1000000000)
    | none => false
  if early ∨ s.ao.heldInReset then .next s
  else
    let s := s.coldReset 1 1 0
    .next { s with ao := { s.ao with heldInReset := true, pkgResetN := false } }

/-- PKG_RESET_RELEASE: the rising edge begins step 1. -/
def execPkgResetRelease (s : State) : Host.Outcome State Fault Refusal :=
  if !s.ao.heldInReset then .next s
  else .next { s with ao := { s.ao with heldInReset := false, pkgResetN := true, startStep := 1 } }

/-- AON_POWER_GOOD: the always-on rails are good. -/
def execAonPowerGood (s : State) : Host.Outcome State Fault Refusal := .next (s.powerOn 0)

/-! Start-up (R566 to R568). -/

/-- The image that a start takes for a component: the pending one, whose attempt is counted, or the active one where none is
pending or three attempts have failed (R548). -/
def State.bootImage (s : State) (c : Nat) : Image × State :=
  let m := s.nv.mgmt
  let old := SMap.get (fun _ => {}) m.active c
  match SMap.get (fun _ => none) m.pending c with
  | none => (old, s)
  | some p =>
    let n := SMap.get (fun _ => 0) m.attempts c
    if 3 ≤ n then
      let s := s.modMgmt fun m => { m with
        pending := SMap.set (fun _ => none) m.pending c none, attempts := SMap.set (fun _ => 0) m.attempts c 0 }
      (old, s.mgmtLog 9 0 3 0 c p.svn)
    else (p, s.modMgmt fun m => { m with attempts := SMap.set (fun _ => 0) m.attempts c (n + 1) })

/-- Verify the image that a start takes: whether it is accepted.  `ok` is the result for an image as delivered. -/
def State.bootVerify (s : State) (c : Nat) (ok : Bool) : Bool × Image × State :=
  let (i, s) := s.bootImage c
  let r := if s.armedAt islLookout 0x0F01 ∨ !ok then 3 else if i.bytes = [] then 0 else s.imageResult c i.bytes
  let s := if r = 0 then s else s.log islLookout { detector := 0x0F01, severity := 3, action := 12, detail := r }
  let (st, s) := s.originate islLookout
  let s := s.measureImage c i.svn (r == 0) st (Config.sha3 i.bytes)
  (r == 0, i, if r = 0 then s.setFld (rSecFloor c) fSecFloorRunningSvn i.svn else s)

/-- The registers that the assembly descriptor fills (R5, R569, R578). -/
def State.loadDescriptor (s : State) : State :=
  let d := s.nv.desc
  let s : State := { s with dev := { s.dev with desc := d } }
  let f (s : State) (off : Nat) (b : Nat × Nat) (v : Nat) : State := s.setFld off b v
  let a := rDevAssembly
  let s := f (f (f (f s a fDevAssemblyPartNumber d.part) a fDevAssemblyHbmStacks d.stackCount) a fDevAssemblyMsdCount d.msds)
    a fDevAssemblyIodCount d.iods
  let s := f (f (f (f s a fDevAssemblyFabricLinks d.links) a fDevAssemblyBasecampCores d.cores) a fDevAssemblyComputeDies 4)
    a fDevAssemblyDescFormat d.format
  let s := f (f (f s rDevId fDevIdComputeStep d.computeStep) rDevId fDevIdMsdStep d.msdStep) rDevId fDevIdIodStep d.iodStep
  let s := f (f (f s rPwrDuty fPwrDutyDuty d.dutyCeil) rPwrDuty fPwrDutyDutyCeil d.dutyCeil) rPwrDuty fPwrDutyDutyMin d.dutyCeil
  (List.range 4).foldl (fun s k => f s (rTblWork + 8) (4 * k, 4) (d.near.getD k 0)) s

/-- A descriptor from its body (R547). -/
def descriptorOf (b : List Byte) : Descriptor :=
  let x := Config.descriptorField b
  { part := x 1 % 2 ^ 16, stackCount := x 2 % 16, msds := x 3 % 16, iods := x 4 % 16, links := x 5 % 256, cores := x 6 % 256
    format := x 7 % 256, computeStep := x 8 % 256, msdStep := x 9 % 256, iodStep := x 10 % 256
    spares := (List.range 4).map fun d => (List.range 4).map fun k => x (11 + 4 * d + k) % 128
    dutyCeil := x 27 % 512, envelope := x 28, near := (List.range 4).map fun k => x (29 + k) % 16 }

/-- Physical panels that an interleaved area of `n` bytes takes on every stack (R583). -/
def areaPanels (n stackCount : Nat) : Nat := (n + 65536 * stackCount - 1) / (65536 * stackCount)

/-- Bytes of the carved areas, in the order host region, pool, Lantern, firmware, journal, trace; the table work areas take
4,096 panels of every stack (R583). -/
def State.areaBytes (s : State) : List Nat :=
  let d := s.dev.desc
  [s.nv.mgmt.hostGib * 2 ^ 30, d.stackCount * 2 ^ 36 / 512, 4 * d.msds * 2 ^ 28, 2 ^ 28,
    s.fld rJrnlCfg fJrnlCfgAreaGib * 2 ^ 30, s.fld rObsTraceSize fObsTraceSizeAreaMib * 2 ^ 20]

/-- Two spans do not meet. -/
def apart (a b : Nat × Nat) : Bool := decide (a.1 + a.2 ≤ b.1) || decide (b.1 + b.2 ≤ a.1)

def pairwiseApart : List (Nat × Nat) → Bool
  | [] => true
  | a :: l => l.all (apart a) && pairwiseApart l

/-- Carve the areas of R252 at the places the part takes: `slots` gives the first slot on every stack of the seven areas and of
the retirement reserve, `bases` the physical addresses of the first six. -/
def State.carve (s : State) (slots bases : List Nat) : Option State :=
  let n := s.dev.desc.stackCount
  let bytes := s.areaBytes
  let counts := bytes.map (areaPanels · n) ++ [4096, 64]
  let spans := ((List.range 8).map fun k => (slots.getD k 0, counts.getD k 0))
  let areas := (List.range 6).map fun k => (bases.getD k 0, bytes.getD k 0)
  let aligned := (List.range 6).all fun k => bases.getD k 0 % 2 ^ 20 == 0
  if n = 0 ∨ !(spans.all fun e => decide (e.1 + e.2 ≤ 2 ^ 20)) ∨ !pairwiseApart spans ∨ !pairwiseApart areas ∨ !aligned then none
  else
    let s := s.modMem fun m => { m with carved := spans.take 7, reserveSlot := slots.getD 7 0 }
    let s := s.modJrnl fun j => { j with areaGib := s.fld rJrnlCfg fJrnlCfgAreaGib }
    let s := (s.setFld rMemHostRegion fMemHostRegionBase (bases.getD 0 0 / 2 ^ 16)).setFld rMemHostRegion fMemHostRegionSizeGib
      s.nv.mgmt.hostGib
    let s := (s.setFld rMemPtpool fMemPtpoolBase (bases.getD 1 0 / 2 ^ 16)).setFld rMemPtpool fMemPtpoolSize64mib
      (bytes.getD 1 0 / 2 ^ 26)
    let s := (s.setFld rLanternWork fLanternWorkBase (bases.getD 2 0)).setFld rTblWork fTblWorkOffset (65536 * slots.getD 6 0)
    let s := (s.setFld rFwArea fFwAreaBase (bases.getD 3 0 / 2 ^ 20)).setFld rFwArea fFwAreaSize64mib 4
    let s := (s.setFld rObsTraceBase fObsTraceBaseAddr (bases.getD 5 0 / 2 ^ 12)).setFld rObsTraceSize fObsTraceSizeCurrentMib
      (s.fld rObsTraceSize fObsTraceSizeAreaMib)
    some (s.modObs fun o => { o with reserveMib := s.fld rObsTraceReserve fObsTraceReserveReserveMib })

/-- Host-region areas that the part still writes: address and bytes (R528, R538). -/
def State.areaList (s : State) : List (Nat × Nat) :=
  let ring (base size : Nat) (head : Nat) : List (Nat × Nat) :=
    if s.flag base fRasLogBaseValid then [(s.fld base fRasLogBaseAddr * 64, head + size * 2 ^ s.fld base fRasLogBaseLog2)] else []
  let cqs := (List.range 64).filterMap fun c =>
    if s.flag (rCqCfg c) fCqCfgValid then some (s.fld (rCqBase c) fCqBaseAddr * 32, 32 * s.cqSize c) else none
  let rings := s.dev.adm.rings.filterMap fun e => e.2.map fun r => (r.addr, 64 + 64 * 2 ^ r.log2)
  let accts := (List.range 64).filterMap fun t =>
    if s.flag (rAcctTableBase t) fAcctTableBaseValid then some (s.fld (rAcctTableBase t) fAcctTableBaseAddr * 64, 64 + 64 * 4096)
    else none
  let snap := if s.flag rObsCtrSnapshotDone fObsCtrSnapshotDonePending then
      [(s.fld rObsCtrSnapshotAddr fObsCtrSnapshotAddrAddr * 64, 261760)] else []
  (ring rRasLogBase 64 64 ++ ring rObsFwlogBase 64 64 ++ ring rFwEvtqBase 64 0 ++ snap ++ cqs ++ rings ++ accts).take 240

/-- The handoff block (R528). -/
def State.writeHandoff (s : State) (cause : Nat) (areas : List (Nat × Nat)) : State :=
  s.hostWrite s.hostBase (leBytes 2 1 ++ leBytes 1 cause ++ leBytes 1 s.ao.bootSel ++ leBytes 4 s.ao.epoch ++
    leBytes 8 s.dev.mem.controlBase ++ leBytes 8 s.hostBase ++ leBytes 8 s.hostSize ++ leBytes 8 (s.rd rDevAssembly).toNat ++
    leBytes 8 (s.rd rSecId).toNat ++ leBytes 8 (s.rd rObsTraceBase).toNat ++ leBytes 4 areas.length ++ leBytes 4 0 ++
    List.replicate 64 0 ++ (areas.flatMap fun a => leBytes 8 a.1 ++ leBytes 8 a.2) ++
    List.replicate (16 * (240 - areas.length)) 0)

/-- A control window lies at a multiple of 4 MiB at or above 2^40 (R586). -/
def controlBaseOk (a : Nat) : Bool := decide (2 ^ 40 ≤ a) && a % 2 ^ 22 == 0

/-- Start-up stops at its step (R567). -/
def State.startFail (s : State) : State :=
  let k := s.ao.startStep
  let s := if k = 4 then (s.log islLookout { detector := 0x0500, severity := 1 }).mgmtLog 1 1
    else if k = 5 then (s.log islLookout { detector := 0x0700, severity := 1 }).mgmtLog 1 1
    else s
  { s with ao := { s.ao with startFailed := true } }

/-- The next step starts. -/
def State.startNext (s : State) : State := { s with ao := { s.ao with startStep := s.ao.startStep + 1 } }
/-- Start-up holds after its step (R568). -/
def State.hold_ (s : State) : State := { s with ao := { s.ao with startHold := true } }

/-- SSDs enumerated at step 10: slot, granules, whether it meets R256, volatile cache (R256). -/
def State.enumerate (s : State) (found : List (Nat × Nat × Bool × Bool)) : State :=
  (List.range s.ssdSlots).foldl (fun s i => match found.find? (·.1 == i) with
    | some (_, n, sup, vc) => s.setSsd i { s.ssd i with present := true, granules := n, supported := sup, volatileCache := vc }
    | none => s.setSsd i { s.ssd i with present := false }) s

/-- The mask of the set whose metadata an SSD found carries (R261). -/
def State.foundMask (s : State) (k : Nat) : Option Nat :=
  ((List.range 16).filterMap fun i => if (s.ssd i).present then
    (match (s.ssd i).info with | some x => if x.set = k then some x.mask else none | none => none) else none).head?

/-- The Yedal image in force raises its floor (R465). -/
def State.commitYedal (s : State) : State :=
  let b := s.dev.fw.image
  if s.fld rFwStatus fFwStatusState = 3 ∧ imageCommits b then
    let f := max (SMap.get (fun _ => 0) s.nv.mgmt.floors 4) (imageSvn b)
    (s.modMgmt fun m => { m with floors := SMap.set (fun _ => 0) m.floors 4 f }).setFld (rSecFloor 4) fSecFloorFloor f
  else s

/-- The work of start-up step `k` is complete.  `ok` is whether what the spec leaves to the silicon went well (the PUF reading,
images as delivered, power, training), `slots`, `bases` and `control` are the places that the part takes, `found` the SSDs. -/
def State.startWork (s : State) (k : Nat) (ok : Bool) (slots bases : List Nat) (control : Nat)
    (found : List (Nat × Nat × Bool × Bool)) : State :=
  match k with
  | 1 =>
    let s : State := { s with ao := { s.ao with bootSel := s.ao.bootSelPins } }
    if s.ao.bootSel = 3 then s.hold_.mgmtLog 1 1 3
    else if !ok then s.startFail
    else
      let s := ((s.setFlag rSecState fSecStateIdentityOk true).setFlag rSecState fSecStateEntropyOk true).wr rSecId
        (BitVec.ofNat 64 (Config.sha3 Config.deviceKey).toNat)
      let s := [1, 2, 3, 4].foldl (fun s c => s.setFld (rSecFloor c) fSecFloorFloor (SMap.get (fun _ => 0) s.nv.mgmt.floors c)) s
      let (good, _, s) := s.bootVerify 1 true
      if good then s.startNext else s.startFail
  | 2 =>
    if !ok then s.startFail
    else
      let n := s.nv.remaps.length
      let s := (s.mgmtLog 1).setFld rRasRemapStatus fRasRemapStatusEntries n
      ((s.setFlag rRasRemapStatus fRasRemapStatusListFull (n == 4096)).setFld rRasRemapStatus fRasRemapStatusRetiredBays
        s.nv.retiredBays.length).startNext
  | 3 =>
    let (good, i, s) := s.bootVerify 2 ok
    if !good then s.startFail
    else
      let new := (SMap.get (fun _ => none) s.nv.mgmt.pending 2).isSome
      -- a new descriptor returns retired bays to use (R24, R494)
      let s : State := if new then
          { s with nv := { s.nv with desc := descriptorOf (i.bytes.drop 4096), retiredBays := [] } }
        else s
      let s := (s.loadDescriptor.markRetired.setFld rRasRemapStatus fRasRemapStatusRetiredBays
        s.nv.retiredBays.length).writeCap 5 0 0
      if s.ao.bootSel = 2 then s.hold_ else s.startNext
  | 4 => if !ok then s.startFail else ({ s with ao := { s.ao with mainEn := true } } : State).startNext
  | 5 =>
    if !ok then s.startFail
    else
      match if s.ao.causeKind = 2 then some s else s.carve slots bases with
      | none => s
      | some s => if s.ao.bootSel = 1 then s.hold_ else s.startNext
  | 6 =>
    let control := if s.ao.causeKind = 2 then s.dev.mem.controlBase else control
    if !controlBaseOk control then s
    else
      let (good, _, s) := s.bootVerify 3 ok
      if !good then s.startFail
      else (((s.modMem fun m => { m with controlBase := control }).writeHandoff (min s.ao.causeKind 2) []).modLook fun l => { l with basecamp := true }).startNext
  | 9 => if s.fld rFwStatus fFwStatusState = 3 then s.startNext else s
  | 10 =>
    let s := s.enumerate found
    let s := [0, 1].foldl (fun s k => match s.foundMask k with
      | some m => s.assembleSet k m
      | none => s) s
    (s.setFlag rJrnlStatus fJrnlStatusReplaying true).startNext
  | 11 => if s.flag rJrnlStatus fJrnlStatusReplaying then s else s.startNext.commitUpdates.commitYedal
  | _ => if ok then s.startNext else s.startFail

/-- A warm reset has drained: no mutation and no table command is in progress, or 2 ms have passed (R422, R564). -/
def State.drained (s : State) (since : Nat) : Bool :=
  (s.dev.lantern.mutations.isEmpty && s.dev.tables.cmds.isEmpty) || decide (since + 2000000 ≤ s.ao.tick)

/-- STARTUP_STEP_ADVANCE: the step in progress completes, or start-up stops; while a warm reset drains, its islands are
reset. -/
def execStartupStepAdvance (ok : Bool) (slots bases : List Nat) (control : Nat) (found : List (Nat × Nat × Bool × Bool))
    (s : State) : Host.Outcome State Fault Refusal :=
  match s.ao.warm with
  | some (t, source) => .next (if s.drained t then s.warmReset source else s)
  | none =>
    if s.ao.startStep = 0 ∨ 12 ≤ s.ao.startStep ∨ s.ao.startFailed ∨ s.ao.startHold ∨ s.ao.heldInReset ∨ s.ao.s1 then .next s
    else if s.failsafe then .next { s with ao := { s.ao with startFailed := true } }
    else .next (s.startWork s.ao.startStep ok slots bases control found)

end Sys2Proof.Machine
end

