-- ==== Sys2Proof/Machine/Security.lean ====
section
/-! DEFINITION. The key engine: the commands of SEC_CMD, consents and entropy (chapter 16 of the spec).  Each command takes
`v`, the value written to SEC_CMD, whose OP is the command's own. -/

namespace Sys2Proof.Machine

/-! Results. -/

def secBadOp : Nat := 1
def secRange : Nat := 2
def secState : Nat := 3
def secTag : Nat := 4
def secPolicy : Nat := 5
def secDevice : Nat := 6
def secLogFull : Nat := 7
def secEntropy : Nat := 8

/-- The command ends: RESULT and OUT_BYTES; BUSY reads 0 (R469). -/
def State.secDone (s : State) (res : Nat) (out : Nat := 0) : State :=
  s.wr rSecCmdStatus (setBits (setBits 0 fSecCmdStatusResult.1 fSecCmdStatusResult.2 res) fSecCmdStatusOutBytes.1
    fSecCmdStatusOutBytes.2 out)

/-- A command: ignored while BUSY (R469). -/
def State.secCommand (s : State) (f : State → State) : State :=
  if s.flag rSecCmdStatus fSecCmdStatusBusy then s else f s

def secSlot (v : W64) : Nat := getBits v fSecCmdSlot.1 fSecCmdSlot.2
def secTent (v : W64) : Nat := getBits v fSecCmdTent.1 fSecCmdTent.2
def secTentValid (v : W64) : Bool := getBits v fSecCmdTentValid.1 fSecCmdTentValid.2 == 1

/-- The command's buffer. -/
def State.secBuf (s : State) : Nat := s.fld rSecCmdAddr fSecCmdAddrAddr * 64

/-- The `n` bytes of the buffer lie in the host region. -/
def State.secBufOk (s : State) (n : Nat) : Bool := s.inHost s.secBuf n

def State.entropyOk (s : State) : Bool := s.flag rSecState fSecStateEntropyOk

/-- A 256-bit value from the DRBG (R482). -/
def State.drbg (s : State) : W256 × State :=
  (Config.drbg s.free, { s with free := s.free + 1, dev := { s.dev with sec := { s.dev.sec with draws := s.dev.sec.draws + 1 } } })

/-! Keys (R462, R469, R471). -/

/-- KEY_ID of a root key: bytes 0 to 7 of its derivation. -/
def keyIdOf (root : W256) : Nat := (kdf root "vothes-keyid" []).toNat % 2 ^ 64

/-- The key-wrapping key. -/
def wrapKey : W256 := kdf Config.pufRoot "vothes-kwk" []

/-- Install a root key and its POLICY in a slot. -/
def State.installKey (s : State) (k : Nat) (root : W256) (policy : Nat) : State :=
  let s := s.modSec fun x => { x with keys := SMap.set (fun _ => {}) x.keys k { root := root, policy := policy, counter := 0 } }
  let s := (s.setFlag (rSecKeyslot k) fSecKeyslotValid true).setFlag (rSecKeyslot k) fSecKeyslotSealed (policy.testBit 0)
  (s.setFlag (rSecKeyslot k) fSecKeyslotDebugConsent (policy.testBit 1)).wr (rSecKeyid k) (BitVec.ofNat 64 (keyIdOf root))

/-- Erase a key slot. -/
def State.eraseKey (s : State) (k : Nat) : State :=
  ((s.modSec fun x => { x with keys := SMap.set (fun _ => {}) x.keys k {} }).wr (rSecKeyslot k) 0).wr (rSecKeyid k) 0

/-- IN_USE of a key slot (R469). -/
def State.keyInUse (s : State) (k : Nat) : Bool :=
  (List.range 64).any fun t => s.tentKey t == k &&
    (s.tentState t == 1 || s.tentState t == 2 || s.tentState t == 3 || (s.tentState t == 4 && s.requestCount t != 0))

/-- The key pair of a KEM slot. -/
def State.kem (s : State) (k : Nat) : Option W256 := SMap.get (fun _ => none) s.dev.sec.kem k

/-- Every command that names a KEM slot consumes its key pair (R470). -/
def State.consumeKem (s : State) (k : Nat) : State :=
  s.modSec fun x => { x with kem := SMap.set (fun _ => none) x.kem k none }

def State.setSession (s : State) (k : Nat) (x : Option Session) : State :=
  s.modSec fun y => { y with sessions := SMap.set (fun _ => none) y.sessions k x }

/-! Blobs (R472). -/

/-- The header of a blob: the bytes that its tag covers. -/
def State.blobHead (s : State) (kind policy tent client keyId nonce : Nat) : List Byte :=
  leBytes 2 1 ++ leBytes 1 kind ++ leBytes 1 0 ++ leBytes 2 policy ++ leBytes 2 tent ++ leBytes 4 client ++ leBytes 4 0 ++
    leBytes 8 keyId ++ leBytes 8 (s.rd rSecId).toNat ++ leBytes 12 nonce ++ leBytes 4 0

/-- A blob of 128 bytes; its nonce comes from the DRBG. -/
def State.blob (s : State) (kind policy tent client keyId : Nat) (secret : W256) : List Byte × State :=
  let (n, s) := s.drbg
  let nonce := n.toNat % 2 ^ 96
  let h := s.blobHead kind policy tent client keyId nonce
  let c := gcmCrypt wrapKey nonce (leBytes 32 secret.toNat)
  (h ++ c ++ leBytes 16 (Config.gcmTag wrapKey nonce h c).toNat ++ List.replicate 32 0, s)

/-- The checks of R473 up to the third: the secret of a blob, or the result. -/
def State.openBlob (s : State) (kind : Nat) (b : List Byte) : Except Nat W256 :=
  if field b 0x18 8 ≠ (s.rd rSecId).toNat then .error secDevice
  else match gcmOpen wrapKey (field b 0x20 12) (b.take 0x30) ((b.drop 0x30).take 32) (field b 0x50 16) with
    | none => .error secTag
    | some p => if field b 0 2 ≠ 1 ∨ field b 2 1 ≠ kind ∨ 4 ≤ field b 4 2 then .error secRange else .ok (BitVec.ofNat 256 (leNat p))

/-! Commands (R470). -/

/-- KEM_GENERATE: consume slot SLOT's pair, draw a fresh one and write its encapsulation key. -/
def execKemGenerate (v : W64) (s : State) : Host.Outcome State Fault Refusal :=
  .next (s.secCommand fun s =>
    let k := secSlot v
    if 16 ≤ k then s.secDone secRange
    else
      let s := s.consumeKem k
      if !s.secBufOk 1184 then s.secDone secRange
      else if !s.entropyOk then s.secDone secEntropy
      else
        let (d, s) := s.drbg
        let s := s.modSec fun x => { x with kem := SMap.set (fun _ => none) x.kem k (some d) }
        (s.hostWrite s.secBuf ((List.range 1184).map fun i => (Config.kemKey d).getD i 0)).secDone 0 1184)

/-- KEY_GENERATE: a root key from the DRBG with POLICY 0. -/
def execKeyGenerate (v : W64) (s : State) : Host.Outcome State Fault Refusal :=
  .next (s.secCommand fun s =>
    let k := secSlot v
    if 64 ≤ k ∨ !s.secBufOk 128 then s.secDone secRange
    else if s.keyValid k then s.secDone secState
    else if !s.entropyOk then s.secDone secEntropy
    else
      let (root, s) := s.drbg
      let (b, s) := s.blob 1 0 0 0 (keyIdOf root) root
      ((s.installKey k root 0).hostWrite s.secBuf b).secDone 0 128)

/-- KEY_IMPORT (R471). -/
def execKeyImport (v : W64) (s : State) : Host.Outcome State Fault Refusal :=
  .next (s.secCommand fun s =>
    let k := secSlot v
    if !s.secBufOk 0x500 then s.secDone secRange
    else
      let p := s.hostRead s.secBuf 0x478
      let pair := s.kem (field p 0x444 1)
      let s := s.consumeKem (field p 0x444 1)
      if 64 ≤ k ∨ 16 ≤ field p 0x444 1 ∨ field p 0x440 2 ≠ 1 ∨ 4 ≤ field p 0x442 2 then s.secDone secRange
      else if s.keyValid k then s.secDone secState
      else match pair with
        | none => s.secDone secState
        | some d =>
          if !s.entropyOk then s.secDone secEntropy
          else
            let kek := kdf (Config.kemSecret d (p.take 1088)) "vothes-keyimport" []
            match gcmOpen kek 0 ((p.drop 0x440).take 8) ((p.drop 0x448).take 32) (field p 0x468 16) with
            | none => s.secDone secTag
            | some r =>
              let root : W256 := BitVec.ofNat 256 (leNat r)
              let (b, s) := s.blob 1 (field p 0x442 2) 0 0 (keyIdOf root) root
              ((s.installKey k root (field p 0x442 2)).hostWrite (s.secBuf + 0x480) b).secDone 0 128)

/-- KEY_LOAD (R473). -/
def execKeyLoad (v : W64) (s : State) : Host.Outcome State Fault Refusal :=
  .next (s.secCommand fun s =>
    let k := secSlot v
    if 64 ≤ k ∨ !s.secBufOk 128 then s.secDone secRange
    else
      let b := s.hostRead s.secBuf 128
      match s.openBlob 1 b with
      | .error e => s.secDone e
      | .ok root => if s.keyValid k then s.secDone secState else (s.installKey k root (field b 4 2)).secDone 0)

/-- KEY_CLEAR: refused while IN_USE. -/
def execKeyClear (v : W64) (s : State) : Host.Outcome State Fault Refusal :=
  .next (s.secCommand fun s =>
    let k := secSlot v
    if 64 ≤ k then s.secDone secRange
    else if !s.keyValid k then s.secDone 0
    else if s.keyInUse k then s.secDone secState
    else (s.eraseKey k).secDone 0)

/-- SESSION_OPEN (R475). -/
def execSessionOpen (v : W64) (s : State) : Host.Outcome State Fault Refusal :=
  .next (s.secCommand fun s =>
    let n := secSlot v
    let t := secTent v
    if !s.secBufOk 0x500 then s.secDone secRange
    else
      let p := s.hostRead s.secBuf 0x458
      let pair := s.kem (field p 0x442 1)
      let s := s.consumeKem (field p 0x442 1)
      let client := field p 0x444 4
      if 16 ≤ field p 0x442 1 ∨ field p 0x440 2 ≠ 1 ∨ 65536 ≤ client then s.secDone secRange
      else if s.tentState t ≠ 2 ∨ !s.sealed t ∨ (s.session n).isSome then s.secDone secState
      else match pair with
        | none => s.secDone secState
        | some d =>
          if !s.entropyOk then s.secDone secEntropy
          else
            let k := s.tentKey t
            let id := (s.rd (rSecKeyid k)).toNat
            let digest := leBytes 32 (Config.sha3 ((List.range 1184).map fun i => (Config.kemKey d).getD i 0)).toNat
            let auth := kdf (s.keySlot k).root "vothes-session-auth" []
            if (Config.gcmTag auth (leNat (digest.take 12)) (digest ++ leBytes 4 client ++ leBytes 8 id) []).toNat ≠
                field p 0x448 16 then s.secDone secTag
            else
              let key := kdf (Config.kemSecret d (p.take 1088)) "vothes-session" (leBytes 8 id ++ leBytes 4 client)
              let (b, s) := s.blob 2 0 t client id key
              let s := s.setSession n (some { tent := t, client := client, secret := key })
              (s.hostWrite (s.secBuf + 0x480) b).secDone 0 128)

/-- SESSION_LOAD (R473). -/
def execSessionLoad (v : W64) (s : State) : Host.Outcome State Fault Refusal :=
  .next (s.secCommand fun s =>
    let n := secSlot v
    if !s.secBufOk 128 then s.secDone secRange
    else
      let b := s.hostRead s.secBuf 128
      match s.openBlob 2 b with
      | .error e => s.secDone e
      | .ok key =>
        if (s.session n).isSome then s.secDone secState
        else if !(List.range 64).any fun k => s.keyValid k && (s.rd (rSecKeyid k)).toNat == field b 0x10 8 then
          s.secDone secState
        else (s.setSession n (some { tent := field b 6 2, client := field b 8 4, secret := key })).secDone 0)

/-- SESSION_CLOSE: erase session SLOT; one that is not open stays so, with OK. -/
def execSessionClose (v : W64) (s : State) : Host.Outcome State Fault Refusal :=
  .next (s.secCommand fun s => (s.setSession (secSlot v) none).secDone 0)

/-! Attestation (R468). -/

/-- The bytes of a report that its signature covers. -/
def State.reportBody (s : State) (v : W64) (data : List Byte) : List Byte :=
  let t := secTent v
  let k := s.tentKey t
  let p := s.dev.sec.platform
  leBytes 2 1 ++
    leBytes 2 ((if secTentValid v then 1 else 0) + (if s.flag rSecState fSecStateConsentActive then 2 else 0)) ++
    leBytes 4 s.ao.epoch ++ leBytes 8 (s.copy islLookout) ++ leBytes 8 (s.rd rDevAssembly).toNat ++
    leBytes 2 s.deviceNum ++ leBytes 6 0 ++ leBytes 32 (Config.sha3 Config.deviceKey).toNat ++
    leBytes 32 p.chain.toNat ++ leBytes 4 p.entries.length ++ leBytes 4 0 ++
    (if secTentValid v then
      leBytes 1 t ++ leBytes 1 (s.tentState t) ++ leBytes 2 (s.keySlot k).policy ++ leBytes 4 0 ++
        leBytes 8 (s.rd (rSecKeyid k)).toNat ++ leBytes 8 0 ++ leBytes 32 (s.tentConfig t).toNat ++
        leBytes 32 (s.tentLog t).chain.toNat ++ leBytes 4 (s.tentLog t).entries.length ++ leBytes 12 0
     else List.replicate 0x68 0) ++
    data ++ List.replicate 240 0

/-- The message that ML-DSA-44 signs for a context string. -/
def signed (ctx : String) (b : List Byte) : List Byte :=
  (List.range 2420).map fun i => (Config.deviceSign (leBytes 1 0 ++ leBytes 1 ctx.length ++ labelBytes ctx ++ b)).getD i 0

/-- SEC_ATTEST: the report of 3,072 bytes at buffer + 0x40. -/
def execSecAttest (v : W64) (s : State) : Host.Outcome State Fault Refusal :=
  .next (s.secCommand fun s =>
    if !s.secBufOk (0x40 + 3072) then s.secDone secRange
    else
      let b := s.reportBody v (s.hostRead s.secBuf 64)
      (s.hostWrite (s.secBuf + 0x40) (b ++ signed "vothes-report" b ++ List.replicate 140 0)).secDone 0 3072)

/-! Sealed import (R479). -/

/-- A freeze holds what a unit outside its scope writes into a device range (R469). -/
def State.writesHeld (s : State) : Bool :=
  decide (s.freezeState = 3 ∨ s.freezeState = 4) ||
    (decide (s.freezeState = 1 ∨ s.freezeState = 2) && decide ((s.rd rTimeFreezeAt).toNat < s.stampTick islLookout))

/-- Carry out an IMPORT whose image is in the buffer and passed its checks: a wrong tag zeroes the destination. -/
def State.importInto (s : State) (t buf dst : Nat) : State :=
  let h := s.hostRead buf 64
  let n := field h 8 8
  let c := s.hostRead (buf + 64) n
  let key := kdf (s.keySlot (s.tentKey t)).root "vothes-import" []
  match gcmOpen key (field h 0x10 12) (h.take 0x30) c (field h 0x30 16) with
  | none => ((s.devWrite t dst (List.replicate n 0)).modSec fun x => { x with importing := none }).secDone secTag
  | some p =>
    let (st, s) := s.originate islLookout
    ((((s.devWrite t dst p).measureTent t 0x11 st (Config.sha3 p))).modSec fun x => { x with importing := none }).secDone 0

/-- Go on with an IMPORT: held by a freeze, or by panels that have to come in. -/
def State.importStep (s : State) (t buf dst : Nat) : State :=
  let n := field (s.hostRead buf 64) 8 8
  let hold (s : State) : State :=
    (s.modSec fun x => { x with importing := some (t, buf, dst) }).setFlag rSecCmdStatus fSecCmdStatusBusy true
  if s.writesHeld then hold s
  else match s.servedSpan t dst n with
    | .hbm => s.importInto t buf dst
    | .wait =>
      let (st, s) := s.originate islLookout
      hold (s.requestInbound t (s.firstWait t dst n / 65536) st true)
    | _ => (s.modSec fun x => { x with importing := none }).secDone secRange

/-- SEALED_IMPORT: a new IMPORT, or the next step of the one that BUSY shows. -/
def execSealedImport (v : W64) (s : State) : Host.Outcome State Fault Refusal :=
  .next (match s.dev.sec.importing with
    | some (t, buf, dst) => s.importStep t buf dst
    | none => s.secCommand fun s =>
      let t := secTent v
      let dst := s.fld rSecImportDst fSecImportDstAddr
      let h := s.hostRead s.secBuf 64
      let n := field h 8 8
      if !s.secBufOk 64 ∨ field h 0 2 ≠ 1 ∨ n % 64 ≠ 0 ∨ n < 64 ∨ 2 ^ 30 < n ∨ !s.secBufOk (64 + n) ∨ dst % 64 ≠ 0 ∨
          !s.spanMapped t dst n then s.secDone secRange
      else if s.tentState t = 0 ∨ !s.keyValid (s.tentKey t) then s.secDone secState
      else if s.tentLogFull t then s.secDone secLogFull
      else s.importStep t s.secBuf dst)

/-! Consents (R481). -/

/-- CONSENT_ACTIVE of SEC_STATE and of every key slot, by the consents whose window holds TIME_NOW. -/
def State.consentBits (s : State) : State :=
  let on (t : Nat) : Bool := s.dev.sec.consents.any fun c =>
    c.tent == t && decide (c.start ≤ s.ao.tick) && decide (s.ao.tick < c.stop)
  let s := s.setFlag rSecState fSecStateConsentActive ((List.range 64).any on)
  (List.range 64).foldl (fun s k =>
    s.setFlag (rSecKeyslot k) fSecKeyslotConsentActive
      (s.keyValid k && (List.range 64).any fun t => on t && s.tentKey t == k)) s

/-- The result of a token for tent `t`, 0 for one that is accepted. -/
def State.consentResult (s : State) (t : Nat) (b : List Byte) : Nat :=
  let k := s.tentKey t
  let start := field b 0x10 8
  let stop := field b 0x18 8
  let key := kdf (s.keySlot k).root "vothes-consent" []
  if !s.keyValid k ∨ !(s.keySlot k).policy.testBit 1 then secPolicy
  else if (Config.gcmTag key (field b 0x20 8) (b.take 0x30) []).toNat ≠ field b 0x30 16 then secTag
  else if field b 8 8 ≠ (s.rd rSecId).toNat ∨ field b 4 1 ≠ t ∨ field b 0x20 8 ≤ (s.keySlot k).counter ∨
      field b 0 2 ≠ 1 ∨ 8 ≤ field b 2 2 ∨ stop < start ∨ start + 86400000000000 < stop ∨ stop ≤ s.ao.tick then secRange
  else if s.tentLogFull t then secLogFull
  else 0

/-- CONSENT: accept the token in the buffer for tent TENT. -/
def execConsent (v : W64) (s : State) : Host.Outcome State Fault Refusal :=
  .next (s.secCommand fun s =>
    let t := secTent v
    if !s.secBufOk 64 then s.secDone secRange
    else
      let b := s.hostRead s.secBuf 64
      let r := s.consentResult t b
      if r ≠ 0 then s.secDone r
      else
        let (st, s) := s.originate islLookout
        let s := s.measureTent t 0x13 st (Config.sha3 b)
        let k := s.tentKey t
        let c : Consent := { tent := t, scope := field b 2 2, start := field b 0x10 8, stop := field b 0x18 8 }
        let s := s.modSec fun x => { x with
          consents := x.consents ++ [c]
          keys := SMap.mod (fun _ => {}) x.keys k fun (y : KeySlot) => { y with counter := field b 0x20 8 } }
        s.consentBits.secDone 0)

/-- CONSENT_REVOKE: end every consent of tent TENT. -/
def execConsentRevoke (v : W64) (s : State) : Host.Outcome State Fault Refusal :=
  .next (s.secCommand fun s =>
    (s.modSec fun x => { x with consents := x.consents.filter (·.tent != secTent v) }).consentBits.secDone 0)

/-- CONSENT_WINDOW_BOUNDARY: the reference reaches a START or an END; consents that are over are dropped. -/
def execConsentWindowBoundary (s : State) : Host.Outcome State Fault Refusal :=
  .next (s.modSec fun x => { x with consents := x.consents.filter fun c => decide (s.ao.tick < c.stop) }).consentBits

/-- Write bytes to the buffer and end. -/
def State.secOut (s : State) (b : List Byte) : State :=
  if !s.secBufOk b.length then s.secDone secRange else (s.hostWrite s.secBuf b).secDone 0 b.length

/-- GET_CERT. -/
def execGetCert (s : State) : Host.Outcome State Fault Refusal :=
  .next (s.secCommand fun s => s.secOut Config.certificate)

/-- SEC_GET_LOG: the platform log, or with TENT_VALID the tent's. -/
def execSecGetLog (v : W64) (s : State) : Host.Outcome State Fault Refusal :=
  .next (s.secCommand fun s =>
    s.secOut (if secTentValid v then (s.tentLog (secTent v)).bytes else s.dev.sec.platform.bytes))

/-! Entropy (R482). -/

/-- DRBG_RESEED: after every 2^20 generate requests. -/
def execDrbgReseed (s : State) : Host.Outcome State Fault Refusal :=
  .next (if 2 ^ 20 ≤ s.dev.sec.draws then s.modSec fun x => { x with draws := 0 } else s)

/-- ENTROPY_HEALTH_FAIL: ENTROPY_OK clears, and the part enters FAILSAFE with cause ENTROPY. -/
def execEntropyHealthFail (s : State) : Host.Outcome State Fault Refusal :=
  .next ((s.setFlag rSecState fSecStateEntropyOk false).enterFailsafe islAlwaysOn { detector := 0x0F00 } 4 none)

end Sys2Proof.Machine
end

