-- ==== Sys2Proof/Machine/Lookout.lean ====
section
/-! DEFINITION. Lookout: Basecamp resets, sensors, the thermal cap, the mailbox, the management protocol and the update path
(chapter 19 of the spec). -/

namespace Sys2Proof.Machine

/-- Lookout runs: its firmware is verified and the main rails are not off for S1 (R554, R566). -/
def State.lookoutUp (s : State) : Bool := decide (2 ≤ s.ao.startStep) && !s.ao.heldInReset && !s.ao.s1

/-! Basecamp resets (R538, R561, R568). -/

/-- A Basecamp reset is requested: one that start-up waits for lets it go on; otherwise a restart falls due. -/
def State.requestBasecamp (s : State) : State :=
  if s.ao.bootSel = 1 ∧ s.ao.startHold ∧ s.ao.startStep = 5 then
    { s with ao := { s.ao with startHold := false, startStep := 6 } }
  else if s.ao.startStep < 7 ∨ s.ao.warm.isSome then s
  else s.modLook fun l => { l with restart := true }

/-- BASECAMP_RESET: Lookout restarts Basecamp alone.  `ok` is the check of a boot image as delivered. -/
def execBasecampReset (ok : Bool) (s : State) : Host.Outcome State Fault Refusal :=
  if !s.dev.look.restart ∨ !s.lookoutUp ∨ s.ao.warm.isSome then .next s
  else
    let s := s.endFreeze
    let s := if s.dev.jrnl.leaseRunning then s.enterOrphan else s
    let s := s.modLook fun l => { l with restart := false, basecamp := false }
    let (good, _, s) := s.bootVerify 3 ok
    .next (if good then (s.writeHandoff 3 s.areaList).modLook fun l => { l with basecamp := true } else s)

/-- BASECAMP_HALT_TIMEOUT: every Basecamp core has stayed halted for 1 s. -/
def execBasecampHaltTimeout (s : State) : Host.Outcome State Fault Refusal :=
  .next (if s.dev.look.basecamp then s.requestBasecamp else s)

/-! Sensors and the power cap (R539 to R541). -/

/-- Readings of a list whose absent positions read zero. -/
def presentOnly (p : Nat → Bool) (n : Nat) (f : Nat → Nat) : List Nat := (List.range n).map fun i => if p i then f i else 0

/-- Sensor T(i) lies on a die of the assembly. -/
def Descriptor.hasSensor (d : Descriptor) (i : Nat) : Bool :=
  if i < 24 then true else if i < 36 then decide ((i - 24) / 2 < d.msds) else decide ((i - 36) / 3 < d.iods)

/-- Rail `i` feeds a part of the assembly. -/
def Descriptor.hasRail (d : Descriptor) (i : Nat) : Bool :=
  if i < 4 then true
  else if i < 16 then decide ((i - 4) % 6 < d.msds)
  else if i < 24 then decide ((i - 16) % 4 < d.iods)
  else decide (i < 26)

/-- SENSOR_POLL: Lookout reads every sensor: package power, temperatures in 1/16 °C, millivolts and milliamps. -/
def execSensorPoll (p : Nat) (temps stackTemps : List Int) (rails : List (Nat × Nat)) (s : State) : Host.Outcome State Fault Refusal :=
  if !s.lookoutUp then .next s
  else
    let d := s.dev.desc
    let code (l : List Int) (i : Nat) : Nat := (BitVec.ofInt 16 (l.getD i 0)).toNat
    let x : Sensors :=
      { tick := s.copy islLookout, epoch := s.ao.epoch, powerMw := p % 2 ^ 32
        temps := presentOnly d.hasSensor 48 (code temps), stackTemps := presentOnly (fun k => decide (k < d.stackCount)) 12 (code stackTemps)
        rails := (List.range 32).map fun i => if d.hasRail i then rails.getD i (0, 0) else (0, 0) }
    .next (s.modLook fun l => { l with sensors := x })

/-- A snapshot (R540). -/
def Sensors.encode (x : Sensors) : List Byte :=
  leBytes 8 x.tick ++ leBytes 4 x.epoch ++ leBytes 4 x.powerMw ++
    (List.range 48).flatMap (fun i => leBytes 2 (x.temps.getD i 0)) ++
    (List.range 12).flatMap (fun i => leBytes 2 (x.stackTemps.getD i 0)) ++ leBytes 8 0 ++
    (List.range 32).flatMap (fun i => leBytes 4 (x.rails.getD i (0, 0)).1 ++ leBytes 4 (x.rails.getD i (0, 0)).2) ++
    List.replicate 112 0

/-- The highest TEMP reading, in 1/16 °C. -/
def Sensors.hottest (x : Sensors) : Int :=
  match x.temps.map fun t => (BitVec.ofNat 16 t).toInt with
  | [] => 0
  | t :: l => l.foldl max t

/-- THERMAL_CAP_UPDATE: every 100 ms THERMAL_CAP moves by 5 % of the envelope, down to 30 %. -/
def execThermalCapUpdate (s : State) : Host.Outcome State Fault Refusal :=
  let l := s.dev.look
  if !s.lookoutUp ∨ s.ao.tick < l.capTick + 100000000 then .next s
  else
    let t := l.sensors.hottest
    let soft : Int := s.nv.mgmt.softC
    let n := if 16 * soft ≤ t then min 14 (l.capSteps + 1) else if t < 16 * (soft - 5) then l.capSteps - 1 else l.capSteps
    .next ((s.modLook fun l => { l with capSteps := n, capTick := s.ao.tick }).writeCap 6 0 0)

/-! The management log's records and the contents of INFO. -/

/-- A record as its 64 bytes (R549). -/
def MgmtRec.encode (r : MgmtRec) : List Byte :=
  r.stamp.bytes ++ leBytes 4 r.epoch ++ leBytes 2 r.type ++ leBytes 2 r.result ++ leBytes 1 r.source ++ leBytes 7 0 ++
    leBytes 8 r.keyTag ++ leBytes 8 r.arg0 ++ leBytes 8 r.arg1 ++ leBytes 8 r.seq

/-- At most `n` records from LOG_SEQ `from_` on. -/
def MgmtFlash.records (m : MgmtFlash) (from_ n : Nat) : List Byte :=
  ((m.log.filter fun r => decide (from_ ≤ r.seq)).take n).flatMap MgmtRec.encode

/-- What INFO writes: running and pending SVNs, the active banks and the configuration (R542, R545). -/
def State.infoBytes (s : State) : List Byte :=
  let m := s.nv.mgmt
  let comp (c : Nat) : List Nat := [s.fld (rSecFloor c) fSecFloorRunningSvn,
    ((SMap.get (fun _ => none) m.pending c).map (·.svn + 1)).getD 0, if SMap.get (fun _ => false) m.bankB c then 1 else 0]
  Config.infoBytes ([1, 2, 3, 4].flatMap comp ++ [m.hostGib, m.softC, m.ptpDomain, s.capWatts])

/-! The mailbox (R542). -/

/-- Close a mailbox command with its result. -/
def State.lkDone (s : State) (res : Nat) (n : Nat := 0) : State :=
  ((s.setFld rLkStatus fLkStatusResult res).setFld rLkStatus fLkStatusBytes n).setFlag rLkStatus fLkStatusBusy false

/-- The mailbox buffer. -/
def State.lkBuf (s : State) : Nat := s.fld rLkAddr fLkAddrAddr * 64

/-- Write a mailbox result at the buffer, which must lie in the host region. -/
def State.lkOut (s : State) (b : List Byte) : State :=
  if !s.inHost s.lkBuf b.length then s.lkDone 2 else (s.hostWrite s.lkBuf b).lkDone 0 b.length

/-- A mailbox command is taken unless one is in progress; the part's commands each take one step. -/
def State.lkCommand (s : State) (f : State → State) : State := if s.flag rLkStatus fLkStatusBusy then s else f s

/-- LK_SENSORS. -/
def execLkSensors (s : State) : Host.Outcome State Fault Refusal :=
  .next (s.lkCommand fun s => s.lkOut s.dev.look.sensors.encode)

/-- LK_GET_LOG: records from LOG_SEQ = ARG, at most 64 KiB. -/
def execLkGetLog (v : W64) (s : State) : Host.Outcome State Fault Refusal :=
  .next (s.lkCommand fun s => s.lkOut (s.nv.mgmt.records (getBits v fLkCmdArg.1 fLkCmdArg.2) 1024))

/-- LK_INFO. -/
def execLkInfo (s : State) : Host.Outcome State Fault Refusal := .next (s.lkCommand fun s => s.lkOut s.infoBytes)

/-- Add a client key's digest to the trust list. -/
def State.trustAdd (s : State) (digest : W256) (source keyTag : Nat) : State :=
  (s.modMgmt fun m => { m with trust := m.trust ++ [digest] }).mgmtLog 12 0 source keyTag (digest.toNat % 2 ^ 64)

/-- LK_ENROLL: the first trust key. -/
def execLkEnroll (s : State) : Host.Outcome State Fault Refusal :=
  .next (s.lkCommand fun s =>
    if s.nv.mgmt.trust ≠ [] then s.lkDone 3
    else if !s.inHost s.lkBuf 1312 then s.lkDone 2
    else (s.trustAdd (Config.sha3 (s.hostRead s.lkBuf 1312)) 2 0).lkDone 0)

/-! Management sessions (R543, R544). -/

def State.mgmtSession (s : State) (conn : Nat) : Option MgmtSession := SMap.get (fun _ => none) s.dev.look.sessions conn
def State.setMgmtSession (s : State) (conn : Nat) (x : Option MgmtSession) : State :=
  s.modLook fun l => { l with sessions := SMap.set (fun _ => none) l.sessions conn x }

/-- KEY_TAG of a client key. -/
def clientTag (key : List Byte) : Nat := (Config.sha3 key).toNat % 2 ^ 64

/-- A handshake fails: the connection closes. -/
def State.refuseSession (s : State) (conn : Nat) (key : List Byte) : State :=
  (s.setMgmtSession conn none).mgmtLog 3 0 0 (clientTag key)

/-- MGMT_HELLO: FORMAT (u16), the client's nonce and its public key; answered with ACCEPT. -/
def execMgmtHello (conn : Nat) (hello : List Byte) (s : State) : Host.Outcome State Fault Refusal :=
  let key := hello.drop 34
  if !s.lookoutUp then .next s
  else match s.mgmtSession conn with
  | some x => .next (if x.on then s.setMgmtSession conn none else s.refuseSession conn key)
  | none =>
    if 4 ≤ (s.dev.look.sessions.filter (·.2.isSome)).length ∨ field hello 0 2 ≠ 1 ∨ hello.length ≠ 1346 then
      .next (s.refuseSession conn key)
    else
      let (nonce, s) := s.drbg
      let (seed, s) := s.drbg
      let open_ := leBytes 32 nonce.toNat ++ Config.kemKey seed ++ Config.certificate
      let h1 := Config.sha3 (hello ++ open_)
      let accept := open_ ++ signed "" (leBytes 32 h1.toNat)
      let x : MgmtSession := { key := key, seed := seed, h1 := h1 }
      .next ((s.setMgmtSession conn (some x)).modLook fun l => { l with replies := SMap.set (fun _ => []) l.replies conn accept })

/-- MGMT_FINISH: the client's ciphertext and its signature over H2. -/
def execMgmtFinish (conn : Nat) (ct sig : List Byte) (s : State) : Host.Outcome State Fault Refusal :=
  match s.mgmtSession conn with
  | none => .next s
  | some x =>
    if !s.lookoutUp then .next s
    else if x.on then .next (s.setMgmtSession conn none)
    else
      let h2 := Config.sha3 (leBytes 32 x.h1.toNat ++ ct)
      if !s.nv.mgmt.trust.contains (Config.sha3 x.key) ∨ ct.length ≠ 1088 ∨
          !Config.verify x.key (leBytes 2 0 ++ leBytes 32 h2.toNat) sig then .next (s.refuseSession conn x.key)
      else
        let ss := Config.kemSecret x.seed ct
        let y : MgmtSession := { x with
          on := true, c2l := kdf ss "vothes-mgmt-c2l" (leBytes 32 h2.toNat), l2c := kdf ss "vothes-mgmt-l2c" (leBytes 32 h2.toNat) }
        .next ((s.setMgmtSession conn (some y)).mgmtLog 2 0 1 (clientTag x.key))

/-- MGMT_CONNECTION_CLOSE: the session ends, and its place is free; one whose handshake was not complete was refused. -/
def execMgmtConnectionClose (conn : Nat) (s : State) : Host.Outcome State Fault Refusal :=
  match s.mgmtSession conn with
  | none => .next s
  | some x => .next (if x.on then s.setMgmtSession conn none else s.refuseSession conn x.key)

/-- The header of a message (R544). -/
def mgmtHeader (n type seq : Nat) : List Byte := leBytes 4 n ++ leBytes 2 type ++ leBytes 2 0 ++ leBytes 8 seq

/-- Answer a request: STATUS first, then its results, encrypted with the session's key. -/
def State.mgmtReply (s : State) (conn type status : Nat) (out : List Byte) : State :=
  match s.mgmtSession conn with
  | none => s
  | some x =>
    let body := leBytes 2 status ++ out
    let h := mgmtHeader body.length (type ||| 0x80) x.seqOut
    let c := gcmCrypt x.l2c x.seqOut body
    let msg := h ++ c ++ leBytes 16 (Config.gcmTag x.l2c x.seqOut h c).toNat
    (s.setMgmtSession conn (some { x with seqOut := x.seqOut + 1 })).modLook fun l =>
      { l with replies := SMap.set (fun _ => []) l.replies conn msg }

/-- The body of a request whose SEQ and tag are right, with the KEY_TAG of its session. -/
def State.mgmtBody (s : State) (conn type seq : Nat) (cipher : List Byte) (tag : Nat) : Option (List Byte × Nat) :=
  match s.mgmtSession conn with
  | none => none
  | some x =>
    if !x.on ∨ seq ≠ x.seqIn then none
    else (gcmOpen x.c2l seq (mgmtHeader cipher.length type seq) cipher tag).map fun b => (b, clientTag x.key)

/-- Take a request on a session: check SEQ and tag, run `f` on its body and KEY_TAG, and answer with what it gives. -/
def State.mgmtRequest (s : State) (conn type seq : Nat) (cipher : List Byte) (tag : Nat)
    (f : List Byte → Nat → State → Nat × List Byte × State) : State :=
  if !s.lookoutUp ∨ s.mgmtSession conn = none then s
  else match s.mgmtBody conn type seq cipher tag with
  | none => s.setMgmtSession conn none
  | some (body, k) =>
    let s := s.setMgmtSession conn ((s.mgmtSession conn).map fun x => { x with seqIn := x.seqIn + 1 })
    let (status, out, s) := if body.length ≤ 2 ^ 20 then f body k s else (2, [], s)
    s.mgmtReply conn type status out

/-! Management requests (R545, R547). -/

/-- MGMT_INFO; a request whose TYPE is not in the table of R545 is answered with BAD_TYPE. -/
def execMgmtInfo (conn type seq : Nat) (cipher : List Byte) (tag : Nat) (s : State) : Host.Outcome State Fault Refusal :=
  if 2 ≤ type ∧ type ≤ 0x0C then .next s
  else .next (s.mgmtRequest conn type seq cipher tag fun _ _ s => if type = 1 then (0, s.infoBytes, s) else (1, [], s))

/-- MGMT_SENSORS. -/
def execMgmtSensors (conn seq : Nat) (cipher : List Byte) (tag : Nat) (s : State) : Host.Outcome State Fault Refusal :=
  .next (s.mgmtRequest conn 2 seq cipher tag fun _ _ s => (0, s.dev.look.sensors.encode, s))

/-- MGMT_GET_LOG: what a body of 1 MiB holds beside the STATUS. -/
def execMgmtGetLog (conn seq : Nat) (cipher : List Byte) (tag : Nat) (s : State) : Host.Outcome State Fault Refusal :=
  .next (s.mgmtRequest conn 3 seq cipher tag fun b _ s =>
    let n := field b 8 4
    if b.length ≠ 12 ∨ n = 0 ∨ 16384 < n then (2, [], s) else (0, s.nv.mgmt.records (field b 0 8) (min n 16383), s))

/-- SET_POWER_CAP: OPERATOR_CAP, 30 % to 100 % of the envelope. -/
def execSetPowerCap (conn seq : Nat) (cipher : List Byte) (tag : Nat) (s : State) : Host.Outcome State Fault Refusal :=
  .next (s.mgmtRequest conn 4 seq cipher tag fun b k s =>
    let w := field b 0 4
    let e := s.dev.desc.envelope
    if b.length ≠ 4 ∨ 100 * w < 30 * e ∨ e < w then (2, [], s)
    else (0, [], (s.modMgmt fun m => { m with operatorCap := some w }).writeCap 5 1 k))

/-- SET_CONFIG. -/
def execSetConfig (conn seq : Nat) (cipher : List Byte) (tag : Nat) (s : State) : Host.Outcome State Fault Refusal :=
  .next (s.mgmtRequest conn 5 seq cipher tag fun b k s =>
    let g := field b 0 1
    let c := field b 1 1
    if b.length ≠ 4 ∨ g < 16 ∨ 64 < g ∨ c < 70 ∨ 100 < c ∨ field b 3 1 ≠ 0 then (2, [], s)
    else (0, [], (s.modMgmt fun m => { m with hostGib := g, softC := c, ptpDomain := field b 2 1 }).mgmtLog 4 0 1 k 5))

/-- A RESET request whose body carries `scope`: the answer goes out, then the reset is requested.  A body that names another
scope of the table is another row's request. -/
def State.mgmtReset (s : State) (conn seq : Nat) (cipher : List Byte) (tag scope : Nat) (go : State → State) : State :=
  let body := (s.mgmtBody conn 6 seq cipher tag).map (·.1)
  let names (n : Nat) : Bool := body == some (leBytes 1 n)
  if ([0, 1, 2].any fun n => n != scope && names n) = true then s
  else
    let t := s.mgmtRequest conn 6 seq cipher tag fun _ k s =>
      if names scope then (0, [], s.mgmtLog 11 0 1 k scope) else (2, [], s)
    if names scope && s.lookoutUp then go t else t

/-- MGMT_RESET_WARM. -/
def execMgmtResetWarm (conn seq : Nat) (cipher : List Byte) (tag : Nat) (s : State) : Host.Outcome State Fault Refusal :=
  .next (s.mgmtReset conn seq cipher tag 0 (·.requestWarm 3))

/-- MGMT_RESET_COLD. -/
def execMgmtResetCold (conn seq : Nat) (cipher : List Byte) (tag : Nat) (s : State) : Host.Outcome State Fault Refusal :=
  .next (s.mgmtReset conn seq cipher tag 1 (·.requestCold 3))

/-- MGMT_RESET_BASECAMP. -/
def execMgmtResetBasecamp (conn seq : Nat) (cipher : List Byte) (tag : Nat) (s : State) : Host.Outcome State Fault Refusal :=
  .next (s.mgmtReset conn seq cipher tag 2 State.requestBasecamp)

/-- UPDATE_BEGIN: open an update and erase the inactive bank or the pending slot. -/
def execUpdateBegin (conn seq : Nat) (cipher : List Byte) (tag : Nat) (s : State) : Host.Outcome State Fault Refusal :=
  .next (s.mgmtRequest conn 7 seq cipher tag fun b k s =>
    let c := field b 0 1
    let n := field b 1 8
    if b.length ≠ 9 ∨ c = 0 ∨ 3 < c ∨ 2 ^ 26 < n then (2, [], s)
    else if s.dev.look.update.isSome then (4, [], s)
    else
      let s := s.modMgmt fun m => { m with
        pending := SMap.set (fun _ => none) m.pending c none, attempts := SMap.set (fun _ => 0) m.attempts c 0 }
      let s := s.modLook fun l => { l with update := some { component := c, bytes := n, data := [] } }
      (0, [], s.mgmtLog 4 0 1 k 7 c))

/-- UPDATE_DATA: write at the next offset. -/
def execUpdateData (conn seq : Nat) (cipher : List Byte) (tag : Nat) (s : State) : Host.Outcome State Fault Refusal :=
  .next (s.mgmtRequest conn 8 seq cipher tag fun b _ s =>
    let d := b.drop 8
    match s.dev.look.update with
    | none => (3, [], s)
    | some u =>
      if d = [] ∨ field b 0 8 ≠ u.data.length ∨ u.bytes < u.data.length + d.length then (2, [], s)
      else (0, [], s.modLook fun l => { l with update := some { u with data := u.data ++ d } }))

/-- UPDATE_COMMIT: check the staged image and mark it pending. -/
def execUpdateCommit (conn seq : Nat) (cipher : List Byte) (tag : Nat) (s : State) : Host.Outcome State Fault Refusal :=
  .next (s.mgmtRequest conn 9 seq cipher tag fun b k s =>
    match s.dev.look.update with
    | none => (3, [], s)
    | some u =>
      if b ≠ [] then (2, [], s)
      else
        let (r, s) := s.verifyImage islLookout 0x0F01 u.component u.data
        let s := s.modLook fun l => { l with update := none }
        if r ≠ 0 ∨ u.data.length ≠ u.bytes ∨
            u.component = 2 ∧ Config.descriptorField (u.data.drop 4096) 0 ≠ (s.rd rSecId).toNat then (5, [], s)
        else
          let i : Image := { bytes := u.data, svn := imageSvn u.data }
          let s := s.modMgmt fun m => { m with
            pending := SMap.set (fun _ => none) m.pending u.component (some i)
            attempts := SMap.set (fun _ => 0) m.attempts u.component 0 }
          (0, [], s.mgmtLog 7 0 1 k u.component i.svn))

/-- TRUST_ADD: at most eight digests. -/
def execTrustAdd (conn seq : Nat) (cipher : List Byte) (tag : Nat) (s : State) : Host.Outcome State Fault Refusal :=
  .next (s.mgmtRequest conn 0x0A seq cipher tag fun b k s =>
    if b.length ≠ 1312 then (2, [], s)
    else if s.nv.mgmt.trust.contains (Config.sha3 b) then (0, [], s)
    else if 8 ≤ s.nv.mgmt.trust.length then (3, [], s)
    else (0, [], s.trustAdd (Config.sha3 b) 1 k))

/-- TRUST_REMOVE: not the last entry. -/
def execTrustRemove (conn seq : Nat) (cipher : List Byte) (tag : Nat) (s : State) : Host.Outcome State Fault Refusal :=
  .next (s.mgmtRequest conn 0x0B seq cipher tag fun b k s =>
    let d := BitVec.ofNat 256 (field b 0 32)
    if b.length ≠ 32 ∨ !s.nv.mgmt.trust.contains d then (2, [], s)
    else if s.nv.mgmt.trust.length ≤ 1 then (3, [], s)
    else (0, [], (s.modMgmt fun m => { m with trust := m.trust.filter (· != d) }).mgmtLog 12 0 1 k (d.toNat % 2 ^ 64)))

/-- MGMT_ATTEST: a platform report without a tent (R468). -/
def execMgmtAttest (conn seq : Nat) (cipher : List Byte) (tag : Nat) (s : State) : Host.Outcome State Fault Refusal :=
  .next (s.mgmtRequest conn 0x0C seq cipher tag fun b _ s =>
    if b.length ≠ 64 then (2, [], s)
    else
      let r := s.reportBody 0 b
      (0, r ++ signed "vothes-report" r ++ List.replicate 140 0, s))

end Sys2Proof.Machine
end

