-- ==== Sys2Proof/Machine/Recovery.lean ====
section
/-! DEFINITION. Recovery from the journal and ranger restart (R418 to R427, R431). -/

namespace Sys2Proof.Machine

/-! The scan (R406, R418 to R420, R423). -/

/-- Two copies of one record. -/
def JRec.same (a b : JRec) : Bool := a.epoch == b.epoch && a.stamp == b.stamp && a.req == b.req && a.pay == b.pay

/-- Each record once. -/
def onceEach : List JRec → List JRec → List JRec
  | acc, [] => acc
  | acc, r :: rs => if (acc.any r.same) = true then onceEach acc rs else onceEach (acc ++ [r]) rs

/-- Replay order (R406): by epoch, then by stamp. -/
def JRec.earlier (a b : JRec) : Bool := decide (a.epoch < b.epoch) || (a.epoch == b.epoch && a.stamp.before b.stamp)

/-- The records that count (R418, R419): after a warm reset those of the local log below their class's commit position,
else what the peer and the journal SSDs hold; those in `bad` fail their check. -/
def State.counted (s : State) (bad : List Nat) (peer : List JRec) : List JRec :=
  if s.ao.causeKind = 2 then (s.dev.jrnl.log.filter s.recCommitted).filter fun r => !bad.contains r.id
  else
    let ssd := s.nv.ssds.flatMap fun e => if e.2.present then e.2.journal else []
    onceEach [] (((peer.filter (·.cls == 1)) ++ ssd.filter (·.cls == 2)).filter fun r => !bad.contains r.id)

/-- The counted cancel that ended request `n`. -/
def cancelOf (rs : List JRec) (n : Nat) : Option (Nat × Stamp) :=
  (rs.find? fun r => match r.pay with | .cancel t o => t == n && o == 1 | _ => false).map fun r => (r.epoch, r.stamp)

/-- One above the highest record SEQ that a record covers. -/
def JRec.covers (r : JRec) : Nat :=
  match r.pay with
  | .tokens first n _ _ _ _ _ _ => first + n
  | .leg k d => if k = 4 then (d.length + 39) / 40 else 0
  | .complete _ _ n _ => n + 1
  | _ => 0

/-- The request that a counted ADMIT stands for. -/
def Request.ofAdmit (a : JRec) (rs : List JRec) (c : Option (Nat × Stamp)) : Option Request :=
  match a.pay with
  | .admitReq d submit version ps bs tx sq slot =>
    some
      { seq := a.req, tent := a.tent, kind := dKind d, cls := dClass d, client := dClient d % 65536, tag := dTag d
        desc := d, sq := sq, slot := slot, submit := submit, admitReq := a.stamp, epoch := a.epoch, params := ps, bias := bs
        text := tx, accepted := true, recovered := true, conditions := if a.cls = 0 then 0 else 0x20, replay := rs
        cancelledAt := c, committedRecords := rs.foldl (fun n r => max n r.covers) 0, gen := { adapter := version } }
  | _ => none

/-- A VOLATILE request whose COMPLETE is not counted ends ABANDONED (R423). -/
def Request.abandon (r : Request) (cls : Nat) (st : Stamp) : Request :=
  if cls = 0 ∧ (r.replay.any (·.pay.kind == 5)) = false then { r with ended := some (0x42, st), resumed := true } else r

/-- After a cold start what counts is in the local log again, committed as it was, as carried copies; and the log's head. -/
def relog (rs : List JRec) : List JRec × Nat :=
  rs.foldl (fun x r =>
    (x.1 ++ [{ r with carried := true, acked := r.cls == 1, written := r.cls == 2, pos := x.2 + r.size }], x.2 + r.size)) ([], 0)

/-- REPLAY_SCAN (R418 to R420, R423): at start-up step 11. -/
def execReplayScan (bad : List Nat) (peer : List JRec) (s : State) : Host.Outcome State Fault Refusal :=
  if s.ao.startStep ≠ 11 ∨ !s.flag rJrnlStatus fJrnlStatusReplaying then .next s
  else
    let rs := s.counted bad peer
    let (st, s) := s.originate (islRanger 0)
    let admits := sortBy (fun (a b : JRec) => decide (a.req < b.req)) (rs.filter (·.pay.kind == 1))
    let s := admits.foldl (fun s a =>
      match Request.ofAdmit a (sortBy JRec.earlier (rs.filter (·.req == a.req))) (cancelOf rs a.req) with
      | some r => s.setReq a.req (some (r.abandon a.cls st))
      | none => s) s
    let top := rs.foldl (fun n r => max n (r.req + 1)) s.dev.adm.nextSeq
    let ids := (s.nv.ssds.flatMap fun e => e.2.journal) ++ rs ++ s.dev.jrnl.log
    let s := if s.ao.causeKind = 2 then s else s.wr rJrnlHead (BitVec.ofNat 64 (relog rs).2)
    let s := (s.modAdm fun a => { a with nextSeq := top }).modJrnl fun j => { j with
      log := if s.ao.causeKind = 2 then rs else (relog rs).1, recovered := admits.map (·.req)
      nextId := ids.foldl (fun n r => max n (r.id + 1)) j.nextId }
    .next ((s.setFld rJrnlRecoveryStatus fJrnlRecoveryStatusEntries admits.length).setFlag rJrnlStatus
      fJrnlStatusReplaying false)

/-! The recovery table (R425). -/

/-- STATE of an entry. -/
def Request.recoveryState (r : Request) : Nat :=
  if r.finalDone then 3
  else match r.ended with
    | some e => if e.1 = 0x42 then 2 else 1
    | none => if (r.replay.any (·.pay.kind == 5)) = true then 1 else 0

/-- The 32 bytes of an entry. -/
def Request.recoveryEntry (r : Request) : List Byte :=
  leBytes 8 r.seq ++ leBytes 8 r.tag ++ leBytes 1 r.tent ++ leBytes 1 r.sq ++ leBytes 2 r.slot ++
    leBytes 1 r.recoveryState ++ leBytes 1 ((r.replay.head?.map (·.cls)).getD 0) ++ leBytes 2 0 ++
    leBytes 8 r.committedRecords

/-- RECOVERY_TABLE_WRITE (R425): a write of `v` with GO to JRNL_RECOVERY.  A table that does not lie wholly in the host
region is not written. -/
def execRecoveryTableWrite (v : W64) (s : State) : Host.Outcome State Fault Refusal :=
  let s := (s.writeReg rJrnlRecovery v).setFlag rJrnlRecoveryStatus fJrnlRecoveryStatusDone false
  let a := s.fld rJrnlRecovery fJrnlRecoveryAddr * 64
  let rs := s.dev.jrnl.recovered.filterMap s.req
  if s.inHost a (32 * rs.length) then
    .next ((s.hostWrite a (rs.flatMap Request.recoveryEntry)).setFlag rJrnlRecoveryStatus fJrnlRecoveryStatusDone true)
  else .next s

/-! What the journal holds of a request. -/

/-- The data of its latest LEG_RESULT of a leg. -/
def Request.legFound (r : Request) (k : Nat) : Option (Stamp × List Byte) :=
  (r.replay.filterMap fun x => match x.pay with
    | .leg j d => if j = k then some (x.stamp, d) else none
    | _ => none).getLast?

/-- Its TOKENS records. -/
def Request.tokensFound (r : Request) : List JRec := r.replay.filter (·.pay.kind == 3)

/-- The records that TOKENS records stand for, with the context their tokens leave, the tokens, and the status that the
last of them brings (R290, R336, R421). -/
def regroup (v stop : List Byte) (incl : Bool) (maxNew : Nat) :
    List JRec → Detok → List Nat → Option Nat → List PubGroup × Detok × List Nat × Option Nat
  | [], d, ids, e => ([], d, ids, e)
  | r :: rs, d, ids, e =>
    match r.pay with
    | .tokens _ _ _ _ _ _ _ ts =>
      let k := kerfTokens v stop incl (maxNew - ids.length) d ts
      let g : PubGroup := { records := k.1.flatMap fun x => tokenRecords r.stamp.tick x.1 x.2, stamp := r.stamp }
      let rest := regroup v stop incl maxNew rs k.2.1 (ids ++ ts) k.2.2
      (g :: rest.1, rest.2)
    | _ => regroup v stop incl maxNew rs d ids e

/-- Values that continue from the latest TOKENS record (R421). -/
def Request.continueFrom (r : Request) (now : Nat) : Request :=
  match r.tokensFound.getLast? with
  | none => r
  | some x => match x.pay with
    | .tokens _ _ c p ttft maxTbt sumTbt _ =>
      { r with
        conditions := r.conditions ||| c, preemptions := p
        gen := { r.gen with
          ttft := 1000 * ttft, maxTbt := 1000 * maxTbt, sumTbt := 1000 * sumTbt, lastAt := now
          firstAt := if ttft = 0 then none else some now } }
    | _ => r

/-- Ticks from the submission to the latest journaled stamp: latency leaves out what follows it (R421). -/
def Request.spent (r : Request) : Nat :=
  r.replay.foldl (fun n x => if x.epoch = r.epoch then max n (x.stamp.tick - r.submit) else n) 0

/-! Resumption (R420 to R422, R425). -/

/-- New bindings (R30, R420): names are checked as at admission. -/
def State.rebind (s : State) (r : Request) (st : Stamp) : Request × State :=
  let d := r.desc
  let t := r.tent
  let gr := genKind r.kind && dGrammar d != 0xFF
  let home := nextRound (s.tentDies t) (SMap.get (fun _ => 3) s.dev.adm.lastHome t)
  let r := { r with
    home := home, kerf := (s.dev.adm.lastKerf + 1) % s.dev.desc.iods
    engine := s.lanternPick d (s.bindIndex t d), index := s.bindIndex t d
    vocab := if textKind r.kind ∧ s.vocabUsable t (dVocab d) st then some (dVocab d) else none
    grammar := if gr ∧ s.grammarUsable t (dGrammar d) (dVocab d) st then some (dGrammar d) else none
    badSlot := (textKind r.kind && !s.vocabUsable t (dVocab d) st) ||
      (gr && !s.grammarUsable t (dGrammar d) (dVocab d) st) || ((descIndex d).isSome && (s.bindIndex t d).isNone)
    submitLive := s.liveTick - r.spent }
  (r, s.modAdm fun a => { a with lastHome := SMap.set (fun _ => 3) a.lastHome t home, lastKerf := r.kerf })

/-- A list read back from its bytes (R177). -/
def listOf (b : List Byte) : ResList := readList (({} : Store).write 0 b) 0 b.length

/-- The tokens of the request text. -/
def State.retokenize (s : State) (r : Request) : Option (List Nat) :=
  (s.plainItem r 0 r.text).map fun t => (tokenizeItem (s.reqVocab r) t (s.queryLimit r)).tokens

/-- The prompt of a RAG request from its PACK record (R421): the packed passages with their scores and token counts, and
the prompt; `none` where the SHA3 prefix does not match. -/
def State.repack (s : State) (r : Request) (query : List Nat) (d : List Byte) :
    Except GErr (Option (List (Nat × W32 × Nat) × List Nat) × State) := do
  let n := (d.length - 20) / 8
  let ids := (List.range n).map fun i => field d (8 * i) 8
  let scores := match r.legFound 2 with
    | some x => (listOf x.2).entries
    | none => []
  let (es, s) ← s.readTemplate r.tent (dTemplate r.desc) (s.reqVocab r).image 1
  let (ps, s) ← s.ragPassages r (s.reqVocab r) ids
  let prompt := buildPrompt es query (ps.map (·.tokens))
  let packed := ps.map fun p => (p.id, ((scores.find? (·.id == p.id)).map (·.score)).getD 0, p.tokens.length)
  let hash := (Config.sha3 (prompt.flatMap fun t => leBytes 4 t)).toNat % 2 ^ 128
  if prompt.length = field d (8 * n) 4 ∧ hash = field d (8 * n + 4) 16 then pure (some (packed, prompt), s)
  else pure (none, s)

/-- The request with its inputs as far as its tokens need them: query, prompt, packed passages, and the stop automaton;
`some` status: it ends with that. -/
def State.reinputs (s : State) (r : Request) : Except GErr (Request × Option Nat × State) := do
  if r.badSlot then return (r, some 0x31, s)
  let (stop, s) ← s.readStop r
  match s.retokenize r with
  | none => return (r, some 0x31, s)
  | some query =>
    let r := { r with stop := stop, query := query }
    if r.kind = 4 then
      let (prompt, s) ← s.generatePrompt r (s.reqVocab r).image query
      return ({ r with prompt := prompt }, none, s)
    else match r.legFound 3 with
      | none => return (r, none, s)
      | some x =>
        match ← s.repack r query x.2 with
        | (none, s) => return (r, some 0x40, s)
        | (some p, s) => return ({ r with packed := p.1, prompt := p.2 }, none, s)

/-- The passages returned, where the PACK leg completed (R319, R409). -/
def Request.packGroup (r : Request) : List PubGroup :=
  match r.legFound 3 with
  | some x =>
    let rs := resultRecords x.1.tick (packedBytes r.packed)
    if (dFlags r.desc).testBit 1 ∧ rs ≠ [] then [{ records := rs, stamp := x.1 }] else []
  | none => []

/-- The records that its RESULT record covers. -/
def Request.resultGroup (r : Request) : List PubGroup :=
  match r.legFound 4 with
  | some x =>
    let rs := resultRecords x.1.tick x.2
    if rs ≠ [] then [{ records := rs, stamp := x.1 }] else []
  | none => []

/-- Groups stamped before the cancel that ended the request. -/
def Request.keptGroups (r : Request) (gs : List PubGroup) : List PubGroup :=
  let c : Option Stamp := match r.cancelledAt with
    | some x => some x.2
    | none => match r.ended with
      | some e => if e.1 = 0x10 then some e.2 else none
      | none => none
  match c with
  | none => gs
  | some c => gs.filter fun g => g.stamp.before c

/-- The end that a COMPLETE record holds: its FINAL record, with the summary as journaled. -/
def Request.completed (r : Request) (st : Stamp) : Option Request :=
  (r.replay.filterMap fun x => match x.pay with
    | .complete status c _ sm => some (x.stamp, status, c, sm)
    | _ => none).getLast?.map fun x =>
      { r with
        ended := some (x.2.1, st), conditions := r.conditions ||| x.2.2.1, closing := true, legs := []
        finalSummary := x.2.2.2
        groups := r.groups ++ [{ records := [finalRecord x.1.tick x.2.1], stamp := st, final := true }] }

/-- A request in whose journal nothing is left to run, or `none`: COMPLETE, a cancel, the token that ended it, or a
result. -/
def Request.settledEnd (r : Request) (st : Stamp) (last : Option Nat) : Option Request :=
  match r.completed st with
  | some q => some q
  | none =>
    if r.ended.isSome then some r
    else if r.cancelledAt.isSome then some { r with ended := some (0x10, st), legs := [] }
    else match last with
      | some e => some { r with ended := some (e, st), legs := [] }
      | none =>
        if !genKind r.kind ∧ ((r.legFound 4).isSome ∨ (r.legFound 5).isSome) then
          some { r with ended := some (0, st), legs := [] }
        else none

/-- Legs that a request of a generating kind resumes with, after its latest LEG_RESULT. -/
def Request.legsLeft (r : Request) : List Nat :=
  if r.kind = 5 then
    if (r.legFound 3).isSome then [7, 8]
    else if (r.legFound 2).isSome then [6, 7, 8]
    else if (r.legFound 1).isSome then [5, 6, 7, 8]
    else legsOf r.desc
  else legsOf r.desc

/-- The result list that the resumed leg reads. -/
def Request.listFound (r : Request) : ResList :=
  match r.legFound 2 with
  | some x => listOf x.2
  | none => match r.legFound 1 with
    | some x => listOf (x.2.take (x.2.length - 64))
    | none => {}

/-- Passages that RERANK read, for a request that resumes at PACK. -/
def State.repassages (s : State) (r : Request) : Except GErr (List TextItem × State) :=
  if r.legsLeft.head? = some 6 then s.ragPassages r (s.reqVocab r) (r.listFound.entries.map (·.id)) else pure ([], s)

/-- Put a request back (R420). -/
def State.putBack (s : State) (r : Request) : State := s.setReq r.seq (some { r with resumed := true, waitFrom := none })

/-- A request with TOKENS resumes DECODE as a pre-empted sequence (R421). -/
def Request.rejoin (r : Request) (ids : List Nat) (d : Detok) (now : Nat) : Request :=
  { r with
    legs := [8]
    gen := { r.gen with tokens := ids, published := ids.length, held := d.held, stopState := d.state
                        preemptedAt := some now } }

/-- A request ends at its resumption. -/
def Request.stopAt (r : Request) (status : Nat) (st : Stamp) : Request :=
  { r with ended := some (status, st), legs := [], groups := [] }

/-- Resume one request; it stays as it is while a panel it reads is brought in. -/
def State.resumeRequest (s : State) (n : Nat) : State :=
  match s.req n with
  | none => s
  | some r0 =>
    if !r0.recovered ∨ r0.resumed then s
    else
      let (st, s) := s.originate (islRanger 0)
      let (r, s) := s.rebind r0 st
      let r := r.continueFrom s.liveTick
      let needs := genKind r.kind && (r.tokensFound != [] || r.legsLeft != legsOf r.desc)
      let res : Except GErr (Request × Option Nat × List TextItem × State) := do
        let (q, e, s) ← if needs then s.reinputs r else pure (r, if r.badSlot then some 0x31 else none, s)
        let (ps, s) ← if needs && e.isNone then s.repassages q else pure ([], s)
        pure (q, e, ps, s)
      match res with
      | .error (.wait a) => s.requestInbound r.tent (a / 65536) st true
      | .error (.broken _) => s.putBack (r.stopAt 0x31 st)
      | .error (.poison _) => s.putBack (r.stopAt 0x40 st)
      | .ok (r, e, ps, s) =>
        let g := regroup (s.reqVocab r).image r.stop ((dFlags r.desc).testBit 0) (dMaxNew r.desc) r.tokensFound {} [] none
        let r := { r with
          groups := r.keptGroups (r.packGroup ++ (if e.isSome then [] else g.1) ++ r.resultGroup)
          gen := { r.gen with tokens := g.2.2.1, published := g.2.2.1.length } }
        match r.settledEnd st g.2.2.2 with
        | some q => s.putBack q
        | none => match e with
          | some status => s.putBack (r.stopAt status st)
          | none =>
            if r.kind = 7 ∧ s.lanternDone r then s.putBack { r with ended := some (0, st), legs := [] }
            else if genKind r.kind ∧ r.tokensFound ≠ [] then
              (s.putBack (r.rejoin g.2.2.1 g.2.1 s.liveTick)).legReady n
            else (s.putBack { r with legs := if genKind r.kind then r.legsLeft else legsOf r.desc
                                     list := r.listFound, passages := ps }).legReady n

/-- RESULT of JRNL_RECOVER. -/
def State.recoverResult (s : State) (n : Nat) : State := s.setFld rJrnlRecover fJrnlRecoverResult n

/-- TENT_RECOVER (R425): a write of TENT = `t` with GO.  While a request waits for a panel, the resumption is in progress,
and goes on with the next such write. -/
def execTentRecover (t : Nat) (s : State) : Host.Outcome State Fault Refusal :=
  let mine := (s.dev.jrnl.recovered.filterMap s.req).filter (·.tent == t)
  if 64 ≤ t then .next s
  else if s.dev.jrnl.resuming.any (· != t) then .next (s.recoverResult 4)
  else if s.tentState t ≠ 2 then .next (s.recoverResult 1)
  else if mine = [] then .next (s.recoverResult 3)
  else if mine.any fun r => r.replay.any fun x => x.keyId != (s.tent t).keyId then .next (s.recoverResult 2)
  else if s.blocked (islRanger 0) then .next s
  else
    let s := (mine.map (·.seq)).foldl (fun s n => s.resumeRequest n) s
    let busy := (mine.map (·.seq)).any fun n => match s.req n with
      | some r => !r.resumed
      | none => false
    let s := (s.recoverResult 0).setFlag rJrnlRecover fJrnlRecoverBusy busy
    .next (s.modJrnl fun j => { j with resuming := if busy then some t else none })

/-! Reattachment (R426). -/

/-- The first `n` records of a list of groups, and the rest. -/
def takeRecords : Nat → List PubGroup → List PubGroup
  | _, [] => []
  | n, g :: gs =>
    if n = 0 then []
    else { g with records := g.records.take n } :: takeRecords (n - g.records.length) gs
def dropRecords : Nat → List PubGroup → List PubGroup
  | _, [] => []
  | n, g :: gs =>
    if n = 0 then g :: gs
    else if g.records.length ≤ n then dropRecords (n - g.records.length) gs
    else { g with records := g.records.drop n } :: gs

/-- Records that NEXT_SEQ may leave out: what the counted records cover, or what has been published and may be. -/
def State.takenOver (s : State) (r : Request) : Nat :=
  max (if r.recovered then r.committedRecords else 0)
    (r.published + ((r.groups.takeWhile s.groupReady).foldl (fun n g => n + g.records.length) 0))

/-- The request publishes from SEQ `n` on into ring `k`. -/
def Request.reattach (r : Request) (n k : Nat) : Request :=
  let all := r.history ++ r.groups
  let old := (takeRecords n all).map fun g => { g with covered := true, tokens := 0 }
  let left := dropRecords n all
  if left = [] ∧ r.closing then { r with history := old, groups := [], published := n, finalDone := true, ring := none }
  else { r with history := old, groups := left, published := n, ring := some k, orphaned := false }

/-- REQUEST_REATTACH (R426): a write of RING_SLOT = `k` with GO to JRNL_REATTACH. -/
def execRequestReattach (k : Nat) (s : State) : Host.Outcome State Fault Refusal :=
  let n := (s.rd rJrnlReattachSeq).toNat
  let next := (s.rd rJrnlReattachNext).toNat
  let answer (x : Nat) (s : State) : Host.Outcome State Fault Refusal :=
    .next (s.setFld rJrnlReattachStatus fJrnlReattachStatusResult x)
  match s.req n with
  | none => answer 1 s
  | some r =>
    if !r.recovered ∧ !r.orphaned then answer 1 s
    else if r.finalDone then answer 4 s
    else if s.takenOver r < next then answer 3 s
    else match s.ring k with
      | none => answer 2 s
      | some x =>
        if x.tent ≠ r.tent ∨ x.bound ≠ 0 then answer 2 s
        else
          let s : State := match r.ring with
            | some j => s.setRing j ((s.ring j).map fun (y : Ring) => { y with bound := 0, stalled := none })
            | none => s
          let q := r.reattach next k
          let s := s.setReq n (some q)
          if q.ring.isNone then answer 0 s
          else
            let s := s.setRing k (some { x with producer := 0, consumer := 0 })
            answer 0 ((s.hostPut x.addr 8 0).bindRing k n)

/-! Ranger restart (R431). -/

/-- RANGER_WATCHDOG_EXPIRE (R431): core `r` has not written its watchdog; the third restart in a second enters
FAILSAFE. -/
def execRangerWatchdogExpire (r : Nat) (s : State) : Host.Outcome State Fault Refusal :=
  if 8 ≤ r ∨ !s.rangerUp r then .next s
  else
    let now := s.liveTick
    let recent := (SMap.get (fun _ => []) s.dev.rangers r).filter fun t => decide (now < t + 1000000000)
    let s : State := { s with dev := { s.dev with
      rangers := SMap.set (fun _ => []) s.dev.rangers r (recent ++ [now]) } }
    let s := s.setFld rFwStatus fFwStatusRangersUp (setBit (s.fld rFwStatus fFwStatusRangersUp) r false)
    if 2 ≤ recent.length then .next (s.enterFailsafe (islRanger r) { detector := 0x0E00 } 3 none)
    else .next (s.log (islRanger r) { detector := 0x0E00, severity := 3 })

/-- RANGER_RESTART_COMPLETE (R431): core `r` runs its verified image again, unless the image fails its check;
firmware posts RANGER_RESTART (R535). -/
def execRangerRestartComplete (r : Nat) (ok : Bool) (s : State) : Host.Outcome State Fault Refusal :=
  if 8 ≤ r ∨ s.rangerUp r ∨ SMap.get (fun _ => []) s.dev.rangers r = [] then .next s
  else if !ok ∨ s.armedAt (islRanger r) 0x0E01 then .next (s.enterFailsafe (islRanger r) { detector := 0x0E01 } 3 none)
  else .next ((s.setFld rFwStatus fFwStatusRangersUp (setBit (s.fld rFwStatus fFwStatusRangersUp) r true)).postEvent r 4 0 0 [r])

end Sys2Proof.Machine
end

