-- ==== Sys2Proof/Machine/StrandFp.lean ====
section
/-! DEFINITION. Strand floating point and conversions, opcodes 0x20 to 0x31 (R102, R104, R105). -/

namespace Sys2Proof.Machine

/-- FABSNEG: FUNC[0] clears the sign, FUNC[1] then inverts it. -/
def absNeg (f : Short) (a : W32) : W32 :=
  let x := if fbit f 0 then a &&& 0x7FFFFFFF else a
  if fbit f 1 then x ^^^ 0x80000000 else x

/-- Bits an element takes in a word: six-bit elements take a byte (R105). -/
def elemStep (width : Nat) : Nat := if width = 6 then 8 else width

/-- The NaN encodings of a format, of which a free value picks one where the spec names none (log entry 9). -/
def nanOf (f : FFmt) (free : Nat) : Nat :=
  match f.kind with
  | .ieee => (free / 2 ^ f.mw % 2) * 2 ^ (f.ew + f.mw) + (2 ^ f.ew - 1) * 2 ^ f.mw + 1 + free % (2 ^ f.mw - 1)
  | .nanOnly => free % 2 * 2 ^ (f.ew + f.mw) + (2 ^ (f.ew + f.mw) - 1)
  | .finite => 0

/-- F2N: the element of a value in a format (R105). -/
def narrow (fmt : FFmt) (free : Nat) (a : W32) : Nat :=
  encodeF fmt (nanOf fmt free) (decode32 a)

/-- Element `k` of a word replaced. -/
def putElem (d : W32) (step width k x : Nat) : W32 :=
  let lo := step * k
  BitVec.ofNat 32 (d.toNat % 2 ^ lo + x % 2 ^ width * 2 ^ lo + d.toNat / 2 ^ (lo + width) * 2 ^ (lo + width))

/-- Format and element position of F2N and N2F. -/
def elemCode (f : Short) : Nat := fn f % 16
def elemPos (f : Short) : Nat := fn f / 16 % 8

/-- Width of a format code that N2F reads: the floating-point formats, LOG4 and INT8 (R143, R144, R146). -/
def elemWidth (code : Nat) : Option Nat :=
  if code = 5 then some 4 else if code = 6 then some 8 else (fmtOf code).map FFmt.width

/-- The element position lies in the word. -/
def elemOk (f : Short) : Bool :=
  match elemWidth (elemCode f) with
  | some w => decide (elemStep w * (elemPos f + 1) ≤ 32)
  | none => false

/-- The value of a LOG4 code before its block scale (R146). -/
def log4Val (x : Nat) : FVal :=
  if x % 8 = 0 then .fin false 0 0 else .fin (x.testBit 3) 1 ((x % 8 : Nat) - 8 : Int)

/-- The value of an element before any block scale (R143, R144, R146). -/
def elemVal (code x : Nat) : FVal :=
  if code = 5 then log4Val x
  else if code = 6 then
    let n := (BitVec.ofNat 8 x).toInt
    .fin (decide (n < 0)) n.natAbs 0
  else match fmtOf code with
    | some fmt => decodeF fmt x
    | none => .nan

/-- FADD (R102, R104): `a + b`, one rounding. -/
def execFadd (bay slot : Nat) (f : Short) (s : State) : Host.Outcome State Fault Refusal :=
  if !s.fetches bay slot 0x20 f none then .next s else
  .next (s.alu2 bay slot f 0 fadd)

/-- FSUB (R102, R104): `a - b`, one rounding. -/
def execFsub (bay slot : Nat) (f : Short) (s : State) : Host.Outcome State Fault Refusal :=
  if !s.fetches bay slot 0x21 f none then .next s else
  .next (s.alu2 bay slot f 0 fsub)

/-- FMUL (R102, R104): `a * b`, one rounding. -/
def execFmul (bay slot : Nat) (f : Short) (s : State) : Host.Outcome State Fault Refusal :=
  if !s.fetches bay slot 0x22 f none then .next s else
  .next (s.alu2 bay slot f 0 fmul)

/-- FFMA (R102, R104): `a * b + c`, one rounding. -/
def execFfma (bay slot : Nat) (f : Short) (s : State) : Host.Outcome State Fault Refusal :=
  if !s.fetches bay slot 0x23 f none then .next s else
  .next (s.alu3 bay slot f ffma)

/-- FMIN (R102, R104): minimum number. -/
def execFmin (bay slot : Nat) (f : Short) (s : State) : Host.Outcome State Fault Refusal :=
  if !s.fetches bay slot 0x24 f none then .next s else
  .next (s.alu2 bay slot f 0 fmin)

/-- FMAX (R102, R104): maximum number. -/
def execFmax (bay slot : Nat) (f : Short) (s : State) : Host.Outcome State Fault Refusal :=
  if !s.fetches bay slot 0x25 f none then .next s else
  .next (s.alu2 bay slot f 0 fmax)

/-- FSETP (R102): FP32 compare to a predicate; FUNC[3] is the result of an unordered compare. -/
def execFsetp (bay slot : Nat) (f : Short) (s : State) : Host.Outcome State Fault Refusal :=
  if !s.fetches bay slot 0x26 f none then .next s else
  .next (s.setPred bay slot f fun a b => fcompare (fn f % 8) (fbit f 3) a b)

/-- FABSNEG (R102): clear, then invert, the sign. -/
def execFabsneg (bay slot : Nat) (f : Short) (s : State) : Host.Outcome State Fault Refusal :=
  if !s.fetches bay slot 0x27 f none then .next s else
  .next (s.alu1 bay slot f 3 (absNeg f))

/-- FRCP (R102, R104): within 1 ulp of `1 / a`. -/
def execFrcp (bay slot : Nat) (f : Short) (s : State) : Host.Outcome State Fault Refusal :=
  if !s.fetches bay slot 0x28 f none then .next s else
  .next (s.approx bay slot f frcp)

/-- FRSQ (R102, R104): within 1 ulp of `1 / √a`. -/
def execFrsq (bay slot : Nat) (f : Short) (s : State) : Host.Outcome State Fault Refusal :=
  if !s.fetches bay slot 0x29 f none then .next s else
  .next (s.approx bay slot f frsq)

/-- FEXP2 (R102, R104): within 2 ulp of `2 ^ a`. -/
def execFexp2 (bay slot : Nat) (f : Short) (s : State) : Host.Outcome State Fault Refusal :=
  if !s.fetches bay slot 0x2A f none then .next s else
  .next (s.approx bay slot f fexp2)

/-- FLOG2 (R102, R104): within 2 ulp of `log2 a`. -/
def execFlog2 (bay slot : Nat) (f : Short) (s : State) : Host.Outcome State Fault Refusal :=
  if !s.fetches bay slot 0x2B f none then .next s else
  .next (s.approx bay slot f flog2)

/-- FTANH (R102, R104): within 2⁻²² of `tanh a`. -/
def execFtanh (bay slot : Nat) (f : Short) (s : State) : Host.Outcome State Fault Refusal :=
  if !s.fetches bay slot 0x2C f none then .next s else
  .next (s.approx bay slot f ftanh)

/-- F2I (R102, R105): toward zero, saturating; FUNC[0] unsigned. -/
def execF2i (bay slot : Nat) (f : Short) (s : State) : Host.Outcome State Fault Refusal :=
  if !s.fetches bay slot 0x2D f none then .next s else
  .next (s.alu1 bay slot f 1 (f2i (fbit f 0)))

/-- I2F (R102, R105): nearest-even; FUNC[0] unsigned. -/
def execI2f (bay slot : Nat) (f : Short) (s : State) : Host.Outcome State Fault Refusal :=
  if !s.fetches bay slot 0x2E f none then .next s else
  .next (s.alu1 bay slot f 1 (i2f (fbit f 0)))

/-- F2N (R102, R105): element FUNC[6:4] of `d` in format FUNC[3:0]; the rest of `d` is kept. -/
def execF2n (bay slot : Nat) (f : Short) (s : State) : Host.Outcome State Fault Refusal :=
  if !s.fetches bay slot 0x2F f none then .next s else
  .next ((s.strand bay slot f { a := .v 1, func := 0x7F, dstRead := true }
      (fun _ => (fmtOf (elemCode f)).isNone || !elemOk f) fun s c l =>
    let a := c.readV l f.srca.toNat
    let d := c.readV l f.dst.toNat
    let fmt := (fmtOf (elemCode f)).getD f32
    ⟨putElem d.val (elemStep fmt.width) fmt.width (elemPos f) (narrow fmt (s.laneFree l) a.val), a.poison || d.poison⟩).skipFree)

/-- N2F (R102, R105, R143): element FUNC[6:4] of `a` as FP32; every narrow value is exact in FP32. -/
def execN2f (bay slot : Nat) (f : Short) (s : State) : Host.Outcome State Fault Refusal :=
  if !s.fetches bay slot 0x30 f none then .next s else
  .next (s.strand bay slot f { a := .v 1, func := 0x7F } (fun _ => !elemOk f) fun _ c l =>
    let a := c.readV l f.srca.toNat
    let w := (elemWidth (elemCode f)).getD 8
    ⟨encode32 (elemVal (elemCode f) (a.val.toNat / 2 ^ (elemStep w * elemPos f) % 2 ^ w)), a.poison⟩)

/-- FCLASS (R102): the class bits of `a`. -/
def execFclass (bay slot : Nat) (f : Short) (s : State) : Host.Outcome State Fault Refusal :=
  if !s.fetches bay slot 0x31 f none then .next s else
  .next (s.alu1 bay slot f 0 fclass)

end Sys2Proof.Machine
end

