-- ==== Sys2Proof/Machine/System.lean ====
section
/-! DEFINITION. System instructions, opcodes 0x70 to 0x75, and the fetch of an ill-formed word (R99, R102, R131). -/

namespace Sys2Proof.Machine

/-- BAY_ID of bay `n` (R25). -/
def State.bayId (s : State) (n : Nat) : W64 :=
  let b := s.bay n
  BitVec.ofNat 64 (n % 256 + n / 64 * 2 ^ 8 + s.physOf n * 2 ^ 16 + s.bayIsland n * 2 ^ 32 +
    (match b.tent with | some t => t % 64 * 2 ^ 48 + 2 ^ 56 | none => 0) + (if b.retired then 2 ^ 61 else 0))

/-- TRAP (R102, R131): cause SOFTWARE with code FUNC[15:0]. -/
def execTrap (bay slot : Nat) (f : Short) (s : State) : Host.Outcome State Fault Refusal :=
  if !s.fetches bay slot 0x70 f none then .next s else
  .next (s.issue bay slot f { func := 0xFFFF } fun c _ s =>
    s.trapAll bay slot c trapSoftware (BitVec.ofNat 64 (fn f)))

/-- TIME (R102): the bay's copy of the tick count. -/
def execTime (bay slot : Nat) (f : Short) (s : State) : Host.Outcome State Fault Refusal :=
  if !s.fetches bay slot 0x71 f none then .next s else
  .next (s.uniform bay slot f {} fun _ => ⟨BitVec.ofNat 64 (s.copy (s.bayIsland bay)), false⟩)

/-- CTR (R102, R514): EVC_VALUE of counter FUNC[2:0] of the bay. -/
def execCtr (bay slot : Nat) (f : Short) (s : State) : Host.Outcome State Fault Refusal :=
  if !s.fetches bay slot 0x72 f none then .next s else
  .next (s.issue bay slot f { dst := .u, func := 7 } fun c _ s =>
    s.setCrew bay slot ((if c.active = 0 then c
      else c.writeU f.dst.toNat ⟨s.rd (rBayEvcValue bay (fn f)), false⟩).advance {}))

/-- BAYINFO (R102, R25). -/
def execBayinfo (bay slot : Nat) (f : Short) (s : State) : Host.Outcome State Fault Refusal :=
  if !s.fetches bay slot 0x73 f none then .next s else
  .next (s.uniform bay slot f {} fun _ => ⟨s.bayId bay, false⟩)

/-- TRACE (R102, R520, R521): a TRACEPOINT event; a sealed tent without a TRACE consent carries no value. -/
def execTrace (bay slot : Nat) (f : Short) (s : State) : Host.Outcome State Fault Refusal :=
  if !s.fetches bay slot 0x74 f none then .next s else
  .next (s.issue bay slot f { a := .u, func := 0xFFFF } fun c _ s =>
    let t := (s.bay bay).tent.getD 0xFF
    let hidden := s.sealedHidden t 2 (s.stampTick (s.bayIsland bay))
    (s.setCrew bay slot (c.advance {})).trace (s.bayIsland bay) 0x80 t (fn f)
      (if hidden then 0 else (c.readU f.srca.toNat).val.toNat) (if hidden then 1 else 0))

/-- BRK (R102, R131): cause BREAKPOINT with code FUNC[15:0]. -/
def execBrk (bay slot : Nat) (f : Short) (s : State) : Host.Outcome State Fault Refusal :=
  if !s.fetches bay slot 0x75 f none then .next s else
  .next (s.issue bay slot f { func := 0xFFFF } fun c _ s =>
    s.trapAll bay slot c trapBreakpoint (BitVec.ofNat 64 (fn f)))

/-- Major opcodes that the tables list (R99, R102, R114 to R129). -/
def opcodeListed (op : Nat) : Bool :=
  decide (op ≤ 0x1A) || (decide (0x20 ≤ op) && decide (op ≤ 0x31)) || (decide (0x40 ≤ op) && decide (op ≤ 0x4E)) ||
    (decide (0x50 ≤ op) && decide (op ≤ 0x59)) || (decide (0x60 ≤ op) && decide (op ≤ 0x6C)) ||
    (decide (0x70 ≤ op) && decide (op ≤ 0x75)) || (decide (0x80 ≤ op) && decide (op ≤ 0x86)) ||
    (decide (0x90 ≤ op) && decide (op ≤ 0x95)) || (decide (0x98 ≤ op) && decide (op ≤ 0x9B)) ||
    (decide (0xA0 ≤ op) && decide (op ≤ 0xA2))

/-- ILLEGAL_OPCODE (R68, R99, R131): the crew fetches the word at its PC.  An address outside the store traps
IFETCH_RANGE, an uncorrectable word IFETCH_ECC, a reserved or unlisted opcode ILLEGAL_OPCODE; a word that is none of
these is executed by its own command, and nothing changes here.  A word that a DMA has not finished writing makes an
undefined instruction: the machine stops. -/
def execIllegalOpcode (bay slot : Nat) (s : State) : Host.Outcome State Fault Refusal :=
  match s.crew bay slot with
  | none => .next s
  | some c =>
    if !s.canIssue bay c then .next s
    else if c.pc > 32767 then .next (s.trap bay slot c.pc trapIfetchRange c.active 0)
    else if (s.bay bay).writingWord c.pc then .fault .undefinedInstruction
    else
      let w := (s.bay bay).fetch c.pc
      if w.2 then .next (s.trap bay slot c.pc trapIfetchEcc c.active 0)
      else if opcodeListed (getBits w.1 56 8) then .next s
      else .next (s.trap bay slot c.pc trapIllegalOpcode c.active 0)

end Sys2Proof.Machine
end

