-- ==== Sys2Proof/Machine/Tables.lean ====
section
/-! DEFINITION. The TBL block (R221 to R238): registration, commands and their parts, replication, bucket moves and
version switches. -/

namespace Sys2Proof.Machine

def State.tblReg (s : State) (id : Nat) : Option TblReg := s.dev.tables.regs.find? (·.id == id)
def State.setTblReg (s : State) (r : TblReg) : State :=
  s.modTables fun x => { x with regs := x.regs.map fun q => if q.id = r.id then r else q }
/-- The table registered in slot `x`. -/
def State.tblSlot (s : State) (x : Nat) : Option TblReg := s.dev.tables.regs.find? fun r => r.slot == x && !r.retired
def State.tblCmd (s : State) (id : Nat) : Option TblCmd := s.dev.tables.cmds.find? (·.id == id)
def State.setTblCmd (s : State) (c : TblCmd) : State :=
  s.modTables fun x => { x with cmds := x.cmds.map fun q => if q.id = c.id then c else q }

/-! Descriptors (R222, R223). -/

def TblVer.stride (v : TblVer) : Nat := 64 * ((v.rowBytes + 63) / 64)

def tblShardOf (b : List Byte) : TblShard :=
  { base := field b 0 8, device := field b 8 2, engine := field b 0xA 1, slots := field b 0x10 8 }

/-- The ranges of the header. -/
def tblHeaderOk (h : List Byte) : Bool :=
  let mode := field h 2 1
  field h 0 2 == 1 && decide (mode ≤ 2) && decide (field h 3 1 ≤ 2) && decide (4 ≤ field h 4 4) && decide (field h 4 4 ≤ 65536) &&
    field h 4 4 % 4 == 0 && decide (1 ≤ field h 8 8) && decide (field h 8 8 ≤ 2 ^ 40) && decide (1 ≤ field h 0x14 1) &&
    decide (field h 0x14 1 ≤ 64) &&
    (if mode = 2 then decide (8 ≤ field h 0x15 1) && decide (field h 0x15 1 ≤ 24) else field h 0x15 1 == 0 && field h 0x18 8 == 0) &&
    (if mode = 1 then decide (1 ≤ field h 0x16 2) else field h 0x16 2 == 0 && field h 0x20 8 == 0) &&
    decide (field h 0x28 4 ≤ field h 0x16 2)

/-- A shard entry: BASE is 64-byte aligned, and an engine of this package is present. -/
def State.tblShardOk (s : State) (x : TblShard) : Bool :=
  x.base % 64 == 0 && (x.device != s.deviceNum || decide (x.engine < 2 * s.dev.desc.msds))

/-- Where row `r` lies: shard and slot (R224). -/
def TblVer.place (v : TblVer) (t r : Nat) : EM (Nat × Nat) := do
  if v.mode = 2 then
    let e ← EM.read t (v.rit + 8 * (r / 2 ^ v.bucketLog2)) 8
    return (field e 0 2, field e 4 4 * 2 ^ v.bucketLog2 + r % 2 ^ v.bucketLog2)
  else return (r % v.shards.length, r / v.shards.length)

/-- Every row's slot lies in its shard (R224): by bucket, or by shard. -/
def TblVer.slotsFit (v : TblVer) (t : Nat) : EM Bool := do
  if v.mode = 2 then
    let n := (v.rows + 2 ^ v.bucketLog2 - 1) / 2 ^ v.bucketLog2
    let b ← EM.read t v.rit (8 * n)
    return (List.range n).all fun i =>
      let sh := field b (8 * i) 2
      let last := min (2 ^ v.bucketLog2) (v.rows - i * 2 ^ v.bucketLog2) - 1
      decide (sh < v.shards.length) &&
        decide (field b (8 * i + 4) 4 * 2 ^ v.bucketLog2 + last < (v.shards.getD sh {}).slots)
  else return (List.range v.shards.length).all fun i =>
    decide ((v.rows - i + v.shards.length - 1) / v.shards.length ≤ (v.shards.getD i {}).slots)

/-- Rows without repeats, in order of first place. -/
def firstRows : List Nat → List Nat
  | [] => []
  | x :: xs => x :: (firstRows xs).filter (· != x)

/-- Read the descriptor at `a` of tent `t`: `none` where it breaks a range.  The hot set is the hot list, then `marks`
(R231). -/
def readTable (t a : Nat) (marks : List Nat) : EM (Option TblVer) := do
  let h ← EM.read t a 64
  if !tblHeaderOk h then return none
  let e ← EM.read t (a + 64) (32 * field h 0x14 1)
  let v : TblVer :=
    { addr := a, mode := field h 2 1, elem := field h 3 1, rowBytes := field h 4 4, rows := field h 8 8
      version := field h 0x10 4, shards := (List.range (field h 0x14 1)).map fun i => tblShardOf ((e.drop (32 * i)).take 32)
      bucketLog2 := field h 0x15 1, hotMax := field h 0x16 2, rit := field h 0x18 8, threshold := field h 0x2C 4 }
  let s ← get
  if !v.shards.all s.tblShardOk then return none
  if !(← v.slotsFit t) then return none
  let n := if v.mode = 1 ∧ field h 0x20 8 ≠ 0 then field h 0x28 4 else 0
  let l ← EM.read t (field h 0x20 8) (8 * n)
  let hot := firstRows (((List.range n).map fun i => field l (8 * i) 8) ++ marks)
  return some { v with hot := if v.mode = 1 then (hot.filter fun r => decide (r < v.rows)).take v.hotMax else [] }

/-- Bytes of the table work area that a table's two replica sets take on each stack (R231). -/
def TblVer.replicaSpace (v : TblVer) : Nat := if v.mode = 1 then 2 * v.hotMax * v.stride else 0

/-- Replica space in use. -/
def State.replicaUsed (s : State) : Nat := s.dev.tables.regs.foldl (fun n r => n + r.cur.replicaSpace) 0

/-- TABLE_REGISTER (R221): a write of `v` to TBL_DESC_BASE `x` with VALID = 1. -/
def execTableRegister (x : Nat) (v : W64) (s : State) : Host.Outcome State Fault Refusal :=
  let r := rTblDescBase x
  if 256 ≤ x ∨ s.flag r fTblDescBaseValid then .next s
  else
    let s := (s.writeReg r v).setFlag r fTblDescBaseValid false
    let t := s.fld r fTblDescBaseTent
    match readTable t (s.fld r fTblDescBaseAddr * 64) [] s with
    | .error (.wait a) =>
      let (st, s) := s.originate islPort
      .next (s.requestInbound t (a / 65536) st true)
    | .error _ => .next (s.setFlag r fTblDescBaseDescError true)
    | .ok (none, s) => .next (s.setFlag r fTblDescBaseDescError true)
    | .ok (some d, s) =>
      if 2 ^ 28 < s.replicaUsed + d.replicaSpace then .next (s.setFlag r fTblDescBaseDescError true)
      else
        let s := s.modTables fun y => { y with
          regs := y.regs ++ [{ id := y.nextReg, slot := x, tent := t, cur := d, sampled := s.ao.tick }]
          nextReg := y.nextReg + 1 }
        .next ((s.setFlag r fTblDescBaseDescError false).setFlag r fTblDescBaseValid true)

/-- Commands of a registration in progress. -/
def State.tblRefs (s : State) (id : Nat) : List TblCmd := s.dev.tables.cmds.filter (·.reg == id)

/-- DRAINING of a slot (R221). -/
def State.tblDraining (s : State) (x : Nat) : Bool :=
  s.dev.tables.regs.any fun r => r.slot == x && r.retired && s.tblRefs r.id != []

/-- Retired tables without commands are gone, and old versions without commands have drained (R221, R236). -/
def State.tblSweep (s : State) : State :=
  s.modTables fun x => { x with regs := (x.regs.filter fun r => !r.retired || s.tblRefs r.id != []).map fun r =>
    match r.old with
    | some o => if (s.tblRefs r.id).any (·.version == o.version) then r else { r with old := none }
    | none => r }

/-- TABLE_RETIRE (R221): VALID = 0; commands bound to the table finish. -/
def execTableRetire (x : Nat) (s : State) : Host.Outcome State Fault Refusal :=
  if 256 ≤ x then .next s
  else
    let s := s.modTables fun y => { y with regs := y.regs.map fun r => if r.slot = x then { r with retired := true } else r }
    .next ((s.setFlag (rTblDescBase x) fTblDescBaseValid false).tblSweep)

/-! Versions (R234 to R236). -/

/-- The version current for a stamp. -/
def TblReg.bound (r : TblReg) (st : Stamp) : TblVer :=
  match r.next with
  | some (a, v) => if a ≤ st.tick then v else r.cur
  | none => r.cur

/-- A version of a registration by its number. -/
def TblReg.ver (r : TblReg) (n : Nat) : TblVer :=
  if r.cur.version = n then r.cur
  else match r.next, r.old with
    | some (_, v), some o => if v.version = n then v else o
    | some (_, v), none => v
    | none, some o => o
    | none, none => r.cur

/-- Commands bound to the previous version still in progress (OLD_REFS). -/
def State.oldRefs (s : State) (r : TblReg) : Nat :=
  match r.old with
  | some o => ((s.tblRefs r.id).filter (·.version == o.version)).length
  | none => 0

/-- Replica copy of the pending or the current version is incomplete (REPLICA_COPYING). -/
def TblVer.copying (v : TblVer) : Bool := decide (v.replicas.length < v.hot.length)
def TblReg.copying (r : TblReg) : Bool := r.cur.copying || (match r.next with
  | some (_, v) => v.copying
  | none => false)

/-- Marked rows, in descending sampled count, lower rows first on a tie. -/
def TblReg.markedRows (r : TblReg) : List Nat :=
  (sortBy (fun (a b : Nat × Nat) => decide (b.2 < a.2) || (a.2 == b.2 && decide (a.1 < b.1))) r.marks).map (·.1)

def State.switchRefused (s : State) (x : Nat) : State := s.setFlag (rTblStatus x) fTblStatusSwitchRefused true

/-- TABLE_SWITCH (R235): a write of `v` to TBL_SWITCH. -/
def execTableSwitch (v : W64) (s : State) : Host.Outcome State Fault Refusal :=
  let x := getBits v 0 8
  let a := (s.rd rTblSwitchAt).toNat
  match s.tblSlot x with
  | none => .next (s.switchRefused x)
  | some r =>
    if a < s.ao.tick + 20000 ∨ r.next.isSome ∨ r.old.isSome then .next (s.switchRefused x)
    else match readTable r.tent (getBits v 14 50 * 64) r.markedRows s with
      | .error (.wait p) =>
        let (st, s) := s.originate islPort
        .next (s.requestInbound r.tent (p / 65536) st true)
      | .error _ => .next (s.switchRefused x)
      | .ok (none, _) => .next (s.switchRefused x)
      | .ok (some d, s') =>
        if d.version ≤ r.cur.version ∨ d.mode ≠ r.cur.mode ∨ d.elem ≠ r.cur.elem then .next (s.switchRefused x)
        else .next (s'.setTblReg { r with next := some (a, d), marks := [] })

/-- TABLE_SWITCH_ACTIVATE (R234, R236): the pending version of slot `x` becomes current at A. -/
def execTableSwitchActivate (x : Nat) (s : State) : Host.Outcome State Fault Refusal :=
  match s.tblSlot x with
  | none => .next s
  | some r => match r.next with
    | none => .next s
    | some (a, v) =>
      if s.ao.tick < a then .next s
      else .next ((s.setTblReg { r with cur := v, next := none, old := some r.cur }).tblSweep)

/-! Commands (R225 to R228). -/

def tcOp (b : List Byte) : Nat := field b 0 1
def tcTable (b : List Byte) : Nat := field b 1 1
def tcLocal (b : List Byte) : Bool := (field b 2 2).testBit 0
def tcIndexSize (b : List Byte) : Nat := if (field b 2 2).testBit 1 then 8 else 4
def tcCount (b : List Byte) : Nat := field b 4 4
def tcIndexAddr (b : List Byte) : Nat := field b 8 8
def tcData (b : List Byte) : Nat := field b 0x10 8
def tcStride (b : List Byte) : Nat := field b 0x18 4
def tcBay (b : List Byte) : Nat := field b 0x1C 2
def tcSlot (b : List Byte) : Nat := field b 0x1E 1
def tcMcast (b : List Byte) : List Nat := (List.range (min (field b 0x1F 1) 16)).map fun i => field b (0x20 + 2 * i) 2
/-- The bays whose bay stores the command names. -/
def tcBays (b : List Byte) : List Nat := (if tcBay b = 0xFFFF then [] else [tcBay b]) ++ tcMcast b

/-- Bytes of a bay store. -/
def storeBytes : Nat := 2 ^ 22

/-- The checks of R226 on a command for table `r`; `kind` is 0 from a step sequencer, 1 from a ranger core, 2 for a
TABLE_OP. -/
def State.tcOk (s : State) (t kind : Nat) (r : TblReg) (v : TblVer) (b : List Byte) : Bool :=
  r.tent == t && decide (1 ≤ tcOp b) && decide (tcOp b ≤ 3) && decide (field b 2 2 < 4) && decide (1 ≤ tcCount b) &&
    decide (tcCount b ≤ 1048576) && tcStride b % 64 == 0 && decide (v.rowBytes ≤ tcStride b) &&
    decide (field b 0x1F 1 ≤ (if tcOp b = 1 then 16 else 0)) && (tcBays b).all (fun n => decide (n < 256) && s.hasBay t n) &&
    (tcOp b != 3 || v.elem != 0) && (kind != 0 || tcBay b != 0xFFFF) && (kind != 2 || tcBay b == 0xFFFF) &&
    (!tcLocal b || (tcBay b != 0xFFFF && decide (tcIndexAddr b + tcIndexSize b * tcCount b ≤ storeBytes))) &&
    (tcBays b == [] || decide (tcData b + (tcCount b - 1) * tcStride b + v.rowBytes ≤ storeBytes))

/-- The indices of a command; a poisoned word ends the request it works for. -/
def readIndices (t : Nat) (b : List Byte) : EM (List Nat) := do
  let n := tcIndexSize b * tcCount b
  let l ← if tcLocal b then do
      let s ← get
      if (s.bay (tcBay b)).store.poisoned (tcIndexAddr b) n then EM.stop 0x40 (tcIndexAddr b) true
      pure ((s.bay (tcBay b)).store.read (tcIndexAddr b) n)
    else EM.read t (tcIndexAddr b) n
  return (List.range (tcCount b)).map fun i => field l (tcIndexSize b * i) (tcIndexSize b)

/-- Where each index goes: shard, and the index with its slot.  A bucket that moves is at its new place for stamps at or
after the cut (R233). -/
def TblReg.locate (r : TblReg) (v : TblVer) (st : Stamp) (pos row : Nat) : EM (Nat × TblIndex) := do
  if v.rows ≤ row then return (row % v.shards.length, { pos := pos, row := row })
  else
    let p ← v.place r.tent row
    let bucket := row / 2 ^ v.bucketLog2
    let p := match r.moves.find? fun m => v.mode == 2 && m.bucket == bucket && decide (m.cut ≤ st.tick) with
      | some m => (m.shard, m.slot * 2 ^ v.bucketLog2 + row % 2 ^ v.bucketLog2)
      | none => p
    if v.shards.length ≤ p.1 then return (row % v.shards.length, { pos := pos, row := row })
    else if (v.shards.getD p.1 {}).slots ≤ p.2 then return (p.1, { pos := pos, row := row })
    else return (p.1, { pos := pos, row := row, slot := some p.2 })

/-- The parts of a command: one for each shard that its indices touch (R227). -/
def TblReg.split (r : TblReg) (v : TblVer) (st : Stamp) (is : List Nat) : EM (List TblPart) := do
  let ps ← ((List.range is.length).zip is).mapM fun e => r.locate v st e.1 e.2
  return ((List.range v.shards.length).filter fun k => ps.any (·.1 == k)).map fun k =>
    { shard := k, left := (ps.filter (·.1 == k)).map (·.2) }

/-- A refused command (R226): a log record, REFUSED, and the end of a TABLE_OP. -/
def State.tcRefuse (s : State) (isl t n kind : Nat) (b : List Byte) : State :=
  let e := match s.tblSlot (tcTable b) with
    | some r => (r.cur.shards.headD {}).engine
    | none => 0
  let s := s.log isl { detector := 0x0E00, severity := 3, action := 12, tent := t, reqSeq := n }
  let s := s.addFld (rTblEngineStatus e) fTblEngineStatusRefused 1
  if kind = 2 then s.endAt n 0x31 isl
  else s.modTables fun x => { x with done := x.done ++ [(isl, leBytes 1 3 ++ List.replicate 15 0)] }

/-- Issue a command `b` of tent `t` at island `isl` for request `n`. -/
def State.tcIssue (s : State) (isl t n kind : Nat) (b : List Byte) : State :=
  let (st, s) := s.originate isl
  match s.tblSlot (tcTable b) with
  | none => s.tcRefuse isl t n kind b
  | some r =>
    let v := r.bound st
    if !s.tcOk t kind r v b then s.tcRefuse isl t n kind b
    else
      let w : EM (List TblPart × Nat) := do
        let is ← readIndices t b
        let ps ← r.split v st is
        -- SCATTER and SCATTER_ADD with an index out of range write nothing (R229)
        let bad := ps.foldl (fun k p => k + (p.left.filter (·.slot.isNone)).length) 0
        return (if tcOp b ≠ 1 ∧ bad ≠ 0 then [] else ps, bad)
      match w s with
      | .error e => s.engFail n t isl e
      | .ok ((ps, bad), s) =>
        let s := s.modTables fun x => { x with
          cmds := x.cmds ++ [{ id := x.nextCmd, stamp := st, issuer := isl, tent := t, req := n, isOp := kind == 2, reg := r.id
                               version := v.version, bytes := b, parts := ps, rangeCount := bad }]
          nextCmd := x.nextCmd + 1 }
        if kind = 2 then s.legStart n (islTable (v.shards.headD {}).engine) else s

/-- TABLE_COMMAND_ISSUE (R225, R226): a step sequencer or ranger core issues `cmd` for tent `t` and request `n`; the
admission unit issues the command of a TABLE_OP request `n`. -/
def execTableCommandIssue (isl t n : Nat) (cmd : List Byte) (s : State) : Host.Outcome State Fault Refusal :=
  if s.blocked isl then .next s
  else if isl = islAdmit then
    match s.req n with
    | none => .next s
    | some r =>
      if r.legs.head? ≠ some 10 ∨ r.started ∨ r.ended.isSome then .next s
      else .next (s.tcIssue isl r.tent n 2 ((r.desc.drop 0x40).take 64))
  else if (List.range 4).any fun d => isl == islSequencer d then .next (s.tcIssue isl t n 0 (cmd.take 64))
  else if (List.range 8).any fun d => isl == islRanger d then .next (s.tcIssue isl t n 1 (cmd.take 64))
  else .next s

/-! Windows (R230). -/

/-- Distinct rows of some indices, in order of first place. -/
def distinctRows (l : List TblIndex) : List Nat := firstRows (l.map (·.row))

/-- The next window of a part: 4,096 positions; a SCATTER_ADD window also closes before 8 MiB of distinct rows. -/
def window (add : Bool) (rowBytes : Nat) : Nat → List TblIndex → List Nat → List TblIndex
  | 0, _, _ => []
  | _, [], _ => []
  | n + 1, i :: is, seen =>
    let seen' := if seen.contains i.row then seen else i.row :: seen
    if add ∧ 2 ^ 23 < seen'.length * rowBytes then [] else i :: window add rowBytes n is seen'

/-- A part's turn (R227): its stamp is settled, no earlier-stamped part of its shard is left, fewer than 32 parts are in
progress on its engine, and no row of it waits for a bucket's move (R233). -/
def State.partsOn (s : State) (e : Nat) : Nat :=
  s.dev.tables.cmds.foldl (fun n c => n + (c.parts.filter fun p => p.started && (match s.tblReg c.reg with
    | some r => ((r.ver c.version).shards.getD p.shard {}).engine == e
    | none => false)).length) 0
def State.partTurn (s : State) (c : TblCmd) (r : TblReg) (p : TblPart) : Bool :=
  let v := r.ver c.version
  let sh := v.shards.getD p.shard {}
  s.settled c.stamp && (p.started || decide (s.partsOn sh.engine < 32)) &&
    !(s.dev.tables.cmds.any fun d => d.tent == c.tent && d.stamp.before c.stamp && d.parts.any fun q =>
      match s.tblReg d.reg with
      | some y =>
        let z := (y.ver d.version).shards.getD q.shard {}
        z.base == sh.base && z.device == sh.device
      | none => false) &&
    !(r.moves.any fun m => decide (m.cut ≤ c.stamp.tick) && v.mode == 2 && p.left.any fun i => i.row / 2 ^ v.bucketLog2 == m.bucket)

/-- Read a row's bytes and whether a word of them is poisoned. -/
def EM.readP (t a n : Nat) : EM (List Byte × Bool) := do
  EM.served t a n
  let s ← get
  let (b, bad, s) := s.devRead t a n
  set s
  return (b, bad)
def EM.writeP (t a : Nat) (b : List Byte) (bad : Bool) : EM Unit := do
  EM.served t a b.length
  modify fun s => s.devWrite t a b bad

/-- What a shard's window works with: the tent, the version and the shard; rows that another package returned. -/
structure WinArgs where
  tent : Nat
  ver : TblVer
  shard : TblShard
  here : Bool
  given : List (List Byte × Bool)

/-- The k-th distinct row of a window: the replica of a hot row in a GATHER (R231), the row itself, or what the shard's
package returned; zeros for an index out of range (R229). -/
def WinArgs.row (a : WinArgs) (gather : Bool) (k : Nat) (i : TblIndex) : EM (List Byte × Bool) := do
  match i.slot with
  | none => return (List.replicate a.ver.rowBytes 0, false)
  | some n =>
    match (if gather then a.ver.replicas.find? (·.row == i.row) else none) with
    | some x => return (x.bytes, x.poison)
    | none =>
      if a.here then EM.readP a.tent (a.shard.base + n * a.ver.stride) a.ver.rowBytes
      else
        let g := a.given.getD k ([], false)
        return ((g.1 ++ List.replicate a.ver.rowBytes 0).take a.ver.rowBytes, g.2)

/-- Write a row of a GATHER at a position of each destination; a bay that has left the tent takes nothing, and the result
counts as STALE (R389). -/
def gatherPut (c : TblCmd) (pos : Nat) (b : List Byte) (bad : Bool) : EM Unit := do
  let a := tcData c.bytes + pos * tcStride c.bytes
  if tcBay c.bytes = 0xFFFF then EM.writeP c.tent a b bad
  (tcBays c.bytes).forM fun n => modify fun s =>
    if s.hasBay c.tent n then s.modBay n fun y => { y with store := y.store.write a b bad }
    else s.addFld (rTentStatus c.tent) fTentStatusStale 1

/-- Distinct indices of a window with a row in range. -/
def liveIndices (w : List TblIndex) : List TblIndex :=
  (distinctRows w).filterMap fun r => w.find? fun i => i.row == r && i.slot.isSome

/-- A window of a GATHER: each distinct row is read once and written to every position that names it. -/
def gatherWindow (a : WinArgs) (c : TblCmd) (w : List TblIndex) : EM Bool := do
  let is := liveIndices w
  let rows ← ((List.range is.length).zip is).mapM fun e => do
    let x ← a.row true e.1 e.2
    return (e.2.row, x)
  let bads ← w.mapM fun i => do
    let x := match i.slot, rows.find? (·.1 == i.row) with
      | some _, some r => r.2
      | _, _ => (List.replicate a.ver.rowBytes 0, false)
    gatherPut c i.pos x.1 x.2
    return x.2
  return bads.any id

/-- The source row of a position. -/
def scatterSource (a : WinArgs) (c : TblCmd) (pos : Nat) : EM (List Byte × Bool) := do
  let at_ := tcData c.bytes + pos * tcStride c.bytes
  if tcBay c.bytes = 0xFFFF then EM.readP a.tent at_ a.ver.rowBytes
  else
    let s ← get
    let m := (s.bay (tcBay c.bytes)).store
    return (m.read at_ a.ver.rowBytes, m.poisoned at_ a.ver.rowBytes)

/-- Write a row of the shard, where this package holds it. -/
def WinArgs.put (a : WinArgs) (i : TblIndex) (b : List Byte) (bad : Bool) : EM Unit := do
  match i.slot with
  | none => return ()
  | some n => if a.here then EM.writeP a.tent (a.shard.base + n * a.ver.stride) b bad else return ()

/-- A window of a SCATTER: each distinct row is written once, with the data of its highest position. -/
def scatterWindow (a : WinArgs) (c : TblCmd) (w : List TblIndex) : EM Bool := do
  let bads ← (liveIndices w).mapM fun i => do
    let last := ((w.filter (·.row == i.row)).getLast?.map (·.pos)).getD i.pos
    let x ← scatterSource a c last
    a.put i x.1 x.2
    return x.2
  return bads.any id

/-- Elements of a row as FP32, and back (R230). -/
def rowElems (elem : Nat) (b : List Byte) : List W32 :=
  if elem = 2 then halves 7 b 0 (b.length / 2) else (List.range (b.length / 4)).map fun i => BitVec.ofNat 32 (field b (4 * i) 4)
def elemsRow (elem : Nat) (l : List W32) : List Byte :=
  l.flatMap fun x => if elem = 2 then leBytes 2 (bf16 x) else leBytes 4 x.toNat

/-- Sum rows element by element in the order given. -/
def sumRows : List (List W32) → List W32
  | [] => []
  | x :: xs => xs.foldl (fun a b => (a.zip b).map fun e => fadd e.1 e.2) x

/-- Positions in the order in which a window adds them: those that `order` lists first, in its order (R230 fixes none). -/
def addOrder (order : List Nat) (ps : List Nat) : List Nat := order.filter ps.contains ++ ps.filter fun p => !order.contains p

/-- A window of a SCATTER_ADD: the contributions to a row are summed in FP32, and the sum is added to the row. -/
def addWindow (a : WinArgs) (c : TblCmd) (order : List Nat) (w : List TblIndex) : EM Bool := do
  let is := liveIndices w
  let bads ← ((List.range is.length).zip is).mapM fun e => do
    let ps := addOrder (firstRows order) ((w.filter (·.row == e.2.row)).map (·.pos))
    let xs ← ps.mapM fun p => scatterSource a c p
    let old ← a.row false e.1 e.2
    let sum := sumRows (xs.map fun x => rowElems a.ver.elem x.1)
    let new := ((rowElems a.ver.elem old.1).zip sum).map fun p => fadd p.1 p.2
    let bad := old.2 || xs.any (·.2)
    a.put e.2 (elemsRow a.ver.elem new) bad
    return bad
  return bads.any id

/-- The counts of a window: row reads, reads that the combiner saved, and the accesses that sampling and the bucket counts
see (R231, R233, R237, R238). -/
def State.countWindow (s : State) (r : TblReg) (v : TblVer) (c : TblCmd) (sh : Nat) (w : List TblIndex) : State :=
  let e := (v.shards.getD sh {}).engine
  let live := w.filter (·.slot.isSome)
  let reads := if tcOp c.bytes = 2 then 0 else (liveIndices w).length
  let saved := if tcOp c.bytes = 2 then 0 else live.length - reads
  let s := (s.addFld (rTblEngineStatus e) fTblEngineStatusRowReads reads).modTables fun x =>
    { x with coalesced := SMap.mod (fun _ => 0) x.coalesced e (· + saved) }
  let s := s.setFld (rTblEngineStatus e) fTblEngineStatusCoalesced
    (min (SMap.get (fun _ => 0) s.dev.tables.coalesced e / 4096) 65535)
  let s := ((s.msdEvent (e / 2) 0x107 (e % 2) c.tent reads).msdEvent (e / 2) 0x108 (e % 2) c.tent saved).busy (engTable e)
  let count (k : TblIndex → Nat) (m : SMap Nat) : SMap Nat := live.foldl (fun m i => SMap.mod (fun _ => 0) m (k i) (· + 1)) m
  s.setTblReg { r with
    accesses := if v.mode = 1 then count (·.row) r.accesses else r.accesses
    bucketCount := if v.mode = 2 then count (fun i => i.row / 2 ^ v.bucketLog2) r.bucketCount else r.bucketCount
    shardCount := if v.mode = 2 then count (fun _ => sh) r.shardCount else r.shardCount }

/-- The next window of the part of command `id` on shard `k`, for a command of operation `op`. -/
def State.tcWindow (s : State) (op id k : Nat) (given : List (List Byte × Bool))
    (f : WinArgs → TblCmd → List TblIndex → EM Bool) : State :=
  match s.tblCmd id with
  | none => s
  | some c => match s.tblReg c.reg, c.parts.find? (·.shard == k) with
    | some r, some p =>
      let v := r.ver c.version
      let sh := v.shards.getD k {}
      let isl := islTable sh.engine
      if tcOp c.bytes ≠ op ∨ s.blocked isl ∨ !s.partTurn c r p then s
      else
        let w := window (op == 3) v.rowBytes 4096 p.left []
        match f ⟨c.tent, v, sh, sh.device == s.deviceNum, given⟩ c w s with
        | .error (.wait a) => s.engFail c.req c.tent isl (.wait a)
        | .error e =>
          -- the request ends, and the command with it
          (s.engFail c.req c.tent isl e).modTables fun x => { x with cmds := x.cmds.filter (·.id != id) }
        | .ok (bad, s) =>
          let left := p.left.drop w.length
          let reads := if op = 2 then 0 else (liveIndices w).length
          let s := s.setTblCmd { c with
            poison := c.poison || bad, rowReads := c.rowReads + reads
            parts := if left = [] then c.parts.filter (·.shard != k)
              else c.parts.map fun q => if q.shard = k then { q with left := left, started := true } else q }
          s.countWindow r v c k w
    | _, _ => s

/-- TABLE_GATHER (R229, R230): the next window of a part; `given` are the rows that the package of another device's shard
returns. -/
def execTableGather (id k : Nat) (given : List (List Byte × Bool)) (s : State) : Host.Outcome State Fault Refusal :=
  .next (s.tcWindow 1 id k given gatherWindow)

/-- TABLE_SCATTER (R229, R230). -/
def execTableScatter (id k : Nat) (s : State) : Host.Outcome State Fault Refusal :=
  .next (s.tcWindow 2 id k [] scatterWindow)

/-- TABLE_SCATTER_ADD (R229, R230): `order` says in which order positions of the window are added. -/
def execTableScatterAdd (id k : Nat) (order : List Nat) (s : State) : Host.Outcome State Fault Refusal :=
  .next (s.tcWindow 3 id k [] fun a c w => addWindow a c order w)

/-- STATUS of a completion (R228). -/
def TblCmd.status (c : TblCmd) : Nat := if c.rangeCount ≠ 0 then 1 else if c.poison then 2 else 0
/-- The 16 bytes of R228. -/
def TblCmd.completion (c : TblCmd) : List Byte :=
  leBytes 1 c.status ++ leBytes 3 0 ++ leBytes 4 c.rangeCount ++ leBytes 4 c.version ++ leBytes 4 c.rowReads

/-- TABLE_COMMAND_COMPLETE (R228, R229): every part has been performed. -/
def execTableCommandComplete (id : Nat) (s : State) : Host.Outcome State Fault Refusal :=
  match s.tblCmd id with
  | none => .next s
  | some c =>
    if c.parts ≠ [] ∨ s.blocked (islTable 0) then .next s
    else
      let s := (s.modTables fun x => { x with cmds := x.cmds.filter (·.id != id) }).tblSweep
      let s := (tcBays c.bytes).foldl (fun s n => if s.hasBay c.tent n then s.modBay n fun y => y.signal (tcSlot c.bytes) 1 else s) s
      .next (if c.isOp then
          if c.status = 1 then s.endAt c.req 0x31 (islTable 0)
          else if c.status = 2 then s.endAt c.req 0x40 (islTable 0) true
          else s.modReq c.req fun q => { q with result := c.completion, ready := true }
        else s.modTables fun x => { x with done := x.done ++ [(c.issuer, c.completion)] })

/-! Skew (R231 to R233). -/

/-- HOT_SAMPLE_INTERVAL (R231): the interval of slot `x` ends.  A row's sampled count is one in 64 of its accesses; the
counting sketch may give more, as `counts` says. -/
def execHotSampleInterval (x : Nat) (counts : List (Nat × Nat)) (s : State) : Host.Outcome State Fault Refusal :=
  match s.tblSlot x with
  | none => .next s
  | some r =>
    if r.cur.mode ≠ 1 ∨ s.ao.tick < r.sampled + 1000 * s.fld rTblCfg fTblCfgSampleIntervalUs ∨ s.blocked (islTable 0) then .next s
    else
      let rows := firstRows (r.accesses.map (·.1) ++ counts.map (·.1))
      let sampled (n : Nat) : Nat :=
        max (SMap.get (fun _ => 0) r.accesses n / 64) (((counts.find? (·.1 == n)).map (·.2)).getD 0)
      let hit := (rows.filter fun n => decide (n < r.cur.rows) && r.cur.threshold != 0 && decide (r.cur.threshold ≤ sampled n)).map
        fun n => (n, sampled n)
      let kept := r.marks.filter fun m => !hit.any fun h => h.1 == m.1 && decide (m.2 ≤ h.2)
      let new := hit.filter fun h => !kept.any (·.1 == h.1)
      .next (s.setTblReg { r with accesses := [], sampled := s.ao.tick, marks := kept ++ new })

/-- Copy the next `n` hot rows of a version to every stack. -/
def copyRows (t : Nat) (v : TblVer) (n : Nat) : EM TblVer := do
  let rows := (v.hot.drop v.replicas.length).take n
  let rs ← rows.mapM fun r => do
    let p ← v.place t r
    let x ← EM.readP t ((v.shards.getD p.1 {}).base + p.2 * v.stride) v.rowBytes
    return ({ row := r, bytes := x.1, poison := x.2 } : Replica)
  return { v with replicas := v.replicas ++ rs }

/-- REPLICA_COPY_COMPLETE (R231, R236): the copy of the next `n` hot rows of slot `x`, of the pending version if it has
rows to copy, completes. -/
def execReplicaCopyComplete (x n : Nat) (s : State) : Host.Outcome State Fault Refusal :=
  match s.tblSlot x with
  | none => .next s
  | some r =>
    if s.blocked (islTable 0) then .next s
    else
      let pick := match r.next with
        | some (a, v) => if v.copying then some (some a, v) else if r.cur.copying then some (none, r.cur) else none
        | none => if r.cur.copying then some (none, r.cur) else none
      match pick with
      | none => .next s
      | some (a, v) => match copyRows r.tent v n s with
        | .error (.wait p) =>
          let (st, s) := s.originate (islTable 0)
          .next (s.requestInbound r.tent (p / 65536) st false)
        | .error _ => .next s
        | .ok (v, s) => .next (s.setTblReg (match a with
          | some a => { r with next := some (a, v) }
          | none => { r with cur := v }))

/-- Parts stamped before the cut that touch the bucket are performed (R233). -/
def State.bucketQuiet (s : State) (r : TblReg) (m : TblMove) : Bool :=
  !s.dev.tables.cmds.any fun c => c.reg == r.id && decide (c.stamp.tick < m.cut) && c.parts.any fun p =>
    p.left.any fun i => i.row / 2 ^ r.cur.bucketLog2 == m.bucket

/-- Copy a bucket to its new place and write its RIT entry (R233). -/
def moveBucket (t : Nat) (v : TblVer) (m : TblMove) : EM Unit := do
  let e ← EM.read t (v.rit + 8 * m.bucket) 8
  let k := 2 ^ v.bucketLog2
  let src := v.shards.getD (field e 0 2) {}
  let dst := v.shards.getD m.shard {}
  (List.range (min k (v.rows - m.bucket * k))).forM fun i => do
    let x ← EM.readP t (src.base + (field e 4 4 * k + i) * v.stride) v.rowBytes
    EM.writeP t (dst.base + (m.slot * k + i) * v.stride) x.1 x.2
  EM.write t (v.rit + 8 * m.bucket) (leBytes 2 m.shard ++ leBytes 2 0 ++ leBytes 4 m.slot)

/-- BUCKET_MOVE (R233): firmware chooses a cut tick for a bucket of slot `x` and its new shard and bucket slot; given again
once the parts stamped before the cut are performed, the bucket is copied and its RIT entry written. -/
def execBucketMove (x bucket shard slot cut : Nat) (s : State) : Host.Outcome State Fault Refusal :=
  match s.tblSlot x with
  | none => .next s
  | some r =>
    let v := r.cur
    if v.mode ≠ 2 ∨ v.rows ≤ bucket * 2 ^ v.bucketLog2 ∨ s.blocked (islRanger 0) then .next s
    else match r.moves.find? (·.bucket == bucket) with
      | none =>
        if cut < s.ao.tick + 10000 ∨ v.shards.length ≤ shard ∨ (v.shards.getD shard {}).slots < (slot + 1) * 2 ^ v.bucketLog2 then .next s
        else .next (s.setTblReg { r with moves := r.moves ++ [⟨bucket, shard, slot, cut⟩] })
      | some m =>
        if s.ao.tick < m.cut + 200 ∨ !s.bucketQuiet r m then .next s
        else match moveBucket r.tent v m s with
          | .error (.wait p) =>
            let (st, s) := s.originate (islRanger 0)
            .next (s.requestInbound r.tent (p / 65536) st false)
          | .error _ => .next s
          | .ok ((), s) => .next (s.setTblReg { r with moves := r.moves.filter (·.bucket != bucket) })

end Sys2Proof.Machine
end

