-- ==== Sys2Proof/Machine/Time.lean ====
section
/-! DEFINITION. The time base (R37 to R46): beacons and slewing, timing faults, skew, the PTP mapping and the pulse
pins. -/

namespace Sys2Proof.Machine

/-- One slew toward the reference, at most one in 16 ticks (R40). -/
def Island.slew (i : Island) (now : Nat) : Island :=
  if i.off = 0 ∨ now < i.lastSlew + 16 then i
  else { i with off := if i.off > 0 then i.off - 1 else i.off + 1, lastSlew := now }

/-- An island checks its copy, off the reference by `drift` more than before, against a beacon (R41, R552). -/
def Island.beacon (i : Island) (now : Nat) (drift : Int) : Island :=
  if i.fresh then { i with off := 0, fresh := false, missed := 0 }
  else
    let off := i.off + drift
    { i with off := off, missed := 0, fault := decide (8 < off.natAbs) }.slew now

/-- Record an island's deviation from a beacon in TIME_SKEW_MAX (R43). -/
def State.noteSkew (s : State) (n : Nat) (d : Int) : State :=
  if s.fld rTimeSkewMax fTimeSkewMaxIslandSkew < min d.natAbs 255 then
    (s.setFld rTimeSkewMax fTimeSkewMaxIslandSkew (min d.natAbs 255)).setFld rTimeSkewMax fTimeSkewMaxWorstIsland n
  else s

/-- A beacon reaches one island. -/
def State.beaconAt (s : State) (n : Nat) (drift : Int) : State :=
  if s.isIsland n then
    let i := s.isl n
    (if i.fresh then s else s.noteSkew n (i.off + drift)).setIsl n (i.beacon s.ao.tick drift)
  else s

/-- A beacon misses one island (R41: four in a row are a timing fault). -/
def State.beaconMissed (s : State) (n : Nat) : State :=
  if s.isIsland n then
    let i := s.isl n
    s.setIsl n { i with missed := i.missed + 1, fault := i.fault || decide (4 ≤ i.missed + 1) }
  else s

/-- TIME_BEACON (R40): at a multiple of 1,000 ticks.  `drift` gives, by island, by how much its copy has moved against
the reference since its last beacon; `absent` names the islands the beacon does not reach. -/
def execTimeBeacon (drift : List (Nat × Int)) (absent : List Nat) (s : State) : Host.Outcome State Fault Refusal :=
  if s.ao.tick % 1000 ≠ 0 then .next s
  else
    let s := drift.foldl (fun s e => if absent.contains e.1 then s else s.beaconAt e.1 e.2) s
    .next (absent.foldl State.beaconMissed s)

/-- TIMING_FAULT (R41, R582): the island whose beacon check failed logs the FATAL record and the part enters FAILSAFE. -/
def execTimingFault (isl : Nat) (s : State) : Host.Outcome State Fault Refusal :=
  if (s.isl isl).fault ∨ s.armedAt isl 0x0C00 then
    .next ((s.setIsl isl { s.isl isl with fault := false }).enterFailsafe isl { detector := 0x0C00 } 1 none)
  else .next s

/-- TIME_SKEW_CLEAR (R43). -/
def execTimeSkewClear (s : State) : Host.Outcome State Fault Refusal := .next (s.wr rTimeSkewMax 0)

/-- PTP_MAPPING_UPDATE (R44): Lookout publishes a new mapping; UPDATE_SEQ counts before and after. -/
def execPtpMappingUpdate (offset : W64) (rate : W32) (ptpState : Nat) (s : State) :
    Host.Outcome State Fault Refusal :=
  let q := s.fld rTimePtpStatus fTimePtpStatusUpdateSeq
  let s := (s.wr rTimePtpOffset offset).wr rTimePtpBase (BitVec.ofNat 64 s.ao.tick)
  let s := (s.setFld rTimePtpStatus fTimePtpStatusRatePpb rate.toNat).setFld rTimePtpStatus fTimePtpStatusPtpState ptpState
  .next (s.setFld rTimePtpStatus fTimePtpStatusUpdateSeq (q + 2))

/-- PTP time in TAI nanoseconds of a tick (R44). -/
def State.wall (s : State) (t : Nat) : Int :=
  let base : Int := (s.rd rTimePtpBase).toNat
  let rate : Int := (BitVec.ofNat 32 (s.fld rTimePtpStatus fTimePtpStatusRatePpb)).toInt
  (t : Int) + (s.rd rTimePtpOffset).toInt + (((t : Int) - base) * rate) / 1000000000

/-- PPS_OUT_EDGE (R46): at each whole TAI second while LOCKED, else at each multiple of 10⁹ ticks. -/
def execPpsOutEdge (s : State) : Host.Outcome State Fault Refusal :=
  let due : Bool :=
    if s.fld rTimePtpStatus fTimePtpStatusPtpState = 2 then decide (s.wall s.ao.tick % 1000000000 = 0)
    else decide (s.ao.tick % 1000000000 = 0)
  .next (if due then { s with ao := { s.ao with ppsOut := some s.ao.tick } } else s)

/-- PPS_IN_EDGE (R46). -/
def execPpsInEdge (s : State) : Host.Outcome State Fault Refusal :=
  .next (({ s with ao := { s.ao with ppsIn := true } } : State).wr rTimePpsInTick (BitVec.ofNat 64 s.ao.tick))

end Sys2Proof.Machine
end

