-- ==== Sys2Proof/Machine/Uniform.lean ====
section
/-! DEFINITION. Crew-uniform operations, opcodes 0x40 to 0x47 (R70, R102). -/

namespace Sys2Proof.Machine

/-- A uniform operation on two `u` registers. -/
def State.uni2 (s : State) (bay slot : Nat) (f : Short) (op : W64 → W64 → W64) : State :=
  s.uniform bay slot f { a := .u, b := .u } fun c =>
    let a := c.readU f.srca.toNat
    let b := c.readU f.srcb.toNat
    ⟨op a.val b.val, a.poison || b.poison⟩

/-- The lowest-numbered active strand. -/
def lowestActive (c : Crew) : Nat := (lanes c.active).headD 0

/-- UADD (R102): `ua + ub`. -/
def execUadd (bay slot : Nat) (f : Short) (s : State) : Host.Outcome State Fault Refusal :=
  if !s.fetches bay slot 0x40 f none then .next s else
  .next (s.uni2 bay slot f fun a b => a + b)

/-- UADDI (R102, R97): `ua` plus the sign-extended immediate. -/
def execUaddi (bay slot : Nat) (f : Short) (s : State) : Host.Outcome State Fault Refusal :=
  if !s.fetches bay slot 0x41 f none then .next s else
  .next (s.uniform bay slot f { a := .u, func := 0xFFFFFFF } fun c =>
    let a := c.readU f.srca.toNat
    ⟨a.val + imm64 f, a.poison⟩)

/-- UMOVI (R102, R97): the sign-extended immediate. -/
def execUmovi (bay slot : Nat) (f : Short) (s : State) : Host.Outcome State Fault Refusal :=
  if !s.fetches bay slot 0x42 f none then .next s else
  .next (s.uniform bay slot f { func := 0xFFFFFFF } fun _ => ⟨imm64 f, false⟩)

/-- ULUI (R102): FUNC above the low 28 bits of `ud`, sign-extended from bit 55. -/
def execUlui (bay slot : Nat) (f : Short) (s : State) : Host.Outcome State Fault Refusal :=
  if !s.fetches bay slot 0x43 f none then .next s else
  .next (s.uniform bay slot f { func := 0xFFFFFFF, dstRead := true } fun c =>
    let d := c.readU f.dst.toNat
    ⟨(BitVec.ofNat 56 (fn f * 2 ^ 28 + d.val.toNat % 2 ^ 28)).signExtend 64, d.poison⟩)

/-- UMUL (R102): the low 64 bits of the product. -/
def execUmul (bay slot : Nat) (f : Short) (s : State) : Host.Outcome State Fault Refusal :=
  if !s.fetches bay slot 0x44 f none then .next s else
  .next (s.uni2 bay slot f fun a b => a * b)

/-- USHIFT (R102): shift by FUNC[5:0]; FUNC[6] right, logical. -/
def execUshift (bay slot : Nat) (f : Short) (s : State) : Host.Outcome State Fault Refusal :=
  if !s.fetches bay slot 0x45 f none then .next s else
  .next (s.uniform bay slot f { a := .u, func := 0x7F } fun c =>
    let a := c.readU f.srca.toNat
    ⟨if fbit f 6 then a.val >>> (fn f % 64) else a.val <<< (fn f % 64), a.poison⟩)

/-- UAND (R102): bitwise AND. -/
def execUand (bay slot : Nat) (f : Short) (s : State) : Host.Outcome State Fault Refusal :=
  if !s.fetches bay slot 0x46 f none then .next s else
  .next (s.uni2 bay slot f fun a b => a &&& b)

/-- UMOVV (R102): the zero-extended `v` register of the lowest-numbered active strand. -/
def execUmovv (bay slot : Nat) (f : Short) (s : State) : Host.Outcome State Fault Refusal :=
  if !s.fetches bay slot 0x47 f none then .next s else
  .next (s.uniform bay slot f { a := .v 1 } fun c =>
    let a := c.readV (lowestActive c) f.srca.toNat
    ⟨a.val.zeroExtend 64, a.poison⟩)

end Sys2Proof.Machine
end

