-- ==== Sys2Proof/Machine/Dispatch.lean ====
section
/-! DEFINITION. The dispatch of commands to their meanings, one arm a constructor. -/

namespace Sys2Proof.Machine

def exec (i : Instr) (s : State) : Host.Outcome State Fault Refusal :=
  match i with
  | .malformedControlAccess off size write => Sys2Proof.Machine.execMalformedControlAccess off size write s
  | .registerWrite off v => Sys2Proof.Machine.execRegisterWrite off v s
  | .couplerDeliver src dst flips ctlBad bridge tries => Sys2Proof.Machine.execCouplerDeliver src dst flips ctlBad bridge tries s
  | .timeBeacon drift absent => Sys2Proof.Machine.execTimeBeacon drift absent s
  | .timingFault isl => Sys2Proof.Machine.execTimingFault isl s
  | .watermarkSend src dst => Sys2Proof.Machine.execWatermarkSend src dst s
  | .timeSkewClear => Sys2Proof.Machine.execTimeSkewClear s
  | .ptpMappingUpdate offset rate ptpState => Sys2Proof.Machine.execPtpMappingUpdate offset rate ptpState s
  | .ppsOutEdge => Sys2Proof.Machine.execPpsOutEdge s
  | .ppsInEdge => Sys2Proof.Machine.execPpsInEdge s
  | .timeCmpWrite k v => Sys2Proof.Machine.execTimeCmpWrite k v s
  | .timeCmpFire k => Sys2Proof.Machine.execTimeCmpFire k s
  | .freezeArm t => Sys2Proof.Machine.execFreezeArm t s
  | .freezeDisarm => Sys2Proof.Machine.execFreezeDisarm s
  | .freezeCancel => Sys2Proof.Machine.execFreezeCancel s
  | .freezeTickReached => Sys2Proof.Machine.execFreezeTickReached s
  | .freezeSettled => Sys2Proof.Machine.execFreezeSettled s
  | .resumeArm u => Sys2Proof.Machine.execResumeArm u s
  | .resumeTickReached => Sys2Proof.Machine.execResumeTickReached s
  | .freezeAckReceive late => Sys2Proof.Machine.execFreezeAckReceive late s
  | .dumpGo => Sys2Proof.Machine.execDumpGo s
  | .crewLaunch bay slot => Sys2Proof.Machine.execCrewLaunch bay slot s
  | .crewEnd bay slot => Sys2Proof.Machine.execCrewEnd bay slot s
  | .longLatencyReplyLand bay slot id => Sys2Proof.Machine.execLongLatencyReplyLand bay slot id s
  | .messageDeliver bay => Sys2Proof.Machine.execMessageDeliver bay s
  | .nop bay slot f => Sys2Proof.Machine.execNop bay slot f s
  | .iadd bay slot f => Sys2Proof.Machine.execIadd bay slot f s
  | .isub bay slot f => Sys2Proof.Machine.execIsub bay slot f s
  | .imul bay slot f => Sys2Proof.Machine.execImul bay slot f s
  | .imulh bay slot f => Sys2Proof.Machine.execImulh bay slot f s
  | .imad bay slot f => Sys2Proof.Machine.execImad bay slot f s
  | .imin bay slot f => Sys2Proof.Machine.execImin bay slot f s
  | .imax bay slot f => Sys2Proof.Machine.execImax bay slot f s
  | .and bay slot f => Sys2Proof.Machine.execAnd bay slot f s
  | .or bay slot f => Sys2Proof.Machine.execOr bay slot f s
  | .xor bay slot f => Sys2Proof.Machine.execXor bay slot f s
  | .andn bay slot f => Sys2Proof.Machine.execAndn bay slot f s
  | .shl bay slot f => Sys2Proof.Machine.execShl bay slot f s
  | .shr bay slot f => Sys2Proof.Machine.execShr bay slot f s
  | .popc bay slot f => Sys2Proof.Machine.execPopc bay slot f s
  | .clz bay slot f => Sys2Proof.Machine.execClz bay slot f s
  | .iaddi bay slot f => Sys2Proof.Machine.execIaddi bay slot f s
  | .movi bay slot f => Sys2Proof.Machine.execMovi bay slot f s
  | .movhi bay slot f => Sys2Proof.Machine.execMovhi bay slot f s
  | .isetp bay slot f => Sys2Proof.Machine.execIsetp bay slot f s
  | .sel bay slot f => Sys2Proof.Machine.execSel bay slot f s
  | .plop bay slot f => Sys2Proof.Machine.execPlop bay slot f s
  | .shfl bay slot f => Sys2Proof.Machine.execShfl bay slot f s
  | .vote bay slot f => Sys2Proof.Machine.execVote bay slot f s
  | .bfe bay slot f => Sys2Proof.Machine.execBfe bay slot f s
  | .bfi bay slot f => Sys2Proof.Machine.execBfi bay slot f s
  | .movu bay slot f => Sys2Proof.Machine.execMovu bay slot f s
  | .fadd bay slot f => Sys2Proof.Machine.execFadd bay slot f s
  | .fsub bay slot f => Sys2Proof.Machine.execFsub bay slot f s
  | .fmul bay slot f => Sys2Proof.Machine.execFmul bay slot f s
  | .ffma bay slot f => Sys2Proof.Machine.execFfma bay slot f s
  | .fmin bay slot f => Sys2Proof.Machine.execFmin bay slot f s
  | .fmax bay slot f => Sys2Proof.Machine.execFmax bay slot f s
  | .fsetp bay slot f => Sys2Proof.Machine.execFsetp bay slot f s
  | .fabsneg bay slot f => Sys2Proof.Machine.execFabsneg bay slot f s
  | .frcp bay slot f => Sys2Proof.Machine.execFrcp bay slot f s
  | .frsq bay slot f => Sys2Proof.Machine.execFrsq bay slot f s
  | .fexp2 bay slot f => Sys2Proof.Machine.execFexp2 bay slot f s
  | .flog2 bay slot f => Sys2Proof.Machine.execFlog2 bay slot f s
  | .ftanh bay slot f => Sys2Proof.Machine.execFtanh bay slot f s
  | .f2i bay slot f => Sys2Proof.Machine.execF2i bay slot f s
  | .i2f bay slot f => Sys2Proof.Machine.execI2f bay slot f s
  | .f2n bay slot f => Sys2Proof.Machine.execF2n bay slot f s
  | .n2f bay slot f => Sys2Proof.Machine.execN2f bay slot f s
  | .fclass bay slot f => Sys2Proof.Machine.execFclass bay slot f s
  | .uadd bay slot f => Sys2Proof.Machine.execUadd bay slot f s
  | .uaddi bay slot f => Sys2Proof.Machine.execUaddi bay slot f s
  | .umovi bay slot f => Sys2Proof.Machine.execUmovi bay slot f s
  | .ului bay slot f => Sys2Proof.Machine.execUlui bay slot f s
  | .umul bay slot f => Sys2Proof.Machine.execUmul bay slot f s
  | .ushift bay slot f => Sys2Proof.Machine.execUshift bay slot f s
  | .uand bay slot f => Sys2Proof.Machine.execUand bay slot f s
  | .umovv bay slot f => Sys2Proof.Machine.execUmovv bay slot f s
  | .bra bay slot f => Sys2Proof.Machine.execBra bay slot f s
  | .jmpu bay slot f => Sys2Proof.Machine.execJmpu bay slot f s
  | .loop bay slot f => Sys2Proof.Machine.execLoop bay slot f s
  | .call bay slot f => Sys2Proof.Machine.execCall bay slot f s
  | .ret bay slot f => Sys2Proof.Machine.execRet bay slot f s
  | .exit bay slot f => Sys2Proof.Machine.execExit bay slot f s
  | .launch bay slot f => Sys2Proof.Machine.execLaunch bay slot f s
  | .loadLocal bay slot f => Sys2Proof.Machine.execLoadLocal bay slot f s
  | .storeLocal bay slot f => Sys2Proof.Machine.execStoreLocal bay slot f s
  | .loadAcc bay slot f => Sys2Proof.Machine.execLoadAcc bay slot f s
  | .storeAcc bay slot f => Sys2Proof.Machine.execStoreAcc bay slot f s
  | .loadDev bay slot f => Sys2Proof.Machine.execLoadDev bay slot f s
  | .storeDev bay slot f => Sys2Proof.Machine.execStoreDev bay slot f s
  | .atomDev bay slot f => Sys2Proof.Machine.execAtomDev bay slot f s
  | .atomLocal bay slot f => Sys2Proof.Machine.execAtomLocal bay slot f s
  | .flashRead bay slot f => Sys2Proof.Machine.execFlashRead bay slot f s
  | .spanClear bay slot f => Sys2Proof.Machine.execSpanClear bay slot f s
  | .evSignal bay slot f => Sys2Proof.Machine.execEvSignal bay slot f s
  | .evSet bay slot f => Sys2Proof.Machine.execEvSet bay slot f s
  | .evWait bay slot f => Sys2Proof.Machine.execEvWait bay slot f s
  | .fenceLocal bay slot f => Sys2Proof.Machine.execFenceLocal bay slot f s
  | .fenceDevice bay slot f => Sys2Proof.Machine.execFenceDevice bay slot f s
  | .fenceStamp bay slot f => Sys2Proof.Machine.execFenceStamp bay slot f s
  | .park bay slot f => Sys2Proof.Machine.execPark bay slot f s
  | .yield bay slot f => Sys2Proof.Machine.execYield bay slot f s
  | .msgSend bay slot f => Sys2Proof.Machine.execMsgSend bay slot f s
  | .remoteGet bay slot f => Sys2Proof.Machine.execRemoteGet bay slot f s
  | .remotePut bay slot f => Sys2Proof.Machine.execRemotePut bay slot f s
  | .remoteLoad bay slot f => Sys2Proof.Machine.execRemoteLoad bay slot f s
  | .remoteAtom bay slot f => Sys2Proof.Machine.execRemoteAtom bay slot f s
  | .trap bay slot f => Sys2Proof.Machine.execTrap bay slot f s
  | .time bay slot f => Sys2Proof.Machine.execTime bay slot f s
  | .ctr bay slot f => Sys2Proof.Machine.execCtr bay slot f s
  | .bayinfo bay slot f => Sys2Proof.Machine.execBayinfo bay slot f s
  | .trace bay slot f => Sys2Proof.Machine.execTrace bay slot f s
  | .brk bay slot f => Sys2Proof.Machine.execBrk bay slot f s
  | .trShape bay slot f w2 => Sys2Proof.Machine.execTrShape bay slot f w2 s
  | .trWload bay slot f w2 => Sys2Proof.Machine.execTrWload bay slot f w2 s
  | .trSwap bay slot f w2 => Sys2Proof.Machine.execTrSwap bay slot f w2 s
  | .trRun bay slot f w2 => Sys2Proof.Machine.execTrRun bay slot f w2 s
  | .trCmp bay slot f w2 => Sys2Proof.Machine.execTrCmp bay slot f w2 s
  | .trAccz bay slot f w2 => Sys2Proof.Machine.execTrAccz bay slot f w2 s
  | .trSync bay slot f w2 => Sys2Proof.Machine.execTrSync bay slot f w2 s
  | .trussFormComplete bay => Sys2Proof.Machine.execTrussFormComplete bay s
  | .dmaLoad bay slot f w2 => Sys2Proof.Machine.execDmaLoad bay slot f w2 s
  | .dmaStore bay slot f w2 => Sys2Proof.Machine.execDmaStore bay slot f w2 s
  | .dmaCopy bay slot f w2 => Sys2Proof.Machine.execDmaCopy bay slot f w2 s
  | .dmaScarf bay slot f w2 => Sys2Proof.Machine.execDmaScarf bay slot f w2 s
  | .dmaUnscarf bay slot f w2 => Sys2Proof.Machine.execDmaUnscarf bay slot f w2 s
  | .dmaFill bay slot f w2 => Sys2Proof.Machine.execDmaFill bay slot f w2 s
  | .dmaDescriptorComplete bay ch => Sys2Proof.Machine.execDmaDescriptorComplete bay ch s
  | .dmaFault bay ch => Sys2Proof.Machine.execDmaFault bay ch s
  | .dmaResume bay ch => Sys2Proof.Machine.execDmaResume bay ch s
  | .dmaFlush bay ch => Sys2Proof.Machine.execDmaFlush bay ch s
  | .selTopk bay slot f w2 => Sys2Proof.Machine.execSelTopk bay slot f w2 s
  | .selHist bay slot f w2 => Sys2Proof.Machine.execSelHist bay slot f w2 s
  | .selEmit bay slot f w2 => Sys2Proof.Machine.execSelEmit bay slot f w2 s
  | .merge bay slot f w2 => Sys2Proof.Machine.execMerge bay slot f w2 s
  | .selectFormComplete bay => Sys2Proof.Machine.execSelectFormComplete bay s
  | .smpFeed bay slot f w2 => Sys2Proof.Machine.execSmpFeed bay slot f w2 s
  | .smpClose bay slot f w2 => Sys2Proof.Machine.execSmpClose bay slot f w2 s
  | .smpDraft bay slot f w2 => Sys2Proof.Machine.execSmpDraft bay slot f w2 s
  | .indexRegister x v => Sys2Proof.Machine.execIndexRegister x v s
  | .indexRetire x => Sys2Proof.Machine.execIndexRetire x s
  | .searchStart n => Sys2Proof.Machine.execSearchStart n s
  | .searchRound n j => Sys2Proof.Machine.execSearchRound n j s
  | .granuleReadComplete n j node => Sys2Proof.Machine.execGranuleReadComplete n j node s
  | .rescoreLeg n => Sys2Proof.Machine.execRescoreLeg n s
  | .callbackDone n => Sys2Proof.Machine.execCallbackDone n s
  | .callbackTimeout n => Sys2Proof.Machine.execCallbackTimeout n s
  | .indexInsert n => Sys2Proof.Machine.execIndexInsert n s
  | .indexDelete n => Sys2Proof.Machine.execIndexDelete n s
  | .mutationCommit n => Sys2Proof.Machine.execMutationCommit n s
  | .versionReclaim e => Sys2Proof.Machine.execVersionReclaim e s
  | .groundTruthPass n => Sys2Proof.Machine.execGroundTruthPass n s
  | .tableRegister x v => Sys2Proof.Machine.execTableRegister x v s
  | .tableRetire x => Sys2Proof.Machine.execTableRetire x s
  | .tableCommandIssue isl t n cmd => Sys2Proof.Machine.execTableCommandIssue isl t n cmd s
  | .tableGather id k given => Sys2Proof.Machine.execTableGather id k given s
  | .tableScatter id k => Sys2Proof.Machine.execTableScatter id k s
  | .tableScatterAdd id k order => Sys2Proof.Machine.execTableScatterAdd id k order s
  | .tableCommandComplete id => Sys2Proof.Machine.execTableCommandComplete id s
  | .hotSampleInterval x counts => Sys2Proof.Machine.execHotSampleInterval x counts s
  | .replicaCopyComplete x n => Sys2Proof.Machine.execReplicaCopyComplete x n s
  | .bucketMove x bucket shard slot cut => Sys2Proof.Machine.execBucketMove x bucket shard slot cut s
  | .tableSwitch v => Sys2Proof.Machine.execTableSwitch v s
  | .tableSwitchActivate x => Sys2Proof.Machine.execTableSwitchActivate x s
  | .panelTableCreate t rangeLog2 dir => Sys2Proof.Machine.execPanelTableCreate t rangeLog2 dir s
  | .panelTableDestroy t => Sys2Proof.Machine.execPanelTableDestroy t s
  | .panelRead t v => Sys2Proof.Machine.execPanelRead t v s
  | .mapHbm t v count picks => Sys2Proof.Machine.execMapHbm t v count picks s
  | .mapFlash t v count => Sys2Proof.Machine.execMapFlash t v count s
  | .unmap t v count => Sys2Proof.Machine.execUnmap t v count s
  | .hintPrefetch t v count => Sys2Proof.Machine.execHintPrefetch t v count s
  | .hintPin t v count => Sys2Proof.Machine.execHintPin t v count s
  | .hintUnpin t v count => Sys2Proof.Machine.execHintUnpin t v count s
  | .hintDemote t v count => Sys2Proof.Machine.execHintDemote t v count s
  | .inboundMigration m pick => Sys2Proof.Machine.execInboundMigration m pick s
  | .inboundMigrationDone t v => Sys2Proof.Machine.execInboundMigrationDone t v s
  | .outboundMigration m pick => Sys2Proof.Machine.execOutboundMigration m pick s
  | .outboundWritebackDone t v => Sys2Proof.Machine.execOutboundWritebackDone t v s
  | .outboundCommitSettled t v => Sys2Proof.Machine.execOutboundCommitSettled t v s
  | .panelRetire p => Sys2Proof.Machine.execPanelRetire p s
  | .flashSetCreate k mask plp ident => Sys2Proof.Machine.execFlashSetCreate k mask plp ident s
  | .flashSetAssemble k mask => Sys2Proof.Machine.execFlashSetAssemble k mask s
  | .flashRebuildGo k slot fresh supported => Sys2Proof.Machine.execFlashRebuildGo k slot fresh supported s
  | .flashRebuildDone k => Sys2Proof.Machine.execFlashRebuildDone k s
  | .nvmeCompletion id status => Sys2Proof.Machine.execNvmeCompletion id status s
  | .nvmeCommandTimeout id => Sys2Proof.Machine.execNvmeCommandTimeout id s
  | .ssdFail slot => Sys2Proof.Machine.execSsdFail slot s
  | .vocabRegister x v => Sys2Proof.Machine.execVocabRegister x v s
  | .vocabLoadComplete x => Sys2Proof.Machine.execVocabLoadComplete x s
  | .vocabRetire x => Sys2Proof.Machine.execVocabRetire x s
  | .tokenizeLeg n => Sys2Proof.Machine.execTokenizeLeg n s
  | .kerfContextAcquire n => Sys2Proof.Machine.execKerfContextAcquire n s
  | .guylineContextAcquire n => Sys2Proof.Machine.execGuylineContextAcquire n s
  | .grammarRegister x v => Sys2Proof.Machine.execGrammarRegister x v s
  | .grammarLoadComplete x => Sys2Proof.Machine.execGrammarLoadComplete x s
  | .grammarRetire x => Sys2Proof.Machine.execGrammarRetire x s
  | .guylineMask n j => Sys2Proof.Machine.execGuylineMask n j s
  | .sqRegister q v => Sys2Proof.Machine.execSqRegister q v s
  | .sqDisable q => Sys2Proof.Machine.execSqDisable q s
  | .cqRegister c v => Sys2Proof.Machine.execCqRegister c v s
  | .cqDisable c => Sys2Proof.Machine.execCqDisable c s
  | .sqDoorbell q v => Sys2Proof.Machine.execSqDoorbell q v s
  | .cqDoorbell c v => Sys2Proof.Machine.execCqDoorbell c v s
  | .descriptorFetch => Sys2Proof.Machine.execDescriptorFetch s
  | .requestEmbed => Sys2Proof.Machine.execRequestEmbed s
  | .requestSearch => Sys2Proof.Machine.execRequestSearch s
  | .requestRerank => Sys2Proof.Machine.execRequestRerank s
  | .requestGenerate => Sys2Proof.Machine.execRequestGenerate s
  | .requestRag => Sys2Proof.Machine.execRequestRag s
  | .requestTokenize => Sys2Proof.Machine.execRequestTokenize s
  | .requestIndexMutate => Sys2Proof.Machine.execRequestIndexMutate s
  | .requestTableOp => Sys2Proof.Machine.execRequestTableOp s
  | .requestCancel => Sys2Proof.Machine.execRequestCancel s
  | .heldDescriptorAdmit t c => Sys2Proof.Machine.execHeldDescriptorAdmit t c s
  | .acceptRecordPost c => Sys2Proof.Machine.execAcceptRecordPost c s
  | .embedLeg n vec bad => Sys2Proof.Machine.execEmbedLeg n vec bad s
  | .rerankLeg n scores => Sys2Proof.Machine.execRerankLeg n scores s
  | .packLeg n => Sys2Proof.Machine.execPackLeg n s
  | .legComplete n => Sys2Proof.Machine.execLegComplete n s
  | .ringRegister k t log2 => Sys2Proof.Machine.execRingRegister k t log2 s
  | .ringUnregister k => Sys2Proof.Machine.execRingUnregister k s
  | .ringRead k => Sys2Proof.Machine.execRingRead k s
  | .ringConsumerPoll k => Sys2Proof.Machine.execRingConsumerPoll k s
  | .recordPublish n => Sys2Proof.Machine.execRecordPublish n s
  | .cancelDecision n => Sys2Proof.Machine.execCancelDecision n s
  | .stepBoundary t slot risk cuts => Sys2Proof.Machine.execStepBoundary t slot risk cuts s
  | .draftDraw n ctx w => Sys2Proof.Machine.execDraftDraw n ctx w s
  | .samplerDraw n ctx ws => Sys2Proof.Machine.execSamplerDraw n ctx ws s
  | .stepCommit n => Sys2Proof.Machine.execStepCommit n s
  | .stepClose t slot => Sys2Proof.Machine.execStepClose t slot s
  | .batchDescriptorWrite t v => Sys2Proof.Machine.execBatchDescriptorWrite t v s
  | .batchStart t => Sys2Proof.Machine.execBatchStart t s
  | .adapterInstall t a => Sys2Proof.Machine.execAdapterInstall t a s
  | .adapterRetire t a => Sys2Proof.Machine.execAdapterRetire t a s
  | .adapterQuery t a => Sys2Proof.Machine.execAdapterQuery t a s
  | .tentConfigure t key => Sys2Proof.Machine.execTentConfigure t key s
  | .tentAbort t => Sys2Proof.Machine.execTentAbort t s
  | .tentActivate t => Sys2Proof.Machine.execTentActivate t s
  | .tentReset t => Sys2Proof.Machine.execTentReset t s
  | .tentRelease t => Sys2Proof.Machine.execTentRelease t s
  | .tentReleaseDrained t => Sys2Proof.Machine.execTentReleaseDrained t s
  | .tentFree t => Sys2Proof.Machine.execTentFree t s
  | .tentReloadModels t => Sys2Proof.Machine.execTentReloadModels t s
  | .quotaWrite t v => Sys2Proof.Machine.execQuotaWrite t v s
  | .migrationCutArm t v => Sys2Proof.Machine.execMigrationCutArm t v s
  | .migrationCut t => Sys2Proof.Machine.execMigrationCut t s
  | .bayReset bay => Sys2Proof.Machine.execBayReset bay s
  | .crewPreempt bay slot => Sys2Proof.Machine.execCrewPreempt bay slot s
  | .crewRestore k slot => Sys2Proof.Machine.execCrewRestore k slot s
  | .shapeRateWrite t c v => Sys2Proof.Machine.execShapeRateWrite t c v s
  | .shapeBurstWrite t c v => Sys2Proof.Machine.execShapeBurstWrite t c v s
  | .gateListArm a => Sys2Proof.Machine.execGateListArm a s
  | .gateListActivate => Sys2Proof.Machine.execGateListActivate s
  | .gateEntryAdvance => Sys2Proof.Machine.execGateEntryAdvance s
  | .acctEnable t v => Sys2Proof.Machine.execAcctEnable t v s
  | .acctDisable t => Sys2Proof.Machine.execAcctDisable t s
  | .acctSnapshotArm v => Sys2Proof.Machine.execAcctSnapshotArm v s
  | .acctSnapshotWrite => Sys2Proof.Machine.execAcctSnapshotWrite s
  | .journalAdmit => Sys2Proof.Machine.execJournalAdmit s
  | .journalLegResult => Sys2Proof.Machine.execJournalLegResult s
  | .journalTokens => Sys2Proof.Machine.execJournalTokens s
  | .journalCancel => Sys2Proof.Machine.execJournalCancel s
  | .journalComplete n => Sys2Proof.Machine.execJournalComplete n s
  | .groupCommitWrite => Sys2Proof.Machine.execGroupCommitWrite s
  | .groupWriteComplete => Sys2Proof.Machine.execGroupWriteComplete s
  | .mirrorTimeout => Sys2Proof.Machine.execMirrorTimeout s
  | .mirrorPeerChange v => Sys2Proof.Machine.execMirrorPeerChange v s
  | .mirrorResyncComplete => Sys2Proof.Machine.execMirrorResyncComplete s
  | .mirrorProbe answered => Sys2Proof.Machine.execMirrorProbe answered s
  | .hostBeat => Sys2Proof.Machine.execHostBeat s
  | .hostAttach => Sys2Proof.Machine.execHostAttach s
  | .hostDetach => Sys2Proof.Machine.execHostDetach s
  | .leaseExpire => Sys2Proof.Machine.execLeaseExpire s
  | .replayScan bad peer => Sys2Proof.Machine.execReplayScan bad peer s
  | .recoveryTableWrite v => Sys2Proof.Machine.execRecoveryTableWrite v s
  | .tentRecover t => Sys2Proof.Machine.execTentRecover t s
  | .requestReattach k => Sys2Proof.Machine.execRequestReattach k s
  | .rangerWatchdogExpire r => Sys2Proof.Machine.execRangerWatchdogExpire r s
  | .rangerRestartComplete r ok => Sys2Proof.Machine.execRangerRestartComplete r ok s
  | .linksGo v => Sys2Proof.Machine.execLinksGo v s
  | .linkTrainRetry l peer => Sys2Proof.Machine.execLinkTrainRetry l peer s
  | .linkKeyAgree l ok => Sys2Proof.Machine.execLinkKeyAgree l ok s
  | .linkRekey l => Sys2Proof.Machine.execLinkRekey l s
  | .linkTimeExchange l rtt skew root hops => Sys2Proof.Machine.execLinkTimeExchange l rtt skew root hops s
  | .linkUp l => Sys2Proof.Machine.execLinkUp l s
  | .flitSend l => Sys2Proof.Machine.execFlitSend l s
  | .flitReceive l f crcOk sealOk => Sys2Proof.Machine.execFlitReceive l f crcOk sealOk s
  | .ackTimer l => Sys2Proof.Machine.execAckTimer l s
  | .sealIdleClose l => Sys2Proof.Machine.execSealIdleClose l s
  | .flitForward l => Sys2Proof.Machine.execFlitForward l s
  | .routeWrite v => Sys2Proof.Machine.execRouteWrite v s
  | .routeHoldExpire d => Sys2Proof.Machine.execRouteHoldExpire d s
  | .txnRead k => Sys2Proof.Machine.execTxnRead k s
  | .txnWrite k => Sys2Proof.Machine.execTxnWrite k s
  | .txnAtomic k => Sys2Proof.Machine.execTxnAtomic k s
  | .txnMessage k => Sys2Proof.Machine.execTxnMessage k s
  | .txnReadData k => Sys2Proof.Machine.execTxnReadData k s
  | .txnWriteDone k => Sys2Proof.Machine.execTxnWriteDone k s
  | .txnAtomicData k => Sys2Proof.Machine.execTxnAtomicData k s
  | .txnFault k => Sys2Proof.Machine.execTxnFault k s
  | .txnCollective k => Sys2Proof.Machine.execTxnCollective k s
  | .txnJournal k => Sys2Proof.Machine.execTxnJournal k s
  | .txnJournalAck k => Sys2Proof.Machine.execTxnJournalAck k s
  | .txnLinkNotice k => Sys2Proof.Machine.execTxnLinkNotice k s
  | .txnFreeze k => Sys2Proof.Machine.execTxnFreeze k s
  | .txnResume k => Sys2Proof.Machine.execTxnResume k s
  | .keyidAnnounce t => Sys2Proof.Machine.execKeyidAnnounce t s
  | .remoteTimeout tag => Sys2Proof.Machine.execRemoteTimeout tag s
  | .linkDown l reason => Sys2Proof.Machine.execLinkDown l reason s
  | .linkDisable l => Sys2Proof.Machine.execLinkDisable l s
  | .linkNoticeTimeout l => Sys2Proof.Machine.execLinkNoticeTimeout l s
  | .collGroupRegister g v => Sys2Proof.Machine.execCollGroupRegister g v s
  | .collDescriptorTake t => Sys2Proof.Machine.execCollDescriptorTake t s
  | .collAllReduce g inst => Sys2Proof.Machine.execCollAllReduce g inst s
  | .collReduceScatter g inst => Sys2Proof.Machine.execCollReduceScatter g inst s
  | .collBroadcast g inst => Sys2Proof.Machine.execCollBroadcast g inst s
  | .collHistSum g inst => Sys2Proof.Machine.execCollHistSum g inst s
  | .collSelectMerge g inst => Sys2Proof.Machine.execCollSelectMerge g inst s
  | .collTimeout g inst => Sys2Proof.Machine.execCollTimeout g inst s
  | .kemGenerate v => Sys2Proof.Machine.execKemGenerate v s
  | .keyGenerate v => Sys2Proof.Machine.execKeyGenerate v s
  | .keyImport v => Sys2Proof.Machine.execKeyImport v s
  | .keyLoad v => Sys2Proof.Machine.execKeyLoad v s
  | .keyClear v => Sys2Proof.Machine.execKeyClear v s
  | .sessionOpen v => Sys2Proof.Machine.execSessionOpen v s
  | .sessionLoad v => Sys2Proof.Machine.execSessionLoad v s
  | .sessionClose v => Sys2Proof.Machine.execSessionClose v s
  | .secAttest v => Sys2Proof.Machine.execSecAttest v s
  | .sealedImport v => Sys2Proof.Machine.execSealedImport v s
  | .consent v => Sys2Proof.Machine.execConsent v s
  | .consentRevoke v => Sys2Proof.Machine.execConsentRevoke v s
  | .getCert => Sys2Proof.Machine.execGetCert s
  | .secGetLog v => Sys2Proof.Machine.execSecGetLog v s
  | .drbgReseed => Sys2Proof.Machine.execDrbgReseed s
  | .entropyHealthFail => Sys2Proof.Machine.execEntropyHealthFail s
  | .patrolScrub flips owner => Sys2Proof.Machine.execPatrolScrub flips owner s
  | .errorLogWrite => Sys2Proof.Machine.execErrorLogWrite s
  | .coalesceHoldExpire => Sys2Proof.Machine.execCoalesceHoldExpire s
  | .errorLogRegister v => Sys2Proof.Machine.execErrorLogRegister v s
  | .injectArm v => Sys2Proof.Machine.execInjectArm v s
  | .sramRemap isl macro_ word => Sys2Proof.Machine.execSramRemap isl macro_ word s
  | .bayRetire bay => Sys2Proof.Machine.execBayRetire bay s
  | .failsafeForce => Sys2Proof.Machine.execFailsafeForce s
  | .ctrSnapshotArm v => Sys2Proof.Machine.execCtrSnapshotArm v s
  | .ctrSnapshotWrite => Sys2Proof.Machine.execCtrSnapshotWrite s
  | .evcValueWrite off v n => Sys2Proof.Machine.execEvcValueWrite off v n s
  | .tempPeakClear now sensor => Sys2Proof.Machine.execTempPeakClear now sensor s
  | .traceEventWrite overflow => Sys2Proof.Machine.execTraceEventWrite overflow s
  | .traceConsumerWrite v => Sys2Proof.Machine.execTraceConsumerWrite v s
  | .triggerArm v => Sys2Proof.Machine.execTriggerArm v s
  | .triggerFireHost => Sys2Proof.Machine.execTriggerFireHost s
  | .triggerFire => Sys2Proof.Machine.execTriggerFire s
  | .reserveClose => Sys2Proof.Machine.execReserveClose s
  | .fwlogRegister v => Sys2Proof.Machine.execFwlogRegister v s
  | .fwlogWrite core point level tent args => Sys2Proof.Machine.execFwlogWrite core point level tent args s
  | .fwLoad v => Sys2Proof.Machine.execFwLoad v s
  | .fwVerify => Sys2Proof.Machine.execFwVerify s
  | .fwCmdqDoorbell v => Sys2Proof.Machine.execFwCmdqDoorbell v s
  | .fwEvtqDoorbell v => Sys2Proof.Machine.execFwEvtqDoorbell v s
  | .fwPing => Sys2Proof.Machine.execFwPing s
  | .fwGetInfo => Sys2Proof.Machine.execFwGetInfo s
  | .fwLaunch => Sys2Proof.Machine.execFwLaunch s
  | .fwRetireBay => Sys2Proof.Machine.execFwRetireBay s
  | .crewResume => Sys2Proof.Machine.execCrewResume s
  | .crewDiscard => Sys2Proof.Machine.execCrewDiscard s
  | .fwGetRemap => Sys2Proof.Machine.execFwGetRemap s
  | .trapRecordHandle d dataErr => Sys2Proof.Machine.execTrapRecordHandle d dataErr s
  | .basecampReset ok => Sys2Proof.Machine.execBasecampReset ok s
  | .basecampHaltTimeout => Sys2Proof.Machine.execBasecampHaltTimeout s
  | .sensorPoll p temps stackTemps rails => Sys2Proof.Machine.execSensorPoll p temps stackTemps rails s
  | .thermalCapUpdate => Sys2Proof.Machine.execThermalCapUpdate s
  | .lkSensors => Sys2Proof.Machine.execLkSensors s
  | .lkGetLog v => Sys2Proof.Machine.execLkGetLog v s
  | .lkInfo => Sys2Proof.Machine.execLkInfo s
  | .lkEnroll => Sys2Proof.Machine.execLkEnroll s
  | .mgmtHello conn hello => Sys2Proof.Machine.execMgmtHello conn hello s
  | .mgmtFinish conn ct sig => Sys2Proof.Machine.execMgmtFinish conn ct sig s
  | .mgmtInfo conn type seq cipher tag => Sys2Proof.Machine.execMgmtInfo conn type seq cipher tag s
  | .mgmtSensors conn seq cipher tag => Sys2Proof.Machine.execMgmtSensors conn seq cipher tag s
  | .mgmtGetLog conn seq cipher tag => Sys2Proof.Machine.execMgmtGetLog conn seq cipher tag s
  | .setPowerCap conn seq cipher tag => Sys2Proof.Machine.execSetPowerCap conn seq cipher tag s
  | .setConfig conn seq cipher tag => Sys2Proof.Machine.execSetConfig conn seq cipher tag s
  | .mgmtResetWarm conn seq cipher tag => Sys2Proof.Machine.execMgmtResetWarm conn seq cipher tag s
  | .mgmtResetCold conn seq cipher tag => Sys2Proof.Machine.execMgmtResetCold conn seq cipher tag s
  | .mgmtResetBasecamp conn seq cipher tag => Sys2Proof.Machine.execMgmtResetBasecamp conn seq cipher tag s
  | .updateBegin conn seq cipher tag => Sys2Proof.Machine.execUpdateBegin conn seq cipher tag s
  | .updateData conn seq cipher tag => Sys2Proof.Machine.execUpdateData conn seq cipher tag s
  | .updateCommit conn seq cipher tag => Sys2Proof.Machine.execUpdateCommit conn seq cipher tag s
  | .trustAdd conn seq cipher tag => Sys2Proof.Machine.execTrustAdd conn seq cipher tag s
  | .trustRemove conn seq cipher tag => Sys2Proof.Machine.execTrustRemove conn seq cipher tag s
  | .mgmtAttest conn seq cipher tag => Sys2Proof.Machine.execMgmtAttest conn seq cipher tag s
  | .requestA0 => Sys2Proof.Machine.execRequestA0 s
  | .requestA2 => Sys2Proof.Machine.execRequestA2 s
  | .requestS1 => Sys2Proof.Machine.execRequestS1 s
  | .s1Entry halted => Sys2Proof.Machine.execS1Entry halted s
  | .islandClockStop n => Sys2Proof.Machine.execIslandClockStop n s
  | .islandClockRestart n => Sys2Proof.Machine.execIslandClockRestart n s
  | .stackWake stack => Sys2Proof.Machine.execStackWake stack s
  | .stackSelfRefresh stack => Sys2Proof.Machine.execStackSelfRefresh stack s
  | .wakeEvent => Sys2Proof.Machine.execWakeEvent s
  | .aoSensorRead temps => Sys2Proof.Machine.execAoSensorRead temps s
  | .sup0Fault => Sys2Proof.Machine.execSup0Fault s
  | .sup1Reset => Sys2Proof.Machine.execSup1Reset s
  | .dutyUpdate p => Sys2Proof.Machine.execDutyUpdate p s
  | .dutyMinClear => Sys2Proof.Machine.execDutyMinClear s
  | .pwrResetWarm v => Sys2Proof.Machine.execPwrResetWarm v s
  | .pwrResetCold v => Sys2Proof.Machine.execPwrResetCold v s
  | .pkgResetAssert => Sys2Proof.Machine.execPkgResetAssert s
  | .pkgResetRelease => Sys2Proof.Machine.execPkgResetRelease s
  | .aonPowerGood => Sys2Proof.Machine.execAonPowerGood s
  | .startupStepAdvance ok slots bases control found => Sys2Proof.Machine.execStartupStepAdvance ok slots bases control found s
  | .illegalOpcode bay slot => Sys2Proof.Machine.execIllegalOpcode bay slot s
  | .logRingSpaceReturn => Sys2Proof.Machine.execLogRingSpaceReturn s
  | .ethernetFrameReceive port fec good => Sys2Proof.Machine.execEthernetFrameReceive port fec good s
  | .ethernetFrameTransmit port a n => Sys2Proof.Machine.execEthernetFrameTransmit port a n s
  | .mgmtConnectionClose conn => Sys2Proof.Machine.execMgmtConnectionClose conn s
  | .consentWindowBoundary => Sys2Proof.Machine.execConsentWindowBoundary s

end Sys2Proof.Machine
end

