-- ==== Sys2Proof/Machine/Step.lean ====
section
/-! DEFINITION. One step of the block: the front command is performed with the rest of the queue; an empty queue lets the
reference tick pass (R37, log entry 1). -/

namespace Sys2Proof.Machine

/-- The reference tick count, 64 bits, moves on by one. -/
def State.tickOn (s : State) : State := { s with ao := { s.ao with tick := s.ao.tick + 1 } }

/-- One step. -/
def step (s : State) : Host.Outcome State Fault Refusal :=
  match s.pending with
  | [] => .next s.tickOn
  | c :: cs => exec c { s with pending := cs }

/-- The state with the command that a word spells put at the front of its queue; unchanged where it spells none. -/
def State.withFetchWord (s : State) (nbits w : Nat) : State :=
  match Sys2Proof.decodeTableWord nbits w with
  | none => s
  | some c => { s with pending := c :: s.pending }

end Sys2Proof.Machine
end

