-- ==== Sys2Proof/Machine/BayDecode.lean ====
section
/-! DEFINITION. The instructions that the words of an instruction store spell (R96, R99, R100): the words of each
instruction, and the instruction that a word at a crew's PC spells. -/

namespace Sys2Proof.Machine

/-- Where an instruction runs and the words that spell it. -/
structure BayWords where
  bay : Nat
  slot : Nat
  word : W64
  /-- The second word of a long form. -/
  second : Option W64
  deriving DecidableEq, Repr

/-- The instruction that a word spells for the crew in a slot, `w2` being the word after it; `none` for an opcode that the
tables reserve or do not list, which traps (R99). -/
def instrAt (bay slot : Nat) (w w2 : W64) : Option Instr :=
  match wordOpcode w with
  | 0x00 => some (.nop bay slot (wordShort w))
  | 0x01 => some (.iadd bay slot (wordShort w))
  | 0x02 => some (.isub bay slot (wordShort w))
  | 0x03 => some (.imul bay slot (wordShort w))
  | 0x04 => some (.imulh bay slot (wordShort w))
  | 0x05 => some (.imad bay slot (wordShort w))
  | 0x06 => some (.imin bay slot (wordShort w))
  | 0x07 => some (.imax bay slot (wordShort w))
  | 0x08 => some (.and bay slot (wordShort w))
  | 0x09 => some (.or bay slot (wordShort w))
  | 0x0A => some (.xor bay slot (wordShort w))
  | 0x0B => some (.andn bay slot (wordShort w))
  | 0x0C => some (.shl bay slot (wordShort w))
  | 0x0D => some (.shr bay slot (wordShort w))
  | 0x0E => some (.popc bay slot (wordShort w))
  | 0x0F => some (.clz bay slot (wordShort w))
  | 0x10 => some (.iaddi bay slot (wordShort w))
  | 0x11 => some (.movi bay slot (wordShort w))
  | 0x12 => some (.movhi bay slot (wordShort w))
  | 0x13 => some (.isetp bay slot (wordShort w))
  | 0x14 => some (.sel bay slot (wordShort w))
  | 0x15 => some (.plop bay slot (wordShort w))
  | 0x16 => some (.shfl bay slot (wordShort w))
  | 0x17 => some (.vote bay slot (wordShort w))
  | 0x18 => some (.bfe bay slot (wordShort w))
  | 0x19 => some (.bfi bay slot (wordShort w))
  | 0x1A => some (.movu bay slot (wordShort w))
  | 0x20 => some (.fadd bay slot (wordShort w))
  | 0x21 => some (.fsub bay slot (wordShort w))
  | 0x22 => some (.fmul bay slot (wordShort w))
  | 0x23 => some (.ffma bay slot (wordShort w))
  | 0x24 => some (.fmin bay slot (wordShort w))
  | 0x25 => some (.fmax bay slot (wordShort w))
  | 0x26 => some (.fsetp bay slot (wordShort w))
  | 0x27 => some (.fabsneg bay slot (wordShort w))
  | 0x28 => some (.frcp bay slot (wordShort w))
  | 0x29 => some (.frsq bay slot (wordShort w))
  | 0x2A => some (.fexp2 bay slot (wordShort w))
  | 0x2B => some (.flog2 bay slot (wordShort w))
  | 0x2C => some (.ftanh bay slot (wordShort w))
  | 0x2D => some (.f2i bay slot (wordShort w))
  | 0x2E => some (.i2f bay slot (wordShort w))
  | 0x2F => some (.f2n bay slot (wordShort w))
  | 0x30 => some (.n2f bay slot (wordShort w))
  | 0x31 => some (.fclass bay slot (wordShort w))
  | 0x40 => some (.uadd bay slot (wordShort w))
  | 0x41 => some (.uaddi bay slot (wordShort w))
  | 0x42 => some (.umovi bay slot (wordShort w))
  | 0x43 => some (.ului bay slot (wordShort w))
  | 0x44 => some (.umul bay slot (wordShort w))
  | 0x45 => some (.ushift bay slot (wordShort w))
  | 0x46 => some (.uand bay slot (wordShort w))
  | 0x47 => some (.umovv bay slot (wordShort w))
  | 0x48 => some (.bra bay slot (wordShort w))
  | 0x49 => some (.jmpu bay slot (wordShort w))
  | 0x4A => some (.loop bay slot (wordShort w))
  | 0x4B => some (.call bay slot (wordShort w))
  | 0x4C => some (.ret bay slot (wordShort w))
  | 0x4D => some (.exit bay slot (wordShort w))
  | 0x4E => some (.launch bay slot (wordShort w))
  | 0x50 => some (.loadLocal bay slot (wordShort w))
  | 0x51 => some (.storeLocal bay slot (wordShort w))
  | 0x52 => some (.loadAcc bay slot (wordShort w))
  | 0x53 => some (.storeAcc bay slot (wordShort w))
  | 0x54 => some (.loadDev bay slot (wordShort w))
  | 0x55 => some (.storeDev bay slot (wordShort w))
  | 0x56 => some (.atomDev bay slot (wordShort w))
  | 0x57 => some (.atomLocal bay slot (wordShort w))
  | 0x58 => some (.flashRead bay slot (wordShort w))
  | 0x59 => some (.spanClear bay slot (wordShort w))
  | 0x60 => some (.evSignal bay slot (wordShort w))
  | 0x61 => some (.evSet bay slot (wordShort w))
  | 0x62 => some (.evWait bay slot (wordShort w))
  | 0x63 => some (.fenceLocal bay slot (wordShort w))
  | 0x64 => some (.fenceDevice bay slot (wordShort w))
  | 0x65 => some (.fenceStamp bay slot (wordShort w))
  | 0x66 => some (.park bay slot (wordShort w))
  | 0x67 => some (.yield bay slot (wordShort w))
  | 0x68 => some (.msgSend bay slot (wordShort w))
  | 0x69 => some (.remoteGet bay slot (wordShort w))
  | 0x6A => some (.remotePut bay slot (wordShort w))
  | 0x6B => some (.remoteLoad bay slot (wordShort w))
  | 0x6C => some (.remoteAtom bay slot (wordShort w))
  | 0x70 => some (.trap bay slot (wordShort w))
  | 0x71 => some (.time bay slot (wordShort w))
  | 0x72 => some (.ctr bay slot (wordShort w))
  | 0x73 => some (.bayinfo bay slot (wordShort w))
  | 0x74 => some (.trace bay slot (wordShort w))
  | 0x75 => some (.brk bay slot (wordShort w))
  | 0x80 => some (.trShape bay slot (wordShort w) w2)
  | 0x81 => some (.trWload bay slot (wordShort w) w2)
  | 0x82 => some (.trSwap bay slot (wordShort w) w2)
  | 0x83 => some (.trRun bay slot (wordShort w) w2)
  | 0x84 => some (.trCmp bay slot (wordShort w) w2)
  | 0x85 => some (.trAccz bay slot (wordShort w) w2)
  | 0x86 => some (.trSync bay slot (wordShort w) w2)
  | 0x90 => some (.dmaLoad bay slot (wordShort w) w2)
  | 0x91 => some (.dmaStore bay slot (wordShort w) w2)
  | 0x92 => some (.dmaCopy bay slot (wordShort w) w2)
  | 0x93 => some (.dmaScarf bay slot (wordShort w) w2)
  | 0x94 => some (.dmaUnscarf bay slot (wordShort w) w2)
  | 0x95 => some (.dmaFill bay slot (wordShort w) w2)
  | 0x98 => some (.selTopk bay slot (wordShort w) w2)
  | 0x99 => some (.selHist bay slot (wordShort w) w2)
  | 0x9A => some (.selEmit bay slot (wordShort w) w2)
  | 0x9B => some (.merge bay slot (wordShort w) w2)
  | 0xA0 => some (.smpFeed bay slot (wordShort w) w2)
  | 0xA1 => some (.smpClose bay slot (wordShort w) w2)
  | 0xA2 => some (.smpDraft bay slot (wordShort w) w2)
  | _ => none

/-- The words of an instruction; `none` for the commands that are no instruction of a bay. -/
def bayWords (i : Instr) : Option BayWords :=
  match i with
  | .malformedControlAccess _ _ _ => none
  | .registerWrite _ _ => none
  | .couplerDeliver _ _ _ _ _ _ => none
  | .timeBeacon _ _ => none
  | .timingFault _ => none
  | .watermarkSend _ _ => none
  | .timeSkewClear => none
  | .ptpMappingUpdate _ _ _ => none
  | .ppsOutEdge => none
  | .ppsInEdge => none
  | .timeCmpWrite _ _ => none
  | .timeCmpFire _ => none
  | .freezeArm _ => none
  | .freezeDisarm => none
  | .freezeCancel => none
  | .freezeTickReached => none
  | .freezeSettled => none
  | .resumeArm _ => none
  | .resumeTickReached => none
  | .freezeAckReceive _ => none
  | .dumpGo => none
  | .crewLaunch _ _ => none
  | .crewEnd _ _ => none
  | .longLatencyReplyLand _ _ _ => none
  | .messageDeliver _ => none
  | .nop bay slot f => some ⟨bay, slot, f.word 0x00, none⟩
  | .iadd bay slot f => some ⟨bay, slot, f.word 0x01, none⟩
  | .isub bay slot f => some ⟨bay, slot, f.word 0x02, none⟩
  | .imul bay slot f => some ⟨bay, slot, f.word 0x03, none⟩
  | .imulh bay slot f => some ⟨bay, slot, f.word 0x04, none⟩
  | .imad bay slot f => some ⟨bay, slot, f.word 0x05, none⟩
  | .imin bay slot f => some ⟨bay, slot, f.word 0x06, none⟩
  | .imax bay slot f => some ⟨bay, slot, f.word 0x07, none⟩
  | .and bay slot f => some ⟨bay, slot, f.word 0x08, none⟩
  | .or bay slot f => some ⟨bay, slot, f.word 0x09, none⟩
  | .xor bay slot f => some ⟨bay, slot, f.word 0x0A, none⟩
  | .andn bay slot f => some ⟨bay, slot, f.word 0x0B, none⟩
  | .shl bay slot f => some ⟨bay, slot, f.word 0x0C, none⟩
  | .shr bay slot f => some ⟨bay, slot, f.word 0x0D, none⟩
  | .popc bay slot f => some ⟨bay, slot, f.word 0x0E, none⟩
  | .clz bay slot f => some ⟨bay, slot, f.word 0x0F, none⟩
  | .iaddi bay slot f => some ⟨bay, slot, f.word 0x10, none⟩
  | .movi bay slot f => some ⟨bay, slot, f.word 0x11, none⟩
  | .movhi bay slot f => some ⟨bay, slot, f.word 0x12, none⟩
  | .isetp bay slot f => some ⟨bay, slot, f.word 0x13, none⟩
  | .sel bay slot f => some ⟨bay, slot, f.word 0x14, none⟩
  | .plop bay slot f => some ⟨bay, slot, f.word 0x15, none⟩
  | .shfl bay slot f => some ⟨bay, slot, f.word 0x16, none⟩
  | .vote bay slot f => some ⟨bay, slot, f.word 0x17, none⟩
  | .bfe bay slot f => some ⟨bay, slot, f.word 0x18, none⟩
  | .bfi bay slot f => some ⟨bay, slot, f.word 0x19, none⟩
  | .movu bay slot f => some ⟨bay, slot, f.word 0x1A, none⟩
  | .fadd bay slot f => some ⟨bay, slot, f.word 0x20, none⟩
  | .fsub bay slot f => some ⟨bay, slot, f.word 0x21, none⟩
  | .fmul bay slot f => some ⟨bay, slot, f.word 0x22, none⟩
  | .ffma bay slot f => some ⟨bay, slot, f.word 0x23, none⟩
  | .fmin bay slot f => some ⟨bay, slot, f.word 0x24, none⟩
  | .fmax bay slot f => some ⟨bay, slot, f.word 0x25, none⟩
  | .fsetp bay slot f => some ⟨bay, slot, f.word 0x26, none⟩
  | .fabsneg bay slot f => some ⟨bay, slot, f.word 0x27, none⟩
  | .frcp bay slot f => some ⟨bay, slot, f.word 0x28, none⟩
  | .frsq bay slot f => some ⟨bay, slot, f.word 0x29, none⟩
  | .fexp2 bay slot f => some ⟨bay, slot, f.word 0x2A, none⟩
  | .flog2 bay slot f => some ⟨bay, slot, f.word 0x2B, none⟩
  | .ftanh bay slot f => some ⟨bay, slot, f.word 0x2C, none⟩
  | .f2i bay slot f => some ⟨bay, slot, f.word 0x2D, none⟩
  | .i2f bay slot f => some ⟨bay, slot, f.word 0x2E, none⟩
  | .f2n bay slot f => some ⟨bay, slot, f.word 0x2F, none⟩
  | .n2f bay slot f => some ⟨bay, slot, f.word 0x30, none⟩
  | .fclass bay slot f => some ⟨bay, slot, f.word 0x31, none⟩
  | .uadd bay slot f => some ⟨bay, slot, f.word 0x40, none⟩
  | .uaddi bay slot f => some ⟨bay, slot, f.word 0x41, none⟩
  | .umovi bay slot f => some ⟨bay, slot, f.word 0x42, none⟩
  | .ului bay slot f => some ⟨bay, slot, f.word 0x43, none⟩
  | .umul bay slot f => some ⟨bay, slot, f.word 0x44, none⟩
  | .ushift bay slot f => some ⟨bay, slot, f.word 0x45, none⟩
  | .uand bay slot f => some ⟨bay, slot, f.word 0x46, none⟩
  | .umovv bay slot f => some ⟨bay, slot, f.word 0x47, none⟩
  | .bra bay slot f => some ⟨bay, slot, f.word 0x48, none⟩
  | .jmpu bay slot f => some ⟨bay, slot, f.word 0x49, none⟩
  | .loop bay slot f => some ⟨bay, slot, f.word 0x4A, none⟩
  | .call bay slot f => some ⟨bay, slot, f.word 0x4B, none⟩
  | .ret bay slot f => some ⟨bay, slot, f.word 0x4C, none⟩
  | .exit bay slot f => some ⟨bay, slot, f.word 0x4D, none⟩
  | .launch bay slot f => some ⟨bay, slot, f.word 0x4E, none⟩
  | .loadLocal bay slot f => some ⟨bay, slot, f.word 0x50, none⟩
  | .storeLocal bay slot f => some ⟨bay, slot, f.word 0x51, none⟩
  | .loadAcc bay slot f => some ⟨bay, slot, f.word 0x52, none⟩
  | .storeAcc bay slot f => some ⟨bay, slot, f.word 0x53, none⟩
  | .loadDev bay slot f => some ⟨bay, slot, f.word 0x54, none⟩
  | .storeDev bay slot f => some ⟨bay, slot, f.word 0x55, none⟩
  | .atomDev bay slot f => some ⟨bay, slot, f.word 0x56, none⟩
  | .atomLocal bay slot f => some ⟨bay, slot, f.word 0x57, none⟩
  | .flashRead bay slot f => some ⟨bay, slot, f.word 0x58, none⟩
  | .spanClear bay slot f => some ⟨bay, slot, f.word 0x59, none⟩
  | .evSignal bay slot f => some ⟨bay, slot, f.word 0x60, none⟩
  | .evSet bay slot f => some ⟨bay, slot, f.word 0x61, none⟩
  | .evWait bay slot f => some ⟨bay, slot, f.word 0x62, none⟩
  | .fenceLocal bay slot f => some ⟨bay, slot, f.word 0x63, none⟩
  | .fenceDevice bay slot f => some ⟨bay, slot, f.word 0x64, none⟩
  | .fenceStamp bay slot f => some ⟨bay, slot, f.word 0x65, none⟩
  | .park bay slot f => some ⟨bay, slot, f.word 0x66, none⟩
  | .yield bay slot f => some ⟨bay, slot, f.word 0x67, none⟩
  | .msgSend bay slot f => some ⟨bay, slot, f.word 0x68, none⟩
  | .remoteGet bay slot f => some ⟨bay, slot, f.word 0x69, none⟩
  | .remotePut bay slot f => some ⟨bay, slot, f.word 0x6A, none⟩
  | .remoteLoad bay slot f => some ⟨bay, slot, f.word 0x6B, none⟩
  | .remoteAtom bay slot f => some ⟨bay, slot, f.word 0x6C, none⟩
  | .trap bay slot f => some ⟨bay, slot, f.word 0x70, none⟩
  | .time bay slot f => some ⟨bay, slot, f.word 0x71, none⟩
  | .ctr bay slot f => some ⟨bay, slot, f.word 0x72, none⟩
  | .bayinfo bay slot f => some ⟨bay, slot, f.word 0x73, none⟩
  | .trace bay slot f => some ⟨bay, slot, f.word 0x74, none⟩
  | .brk bay slot f => some ⟨bay, slot, f.word 0x75, none⟩
  | .trShape bay slot f w2 => some ⟨bay, slot, f.word 0x80, some w2⟩
  | .trWload bay slot f w2 => some ⟨bay, slot, f.word 0x81, some w2⟩
  | .trSwap bay slot f w2 => some ⟨bay, slot, f.word 0x82, some w2⟩
  | .trRun bay slot f w2 => some ⟨bay, slot, f.word 0x83, some w2⟩
  | .trCmp bay slot f w2 => some ⟨bay, slot, f.word 0x84, some w2⟩
  | .trAccz bay slot f w2 => some ⟨bay, slot, f.word 0x85, some w2⟩
  | .trSync bay slot f w2 => some ⟨bay, slot, f.word 0x86, some w2⟩
  | .trussFormComplete _ => none
  | .dmaLoad bay slot f w2 => some ⟨bay, slot, f.word 0x90, some w2⟩
  | .dmaStore bay slot f w2 => some ⟨bay, slot, f.word 0x91, some w2⟩
  | .dmaCopy bay slot f w2 => some ⟨bay, slot, f.word 0x92, some w2⟩
  | .dmaScarf bay slot f w2 => some ⟨bay, slot, f.word 0x93, some w2⟩
  | .dmaUnscarf bay slot f w2 => some ⟨bay, slot, f.word 0x94, some w2⟩
  | .dmaFill bay slot f w2 => some ⟨bay, slot, f.word 0x95, some w2⟩
  | .dmaDescriptorComplete _ _ => none
  | .dmaFault _ _ => none
  | .dmaResume _ _ => none
  | .dmaFlush _ _ => none
  | .selTopk bay slot f w2 => some ⟨bay, slot, f.word 0x98, some w2⟩
  | .selHist bay slot f w2 => some ⟨bay, slot, f.word 0x99, some w2⟩
  | .selEmit bay slot f w2 => some ⟨bay, slot, f.word 0x9A, some w2⟩
  | .merge bay slot f w2 => some ⟨bay, slot, f.word 0x9B, some w2⟩
  | .selectFormComplete _ => none
  | .smpFeed bay slot f w2 => some ⟨bay, slot, f.word 0xA0, some w2⟩
  | .smpClose bay slot f w2 => some ⟨bay, slot, f.word 0xA1, some w2⟩
  | .smpDraft bay slot f w2 => some ⟨bay, slot, f.word 0xA2, some w2⟩
  | .indexRegister _ _ => none
  | .indexRetire _ => none
  | .searchStart _ => none
  | .searchRound _ _ => none
  | .granuleReadComplete _ _ _ => none
  | .rescoreLeg _ => none
  | .callbackDone _ => none
  | .callbackTimeout _ => none
  | .indexInsert _ => none
  | .indexDelete _ => none
  | .mutationCommit _ => none
  | .versionReclaim _ => none
  | .groundTruthPass _ => none
  | .tableRegister _ _ => none
  | .tableRetire _ => none
  | .tableCommandIssue _ _ _ _ => none
  | .tableGather _ _ _ => none
  | .tableScatter _ _ => none
  | .tableScatterAdd _ _ _ => none
  | .tableCommandComplete _ => none
  | .hotSampleInterval _ _ => none
  | .replicaCopyComplete _ _ => none
  | .bucketMove _ _ _ _ _ => none
  | .tableSwitch _ => none
  | .tableSwitchActivate _ => none
  | .panelTableCreate _ _ _ => none
  | .panelTableDestroy _ => none
  | .panelRead _ _ => none
  | .mapHbm _ _ _ _ => none
  | .mapFlash _ _ _ => none
  | .unmap _ _ _ => none
  | .hintPrefetch _ _ _ => none
  | .hintPin _ _ _ => none
  | .hintUnpin _ _ _ => none
  | .hintDemote _ _ _ => none
  | .inboundMigration _ _ => none
  | .inboundMigrationDone _ _ => none
  | .outboundMigration _ _ => none
  | .outboundWritebackDone _ _ => none
  | .outboundCommitSettled _ _ => none
  | .panelRetire _ => none
  | .flashSetCreate _ _ _ _ => none
  | .flashSetAssemble _ _ => none
  | .flashRebuildGo _ _ _ _ => none
  | .flashRebuildDone _ => none
  | .nvmeCompletion _ _ => none
  | .nvmeCommandTimeout _ => none
  | .ssdFail _ => none
  | .vocabRegister _ _ => none
  | .vocabLoadComplete _ => none
  | .vocabRetire _ => none
  | .tokenizeLeg _ => none
  | .kerfContextAcquire _ => none
  | .guylineContextAcquire _ => none
  | .grammarRegister _ _ => none
  | .grammarLoadComplete _ => none
  | .grammarRetire _ => none
  | .guylineMask _ _ => none
  | .sqRegister _ _ => none
  | .sqDisable _ => none
  | .cqRegister _ _ => none
  | .cqDisable _ => none
  | .sqDoorbell _ _ => none
  | .cqDoorbell _ _ => none
  | .descriptorFetch => none
  | .requestEmbed => none
  | .requestSearch => none
  | .requestRerank => none
  | .requestGenerate => none
  | .requestRag => none
  | .requestTokenize => none
  | .requestIndexMutate => none
  | .requestTableOp => none
  | .requestCancel => none
  | .heldDescriptorAdmit _ _ => none
  | .acceptRecordPost _ => none
  | .embedLeg _ _ _ => none
  | .rerankLeg _ _ => none
  | .packLeg _ => none
  | .legComplete _ => none
  | .ringRegister _ _ _ => none
  | .ringUnregister _ => none
  | .ringRead _ => none
  | .ringConsumerPoll _ => none
  | .recordPublish _ => none
  | .cancelDecision _ => none
  | .stepBoundary _ _ _ _ => none
  | .draftDraw _ _ _ => none
  | .samplerDraw _ _ _ => none
  | .stepCommit _ => none
  | .stepClose _ _ => none
  | .batchDescriptorWrite _ _ => none
  | .batchStart _ => none
  | .adapterInstall _ _ => none
  | .adapterRetire _ _ => none
  | .adapterQuery _ _ => none
  | .tentConfigure _ _ => none
  | .tentAbort _ => none
  | .tentActivate _ => none
  | .tentReset _ => none
  | .tentRelease _ => none
  | .tentReleaseDrained _ => none
  | .tentFree _ => none
  | .tentReloadModels _ => none
  | .quotaWrite _ _ => none
  | .migrationCutArm _ _ => none
  | .migrationCut _ => none
  | .bayReset _ => none
  | .crewPreempt _ _ => none
  | .crewRestore _ _ => none
  | .shapeRateWrite _ _ _ => none
  | .shapeBurstWrite _ _ _ => none
  | .gateListArm _ => none
  | .gateListActivate => none
  | .gateEntryAdvance => none
  | .acctEnable _ _ => none
  | .acctDisable _ => none
  | .acctSnapshotArm _ => none
  | .acctSnapshotWrite => none
  | .journalAdmit => none
  | .journalLegResult => none
  | .journalTokens => none
  | .journalCancel => none
  | .journalComplete _ => none
  | .groupCommitWrite => none
  | .groupWriteComplete => none
  | .mirrorTimeout => none
  | .mirrorPeerChange _ => none
  | .mirrorResyncComplete => none
  | .mirrorProbe _ => none
  | .hostBeat => none
  | .hostAttach => none
  | .hostDetach => none
  | .leaseExpire => none
  | .replayScan _ _ => none
  | .recoveryTableWrite _ => none
  | .tentRecover _ => none
  | .requestReattach _ => none
  | .rangerWatchdogExpire _ => none
  | .rangerRestartComplete _ _ => none
  | .linksGo _ => none
  | .linkTrainRetry _ _ => none
  | .linkKeyAgree _ _ => none
  | .linkRekey _ => none
  | .linkTimeExchange _ _ _ _ _ => none
  | .linkUp _ => none
  | .flitSend _ => none
  | .flitReceive _ _ _ _ => none
  | .ackTimer _ => none
  | .sealIdleClose _ => none
  | .flitForward _ => none
  | .routeWrite _ => none
  | .routeHoldExpire _ => none
  | .txnRead _ => none
  | .txnWrite _ => none
  | .txnAtomic _ => none
  | .txnMessage _ => none
  | .txnReadData _ => none
  | .txnWriteDone _ => none
  | .txnAtomicData _ => none
  | .txnFault _ => none
  | .txnCollective _ => none
  | .txnJournal _ => none
  | .txnJournalAck _ => none
  | .txnLinkNotice _ => none
  | .txnFreeze _ => none
  | .txnResume _ => none
  | .keyidAnnounce _ => none
  | .remoteTimeout _ => none
  | .linkDown _ _ => none
  | .linkDisable _ => none
  | .linkNoticeTimeout _ => none
  | .collGroupRegister _ _ => none
  | .collDescriptorTake _ => none
  | .collAllReduce _ _ => none
  | .collReduceScatter _ _ => none
  | .collBroadcast _ _ => none
  | .collHistSum _ _ => none
  | .collSelectMerge _ _ => none
  | .collTimeout _ _ => none
  | .kemGenerate _ => none
  | .keyGenerate _ => none
  | .keyImport _ => none
  | .keyLoad _ => none
  | .keyClear _ => none
  | .sessionOpen _ => none
  | .sessionLoad _ => none
  | .sessionClose _ => none
  | .secAttest _ => none
  | .sealedImport _ => none
  | .consent _ => none
  | .consentRevoke _ => none
  | .getCert => none
  | .secGetLog _ => none
  | .drbgReseed => none
  | .entropyHealthFail => none
  | .patrolScrub _ _ => none
  | .errorLogWrite => none
  | .coalesceHoldExpire => none
  | .errorLogRegister _ => none
  | .injectArm _ => none
  | .sramRemap _ _ _ => none
  | .bayRetire _ => none
  | .failsafeForce => none
  | .ctrSnapshotArm _ => none
  | .ctrSnapshotWrite => none
  | .evcValueWrite _ _ _ => none
  | .tempPeakClear _ _ => none
  | .traceEventWrite _ => none
  | .traceConsumerWrite _ => none
  | .triggerArm _ => none
  | .triggerFireHost => none
  | .triggerFire => none
  | .reserveClose => none
  | .fwlogRegister _ => none
  | .fwlogWrite _ _ _ _ _ => none
  | .fwLoad _ => none
  | .fwVerify => none
  | .fwCmdqDoorbell _ => none
  | .fwEvtqDoorbell _ => none
  | .fwPing => none
  | .fwGetInfo => none
  | .fwLaunch => none
  | .fwRetireBay => none
  | .crewResume => none
  | .crewDiscard => none
  | .fwGetRemap => none
  | .trapRecordHandle _ _ => none
  | .basecampReset _ => none
  | .basecampHaltTimeout => none
  | .sensorPoll _ _ _ _ => none
  | .thermalCapUpdate => none
  | .lkSensors => none
  | .lkGetLog _ => none
  | .lkInfo => none
  | .lkEnroll => none
  | .mgmtHello _ _ => none
  | .mgmtFinish _ _ _ => none
  | .mgmtInfo _ _ _ _ _ => none
  | .mgmtSensors _ _ _ _ => none
  | .mgmtGetLog _ _ _ _ => none
  | .setPowerCap _ _ _ _ => none
  | .setConfig _ _ _ _ => none
  | .mgmtResetWarm _ _ _ _ => none
  | .mgmtResetCold _ _ _ _ => none
  | .mgmtResetBasecamp _ _ _ _ => none
  | .updateBegin _ _ _ _ => none
  | .updateData _ _ _ _ => none
  | .updateCommit _ _ _ _ => none
  | .trustAdd _ _ _ _ => none
  | .trustRemove _ _ _ _ => none
  | .mgmtAttest _ _ _ _ => none
  | .requestA0 => none
  | .requestA2 => none
  | .requestS1 => none
  | .s1Entry _ => none
  | .islandClockStop _ => none
  | .islandClockRestart _ => none
  | .stackWake _ => none
  | .stackSelfRefresh _ => none
  | .wakeEvent => none
  | .aoSensorRead _ => none
  | .sup0Fault => none
  | .sup1Reset => none
  | .dutyUpdate _ => none
  | .dutyMinClear => none
  | .pwrResetWarm _ => none
  | .pwrResetCold _ => none
  | .pkgResetAssert => none
  | .pkgResetRelease => none
  | .aonPowerGood => none
  | .startupStepAdvance _ _ _ _ _ => none
  | .illegalOpcode _ _ => none
  | .logRingSpaceReturn => none
  | .ethernetFrameReceive _ _ _ => none
  | .ethernetFrameTransmit _ _ _ => none
  | .mgmtConnectionClose _ => none
  | .consentWindowBoundary => none

end Sys2Proof.Machine
end

