-- ==== Sys2Proof/Safety.lean ====
section
/-! DEFINITION. The terms in which claims are stated: what a step may answer, when a crew issues an instruction with every
check passed, what a command leaves alone, and the canonical form of the stores. -/

namespace Sys2Proof.Machine

/-! Steps. -/

/-- The front command of the queue is not one that starts the time base anew: power has come up, or SUP1 has reset the
always-on domain (R37). -/
def State.sameEpoch (s : State) : Bool :=
  match s.pending with
  | .aonPowerGood :: _ => false
  | .sup1Reset :: _ => false
  | _ => true

/-! The canonical form (R485: bytes and poison marks). -/

/-- A byte store is in canonical form. -/
def Store.wf (m : Store) : Bool := SMap.wf (fun _ => 0) m.bytes && SMap.wf (fun _ => false) m.poison

/-- The control registers, the bays and the byte stores of the part are in canonical form. -/
def State.canonical (s : State) : Bool :=
  SMap.wf regReset s.dev.regs && SMap.wf (fun _ => {}) s.dev.bays && s.dev.mem.host.wf && s.dev.mem.hbm.wf

/-! Errors. -/

/-- No error is armed for injection (R499). -/
def State.unarmed (s : State) : Bool := !s.flag rRasInjectArm fRasInjectArmArmed

/-! Issue. -/

/-- The bay counts an instruction issued and the strand engine a clock (R507, R515). -/
def State.issued (s : State) (bay : Nat) : State := (s.bayEvent bay 0x001).busy (engStrand bay)

/-- The word of opcode `op` with fields `f`, and for a long form the second word, stands at the crew's PC, and no queued DMA
writes it (R68, R96). -/
structure AtPc (s : State) (bay slot op : Nat) (f : Short) (w2 : Option W64) (c : Crew) : Prop where
  crew : s.crew bay slot = some c
  pc : c.pc < 32767
  word : (s.bay bay).fetch c.pc = (f.word op, false)
  second : ∀ x, w2 = some x → ((s.bay bay).fetch (c.pc + 1)).1 = x
  quiet : (s.bay bay).writingWord c.pc = false

/-- The crew issues an instruction of this form, and every check that may trap or park it passes: it is ready (R75), its
fields are well formed (R97 to R99) and in range (R69), no guard is poisoned (R107), and no source waits for a reply (R81). -/
structure Issues (s : State) (bay slot : Nat) (f : Short) (k : OpForm) (c : Crew) : Prop where
  ready : s.canIssue bay c = true
  unarmed : s.unarmed = true
  fields : k.wellFormed f = true
  range : k.inRange f c.count = true
  guard : k.guarded = true → c.badGuard f = 0
  operands : c.pendingFor k f = none

/-- What an instruction of one crew leaves alone: every other crew and bay, the bay's stores, events, spans and queues, every
register but its bay's event counters, every other part of the block. -/
structure CrewOnly (s t : State) (bay slot : Nat) : Prop where
  crews : ∀ j, j ≠ slot → t.crew bay j = s.crew bay j
  own : t.bay bay = { s.bay bay with crews := (t.bay bay).crews }
  bays : ∀ b, b ≠ bay → t.bay b = s.bay b
  regs : ∀ off, (∀ k, k < 8 → off ≠ rBayEvcValue bay k) → t.rd off = s.rd off
  obs : t.dev.obs = { s.dev.obs with engines := t.dev.obs.engines }
  dev : t.dev = { s.dev with bays := t.dev.bays, regs := t.dev.regs, obs := t.dev.obs }
  ao : t.ao = s.ao
  nv : t.nv = s.nv
  pending : t.pending = s.pending

/-- The crew goes on to the word at `pc`: with no strand waiting to reconverge it is there, its mask unchanged (R78, R100). -/
def Crew.movedTo (c d : Crew) (pc : Nat) : Prop := c.stack = [] → d.pc = pc ∧ d.active = c.active ∧ d.stack = []

/-- The crew's executing lanes write `v` register `n`, and nothing else of the crew changes but where it stands (R69, R77). -/
structure WritesV (s t : State) (bay slot : Nat) (f : Short) (c : Crew) (g : Nat → VReg) : Prop where
  frame : CrewOnly s t bay slot
  crew : ∃ d, t.crew bay slot = some d ∧
    d = { c with v := d.v, pc := d.pc, active := d.active, stack := d.stack } ∧ c.movedTo d (c.pc + 1) ∧
    ∀ l, l < 32 → ∀ j, j < 64 →
      d.readV l j = if lane (c.executing f) l = true ∧ j = f.dst.toNat then g l else c.readV l j

/-- The crew's executing lanes write predicate `n`; p0 reads 1 whatever is written (R69). -/
structure WritesP (s t : State) (bay slot : Nat) (f : Short) (c : Crew) (g : Nat → PReg) : Prop where
  frame : CrewOnly s t bay slot
  crew : ∃ d, t.crew bay slot = some d ∧
    d = { c with p := d.p, pc := d.pc, active := d.active, stack := d.stack } ∧ c.movedTo d (c.pc + 1) ∧
    ∀ l, l < 32 → ∀ j, j < 8 →
      d.readP l j = if lane (c.executing f) l = true ∧ j = f.dst.toNat ∧ j ≠ 0 then g l else c.readP l j

/-- The crew writes one `u` register, once, and nothing else of it changes but where it stands (R70). -/
structure WritesU (s t : State) (bay slot : Nat) (f : Short) (c : Crew) (pc : Nat) (x : UReg) : Prop where
  frame : CrewOnly s t bay slot
  crew : ∃ d, t.crew bay slot = some d ∧
    d = { c with u := d.u, pc := d.pc, active := d.active, stack := d.stack } ∧ c.movedTo d pc ∧
    ∀ j, d.readU j = if j = f.dst.toNat then x else c.readU j

/-- The crew has trapped at its PC: it issues nothing more, the trap queue of its die has its record, BAY_TRAP shows it, and the
bay's stores and the other bays are as they were (R130, R132, R133). -/
structure Trapped (s t : State) (bay slot : Nat) (c : Crew) (cause : Nat) (lns : W32) (detail : W64) : Prop where
  crew : t.crew bay slot = some { c with trapped := true }
  queue : ∃ st : Stamp, st.island = s.bayIsland bay ∧
    SMap.get (fun _ => []) t.dev.traps (bay / 64) =
      SMap.get (fun _ => []) s.dev.traps (bay / 64) ++ [⟨st, c.pc, cause, slot, lns, detail, bay⟩]
  shown : (t.bay bay).trapCount = min ((s.bay bay).trapCount + 1) (2 ^ 32 - 1) ∧ (t.bay bay).trapCause = cause ∧
    (t.bay bay).trapSlot = slot ∧ (t.bay bay).trapPc = c.pc
  stores : (t.bay bay).store = (s.bay bay).store ∧ (t.bay bay).acc = (s.bay bay).acc ∧
    (t.bay bay).events = (s.bay bay).events ∧ (t.bay bay).istore = (s.bay bay).istore
  bays : ∀ b, b ≠ bay → t.bay b = s.bay b

/-- The form of a strand instruction: a guard is admitted, and DST names a `v` register unless it names a predicate. -/
def OpForm.strand (k : OpForm) : OpForm := { k with guarded := true, dst := .v 1 }

/-- A strand instruction with one `v` result completes: `ok` says for which fields the operation exists, and `g` gives the
result of a lane from the state and the crew before. -/
def StrandResult (op : Nat) (mk : Nat → Nat → Short → Instr) (k : OpForm) (ok : Short → Bool)
    (g : Short → State → Crew → Nat → VReg) : Prop :=
  ∀ s bay slot f c, AtPc s bay slot op f none c → Issues s bay slot f k.strand c → ok f = true →
    ∃ t, exec (mk bay slot f) s = .next t ∧ WritesV s t bay slot f c (g f s c)

/-- A strand instruction with a predicate result completes. -/
def PredicateResult (op : Nat) (mk : Nat → Nat → Short → Instr) (k : OpForm) (ok : Short → Bool)
    (g : Short → Crew → Nat → PReg) : Prop :=
  ∀ s bay slot f c, AtPc s bay slot op f none c → Issues s bay slot f { k with guarded := true, dst := .p } c →
    ok f = true → ∃ t, exec (mk bay slot f) s = .next t ∧ WritesP s t bay slot f c (g f c)

/-- A crew-uniform instruction with a `u` result completes, where a strand is active (R70). -/
def UniformResult (op : Nat) (mk : Nat → Nat → Short → Instr) (k : OpForm) (g : Nat → Short → State → Crew → UReg) : Prop :=
  ∀ s bay slot f c, AtPc s bay slot op f none c → Issues s bay slot f { k with dst := .u } c → c.active ≠ 0 →
    ∃ t, exec (mk bay slot f) s = .next t ∧ WritesU s t bay slot f c (c.pc + 1) (g bay f s c)

/-- The forms with one, two and three `v` sources, FUNC bits `m` in use. -/
def formV (m : Nat) : OpForm := { a := .v 1, func := m }
def formVV (m : Nat) : OpForm := { a := .v 1, b := .v 1, func := m }
def formVVV : OpForm := { a := .v 1, b := .v 1, c := .v 1 }

/-- The result of an operation on the `v` sources of a lane, poisoned where a source is (R107). -/
def onV (op : W32 → W32) (f : Short) (c : Crew) (l : Nat) : VReg :=
  ⟨op (c.readV l f.srca.toNat).val, (c.readV l f.srca.toNat).poison⟩
def onVV (op : W32 → W32 → W32) (f : Short) (c : Crew) (l : Nat) : VReg :=
  ⟨op (c.readV l f.srca.toNat).val (c.readV l f.srcb.toNat).val,
    (c.readV l f.srca.toNat).poison || (c.readV l f.srcb.toNat).poison⟩
def onVVV (op : W32 → W32 → W32 → W32) (f : Short) (c : Crew) (l : Nat) : VReg :=
  ⟨op (c.readV l f.srca.toNat).val (c.readV l f.srcb.toNat).val (c.readV l f.srcc.toNat).val,
    (c.readV l f.srca.toNat).poison || (c.readV l f.srcb.toNat).poison || (c.readV l f.srcc.toNat).poison⟩

/-- The value that an event instruction names (R114): FUNC[27:9], or `ua[31:0]` where FUNC[8] is 1. -/
def eventOperand (f : Short) (c : Crew) : PWord :=
  if f.func.getLsbD 8 then ⟨(c.readU f.srca.toNat).val.truncate 32, (c.readU f.srca.toNat).poison⟩
  else ⟨(f.func >>> 9).zeroExtend 32, false⟩

/-! Bay memory and long forms. -/

/-- An M-format access of the executing lanes passes its checks at a local store (R107, R108). -/
structure LocalAccess (s : State) (bay : Nat) (f : Short) (store acc : Bool) (c : Crew) : Prop where
  code : mCodeOk f store acc = true
  clean : mPoison c f (c.executing f) = 0
  place : ∀ l, l < 32 → lane (c.executing f) l = true →
    localCause (if acc then accStoreSize else s.bayEnd bay) (mAddr c f l) (mBytes f) = none

/-- Address `a` is one of the `n` from `b`. -/
def within (a b n : Nat) : Prop := b ≤ a ∧ a < b + n

/-- A load from a local store: each executing lane's registers take the bytes at its address, with their poison, and no other
register and no memory changes. -/
def LoadResult (op : Nat) (mk : Nat → Nat → Short → Instr) (acc : Bool) : Prop :=
  ∀ s bay slot f c, AtPc s bay slot op f none c → Issues s bay slot f (mForm f false) c → LocalAccess s bay f false acc c →
    ∃ t d, exec (mk bay slot f) s = .next t ∧ CrewOnly s t bay slot ∧ t.crew bay slot = some d ∧
      d = { c with v := d.v, pc := d.pc, active := d.active, stack := d.stack } ∧ c.movedTo d (c.pc + 1) ∧
      (∀ l, l < 32 → lane (c.executing f) l = true →
        ∀ q ∈ fillRegs (64 * l + f.dst.toNat) (mBytes f) (decide (5 ≤ fn f % 8))
            (((s.bay bay).mem acc).num (mAddr c f l) (mBytes f)) (((s.bay bay).mem acc).poisoned (mAddr c f l) (mBytes f)),
          SMap.get (fun _ => {}) d.v q.1 = q.2) ∧
      ∀ k, (∀ l, l < 32 → lane (c.executing f) l = true → ¬ within k (64 * l + f.dst.toNat) (mGroup f)) →
        SMap.get (fun _ => {}) d.v k = SMap.get (fun _ => {}) c.v k

/-- A store to a local store: an executing lane whose bytes no other one writes has its data there, no other byte of either
store changes, and the crew goes on with its registers as they were. -/
def StoreResult (op : Nat) (mk : Nat → Nat → Short → Instr) (acc : Bool) : Prop :=
  ∀ s bay slot f c, AtPc s bay slot op f none c → Issues s bay slot f (mForm f true) c → LocalAccess s bay f true acc c →
    ∃ t, exec (mk bay slot f) s = .next t ∧ t.crew bay slot = some (c.goto (c.pc + 1)) ∧
      (∀ j, j ≠ slot → t.crew bay j = s.crew bay j) ∧ (∀ b, b ≠ bay → t.bay b = s.bay b) ∧
      (t.bay bay).mem (!acc) = (s.bay bay).mem (!acc) ∧ (t.bay bay).events = (s.bay bay).events ∧ t.dev.mem = s.dev.mem ∧
      (∀ a, (∀ l, l < 32 → lane (c.executing f) l = true → ¬ within a (mAddr c f l) (mBytes f)) →
        ((t.bay bay).mem acc).byte a = ((s.bay bay).mem acc).byte a) ∧
      ∀ l, l < 32 → lane (c.executing f) l = true →
        (∀ k, k < 32 → lane (c.executing f) k = true → k ≠ l →
          mAddr c f k + mBytes f ≤ mAddr c f l ∨ mAddr c f l + mBytes f ≤ mAddr c f k) →
        ((t.bay bay).mem acc).num (mAddr c f l) (mBytes f) = (groupData c f.srcc.toNat (mGroup f) l).1 % 2 ^ (8 * mBytes f)

/-- The queued form that a long instruction makes of its two words and its crew's `u` registers (R119). -/
def longFormOf (op slot : Nat) (f : Short) (w2 : W64) (c : Crew) : LongForm :=
  { op := op, a := (c.readU f.srca.toNat).val, b := (c.readU f.srcb.toNat).val, c := (c.readU f.srcc.toNat).val
    d := (c.readU f.dst.toNat).val, func := f.func.toNat, w2 := w2, crew := slot, request := c.request }

/-- A long form whose second word passes its checks joins its unit's queue, where there is room, and the crew goes on past
both words; no store and no other crew changes (R119 to R121). -/
def LongQueued (op : Nat) (mk : Nat → Nat → Short → W64 → Instr) (k : OpForm) (uses : Short → W64 → List Nat)
    (ok : LongForm → Bay → Bool) (queue : W64 → Bay → List LongForm) (room : Nat) : Prop :=
  ∀ s bay slot f w2 c, AtPc s bay slot op f (some w2) c → Issues s bay slot f { k with long := true } c →
    ok (longFormOf op slot f w2 c) (s.bay bay) = true → (∀ n ∈ uses f w2, (c.readU n).poison = false) →
    (queue w2 (s.bay bay)).length < room →
    ∃ t, exec (mk bay slot f w2) s = .next t ∧
      queue w2 (t.bay bay) = queue w2 (s.bay bay) ++ [longFormOf op slot f w2 c] ∧
      t.crew bay slot = some (c.goto (c.pc + 2)) ∧ (∀ j, j ≠ slot → t.crew bay j = s.crew bay j) ∧
      (t.bay bay).store = (s.bay bay).store ∧ (t.bay bay).acc = (s.bay bay).acc ∧
      (t.bay bay).events = (s.bay bay).events ∧ ∀ b, b ≠ bay → t.bay b = s.bay b

/-- What the second words of the long forms must be (R123 to R128). -/
def dmaForms (d : LongForm) (_ : Bay) : Bool := dmaOk d
def trussForms (p : W64 → Bay → Bool) (d : LongForm) (b : Bay) : Bool := trussReserved d.w2 && p d.w2 b
def trussQueue (_ : W64) (b : Bay) : List LongForm := b.truss.queue
def dmaQueue (w2 : W64) (b : Bay) : List LongForm := (b.chan (dChannel w2)).queue
def selQueue (_ : W64) (b : Bay) : List LongForm := b.selq

/-! Operations that wait for a reply. -/

/-- An instruction begins a long-latency operation: with its checks passed (`ok`), fewer than eight outstanding and room for its
`reqs` requests, the crew goes on with one more operation outstanding (R80 to R82). -/
def LongBegins (op : Nat) (mk : Nat → Nat → Short → Instr) (k : Short → OpForm) (ok : State → Nat → Short → Crew → Prop)
    (reqs : State → Nat → Short → Crew → Nat) : Prop :=
  ∀ s bay slot f c, AtPc s bay slot op f none c → Issues s bay slot f (k f) c → slot < 256 → ok s bay f c →
    c.outstanding < 8 → (s.bay bay).requests + reqs s bay f c ≤ 4096 →
    ∃ t d, exec (mk bay slot f) s = .next t ∧ t.crew bay slot = some d ∧ c.movedTo d (c.pc + 1) ∧
      d.ops.map LongOp.id = c.ops.map LongOp.id ++ [c.nextOp] ∧ d.nextOp = c.nextOp + 1 ∧ d.v = c.v ∧
      (t.bay bay).store = (s.bay bay).store ∧ (∀ j, j ≠ slot → t.crew bay j = s.crew bay j) ∧
      ∀ b, b ≠ bay → t.bay b = s.bay b

/-- The form of REMOTE.GET and REMOTE.PUT, and the checks their operands pass (R118). -/
def copyForm : OpForm := { a := .u, b := .u, c := .u, func := 0x1FFFFFF }
def copyPasses (s : State) (bay : Nat) (f : Short) (c : Crew) : Prop :=
  1 ≤ fn f % 65536 ∧ (c.readU f.srca.toNat).poison = false ∧ (c.readU f.srcb.toNat).poison = false ∧
    (c.readU f.srcc.toNat).poison = false ∧ (c.readU f.srcc.toNat).val.toNat + 64 * (fn f % 65536) ≤ s.bayEnd bay

/-- The form of the sampler's instructions (R129). -/
def smpForm : OpForm := { a := .u, b := .u, c := .u, long := true }

/-! The control window and FAILSAFE. -/

/-- The rows whose plain writes have a guard or an effect of their own (R12, R261, R372, R417, R433, R459, R515). -/
def guardedBases : List Nat :=
  [rTentBays 0 0, rTentFlash 0, rTentDurability 0, rGenCfg 0, rTentKeyslot 0, rTentSave 0, rTentModels 0, rTentCairnKey0 0,
    rTentCairnKey1 0, rTentQuota 0, rTentStatus 0, rJrnlCfg, rFabDeviceNum, rFabTentSpan 0, rFabTentCollq 0, rFabLinkCfg 0,
    rMemFlashsetCfg 0, rBayEvcCfg 0 0, rMsdEvcCfg 0 0, rIodEvcCfg 0 0, rObsTraceReserve, rMemMap, rSecCmd, rLkCmd]

/-- The part is in FAILSAFE, and the latest management log record is that of the entry with this cause (R503, R549). -/
def InFailsafe (t : State) (cause : Nat) : Prop :=
  t.failsafe = true ∧ ∃ r, t.nv.mgmt.log.getLast? = some r ∧ r.type = 10 ∧ r.arg0 = cause

/-! The fabric. -/

/-- The `k`-th transaction that has arrived has this OP, and nothing refuses it or keeps it waiting (R443, R446, R448). -/
structure Serves (s : State) (k op l : Nat) (t : Txn) : Prop where
  arrived : s.arrivedTxn k op = some (l, t)
  unblocked : s.blocked (serveIsland l) = false
  first : (s.dev.fab.arrived.take k).all (fun e => !((e.2.op == 2 || e.2.op == 4) && e.2.stamp.device == t.stamp.device &&
    e.2.stamp.island == t.stamp.island)) = true
  admitted : s.remoteRefusal t = none

/-- A flit for device `d` leaves by link `p` now (R441, R442). -/
structure Routed (s : State) (d p : Nat) : Prop where
  other : d ≠ s.deviceNum
  running : s.failsafe = false
  unheld : SMap.get (fun _ => 0) s.dev.fab.holds d = 0
  primary : routePrimaryValid (s.route d) = true → (s.link (routePrimary (s.route d))).waiting = none
  next : s.nextLink d none = some p

/-! Results of the key engine. -/

/-- The key engine's command has ended: RESULT, OUT_BYTES, and BUSY reads 0 (R469). -/
def SecEnds (t : State) (res out : Nat) : Prop :=
  t.fld rSecCmdStatus fSecCmdStatusResult = res ∧ t.fld rSecCmdStatus fSecCmdStatusOutBytes = out % 2 ^ 32 ∧
    t.flag rSecCmdStatus fSecCmdStatusBusy = false

/-! Firmware. -/

/-- Firmware stands before an entry of its command queue with this OP, and no LAUNCH command waits for a crew that is gone
(R534 to R536). -/
structure Takes (s : State) (op : Nat) (e : List Byte) : Prop where
  running : s.fwRuns = true
  unblocked : s.blocked (islRanger (s.rangerOf 0)) = false
  reaped : (s.dev.fw.progress.filter fun c => !s.cmdAlive c) = []
  entry : s.fwEntry = some e
  known : 1 ≤ op ∧ op ≤ 7
  op : cmdOp e = op

/-- Firmware has taken the entry at HEAD. -/
def Advanced (s t : State) : Prop :=
  t.fld rFwCmdqHead fFwCmdqHeadHead = (s.fld rFwCmdqHead fFwCmdqHeadHead + 1) % s.fwqSize rFwCmdqBase % 2 ^ 16

/-- An event of this type is written to the event queue, or waits for room there (R534, R536). -/
def Posts (s t : State) (type status tag : Nat) (args : List Nat) : Prop :=
  ∃ e : FwEvent, e.type = type ∧ e.status = status ∧ e.tag = tag ∧ e.args = args ∧
    if s.evtRoom = true ∧ s.dev.fw.waiting = [] then
      t.dev.mem.host = s.dev.mem.host.write (s.fld rFwEvtqBase fFwEvtqBaseAddr * 64 +
        64 * (s.fld rFwEvtqTail fFwEvtqTailTail % s.fwqSize rFwEvtqBase)) (e.encode (s.fld rFwEvtqTail fFwEvtqTailPhase))
    else t.dev.fw.waiting = s.dev.fw.waiting ++ [e]

/-! Lookout. -/

/-- The mailbox command has ended: RESULT, BYTES, and BUSY reads 0 (R542). -/
def LkEnds (t : State) (res n : Nat) : Prop :=
  t.fld rLkStatus fLkStatusResult = res ∧ t.fld rLkStatus fLkStatusBytes = n % 2 ^ 32 ∧
    t.flag rLkStatus fLkStatusBusy = false

/-- A management request whose SEQ and tag are right comes on an open session: its body (R544). -/
structure Asks (s : State) (conn type seq : Nat) (cipher : List Byte) (tag : Nat) (x : MgmtSession) (body : List Byte) :
    Prop where
  up : s.lookoutUp = true
  session : s.mgmtSession conn = some x
  open_ : x.on = true
  inOrder : seq = x.seqIn
  opens : gcmOpen x.c2l seq (mgmtHeader cipher.length type seq) cipher tag = some body
  size : body.length ≤ 2 ^ 20

/-- Lookout has answered on the connection with a status and results, and both directions' SEQ have moved on (R544, R545). -/
def Replied (t : State) (conn type : Nat) (x : MgmtSession) (status : Nat) (out : List Byte) : Prop :=
  t.mgmtSession conn = some { x with seqIn := x.seqIn + 1, seqOut := x.seqOut + 1 } ∧
    SMap.get (fun _ => []) t.dev.look.replies conn =
      (let h := mgmtHeader (leBytes 2 status ++ out).length (type ||| 0x80) x.seqOut
       let c := gcmCrypt x.l2c x.seqOut (leBytes 2 status ++ out)
       h ++ c ++ leBytes 16 (Config.gcmTag x.l2c x.seqOut h c).toNat)

/-! Engines. -/

/-- Query `q` takes the place of the one with its number. -/
def withQuery (l : List Query) (q : Query) : List Query := l.map fun p => if p.seq = q.seq then q else p

/-- Registration `r` takes the place of the one with its number, and command `c` likewise. -/
def withReg (l : List TblReg) (r : TblReg) : List TblReg := l.map fun q => if q.id = r.id then r else q
def withCmd (l : List TblCmd) (c : TblCmd) : List TblCmd := l.map fun q => if q.id = c.id then c else q

/-! Panels. -/

/-- A MEM_MAP or MEM_HINT write for tent `n` is taken: none is in progress, and the tent's table is VALID and not RETAINED
(R243, R247, R248). -/
structure MapReady (s : State) (n : Nat) : Prop where
  tent : n < 64
  idle : s.flag rMemOpStatus fMemOpStatusBusy = false
  valid : s.flag (rMemPanelTableBase n) fMemPanelTableBaseValid = true
  current : s.flag (rMemPanelTableBase n) fMemPanelTableBaseRetained = false

/-- MEM_OP_STATUS reports a write of MEM_MAP or MEM_HINT that is over (R248). -/
def MapReports (t : State) (hint : Bool) (result done : Nat) : Prop :=
  t.flag rMemOpStatus fMemOpStatusBusy = false ∧ t.fld rMemOpStatus fMemOpStatusResult = result ∧
    t.flag rMemOpStatus fMemOpStatusFromHint = hint ∧ t.fld rMemOpStatus fMemOpStatusPanelsDone = done

/-- The leaf of a panel is there, or the pool has room for it (R242). -/
def LeafRoom (s : State) (n v : Nat) : Prop :=
  SMap.get (fun _ => 0) (s.table n).leaves (v / 4096) ≠ 0 ∨ s.poolUsed + 65536 ≤ s.poolSize

/-- No command waits for a migration that ends (R247, R271). -/
def NothingResumes (s : State) : Prop := s.dev.mem.unmapping = none ∧ s.dev.mem.retiring = none

/-! Admission. -/

/-- A fetched descriptor of one of the kinds 1 to 8 has been admitted under the next request number: its request, its accept
record, its ring and its ADMIT record (R312, R315, R327, R408). -/
structure Admitted (s t : State) (f : Fetched) : Prop where
  numbered : t.dev.adm.nextSeq = s.dev.adm.nextSeq + 1
  request : ∃ r, t.req s.dev.adm.nextSeq = some r ∧ r.seq = s.dev.adm.nextSeq ∧ r.kind = dKind f.bytes ∧
    r.tent = dTent f.bytes ∧ r.cls = dClass f.bytes ∧ r.desc = f.bytes ∧ r.legs = legsOf f.bytes ∧
    r.started = !legQueued ((legsOf f.bytes).headD 0) ∧ r.admitReq.island = islAdmit ∧ r.ended = none
  accept : ∃ a, t.dev.adm.accepts = s.dev.adm.accepts ++ [a] ∧ a.seq = s.dev.adm.nextSeq ∧ a.status = 0 ∧ a.cq = f.cq ∧
    a.slot = f.slot
  ring : ∀ k x, s.freeRing (dTent f.bytes) (dRing f.bytes) (dRingLog2 f.bytes) = some k → s.ring k = some x →
    t.ring k = some { x with bound := s.dev.adm.nextSeq, stalls := 0, stalled := none }
  journal : ∃ j, t.dev.jrnl.sent = s.dev.jrnl.sent ++ [j] ∧ j.req = s.dev.adm.nextSeq ∧ j.pay.kind = 1

/-- A descriptor has been rejected with a reason: its accept record waits, and no request has come of it (R314, R315). -/
def Rejected (s t : State) (f : Fetched) (reason : Nat) : Prop :=
  t.dev.adm.requests = s.dev.adm.requests ∧ ∃ a, t.dev.adm.accepts = s.dev.adm.accepts ++ [a] ∧ a.status = 0x30 ∧
    a.reason = reason ∧ a.cq = f.cq ∧ a.slot = f.slot

end Sys2Proof.Machine
end

