-- ==== Sys2Proof/Certificates/Slice0/Obligations.lean ====
section
/-! DEFINITION. The statements about the model, one a property of the commands, of the stores or of a step. -/

open Sys2Proof Sys2Proof.Machine

/-- For every state, crew and fields for which the instruction at the crew's PC passes its issue checks, each strand
integer instruction of 0x01 to 0x1A answers a next state in which the executing lanes' destination register holds the
operation of the lane's sources, poisoned where a source is, and nothing else of the block changes but the crew's
place and the event and engine counters. BFE and BFI complete for a field width of 1 to 32; of a field that runs past
bit 31 the result is a free value (log entry 8). -/
def Obligations.StrandIntegerResults : Prop :=
  StrandResult 0x01 .iadd (formVV 0) (fun _ => true) (fun f _ => onVV (fun a b => a + b) f) ∧
  StrandResult 0x02 .isub (formVV 0) (fun _ => true) (fun f _ => onVV (fun a b => a - b) f) ∧
  StrandResult 0x03 .imul (formVV 0) (fun _ => true) (fun f _ => onVV (fun a b => a * b) f) ∧
  StrandResult 0x04 .imulh (formVV 1) (fun _ => true) (fun f _ => onVV (mulHigh (f.func.getLsbD 0)) f) ∧
  StrandResult 0x05 .imad formVVV (fun _ => true) (fun f _ => onVVV (fun a b c => a * b + c) f) ∧
  StrandResult 0x06 .imin (formVV 1) (fun _ => true) (fun f _ => onVV (fun a b =>
    if (if f.func.getLsbD 0 then b.ult a else b.slt a) then b else a) f) ∧
  StrandResult 0x07 .imax (formVV 1) (fun _ => true) (fun f _ => onVV (fun a b =>
    if (if f.func.getLsbD 0 then a.ult b else a.slt b) then b else a) f) ∧
  StrandResult 0x08 .and (formVV 0) (fun _ => true) (fun f _ => onVV (fun a b => a &&& b) f) ∧
  StrandResult 0x09 .or (formVV 0) (fun _ => true) (fun f _ => onVV (fun a b => a ||| b) f) ∧
  StrandResult 0x0A .xor (formVV 0) (fun _ => true) (fun f _ => onVV (fun a b => a ^^^ b) f) ∧
  StrandResult 0x0B .andn (formVV 0) (fun _ => true) (fun f _ => onVV (fun a b => a &&& ~~~b) f) ∧
  StrandResult 0x0C .shl (formVV 0) (fun _ => true) (fun f _ => onVV (fun a b => a <<< (b.toNat % 32)) f) ∧
  StrandResult 0x0D .shr (formVV 1) (fun _ => true) (fun f _ => onVV (fun a b =>
    if f.func.getLsbD 0 then a.sshiftRight (b.toNat % 32) else a >>> (b.toNat % 32)) f) ∧
  StrandResult 0x0E .popc (formV 0) (fun _ => true) (fun f _ => onV (fun a => BitVec.ofNat 32 (popcount a)) f) ∧
  StrandResult 0x0F .clz (formV 0) (fun _ => true) (fun f _ => onV (fun a => BitVec.ofNat 32 (leadingZeros a)) f) ∧
  StrandResult 0x10 .iaddi (formV 0xFFFFFFF) (fun _ => true) (fun f _ => onV (fun a => a + f.func.signExtend 32) f) ∧
  StrandResult 0x11 .movi { func := 0xFFFFFFF } (fun _ => true) (fun f _ _ _ => ⟨f.func.signExtend 32, false⟩) ∧
  StrandResult 0x12 .movhi { func := 0xFFFF, dstRead := true } (fun _ => true) (fun f _ c l =>
    ⟨BitVec.ofNat 32 (f.func.toNat % 65536 * 65536 + (c.readV l f.dst.toNat).val.toNat % 65536),
      (c.readV l f.dst.toNat).poison⟩) ∧
  StrandResult 0x14 .sel { a := .v 1, b := .v 1, c := .p } (fun _ => true) (fun f _ c l =>
    let x := if (c.readP l f.srcc.toNat).val then c.readV l f.srca.toNat else c.readV l f.srcb.toNat
    ⟨x.val, (c.readV l f.srca.toNat).poison || (c.readV l f.srcb.toNat).poison || (c.readP l f.srcc.toNat).poison⟩) ∧
  StrandResult 0x16 .shfl (formVV 0) (fun _ => true) (fun f _ c l =>
    let b := c.readV l f.srcb.toNat
    let a := c.readV (b.val.toNat % 32) f.srca.toNat
    ⟨a.val, a.poison || b.poison⟩) ∧
  StrandResult 0x17 .vote { a := .p } (fun _ => true) (fun f _ c _ =>
    ⟨laneMask fun i => lane (c.executing f) i && (c.readP i f.srca.toNat).val,
      (lanes (c.executing f)).any fun i => (c.readP i f.srca.toNat).poison⟩) ∧
  StrandResult 0x18 .bfe (formV 0xFFF) fieldOk (fun f s c l =>
    ⟨if fieldIn f then extractField f (c.readV l f.srca.toNat).val else BitVec.ofNat 32 (s.laneFree l),
      (c.readV l f.srca.toNat).poison⟩) ∧
  StrandResult 0x19 .bfi (formVV 0x7FF) fieldOk (fun f s c l =>
    ⟨if fieldIn f then insertField f (c.readV l f.srca.toNat).val (c.readV l f.srcb.toNat).val
      else BitVec.ofNat 32 (s.laneFree l), (c.readV l f.srca.toNat).poison || (c.readV l f.srcb.toNat).poison⟩) ∧
  StrandResult 0x1A .movu { a := .u, func := 1 } (fun _ => true) (fun f _ c _ =>
    let a := c.readU f.srca.toNat
    ⟨if f.func.getLsbD 0 then (a.val >>> 32).truncate 32 else a.val.truncate 32, a.poison⟩)

/-- The same for the strand floating-point and conversion instructions 0x20 to 0x31 but FSETP. An approximation's
result is the one of its bound that a free value picks (R104). F2N and N2F complete for a format and an element
position that lie in the word. -/
def Obligations.StrandFloatResults : Prop :=
  StrandResult 0x20 .fadd (formVV 0) (fun _ => true) (fun f _ => onVV fadd f) ∧
  StrandResult 0x21 .fsub (formVV 0) (fun _ => true) (fun f _ => onVV fsub f) ∧
  StrandResult 0x22 .fmul (formVV 0) (fun _ => true) (fun f _ => onVV fmul f) ∧
  StrandResult 0x23 .ffma formVVV (fun _ => true) (fun f _ => onVVV ffma f) ∧
  StrandResult 0x24 .fmin (formVV 0) (fun _ => true) (fun f _ => onVV fmin f) ∧
  StrandResult 0x25 .fmax (formVV 0) (fun _ => true) (fun f _ => onVV fmax f) ∧
  StrandResult 0x27 .fabsneg (formV 3) (fun _ => true) (fun f _ => onV (fun a =>
    (if f.func.getLsbD 0 then a &&& 0x7FFFFFFF else a) ^^^ (if f.func.getLsbD 1 then 0x80000000 else 0)) f) ∧
  StrandResult 0x28 .frcp (formV 0) (fun _ => true) (fun f s c l => onV (frcp (s.laneFree l)) f c l) ∧
  StrandResult 0x29 .frsq (formV 0) (fun _ => true) (fun f s c l => onV (frsq (s.laneFree l)) f c l) ∧
  StrandResult 0x2A .fexp2 (formV 0) (fun _ => true) (fun f s c l => onV (fexp2 (s.laneFree l)) f c l) ∧
  StrandResult 0x2B .flog2 (formV 0) (fun _ => true) (fun f s c l => onV (flog2 (s.laneFree l)) f c l) ∧
  StrandResult 0x2C .ftanh (formV 0) (fun _ => true) (fun f s c l => onV (ftanh (s.laneFree l)) f c l) ∧
  StrandResult 0x2D .f2i (formV 1) (fun _ => true) (fun f _ => onV (f2i (f.func.getLsbD 0)) f) ∧
  StrandResult 0x2E .i2f (formV 1) (fun _ => true) (fun f _ => onV (i2f (f.func.getLsbD 0)) f) ∧
  StrandResult 0x2F .f2n { a := .v 1, func := 0x7F, dstRead := true } (fun f => (fmtOf (elemCode f)).isSome && elemOk f)
    (fun f s c l =>
      let fmt := (fmtOf (elemCode f)).getD f32
      ⟨putElem (c.readV l f.dst.toNat).val (elemStep fmt.width) fmt.width (elemPos f)
        (narrow fmt (s.laneFree l) (c.readV l f.srca.toNat).val),
        (c.readV l f.srca.toNat).poison || (c.readV l f.dst.toNat).poison⟩) ∧
  StrandResult 0x30 .n2f (formV 0x7F) elemOk (fun f _ c l =>
    let w := (elemWidth (elemCode f)).getD 8
    ⟨encode32 (elemVal (elemCode f) ((c.readV l f.srca.toNat).val.toNat / 2 ^ (elemStep w * elemPos f) % 2 ^ w)),
      (c.readV l f.srca.toNat).poison⟩) ∧
  StrandResult 0x31 .fclass (formV 0) (fun _ => true) (fun f _ => onV fclass f)

/-- ISETP, PLOP and FSETP, with a compare code of 0 to 5 for the compares, answer a next state in which the executing
lanes' destination predicate holds the result, poisoned where a source is; a write of p0 is ignored; nothing else of
the block changes but the crew's place and the counters. -/
def Obligations.PredicateResults : Prop :=
  PredicateResult 0x13 .isetp { a := .v 1, b := .v 1, func := 0xF } (fun f => decide (f.func.toNat % 8 ≤ 5)) (fun f c l =>
    ⟨cmpCode (f.func.toNat % 8) (wordCmp (f.func.getLsbD 3) (c.readV l f.srca.toNat).val (c.readV l f.srcb.toNat).val),
      (c.readV l f.srca.toNat).poison || (c.readV l f.srcb.toNat).poison⟩) ∧
  PredicateResult 0x26 .fsetp { a := .v 1, b := .v 1, func := 0xF } (fun f => decide (f.func.toNat % 8 ≤ 5)) (fun f c l =>
    ⟨fcompare (f.func.toNat % 8) (f.func.getLsbD 3) (c.readV l f.srca.toNat).val (c.readV l f.srcb.toNat).val,
      (c.readV l f.srca.toNat).poison || (c.readV l f.srcb.toNat).poison⟩) ∧
  PredicateResult 0x15 .plop { a := .p, b := .p, func := 3 } (fun _ => true) (fun f c l =>
    let x := (c.readP l f.srca.toNat).val
    let y := (c.readP l f.srcb.toNat).val
    ⟨(match f.func.toNat % 4 with
      | 0 => x && y
      | 1 => x || y
      | 2 => x != y
      | _ => x && !y), (c.readP l f.srca.toNat).poison || (c.readP l f.srcb.toNat).poison⟩)

/-- With at least one strand active, UADD, UADDI, UMOVI, ULUI, UMUL, USHIFT, UAND, UMOVV, TIME, CTR and BAYINFO answer
a next state in which the destination u register holds the result, the other u registers and every other part of the
crew are unchanged, and nothing else of the block changes but the counters. -/
def Obligations.UniformResults : Prop :=
  UniformResult 0x40 .uadd { a := .u, b := .u } (fun _ f _ c =>
    ⟨(c.readU f.srca.toNat).val + (c.readU f.srcb.toNat).val, (c.readU f.srca.toNat).poison || (c.readU f.srcb.toNat).poison⟩) ∧
  UniformResult 0x41 .uaddi { a := .u, func := 0xFFFFFFF } (fun _ f _ c =>
    ⟨(c.readU f.srca.toNat).val + f.func.signExtend 64, (c.readU f.srca.toNat).poison⟩) ∧
  UniformResult 0x42 .umovi { func := 0xFFFFFFF } (fun _ f _ _ => ⟨f.func.signExtend 64, false⟩) ∧
  UniformResult 0x43 .ului { func := 0xFFFFFFF, dstRead := true } (fun _ f _ c =>
    ⟨(BitVec.ofNat 56 (f.func.toNat * 2 ^ 28 + (c.readU f.dst.toNat).val.toNat % 2 ^ 28)).signExtend 64,
      (c.readU f.dst.toNat).poison⟩) ∧
  UniformResult 0x44 .umul { a := .u, b := .u } (fun _ f _ c =>
    ⟨(c.readU f.srca.toNat).val * (c.readU f.srcb.toNat).val, (c.readU f.srca.toNat).poison || (c.readU f.srcb.toNat).poison⟩) ∧
  UniformResult 0x45 .ushift { a := .u, func := 0x7F } (fun _ f _ c =>
    ⟨if f.func.getLsbD 6 then (c.readU f.srca.toNat).val >>> (f.func.toNat % 64)
      else (c.readU f.srca.toNat).val <<< (f.func.toNat % 64), (c.readU f.srca.toNat).poison⟩) ∧
  UniformResult 0x46 .uand { a := .u, b := .u } (fun _ f _ c =>
    ⟨(c.readU f.srca.toNat).val &&& (c.readU f.srcb.toNat).val, (c.readU f.srca.toNat).poison || (c.readU f.srcb.toNat).poison⟩) ∧
  UniformResult 0x47 .umovv { a := .v 1 } (fun _ f _ c =>
    ⟨(c.readV (lowestActive c) f.srca.toNat).val.zeroExtend 64, (c.readV (lowestActive c) f.srca.toNat).poison⟩) ∧
  UniformResult 0x71 .time {} (fun bay _ s _ => ⟨BitVec.ofNat 64 (s.copy (s.bayIsland bay)), false⟩) ∧
  UniformResult 0x72 .ctr { func := 7 } (fun bay f s _ => ⟨(s.issued bay).rd (rBayEvcValue bay f.func.toNat), false⟩) ∧
  UniformResult 0x73 .bayinfo {} (fun bay _ s _ => ⟨s.bayId bay, false⟩)

/-- NOP goes to the next word. BRA goes on where no strand takes it, to its target where all do, and otherwise pushes
an entry and runs those that took it. JMPU and RET go to the low 15 bits of an unpoisoned u register. LOOP decrements
an unpoisoned u register and branches while it is not zero. CALL writes the next address to a u register and goes to
its target. EXIT of all active strands with no path left makes the crew end, parked while operations are outstanding.
Each changes nothing else of the block but the counters. -/
def Obligations.FlowMovesCrew : Prop :=
  (∀ s bay slot f c, AtPc s bay slot 0x00 f none c → Issues s bay slot f { guarded := true } c →
    ∃ t, exec (.nop bay slot f) s = .next t ∧ CrewOnly s t bay slot ∧ t.crew bay slot = some (c.goto (c.pc + 1))) ∧
  (∀ s bay slot f c, AtPc s bay slot 0x48 f none c → Issues s bay slot f { func := 0xFFFFFFF, guarded := true } c →
    c.depth < 16 → ∃ t, exec (.bra bay slot f) s = .next t ∧ CrewOnly s t bay slot ∧
      t.crew bay slot = some (
        if c.executing f = 0 then c.goto (c.pc + 1)
        else if c.executing f = c.active then c.goto (pcPlus c.pc (sfield f 14 14))
        else ({ c with
          active := c.executing f
          stack := { reconv := c.pc + f.func.toNat % 2 ^ 14, fall := c.pc + 1, mask := c.active &&& ~~~c.executing f } :: c.stack
          } : Crew).goto (pcPlus c.pc (sfield f 14 14)))) ∧
  (∀ s bay slot f c, AtPc s bay slot 0x49 f none c → Issues s bay slot f { a := .u } c →
    (c.readU f.srca.toNat).poison = false →
    ∃ t, exec (.jmpu bay slot f) s = .next t ∧ CrewOnly s t bay slot ∧
      t.crew bay slot = some (c.goto ((c.readU f.srca.toNat).val.toNat % 32768))) ∧
  (∀ s bay slot f c, AtPc s bay slot 0x4C f none c → Issues s bay slot f { a := .u } c →
    (c.readU f.srca.toNat).poison = false →
    ∃ t, exec (.ret bay slot f) s = .next t ∧ CrewOnly s t bay slot ∧
      t.crew bay slot = some (c.goto ((c.readU f.srca.toNat).val.toNat % 32768))) ∧
  (∀ s bay slot f c, AtPc s bay slot 0x4A f none c → Issues s bay slot f { dst := .u, func := 0xFFFF, dstRead := true } c →
    (c.readU f.dst.toNat).poison = false →
    ∃ t, exec (.loop bay slot f) s = .next t ∧
      WritesU s t bay slot f c (if (c.readU f.dst.toNat).val - 1 = 0 then c.pc + 1 else pcPlus c.pc (sfield f 0 16))
        ⟨(c.readU f.dst.toNat).val - 1, false⟩) ∧
  (∀ s bay slot f c, AtPc s bay slot 0x4B f none c → Issues s bay slot f { dst := .u, func := 0xFFFF } c →
    ∃ t, exec (.call bay slot f) s = .next t ∧
      WritesU s t bay slot f c (pcPlus c.pc (sfield f 0 16)) ⟨BitVec.ofNat 64 (c.pc + 1), false⟩) ∧
  (∀ s bay slot f c, AtPc s bay slot 0x4D f none c → Issues s bay slot f { guarded := true } c →
    c.executing f = c.active → c.stack = [] →
    ∃ t, exec (.exit bay slot f) s = .next t ∧ CrewOnly s t bay slot ∧
      t.crew bay slot = some { c with
        active := 0, ended := c.ended ||| c.active, exiting := true, park := if c.ops = [] then .running else .drain })

/-- The slot is FUNC[7:0], and the value FUNC[27:9] zero-extended where FUNC[8] is 0 and ua[31:0] where it is 1.
EV.SIGNAL adds the value to the slot and EV.SET writes it; no other slot changes. After EV.WAIT the crew runs on where
the slot's counter minus the value, signed, is at or above zero, and is parked on the slot for that value otherwise.
The next word follows, and the stores are as before. -/
def Obligations.EventSlots : Prop :=
  (∀ s bay slot f c, AtPc s bay slot 0x60 f none c → Issues s bay slot f (eventForm f) c →
    ∃ t, exec (.evSignal bay slot f) s = .next t ∧ (t.bay bay).store = (s.bay bay).store ∧
      ∀ n, SMap.get (fun _ => {}) (t.bay bay).events n =
        let x := SMap.get (fun _ => {}) (s.bay bay).events n
        if n = f.func.toNat % 256 then ⟨x.data + (eventOperand f c).data, x.poison || (eventOperand f c).poison⟩ else x) ∧
  (∀ s bay slot f c, AtPc s bay slot 0x61 f none c → Issues s bay slot f (eventForm f) c →
    ∃ t, exec (.evSet bay slot f) s = .next t ∧ (t.bay bay).store = (s.bay bay).store ∧
      ∀ n, SMap.get (fun _ => {}) (t.bay bay).events n =
        if n = f.func.toNat % 256 then eventOperand f c else SMap.get (fun _ => {}) (s.bay bay).events n) ∧
  (∀ s bay slot f c, AtPc s bay slot 0x62 f none c → Issues s bay slot f (eventForm f) c →
    ∃ t d, exec (.evWait bay slot f) s = .next t ∧ (t.bay bay).store = (s.bay bay).store ∧
      (t.bay bay).events = (s.bay bay).events ∧ t.crew bay slot = some d ∧ c.movedTo d (c.pc + 1) ∧
      d.park = if 0 ≤ ((SMap.get (fun _ => {}) (s.bay bay).events (f.func.toNat % 256)).data - (eventOperand f c).data).toInt
        then .running else .event (f.func.toNat % 256) (eventOperand f c).data)

/-- FENCE.LOCAL lets the crew read the staged spans whose event has been signalled. FENCE.DEVICE parks it while an
earlier device-range access is not performed. FENCE.STAMP gives a tick above every earlier effect of the crew, and the
crew issues nothing before its bay's copy has reached it. PARK parks it while operations are outstanding, and YIELD
keeps it from being ready for four clocks. Nothing else of the block changes but the counters. -/
def Obligations.FencesParkYield : Prop :=
  (∀ s bay slot f c, AtPc s bay slot 0x63 f none c → Issues s bay slot f {} c →
    ∃ t, exec (.fenceLocal bay slot f) s = .next t ∧ CrewOnly s t bay slot ∧
      t.crew bay slot = some { c.goto (c.pc + 1) with
        spansSeen := c.spansSeen ++ (List.range 8).filter fun k =>
          ((SMap.get (fun _ => none) (s.bay bay).spans k).map Span.done).getD false }) ∧
  (∀ s bay slot f c, AtPc s bay slot 0x64 f none c → Issues s bay slot f {} c →
    ∃ t, exec (.fenceDevice bay slot f) s = .next t ∧ CrewOnly s t bay slot ∧
      t.crew bay slot = some (
        if s.deviceBusy bay slot c = true then
          { c.goto (c.pc + 1) with
            park := .drain, nextOp := c.nextOp + 1
            ops := c.ops ++ [({ id := c.nextOp, pc := c.pc, fence := true } : LongOp)] }
        else c.goto (c.pc + 1))) ∧
  (∀ s bay slot f c, AtPc s bay slot 0x65 f none c → Issues s bay slot f { dst := .u } c →
    ∃ t d, exec (.fenceStamp bay slot f) s = .next t ∧ CrewOnly s t bay slot ∧ t.crew bay slot = some d ∧
      d.readU f.dst.toNat = ⟨BitVec.ofNat 64 (max (s.stampTick (s.bayIsland bay)) c.lastEffect + 1), false⟩ ∧
      s.stampTick (s.bayIsland bay) < d.notBefore ∧ c.lastEffect < d.notBefore) ∧
  (∀ s bay slot f c, AtPc s bay slot 0x66 f none c → Issues s bay slot f {} c →
    ∃ t, exec (.park bay slot f) s = .next t ∧ CrewOnly s t bay slot ∧
      t.crew bay slot = some { c.goto (c.pc + 1) with park := if c.ops = [] then c.park else .drain }) ∧
  (∀ s bay slot f c, AtPc s bay slot 0x67 f none c → Issues s bay slot f {} c →
    ∃ t, exec (.yield bay slot f) s = .next t ∧ CrewOnly s t bay slot ∧
      t.crew bay slot = some { c.goto (c.pc + 1) with notBefore := s.copy (s.bayIsland bay) + 5 })

/-- A BRA that some but not all active strands take adds one entry where the stack holds fewer than 16, so that up to
16 entries are held, and at a depth of 16 traps with cause RECONV_OVERFLOW (0x04), its crew as it was. -/
def Obligations.DivergentBranchDepth : Prop :=
  ∀ s bay slot f c, AtPc s bay slot 0x48 f none c → Issues s bay slot f { func := 0xFFFFFFF, guarded := true } c →
    slot < 256 → c.executing f ≠ 0 → c.executing f ≠ c.active →
    (c.depth < 16 → pcPlus c.pc (sfield f 14 14) ≠ c.pc + f.func.toNat % 2 ^ 14 →
      ∃ t d, exec (.bra bay slot f) s = .next t ∧ t.crew bay slot = some d ∧ d.depth = c.depth + 1 ∧
        d.active = c.executing f) ∧
    (16 ≤ c.depth → ∃ t, exec (.bra bay slot f) s = .next t ∧ Trapped s t bay slot c 0x04 c.active 0)

/-- TRAP with cause SOFTWARE and BRK with cause BREAKPOINT, each with its code as detail, and a word whose major
opcode the tables do not list with cause ILLEGAL_OPCODE, answer a next state in which the crew has trapped and stands
where it was, the trap queue of its die has gained a record with the PC, the cause, the crew slot and the active
lanes, and BAY_TRAP counts it. -/
def Obligations.TrapsStopCrew : Prop :=
  (∀ s bay slot f c, AtPc s bay slot 0x70 f none c → Issues s bay slot f { func := 0xFFFF } c → slot < 256 →
    ∃ t, exec (.trap bay slot f) s = .next t ∧ Trapped s t bay slot c 0x0F c.active (BitVec.ofNat 64 f.func.toNat)) ∧
  (∀ s bay slot f c, AtPc s bay slot 0x75 f none c → Issues s bay slot f { func := 0xFFFF } c → slot < 256 →
    ∃ t, exec (.brk bay slot f) s = .next t ∧ Trapped s t bay slot c 0x10 c.active (BitVec.ofNat 64 f.func.toNat)) ∧
  (∀ s bay slot c, s.crew bay slot = some c → slot < 256 → s.canIssue bay c = true → c.pc ≤ 32767 →
    (s.bay bay).writingWord c.pc = false → ((s.bay bay).fetch c.pc).2 = false →
    instrAt bay slot ((s.bay bay).fetch c.pc).1 0 = none →
    ∃ t, exec (.illegalOpcode bay slot) s = .next t ∧ Trapped s t bay slot c 0x01 c.active 0)

/-- Where the trace unit passes a TRACEPOINT event of the bay's tent and no seal hides it, TRACE answers a next state
in which the event, with the point of FUNC and the u register as ARG1, is on its way to the trace unit and the crew
stands at the next word. With an aligned, unpoisoned address in range, a valid descriptor there and a free entry,
LAUNCH answers a next state in which the descriptor is the last of the bay's launch queue, the crew stands at the next
word, and the bay's stores are unchanged. -/
def Obligations.TraceAndLaunch : Prop :=
  (∀ s bay slot f c, AtPc s bay slot 0x74 f none c → Issues s bay slot f { a := .u, func := 0xFFFF } c →
    let isl := s.bayIsland bay
    let tent := (s.bay bay).tent.getD 0xFF
    s.sealedHidden tent 2 (s.stampTick isl) = false → s.traced 0x80 tent (s.stampTick isl) = true →
    ∃ t, exec (.trace bay slot f) s = .next t ∧
      t.dev.obs.events = s.dev.obs.events ++
        [⟨(s.originate isl).1, 0x80, tent, 0, f.func.toNat % 2 ^ 32, (c.readU f.srca.toNat).val.toNat⟩] ∧
      t.crew bay slot = some (c.goto (c.pc + 1))) ∧
  (∀ s bay slot f c d, AtPc s bay slot 0x4E f none c → Issues s bay slot f { a := .u } c →
    (c.readU f.srca.toNat).poison = false → (c.readU f.srca.toNat).val.toNat % 8 = 0 →
    (c.readU f.srca.toNat).val.toNat + 136 ≤ s.bayEnd bay →
    (s.bay bay).store.poisoned (c.readU f.srca.toNat).val.toNat 8 = false →
    readLaunch (s.bay bay).store (c.readU f.srca.toNat).val.toNat c.request c.rank = some d →
    (s.bay bay).launchq.length < 16 →
    ∃ t, exec (.launch bay slot f) s = .next t ∧ (t.bay bay).launchq = (s.bay bay).launchq ++ [d] ∧
      t.crew bay slot = some (c.goto (c.pc + 1)) ∧ (t.bay bay).store = (s.bay bay).store ∧
      (t.bay bay).acc = (s.bay bay).acc ∧ (t.bay bay).events = (s.bay bay).events)

/-- With the address of every executing lane aligned, in range and unpoisoned, LOAD_LOCAL and LOAD_ACC answer a next
state in which each executing lane's register or register group holds the bytes at its address, extended as the size
code says, with their poison. No other register, crew, bay or store changes. With the address of every executing lane
aligned, in range and unpoisoned, STORE_LOCAL and STORE_ACC answer a next state in which a lane whose bytes no other
lane writes has its data at its address. Every byte outside the lanes' addresses, the other store, every register and
every other crew and bay is as before. -/
def Obligations.LocalAccesses : Prop :=
  (LoadResult 0x50 .loadLocal false ∧ LoadResult 0x52 .loadAcc true) ∧
  (StoreResult 0x51 .storeLocal false ∧ StoreResult 0x53 .storeAcc true)

/-- With every executing lane's address aligned, in range and unpoisoned and an operation that the bay store has,
ATOM_LOCAL answers a next state in which the word of a lane whose address no other lane names holds the new value, the
lane's destination holds the old one unless NORET is set, and every byte of the bay store outside the lanes' words is
as before. -/
def Obligations.LocalAtomics : Prop :=
  ∀ s bay slot f c, AtPc s bay slot 0x57 f none c → Issues s bay slot f (atomForm f 0x2F) c →
    atomOk f = true → atomOp f ≠ 8 → atomOp f ≠ 9 → atomPoison c f (c.executing f) = 0 →
    (∀ l, l < 32 → lane (c.executing f) l = true → localCause (s.bayEnd bay) (atomAddr c f l) 4 = none) →
    ∃ t d, exec (.atomLocal bay slot f) s = .next t ∧ t.crew bay slot = some d ∧ c.movedTo d (c.pc + 1) ∧
      (t.bay bay).acc = (s.bay bay).acc ∧ (∀ j, j ≠ slot → t.crew bay j = s.crew bay j) ∧
      (∀ b, b ≠ bay → t.bay b = s.bay b) ∧
      (∀ a, (∀ l, l < 32 → lane (c.executing f) l = true → ¬ within a (atomAddr c f l) 4) →
        (t.bay bay).store.byte a = (s.bay bay).store.byte a) ∧
      ∀ l, l < 32 → lane (c.executing f) l = true →
        (∀ k, k < 32 → lane (c.executing f) k = true → k ≠ l → atomAddr c f k ≠ atomAddr c f l) →
        (t.bay bay).store.num (atomAddr c f l) 4 =
          atomNew (atomOp f) 32 ((s.bay bay).store.num (atomAddr c f l) 4) (c.readV l f.srcc.toNat).val.toNat 0 ∧
        d.readV l f.dst.toNat =
          if atomNoret f then c.readV l f.dst.toNat
          else ⟨BitVec.ofNat 32 ((s.bay bay).store.num (atomAddr c f l) 4),
            (s.bay bay).store.poisoned (atomAddr c f l) 4⟩

/-- TR.SHAPE, TR.WLOAD, TR.SWAP, TR.RUN, TR.CMP, TR.ACCZ and TR.SYNC join the end of the bay's truss queue, with the
values their u registers hold at issue, where the second word passes the form's checks, no u register it uses is
poisoned and the queue holds fewer than 8. The crew goes on past both words, and no store, event or other crew
changes. DMA.LOAD, STORE, COPY, SCARF, UNSCARF and FILL join the queue of the channel that the second word names, and
SEL.TOPK, SEL.HIST, SEL.EMIT and MERGE the select queue, where their second word passes its checks, no u register they
use is poisoned and the queue has room. The crew goes on past both words, and no store, event or other crew changes.
-/
def Obligations.LongFormsQueue : Prop :=
  (LongQueued 0x80 .trShape {} (fun _ _ => []) (trussForms fun _ _ => true) trussQueue 8 ∧
  LongQueued 0x81 .trWload { a := .u, b := .u }
    (fun f w => f.srca.toNat :: (if wMx w then [f.srcb.toNat] else []))
    (trussForms fun w _ => weightOk (wFmtW w) (wMx w)) trussQueue 8 ∧
  LongQueued 0x82 .trSwap {} (fun _ _ => []) (trussForms fun _ _ => true) trussQueue 8 ∧
  LongQueued 0x83 .trRun { a := .u, b := .u } (fun f _ => [f.srca.toNat, f.srcb.toNat])
    (trussForms fun w b => pairOk w && wMode w != 3 && countOk w && (!halfTile b.issueShape w || decide (wCount w ≤ 16)))
    trussQueue 8 ∧
  LongQueued 0x84 .trCmp { a := .u, b := .u, c := .u } (fun f _ => [f.srca.toNat, f.srcb.toNat, f.srcc.toNat])
    (trussForms fun w b => pairOk w && countOk w && !halfTile b.issueShape w) trussQueue 8 ∧
  LongQueued 0x85 .trAccz { b := .u } (fun f _ => [f.srcb.toNat]) (trussForms fun w _ => countOk w) trussQueue 8 ∧
  LongQueued 0x86 .trSync {} (fun _ _ => []) (trussForms fun _ _ => true) trussQueue 8) ∧
  (LongQueued 0x90 .dmaLoad { a := .u, b := .u } (fun f _ => [f.srca.toNat, f.srcb.toNat]) dmaForms dmaQueue 16 ∧
  LongQueued 0x91 .dmaStore { a := .u, b := .u } (fun f _ => [f.srca.toNat, f.srcb.toNat]) dmaForms dmaQueue 16 ∧
  LongQueued 0x92 .dmaCopy { a := .u, b := .u } (fun f _ => [f.srca.toNat, f.srcb.toNat]) dmaForms dmaQueue 16 ∧
  LongQueued 0x93 .dmaScarf { a := .u, b := .u, c := .u } (fun f _ => [f.srca.toNat, f.srcb.toNat, f.srcc.toNat])
    dmaForms dmaQueue 16 ∧
  LongQueued 0x94 .dmaUnscarf { a := .u, b := .u, c := .u } (fun f _ => [f.srca.toNat, f.srcb.toNat, f.srcc.toNat])
    dmaForms dmaQueue 16 ∧
  LongQueued 0x95 .dmaFill { a := .u, c := .u } (fun f _ => [f.srca.toNat, f.srcc.toNat]) dmaForms dmaQueue 16 ∧
  LongQueued 0x98 .selTopk { a := .u, b := .u, c := .u } (fun f _ => [f.srca.toNat, f.srcb.toNat, f.srcc.toNat])
    (fun d _ => selFields d.w2 && selArrays d.w2 d.a.toNat d.b.toNat true d.c.toNat (listBytes (sK d.w2))) selQueue 4 ∧
  LongQueued 0x99 .selHist { a := .u, b := .u, c := .u, func := 3 }
    (fun f _ => [f.srca.toNat, f.srcb.toNat, f.srcc.toNat])
    (fun d _ => decide (sKeyType d.w2 ≤ 6) && w2f d.w2 14 1 == 0 && decide (8 * d.func < keyWidth (sKeyType d.w2)) &&
      d.b.toNat % 2 ^ (32 - 8 * d.func) == 0 && d.c.toNat % 64 == 0 && selArrays d.w2 d.a.toNat 0 false d.c.toNat 2112)
    selQueue 4 ∧
  LongQueued 0x9A .selEmit { dst := .u, a := .u, b := .u, c := .u }
    (fun f _ => [f.dst.toNat, f.srca.toNat, f.srcb.toNat, f.srcc.toNat])
    (fun d _ => selFields d.w2 && selArrays d.w2 d.a.toNat d.d.toNat true d.c.toNat 64) selQueue 4 ∧
  LongQueued 0x9B .merge { a := .u, b := .u, c := .u } (fun f _ => [f.srca.toNat, f.srcb.toNat, f.srcc.toNat])
    (fun d _ => selFields d.w2 && decide (d.c.toNat + listBytes (sK d.w2) ≤ bayStoreSize)) selQueue 4)

/-- With its checks passed, fewer than eight operations outstanding and room in the request table, LOAD_DEV on an
address that no staged span serves, ATOM_DEV without NORET, FLASH_READ, REMOTE_GET, REMOTE_PUT, REMOTE_LOAD and
REMOTE_ATOM answer a next state in which the crew stands at the next word with one more outstanding operation, its
registers and the bay store as they were, and every other crew and bay unchanged. STORE_DEV of aligned, unpoisoned
addresses answers a next state in which the crew stands at the next word with its registers as they were. Every HBM
byte outside the physical addresses of the executing lanes is as before, and where one lane executes and its panel is
resident its bytes hold its data. -/
def Obligations.DeviceAndRemoteAccesses : Prop :=
  (LongBegins 0x54 .loadDev (mForm · false) (fun s bay f c => mCodeOk f false false = true ∧
      mPoison c f (c.executing f) = 0 ∧
      (∀ l, l < 32 → lane (c.executing f) l = true → mAddr c f l % mBytes f = 0) ∧
      ∃ l, l < 32 ∧ lane (c.executing f) l = true ∧ (s.bay bay).spanFor c (mAddr c f l) (mBytes f) = none)
    (fun s bay f c => ((lanes (c.executing f)).filter fun l =>
      ((s.bay bay).spanFor c (mAddr c f l) (mBytes f)).isNone).length) ∧
  LongBegins 0x56 .atomDev (atomForm · 0x3F) (fun _ _ f c => atomOk f = true ∧ atomNoret f = false ∧
      atomPoison c f (c.executing f) = 0 ∧
      ∀ l, l < 32 → lane (c.executing f) l = true → atomAddr c f l % atomBytes f = 0)
    (fun _ _ f c => (lanes (c.executing f)).length) ∧
  LongBegins 0x58 .flashRead (fun _ => { a := .u, b := .u, func := 0x1FF }) (fun s bay f c =>
      (c.readU f.srca.toNat).poison = false ∧ (c.readU f.srcb.toNat).poison = false ∧
      (c.readU f.srca.toNat).val.toNat % 4096 = 0 ∧ (c.readU f.srcb.toNat).val.toNat % 4096 = 0 ∧
      (c.readU f.srcb.toNat).val.toNat + 4096 ≤ s.bayEnd bay) (fun _ _ _ _ => 64) ∧
  LongBegins 0x69 .remoteGet (fun _ => copyForm) copyPasses (fun _ _ f _ => min (fn f % 65536) 4096) ∧
  LongBegins 0x6A .remotePut (fun _ => copyForm) copyPasses (fun _ _ f _ => min (fn f % 65536) 4096) ∧
  LongBegins 0x6B .remoteLoad
    (fun f => { dst := .v ((if fn f % 8 = 3 then 8 else 4) / 4), a := .u, b := .v 1, func := 0xFFF07, guarded := true })
    (fun _ _ f c => (fn f % 8 = 2 ∨ fn f % 8 = 3) ∧ atomPoison c f (c.executing f) = 0 ∧
      ∀ l, l < 32 → lane (c.executing f) l = true → atomAddr c f l % (if fn f % 8 = 3 then 8 else 4) = 0)
    (fun _ _ f c => (lanes (c.executing f)).length) ∧
  LongBegins 0x6C .remoteAtom (atomForm · 0xFFF3F) (fun s _ f c => atomOk f = true ∧
      atomPoison c f (c.executing f) = 0 ∧ (remoteDevice f = s.deviceNum ∨ remotePoison c f (c.executing f) = 0) ∧
      ∀ l, l < 32 → lane (c.executing f) l = true → atomAddr c f l % atomBytes f = 0)
    (fun _ _ f c => (lanes (c.executing f)).length)) ∧
  (∀ s bay slot f c, AtPc s bay slot 0x55 f none c → Issues s bay slot f (mForm f true) c → slot < 256 →
    s.bayTent bay < 64 → mCodeOk f true false = true → mPoison c f (c.executing f) = 0 →
    (∀ l, l < 32 → lane (c.executing f) l = true → mAddr c f l % mBytes f = 0) →
    ∃ t d, exec (.storeDev bay slot f) s = .next t ∧ t.crew bay slot = some d ∧ c.movedTo d (c.pc + 1) ∧ d.v = c.v ∧
      (t.bay bay).store = (s.bay bay).store ∧
      (∀ x, (∀ l, l < 32 → lane (c.executing f) l = true →
          ¬ within x (s.physAddr (s.bayTent bay) (mAddr c f l)) (mBytes f)) →
        t.dev.mem.hbm.byte x = s.dev.mem.hbm.byte x) ∧
      ∀ l, lanes (c.executing f) = [l] → s.served (s.bayTent bay) (mAddr c f l) (mBytes f) = .hbm →
        t.dev.mem.hbm.num (s.physAddr (s.bayTent bay) (mAddr c f l)) (mBytes f) =
          (groupData c f.srcc.toNat (mGroup f) l).1 % 2 ^ (8 * mBytes f))

/-- MSG_SEND of 1 to 64 bytes to a bay of its tent on this package puts the message, with the bytes of the bay store,
at the end of the coupler path to that bay. MESSAGE_DELIVER takes the oldest message at a bay of its tent, writes its
bytes to the bay store, and adds 1 to the slot it names. SPAN_CLEAR leaves its span entry empty and every other entry
as it was. -/
def Obligations.Messages : Prop :=
  (∀ s bay slot f c, AtPc s bay slot 0x68 f none c → Issues s bay slot f { a := .u, b := .u, c := .u, func := 0x7F } c →
    1 ≤ fn f → fn f ≤ 64 → (c.readU f.srca.toNat).poison = false → (c.readU f.srcb.toNat).poison = false →
    (c.readU f.srcc.toNat).poison = false → (c.readU f.srca.toNat).val.toNat + fn f ≤ s.bayEnd bay →
    let b := (c.readU f.srcb.toNat).val
    let isl := s.bayIsland bay
    let to_ := s.bayIsland (getBits b 0 8)
    getBits b 8 12 = s.deviceNum → (s.bay (getBits b 0 8)).tent = (s.bay bay).tent →
    ∃ t m, exec (.msgSend bay slot f) s = .next t ∧ t.coupler isl to_ = s.coupler isl to_ ++ [m] ∧
      m.kind = .message (c.readU f.srcc.toNat).val.toNat (getBits b 20 8) ∧ m.bytes = fn f ∧
      m.payload = wordsOf ((s.bay bay).store.read (c.readU f.srca.toNat).val.toNat (fn f))
        ((s.bay bay).store.poisoned (c.readU f.srca.toNat).val.toNat (fn f)) ∧
      (t.bay bay).store = (s.bay bay).store) ∧
  (∀ s bay m a e is, takeMessage (s.inboxOf (s.bayIsland bay)) = some (m, a, e, is) →
    s.heldByFreeze (s.bayIsland bay) = false → (s.bay bay).tent = some m.tent →
    ∃ t, exec (.messageDeliver bay) s = .next t ∧ t.inboxOf (s.bayIsland bay) = is ∧
      (t.bay bay).store = (s.bay bay).store.write a ((payloadBytes m.bytes m.payload).take (bayStoreSize - a))
        (m.payload.any (·.poison)) ∧
      (SMap.get (fun _ => {}) (t.bay bay).events e).data = (SMap.get (fun _ => {}) (s.bay bay).events e).data + 1) ∧
  (∀ s bay slot f c, AtPc s bay slot 0x59 f none c → Issues s bay slot f { func := 7 } c →
    ∃ t, exec (.spanClear bay slot f) s = .next t ∧ (t.bay bay).store = (s.bay bay).store ∧
      ∀ k, SMap.get (fun _ => none) (t.bay bay).spans k =
        if k = fn f then none else SMap.get (fun _ => none) (s.bay bay).spans k)

/-- With nothing armed for injection and no freeze, the oldest truss form and the oldest select form run on the bay's
stores, leave their queue, and add 1 to the slot they name. A DMA descriptor that moves whole leaves its channel. One
that faults halts its channel unsignalled and shows in BAY_DMA_FAULT. RESUME drops the halted descriptor, and FLUSH
empties the channel. -/
def Obligations.UnitFormsComplete : Prop :=
  (∀ s bay d ds, s.blocked (s.bayIsland bay) = false → s.unarmed = true → (s.bay bay).truss.queue = d :: ds →
    ∃ t, exec (.trussFormComplete bay) s = .next t ∧ (t.bay bay).truss.queue = ds ∧
      (t.bay bay).truss = { ((s.bay bay).trussForm (s.bay bay).store s.free d).truss with queue := ds } ∧
      (t.bay bay).acc = ((s.bay bay).trussForm (s.bay bay).store s.free d).acc ∧
      (t.bay bay).store = ((s.bay bay).trussForm (s.bay bay).store s.free d).store ∧
      ∀ n, w2slot d.w2 = some n → (SMap.get (fun _ => {}) (t.bay bay).events n).data =
        (SMap.get (fun _ => {}) (s.bay bay).events n).data + 1) ∧
  (∀ s bay d ds, s.blocked (s.bayIsland bay) = false → s.unarmed = true → (s.bay bay).selq = d :: ds →
    ∃ t, exec (.selectFormComplete bay) s = .next t ∧ (t.bay bay).selq = ds ∧
      (t.bay bay).store = ((s.bay bay).selForm (s.bay bay).store s.free d).store ∧ (t.bay bay).acc = (s.bay bay).acc ∧
      ∀ n, w2slot d.w2 = some n → (SMap.get (fun _ => {}) (t.bay bay).events n).data =
        (SMap.get (fun _ => {}) (s.bay bay).events n).data + 1) ∧
  (∀ s bay ch d, s.dmaFront bay ch = some d → (s.dmaRun bay d).1 = .done →
    ∃ t, exec (.dmaDescriptorComplete bay ch) s = .next t ∧
      (t.bay bay).chan ch = (((s.dmaRun bay d).2.bay bay).chan ch).pop ∧
      (t.bay bay).store = ((s.dmaRun bay d).2.bay bay).store ∧ (t.bay bay).acc = ((s.dmaRun bay d).2.bay bay).acc ∧
      t.dev.mem = (s.dmaRun bay d).2.dev.mem) ∧
  (∀ s bay ch d k, s.dmaFront bay ch = some d → (s.dmaRun bay d).1 = .fault k → d.request = 0 →
    ∃ t, exec (.dmaFault bay ch) s = .next t ∧ ((t.bay bay).chan ch).halted = true ∧ (t.bay bay).dmaLast = ch ∧
      (t.bay bay).dmaCause = k ∧ (t.bay bay).events = ((s.dmaRun bay d).2.bay bay).events) ∧
  (∀ s bay ch, ((s.bay bay).chan ch).halted = true →
    ∃ t, exec (.dmaResume bay ch) s = .next t ∧
      (t.bay bay).chan ch = { ((s.bay bay).chan ch).pop with halted := false } ∧
      (t.bay bay).events = (s.bay bay).events ∧ (∀ k, k ≠ ch → (t.bay bay).chan k = (s.bay bay).chan k)) ∧
  (∀ s bay ch, ∃ t, exec (.dmaFlush bay ch) s = .next t ∧ ((t.bay bay).chan ch).queue = [] ∧
      ((t.bay bay).chan ch).halted = false ∧ (t.bay bay).events = (s.bay bay).events ∧
      ∀ k, k ≠ ch → (t.bay bay).chan k = (s.bay bay).chan k)

/-- SMP_FEED on a context that is not closed and SMP_DRAFT add a feed with the position, the first token and the block
of logits that the accumulator store holds to the bay's slice of the context, and SMP_CLOSE closes it. -/
def Obligations.SamplerSlices : Prop :=
  (∀ s bay slot f w2 c, AtPc s bay slot 0xA0 f (some w2) c → Issues s bay slot f smpForm c → smpFields w2 = true →
    (c.readU f.srca.toNat).poison = false → (c.readU f.srcb.toNat).poison = false →
    (c.readU f.srcc.toNat).poison = false → (s.slice bay (c.readU f.srca.toNat).val.toNat).closed = false →
    ∃ t x, exec (.smpFeed bay slot f w2) s = .next t ∧
      t.slice bay (c.readU f.srca.toNat).val.toNat = { s.slice bay (c.readU f.srca.toNat).val.toNat with
        feeds := (s.slice bay (c.readU f.srca.toNat).val.toNat).feeds ++ [x] } ∧
      x.position = w2f w2 26 4 ∧ x.first = (c.readU f.srcc.toNat).val.toNat ∧ x.draft = false ∧
      x.logits = s.logitBlock bay (longFormOf 0xA0 slot f w2 c)) ∧
  (∀ s bay slot f w2 c, AtPc s bay slot 0xA2 f (some w2) c → Issues s bay slot f smpForm c → smpFields w2 = true →
    (c.readU f.srca.toNat).poison = false → (c.readU f.srcb.toNat).poison = false →
    (c.readU f.srcc.toNat).poison = false →
    ∃ t x, exec (.smpDraft bay slot f w2) s = .next t ∧
      t.slice bay (c.readU f.srca.toNat).val.toNat = { s.slice bay (c.readU f.srca.toNat).val.toNat with
        feeds := (s.slice bay (c.readU f.srca.toNat).val.toNat).feeds ++ [x] } ∧
      x.position = w2f w2 26 4 ∧ x.first = (c.readU f.srcc.toNat).val.toNat ∧ x.draft = true ∧
      x.logits = s.logitBlock bay (longFormOf 0xA2 slot f w2 c)) ∧
  (∀ s bay slot f w2 c, AtPc s bay slot 0xA1 f (some w2) c → Issues s bay slot f smpForm c → smpFields w2 = true →
    (c.readU f.srca.toNat).poison = false →
    ∃ t, exec (.smpClose bay slot f w2) s = .next t ∧
      t.slice bay (c.readU f.srca.toNat).val.toNat =
        { s.slice bay (c.readU f.srca.toNat).val.toNat with closed := true })

/-- CREW_LAUNCH takes the head of the launch queue into a free slot with room. CREW_END frees the slot of a crew that
has ended. A reply that lands fills its operation's registers and bytes of the bay store, or traps the crew.
CREW_PREEMPT moves the crew to those saved, and CREW_RESTORE brings a saved crew back. BAY_RESET leaves the bay as its
reset does. -/
def Obligations.CrewLifecycle : Prop :=
  (∀ s bay slot d ds, (s.bay bay).launchq = d :: ds → (s.bay bay).canLaunch d slot = true → (s.bay bay).gated = false →
    (s.bay bay).resetDue = false → s.blocked (s.bayIsland bay) = false →
    ∃ t, exec (.crewLaunch bay slot) s = .next t ∧ (t.bay bay).launchq = ds ∧
      t.crew bay slot = some { newCrew d slot with launchNo := (s.bay bay).launches } ∧
      (t.bay bay).store = (s.bay bay).store) ∧
  (∀ s bay slot c, s.crew bay slot = some c → c.exiting = true → c.ops = [] → s.blocked (s.bayIsland bay) = false →
    ∃ t, exec (.crewEnd bay slot) s = .next t ∧ t.crew bay slot = none ∧ (t.bay bay).store = (s.bay bay).store ∧
      ∀ n, c.endSlot = some n → (SMap.get (fun _ => {}) (t.bay bay).events n).data =
        (SMap.get (fun _ => {}) (s.bay bay).events n).data + 1) ∧
  (∀ s bay slot id c o, s.crew bay slot = some c → s.heldLanding bay = false →
    (c.ops.find? fun o => o.id == id && s.opReady bay slot c o) = some o → o.trap = none →
    ∃ t d, exec (.longLatencyReplyLand bay slot id) s = .next t ∧ t.crew bay slot = some d ∧ d.v = (c.land o).v ∧
      d.ops = c.ops.filter (fun q => q.id ≠ o.id) ∧
      (t.bay bay).store =
        if o.bytes = [] then (s.bay bay).store else (s.bay bay).store.write o.addr o.bytes o.poisoned) ∧
  (∀ s bay slot id c o k m x, s.crew bay slot = some c → s.heldLanding bay = false → slot < 256 →
    (c.ops.find? fun o => o.id == id && s.opReady bay slot c o) = some o → o.trap = some (k, m, x) →
    ∃ t, exec (.longLatencyReplyLand bay slot id) s = .next t ∧
      t.crew bay slot = some { c.land o with trapped := true } ∧ (t.bay bay).store = (s.bay bay).store) ∧
  (∀ s bay slot c n p, s.crew bay slot = some c → (s.bay bay).tent = some n → s.preemptee bay slot c = true →
    s.blocked (s.bayIsland bay) = false → s.saveContext bay n (contextBytes c.count) = some p →
    ∃ t x, exec (.crewPreempt bay slot) s = .next t ∧ t.crew bay slot = none ∧ t.dev.saved = p.2.dev.saved ++ [x] ∧
      x.crew = c ∧ x.bay = bay ∧ x.tent = n) ∧
  (∀ s k slot x, s.dev.saved.find? (·.token == k) = some x → slot < 256 → x.crew.held = none →
    s.crew x.bay slot = none → (s.bay x.bay).regsUsed + footprint x.crew.count ≤ 1024 →
    (s.bay x.bay).resetDue = false → s.blocked (s.bayIsland x.bay) = false →
    ∃ t, exec (.crewRestore k slot) s = .next t ∧ t.crew x.bay slot = some x.crew ∧
      t.dev.saved = s.dev.saved.filter (·.token != k)) ∧
  (∀ s bay, (s.bay bay).resetDue = true →
    ∃ t o, exec (.bayReset bay) s = .next t ∧ t.bay bay = (s.bay bay).fresh o ∧ (t.bay bay).store = {} ∧
      ∀ b, b ≠ bay → t.bay b = s.bay b)

/-- A malformed access is logged as a PROTOCOL error that names the offset; a read of it returns all ones and a write
stores nothing. A write to a register that has no guard of its own follows the access codes of its fields and touches
no other register. DUMP_GO while FROZEN writes the dump to the host region and sets DONE. A received Ethernet frame
with a bad FCS is logged, a good one is not, and a transmitted frame that holds poison counts as sent with a bad FCS.
-/
def Obligations.ControlWindow : Prop :=
  (∀ s off size write, ¬ (off % 8 = 0 ∧ size = 8) →
    ∃ t r, exec (.malformedControlAccess off size write) s = .next t ∧ t.dev.ras.arrived = s.dev.ras.arrived ++ [r] ∧
      r.detector = 0x1100 ∧ r.detail = 1 ∧ r.address = off ∧
      (write = false → t.dev.portData = 0xFFFFFFFFFFFFFFFF) ∧ (s.unarmed = true → ∀ o, t.rd o = s.rd o)) ∧
  (∀ s off v r i j, s.writable off = some (r, i, j) → rowedWrite r.base v = false → r.base ∉ guardedBases →
    ∃ t, exec (.registerWrite off v) s = .next t ∧ t.rd off = fieldsWritten r.flds (s.rd off) v ∧
      (∀ o, o ≠ off → t.rd o = s.rd o) ∧ t.ao = s.ao ∧ t.nv = s.nv ∧ t.dev.mem = s.dev.mem) ∧
  (∀ s, s.freezeState = 3 → (s.rd rTimeDumpBase).toNat % 64 = 0 →
    s.inHost (s.rd rTimeDumpBase).toNat (64 * s.heldCount) = true →
    ∃ t, exec .dumpGo s = .next t ∧ t.flag rTimeDumpCtl fTimeDumpCtlDone = true ∧
      t.dev.mem.host = s.dev.mem.host.write (s.rd rTimeDumpBase).toNat
        s.dumpRecords.flatten) ∧
  (∀ s port fec, s.hasEth port = true →
    ∃ t r, exec (.ethernetFrameReceive port fec false) s = .next t ∧ t.dev.ras.arrived = s.dev.ras.arrived ++ [r] ∧
      r.detector = 0x0B00 ∧ r.severity = 1) ∧
  (∀ s port, s.hasEth port = true → s.unarmed = true →
    ∃ t, exec (.ethernetFrameReceive port false true) s = .next t ∧ t.dev.ras = s.dev.ras ∧ t.dev.mem = s.dev.mem) ∧
  (∀ s port a n, s.hasEth port = true → port < 4 → s.failsafe = false →
    ∃ t, exec (.ethernetFrameTransmit port a n) s = .next t ∧
      t.dev.ethBadFcs = s.dev.ethBadFcs + (if s.dev.mem.host.poisoned a n then 1 else 0) ∧ t.dev.mem = s.dev.mem)

/-- With no bit inverted and nothing armed, COUPLER_DELIVER takes the oldest item of its path and puts it, payload and
stamp unchanged, behind those its island has received; a watermark is taken and not delivered. The island's highest
tick rises to the stamp's. WATERMARK_SEND on a path that has carried nothing for 64 ticks puts a stamped watermark
behind the items of the path. -/
def Obligations.CouplersDeliverInOrder : Prop :=
  (∀ s src dst i is bridge, s.coupler src dst = i :: is → s.heldByFreeze dst = false → s.unarmed = true →
    ∃ t, exec (.couplerDeliver src dst [] false bridge 0) s = .next t ∧ t.coupler src dst = is ∧
      t.inboxOf dst = (if i.kind = .watermark then s.inboxOf dst else s.inboxOf dst ++ [i]) ∧
      i.stamp.tick ≤ (t.isl dst).highTick ∧ (∀ n, n ≠ dst → t.inboxOf n = s.inboxOf n)) ∧
  (∀ s src dst, s.blocked src = false →
    SMap.get (fun _ => 0) s.dev.couplerSent (couplerKey src dst) + 64 ≤ s.copy src →
    ∃ t i, exec (.watermarkSend src dst) s = .next t ∧ t.coupler src dst = s.coupler src dst ++ [i] ∧
      i.kind = .watermark ∧ i.payload = [] ∧ i.stamp = (s.originate src).1)

/-- A write of a tick with its lead while no freeze is past arming arms it. A disarm or a cancel at least 1,000 ticks
before the tick returns to IDLE, where both tick registers read all ones. At the tick the part drains, and once it is
settled it is FROZEN with HELD_ITEMS counted. A resume tick 2,000 ticks ahead is taken while FROZEN only, and at it
the part is IDLE again with the ticks frozen counted. A peer's acknowledgement counts. -/
def Obligations.FreezeStates : Prop :=
  (∀ s u, u ≠ noTick → s.freezeState < 2 → s.ao.tick + 2000 ≤ u.toNat → s.flag rTimeFreezeCtl fTimeFreezeCtlScope = false →
    ∃ t, exec (.freezeArm u) s = .next t ∧ t.freezeState = 1 ∧ t.rd rTimeFreezeAt = u ∧ t.rd rTimeResumeAt = s.rd rTimeResumeAt) ∧
  (∀ s, s.freezeState = 1 → s.ao.tick + 1000 ≤ (s.rd rTimeFreezeAt).toNat → ∀ c ∈ [Instr.freezeDisarm, .freezeCancel],
    ∃ t, exec c s = .next t ∧ t.freezeState = 0 ∧ t.rd rTimeFreezeAt = noTick ∧ t.rd rTimeResumeAt = noTick) ∧
  (∀ s, s.freezeState = 1 → (s.rd rTimeFreezeAt).toNat ≤ s.ao.tick →
    ∃ t, exec .freezeTickReached s = .next t ∧ t.freezeState = 2 ∧ t.rd rTimeFreezeAt = s.rd rTimeFreezeAt) ∧
  (∀ s, s.freezeState = 2 → (s.rd rTimeFreezeAt).toNat + 200 ≤ s.ao.tick →
    ∃ t, exec .freezeSettled s = .next t ∧ t.freezeState = 3 ∧
      t.fld rTimeFreezeStatus fTimeFreezeStatusHeldItems = (s.heldItems.length + s.heldLinks.length) % 2 ^ 32) ∧
  (∀ s u, s.freezeState = 3 → s.ao.tick + 2000 ≤ u.toNat → s.flag rTimeFreezeStatus fTimeFreezeStatusScopeFabric = false →
    ∃ t, exec (.resumeArm u) s = .next t ∧ t.freezeState = 4 ∧ t.rd rTimeResumeAt = u) ∧
  (∀ s u, s.freezeState ≠ 3 → ∃ t, exec (.resumeArm u) s = .next t ∧ t.freezeState = s.freezeState ∧
      t.rd rTimeResumeAt = s.rd rTimeResumeAt ∧ t.rd rTimeFreezeAt = s.rd rTimeFreezeAt) ∧
  (∀ s, s.freezeState = 4 → (s.rd rTimeResumeAt).toNat ≤ s.ao.tick →
    ∃ t, exec .resumeTickReached s = .next t ∧ t.freezeState = 0 ∧ t.rd rTimeFreezeAt = noTick ∧
      t.dev.freeze.frozenTicks = s.dev.freeze.frozenTicks + ((s.rd rTimeResumeAt).toNat - (s.rd rTimeFreezeAt).toNat)) ∧
  (∀ s, s.flag rTimeFreezeStatus fTimeFreezeStatusScopeFabric = true → s.freezeState ≠ 0 →
    ∃ t, exec (.freezeAckReceive false) s = .next t ∧ t.freezeState = s.freezeState ∧
      t.fld rTimeFreezeStatus fTimeFreezeStatusPeersAcked =
        min (s.fld rTimeFreezeStatus fTimeFreezeStatusPeersAcked + 1) (2 ^ 12 - 1))

/-- A beacon at a multiple of 1,000 ticks leaves the island it reaches with its copy checked and slewed. An island
with a timing fault puts the part in FAILSAFE with cause 1. TIME_SKEW_CLEAR zeroes TIME_SKEW_MAX. A new mapping reads
back with UPDATE_SEQ advanced by two. PPS_IN records the tick, and PPS_OUT rises at a whole second while the mapping
is not locked. A compare register takes the value written, fires at once where it is not ahead, and otherwise at its
tick. -/
def Obligations.TimeBase : Prop :=
  (∀ s n d, s.ao.tick % 1000 = 0 → s.isIsland n = true →
    ∃ t, exec (.timeBeacon [(n, d)] []) s = .next t ∧ t.isl n = (s.isl n).beacon s.ao.tick d ∧
      ∀ m, m ≠ n → t.isl m = s.isl m) ∧
  (∀ s n, s.ao.tick % 1000 = 0 → s.isIsland n = true → 3 ≤ (s.isl n).missed →
    ∃ t, exec (.timeBeacon [] [n]) s = .next t ∧ (t.isl n).fault = true) ∧
  (∀ s n, (s.isl n).fault = true → ∃ t, exec (.timingFault n) s = .next t ∧ InFailsafe t 1) ∧
  (∀ s, ∃ t, exec .timeSkewClear s = .next t ∧ t.rd rTimeSkewMax = 0 ∧ ∀ o, o ≠ rTimeSkewMax → t.rd o = s.rd o) ∧
  (∀ s offset rate p, ∃ t, exec (.ptpMappingUpdate offset rate p) s = .next t ∧ t.rd rTimePtpOffset = offset ∧
      t.rd rTimePtpBase = BitVec.ofNat 64 s.ao.tick ∧
      t.fld rTimePtpStatus fTimePtpStatusRatePpb = rate.toNat ∧
      t.fld rTimePtpStatus fTimePtpStatusUpdateSeq =
        (s.fld rTimePtpStatus fTimePtpStatusUpdateSeq + 2) % 2 ^ fTimePtpStatusUpdateSeq.2) ∧
  (∀ s, s.fld rTimePtpStatus fTimePtpStatusPtpState ≠ 2 → s.ao.tick % 1000000000 = 0 →
    ∃ t, exec .ppsOutEdge s = .next t ∧ t.ao.ppsOut = some s.ao.tick) ∧
  (∀ s, ∃ t, exec .ppsInEdge s = .next t ∧ t.rd rTimePpsInTick = BitVec.ofNat 64 s.ao.tick ∧ t.ao.ppsIn = true) ∧
  (∀ s k v, k < 2 → s.ao.tick < v.toNat →
    ∃ t, exec (.timeCmpWrite k v) s = .next t ∧ t.rd (State.cmpReg k) = v ∧ t.cmpDone k = false) ∧
  (∀ s k v, k < 2 → v.toNat ≤ s.ao.tick →
    s.flag rPwrWakeCfg (if k = 0 then fPwrWakeCfgCmp0Wake else fPwrWakeCfgCmp1Wake) = false →
    ∃ t, exec (.timeCmpWrite k v) s = .next t ∧ t.cmpDone k = true ∧
      (t.fld rPwrTripStatus fPwrTripStatusCmpFired).testBit k = true) ∧
  (∀ s k, k < 2 → s.cmpDone k = false → s.ao.s1 = false → (s.rd (State.cmpReg k)).toNat ≤ s.ao.tick →
    s.flag rPwrWakeCfg (if k = 0 then fPwrWakeCfgCmp0Wake else fPwrWakeCfgCmp1Wake) = false →
    ∃ t, exec (.timeCmpFire k) s = .next t ∧ t.cmpDone k = true ∧
      (t.fld rPwrTripStatus fPwrTripStatusCmpFired).testBit k = true)

/-- A request of A0 in A2 returns to A0. A request of A2 that nothing refuses gates every bay, whose memories lose
their contents, and puts the stacks in self-refresh. A request of S1 is latched with its compare ticks, and S1 entry
leaves only the always-on domain. An idle island's clock stops and one with an item runs again. In A2 an access wakes
a stack, and a stack without one goes back. A wake in S1 starts the part anew with KIND 3, and one that comes before
the supply falls is latched. A sensor reading below the level of TRIP2 leaves TRIP_ACTIVE as the trip and clear levels
have it, and MAX_NOW the reading. A supply fault of SUP0 puts the part in FAILSAFE with cause 7. A duty update leaves
the duty that R559 gives and the power measured, and DUTY_MIN_CLEAR sets DUTY_MIN to the duty. -/
def Obligations.PowerTripsAndDuty : Prop :=
  ((∀ s, s.inA2 = true → ∃ t, exec .requestA0 s = .next t ∧ t.fld rPwrState fPwrStateCurrent = 0 ∧
      t.dev.mem.selfRefresh = []) ∧
  (∀ s, s.a2Refused = false → s.inA2 = false →
    ∃ t, exec .requestA2 s = .next t ∧ t.inA2 = true ∧
      (∀ n, n < 256 → (t.bay n).gated = true ∧ (t.bay n).store = {} ∧ (t.bay n).crews = []) ∧
      ∀ σ, σ < s.dev.desc.stackCount → SMap.get (fun _ => false) t.dev.mem.selfRefresh σ = true) ∧
  (∀ s, s.s1Refused = false → s.ao.s1Pending = false →
    ∃ t, exec .requestS1 s = .next t ∧ t.ao.s1Pending = true ∧ t.ao.s1Since = s.ao.tick ∧ t.ao.s1Cmp0 = s.rd rTimeCmp0 ∧
      t.flag rPwrState fPwrStateTransition = true) ∧
  (∀ s, s.ao.s1Pending = true → s.ao.wakeLatched = none →
    ∃ t, exec (.s1Entry true) s = .next t ∧ t.ao.s1 = true ∧ t.ao.mainEn = false ∧ t.dev.bays = [] ∧
      t.ao.tick = s.ao.tick ∧ t.nv = s.nv) ∧
  (∀ s n, s.isIsland n = true → n ≠ islAlwaysOn → (s.isl n).stopped = false → (s.isl n).idleSince + 1000 ≤ s.ao.tick →
    s.islandIdle n = true → ∃ t, exec (.islandClockStop n) s = .next t ∧ (t.isl n).stopped = true ∧
      ∀ m, m ≠ n → t.isl m = s.isl m) ∧
  (∀ s n, (s.isl n).stopped = true → s.inboxOf n ≠ [] → (∀ b, b < 256 → s.bayIsland b ≠ n) →
    ∃ t, exec (.islandClockRestart n) s = .next t ∧ (t.isl n).stopped = false ∧ t.copy n = s.copy n) ∧
  (∀ s σ, s.inA2 = true → σ < s.dev.desc.stackCount →
    ∃ t, exec (.stackWake σ) s = .next t ∧ SMap.get (fun _ => false) t.dev.mem.selfRefresh σ = false) ∧
  (∀ s σ, s.inA2 = true → σ < s.dev.desc.stackCount →
    SMap.get (fun _ => 0) s.dev.mem.lastAccess σ + 100000 ≤ s.ao.tick →
    ∃ t, exec (.stackSelfRefresh σ) s = .next t ∧ SMap.get (fun _ => false) t.dev.mem.selfRefresh σ = true) ∧
  (∀ s, s.ao.s1Pending = true → s.ao.wakeLatched = none →
    ∃ t, exec .wakeEvent s = .next t ∧ t.ao.wakeLatched = some 6) ∧
  (∀ s, s.ao.s1Pending = false → s.ao.s1 = true → s.ao.thermalOff = none →
    ∃ t, exec .wakeEvent s = .next t ∧ t.ao.s1 = false ∧ t.ao.causeKind = 3 ∧ t.ao.causeSource = 6 ∧ t.ao.startStep = 1 ∧
      t.ao.tick = s.ao.tick)) ∧
  ((∀ s x, s.ao.s1 = false → s.ao.startStep ≠ 0 → s.unarmed = true → x < 105 →
    ∃ t, exec (.aoSensorRead [x]) s = .next t ∧
      t.fld rPwrTripStatus fPwrTripStatusTripActive = tripsAfter (s.fld rPwrTripStatus fPwrTripStatusTripActive) x % 16 ∧
      t.fld rObsAoTemp fObsAoTempMaxNow = (BitVec.ofInt 8 x).toNat ∧
      t.ao.thermAlertN = (decide (tripsAfter (s.fld rPwrTripStatus fPwrTripStatusTripActive) x = 0) &&
        decide (s.ao.alertUntil ≤ s.ao.tick))) ∧
  (∀ s, s.ao.s1 = false → s.ao.mainEn = true →
    ∃ t, exec .sup0Fault s = .next t ∧ InFailsafe t 7) ∧
  (∀ s p, s.ao.s1 = false → 4 ≤ s.ao.startStep →
    ∃ t, exec (.dutyUpdate p) s = .next t ∧
      t.fld rPwrDuty fPwrDutyDuty =
        dutyNext ((s.fld rPwrTripStatus fPwrTripStatusTripActive).testBit 1 || s.ao.trip1Once) p
          (1000 * min s.dev.desc.envelope (s.fld rPwrCapW fPwrCapWWatts)) (s.fld rPwrDuty fPwrDutyDuty)
          s.dev.desc.dutyCeil % 2 ^ 9 ∧
      t.fld rPwrPower fPwrPowerPowerMw = p % 2 ^ 32 ∧ t.ao.trip1Once = false) ∧
  (∀ s, ∃ t, exec .dutyMinClear s = .next t ∧ t.fld rPwrDuty fPwrDutyDutyMin = s.fld rPwrDuty fPwrDutyDuty ∧
      ∀ o, o ≠ rPwrDuty → t.rd o = s.rd o))

/-- Power-on and SUP1 begin a new epoch at tick 0 with the non-volatile state kept. A warm reset with the key begins
to drain, and once it has, start-up resumes at step 4 with KIND warm. A cold reset with the key begins start-up at
step 1 and keeps the tick. PKG_RESET_N holds the part in reset, and its release begins step 1. A start-up step whose
work goes well is followed by the next. -/
def Obligations.ResetsAndStartUp : Prop :=
  (∀ s, ∃ t, exec .aonPowerGood s = .next t ∧ t.ao.epoch = s.ao.epoch + 1 ∧ t.ao.tick = 0 ∧ t.ao.startStep = 1 ∧
      t.ao.causeSource = 0 ∧ t.dev = {} ∧ t.nv = s.nv) ∧
  (∀ s, ∃ t, exec .sup1Reset s = .next t ∧ t.ao.epoch = s.ao.epoch + 1 ∧ t.ao.tick = 0 ∧ t.ao.startStep = 1 ∧
      t.ao.causeSource = 4 ∧ t.dev = {} ∧ t.nv = s.nv) ∧
  (∀ s v, resetKey v = true → getBits v 0 2 = 1 → s.ao.bootSel ≠ 2 → s.resetRank = 0 → s.ao.s1 = false →
    4 ≤ s.ao.startStep → ∃ t n, exec (.pwrResetWarm v) s = .next t ∧ t.ao.warm = some (n, 2) ∧ s.ao.startStep = t.ao.startStep) ∧
  (∀ s v, resetKey v = true → getBits v 0 2 = 2 → s.resetRank < 2 → s.ao.s1 = false → s.ao.startStep ≠ 0 →
    ∃ t, exec (.pwrResetCold v) s = .next t ∧ t.ao.causeKind = 1 ∧ t.ao.causeSource = 2 ∧ t.ao.startStep = 1 ∧
      t.ao.tick = s.ao.tick ∧ t.ao.epoch = s.ao.epoch ∧ t.dev.bays = [] ∧ t.nv = s.nv) ∧
  (∀ s, s.ao.thermalOff = none → s.ao.heldInReset = false →
    ∃ t, exec .pkgResetAssert s = .next t ∧ t.ao.heldInReset = true ∧ t.ao.startStep = 0 ∧ t.ao.causeSource = 1 ∧
      t.dev.bays = [] ∧ t.ao.tick = s.ao.tick) ∧
  (∀ s, s.ao.heldInReset = true →
    ∃ t, exec .pkgResetRelease s = .next t ∧ t.ao.heldInReset = false ∧ t.ao.startStep = 1 ∧ t.dev = s.dev) ∧
  (∀ s ok slots bases ctl found n k, s.ao.warm = some (n, k) → s.drained n = true →
    ∃ t, exec (.startupStepAdvance ok slots bases ctl found) s = .next t ∧ t.ao.startStep = 4 ∧ t.ao.causeKind = 2 ∧
      t.ao.causeSource = k ∧ t.ao.warm = none ∧ t.ao.tick = s.ao.tick ∧ t.dev.mem.host = s.flushLog.dev.mem.host) ∧
  (∀ s slots bases ctl found, s.ao.warm = none → s.ao.startStep ∈ [4, 7, 8] → s.ao.startFailed = false →
    s.ao.startHold = false → s.ao.heldInReset = false → s.ao.s1 = false → s.failsafe = false →
    ∃ t, exec (.startupStepAdvance true slots bases ctl found) s = .next t ∧ t.ao.startStep = s.ao.startStep + 1 ∧
      (s.ao.startStep = 4 → t.ao.mainEn = true))

/-- LINKS_GO locks the device number and starts each enabled link that is down. A link that has trained learns its
peer and goes to KEYING, and one that has not goes down with reason 1. Agreed keys start the seal counts again, and so
does a rekey the flit count. A link in KEYING with keys and skew comes UP with its sequence numbers at zero. A time
exchange records the round trip and the far end's root, and moves the reference forward only: by the skew before
READY, by at most a tick after. -/
def Obligations.LinkBringUp : Prop :=
  (∀ s v, s.dev.desc.links ≤ 16 →
    ∃ t, exec (.linksGo v) s = .next t ∧ t.flag rFabCfg fFabCfgLinksGo = true ∧
      t.flag rFabDeviceNum fFabDeviceNumLocked = true ∧
      ∀ l, l < s.dev.desc.links → s.flag (rFabLinkCfg l) fFabLinkCfgEnable = true → s.linkState l = 0 → t.linkState l = 1) ∧
  (∀ s l d k, s.hasLink l = true → l < 16 → s.flag (rFabLinkCfg l) fFabLinkCfgEnable = true →
    s.flag rFabCfg fFabCfgLinksGo = true → s.linkState l = 1 → d % 4096 ≠ s.deviceNum →
    ∃ t, exec (.linkTrainRetry l (some (d, k))) s = .next t ∧ t.linkState l = 2 ∧ (t.link l).keyed = false ∧
      t.fld (rFabLinkStatus l) fFabLinkStatusPeerDevice = d % 2 ^ fFabLinkStatusPeerDevice.2) ∧
  (∀ s l, s.hasLink l = true → l < 16 → s.flag (rFabLinkCfg l) fFabLinkCfgEnable = true →
    s.flag rFabCfg fFabCfgLinksGo = true → s.linkState l = 1 →
    ∃ t, exec (.linkTrainRetry l none) s = .next t ∧ t.linkState l = 0 ∧
      t.fld (rFabLinkStatus l) fFabLinkStatusDownReason = 1 ∧ (t.link l).trainedAt = s.ao.tick) ∧
  (∀ s l, s.hasLink l = true → s.linkState l = 2 →
    ∃ t, exec (.linkKeyAgree l true) s = .next t ∧ (t.link l).keyed = true ∧ (t.link l).sealTx = 0 ∧
      (t.link l).sealRx = 0 ∧ ∀ m, m ≠ l → t.link m = s.link m) ∧
  (∀ s l, 2 ^ 40 ≤ (s.link l).flits →
    ∃ t, exec (.linkRekey l) s = .next t ∧ (t.link l).flits = 0 ∧ (t.link l).queue = (s.link l).queue) ∧
  (∀ s l, s.hasLink l = true → l < 16 → s.linkState l = 2 → (s.link l).keyed = true → (s.link l).skewOk = true →
    ∃ t, exec (.linkUp l) s = .next t ∧ t.linkState l = 3 ∧ (t.link l).txSeq = 0 ∧ (t.link l).rxSeq = 0 ∧
      (t.link l).queue = (s.link l).queue) ∧
  (∀ s l rtt skew root hops, s.hasLink l = true → (s.link l).keyed = true → (s.link l).exchanged + 1000 ≤ s.ao.tick →
    ∃ t, exec (.linkTimeExchange l rtt skew root hops) s = .next t ∧ (t.link l).farRoot = root ∧ (t.link l).farHops = hops ∧
      (t.link l).exchanged = s.ao.tick ∧ s.ao.tick ≤ t.ao.tick ∧
      (s.ao.startStep = 12 → t.ao.tick ≤ s.ao.tick + 1) ∧
      (s.ao.startStep ≠ 12 → 25 < skew → t.ao.tick = s.ao.tick + skew.toNat))

/-- A link that is UP and loses block lock goes DOWN with reason 2 and holds the flits that it has not sent; 0 written
to ENABLE leaves it DISABLED. Without a notice within 100 microseconds it stops waiting and its flits are gone; a
notice makes it replay and stop waiting. A route written is the route, held where its primary was valid, and once the
hold ends no flit of the device is held. -/
def Obligations.LinkFailure : Prop :=
  (∀ s l, s.linkUp l = true → l < 16 →
    ∃ t, exec (.linkDown l 2) s = .next t ∧ t.linkState l = 0 ∧ t.fld (rFabLinkStatus l) fFabLinkStatusDownReason = 2 ∧
      (t.link l).waiting = some s.ao.tick ∧ (t.link l).queue = [] ∧ (t.link l).keyed = false ∧
      (t.link l).lost = (s.link l).lost ++ (s.link l).retry ∧
      (t.link l).held = (s.link l).queue.filter (fun f => f.type == 2 || f.type == 3) ++ (s.link l).held) ∧
  (∀ s l, s.hasLink l = true → l < 16 →
    ∃ t, exec (.linkDisable l) s = .next t ∧ t.linkState l = 4 ∧ t.flag (rFabLinkCfg l) fFabLinkCfgEnable = false) ∧
  (∀ s l n, (s.link l).waiting = some n → n + 100000 ≤ s.ao.tick →
    ∃ t, exec (.linkNoticeTimeout l) s = .next t ∧ (t.link l).waiting = none ∧ (t.link l).held = [] ∧
      (t.link l).lost = []) ∧
  (∀ s k i x far lseq l, s.arrivedTxn k 0x40 = some (i, x) → x.pay = .notice far lseq →
    ((List.range s.dev.desc.links).find? fun l => (s.link l).waiting.isSome &&
      s.fld (rFabLinkStatus l) fFabLinkStatusPeerDevice == x.stamp.device &&
      s.fld (rFabLinkStatus l) fFabLinkStatusPeerLink == far) = some l →
    ∃ t, exec (.txnLinkNotice k) s = .next t ∧ (t.link l).waiting = none ∧ (t.link l).lost = [] ∧
      t.dev.fab.arrived = s.dev.fab.arrived.eraseIdx k) ∧
  (∀ s v, ∃ t, exec (.routeWrite v) s = .next t ∧ t.route (getBits (s.rd rFabRouteSel) 0 12) = v &&& 0x3FF ∧
      (∀ d, d ≠ getBits (s.rd rFabRouteSel) 0 12 → t.route d = s.route d) ∧
      (routePrimaryValid (s.route (getBits (s.rd rFabRouteSel) 0 12)) = true →
        SMap.get (fun _ => 0) t.dev.fab.holds (getBits (s.rd rFabRouteSel) 0 12) =
          s.ao.tick + 1000 * s.fld rFabCfg fFabCfgRouteHoldUs)) ∧
  (∀ s d, SMap.get (fun _ => 0) s.dev.fab.holds d ≠ 0 → SMap.get (fun _ => 0) s.dev.fab.holds d ≤ s.ao.tick →
    ∃ t, exec (.routeHoldExpire d) s = .next t ∧ SMap.get (fun _ => 0) t.dev.fab.holds d = 0 ∧
      t.dev.fab.heldFlits = s.dev.fab.heldFlits.filter (·.dest != d))

/-- FLIT_SEND puts the flit that R436 picks on the wire with the next LSEQ, and keeps it in the retry buffer; a flit
to replay goes first. The ACK timer sends a LINK_CTL flit and the idle timer a SEAL flit, which starts the block's
count again. A flit with a bad CRC makes a NAK due and is not accepted. A one-flit transaction for this package that
comes in order arrives, and the next LSEQ is expected. The oldest flit for another package leaves the receive buffer.
-/
def Obligations.FlitsInSequence : Prop :=
  (∀ s l f, s.linkUp l = true → (s.link l).resend = [] → (s.link l).retry.length < 1024 → (s.link l).sealTx < 255 →
    (s.link l).nakDue = false → (s.link l).pick = some f → s.blocked (islLink l) = false →
    (s.failsafe = false ∨ f.cls = 0) →
    ∃ t g, exec (.flitSend l) s = .next t ∧ (t.link l).wire = some g ∧ g.lseq = (s.link l).txSeq ∧ g.txn = f.txn ∧
      g.dest = f.dest ∧ (t.link l).retry = (s.link l).retry ++ [g] ∧
      (t.link l).txSeq = ((s.link l).txSeq + 1) % 4096 ∧ (t.link l).queue = (s.link l).queue.erase f) ∧
  (∀ s l f fs, s.linkUp l = true → (s.link l).resend = f :: fs →
    ∃ t, exec (.flitSend l) s = .next t ∧ (t.link l).wire = some f ∧ (t.link l).resend = fs ∧
      (t.link l).txSeq = (s.link l).txSeq) ∧
  (∀ s l, s.linkUp l = true → 64 ≤ (s.link l).ackDue → (s.link l).retry.length < 1024 →
    ∃ t g, exec (.ackTimer l) s = .next t ∧ (t.link l).wire = some g ∧ g.type = 5 ∧
      g.ack = some (((s.link l).rxSeq + 4095) % 4096) ∧ (t.link l).ackDue = 0) ∧
  (∀ s l, s.linkUp l = true → (s.link l).sealTx ≠ 0 → (s.link l).lastTx + 1000 ≤ s.ao.tick →
    (s.link l).retry.length < 1024 →
    ∃ t g, exec (.sealIdleClose l) s = .next t ∧ (t.link l).wire = some g ∧ g.type = 4 ∧ (t.link l).sealTx = 0) ∧
  (∀ s l f good, s.linkUp l = true →
    ∃ t, exec (.flitReceive l f false good) s = .next t ∧ (t.link l).nakDue = true ∧ (t.link l).rxSeq = (s.link l).rxSeq ∧
      t.dev.fab.arrived = s.dev.fab.arrived) ∧
  (∀ s l f x good, s.linkUp l = true → s.unarmed = true → f.type = 2 → f.txn = some x → x.flitCount = 1 → f.nak = false →
    (s.link l).replays < 8 → f.lseq = (s.link l).rxSeq → f.dest = s.deviceNum → s.failsafe = false →
    SMap.get (fun _ => 0) (s.link l).filled (creditKey f.cls f.vc) < 64 →
    s.dev.fab.partial_ = [] → (∀ b, x.pay ≠ .probe b) → (∀ a b, x.pay ≠ .keyId a b) → (∀ a, x.pay ≠ .ack a) →
    ∃ t, exec (.flitReceive l f true good) s = .next t ∧ t.dev.fab.arrived = s.dev.fab.arrived ++ [(l, x)] ∧
      (t.link l).rxSeq = ((s.link l).rxSeq + 1) % 4096) ∧
  (∀ s l f fs, (s.link l).forward = f :: fs → s.blocked (islLink l) = false →
    ∃ t, exec (.flitForward l) s = .next t ∧ (t.link l).forward = fs)

/-- A transaction that nothing refuses and whose panel is resident is taken from those that wait. A write's bytes, and
an atomic's new value, are in HBM; a read of unpoisoned data sends them back over the link that the route gives; a
message goes on to its bay's coupler. A sealed tent's KEY_ID goes to the package of its span. -/
def Obligations.TransactionsServed : Prop :=
  (∀ s k l x b, Serves s k 2 l x → x.pay = .bytes b → s.servedSpan x.tent x.addr x.size = .hbm →
    x.stamp.device ≠ s.deviceNum →
    ∃ t, exec (.txnWrite k) s = .next t ∧ t.dev.fab.arrived = s.dev.fab.arrived.eraseIdx k ∧
      t.dev.mem = ((s.takeTxn k).devWrite x.tent x.addr (b.take x.size) x.bad).dev.mem) ∧
  (∀ s k l x op v cmp, Serves s k 3 l x → x.pay = .atomic op v cmp → s.servedSpan x.tent x.addr x.size = .hbm →
    x.stamp.device ≠ s.deviceNum → ((s.takeTxn k).devRead x.tent x.addr x.size).2.1 = false →
    ∃ t, exec (.txnAtomic k) s = .next t ∧
      t.dev.mem = (((s.takeTxn k).devRead x.tent x.addr x.size).2.2.devWrite x.tent x.addr (leBytes x.size
        (atomNew op (8 * x.size) (leNat ((s.takeTxn k).devRead x.tent x.addr x.size).1) v cmp))).dev.mem) ∧
  (∀ s k l x p, Serves s k 1 l x → s.servedSpan x.tent x.addr x.size = .hbm → Routed s x.stamp.device p → l ≠ loopLink →
    s.unarmed = true → s.dev.mem.flips = [] → ((s.takeTxn k).devRead x.tent x.addr x.size).2.1 = false →
    ∃ t f y, exec (.txnRead k) s = .next t ∧ f ∈ (t.link p).queue ∧ f.txn = some y ∧ y.op = 0x11 ∧ y.tag = x.tag ∧
      t.dev.fab.arrived = s.dev.fab.arrived.eraseIdx k) ∧
  (∀ s k l x b, Serves s k 4 l x → x.pay = .bytes b →
    ∃ t m, exec (.txnMessage k) s = .next t ∧
      t.coupler (serveIsland l) (s.bayIsland (x.addr / 2 ^ 22 % 256)) =
        s.coupler (serveIsland l) (s.bayIsland (x.addr / 2 ^ 22 % 256)) ++ [m] ∧
      m.kind = .message (x.addr % 2 ^ 22) (x.addr / 2 ^ 30 % 256) ∧ m.payload = wordsOf (b.take x.size) false) ∧
  (∀ s n d p, n < 64 → s.tentState n = 2 → s.sealed n = true → s.flag (rFabTentSpan n) fFabTentSpanEnable = true →
    s.fld (rFabTentSpan n) fFabTentSpanLow = d → s.fld (rFabTentSpan n) fFabTentSpanHigh = d → Routed s d p →
    ∃ t f y, exec (.keyidAnnounce n) s = .next t ∧ f ∈ (t.link p).queue ∧ f.txn = some y ∧
      y.pay = .keyId n (s.sealKeyId n))

/-- A reply for a live operation is taken and its entry removed; data, completions and atomics' old values make the
operation ready where no other entry waits, and a fault leaves a trap in it. A reply that nothing waits for is counted
stale. An operation without a reply in REMOTE_TIMEOUT_MS is removed. A journal record from a package with a mirror
region is kept there in order, and an acknowledgement from the peer marks the record it names, or is kept while MIRROR
commits wait. A freeze that comes at least 1,000 ticks ahead is armed at the same tick, and one that comes later is in
effect at once. A resume tick is taken while FROZEN. -/
def Obligations.RepliesAndPeers : Prop :=
  ((∀ s k l x o (r : Nat × (Nat → Instr)), r ∈ [(0x11, .txnReadData), (0x12, .txnWriteDone), (0x13, .txnAtomicData)] →
    s.arrivedTxn k r.1 = some (l, x) → s.blocked (serveIsland l) = false → s.opOf x.tag = some o → o.dead = false →
    (s.dev.fab.ops.filter fun q => q.tag != o.tag && q.bay == o.bay && q.slot == o.slot && q.opId == o.opId && !q.dead) = [] →
    o.slot < 256 →
    ∃ t, exec (r.2 k) s = .next t ∧ t.dev.fab.ops = s.dev.fab.ops.filter (·.tag != o.tag) ∧
      t.dev.fab.arrived = s.dev.fab.arrived.eraseIdx k ∧
      ∀ c, s.crew o.bay o.slot = some c → ∃ d, t.crew o.bay o.slot = some d ∧
        ∀ q ∈ d.ops, q.id = o.opId → q.remote = none ∧ q.ready = true) ∧
  (∀ s k l x o c, s.arrivedTxn k 0x1F = some (l, x) → s.blocked (serveIsland l) = false → s.opOf x.tag = some o →
    o.dead = false → o.slot < 256 → s.crew o.bay o.slot = some c →
    ∃ t d q, exec (.txnFault k) s = .next t ∧ t.dev.fab.ops = s.dev.fab.ops.filter (·.tag != o.tag) ∧
      t.crew o.bay o.slot = some d ∧ q ∈ d.ops ∧ q.id = o.opId ∧ q.trap.isSome = true) ∧
  (∀ s k l x (r : Nat × (Nat → Instr)),
    r ∈ [(0x11, .txnReadData), (0x12, .txnWriteDone), (0x13, .txnAtomicData), (0x1F, .txnFault)] →
    s.arrivedTxn k r.1 = some (l, x) → s.blocked (serveIsland l) = false → s.opOf x.tag = none →
    ∃ t, exec (r.2 k) s = .next t ∧ t.dev.fab.arrived = s.dev.fab.arrived.eraseIdx k ∧
      t.fld rFabStale fFabStaleStaleReplies = min (s.fld rFabStale fFabStaleStaleReplies + 1) (2 ^ fFabStaleStaleReplies.2 - 1)) ∧
  (∀ s tag o, s.opOf tag = some o → o.since + 1000000 * s.fld rFabCfg fFabCfgRemoteTimeoutMs ≤ s.liveTick →
    ∃ t, exec (.remoteTimeout tag) s = .next t ∧ t.dev.fab.ops = s.dev.fab.ops.filter (·.tag != o.tag))) ∧
  ((∀ s k l x r i, s.arrivedTxn k 0x30 = some (l, x) → x.pay = .journal r → s.blocked islJournal = false →
    s.mirrorRegion x.stamp.device = some i →
    ∃ t, exec (.txnJournal k) s = .next t ∧
      SMap.get (fun _ => []) t.dev.jrnl.incoming i = SMap.get (fun _ => []) s.dev.jrnl.incoming i ++ [r]) ∧
  (∀ s k l x id, s.arrivedTxn k 0x31 = some (l, x) → x.pay = .journalAck id → s.blocked islJournal = false →
    x.stamp.device = s.fld rJrnlMirrorPeer fJrnlMirrorPeerDevice →
    ∃ t, exec (.txnJournalAck k) s = .next t ∧
      (if s.mirrorWaits = true then id ∈ t.dev.jrnl.ackHeld ∧ id ∉ t.dev.jrnl.resync ∧ t.dev.jrnl.log = s.dev.jrnl.log
       else ∀ r ∈ t.dev.jrnl.log, r.id = id → r.acked = true) ∧
      t.dev.fab.arrived = s.dev.fab.arrived.eraseIdx k) ∧
  (∀ s k l x n, s.arrivedTxn k 0x41 = some (l, x) → x.pay = .tick n → s.freezeState = 0 → s.ao.tick + 1000 ≤ n →
    ∃ t, exec (.txnFreeze k) s = .next t ∧ t.freezeState = 1 ∧ t.rd rTimeFreezeAt = BitVec.ofNat 64 n) ∧
  (∀ s k l x n, s.arrivedTxn k 0x41 = some (l, x) → x.pay = .tick n → s.freezeState = 0 → n < s.ao.tick + 1000 →
    ∃ t, exec (.txnFreeze k) s = .next t ∧ t.freezeState = 2 ∧ t.rd rTimeFreezeAt = BitVec.ofNat 64 n) ∧
  (∀ s k l x n, s.arrivedTxn k 0x42 = some (l, x) → x.pay = .tick n → s.freezeState = 3 →
    ∃ t, exec (.txnResume k) s = .next t ∧ t.freezeState = 4 ∧ t.rd rTimeResumeAt = BitVec.ofNat 64 n))

/-- COLL_GROUP_REGISTER with VALID = 1 and members that fit registers the group, and with VALID = 0 takes it away. A
ready descriptor that its group matches and that sends no poison to another package is taken, and its member joins the
instance. Once the root's sub-tree is known, each of the five operations writes the root member's part of the result
to its DST, and with no other member of the package the instance is over; a result that came from another package goes
to the member's DST. COLL_TIMEOUT on an instance that not every member joined gives it status 2. What arrives from
another package is kept in its instance. -/
def Obligations.Collectives : Prop :=
  (∀ s g v, g < 256 → getBits v 0 1 = 1 →
    (let q := (s.writeReg (rFabCollCfg g) v).setFlag (rFabCollCfg g) fFabCollCfgValid false
     let m := q.fld (rFabCollCfg g) fFabCollCfgMembersM1 + 1
     let a := q.fld (rFabCollAddr g) fFabCollAddrAddr * 64
     let ms := (List.range m).map fun i => (s.hostNum (a + 4 * i) 2, s.hostNum (a + 4 * i + 2) 1)
     q.inHost a (4 * m) = true → noTwice ms = true →
     (ms.all fun e => e.1 != q.deviceNum || q.hasBay (q.fld (rFabCollCfg g) fFabCollCfgTent) e.2) = true →
     ∃ t, exec (.collGroupRegister g v) s = .next t ∧
       t.collGroup g = some ⟨q.fld (rFabCollCfg g) fFabCollCfgTent, ms⟩ ∧
       t.flag (rFabCollCfg g) fFabCollCfgValid = true)) ∧
  (∀ s g v, g < 256 → getBits v 0 1 = 0 →
    ∃ t, exec (.collGroupRegister g v) s = .next t ∧ t.collGroup g = none ∧ t.flag (rFabCollCfg g) fFabCollCfgValid = false) ∧
  (∀ s n h d s1 s2 s3 s4 gr, n < 64 → s.flag (rFabTentCollq n) fFabTentCollqValid = true →
    s.blocked (s.collIsland n) = false →
    EM.read n (s.fld (rFabTentCollq n) fFabTentCollqAddr * 64) 64 s = .ok (h, s1) →
    EM.read n (s.fld (rFabTentCollq n) fFabTentCollqAddr * 64 + 64 +
      64 * (field h 8 8 % 2 ^ s.fld (rFabTentCollq n) fFabTentCollqLog2)) 64 s1 = .ok (d, s2) →
    field d 0x30 8 = 1 → (s2.dev.fab.insts.filter fun x => x.group == field d 3 1).length < 16 →
    EM.write n (s.fld (rFabTentCollq n) fFabTentCollqAddr * 64 + 64 +
      64 * (field h 8 8 % 2 ^ s.fld (rFabTentCollq n) fFabTentCollqLog2) + 0x30) (leBytes 8 0) s2 = .ok ((), s3) →
    EM.write n (s.fld (rFabTentCollq n) fFabTentCollqAddr * 64 + 8) (leBytes 8 (field h 8 8 + 1)) s3 = .ok ((), s4) →
    s4.collGroup (field d 3 1) = some gr → gr.tent = n →
    gr.members[field d 8 2]? = some (s4.deviceNum, field d 0xA 1) → s4.collPoison gr d = false →
    ∃ t x m, exec (.collDescriptorTake n) s = .next t ∧ t.dev.mem = s4.dev.mem ∧
      t.collInst (field d 3 1) (field d 4 4) = some x ∧ x.joined.getLast? = some m ∧
      m.member = field d 8 2 ∧ m.bay = field d 0xA 1 ∧ m.slot = field d 0xB 1 ∧ m.dst = field d 0x20 8 ∧
      m.statusAddr = field d 0x28 8) ∧
  (∀ s g i gr x m b (r : Nat × (Nat → Nat → Instr)),
    r ∈ [(1, .collAllReduce), (2, .collReduceScatter), (3, .collBroadcast), (4, .collHistSum), (5, .collSelectMerge)] →
    s.collGroup g = some gr → s.collInst g i = some x → sOp x.shape = r.1 → s.blocked (s.collIsland gr.tent) = false →
    x.status = 0 → x.joined = [m] → m.member = 0 → m.finished = false → s.hasBay gr.tent m.bay = true →
    x.subtree gr.members.length (gr.members.length + 1) 0 = some b →
    (x.told = true ∨ (s.farMembers gr = [] ∧ r.1 ≠ 5)) → s.ownMembers gr = [0] →
    s.servedSpan gr.tent m.statusAddr 8 = .hbm →
    ∃ t v, exec (r.2 g i) s = .next t ∧ memberResult x.shape gr.members.length 0 (narrowValue x.shape b) = some v ∧
      (t.bay m.bay).store = (s.bay m.bay).store.write m.dst (v.take (bayStoreSize - m.dst)) m.bad ∧
      t.collInst g i = none) ∧
  (∀ s g i gr x m v (r : Nat × (Nat → Nat → Instr)),
    r ∈ [(1, .collAllReduce), (2, .collReduceScatter), (3, .collBroadcast)] →
    s.collGroup g = some gr → s.collInst g i = some x → sOp x.shape = r.1 → s.blocked (s.collIsland gr.tent) = false →
    x.status = 0 → x.joined = [m] → m.member ≠ 0 → m.finished = false → m.sent = true →
    s.hasBay gr.tent m.bay = true → x.results.find? (·.1 == m.member) = some (m.member, v) →
    s.servedSpan gr.tent m.statusAddr 8 = .hbm →
    ∃ t, exec (r.2 g i) s = .next t ∧
      (t.bay m.bay).store = (s.bay m.bay).store.write m.dst (v.take (bayStoreSize - m.dst)) m.bad) ∧
  (∀ s g i gr x, s.collGroup g = some gr → s.collInst g i = some x → x.status = 0 → x.told = false → x.results = [] →
    ((List.range gr.members.length).all (x.hasJoined 16)) = false → s.blocked (s.collIsland gr.tent) = false →
    x.since + 1000000 * s.fld rFabCfg fFabCfgCollTimeoutMs ≤ s.liveTick →
    ∃ t, exec (.collTimeout g i) s = .next t ∧ ∀ y, t.collInst g i = some y → y.status = 2 ∧ y.told = true) ∧
  (∀ s k l x g i m up v sh status, s.arrivedTxn k 0x20 = some (l, x) → x.pay = .coll g i m up v sh status →
    s.blocked (serveIsland l) = false →
    ∃ t y, exec (.txnCollective k) s = .next t ∧ t.dev.fab.arrived = s.dev.fab.arrived.eraseIdx k ∧
      t.collInst g i = some y ∧ (up = true → y.remote.getLast? = some (m, v)) ∧
      (up = false → status = 0 → y.results.getLast? = some (m, v)))

/-- KEM_GENERATE gives its KEM slot a fresh pair. KEY_GENERATE, KEY_IMPORT and KEY_LOAD install a root key with its
POLICY in an empty key slot; an import consumes the KEM pair, and where its tag or a blob does not open the command
ends with its error and installs nothing. KEY_CLEAR erases a key, and refuses with STATE while it is IN_USE.
SESSION_OPEN whose authenticator holds, and SESSION_LOAD of a blob that opens and whose key is installed, open the
session, and otherwise end with their error; SESSION_CLOSE closes it. -/
def Obligations.KeysAndSessions : Prop :=
  (∀ s v, s.flag rSecCmdStatus fSecCmdStatusBusy = false → secSlot v < 16 → s.secBufOk 1184 = true → s.entropyOk = true →
    ∃ t, exec (.kemGenerate v) s = .next t ∧ SecEnds t 0 1184 ∧ t.kem (secSlot v) = some (Config.drbg s.free) ∧
      t.dev.mem.host = s.dev.mem.host.write s.secBuf
        ((List.range 1184).map fun i => (Config.kemKey (Config.drbg s.free)).getD i 0)) ∧
  (∀ s v, s.flag rSecCmdStatus fSecCmdStatusBusy = false → secSlot v < 64 → s.secBufOk 128 = true → s.entropyOk = true →
    s.keyValid (secSlot v) = false →
    ∃ t, exec (.keyGenerate v) s = .next t ∧ SecEnds t 0 128 ∧ t.keyValid (secSlot v) = true ∧
      t.keySlot (secSlot v) = { root := Config.drbg s.free, policy := 0, counter := 0 } ∧
      t.rd (rSecKeyid (secSlot v)) = BitVec.ofNat 64 (keyIdOf (Config.drbg s.free))) ∧
  (∀ s v d, s.flag rSecCmdStatus fSecCmdStatusBusy = false → secSlot v < 64 → s.secBufOk 0x500 = true →
    s.entropyOk = true → s.keyValid (secSlot v) = false →
    field (s.hostRead s.secBuf 0x478) 0x444 1 < 16 → field (s.hostRead s.secBuf 0x478) 0x440 2 = 1 →
    field (s.hostRead s.secBuf 0x478) 0x442 2 < 4 → s.kem (field (s.hostRead s.secBuf 0x478) 0x444 1) = some d →
    ∃ t, exec (.keyImport v) s = .next t ∧ t.kem (field (s.hostRead s.secBuf 0x478) 0x444 1) = none ∧
      match gcmOpen (kdf (Config.kemSecret d ((s.hostRead s.secBuf 0x478).take 1088)) "vothes-keyimport" []) 0
        (((s.hostRead s.secBuf 0x478).drop 0x440).take 8) (((s.hostRead s.secBuf 0x478).drop 0x448).take 32)
        (field (s.hostRead s.secBuf 0x478) 0x468 16) with
      | some r => SecEnds t 0 128 ∧ t.keyValid (secSlot v) = true ∧
          t.keySlot (secSlot v) =
            { root := BitVec.ofNat 256 (leNat r), policy := field (s.hostRead s.secBuf 0x478) 0x442 2, counter := 0 }
      | none => SecEnds t 4 0 ∧ t.keyValid (secSlot v) = false) ∧
  (∀ s v, s.flag rSecCmdStatus fSecCmdStatusBusy = false → secSlot v < 64 → s.secBufOk 128 = true →
    s.keyValid (secSlot v) = false →
    ∃ t, exec (.keyLoad v) s = .next t ∧
      match s.openBlob 1 (s.hostRead s.secBuf 128) with
      | .ok root => SecEnds t 0 0 ∧ t.keyValid (secSlot v) = true ∧
          t.keySlot (secSlot v) = { root := root, policy := field (s.hostRead s.secBuf 128) 4 2, counter := 0 }
      | .error e => SecEnds t e 0 ∧ t.dev.sec = s.dev.sec) ∧
  (∀ s v, s.flag rSecCmdStatus fSecCmdStatusBusy = false → secSlot v < 64 → s.keyValid (secSlot v) = true →
    ∃ t, exec (.keyClear v) s = .next t ∧
      if s.keyInUse (secSlot v) = true then SecEnds t 3 0 ∧ t.dev.sec = s.dev.sec
      else SecEnds t 0 0 ∧ t.keyValid (secSlot v) = false ∧ t.keySlot (secSlot v) = {}) ∧
  (∀ s v d, s.flag rSecCmdStatus fSecCmdStatusBusy = false → s.secBufOk 0x500 = true → s.entropyOk = true →
    (let p := s.hostRead s.secBuf 0x458
     let k := s.tentKey (secTent v)
     let client := field p 0x444 4
     let id := (s.rd (rSecKeyid k)).toNat
     let digest := leBytes 32 (Config.sha3 ((List.range 1184).map fun i => (Config.kemKey d).getD i 0)).toNat
     field p 0x442 1 < 16 → field p 0x440 2 = 1 → client < 65536 → s.tentState (secTent v) = 2 →
     s.sealed (secTent v) = true → s.session (secSlot v) = none → s.kem (field p 0x442 1) = some d →
     ∃ t, exec (.sessionOpen v) s = .next t ∧ t.kem (field p 0x442 1) = none ∧
       if (Config.gcmTag (kdf (s.keySlot k).root "vothes-session-auth" []) (leNat (digest.take 12))
         (digest ++ leBytes 4 client ++ leBytes 8 id) []).toNat = field p 0x448 16 then
         SecEnds t 0 128 ∧ t.session (secSlot v) = some
           { tent := secTent v, client := client
             secret := kdf (Config.kemSecret d (p.take 1088)) "vothes-session" (leBytes 8 id ++ leBytes 4 client) }
       else SecEnds t 4 0 ∧ t.session (secSlot v) = none)) ∧
  (∀ s v k, s.flag rSecCmdStatus fSecCmdStatusBusy = false → s.secBufOk 128 = true → s.session (secSlot v) = none →
    k < 64 → s.keyValid k = true → (s.rd (rSecKeyid k)).toNat = field (s.hostRead s.secBuf 128) 0x10 8 →
    ∃ t, exec (.sessionLoad v) s = .next t ∧
      match s.openBlob 2 (s.hostRead s.secBuf 128) with
      | .ok key => SecEnds t 0 0 ∧ t.session (secSlot v) = some
          { tent := field (s.hostRead s.secBuf 128) 6 2, client := field (s.hostRead s.secBuf 128) 8 4, secret := key }
      | .error e => SecEnds t e 0 ∧ t.dev.sec = s.dev.sec) ∧
  (∀ s v, s.flag rSecCmdStatus fSecCmdStatusBusy = false →
    ∃ t, exec (.sessionClose v) s = .next t ∧ SecEnds t 0 0 ∧ t.session (secSlot v) = none ∧
      ∀ n, n ≠ secSlot v → t.session n = s.session n)

/-- A report is the body and its signature at the buffer. An import whose tag verifies ends OK and appends one
measurement of its plaintext to the tent's log; one whose tag fails ends with TAG. A consent that is accepted is in
force with its scope and window, and its counter is kept; one that is not ends with its error and leaves the key
engine as it was. A revoke ends the tent's consents, and a window's end its consent. GET_CERT and SEC_GET_LOG write
their bytes, and a certificate that the buffer cannot take ends with RANGE. A command while BUSY changes nothing. The
DRBG is seeded again after 2^20 requests, and a failed health test enters FAILSAFE with cause 4. -/
def Obligations.ReportsImportsConsents : Prop :=
  (∀ s v, s.flag rSecCmdStatus fSecCmdStatusBusy = false → s.secBufOk (0x40 + 3072) = true →
    ∃ t, exec (.secAttest v) s = .next t ∧ SecEnds t 0 3072 ∧
      t.dev.mem.host = s.dev.mem.host.write (s.secBuf + 0x40) (s.reportBody v (s.hostRead s.secBuf 64) ++
        signed "vothes-report" (s.reportBody v (s.hostRead s.secBuf 64)) ++ List.replicate 140 0)) ∧
  (∀ s v, s.flag rSecCmdStatus fSecCmdStatusBusy = false → s.dev.sec.importing = none →
    (let h := s.hostRead s.secBuf 64
     let n := field h 8 8
     let n1 := secTent v
     let dst := s.fld rSecImportDst fSecImportDstAddr
     let plain := gcmOpen (kdf (s.keySlot (s.tentKey n1)).root "vothes-import" []) (field h 0x10 12) (h.take 0x30)
       (s.hostRead (s.secBuf + 64) n) (field h 0x30 16)
     s.secBufOk 64 = true → field h 0 2 = 1 → n % 64 = 0 → 64 ≤ n → n ≤ 2 ^ 30 → s.secBufOk (64 + n) = true →
     dst % 64 = 0 → s.spanMapped n1 dst n = true → s.tentState n1 ≠ 0 → s.keyValid (s.tentKey n1) = true →
     s.tentLogFull n1 = false → s.writesHeld = false → s.servedSpan n1 dst n = .hbm →
     ∃ t, exec (.sealedImport v) s = .next t ∧ t.dev.sec.importing = none ∧
       match plain with
       | some p => SecEnds t 0 0 ∧ t.dev.mem = (s.devWrite n1 dst p).dev.mem ∧
           ∃ e, (t.tentLog n1).entries = (s.tentLog n1).entries ++ [e] ∧ e.component = 0x11 ∧ e.digest = Config.sha3 p
       | none => SecEnds t 4 0 ∧ t.dev.mem = (s.devWrite n1 dst (List.replicate n 0)).dev.mem ∧
           t.tentLog n1 = s.tentLog n1)) ∧
  (∀ s v, s.flag rSecCmdStatus fSecCmdStatusBusy = false → s.secBufOk 64 = true →
    ∃ t, exec (.consent v) s = .next t ∧ SecEnds t (s.consentResult (secTent v) (s.hostRead s.secBuf 64)) 0 ∧
      if s.consentResult (secTent v) (s.hostRead s.secBuf 64) = 0 then
        t.dev.sec.consents = s.dev.sec.consents ++ [
          { tent := secTent v, scope := field (s.hostRead s.secBuf 64) 2 2
            start := field (s.hostRead s.secBuf 64) 0x10 8, stop := field (s.hostRead s.secBuf 64) 0x18 8 }] ∧
        (t.keySlot (s.tentKey (secTent v))).counter = field (s.hostRead s.secBuf 64) 0x20 8 ∧
        ∃ e, (t.tentLog (secTent v)).entries = (s.tentLog (secTent v)).entries ++ [e] ∧ e.component = 0x13
      else t.dev.sec = s.dev.sec) ∧
  (∀ s v, s.flag rSecCmdStatus fSecCmdStatusBusy = false →
    ∃ t, exec (.consentRevoke v) s = .next t ∧ SecEnds t 0 0 ∧
      t.dev.sec.consents = s.dev.sec.consents.filter (·.tent != secTent v)) ∧
  (∀ s, ∃ t, exec .consentWindowBoundary s = .next t ∧
    t.dev.sec.consents = s.dev.sec.consents.filter fun c => decide (s.ao.tick < c.stop)) ∧
  (∀ s, s.flag rSecCmdStatus fSecCmdStatusBusy = false →
    ∃ t, exec .getCert s = .next t ∧
      if s.secBufOk Config.certificate.length = true then
        SecEnds t 0 Config.certificate.length ∧ t.dev.mem.host = s.dev.mem.host.write s.secBuf Config.certificate
      else SecEnds t 2 0 ∧ t.dev.mem = s.dev.mem) ∧
  (∀ s v, s.flag rSecCmdStatus fSecCmdStatusBusy = false →
    (let b := if secTentValid v = true then (s.tentLog (secTent v)).bytes else s.dev.sec.platform.bytes
     s.secBufOk b.length = true →
     ∃ t, exec (.secGetLog v) s = .next t ∧ SecEnds t 0 b.length ∧
       t.dev.mem.host = s.dev.mem.host.write s.secBuf b)) ∧
  (∀ s v, s.flag rSecCmdStatus fSecCmdStatusBusy = true →
    (∀ c ∈ [Instr.kemGenerate v, .keyGenerate v, .keyImport v, .keyLoad v, .keyClear v, .sessionOpen v, .sessionLoad v,
        .sessionClose v, .secAttest v, .consent v, .consentRevoke v, .getCert, .secGetLog v], exec c s = .next s) ∧
    (s.dev.sec.importing = none → exec (.sealedImport v) s = .next s)) ∧
  (∀ s, ∃ t, exec .drbgReseed s = .next t ∧ t.dev.sec.draws = if 2 ^ 20 ≤ s.dev.sec.draws then 0 else s.dev.sec.draws) ∧
  (∀ s, ∃ t, exec .entropyHealthFail s = .next t ∧ InFailsafe t 4)

/-- The RAS unit writes the next record to the ring and advances PRODUCER, or holds it while the ring has no room. A
CONSUMER taken frees space. A hold that is due leaves the coalescing records. A log ring that fits the host region is
registered with a cleared header; one that does not is refused with CFG_ERROR. An injection on a detector that exists
is armed with the stamp of the write. A remap entry and a retired bay are kept for good. Patrol scrub goes on to the
next line. FORCE enters FAILSAFE with cause 9. -/
def Obligations.ErrorLogAndFaults : Prop :=
  (∀ s r rs, s.dev.ras.arrived = r :: rs → s.dev.ras.held = [] → s.dev.ras.lossFirst = none →
    ∃ t, exec .errorLogWrite s = .next t ∧ t.dev.ras.arrived = rs ∧
      if s.logRoom = true then
        t.dev.ras.producer = s.dev.ras.producer + 1 ∧ t.dev.ras.logSeq = s.dev.ras.logSeq + 1 ∧ t.dev.ras.held = [] ∧
        t.dev.mem.host = (s.dev.mem.host.write (s.logRing + 64 + 64 * (s.dev.ras.producer % 2 ^ s.logLog2))
          ({ r with logSeq := s.dev.ras.logSeq } : ErrRec).encode).put s.logRing 8 (s.dev.ras.producer + 1)
      else t.dev.ras.held = [r] ∧ t.dev.mem = s.dev.mem) ∧
  (∀ s c, s.flag rRasLogBase fRasLogBaseValid = true → s.dev.ras.held = [] → s.dev.ras.lossFirst = none →
    takeConsumer s.dev.ras.producer s.dev.ras.consumer s.logLog2 (s.hostNum (s.logRing + 8) 8) = (c, false) →
    ∃ t, exec .logRingSpaceReturn s = .next t ∧ t.dev.ras = { s.dev.ras with consumer := c }) ∧
  (∀ s, ∃ t, exec .coalesceHoldExpire s = .next t ∧
    t.dev.ras.coalescing = s.dev.ras.coalescing.filter fun c => !c.due s.ao.tick) ∧
  (∀ s v, getBits v 0 1 = 1 → s.dev.ras.held = [] → s.dev.ras.lossFirst = none →
    ∃ t, exec (.errorLogRegister v) s = .next t ∧
      if s.ringRefused v = true then
        t.flag rRasLogBase fRasLogBaseValid = false ∧ t.flag rRasLogBase fRasLogBaseCfgError = true
      else t.dev.ras.producer = 0 ∧ t.dev.ras.consumer = 0 ∧ t.flag rRasLogBase fRasLogBaseCfgError = false ∧
        t.dev.mem.host = s.dev.mem.host.write ((s.writeReg rRasLogBase v).logRing) (List.replicate 64 0)) ∧
  (∀ s v, getBits v 0 1 = 1 →
    ∃ t, exec (.injectArm v) s = .next t ∧
      if (s.writeReg rRasInjectArm v).flag rRasInjectArm fRasInjectArmArmed = false ∧
          (s.writeReg rRasInjectArm v).detectorExists (s.fld rRasInjectSel fRasInjectSelIsland)
            (s.fld rRasInjectSel fRasInjectSelDetector) = true then
        t.flag rRasInjectArm fRasInjectArmArmed = true ∧ ∃ st, t.dev.ras.injectStamp = some st ∧ st.island = islPort
      else t.flag rRasInjectArm fRasInjectArmRefused = true ∧ t.dev.ras.injectStamp = s.dev.ras.injectStamp) ∧
  (∀ s isl m w, s.isIsland isl = true → s.nv.remaps.length < 4096 → (isl, m, w) ∉ s.nv.remaps →
    (s.nv.remaps.filter fun e => e.1 == isl && e.2.1 == m).length < 4 →
    ∃ t, exec (.sramRemap isl m w) s = .next t ∧ t.nv = { s.nv with remaps := s.nv.remaps ++ [(isl, m, w)] } ∧
      t.fld rRasRemapStatus fRasRemapStatusEntries = s.nv.remaps.length + 1) ∧
  (∀ s bay, bay < 256 → (s.bay bay).retired = false → s.blocked (islRanger (s.rangerOf (bay / 64))) = false →
    ∃ t, exec (.bayRetire bay) s = .next t ∧ t.nv.retiredBays = s.nv.retiredBays ++ [s.bayIsland bay]) ∧
  (∀ s flips owner, s.flag rRasScrubCfg fRasScrubCfgEnable = true → s.dev.desc.stackCount ≠ 0 →
    s.blocked (islStack (s.dev.ras.scrubLine / 2 ^ 30)) = false →
    ∃ t, exec (.patrolScrub flips owner) s = .next t ∧
      t.dev.ras.scrubLine = if s.dev.ras.scrubLine + 1 < s.dev.desc.stackCount * 2 ^ 30 then s.dev.ras.scrubLine + 1 else 0) ∧
  (∀ s, ∃ t, exec .failsafeForce s = .next t ∧ InFailsafe t 9)

/-- A snapshot at least 10 microseconds ahead is armed, and an earlier one refused. Once its tick is settled the
snapshot is written and DONE is 1. A count written stands, plus that clock's occurrences where the counter is on. A
peak cleared is the highest reading. The trace unit writes the next event at PRODUCER where there is room, or counts
it as lost on overflow. A valid CONSUMER is taken. A trigger is armed where a reserve exists and none is armed; a
host's fire gives it a source, a settled source fires it and a window's end closes the reserve. A firmware log ring
that fits is registered, and a point at an enabled level is written to it or held. -/
def Obligations.CountersTraceLogs : Prop :=
  (∀ s v, ∃ t, exec (.ctrSnapshotArm v) s = .next t ∧
    if v.toNat < s.ao.tick + 10000 ∨ s.flag rObsCtrSnapshotDone fObsCtrSnapshotDonePending = true then
      t.flag rObsCtrSnapshotDone fObsCtrSnapshotDoneRefused = true ∧ t.rd rObsCtrSnapshotAt = s.rd rObsCtrSnapshotAt
    else t.flag rObsCtrSnapshotDone fObsCtrSnapshotDonePending = true ∧
      t.flag rObsCtrSnapshotDone fObsCtrSnapshotDoneDone = false ∧ t.rd rObsCtrSnapshotAt = v) ∧
  (∀ s, s.flag rObsCtrSnapshotDone fObsCtrSnapshotDonePending = true →
    s.settled { tick := (s.rd rObsCtrSnapshotAt).toNat } = true →
    ∃ t, exec .ctrSnapshotWrite s = .next t ∧ t.flag rObsCtrSnapshotDone fObsCtrSnapshotDoneDone = true ∧
      t.flag rObsCtrSnapshotDone fObsCtrSnapshotDonePending = false ∧ t.dev.obs.snapshots = s.dev.obs.snapshots + 1 ∧
      (s.inHost (s.fld rObsCtrSnapshotAddr fObsCtrSnapshotAddrAddr * 64) snapshotBytes = true →
        t.dev.mem.host = s.dev.mem.host.write (s.fld rObsCtrSnapshotAddr fObsCtrSnapshotAddrAddr * 64)
          (leBytes 8 (s.rd rObsCtrSnapshotAt).toNat ++ leBytes 4 s.ao.epoch ++ leBytes 4 1363 ++
            leBytes 8 (s.dev.obs.snapshots + 1) ++ List.replicate 40 0 ++
            (List.range 1363).flatMap (s.engineRecord (s.rd rObsCtrSnapshotAt).toNat)))) ∧
  (∀ s off v n win k, evcOf off = some (win, k) →
    ∃ t, exec (.evcValueWrite off v n) s = .next t ∧
      t.rd off = v + (if getBits (s.rd (win + 0x110 + 0x10 * k)) 25 1 = 1 then BitVec.ofNat 64 n else 0) ∧
      ∀ x, x ≠ off → t.rd x = s.rd x) ∧
  (∀ s now sensor, ∃ t, exec (.tempPeakClear now sensor) s = .next t ∧
    t.fld rObsAoTemp fObsAoTempPeak = now % 256 ∧ t.fld rObsAoTemp fObsAoTempMaxNow = now % 256 ∧
    t.fld rObsAoTemp fObsAoTempPeakSensor = sensor % 64) ∧
  (∀ s r rs, s.dev.obs.events = r :: rs →
    (∃ t, exec (.traceEventWrite true) s = .next t ∧ t.dev.obs.events = rs ∧
      t.dev.obs.lossCount = s.dev.obs.lossCount + 1 ∧ t.dev.mem = s.dev.mem) ∧
    (s.dev.obs.lossFirst = none → 0 < s.traceRoom →
      ∃ t, exec (.traceEventWrite false) s = .next t ∧ t.dev.obs.events = rs ∧
        t.rd rObsTraceProducer = s.rd rObsTraceProducer + 1 ∧
        t.dev.mem.host = s.dev.mem.host.write
          (s.traceBase + 32 * ((s.rd rObsTraceProducer).toNat % s.traceCap)) r.encode)) ∧
  (∀ s v, s.dev.obs.lossFirst = none → (s.rd rObsTraceConsumer).toNat ≤ v.toNat → v.toNat ≤ (s.rd rObsTraceProducer).toNat →
    ∃ t, exec (.traceConsumerWrite v) s = .next t ∧ t.rd rObsTraceConsumer = v) ∧
  (∀ s v, getBits v fObsTriggerSource.1 fObsTriggerSource.2 ≤ 4 →
    ∃ t, exec (.triggerArm v) s = .next t ∧
      if s.dev.obs.reserveMib = 0 ∨ s.triggerState = 1 then t.flag rObsTrigger fObsTriggerRefused = true
      else t.triggerState = 1 ∧ t.dev.obs.reserve = [] ∧ t.dev.obs.source = none ∧ t.dev.obs.fired = none) ∧
  (∀ s, s.triggerState = 1 → s.fld rObsTrigger fObsTriggerSource = 1 → s.dev.obs.source = none →
    ∃ t st, exec .triggerFireHost s = .next t ∧ t.dev.obs.source = some st ∧ st.island = islPort) ∧
  (∀ s x, s.triggerState = 1 → s.triggerSource = some x → s.settled x = true →
    ∃ t, exec .triggerFire s = .next t ∧ t.triggerState = 2 ∧ t.dev.obs.fired = some x ∧
      t.rd rObsTriggerTick = BitVec.ofNat 64 x.tick) ∧
  (∀ s, s.triggerState = 2 → (s.settled { tick := s.triggerWindow.2 } = true ∨ s.reserveCap ≤ s.dev.obs.reserve.length) →
    ∃ t, exec .reserveClose s = .next t ∧ t.triggerState = 3) ∧
  (∀ s v, getBits v 0 1 = 1 → s.dev.obs.fwHeld = [] → s.dev.obs.fwLossFirst = none →
    ∃ t, exec (.fwlogRegister v) s = .next t ∧
      if s.ringRefused v = true then
        t.flag rObsFwlogBase fObsFwlogBaseValid = false ∧ t.flag rObsFwlogBase fObsFwlogBaseCfgError = true
      else t.dev.obs.fwProducer = 0 ∧ t.dev.obs.fwConsumer = 0 ∧
        t.dev.mem.host = s.dev.mem.host.write ((s.writeReg rObsFwlogBase v).fwRing) (List.replicate 64 0)) ∧
  (∀ s core point level n args, core < 8 → point ≠ 0 → point < 0x8000 → level < 4 → s.blocked (islRanger core) = false →
    (fixedLevel point).getD level ≤ s.fld rObsFwlogLevel fObsFwlogLevelLevel → s.dev.obs.fwHeld = [] →
    s.dev.obs.fwLossFirst = none →
    (s.flag rObsFwlogBase fObsFwlogBaseValid = false →
      ∃ t r, exec (.fwlogWrite core point level n args) s = .next t ∧ t.dev.obs.fwHeld = [r] ∧ r.point = point ∧
        r.core = core ∧ r.level = (fixedLevel point).getD level ∧ r.args = args.take 4) ∧
    ∀ c, s.flag rObsFwlogBase fObsFwlogBaseValid = true →
      takeConsumer s.dev.obs.fwProducer s.dev.obs.fwConsumer (s.fld rObsFwlogBase fObsFwlogBaseLog2)
        (s.hostNum (s.fwRing + 8) 8) = (c, false) →
      s.dev.obs.fwProducer < c + 2 ^ s.fld rObsFwlogBase fObsFwlogBaseLog2 →
      ∃ t, exec (.fwlogWrite core point level n args) s = .next t ∧ t.dev.obs.fwHeld = [] ∧
        t.dev.obs.fwProducer = s.dev.obs.fwProducer + 1 ∧ t.dev.obs.fwSeq = s.dev.obs.fwSeq + 1)

/-- FW_LOAD copies an image of the host region. FW_VERIFY starts every ranger on an image that passes, and gives the
reason of one that fails. A doorbell in range is taken. Firmware answers PING with its SVN, writes at most ARG1 bytes
for GET_INFO and GET_REMAP, queues a crew for LAUNCH, retires a bay, lets a crew held at a breakpoint go on past it,
and discards one; it goes on to the next entry each time. A trap record is taken from its die's queue, and a crew that
reported a software trap of 0x8000 or above goes on. -/
def Obligations.FirmwareCommands : Prop :=
  (∀ s v, getBits v 0 1 = 1 → (s.fld rFwStatus fFwStatusState = 0 ∨ s.fld rFwStatus fFwStatusState = 4) →
    (let a := s.fld rFwLoadBase fFwLoadBaseAddr * 4096
     let n := 4096 + s.hostNum (a + 8) 8
     s.inHost a 4096 = true → n ≤ 2 ^ 26 → s.inHost a n = true →
     ∃ t, exec (.fwLoad v) s = .next t ∧ t.dev.fw.image = s.hostRead a n ∧ t.fld rFwStatus fFwStatusState = 2)) ∧
  (∀ s r s1, s.fld rFwStatus fFwStatusState = 2 → s.verifyImage (islRanger 0) 0x0F02 4 s.dev.fw.image = (r, s1) →
    ∃ t, exec .fwVerify s = .next t ∧
      if r = 0 then t.fld rFwStatus fFwStatusState = 3 ∧ t.fld rFwStatus fFwStatusRangersUp = 0xFF
      else t.fld rFwStatus fFwStatusState = 4 ∧ t.fld rFwStatus fFwStatusReason = r % 16) ∧
  (∀ s v, getBits v 0 16 < s.fwqSize rFwCmdqBase → exec (.fwCmdqDoorbell v) s = .next (s.writeReg rFwCmdqTail v)) ∧
  (∀ s v, getBits v 0 16 < s.fwqSize rFwEvtqBase →
    (s.dev.fw.waiting = [] → exec (.fwEvtqDoorbell v) s = .next (s.writeReg rFwEvtqHead v)) ∧
    ∀ e, s.dev.fw.waiting = [e] → (s.writeReg rFwEvtqHead v).evtRoom = true →
      ∃ t, exec (.fwEvtqDoorbell v) s = .next t ∧ t.dev.fw.waiting = []) ∧
  (∀ s e, Takes s 1 e →
    ∃ t, exec .fwPing s = .next t ∧ Advanced s t ∧ Posts s t 1 0 (cmdTag e) [s.fld rFwStatus fFwStatusSvn]) ∧
  (∀ s e, Takes s 2 e → s.inHost (cmdArg e 0) (cmdArg e 1) = true →
    ∃ t, exec .fwGetInfo s = .next t ∧ Advanced s t ∧
      Posts (s.hostWrite (cmdArg e 0) ((Config.pointTable s.dev.fw.image).take (cmdArg e 1))) t 1 0 (cmdTag e)
        [((Config.pointTable s.dev.fw.image).take (cmdArg e 1)).length]) ∧
  (∀ s e, Takes s 7 e → s.inHost (cmdArg e 0) (cmdArg e 1) = true →
    ∃ t, exec .fwGetRemap s = .next t ∧ Advanced s t ∧
      Posts (s.hostWrite (cmdArg e 0) ((Config.remapList s.nv.remaps s.nv.retiredBays).take (cmdArg e 1))) t 1 0
        (cmdTag e) [((Config.remapList s.nv.remaps s.nv.retiredBays).take (cmdArg e 1)).length]) ∧
  (∀ s e b s1 d, Takes s 3 e → s.bayRefusal e = 0 → s.sealed (cmdTent e) = false → s.dev.fw.progress.length < 64 →
    (s.bay (cmdArg e 0)).launchq.length < 16 → s.servedSpan (cmdTent e) (cmdArg e 1) 136 = .hbm →
    s.devRead (cmdTent e) (cmdArg e 1) 136 = (b, false, s1) → cmdArg e 1 % 8 = 0 →
    readLaunch (({} : Store).write 0 b) 0 0 0 = some d →
    ∃ t c, exec .fwLaunch s = .next t ∧ t.dev.fw.progress = s1.dev.fw.progress ++ [c] ∧ c.tag = cmdTag e ∧
      c.bay = cmdArg e 0 ∧ c.tent = cmdTent e ∧
      (t.bay (cmdArg e 0)).launchq = (s1.bay (cmdArg e 0)).launchq ++ [{ d with cmd := c.id }]) ∧
  (∀ s e, Takes s 4 e → s.bayRefusal e = 0 → (s.bay (cmdArg e 0)).retired = false →
    ∃ t, exec .fwRetireBay s = .next t ∧
      t.nv.retiredBays = s.nv.retiredBays ++ [s.bayIsland (cmdArg e 0)]) ∧
  (∀ s e c, Takes s 5 e → s.bayRefusal e = 0 → cmdArg e 1 < 256 → s.heldCrew (cmdArg e 0) (cmdArg e 1) = some (0, c) →
    ∃ t, exec .crewResume s = .next t ∧ Advanced s t ∧ t.crew (cmdArg e 0) (cmdArg e 1) = some c.afterBreak) ∧
  (∀ s e k c, Takes s 6 e → s.bayRefusal e = 0 → s.heldCrew (cmdArg e 0) (cmdArg e 1) = some (k, c) →
    ∃ t, exec .crewDiscard s = .next t ∧
      t.dev.saved = s.dev.saved.filter fun x => x.bay != cmdArg e 0 || !(x.crew.held == some (cmdArg e 1))) ∧
  (∀ s d dataErr r rs, d < 4 → s.fwRuns = true → s.rangerUp (s.rangerOf d) = true →
    s.blocked (islRanger (s.rangerOf d)) = false → SMap.get (fun _ => []) s.dev.traps d = r :: rs →
    ∃ t, exec (.trapRecordHandle d dataErr) s = .next t ∧ SMap.get (fun _ => []) t.dev.traps d = rs ∧
      ∀ c, s.crew r.bay r.slot = some c → c.trapped = true → r.cause = trapSoftware → 0x8000 ≤ r.detail.toNat →
        t.crew r.bay r.slot = some c.afterBreak)

/-- A Basecamp reset that is due ends the freeze and takes the lease away, and Basecamp starts if its image is
accepted; a halt of all its cores asks for one. A poll keeps every reading, and the thermal cap moves by one step of 5
% each 100 ms, never below 30 %. A mailbox command writes its bytes to the buffer and ends with its count; the first
trust key enrols where none is held. A HELLO in the right form opens a handshake, FINISH of a trusted client completes
it where its signature verifies and else closes it, and a connection's end closes the session. -/
def Obligations.LookoutAndMailbox : Prop :=
  (∀ s ok, s.dev.look.restart = true → s.lookoutUp = true → s.ao.warm = none →
    ∃ t, exec (.basecampReset ok) s = .next t ∧ t.dev.look.restart = false ∧ t.freezeState = 0 ∧
      t.dev.jrnl.leaseRunning = false ∧ (ok = false → t.dev.look.basecamp = false) ∧
      (ok = true → s.unarmed = true → SMap.get (fun _ => none) s.nv.mgmt.pending 3 = none →
        (SMap.get (fun _ => {}) s.nv.mgmt.active 3).bytes = [] → t.dev.look.basecamp = true)) ∧
  (∀ s, s.dev.look.basecamp = true → 7 ≤ s.ao.startStep → s.ao.warm = none →
    ∃ t, exec .basecampHaltTimeout s = .next t ∧ t.dev.look.restart = true) ∧
  (∀ s p temps st rails, s.lookoutUp = true →
    ∃ t, exec (.sensorPoll p temps st rails) s = .next t ∧ t.dev.look.sensors.tick = s.copy islLookout ∧
      t.dev.look.sensors.powerMw = p % 2 ^ 32 ∧
      ∀ n, n < 48 → t.dev.look.sensors.temps.getD n 0 =
        if s.dev.desc.hasSensor n = true then (BitVec.ofInt 16 (temps.getD n 0)).toNat else 0) ∧
  (∀ s, s.lookoutUp = true → s.dev.look.capTick + 100000000 ≤ s.ao.tick →
    ∃ t, exec .thermalCapUpdate s = .next t ∧ t.dev.look.capTick = s.ao.tick ∧
      t.dev.look.capSteps =
        (if 16 * (s.nv.mgmt.softC : Int) ≤ s.dev.look.sensors.hottest then min 14 (s.dev.look.capSteps + 1)
         else if s.dev.look.sensors.hottest < 16 * ((s.nv.mgmt.softC : Int) - 5) then s.dev.look.capSteps - 1
         else s.dev.look.capSteps) ∧
      t.fld rPwrCapW fPwrCapWWatts = t.capWatts % 2 ^ 16) ∧
  (∀ s v, s.flag rLkStatus fLkStatusBusy = false →
    ∀ e ∈ [(Instr.lkSensors, s.dev.look.sensors.encode), (.lkInfo, s.infoBytes),
        (.lkGetLog v, s.nv.mgmt.records (getBits v fLkCmdArg.1 fLkCmdArg.2) 1024)],
      ∃ t, exec e.1 s = .next t ∧
        if s.inHost s.lkBuf e.2.length = true then
          LkEnds t 0 e.2.length ∧ t.dev.mem.host = s.dev.mem.host.write s.lkBuf e.2
        else LkEnds t 2 0 ∧ t.dev.mem = s.dev.mem) ∧
  (∀ s, s.flag rLkStatus fLkStatusBusy = false →
    ∃ t, exec .lkEnroll s = .next t ∧
      if s.nv.mgmt.trust = [] ∧ s.inHost s.lkBuf 1312 = true then
        LkEnds t 0 0 ∧ t.nv.mgmt.trust = [Config.sha3 (s.hostRead s.lkBuf 1312)]
      else t.nv = s.nv ∧ t.fld rLkStatus fLkStatusResult = if s.nv.mgmt.trust = [] then 2 else 3) ∧
  (∀ s conn hello, s.lookoutUp = true → s.mgmtSession conn = none →
    (s.dev.look.sessions.filter (·.2.isSome)).length < 4 → field hello 0 2 = 1 → hello.length = 1346 →
    ∃ t x, exec (.mgmtHello conn hello) s = .next t ∧ t.mgmtSession conn = some x ∧ x.on = false ∧
      x.key = hello.drop 34 ∧ x.seqIn = 0 ∧ x.seqOut = 0) ∧
  (∀ s conn ct sig x, s.lookoutUp = true → s.mgmtSession conn = some x → x.on = false →
    Config.sha3 x.key ∈ s.nv.mgmt.trust → ct.length = 1088 →
    ∃ t, exec (.mgmtFinish conn ct sig) s = .next t ∧
      if Config.verify x.key (leBytes 2 0 ++ leBytes 32 (Config.sha3 (leBytes 32 x.h1.toNat ++ ct)).toNat) sig = true then
        (∃ y, t.mgmtSession conn = some y ∧ y.on = true ∧ y.key = x.key) ∧
        ∃ r, t.nv.mgmt.log.getLast? = some r ∧ r.type = 2 ∧ r.keyTag = clientTag x.key
      else t.mgmtSession conn = none) ∧
  (∀ s conn x, s.mgmtSession conn = some x →
    ∃ t, exec (.mgmtConnectionClose conn) s = .next t ∧ t.mgmtSession conn = none)

/-- INFO, SENSORS, GET_LOG and ATTEST answer OK with their bytes, and a TYPE of no request answers BAD_TYPE.
SET_POWER_CAP keeps the operator's cap and PWR_CAP_W follows. SET_CONFIG keeps its three values. RESET asks for a
warm, a cold or a Basecamp reset with source 3. UPDATE_BEGIN opens an update and drops the pending image, UPDATE_DATA
appends at the next offset, and UPDATE_COMMIT makes an image that passes pending and refuses one that fails. TRUST_ADD
and TRUST_REMOVE change the trust list. -/
def Obligations.ManagementRequests : Prop :=
  (∀ s conn seq cipher tag x b, Asks s conn 1 seq cipher tag x b →
    ∃ t, exec (.mgmtInfo conn 1 seq cipher tag) s = .next t ∧ Replied t conn 1 x 0 s.infoBytes) ∧
  (∀ s conn type seq cipher tag x b, Asks s conn type seq cipher tag x b → (type = 0 ∨ 0x0C < type) →
    ∃ t, exec (.mgmtInfo conn type seq cipher tag) s = .next t ∧ Replied t conn type x 1 []) ∧
  (∀ s conn seq cipher tag x b, Asks s conn 2 seq cipher tag x b →
    ∃ t, exec (.mgmtSensors conn seq cipher tag) s = .next t ∧ Replied t conn 2 x 0 s.dev.look.sensors.encode) ∧
  (∀ s conn seq cipher tag x b, Asks s conn 3 seq cipher tag x b → b.length = 12 → 1 ≤ field b 8 4 → field b 8 4 ≤ 16384 →
    ∃ t, exec (.mgmtGetLog conn seq cipher tag) s = .next t ∧
      Replied t conn 3 x 0 (s.nv.mgmt.records (field b 0 8) (min (field b 8 4) 16383))) ∧
  (∀ s conn seq cipher tag x b, Asks s conn 0x0C seq cipher tag x b → b.length = 64 →
    ∃ t, exec (.mgmtAttest conn seq cipher tag) s = .next t ∧
      Replied t conn 0x0C x 0 (s.reportBody 0 b ++ signed "vothes-report" (s.reportBody 0 b) ++ List.replicate 140 0)) ∧
  (∀ s conn seq cipher tag x b, Asks s conn 4 seq cipher tag x b → b.length = 4 →
    30 * s.dev.desc.envelope ≤ 100 * field b 0 4 → field b 0 4 ≤ s.dev.desc.envelope →
    ∃ t, exec (.setPowerCap conn seq cipher tag) s = .next t ∧ Replied t conn 4 x 0 [] ∧
      t.nv.mgmt.operatorCap = some (field b 0 4) ∧ t.fld rPwrCapW fPwrCapWWatts = t.capWatts % 2 ^ 16) ∧
  (∀ s conn seq cipher tag x b, Asks s conn 5 seq cipher tag x b → b.length = 4 → 16 ≤ field b 0 1 → field b 0 1 ≤ 64 →
    70 ≤ field b 1 1 → field b 1 1 ≤ 100 → field b 3 1 = 0 →
    ∃ t, exec (.setConfig conn seq cipher tag) s = .next t ∧ Replied t conn 5 x 0 [] ∧
      t.nv.mgmt.hostGib = field b 0 1 ∧ t.nv.mgmt.softC = field b 1 1 ∧ t.nv.mgmt.ptpDomain = field b 2 1) ∧
  (∀ s conn seq cipher tag x, Asks s conn 6 seq cipher tag x (leBytes 1 0) → s.ao.bootSel ≠ 2 → s.resetRank = 0 →
    4 ≤ s.ao.startStep →
    ∃ t n, exec (.mgmtResetWarm conn seq cipher tag) s = .next t ∧ Replied t conn 6 x 0 [] ∧ t.ao.warm = some (n, 3)) ∧
  (∀ s conn seq cipher tag x, Asks s conn 6 seq cipher tag x (leBytes 1 1) → s.resetRank < 2 →
    ∃ t, exec (.mgmtResetCold conn seq cipher tag) s = .next t ∧ t.ao.causeKind = 1 ∧ t.ao.causeSource = 3 ∧
      t.ao.startStep = 1 ∧ t.ao.tick = s.ao.tick) ∧
  (∀ s conn seq cipher tag x, Asks s conn 6 seq cipher tag x (leBytes 1 2) → 7 ≤ s.ao.startStep → s.ao.warm = none →
    ∃ t, exec (.mgmtResetBasecamp conn seq cipher tag) s = .next t ∧ Replied t conn 6 x 0 [] ∧
      t.dev.look.restart = true) ∧
  (∀ s conn seq cipher tag x b, Asks s conn 7 seq cipher tag x b → b.length = 9 → 1 ≤ field b 0 1 → field b 0 1 ≤ 3 →
    field b 1 8 ≤ 2 ^ 26 → s.dev.look.update = none →
    ∃ t, exec (.updateBegin conn seq cipher tag) s = .next t ∧ Replied t conn 7 x 0 [] ∧
      t.dev.look.update = some { component := field b 0 1, bytes := field b 1 8, data := [] } ∧
      SMap.get (fun _ => none) t.nv.mgmt.pending (field b 0 1) = none) ∧
  (∀ s conn seq cipher tag x b u, Asks s conn 8 seq cipher tag x b → s.dev.look.update = some u → b.drop 8 ≠ [] →
    field b 0 8 = u.data.length → u.data.length + (b.drop 8).length ≤ u.bytes →
    ∃ t, exec (.updateData conn seq cipher tag) s = .next t ∧ Replied t conn 8 x 0 [] ∧
      t.dev.look.update = some { u with data := u.data ++ b.drop 8 }) ∧
  (∀ s conn seq cipher tag x u, Asks s conn 9 seq cipher tag x [] → s.dev.look.update = some u → s.unarmed = true →
    ∃ t, exec (.updateCommit conn seq cipher tag) s = .next t ∧ t.dev.look.update = none ∧
      if s.imageResult u.component u.data = 0 ∧ u.data.length = u.bytes ∧
          (u.component = 2 → Config.descriptorField (u.data.drop 4096) 0 = (s.rd rSecId).toNat) then
        Replied t conn 9 x 0 [] ∧ SMap.get (fun _ => none) t.nv.mgmt.pending u.component =
          some { bytes := u.data, svn := imageSvn u.data }
      else Replied t conn 9 x 5 [] ∧ t.nv.mgmt.pending = s.nv.mgmt.pending) ∧
  (∀ s conn seq cipher tag x b, Asks s conn 0x0A seq cipher tag x b → b.length = 1312 →
    Config.sha3 b ∉ s.nv.mgmt.trust → s.nv.mgmt.trust.length < 8 →
    ∃ t, exec (.trustAdd conn seq cipher tag) s = .next t ∧ Replied t conn 0x0A x 0 [] ∧
      t.nv.mgmt.trust = s.nv.mgmt.trust ++ [Config.sha3 b]) ∧
  (∀ s conn seq cipher tag x b, Asks s conn 0x0B seq cipher tag x b → b.length = 32 →
    BitVec.ofNat 256 (field b 0 32) ∈ s.nv.mgmt.trust → 2 ≤ s.nv.mgmt.trust.length →
    ∃ t, exec (.trustRemove conn seq cipher tag) s = .next t ∧ Replied t conn 0x0B x 0 [] ∧
      t.nv.mgmt.trust = s.nv.mgmt.trust.filter (· != BitVec.ofNat 256 (field b 0 32)))

/-- A descriptor in range is registered, and a retired slot holds none. A search whose index has no gate set starts
with its query; with a gate set it waits. A round, a granule that lands, a re-scoring pass, a posted batch and its
outcome replace the query; a search whose sub-queries have all ended is ready. Re-scoring with nothing left ends with
the query's lists, and a ground-truth pass with the search's list; both drop the query. -/
def Obligations.SearchesRun : Prop :=
  (∀ s x v ix s1, x < 64 → s.flag (rLanternIndexBase x) fLanternIndexBaseValid = false →
    (let q := (s.writeReg (rLanternIndexBase x) v).setFlag (rLanternIndexBase x) fLanternIndexBaseValid false
     readIndex x (q.fld (rLanternIndexBase x) fLanternIndexBaseTent)
       (q.fld (rLanternIndexBase x) fLanternIndexBaseAddr * 64) (4 * q.dev.desc.msds) q = .ok (some ix, s1)) →
    ∃ t, exec (.indexRegister x v) s = .next t ∧ t.indexOf x = some ix ∧
      t.flag (rLanternIndexBase x) fLanternIndexBaseValid = true) ∧
  (∀ s x, x < 64 → ∃ t, exec (.indexRetire x) s = .next t ∧ t.indexOf x = none ∧
    t.flag (rLanternIndexBase x) fLanternIndexBaseValid = false ∧ t.dev.lantern.queries = s.dev.lantern.queries) ∧
  (∀ s n r x, s.req n = some r → r.waitsSearch = true → r.index = some x →
    s.blocked (islLantern (r.engine.getD 0)) = false → s.searchBehind r = false →
    r.admitReq.tick + 8 ≤ s.copy (islLantern (r.engine.getD 0)) → s.queryOk r.tent x (qBlock r.desc) = true →
    ((legsOf r.desc).head? = some 3 → s.inputFault r = false) →
    s.lanternActive (r.engine.getD 0) + qQueries (qBlock r.desc) * x.shards.length ≤ 4096 →
    (∀ s1 vs s2 q s3, gateShut x s = .ok (false, s1) → queryVectors r x s1 = .ok (some vs, s2) →
      startQuery r x (r.engine.getD 0) vs s2 = .ok (q, s3) →
      ∃ t, exec (.searchStart n) s = .next t ∧ t.dev.lantern.queries = s3.dev.lantern.queries ++ [q] ∧
        ∀ p, s3.req n = some p → ∃ p', t.req n = some p' ∧ p'.started = true ∧ p'.legs = p.legs) ∧
    (∀ s1, gateShut x s = .ok (true, s1) →
      ∃ t, exec (.searchStart n) s = .next t ∧ t.dev.lantern.queries = s1.dev.lantern.queries ∧
        n ∈ t.dev.lantern.gateWaited)) ∧
  (∀ s n j r q x y s1, s.req n = some r → s.query n = some q → q.subs[j]? = some x → r.inLeg 3 = true → x.ended = none →
    s.blocked (islLantern q.engine) = false → stepSub (q.args (qBlock r.desc)) (x, q.stats) s = .ok (y, s1) →
    ∃ t z, exec (.searchRound n j) s = .next t ∧ z.beam = y.1.beam ∧ z.rounds = y.1.rounds ∧ z.ended = y.1.ended ∧
      t.dev.lantern.queries = withQuery s1.dev.lantern.queries { q with subs := q.subs.set j z, stats := y.2 } ∧
      (((q.subs.set j y.1).all fun z => z.ended.isSome) = true → ∀ p, s1.req n = some p →
        t.req n = some { p with ready := true })) ∧
  (∀ s n j node r q x y s1, s.req n = some r → s.query n = some q → q.subs[j]? = some x → r.ended = none →
    s.blocked (islLantern q.engine) = false → land (q.args (qBlock r.desc)) node (x, q.stats) s = .ok (y, s1) →
    ∃ t, exec (.granuleReadComplete n j node) s = .next t ∧
      t.dev.lantern.queries = withQuery s1.dev.lantern.queries { q with subs := q.subs.set j y.1, stats := y.2 }) ∧
  (∀ s n r q, s.req n = some r → r.seq = n → s.query n = some q → r.inLeg 4 = true →
    s.blocked (islLantern q.engine) = false → q.lists = [] → q.batch = none →
    (∀ cs subs c s1, q.cands = none →
      rescoreAll (q.args (qBlock r.desc)) (qCodeOnly (qBlock r.desc)) ((List.range q.subs.length).zip q.subs) q.stats s =
        .ok ((cs, subs, c), s1) →
      ∃ t q', exec (.rescoreLeg n) s = .next t ∧ t.dev.lantern.queries = withQuery s1.dev.lantern.queries q' ∧
        q'.cands = some cs ∧ q'.subs = subs ∧ q'.stats = c) ∧
    (∀ q' s1, q.cands.isSome = true → q.reading = false → q.todo ≠ [] →
      postBatch r q (qBlock r.desc) s.liveTick s = .ok (q', s1) →
      ∃ t, exec (.rescoreLeg n) s = .next t ∧ t.dev.lantern.queries = withQuery s1.dev.lantern.queries q') ∧
    (q.cands.isSome = true → q.reading = false → q.todo = [] → qTruth (qBlock r.desc) = false →
      ∃ t p, exec (.rescoreLeg n) s = .next t ∧ t.req n = some p ∧ p.ready = true ∧
        p.list = (q.results (q.args (qBlock r.desc)) (qBlock r.desc)).headD {} ∧
        t.dev.lantern.queries = s.dev.lantern.queries.filter (·.seq != n))) ∧
  (∀ s n r q x h s1, s.req n = some r → s.query n = some q → r.ended = none → q.batch = some x →
    s.blocked (islLantern q.engine) = false → EM.read r.tent (qBuf (qBlock r.desc)) 64 s = .ok (h, s1) → field h 8 8 = 1 →
    ∃ t q', exec (.callbackDone n) s = .next t ∧ t.dev.lantern.queries = withQuery s1.dev.lantern.queries q' ∧
      q' = q.endBatch (fun k => (field h 0x10 8).testBit k) 0 ∧ q'.batch = none) ∧
  (∀ s n q x, s.query n = some q → q.batch = some x → s.blocked (islLantern q.engine) = false →
    x.since + 1000 * s.fld rLanternCfg fLanternCfgCallbackTimeoutUs ≤ s.liveTick →
    ∃ t q', exec (.callbackTimeout n) s = .next t ∧ t.dev.lantern.queries = withQuery s.dev.lantern.queries q' ∧
      q'.batch = none ∧ q'.passed = q.passed ∧ q'.stats.callbackTimeouts = q.stats.callbackTimeouts + 1) ∧
  (∀ s n r q ns s1, s.req n = some r → s.query n = some q → r.inLeg 4 = true → q.lists ≠ [] →
    s.blocked (islSequencer r.home) = false →
    ((List.range q.index.shards.length).mapM fun j => truthNodes (q.args (qBlock r.desc)) j
      (List.range (q.index.shard j).nodes)) s = Except.ok (ns, s1) →
    ∃ t, exec (.groundTruthPass n) s = .next t ∧
      t.dev.lantern.queries = s1.dev.lantern.queries.filter (·.seq != n) ∧
      ∀ p, s1.req n = some p → ∃ p', t.req n = some p' ∧ p'.ready = true ∧ p'.list = q.lists.headD {})

/-- An INSERT or a DELETE that has its turn and succeeds leaves its mutation to commit; an INSERT without room for its
versions waits, and a DELETE of a deleted node is ready at once. A commit ends the mutation, and the request is ready
with the commit stamp as its result. Reclamation drops no version that is not committed. -/
def Obligations.IndexMutations : Prop :=
  (∀ s n r x, s.mutationReady n 1 = some (r, some x) → s.blocked (islLantern (mutationEngine r x)) = false →
    (∀ m s1, insertNode r x (s.mutationStart r (islLantern (mutationEngine r x))) = .ok (some m, s1) →
      ∃ t, exec (.indexInsert n) s = .next t ∧ t.dev.lantern.mutations = s1.dev.lantern.mutations ++ [m]) ∧
    (∀ s1, insertNode r x (s.mutationStart r (islLantern (mutationEngine r x))) = .ok (none, s1) →
      ∃ t, exec (.indexInsert n) s = .next t ∧ n ∈ t.dev.lantern.stalled ∧
        t.dev.lantern.mutations = s.dev.lantern.mutations)) ∧
  (∀ s n r x, s.mutationReady n 2 = some (r, some x) → s.blocked (islLantern (mutationEngine r x)) = false →
    (∀ m s1, deleteNode r x (s.mutationStart r (islLantern (mutationEngine r x))) = .ok (some m, s1) →
      ∃ t, exec (.indexDelete n) s = .next t ∧ t.dev.lantern.mutations = s1.dev.lantern.mutations ++ [m]) ∧
    (∀ s1, deleteNode r x (s.mutationStart r (islLantern (mutationEngine r x))) = .ok (none, s1) →
      ∃ t, exec (.indexDelete n) s = .next t ∧ t.dev.lantern = s1.dev.lantern ∧
        ∀ p, s1.req n = some p → t.req n = some { p with ready := true })) ∧
  (∀ s n r m s1, s.req n = some r → s.dev.lantern.mutations.find? (·.seq == n) = some m → r.ended = none →
    s.blocked (islLantern (mutationEngine r m.index)) = false →
    commitMutation m (s.originate (islLantern (mutationEngine r m.index))).1
      (s.originate (islLantern (mutationEngine r m.index))).2 = .ok ((), s1) →
    ∃ t, exec (.mutationCommit n) s = .next t ∧
      t.dev.lantern.mutations = s1.dev.lantern.mutations.filter (·.seq != n) ∧
      ∀ p, s1.req n = some p → t.req n = some { p with
        result := (s.originate (islLantern (mutationEngine r m.index))).1.bytes, ready := true }) ∧
  (∀ s e, e < 4 * s.dev.desc.msds → s.blocked (islLantern e) = false →
    SMap.get (fun _ => 0) s.dev.lantern.reclaimed e + 1000 * s.fld rLanternCfg fLanternCfgReclaimIntervalUs ≤ s.ao.tick →
    ∃ t, exec (.versionReclaim e) s = .next t ∧ SMap.get (fun _ => 0) t.dev.lantern.reclaimed e = s.ao.tick ∧
      ∀ k, ∀ v ∈ SMap.get (fun _ => []) s.dev.lantern.versions k, v.commit = none →
        v ∈ SMap.get (fun _ => []) t.dev.lantern.versions k)

/-- A descriptor in range whose replicas fit registers a table, and a retired slot's tables are retired. A command
that passes its checks is issued with its parts, and one that fails them completes with STATUS 3. A window of a part
is taken from it, and its poison and row reads are counted. A command without parts left completes with its record.
Sampling starts a new interval, a replica copy ends, a bucket move is begun and ended, and a switch is armed and takes
effect at its tick. -/
def Obligations.TableCommands : Prop :=
  (∀ s x v d s1, x < 256 → s.flag (rTblDescBase x) fTblDescBaseValid = false →
    (let q := (s.writeReg (rTblDescBase x) v).setFlag (rTblDescBase x) fTblDescBaseValid false
     readTable (q.fld (rTblDescBase x) fTblDescBaseTent) (q.fld (rTblDescBase x) fTblDescBaseAddr * 64) [] q =
       .ok (some d, s1)) →
    s1.replicaUsed + d.replicaSpace ≤ 2 ^ 28 →
    ∃ t r, exec (.tableRegister x v) s = .next t ∧ t.dev.tables.regs = s1.dev.tables.regs ++ [r] ∧ r.slot = x ∧
      r.cur = d ∧ r.retired = false ∧ t.flag (rTblDescBase x) fTblDescBaseValid = true) ∧
  (∀ s x, x < 256 → ∃ t, exec (.tableRetire x) s = .next t ∧ t.flag (rTblDescBase x) fTblDescBaseValid = false ∧
    ∀ r ∈ t.dev.tables.regs, r.slot = x → r.retired = true) ∧
  (∀ s isl kind n q b r is_ s1 ps s2,
    ((∃ d, d < 4 ∧ isl = islSequencer d ∧ kind = 0) ∨ (∃ d, d < 8 ∧ isl = islRanger d ∧ kind = 1)) →
    s.blocked isl = false → s.tblSlot (tcTable (b.take 64)) = some r →
    (s.originate isl).2.tcOk n kind r (r.bound (s.originate isl).1) (b.take 64) = true →
    readIndices n (b.take 64) (s.originate isl).2 = .ok (is_, s1) →
    r.split (r.bound (s.originate isl).1) (s.originate isl).1 is_ s1 = .ok (ps, s2) →
    ∃ t c, exec (.tableCommandIssue isl n q b) s = .next t ∧ t.dev.tables.cmds = s2.dev.tables.cmds ++ [c] ∧
      c.bytes = b.take 64 ∧ c.tent = n ∧ c.req = q ∧ c.reg = r.id ∧ c.stamp = (s.originate isl).1 ∧
      c.version = (r.bound (s.originate isl).1).version ∧
      c.rangeCount = ps.foldl (fun k p => k + (p.left.filter (·.slot.isNone)).length) 0 ∧
      c.parts = if tcOp (b.take 64) ≠ 1 ∧ c.rangeCount ≠ 0 then [] else ps) ∧
  (∀ s isl n q b d, d < 4 → isl = islSequencer d → s.blocked isl = false →
    (∀ r, s.tblSlot (tcTable (b.take 64)) = some r →
      (s.originate isl).2.tcOk n 0 r (r.bound (s.originate isl).1) (b.take 64) = false) →
    ∃ t, exec (.tableCommandIssue isl n q b) s = .next t ∧ t.dev.tables.cmds = s.dev.tables.cmds ∧
      t.dev.tables.done = s.dev.tables.done ++ [(isl, leBytes 1 3 ++ List.replicate 15 0)]) ∧
  (∀ s id k given order c r p bad s1 (e : Nat × Instr × (WinArgs → TblCmd → List TblIndex → EM Bool)),
    e ∈ [(1, .tableGather id k given, gatherWindow), (2, .tableScatter id k, scatterWindow),
      (3, .tableScatterAdd id k order, fun a c w => addWindow a c order w)] →
    s.tblCmd id = some c → s.tblReg c.reg = some r → c.parts.find? (·.shard == k) = some p → tcOp c.bytes = e.1 →
    s.blocked (islTable ((r.ver c.version).shards.getD k {}).engine) = false → s.partTurn c r p = true →
    (let v := r.ver c.version
     let w := window (e.1 == 3) v.rowBytes 4096 p.left []
     e.2.2 ⟨c.tent, v, v.shards.getD k {}, (v.shards.getD k {}).device == s.deviceNum, if e.1 = 1 then given else []⟩ c w s =
       .ok (bad, s1) →
     ∃ t, exec e.2.1 s = .next t ∧ t.dev.tables.cmds = withCmd s1.dev.tables.cmds { c with
       poison := c.poison || bad, rowReads := c.rowReads + if e.1 = 2 then 0 else (liveIndices w).length
       parts := if p.left.drop w.length = [] then c.parts.filter (·.shard != k)
         else c.parts.map fun q => if q.shard = k then { q with left := p.left.drop w.length, started := true } else q })) ∧
  (∀ s id c, s.tblCmd id = some c → c.parts = [] → s.blocked (islTable 0) = false →
    ∃ t, exec (.tableCommandComplete id) s = .next t ∧
      t.dev.tables.cmds = s.dev.tables.cmds.filter (·.id != id) ∧
      (c.isOp = false → t.dev.tables.done = s.dev.tables.done ++ [(c.issuer, c.completion)]) ∧
      (c.isOp = true → c.status = 0 → ∀ p, s.req c.req = some p →
        t.req c.req = some { p with result := c.completion, ready := true })) ∧
  (∀ s x counts r, s.tblSlot x = some r → r.cur.mode = 1 → s.blocked (islTable 0) = false →
    r.sampled + 1000 * s.fld rTblCfg fTblCfgSampleIntervalUs ≤ s.ao.tick →
    ∃ t r', exec (.hotSampleInterval x counts) s = .next t ∧ t.dev.tables.regs = withReg s.dev.tables.regs r' ∧
      r'.id = r.id ∧ r'.cur = r.cur ∧ r'.accesses = [] ∧ r'.sampled = s.ao.tick) ∧
  (∀ s x n r v s1, s.tblSlot x = some r → r.next = none → r.cur.copying = true → s.blocked (islTable 0) = false →
    copyRows r.tent r.cur n s = .ok (v, s1) →
    ∃ t, exec (.replicaCopyComplete x n) s = .next t ∧
      t.dev.tables.regs = withReg s1.dev.tables.regs { r with cur := v }) ∧
  (∀ s x bucket shard slot cut r, s.tblSlot x = some r → r.cur.mode = 2 → bucket * 2 ^ r.cur.bucketLog2 < r.cur.rows →
    s.blocked (islRanger 0) = false →
    (r.moves.find? (·.bucket == bucket) = none → s.ao.tick + 10000 ≤ cut → shard < r.cur.shards.length →
      (slot + 1) * 2 ^ r.cur.bucketLog2 ≤ (r.cur.shards.getD shard {}).slots →
      ∃ t, exec (.bucketMove x bucket shard slot cut) s = .next t ∧
        t.dev.tables.regs = withReg s.dev.tables.regs { r with moves := r.moves ++ [⟨bucket, shard, slot, cut⟩] }) ∧
    ∀ m s1, r.moves.find? (·.bucket == bucket) = some m → m.cut + 200 ≤ s.ao.tick → s.bucketQuiet r m = true →
      moveBucket r.tent r.cur m s = .ok ((), s1) →
      ∃ t, exec (.bucketMove x bucket shard slot cut) s = .next t ∧
        t.dev.tables.regs = withReg s1.dev.tables.regs { r with moves := r.moves.filter (·.bucket != bucket) }) ∧
  (∀ s v r d s1, s.tblSlot (getBits v 0 8) = some r → s.ao.tick + 20000 ≤ (s.rd rTblSwitchAt).toNat → r.next = none →
    r.old = none → readTable r.tent (getBits v 14 50 * 64) r.markedRows s = .ok (some d, s1) →
    r.cur.version < d.version → d.mode = r.cur.mode → d.elem = r.cur.elem →
    ∃ t, exec (.tableSwitch v) s = .next t ∧ t.dev.tables.regs =
      withReg s1.dev.tables.regs { r with next := some ((s.rd rTblSwitchAt).toNat, d), marks := [] }) ∧
  (∀ s x r a v, s.tblSlot x = some r → r.next = some (a, v) → a ≤ s.ao.tick →
    ∃ t, exec (.tableSwitchActivate x) s = .next t ∧ ∃ r' ∈ t.dev.tables.regs, r'.id = r.id ∧ r'.cur = v ∧ r'.next = none)

/-- A table is created empty where its range and the pool allow, and destroyed where every panel is INVALID or the
table is RETAINED; otherwise CFG_ERROR is set. A panel read gives the entry's two words. For one panel, MAP_HBM takes
the physical panel picked, MAP_FLASH makes it FLASH and UNMAP INVALID, a prefetch and a demote queue a migration, and
a pin and an unpin set and clear its mark; the status reports one panel done. A write while one is in progress only
sets OVERRUN. A physical panel not in use is retired with result 3, and one in use moves its tent panel to a spare. -/
def Obligations.PanelsMapAndRetire : Prop :=
  (∀ s n r dir, n < 64 →
    ∃ t, exec (.panelTableCreate n r dir) s = .next t ∧
      if 28 ≤ r ∧ r ≤ 56 ∧ s.flag (rMemPanelTableBase n) fMemPanelTableBaseValid = false ∧
          s.poolUsed + 4096 * ((dirBytes r + 4095) / 4096) ≤ s.poolSize then
        t.flag (rMemPanelTableBase n) fMemPanelTableBaseValid = true ∧ t.table n = {} ∧
        t.fld (rMemPanelTableBase n) fMemPanelTableBaseRangeLog2 = r
      else t.flag (rMemPanelTableBase n) fMemPanelTableBaseCfgError = true ∧ t.dev.mem = s.dev.mem) ∧
  (∀ s n, n < 64 →
    ∃ t, exec (.panelTableDestroy n) s = .next t ∧
      if s.flag (rMemPanelTableBase n) fMemPanelTableBaseRetained = true ∨
          ((s.table n).panels.any fun e => e.2.state != 0) = false then
        t.flag (rMemPanelTableBase n) fMemPanelTableBaseValid = false ∧ t.table n = {}
      else t.flag (rMemPanelTableBase n) fMemPanelTableBaseCfgError = true ∧ t.dev.mem = s.dev.mem) ∧
  (∀ s n v, v < s.panelEnd n →
    ∃ t, exec (.panelRead n v) s = .next t ∧ t.rd rMemPanelData0 = (s.panel n v).word0 ∧
      t.rd rMemPanelData1 = (s.panel n v).word1) ∧
  (∀ s n v p, MapReady s n → v < s.panelEnd n → (s.panel n v).state = 0 → LeafRoom s n v →
    (s.residentCount n < s.quota n → s.panelFree (s.tentStacks n) (s.tentInterleave n) p = true →
      s.inReserve (p % 2 ^ 20) = false → s.stackOpen n (p / 2 ^ 20) = true →
      ∃ t, exec (.mapHbm n v 1 [p]) s = .next t ∧ t.panel n v = { state := 1, hbm := p } ∧ MapReports t false 0 1 ∧
        SMap.get (fun _ => none) t.dev.mem.phys p = some ⟨n, v, s.tentStacks n, s.tentInterleave n⟩) ∧
    (s.flashEnabled n = true →
      ∃ t, exec (.mapFlash n v 1) s = .next t ∧ t.panel n v = { state := 2 } ∧ MapReports t false 0 1)) ∧
  (∀ s n v, MapReady s n → v < s.panelEnd n → s.moving n v = false →
    ∃ t, exec (.unmap n v 1) s = .next t ∧ (t.panel n v).state = 0 ∧ MapReports t false 0 1) ∧
  (∀ s n v, MapReady s n → v < s.panelEnd n → (s.panel n v).state = 2 → s.inboundPending n v = false →
    ∃ t m, exec (.hintPrefetch n v 1) s = .next t ∧ MapReports t true 0 1 ∧
      (t.mig (s.engineOf n v)).queue = (s.mig (s.engineOf n v)).queue ++ [m] ∧ m.tent = n ∧ m.panel = v ∧
      m.out = false ∧ m.demand = false) ∧
  (∀ s n v, MapReady s n → v < s.panelEnd n → (s.panel n v).state ≠ 0 → (s.panel n v).state ≠ 5 →
    ((s.panel n v).pin = true ∨ s.pinnedCount n + 1 + 16 ≤ s.quota n →
      ∃ t, exec (.hintPin n v 1) s = .next t ∧ t.panel n v = { s.panel n v with pin := true } ∧ MapReports t true 0 1) ∧
    ∃ t, exec (.hintUnpin n v 1) s = .next t ∧ t.panel n v = { s.panel n v with pin := false } ∧ MapReports t true 0 1) ∧
  (∀ s n v, MapReady s n → v < s.panelEnd n → (s.panel n v).state = 1 → (s.panel n v).pin = false →
    s.flashEnabled n = true → s.outboundPending n v = false →
    ∃ t m, exec (.hintDemote n v 1) s = .next t ∧ MapReports t true 0 1 ∧
      (t.mig (s.engineOf n v)).queue = (s.mig (s.engineOf n v)).queue ++ [m] ∧ m.tent = n ∧ m.panel = v ∧ m.out = true) ∧
  (∀ s n v count picks, s.flag rMemOpStatus fMemOpStatusBusy = true →
    ∀ c ∈ [Instr.mapHbm n v count picks, .mapFlash n v count, .unmap n v count, .hintPrefetch n v count,
        .hintPin n v count, .hintUnpin n v count, .hintDemote n v count],
      exec c s = .next (s.setFlag rMemOpStatus fMemOpStatusOverrun true)) ∧
  (∀ s p, p < 2 ^ 24 → s.flag rMemRetireStatus fMemRetireStatusBusy = false → p / 2 ^ 20 < s.dev.desc.stackCount →
    p ∉ s.nv.retired → s.nv.retired.length < 4096 →
    (s.dev.mem.carved.any fun e => decide (e.1 ≤ p % 2 ^ 20) && decide (p % 2 ^ 20 < e.1 + e.2)) = false →
    (SMap.get (fun _ => none) s.dev.mem.phys p = none →
      ∃ t, exec (.panelRetire p) s = .next t ∧ t.nv.retired = s.nv.retired ++ [p] ∧
        t.fld rMemRetireStatus fMemRetireStatusResult = 3) ∧
    ∀ u q, SMap.get (fun _ => none) s.dev.mem.phys p = some u → s.moving u.tent u.panel = false →
      (∀ g, g < 16 → s.granuleLost u.stackMask u.interleave p g = false) →
      ((List.range 64).map fun k => 2 ^ 20 * (p / 2 ^ 20) + s.dev.mem.reserveSlot + k).find?
        (s.panelFree u.stackMask u.interleave) = some q →
      ∃ t, exec (.panelRetire p) s = .next t ∧ t.nv.retired = s.nv.retired ++ [p] ∧
        t.panel u.tent u.panel = { s.panel u.tent u.panel with hbm := q } ∧
        t.fld rMemRetireStatus fMemRetireStatusResult = 0)

/-- An inbound request with quota takes a physical panel and the panel is MIGRATING_IN; once its reads are done the
panel is RESIDENT. An outbound request whose granules are written back makes its panel MIGRATING_OUT; once written it
has a commit stamp, and once that is settled a panel with no access waiting is FLASH if clean and RESIDENT if not. A
good NVMe completion ends its command; a timeout and a controller's failure mark the SSD failed. A set is created on
SSDs that fit and assembled from agreeing ones; a rebuild starts on a failed slot and ends with the slot good. -/
def Obligations.MigrationsAndFlashSets : Prop :=
  (∀ s m r p, s.blocked (islMigration m) = false → s.nextRequest m = some r → r.out = false →
    (s.mig m).flight.length < 64 → (s.panel r.tent r.panel).state = 2 → s.quotaFree r.tent = true →
    s.panelFree (s.tentStacks r.tent) (s.tentInterleave r.tent) p = true → s.inReserve (p % 2 ^ 20) = false →
    s.stackOpen r.tent (p / 2 ^ 20) = true →
    ∃ t, exec (.inboundMigration m (some p)) s = .next t ∧
      t.panel r.tent r.panel = { s.panel r.tent r.panel with state := 3, hbm := p } ∧
      (t.mig m).flight = (s.mig m).flight ++ [r] ∧ (t.mig m).queue = (s.mig m).queue.filter (· ≠ r)) ∧
  (∀ s n v m r, s.flightOf false n v = some (m, r) → s.blocked (islMigration m) = false → s.nvmeBusy n v = false →
    NothingResumes s → ∃ t, exec (.inboundMigrationDone n v) s = .next t ∧ (t.panel n v).state = 1) ∧
  (∀ s m pick r e s1, s.blocked (islMigration m) = false → s.nextRequest m = some r → r.out = true →
    (s.mig m).flight.length < 64 → (s.panel r.tent r.panel).state = 1 →
    (let q := ((s.dropRequest m r).originate (islMigration m)).2
     let p := s.panel r.tent r.panel
     (if p.homeFlash = true then some p.extent else q.pickExtent r.tent pick) = some e →
     ((q.setExtent (s.fld (rTentFlash r.tent) fTentFlashSet) e (r.tent + 1)).setPanel r.tent r.panel
       { p with state := 4, extent := e, dirty := 0 }).writeBackAll r.tent r.panel
         (if p.homeFlash = true then bitList 16 p.dirty.toNat else List.range 16) = some s1 →
     ∃ t x, exec (.outboundMigration m pick) s = .next t ∧ t.panel r.tent r.panel = s1.panel r.tent r.panel ∧
       (t.mig m).flight = (s1.mig m).flight ++ [x] ∧ x.tent = r.tent ∧ x.panel = r.panel ∧ x.out = true ∧
       x.commit = r.commit)) ∧
  (∀ s n v m r, s.flightOf true n v = some (m, r) → s.blocked (islMigration m) = false → s.nvmeBusy n v = false →
    r.commit = none →
    ∃ t c, exec (.outboundWritebackDone n v) s = .next t ∧ c.island = islMigration m ∧
      (t.mig m).flight = (s.mig m).flight.map fun q => if q = r then { r with commit := some c } else q) ∧
  (∀ s n v m r c, s.flightOf true n v = some (m, r) → s.blocked (islMigration m) = false → r.commit = some c →
    s.settled c = true → NothingResumes s → (∀ a ∈ s.dev.mem.held, a.tent = n → a.addr / 65536 ≠ v) →
    ∃ t, exec (.outboundCommitSettled n v) s = .next t ∧ (t.mig m).flight = (s.mig m).flight.filter (· ≠ r) ∧
      t.panel n v = if (s.panel n v).dirty = 0 then { s.panel n v with state := 2, homeFlash := true }
        else { s.panel n v with state := 1 }) ∧
  (∀ s id c, s.dev.mem.nvme.find? (·.id == id) = some c →
    exec (.nvmeCompletion id 0) s = .next (s.modMem fun m => { m with nvme := m.nvme.filter (·.id ≠ id) })) ∧
  (∀ s slot k j, s.setOfSlot slot = some (k, j) → slot < 16 →
    ((s.failedSlots k).testBit slot = false ∨ (s.flashSet k).rebuilding = some j) →
    (∃ t, exec (.ssdFail slot) s = .next t ∧ (t.failedSlots k).testBit slot = true) ∧
    ∀ id c, (s.dev.mem.nvme.find? fun c => c.id == id && decide (c.since + 2000000000 ≤ s.ao.tick)) = some c →
      c.ssd = slot → ∃ t, exec (.nvmeCommandTimeout id) s = .next t ∧ (t.failedSlots k).testBit slot = true) ∧
  (∀ s k mask plp ident, k < 2 → s.flag (rMemFlashsetCfg k) fMemFlashsetCfgValid = false →
    ∃ t, exec (.flashSetCreate k mask plp ident) s = .next t ∧
      if (s.maskOk k mask && (bitList 16 mask).all fun x => (s.ssd x).fits) = true then
        t.flag (rMemFlashsetCfg k) fMemFlashsetCfgValid = true ∧ (t.flashSet k).slots = bitList 16 mask ∧
        (t.flashSet k).identity = ident ∧ t.fld (rMemFlashsetStatus k) fMemFlashsetStatusState = 1
      else t.flag (rMemFlashsetCfg k) fMemFlashsetCfgValid = false ∧
        t.flag (rMemFlashsetCfg k) fMemFlashsetCfgCfgError = true) ∧
  (∀ s k mask x miss, k < 2 → s.flag (rMemFlashsetCfg k) fMemFlashsetCfgValid = false → s.maskOk k mask = true →
    s.agreedMeta mask = some (x, miss) →
    ∃ t, exec (.flashSetAssemble k mask) s = .next t ∧ t.flag (rMemFlashsetCfg k) fMemFlashsetCfgValid = true ∧
      (t.flashSet k).slots = bitList 16 mask ∧ (t.flashSet k).identity = x.identity) ∧
  (∀ s k slot j g, k < 2 → slot < 16 → (s.flashSet k).slots.findIdx? (· == slot) = some j →
    s.flag (rMemFlashsetCfg k) fMemFlashsetCfgValid = true → (s.failedSlots k).testBit slot = true →
    (s.flashSet k).rebuilding = none → (s.flashSet k).gmin + reservedGranules ≤ g → s.setFailed k = false →
    ∃ t, exec (.flashRebuildGo k slot (some g) true) s = .next t ∧ (t.flashSet k).rebuilding = some j ∧
      (t.ssd slot).present = true ∧ (t.ssd slot).granules = g) ∧
  (∀ s k j, k < 2 → (s.flashSet k).rebuilding = some j → (s.flashSet k).slots.getD j 0 < 16 →
    ∃ t, exec (.flashRebuildDone k) s = .next t ∧ (t.flashSet k).rebuilding = none ∧
      t.flag (rMemFlashsetRebuild k) fMemFlashsetRebuildDone = true ∧
      (t.failedSlots k).testBit ((s.flashSet k).slots.getD j 0) = false)

/-- A registration starts a load, or names DRAINING; a load that has read its image makes the slot valid with the
image at the lowest place of SRAM that fits, and one whose image fails a check or does not fit names the reason; a
retirement ends a load, or stamps the slot. Grammar slots likewise. A TOKENIZE leg whose reads go through leaves
tokens, prompt, passages and stop automaton and is ready. A request before PREFILL takes its contexts when it is the
earliest. A mask is kept for its position; one that allows nothing at position 0 ends the request. -/
def Obligations.TextUnits : Prop :=
  (∀ s x v, x < 8 → s.flag (rKerfVocabBase x) fKerfVocabBaseValid = false →
    s.flag (rKerfVocabBase x) fKerfVocabBaseLoading = false →
    ∃ t, exec (.vocabRegister x v) s = .next t ∧ t.dev.text = s.dev.text ∧
      if s.vocabDraining x = true then t.flag (rKerfVocabBase x) fKerfVocabBaseDescError = true ∧
        t.fld rKerfLastError fKerfLastErrorReason = 6 ∧ t.fld rKerfLastError fKerfLastErrorSlot = x
      else t.flag (rKerfVocabBase x) fKerfVocabBaseLoading = true ∧ t.flag (rKerfVocabBase x) fKerfVocabBaseValid = false ∧
        t.fld (rKerfVocabBase x) fKerfVocabBaseAddr = getBits v 6 50 ∧
        t.fld (rKerfVocabBase x) fKerfVocabBaseTent = getBits v 56 6) ∧
  (∀ s x img bad s1, x < 8 → s.flag (rKerfVocabBase x) fKerfVocabBaseLoading = true → s.blocked (islKerf 0) = false →
    (let t := s.fld (rKerfVocabBase x) fKerfVocabBaseTent
     let a := s.fld (rKerfVocabBase x) fKerfVocabBaseAddr * 64
     let h := (s.devPeek t a 0x180).1
     s.servedSpan t a 0x180 = .hbm → num h 0 2 = 1 → vBytes h = vHeapAt h + vHeap h →
     s.servedSpan t a (vBytes h) = .hbm → s.devRead t a (vBytes h) = (img, bad, s1) →
     ∃ t, exec (.vocabLoadComplete x) s = .next t ∧ t.flag (rKerfVocabBase x) fKerfVocabBaseLoading = false ∧
       if vocabCheck img ≠ 0 then t.flag (rKerfVocabBase x) fKerfVocabBaseDescError = true ∧
         t.fld rKerfLastError fKerfLastErrorReason = vocabCheck img
       else match s1.sramPlace ((vBytes h + 65535) / 65536) with
         | none => t.flag (rKerfVocabBase x) fKerfVocabBaseDescError = true ∧ t.fld rKerfLastError fKerfLastErrorReason = 3
         | some p => (t.vocab x).image = img ∧ (t.vocab x).place = p ∧ (t.vocab x).retired = none ∧
             (∃ st, (t.vocab x).since = some st ∧ st.island = islKerf 0) ∧
             t.flag (rKerfVocabBase x) fKerfVocabBaseValid = true)) ∧
  (∀ s x, x < 8 →
    (s.flag (rKerfVocabBase x) fKerfVocabBaseLoading = true →
      exec (.vocabRetire x) s = .next (s.setFlag (rKerfVocabBase x) fKerfVocabBaseLoading false)) ∧
    (s.flag (rKerfVocabBase x) fKerfVocabBaseLoading = false → s.flag (rKerfVocabBase x) fKerfVocabBaseValid = true →
      ∃ t st, exec (.vocabRetire x) s = .next t ∧ t.vocab x = { s.vocab x with retired := some st } ∧
        st = (s.originate (islKerf 0)).1 ∧ t.flag (rKerfVocabBase x) fKerfVocabBaseValid = false)) ∧
  (∀ s x v, x < 64 → s.flag (rGuyImageBase x) fGuyImageBaseValid = false →
    s.flag (rGuyImageBase x) fGuyImageBaseLoading = false →
    ∃ t, exec (.grammarRegister x v) s = .next t ∧ t.dev.text = s.dev.text ∧
      if s.grammarDraining x = true then t.flag (rGuyImageBase x) fGuyImageBaseDescError = true ∧
        t.fld rGuyLastError fGuyLastErrorReason = 5 ∧ t.fld rGuyLastError fGuyLastErrorSlot = x
      else t.flag (rGuyImageBase x) fGuyImageBaseLoading = true ∧ t.flag (rGuyImageBase x) fGuyImageBaseValid = false) ∧
  (∀ s x h s1, x < 64 → s.flag (rGuyImageBase x) fGuyImageBaseLoading = true → s.blocked (islGuyline 0) = false →
    s.unitRead (s.fld (rGuyImageBase x) fGuyImageBaseTent) (s.fld (rGuyImageBase x) fGuyImageBaseAddr * 64) 128 = .ok (h, s1) →
    (let k := s1.fld (rGuyImageBase x) fGuyImageBaseVocab
     num h 0 2 = 1 ∧ grammarHeaderOk h = true ∧ s1.flag (rKerfVocabBase k) fKerfVocabBaseValid = true ∧
       num h 0x10 8 = num (s1.vocab k).image 8 8 ∧ num h 0xC 4 = vSize (s1.vocab k).image) →
    ∃ t st, exec (.grammarLoadComplete x) s = .next t ∧ t.grammar x = { since := some st, retired := none } ∧
      st.island = islGuyline 0 ∧ t.flag (rGuyImageBase x) fGuyImageBaseValid = true ∧
      t.flag (rGuyImageBase x) fGuyImageBaseLoading = false) ∧
  (∀ s x, x < 64 →
    (s.flag (rGuyImageBase x) fGuyImageBaseLoading = true →
      exec (.grammarRetire x) s = .next (s.setFlag (rGuyImageBase x) fGuyImageBaseLoading false)) ∧
    (s.flag (rGuyImageBase x) fGuyImageBaseLoading = false → s.flag (rGuyImageBase x) fGuyImageBaseValid = true →
      ∃ t st, exec (.grammarRetire x) s = .next t ∧ t.grammar x = { s.grammar x with retired := some st } ∧
        st = (s.originate (islGuyline 0)).1 ∧ t.flag (rGuyImageBase x) fGuyImageBaseValid = false)) ∧
  (∀ s n q stop s1 text prompt s2 ps s3, s.req n = some q → q.seq = n → q.legs.head? = some 1 → q.started = true →
    q.ready = false → s.blocked (islKerf q.kerf) = false →
    (let r := s.freshInputs q
     r.textBad = false →
      (s.inputFault r = true → ∃ t, exec (.tokenizeLeg n) s = .next t ∧
        t.req n = some (q.end_ 0x31 (s.originate (islKerf q.kerf)).1)) ∧
      (s.inputFault r = false →
        let k := tokenizeItem (s1.reqVocab r) text (s1.queryLimit r)
        s.readStop r = .ok (stop, s1) → s1.plainItem r 0 r.text = some text → text.length ≤ 4194304 → k.bad = false →
        s1.generatePrompt r (s1.reqVocab r).image k.tokens = .ok (prompt, s2) →
        State.rerankItems r (s1.reqVocab r) (if r.kind = 3 then dPassages r.desc else 0) 0 (s2.noteItem r k) = .ok (ps, s3) →
        ∃ t, exec (.tokenizeLeg n) s = .next t ∧ ∀ p, s3.req n = some p →
          t.req n = some { p with params := r.params, bias := r.bias, text := r.text, query := k.tokens, prompt := prompt,
                                  passages := ps, stop := stop, ready := true }))) ∧
  (∀ s n r, s.req n = some r → r.beforePrefill = true → r.gen.kerf = none → s.kerfContexts r.kerf < 16384 →
    (∀ q ∈ s.allReqs, q.beforePrefill = true → q.kerf = r.kerf → q.gen.kerf = none →
      q.admitReq.before r.admitReq = false) →
    exec (.kerfContextAcquire n) s =
      .next (s.setReq n (some { r with gen := { r.gen with kerf := some (s.kerfContexts r.kerf) } }))) ∧
  (∀ s n r x g c, s.req n = some r → r.beforePrefill = true → r.grammar = some x → r.gen.guy = none →
    s.guyContexts r.home < 16384 →
    (∀ q ∈ s.allReqs, q.beforePrefill = true → q.grammar.isSome = true → q.home = r.home → q.gen.guy = none →
      q.admitReq.before r.admitReq = false) →
    s.gImage x = .ok g → s.gTokens g (s.reqVocab r).image ⟨g.start, []⟩ r.gen.tokens = .ok (some c) →
    exec (.guylineContextAcquire n) s = .next (s.setReq n (some { r with
      gen := { r.gen with guy := some (s.guyContexts r.home), guyState := c.state, guyStack := c.stack } }))) ∧
  (∀ s n j r g c m, s.req n = some r → r.seq = n → r.gen.guy.isSome = true → r.ended = none →
    s.blocked (islGuyline r.home) = false → r.draftsAllowed j = true → s.gImage (r.grammar.getD 0) = .ok g →
    s.gTokens g (s.reqVocab r).image r.gen.conf ((r.gen.drafts.take j).map (·.1)) = .ok (some c) →
    s.gMask g (s.reqVocab r).image c = .ok m →
    ∃ t, exec (.guylineMask n j) s = .next t ∧
      if j = 0 ∧ (∀ b ∈ m, b = false) then t.req n = some (r.end_ 0x20 (s.originate (islGuyline r.home)).1)
      else t = s.setReq n (some { r with gen := { r.gen with masks := SMap.set (fun _ => []) r.gen.masks j m } }))

/-- A VALID = 1 write that meets the conditions registers a queue and any other sets CFG_ERROR; VALID = 0 disables a
queue, except a completion queue that a VALID submission queue names. A doorbell below the queue's size is written.
The next descriptor of the queues in turn is fetched, HEAD moves on, and one of a known kind joins the fetched ones;
one of another kind is rejected with reason 1. -/
def Obligations.QueuesAndFetching : Prop :=
  (∀ s q v, q < 64 → ∃ t, exec (.sqRegister q v) s = .next t ∧
    if s.sqAccepts q v = true then t.sqValid q = true ∧ t.flag (rSqCfg q) fSqCfgCfgError = false ∧
      t.fld (rSqCfg q) fSqCfgLog2 = getBits v 2 5 ∧ t.sqTent q = getBits v 7 6 ∧ t.sqCq q = getBits v 13 6
    else t = s.setFlag (rSqCfg q) fSqCfgCfgError true) ∧
  (∀ s q, q < 64 → ∃ t, exec (.sqDisable q) s = .next t ∧ t.sqValid q = false ∧
    ∀ o, o ≠ rSqCfg q → t.rd o = s.rd o) ∧
  (∀ s c v, c < 64 → ∃ t, exec (.cqRegister c v) s = .next t ∧
    if s.queueFits (s.fld (rCqBase c) fCqBaseAddr * 32) (getBits v 2 5) 32 = true then t.cqValid c = true ∧
      t.flag (rCqCfg c) fCqCfgCfgError = false ∧ t.fld (rCqCfg c) fCqCfgLog2 = getBits v 2 5
    else t = s.setFlag (rCqCfg c) fCqCfgCfgError true) ∧
  (∀ s c, c < 64 → ∃ t, exec (.cqDisable c) s = .next t ∧ (∀ o, o ≠ rCqCfg c → t.rd o = s.rd o) ∧
    if ((List.range 64).any fun q => s.sqValid q && s.sqCq q == c) = true then t.cqValid c = s.cqValid c ∧
      t.flag (rCqCfg c) fCqCfgCfgError = true
    else t.cqValid c = false ∧ t.flag (rCqCfg c) fCqCfgCfgError = false) ∧
  (∀ s q v, q < 64 → getBits v 0 16 < s.sqSize q → ∃ t, exec (.sqDoorbell q v) s = .next t ∧
    t.fld (rSqTail q) fSqTailTail = getBits v 0 16 ∧ ∀ o, o ≠ rSqTail q → t.rd o = s.rd o) ∧
  (∀ s c v, c < 64 → getBits v 0 16 < s.cqSize c → ∃ t, exec (.cqDoorbell c v) s = .next t ∧
    t.fld (rCqHead c) fCqHeadHead = getBits v 0 16 ∧ ∀ o, o ≠ rCqHead c → t.rd o = s.rd o) ∧
  (∀ s q, s.fetching = true → s.blocked islAdmit = false → (turns s.dev.adm.lastSq).find? s.fetchable = some q →
    ∃ t f, exec .descriptorFetch s = .next t ∧ t.dev.adm.lastSq = q ∧ f.sq = q ∧ f.cq = s.sqCq q ∧ f.sqTent = s.sqTent q ∧
      f.slot = s.fld (rSqHead q) fSqHeadHead % s.sqSize q ∧
      f.bytes = s.hostRead (s.fld (rSqBase q) fSqBaseAddr * 256 + 256 * f.slot) 256 ∧
      if kindKnown (dKind f.bytes) = true then t.dev.adm.fetched = s.dev.adm.fetched ++ [f] ∧
        t.fld (rSqHead q) fSqHeadHead = (f.slot + 1) % s.sqSize q % 2 ^ 16
      else t.dev.adm.fetched = s.dev.adm.fetched ∧ Rejected s t f 1)

/-- The descriptor at the front is rejected for the first reason that holds. With no descriptor of its class held and
a gate and a credit, a request is admitted; otherwise it is held, or rejected with reason 5 where the tent holds as
many as it may. A CANCEL is admitted without credit. The first held descriptor of a class is admitted once its gate
and credit allow. An accept record is taken off its list, written at TAIL, and TAIL moves on; an accepted request is
marked. -/
def Obligations.AdmissionDecides : Prop :=
  (∀ (e : Nat × Instr) s f fs, e ∈ [(1, Instr.requestEmbed), (2, .requestSearch), (3, .requestRerank), (4, .requestGenerate),
      (5, .requestRag), (6, .requestTokenize), (7, .requestIndexMutate), (8, .requestTableOp)] →
    s.dev.adm.fetched = f :: fs → dKind f.bytes = e.1 → s.blocked islAdmit = false →
    (s.rejectReason f ≠ 0 → ∃ t, exec e.2 s = .next t ∧ t.dev.adm.fetched = fs ∧ Rejected s t f (s.rejectReason f)) ∧
    (s.rejectReason f = 0 → s.heldIn (dTent f.bytes) (dClass f.bytes) = [] →
      s.mayAdmit (dTent f.bytes) (dClass f.bytes) = true → f.poison = false →
      ∃ t, exec e.2 s = .next t ∧ t.dev.adm.fetched = fs ∧ Admitted s t f) ∧
    (s.rejectReason f = 0 →
      (s.heldIn (dTent f.bytes) (dClass f.bytes) ≠ [] ∨ s.mayAdmit (dTent f.bytes) (dClass f.bytes) = false) →
      if s.fld (rTentQuota (dTent f.bytes)) fTentQuotaHoldMax ≤ (s.heldOf (dTent f.bytes)).length then
        ∃ t, exec e.2 s = .next t ∧ t.dev.adm.fetched = fs ∧ Rejected s t f 5
      else exec e.2 s = .next (s.modAdm fun a => { a with fetched := fs, held := a.held ++ [f] }))) ∧
  (∀ s f fs, s.dev.adm.fetched = f :: fs → dKind f.bytes = 0x0F → s.blocked islAdmit = false → s.rejectReason f = 0 →
    f.poison = false →
    ∃ t c a, exec .requestCancel s = .next t ∧ t.dev.adm.fetched = fs ∧ t.dev.adm.nextSeq = s.dev.adm.nextSeq + 1 ∧
      t.dev.adm.cancels = s.dev.adm.cancels ++ [c] ∧ c.seq = s.dev.adm.nextSeq ∧ c.target = field f.bytes 0x40 8 ∧
      c.outcome = none ∧ t.dev.adm.accepts = s.dev.adm.accepts ++ [a] ∧ a.seq = s.dev.adm.nextSeq ∧
      t.dev.adm.requests = s.dev.adm.requests) ∧
  (∀ s n c f fs, s.heldIn n c = f :: fs → 1 ≤ dKind f.bytes → dKind f.bytes ≤ 8 → s.blocked islAdmit = false →
    s.booted = true → s.failsafe = false →
    (s.rejectReason f ≠ 0 → ∃ t, exec (.heldDescriptorAdmit n c) s = .next t ∧
      t.dev.adm.held = s.dev.adm.held.erase f ∧ Rejected s t f (s.rejectReason f)) ∧
    (s.rejectReason f = 0 → s.mayAdmit n c = true → f.poison = false →
      ∃ t, exec (.heldDescriptorAdmit n c) s = .next t ∧ t.dev.adm.held = s.dev.adm.held.erase f ∧ Admitted s t f)) ∧
  (∀ s c a, c < 64 → s.cqValid c = true → s.cqFull c = false → s.blocked islAdmit = false → s.nextAccept c = some a →
    a.tent < 64 →
    ∃ t, exec (.acceptRecordPost c) s = .next t ∧ t.dev.adm.accepts = s.dev.adm.accepts.erase a ∧
      t.fld (rCqTail c) fCqTailTail = (s.fld (rCqTail c) fCqTailTail % s.cqSize c + 1) % s.cqSize c % 2 ^ 16 ∧
      (a.status = 0x30 → s.dev.adm.cancels.find? (·.seq == a.seq) = none →
        t.dev.mem.host = s.dev.mem.host.write
          (s.fld (rCqBase c) fCqBaseAddr * 32 + 32 * (s.fld (rCqTail c) fCqTailTail % s.cqSize c))
          ({ a with flags := 0 }.encode (s.fld (rCqTail c) fCqTailPhase))) ∧
      (a.status = 0 → s.dev.adm.cancels.find? (·.seq == a.seq) = none → ∀ r, s.req a.seq = some r →
        t.req a.seq = some { r with accepted := true }))

/-- A leg in progress whose inputs are good leaves its result and is ready: the embedding vector, the passages in
score order, or the passages packed with the prompt. The completion of a ready leg sends its data to the journal for a
tent that is not VOLATILE and takes the leg away: the last leg of a kind that does not generate ends the request
OK_DONE at its stamp, and otherwise the next leg is current and not ready. -/
def Obligations.LegsComplete : Prop :=
  (∀ s n r vec, s.req n = some r → r.inLeg 2 = true → s.blocked (islSequencer r.home) = false → s.inputFault r = false →
    exec (.embedLeg n vec false) s = .next (s.setReq n (some { r with vector := vec, ready := true }))) ∧
  (∀ s n r scores es s1 ps s2, s.req n = some r → r.inLeg 5 = true → s.blocked (islSequencer r.home) = false →
    s.readTemplate r.tent (dPair r.desc) (s.reqVocab r).image 1 = .ok (es, s1) →
    s1.rerankPassages r (s.reqVocab r) = .ok (ps, s2) →
    (∀ p ∈ ps, (buildPrompt es r.query [p.tokens]).length ≤
      s2.modelMax r.tent (if r.kind = 3 then dModel r.desc else dRerankSlot r.desc)) →
    scores.length = ps.length → (∀ x ∈ scores, x.poison = false) →
    ∃ t, exec (.rerankLeg n scores) s = .next t ∧ ∀ p, s2.req n = some p →
      (let l := selectTop 0 false (if r.kind = 3 then dPassages r.desc else dRerankDepth r.desc)
         ((scores.zip ps).map fun x => (x.1.data.toNat, x.2.id))
       t.req n = some { p with
         passages := ps, list := l, ready := true, conditions := p.conditions ||| l.conditions })) ∧
  (∀ s n r es s1, s.req n = some r → r.inLeg 6 = true → s.blocked (islKerf r.kerf) = false →
    s.readTemplate r.tent (dTemplate r.desc) (s.reqVocab r).image 1 = .ok (es, s1) →
    fixedTokens es r.query ≤ dBudget r.desc →
    ∃ t, exec (.packLeg n) s = .next t ∧ ∀ p, s1.req n = some p →
      (let ranked := r.list.entries.map fun e => (e, r.passageTokens e.id)
       let kept := ranked.take (packRun (dBudget r.desc) (separator es) (fixedTokens es r.query) (ranked.map (·.2)))
       t.req n = some { p with
         packed := kept.map fun e => (e.1.id, e.1.score, e.2.length)
         prompt := buildPrompt es r.query (kept.map (·.2)), ready := true })) ∧
  (∀ s n r, s.req n = some r → r.ready = true → r.legs ≠ [] → r.ended = none → r.closing = false → r.resultBad = false →
    s.blocked r.legIsland = false →
    ∃ t p, exec (.legComplete n) s = .next t ∧ t.req n = some p ∧ p.ready = false ∧
      t.dev.jrnl.sent.map JRec.pay = s.dev.jrnl.sent.map JRec.pay ++
        (if s.durability r.tent = 0 then []
        else (r.legData (s.originate r.legIsland).1).map fun d => .leg d.1 d.2) ∧
      if r.legs.length = 1 ∧ genKind r.kind = false then p.ended = some (0, (s.originate r.legIsland).1) ∧ p.legs = []
      else p.ended = none ∧ p.legs = r.legs.drop 1 ∧ p.groups.length = r.groups.length +
        if r.legRecords (s.originate r.legIsland).1 = [] then 0 else 1)

/-- A registration in range takes its slot, and STRM_REG_STATUS tells the result of it, of an unregistration and of a
read. A valid CONSUMER is taken, and a stall ends once there is room. The oldest group that may be published moves
PRODUCER by its records, and a FINAL one frees the ring; without room a stall begins. A cancel that is settled gets
its outcome, its target ends CANCELLED where the outcome is 1, and its record goes to the journal. -/
def Obligations.RingsAndPublication : Prop :=
  (∀ s k n l, k < 65536 → n < 64 →
    ∃ t, exec (.ringRegister k n l) s = .next t ∧
      (let a := s.fld rStrmRegAddr fStrmRegAddrAddr * 64
       let b := ringBytes l (s.sealed n)
       if l < 6 ∨ 20 < l ∨ s.inHost a b = false ∨ s.fld (rTentQuota n) fTentQuotaRingsMax ≤ s.ringCount n then
         t = s.strmResult 1
       else if s.ringOverlap a b = true then t = s.strmResult 2
       else if (s.ring k).isSome = true then t = s.strmResult 3
       else t.ring k = some { addr := a, log2 := l, tent := n } ∧ t.fld rStrmRegStatus fStrmRegStatusResult = 0 ∧
         ∀ j, j ≠ k → t.ring j = s.ring j)) ∧
  (∀ s k, ∃ t, exec (.ringUnregister k) s = .next t ∧
    match s.ring k with
    | none => t = s.strmResult 5
    | some r => if r.bound = 0 then t.ring k = none ∧ t.fld rStrmRegStatus fStrmRegStatusResult = 0
      else t = s.strmResult 4) ∧
  (∀ s k r, s.ring k = some r →
    ∃ t, exec (.ringRead k) s = .next t ∧ t.fld rStrmRegStatus fStrmRegStatusResult = 0 ∧
      t.fld rStrmRegStatus fStrmRegStatusLog2 = r.log2 % 32 ∧ t.fld rStrmRegStatus fStrmRegStatusTent = r.tent % 64 ∧
      t.flag rStrmRegStatus fStrmRegStatusIsBound = (r.bound != 0) ∧ t.rd rStrmRegReq = BitVec.ofNat 64 r.bound ∧
      t.rd rStrmRegData = BitVec.ofNat 64 r.addr) ∧
  (∀ s k r c, s.ring k = some r → takeConsumer r.producer r.consumer r.log2 (s.hostNum (r.addr + 8) 8) = (c, false) →
    ∃ t, exec (.ringConsumerPoll k) s = .next t ∧ t.ring k = some { r with
      consumer := c
      stalled := if ({ r with consumer := c } : Ring).room (((s.req r.bound).map Request.nextSize).getD 1) = true then none
        else r.stalled }) ∧
  (∀ s n r g gs k x c, s.req n = some r → r.seq = n → r.groups = g :: gs → r.ring = some k → s.groupReady g = true →
    (r.recovered = false ∨ r.resumed = true) → s.blocked (islKerf r.kerf) = false → s.ring k = some x →
    takeConsumer x.producer x.consumer x.log2 (s.hostNum (x.addr + 8) 8) = (c, false) →
    ∃ t z, exec (.recordPublish n) s = .next t ∧ t.ring k = some z ∧ z.consumer = c ∧
      if ({ x with consumer := c } : Ring).room g.records.length = true then
        z.producer = x.producer + g.records.length ∧ z.stalled = none ∧ z.bound = (if g.final = true then 0 else x.bound) ∧
        ∃ p, t.req n = some p ∧ p.groups = gs ∧ p.published = r.published + g.records.length ∧
          p.finalDone = (r.finalDone || g.final)
      else z.producer = x.producer ∧ z.stalled.isSome = true ∧
        z.stalls = (if x.stalled.isSome = true then x.stalls else x.stalls + 1) ∧ t.req n = some r) ∧
  (∀ s n c, s.dev.adm.cancels.find? (·.seq == n) = some c → c.outcome = none → s.settled c.stamp = true →
    (∀ r e, s.req c.target = some r → r.ended = some e → s.settled e.2 = true) →
    (∀ r, s.req c.target = some r → s.blocked (islKerf r.kerf) = false) →
    (s.req c.target = none → s.blocked islAdmit = false) →
    ∃ t j, exec (.cancelDecision n) s = .next t ∧ t.dev.jrnl.sent = s.dev.jrnl.sent ++ [j] ∧ j.req = n ∧ j.stamp = c.stamp ∧
      j.pay = .cancel c.target (s.cancelOutcome c) ∧
      t.dev.adm.cancels = s.dev.adm.cancels.map (fun x => if x.seq = n then { x with outcome := some (s.cancelOutcome c) } else x) ∧
      (s.cancelOutcome c = 1 → ∀ r, s.req c.target = some r → t.req c.target = some (r.end_ 0x10 c.stamp)))

/-- A boundary opens a step with the parts that the plans give, or none where they give none. A draft draw adds its
token and probabilities. A draw whose masks are in decides the sequence's part by Kerf's tokens, and under a grammar
by the configuration they lead to. A step commit adds the tokens, ends the request where the tokens end it, and
journals them for a tent that is not VOLATILE. A close ends the step and counts it. -/
def Obligations.StepsDrawAndCommit : Prop :=
  (∀ s n k risk cuts s1 p1 s2 p2, n < 64 → (s.genLoop n k).step = none → s.blocked (s.leadSeq n) = false →
    State.planRunning n risk (((sortBy (outranks risk) ((s.loopReqs n k).filter fun r => s.batched r)).filter
      (·.decoding)).map (·.seq)) s [] = (s1, p1) →
    State.planJoins n risk cuts (sortBy (outranks risk) ((s1.loopReqs n k).filter fun r => s1.batched r && r.joins))
      (s1.fld (rGenCfg n) fGenCfgStepTokens * s1.fld (rGenCfg n) fGenCfgRiskSharePct / 100) s1 p1 = (s2, p2) →
    ∃ t, exec (.stepBoundary n k risk cuts) s = .next t ∧
      if p2 = [] then t = s2
      else t.genLoop n k = { s.genLoop n k with
        step := some { number := (s.genLoop n k).steps, began := s2.liveTick, positions := s2.positions p2, seqs := p2 } }) ∧
  (∀ s n ctx w r x ls tok, s.req n = some r → s.stepSeq r = some x → r.ended = none → x.decided = false →
    r.gen.drafts.length < x.depth → s.ctxClosed (s.tentBays r.tent) ctx = true → s.blocked (islSampler r.home) = false →
    s.mergedLogits (s.tentBays r.tent) ctx r.gen.drafts.length (vSize (s.reqVocab r).image) = (ls, false) →
    (let d := process (r.sampleArgs (r.gen.drafts.map (·.1))) none (s.free + vSize (s.reqVocab r).image) ls
     d.draw w = some tok → ∃ t, exec (.draftDraw n ctx w) s = .next t ∧
       t.req n = some { r with gen := { r.gen with drafts := r.gen.drafts ++ [(tok, d.probs)] } })) ∧
  (∀ s n ctx ws r x ds, s.req n = some r → s.stepSeq r = some x → r.ended = none → x.draws = true → x.decided = false →
    x.depth ≤ r.gen.drafts.length → s.ctxClosed (s.tentBays r.tent) ctx = true → s.blocked (islSampler r.home) = false →
    (∀ j, j ≤ x.depth → r.maskAt j ≠ .wait) →
    s.positionDists r ctx (vSize (s.reqVocab r).image) (x.depth + 1) 0 = (ds, false) →
    (let ts := verify r.greedy ds r.gen.drafts ws
     let q : State := { s with free := s.free + 2 * vSize (s.reqVocab r).image * (x.depth + 1) }
     let s1 := ((q.dropCtx (s.tentBays r.tent) ctx).countDraws ws.length).countDists r.tent ts.length ds
     let out := kerfTokens (s1.reqVocab r).image r.stop ((dFlags r.desc).testBit 0) (dMaxNew r.desc - r.gen.tokens.length)
       { held := r.gen.held, state := r.gen.stopState } ts
     ∀ c, (if r.gen.guy = none then c = r.gen.conf
       else ∃ i, s1.gImage (r.grammar.getD 0) = .ok i ∧
         s1.gTokens i (s1.reqVocab r).image r.gen.conf (out.1.map (·.1)) = .ok (some c)) →
     ∃ t, exec (.samplerDraw n ctx ws) s = .next t ∧ t.stepSeq r = some { x with
       decided := true, tokens := out.1.map (·.1), released := out.1, status := out.2.2, held := out.2.1.held
       stopState := out.2.1.state, guyState := c.state, guyStack := c.stack })) ∧
  (∀ s n r x, s.req n = some r → s.stepSeq r = some x → r.ended = none → r.closing = false → x.decided = true →
    x.committed = false → s.blocked (islSequencer r.home) = false →
    (let st := (s.originate (islSequencer r.home)).1
     ∃ t p, exec (.stepCommit n) s = .next t ∧ t.req n = some p ∧ p.gen.tokens = r.gen.tokens ++ x.tokens ∧
      p.ended = x.status.map (fun e => (e, st)) ∧ t.stepSeq r = some { x with committed := true } ∧
      (x.status = none → p.legs = (if r.legs.head? = some 7 then r.legs.drop 1 else r.legs) ∧ p.gen.running = true ∧
        ∃ g, p.groups = r.groups ++ [g] ∧ g.stamp = st ∧ g.tokens = x.tokens.length ∧
          g.records = x.released.flatMap fun e => tokenRecords st.tick e.1 e.2) ∧
      t.dev.jrnl.sent.length = s.dev.jrnl.sent.length + if s.durability r.tent = 0 then 0 else 1)) ∧
  (∀ s n k p, (s.genLoop n k).step = some p → s.blocked (s.leadSeq n) = false →
    (∀ x ∈ p.seqs, x.draws = true → x.committed = true ∨ ∀ r, s.req x.seq = some r → r.ended.isSome = true) →
    ∃ t, exec (.stepClose n k) s = .next t ∧ t.genLoop n k = { step := none, steps := (s.genLoop n k).steps + 1 })

/-- A batch descriptor joins the queue, of up to four, of a tent that is not FREE. The batch at the front starts once
every request it names is at PREFILL or ended and its slot runs none, with the requests that are not skipped. An
install whose image passes its checks makes the next version, and waits with a result while an older version holds
requests; a retirement ends the current version; a query tells VERSION and DRAINED. -/
def Obligations.BatchesAndAdapters : Prop :=
  (∀ s n v, n < 64 → s.tentState n ≠ 0 → (s.batchQueue n).length < 4 →
    ∃ t, exec (.batchDescriptorWrite n v) s = .next t ∧ t.batchQueue n = s.batchQueue n ++ [getBits v 6 50 * 64]) ∧
  (∀ s n a as, s.batchQueue n = a :: as → s.blocked (s.leadSeq n) = false →
    (let slot := s.hostNum (a + 4) 2
     let count := s.hostNum (a + 2) 2
     let names := (List.range count).map fun i => s.hostNum (a + 0x40 + 8 * i) 8
     s.inHost a (64 + 8 * count) = true → s.hostNum a 2 = 1 → 1 ≤ count → count ≤ 256 →
     (∀ b ∈ s.liveBatches n, b.slot ≠ slot) → (∀ m ∈ names, s.atPrefill m = true) →
     ∃ t, exec (.batchStart n) s = .next t ∧ t.batchQueue n = as ∧
       t.dev.text.named = s.dev.text.named ++ s.batchMembers n slot [] names ∧
       (s.batchMembers n slot [] names ≠ [] → ∃ b ∈ SMap.get (fun _ => []) t.dev.text.running n,
         b.slot = slot ∧ b.members = s.batchMembers n slot [] names))) ∧
  (∀ s n a, n < 64 → a < 1024 → s.blocked (s.leadSeq n) = false →
    (s.adapterDrained n a = false →
      ∃ t, exec (.adapterInstall n a) s = .next t ∧ t.dev.text = s.dev.text ∧
        t.fld rGenAdapterStatus fGenAdapterStatusResult = 4) ∧
    (s.adapterDrained n a = true → ∀ h s1,
      s.unitRead n (s.fld rGenAdapterAddr fGenAdapterAddrAddr * 64) 64 = .ok (h, s1) →
      (let e := s1.adapterCheck n (s.fld rGenAdapterAddr fGenAdapterAddrAddr * 64) h
       let v := SMap.get (fun _ => 0) s1.dev.text.lastVersion (1024 * n + a) + 1
       ∃ t, exec (.adapterInstall n a) s = .next t ∧ t.fld rGenAdapterStatus fGenAdapterStatusResult = e ∧
         if e = 0 then t.fld rGenAdapterStatus fGenAdapterStatusVersion = v % 2 ^ 32 ∧
           ∃ x, (t.adapters n a).getLast? = some x ∧ x.version = v ∧ x.ended = none ∧ x.model = adapterModel h ∧
             x.image = s.fld rGenAdapterAddr fGenAdapterAddrAddr * 64 ∧ ∀ y ∈ t.adapters n a, y ≠ x → y.ended.isSome = true
         else t.dev.text = s1.dev.text))) ∧
  (∀ s n a, n < 64 → a < 1024 → s.blocked (s.leadSeq n) = false →
    (currentVersion (s.adapters n a) = none →
      ∃ t, exec (.adapterRetire n a) s = .next t ∧ t.dev.text = s.dev.text ∧
        t.fld rGenAdapterStatus fGenAdapterStatusResult = 5) ∧
    ((currentVersion (s.adapters n a)).isSome = true →
      ∃ t, exec (.adapterRetire n a) s = .next t ∧ t.fld rGenAdapterStatus fGenAdapterStatusResult = 0 ∧
        currentVersion (t.adapters n a) = none)) ∧
  (∀ s n a, n < 64 → a < 1024 →
    ∃ t, exec (.adapterQuery n a) s = .next t ∧ t.dev.text = s.dev.text ∧
      t.flag rGenAdapterStatus fGenAdapterStatusDrained = s.adapterDrained n a ∧
      t.fld rGenAdapterStatus fGenAdapterStatusResult = (if currentVersion (s.adapters n a) = none then 5 else 0) ∧
      ∀ v, currentVersion (s.adapters n a) = some v → t.fld rGenAdapterStatus fGenAdapterStatusVersion = v.version % 2 ^ 32)

/-- A command in another state than its own sets ERROR to STATE. CONFIGURE returns the tent's registers to their reset
values and keeps the key drawn; ABORT frees it. ACTIVATE that passes its checks is ACTIVE with its models and its
bays, and otherwise ERROR names the check. RESET ends the tent's requests CANCELLED, drops its held descriptors and
has its bays to reset. RELEASE drains, its bays leave, and with nothing registered it is FREE. A quota in range is
taken. -/
def Obligations.TentLifeCycle : Prop :=
  (∀ s n key (e : Nat × Instr), e ∈ [(0, Instr.tentConfigure n key), (1, .tentAbort n), (1, .tentActivate n), (2, .tentReset n),
      (2, .tentRelease n), (2, .tentReloadModels n)] → n < 64 → s.tentState n ≠ e.1 →
    exec e.2 s = .next (s.setFld (rTentCtl n) fTentCtlError 1)) ∧
  (∀ s n key, n < 64 → s.tentState n = 0 →
    ∃ t, exec (.tentConfigure n key) s = .next t ∧ t.tentState n = 1 ∧ t.tent n = { cairnKey := key } ∧
      ∀ o ∈ configRegs n, t.rd o = regReset o) ∧
  (∀ s n, n < 64 → s.tentState n = 1 → ∃ t, exec (.tentAbort n) s = .next t ∧ t.tentState n = 0 ∧
    ∀ o, o ≠ rTentCtl n → t.rd o = s.rd o) ∧
  (∀ s n, n < 64 → s.tentState n = 1 →
    (s.activateError n ≠ 0 → exec (.tentActivate n) s = .next (s.setFld (rTentCtl n) fTentCtlError (s.activateError n))) ∧
    (s.activateError n = 0 → s.blocked islAdmit = false → ∀ m b s1,
      (s.setFlag (rMemPanelTableBase n) fMemPanelTableBaseRetained false).readModels n = .ok (m, b, s1) →
      if 16384 < s.holdSum n then exec (.tentActivate n) s = .next (s.setFld (rTentCtl n) fTentCtlError 8)
      else ∃ t, exec (.tentActivate n) s = .next t ∧ t.tentState n = 2 ∧ (t.tent n).models = b ∧ (t.tent n).modelCount = m ∧
        (∃ st, (t.tent n).activated = some st ∧ st.island = islAdmit) ∧ (t.tent n).released = none ∧
        ∀ k ∈ s.tentBays n, (t.bay k).tent = some n)) ∧
  (∀ s n m b s1, n < 64 → s.tentState n = 2 → s.tentLogFull n = false → s.blocked islAdmit = false →
    s.readModels n = .ok (m, b, s1) →
    ∃ t, exec (.tentReloadModels n) s = .next t ∧ (t.tent n).models = b ∧ (t.tent n).modelCount = m) ∧
  (∀ s n, n < 64 → s.tentState n = 2 → s.blocked islAdmit = false → (∀ k u, (s.bay k).tent = some u → u < 64) →
    (∀ k r, s.req k = some r → r.seq = k) →
    ∃ t, exec (.tentReset n) s = .next t ∧ t.tentState n = (if s.tentBays n = [] then 2 else 3) ∧
      (∀ k ∈ s.tentBays n, (t.bay k).resetDue = true ∧ (t.bay k).crews = []) ∧
      (∀ f ∈ t.dev.adm.held, dTent f.bytes ≠ n) ∧
      ∀ k r, s.req k = some r → r.tent = n → r.finalDone = false → r.ended = none → r.closing = false →
        ∃ p st, t.req k = some p ∧ p.ended = some (0x10, st) ∧ st.island = islAdmit) ∧
  (∀ s n, n < 64 → s.tentState n = 2 → s.blocked islAdmit = false →
    ∃ t, exec (.tentRelease n) s = .next t ∧ t.tentState n = 4 ∧
      (t.tent n).released = some (s.originate islAdmit).1) ∧
  (∀ s n, n < 64 → s.tentState n = 4 → (s.tent n).drained = false → s.requestCount n = 0 →
    ∃ t, exec (.tentReleaseDrained n) s = .next t ∧ (t.tent n).drained = true ∧
      ∀ k ∈ s.tentBays n, (t.bay k).resetDue = true) ∧
  (∀ s n, n < 64 → s.tentState n = 4 → (s.tent n).drained = true → (∀ k, k < 256 → (s.bay k).tent ≠ some n) →
    s.tentRegistered n = false →
    ∃ t, exec (.tentFree n) s = .next t ∧ t.tentState n = 0 ∧ ∀ b ∈ t.dev.text.cairn, b.tent ≠ n) ∧
  (∀ s n v, n < 64 →
    (s.tentState n = 1 → exec (.quotaWrite n v) s = .next (s.writeReg (rTentHbm n) v)) ∧
    (2 ≤ s.tentState n → s.quotaFits n (getBits v 0 24) = true ∨
        getBits v 0 24 ≤ s.quota n ∧ getBits v 0 24 % (bitList 12 (s.tentStacks n)).length = 0 → s.residentCount n ≤ getBits v 0 24 →
      ∃ t, exec (.quotaWrite n v) s = .next t ∧ t.quota n = getBits v 0 24 ∧ t.tentStacks n = s.tentStacks n))

/-- A tick far enough ahead arms a cut of an ACTIVE tent's pending placement where its bays may be had and no cut is
armed; otherwise CUT_REFUSED is set. At its tick the new placement is in effect, EPOCH is one more, the bays that
leave are to be reset and those that arrive are the tent's. -/
def Obligations.PlacementCuts : Prop :=
  (∀ s n v, n < 64 → s.tentState n ≠ 0 →
    ∃ t, exec (.migrationCutArm n v) s = .next t ∧
      if s.tentState n = 2 ∧ s.ao.tick + 100000 ≤ v.toNat ∧ (s.tent n).cutAt = none ∧
          s.baysOk n (s.pendingMask n) = true then
        (t.tent n).cutAt = some v.toNat ∧ (t.tent n).cutBays = s.pendingMask n ∧
        t.flag (rTentStatus n) fTentStatusCutPending = true ∧ t.rd (rTentMigrateAt n) = v
      else t.flag (rTentStatus n) fTentStatusCutRefused = true ∧ (t.tent n).cutAt = (s.tent n).cutAt ∧
        (t.tent n).hasPending = false) ∧
  (∀ s n m, n < 64 → (s.tent n).cutAt = some m → m ≤ s.ao.tick → (∀ k u, (s.bay k).tent = some u → u < 64) →
    ∃ t, exec (.migrationCut n) s = .next t ∧ (t.tent n).cutAt = none ∧
      (∀ j, j < 4 → t.rd (rTentBays n j) = (s.tent n).cutBays.getD j 0) ∧
      t.fld (rTentStatus n) fTentStatusEpoch = (s.fld (rTentStatus n) fTentStatusEpoch + 1) % 2 ^ 32 ∧
      t.flag (rTentStatus n) fTentStatusCutPending = false ∧
      ∀ k, k < 256 →
        (s.hasBay n k = true → t.hasBay n k = false → (t.bay k).resetDue = true ∧ (t.bay k).crews = []) ∧
        (s.hasBay n k = false → t.hasBay n k = true → (t.bay k).tent = some n))

/-- A rate takes effect with the credit accrued at the old one, and a burst caps it. A gate list in range is armed and
replaces the one before it at its tick, and GATE_CURRENT shows the entry in effect; any other write sets REFUSED. An
accounting area in the host region that overlaps no other comes on with zeros. A snapshot far enough ahead is armed,
and once its tick is settled and no contribution before it is owed it is done and none waits. -/
def Obligations.ShapersGatesAccounts : Prop :=
  (∀ s n c v, n < 64 → c < 8 → s.tentState n ≠ 0 →
    (∃ t, exec (.shapeRateWrite n c v) s = .next t ∧ t.dev.regs = (s.writeReg (rShapeRate n c) v).dev.regs ∧
      SMap.get (fun _ => {}) (t.tent n).credits c = ⟨s.creditAt n c (s.copy islAdmit), s.copy islAdmit⟩) ∧
    (∃ t, exec (.shapeBurstWrite n c v) s = .next t ∧ t.dev.regs = (s.writeReg (rShapeBurst n c) v).dev.regs ∧
      SMap.get (fun _ => {}) (t.tent n).credits c =
        ⟨min (s.creditAt n c (s.copy islAdmit)) (t.burst n c * 1000000000), s.copy islAdmit⟩)) ∧
  (∀ s a, ∃ t, exec (.gateListArm a) s = .next t ∧
    if s.ao.tick + 20000 ≤ a.toNat ∧
        s.inHost (s.fld rGateListBase fGateListBaseAddr * 64) (16 * (s.fld rGateListBase fGateListBaseCountM1 + 1)) = true ∧
        (∀ e ∈ s.readGateList, 1000 ≤ e.1 ∧ e.1 ≤ 2 ^ 48) then
      t.dev.gateArmed = some ⟨s.readGateList, a.toNat⟩ ∧ t.flag rGateCurrent fGateCurrentPending = true ∧
        t.rd rGateActivateAt = a ∧ t.dev.gate = s.dev.gate
    else t = s.setFlag rGateCurrent fGateCurrentRefused true) ∧
  (∀ s g, s.dev.gateArmed = some g → g.start ≤ s.ao.tick →
    ∃ t, exec .gateListActivate s = .next t ∧ t.dev.gate = some g ∧ t.dev.gateArmed = none ∧
      t.flag rGateCurrent fGateCurrentPending = false ∧ t.fld rGateCurrent fGateCurrentEntry = (g.at_ s.ao.tick).1 % 64 ∧
      t.fld rGateCurrent fGateCurrentOpen = (g.at_ s.ao.tick).2 % 256) ∧
  (∀ s g, s.dev.gate = some g →
    ∃ t, exec .gateEntryAdvance s = .next t ∧ t.fld rGateCurrent fGateCurrentEntry = (g.at_ s.ao.tick).1 % 64 ∧
      t.flag rGateCurrent fGateCurrentList = true ∧ t.fld rGateCurrent fGateCurrentOpen = (g.at_ s.ao.tick).2 % 256 ∧
      ∀ o, o ≠ rGateCurrent → t.rd o = s.rd o) ∧
  (∀ s n v, n < 64 →
    (let a := getBits v 6 50 * 64
     ∃ t, exec (.acctEnable n v) s = .next t ∧
      if s.inHost a acctArea = true ∧ ((List.range 64).any fun u => u != n && s.acctOn u &&
          (decide (a < s.acctBase u + acctArea) && decide (s.acctBase u < a + acctArea))) = false then
        t.acctOn n = true ∧ t.acctBase n = a ∧ t.flag (rAcctTableBase n) fAcctTableBaseCfgError = false ∧
        SMap.get (fun _ => 0) t.dev.acct.since n = (s.originate islPort).1.key ∧
        ∀ x, a ≤ x → x < a + acctArea → t.dev.mem.host.byte x = 0
      else t = s.setFlag (rAcctTableBase n) fAcctTableBaseCfgError true)) ∧
  (∀ s n, n < 64 → ∃ t, exec (.acctDisable n) s = .next t ∧ t.acctOn n = false ∧
    ∀ o, o ≠ rAcctTableBase n → t.rd o = s.rd o) ∧
  (∀ s v, ∃ t, exec (.acctSnapshotArm v) s = .next t ∧
    if s.ao.tick + 10000 ≤ v.toNat ∧ s.acctPending = false then
      t.acctPending = true ∧ t.rd rAcctSnapshotAt = v ∧ t.flag rAcctSnapshotDone fAcctSnapshotDoneDone = false
    else t = s.setFlag rAcctSnapshotDone fAcctSnapshotDoneRefused true) ∧
  (∀ s, s.acctPending = true → (s.rd rAcctSnapshotAt).toNat + 200 ≤ s.ao.tick → s.blocked islAdmit = false →
    s.acctOwed = false → ∃ t, exec .acctSnapshotWrite s = .next t ∧ t.acctPending = false ∧
      t.flag rAcctSnapshotDone fAcctSnapshotDoneDone = true ∧ t.dev.acct.late = [] ∧
      ∀ n, n < 64 → SMap.get (fun _ => 0) t.dev.acct.count n =
        if s.acctOn n = true then (SMap.get (fun _ => 0) s.dev.acct.count n + 1) % 2 ^ 32
        else SMap.get (fun _ => 0) s.dev.acct.count n)

/-- The oldest record of a kind with room is appended under the next number and is no longer on its way; an ADMIT
without room, SSDs or a serving peer fails, and its request is gone. The end of a request that is settled composes its
FINAL record, waiting for its COMPLETE. A group due is written, and once written its records are marked and in each
journal SSD. A late mirror stalls MIRROR, a new peer starts a copy, the copy's end ends the stall, and a probe tells
CONNECTED. The host's lease runs from ATTACH, is renewed, and ends in ORPHAN. -/
def Obligations.JournalUnit : Prop :=
  (∀ s r (e : Nat × Instr), e ∈ [(1, Instr.journalAdmit), (2, .journalLegResult), (3, .journalTokens), (4, .journalCancel)] →
    s.nextSent e.1 = some r → s.blocked islJournal = false →
    (s.liveBytes + r.size ≤ s.logCapacity → (e.1 = 1 → s.admitLost r = false) →
      ∃ t q, exec e.2 s = .next t ∧ t.dev.jrnl.log.getLast? = some q ∧ q.id = s.dev.jrnl.nextId ∧ q.req = r.req ∧
        q.pay = r.pay ∧ q.stamp = r.stamp ∧ q.cls = r.cls ∧ t.dev.jrnl.nextId = s.dev.jrnl.nextId + 1 ∧
        t.dev.jrnl.sent = s.dev.jrnl.sent.erase r ∧ (r.cls = 2 → q.id ∈ t.dev.jrnl.gather)) ∧
    (e.1 = 1 → s.admitLost r = true ∨ s.logCapacity < s.liveBytes + r.size → ∀ q, s.req r.req = some q → q.accepted = false →
      ∃ t, exec e.2 s = .next t ∧ t.req r.req = none)) ∧
  (∀ s n r e, s.req n = some r → r.ended = some e → r.closing = false → (r.recovered = false ∨ r.resumed = true) →
    s.settled e.2 = true → s.cancelOpen n = false → s.blocked (islKerf r.kerf) = false → s.blocked islJournal = false →
    (let q := s.originate (islKerf r.kerf)
     q.2.liveBytes + (q.2.completeRec r q.1 e.1).size ≤ q.2.logCapacity →
     ∃ t p g, exec (.journalComplete n) s = .next t ∧ t.req n = some p ∧ p.closing = true ∧ p.groups.getLast? = some g ∧
       g.final = true ∧ g.stamp = q.1 ∧ g.records = [finalRecord q.1.tick e.1] ∧
       if e.1 = 0x42 then g.covered = true ∧ t.dev.jrnl = s.dev.jrnl
       else g.covered = false ∧ g.cover = some s.dev.jrnl.nextId ∧ p.groups.length = r.groups.length + 1)) ∧
  (∀ s, s.dev.jrnl.gather ≠ [] → s.dev.jrnl.writing = [] → 2 ≤ s.journalSsds.length →
    (s.orphan = true ∨ 65536 ≤ s.gathered ∨
      s.dev.jrnl.gatherSince + 1000 * s.fld rJrnlCfg fJrnlCfgGroupUs ≤ s.ao.tick) →
    exec .groupCommitWrite s = .next (s.modJrnl fun j => { j with writing := j.gather, gather := [], ssds := s.journalSsds })) ∧
  (∀ s, s.dev.jrnl.writing ≠ [] → 2 ≤ s.journalSsds.length →
    ∃ t, exec .groupWriteComplete s = .next t ∧ t.dev.jrnl.writing = [] ∧
      (∀ r ∈ t.dev.jrnl.log, r.id ∈ s.dev.jrnl.writing → r.written = true) ∧
      ∀ k ∈ s.journalSsds, ∀ r ∈ s.dev.jrnl.log, r.id ∈ s.dev.jrnl.writing →
        ∃ x ∈ (SMap.get (fun _ => {}) t.nv.ssds k).journal, x.id = r.id) ∧
  (∀ s r, r ∈ s.dev.jrnl.log → s.mirrorLate r = true →
    ∃ t, exec .mirrorTimeout s = .next t ∧ t.mirrorStalled = true) ∧
  (∀ s v, s.namesPeer v = true →
    ∃ t, exec (.mirrorPeerChange v) s = .next t ∧ t.dev.jrnl.resync = s.mirrorOpen ∧ t.dev.jrnl.probesLost = 0 ∧
      t.flag rJrnlMirrorPeer fJrnlMirrorPeerResync = true ∧ t.flag rJrnlMirrorPeer fJrnlMirrorPeerConnected = false) ∧
  (∀ s, s.flag rJrnlMirrorPeer fJrnlMirrorPeerResync = true → s.dev.jrnl.resync = [] →
    ∃ t, exec .mirrorResyncComplete s = .next t ∧ t.mirrorStalled = false ∧
      t.flag rJrnlMirrorPeer fJrnlMirrorPeerResync = false ∧
      ∀ r ∈ t.dev.jrnl.log, r.id ∈ s.dev.jrnl.ackHeld → r.acked = true) ∧
  (∀ s, s.flag rJrnlMirrorPeer fJrnlMirrorPeerEnable = true → s.blocked islJournal = false →
    (∃ t, exec (.mirrorProbe true) s = .next t ∧ t.dev.jrnl.probesLost = 0 ∧
      t.flag rJrnlMirrorPeer fJrnlMirrorPeerConnected = true) ∧
    ∃ t, exec (.mirrorProbe false) s = .next t ∧ t.dev.jrnl.probesLost = s.dev.jrnl.probesLost + 1 ∧
      (s.fld rJrnlCfg fJrnlCfgMirrorWaitMs ≤ s.dev.jrnl.probesLost + 1 →
        t.flag rJrnlMirrorPeer fJrnlMirrorPeerConnected = false)) ∧
  (∀ s, s.dev.jrnl.leaseRunning = true →
    exec .hostBeat s = .next (s.modJrnl fun j => { j with leaseSet := s.liveTick }) ∧
    (∃ t, exec .hostDetach s = .next t ∧ t.orphan = true ∧ t.dev.jrnl.leaseRunning = false) ∧
    ∃ t, exec .leaseExpire s = .next t ∧
      if s.dev.jrnl.leaseSet + 1000000 * s.fld rJrnlLeaseMs fJrnlLeaseMsLeaseMs ≤ s.liveTick then
        t.orphan = true ∧ t.dev.jrnl.leaseRunning = false
      else t = s) ∧
  (∀ s, s.dev.jrnl.leaseRunning = false →
    exec .hostBeat s = .next s ∧ exec .hostDetach s = .next s ∧ exec .leaseExpire s = .next s) ∧
  (∀ s, ∃ t, exec .hostAttach s = .next t ∧ t.orphan = false ∧ t.dev.jrnl.leaseRunning = true ∧
    t.dev.jrnl.leaseSet = s.liveTick)

/-- The scan at start-up step 11 makes a recovered request of each counted ADMIT and tells how many. The recovery
table is written where the host region holds it. A recovery names a tent that is not ACTIVE or has nothing to recover,
and otherwise reports OK, BUSY while a request waits for a panel. A reattachment that may be had binds its ring anew.
A ranger's watchdog takes its core down, the third time in a second into FAILSAFE, and its restart brings it up. -/
def Obligations.RecoveryFromTheJournal : Prop :=
  (∀ s bad peer, s.ao.startStep = 11 → s.flag rJrnlStatus fJrnlStatusReplaying = true →
    ∃ t, exec (.replayScan bad peer) s = .next t ∧ t.flag rJrnlStatus fJrnlStatusReplaying = false ∧
      (let admits := (s.counted bad peer).filter fun r => r.pay.kind == 1
       t.fld rJrnlRecoveryStatus fJrnlRecoveryStatusEntries = admits.length % 2 ^ 32 ∧
       ∀ a ∈ admits, a.req ∈ t.dev.jrnl.recovered ∧
         ∃ r, t.req a.req = some r ∧ r.seq = a.req ∧ r.recovered = true ∧ r.accepted = true)) ∧
  (∀ s v, (let s1 := s.writeReg rJrnlRecovery v
     let a := s1.fld rJrnlRecovery fJrnlRecoveryAddr * 64
     let rs := s.dev.jrnl.recovered.filterMap s.req
     ∃ t, exec (.recoveryTableWrite v) s = .next t ∧
       if s1.inHost a (32 * rs.length) = true then t.flag rJrnlRecoveryStatus fJrnlRecoveryStatusDone = true ∧
         t.dev.mem.host = s.dev.mem.host.write a (rs.flatMap Request.recoveryEntry)
       else t.flag rJrnlRecoveryStatus fJrnlRecoveryStatusDone = false ∧ t.dev.mem = s.dev.mem)) ∧
  (∀ s n, n < 64 →
    (let mine := (s.dev.jrnl.recovered.filterMap s.req).filter fun r => r.tent == n
     ∃ t, exec (.tentRecover n) s = .next t ∧
      if (s.dev.jrnl.resuming.any fun u => u != n) = true then t = s.setFld rJrnlRecover fJrnlRecoverResult 4
      else if s.tentState n ≠ 2 then t = s.setFld rJrnlRecover fJrnlRecoverResult 1
      else if mine = [] then t = s.setFld rJrnlRecover fJrnlRecoverResult 3
      else if (∃ r ∈ mine, ∃ x ∈ r.replay, x.keyId ≠ (s.tent n).keyId) then t = s.setFld rJrnlRecover fJrnlRecoverResult 2
      else if s.blocked (islRanger 0) = true then t = s
      else t.fld rJrnlRecover fJrnlRecoverResult = 0 ∧
        (t.flag rJrnlRecover fJrnlRecoverBusy = true ↔
          ∃ r ∈ mine, ∃ p, t.req r.seq = some p ∧ p.resumed = false) ∧
        t.dev.jrnl.resuming = if t.flag rJrnlRecover fJrnlRecoverBusy = true then some n else none)) ∧
  (∀ s k r x, (let n := (s.rd rJrnlReattachSeq).toNat
     let next := (s.rd rJrnlReattachNext).toNat
     s.req n = some r → (r.recovered = true ∨ r.orphaned = true) → r.finalDone = false → next ≤ s.takenOver r →
     s.ring k = some x → x.tent = r.tent → x.bound = 0 →
     ∃ t, exec (.requestReattach k) s = .next t ∧ t.fld rJrnlReattachStatus fJrnlReattachStatusResult = 0 ∧
       t.req n = some (r.reattach next k) ∧
       ((r.reattach next k).ring ≠ none → t.ring k = some { x with
         producer := 0, consumer := 0, bound := n, stalls := 0, stalled := none }))) ∧
  (∀ s k, (s.req (s.rd rJrnlReattachSeq).toNat = none ∨
      ∃ r, s.req (s.rd rJrnlReattachSeq).toNat = some r ∧ r.recovered = false ∧ r.orphaned = false) →
    exec (.requestReattach k) s = .next (s.setFld rJrnlReattachStatus fJrnlReattachStatusResult 1)) ∧
  (∀ s r, r < 8 → s.rangerUp r = true →
    (let recent := (SMap.get (fun _ => []) s.dev.rangers r).filter fun t => decide (s.liveTick < t + 1000000000)
     ∃ t, exec (.rangerWatchdogExpire r) s = .next t ∧
       SMap.get (fun _ => []) t.dev.rangers r = recent ++ [s.liveTick] ∧ (2 ≤ recent.length → InFailsafe t 3))) ∧
  (∀ s r, r < 8 → s.rangerUp r = false → SMap.get (fun _ => []) s.dev.rangers r ≠ [] →
    (∃ t, exec (.rangerRestartComplete r false) s = .next t ∧ InFailsafe t 3) ∧
    (s.armedAt (islRanger r) 0x0E01 = false →
      ∃ t, exec (.rangerRestartComplete r true) s = .next t ∧ t.rangerUp r = true))

/-- With a command c at the front of the queue, step is exec of c on the state whose queue is the rest. -/
def Obligations.StepRunsFrontCommand : Prop :=
  ∀ (c : Instr) (cs : List Instr) (s : State),
    step { s with pending := c :: cs } = exec c { s with pending := cs }

/-- With no command waiting, step answers the state with the reference tick one higher and nothing else changed. That
the tick passes there and nowhere else is the model's choice (log entry 1). -/
def Obligations.EmptyQueueTicks : Prop :=
  ∀ s : State, s.pending = [] →
    ∃ t, step s = .next t ∧ t.ao.tick = s.ao.tick + 1 ∧ t.ao = { s.ao with tick := t.ao.tick } ∧ t.dev = s.dev ∧
      t.nv = s.nv ∧ t.free = s.free ∧ t.pending = []

/-- After reset the tick count is 0, the queue is empty, and every register holds the reset value of its fields. No
freeze is armed and the tick registers of the freeze read all ones, every tent is FREE, no link is UP, no crew is
resident, and no byte store lists anything. The stores are in canonical form. -/
def Obligations.ResetState : Prop :=
  State.reset.ao.tick = 0 ∧ State.reset.pending = [] ∧ State.reset.canonical = true ∧
  (∀ o, State.reset.rd o = regReset o) ∧ State.reset.freezeState = 0 ∧ State.reset.rd rTimeFreezeAt = noTick ∧
  State.reset.rd rTimeResumeAt = noTick ∧ (∀ n, n < 64 → State.reset.tentState n = 0) ∧
  (∀ l, l < 16 → State.reset.linkUp l = false) ∧ (∀ b k, State.reset.crew b k = none) ∧
  ∀ a, State.reset.dev.mem.host.byte a = 0 ∧ State.reset.dev.mem.hbm.byte a = 0

/-- The syndrome is the stored check bits XOR those of the stored data. 0 delivers the data as stored, a single set
bit corrects a check bit, a column inverts its data bit, 0x70 is poison, and any other value is uncorrectable and
treated as poisoned. Two inverted bits of a stored word give a syndrome of the last kind, and 0x64, 0x68 and 0x70 are
no column. -/
def Obligations.CheckCode : Prop :=
  (∀ c, let d := c % 2 ^ 32
    let syn := (c / 2 ^ 32) % 128 ^^^ eccCheck d
    (syn = 0 → eccDecode c = .clean d) ∧ (∀ j, j < 7 → syn = 2 ^ j → eccDecode c = .corrected d syn) ∧
    (∀ i, i < 32 → syn = eccCols.getD i 0 → eccDecode c = .corrected (d ^^^ 2 ^ i) syn) ∧
    (syn = 0x70 → eccDecode c = .poisoned d) ∧
    (syn ≠ 0 → syn ≠ 0x70 → (∀ j, j < 7 → syn ≠ 2 ^ j) → syn ∉ eccCols → eccDecode c = .bad d syn)) ∧
  (∀ d i j, d < 2 ^ 32 → i < j → j < 39 →
    ∃ x syn, eccDecode (eccEncode d false ^^^ 2 ^ i ^^^ 2 ^ j) = .bad x syn ∧
      ((List.range 7).filter syn.testBit).length % 2 = 0) ∧
  (0x64 ∉ eccCols ∧ 0x68 ∉ eccCols ∧ 0x70 ∉ eccCols) ∧
  ∀ (s : State) isl detector space addr flags d syn,
    (s.deliver isl detector space addr flags (.bad d syn)).1 = ⟨BitVec.ofNat 32 d, true⟩ ∧
    (s.deliver isl detector space addr flags (.poisoned d)).1 = ⟨BitVec.ofNat 32 d, true⟩ ∧
    (s.deliver isl detector space addr flags (.corrected d syn)).1 = ⟨BitVec.ofNat 32 d, false⟩ ∧
    (s.deliver isl detector space addr flags (.clean d)).1 = ⟨BitVec.ofNat 32 d, false⟩

/-- For every command that is an instruction of a bay, with every field of its words at every value, the decoder reads
the command back from its words at the crew that runs it; and two instructions of one crew with the same words are the
same. -/
def Obligations.BayWordsDecode : Prop :=
  (∀ i x w2, bayWords i = some x → (x.second = none ∨ x.second = some w2) → instrAt x.bay x.slot x.word w2 = some i) ∧
  ∀ i j x, bayWords i = some x → bayWords j = some x → i = j

/-- For every state whose front command does not begin a new epoch (a power-on, or a reset by SUP1), if step answers a
next state then its tick count is at least what it was. -/
def Obligations.TickNeverFalls : Prop :=
  ∀ (n : Nat) (s t : State), s.sameEpoch = true → n ≤ s.ao.tick → step s = .next t → n ≤ t.ao.tick
end

