-- ==== Sys2Proof/Laws/Map.lean ====
section
/-! SUPPORT. The laws of the sparse maps and of the byte stores: a read after a write gives the value written, a write
leaves every other place alone, and every operation keeps the canonical form. -/

namespace Sys2Proof.Machine

variable {α : Type}

/-! Reading after writing. -/

theorem SMap.get_erase (d : Nat → α) (m : SMap α) (k j : Nat) :
    SMap.get d (SMap.erase m k) j = if j = k then d j else SMap.get d m j := by
  induction m with
  | nil => simp [SMap.erase, SMap.get]
  | cons e m ih =>
    obtain ⟨i, v⟩ := e
    by_cases h : i = k
    · subst h
      by_cases hj : j = i
      · subst hj; simpa [SMap.erase] using ih
      · simp [SMap.erase, ih, SMap.get, hj, Ne.symm hj]
    · by_cases hj : j = k
      · subst hj; simp [SMap.erase, SMap.get, h, ih]
      · simp [SMap.erase, SMap.get, h, ih, hj]

theorem SMap.get_put (d : Nat → α) (m : SMap α) (k : Nat) (v : α) (j : Nat) :
    SMap.get d (SMap.put m k v) j = if j = k then v else SMap.get d m j := by
  induction m with
  | nil => by_cases h : j = k <;> simp [SMap.put, SMap.get, h, Ne.symm]
  | cons e m ih =>
    obtain ⟨i, w⟩ := e
    simp only [SMap.put]
    split
    · by_cases h : k = j
      · simp [SMap.get, h]
      · simp [SMap.get, h, Ne.symm h]
    · split
      · rename_i h; subst h
        by_cases h : i = j
        · simp [SMap.get, h]
        · simp [SMap.get, h, Ne.symm h]
      · rename_i h1 h2
        by_cases h : j = k
        · subst h; simp [SMap.get, ih, h2]
        · simp [SMap.get, ih, h]

/-- A write sets the key written and no other. -/
theorem SMap.get_set [DecidableEq α] (d : Nat → α) (m : SMap α) (k : Nat) (v : α) (j : Nat) :
    SMap.get d (SMap.set d m k v) j = if j = k then v else SMap.get d m j := by
  unfold SMap.set
  split
  · rename_i h
    rw [SMap.get_erase, h]
    by_cases hj : j = k <;> simp [hj]
  · exact SMap.get_put d m k v j

@[simp] theorem SMap.get_set_same [DecidableEq α] (d : Nat → α) (m : SMap α) (k : Nat) (v : α) :
    SMap.get d (SMap.set d m k v) k = v := by simp [SMap.get_set]

theorem SMap.get_set_other [DecidableEq α] (d : Nat → α) (m : SMap α) (k : Nat) (v : α) (j : Nat) (h : j ≠ k) :
    SMap.get d (SMap.set d m k v) j = SMap.get d m j := by simp [SMap.get_set, h]

/-- Changing a key changes it alone. -/
theorem SMap.get_mod [DecidableEq α] (d : Nat → α) (m : SMap α) (k : Nat) (f : α → α) (j : Nat) :
    SMap.get d (SMap.mod d m k f) j = if j = k then f (SMap.get d m k) else SMap.get d m j := by
  unfold SMap.mod
  exact SMap.get_set d m k _ j

/-- Writing a list sets its keys alone. -/
theorem SMap.get_setList [DecidableEq α] (d : Nat → α) (vs : List α) (m : SMap α) (k j : Nat) :
    SMap.get d (SMap.setList d m k vs) j =
      if h : k ≤ j ∧ j - k < vs.length then vs[j - k] else SMap.get d m j := by
  induction vs generalizing m k with
  | nil => simp [SMap.setList]
  | cons v vs ih =>
    rw [SMap.setList, ih]
    by_cases h1 : k + 1 ≤ j ∧ j - (k + 1) < vs.length
    · have h2 : k ≤ j ∧ j - k < (v :: vs).length := by simp; omega
      have e : j - k = (j - (k + 1)) + 1 := by omega
      simp only [h1, h2, and_self, dite_true]
      simp [e]
    · by_cases hj : j = k
      · subst hj; simp
      · have h2 : ¬ (k ≤ j ∧ j - k < (v :: vs).length) := by simp; omega
        simp only [h1, h2, dite_false]
        exact SMap.get_set_other _ _ _ _ _ hj

/-! The canonical form. -/

theorem SMap.wfFrom_mono [DecidableEq α] (d : Nat → α) (m : SMap α) (a b : Nat) (h : b ≤ a)
    (w : SMap.wfFrom d a m = true) : SMap.wfFrom d b m = true := by
  cases m with
  | nil => rfl
  | cons e m =>
    obtain ⟨k, v⟩ := e
    simp only [SMap.wfFrom, Bool.and_eq_true, decide_eq_true_eq] at *
    exact ⟨⟨by omega, w.1.2⟩, w.2⟩

theorem SMap.erase_wf [DecidableEq α] (d : Nat → α) (m : SMap α) (k n : Nat) (w : SMap.wfFrom d n m = true) :
    SMap.wfFrom d n (SMap.erase m k) = true := by
  induction m generalizing n with
  | nil => rfl
  | cons e m ih =>
    obtain ⟨i, v⟩ := e
    simp only [SMap.wfFrom, Bool.and_eq_true, decide_eq_true_eq] at w
    simp only [SMap.erase]
    split
    · exact SMap.wfFrom_mono d _ (i + 1) n (by omega) (ih _ w.2)
    · simp only [SMap.wfFrom, Bool.and_eq_true, decide_eq_true_eq]
      exact ⟨w.1, ih _ w.2⟩

theorem SMap.put_wf [DecidableEq α] (d : Nat → α) (m : SMap α) (k n : Nat) (v : α) (hv : v ≠ d k) (hn : n ≤ k)
    (w : SMap.wfFrom d n m = true) : SMap.wfFrom d n (SMap.put m k v) = true := by
  induction m generalizing n with
  | nil => simp [SMap.put, SMap.wfFrom, hv, hn]
  | cons e m ih =>
    obtain ⟨i, x⟩ := e
    simp only [SMap.wfFrom, Bool.and_eq_true, decide_eq_true_eq] at w
    simp only [SMap.put]
    split
    · simp only [SMap.wfFrom, Bool.and_eq_true, decide_eq_true_eq]
      exact ⟨⟨hn, hv⟩, ⟨by omega, w.1.2⟩, w.2⟩
    · split
      · rename_i h; subst h
        simp only [SMap.wfFrom, Bool.and_eq_true, decide_eq_true_eq]
        exact ⟨⟨hn, hv⟩, w.2⟩
      · simp only [SMap.wfFrom, Bool.and_eq_true, decide_eq_true_eq]
        exact ⟨w.1, ih _ (by omega) w.2⟩

/-- A write keeps the canonical form. -/
theorem SMap.set_wf [DecidableEq α] (d : Nat → α) (m : SMap α) (k : Nat) (v : α) (w : SMap.wf d m = true) :
    SMap.wf d (SMap.set d m k v) = true := by
  unfold SMap.wf SMap.set at *
  split
  · exact SMap.erase_wf d m k 0 w
  · rename_i h
    exact SMap.put_wf d m k 0 v h (by omega) w

theorem SMap.mod_wf [DecidableEq α] (d : Nat → α) (m : SMap α) (k : Nat) (f : α → α) (w : SMap.wf d m = true) :
    SMap.wf d (SMap.mod d m k f) = true := SMap.set_wf d m k _ w

theorem SMap.setList_wf [DecidableEq α] (d : Nat → α) (vs : List α) (m : SMap α) (k : Nat) (w : SMap.wf d m = true) :
    SMap.wf d (SMap.setList d m k vs) = true := by
  induction vs generalizing m k with
  | nil => exact w
  | cons v vs ih => exact ih _ _ (SMap.set_wf d m k v w)

/-- Dropping keys keeps the canonical form. -/
theorem SMap.filter_wf [DecidableEq α] (d : Nat → α) (p : Nat × α → Bool) (m : SMap α) (n : Nat)
    (w : SMap.wfFrom d n m = true) : SMap.wfFrom d n (m.filter p) = true := by
  induction m generalizing n with
  | nil => rfl
  | cons e m ih =>
    obtain ⟨i, v⟩ := e
    simp only [SMap.wfFrom, Bool.and_eq_true, decide_eq_true_eq] at w
    rw [List.filter_cons]
    split
    · simp only [SMap.wfFrom, Bool.and_eq_true, decide_eq_true_eq]
      exact ⟨w.1, ih _ w.2⟩
    · exact SMap.wfFrom_mono d _ (i + 1) n (by omega) (ih _ w.2)

theorem SMap.clearRange_wf [DecidableEq α] (d : Nat → α) (m : SMap α) (k n : Nat) (w : SMap.wf d m = true) :
    SMap.wf d (SMap.clearRange m k n) = true := SMap.filter_wf d _ m 0 w

/-! Byte stores. -/

/-- A write sets the bytes it names and no other. -/
theorem Store.byte_write (m : Store) (a : Nat) (bs : List Byte) (bad : Bool) (x : Nat) :
    (m.write a bs bad).byte x = if h : a ≤ x ∧ x - a < bs.length then bs[x - a] else m.byte x := by
  simp only [Store.byte, Store.write]
  exact SMap.get_setList _ bs m.bytes a x

/-- Bytes outside a write are as before. -/
theorem Store.byte_write_outside (m : Store) (a : Nat) (bs : List Byte) (bad : Bool) (x : Nat)
    (h : x < a ∨ a + bs.length ≤ x) : (m.write a bs bad).byte x = m.byte x := by
  rw [Store.byte_write, dif_neg (by omega)]

theorem Store.poison_wf (p : SMap Bool) (ws : List Nat) (f : SMap Bool → Nat → SMap Bool)
    (hf : ∀ p w, SMap.wf (fun _ => false) p = true → SMap.wf (fun _ => false) (f p w) = true)
    (w : SMap.wf (fun _ => false) p = true) : SMap.wf (fun _ => false) (ws.foldl f p) = true := by
  induction ws generalizing p with
  | nil => exact w
  | cons x ws ih => exact ih _ (hf _ _ w)

/-- A write keeps the canonical form. -/
theorem Store.write_wf (m : Store) (a : Nat) (bs : List Byte) (bad : Bool) (w : m.wf = true) :
    (m.write a bs bad).wf = true := by
  simp only [Store.wf, Bool.and_eq_true] at w ⊢
  refine ⟨SMap.setList_wf _ _ _ _ w.1, Store.poison_wf _ _ _ (fun p x hp => ?_) w.2⟩
  split
  · exact SMap.set_wf _ _ _ _ hp
  · split
    · exact SMap.set_wf _ _ _ _ hp
    · exact hp

theorem Store.put_wf (m : Store) (a n x : Nat) (bad : Bool) (w : m.wf = true) : (m.put a n x bad).wf = true :=
  Store.write_wf m a _ bad w

/-- A copy keeps the canonical form of its destination. -/
theorem Store.copyWords_wf (src : Store) (sa : Nat) (dst : Store) (da n : Nat) (w : dst.wf = true) :
    (src.copyWords sa dst da n).wf = true := by
  unfold Store.copyWords
  generalize (List.range ((n + 3) / 4)) = l
  have h0 : (dst.write da (src.read sa n)).wf = true := Store.write_wf _ _ _ _ w
  generalize dst.write da (src.read sa n) = m at h0
  simp only
  induction l generalizing m with
  | nil => exact h0
  | cons i l ih =>
    apply ih
    beta_reduce
    split
    · simp only [Store.wf, Bool.and_eq_true] at h0 ⊢
      exact ⟨h0.1, SMap.set_wf _ _ _ _ h0.2⟩
    · exact h0

end Sys2Proof.Machine
end

