-- ==== Sys2Proof/Laws/State.lean ====
section
/-! SUPPORT. What each setter of the state writes and what it leaves alone: one lemma a part of the state, true by rfl. -/

namespace Sys2Proof.Machine

@[simp] theorem State.modAcct_ao (s : State) (f : Acct → Acct) : (s.modAcct f).ao = s.ao := rfl
@[simp] theorem State.modAcct_nv (s : State) (f : Acct → Acct) : (s.modAcct f).nv = s.nv := rfl
@[simp] theorem State.modAcct_dev (s : State) (f : Acct → Acct) :
    (s.modAcct f).dev = { s.dev with acct := f s.dev.acct } := rfl
@[simp] theorem State.modAcct_free (s : State) (f : Acct → Acct) : (s.modAcct f).free = s.free := rfl
@[simp] theorem State.modAcct_pending (s : State) (f : Acct → Acct) : (s.modAcct f).pending = s.pending := rfl

@[simp] theorem State.setCoupler_ao (s : State) (src dst : Nat) (l : List Item) : (s.setCoupler src dst l).ao = s.ao := rfl
@[simp] theorem State.setCoupler_nv (s : State) (src dst : Nat) (l : List Item) : (s.setCoupler src dst l).nv = s.nv := rfl
@[simp] theorem State.setCoupler_dev (s : State) (src dst : Nat) (l : List Item) :
    (s.setCoupler src dst l).dev = { s.dev with couplers := SMap.set (fun _ => []) s.dev.couplers (couplerKey src dst) l } := rfl
@[simp] theorem State.setCoupler_free (s : State) (src dst : Nat) (l : List Item) : (s.setCoupler src dst l).free = s.free := rfl
@[simp] theorem State.setCoupler_pending (s : State) (src dst : Nat) (l : List Item) : (s.setCoupler src dst l).pending = s.pending := rfl

@[simp] theorem State.setInbox_ao (s : State) (n : Nat) (l : List Item) : (s.setInbox n l).ao = s.ao := rfl
@[simp] theorem State.setInbox_nv (s : State) (n : Nat) (l : List Item) : (s.setInbox n l).nv = s.nv := rfl
@[simp] theorem State.setInbox_dev (s : State) (n : Nat) (l : List Item) :
    (s.setInbox n l).dev = { s.dev with inbox := SMap.set (fun _ => []) s.dev.inbox n l } := rfl
@[simp] theorem State.setInbox_free (s : State) (n : Nat) (l : List Item) : (s.setInbox n l).free = s.free := rfl
@[simp] theorem State.setInbox_pending (s : State) (n : Nat) (l : List Item) : (s.setInbox n l).pending = s.pending := rfl

@[simp] theorem State.modMem_ao (s : State) (f : MemSt → MemSt) : (s.modMem f).ao = s.ao := rfl
@[simp] theorem State.modMem_nv (s : State) (f : MemSt → MemSt) : (s.modMem f).nv = s.nv := rfl
@[simp] theorem State.modMem_dev (s : State) (f : MemSt → MemSt) :
    (s.modMem f).dev = { s.dev with mem := f s.dev.mem } := rfl
@[simp] theorem State.modMem_free (s : State) (f : MemSt → MemSt) : (s.modMem f).free = s.free := rfl
@[simp] theorem State.modMem_pending (s : State) (f : MemSt → MemSt) : (s.modMem f).pending = s.pending := rfl

@[simp] theorem State.modFab_ao (s : State) (f : FabricSt → FabricSt) : (s.modFab f).ao = s.ao := rfl
@[simp] theorem State.modFab_nv (s : State) (f : FabricSt → FabricSt) : (s.modFab f).nv = s.nv := rfl
@[simp] theorem State.modFab_dev (s : State) (f : FabricSt → FabricSt) :
    (s.modFab f).dev = { s.dev with fab := f s.dev.fab } := rfl
@[simp] theorem State.modFab_free (s : State) (f : FabricSt → FabricSt) : (s.modFab f).free = s.free := rfl
@[simp] theorem State.modFab_pending (s : State) (f : FabricSt → FabricSt) : (s.modFab f).pending = s.pending := rfl

@[simp] theorem State.setFlashSet_ao (s : State) (k : Nat) (x : FlashSet) : (s.setFlashSet k x).ao = s.ao := rfl
@[simp] theorem State.setFlashSet_nv (s : State) (k : Nat) (x : FlashSet) : (s.setFlashSet k x).nv = s.nv := rfl
@[simp] theorem State.setFlashSet_dev (s : State) (k : Nat) (x : FlashSet) :
    (s.setFlashSet k x).dev = { s.dev with mem := { s.dev.mem with sets := SMap.set (fun _ => {}) s.dev.mem.sets k x } } := rfl
@[simp] theorem State.setFlashSet_free (s : State) (k : Nat) (x : FlashSet) : (s.setFlashSet k x).free = s.free := rfl
@[simp] theorem State.setFlashSet_pending (s : State) (k : Nat) (x : FlashSet) : (s.setFlashSet k x).pending = s.pending := rfl

@[simp] theorem State.setSsd_ao (s : State) (slot : Nat) (x : Ssd) : (s.setSsd slot x).ao = s.ao := rfl
@[simp] theorem State.setSsd_nv (s : State) (slot : Nat) (x : Ssd) :
    (s.setSsd slot x).nv = { s.nv with ssds := SMap.set (fun _ => {}) s.nv.ssds slot x } := rfl
@[simp] theorem State.setSsd_dev (s : State) (slot : Nat) (x : Ssd) : (s.setSsd slot x).dev = s.dev := rfl
@[simp] theorem State.setSsd_free (s : State) (slot : Nat) (x : Ssd) : (s.setSsd slot x).free = s.free := rfl
@[simp] theorem State.setSsd_pending (s : State) (slot : Nat) (x : Ssd) : (s.setSsd slot x).pending = s.pending := rfl

@[simp] theorem State.modFw_ao (s : State) (f : FwSt → FwSt) : (s.modFw f).ao = s.ao := rfl
@[simp] theorem State.modFw_nv (s : State) (f : FwSt → FwSt) : (s.modFw f).nv = s.nv := rfl
@[simp] theorem State.modFw_dev (s : State) (f : FwSt → FwSt) :
    (s.modFw f).dev = { s.dev with fw := f s.dev.fw } := rfl
@[simp] theorem State.modFw_free (s : State) (f : FwSt → FwSt) : (s.modFw f).free = s.free := rfl
@[simp] theorem State.modFw_pending (s : State) (f : FwSt → FwSt) : (s.modFw f).pending = s.pending := rfl

@[simp] theorem State.modLook_ao (s : State) (f : LookSt → LookSt) : (s.modLook f).ao = s.ao := rfl
@[simp] theorem State.modLook_nv (s : State) (f : LookSt → LookSt) : (s.modLook f).nv = s.nv := rfl
@[simp] theorem State.modLook_dev (s : State) (f : LookSt → LookSt) :
    (s.modLook f).dev = { s.dev with look := f s.dev.look } := rfl
@[simp] theorem State.modLook_free (s : State) (f : LookSt → LookSt) : (s.modLook f).free = s.free := rfl
@[simp] theorem State.modLook_pending (s : State) (f : LookSt → LookSt) : (s.modLook f).pending = s.pending := rfl

@[simp] theorem State.modMgmt_ao (s : State) (f : MgmtFlash → MgmtFlash) : (s.modMgmt f).ao = s.ao := rfl
@[simp] theorem State.modMgmt_nv (s : State) (f : MgmtFlash → MgmtFlash) :
    (s.modMgmt f).nv = { s.nv with mgmt := f s.nv.mgmt } := rfl
@[simp] theorem State.modMgmt_dev (s : State) (f : MgmtFlash → MgmtFlash) : (s.modMgmt f).dev = s.dev := rfl
@[simp] theorem State.modMgmt_free (s : State) (f : MgmtFlash → MgmtFlash) : (s.modMgmt f).free = s.free := rfl
@[simp] theorem State.modMgmt_pending (s : State) (f : MgmtFlash → MgmtFlash) : (s.modMgmt f).pending = s.pending := rfl

@[simp] theorem State.modLantern_ao (s : State) (f : LanternSt → LanternSt) : (s.modLantern f).ao = s.ao := rfl
@[simp] theorem State.modLantern_nv (s : State) (f : LanternSt → LanternSt) : (s.modLantern f).nv = s.nv := rfl
@[simp] theorem State.modLantern_dev (s : State) (f : LanternSt → LanternSt) :
    (s.modLantern f).dev = { s.dev with lantern := f s.dev.lantern } := rfl
@[simp] theorem State.modLantern_free (s : State) (f : LanternSt → LanternSt) : (s.modLantern f).free = s.free := rfl
@[simp] theorem State.modLantern_pending (s : State) (f : LanternSt → LanternSt) : (s.modLantern f).pending = s.pending := rfl

@[simp] theorem State.modTables_ao (s : State) (f : TablesSt → TablesSt) : (s.modTables f).ao = s.ao := rfl
@[simp] theorem State.modTables_nv (s : State) (f : TablesSt → TablesSt) : (s.modTables f).nv = s.nv := rfl
@[simp] theorem State.modTables_dev (s : State) (f : TablesSt → TablesSt) :
    (s.modTables f).dev = { s.dev with tables := f s.dev.tables } := rfl
@[simp] theorem State.modTables_free (s : State) (f : TablesSt → TablesSt) : (s.modTables f).free = s.free := rfl
@[simp] theorem State.modTables_pending (s : State) (f : TablesSt → TablesSt) : (s.modTables f).pending = s.pending := rfl

@[simp] theorem State.wr_ao (s : State) (off : Nat) (v : W64) : (s.wr off v).ao = s.ao := rfl
@[simp] theorem State.wr_nv (s : State) (off : Nat) (v : W64) : (s.wr off v).nv = s.nv := rfl
@[simp] theorem State.wr_dev (s : State) (off : Nat) (v : W64) :
    (s.wr off v).dev = { s.dev with regs := SMap.set regReset s.dev.regs off v } := rfl
@[simp] theorem State.wr_free (s : State) (off : Nat) (v : W64) : (s.wr off v).free = s.free := rfl
@[simp] theorem State.wr_pending (s : State) (off : Nat) (v : W64) : (s.wr off v).pending = s.pending := rfl

@[simp] theorem State.hostWrite_ao (s : State) (a : Nat) (bs : List Byte) : (s.hostWrite a bs).ao = s.ao := rfl
@[simp] theorem State.hostWrite_nv (s : State) (a : Nat) (bs : List Byte) : (s.hostWrite a bs).nv = s.nv := rfl
@[simp] theorem State.hostWrite_dev (s : State) (a : Nat) (bs : List Byte) :
    (s.hostWrite a bs).dev = { s.dev with mem := { s.dev.mem with host := s.dev.mem.host.write a bs } } := rfl
@[simp] theorem State.hostWrite_free (s : State) (a : Nat) (bs : List Byte) : (s.hostWrite a bs).free = s.free := rfl
@[simp] theorem State.hostWrite_pending (s : State) (a : Nat) (bs : List Byte) : (s.hostWrite a bs).pending = s.pending := rfl

@[simp] theorem State.setBay_ao (s : State) (n : Nat) (b : Bay) : (s.setBay n b).ao = s.ao := rfl
@[simp] theorem State.setBay_nv (s : State) (n : Nat) (b : Bay) : (s.setBay n b).nv = s.nv := rfl
@[simp] theorem State.setBay_dev (s : State) (n : Nat) (b : Bay) :
    (s.setBay n b).dev = { s.dev with bays := SMap.set (fun _ => {}) s.dev.bays n b } := rfl
@[simp] theorem State.setBay_free (s : State) (n : Nat) (b : Bay) : (s.setBay n b).free = s.free := rfl
@[simp] theorem State.setBay_pending (s : State) (n : Nat) (b : Bay) : (s.setBay n b).pending = s.pending := rfl

@[simp] theorem State.setIsl_ao (s : State) (n : Nat) (i : Island) : (s.setIsl n i).ao = s.ao := rfl
@[simp] theorem State.setIsl_nv (s : State) (n : Nat) (i : Island) : (s.setIsl n i).nv = s.nv := rfl
@[simp] theorem State.setIsl_dev (s : State) (n : Nat) (i : Island) :
    (s.setIsl n i).dev = { s.dev with islands := SMap.set (fun _ => {}) s.dev.islands n i } := rfl
@[simp] theorem State.setIsl_free (s : State) (n : Nat) (i : Island) : (s.setIsl n i).free = s.free := rfl
@[simp] theorem State.setIsl_pending (s : State) (n : Nat) (i : Island) : (s.setIsl n i).pending = s.pending := rfl

@[simp] theorem State.modRas_ao (s : State) (f : RasSt → RasSt) : (s.modRas f).ao = s.ao := rfl
@[simp] theorem State.modRas_nv (s : State) (f : RasSt → RasSt) : (s.modRas f).nv = s.nv := rfl
@[simp] theorem State.modRas_dev (s : State) (f : RasSt → RasSt) :
    (s.modRas f).dev = { s.dev with ras := f s.dev.ras } := rfl
@[simp] theorem State.modRas_free (s : State) (f : RasSt → RasSt) : (s.modRas f).free = s.free := rfl
@[simp] theorem State.modRas_pending (s : State) (f : RasSt → RasSt) : (s.modRas f).pending = s.pending := rfl

@[simp] theorem State.modAdm_ao (s : State) (f : Admit → Admit) : (s.modAdm f).ao = s.ao := rfl
@[simp] theorem State.modAdm_nv (s : State) (f : Admit → Admit) : (s.modAdm f).nv = s.nv := rfl
@[simp] theorem State.modAdm_dev (s : State) (f : Admit → Admit) :
    (s.modAdm f).dev = { s.dev with adm := f s.dev.adm } := rfl
@[simp] theorem State.modAdm_free (s : State) (f : Admit → Admit) : (s.modAdm f).free = s.free := rfl
@[simp] theorem State.modAdm_pending (s : State) (f : Admit → Admit) : (s.modAdm f).pending = s.pending := rfl

@[simp] theorem State.setTent_ao (s : State) (t : Nat) (x : Tent) : (s.setTent t x).ao = s.ao := rfl
@[simp] theorem State.setTent_nv (s : State) (t : Nat) (x : Tent) : (s.setTent t x).nv = s.nv := rfl
@[simp] theorem State.setTent_dev (s : State) (t : Nat) (x : Tent) :
    (s.setTent t x).dev = { s.dev with tents := SMap.set (fun _ => {}) s.dev.tents t x } := rfl
@[simp] theorem State.setTent_free (s : State) (t : Nat) (x : Tent) : (s.setTent t x).free = s.free := rfl
@[simp] theorem State.setTent_pending (s : State) (t : Nat) (x : Tent) : (s.setTent t x).pending = s.pending := rfl

@[simp] theorem State.modJrnl_ao (s : State) (f : Journal → Journal) : (s.modJrnl f).ao = s.ao := rfl
@[simp] theorem State.modJrnl_nv (s : State) (f : Journal → Journal) : (s.modJrnl f).nv = s.nv := rfl
@[simp] theorem State.modJrnl_dev (s : State) (f : Journal → Journal) :
    (s.modJrnl f).dev = { s.dev with jrnl := f s.dev.jrnl } := rfl
@[simp] theorem State.modJrnl_free (s : State) (f : Journal → Journal) : (s.modJrnl f).free = s.free := rfl
@[simp] theorem State.modJrnl_pending (s : State) (f : Journal → Journal) : (s.modJrnl f).pending = s.pending := rfl

@[simp] theorem State.modSec_ao (s : State) (f : SecSt → SecSt) : (s.modSec f).ao = s.ao := rfl
@[simp] theorem State.modSec_nv (s : State) (f : SecSt → SecSt) : (s.modSec f).nv = s.nv := rfl
@[simp] theorem State.modSec_dev (s : State) (f : SecSt → SecSt) :
    (s.modSec f).dev = { s.dev with sec := f s.dev.sec } := rfl
@[simp] theorem State.modSec_free (s : State) (f : SecSt → SecSt) : (s.modSec f).free = s.free := rfl
@[simp] theorem State.modSec_pending (s : State) (f : SecSt → SecSt) : (s.modSec f).pending = s.pending := rfl

@[simp] theorem State.modText_ao (s : State) (f : TextSt → TextSt) : (s.modText f).ao = s.ao := rfl
@[simp] theorem State.modText_nv (s : State) (f : TextSt → TextSt) : (s.modText f).nv = s.nv := rfl
@[simp] theorem State.modText_dev (s : State) (f : TextSt → TextSt) :
    (s.modText f).dev = { s.dev with text := f s.dev.text } := rfl
@[simp] theorem State.modText_free (s : State) (f : TextSt → TextSt) : (s.modText f).free = s.free := rfl
@[simp] theorem State.modText_pending (s : State) (f : TextSt → TextSt) : (s.modText f).pending = s.pending := rfl

@[simp] theorem State.modObs_ao (s : State) (f : ObsSt → ObsSt) : (s.modObs f).ao = s.ao := rfl
@[simp] theorem State.modObs_nv (s : State) (f : ObsSt → ObsSt) : (s.modObs f).nv = s.nv := rfl
@[simp] theorem State.modObs_dev (s : State) (f : ObsSt → ObsSt) :
    (s.modObs f).dev = { s.dev with obs := f s.dev.obs } := rfl
@[simp] theorem State.modObs_free (s : State) (f : ObsSt → ObsSt) : (s.modObs f).free = s.free := rfl
@[simp] theorem State.modObs_pending (s : State) (f : ObsSt → ObsSt) : (s.modObs f).pending = s.pending := rfl

end Sys2Proof.Machine
end

