-- ==== Sys2Proof/Laws/Regs.lean ====
section
/-! SUPPORT. The laws of the control registers: a field reads what was last stored in it, and storing a field leaves every
other field and every other register alone. -/

namespace Sys2Proof.Machine

/-! Bit fields of a word. -/

/-- A field's bits are the word's. -/
theorem testBit_getBits (x : W64) (lo w i : Nat) :
    (getBits x lo w).testBit i = (decide (i < w) && x.toNat.testBit (lo + i)) := by
  simp [getBits, Nat.testBit_mod_two_pow, Nat.testBit_shiftRight]

/-- The word with a field replaced, bit by bit. -/
theorem testBit_setBits (x : W64) (lo w v i : Nat) (h : lo + w ≤ 64) :
    (setBits x lo w v).toNat.testBit i =
      if lo ≤ i ∧ i < lo + w then v.testBit (i - lo) else x.toNat.testBit i := by
  have hx := x.isLt
  have ha : x.toNat % 2 ^ lo < 2 ^ lo := Nat.mod_lt _ (by positivity)
  have hv : v % 2 ^ w < 2 ^ w := Nat.mod_lt _ (by positivity)
  have e : x.toNat % 2 ^ lo + v % 2 ^ w * 2 ^ lo + (x.toNat >>> (lo + w)) * 2 ^ (lo + w) =
      2 ^ lo * (2 ^ w * (x.toNat >>> (lo + w)) + v % 2 ^ w) + x.toNat % 2 ^ lo := by
    rw [pow_add]; ring
  rw [setBits, BitVec.toNat_ofNat, Nat.testBit_mod_two_pow, e, Nat.testBit_two_pow_mul_add _ ha]
  by_cases h1 : i < lo
  · have : ¬ (lo ≤ i ∧ i < lo + w) := by omega
    simp [h1, this, Nat.testBit_mod_two_pow, show i < 64 by omega]
  · rw [if_neg h1, Nat.testBit_two_pow_mul_add _ hv]
    by_cases h2 : i - lo < w
    · simp [h2, Nat.testBit_mod_two_pow, show lo ≤ i ∧ i < lo + w by omega, show i < 64 by omega]
    · have h3 : ¬ (lo ≤ i ∧ i < lo + w) := by omega
      rw [if_neg h2, if_neg h3, Nat.testBit_shiftRight, show lo + w + (i - lo - w) = i by omega]
      by_cases h4 : i < 64
      · simp [h4]
      · have : x.toNat.testBit i = false :=
          Nat.testBit_lt_two_pow (lt_of_lt_of_le hx (Nat.pow_le_pow_right (by decide) (by omega)))
        simp [this]

/-- A field replaced reads as its new value. -/
theorem getBits_setBits_same (x : W64) (lo w v : Nat) (h : lo + w ≤ 64) :
    getBits (setBits x lo w v) lo w = v % 2 ^ w := by
  apply Nat.eq_of_testBit_eq
  intro i
  rw [testBit_getBits, testBit_setBits _ _ _ _ _ h, Nat.testBit_mod_two_pow]
  by_cases hi : i < w
  · simp [hi]
  · simp [hi]

/-- A field apart from the one replaced reads as before. -/
theorem getBits_setBits_apart (x : W64) (lo w v lo' w' : Nat) (h : lo + w ≤ 64) (d : lo' + w' ≤ lo ∨ lo + w ≤ lo') :
    getBits (setBits x lo w v) lo' w' = getBits x lo' w' := by
  apply Nat.eq_of_testBit_eq
  intro i
  rw [testBit_getBits, testBit_getBits, testBit_setBits _ _ _ _ _ h]
  by_cases hi : i < w'
  · have : ¬ (lo ≤ lo' + i ∧ lo' + i < lo + w) := by omega
    simp [this]
  · simp [hi]

/-! Registers. -/

/-- A store sets the register written and no other. -/
theorem State.rd_wr (s : State) (off : Nat) (v : W64) (o : Nat) :
    (s.wr off v).rd o = if o = off then v else s.rd o := SMap.get_set _ _ _ _ _

@[simp] theorem State.rd_wr_same (s : State) (off : Nat) (v : W64) : (s.wr off v).rd off = v := by simp [State.rd_wr]

theorem State.rd_wr_other (s : State) (off : Nat) (v : W64) (o : Nat) (h : o ≠ off) : (s.wr off v).rd o = s.rd o := by
  simp [State.rd_wr, h]

theorem State.rd_setFld_other (s : State) (off : Nat) (f : Nat × Nat) (v o : Nat) (h : o ≠ off) :
    (s.setFld off f v).rd o = s.rd o := State.rd_wr_other _ _ _ _ h

theorem State.rd_setFlag_other (s : State) (off : Nat) (f : Nat × Nat) (b : Bool) (o : Nat) (h : o ≠ off) :
    (s.setFlag off f b).rd o = s.rd o := State.rd_wr_other _ _ _ _ h

/-- A field reads what was stored in it. -/
theorem State.fld_setFld_same (s : State) (off : Nat) (f : Nat × Nat) (v : Nat) (h : f.1 + f.2 ≤ 64) :
    (s.setFld off f v).fld off f = v % 2 ^ f.2 := by
  simp [State.setFld, State.fld, getBits_setBits_same _ _ _ _ h]

/-- Another field of the register reads as before. -/
theorem State.fld_setFld_apart (s : State) (off : Nat) (f : Nat × Nat) (v : Nat) (g : Nat × Nat) (h : f.1 + f.2 ≤ 64)
    (d : g.1 + g.2 ≤ f.1 ∨ f.1 + f.2 ≤ g.1) : (s.setFld off f v).fld off g = s.fld off g := by
  simp [State.setFld, State.fld, getBits_setBits_apart _ _ _ _ _ _ h d]

/-- A field of another register reads as before. -/
theorem State.fld_setFld_other (s : State) (off : Nat) (f : Nat × Nat) (v o : Nat) (g : Nat × Nat) (h : o ≠ off) :
    (s.setFld off f v).fld o g = s.fld o g := by
  simp [State.fld, State.rd_setFld_other _ _ _ _ _ h]

theorem State.fld_wr_other (s : State) (off : Nat) (v : W64) (o : Nat) (g : Nat × Nat) (h : o ≠ off) :
    (s.wr off v).fld o g = s.fld o g := by
  simp [State.fld, State.rd_wr_other _ _ _ _ h]

theorem State.fld_setFlag_other (s : State) (off : Nat) (f : Nat × Nat) (b : Bool) (o : Nat) (g : Nat × Nat) (h : o ≠ off) :
    (s.setFlag off f b).fld o g = s.fld o g := State.fld_setFld_other _ _ _ _ _ _ h

theorem State.fld_setFlag_apart (s : State) (off : Nat) (f : Nat × Nat) (b : Bool) (g : Nat × Nat) (h : f.1 + f.2 ≤ 64)
    (d : g.1 + g.2 ≤ f.1 ∨ f.1 + f.2 ≤ g.1) : (s.setFlag off f b).fld off g = s.fld off g :=
  State.fld_setFld_apart _ _ _ _ _ h d

/-- A flag reads what was stored in it. -/
theorem State.flag_setFlag_same (s : State) (off : Nat) (f : Nat × Nat) (b : Bool) (h : f.1 + f.2 ≤ 64) (w : f.2 = 1) :
    (s.setFlag off f b).flag off f = b := by
  rw [State.flag, State.setFlag, State.fld_setFld_same _ _ _ _ h, w]
  cases b <;> rfl

theorem State.flag_setFlag_other (s : State) (off : Nat) (f : Nat × Nat) (b : Bool) (o : Nat) (g : Nat × Nat) (h : o ≠ off) :
    (s.setFlag off f b).flag o g = s.flag o g := by
  simp [State.flag, State.fld_setFlag_other _ _ _ _ _ _ h]

theorem State.flag_setFlag_apart (s : State) (off : Nat) (f : Nat × Nat) (b : Bool) (g : Nat × Nat) (h : f.1 + f.2 ≤ 64)
    (d : g.1 + g.2 ≤ f.1 ∨ f.1 + f.2 ≤ g.1) : (s.setFlag off f b).flag off g = s.flag off g := by
  simp [State.flag, State.fld_setFlag_apart _ _ _ _ _ h d]

theorem State.flag_setFld_other (s : State) (off : Nat) (f : Nat × Nat) (v o : Nat) (g : Nat × Nat) (h : o ≠ off) :
    (s.setFld off f v).flag o g = s.flag o g := by
  simp [State.flag, State.fld_setFld_other _ _ _ _ _ _ h]

/-! What a store of a register leaves alone. -/

@[simp] theorem State.setFld_ao (s : State) (off : Nat) (f : Nat × Nat) (v : Nat) : (s.setFld off f v).ao = s.ao := rfl
@[simp] theorem State.setFld_nv (s : State) (off : Nat) (f : Nat × Nat) (v : Nat) : (s.setFld off f v).nv = s.nv := rfl
@[simp] theorem State.setFld_free (s : State) (off : Nat) (f : Nat × Nat) (v : Nat) : (s.setFld off f v).free = s.free := rfl
@[simp] theorem State.setFld_pending (s : State) (off : Nat) (f : Nat × Nat) (v : Nat) :
    (s.setFld off f v).pending = s.pending := rfl
@[simp] theorem State.setFld_dev (s : State) (off : Nat) (f : Nat × Nat) (v : Nat) : (s.setFld off f v).dev =
    { s.dev with regs := SMap.set regReset s.dev.regs off (setBits (s.rd off) f.1 f.2 v) } := rfl
@[simp] theorem State.setFlag_ao (s : State) (off : Nat) (f : Nat × Nat) (b : Bool) : (s.setFlag off f b).ao = s.ao := rfl
@[simp] theorem State.setFlag_nv (s : State) (off : Nat) (f : Nat × Nat) (b : Bool) : (s.setFlag off f b).nv = s.nv := rfl
@[simp] theorem State.setFlag_free (s : State) (off : Nat) (f : Nat × Nat) (b : Bool) :
    (s.setFlag off f b).free = s.free := rfl
@[simp] theorem State.setFlag_pending (s : State) (off : Nat) (f : Nat × Nat) (b : Bool) :
    (s.setFlag off f b).pending = s.pending := rfl
@[simp] theorem State.setFlag_dev (s : State) (off : Nat) (f : Nat × Nat) (b : Bool) : (s.setFlag off f b).dev =
    { s.dev with regs := SMap.set regReset s.dev.regs off (setBits (s.rd off) f.1 f.2 (if b then 1 else 0)) } := rfl

/-- Every instance of a register lies in the block where it is looked up, which holds its row. -/
theorem regBlock_holds_rows :
    (regRows.all fun r => (regBlock r.base).contains r &&
      (regBlock (r.base + (r.n1 - 1) * r.s1 + (r.n2 - 1) * r.s2)).contains r) = true := by decide +kernel

end Sys2Proof.Machine
end

