-- ==== Sys2Proof/Laws/Issue.lean ====
section
/-! SUPPORT. What the issue of an instruction does: the checks pass, the counters of the bay move on, and the body runs. -/

namespace Sys2Proof.Machine

/-! The check code (R483, R484). -/

theorem eccCheck_lt (d : Nat) : eccCheck d < 128 := by
  have fold (l : List (Nat × Nat)) (c : Nat) (hc : c < 2 ^ 7) (hl : ∀ e ∈ l, e.2 < 2 ^ 7) :
      l.foldl (fun c e => if d.testBit e.1 then c ^^^ e.2 else c) c < 2 ^ 7 := by
    induction l generalizing c with
    | nil => exact hc
    | cons e l ih =>
      apply ih
      · beta_reduce
        split
        · exact Nat.xor_lt_two_pow hc (hl e (by simp))
        · exact hc
      · intro x hx; exact hl x (by simp [hx])
  exact fold _ 0 (by decide) (by decide)

/-- A stored word reads back as it is: clean, or poisoned. -/
theorem eccDecode_encode (d : Nat) (p : Bool) (h : d < 2 ^ 32) :
    eccDecode (eccEncode d p) = if p then .poisoned d else .clean d := by
  have hc := eccCheck_lt d
  have hx : eccCheck d ^^^ (if p then 0x70 else 0) < 128 := by
    cases p
    · simpa using hc
    · exact Nat.xor_lt_two_pow (n := 7) hc (by decide)
  have h1 : eccEncode d p % 2 ^ 32 = d := by unfold eccEncode; omega
  have h2 : eccEncode d p / 2 ^ 32 % 128 = eccCheck d ^^^ (if p then 0x70 else 0) := by
    unfold eccEncode; omega
  unfold eccDecode
  simp only [h1, h2]
  have e : (eccCheck d ^^^ (if p then 0x70 else 0)) ^^^ eccCheck d = if p then 0x70 else 0 := by
    rw [Nat.xor_comm, ← Nat.xor_assoc, Nat.xor_self, Nat.zero_xor]
  rw [e]
  cases p <;> simp

theorem State.unarmed_flag (s : State) (h : s.unarmed = true) : s.flag rRasInjectArm fRasInjectArmArmed = false := by
  simpa [State.unarmed] using h

theorem State.fire_unarmed (s : State) (isl det : Nat) (h : s.unarmed = true) : s.fire isl det = (none, s) := by
  simp [State.fire, State.armedAt, State.unarmed_flag s h]

/-- A word read with no bit inverted and nothing armed is delivered as it is stored, and nothing is logged. -/
theorem State.checkWord_unarmed (s : State) (isl det sp a : Nat) (w : PWord) (h : s.unarmed = true) :
    s.checkWord isl det sp a 0 w = (w, s) := by
  unfold State.checkWord
  rw [State.fire_unarmed _ _ _ h]
  exact if_pos ⟨rfl, rfl⟩

/-! Issue. -/

theorem State.fetchCheck_clean (s : State) (bay pc : Nat) (h : s.unarmed = true) (w : ((s.bay bay).fetch pc).2 = false) :
    s.fetchCheck bay pc = (false, s) := by
  unfold State.fetchCheck
  dsimp only
  rw [State.checkWord_unarmed _ _ _ _ _ _ h]
  exact Prod.ext w rfl

theorem State.regCheck_unarmed (s : State) (bay slot : Nat) (f : Short) (k : OpForm) (c : Crew) (h : s.unarmed = true) :
    s.regCheck bay slot f k c = (c, s) := by
  unfold State.regCheck
  split
  · dsimp only
    rw [State.checkWord_unarmed _ _ _ _ _ _ h]
    exact Prod.ext (if_pos rfl) rfl
  · rfl

/-- The instruction of the word at the crew's PC is the one its command concerns. -/
theorem AtPc.fetches {s : State} {bay slot op : Nat} {f : Short} {w2 : Option W64} {c : Crew}
    (h : AtPc s bay slot op f w2 c) : s.fetches bay slot op f w2 = true := by
  unfold State.fetches
  rw [h.crew]
  simp only [h.word, h.quiet]
  cases w2 with
  | none => simp
  | some x => simp [h.second x rfl]

/-- An instruction whose checks pass runs its body, with the lanes that execute. -/
theorem State.issue_eq (s : State) (bay slot op : Nat) (f : Short) (w2 : Option W64) (k : OpForm) (c : Crew)
    (body : Crew → W32 → State → State) (hf : AtPc s bay slot op f w2 c) (h : Issues s bay slot f k c) :
    s.issue bay slot f k body = body c (if k.guarded then c.executing f else c.active) (s.issued bay) := by
  have hpc := hf.pc
  have h1 : ¬ (c.pc > 32767 ∨ (k.long = true ∧ c.pc = 32767)) := by omega
  have hg : ¬ (k.guarded = true ∧ c.badGuard f ≠ 0) := fun ⟨a, b⟩ => b (h.guard a)
  have hw : ((s.bay bay).fetch c.pc).2 = false := by rw [hf.word]
  unfold State.issue
  simp only [hf.crew, h.ready, h1, State.fetchCheck_clean _ _ _ h.unarmed hw, h.fields, h.range, hg, h.operands,
    State.regCheck_unarmed _ _ _ _ _ _ h.unarmed, State.issued, if_false, Bool.not_true, Bool.false_eq_true]

/-! What the counters of an issue leave alone. -/

theorem State.countEvent_kept {α : Type} (p : State → α) (hw : ∀ s off v, p (State.wr s off v) = p s) (s : State)
    (win kmax code inst tent tick n : Nat) : p (s.countEvent win kmax code inst tent tick n) = p s := by
  unfold State.countEvent
  generalize List.range kmax = l
  induction l generalizing s with
  | nil => rfl
  | cons k l ih =>
    rw [List.foldl_cons, ih]
    split
    · exact hw _ _ _
    · rfl

@[simp] theorem State.bayEvent_ao (s : State) (b c n : Nat) : (s.bayEvent b c n).ao = s.ao :=
  State.countEvent_kept (·.ao) (fun _ _ _ => rfl) s _ _ _ _ _ _ _
@[simp] theorem State.bayEvent_nv (s : State) (b c n : Nat) : (s.bayEvent b c n).nv = s.nv :=
  State.countEvent_kept (·.nv) (fun _ _ _ => rfl) s _ _ _ _ _ _ _
@[simp] theorem State.bayEvent_free (s : State) (b c n : Nat) : (s.bayEvent b c n).free = s.free :=
  State.countEvent_kept (·.free) (fun _ _ _ => rfl) s _ _ _ _ _ _ _
@[simp] theorem State.bayEvent_pending (s : State) (b c n : Nat) : (s.bayEvent b c n).pending = s.pending :=
  State.countEvent_kept (·.pending) (fun _ _ _ => rfl) s _ _ _ _ _ _ _
/-- A bay event changes registers alone: its bay's event counters. -/
theorem State.bayEvent_dev (s : State) (b c n : Nat) :
    (s.bayEvent b c n).dev = { s.dev with regs := (s.bayEvent b c n).dev.regs } := by
  have h := State.countEvent_kept (fun s => { s.dev with regs := [] }) (fun _ _ _ => rfl) s
    (0x200000 + 0x1000 * b) 8 c 0 ((s.bay b).tent.getD 0xFF) (s.stampTick (s.bayIsland b)) n
  have e (d x : Device) (h : { d with regs := [] } = ({ x with regs := [] } : Device)) : d = { x with regs := d.regs } := by
    cases d; cases x; simp_all
  exact e _ _ h

@[simp] theorem State.issued_ao (s : State) (b : Nat) : (s.issued b).ao = s.ao := by simp [State.issued, State.busy]
@[simp] theorem State.issued_nv (s : State) (b : Nat) : (s.issued b).nv = s.nv := by simp [State.issued, State.busy]
@[simp] theorem State.issued_free (s : State) (b : Nat) : (s.issued b).free = s.free := by simp [State.issued, State.busy]
@[simp] theorem State.issued_pending (s : State) (b : Nat) : (s.issued b).pending = s.pending := by
  simp [State.issued, State.busy]
/-- An issue by itself changes event counters and engine counters alone. -/
theorem State.issued_dev (s : State) (b : Nat) :
    (s.issued b).dev = { s.dev with regs := (s.issued b).dev.regs, obs := (s.issued b).dev.obs } := by
  simp only [State.issued, State.busy, State.modObs_dev]
  rw [State.bayEvent_dev]

@[simp] theorem State.issued_bay (s : State) (b n : Nat) : (s.issued b).bay n = s.bay n := by
  unfold State.bay; rw [State.issued_dev]
@[simp] theorem State.issued_mem (s : State) (b : Nat) : (s.issued b).dev.mem = s.dev.mem := by rw [State.issued_dev]

/-! Bays and crews. -/

theorem State.bay_setBay (s : State) (n : Nat) (b : Bay) (m : Nat) :
    (s.setBay n b).bay m = if m = n then b else s.bay m := SMap.get_set _ _ _ _ _

@[simp] theorem State.bay_setBay_same (s : State) (n : Nat) (b : Bay) : (s.setBay n b).bay n = b := by
  simp [State.bay_setBay]

@[simp] theorem State.bay_modBay_same (s : State) (n : Nat) (g : Bay → Bay) : (s.modBay n g).bay n = g (s.bay n) := by
  simp [State.modBay]

theorem State.bay_modBay_other (s : State) (n : Nat) (g : Bay → Bay) (m : Nat) (h : m ≠ n) :
    (s.modBay n g).bay m = s.bay m := by simp [State.modBay, State.bay_setBay, h]

@[simp] theorem Bay.crew_setCrew_same (b : Bay) (slot : Nat) (c : Option Crew) : (b.setCrew slot c).crew slot = c := by
  simp [Bay.crew, Bay.setCrew]

theorem Bay.crew_setCrew_other (b : Bay) (slot : Nat) (c : Option Crew) (j : Nat) (h : j ≠ slot) :
    (b.setCrew slot c).crew j = b.crew j := by
  simp [Bay.crew, Bay.setCrew, SMap.get_set, h]

@[simp] theorem State.crew_setCrew_same (s : State) (bay slot : Nat) (c : Crew) :
    (s.setCrew bay slot c).crew bay slot = some c := by simp [State.crew, State.setCrew]

/-! The registers of a crew. -/

@[simp] theorem Crew.readV_goto (c : Crew) (pc l n : Nat) : (c.goto pc).readV l n = c.readV l n := rfl
@[simp] theorem Crew.readP_goto (c : Crew) (pc l n : Nat) : (c.goto pc).readP l n = c.readP l n := rfl
@[simp] theorem Crew.readU_goto (c : Crew) (pc n : Nat) : (c.goto pc).readU n = c.readU n := rfl
@[simp] theorem Crew.readV_advance (c : Crew) (k : OpForm) (l n : Nat) : (c.advance k).readV l n = c.readV l n := rfl
@[simp] theorem Crew.readP_advance (c : Crew) (k : OpForm) (l n : Nat) : (c.advance k).readP l n = c.readP l n := rfl
@[simp] theorem Crew.readU_advance (c : Crew) (k : OpForm) (n : Nat) : (c.advance k).readU n = c.readU n := rfl

theorem Crew.readV_writeV (c : Crew) (l n : Nat) (x : VReg) (i j : Nat) :
    (c.writeV l n x).readV i j = if 64 * i + j = 64 * l + n then x else c.readV i j := SMap.get_set _ _ _ _ _

theorem Crew.readU_writeU (c : Crew) (n : Nat) (x : UReg) (j : Nat) :
    (c.writeU n x).readU j = if j = n then x else c.readU j := SMap.get_set _ _ _ _ _

@[simp] theorem Crew.readP_writeV (c : Crew) (l n : Nat) (x : VReg) (i j : Nat) :
    (c.writeV l n x).readP i j = c.readP i j := rfl
@[simp] theorem Crew.readU_writeV (c : Crew) (l n : Nat) (x : VReg) (j : Nat) : (c.writeV l n x).readU j = c.readU j := rfl

theorem mem_lanes (m : W32) (l : Nat) : l ∈ lanes m ↔ l < 32 ∧ lane m l = true := by simp [lanes]

/-- Writing one result a lane sets that register of the executing lanes and no other register. -/
theorem Crew.readV_writeLanes (c : Crew) (ex : W32) (n : Nat) (g : Nat → VReg) (i j : Nat) (hn : n < 64) (hj : j < 64)
    (hi : i < 32) :
    (c.writeLanes ex n g).readV i j = if lane ex i = true ∧ j = n then g i else c.readV i j := by
  have fold (l : List Nat) (d : Crew) : (l.foldl (fun d l => d.writeV l n (g l)) d).readV i j =
      if i ∈ l ∧ j = n then g i else d.readV i j := by
    induction l generalizing d with
    | nil => simp
    | cons x l ih =>
      rw [List.foldl_cons, ih]
      by_cases h1 : i ∈ l ∧ j = n
      · rw [if_pos h1, if_pos ⟨by simp [h1.1], h1.2⟩]
      · rw [if_neg h1, Crew.readV_writeV]
        by_cases h2 : 64 * i + j = 64 * x + n
        · have hx : i = x := by omega
          have hjn : j = n := by omega
          subst hx
          rw [if_pos h2, if_pos ⟨by simp, hjn⟩]
        · rw [if_neg h2]
          have h3 : ¬ (i ∈ x :: l ∧ j = n) := by
            rintro ⟨a, rfl⟩
            rcases List.mem_cons.mp a with rfl | a
            · exact h2 rfl
            · exact h1 ⟨a, rfl⟩
          rw [if_neg h3]
  unfold Crew.writeLanes
  rw [fold]
  simp only [mem_lanes, hi, true_and]

theorem Crew.writeLanes_kept {α : Type} (p : Crew → α) (hw : ∀ c l n x, p (Crew.writeV c l n x) = p c) (c : Crew) (ex : W32)
    (n : Nat) (g : Nat → VReg) : p (c.writeLanes ex n g) = p c := by
  unfold Crew.writeLanes
  generalize lanes ex = l
  induction l generalizing c with
  | nil => rfl
  | cons x l ih => rw [List.foldl_cons, ih, hw]

end Sys2Proof.Machine
end

