-- ==== Sys2Proof/Laws/Crew.lean ====
section
/-! SUPPORT. What the shared operations of the bays' instructions do to their crew, and that they leave the rest alone. -/

namespace Sys2Proof.Machine

/-! Event counters. -/

/-- A bay event changes no register but its bay's event counters. -/
theorem State.rd_bayEvent (s : State) (b c n off : Nat) (h : ∀ k, k < 8 → off ≠ rBayEvcValue b k) :
    (s.bayEvent b c n).rd off = s.rd off := by
  unfold State.bayEvent State.countEvent
  generalize (s.bay b).tent.getD 0xFF = tent
  generalize s.stampTick (s.bayIsland b) = tick
  have fold (l : List Nat) (hl : ∀ k ∈ l, k < 8) (s : State) :
      (l.foldl (fun s k =>
        if s.eventCounts (0x200000 + 0x1000 * b) k c 0 tent tick then
          let off := 0x200000 + 0x1000 * b + 0x118 + 0x10 * k
          let add := if getBits (s.rd (0x200000 + 0x1000 * b + 0x110 + 0x10 * k)) 16 1 = 1 then min n 1 else n
          s.wr off (s.rd off + BitVec.ofNat 64 add)
        else s) s).rd off = s.rd off := by
    induction l generalizing s with
    | nil => rfl
    | cons k l ih =>
      rw [List.foldl_cons, ih (fun x hx => hl x (by simp [hx]))]
      have hk := h k (hl k (by simp))
      split
      · exact State.rd_wr_other _ _ _ _ (by unfold rBayEvcValue at hk; omega)
      · rfl
  exact fold _ (by simp) s

@[simp] theorem State.rd_modObs (s : State) (f : ObsSt → ObsSt) (off : Nat) : (s.modObs f).rd off = s.rd off := rfl

theorem State.rd_issued (s : State) (b off : Nat) (h : ∀ k, k < 8 → off ≠ rBayEvcValue b k) :
    (s.issued b).rd off = s.rd off := by
  simp only [State.issued, State.busy, State.rd_modObs]
  exact State.rd_bayEvent s b 1 1 off h

theorem State.issued_obs (s : State) (b : Nat) :
    (s.issued b).dev.obs = { s.dev.obs with engines := (s.issued b).dev.obs.engines } := by
  simp only [State.issued, State.busy, State.modObs_dev]
  rw [State.bayEvent_dev]

@[simp] theorem State.issued_islands (s : State) (b : Nat) : (s.issued b).dev.islands = s.dev.islands := by
  rw [State.issued_dev]

@[simp] theorem State.issued_desc (s : State) (b : Nat) : (s.issued b).dev.desc = s.dev.desc := by
  rw [State.issued_dev]

@[simp] theorem State.issued_bayIsland (s : State) (b n : Nat) : (s.issued b).bayIsland n = s.bayIsland n := by
  simp [State.bayIsland, State.physOf]

@[simp] theorem State.issued_copy (s : State) (b n : Nat) : (s.issued b).copy n = s.copy n := by
  simp [State.copy, State.isl]

@[simp] theorem State.issued_stampTick (s : State) (b n : Nat) : (s.issued b).stampTick n = s.stampTick n := by
  simp [State.stampTick, State.isl]

@[simp] theorem State.issued_laneFree (s : State) (b l : Nat) : (s.issued b).laneFree l = s.laneFree l := by
  simp [State.laneFree]

/-! Frames. -/

@[simp] theorem State.rd_setCrew (s : State) (bay slot : Nat) (c : Crew) (off : Nat) :
    (s.setCrew bay slot c).rd off = s.rd off := rfl

theorem State.crew_setCrew_other (s : State) (bay slot : Nat) (c : Crew) (j : Nat) (h : j ≠ slot) :
    (s.setCrew bay slot c).crew bay j = s.crew bay j := by
  simp [State.crew, State.setCrew, Bay.crew_setCrew_other _ _ _ _ h]

theorem State.bay_setCrew_other (s : State) (bay slot : Nat) (c : Crew) (b : Nat) (h : b ≠ bay) :
    (s.setCrew bay slot c).bay b = s.bay b := State.bay_modBay_other _ _ _ _ h

@[simp] theorem State.issued_crew (s : State) (b bay j : Nat) : (s.issued b).crew bay j = s.crew bay j := by
  simp [State.crew]

/-- An instruction that counts its issue and then changes its own crew alone. -/
theorem crewOnly_setCrew (s : State) (bay slot : Nat) (d : Crew) : CrewOnly s ((s.issued bay).setCrew bay slot d) bay slot where
  crews j h := by rw [State.crew_setCrew_other _ _ _ _ _ h]; simp
  own := by simp [State.setCrew, Bay.setCrew]
  bays b h := by rw [State.bay_setCrew_other _ _ _ _ _ h]; simp
  regs off h := State.rd_issued s bay off h
  obs := State.issued_obs s bay
  dev := by
    have h := State.issued_dev s bay
    simp only [State.setCrew, State.modBay, State.setBay_dev]
    rw [h]
  ao := State.issued_ao s bay
  nv := State.issued_nv s bay
  pending := State.issued_pending s bay

/-- Free values drawn do not matter to what an instruction leaves alone. -/
theorem CrewOnly.free {s t : State} {bay slot : Nat} (h : CrewOnly s t bay slot) (n : Nat) :
    CrewOnly s { t with free := n } bay slot :=
  ⟨h.crews, h.own, h.bays, h.regs, h.obs, h.dev, h.ao, h.nv, h.pending⟩

theorem movedTo_goto (c d : Crew) (pc : Nat) (hs : d.stack = c.stack) (ha : d.active = c.active) :
    c.movedTo (d.goto pc) pc := by
  intro h
  have : d.stack = [] := by rw [hs, h]
  simp [Crew.goto, this, reconverge, ha]

/-! Results of strand and uniform instructions. -/

theorem Crew.writeLanes_eq (c : Crew) (ex : W32) (n : Nat) (g : Nat → VReg) :
    c.writeLanes ex n g = { c with v := (c.writeLanes ex n g).v } := by
  have h := Crew.writeLanes_kept (fun d => { d with v := [] }) (fun _ _ _ _ => rfl) c ex n g
  have e (d x : Crew) (h : { d with v := [] } = ({ x with v := [] } : Crew)) : d = { x with v := d.v } := by
    cases d; cases x; simp_all
  exact e _ _ h

/-- Writing one result a lane, then advancing, is what `WritesV` says. -/
theorem writesV_advance (s : State) (bay slot : Nat) (f : Short) (c : Crew) (g : Nat → VReg) (k : OpForm)
    (hk : k.long = false) :
    WritesV s ((s.issued bay).setCrew bay slot ((c.writeLanes (c.executing f) f.dst.toNat g).advance k)) bay slot f c g where
  frame := crewOnly_setCrew s bay slot _
  crew := by
    refine ⟨_, State.crew_setCrew_same _ _ _ _, ?_, ?_, ?_⟩
    · rw [Crew.writeLanes_eq]; rfl
    · have h := Crew.writeLanes_eq c (c.executing f) f.dst.toNat g
      have hp : (c.writeLanes (c.executing f) f.dst.toNat g).pc = c.pc := by rw [h]
      unfold Crew.advance
      rw [hk, hp]
      exact movedTo_goto _ _ _ (by rw [h]) (by rw [h])
    · intro l hl j hj
      rw [Crew.readV_advance]
      exact Crew.readV_writeLanes _ _ _ _ _ _ f.dst.isLt hj hl

/-- A strand instruction whose operation exists writes its result. -/
theorem State.strand_eq (s : State) (bay slot op : Nat) (f : Short) (k : OpForm) (c : Crew) (bad : Crew → Bool)
    (g : State → Crew → Nat → VReg) (ha : AtPc s bay slot op f none c) (hi : Issues s bay slot f k.strand c)
    (hb : bad c = false) : s.strand bay slot f k bad g =
      (s.issued bay).setCrew bay slot ((c.writeLanes (c.executing f) f.dst.toNat (g (s.issued bay) c)).advance k) := by
  have e := State.issue_eq s bay slot op f none k.strand c (fun c ex s =>
    if bad c then s.trapAll bay slot c trapBadOperand
    else s.setCrew bay slot ((c.writeLanes ex f.dst.toNat (g s c)).advance k)) ha hi
  simp only [hb] at e
  exact e

/-- Writing a `u` register and advancing is what `WritesU` says. -/
theorem writesU_goto (s : State) (bay slot : Nat) (f : Short) (c : Crew) (pc : Nat) (x : UReg) :
    WritesU s ((s.issued bay).setCrew bay slot ((c.writeU f.dst.toNat x).goto pc)) bay slot f c pc x where
  frame := crewOnly_setCrew s bay slot _
  crew := by
    refine ⟨_, State.crew_setCrew_same _ _ _ _, rfl, movedTo_goto _ _ _ rfl rfl, ?_⟩
    intro j
    rw [Crew.readU_goto]
    exact Crew.readU_writeU _ _ _ _

/-- A crew-uniform instruction writes its result where a strand is active. -/
theorem State.uniform_eq (s : State) (bay slot op : Nat) (f : Short) (k : OpForm) (c : Crew) (g : Crew → UReg)
    (ha : AtPc s bay slot op f none c) (hi : Issues s bay slot f { k with dst := .u } c)
    (hl : k.long = false) (hc : c.active ≠ 0) :
    s.uniform bay slot f k g = (s.issued bay).setCrew bay slot ((c.writeU f.dst.toNat (g c)).goto (c.pc + 1)) := by
  unfold State.uniform
  rw [State.issue_eq s bay slot op f none _ c _ ha hi]
  have hw : (c.writeU f.dst.toNat (g c)).pc = c.pc := rfl
  rw [if_neg hc]
  simp only [Crew.advance, hl, hw, Bool.false_eq_true, if_false]

/-- An instruction without a guard runs for every active strand. -/
theorem State.issue_plain (s : State) (bay slot op : Nat) (f : Short) (w2 : Option W64) (k : OpForm) (c : Crew)
    (body : Crew → W32 → State → State) (ha : AtPc s bay slot op f w2 c) (hi : Issues s bay slot f k c)
    (hg : k.guarded = false) : s.issue bay slot f k body = body c c.active (s.issued bay) := by
  rw [State.issue_eq s bay slot op f w2 k c body ha hi, hg]
  rfl

/-! Predicates. -/

theorem Crew.readP_writeP (c : Crew) (l n : Nat) (x : PReg) (i j : Nat) (hn : n < 8) (hj : j < 8) :
    (c.writeP l n x).readP i j = if i = l ∧ j = n ∧ j ≠ 0 then x else c.readP i j := by
  unfold Crew.writeP Crew.readP
  by_cases h0 : j = 0
  · simp [h0]
  · by_cases h1 : n = 0
    · have : ¬ (i = l ∧ j = n ∧ j ≠ 0) := by omega
      simp [h0, h1]
    · simp only [h0, h1, if_false]
      rw [SMap.get_set]
      by_cases h2 : 8 * i + j = 8 * l + n
      · rw [if_pos h2, if_pos ⟨by omega, by omega, h0⟩]
      · rw [if_neg h2, if_neg (by omega)]

theorem Crew.writePreds_eq (c : Crew) (ex : W32) (n : Nat) (g : Nat → PReg) :
    c.writePreds ex n g = { c with p := (c.writePreds ex n g).p } := by
  unfold Crew.writePreds
  generalize lanes ex = l
  induction l generalizing c with
  | nil => rfl
  | cons x l ih =>
    rw [List.foldl_cons, ih]
    unfold Crew.writeP
    split <;> rfl

/-- Writing one predicate a lane sets that predicate of the executing lanes and no other. -/
theorem Crew.readP_writePreds (c : Crew) (ex : W32) (n : Nat) (g : Nat → PReg) (i j : Nat) (hn : n < 8) (hj : j < 8)
    (hi : i < 32) :
    (c.writePreds ex n g).readP i j = if lane ex i = true ∧ j = n ∧ j ≠ 0 then g i else c.readP i j := by
  have fold (l : List Nat) (d : Crew) : (l.foldl (fun d l => d.writeP l n (g l)) d).readP i j =
      if i ∈ l ∧ j = n ∧ j ≠ 0 then g i else d.readP i j := by
    induction l generalizing d with
    | nil => simp
    | cons x l ih =>
      rw [List.foldl_cons, ih]
      by_cases h1 : i ∈ l ∧ j = n ∧ j ≠ 0
      · rw [if_pos h1, if_pos ⟨by simp [h1.1], h1.2⟩]
      · rw [if_neg h1, Crew.readP_writeP _ _ _ _ _ _ hn hj]
        by_cases h2 : i = x ∧ j = n ∧ j ≠ 0
        · rw [if_pos h2, if_pos ⟨by simp [h2.1], h2.2⟩, h2.1]
        · rw [if_neg h2]
          have h3 : ¬ (i ∈ x :: l ∧ j = n ∧ j ≠ 0) := by
            rintro ⟨a, b⟩
            rcases List.mem_cons.mp a with a | a
            · exact h2 ⟨a, b⟩
            · exact h1 ⟨a, b⟩
          rw [if_neg h3]
  unfold Crew.writePreds
  rw [fold]
  simp only [mem_lanes, hi, true_and]

/-- Writing one predicate a lane, then advancing, is what `WritesP` says. -/
theorem writesP_advance (s : State) (bay slot : Nat) (f : Short) (c : Crew) (g : Nat → PReg) (k : OpForm)
    (hk : k.long = false) (hd : f.dst.toNat < 8) :
    WritesP s ((s.issued bay).setCrew bay slot ((c.writePreds (c.executing f) f.dst.toNat g).advance k)) bay slot f c g where
  frame := crewOnly_setCrew s bay slot _
  crew := by
    have h := Crew.writePreds_eq c (c.executing f) f.dst.toNat g
    refine ⟨_, State.crew_setCrew_same _ _ _ _, ?_, ?_, ?_⟩
    · rw [h]; rfl
    · have hp : (c.writePreds (c.executing f) f.dst.toNat g).pc = c.pc := by rw [h]
      unfold Crew.advance
      rw [hk, hp]
      exact movedTo_goto _ _ _ (by rw [h]) (by rw [h])
    · intro l hl j hj
      rw [Crew.readP_advance]
      exact Crew.readP_writePreds _ _ _ _ _ _ hd hj hl

/-! Completion: an instruction built from a shared operation completes as that operation does. -/

/-- A strand instruction that is one strand operation on a state that reads alike after the issue is counted. -/
theorem strandResult_of {op : Nat} {mk : Nat → Nat → Short → Instr} {k : OpForm} {ok : Short → Bool}
    {g : Short → State → Crew → Nat → VReg} (k' : OpForm) (bad : Short → Crew → Bool)
    (hk : k'.strand = k.strand) (hl : k'.long = false)
    (hb : ∀ f c, ok f = true → bad f c = false) (hg : ∀ f s b c l, g f (State.issued s b) c l = g f s c l)
    (he : ∀ bay slot f s, s.fetches bay slot op f none = true →
      exec (mk bay slot f) s = .next (s.strand bay slot f k' (bad f) (g f))) : StrandResult op mk k ok g := by
  intro s bay slot f c ha hi hok
  refine ⟨_, he _ _ _ _ ha.fetches, ?_⟩
  rw [State.strand_eq s bay slot op f k' c _ _ ha (hk ▸ hi) (hb _ _ hok), funext fun l => hg f s bay c l]
  exact writesV_advance s bay slot f c _ k' hl

/-- The same where the instruction then moves past the free values its lanes may have drawn. -/
theorem strandResult_of_free {op : Nat} {mk : Nat → Nat → Short → Instr} {k : OpForm} {ok : Short → Bool}
    {g : Short → State → Crew → Nat → VReg} (k' : OpForm) (bad : Short → Crew → Bool)
    (hk : k'.strand = k.strand) (hl : k'.long = false)
    (hb : ∀ f c, ok f = true → bad f c = false) (hg : ∀ f s b c l, g f (State.issued s b) c l = g f s c l)
    (he : ∀ bay slot f s, s.fetches bay slot op f none = true →
      exec (mk bay slot f) s = .next (s.strand bay slot f k' (bad f) (g f)).skipFree) : StrandResult op mk k ok g := by
  intro s bay slot f c ha hi hok
  refine ⟨_, he _ _ _ _ ha.fetches, ?_⟩
  rw [State.strand_eq s bay slot op f k' c _ _ ha (hk ▸ hi) (hb _ _ hok), funext fun l => hg f s bay c l]
  have h := writesV_advance s bay slot f c (g f s c) k' hl
  exact ⟨h.frame.free _, h.crew⟩

/-- A crew-uniform instruction that is one uniform operation. -/
theorem uniformResult_of {op : Nat} {mk : Nat → Nat → Short → Instr} {k : OpForm} {g : Nat → Short → State → Crew → UReg}
    (k' : OpForm) (g' : Nat → Short → State → Crew → UReg)
    (hk : ({ k' with dst := .u } : OpForm) = { k with dst := .u }) (hl : k'.long = false)
    (hg : ∀ b f s c, g' b f s c = g b f s c)
    (he : ∀ bay slot f s, s.fetches bay slot op f none = true →
      exec (mk bay slot f) s = .next (s.uniform bay slot f k' (g' bay f s))) : UniformResult op mk k g := by
  intro s bay slot f c ha hi hc
  refine ⟨_, he _ _ _ _ ha.fetches, ?_⟩
  rw [State.uniform_eq s bay slot op f k' c _ ha (hk ▸ hi) hl hc, hg]
  exact writesU_goto s bay slot f c _ _

end Sys2Proof.Machine
end

