-- ==== Sys2Proof/Laws/Words.lean ====
section
/-! SUPPORT. Instruction words: the fields of a word are the fields it was made of (R96). -/

namespace Sys2Proof.Machine

/-- A word made of fields is below 2 ^ 64, so nothing is cut off. -/
theorem Short.word_toNat (op : Nat) (f : Short) :
    (f.word op).toNat = op % 256 * 2 ^ 56 + f.dst.toNat * 2 ^ 50 + f.srca.toNat * 2 ^ 44 + f.srcb.toNat * 2 ^ 38 +
      f.srcc.toNat * 2 ^ 32 + f.pred.toNat * 2 ^ 29 + (if f.pneg then 2 ^ 28 else 0) + f.func.toNat := by
  have h1 := f.dst.isLt; have h2 := f.srca.isLt; have h3 := f.srcb.isLt
  have h4 := f.srcc.isLt; have h5 := f.pred.isLt; have h6 := f.func.isLt
  have h0 : op % 256 < 256 := Nat.mod_lt _ (by decide)
  rw [Short.word, BitVec.toNat_ofNat]
  apply Nat.mod_eq_of_lt
  split <;> omega

/-- The opcode of a word made of fields. -/
theorem wordOpcode_word (op : Nat) (f : Short) : wordOpcode (f.word op) = op % 256 := by
  have h1 := f.dst.isLt; have h2 := f.srca.isLt; have h3 := f.srcb.isLt
  have h4 := f.srcc.isLt; have h5 := f.pred.isLt; have h6 := f.func.isLt
  rw [wordOpcode, Short.word_toNat]
  split <;> omega

/-- The fields of a word made of fields. -/
theorem wordShort_word (op : Nat) (f : Short) : wordShort (f.word op) = f := by
  have h1 := f.dst.isLt; have h2 := f.srca.isLt; have h3 := f.srcb.isLt
  have h4 := f.srcc.isLt; have h5 := f.pred.isLt; have h6 := f.func.isLt
  have hp : (f.word op).toNat.testBit 28 = f.pneg := by
    rw [Nat.testBit_eq_decide_div_mod_eq, Short.word_toNat]
    cases hq : f.pneg <;> simp <;> omega
  have e (n k : Nat) (x : BitVec k) (h : n % 2 ^ k = x.toNat) : BitVec.ofNat k n = x :=
    BitVec.eq_of_toNat_eq (by simpa using h)
  cases f with
  | mk dst srca srcb srcc pred pneg func =>
    simp only [wordShort, Short.mk.injEq]
    refine ⟨e _ _ _ ?_, e _ _ _ ?_, e _ _ _ ?_, e _ _ _ ?_, e _ _ _ ?_, hp, e _ _ _ ?_⟩ <;>
      (rw [Short.word_toNat]; simp only at *; split <;> omega)


end Sys2Proof.Machine
end

