-- ==== Sys2Proof/Laws/PerInstr.lean ====
section
/-! SUPPORT. Statements made command by command: the words of a bay's instruction spell it (R96, R100). -/

namespace Sys2Proof.Laws

open Sys2Proof.Machine

/-- The words of the instruction spell it, at the crew that runs it; a command that is no instruction has no words. -/
def Words.Statement (i : Instr) : Prop :=
  ∀ x, bayWords i = some x → ∀ w2, (x.second = none ∨ x.second = some w2) →
    instrAt x.bay x.slot x.word w2 = some i

/-- A command without words. -/
theorem words_absent (i : Instr) (h : bayWords i = none) : Words.Statement i := by
  intro x hx
  rw [h] at hx
  cases hx

/-- A short form. -/
theorem words_short (i : Instr) (bay slot op : Nat) (f : Short) (hb : bayWords i = some ⟨bay, slot, f.word op, none⟩)
    (h : ∀ w w2, wordOpcode w = op % 256 → wordShort w = f → instrAt bay slot w w2 = some i) : Words.Statement i := by
  intro x hx w2 _
  rw [hb] at hx
  cases hx
  exact h _ w2 (wordOpcode_word op f) (wordShort_word op f)

/-- A long form. -/
theorem words_long (i : Instr) (bay slot op : Nat) (f : Short) (w2 : W64)
    (hb : bayWords i = some ⟨bay, slot, f.word op, some w2⟩)
    (h : ∀ w, wordOpcode w = op % 256 → wordShort w = f → instrAt bay slot w w2 = some i) : Words.Statement i := by
  intro x hx v hv
  rw [hb] at hx
  cases hx
  rcases hv with hv | hv <;> cases hv
  exact h _ (wordOpcode_word op f) (wordShort_word op f)

theorem Words.malformedControlAccess (off size : Nat) (write : Bool) : Words.Statement (.malformedControlAccess off size write) := words_absent _ rfl
theorem Words.registerWrite (off : Nat) (v : W64) : Words.Statement (.registerWrite off v) := words_absent _ rfl
theorem Words.couplerDeliver (src dst : Nat) (flips : List (Nat × Nat)) (ctlBad : Bool) (bridge tries : Nat) : Words.Statement (.couplerDeliver src dst flips ctlBad bridge tries) := words_absent _ rfl
theorem Words.timeBeacon (drift : List (Nat × Int)) (absent : List Nat) : Words.Statement (.timeBeacon drift absent) := words_absent _ rfl
theorem Words.timingFault (isl : Nat) : Words.Statement (.timingFault isl) := words_absent _ rfl
theorem Words.watermarkSend (src dst : Nat) : Words.Statement (.watermarkSend src dst) := words_absent _ rfl
theorem Words.timeSkewClear : Words.Statement .timeSkewClear := words_absent _ rfl
theorem Words.ptpMappingUpdate (offset : W64) (rate : W32) (ptpState : Nat) : Words.Statement (.ptpMappingUpdate offset rate ptpState) := words_absent _ rfl
theorem Words.ppsOutEdge : Words.Statement .ppsOutEdge := words_absent _ rfl
theorem Words.ppsInEdge : Words.Statement .ppsInEdge := words_absent _ rfl
theorem Words.timeCmpWrite (k : Nat) (v : W64) : Words.Statement (.timeCmpWrite k v) := words_absent _ rfl
theorem Words.timeCmpFire (k : Nat) : Words.Statement (.timeCmpFire k) := words_absent _ rfl
theorem Words.freezeArm (t : W64) : Words.Statement (.freezeArm t) := words_absent _ rfl
theorem Words.freezeDisarm : Words.Statement .freezeDisarm := words_absent _ rfl
theorem Words.freezeCancel : Words.Statement .freezeCancel := words_absent _ rfl
theorem Words.freezeTickReached : Words.Statement .freezeTickReached := words_absent _ rfl
theorem Words.freezeSettled : Words.Statement .freezeSettled := words_absent _ rfl
theorem Words.resumeArm (u : W64) : Words.Statement (.resumeArm u) := words_absent _ rfl
theorem Words.resumeTickReached : Words.Statement .resumeTickReached := words_absent _ rfl
theorem Words.freezeAckReceive (late : Bool) : Words.Statement (.freezeAckReceive late) := words_absent _ rfl
theorem Words.dumpGo : Words.Statement .dumpGo := words_absent _ rfl
theorem Words.crewLaunch (bay slot : Nat) : Words.Statement (.crewLaunch bay slot) := words_absent _ rfl
theorem Words.crewEnd (bay slot : Nat) : Words.Statement (.crewEnd bay slot) := words_absent _ rfl
theorem Words.longLatencyReplyLand (bay slot id : Nat) : Words.Statement (.longLatencyReplyLand bay slot id) := words_absent _ rfl
theorem Words.messageDeliver (bay : Nat) : Words.Statement (.messageDeliver bay) := words_absent _ rfl
theorem Words.nop (bay slot : Nat) (f : Short) : Words.Statement (.nop bay slot f) :=
  words_short _ bay slot 0x00 f rfl fun w w2 ho hf => by unfold instrAt; rw [ho, hf]; rfl
theorem Words.iadd (bay slot : Nat) (f : Short) : Words.Statement (.iadd bay slot f) :=
  words_short _ bay slot 0x01 f rfl fun w w2 ho hf => by unfold instrAt; rw [ho, hf]; rfl
theorem Words.isub (bay slot : Nat) (f : Short) : Words.Statement (.isub bay slot f) :=
  words_short _ bay slot 0x02 f rfl fun w w2 ho hf => by unfold instrAt; rw [ho, hf]; rfl
theorem Words.imul (bay slot : Nat) (f : Short) : Words.Statement (.imul bay slot f) :=
  words_short _ bay slot 0x03 f rfl fun w w2 ho hf => by unfold instrAt; rw [ho, hf]; rfl
theorem Words.imulh (bay slot : Nat) (f : Short) : Words.Statement (.imulh bay slot f) :=
  words_short _ bay slot 0x04 f rfl fun w w2 ho hf => by unfold instrAt; rw [ho, hf]; rfl
theorem Words.imad (bay slot : Nat) (f : Short) : Words.Statement (.imad bay slot f) :=
  words_short _ bay slot 0x05 f rfl fun w w2 ho hf => by unfold instrAt; rw [ho, hf]; rfl
theorem Words.imin (bay slot : Nat) (f : Short) : Words.Statement (.imin bay slot f) :=
  words_short _ bay slot 0x06 f rfl fun w w2 ho hf => by unfold instrAt; rw [ho, hf]; rfl
theorem Words.imax (bay slot : Nat) (f : Short) : Words.Statement (.imax bay slot f) :=
  words_short _ bay slot 0x07 f rfl fun w w2 ho hf => by unfold instrAt; rw [ho, hf]; rfl
theorem Words.and (bay slot : Nat) (f : Short) : Words.Statement (.and bay slot f) :=
  words_short _ bay slot 0x08 f rfl fun w w2 ho hf => by unfold instrAt; rw [ho, hf]; rfl
theorem Words.or (bay slot : Nat) (f : Short) : Words.Statement (.or bay slot f) :=
  words_short _ bay slot 0x09 f rfl fun w w2 ho hf => by unfold instrAt; rw [ho, hf]; rfl
theorem Words.xor (bay slot : Nat) (f : Short) : Words.Statement (.xor bay slot f) :=
  words_short _ bay slot 0x0A f rfl fun w w2 ho hf => by unfold instrAt; rw [ho, hf]; rfl
theorem Words.andn (bay slot : Nat) (f : Short) : Words.Statement (.andn bay slot f) :=
  words_short _ bay slot 0x0B f rfl fun w w2 ho hf => by unfold instrAt; rw [ho, hf]; rfl
theorem Words.shl (bay slot : Nat) (f : Short) : Words.Statement (.shl bay slot f) :=
  words_short _ bay slot 0x0C f rfl fun w w2 ho hf => by unfold instrAt; rw [ho, hf]; rfl
theorem Words.shr (bay slot : Nat) (f : Short) : Words.Statement (.shr bay slot f) :=
  words_short _ bay slot 0x0D f rfl fun w w2 ho hf => by unfold instrAt; rw [ho, hf]; rfl
theorem Words.popc (bay slot : Nat) (f : Short) : Words.Statement (.popc bay slot f) :=
  words_short _ bay slot 0x0E f rfl fun w w2 ho hf => by unfold instrAt; rw [ho, hf]; rfl
theorem Words.clz (bay slot : Nat) (f : Short) : Words.Statement (.clz bay slot f) :=
  words_short _ bay slot 0x0F f rfl fun w w2 ho hf => by unfold instrAt; rw [ho, hf]; rfl
theorem Words.iaddi (bay slot : Nat) (f : Short) : Words.Statement (.iaddi bay slot f) :=
  words_short _ bay slot 0x10 f rfl fun w w2 ho hf => by unfold instrAt; rw [ho, hf]; rfl
theorem Words.movi (bay slot : Nat) (f : Short) : Words.Statement (.movi bay slot f) :=
  words_short _ bay slot 0x11 f rfl fun w w2 ho hf => by unfold instrAt; rw [ho, hf]; rfl
theorem Words.movhi (bay slot : Nat) (f : Short) : Words.Statement (.movhi bay slot f) :=
  words_short _ bay slot 0x12 f rfl fun w w2 ho hf => by unfold instrAt; rw [ho, hf]; rfl
theorem Words.isetp (bay slot : Nat) (f : Short) : Words.Statement (.isetp bay slot f) :=
  words_short _ bay slot 0x13 f rfl fun w w2 ho hf => by unfold instrAt; rw [ho, hf]; rfl
theorem Words.sel (bay slot : Nat) (f : Short) : Words.Statement (.sel bay slot f) :=
  words_short _ bay slot 0x14 f rfl fun w w2 ho hf => by unfold instrAt; rw [ho, hf]; rfl
theorem Words.plop (bay slot : Nat) (f : Short) : Words.Statement (.plop bay slot f) :=
  words_short _ bay slot 0x15 f rfl fun w w2 ho hf => by unfold instrAt; rw [ho, hf]; rfl
theorem Words.shfl (bay slot : Nat) (f : Short) : Words.Statement (.shfl bay slot f) :=
  words_short _ bay slot 0x16 f rfl fun w w2 ho hf => by unfold instrAt; rw [ho, hf]; rfl
theorem Words.vote (bay slot : Nat) (f : Short) : Words.Statement (.vote bay slot f) :=
  words_short _ bay slot 0x17 f rfl fun w w2 ho hf => by unfold instrAt; rw [ho, hf]; rfl
theorem Words.bfe (bay slot : Nat) (f : Short) : Words.Statement (.bfe bay slot f) :=
  words_short _ bay slot 0x18 f rfl fun w w2 ho hf => by unfold instrAt; rw [ho, hf]; rfl
theorem Words.bfi (bay slot : Nat) (f : Short) : Words.Statement (.bfi bay slot f) :=
  words_short _ bay slot 0x19 f rfl fun w w2 ho hf => by unfold instrAt; rw [ho, hf]; rfl
theorem Words.movu (bay slot : Nat) (f : Short) : Words.Statement (.movu bay slot f) :=
  words_short _ bay slot 0x1A f rfl fun w w2 ho hf => by unfold instrAt; rw [ho, hf]; rfl
theorem Words.fadd (bay slot : Nat) (f : Short) : Words.Statement (.fadd bay slot f) :=
  words_short _ bay slot 0x20 f rfl fun w w2 ho hf => by unfold instrAt; rw [ho, hf]; rfl
theorem Words.fsub (bay slot : Nat) (f : Short) : Words.Statement (.fsub bay slot f) :=
  words_short _ bay slot 0x21 f rfl fun w w2 ho hf => by unfold instrAt; rw [ho, hf]; rfl
theorem Words.fmul (bay slot : Nat) (f : Short) : Words.Statement (.fmul bay slot f) :=
  words_short _ bay slot 0x22 f rfl fun w w2 ho hf => by unfold instrAt; rw [ho, hf]; rfl
theorem Words.ffma (bay slot : Nat) (f : Short) : Words.Statement (.ffma bay slot f) :=
  words_short _ bay slot 0x23 f rfl fun w w2 ho hf => by unfold instrAt; rw [ho, hf]; rfl
theorem Words.fmin (bay slot : Nat) (f : Short) : Words.Statement (.fmin bay slot f) :=
  words_short _ bay slot 0x24 f rfl fun w w2 ho hf => by unfold instrAt; rw [ho, hf]; rfl
theorem Words.fmax (bay slot : Nat) (f : Short) : Words.Statement (.fmax bay slot f) :=
  words_short _ bay slot 0x25 f rfl fun w w2 ho hf => by unfold instrAt; rw [ho, hf]; rfl
theorem Words.fsetp (bay slot : Nat) (f : Short) : Words.Statement (.fsetp bay slot f) :=
  words_short _ bay slot 0x26 f rfl fun w w2 ho hf => by unfold instrAt; rw [ho, hf]; rfl
theorem Words.fabsneg (bay slot : Nat) (f : Short) : Words.Statement (.fabsneg bay slot f) :=
  words_short _ bay slot 0x27 f rfl fun w w2 ho hf => by unfold instrAt; rw [ho, hf]; rfl
theorem Words.frcp (bay slot : Nat) (f : Short) : Words.Statement (.frcp bay slot f) :=
  words_short _ bay slot 0x28 f rfl fun w w2 ho hf => by unfold instrAt; rw [ho, hf]; rfl
theorem Words.frsq (bay slot : Nat) (f : Short) : Words.Statement (.frsq bay slot f) :=
  words_short _ bay slot 0x29 f rfl fun w w2 ho hf => by unfold instrAt; rw [ho, hf]; rfl
theorem Words.fexp2 (bay slot : Nat) (f : Short) : Words.Statement (.fexp2 bay slot f) :=
  words_short _ bay slot 0x2A f rfl fun w w2 ho hf => by unfold instrAt; rw [ho, hf]; rfl
theorem Words.flog2 (bay slot : Nat) (f : Short) : Words.Statement (.flog2 bay slot f) :=
  words_short _ bay slot 0x2B f rfl fun w w2 ho hf => by unfold instrAt; rw [ho, hf]; rfl
theorem Words.ftanh (bay slot : Nat) (f : Short) : Words.Statement (.ftanh bay slot f) :=
  words_short _ bay slot 0x2C f rfl fun w w2 ho hf => by unfold instrAt; rw [ho, hf]; rfl
theorem Words.f2i (bay slot : Nat) (f : Short) : Words.Statement (.f2i bay slot f) :=
  words_short _ bay slot 0x2D f rfl fun w w2 ho hf => by unfold instrAt; rw [ho, hf]; rfl
theorem Words.i2f (bay slot : Nat) (f : Short) : Words.Statement (.i2f bay slot f) :=
  words_short _ bay slot 0x2E f rfl fun w w2 ho hf => by unfold instrAt; rw [ho, hf]; rfl
theorem Words.f2n (bay slot : Nat) (f : Short) : Words.Statement (.f2n bay slot f) :=
  words_short _ bay slot 0x2F f rfl fun w w2 ho hf => by unfold instrAt; rw [ho, hf]; rfl
theorem Words.n2f (bay slot : Nat) (f : Short) : Words.Statement (.n2f bay slot f) :=
  words_short _ bay slot 0x30 f rfl fun w w2 ho hf => by unfold instrAt; rw [ho, hf]; rfl
theorem Words.fclass (bay slot : Nat) (f : Short) : Words.Statement (.fclass bay slot f) :=
  words_short _ bay slot 0x31 f rfl fun w w2 ho hf => by unfold instrAt; rw [ho, hf]; rfl
theorem Words.uadd (bay slot : Nat) (f : Short) : Words.Statement (.uadd bay slot f) :=
  words_short _ bay slot 0x40 f rfl fun w w2 ho hf => by unfold instrAt; rw [ho, hf]; rfl
theorem Words.uaddi (bay slot : Nat) (f : Short) : Words.Statement (.uaddi bay slot f) :=
  words_short _ bay slot 0x41 f rfl fun w w2 ho hf => by unfold instrAt; rw [ho, hf]; rfl
theorem Words.umovi (bay slot : Nat) (f : Short) : Words.Statement (.umovi bay slot f) :=
  words_short _ bay slot 0x42 f rfl fun w w2 ho hf => by unfold instrAt; rw [ho, hf]; rfl
theorem Words.ului (bay slot : Nat) (f : Short) : Words.Statement (.ului bay slot f) :=
  words_short _ bay slot 0x43 f rfl fun w w2 ho hf => by unfold instrAt; rw [ho, hf]; rfl
theorem Words.umul (bay slot : Nat) (f : Short) : Words.Statement (.umul bay slot f) :=
  words_short _ bay slot 0x44 f rfl fun w w2 ho hf => by unfold instrAt; rw [ho, hf]; rfl
theorem Words.ushift (bay slot : Nat) (f : Short) : Words.Statement (.ushift bay slot f) :=
  words_short _ bay slot 0x45 f rfl fun w w2 ho hf => by unfold instrAt; rw [ho, hf]; rfl
theorem Words.uand (bay slot : Nat) (f : Short) : Words.Statement (.uand bay slot f) :=
  words_short _ bay slot 0x46 f rfl fun w w2 ho hf => by unfold instrAt; rw [ho, hf]; rfl
theorem Words.umovv (bay slot : Nat) (f : Short) : Words.Statement (.umovv bay slot f) :=
  words_short _ bay slot 0x47 f rfl fun w w2 ho hf => by unfold instrAt; rw [ho, hf]; rfl
theorem Words.bra (bay slot : Nat) (f : Short) : Words.Statement (.bra bay slot f) :=
  words_short _ bay slot 0x48 f rfl fun w w2 ho hf => by unfold instrAt; rw [ho, hf]; rfl
theorem Words.jmpu (bay slot : Nat) (f : Short) : Words.Statement (.jmpu bay slot f) :=
  words_short _ bay slot 0x49 f rfl fun w w2 ho hf => by unfold instrAt; rw [ho, hf]; rfl
theorem Words.loop (bay slot : Nat) (f : Short) : Words.Statement (.loop bay slot f) :=
  words_short _ bay slot 0x4A f rfl fun w w2 ho hf => by unfold instrAt; rw [ho, hf]; rfl
theorem Words.call (bay slot : Nat) (f : Short) : Words.Statement (.call bay slot f) :=
  words_short _ bay slot 0x4B f rfl fun w w2 ho hf => by unfold instrAt; rw [ho, hf]; rfl
theorem Words.ret (bay slot : Nat) (f : Short) : Words.Statement (.ret bay slot f) :=
  words_short _ bay slot 0x4C f rfl fun w w2 ho hf => by unfold instrAt; rw [ho, hf]; rfl
theorem Words.exit (bay slot : Nat) (f : Short) : Words.Statement (.exit bay slot f) :=
  words_short _ bay slot 0x4D f rfl fun w w2 ho hf => by unfold instrAt; rw [ho, hf]; rfl
theorem Words.launch (bay slot : Nat) (f : Short) : Words.Statement (.launch bay slot f) :=
  words_short _ bay slot 0x4E f rfl fun w w2 ho hf => by unfold instrAt; rw [ho, hf]; rfl
theorem Words.loadLocal (bay slot : Nat) (f : Short) : Words.Statement (.loadLocal bay slot f) :=
  words_short _ bay slot 0x50 f rfl fun w w2 ho hf => by unfold instrAt; rw [ho, hf]; rfl
theorem Words.storeLocal (bay slot : Nat) (f : Short) : Words.Statement (.storeLocal bay slot f) :=
  words_short _ bay slot 0x51 f rfl fun w w2 ho hf => by unfold instrAt; rw [ho, hf]; rfl
theorem Words.loadAcc (bay slot : Nat) (f : Short) : Words.Statement (.loadAcc bay slot f) :=
  words_short _ bay slot 0x52 f rfl fun w w2 ho hf => by unfold instrAt; rw [ho, hf]; rfl
theorem Words.storeAcc (bay slot : Nat) (f : Short) : Words.Statement (.storeAcc bay slot f) :=
  words_short _ bay slot 0x53 f rfl fun w w2 ho hf => by unfold instrAt; rw [ho, hf]; rfl
theorem Words.loadDev (bay slot : Nat) (f : Short) : Words.Statement (.loadDev bay slot f) :=
  words_short _ bay slot 0x54 f rfl fun w w2 ho hf => by unfold instrAt; rw [ho, hf]; rfl
theorem Words.storeDev (bay slot : Nat) (f : Short) : Words.Statement (.storeDev bay slot f) :=
  words_short _ bay slot 0x55 f rfl fun w w2 ho hf => by unfold instrAt; rw [ho, hf]; rfl
theorem Words.atomDev (bay slot : Nat) (f : Short) : Words.Statement (.atomDev bay slot f) :=
  words_short _ bay slot 0x56 f rfl fun w w2 ho hf => by unfold instrAt; rw [ho, hf]; rfl
theorem Words.atomLocal (bay slot : Nat) (f : Short) : Words.Statement (.atomLocal bay slot f) :=
  words_short _ bay slot 0x57 f rfl fun w w2 ho hf => by unfold instrAt; rw [ho, hf]; rfl
theorem Words.flashRead (bay slot : Nat) (f : Short) : Words.Statement (.flashRead bay slot f) :=
  words_short _ bay slot 0x58 f rfl fun w w2 ho hf => by unfold instrAt; rw [ho, hf]; rfl
theorem Words.spanClear (bay slot : Nat) (f : Short) : Words.Statement (.spanClear bay slot f) :=
  words_short _ bay slot 0x59 f rfl fun w w2 ho hf => by unfold instrAt; rw [ho, hf]; rfl
theorem Words.evSignal (bay slot : Nat) (f : Short) : Words.Statement (.evSignal bay slot f) :=
  words_short _ bay slot 0x60 f rfl fun w w2 ho hf => by unfold instrAt; rw [ho, hf]; rfl
theorem Words.evSet (bay slot : Nat) (f : Short) : Words.Statement (.evSet bay slot f) :=
  words_short _ bay slot 0x61 f rfl fun w w2 ho hf => by unfold instrAt; rw [ho, hf]; rfl
theorem Words.evWait (bay slot : Nat) (f : Short) : Words.Statement (.evWait bay slot f) :=
  words_short _ bay slot 0x62 f rfl fun w w2 ho hf => by unfold instrAt; rw [ho, hf]; rfl
theorem Words.fenceLocal (bay slot : Nat) (f : Short) : Words.Statement (.fenceLocal bay slot f) :=
  words_short _ bay slot 0x63 f rfl fun w w2 ho hf => by unfold instrAt; rw [ho, hf]; rfl
theorem Words.fenceDevice (bay slot : Nat) (f : Short) : Words.Statement (.fenceDevice bay slot f) :=
  words_short _ bay slot 0x64 f rfl fun w w2 ho hf => by unfold instrAt; rw [ho, hf]; rfl
theorem Words.fenceStamp (bay slot : Nat) (f : Short) : Words.Statement (.fenceStamp bay slot f) :=
  words_short _ bay slot 0x65 f rfl fun w w2 ho hf => by unfold instrAt; rw [ho, hf]; rfl
theorem Words.park (bay slot : Nat) (f : Short) : Words.Statement (.park bay slot f) :=
  words_short _ bay slot 0x66 f rfl fun w w2 ho hf => by unfold instrAt; rw [ho, hf]; rfl
theorem Words.yield (bay slot : Nat) (f : Short) : Words.Statement (.yield bay slot f) :=
  words_short _ bay slot 0x67 f rfl fun w w2 ho hf => by unfold instrAt; rw [ho, hf]; rfl
theorem Words.msgSend (bay slot : Nat) (f : Short) : Words.Statement (.msgSend bay slot f) :=
  words_short _ bay slot 0x68 f rfl fun w w2 ho hf => by unfold instrAt; rw [ho, hf]; rfl
theorem Words.remoteGet (bay slot : Nat) (f : Short) : Words.Statement (.remoteGet bay slot f) :=
  words_short _ bay slot 0x69 f rfl fun w w2 ho hf => by unfold instrAt; rw [ho, hf]; rfl
theorem Words.remotePut (bay slot : Nat) (f : Short) : Words.Statement (.remotePut bay slot f) :=
  words_short _ bay slot 0x6A f rfl fun w w2 ho hf => by unfold instrAt; rw [ho, hf]; rfl
theorem Words.remoteLoad (bay slot : Nat) (f : Short) : Words.Statement (.remoteLoad bay slot f) :=
  words_short _ bay slot 0x6B f rfl fun w w2 ho hf => by unfold instrAt; rw [ho, hf]; rfl
theorem Words.remoteAtom (bay slot : Nat) (f : Short) : Words.Statement (.remoteAtom bay slot f) :=
  words_short _ bay slot 0x6C f rfl fun w w2 ho hf => by unfold instrAt; rw [ho, hf]; rfl
theorem Words.trap (bay slot : Nat) (f : Short) : Words.Statement (.trap bay slot f) :=
  words_short _ bay slot 0x70 f rfl fun w w2 ho hf => by unfold instrAt; rw [ho, hf]; rfl
theorem Words.time (bay slot : Nat) (f : Short) : Words.Statement (.time bay slot f) :=
  words_short _ bay slot 0x71 f rfl fun w w2 ho hf => by unfold instrAt; rw [ho, hf]; rfl
theorem Words.ctr (bay slot : Nat) (f : Short) : Words.Statement (.ctr bay slot f) :=
  words_short _ bay slot 0x72 f rfl fun w w2 ho hf => by unfold instrAt; rw [ho, hf]; rfl
theorem Words.bayinfo (bay slot : Nat) (f : Short) : Words.Statement (.bayinfo bay slot f) :=
  words_short _ bay slot 0x73 f rfl fun w w2 ho hf => by unfold instrAt; rw [ho, hf]; rfl
theorem Words.trace (bay slot : Nat) (f : Short) : Words.Statement (.trace bay slot f) :=
  words_short _ bay slot 0x74 f rfl fun w w2 ho hf => by unfold instrAt; rw [ho, hf]; rfl
theorem Words.brk (bay slot : Nat) (f : Short) : Words.Statement (.brk bay slot f) :=
  words_short _ bay slot 0x75 f rfl fun w w2 ho hf => by unfold instrAt; rw [ho, hf]; rfl
theorem Words.trShape (bay slot : Nat) (f : Short) (w2 : W64) : Words.Statement (.trShape bay slot f w2) :=
  words_long _ bay slot 0x80 f w2 rfl fun w ho hf => by unfold instrAt; rw [ho, hf]; rfl
theorem Words.trWload (bay slot : Nat) (f : Short) (w2 : W64) : Words.Statement (.trWload bay slot f w2) :=
  words_long _ bay slot 0x81 f w2 rfl fun w ho hf => by unfold instrAt; rw [ho, hf]; rfl
theorem Words.trSwap (bay slot : Nat) (f : Short) (w2 : W64) : Words.Statement (.trSwap bay slot f w2) :=
  words_long _ bay slot 0x82 f w2 rfl fun w ho hf => by unfold instrAt; rw [ho, hf]; rfl
theorem Words.trRun (bay slot : Nat) (f : Short) (w2 : W64) : Words.Statement (.trRun bay slot f w2) :=
  words_long _ bay slot 0x83 f w2 rfl fun w ho hf => by unfold instrAt; rw [ho, hf]; rfl
theorem Words.trCmp (bay slot : Nat) (f : Short) (w2 : W64) : Words.Statement (.trCmp bay slot f w2) :=
  words_long _ bay slot 0x84 f w2 rfl fun w ho hf => by unfold instrAt; rw [ho, hf]; rfl
theorem Words.trAccz (bay slot : Nat) (f : Short) (w2 : W64) : Words.Statement (.trAccz bay slot f w2) :=
  words_long _ bay slot 0x85 f w2 rfl fun w ho hf => by unfold instrAt; rw [ho, hf]; rfl
theorem Words.trSync (bay slot : Nat) (f : Short) (w2 : W64) : Words.Statement (.trSync bay slot f w2) :=
  words_long _ bay slot 0x86 f w2 rfl fun w ho hf => by unfold instrAt; rw [ho, hf]; rfl
theorem Words.trussFormComplete (bay : Nat) : Words.Statement (.trussFormComplete bay) := words_absent _ rfl
theorem Words.dmaLoad (bay slot : Nat) (f : Short) (w2 : W64) : Words.Statement (.dmaLoad bay slot f w2) :=
  words_long _ bay slot 0x90 f w2 rfl fun w ho hf => by unfold instrAt; rw [ho, hf]; rfl
theorem Words.dmaStore (bay slot : Nat) (f : Short) (w2 : W64) : Words.Statement (.dmaStore bay slot f w2) :=
  words_long _ bay slot 0x91 f w2 rfl fun w ho hf => by unfold instrAt; rw [ho, hf]; rfl
theorem Words.dmaCopy (bay slot : Nat) (f : Short) (w2 : W64) : Words.Statement (.dmaCopy bay slot f w2) :=
  words_long _ bay slot 0x92 f w2 rfl fun w ho hf => by unfold instrAt; rw [ho, hf]; rfl
theorem Words.dmaScarf (bay slot : Nat) (f : Short) (w2 : W64) : Words.Statement (.dmaScarf bay slot f w2) :=
  words_long _ bay slot 0x93 f w2 rfl fun w ho hf => by unfold instrAt; rw [ho, hf]; rfl
theorem Words.dmaUnscarf (bay slot : Nat) (f : Short) (w2 : W64) : Words.Statement (.dmaUnscarf bay slot f w2) :=
  words_long _ bay slot 0x94 f w2 rfl fun w ho hf => by unfold instrAt; rw [ho, hf]; rfl
theorem Words.dmaFill (bay slot : Nat) (f : Short) (w2 : W64) : Words.Statement (.dmaFill bay slot f w2) :=
  words_long _ bay slot 0x95 f w2 rfl fun w ho hf => by unfold instrAt; rw [ho, hf]; rfl
theorem Words.dmaDescriptorComplete (bay ch : Nat) : Words.Statement (.dmaDescriptorComplete bay ch) := words_absent _ rfl
theorem Words.dmaFault (bay ch : Nat) : Words.Statement (.dmaFault bay ch) := words_absent _ rfl
theorem Words.dmaResume (bay ch : Nat) : Words.Statement (.dmaResume bay ch) := words_absent _ rfl
theorem Words.dmaFlush (bay ch : Nat) : Words.Statement (.dmaFlush bay ch) := words_absent _ rfl
theorem Words.selTopk (bay slot : Nat) (f : Short) (w2 : W64) : Words.Statement (.selTopk bay slot f w2) :=
  words_long _ bay slot 0x98 f w2 rfl fun w ho hf => by unfold instrAt; rw [ho, hf]; rfl
theorem Words.selHist (bay slot : Nat) (f : Short) (w2 : W64) : Words.Statement (.selHist bay slot f w2) :=
  words_long _ bay slot 0x99 f w2 rfl fun w ho hf => by unfold instrAt; rw [ho, hf]; rfl
theorem Words.selEmit (bay slot : Nat) (f : Short) (w2 : W64) : Words.Statement (.selEmit bay slot f w2) :=
  words_long _ bay slot 0x9A f w2 rfl fun w ho hf => by unfold instrAt; rw [ho, hf]; rfl
theorem Words.merge (bay slot : Nat) (f : Short) (w2 : W64) : Words.Statement (.merge bay slot f w2) :=
  words_long _ bay slot 0x9B f w2 rfl fun w ho hf => by unfold instrAt; rw [ho, hf]; rfl
theorem Words.selectFormComplete (bay : Nat) : Words.Statement (.selectFormComplete bay) := words_absent _ rfl
theorem Words.smpFeed (bay slot : Nat) (f : Short) (w2 : W64) : Words.Statement (.smpFeed bay slot f w2) :=
  words_long _ bay slot 0xA0 f w2 rfl fun w ho hf => by unfold instrAt; rw [ho, hf]; rfl
theorem Words.smpClose (bay slot : Nat) (f : Short) (w2 : W64) : Words.Statement (.smpClose bay slot f w2) :=
  words_long _ bay slot 0xA1 f w2 rfl fun w ho hf => by unfold instrAt; rw [ho, hf]; rfl
theorem Words.smpDraft (bay slot : Nat) (f : Short) (w2 : W64) : Words.Statement (.smpDraft bay slot f w2) :=
  words_long _ bay slot 0xA2 f w2 rfl fun w ho hf => by unfold instrAt; rw [ho, hf]; rfl
theorem Words.indexRegister (x : Nat) (v : W64) : Words.Statement (.indexRegister x v) := words_absent _ rfl
theorem Words.indexRetire (x : Nat) : Words.Statement (.indexRetire x) := words_absent _ rfl
theorem Words.searchStart (n : Nat) : Words.Statement (.searchStart n) := words_absent _ rfl
theorem Words.searchRound (n j : Nat) : Words.Statement (.searchRound n j) := words_absent _ rfl
theorem Words.granuleReadComplete (n j node : Nat) : Words.Statement (.granuleReadComplete n j node) := words_absent _ rfl
theorem Words.rescoreLeg (n : Nat) : Words.Statement (.rescoreLeg n) := words_absent _ rfl
theorem Words.callbackDone (n : Nat) : Words.Statement (.callbackDone n) := words_absent _ rfl
theorem Words.callbackTimeout (n : Nat) : Words.Statement (.callbackTimeout n) := words_absent _ rfl
theorem Words.indexInsert (n : Nat) : Words.Statement (.indexInsert n) := words_absent _ rfl
theorem Words.indexDelete (n : Nat) : Words.Statement (.indexDelete n) := words_absent _ rfl
theorem Words.mutationCommit (n : Nat) : Words.Statement (.mutationCommit n) := words_absent _ rfl
theorem Words.versionReclaim (e : Nat) : Words.Statement (.versionReclaim e) := words_absent _ rfl
theorem Words.groundTruthPass (n : Nat) : Words.Statement (.groundTruthPass n) := words_absent _ rfl
theorem Words.tableRegister (x : Nat) (v : W64) : Words.Statement (.tableRegister x v) := words_absent _ rfl
theorem Words.tableRetire (x : Nat) : Words.Statement (.tableRetire x) := words_absent _ rfl
theorem Words.tableCommandIssue (isl t n : Nat) (cmd : List Byte) : Words.Statement (.tableCommandIssue isl t n cmd) := words_absent _ rfl
theorem Words.tableGather (id k : Nat) (given : List (List Byte × Bool)) : Words.Statement (.tableGather id k given) := words_absent _ rfl
theorem Words.tableScatter (id k : Nat) : Words.Statement (.tableScatter id k) := words_absent _ rfl
theorem Words.tableScatterAdd (id k : Nat) (order : List Nat) : Words.Statement (.tableScatterAdd id k order) := words_absent _ rfl
theorem Words.tableCommandComplete (id : Nat) : Words.Statement (.tableCommandComplete id) := words_absent _ rfl
theorem Words.hotSampleInterval (x : Nat) (counts : List (Nat × Nat)) : Words.Statement (.hotSampleInterval x counts) := words_absent _ rfl
theorem Words.replicaCopyComplete (x n : Nat) : Words.Statement (.replicaCopyComplete x n) := words_absent _ rfl
theorem Words.bucketMove (x bucket shard slot cut : Nat) : Words.Statement (.bucketMove x bucket shard slot cut) := words_absent _ rfl
theorem Words.tableSwitch (v : W64) : Words.Statement (.tableSwitch v) := words_absent _ rfl
theorem Words.tableSwitchActivate (x : Nat) : Words.Statement (.tableSwitchActivate x) := words_absent _ rfl
theorem Words.panelTableCreate (t rangeLog2 dir : Nat) : Words.Statement (.panelTableCreate t rangeLog2 dir) := words_absent _ rfl
theorem Words.panelTableDestroy (t : Nat) : Words.Statement (.panelTableDestroy t) := words_absent _ rfl
theorem Words.panelRead (t v : Nat) : Words.Statement (.panelRead t v) := words_absent _ rfl
theorem Words.mapHbm (t v count : Nat) (picks : List Nat) : Words.Statement (.mapHbm t v count picks) := words_absent _ rfl
theorem Words.mapFlash (t v count : Nat) : Words.Statement (.mapFlash t v count) := words_absent _ rfl
theorem Words.unmap (t v count : Nat) : Words.Statement (.unmap t v count) := words_absent _ rfl
theorem Words.hintPrefetch (t v count : Nat) : Words.Statement (.hintPrefetch t v count) := words_absent _ rfl
theorem Words.hintPin (t v count : Nat) : Words.Statement (.hintPin t v count) := words_absent _ rfl
theorem Words.hintUnpin (t v count : Nat) : Words.Statement (.hintUnpin t v count) := words_absent _ rfl
theorem Words.hintDemote (t v count : Nat) : Words.Statement (.hintDemote t v count) := words_absent _ rfl
theorem Words.inboundMigration (m : Nat) (pick : Option Nat) : Words.Statement (.inboundMigration m pick) := words_absent _ rfl
theorem Words.inboundMigrationDone (t v : Nat) : Words.Statement (.inboundMigrationDone t v) := words_absent _ rfl
theorem Words.outboundMigration (m : Nat) (pick : Option Nat) : Words.Statement (.outboundMigration m pick) := words_absent _ rfl
theorem Words.outboundWritebackDone (t v : Nat) : Words.Statement (.outboundWritebackDone t v) := words_absent _ rfl
theorem Words.outboundCommitSettled (t v : Nat) : Words.Statement (.outboundCommitSettled t v) := words_absent _ rfl
theorem Words.panelRetire (p : Nat) : Words.Statement (.panelRetire p) := words_absent _ rfl
theorem Words.flashSetCreate (k mask : Nat) (plp : Bool) (ident : W128) : Words.Statement (.flashSetCreate k mask plp ident) := words_absent _ rfl
theorem Words.flashSetAssemble (k mask : Nat) : Words.Statement (.flashSetAssemble k mask) := words_absent _ rfl
theorem Words.flashRebuildGo (k slot : Nat) (fresh : Option Nat) (supported : Bool) : Words.Statement (.flashRebuildGo k slot fresh supported) := words_absent _ rfl
theorem Words.flashRebuildDone (k : Nat) : Words.Statement (.flashRebuildDone k) := words_absent _ rfl
theorem Words.nvmeCompletion (id status : Nat) : Words.Statement (.nvmeCompletion id status) := words_absent _ rfl
theorem Words.nvmeCommandTimeout (id : Nat) : Words.Statement (.nvmeCommandTimeout id) := words_absent _ rfl
theorem Words.ssdFail (slot : Nat) : Words.Statement (.ssdFail slot) := words_absent _ rfl
theorem Words.vocabRegister (x : Nat) (v : W64) : Words.Statement (.vocabRegister x v) := words_absent _ rfl
theorem Words.vocabLoadComplete (x : Nat) : Words.Statement (.vocabLoadComplete x) := words_absent _ rfl
theorem Words.vocabRetire (x : Nat) : Words.Statement (.vocabRetire x) := words_absent _ rfl
theorem Words.tokenizeLeg (n : Nat) : Words.Statement (.tokenizeLeg n) := words_absent _ rfl
theorem Words.kerfContextAcquire (n : Nat) : Words.Statement (.kerfContextAcquire n) := words_absent _ rfl
theorem Words.guylineContextAcquire (n : Nat) : Words.Statement (.guylineContextAcquire n) := words_absent _ rfl
theorem Words.grammarRegister (x : Nat) (v : W64) : Words.Statement (.grammarRegister x v) := words_absent _ rfl
theorem Words.grammarLoadComplete (x : Nat) : Words.Statement (.grammarLoadComplete x) := words_absent _ rfl
theorem Words.grammarRetire (x : Nat) : Words.Statement (.grammarRetire x) := words_absent _ rfl
theorem Words.guylineMask (n j : Nat) : Words.Statement (.guylineMask n j) := words_absent _ rfl
theorem Words.sqRegister (q : Nat) (v : W64) : Words.Statement (.sqRegister q v) := words_absent _ rfl
theorem Words.sqDisable (q : Nat) : Words.Statement (.sqDisable q) := words_absent _ rfl
theorem Words.cqRegister (c : Nat) (v : W64) : Words.Statement (.cqRegister c v) := words_absent _ rfl
theorem Words.cqDisable (c : Nat) : Words.Statement (.cqDisable c) := words_absent _ rfl
theorem Words.sqDoorbell (q : Nat) (v : W64) : Words.Statement (.sqDoorbell q v) := words_absent _ rfl
theorem Words.cqDoorbell (c : Nat) (v : W64) : Words.Statement (.cqDoorbell c v) := words_absent _ rfl
theorem Words.descriptorFetch : Words.Statement .descriptorFetch := words_absent _ rfl
theorem Words.requestEmbed : Words.Statement .requestEmbed := words_absent _ rfl
theorem Words.requestSearch : Words.Statement .requestSearch := words_absent _ rfl
theorem Words.requestRerank : Words.Statement .requestRerank := words_absent _ rfl
theorem Words.requestGenerate : Words.Statement .requestGenerate := words_absent _ rfl
theorem Words.requestRag : Words.Statement .requestRag := words_absent _ rfl
theorem Words.requestTokenize : Words.Statement .requestTokenize := words_absent _ rfl
theorem Words.requestIndexMutate : Words.Statement .requestIndexMutate := words_absent _ rfl
theorem Words.requestTableOp : Words.Statement .requestTableOp := words_absent _ rfl
theorem Words.requestCancel : Words.Statement .requestCancel := words_absent _ rfl
theorem Words.heldDescriptorAdmit (t c : Nat) : Words.Statement (.heldDescriptorAdmit t c) := words_absent _ rfl
theorem Words.acceptRecordPost (c : Nat) : Words.Statement (.acceptRecordPost c) := words_absent _ rfl
theorem Words.embedLeg (n : Nat) (vec : List W32) (bad : Bool) : Words.Statement (.embedLeg n vec bad) := words_absent _ rfl
theorem Words.rerankLeg (n : Nat) (scores : List PWord) : Words.Statement (.rerankLeg n scores) := words_absent _ rfl
theorem Words.packLeg (n : Nat) : Words.Statement (.packLeg n) := words_absent _ rfl
theorem Words.legComplete (n : Nat) : Words.Statement (.legComplete n) := words_absent _ rfl
theorem Words.ringRegister (k t log2 : Nat) : Words.Statement (.ringRegister k t log2) := words_absent _ rfl
theorem Words.ringUnregister (k : Nat) : Words.Statement (.ringUnregister k) := words_absent _ rfl
theorem Words.ringRead (k : Nat) : Words.Statement (.ringRead k) := words_absent _ rfl
theorem Words.ringConsumerPoll (k : Nat) : Words.Statement (.ringConsumerPoll k) := words_absent _ rfl
theorem Words.recordPublish (n : Nat) : Words.Statement (.recordPublish n) := words_absent _ rfl
theorem Words.cancelDecision (n : Nat) : Words.Statement (.cancelDecision n) := words_absent _ rfl
theorem Words.stepBoundary (t slot : Nat) (risk : List Nat) (cuts : List (Nat × Nat)) : Words.Statement (.stepBoundary t slot risk cuts) := words_absent _ rfl
theorem Words.draftDraw (n ctx : Nat) (w : W32) : Words.Statement (.draftDraw n ctx w) := words_absent _ rfl
theorem Words.samplerDraw (n ctx : Nat) (ws : List W32) : Words.Statement (.samplerDraw n ctx ws) := words_absent _ rfl
theorem Words.stepCommit (n : Nat) : Words.Statement (.stepCommit n) := words_absent _ rfl
theorem Words.stepClose (t slot : Nat) : Words.Statement (.stepClose t slot) := words_absent _ rfl
theorem Words.batchDescriptorWrite (t : Nat) (v : W64) : Words.Statement (.batchDescriptorWrite t v) := words_absent _ rfl
theorem Words.batchStart (t : Nat) : Words.Statement (.batchStart t) := words_absent _ rfl
theorem Words.adapterInstall (t a : Nat) : Words.Statement (.adapterInstall t a) := words_absent _ rfl
theorem Words.adapterRetire (t a : Nat) : Words.Statement (.adapterRetire t a) := words_absent _ rfl
theorem Words.adapterQuery (t a : Nat) : Words.Statement (.adapterQuery t a) := words_absent _ rfl
theorem Words.tentConfigure (t : Nat) (key : W128) : Words.Statement (.tentConfigure t key) := words_absent _ rfl
theorem Words.tentAbort (t : Nat) : Words.Statement (.tentAbort t) := words_absent _ rfl
theorem Words.tentActivate (t : Nat) : Words.Statement (.tentActivate t) := words_absent _ rfl
theorem Words.tentReset (t : Nat) : Words.Statement (.tentReset t) := words_absent _ rfl
theorem Words.tentRelease (t : Nat) : Words.Statement (.tentRelease t) := words_absent _ rfl
theorem Words.tentReleaseDrained (t : Nat) : Words.Statement (.tentReleaseDrained t) := words_absent _ rfl
theorem Words.tentFree (t : Nat) : Words.Statement (.tentFree t) := words_absent _ rfl
theorem Words.tentReloadModels (t : Nat) : Words.Statement (.tentReloadModels t) := words_absent _ rfl
theorem Words.quotaWrite (t : Nat) (v : W64) : Words.Statement (.quotaWrite t v) := words_absent _ rfl
theorem Words.migrationCutArm (t : Nat) (v : W64) : Words.Statement (.migrationCutArm t v) := words_absent _ rfl
theorem Words.migrationCut (t : Nat) : Words.Statement (.migrationCut t) := words_absent _ rfl
theorem Words.bayReset (bay : Nat) : Words.Statement (.bayReset bay) := words_absent _ rfl
theorem Words.crewPreempt (bay slot : Nat) : Words.Statement (.crewPreempt bay slot) := words_absent _ rfl
theorem Words.crewRestore (k slot : Nat) : Words.Statement (.crewRestore k slot) := words_absent _ rfl
theorem Words.shapeRateWrite (t c : Nat) (v : W64) : Words.Statement (.shapeRateWrite t c v) := words_absent _ rfl
theorem Words.shapeBurstWrite (t c : Nat) (v : W64) : Words.Statement (.shapeBurstWrite t c v) := words_absent _ rfl
theorem Words.gateListArm (a : W64) : Words.Statement (.gateListArm a) := words_absent _ rfl
theorem Words.gateListActivate : Words.Statement .gateListActivate := words_absent _ rfl
theorem Words.gateEntryAdvance : Words.Statement .gateEntryAdvance := words_absent _ rfl
theorem Words.acctEnable (t : Nat) (v : W64) : Words.Statement (.acctEnable t v) := words_absent _ rfl
theorem Words.acctDisable (t : Nat) : Words.Statement (.acctDisable t) := words_absent _ rfl
theorem Words.acctSnapshotArm (v : W64) : Words.Statement (.acctSnapshotArm v) := words_absent _ rfl
theorem Words.acctSnapshotWrite : Words.Statement .acctSnapshotWrite := words_absent _ rfl
theorem Words.journalAdmit : Words.Statement .journalAdmit := words_absent _ rfl
theorem Words.journalLegResult : Words.Statement .journalLegResult := words_absent _ rfl
theorem Words.journalTokens : Words.Statement .journalTokens := words_absent _ rfl
theorem Words.journalCancel : Words.Statement .journalCancel := words_absent _ rfl
theorem Words.journalComplete (n : Nat) : Words.Statement (.journalComplete n) := words_absent _ rfl
theorem Words.groupCommitWrite : Words.Statement .groupCommitWrite := words_absent _ rfl
theorem Words.groupWriteComplete : Words.Statement .groupWriteComplete := words_absent _ rfl
theorem Words.mirrorTimeout : Words.Statement .mirrorTimeout := words_absent _ rfl
theorem Words.mirrorPeerChange (v : W64) : Words.Statement (.mirrorPeerChange v) := words_absent _ rfl
theorem Words.mirrorResyncComplete : Words.Statement .mirrorResyncComplete := words_absent _ rfl
theorem Words.mirrorProbe (answered : Bool) : Words.Statement (.mirrorProbe answered) := words_absent _ rfl
theorem Words.hostBeat : Words.Statement .hostBeat := words_absent _ rfl
theorem Words.hostAttach : Words.Statement .hostAttach := words_absent _ rfl
theorem Words.hostDetach : Words.Statement .hostDetach := words_absent _ rfl
theorem Words.leaseExpire : Words.Statement .leaseExpire := words_absent _ rfl
theorem Words.replayScan (bad : List Nat) (peer : List JRec) : Words.Statement (.replayScan bad peer) := words_absent _ rfl
theorem Words.recoveryTableWrite (v : W64) : Words.Statement (.recoveryTableWrite v) := words_absent _ rfl
theorem Words.tentRecover (t : Nat) : Words.Statement (.tentRecover t) := words_absent _ rfl
theorem Words.requestReattach (k : Nat) : Words.Statement (.requestReattach k) := words_absent _ rfl
theorem Words.rangerWatchdogExpire (r : Nat) : Words.Statement (.rangerWatchdogExpire r) := words_absent _ rfl
theorem Words.rangerRestartComplete (r : Nat) (ok : Bool) : Words.Statement (.rangerRestartComplete r ok) := words_absent _ rfl
theorem Words.linksGo (v : W64) : Words.Statement (.linksGo v) := words_absent _ rfl
theorem Words.linkTrainRetry (l : Nat) (peer : Option (Nat × Nat)) : Words.Statement (.linkTrainRetry l peer) := words_absent _ rfl
theorem Words.linkKeyAgree (l : Nat) (ok : Bool) : Words.Statement (.linkKeyAgree l ok) := words_absent _ rfl
theorem Words.linkRekey (l : Nat) : Words.Statement (.linkRekey l) := words_absent _ rfl
theorem Words.linkTimeExchange (l rtt : Nat) (skew : Int) (root hops : Nat) : Words.Statement (.linkTimeExchange l rtt skew root hops) := words_absent _ rfl
theorem Words.linkUp (l : Nat) : Words.Statement (.linkUp l) := words_absent _ rfl
theorem Words.flitSend (l : Nat) : Words.Statement (.flitSend l) := words_absent _ rfl
theorem Words.flitReceive (l : Nat) (f : Flit) (crcOk sealOk : Bool) : Words.Statement (.flitReceive l f crcOk sealOk) := words_absent _ rfl
theorem Words.ackTimer (l : Nat) : Words.Statement (.ackTimer l) := words_absent _ rfl
theorem Words.sealIdleClose (l : Nat) : Words.Statement (.sealIdleClose l) := words_absent _ rfl
theorem Words.flitForward (l : Nat) : Words.Statement (.flitForward l) := words_absent _ rfl
theorem Words.routeWrite (v : W64) : Words.Statement (.routeWrite v) := words_absent _ rfl
theorem Words.routeHoldExpire (d : Nat) : Words.Statement (.routeHoldExpire d) := words_absent _ rfl
theorem Words.txnRead (k : Nat) : Words.Statement (.txnRead k) := words_absent _ rfl
theorem Words.txnWrite (k : Nat) : Words.Statement (.txnWrite k) := words_absent _ rfl
theorem Words.txnAtomic (k : Nat) : Words.Statement (.txnAtomic k) := words_absent _ rfl
theorem Words.txnMessage (k : Nat) : Words.Statement (.txnMessage k) := words_absent _ rfl
theorem Words.txnReadData (k : Nat) : Words.Statement (.txnReadData k) := words_absent _ rfl
theorem Words.txnWriteDone (k : Nat) : Words.Statement (.txnWriteDone k) := words_absent _ rfl
theorem Words.txnAtomicData (k : Nat) : Words.Statement (.txnAtomicData k) := words_absent _ rfl
theorem Words.txnFault (k : Nat) : Words.Statement (.txnFault k) := words_absent _ rfl
theorem Words.txnCollective (k : Nat) : Words.Statement (.txnCollective k) := words_absent _ rfl
theorem Words.txnJournal (k : Nat) : Words.Statement (.txnJournal k) := words_absent _ rfl
theorem Words.txnJournalAck (k : Nat) : Words.Statement (.txnJournalAck k) := words_absent _ rfl
theorem Words.txnLinkNotice (k : Nat) : Words.Statement (.txnLinkNotice k) := words_absent _ rfl
theorem Words.txnFreeze (k : Nat) : Words.Statement (.txnFreeze k) := words_absent _ rfl
theorem Words.txnResume (k : Nat) : Words.Statement (.txnResume k) := words_absent _ rfl
theorem Words.keyidAnnounce (t : Nat) : Words.Statement (.keyidAnnounce t) := words_absent _ rfl
theorem Words.remoteTimeout (tag : Nat) : Words.Statement (.remoteTimeout tag) := words_absent _ rfl
theorem Words.linkDown (l reason : Nat) : Words.Statement (.linkDown l reason) := words_absent _ rfl
theorem Words.linkDisable (l : Nat) : Words.Statement (.linkDisable l) := words_absent _ rfl
theorem Words.linkNoticeTimeout (l : Nat) : Words.Statement (.linkNoticeTimeout l) := words_absent _ rfl
theorem Words.collGroupRegister (g : Nat) (v : W64) : Words.Statement (.collGroupRegister g v) := words_absent _ rfl
theorem Words.collDescriptorTake (t : Nat) : Words.Statement (.collDescriptorTake t) := words_absent _ rfl
theorem Words.collAllReduce (g inst : Nat) : Words.Statement (.collAllReduce g inst) := words_absent _ rfl
theorem Words.collReduceScatter (g inst : Nat) : Words.Statement (.collReduceScatter g inst) := words_absent _ rfl
theorem Words.collBroadcast (g inst : Nat) : Words.Statement (.collBroadcast g inst) := words_absent _ rfl
theorem Words.collHistSum (g inst : Nat) : Words.Statement (.collHistSum g inst) := words_absent _ rfl
theorem Words.collSelectMerge (g inst : Nat) : Words.Statement (.collSelectMerge g inst) := words_absent _ rfl
theorem Words.collTimeout (g inst : Nat) : Words.Statement (.collTimeout g inst) := words_absent _ rfl
theorem Words.kemGenerate (v : W64) : Words.Statement (.kemGenerate v) := words_absent _ rfl
theorem Words.keyGenerate (v : W64) : Words.Statement (.keyGenerate v) := words_absent _ rfl
theorem Words.keyImport (v : W64) : Words.Statement (.keyImport v) := words_absent _ rfl
theorem Words.keyLoad (v : W64) : Words.Statement (.keyLoad v) := words_absent _ rfl
theorem Words.keyClear (v : W64) : Words.Statement (.keyClear v) := words_absent _ rfl
theorem Words.sessionOpen (v : W64) : Words.Statement (.sessionOpen v) := words_absent _ rfl
theorem Words.sessionLoad (v : W64) : Words.Statement (.sessionLoad v) := words_absent _ rfl
theorem Words.sessionClose (v : W64) : Words.Statement (.sessionClose v) := words_absent _ rfl
theorem Words.secAttest (v : W64) : Words.Statement (.secAttest v) := words_absent _ rfl
theorem Words.sealedImport (v : W64) : Words.Statement (.sealedImport v) := words_absent _ rfl
theorem Words.consent (v : W64) : Words.Statement (.consent v) := words_absent _ rfl
theorem Words.consentRevoke (v : W64) : Words.Statement (.consentRevoke v) := words_absent _ rfl
theorem Words.getCert : Words.Statement .getCert := words_absent _ rfl
theorem Words.secGetLog (v : W64) : Words.Statement (.secGetLog v) := words_absent _ rfl
theorem Words.drbgReseed : Words.Statement .drbgReseed := words_absent _ rfl
theorem Words.entropyHealthFail : Words.Statement .entropyHealthFail := words_absent _ rfl
theorem Words.patrolScrub (flips : List (Nat × Nat)) (owner : Nat) : Words.Statement (.patrolScrub flips owner) := words_absent _ rfl
theorem Words.errorLogWrite : Words.Statement .errorLogWrite := words_absent _ rfl
theorem Words.coalesceHoldExpire : Words.Statement .coalesceHoldExpire := words_absent _ rfl
theorem Words.errorLogRegister (v : W64) : Words.Statement (.errorLogRegister v) := words_absent _ rfl
theorem Words.injectArm (v : W64) : Words.Statement (.injectArm v) := words_absent _ rfl
theorem Words.sramRemap (isl macro_ word : Nat) : Words.Statement (.sramRemap isl macro_ word) := words_absent _ rfl
theorem Words.bayRetire (bay : Nat) : Words.Statement (.bayRetire bay) := words_absent _ rfl
theorem Words.failsafeForce : Words.Statement .failsafeForce := words_absent _ rfl
theorem Words.ctrSnapshotArm (v : W64) : Words.Statement (.ctrSnapshotArm v) := words_absent _ rfl
theorem Words.ctrSnapshotWrite : Words.Statement .ctrSnapshotWrite := words_absent _ rfl
theorem Words.evcValueWrite (off : Nat) (v : W64) (n : Nat) : Words.Statement (.evcValueWrite off v n) := words_absent _ rfl
theorem Words.tempPeakClear (now sensor : Nat) : Words.Statement (.tempPeakClear now sensor) := words_absent _ rfl
theorem Words.traceEventWrite (overflow : Bool) : Words.Statement (.traceEventWrite overflow) := words_absent _ rfl
theorem Words.traceConsumerWrite (v : W64) : Words.Statement (.traceConsumerWrite v) := words_absent _ rfl
theorem Words.triggerArm (v : W64) : Words.Statement (.triggerArm v) := words_absent _ rfl
theorem Words.triggerFireHost : Words.Statement .triggerFireHost := words_absent _ rfl
theorem Words.triggerFire : Words.Statement .triggerFire := words_absent _ rfl
theorem Words.reserveClose : Words.Statement .reserveClose := words_absent _ rfl
theorem Words.fwlogRegister (v : W64) : Words.Statement (.fwlogRegister v) := words_absent _ rfl
theorem Words.fwlogWrite (core point level tent : Nat) (args : List Nat) : Words.Statement (.fwlogWrite core point level tent args) := words_absent _ rfl
theorem Words.fwLoad (v : W64) : Words.Statement (.fwLoad v) := words_absent _ rfl
theorem Words.fwVerify : Words.Statement .fwVerify := words_absent _ rfl
theorem Words.fwCmdqDoorbell (v : W64) : Words.Statement (.fwCmdqDoorbell v) := words_absent _ rfl
theorem Words.fwEvtqDoorbell (v : W64) : Words.Statement (.fwEvtqDoorbell v) := words_absent _ rfl
theorem Words.fwPing : Words.Statement .fwPing := words_absent _ rfl
theorem Words.fwGetInfo : Words.Statement .fwGetInfo := words_absent _ rfl
theorem Words.fwLaunch : Words.Statement .fwLaunch := words_absent _ rfl
theorem Words.fwRetireBay : Words.Statement .fwRetireBay := words_absent _ rfl
theorem Words.crewResume : Words.Statement .crewResume := words_absent _ rfl
theorem Words.crewDiscard : Words.Statement .crewDiscard := words_absent _ rfl
theorem Words.fwGetRemap : Words.Statement .fwGetRemap := words_absent _ rfl
theorem Words.trapRecordHandle (d : Nat) (dataErr : Bool) : Words.Statement (.trapRecordHandle d dataErr) := words_absent _ rfl
theorem Words.basecampReset (ok : Bool) : Words.Statement (.basecampReset ok) := words_absent _ rfl
theorem Words.basecampHaltTimeout : Words.Statement .basecampHaltTimeout := words_absent _ rfl
theorem Words.sensorPoll (p : Nat) (temps stackTemps : List Int) (rails : List (Nat × Nat)) : Words.Statement (.sensorPoll p temps stackTemps rails) := words_absent _ rfl
theorem Words.thermalCapUpdate : Words.Statement .thermalCapUpdate := words_absent _ rfl
theorem Words.lkSensors : Words.Statement .lkSensors := words_absent _ rfl
theorem Words.lkGetLog (v : W64) : Words.Statement (.lkGetLog v) := words_absent _ rfl
theorem Words.lkInfo : Words.Statement .lkInfo := words_absent _ rfl
theorem Words.lkEnroll : Words.Statement .lkEnroll := words_absent _ rfl
theorem Words.mgmtHello (conn : Nat) (hello : List Byte) : Words.Statement (.mgmtHello conn hello) := words_absent _ rfl
theorem Words.mgmtFinish (conn : Nat) (ct sig : List Byte) : Words.Statement (.mgmtFinish conn ct sig) := words_absent _ rfl
theorem Words.mgmtInfo (conn type seq : Nat) (cipher : List Byte) (tag : Nat) : Words.Statement (.mgmtInfo conn type seq cipher tag) := words_absent _ rfl
theorem Words.mgmtSensors (conn seq : Nat) (cipher : List Byte) (tag : Nat) : Words.Statement (.mgmtSensors conn seq cipher tag) := words_absent _ rfl
theorem Words.mgmtGetLog (conn seq : Nat) (cipher : List Byte) (tag : Nat) : Words.Statement (.mgmtGetLog conn seq cipher tag) := words_absent _ rfl
theorem Words.setPowerCap (conn seq : Nat) (cipher : List Byte) (tag : Nat) : Words.Statement (.setPowerCap conn seq cipher tag) := words_absent _ rfl
theorem Words.setConfig (conn seq : Nat) (cipher : List Byte) (tag : Nat) : Words.Statement (.setConfig conn seq cipher tag) := words_absent _ rfl
theorem Words.mgmtResetWarm (conn seq : Nat) (cipher : List Byte) (tag : Nat) : Words.Statement (.mgmtResetWarm conn seq cipher tag) := words_absent _ rfl
theorem Words.mgmtResetCold (conn seq : Nat) (cipher : List Byte) (tag : Nat) : Words.Statement (.mgmtResetCold conn seq cipher tag) := words_absent _ rfl
theorem Words.mgmtResetBasecamp (conn seq : Nat) (cipher : List Byte) (tag : Nat) : Words.Statement (.mgmtResetBasecamp conn seq cipher tag) := words_absent _ rfl
theorem Words.updateBegin (conn seq : Nat) (cipher : List Byte) (tag : Nat) : Words.Statement (.updateBegin conn seq cipher tag) := words_absent _ rfl
theorem Words.updateData (conn seq : Nat) (cipher : List Byte) (tag : Nat) : Words.Statement (.updateData conn seq cipher tag) := words_absent _ rfl
theorem Words.updateCommit (conn seq : Nat) (cipher : List Byte) (tag : Nat) : Words.Statement (.updateCommit conn seq cipher tag) := words_absent _ rfl
theorem Words.trustAdd (conn seq : Nat) (cipher : List Byte) (tag : Nat) : Words.Statement (.trustAdd conn seq cipher tag) := words_absent _ rfl
theorem Words.trustRemove (conn seq : Nat) (cipher : List Byte) (tag : Nat) : Words.Statement (.trustRemove conn seq cipher tag) := words_absent _ rfl
theorem Words.mgmtAttest (conn seq : Nat) (cipher : List Byte) (tag : Nat) : Words.Statement (.mgmtAttest conn seq cipher tag) := words_absent _ rfl
theorem Words.requestA0 : Words.Statement .requestA0 := words_absent _ rfl
theorem Words.requestA2 : Words.Statement .requestA2 := words_absent _ rfl
theorem Words.requestS1 : Words.Statement .requestS1 := words_absent _ rfl
theorem Words.s1Entry (halted : Bool) : Words.Statement (.s1Entry halted) := words_absent _ rfl
theorem Words.islandClockStop (n : Nat) : Words.Statement (.islandClockStop n) := words_absent _ rfl
theorem Words.islandClockRestart (n : Nat) : Words.Statement (.islandClockRestart n) := words_absent _ rfl
theorem Words.stackWake (stack : Nat) : Words.Statement (.stackWake stack) := words_absent _ rfl
theorem Words.stackSelfRefresh (stack : Nat) : Words.Statement (.stackSelfRefresh stack) := words_absent _ rfl
theorem Words.wakeEvent : Words.Statement .wakeEvent := words_absent _ rfl
theorem Words.aoSensorRead (temps : List Int) : Words.Statement (.aoSensorRead temps) := words_absent _ rfl
theorem Words.sup0Fault : Words.Statement .sup0Fault := words_absent _ rfl
theorem Words.sup1Reset : Words.Statement .sup1Reset := words_absent _ rfl
theorem Words.dutyUpdate (p : Nat) : Words.Statement (.dutyUpdate p) := words_absent _ rfl
theorem Words.dutyMinClear : Words.Statement .dutyMinClear := words_absent _ rfl
theorem Words.pwrResetWarm (v : W64) : Words.Statement (.pwrResetWarm v) := words_absent _ rfl
theorem Words.pwrResetCold (v : W64) : Words.Statement (.pwrResetCold v) := words_absent _ rfl
theorem Words.pkgResetAssert : Words.Statement .pkgResetAssert := words_absent _ rfl
theorem Words.pkgResetRelease : Words.Statement .pkgResetRelease := words_absent _ rfl
theorem Words.aonPowerGood : Words.Statement .aonPowerGood := words_absent _ rfl
theorem Words.startupStepAdvance (ok : Bool) (slots bases : List Nat) (control : Nat) (found : List (Nat × Nat × Bool × Bool)) : Words.Statement (.startupStepAdvance ok slots bases control found) := words_absent _ rfl
theorem Words.illegalOpcode (bay slot : Nat) : Words.Statement (.illegalOpcode bay slot) := words_absent _ rfl
theorem Words.logRingSpaceReturn : Words.Statement .logRingSpaceReturn := words_absent _ rfl
theorem Words.ethernetFrameReceive (port : Nat) (fec good : Bool) : Words.Statement (.ethernetFrameReceive port fec good) := words_absent _ rfl
theorem Words.ethernetFrameTransmit (port a n : Nat) : Words.Statement (.ethernetFrameTransmit port a n) := words_absent _ rfl
theorem Words.mgmtConnectionClose (conn : Nat) : Words.Statement (.mgmtConnectionClose conn) := words_absent _ rfl
theorem Words.consentWindowBoundary : Words.Statement .consentWindowBoundary := words_absent _ rfl

end Sys2Proof.Laws
end

