-- ==== Sys2Proof/Laws/Trap.lean ====
section
/-! SUPPORT. What originating, tracing and trapping change, and what writing an event slot does to the crews that wait. -/

namespace Sys2Proof.Machine

/-! What an origination and a trace event leave alone. -/

theorem State.originate_kept {α : Type} (p : State → α) (h : ∀ s n i, p (State.setIsl s n i) = p s) (s : State) (n : Nat) :
    p (s.originate n).2 = p s := h _ _ _

theorem State.traceAt_kept {α : Type} (p : State → α) (h : ∀ s f, p (State.modObs s f) = p s) (s : State) (st : Stamp)
    (ty tent a b fl : Nat) : p (s.traceAt st ty tent a b fl) = p s := by
  unfold State.traceAt
  split
  · exact h _ _
  · rfl

theorem State.trace_kept {α : Type} (p : State → α) (h1 : ∀ s n i, p (State.setIsl s n i) = p s)
    (h2 : ∀ s f, p (State.modObs s f) = p s) (s : State) (isl ty tent a b fl : Nat) :
    p (s.trace isl ty tent a b fl) = p s := by
  unfold State.trace
  split
  · exact (State.traceAt_kept p h2 _ _ _ _ _ _ _).trans (State.originate_kept p h1 _ _)
  · rfl

@[simp] theorem State.bay_originate (s : State) (n b : Nat) : (s.originate n).2.bay b = s.bay b := rfl
@[simp] theorem State.bay_trace (s : State) (isl ty tent a b fl n : Nat) :
    (s.trace isl ty tent a b fl).bay n = s.bay n :=
  State.trace_kept (·.bay n) (fun _ _ _ => rfl) (fun _ _ => rfl) s _ _ _ _ _ _
@[simp] theorem State.crew_trace (s : State) (isl ty tent a b fl n k : Nat) :
    (s.trace isl ty tent a b fl).crew n k = s.crew n k := by simp [State.crew]
@[simp] theorem State.traps_trace (s : State) (isl ty tent a b fl : Nat) :
    (s.trace isl ty tent a b fl).dev.traps = s.dev.traps :=
  State.trace_kept (·.dev.traps) (fun _ _ _ => rfl) (fun _ _ => rfl) s _ _ _ _ _ _
@[simp] theorem State.bay_bayEvent (s : State) (b c n m : Nat) : (s.bayEvent b c n).bay m = s.bay m := by
  unfold State.bay; rw [State.bayEvent_dev]
@[simp] theorem State.crew_bayEvent (s : State) (b c n m k : Nat) : (s.bayEvent b c n).crew m k = s.crew m k := by
  simp [State.crew]
@[simp] theorem State.traps_bayEvent (s : State) (b c n : Nat) : (s.bayEvent b c n).dev.traps = s.dev.traps := by
  rw [State.bayEvent_dev]
@[simp] theorem State.issued_traps (s : State) (b : Nat) : (s.issued b).dev.traps = s.dev.traps := by
  rw [State.issued_dev]

/-- An event of the bay changes nothing that `CrewOnly` keeps. -/
theorem CrewOnly.event {s t : State} {bay slot : Nat} (h : CrewOnly s t bay slot) (c n : Nat) :
    CrewOnly s (t.bayEvent bay c n) bay slot where
  crews j hj := by rw [State.crew_bayEvent]; exact h.crews j hj
  own := by rw [State.bay_bayEvent]; exact h.own
  bays b hb := by rw [State.bay_bayEvent]; exact h.bays b hb
  regs off ho := by rw [State.rd_bayEvent _ _ _ _ _ ho]; exact h.regs off ho
  obs := by rw [State.bayEvent_dev]; exact h.obs
  dev := by
    have e := State.bayEvent_dev t bay c n
    have d := h.dev
    rw [e]
    dsimp only
    generalize hr : (t.bayEvent bay c n).dev.regs = r
    rw [d]
  ao := by rw [State.bayEvent_ao]; exact h.ao
  nv := by rw [State.bayEvent_nv]; exact h.nv
  pending := by rw [State.bayEvent_pending]; exact h.pending

/-! Traps. -/

/-- A trap of a resident crew is what `Trapped` says. -/
theorem State.trap_spec (s : State) (bay slot : Nat) (c : Crew) (cause : Nat) (lns : W32) (detail : W64)
    (hc : s.crew bay slot = some c) (hs : slot < 256) :
    Trapped s (s.trap bay slot c.pc cause lns detail) bay slot c cause lns detail := by
  have hcrew : (s.originate (s.bayIsland bay)).2.crew bay slot = some c := hc
  have hmod (s : State) (h : s.crew bay slot = some c) :
      s.modCrew bay slot (fun c => { c with trapped := true }) = s.setCrew bay slot { c with trapped := true } := by
    unfold State.modCrew
    rw [if_neg (by omega), h]
  unfold State.trap
  dsimp only
  rw [hmod _ hcrew]
  refine ⟨?_, ⟨(s.originate (s.bayIsland bay)).1, rfl, ?_⟩, ?_, ?_, ?_⟩
  · simp only [State.crew_trace, State.crew_bayEvent]
    simp [State.crew, State.bay, State.modBay, State.setBay, State.setCrew, Bay.setCrew, Bay.crew]
  · simp only [State.traps_trace, State.traps_bayEvent]
    rw [SMap.get_mod, if_pos rfl]
    rfl
  · simp only [State.bay_trace, State.bay_bayEvent]
    simp [State.bay, State.modBay, State.setBay, State.setCrew, Bay.setCrew, State.originate, State.setIsl]
  · simp only [State.bay_trace, State.bay_bayEvent]
    simp [State.bay, State.modBay, State.setBay, State.setCrew, Bay.setCrew, State.originate, State.setIsl]
  · intro b hb
    simp only [State.bay_trace, State.bay_bayEvent]
    simp [State.bay, State.modBay, State.setBay, State.setCrew, Bay.setCrew, State.originate, State.setIsl, SMap.get_set, hb]

/-- The same after the issue has been counted. -/
theorem Trapped.of_issued {s t : State} {bay slot : Nat} {c : Crew} {cause : Nat} {lns : W32} {detail : W64}
    (h : Trapped (s.issued bay) t bay slot c cause lns detail) : Trapped s t bay slot c cause lns detail where
  crew := h.crew
  queue := by simpa using h.queue
  shown := by simpa using h.shown
  stores := by simpa using h.stores
  bays := by simpa using h.bays

/-! Event slots. -/

/-- Re-evaluating a slot changes each crew by itself. -/
theorem Bay.crew_wakeSlot (b : Bay) (n j : Nat) : (b.wakeSlot n).crew j = (b.crew j).map (b.woken n) := by
  unfold Bay.wakeSlot Bay.crew
  dsimp only
  generalize b.crews = m
  induction m with
  | nil => rfl
  | cons e m ih =>
    rw [List.map_cons, SMap.get, SMap.get]
    split
    · rfl
    · exact ih

/-- Writing a slot sets it and no other. -/
theorem Bay.events_setEvent (b : Bay) (n : Nat) (x : PWord) (m : Nat) :
    SMap.get (fun _ => {}) (b.setEvent n x).events m = if m = n then x else SMap.get (fun _ => {}) b.events m :=
  SMap.get_set _ _ _ _ _

@[simp] theorem Bay.store_setEvent (b : Bay) (n : Nat) (x : PWord) : (b.setEvent n x).store = b.store := rfl

/-- A crew that waits on the slot for a value goes on exactly where the slot has reached it. -/
theorem Bay.woken_event (b : Bay) (n : Nat) (target : W32) (c : Crew) (h : c.park = .event n target) :
    (b.woken n c).park = if waitMet (SMap.get (fun _ => {}) b.events n).data target then .running else .event n target := by
  unfold Bay.woken
  rw [h]
  dsimp only
  by_cases hm : waitMet (SMap.get (fun _ => {}) b.events n).data target = true
  · rw [if_pos ⟨rfl, hm⟩, if_pos hm]
  · rw [if_neg (fun x => hm x.2), if_neg hm, h]

/-- Counting an issue does not move the end of a bay's store. -/
@[simp] theorem State.issued_bayEnd (s : State) (b n : Nat) : (s.issued b).bayEnd n = s.bayEnd n := by
  unfold State.bayEnd
  rw [State.issued_bay]
  split
  · unfold State.fld
    rw [State.rd_issued]
    intro k hk
    unfold rTentSave rBayEvcValue
    omega
  · rfl

end Sys2Proof.Machine
end

