-- ==== Sys2Proof/Machine/Readback.lean ====
section
/-! DEFINITION. What a well-formed read of the control window returns: the register as stored, with the fields that report
other state filled in (R575 to R581 and the rules of each register). -/

namespace Sys2Proof.Machine

/-- A field and its value. -/
abbrev FieldVal := (Nat × Nat) × Nat

def fillFields (v : W64) (l : List FieldVal) : W64 := l.foldl (fun v e => setBits v e.1.1 e.1.2 (min e.2 (2 ^ e.1.2 - 1))) v
def bit01 (b : Bool) : Nat := if b then 1 else 0

/-! The DEV block (R580). -/

/-- Start-up is over, and Basecamp has not been refused its boot image since. -/
def State.pastBoot (s : State) : Bool := s.booted && s.dev.look.basecamp
def State.orphanFlag (s : State) : Bool := s.flag rJrnlStatus fJrnlStatusOrphan
def State.frozenFlag (s : State) : Bool := decide (3 ≤ s.freezeState)

/-- STATE of DEV_STATE: the condition that ranks highest. -/
def State.devState (s : State) : Nat :=
  if s.failsafe then 4
  else if s.frozenFlag then 3
  else if s.inA2 then 5
  else if !s.pastBoot then 0
  else if s.orphanFlag then 2 else 1

/-! Fields that report other state. -/

/-- BAY_CREWS, BAY_TRAP, BAY_TRUSS, BAY_SELECT, BAY_DMA_FAULT and BAY_ID of bay `n` (R25, R95, R133, R166, R190, R490). -/
def State.bayFields (s : State) (n base : Nat) : List FieldVal :=
  let b := s.bay n
  let cs := b.resident.map (·.2)
  let count (p : Crew → Bool) : Nat := (cs.filter p).length
  let waits (c : Crew) : Bool := match c.park with | .event _ _ => true | _ => false
  if base = rBayId 0 then
    [(fBayIdBayNum, n), (fBayIdComputeDie, n / 64), (fBayIdPhysBay, s.physOf n), (fBayIdIsland, s.bayIsland n),
      (fBayIdTent, b.tent.getD 0), (fBayIdTentValid, bit01 b.tent.isSome), (fBayIdRetired, bit01 b.retired)]
  else if base = rBayCrews 0 then
    if s.inA2 then []
    else [(fBayCrewsResident, cs.length), (fBayCrewsReady, count fun c => c.park == .running && !c.trapped && c.held.isNone),
      (fBayCrewsParked, count fun c => c.park != .running), (fBayCrewsEventWait, count waits),
      (fBayCrewsStrands, 32 * cs.length), (fBayCrewsLaunchQueue, b.launchq.length)]
  else if base = rBayTrap 0 then
    [(fBayTrapCount, b.trapCount), (fBayTrapLastCause, b.trapCause), (fBayTrapLastSlot, b.trapSlot), (fBayTrapLastPc, b.trapPc)]
  else if base = rBayTruss 0 then
    [(fBayTrussShape, b.truss.shape), (fBayTrussPairHalf, bit01 b.truss.pairHalf), (fBayTrussPairPending, bit01 b.truss.pairPending),
      (fBayTrussQueue, b.truss.queue.length), (fBayTrussShadowBusy, bit01 ((b.truss.queue.head?.map (·.op)) == some 0x81)),
      (fBayTrussNanResults, b.truss.nans)]
  else if base = rBaySelect 0 then
    [(fBaySelectQueue, b.selq.length), (fBaySelectBusy, bit01 (b.selq != [])),
      (fBaySelectNanDropped, SMap.get (fun _ => 0) b.selCounts 8), (fBaySelectFormatErrors, SMap.get (fun _ => 0) b.selCounts 40)]
  else if base = rBayDmaFault 0 then
    [(fBayDmaFaultHalted, (List.range 8).foldl (fun m c => m + if (b.chan c).halted then 2 ^ c else 0) 0),
      (fBayDmaFaultLastChannel, b.dmaLast), (fBayDmaFaultDescIndex, b.dmaIndex), (fBayDmaFaultCause, b.dmaCause)]
  else []

/-- Fields of DEV, TIME, PWR, SEC, RAS and OBS registers. -/
def State.partFields (s : State) (base i : Nat) : List FieldVal :=
  if base = rDevState then
    [(fDevStateState, s.devState), (fDevStateIsOrphan, bit01 s.orphanFlag), (fDevStateIsFrozen, bit01 s.frozenFlag),
      (fDevStateIsFailsafe, bit01 s.failsafe), (fDevStateIsSleep, bit01 s.inA2), (fDevStateStartStep, s.ao.startStep)]
  else if base = rTimeNow then [((0, 64), s.ao.tick % 2 ^ 64)]
  else if base = rTimeEpoch then [(fTimeEpochEpoch, s.ao.epoch)]
  else if base = rTimeFreezeStatus then
    if s.frozenFlag then [(fTimeFreezeStatusHeldItems, s.heldCount)] else []
  else if base = rPwrResetCause then
    [(fPwrResetCauseKind, s.ao.causeKind), (fPwrResetCauseSource, s.ao.causeSource),
      (fPwrResetCauseFailsafeCause, s.ao.causeFailsafe)]
  else if base = rPwrState then
    let asleep (n : Nat) : Bool := (s.isl n).stopped
    let all := (List.range 256).all fun n => asleep (s.bayIsland n)
    [(fPwrStateCurrent, if s.inA2 then 2 else bit01 all),
      (fPwrStateIdleIslands, ((List.range 0x400).filter fun n => s.isIsland n && asleep n).length)]
  else if base = rSecState then
    [(fSecStateKemBusy, (List.range 16).foldl (fun m k => m + if (s.kem k).isSome then 2 ^ k else 0) 0),
      (fSecStateSessions, (s.dev.sec.sessions.filter (·.2.isSome)).length)]
  else if base = rSecKeyslot 0 then [(fSecKeyslotInUse, bit01 (s.keyInUse i))]
  else if base = rRasLogStatus then [(fRasLogStatusHeld, s.dev.ras.held.length)]
  else if base = rMsdId 0 then [(fMsdIdPresent, 1), (fMsdIdDie, i), (fMsdIdIslandBase, 0x200 + 0x20 * i)]
  else if base = rIodId 0 then [(fIodIdPresent, 1), (fIodIdDie, i), (fIodIdIslandBase, 0x300 + 0x40 * i)]
  else []

/-- Fields of the registers of tents, queues, rings and the journal. -/
def State.workFields (s : State) (base i j : Nat) : List FieldVal :=
  let gen := s.allReqs.filter fun r => r.tent == i && r.ended.isNone && (r.legs.head? == some 7 || r.legs.head? == some 8)
  if base = rTentCtl 0 then [(fTentCtlRequests, s.requestCount i)]
  else if base = rGenStatus 0 then
    [(fGenStatusRunning, (gen.filter (·.gen.running)).length), (fGenStatusWaiting, (gen.filter (!·.gen.running)).length),
      (fGenStatusBatchQueue, (s.batchQueue i).length)]
  else if base = rCqCfg 0 then [(fCqCfgFull, bit01 (s.cqFull i))]
  else if base = rShapeCredit 0 0 then [((0, 64), s.creditAt i j s.ao.tick)]
  else if base = rShapeHeld 0 0 then [(fShapeHeldHeld, (s.heldIn i j).length)]
  else if base = rJrnlCommitted then [((0, 64), s.committedPosition)]
  else if base = rJrnlTail then [((0, 64), (if s.booted then s.trimLog else s).jrnlTail)]
  else if base = rJrnlStatus then [(fJrnlStatusFlashDegraded, bit01 s.flashDegraded)]
  else if base = rJrnlHeartbeat then [(fJrnlHeartbeatRemainingMs, s.leaseLeft / 1000000)]
  else if base = rStrmStatus then
    let rs := s.dev.adm.rings.filterMap (·.2)
    [(fStrmStatusRegistered, rs.length), (fStrmStatusBound, (rs.filter (·.bound != 0)).length),
      (fStrmStatusStalled, (rs.filter (·.stalled.isSome)).length)]
  else []

/-- Fields of the registers of the text units, Lantern, the tables, memory and the fabric. -/
def State.unitFields (s : State) (base i : Nat) : List FieldVal :=
  if base = rKerfVocabBase 0 then [(fKerfVocabBaseDraining, bit01 (s.vocabDraining i))]
  else if base = rGuyImageBase 0 then [(fGuyImageBaseDraining, bit01 (s.grammarDraining i))]
  else if base = rKerfStatus 0 then
    [(fKerfStatusSramFree, ((List.range 256).filter s.sramFree).length), (fKerfStatusContexts, s.kerfContexts i)]
  else if base = rGuyStatus 0 then [(fGuyStatusContexts, s.guyContexts i)]
  else if base = rLanternIndexBase 0 then [(fLanternIndexBaseDraining, bit01 (s.indexDraining i))]
  else if base = rLanternStatus 0 then
    [(fLanternStatusActive, s.lanternActive i), (fLanternStatusQueued, s.lanternQueued i),
      (fLanternStatusMutating, bit01 (s.dev.lantern.mutations.any fun m => (m.index.shard m.shard).owner == i))]
  else if base = rTblDescBase 0 then [(fTblDescBaseDraining, bit01 (s.tblDraining i))]
  else if base = rTblStatus 0 then
    match s.dev.tables.regs.find? fun r => r.slot == i && !r.retired with
    | none => []
    | some r =>
      let cur := match r.next with
        | some (a, v) => if a ≤ s.ao.tick then v else r.cur
        | none => r.cur
      let refs := match r.old with
        | some o => ((s.tblRefs r.id).filter (·.version == o.version)).length
        | none => 0
      [(fTblStatusVersion, cur.version), (fTblStatusSwitchPending, bit01 r.next.isSome), (fTblStatusOldDraining, bit01 (refs != 0)),
        (fTblStatusReplicaCopying, bit01 (r.cur.copying || (r.next.map (·.2.copying)).getD false)), (fTblStatusOldRefs, refs)]
  else if base = rTblEngineStatus 0 then [(fTblEngineStatusParts, s.partsOn i)]
  else if base = rMemTentStatus 0 then
    [(fMemTentStatusResident, s.residentCount i), (fMemTentStatusPinned, s.pinnedCount i),
      (fMemTentStatusMigrating, s.migratingCount i)]
  else if base = rMemMigStatus 0 then
    let e : MigEngine := SMap.get (fun _ => {}) s.dev.mem.mig i
    [(fMemMigStatusInFlight, e.flight.length), (fMemMigStatusQueued, e.queue.length), (fMemMigStatusEvictAborted, e.aborted),
      (fMemMigStatusQuotaFailures, e.quotaFailures)]
  else if base = rFabRouteData then [((0, 64), (s.route (s.fld rFabRouteSel fFabRouteSelDevice)).toNat)]
  else []

/-- Registers whose every field is write-only read as zero (R15). -/
def writeOnly (fs : List Fld) (v : W64) : W64 := fs.foldl (fun x f => if f.acc = .wo then setBits x f.lo f.w 0 else x) v

/-- A read of the control window at a naturally aligned offset. -/
def State.controlRead (s : State) (off : Nat) : W64 :=
  match findReg off (regBlock off) with
  | none => 0
  | some (r, i, j) =>
    if !s.dev.desc.hasInstance r.base i then 0
    else
      let v := fillFields (s.rd off) (if 0x200000 ≤ r.base ∧ r.base < 0x300000 then s.bayFields i r.base
        else s.partFields r.base i ++ s.workFields r.base i j ++ s.unitFields r.base i)
      writeOnly r.flds v

end Sys2Proof.Machine
end

