-- ==== Sys2Proof/Tests/Slice0.lean ====
section
/-! SUPPORT. Tests. For the statements of Obligations.lean: a theorem `test_applies_<command>` takes a statement, applies it at a
concrete state with every hypothesis closed by evaluation, and concludes that the command runs there; so the hypotheses of
each clause hold together. Then the resets, the checks of WellFormed, and words written out from the spec's encoding. -/

set_option Elab.async false
set_option maxRecDepth 20000

namespace Sys2Proof.Tests

open Sys2Proof Sys2Proof.Machine

/-! Bay instructions: a crew of 64 registers in slot 0 of bay 0, at the word under test. -/

/-- A state whose bay 0 runs crew `c` in slot 0, at words 0 and 1 of its store. -/
def tBay (w w2 : W64) (c : Crew) : State :=
  { dev := { bays := [(0, { tent := some 0, crews := [(0, some c)], istore := [(0, w), (1, w2)] })] } }

/-- The crew of the tests, and fields with DST 1. -/
def tCrew : Crew := { count := 64, u := [(1, ⟨64, false⟩)] }
def tF : Short := ⟨1, 0, 0, 0, 0, false, 0⟩
def tF0 : Short := ⟨0, 0, 0, 0, 0, false, 0⟩

/-- The instruction of opcode `op` stands at the PC of crew `c` of bay 0 and passes its issue checks; `w2` is the word after
it. -/
def tReadyAt (s : State) (op : Nat) (f : Short) (w2 : W64) (k : OpForm) (c : Crew) : Bool :=
  s.crew 0 0 == some c && decide (c.pc < 32767) && (s.bay 0).fetch c.pc == (f.word op, false) &&
    ((s.bay 0).fetch (c.pc + 1)).1 == w2 && !(s.bay 0).writingWord c.pc && s.canIssue 0 c && s.unarmed && k.wellFormed f &&
    k.inRange f c.count && (!k.guarded || c.badGuard f == 0) && c.pendingFor k f == none

theorem tAtS {s : State} {op : Nat} {f : Short} {w2 : W64} {k : OpForm} {c : Crew} (h : tReadyAt s op f w2 k c = true)
    (o : Option W64) (ho : ∀ x, o = some x → x = w2) : AtPc s 0 0 op f o c := by
  simp only [tReadyAt, Bool.and_eq_true, beq_iff_eq, decide_eq_true_eq, Bool.not_eq_true'] at h
  exact ⟨h.1.1.1.1.1.1.1.1.1.1, h.1.1.1.1.1.1.1.1.1.2, h.1.1.1.1.1.1.1.1.2,
    fun x hx => (ho x hx).symm ▸ h.1.1.1.1.1.1.1.2, h.1.1.1.1.1.1.2⟩

theorem tIsS {s : State} {op : Nat} {f : Short} {w2 : W64} {k : OpForm} {c : Crew} (h : tReadyAt s op f w2 k c = true) :
    Issues s 0 0 f k c := by
  simp only [tReadyAt, Bool.and_eq_true, beq_iff_eq, decide_eq_true_eq, Bool.not_eq_true', Bool.or_eq_true] at h
  exact ⟨h.1.1.1.1.1.2, h.1.1.1.1.2, h.1.1.1.2, h.1.1.2, fun g => by rcases h.1.2 with x | x <;> simp_all, h.2⟩

/-- The same at the test state. -/
abbrev tReady (op : Nat) (f : Short) (w2 : W64) (k : OpForm) (c : Crew) : Bool := tReadyAt (tBay (f.word op) w2 c) op f w2 k c
theorem tReady_atPc {op : Nat} {f : Short} {w2 : W64} {k : OpForm} {c : Crew} (h : tReady op f w2 k c = true)
    (o : Option W64) (ho : ∀ x, o = some x → x = w2) : AtPc (tBay (f.word op) w2 c) 0 0 op f o c := tAtS h o ho
theorem tReady_issues {op : Nat} {f : Short} {w2 : W64} {k : OpForm} {c : Crew} (h : tReady op f w2 k c = true) :
    Issues (tBay (f.word op) w2 c) 0 0 f k c := tIsS h

/-- A result statement applies to the test state. -/
theorem strand_applies {op : Nat} {mk : Nat → Nat → Short → Instr} {k : OpForm} {ok : Short → Bool}
    {g : Short → State → Crew → Nat → VReg} (h : StrandResult op mk k ok g) (f : Short)
    (r : tReady op f 0 k.strand tCrew = true) (o : ok f = true) :
    ∃ t, exec (mk 0 0 f) (tBay (f.word op) 0 tCrew) = .next t := by
  obtain ⟨t, e, _⟩ := h _ 0 0 f tCrew (tReady_atPc r none nofun) (tReady_issues r) o
  exact ⟨t, e⟩

theorem predicate_applies {op : Nat} {mk : Nat → Nat → Short → Instr} {k : OpForm} {ok : Short → Bool}
    {g : Short → Crew → Nat → PReg} (h : PredicateResult op mk k ok g) (f : Short)
    (r : tReady op f 0 { k with guarded := true, dst := .p } tCrew = true) (o : ok f = true) :
    ∃ t, exec (mk 0 0 f) (tBay (f.word op) 0 tCrew) = .next t := by
  obtain ⟨t, e, _⟩ := h _ 0 0 f tCrew (tReady_atPc r none nofun) (tReady_issues r) o
  exact ⟨t, e⟩

theorem uniform_applies {op : Nat} {mk : Nat → Nat → Short → Instr} {k : OpForm}
    {g : Nat → Short → State → Crew → UReg} (h : UniformResult op mk k g) (f : Short)
    (r : tReady op f 0 { k with dst := .u } tCrew = true) :
    ∃ t, exec (mk 0 0 f) (tBay (f.word op) 0 tCrew) = .next t := by
  obtain ⟨t, e, _⟩ := h _ 0 0 f tCrew (tReady_atPc r none nofun) (tReady_issues r) (by decide)
  exact ⟨t, e⟩

/-- The command runs at the state: the form in which a statement is applied to a concrete state. -/
def Runs (i : Instr) (s : State) : Prop := ∃ t, exec i s = .next t

theorem runs {i : Instr} {s : State} {P : State → Prop} (h : ∃ t, exec i s = .next t ∧ P t) : Runs i s :=
  h.elim fun t e => ⟨t, e.1⟩
theorem runs₂ {i : Instr} {s : State} {α : Type} {P : State → α → Prop} (h : ∃ t x, exec i s = .next t ∧ P t x) : Runs i s :=
  h.elim fun t e => e.elim fun _ e => ⟨t, e.1⟩
theorem runs₃ {i : Instr} {s : State} {α β : Type} {P : State → α → β → Prop}
    (h : ∃ t x y, exec i s = .next t ∧ P t x y) : Runs i s :=
  h.elim fun t e => e.elim fun _ e => e.elim fun _ e => ⟨t, e.1⟩
theorem runsEq {i : Instr} {s t : State} (h : exec i s = .next t) : Runs i s := ⟨t, h⟩

/-- The test state of a short form, and what the checks of an issue need there. -/
def tW (op : Nat) (f : Short) (c : Crew) : State := tBay (f.word op) 0 c
theorem tAt (op : Nat) (f : Short) (k : OpForm) (c : Crew) (h : tReady op f 0 k c = true) :
    AtPc (tW op f c) 0 0 op f none c := tReady_atPc h none nofun
theorem tIs (op : Nat) (f : Short) (k : OpForm) (c : Crew) (h : tReady op f 0 k c = true) :
    Issues (tW op f c) 0 0 f k c := tReady_issues h

/-- A value that an operation finds, as the hypotheses of the statements name it. -/
theorem tSome {α : Type} {o : Option α} (h : o.isSome = true) : o = some (o.get h) := (Option.some_get h).symm
def tOk? {ε α : Type} : Except ε α → Option α
  | .ok a => some a
  | .error _ => none
theorem tOk {ε α : Type} {e : Except ε α} (h : (tOk? e).isSome = true) : e = .ok ((tOk? e).get h) := by
  cases e with
  | ok a => rfl
  | error x => cases h
theorem tPair {α β : Type} {p : α × β} {b : β} (h : p.2 = b) : p = (p.1, b) := by subst h; rfl

theorem tThree {α β γ : Type} {p : α × β × γ} {b : β} (h : p.2.1 = b) : p = (p.1, b, p.2.2) := by subst h; rfl
theorem tIsOk {ε α β : Type} {e : Except ε (Option α × β)} (h : ((tOk? e).bind (·.1)).isSome = true) : (tOk? e).isSome = true := by
  cases e with
  | ok a => rfl
  | error x => cases h
theorem tOkSome {ε α β : Type} {e : Except ε (Option α × β)} (h : ((tOk? e).bind (·.1)).isSome = true) :
    e = .ok (some (((tOk? e).bind (·.1)).get h), ((tOk? e).get (tIsOk h)).2) := by
  cases e with
  | ok a => cases a with | mk a b => cases a with
    | some x => rfl
    | none => cases h
  | error x => cases h
theorem tOkAt {ε α β : Type} [DecidableEq α] {e : Except ε (α × β)} {a : α} (h : (tOk? e).isSome = true)
    (k : ((tOk? e).get h).1 = a) : e = .ok (a, ((tOk? e).get h).2) := by
  subst k; exact tOk h
theorem tOkSome1 {ε α : Type} {e : Except ε (Option α)} (h : ((tOk? e).bind id).isSome = true) :
    e = .ok (some (((tOk? e).bind id).get h)) := by
  cases e with
  | ok a => cases a with
    | some x => rfl
    | none => cases h
  | error x => cases h

/-- A bit field of 32 bits from bit 0. -/
def tFld : Short := ⟨1, 0, 0, 0, 0, false, 0x400⟩

theorem test_applies_iadd : Obligations.StrandIntegerResults →
    ∃ t, exec (.iadd 0 0 tF) (tBay (tF.word 0x01) 0 tCrew) = .next t :=
  fun h => strand_applies h.1 tF (by decide +kernel) rfl
theorem test_applies_isub : Obligations.StrandIntegerResults →
    ∃ t, exec (.isub 0 0 tF) (tBay (tF.word 0x02) 0 tCrew) = .next t :=
  fun h => strand_applies h.2.1 tF (by decide +kernel) rfl
theorem test_applies_imul : Obligations.StrandIntegerResults →
    ∃ t, exec (.imul 0 0 tF) (tBay (tF.word 0x03) 0 tCrew) = .next t :=
  fun h => strand_applies h.2.2.1 tF (by decide +kernel) rfl
theorem test_applies_imulh : Obligations.StrandIntegerResults →
    ∃ t, exec (.imulh 0 0 tF) (tBay (tF.word 0x04) 0 tCrew) = .next t :=
  fun h => strand_applies h.2.2.2.1 tF (by decide +kernel) rfl
theorem test_applies_imad : Obligations.StrandIntegerResults →
    ∃ t, exec (.imad 0 0 tF) (tBay (tF.word 0x05) 0 tCrew) = .next t :=
  fun h => strand_applies h.2.2.2.2.1 tF (by decide +kernel) rfl
theorem test_applies_imin : Obligations.StrandIntegerResults →
    ∃ t, exec (.imin 0 0 tF) (tBay (tF.word 0x06) 0 tCrew) = .next t :=
  fun h => strand_applies h.2.2.2.2.2.1 tF (by decide +kernel) rfl
theorem test_applies_imax : Obligations.StrandIntegerResults →
    ∃ t, exec (.imax 0 0 tF) (tBay (tF.word 0x07) 0 tCrew) = .next t :=
  fun h => strand_applies h.2.2.2.2.2.2.1 tF (by decide +kernel) rfl
theorem test_applies_and : Obligations.StrandIntegerResults →
    ∃ t, exec (.and 0 0 tF) (tBay (tF.word 0x08) 0 tCrew) = .next t :=
  fun h => strand_applies h.2.2.2.2.2.2.2.1 tF (by decide +kernel) rfl
theorem test_applies_or : Obligations.StrandIntegerResults →
    ∃ t, exec (.or 0 0 tF) (tBay (tF.word 0x09) 0 tCrew) = .next t :=
  fun h => strand_applies h.2.2.2.2.2.2.2.2.1 tF (by decide +kernel) rfl
theorem test_applies_xor : Obligations.StrandIntegerResults →
    ∃ t, exec (.xor 0 0 tF) (tBay (tF.word 0x0A) 0 tCrew) = .next t :=
  fun h => strand_applies h.2.2.2.2.2.2.2.2.2.1 tF (by decide +kernel) rfl
theorem test_applies_andn : Obligations.StrandIntegerResults →
    ∃ t, exec (.andn 0 0 tF) (tBay (tF.word 0x0B) 0 tCrew) = .next t :=
  fun h => strand_applies h.2.2.2.2.2.2.2.2.2.2.1 tF (by decide +kernel) rfl
theorem test_applies_shl : Obligations.StrandIntegerResults →
    ∃ t, exec (.shl 0 0 tF) (tBay (tF.word 0x0C) 0 tCrew) = .next t :=
  fun h => strand_applies h.2.2.2.2.2.2.2.2.2.2.2.1 tF (by decide +kernel) rfl
theorem test_applies_shr : Obligations.StrandIntegerResults →
    ∃ t, exec (.shr 0 0 tF) (tBay (tF.word 0x0D) 0 tCrew) = .next t :=
  fun h => strand_applies h.2.2.2.2.2.2.2.2.2.2.2.2.1 tF (by decide +kernel) rfl
theorem test_applies_popc : Obligations.StrandIntegerResults →
    ∃ t, exec (.popc 0 0 tF) (tBay (tF.word 0x0E) 0 tCrew) = .next t :=
  fun h => strand_applies h.2.2.2.2.2.2.2.2.2.2.2.2.2.1 tF (by decide +kernel) rfl
theorem test_applies_clz : Obligations.StrandIntegerResults →
    ∃ t, exec (.clz 0 0 tF) (tBay (tF.word 0x0F) 0 tCrew) = .next t :=
  fun h => strand_applies h.2.2.2.2.2.2.2.2.2.2.2.2.2.2.1 tF (by decide +kernel) rfl
theorem test_applies_iaddi : Obligations.StrandIntegerResults →
    ∃ t, exec (.iaddi 0 0 tF) (tBay (tF.word 0x10) 0 tCrew) = .next t :=
  fun h => strand_applies h.2.2.2.2.2.2.2.2.2.2.2.2.2.2.2.1 tF (by decide +kernel) rfl
theorem test_applies_movi : Obligations.StrandIntegerResults →
    ∃ t, exec (.movi 0 0 tF) (tBay (tF.word 0x11) 0 tCrew) = .next t :=
  fun h => strand_applies h.2.2.2.2.2.2.2.2.2.2.2.2.2.2.2.2.1 tF (by decide +kernel) rfl
theorem test_applies_movhi : Obligations.StrandIntegerResults →
    ∃ t, exec (.movhi 0 0 tF) (tBay (tF.word 0x12) 0 tCrew) = .next t :=
  fun h => strand_applies h.2.2.2.2.2.2.2.2.2.2.2.2.2.2.2.2.2.1 tF (by decide +kernel) rfl
theorem test_applies_sel : Obligations.StrandIntegerResults →
    ∃ t, exec (.sel 0 0 tF) (tBay (tF.word 0x14) 0 tCrew) = .next t :=
  fun h => strand_applies h.2.2.2.2.2.2.2.2.2.2.2.2.2.2.2.2.2.2.1 tF (by decide +kernel) rfl
theorem test_applies_shfl : Obligations.StrandIntegerResults →
    ∃ t, exec (.shfl 0 0 tF) (tBay (tF.word 0x16) 0 tCrew) = .next t :=
  fun h => strand_applies h.2.2.2.2.2.2.2.2.2.2.2.2.2.2.2.2.2.2.2.1 tF (by decide +kernel) rfl
theorem test_applies_vote : Obligations.StrandIntegerResults →
    ∃ t, exec (.vote 0 0 tF) (tBay (tF.word 0x17) 0 tCrew) = .next t :=
  fun h => strand_applies h.2.2.2.2.2.2.2.2.2.2.2.2.2.2.2.2.2.2.2.2.1 tF (by decide +kernel) rfl
theorem test_applies_bfe : Obligations.StrandIntegerResults →
    ∃ t, exec (.bfe 0 0 tFld) (tBay (tFld.word 0x18) 0 tCrew) = .next t :=
  fun h => strand_applies h.2.2.2.2.2.2.2.2.2.2.2.2.2.2.2.2.2.2.2.2.2.1 tFld (by decide +kernel) rfl
theorem test_applies_bfi : Obligations.StrandIntegerResults →
    ∃ t, exec (.bfi 0 0 tFld) (tBay (tFld.word 0x19) 0 tCrew) = .next t :=
  fun h => strand_applies h.2.2.2.2.2.2.2.2.2.2.2.2.2.2.2.2.2.2.2.2.2.2.1 tFld (by decide +kernel) rfl
theorem test_applies_movu : Obligations.StrandIntegerResults →
    ∃ t, exec (.movu 0 0 tF) (tBay (tF.word 0x1A) 0 tCrew) = .next t :=
  fun h => strand_applies h.2.2.2.2.2.2.2.2.2.2.2.2.2.2.2.2.2.2.2.2.2.2.2 tF (by decide +kernel) rfl
theorem test_applies_fadd : Obligations.StrandFloatResults →
    ∃ t, exec (.fadd 0 0 tF) (tBay (tF.word 0x20) 0 tCrew) = .next t :=
  fun h => strand_applies h.1 tF (by decide +kernel) rfl
theorem test_applies_fsub : Obligations.StrandFloatResults →
    ∃ t, exec (.fsub 0 0 tF) (tBay (tF.word 0x21) 0 tCrew) = .next t :=
  fun h => strand_applies h.2.1 tF (by decide +kernel) rfl
theorem test_applies_fmul : Obligations.StrandFloatResults →
    ∃ t, exec (.fmul 0 0 tF) (tBay (tF.word 0x22) 0 tCrew) = .next t :=
  fun h => strand_applies h.2.2.1 tF (by decide +kernel) rfl
theorem test_applies_ffma : Obligations.StrandFloatResults →
    ∃ t, exec (.ffma 0 0 tF) (tBay (tF.word 0x23) 0 tCrew) = .next t :=
  fun h => strand_applies h.2.2.2.1 tF (by decide +kernel) rfl
theorem test_applies_fmin : Obligations.StrandFloatResults →
    ∃ t, exec (.fmin 0 0 tF) (tBay (tF.word 0x24) 0 tCrew) = .next t :=
  fun h => strand_applies h.2.2.2.2.1 tF (by decide +kernel) rfl
theorem test_applies_fmax : Obligations.StrandFloatResults →
    ∃ t, exec (.fmax 0 0 tF) (tBay (tF.word 0x25) 0 tCrew) = .next t :=
  fun h => strand_applies h.2.2.2.2.2.1 tF (by decide +kernel) rfl
theorem test_applies_fabsneg : Obligations.StrandFloatResults →
    ∃ t, exec (.fabsneg 0 0 tF) (tBay (tF.word 0x27) 0 tCrew) = .next t :=
  fun h => strand_applies h.2.2.2.2.2.2.1 tF (by decide +kernel) rfl
theorem test_applies_frcp : Obligations.StrandFloatResults →
    ∃ t, exec (.frcp 0 0 tF) (tBay (tF.word 0x28) 0 tCrew) = .next t :=
  fun h => strand_applies h.2.2.2.2.2.2.2.1 tF (by decide +kernel) rfl
theorem test_applies_frsq : Obligations.StrandFloatResults →
    ∃ t, exec (.frsq 0 0 tF) (tBay (tF.word 0x29) 0 tCrew) = .next t :=
  fun h => strand_applies h.2.2.2.2.2.2.2.2.1 tF (by decide +kernel) rfl
theorem test_applies_fexp2 : Obligations.StrandFloatResults →
    ∃ t, exec (.fexp2 0 0 tF) (tBay (tF.word 0x2A) 0 tCrew) = .next t :=
  fun h => strand_applies h.2.2.2.2.2.2.2.2.2.1 tF (by decide +kernel) rfl
theorem test_applies_flog2 : Obligations.StrandFloatResults →
    ∃ t, exec (.flog2 0 0 tF) (tBay (tF.word 0x2B) 0 tCrew) = .next t :=
  fun h => strand_applies h.2.2.2.2.2.2.2.2.2.2.1 tF (by decide +kernel) rfl
theorem test_applies_ftanh : Obligations.StrandFloatResults →
    ∃ t, exec (.ftanh 0 0 tF) (tBay (tF.word 0x2C) 0 tCrew) = .next t :=
  fun h => strand_applies h.2.2.2.2.2.2.2.2.2.2.2.1 tF (by decide +kernel) rfl
theorem test_applies_f2i : Obligations.StrandFloatResults →
    ∃ t, exec (.f2i 0 0 tF) (tBay (tF.word 0x2D) 0 tCrew) = .next t :=
  fun h => strand_applies h.2.2.2.2.2.2.2.2.2.2.2.2.1 tF (by decide +kernel) rfl
theorem test_applies_i2f : Obligations.StrandFloatResults →
    ∃ t, exec (.i2f 0 0 tF) (tBay (tF.word 0x2E) 0 tCrew) = .next t :=
  fun h => strand_applies h.2.2.2.2.2.2.2.2.2.2.2.2.2.1 tF (by decide +kernel) rfl
theorem test_applies_f2n : Obligations.StrandFloatResults →
    ∃ t, exec (.f2n 0 0 tF) (tBay (tF.word 0x2F) 0 tCrew) = .next t :=
  fun h => strand_applies h.2.2.2.2.2.2.2.2.2.2.2.2.2.2.1 tF (by decide +kernel) rfl
theorem test_applies_n2f : Obligations.StrandFloatResults →
    ∃ t, exec (.n2f 0 0 tF) (tBay (tF.word 0x30) 0 tCrew) = .next t :=
  fun h => strand_applies h.2.2.2.2.2.2.2.2.2.2.2.2.2.2.2.1 tF (by decide +kernel) rfl
theorem test_applies_fclass : Obligations.StrandFloatResults →
    ∃ t, exec (.fclass 0 0 tF) (tBay (tF.word 0x31) 0 tCrew) = .next t :=
  fun h => strand_applies h.2.2.2.2.2.2.2.2.2.2.2.2.2.2.2.2 tF (by decide +kernel) rfl
theorem test_applies_isetp : Obligations.PredicateResults →
    ∃ t, exec (.isetp 0 0 tF) (tBay (tF.word 0x13) 0 tCrew) = .next t :=
  fun h => predicate_applies h.1 tF (by decide +kernel) rfl
theorem test_applies_fsetp : Obligations.PredicateResults →
    ∃ t, exec (.fsetp 0 0 tF) (tBay (tF.word 0x26) 0 tCrew) = .next t :=
  fun h => predicate_applies h.2.1 tF (by decide +kernel) rfl
theorem test_applies_plop : Obligations.PredicateResults →
    ∃ t, exec (.plop 0 0 tF) (tBay (tF.word 0x15) 0 tCrew) = .next t :=
  fun h => predicate_applies h.2.2 tF (by decide +kernel) rfl
theorem test_applies_uadd : Obligations.UniformResults →
    ∃ t, exec (.uadd 0 0 tF) (tBay (tF.word 0x40) 0 tCrew) = .next t :=
  fun h => uniform_applies h.1 tF (by decide +kernel)
theorem test_applies_uaddi : Obligations.UniformResults →
    ∃ t, exec (.uaddi 0 0 tF) (tBay (tF.word 0x41) 0 tCrew) = .next t :=
  fun h => uniform_applies h.2.1 tF (by decide +kernel)
theorem test_applies_umovi : Obligations.UniformResults →
    ∃ t, exec (.umovi 0 0 tF) (tBay (tF.word 0x42) 0 tCrew) = .next t :=
  fun h => uniform_applies h.2.2.1 tF (by decide +kernel)
theorem test_applies_ului : Obligations.UniformResults →
    ∃ t, exec (.ului 0 0 tF) (tBay (tF.word 0x43) 0 tCrew) = .next t :=
  fun h => uniform_applies h.2.2.2.1 tF (by decide +kernel)
theorem test_applies_umul : Obligations.UniformResults →
    ∃ t, exec (.umul 0 0 tF) (tBay (tF.word 0x44) 0 tCrew) = .next t :=
  fun h => uniform_applies h.2.2.2.2.1 tF (by decide +kernel)
theorem test_applies_ushift : Obligations.UniformResults →
    ∃ t, exec (.ushift 0 0 tF) (tBay (tF.word 0x45) 0 tCrew) = .next t :=
  fun h => uniform_applies h.2.2.2.2.2.1 tF (by decide +kernel)
theorem test_applies_uand : Obligations.UniformResults →
    ∃ t, exec (.uand 0 0 tF) (tBay (tF.word 0x46) 0 tCrew) = .next t :=
  fun h => uniform_applies h.2.2.2.2.2.2.1 tF (by decide +kernel)
theorem test_applies_umovv : Obligations.UniformResults →
    ∃ t, exec (.umovv 0 0 tF) (tBay (tF.word 0x47) 0 tCrew) = .next t :=
  fun h => uniform_applies h.2.2.2.2.2.2.2.1 tF (by decide +kernel)
theorem test_applies_time : Obligations.UniformResults →
    ∃ t, exec (.time 0 0 tF) (tBay (tF.word 0x71) 0 tCrew) = .next t :=
  fun h => uniform_applies h.2.2.2.2.2.2.2.2.1 tF (by decide +kernel)
theorem test_applies_ctr : Obligations.UniformResults →
    ∃ t, exec (.ctr 0 0 tF) (tBay (tF.word 0x72) 0 tCrew) = .next t :=
  fun h => uniform_applies h.2.2.2.2.2.2.2.2.2.1 tF (by decide +kernel)
theorem test_applies_bayinfo : Obligations.UniformResults →
    ∃ t, exec (.bayinfo 0 0 tF) (tBay (tF.word 0x73) 0 tCrew) = .next t :=
  fun h => uniform_applies h.2.2.2.2.2.2.2.2.2.2 tF (by decide +kernel)

/-! Flow, events, fences and traps. -/

/-- Half of the lanes hold p1. -/
def tHalf : Crew := { tCrew with p := (List.range 16).map fun l => (8 * l + 1, ⟨true, false⟩) }
/-- A branch that p1 guards. -/
def tBra : Short := ⟨0, 0, 0, 0, 1, false, 0x8001⟩
/-- The stack is full. -/
def tFull : Crew := { tHalf with stack := List.replicate 16 { reconv := 9, fall := 8, mask := 1 } }

theorem test_applies_nop : Obligations.FlowMovesCrew → Runs (.nop 0 0 tF0) (tW 0 tF0 tCrew) := fun h =>
  runs (h.1 _ 0 0 tF0 tCrew (tAt 0 tF0 { guarded := true } _ (by decide +kernel)) (tIs 0 tF0 _ _ (by decide +kernel)))
theorem test_applies_bra : Obligations.FlowMovesCrew → Runs (.bra 0 0 tBra) (tW 0x48 tBra tHalf) := fun h =>
  runs (h.2.1 _ 0 0 tBra tHalf (tAt _ tBra { func := 0xFFFFFFF, guarded := true } _ (by decide +kernel))
    (tIs _ tBra _ _ (by decide +kernel)) (by decide +kernel))
theorem test_applies_jmpu : Obligations.FlowMovesCrew → Runs (.jmpu 0 0 tF0) (tW 0x49 tF0 tCrew) := fun h =>
  runs (h.2.2.1 _ 0 0 tF0 tCrew (tAt _ tF0 { a := .u } _ (by decide +kernel)) (tIs _ tF0 _ _ (by decide +kernel)) (by decide +kernel))
theorem test_applies_ret : Obligations.FlowMovesCrew → Runs (.ret 0 0 tF0) (tW 0x4C tF0 tCrew) := fun h =>
  runs (h.2.2.2.1 _ 0 0 tF0 tCrew (tAt _ tF0 { a := .u } _ (by decide +kernel)) (tIs _ tF0 _ _ (by decide +kernel))
    (by decide +kernel))
theorem test_applies_loop : Obligations.FlowMovesCrew → Runs (.loop 0 0 tF) (tW 0x4A tF tCrew) := fun h =>
  runs (h.2.2.2.2.1 _ 0 0 tF tCrew (tAt _ tF { dst := .u, func := 0xFFFF, dstRead := true } _ (by decide +kernel))
    (tIs _ tF _ _ (by decide +kernel)) (by decide +kernel))
theorem test_applies_call : Obligations.FlowMovesCrew → Runs (.call 0 0 tF) (tW 0x4B tF tCrew) := fun h =>
  runs (h.2.2.2.2.2.1 _ 0 0 tF tCrew (tAt _ tF { dst := .u, func := 0xFFFF } _ (by decide +kernel))
    (tIs _ tF _ _ (by decide +kernel)))
theorem test_applies_exit : Obligations.FlowMovesCrew → Runs (.exit 0 0 tF0) (tW 0x4D tF0 tCrew) := fun h =>
  runs (h.2.2.2.2.2.2 _ 0 0 tF0 tCrew (tAt _ tF0 { guarded := true } _ (by decide +kernel)) (tIs _ tF0 _ _ (by decide +kernel))
    (by decide +kernel) rfl)

/-- The last slot, 255, and the value in a `u` register. -/
def tEv : Short := ⟨0, 1, 0, 0, 0, false, 0x1FF⟩
theorem test_applies_ev_signal : Obligations.EventSlots → Runs (.evSignal 0 0 tEv) (tW 0x60 tEv tCrew) := fun h =>
  runs (h.1 _ 0 0 tEv tCrew (tAt _ tEv (eventForm tEv) _ (by decide +kernel)) (tIs _ tEv _ _ (by decide +kernel)))
theorem test_applies_ev_set : Obligations.EventSlots → Runs (.evSet 0 0 tEv) (tW 0x61 tEv tCrew) := fun h =>
  runs (h.2.1 _ 0 0 tEv tCrew (tAt _ tEv (eventForm tEv) _ (by decide +kernel)) (tIs _ tEv _ _ (by decide +kernel)))
theorem test_applies_ev_wait : Obligations.EventSlots → Runs (.evWait 0 0 tEv) (tW 0x62 tEv tCrew) := fun h =>
  runs₂ (h.2.2 _ 0 0 tEv tCrew (tAt _ tEv (eventForm tEv) _ (by decide +kernel)) (tIs _ tEv _ _ (by decide +kernel)))

theorem test_applies_fence_local : Obligations.FencesParkYield → Runs (.fenceLocal 0 0 tF0) (tW 0x63 tF0 tCrew) := fun h =>
  runs (h.1 _ 0 0 tF0 tCrew (tAt _ tF0 {} _ (by decide +kernel)) (tIs _ tF0 _ _ (by decide +kernel)))
theorem test_applies_fence_device : Obligations.FencesParkYield → Runs (.fenceDevice 0 0 tF0) (tW 0x64 tF0 tCrew) := fun h =>
  runs (h.2.1 _ 0 0 tF0 tCrew (tAt _ tF0 {} _ (by decide +kernel)) (tIs _ tF0 _ _ (by decide +kernel)))
theorem test_applies_fence_stamp : Obligations.FencesParkYield → Runs (.fenceStamp 0 0 tF) (tW 0x65 tF tCrew) := fun h =>
  runs₂ (h.2.2.1 _ 0 0 tF tCrew (tAt _ tF { dst := .u } _ (by decide +kernel)) (tIs _ tF _ _ (by decide +kernel)))
theorem test_applies_park : Obligations.FencesParkYield → Runs (.park 0 0 tF0) (tW 0x66 tF0 tCrew) := fun h =>
  runs (h.2.2.2.1 _ 0 0 tF0 tCrew (tAt _ tF0 {} _ (by decide +kernel)) (tIs _ tF0 _ _ (by decide +kernel)))
theorem test_applies_yield : Obligations.FencesParkYield → Runs (.yield 0 0 tF0) (tW 0x67 tF0 tCrew) := fun h =>
  runs (h.2.2.2.2 _ 0 0 tF0 tCrew (tAt _ tF0 {} _ (by decide +kernel)) (tIs _ tF0 _ _ (by decide +kernel)))

theorem test_applies_branch_takes_an_entry : Obligations.DivergentBranchDepth →
    Runs (.bra 0 0 tBra) (tW 0x48 tBra { tFull with stack := tFull.stack.drop 1 }) := fun h =>
  runs₂ ((h _ 0 0 tBra { tFull with stack := tFull.stack.drop 1 }
    (tAt _ tBra { func := 0xFFFFFFF, guarded := true } _ (by decide +kernel)) (tIs _ tBra _ _ (by decide +kernel))
    (by decide) (by decide +kernel) (by decide +kernel)).1 (by decide +kernel) (by decide +kernel))
theorem test_applies_branch_overflows : Obligations.DivergentBranchDepth → Runs (.bra 0 0 tBra) (tW 0x48 tBra tFull) := fun h =>
  runs ((h _ 0 0 tBra tFull (tAt _ tBra { func := 0xFFFFFFF, guarded := true } _ (by decide +kernel))
    (tIs _ tBra _ _ (by decide +kernel)) (by decide) (by decide +kernel) (by decide +kernel)).2 (by decide +kernel))

theorem test_applies_trap : Obligations.TrapsStopCrew → Runs (.trap 0 0 tF0) (tW 0x70 tF0 tCrew) := fun h =>
  runs (h.1 _ 0 0 tF0 tCrew (tAt _ tF0 { func := 0xFFFF } _ (by decide +kernel)) (tIs _ tF0 _ _ (by decide +kernel)) (by decide))
theorem test_applies_brk : Obligations.TrapsStopCrew → Runs (.brk 0 0 tF0) (tW 0x75 tF0 tCrew) := fun h =>
  runs (h.2.1 _ 0 0 tF0 tCrew (tAt _ tF0 { func := 0xFFFF } _ (by decide +kernel)) (tIs _ tF0 _ _ (by decide +kernel))
    (by decide))
theorem test_applies_illegal_opcode : Obligations.TrapsStopCrew → Runs (.illegalOpcode 0 0) (tW 0xFF tF0 tCrew) := fun h =>
  runs (h.2.2 _ 0 0 tCrew (by decide +kernel) (by decide) (by decide +kernel) (by decide) (by decide +kernel)
    (by decide +kernel) (by decide +kernel))

/-- Tracing is on. -/
def tTraced (s : State) : State := (s.setFlag rObsTraceCtl fObsTraceCtlEnable true).setFld rObsTraceCtl fObsTraceCtlCategories 0x1FF
theorem test_applies_trace : Obligations.TraceAndLaunch → Runs (.trace 0 0 tF0) (tTraced (tW 0x74 tF0 tCrew)) := fun h =>
  runs (h.1 _ 0 0 tF0 tCrew (tAtS (w2 := 0) (k := { a := .u, func := 0xFFFF }) (by decide +kernel) none nofun) (tIsS (op := 0x74) (w2 := 0) (by decide +kernel))
    (by decide +kernel) (by decide +kernel))
/-- A launch descriptor of 8 registers at bay store address 64, which u1 holds. -/
def tEv1 : Short := ⟨0, 1, 0, 0, 0, false, 0⟩
def tLaunch : State := (tW 0x4E tEv1 tCrew).modBay 0 fun b => { b with store := b.store.write 66 [8] }
theorem test_applies_launch : Obligations.TraceAndLaunch → Runs (.launch 0 0 tEv1) tLaunch := fun h =>
  runs (h.2 _ 0 0 tEv1 tCrew _ (tAtS (w2 := 0) (k := { a := .u }) (by decide +kernel) none nofun) (tIsS (op := 0x4E) (w2 := 0) (by decide +kernel))
    (by decide +kernel) (by decide +kernel) (by decide +kernel) (by decide +kernel) (tSome (by decide +kernel))
    (by decide +kernel))

/-! Memory and long forms. -/

/-- Sixteen bytes a lane apart: u1 holds 64, and SRCB is the lane's v2. -/
def tLanes : Crew := { tCrew with v := (List.range 32).map fun l => (64 * l + 2, ⟨BitVec.ofNat 32 (16 * l), false⟩) }
/-- 32-bit accesses at u1 + v2: a load, a store and an atomic. -/
def tLd : Short := ⟨3, 1, 2, 0, 0, false, 2⟩
def tSt : Short := ⟨0, 1, 2, 4, 0, false, 2⟩
def tAcc : Short := ⟨3, 1, 2, 4, 0, false, 2⟩
theorem tLocal (op : Nat) (tAcc : Short) (store acc : Bool)
    (h : (mCodeOk tAcc store acc && decide (mPoison tLanes tAcc (tLanes.executing tAcc) = 0) &&
      (List.range 32).all fun l => decide (localCause (if acc then accStoreSize else (tW op tAcc tLanes).bayEnd 0)
        (mAddr tLanes tAcc l) (mBytes tAcc) = none)) = true) : LocalAccess (tW op tAcc tLanes) 0 tAcc store acc tLanes := by
  simp only [Bool.and_eq_true, decide_eq_true_eq, List.all_eq_true, List.mem_range] at h
  exact ⟨h.1.1, h.1.2, fun l hl _ => h.2 l hl⟩

theorem test_applies_loadLocal : Obligations.LocalAccesses → Runs (.loadLocal 0 0 tLd) (tW 0x50 tLd tLanes) := fun h =>
  runs₂ (h.1.1 _ 0 0 tLd tLanes (tAt _ tLd (mForm tLd false) _ (by decide +kernel)) (tIs _ tLd _ _ (by decide +kernel))
    (tLocal _ _ _ _ (by decide +kernel)))
theorem test_applies_loadAcc : Obligations.LocalAccesses → Runs (.loadAcc 0 0 tLd) (tW 0x52 tLd tLanes) := fun h =>
  runs₂ (h.1.2 _ 0 0 tLd tLanes (tAt _ tLd (mForm tLd false) _ (by decide +kernel)) (tIs _ tLd _ _ (by decide +kernel))
    (tLocal _ _ _ _ (by decide +kernel)))
theorem test_applies_storeLocal : Obligations.LocalAccesses → Runs (.storeLocal 0 0 tSt) (tW 0x51 tSt tLanes) := fun h =>
  runs (h.2.1 _ 0 0 tSt tLanes (tAt _ tSt (mForm tSt true) _ (by decide +kernel)) (tIs _ tSt _ _ (by decide +kernel))
    (tLocal _ _ _ _ (by decide +kernel)))
theorem test_applies_storeAcc : Obligations.LocalAccesses → Runs (.storeAcc 0 0 tSt) (tW 0x53 tSt tLanes) := fun h =>
  runs (h.2.2 _ 0 0 tSt tLanes (tAt _ tSt (mForm tSt true) _ (by decide +kernel)) (tIs _ tSt _ _ (by decide +kernel))
    (tLocal _ _ _ _ (by decide +kernel)))
theorem test_applies_atomLocal : Obligations.LocalAtomics → Runs (.atomLocal 0 0 tAcc) (tW 0x57 tAcc tLanes) := fun h =>
  runs₂ (h _ 0 0 tAcc tLanes (tAt _ tAcc (atomForm tAcc 0x2F) _ (by decide +kernel)) (tIs _ tAcc _ _ (by decide +kernel))
    (by decide +kernel) (by decide +kernel) (by decide +kernel) (by decide +kernel) (by
      intro l hl _
      have : ∀ l, l < 32 → localCause ((tW 0x57 tAcc tLanes).bayEnd 0) (atomAddr tLanes tAcc l) 4 = none := by decide +kernel
      exact this l hl))

/-- A long form of opcode `op` whose second word is `w2`. -/
theorem long_applies {op : Nat} {mk : Nat → Nat → Short → W64 → Instr} {k : OpForm} {uses : Short → W64 → List Nat}
    {ok : LongForm → Bay → Bool} {queue : W64 → Bay → List LongForm} {room : Nat} (h : LongQueued op mk k uses ok queue room)
    (f : Short) (w2 : W64) (r : tReady op f w2 { k with long := true } tCrew = true)
    (o : ok (longFormOf op 0 f w2 tCrew) ((tBay (f.word op) w2 tCrew).bay 0) = true)
    (u : ((uses f w2).all fun n => !(tCrew.readU n).poison) = true)
    (q : (queue w2 ((tBay (f.word op) w2 tCrew).bay 0)).length < room) :
    Runs (mk 0 0 f w2) (tBay (f.word op) w2 tCrew) := by
  refine runs (h _ 0 0 f w2 tCrew (tReady_atPc r _ (fun x e => by cases e; rfl)) (tReady_issues r) o ?_ q)
  intro n hn
  have := (List.all_eq_true.1 u) n hn
  simpa using this

/-- One key of K = 1: fields of the second word of a select form. -/
def tSel : W64 := 0x180000000

theorem test_applies_trShape : Obligations.LongFormsQueue → Runs (.trShape 0 0 tF0 0x0) (tBay (tF0.word 0x80) 0x0 tCrew) := fun h =>
  long_applies (h.1.1) tF0 0x0 (by decide +kernel) (by decide +kernel) (by decide +kernel) (by decide +kernel)
theorem test_applies_trWload : Obligations.LongFormsQueue → Runs (.trWload 0 0 tF0 0x0) (tBay (tF0.word 0x81) 0x0 tCrew) := fun h =>
  long_applies (h.1.2.1) tF0 0x0 (by decide +kernel) (by decide +kernel) (by decide +kernel) (by decide +kernel)
theorem test_applies_trSwap : Obligations.LongFormsQueue → Runs (.trSwap 0 0 tF0 0x0) (tBay (tF0.word 0x82) 0x0 tCrew) := fun h =>
  long_applies (h.1.2.2.1) tF0 0x0 (by decide +kernel) (by decide +kernel) (by decide +kernel) (by decide +kernel)
theorem test_applies_trRun : Obligations.LongFormsQueue → Runs (.trRun 0 0 tF0 0x80000) (tBay (tF0.word 0x83) 0x80000 tCrew) := fun h =>
  long_applies (h.1.2.2.2.1) tF0 0x80000 (by decide +kernel) (by decide +kernel) (by decide +kernel) (by decide +kernel)
theorem test_applies_trCmp : Obligations.LongFormsQueue → Runs (.trCmp 0 0 tF0 0x800000000) (tBay (tF0.word 0x84) 0x800000000 tCrew) := fun h =>
  long_applies (h.1.2.2.2.2.1) tF0 0x800000000 (by decide +kernel) (by decide +kernel) (by decide +kernel) (by decide +kernel)
theorem test_applies_trAccz : Obligations.LongFormsQueue → Runs (.trAccz 0 0 tF0 0x800000000) (tBay (tF0.word 0x85) 0x800000000 tCrew) := fun h =>
  long_applies (h.1.2.2.2.2.2.1) tF0 0x800000000 (by decide +kernel) (by decide +kernel) (by decide +kernel) (by decide +kernel)
theorem test_applies_trSync : Obligations.LongFormsQueue → Runs (.trSync 0 0 tF0 0x0) (tBay (tF0.word 0x86) 0x0 tCrew) := fun h =>
  long_applies (h.1.2.2.2.2.2.2) tF0 0x0 (by decide +kernel) (by decide +kernel) (by decide +kernel) (by decide +kernel)
theorem test_applies_dmaLoad : Obligations.LongFormsQueue → Runs (.dmaLoad 0 0 tF0 0x400000000) (tBay (tF0.word 0x90) 0x400000000 tCrew) := fun h =>
  long_applies (h.2.1) tF0 0x400000000 (by decide +kernel) (by decide +kernel) (by decide +kernel) (by decide +kernel)
theorem test_applies_dmaStore : Obligations.LongFormsQueue → Runs (.dmaStore 0 0 tF0 0x400000000) (tBay (tF0.word 0x91) 0x400000000 tCrew) := fun h =>
  long_applies (h.2.2.1) tF0 0x400000000 (by decide +kernel) (by decide +kernel) (by decide +kernel) (by decide +kernel)
theorem test_applies_dmaCopy : Obligations.LongFormsQueue → Runs (.dmaCopy 0 0 tF0 0x400000000) (tBay (tF0.word 0x92) 0x400000000 tCrew) := fun h =>
  long_applies (h.2.2.2.1) tF0 0x400000000 (by decide +kernel) (by decide +kernel) (by decide +kernel) (by decide +kernel)
theorem test_applies_dmaScarf : Obligations.LongFormsQueue → Runs (.dmaScarf 0 0 tF0 0x0) (tBay (tF0.word 0x93) 0x0 tCrew) := fun h =>
  long_applies (h.2.2.2.2.1) tF0 0x0 (by decide +kernel) (by decide +kernel) (by decide +kernel) (by decide +kernel)
theorem test_applies_dmaUnscarf : Obligations.LongFormsQueue → Runs (.dmaUnscarf 0 0 tF0 0x0) (tBay (tF0.word 0x94) 0x0 tCrew) := fun h =>
  long_applies (h.2.2.2.2.2.1) tF0 0x0 (by decide +kernel) (by decide +kernel) (by decide +kernel) (by decide +kernel)
theorem test_applies_dmaFill : Obligations.LongFormsQueue → Runs (.dmaFill 0 0 tF0 0x40000000000000) (tBay (tF0.word 0x95) 0x40000000000000 tCrew) := fun h =>
  long_applies (h.2.2.2.2.2.2.1) tF0 0x40000000000000 (by decide +kernel) (by decide +kernel) (by decide +kernel) (by decide +kernel)
theorem test_applies_selTopk : Obligations.LongFormsQueue → Runs (.selTopk 0 0 tF0 tSel) (tBay (tF0.word 0x98) tSel tCrew) := fun h =>
  long_applies (h.2.2.2.2.2.2.2.1) tF0 tSel (by decide +kernel) (by decide +kernel) (by decide +kernel) (by decide +kernel)
theorem test_applies_selHist : Obligations.LongFormsQueue → Runs (.selHist 0 0 tF0 tSel) (tBay (tF0.word 0x99) tSel tCrew) := fun h =>
  long_applies (h.2.2.2.2.2.2.2.2.1) tF0 tSel (by decide +kernel) (by decide +kernel) (by decide +kernel) (by decide +kernel)
theorem test_applies_selEmit : Obligations.LongFormsQueue → Runs (.selEmit 0 0 tF0 tSel) (tBay (tF0.word 0x9A) tSel tCrew) := fun h =>
  long_applies (h.2.2.2.2.2.2.2.2.2.1) tF0 tSel (by decide +kernel) (by decide +kernel) (by decide +kernel) (by decide +kernel)
theorem test_applies_merge : Obligations.LongFormsQueue → Runs (.merge 0 0 tF0 tSel) (tBay (tF0.word 0x9B) tSel tCrew) := fun h =>
  long_applies (h.2.2.2.2.2.2.2.2.2.2) tF0 tSel (by decide +kernel) (by decide +kernel) (by decide +kernel) (by decide +kernel)

/-! Accesses that wait for a reply, messages, units and crews. -/

theorem begins_applies {op : Nat} {mk : Nat → Nat → Short → Instr} {k : Short → OpForm}
    {ok : State → Nat → Short → Crew → Prop} {reqs : State → Nat → Short → Crew → Nat} (h : LongBegins op mk k ok reqs)
    (f : Short) (c : Crew) (r : tReady op f 0 (k f) c = true) (o : ok (tW op f c) 0 f c) (n : c.outstanding < 8)
    (q : ((tW op f c).bay 0).requests + reqs (tW op f c) 0 f c ≤ 4096) : Runs (mk 0 0 f) (tW op f c) :=
  runs₂ (h _ 0 0 f c (tAt _ _ _ _ r) (tIs _ _ _ _ r) (by decide) o n q)
theorem tAligned {c : Crew} {p : Nat → Prop} [DecidablePred p] (h : ∀ l, l < 32 → p l) :
    ∀ l, l < 32 → lane (c.executing tAcc) l = true → p l := fun l hl _ => h l hl

theorem test_applies_loadDev : Obligations.DeviceAndRemoteAccesses → Runs (.loadDev 0 0 tLd) (tW 0x54 tLd tLanes) := fun h =>
  begins_applies h.1.1 tLd tLanes (by decide +kernel) ⟨by decide +kernel, by decide +kernel, by decide +kernel, 0, by decide,
    by decide +kernel, by decide +kernel⟩ (by decide +kernel) (by decide +kernel)
theorem test_applies_atomDev : Obligations.DeviceAndRemoteAccesses → Runs (.atomDev 0 0 tAcc) (tW 0x56 tAcc tLanes) := fun h =>
  begins_applies h.1.2.1 tAcc tLanes (by decide +kernel) ⟨by decide +kernel, by decide +kernel, by decide +kernel,
    by decide +kernel⟩ (by decide +kernel) (by decide +kernel)
/-- Two `u` registers, both 0. -/
def tUU : Short := ⟨0, 2, 3, 0, 0, false, 0⟩
theorem test_applies_flashRead : Obligations.DeviceAndRemoteAccesses → Runs (.flashRead 0 0 tUU) (tW 0x58 tUU tCrew) := fun h =>
  begins_applies h.1.2.2.1 tUU tCrew (by decide +kernel) ⟨by decide +kernel, by decide +kernel, by decide +kernel,
    by decide +kernel, by decide +kernel⟩ (by decide +kernel) (by decide +kernel)
/-- One line. -/
def tCopy : Short := ⟨0, 2, 3, 4, 0, false, 65535⟩
def tCopy1 : Short := ⟨0, 2, 3, 4, 0, false, 1⟩
theorem test_applies_remoteGet : Obligations.DeviceAndRemoteAccesses → Runs (.remoteGet 0 0 tCopy) (tW 0x69 tCopy tCrew) :=
  fun h => begins_applies h.1.2.2.2.1 tCopy tCrew (by decide +kernel) ⟨by decide +kernel, by decide +kernel, by decide +kernel,
    by decide +kernel, by decide +kernel⟩ (by decide +kernel) (by decide +kernel)
theorem test_applies_remotePut : Obligations.DeviceAndRemoteAccesses → Runs (.remotePut 0 0 tCopy1) (tW 0x6A tCopy1 tCrew) :=
  fun h => begins_applies h.1.2.2.2.2.1 tCopy1 tCrew (by decide +kernel) ⟨by decide +kernel, by decide +kernel,
    by decide +kernel, by decide +kernel, by decide +kernel⟩ (by decide +kernel) (by decide +kernel)
theorem test_applies_remoteLoad : Obligations.DeviceAndRemoteAccesses → Runs (.remoteLoad 0 0 tLd) (tW 0x6B tLd tLanes) :=
  fun h => begins_applies h.1.2.2.2.2.2.1 tLd tLanes (by decide +kernel) ⟨by decide +kernel, by decide +kernel,
    by decide +kernel⟩ (by decide +kernel) (by decide +kernel)
theorem test_applies_remoteAtom : Obligations.DeviceAndRemoteAccesses → Runs (.remoteAtom 0 0 tAcc) (tW 0x6C tAcc tLanes) :=
  fun h => begins_applies h.1.2.2.2.2.2.2 tAcc tLanes (by decide +kernel) ⟨by decide +kernel, by decide +kernel,
    by decide +kernel, by decide +kernel⟩ (by decide +kernel) (by decide +kernel)
theorem test_applies_storeDev : Obligations.DeviceAndRemoteAccesses → Runs (.storeDev 0 0 tSt) (tW 0x55 tSt tLanes) := fun h =>
  runs₂ (h.2 _ 0 0 tSt tLanes (tAt _ _ (mForm tSt true) _ (by decide +kernel)) (tIs _ _ _ _ (by decide +kernel)) (by decide)
    (by decide +kernel) (by decide +kernel) (by decide +kernel) (by
      have : ∀ l, l < 32 → mAddr tLanes tSt l % mBytes tSt = 0 := by decide +kernel
      exact fun l hl _ => this l hl))

/-- 64 bytes from address 0 to bay 1 of the same tent, and the message on its way. -/
def tMsg : Short := ⟨0, 2, 3, 4, 0, false, 64⟩
def tTwo : State := { tW 0x68 tMsg { tCrew with u := [(3, ⟨1, false⟩)] } with
  dev := { (tW 0x68 tMsg { tCrew with u := [(3, ⟨1, false⟩)] }).dev with
    bays := (tW 0x68 tMsg { tCrew with u := [(3, ⟨1, false⟩)] }).dev.bays ++ [(1, { tent := some 0 })] } }
theorem test_applies_msgSend : Obligations.Messages → Runs (.msgSend 0 0 tMsg) tTwo := fun h =>
  runs₂ (h.1 _ 0 0 tMsg { tCrew with u := [(3, ⟨1, false⟩)] }
    (tAtS (w2 := 0) (k := { a := .u, b := .u, c := .u, func := 0x7F }) (by decide +kernel) none nofun)
    (tIsS (op := 0x68) (w2 := 0) (by decide +kernel)) (by decide +kernel) (by decide +kernel) (by decide +kernel)
    (by decide +kernel) (by decide +kernel) (by decide +kernel) (by decide +kernel) (by decide +kernel))
/-- Bay 0 with an item received. -/
def tInbox : State := let s := tW 0 tF0 tCrew
  { s with dev := { s.dev with inbox := [(s.bayIsland 0, [{ kind := .message 64 255, tent := 0, bytes := 4, payload := [⟨7, false⟩] }])] } }
theorem test_applies_messageDeliver : Obligations.Messages → Runs (.messageDeliver 0) tInbox := fun h =>
  runs (h.2.1 _ 0 _ _ _ _ (show takeMessage (tInbox.inboxOf (tInbox.bayIsland 0)) = some (_, _, _, _) from
    tSome (by decide +kernel)) (by decide +kernel) (by decide +kernel))
def tSpan7 : Short := ⟨0, 0, 0, 0, 0, false, 7⟩
theorem test_applies_spanClear : Obligations.Messages → Runs (.spanClear 0 0 tSpan7) (tW 0x59 tSpan7 tCrew) := fun h =>
  runs (h.2.2 _ 0 0 tSpan7 tCrew (tAt _ _ { func := 7 } _ (by decide +kernel)) (tIs _ _ _ _ (by decide +kernel)))

/-- Bay 0 as given. -/
def tB (b : Bay) : State := { dev := { bays := [(0, b)] } }
def tTruss : State := tB { truss := { queue := [{ op := 0x86, w2 := 0x1FF }] } }
theorem test_applies_trussFormComplete : Obligations.UnitFormsComplete → Runs (.trussFormComplete 0) tTruss := fun h =>
  runs (h.1 tTruss 0 _ _ (by decide +kernel) (by decide +kernel) rfl)
def tSelq : State := tB { selq := [{ op := 0x9B, w2 := 0x8000 }] }
theorem test_applies_selectFormComplete : Obligations.UnitFormsComplete → Runs (.selectFormComplete 0) tSelq := fun h =>
  runs (h.2.1 tSelq 0 _ _ (by decide +kernel) (by decide +kernel) rfl)
/-- A fill of 4 bytes of the bay store, and one past its end. -/
def tDma (a : W64) : State := tB { tent := some 0, dma := [(7, { queue := [{ op := 0x95, a := a, w2 := 0x400000E00 }] })] }
theorem test_applies_dmaDescriptorComplete : Obligations.UnitFormsComplete → Runs (.dmaDescriptorComplete 0 7) (tDma 0) := fun h =>
  runs (h.2.2.1 (tDma 0) 0 7 _ (tSome (by decide +kernel)) (by decide +kernel))
theorem test_applies_dmaFault : Obligations.UnitFormsComplete → Runs (.dmaFault 0 7) (tDma 0x400000) := fun h =>
  runs (h.2.2.2.1 (tDma 0x400000) 0 7 _ 4 (tSome (by decide +kernel)) (by decide +kernel) (by decide +kernel))
theorem test_applies_dmaResume : Obligations.UnitFormsComplete →
    Runs (.dmaResume 0 7) (tB { dma := [(7, { halted := true, queue := [{}] })] }) := fun h =>
  runs (h.2.2.2.2.1 _ 0 7 (by decide +kernel))

/-- One logit. -/
def tSmp : Short := ⟨0, 2, 3, 4, 0, false, 0⟩
theorem tSampler (op : Nat) (w2 : W64) (r : tReady op tSmp w2 smpForm tCrew = true) :
    AtPc (tBay (tSmp.word op) w2 tCrew) 0 0 op tSmp (some w2) tCrew ∧ Issues (tBay (tSmp.word op) w2 tCrew) 0 0 tSmp smpForm tCrew :=
  ⟨tReady_atPc r _ (fun x e => by cases e; rfl), tReady_issues r⟩
theorem test_applies_smpFeed : Obligations.SamplerSlices → Runs (.smpFeed 0 0 tSmp 0x20000200) (tBay (tSmp.word 0xA0) 0x20000200 tCrew) :=
  fun h => runs₂ (h.1 _ 0 0 tSmp 0x20000200 tCrew (tSampler _ _ (by decide +kernel)).1 (tSampler _ _ (by decide +kernel)).2
    (by decide +kernel) (by decide +kernel) (by decide +kernel) (by decide +kernel) (by decide +kernel))
theorem test_applies_smpDraft : Obligations.SamplerSlices → Runs (.smpDraft 0 0 tSmp 0x200) (tBay (tSmp.word 0xA2) 0x200 tCrew) :=
  fun h => runs₂ (h.2.1 _ 0 0 tSmp 0x200 tCrew (tSampler _ _ (by decide +kernel)).1 (tSampler _ _ (by decide +kernel)).2
    (by decide +kernel) (by decide +kernel) (by decide +kernel) (by decide +kernel))
theorem test_applies_smpClose : Obligations.SamplerSlices → Runs (.smpClose 0 0 tSmp 0x200) (tBay (tSmp.word 0xA1) 0x200 tCrew) :=
  fun h => runs (h.2.2 _ 0 0 tSmp 0x200 tCrew (tSampler _ _ (by decide +kernel)).1 (tSampler _ _ (by decide +kernel)).2
    (by decide +kernel) (by decide +kernel))

theorem test_applies_crewLaunch : Obligations.CrewLifecycle → Runs (.crewLaunch 0 255) (tB { launchq := [{ count := 64 }] }) := fun h =>
  runs (h.1 _ 0 255 _ _ rfl (by decide +kernel) (by decide +kernel) (by decide +kernel) (by decide +kernel))
theorem test_applies_crewEnd : Obligations.CrewLifecycle →
    Runs (.crewEnd 0 0) (tB { crews := [(0, some { exiting := true, endSlot := some 255 })] }) := fun h =>
  runs (h.2.1 _ 0 0 _ (tSome (by decide +kernel)) (by decide +kernel) (by decide +kernel) (by decide +kernel))
/-- A crew with an operation whose reply is here. -/
def tReply (trap : Option (Nat × W32 × W64)) : State :=
  tB { tent := some 0, crews := [(0, some { ops := [{ id := 3, ready := true, regs := [(1, ⟨9, false⟩)], addr := 64, bytes := [1], trap := trap }] })] }
theorem test_applies_longLatencyReplyLand : Obligations.CrewLifecycle → Runs (.longLatencyReplyLand 0 0 3) (tReply none) := fun h =>
  runs₂ (h.2.2.1 _ 0 0 3 _ _ (tSome (by decide +kernel)) (by decide +kernel) (tSome (by decide +kernel)) (by decide +kernel))
theorem test_applies_longLatencyReply_traps : Obligations.CrewLifecycle →
    Runs (.longLatencyReplyLand 0 0 3) (tReply (some (5, 1, 2))) := fun h =>
  runs (h.2.2.2.1 _ 0 0 3 _ _ 5 1 2 (tSome (by decide +kernel)) (by decide +kernel) (by decide)
    (tSome (by decide +kernel)) (by decide +kernel))
/-- Crews of 64 registers fill bay 0, and work of a higher class waits. -/
def tLow : State :=
  let s := tB { tent := some 0, crews := (List.range 128).map fun k => (k, some { count := 64, request := 1, launchNo := k }), launchq := [{ count := 64, request := 2 }] }
  { s with dev := { s.dev with adm := { requests := [(1, some { seq := 1, cls := 0 }), (2, some { seq := 2, cls := 7 })] } } }.setFld
    (rTentSave 0) fTentSaveLocalKib 512
theorem test_applies_crewPreempt : Obligations.CrewLifecycle → Runs (.crewPreempt 0 127) tLow := fun h =>
  runs₂ (h.2.2.2.2.1 tLow 0 127 _ 0 _ (tSome (by decide +kernel)) (by decide +kernel) (by decide +kernel) (by decide +kernel)
    (tSome (by decide +kernel)))
theorem test_applies_crewRestore : Obligations.CrewLifecycle →
    Runs (.crewRestore 256 255) { dev := { saved := [{ token := 256, tent := 0 }] } } := fun h =>
  runs (h.2.2.2.2.2.1 _ 256 255 _ (tSome (by decide +kernel)) (by decide) (by decide +kernel) (by decide +kernel)
    (by decide +kernel) (by decide +kernel) (by decide +kernel))
theorem test_applies_bayReset : Obligations.CrewLifecycle → Runs (.bayReset 0) (tB { tent := some 0, resetDue := true }) := fun h =>
  runs₂ (h.2.2.2.2.2.2 _ 0 (by decide +kernel))

/-! The control window, couplers, the freeze and time. -/

/-- Registers written, at a tick. -/
def tReg (l : List (Nat × W64)) (tick : Nat := 0) : State :=
  l.foldl (fun s e => s.wr e.1 e.2) { ao := { tick := tick } }
/-- A host region of 1 GiB from address 0. -/
def tHost (s : State) : State := (s.setFld rMemHostRegion fMemHostRegionBase 0).setFld rMemHostRegion fMemHostRegionSizeGib 1

theorem test_applies_malformedControlAccess : Obligations.ControlWindow → Runs (.malformedControlAccess 4 8 true) {} := fun h =>
  runs₂ (h.1 {} 4 8 true (by decide))
theorem test_applies_registerWrite : Obligations.ControlWindow → Runs (.registerWrite rPwrCapW 500) {} := fun h =>
  runs (h.2.1 {} rPwrCapW 500 _ _ _ (show State.writable {} rPwrCapW = some (_, _, _) from tSome (by decide +kernel))
    (by decide +kernel) (by decide +kernel))
theorem test_applies_dumpGo : Obligations.ControlWindow →
    Runs .dumpGo (tHost ((tReg []).setFld rTimeFreezeStatus fTimeFreezeStatusState 3)) := fun h =>
  runs (h.2.2.1 _ (by decide +kernel) (by decide +kernel) (by decide +kernel))
theorem test_applies_ethernetFrameReceive_bad : Obligations.ControlWindow → Runs (.ethernetFrameReceive 4 true false) {} := fun h =>
  runs₂ (h.2.2.2.1 {} 4 true (by decide +kernel))
theorem test_applies_ethernetFrameReceive : Obligations.ControlWindow → Runs (.ethernetFrameReceive 3 false true) {} := fun h =>
  runs (h.2.2.2.2.1 {} 3 (by decide +kernel) (by decide +kernel))
theorem test_applies_ethernetFrameTransmit : Obligations.ControlWindow → Runs (.ethernetFrameTransmit 3 0 64) {} := fun h =>
  runs (h.2.2.2.2.2 {} 3 0 64 (by decide +kernel) (by decide) (by decide +kernel))

/-- One item on the path from island 0 to island 1. -/
def tPath (k : ItemKind) : State :=
  { dev := { couplers := [(couplerKey 0 1, [{ stamp := { tick := 7 }, kind := k, payload := [⟨5, true⟩] }])] } }
theorem test_applies_couplerDeliver : Obligations.CouplersDeliverInOrder →
    Runs (.couplerDeliver 0 1 [] false 0 0) (tPath .transaction) := fun h =>
  runs (h.1 (tPath .transaction) 0 1 _ [] 0 rfl (by decide +kernel) (by decide +kernel))
theorem test_applies_couplerDeliver_watermark : Obligations.CouplersDeliverInOrder →
    Runs (.couplerDeliver 0 1 [] false 0 0) (tPath .watermark) := fun h =>
  runs (h.1 (tPath .watermark) 0 1 _ [] 0 rfl (by decide +kernel) (by decide +kernel))
theorem test_applies_watermarkSend : Obligations.CouplersDeliverInOrder →
    Runs (.watermarkSend 0 1) { ao := { tick := 64 } } := fun h =>
  runs₂ (h.2 _ 0 1 (by decide +kernel) (by decide +kernel))

/-- The freeze in a state, with its tick and the tick now. -/
def tFrz (st : Nat) (at_ resume : W64) (tick : Nat) : State :=
  (tReg [(rTimeFreezeAt, at_), (rTimeResumeAt, resume)] tick).setFld rTimeFreezeStatus fTimeFreezeStatusState st
theorem test_applies_freezeArm : Obligations.FreezeStates → Runs (.freezeArm 2005) (tFrz 0 noTick noTick 5) := fun h =>
  runs (h.1 _ 2005 (by decide) (by decide +kernel) (by decide +kernel) (by decide +kernel))
theorem test_applies_freezeDisarm : Obligations.FreezeStates → Runs .freezeDisarm (tFrz 1 1005 noTick 5) := fun h =>
  runs (h.2.1 (tFrz 1 1005 noTick 5) (by decide +kernel) (by decide +kernel) .freezeDisarm (by decide))
theorem test_applies_freezeTickReached : Obligations.FreezeStates → Runs .freezeTickReached (tFrz 1 5 noTick 5) := fun h =>
  runs (h.2.2.1 _ (by decide +kernel) (by decide +kernel))
theorem test_applies_freezeSettled : Obligations.FreezeStates → Runs .freezeSettled (tFrz 2 5 noTick 205) := fun h =>
  runs (h.2.2.2.1 _ (by decide +kernel) (by decide +kernel))
theorem test_applies_resumeArm : Obligations.FreezeStates → Runs (.resumeArm 2205) (tFrz 3 5 noTick 205) := fun h =>
  runs (h.2.2.2.2.1 _ 2205 (by decide +kernel) (by decide +kernel) (by decide +kernel))
theorem test_applies_resumeArm_early : Obligations.FreezeStates → Runs (.resumeArm 2205) (tFrz 2 5 noTick 205) := fun h =>
  runs (h.2.2.2.2.2.1 _ 2205 (by decide +kernel))
theorem test_applies_resumeTickReached : Obligations.FreezeStates → Runs .resumeTickReached (tFrz 4 5 2205 2205) := fun h =>
  runs (h.2.2.2.2.2.2.1 _ (by decide +kernel) (by decide +kernel))
theorem test_applies_freezeAckReceive : Obligations.FreezeStates →
    Runs (.freezeAckReceive false) ((tFrz 2 5 noTick 205).setFlag rTimeFreezeStatus fTimeFreezeStatusScopeFabric true) := fun h =>
  runs (h.2.2.2.2.2.2.2 _ (by decide +kernel) (by decide +kernel))

theorem test_applies_timeBeacon : Obligations.TimeBase → Runs (.timeBeacon [(0, 3)] []) { ao := { tick := 1000 } } := fun h =>
  runs (h.1 _ 0 3 (by decide) (by decide +kernel))
theorem test_applies_timeBeacon_missed : Obligations.TimeBase →
    Runs (.timeBeacon [] [0]) { ao := { tick := 4000 }, dev := { islands := [(0, { missed := 3 })] } } := fun h =>
  runs (h.2.1 _ 0 (by decide) (by decide +kernel) (by decide +kernel))
theorem test_applies_timingFault : Obligations.TimeBase →
    Runs (.timingFault 0) { dev := { islands := [(0, { fault := true })] } } := fun h =>
  runs (h.2.2.1 _ 0 (by decide +kernel))
theorem test_applies_ppsOutEdge : Obligations.TimeBase → Runs .ppsOutEdge { ao := { tick := 1000000000 } } := fun h =>
  runs (h.2.2.2.2.2.1 _ (by decide +kernel) (by decide))
theorem test_applies_timeCmpWrite : Obligations.TimeBase → Runs (.timeCmpWrite 1 6) { ao := { tick := 5 } } := fun h =>
  runs (h.2.2.2.2.2.2.2.1 _ 1 6 (by decide) (by decide))
theorem test_applies_timeCmpWrite_past : Obligations.TimeBase → Runs (.timeCmpWrite 1 5) { ao := { tick := 5 } } := fun h =>
  runs (h.2.2.2.2.2.2.2.2.1 _ 1 5 (by decide) (by decide) (by decide +kernel))
theorem test_applies_timeCmpFire : Obligations.TimeBase → Runs (.timeCmpFire 0) (tReg [(State.cmpReg 0, 5)] 5) := fun h =>
  runs (h.2.2.2.2.2.2.2.2.2 _ 0 (by decide) (by decide +kernel) (by decide +kernel) (by decide +kernel) (by decide +kernel))

/-! Power, start-up and resets. -/

/-- The part in A2 at a tick. -/
def tA2 (tick : Nat) : State := (tReg [] tick).setFld rPwrState fPwrStateCurrent 2
theorem test_applies_requestA0 : Obligations.PowerTripsAndDuty → Runs .requestA0 (tA2 0) := fun h => runs (h.1.1 _ (by decide +kernel))
theorem test_applies_requestA2 : Obligations.PowerTripsAndDuty → Runs .requestA2 {} := fun h =>
  runs (h.1.2.1 {} (by decide +kernel) (by decide +kernel))
theorem test_applies_requestS1 : Obligations.PowerTripsAndDuty → Runs .requestS1 {} := fun h =>
  runs (h.1.2.2.1 {} (by decide +kernel) rfl)
theorem test_applies_s1Entry : Obligations.PowerTripsAndDuty → Runs (.s1Entry true) { ao := { s1Pending := true } } := fun h =>
  runs (h.1.2.2.2.1 _ rfl rfl)
theorem test_applies_islandClockStop : Obligations.PowerTripsAndDuty → Runs (.islandClockStop 0) { ao := { tick := 1000 } } := fun h =>
  runs (h.1.2.2.2.2.1 _ 0 (by decide +kernel) (by decide +kernel) (by decide +kernel) (by decide +kernel) (by decide +kernel))
theorem test_applies_islandClockRestart : Obligations.PowerTripsAndDuty →
    Runs (.islandClockRestart 0x308) { dev := { islands := [(0x308, { stopped := true })], inbox := [(0x308, [{}])] } } := fun h =>
  runs (h.1.2.2.2.2.2.1 _ 0x308 (by decide +kernel) (by decide +kernel) (by decide +kernel))
theorem test_applies_stackWake : Obligations.PowerTripsAndDuty → Runs (.stackWake 11) (tA2 0) := fun h =>
  runs (h.1.2.2.2.2.2.2.1 _ 11 (by decide +kernel) (by decide))
theorem test_applies_stackSelfRefresh : Obligations.PowerTripsAndDuty → Runs (.stackSelfRefresh 11) (tA2 100000) := fun h =>
  runs (h.1.2.2.2.2.2.2.2.1 _ 11 (by decide +kernel) (by decide) (by decide))
theorem test_applies_wakeEvent_latched : Obligations.PowerTripsAndDuty → Runs .wakeEvent { ao := { s1Pending := true } } := fun h =>
  runs (h.1.2.2.2.2.2.2.2.2.1 _ rfl rfl)
theorem test_applies_wakeEvent : Obligations.PowerTripsAndDuty → Runs .wakeEvent { ao := { s1 := true } } := fun h =>
  runs (h.1.2.2.2.2.2.2.2.2.2 _ rfl rfl rfl)

theorem test_applies_aoSensorRead : Obligations.PowerTripsAndDuty → Runs (.aoSensorRead [104]) { ao := { startStep := 12 } } := fun h =>
  runs (h.2.1 _ 104 rfl (by decide) (by decide +kernel) (by decide))
theorem test_applies_sup0Fault : Obligations.PowerTripsAndDuty → Runs .sup0Fault { ao := { mainEn := true } } := fun h =>
  runs (h.2.2.1 _ rfl rfl)
theorem test_applies_dutyUpdate : Obligations.PowerTripsAndDuty → Runs (.dutyUpdate 900000) { ao := { startStep := 4 } } := fun h =>
  runs (h.2.2.2.1 _ 900000 rfl (by decide))

theorem test_applies_pwrResetWarm : Obligations.ResetsAndStartUp →
    Runs (.pwrResetWarm (setBits (setBits 0 fPwrResetKey.1 fPwrResetKey.2 0xA5) 0 2 1)) { ao := { startStep := 12 } } := fun h =>
  runs₂ (h.2.2.1 _ _ (by decide +kernel) (by decide +kernel) (by decide) (by decide +kernel) rfl (by decide))
theorem test_applies_pwrResetCold : Obligations.ResetsAndStartUp →
    Runs (.pwrResetCold (setBits (setBits 0 fPwrResetKey.1 fPwrResetKey.2 0xA5) 0 2 2)) { ao := { startStep := 12 } } := fun h =>
  runs (h.2.2.2.1 _ _ (by decide +kernel) (by decide +kernel) (by decide +kernel) rfl (by decide))
theorem test_applies_pkgResetAssert : Obligations.ResetsAndStartUp → Runs .pkgResetAssert {} := fun h =>
  runs (h.2.2.2.2.1 {} rfl rfl)
theorem test_applies_pkgResetRelease : Obligations.ResetsAndStartUp → Runs .pkgResetRelease { ao := { heldInReset := true } } :=
  fun h => runs (h.2.2.2.2.2.1 _ rfl)
theorem test_applies_startupStepAdvance_warm : Obligations.ResetsAndStartUp →
    Runs (.startupStepAdvance true [] [] 0 []) { ao := { warm := some (5, 2), tick := 2000005, startStep := 12 } } := fun h =>
  runs (h.2.2.2.2.2.2.1 _ true [] [] 0 [] 5 2 rfl (by decide +kernel))
theorem test_applies_startupStepAdvance : Obligations.ResetsAndStartUp →
    Runs (.startupStepAdvance true [] [] 0 []) { ao := { startStep := 4 } } := fun h =>
  runs (h.2.2.2.2.2.2.2 _ [] [] 0 [] rfl (by decide) rfl rfl rfl rfl (by decide +kernel))

/-! The fabric. -/

/-- Link `l` in state `st`, enabled and let go, as given. -/
def tLink (l st : Nat) (x : Link) (tick : Nat := 0) : State :=
  { (((tReg [] tick).setFld (rFabLinkStatus l) fFabLinkStatusState st).setFlag (rFabLinkCfg l) fFabLinkCfgEnable true).setFlag
      rFabCfg fFabCfgLinksGo true with dev := { ((((tReg [] tick).setFld (rFabLinkStatus l) fFabLinkStatusState st).setFlag
      (rFabLinkCfg l) fFabLinkCfgEnable true).setFlag rFabCfg fFabCfgLinksGo true).dev with fab := { links := [(l, x)] } } }
/-- A request flit that has come in, and one that waits to go. -/
def tFlit : Flit := { type := 2, cls := 1, txn := some { op := 2, dest := 0 } }

theorem test_applies_linksGo : Obligations.LinkBringUp → Runs (.linksGo 1) (tReg [(rFabLinkCfg 15, 1)]) := fun h =>
  runs (h.1 _ 1 (by decide))
theorem test_applies_linkTrainRetry : Obligations.LinkBringUp → Runs (.linkTrainRetry 15 (some (5, 2))) (tLink 15 1 {}) := fun h =>
  runs (h.2.1 _ 15 5 2 (by decide +kernel) (by decide) (by decide +kernel) (by decide +kernel) (by decide +kernel)
    (by decide +kernel))
theorem test_applies_linkTrainRetry_none : Obligations.LinkBringUp → Runs (.linkTrainRetry 15 none) (tLink 15 1 {}) := fun h =>
  runs (h.2.2.1 _ 15 (by decide +kernel) (by decide) (by decide +kernel) (by decide +kernel) (by decide +kernel))
theorem test_applies_linkKeyAgree : Obligations.LinkBringUp → Runs (.linkKeyAgree 15 true) (tLink 15 2 {}) := fun h =>
  runs (h.2.2.2.1 _ 15 (by decide +kernel) (by decide +kernel))
theorem test_applies_linkRekey : Obligations.LinkBringUp → Runs (.linkRekey 15) (tLink 15 3 { flits := 2 ^ 40 }) := fun h =>
  runs (h.2.2.2.2.1 _ 15 (by decide +kernel))
theorem test_applies_linkUp : Obligations.LinkBringUp → Runs (.linkUp 15) (tLink 15 2 { keyed := true, skewOk := true }) := fun h =>
  runs (h.2.2.2.2.2.1 _ 15 (by decide +kernel) (by decide) (by decide +kernel) (by decide +kernel) (by decide +kernel))
theorem test_applies_linkTimeExchange : Obligations.LinkBringUp →
    Runs (.linkTimeExchange 15 60 26 0 1) (tLink 15 2 { keyed := true } 1000) := fun h =>
  runs (h.2.2.2.2.2.2 _ 15 60 26 0 1 (by decide +kernel) (by decide +kernel) (by decide +kernel))

theorem test_applies_linkDown : Obligations.LinkFailure → Runs (.linkDown 15 2) (tLink 15 3 { queue := [tFlit] }) := fun h =>
  runs (h.1 _ 15 (by decide +kernel) (by decide))
theorem test_applies_linkDisable : Obligations.LinkFailure → Runs (.linkDisable 15) (tLink 15 3 {}) := fun h =>
  runs (h.2.1 _ 15 (by decide +kernel) (by decide))
theorem test_applies_linkNoticeTimeout : Obligations.LinkFailure →
    Runs (.linkNoticeTimeout 15) (tLink 15 0 { waiting := some 5, held := [tFlit] } 100005) := fun h =>
  runs (h.2.2.1 _ 15 5 (by decide +kernel) (by decide +kernel))
/-- A transaction has arrived over link 3. -/
def tTxn (s : State) (x : Txn) : State := s.modFab fun f => { f with arrived := [(3, x)] }
/-- Its answers go to device 5, over link 1. -/
def tRoute : State := ((tReg []).setFld (rFabLinkStatus 1) fFabLinkStatusState 3).modFab fun f =>
  { f with routes := [(5, setBits (setBits 0 fFabRouteDataPrimary.1 4 1) fFabRouteDataPrimaryValid.1 1 1)] }
theorem tRouted : Routed tRoute 5 1 := ⟨by decide +kernel, by decide +kernel, by decide +kernel, by decide +kernel, by decide +kernel⟩
theorem test_applies_txnLinkNotice : Obligations.LinkFailure → Runs (.txnLinkNotice 0)
    (tTxn (((tLink 3 0 { waiting := some 5 }).setFld (rFabLinkStatus 3) fFabLinkStatusPeerLink 7).setFld (rFabLinkStatus 3)
      fFabLinkStatusPeerDevice 5) { op := 0x40, stamp := { device := 5 }, pay := .notice 7 4095 }) := fun h =>
  runs (h.2.2.2.1 _ 0 _ _ 7 4095 3 (tSome (by decide +kernel)) (by decide +kernel) (by decide +kernel))
theorem test_applies_routeHoldExpire : Obligations.LinkFailure →
    Runs (.routeHoldExpire 5) { ao := { tick := 7 }, dev := { fab := { holds := [(5, 7)], heldFlits := [{ dest := 5 }] } } } :=
  fun h => runs (h.2.2.2.2.2 _ 5 (by decide) (by decide))

theorem test_applies_flitSend : Obligations.FlitsInSequence →
    Runs (.flitSend 15) (tLink 15 3 { queue := [tFlit], txSeq := 4095, sealTx := 254, retry := List.replicate 3 {} }) := fun h =>
  runs₂ (h.1 _ 15 tFlit (by decide +kernel) (by decide +kernel) (by decide +kernel) (by decide +kernel) (by decide +kernel)
    (by decide +kernel) (by decide +kernel) (.inl (by decide +kernel)))
theorem test_applies_flitSend_again : Obligations.FlitsInSequence → Runs (.flitSend 15) (tLink 15 3 { resend := [tFlit] }) := fun h =>
  runs (h.2.1 _ 15 _ _ (by decide +kernel) (show ((tLink 15 3 { resend := [tFlit] }).link 15).resend = tFlit :: [] by decide +kernel))
theorem test_applies_ackTimer : Obligations.FlitsInSequence → Runs (.ackTimer 15) (tLink 15 3 { ackDue := 64 }) := fun h =>
  runs₂ (h.2.2.1 _ 15 (by decide +kernel) (by decide +kernel) (by decide +kernel))
theorem test_applies_sealIdleClose : Obligations.FlitsInSequence → Runs (.sealIdleClose 15) (tLink 15 3 { sealTx := 1 } 1000) :=
  fun h => runs₂ (h.2.2.2.1 _ 15 (by decide +kernel) (by decide +kernel) (by decide +kernel) (by decide +kernel))
theorem test_applies_flitReceive_bad : Obligations.FlitsInSequence → Runs (.flitReceive 15 tFlit false true) (tLink 15 3 {}) :=
  fun h => runs (h.2.2.2.2.1 _ 15 tFlit true (by decide +kernel))
theorem test_applies_flitReceive : Obligations.FlitsInSequence → Runs (.flitReceive 15 tFlit true true) (tLink 15 3 {}) :=
  fun h => runs (h.2.2.2.2.2.1 _ 15 tFlit _ true (by decide +kernel) (by decide +kernel) rfl rfl (by decide +kernel) rfl
    (by decide +kernel) (by decide +kernel) (by decide +kernel) (by decide +kernel) (by decide +kernel) (by decide +kernel)
    nofun nofun nofun)
theorem test_applies_flitForward : Obligations.FlitsInSequence → Runs (.flitForward 15) (tLink 15 3 { forward := [tFlit] }) :=
  fun h => runs (h.2.2.2.2.2.2 _ 15 tFlit [] (by decide +kernel) (by decide +kernel))

/-- Tent 0 is ACTIVE with a device range of 64 KiB in HBM, sealed with an empty key identity, and spans device 5. -/
def tTent (s : State) : State :=
  let s := (s.setFld (rTentCtl 0) fTentCtlState 2).setFlag (rMemPanelTableBase 0) fMemPanelTableBaseValid true
  let s := (s.setFld (rMemPanelTableBase 0) fMemPanelTableBaseRangeLog2 16).setFld (rTentHbm 0) fTentHbmStacks 1
  let s := (s.setFlag (rFabTentSpan 0) fFabTentSpanEnable true).setFld (rFabTentSpan 0) fFabTentSpanLow 5
  let s := (s.setFld (rFabTentSpan 0) fFabTentSpanHigh 5).setFlag (rSecKeyslot 0) fSecKeyslotValid true
  (s.setFlag (rSecKeyslot 0) fSecKeyslotSealed true).setPanel 0 0 { state := 1 }
/-- A request of device 5 for its last eight bytes. -/
def tAsk (op : Nat) (p : TxnPay) : State :=
  tTxn (tTent tRoute) { op := op, tent := 0, stamp := { device := 5 }, addr := 65528, size := 8, pay := p }
theorem tServes {s : State} {op : Nat} (h : (s.arrivedTxn 0 op).isSome = true)
    (b : s.blocked (serveIsland ((s.arrivedTxn 0 op).get h).1) = false)
    (a : s.remoteRefusal ((s.arrivedTxn 0 op).get h).2 = none) :
    Serves s 0 op ((s.arrivedTxn 0 op).get h).1 ((s.arrivedTxn 0 op).get h).2 := ⟨tSome h, b, rfl, a⟩
theorem test_applies_txnWrite : Obligations.TransactionsServed → Runs (.txnWrite 0) (tAsk 2 (.bytes (List.replicate 8 1))) := fun h =>
  runs (h.1 _ 0 _ _ (List.replicate 8 1) (tServes (by decide +kernel) (by decide +kernel) (by decide +kernel)) (by decide +kernel)
    (by decide +kernel) (by decide +kernel))
theorem test_applies_txnAtomic : Obligations.TransactionsServed → Runs (.txnAtomic 0) (tAsk 3 (.atomic 0 7 0)) := fun h =>
  runs (h.2.1 _ 0 _ _ 0 7 0 (tServes (by decide +kernel) (by decide +kernel) (by decide +kernel)) (by decide +kernel)
    (by decide +kernel) (by decide +kernel) (by decide +kernel))
theorem test_applies_txnRead : Obligations.TransactionsServed → Runs (.txnRead 0) (tAsk 1 .none) := fun h =>
  runs₃ (h.2.2.1 _ 0 _ _ 1 (tServes (by decide +kernel) (by decide +kernel) (by decide +kernel)) (by decide +kernel)
    ⟨by decide +kernel, by decide +kernel, by decide +kernel, by decide +kernel, by decide +kernel⟩
    (by decide +kernel) (by decide +kernel) (by decide +kernel) (by decide +kernel))
theorem test_applies_txnMessage : Obligations.TransactionsServed → Runs (.txnMessage 0)
    (tTxn (let s := tTent tRoute; { s with dev := { s.dev with bays := [(0, { tent := some 0 })] } })
      { op := 4, tent := 0, stamp := { device := 5 }, addr := 64, size := 4, pay := .bytes [1, 2, 3, 4] }) := fun h =>
  runs₂ (h.2.2.2.1 _ 0 _ _ [1, 2, 3, 4] (tServes (by decide +kernel) (by decide +kernel) (by decide +kernel)) (by decide +kernel))
theorem test_applies_keyidAnnounce : Obligations.TransactionsServed → Runs (.keyidAnnounce 0) (tTent tRoute) := fun h =>
  runs₃ (h.2.2.2.2 _ 0 5 1 (by decide) (by decide +kernel) (by decide +kernel) (by decide +kernel) (by decide +kernel)
    (by decide +kernel) ⟨by decide +kernel, by decide +kernel, by decide +kernel, by decide +kernel, by decide +kernel⟩)

/-- An operation of bay 0's crew waits under tag 9, and a reply has come. -/
def tWaits (op : Nat) (p : TxnPay) (tag : Nat := 9) : State :=
  tTxn ({ (tB { tent := some 0, crews := [(255, some { ops := [{ id := 3 }] })] }) with ao := { tick := 10 ^ 10 } }.modFab
    fun f => { f with ops := [{ tag := 9, slot := 255, opId := 3, use := .done }] }) { op := op, tag := tag, pay := p }
theorem test_applies_txnReadData : Obligations.RepliesAndPeers → Runs (.txnReadData 0) (tWaits 0x11 (.bytes [1, 2])) := fun h =>
  runs (h.1.1 (tWaits 0x11 (.bytes [1, 2])) 0 _ _ _ (0x11, .txnReadData) (by simp) (tSome (by decide +kernel)) (by decide +kernel)
    (tSome (by decide +kernel)) (by decide +kernel) (by decide +kernel) (by decide +kernel))
theorem test_applies_txnWriteDone : Obligations.RepliesAndPeers → Runs (.txnWriteDone 0) (tWaits 0x12 .none) := fun h =>
  runs (h.1.1 (tWaits 0x12 .none) 0 _ _ _ (0x12, .txnWriteDone) (by simp) (tSome (by decide +kernel)) (by decide +kernel)
    (tSome (by decide +kernel)) (by decide +kernel) (by decide +kernel) (by decide +kernel))
theorem test_applies_txnAtomicData : Obligations.RepliesAndPeers → Runs (.txnAtomicData 0) (tWaits 0x13 (.bytes [1])) := fun h =>
  runs (h.1.1 (tWaits 0x13 (.bytes [1])) 0 _ _ _ (0x13, .txnAtomicData) (by simp) (tSome (by decide +kernel)) (by decide +kernel)
    (tSome (by decide +kernel)) (by decide +kernel) (by decide +kernel) (by decide +kernel))
theorem test_applies_txnFault : Obligations.RepliesAndPeers → Runs (.txnFault 0) (tWaits 0x1F .none) := fun h =>
  runs₃ (h.1.2.1 _ 0 _ _ _ _ (tSome (by decide +kernel)) (by decide +kernel) (tSome (by decide +kernel)) (by decide +kernel)
    (by decide +kernel) (tSome (by decide +kernel)))
theorem test_applies_txnReadData_stale : Obligations.RepliesAndPeers → Runs (.txnReadData 0) (tWaits 0x11 (.bytes [1]) 8) :=
  fun h => runs (h.1.2.2.1 (tWaits 0x11 (.bytes [1]) 8) 0 _ _ (0x11, .txnReadData) (by simp) (tSome (by decide +kernel))
    (by decide +kernel) (by decide +kernel))
theorem test_applies_remoteTimeout : Obligations.RepliesAndPeers → Runs (.remoteTimeout 9) (tWaits 0x11 .none) := fun h =>
  runs (h.1.2.2.2 _ 9 _ (tSome (by decide +kernel)) (by decide +kernel))

theorem test_applies_txnJournal : Obligations.RepliesAndPeers →
    Runs (.txnJournal 0) (tTxn {} { op := 0x30, stamp := { device := 5 }, pay := .journal {} }) := fun h =>
  runs (h.2.1 _ 0 _ _ {} 0 (tSome (by decide +kernel)) (by decide +kernel) (by decide +kernel) (by decide +kernel))
theorem test_applies_txnJournalAck : Obligations.RepliesAndPeers →
    Runs (.txnJournalAck 0) (tTxn { dev := { jrnl := { log := [{ id := 4 }] } } } { op := 0x31, pay := .journalAck 4 }) := fun h =>
  runs (h.2.2.1 _ 0 _ _ 4 (tSome (by decide +kernel)) (by decide +kernel) (by decide +kernel) (by decide +kernel))
theorem test_applies_txnFreeze : Obligations.RepliesAndPeers →
    Runs (.txnFreeze 0) (tTxn (tFrz 0 noTick noTick 5) { op := 0x41, pay := .tick 1005 }) := fun h =>
  runs (h.2.2.2.1 _ 0 _ _ 1005 (tSome (by decide +kernel)) (by decide +kernel) (by decide +kernel) (by decide +kernel))
theorem test_applies_txnFreeze_late : Obligations.RepliesAndPeers →
    Runs (.txnFreeze 0) (tTxn (tFrz 0 noTick noTick 5) { op := 0x41, pay := .tick 1004 }) := fun h =>
  runs (h.2.2.2.2.1 _ 0 _ _ 1004 (tSome (by decide +kernel)) (by decide +kernel) (by decide +kernel) (by decide +kernel))
theorem test_applies_txnResume : Obligations.RepliesAndPeers →
    Runs (.txnResume 0) (tTxn (tFrz 3 5 noTick 205) { op := 0x42, pay := .tick 2205 }) := fun h =>
  runs (h.2.2.2.2.2 _ 0 _ _ 2205 (tSome (by decide +kernel)) (by decide +kernel) (by decide +kernel))

/-! Collectives, keys and the key engine. -/

/-- Tent 0 with these bytes of its device range. -/
def tMem (b : SMap Byte) (s : State := {}) : State := (tTent s).modMem fun m => { m with hbm := { bytes := b } }
/-- A host region of 1 GiB from address 0, with these bytes. -/
def tHostMem (b : SMap Byte) (s : State := {}) : State := (tHost s).modMem fun m => { m with host := { bytes := b } }

/-- Bay 0 of this device is the one member. -/
theorem test_applies_collGroupRegister : Obligations.Collectives →
    Runs (.collGroupRegister 255 1) (tHostMem [] ((tReg []).setFld (rTentBays 0 0) (0, 64) 1)) := fun h =>
  runs (h.1 _ 255 1 (by decide) (by decide) (by decide +kernel) (by decide +kernel) (by decide +kernel))
theorem test_applies_collGroupRegister_off : Obligations.Collectives → Runs (.collGroupRegister 255 0) {} := fun h =>
  runs (h.2.1 _ 255 0 (by decide) (by decide))
/-- A queue of one descriptor, READY, of tent 0. -/
def tCollq : State := ((tMem [(112, 1)]).setFlag (rFabTentCollq 0) fFabTentCollqValid true).modFab
  fun f => { f with groups := [(0, some { tent := 0, members := [(0, 0)] })] }
theorem test_applies_collDescriptorTake : Obligations.Collectives → Runs (.collDescriptorTake 0) tCollq := fun h =>
  runs₃ (h.2.2.1 tCollq 0 _ _ _ _ _ _ _ (by decide) (by decide +kernel) (by decide +kernel)
    (show EM.read 0 (tCollq.fld (rFabTentCollq 0) fFabTentCollqAddr * 64) 64 tCollq = .ok (_, _) from tOk (by decide +kernel))
    (tOk (by decide +kernel)) (by decide +kernel) (by decide +kernel) (tOk (by decide +kernel)) (tOk (by decide +kernel))
    (tSome (by decide +kernel)) (by decide +kernel) (by decide +kernel) (by decide +kernel))
/-- An instance of operation `op` of group 0. -/
def tInst (op : Nat) (me : List (Nat × Nat)) (x : CollInst) : State := ((tMem []).setFld (rTentBays 0 0) (0, 64) 1).modFab
  fun f => { f with groups := [(0, some { tent := 0, members := me })], insts := [{ x with shape := [op, 0, 0, 1, 0] }] }
def tAlone : CollInst := { joined := [{ value := List.replicate 2112 1 }] }
theorem test_applies_collAllReduce : Obligations.Collectives → Runs (.collAllReduce 0 0) (tInst 1 [(0, 0)] tAlone) := fun h =>
  runs₂ (h.2.2.2.1 (tInst 1 [(0, 0)] tAlone) 0 0 _ _ _ _ (1, .collAllReduce) (by simp) (tSome (by decide +kernel))
    (tSome (by decide +kernel)) (by decide +kernel) (by decide +kernel) (by decide +kernel) (show _ = [_] from rfl) rfl rfl
    (by decide +kernel) (tSome (by decide +kernel)) (.inr (by decide +kernel)) (by decide +kernel) (by decide +kernel))
theorem test_applies_collReduceScatter : Obligations.Collectives → Runs (.collReduceScatter 0 0) (tInst 2 [(0, 0)] tAlone) :=
  fun h => runs₂ (h.2.2.2.1 (tInst 2 [(0, 0)] tAlone) 0 0 _ _ _ _ (2, .collReduceScatter) (by simp) (tSome (by decide +kernel))
    (tSome (by decide +kernel)) (by decide +kernel) (by decide +kernel) (by decide +kernel) (show _ = [_] from rfl) rfl rfl
    (by decide +kernel) (tSome (by decide +kernel)) (.inr (by decide +kernel)) (by decide +kernel) (by decide +kernel))
theorem test_applies_collBroadcast : Obligations.Collectives → Runs (.collBroadcast 0 0) (tInst 3 [(0, 0)] tAlone) := fun h =>
  runs₂ (h.2.2.2.1 (tInst 3 [(0, 0)] tAlone) 0 0 _ _ _ _ (3, .collBroadcast) (by simp) (tSome (by decide +kernel))
    (tSome (by decide +kernel)) (by decide +kernel) (by decide +kernel) (by decide +kernel) (show _ = [_] from rfl) rfl rfl
    (by decide +kernel) (tSome (by decide +kernel)) (.inr (by decide +kernel)) (by decide +kernel) (by decide +kernel))
theorem test_applies_collHistSum : Obligations.Collectives → Runs (.collHistSum 0 0) (tInst 4 [(0, 0)] tAlone) := fun h =>
  runs₂ (h.2.2.2.1 (tInst 4 [(0, 0)] tAlone) 0 0 _ _ _ _ (4, .collHistSum) (by simp) (tSome (by decide +kernel))
    (tSome (by decide +kernel)) (by decide +kernel) (by decide +kernel) (by decide +kernel) (show _ = [_] from rfl) rfl rfl
    (by decide +kernel) (tSome (by decide +kernel)) (.inr (by decide +kernel)) (by decide +kernel) (by decide +kernel))
theorem test_applies_collSelectMerge : Obligations.Collectives →
    Runs (.collSelectMerge 0 0) (tInst 5 [(0, 0)] { tAlone with told := true }) := fun h =>
  runs₂ (h.2.2.2.1 (tInst 5 [(0, 0)] { tAlone with told := true }) 0 0 _ _ _ _ (5, .collSelectMerge) (by simp)
    (tSome (by decide +kernel)) (tSome (by decide +kernel)) (by decide +kernel) (by decide +kernel) (by decide +kernel)
    (show _ = [_] from rfl) rfl rfl (by decide +kernel) (tSome (by decide +kernel)) (.inl (by decide +kernel))
    (by decide +kernel) (by decide +kernel))
/-- Member 1 of two, whose result has come from device 5. -/
theorem test_applies_collAllReduce_result : Obligations.Collectives → Runs (.collAllReduce 0 0) (tInst 1 [(5, 0), (0, 0)]
    { joined := [{ member := 1, sent := true }], results := [(1, [1, 2, 3, 4])] }) := fun h =>
  runs (h.2.2.2.2.1 (tInst 1 [(5, 0), (0, 0)] { joined := [{ member := 1, sent := true }], results := [(1, [1, 2, 3, 4])] })
    0 0 _ _ _ _ (1, .collAllReduce) (by simp) (tSome (by decide +kernel)) (tSome (by decide +kernel)) (by decide +kernel)
    (by decide +kernel) (by decide +kernel) (show _ = [_] from rfl) (by decide +kernel) (by decide +kernel) (by decide +kernel)
    (by decide +kernel) (show _ = some (1, [1, 2, 3, 4]) from rfl) (by decide +kernel))
theorem test_applies_collTimeout : Obligations.Collectives → Runs (.collTimeout 0 0)
    { (tInst 1 [(5, 0), (0, 0)] { joined := [{ member := 1 }] }) with ao := { tick := 10 ^ 12 } } := fun h =>
  runs (h.2.2.2.2.2.1 _ 0 0 _ _ (tSome (by decide +kernel)) (tSome (by decide +kernel)) (by decide +kernel) (by decide +kernel)
    (by decide +kernel) (by decide +kernel) (by decide +kernel) (by decide +kernel))
theorem test_applies_txnCollective : Obligations.Collectives →
    Runs (.txnCollective 0) (tTxn {} { op := 0x20, pay := .coll 7 3 1 true [1] [] 0 }) := fun h =>
  runs₂ (h.2.2.2.2.2.2 _ 0 _ _ 7 3 1 true [1] [] 0 (tSome (by decide +kernel)) (by decide +kernel) (by decide +kernel))

theorem test_applies_kemGenerate : Obligations.KeysAndSessions →
    Runs (.kemGenerate 0) ((tHostMem []).setFlag rSecState fSecStateEntropyOk true) := fun h =>
  runs (h.1 _ 0 (by decide +kernel) (by decide +kernel) (by decide +kernel) (by decide +kernel))
theorem test_applies_keyGenerate : Obligations.KeysAndSessions →
    Runs (.keyGenerate 0) ((tHostMem []).setFlag rSecState fSecStateEntropyOk true) := fun h =>
  runs (h.2.1 _ 0 (by decide +kernel) (by decide +kernel) (by decide +kernel) (by decide +kernel) (by decide +kernel))
/-- A buffer of FORMAT 1 at offset `off`, and a KEM pair in slot 0. -/
def tKem (off : Nat) (s : State := {}) : State :=
  ((tHostMem [(off, 1)] s).setFlag rSecState fSecStateEntropyOk true).modSec fun x => { x with kem := [(0, some 7)] }
theorem test_applies_keyImport : Obligations.KeysAndSessions → Runs (.keyImport 0) (tKem 0x440) := fun h =>
  runs (h.2.2.1 _ 0 7 (by decide +kernel) (by decide +kernel) (by decide +kernel) (by decide +kernel) (by decide +kernel)
    (by decide +kernel) (by decide +kernel) (by decide +kernel) (by decide +kernel))
theorem test_applies_keyLoad : Obligations.KeysAndSessions → Runs (.keyLoad 0) (tHostMem []) := fun h =>
  runs (h.2.2.2.1 _ 0 (by decide +kernel) (by decide +kernel) (by decide +kernel) (by decide +kernel))
theorem test_applies_keyClear : Obligations.KeysAndSessions → Runs (.keyClear 0) (tTent {}) := fun h =>
  runs (h.2.2.2.2.1 _ 0 (by decide +kernel) (by decide +kernel) (by decide +kernel))
theorem test_applies_sessionOpen : Obligations.KeysAndSessions → Runs (.sessionOpen 0) (tKem 0x440 (tTent {})) := fun h =>
  runs (h.2.2.2.2.2.1 _ 0 7 (by decide +kernel) (by decide +kernel) (by decide +kernel) (by decide +kernel) (by decide +kernel)
    (by decide +kernel) (by decide +kernel) (by decide +kernel) (by decide +kernel) (by decide +kernel))
theorem test_applies_sessionLoad : Obligations.KeysAndSessions → Runs (.sessionLoad 0) (tHostMem [] (tTent {})) := fun h =>
  runs (h.2.2.2.2.2.2.1 _ 0 0 (by decide +kernel) (by decide +kernel) (by decide +kernel) (by decide) (by decide +kernel)
    (by decide +kernel))
theorem test_applies_sessionClose : Obligations.KeysAndSessions → Runs (.sessionClose 0) {} := fun h =>
  runs (h.2.2.2.2.2.2.2 {} 0 (by decide +kernel))

theorem test_applies_secAttest : Obligations.ReportsImportsConsents → Runs (.secAttest 0) (tHostMem []) := fun h =>
  runs (h.1 _ 0 (by decide +kernel) (by decide +kernel))
theorem test_applies_sealedImport : Obligations.ReportsImportsConsents →
    Runs (.sealedImport 0) (tHostMem [(0, 1), (8, 64)] (tTent {})) := fun h =>
  runs (h.2.1 _ 0 (by decide +kernel) (by decide +kernel) (by decide +kernel) (by decide +kernel) (by decide +kernel)
    (by decide +kernel) (by decide +kernel) (by decide +kernel) (by decide +kernel) (by decide +kernel) (by decide +kernel)
    (by decide +kernel) (by decide +kernel) (by decide +kernel) (by decide +kernel))
theorem test_applies_consent : Obligations.ReportsImportsConsents → Runs (.consent 0) (tHostMem []) := fun h =>
  runs (h.2.2.1 _ 0 (by decide +kernel) (by decide +kernel))
theorem test_applies_consentRevoke : Obligations.ReportsImportsConsents → Runs (.consentRevoke 0) {} := fun h =>
  runs (h.2.2.2.1 {} 0 (by decide +kernel))
theorem test_applies_getCert : Obligations.ReportsImportsConsents → Runs .getCert {} := fun h =>
  runs (h.2.2.2.2.2.1 {} (by decide +kernel))
theorem test_applies_secGetLog : Obligations.ReportsImportsConsents → Runs (.secGetLog 0) (tHostMem []) := fun h =>
  runs (h.2.2.2.2.2.2.1 _ 0 (by decide +kernel) (by decide +kernel))
theorem test_applies_sealedImport_busy : Obligations.ReportsImportsConsents →
    Runs (.sealedImport 0) ((tReg []).setFlag rSecCmdStatus fSecCmdStatusBusy true) := fun h =>
  runsEq ((h.2.2.2.2.2.2.2.1 _ 0 (by decide +kernel)).2 rfl)

/-! RAS, observability and firmware. -/

/-- Records that have reached the RAS unit, and a log ring of two entries at address 0. -/
def tRas (r : RasSt) : State :=
  let s := ((tHostMem []).setFlag rRasLogBase fRasLogBaseValid true).setFld rRasLogBase fRasLogBaseLog2 1
  { s with dev := { s.dev with ras := r } }
theorem test_applies_errorLogWrite : Obligations.ErrorLogAndFaults → Runs .errorLogWrite (tRas { arrived := [{}] }) := fun h =>
  runs (h.1 _ {} [] rfl rfl rfl)
theorem test_applies_logRingSpaceReturn : Obligations.ErrorLogAndFaults →
    Runs .logRingSpaceReturn (tRas { producer := 2, consumer := 0 }) := fun h =>
  runs (h.2.1 _ _ (by decide +kernel) rfl rfl (tPair (by decide +kernel)))
theorem test_applies_errorLogRegister : Obligations.ErrorLogAndFaults → Runs (.errorLogRegister 1) (tHostMem []) := fun h =>
  runs (h.2.2.2.1 _ 1 (by decide) (by decide +kernel) (by decide +kernel))
theorem test_applies_injectArm : Obligations.ErrorLogAndFaults → Runs (.injectArm 1) {} := fun h =>
  runs (h.2.2.2.2.1 {} 1 (by decide))
theorem test_applies_sramRemap : Obligations.ErrorLogAndFaults → Runs (.sramRemap 0 3 9) {} := fun h =>
  runs (h.2.2.2.2.2.1 {} 0 3 9 (by decide +kernel) (by decide) (by decide) (by decide))
theorem test_applies_bayRetire : Obligations.ErrorLogAndFaults → Runs (.bayRetire 255) {} := fun h =>
  runs (h.2.2.2.2.2.2.1 {} 255 (by decide) (by decide +kernel) (by decide +kernel))
theorem test_applies_patrolScrub : Obligations.ErrorLogAndFaults →
    Runs (.patrolScrub [] 0) ((tReg []).setFlag rRasScrubCfg fRasScrubCfgEnable true) := fun h =>
  runs (h.2.2.2.2.2.2.2.1 _ [] 0 (by decide +kernel) (by decide) (by decide +kernel))

theorem test_applies_ctrSnapshotWrite : Obligations.CountersTraceLogs →
    Runs .ctrSnapshotWrite ((tReg [(rObsCtrSnapshotAt, 5)] 205).setFlag rObsCtrSnapshotDone fObsCtrSnapshotDonePending true) := fun h =>
  runs (h.2.1 _ (by decide +kernel) (by decide +kernel))
theorem test_applies_evcValueWrite : Obligations.CountersTraceLogs → Runs (.evcValueWrite 0x2FF188 9 2) {} := fun h =>
  runs (h.2.2.1 {} 0x2FF188 9 2 _ _ (show evcOf 0x2FF188 = some (_, _) from tSome (by decide +kernel)))
/-- An event waits for a trace area of 1 MiB. -/
def tTrace : State := let s := (tReg []).setFld rObsTraceSize fObsTraceSizeCurrentMib 1
  { s with dev := { s.dev with obs := { events := [{}] } } }
theorem test_applies_traceEventWrite_lost : Obligations.CountersTraceLogs → Runs (.traceEventWrite true) tTrace := fun h =>
  runs (h.2.2.2.2.1 tTrace {} [] rfl).1
theorem test_applies_traceEventWrite : Obligations.CountersTraceLogs → Runs (.traceEventWrite false) tTrace := fun h =>
  runs ((h.2.2.2.2.1 tTrace {} [] rfl).2 rfl (by decide +kernel))
theorem test_applies_traceConsumerWrite : Obligations.CountersTraceLogs →
    Runs (.traceConsumerWrite 4) (tReg [(rObsTraceProducer, 4), (rObsTraceConsumer, 3)]) := fun h =>
  runs (h.2.2.2.2.2.1 _ 4 (by decide +kernel) (by decide +kernel) (by decide +kernel))
theorem test_applies_triggerArm : Obligations.CountersTraceLogs →
    Runs (.triggerArm 1) { dev := { obs := { reserveMib := 1 } } } := fun h =>
  runs (h.2.2.2.2.2.2.1 _ 1 (by decide))
/-- The trigger armed, or fired, with a source. -/
def tTrig (st src : Nat) (o : ObsSt) : State :=
  let s := ((tReg [] 205).setFld rObsTrigger fObsTriggerState st).setFld rObsTrigger fObsTriggerSource src
  { s with dev := { s.dev with obs := o } }
theorem test_applies_triggerFireHost : Obligations.CountersTraceLogs → Runs .triggerFireHost (tTrig 1 1 {}) := fun h =>
  runs₂ (h.2.2.2.2.2.2.2.1 _ (by decide +kernel) (by decide +kernel) (by decide +kernel))
theorem test_applies_triggerFire : Obligations.CountersTraceLogs → Runs .triggerFire (tTrig 1 1 { source := some { tick := 5 } }) :=
  fun h => runs (h.2.2.2.2.2.2.2.2.1 _ { tick := 5 } (by decide +kernel) (by decide +kernel) (by decide +kernel))
theorem test_applies_reserveClose : Obligations.CountersTraceLogs →
    Runs .reserveClose (tTrig 2 1 { fired := some { tick := 5 } }) := fun h =>
  runs (h.2.2.2.2.2.2.2.2.2.1 _ (by decide +kernel) (by decide +kernel))
theorem test_applies_fwlogRegister : Obligations.CountersTraceLogs → Runs (.fwlogRegister 1) (tHostMem []) := fun h =>
  runs (h.2.2.2.2.2.2.2.2.2.2.1 _ 1 (by decide) (by decide +kernel) (by decide +kernel))
theorem test_applies_fwlogWrite_held : Obligations.CountersTraceLogs → Runs (.fwlogWrite 7 0x7FFF 0 0 []) {} := fun h =>
  runs₂ ((h.2.2.2.2.2.2.2.2.2.2.2 {} 7 0x7FFF 0 0 [] (by decide) (by decide) (by decide) (by decide) (by decide +kernel)
    (by decide +kernel) rfl rfl).1 (by decide +kernel))
theorem test_applies_fwlogWrite : Obligations.CountersTraceLogs →
    Runs (.fwlogWrite 7 0x7FFF 0 0 []) ((tHostMem []).setFlag rObsFwlogBase fObsFwlogBaseValid true) := fun h =>
  runs ((h.2.2.2.2.2.2.2.2.2.2.2 _ 7 0x7FFF 0 0 [] (by decide) (by decide) (by decide) (by decide) (by decide +kernel)
    (by decide +kernel) (by decide +kernel) (by decide +kernel)).2 _ (by decide +kernel) (tPair (by decide +kernel))
    (by decide +kernel))

theorem test_applies_fwLoad : Obligations.FirmwareCommands → Runs (.fwLoad 1) (tHostMem [(8, 16)]) := fun h =>
  runs (h.1 _ 1 (by decide) (.inl (by decide +kernel)) (by decide +kernel) (by decide +kernel) (by decide +kernel))
theorem test_applies_fwVerify : Obligations.FirmwareCommands →
    Runs .fwVerify ((tReg []).setFld rFwStatus fFwStatusState 2) := fun h =>
  runs (h.2.1 _ _ _ (by decide +kernel) rfl)
/-- Firmware runs and stands before an entry of these bytes, on a queue of two; tent 0 has bay 0. -/
def tFw (b : SMap Byte) (bay : Bay := { tent := some 0 }) : State :=
  let s := ((tHostMem b (tMem [(64, 16), (66, 8)])).setFld rFwStatus fFwStatusState 3).setFld rFwStatus fFwStatusRangersUp 0xFF
  let s := (s.setFlag rFwCmdqBase fFwCmdqBaseValid true).setFld rFwCmdqBase fFwCmdqBaseLog2 1
  let s := ((s.setFld rFwCmdqTail fFwCmdqTailTail 1).setFld (rTentBays 0 0) (0, 64) 1).setFlag (rSecKeyslot 0) fSecKeyslotSealed false
  { s with dev := { s.dev with bays := [(0, bay)] } }
theorem tTakes {s : State} {op : Nat} (a : s.fwRuns = true) (b : s.blocked (islRanger (s.rangerOf 0)) = false)
    (c : (s.dev.fw.progress.filter fun c => !s.cmdAlive c) = []) (h : s.fwEntry.isSome = true) (k : 1 ≤ op ∧ op ≤ 7)
    (o : cmdOp (s.fwEntry.get h) = op) : Takes s op (s.fwEntry.get h) := ⟨a, b, c, tSome h, k, o⟩
theorem test_applies_fwCmdqDoorbell : Obligations.FirmwareCommands → Runs (.fwCmdqDoorbell 1) (tFw []) := fun h =>
  runsEq (h.2.2.1 _ 1 (by decide +kernel))
/-- An event queue of two. -/
def tEvt (w : List FwEvent) : State :=
  let s := ((tHostMem []).setFlag rFwEvtqBase fFwCmdqBaseValid true).setFld rFwEvtqBase fFwCmdqBaseLog2 1
  { s with dev := { s.dev with fw := { waiting := w } } }
theorem test_applies_fwEvtqDoorbell : Obligations.FirmwareCommands → Runs (.fwEvtqDoorbell 1) (tEvt []) := fun h =>
  runsEq ((h.2.2.2.1 (tEvt []) 1 (by decide +kernel)).1 rfl)
theorem test_applies_fwEvtqDoorbell_room : Obligations.FirmwareCommands → Runs (.fwEvtqDoorbell 0) (tEvt [{}]) := fun h =>
  runs ((h.2.2.2.1 (tEvt [{}]) 0 (by decide +kernel)).2 {} rfl (by decide +kernel))
theorem test_applies_fwPing : Obligations.FirmwareCommands → Runs .fwPing (tFw [(0, 1)]) := fun h =>
  runs (h.2.2.2.2.1 _ _ (tTakes (by decide +kernel) (by decide +kernel) (by decide +kernel) (by decide +kernel) (by decide)
    (by decide +kernel)))
theorem test_applies_fwGetInfo : Obligations.FirmwareCommands → Runs .fwGetInfo (tFw [(0, 2), (0x18, 8)]) := fun h =>
  runs (h.2.2.2.2.2.1 _ _ (tTakes (by decide +kernel) (by decide +kernel) (by decide +kernel) (by decide +kernel) (by decide)
    (by decide +kernel)) (by decide +kernel))
theorem test_applies_fwGetRemap : Obligations.FirmwareCommands → Runs .fwGetRemap (tFw [(0, 7), (0x18, 8)]) := fun h =>
  runs (h.2.2.2.2.2.2.1 _ _ (tTakes (by decide +kernel) (by decide +kernel) (by decide +kernel) (by decide +kernel) (by decide)
    (by decide +kernel)) (by decide +kernel))
theorem test_applies_fwLaunch : Obligations.FirmwareCommands → Runs .fwLaunch (tFw [(0, 3), (0x18, 64)]) := fun h =>
  runs₂ (h.2.2.2.2.2.2.2.1 (tFw [(0, 3), (0x18, 64)]) _ _ _ _ (tTakes (by decide +kernel) (by decide +kernel) (by decide +kernel)
    (by decide +kernel) (by decide) (by decide +kernel)) (by decide +kernel) (by decide +kernel) (by decide +kernel)
    (by decide +kernel) (by decide +kernel)
    (tThree (by decide +kernel))
    (by decide +kernel) (tSome (by decide +kernel)))
theorem test_applies_fwRetireBay : Obligations.FirmwareCommands → Runs .fwRetireBay (tFw [(0, 4)]) := fun h =>
  runs (h.2.2.2.2.2.2.2.2.1 _ _ (tTakes (by decide +kernel) (by decide +kernel) (by decide +kernel) (by decide +kernel)
    (by decide) (by decide +kernel)) (by decide +kernel) (by decide +kernel))
/-- A crew held at a breakpoint in slot 255. -/
def tHeld (b : SMap Byte) : State := tFw b { tent := some 0, crews := [(255, some { trapped := true, held := some 255 })] }
theorem test_applies_crewResume : Obligations.FirmwareCommands → Runs .crewResume (tHeld [(0, 5), (0x18, 255)]) := fun h =>
  runs (h.2.2.2.2.2.2.2.2.2.1 (tHeld [(0, 5), (0x18, 255)]) _ _ (tTakes (by decide +kernel) (by decide +kernel) (by decide +kernel)
    (by decide +kernel) (by decide) (by decide +kernel)) (by decide +kernel) (by decide +kernel)
    (show _ = some (0, { trapped := true, held := some 255 }) by decide +kernel))
theorem test_applies_crewDiscard : Obligations.FirmwareCommands → Runs .crewDiscard (tHeld [(0, 6), (0x18, 255)]) := fun h =>
  runs (h.2.2.2.2.2.2.2.2.2.2.1 (tHeld [(0, 6), (0x18, 255)]) _ 0 { trapped := true, held := some 255 } (tTakes (by decide +kernel)
    (by decide +kernel) (by decide +kernel) (by decide +kernel) (by decide) (by decide +kernel)) (by decide +kernel)
    (by decide +kernel))
theorem test_applies_trapRecordHandle : Obligations.FirmwareCommands →
    Runs (.trapRecordHandle 0 false) (let s := tHeld []; { s with dev := { s.dev with traps :=
      [(0, [{ cause := trapSoftware, slot := 255, detail := 0x8000 }])] } }) := fun h =>
  runs (h.2.2.2.2.2.2.2.2.2.2.2 _ 0 false _ _ (by decide) (by decide +kernel) (by decide +kernel) (by decide +kernel)
    (show _ = _ :: [] by rfl))

/-! Lookout. -/

theorem test_applies_basecampReset : Obligations.LookoutAndMailbox →
    Runs (.basecampReset true) { ao := { startStep := 12 }, dev := { look := { restart := true } } } := fun h =>
  runs (h.1 _ true rfl (by decide +kernel) rfl)
theorem test_applies_basecampHaltTimeout : Obligations.LookoutAndMailbox →
    Runs .basecampHaltTimeout { ao := { startStep := 12 }, dev := { look := { basecamp := true } } } := fun h =>
  runs (h.2.1 _ rfl (by decide) rfl)
/-- Lookout serves, at a tick. -/
def tLook (x : LookSt) (m : MgmtFlash := {}) (tick : Nat := 0) : State :=
  { ao := { startStep := 12, tick := tick }, dev := { look := x }, nv := { mgmt := m } }
theorem test_applies_sensorPoll : Obligations.LookoutAndMailbox → Runs (.sensorPoll 5 [-3] [] []) (tLook {}) := fun h =>
  runs (h.2.2.1 _ 5 [-3] [] [] (by decide +kernel))
theorem test_applies_thermalCapUpdate : Obligations.LookoutAndMailbox → Runs .thermalCapUpdate (tLook {} {} 100000000) := fun h =>
  runs (h.2.2.2.1 _ (by decide +kernel) (by decide))
theorem test_applies_lkSensors : Obligations.LookoutAndMailbox → Runs .lkSensors {} := fun h =>
  runs (h.2.2.2.2.1 {} 0 (by decide +kernel) (.lkSensors, _) (.head _))
theorem test_applies_lkEnroll : Obligations.LookoutAndMailbox → Runs .lkEnroll {} := fun h =>
  runs (h.2.2.2.2.2.1 {} (by decide +kernel))
theorem test_applies_mgmtHello : Obligations.LookoutAndMailbox →
    Runs (.mgmtHello 3 (1 :: List.replicate 1345 0)) (tLook {}) := fun h =>
  runs₂ (h.2.2.2.2.2.2.1 _ 3 _ (by decide +kernel) (by decide +kernel) (by decide +kernel) (by decide +kernel) (by decide +kernel))
theorem test_applies_mgmtFinish : Obligations.LookoutAndMailbox →
    Runs (.mgmtFinish 3 (List.replicate 1088 0) []) (tLook { sessions := [(3, some {})] } { trust := [Config.sha3 []] }) := fun h =>
  runs (h.2.2.2.2.2.2.2.1 _ 3 _ [] {} (by decide +kernel) rfl rfl (List.mem_singleton.mpr rfl) (by decide +kernel))
theorem test_applies_mgmtConnectionClose : Obligations.LookoutAndMailbox →
    Runs (.mgmtConnectionClose 3) (tLook { sessions := [(3, some {})] }) := fun h =>
  runs (h.2.2.2.2.2.2.2.2 _ 3 {} rfl)

/-- What a client encrypts Lookout decrypts. -/
theorem gcmCrypt_gcmCrypt (k : W256) (n : Nat) (b : List Byte) : gcmCrypt k n (gcmCrypt k n b) = b := by
  apply List.ext_getElem <;> simp [gcmCrypt]
  intro m h
  simp [h, BitVec.xor_assoc]
/-- An open session on connection 3, and a request on it. -/
def tOpen (m : MgmtFlash := {}) (u : Option Update := none) (step : Nat := 12) : State :=
  { tLook { sessions := [(3, some { on := true })], update := u } m with ao := { startStep := step } }
def tCipher (b : List Byte) : List Byte := gcmCrypt 0 0 b
def tTag (type : Nat) (b : List Byte) : Nat :=
  (Config.gcmTag 0 0 (mgmtHeader (tCipher b).length type 0) (tCipher b)).toNat
theorem tAsks {s : State} (type : Nat) (b : List Byte) (u : s.lookoutUp = true)
    (h : s.mgmtSession 3 = some { on := true }) (n : b.length ≤ 2 ^ 20) :
    Asks s 3 type 0 (tCipher b) (tTag type b) { on := true } b :=
  ⟨u, h, rfl, rfl, by simp [gcmOpen, tTag, tCipher, gcmCrypt_gcmCrypt], n⟩
/-- The same on the state of the tests. -/
theorem tAsk' (type : Nat) (b : List Byte) (m : MgmtFlash) (u : Option Update) (n : b.length ≤ 2 ^ 20) :
    Asks (tOpen m u) 3 type 0 (tCipher b) (tTag type b) { on := true } b := tAsks type b rfl rfl n

theorem test_applies_mgmtInfo : Obligations.ManagementRequests → Runs (.mgmtInfo 3 1 0 (tCipher []) (tTag 1 [])) (tOpen {}) :=
  fun h => runs (h.1 _ 3 0 _ _ _ [] (tAsk' 1 [] {} none (by decide)))
theorem test_applies_mgmtInfo_badType : Obligations.ManagementRequests →
    Runs (.mgmtInfo 3 0x0D 0 (tCipher []) (tTag 0x0D [])) (tOpen {}) := fun h =>
  runs (h.2.1 _ 3 0x0D 0 _ _ _ [] (tAsk' 0x0D [] {} none (by decide)) (by decide))
theorem test_applies_mgmtSensors : Obligations.ManagementRequests →
    Runs (.mgmtSensors 3 0 (tCipher []) (tTag 2 [])) (tOpen {}) := fun h =>
  runs (h.2.2.1 _ 3 0 _ _ _ [] (tAsk' 2 [] {} none (by decide)))
def tGetLog : List Byte := leBytes 8 0 ++ leBytes 4 16384
theorem test_applies_mgmtGetLog : Obligations.ManagementRequests →
    Runs (.mgmtGetLog 3 0 (tCipher tGetLog) (tTag 3 tGetLog)) (tOpen {}) := fun h =>
  runs (h.2.2.2.1 _ 3 0 _ _ _ _ (tAsk' 3 _ {} none (by decide)) (by decide) (by decide) (by decide))
def tNonce : List Byte := List.replicate 64 1
theorem test_applies_mgmtAttest : Obligations.ManagementRequests →
    Runs (.mgmtAttest 3 0 (tCipher tNonce) (tTag 0x0C tNonce)) (tOpen {}) := fun h =>
  runs (h.2.2.2.2.1 _ 3 0 _ _ _ _ (tAsk' 0x0C _ {} none (by decide)) (by decide))
theorem test_applies_setPowerCap : Obligations.ManagementRequests →
    Runs (.setPowerCap 3 0 (tCipher (leBytes 4 330)) (tTag 4 (leBytes 4 330))) (tOpen {}) := fun h =>
  runs (h.2.2.2.2.2.1 _ 3 0 _ _ _ _ (tAsk' 4 _ {} none (by decide)) (by decide) (by decide) (by decide))
theorem test_applies_setConfig : Obligations.ManagementRequests →
    Runs (.setConfig 3 0 (tCipher [64, 100, 5, 0]) (tTag 5 [64, 100, 5, 0])) (tOpen {}) := fun h =>
  runs (h.2.2.2.2.2.2.1 _ 3 0 _ _ _ _ (tAsk' 5 _ {} none (by decide)) (by decide) (by decide) (by decide) (by decide) (by decide)
    (by decide))
theorem test_applies_mgmtResetWarm : Obligations.ManagementRequests →
    Runs (.mgmtResetWarm 3 0 (tCipher (leBytes 1 0)) (tTag 6 (leBytes 1 0))) (tOpen {}) := fun h =>
  runs₂ (h.2.2.2.2.2.2.2.1 _ 3 0 _ _ _ (tAsk' 6 _ {} none (by decide)) (by decide) (by decide +kernel) (by decide))
theorem test_applies_mgmtResetCold : Obligations.ManagementRequests →
    Runs (.mgmtResetCold 3 0 (tCipher (leBytes 1 1)) (tTag 6 (leBytes 1 1))) (tOpen {}) := fun h =>
  runs (h.2.2.2.2.2.2.2.2.1 _ 3 0 _ _ _ (tAsk' 6 _ {} none (by decide)) (by decide +kernel))
theorem test_applies_mgmtResetBasecamp : Obligations.ManagementRequests →
    Runs (.mgmtResetBasecamp 3 0 (tCipher (leBytes 1 2)) (tTag 6 (leBytes 1 2))) (tOpen {}) := fun h =>
  runs (h.2.2.2.2.2.2.2.2.2.1 _ 3 0 _ _ _ (tAsk' 6 _ {} none (by decide)) (by decide) rfl)
def tBegin : List Byte := leBytes 1 3 ++ leBytes 8 (2 ^ 26)
theorem test_applies_updateBegin : Obligations.ManagementRequests →
    Runs (.updateBegin 3 0 (tCipher tBegin) (tTag 7 tBegin)) (tOpen {}) := fun h =>
  runs (h.2.2.2.2.2.2.2.2.2.2.1 _ 3 0 _ _ _ _ (tAsk' 7 _ {} none (by decide)) (by decide) (by decide) (by decide) (by decide) rfl)
/-- An update of two bytes, one of them sent. -/
def tUpd : Update := { component := 3, bytes := 2, data := [9] }
def tData : List Byte := leBytes 8 1 ++ [8]
theorem test_applies_updateData : Obligations.ManagementRequests →
    Runs (.updateData 3 0 (tCipher tData) (tTag 8 tData)) (tOpen {} (some tUpd)) := fun h =>
  runs (h.2.2.2.2.2.2.2.2.2.2.2.1 _ 3 0 _ _ _ _ tUpd (tAsk' 8 _ {} (some tUpd) (by decide)) rfl (by decide) (by decide) (by decide))
theorem test_applies_updateCommit : Obligations.ManagementRequests →
    Runs (.updateCommit 3 0 (tCipher []) (tTag 9 [])) (tOpen {} (some tUpd)) := fun h =>
  runs (h.2.2.2.2.2.2.2.2.2.2.2.2.1 _ 3 0 _ _ _ tUpd (tAsk' 9 _ {} (some tUpd) (by decide)) rfl (by decide +kernel))
def tNewKey : List Byte := List.replicate 1312 1
theorem test_applies_trustAdd : Obligations.ManagementRequests →
    Runs (.trustAdd 3 0 (tCipher tNewKey) (tTag 0x0A tNewKey)) (tOpen {}) := fun h =>
  runs (h.2.2.2.2.2.2.2.2.2.2.2.2.2.1 _ 3 0 _ _ _ _ (tAsk' 0x0A _ {} none (by decide +kernel)) (by decide +kernel) nofun (by decide))
def tOldKey : List Byte := List.replicate 32 0
theorem test_applies_trustRemove : Obligations.ManagementRequests →
    Runs (.trustRemove 3 0 (tCipher tOldKey) (tTag 0x0B tOldKey)) (tOpen { trust := [0, 1] }) := fun h =>
  runs (h.2.2.2.2.2.2.2.2.2.2.2.2.2.2 _ 3 0 _ _ _ _ (tAsk' 0x0B _ { trust := [0, 1] } none (by decide)) (by decide)
    (by decide +kernel) (by decide))

/-! Lantern and the tables. -/

/-- Tent 0's memory, a request of it, and a tick late enough. -/
def tReq (b : SMap Byte) (r : Request) (tick : Nat := 10 ^ 10) : State :=
  { (tMem b).setReq r.seq (some r) with ao := { tick := tick } }
/-- A descriptor or a block of memory: its bytes that are not 0. -/
def tBytes (n : Nat) (l : SMap Byte) : List Byte := (List.range n).map fun k => SMap.get (fun _ => 0) l k

/-- A descriptor of one shard of one node. -/
def tIxMem : State := tMem [(0, 1), (3, 7), (4, 1), (6, 1), (7, 1), (8, 1), (14, 48), (16, 16), (72, 1), (124, 10), (126, 1)]
theorem test_applies_indexRegister : Obligations.SearchesRun → Runs (.indexRegister 63 1) tIxMem := fun h =>
  runs (h.1 tIxMem 63 1 _ _ (by decide) (by decide +kernel) (tOkSome (by decide +kernel)))
theorem test_applies_indexRetire : Obligations.SearchesRun → Runs (.indexRetire 63) {} := fun h => runs (h.2.1 {} 63 (by decide))
/-- A shard of two nodes, an index of it with no codes but zeros, and a request for it. -/
def tShard : Shard :=
  { nodes := 2, directory := 0x2000, granules := 0x4000, versionArea := 0x8000, versionGranules := 4, dirLog2 := 10
    entries := [0], nodeTable0 := 0x1000 }
def tIx : Index := { dim := 1, fmt0 := 2, maxDegree := 48, insertL := 16, shards := [tShard] }
def tFindDesc : List Byte := tBytes 256 [(0, 2), (0x41, 0xFF), (0x46, 0xFF), (0x47, 0xFF), (0xE1, 1), (0xE9, 0x30)]
def tFind : Request := { seq := 1, kind := 2, legs := [3, 4], index := some tIx, desc := tFindDesc }
/-- Bay 0, to which callbacks go, belongs to the tent. -/
def tSrch (b : SMap Byte) (r : Request) (qs : List Query := []) : State :=
  ((tReq b r).setFld (rTentBays 0 0) (0, 64) 1).modLantern fun l => { l with queries := qs }
theorem test_applies_searchStart : Obligations.SearchesRun → Runs (.searchStart 1) (tSrch [] tFind) := fun h =>
  runs ((h.2.2.1 (tSrch [] tFind) 1 tFind tIx rfl (by decide +kernel) rfl (by decide +kernel) (by decide +kernel)
    (by decide +kernel) (by decide +kernel) (fun _ => by decide +kernel) (by decide +kernel)).1 _ _ _ _ _
    (tOkAt (by decide +kernel) (by decide +kernel)) (tOkSome (by decide +kernel)) (tOk (by decide +kernel)))
theorem test_applies_searchStart_gate : Obligations.SearchesRun → Runs (.searchStart 1) (tSrch [(0x2000, 1)] tFind) := fun h =>
  runs ((h.2.2.1 (tSrch [(0x2000, 1)] tFind) 1 tFind tIx rfl (by decide +kernel) rfl (by decide +kernel)
    (by decide +kernel) (by decide +kernel) (by decide +kernel) (fun _ => by decide +kernel) (by decide +kernel)).2 _
    (tOkAt (by decide +kernel) (by decide +kernel)))
/-- The leg runs, with a query of one sub-query. -/
def tRunning (k : Nat) : Request := { tFind with legs := [k], started := true }
def tSub : SubQuery := { beam := [{ node := 0 }], l := 128, reading := [0] }
def tQuery : Query := { seq := 1, index := tIx, subs := [tSub] }
theorem test_applies_searchRound : Obligations.SearchesRun → Runs (.searchRound 1 0) (tSrch [] (tRunning 3) [tQuery]) := fun h =>
  runs₂ (h.2.2.2.1 (tSrch [] (tRunning 3) [tQuery]) 1 0 (tRunning 3) tQuery tSub _ _ rfl rfl rfl rfl rfl (by decide +kernel)
    (tOk (by decide +kernel)))
theorem test_applies_granuleReadComplete : Obligations.SearchesRun →
    Runs (.granuleReadComplete 1 0 0) (tSrch [(0x4000, 1)] (tRunning 3) [tQuery]) := fun h =>
  runs (h.2.2.2.2.1 (tSrch [(0x4000, 1)] (tRunning 3) [tQuery]) 1 0 0 (tRunning 3) tQuery tSub _ _ rfl rfl rfl rfl
    (by decide +kernel) (tOk (by decide +kernel)))
theorem test_applies_rescoreLeg : Obligations.SearchesRun → Runs (.rescoreLeg 1) (tSrch [] (tRunning 4) [tQuery]) := fun h =>
  runs₂ ((h.2.2.2.2.2.1 (tSrch [] (tRunning 4) [tQuery]) 1 (tRunning 4) tQuery rfl rfl rfl rfl (by decide +kernel) rfl rfl).1
    _ _ _ _ rfl (tOk (by decide +kernel)))
def tCands (todo : List (Nat × Nat)) : Query :=
  { tQuery with cands := some [(0, 0)], todo := todo, subs := [{ tSub with reading := [] }] }
theorem test_applies_rescoreLeg_batch : Obligations.SearchesRun → Runs (.rescoreLeg 1) (tSrch [] (tRunning 4) [tCands [(0, 0)]]) :=
  fun h => runs ((h.2.2.2.2.2.1 (tSrch [] (tRunning 4) [tCands [(0, 0)]]) 1 (tRunning 4) (tCands [(0, 0)]) rfl rfl rfl rfl
    (by decide +kernel) rfl rfl).2.1 _ _ rfl rfl (by decide) (tOk (by decide +kernel)))
theorem test_applies_rescoreLeg_ends : Obligations.SearchesRun → Runs (.rescoreLeg 1) (tSrch [] (tRunning 4) [tCands []]) :=
  fun h => runs₂ ((h.2.2.2.2.2.1 (tSrch [] (tRunning 4) [tCands []]) 1 (tRunning 4) (tCands []) rfl rfl rfl rfl
    (by decide +kernel) rfl rfl).2.2 rfl rfl rfl (by decide +kernel))
def tBatch : Query := { tCands [(0, 0)] with batch := some { cands := [(0, 0)] } }
theorem test_applies_callbackDone : Obligations.SearchesRun → Runs (.callbackDone 1) (tSrch [(0x108, 1)] (tRunning 4) [tBatch]) :=
  fun h => runs₂ (h.2.2.2.2.2.2.1 (tSrch [(0x108, 1)] (tRunning 4) [tBatch]) 1 (tRunning 4) tBatch _ _ _ rfl rfl rfl rfl
    (by decide +kernel) (tOk (by decide +kernel)) (by decide +kernel))
theorem test_applies_callbackTimeout : Obligations.SearchesRun → Runs (.callbackTimeout 1) (tSrch [] (tRunning 4) [tBatch]) :=
  fun h => runs₂ (h.2.2.2.2.2.2.2.1 (tSrch [] (tRunning 4) [tBatch]) 1 tBatch _ rfl rfl (by decide +kernel) (by decide +kernel))
theorem test_applies_groundTruthPass : Obligations.SearchesRun →
    Runs (.groundTruthPass 1) (tSrch [] (tRunning 4) [{ tQuery with lists := [{}] }]) := fun h =>
  runs (h.2.2.2.2.2.2.2.2 (tSrch [] (tRunning 4) [{ tQuery with lists := [{}] }]) 1 (tRunning 4) { tQuery with lists := [{}] } _ _
    rfl rfl rfl (by decide) (by decide +kernel) (tOk (by decide +kernel)))

/-- An INSERT of node 1, or a DELETE of node 0. -/
def tMut (op : Byte) (node : Byte) (vers : Nat := 4) : Request :=
  { seq := 1, kind := 7, legs := [9], desc := tBytes 256 [(0, 7), (0x40, op), (0x44, node), (0x51, 0x30)]
    index := some { tIx with shards := [{ tShard with versionGranules := vers, entries := [] }] } }
def tMutState (b : SMap Byte) (op node : Byte) (vers : Nat := 4) (m : List Mutation := []) : State :=
  (tReq b (tMut op node vers)).modLantern fun l => { l with mutations := m }
theorem test_applies_indexInsert : Obligations.IndexMutations → Runs (.indexInsert 1) (tMutState [] 1 1) := fun h =>
  runs ((h.1 (tMutState [] 1 1) 1 (tMut 1 1) _ rfl (by decide +kernel)).1 _ _ (tOkSome (by decide +kernel)))
theorem test_applies_indexInsert_stalls : Obligations.IndexMutations → Runs (.indexInsert 1) (tMutState [] 1 1 0) := fun h =>
  runs ((h.1 (tMutState [] 1 1 0) 1 (tMut 1 1 0) _ rfl (by decide +kernel)).2 _ (tOkAt (by decide +kernel) (by decide +kernel)))
theorem test_applies_indexDelete : Obligations.IndexMutations → Runs (.indexDelete 1) (tMutState [(0x4000, 1)] 2 0) := fun h =>
  runs ((h.2.1 (tMutState [(0x4000, 1)] 2 0) 1 (tMut 2 0) _ rfl (by decide +kernel)).1 _ _ (tOkSome (by decide +kernel)))
theorem test_applies_indexDelete_deleted : Obligations.IndexMutations → Runs (.indexDelete 1) (tMutState [(0x2044, 3)] 2 0) :=
  fun h => runs ((h.2.1 (tMutState [(0x2044, 3)] 2 0) 1 (tMut 2 0) _ rfl (by decide +kernel)).2 _
    (tOkAt (by decide +kernel) (by decide +kernel)))
def tMutation : Mutation := { seq := 1, index := tIx, versions := [(1, 0x8000)] }
theorem test_applies_mutationCommit : Obligations.IndexMutations → Runs (.mutationCommit 1) (tMutState [] 1 1 4 [tMutation]) :=
  fun h => runs (h.2.2.1 (tMutState [] 1 1 4 [tMutation]) 1 (tMut 1 1) tMutation _ rfl rfl rfl (by decide +kernel)
    (tOk (by decide +kernel)))
theorem test_applies_versionReclaim : Obligations.IndexMutations → Runs (.versionReclaim 0) { ao := { tick := 10 ^ 10 } } := fun h =>
  runs (h.2.2.2 _ 0 (by decide) (by decide +kernel) (by decide +kernel))

/-- A table descriptor at 0: one shard of one row. -/
def tTblMem (ver : Byte) : SMap Byte := [(0, 1), (4, 4), (8, 1), (16, ver), (20, 1), (80, 1)]
theorem test_applies_tableRegister : Obligations.TableCommands → Runs (.tableRegister 255 1) (tMem (tTblMem 0)) := fun h =>
  runs₂ (h.1 (tMem (tTblMem 0)) 255 1 _ _ (by decide) (by decide +kernel) (tOkSome (by decide +kernel)) (by decide +kernel))
theorem test_applies_tableRetire : Obligations.TableCommands → Runs (.tableRetire 255) {} := fun h => runs (h.2.1 {} 255 (by decide))
/-- A table of one row of four bytes at 0x100 in slot 0, its version as given, and commands. -/
def tVer : TblVer := { shards := [{ base := 0x100, slots := 1 }], version := 1, elem := 1 }
def tTbl (r : TblReg) (cs : List TblCmd := []) (b : SMap Byte := []) : State :=
  { ((tMem b).modTables fun x => { x with regs := [r], cmds := cs }).setFld (rTentBays 0 0) (0, 64) 1 with ao := { tick := 10 ^ 10 } }
/-- A command of one index, 0, whose data lie at 0 of bay 0. -/
def tCmdBytes (op : Byte) : List Byte := tBytes 64 [(0, op), (4, 1), (8, 0x40), (0x18, 64)]
theorem test_applies_tableCommandIssue : Obligations.TableCommands →
    Runs (.tableCommandIssue (islSequencer 3) 0 9 (tCmdBytes 1)) (tTbl { cur := tVer }) := fun h =>
  runs₂ (h.2.2.1 (tTbl { cur := tVer }) (islSequencer 3) 0 0 9 (tCmdBytes 1) _ _ _ _ _ (.inl ⟨3, by decide, rfl, rfl⟩)
    (by decide +kernel) (tSome (by decide +kernel)) (by decide +kernel) (tOk (by decide +kernel)) (tOk (by decide +kernel)))
theorem test_applies_tableCommandIssue_refused : Obligations.TableCommands →
    Runs (.tableCommandIssue (islSequencer 3) 0 9 (tCmdBytes 4)) (tTbl { cur := tVer }) := fun h =>
  runs (h.2.2.2.1 (tTbl { cur := tVer }) (islSequencer 3) 0 9 (tCmdBytes 4) 3 (by decide) rfl (by decide +kernel)
    (fun r e => by
      have : r = { cur := tVer } := by
        have k : (tTbl { cur := tVer }).tblSlot (tcTable ((tCmdBytes 4).take 64)) = some { cur := tVer } := rfl
        exact Option.some.inj (e.symm.trans k)
      subst this; decide +kernel))
/-- A part of that command on the one shard. -/
def tTblCmd (op : Byte) (parts : List TblPart := [{ left := [⟨0, 0, some 0⟩] }]) : TblCmd :=
  { bytes := tCmdBytes op, version := 1, parts := parts }
theorem test_applies_tableGather : Obligations.TableCommands → Runs (.tableGather 0 0 []) (tTbl { cur := tVer } [tTblCmd 1]) :=
  fun h => runs (h.2.2.2.2.1 (tTbl { cur := tVer } [tTblCmd 1]) 0 0 [] [] _ _ _ _ _ (1, .tableGather 0 0 [], gatherWindow) (by simp)
    (tSome (by decide +kernel)) (tSome (by decide +kernel)) (tSome (by decide +kernel)) (by decide +kernel) (by decide +kernel)
    (by decide +kernel) (tOk (by decide +kernel)))
theorem test_applies_tableScatter : Obligations.TableCommands → Runs (.tableScatter 0 0) (tTbl { cur := tVer } [tTblCmd 2]) :=
  fun h => runs (h.2.2.2.2.1 (tTbl { cur := tVer } [tTblCmd 2]) 0 0 [] [] _ _ _ _ _ (2, .tableScatter 0 0, scatterWindow) (by simp)
    (tSome (by decide +kernel)) (tSome (by decide +kernel)) (tSome (by decide +kernel)) (by decide +kernel) (by decide +kernel)
    (by decide +kernel) (tOk (by decide +kernel)))
theorem test_applies_tableScatterAdd : Obligations.TableCommands →
    Runs (.tableScatterAdd 0 0 []) (tTbl { cur := tVer } [tTblCmd 3]) := fun h =>
  runs (h.2.2.2.2.1 (tTbl { cur := tVer } [tTblCmd 3]) 0 0 [] [] _ _ _ _ _ (3, .tableScatterAdd 0 0 [], fun a c w => addWindow a c [] w)
    (by simp) (tSome (by decide +kernel)) (tSome (by decide +kernel)) (tSome (by decide +kernel)) (by decide +kernel)
    (by decide +kernel) (by decide +kernel) (tOk (by decide +kernel)))
theorem test_applies_tableCommandComplete : Obligations.TableCommands →
    Runs (.tableCommandComplete 0) (tTbl { cur := tVer } [tTblCmd 1 []]) := fun h =>
  runs (h.2.2.2.2.2.1 (tTbl { cur := tVer } [tTblCmd 1 []]) 0 _ (tSome (by decide +kernel)) (by decide +kernel) (by decide +kernel))
theorem test_applies_hotSampleInterval : Obligations.TableCommands →
    Runs (.hotSampleInterval 0 [(0, 5)]) (tTbl { cur := { tVer with mode := 1 } }) := fun h =>
  runs₂ (h.2.2.2.2.2.2.1 (tTbl { cur := { tVer with mode := 1 } }) 0 [(0, 5)] _ (tSome (by decide +kernel)) (by decide +kernel)
    (by decide +kernel) (by decide +kernel))
theorem test_applies_replicaCopyComplete : Obligations.TableCommands →
    Runs (.replicaCopyComplete 0 1) (tTbl { cur := { tVer with mode := 1, hot := [0] } }) := fun h =>
  runs (h.2.2.2.2.2.2.2.1 (tTbl { cur := { tVer with mode := 1, hot := [0] } }) 0 1 _ _ _ (tSome (by decide +kernel))
    (by decide +kernel) (by decide +kernel) (by decide +kernel) (tOk (by decide +kernel)))
/-- A table in buckets of two rows. -/
def tBuckets : TblVer :=
  { mode := 2, rows := 2, rit := 0x200, bucketLog2 := 1, shards := [{ base := 0x100, slots := 4 }] }
theorem test_applies_bucketMove : Obligations.TableCommands →
    Runs (.bucketMove 0 0 0 1 (10 ^ 10 + 10000)) (tTbl { cur := tBuckets }) := fun h =>
  runs ((h.2.2.2.2.2.2.2.2.1 (tTbl { cur := tBuckets }) 0 0 0 1 (10 ^ 10 + 10000) _ (tSome (by decide +kernel)) (by decide +kernel)
    (by decide +kernel) (by decide +kernel)).1 (by decide +kernel) (by decide +kernel) (by decide +kernel) (by decide +kernel))
theorem test_applies_bucketMove_done : Obligations.TableCommands →
    Runs (.bucketMove 0 0 0 1 0) (tTbl { cur := tBuckets, moves := [⟨0, 0, 1, 5⟩] }) := fun h =>
  runs ((h.2.2.2.2.2.2.2.2.1 (tTbl { cur := tBuckets, moves := [⟨0, 0, 1, 5⟩] }) 0 0 0 1 0 _ (tSome (by decide +kernel))
    (by decide +kernel) (by decide +kernel) (by decide +kernel)).2 _ _ (tSome (by decide +kernel)) (by decide +kernel)
    (by decide +kernel) (tOk (by decide +kernel)))
theorem test_applies_tableSwitch : Obligations.TableCommands →
    Runs (.tableSwitch 0) ((tTbl { cur := { tVer with elem := 0 } } [] (tTblMem 2)).wr rTblSwitchAt (10 ^ 10 + 20000)) := fun h =>
  runs (h.2.2.2.2.2.2.2.2.2.1 ((tTbl { cur := { tVer with elem := 0 } } [] (tTblMem 2)).wr rTblSwitchAt (10 ^ 10 + 20000)) 0 _ _ _
    (tSome (by decide +kernel)) (by decide +kernel) (by decide +kernel) (by decide +kernel) (tOkSome (by decide +kernel))
    (by decide +kernel) (by decide +kernel) (by decide +kernel))
theorem test_applies_tableSwitchActivate : Obligations.TableCommands →
    Runs (.tableSwitchActivate 0) (tTbl { cur := tVer, next := some (5, tVer) }) := fun h =>
  runs (h.2.2.2.2.2.2.2.2.2.2 (tTbl { cur := tVer, next := some (5, tVer) }) 0 { cur := tVer, next := some (5, tVer) } 5 tVer rfl rfl
    (by decide))

/-! The device range and flash. -/

/-- Tent 0 has a table of 2^28 bytes, a pool of 64 MiB, a quota of 100 panels on stack 0 and flash, and panel 0 as given. -/
def tPan (p : Panel) : State :=
  let s := ((tMem []).setFld (rMemPanelTableBase 0) fMemPanelTableBaseRangeLog2 28).setFld rMemPtpool fMemPtpoolSize64mib 1
  (((s.setFld (rTentHbm 0) fTentHbmQuota 100).setFlag (rTentFlash 0) fTentFlashEnable true).setPanel 0 0 p).modMem
    fun m => { m with reserveSlot := 1000 }
theorem tMapReady {s : State} (h : (!s.flag rMemOpStatus fMemOpStatusBusy && s.flag (rMemPanelTableBase 0) fMemPanelTableBaseValid &&
    !s.flag (rMemPanelTableBase 0) fMemPanelTableBaseRetained) = true) : MapReady s 0 := by
  simp only [Bool.and_eq_true, Bool.not_eq_true'] at h
  exact ⟨by decide, h.1.1, h.1.2, h.2⟩
theorem test_applies_panelTableCreate : Obligations.PanelsMapAndRetire → Runs (.panelTableCreate 63 28 0) (tPan {}) := fun h =>
  runs (h.1 (tPan {}) 63 28 0 (by decide))
theorem test_applies_panelTableDestroy : Obligations.PanelsMapAndRetire → Runs (.panelTableDestroy 63) (tPan {}) := fun h =>
  runs (h.2.1 (tPan {}) 63 (by decide))
theorem test_applies_panelRead : Obligations.PanelsMapAndRetire → Runs (.panelRead 0 4095) (tPan {}) := fun h =>
  runs (h.2.2.1 (tPan {}) 0 4095 (by decide +kernel))
theorem test_applies_mapHbm : Obligations.PanelsMapAndRetire → Runs (.mapHbm 0 4095 1 [7]) (tPan {}) := fun h =>
  runs ((h.2.2.2.1 (tPan {}) 0 4095 7 (tMapReady (by decide +kernel)) (by decide +kernel) (by decide +kernel) (.inr (by decide +kernel))).1
    (by decide +kernel) (by decide +kernel) (by decide +kernel) (by decide +kernel))
theorem test_applies_mapFlash : Obligations.PanelsMapAndRetire → Runs (.mapFlash 0 4095 1) (tPan {}) := fun h =>
  runs ((h.2.2.2.1 (tPan {}) 0 4095 7 (tMapReady (by decide +kernel)) (by decide +kernel) (by decide +kernel) (.inr (by decide +kernel))).2
    (by decide +kernel))
theorem test_applies_unmap : Obligations.PanelsMapAndRetire → Runs (.unmap 0 0 1) (tPan { state := 1 }) := fun h =>
  runs (h.2.2.2.2.1 (tPan { state := 1 }) 0 0 (tMapReady (by decide +kernel)) (by decide +kernel) (by decide +kernel))
theorem test_applies_hintPrefetch : Obligations.PanelsMapAndRetire → Runs (.hintPrefetch 0 0 1) (tPan { state := 2 }) := fun h =>
  runs₂ (h.2.2.2.2.2.1 (tPan { state := 2 }) 0 0 (tMapReady (by decide +kernel)) (by decide +kernel) (by decide +kernel) (by decide +kernel))
theorem test_applies_hintPin : Obligations.PanelsMapAndRetire → Runs (.hintPin 0 0 1) (tPan { state := 1 }) := fun h =>
  runs ((h.2.2.2.2.2.2.1 (tPan { state := 1 }) 0 0 (tMapReady (by decide +kernel)) (by decide +kernel) (by decide +kernel) (by decide +kernel)).1
    (.inr (by decide +kernel)))
theorem test_applies_hintUnpin : Obligations.PanelsMapAndRetire → Runs (.hintUnpin 0 0 1) (tPan { state := 1 }) := fun h =>
  runs (h.2.2.2.2.2.2.1 (tPan { state := 1 }) 0 0 (tMapReady (by decide +kernel)) (by decide +kernel) (by decide +kernel) (by decide +kernel)).2
theorem test_applies_hintDemote : Obligations.PanelsMapAndRetire → Runs (.hintDemote 0 0 1) (tPan { state := 1 }) := fun h =>
  runs₂ (h.2.2.2.2.2.2.2.1 (tPan { state := 1 }) 0 0 (tMapReady (by decide +kernel)) (by decide +kernel) (by decide +kernel) (by decide +kernel)
    (by decide +kernel) (by decide +kernel))
theorem test_applies_hintDemote_busy : Obligations.PanelsMapAndRetire →
    Runs (.hintDemote 0 0 1) ((tReg []).setFlag rMemOpStatus fMemOpStatusBusy true) := fun h =>
  runsEq (h.2.2.2.2.2.2.2.2.1 _ 0 0 1 [] (by decide +kernel) (.hintDemote 0 0 1) (by simp))
theorem test_applies_panelRetire : Obligations.PanelsMapAndRetire → Runs (.panelRetire (11 * 2 ^ 20 + 5)) (tPan {}) := fun h =>
  runs ((h.2.2.2.2.2.2.2.2.2 (tPan {}) (11 * 2 ^ 20 + 5) (by decide) (by decide +kernel) (by decide) nofun (by decide)
    (by decide +kernel)).1 (by decide +kernel))
/-- Physical panel 5 in use. -/
def tUsed : State := (tPan { state := 1, hbm := 5 }).setPhys 5 (some ⟨0, 0, 1, false⟩)
/-- Memory that holds nothing has lost nothing. -/
theorem tNotLost (m p g : Nat) (il : Bool) : tUsed.granuleLost m il p g = false := by
  have a (x : Nat) : tUsed.dev.mem.hbm.num x 4 = 0 := rfl
  have b (x : Nat) : tUsed.dev.mem.hbm.bad x = false := rfl
  have c (x : Nat) : SMap.get (fun _ => 0) tUsed.dev.mem.flips x = 0 := rfl
  simp only [State.granuleLost, List.any_eq_false, a, b, c]
  intro _ _
  decide +kernel
theorem test_applies_panelRetire_used : Obligations.PanelsMapAndRetire → Runs (.panelRetire 5) tUsed := fun h =>
  runs ((h.2.2.2.2.2.2.2.2.2 tUsed 5 (by decide) (by decide +kernel) (by decide) nofun (by decide) (by decide +kernel)).2
    ⟨0, 0, 1, false⟩ 1000 rfl (by decide +kernel) (fun g _ => tNotLost 1 5 g false) (by decide +kernel))

/-- Engine 0 as given. -/
def tMig (p : Panel) (x : MigEngine) : State := (tPan p).modMem fun m => { m with mig := [(0, x)] }
def tIn : MigEngine := { queue := [{}] }
theorem test_applies_inboundMigration : Obligations.MigrationsAndFlashSets →
    Runs (.inboundMigration 0 (some 5)) (tMig { state := 2 } tIn) := fun h =>
  runs (h.1 (tMig { state := 2 } tIn) 0 {} 5 (by decide +kernel) rfl rfl (by decide +kernel) (by decide +kernel) (by decide +kernel)
    (by decide +kernel) (by decide +kernel) (by decide +kernel))
theorem test_applies_inboundMigrationDone : Obligations.MigrationsAndFlashSets →
    Runs (.inboundMigrationDone 0 0) (tMig { state := 3 } { flight := [{}] }) := fun h =>
  runs (h.2.1 (tMig { state := 3 } { flight := [{}] }) 0 0 0 {} rfl (by decide +kernel) rfl ⟨rfl, rfl⟩)
def tOut : Migration := { out := true }
theorem test_applies_outboundMigration : Obligations.MigrationsAndFlashSets →
    Runs (.outboundMigration 0 none) (tMig { state := 1, homeFlash := true, extent := 3 } { queue := [tOut] }) := fun h =>
  runs₂ (h.2.2.1 (tMig { state := 1, homeFlash := true, extent := 3 } { queue := [tOut] }) 0 none tOut 3 _ (by decide +kernel) rfl rfl
    (by decide +kernel) (by decide +kernel) rfl rfl)
theorem test_applies_outboundWritebackDone : Obligations.MigrationsAndFlashSets →
    Runs (.outboundWritebackDone 0 0) (tMig { state := 4 } { flight := [tOut] }) := fun h =>
  runs₂ (h.2.2.2.1 (tMig { state := 4 } { flight := [tOut] }) 0 0 0 tOut rfl (by decide +kernel) rfl rfl)
def tCommitted : Migration := { out := true, commit := some {} }
def tCommit : State := { tMig { state := 4 } { flight := [tCommitted] } with ao := { tick := 1000 } }
theorem test_applies_outboundCommitSettled : Obligations.MigrationsAndFlashSets → Runs (.outboundCommitSettled 0 0) tCommit :=
  fun h => runs (h.2.2.2.2.1 tCommit 0 0 0 tCommitted {} rfl (by decide +kernel) rfl (by decide +kernel) ⟨rfl, rfl⟩ nofun)
theorem test_applies_nvmeCompletion : Obligations.MigrationsAndFlashSets →
    Runs (.nvmeCompletion 7 0) { dev := { mem := { nvme := [{ id := 7 }] } } } := fun h =>
  runsEq (h.2.2.2.2.2.1 _ 7 _ rfl)
/-- A flash set of SSDs 0 to 7, one of them perhaps failed, and what is on the SSDs. -/
def tSet (failed : Nat) (x : Option SsdMeta) (valid : Bool := true) (rb : Option Nat := none) : State :=
  let s := ((tReg [] (10 ^ 10)).setFlag (rMemFlashsetCfg 0) fMemFlashsetCfgValid valid).setFld (rMemFlashsetStatus 0)
    fMemFlashsetStatusFailedSlots failed
  { (s.setFlashSet 0 { slots := List.range 8, gmin := 262144, rebuilding := rb }).modMem
      fun m => { m with nvme := [{ id := 7, ssd := 3 }] } with
    nv := { ssds := (List.range 8).map fun k => (k, { present := true, granules := 524288, info := x }) } }
theorem test_applies_ssdFail : Obligations.MigrationsAndFlashSets → Runs (.ssdFail 3) (tSet 0 none) := fun h =>
  runs (h.2.2.2.2.2.2.1 (tSet 0 none) 3 0 3 (by decide +kernel) (by decide) (.inl (by decide +kernel))).1
theorem test_applies_nvmeCommandTimeout : Obligations.MigrationsAndFlashSets → Runs (.nvmeCommandTimeout 7) (tSet 0 none) := fun h =>
  runs ((h.2.2.2.2.2.2.1 (tSet 0 none) 3 0 3 (by decide +kernel) (by decide) (.inl (by decide +kernel))).2 7
    { id := 7, ssd := 3 } (by decide +kernel) rfl)
theorem test_applies_flashSetCreate : Obligations.MigrationsAndFlashSets →
    Runs (.flashSetCreate 0 0xFF true 9) (tSet 0 none false) := fun h =>
  runs (h.2.2.2.2.2.2.2.1 (tSet 0 none false) 0 0xFF true 9 (by decide) (by decide +kernel))
theorem test_applies_flashSetAssemble : Obligations.MigrationsAndFlashSets →
    Runs (.flashSetAssemble 0 0xFF) (tSet 0 (some { mask := 0xFF }) false) := fun h =>
  runs (h.2.2.2.2.2.2.2.2.1 (tSet 0 (some { mask := 0xFF }) false) 0 0xFF { mask := 0xFF } [] (by decide) (by decide +kernel)
    (by decide +kernel) (by decide +kernel))
theorem test_applies_flashRebuildGo : Obligations.MigrationsAndFlashSets →
    Runs (.flashRebuildGo 0 3 (some 524288) true) (tSet 8 none) := fun h =>
  runs (h.2.2.2.2.2.2.2.2.2.1 (tSet 8 none) 0 3 3 524288 (by decide) (by decide) (by decide +kernel) (by decide +kernel)
    (by decide +kernel) (by decide +kernel) (by decide +kernel) (by decide +kernel))
theorem test_applies_flashRebuildDone : Obligations.MigrationsAndFlashSets →
    Runs (.flashRebuildDone 0) (tSet 8 none true (some 3)) := fun h =>
  runs (h.2.2.2.2.2.2.2.2.2.2 (tSet 8 none true (some 3)) 0 3 (by decide) (by decide +kernel) (by decide +kernel))

/-! Text units. -/

theorem test_applies_vocabRegister : Obligations.TextUnits → Runs (.vocabRegister 7 1) {} := fun h =>
  runs (h.1 {} 7 1 (by decide) (by decide +kernel) (by decide +kernel))
/-- An image whose header gives its own length is being loaded. -/
def tVocab : State := (tMem [(0, 1), (0x24, 0x80), (0x25, 1)]).setFlag (rKerfVocabBase 7) fKerfVocabBaseLoading true
theorem test_applies_vocabLoadComplete : Obligations.TextUnits → Runs (.vocabLoadComplete 7) tVocab := fun h =>
  runs (h.2.1 tVocab 7 _ _ _ (by decide) (by decide +kernel) (by decide +kernel) (by decide +kernel) (by decide +kernel)
    (by decide +kernel) (by decide +kernel) rfl)
theorem test_applies_vocabRetire_loading : Obligations.TextUnits → Runs (.vocabRetire 7) tVocab := fun h =>
  runsEq ((h.2.2.1 tVocab 7 (by decide)).1 (by decide +kernel))
theorem test_applies_vocabRetire : Obligations.TextUnits →
    Runs (.vocabRetire 7) ((tReg []).setFlag (rKerfVocabBase 7) fKerfVocabBaseValid true) := fun h =>
  runs₂ ((h.2.2.1 _ 7 (by decide)).2 (by decide +kernel) (by decide +kernel))
theorem test_applies_grammarRegister : Obligations.TextUnits → Runs (.grammarRegister 63 1) {} := fun h =>
  runs (h.2.2.2.1 {} 63 1 (by decide) (by decide +kernel) (by decide +kernel))
/-- A grammar image is being loaded for an empty vocabulary. -/
def tGrammar : State := ((tMem [(0, 1), (4, 1), (8, 1), (0x1C, 1)]).setFlag (rGuyImageBase 63) fGuyImageBaseLoading true).setFlag
  (rKerfVocabBase 0) fKerfVocabBaseValid true
theorem test_applies_grammarLoadComplete : Obligations.TextUnits → Runs (.grammarLoadComplete 63) tGrammar := fun h =>
  runs₂ (h.2.2.2.2.1 tGrammar 63 _ _ (by decide) (by decide +kernel) (by decide +kernel) (tOk (by decide +kernel))
    (by decide +kernel))
theorem test_applies_grammarRetire_loading : Obligations.TextUnits → Runs (.grammarRetire 63) tGrammar := fun h =>
  runsEq ((h.2.2.2.2.2.1 tGrammar 63 (by decide)).1 (by decide +kernel))
theorem test_applies_grammarRetire : Obligations.TextUnits →
    Runs (.grammarRetire 63) ((tReg []).setFlag (rGuyImageBase 63) fGuyImageBaseValid true) := fun h =>
  runs₂ ((h.2.2.2.2.2.1 _ 63 (by decide)).2 (by decide +kernel) (by decide +kernel))
/-- A request of kind 6 with an empty text in its TOKENIZE leg, in a tent that is not sealed. -/
def tTok (bad : Bool) : Request :=
  { seq := 1, kind := 6, legs := [1], started := true, badSlot := bad
    desc := tBytes 256 [(0, 6), (0x41, 0xFF), (0x46, 0xFF), (0x47, 0xFF)] }
def tTokState (bad : Bool) : State := (tReq [] (tTok bad)).setFlag (rSecKeyslot 0) fSecKeyslotSealed false
theorem test_applies_tokenizeLeg_fault : Obligations.TextUnits → Runs (.tokenizeLeg 1) (tTokState true) := fun h =>
  runsEq ((h.2.2.2.2.2.2.1 (tTokState true) 1 (tTok true) [] {} [] [] {} [] {} rfl rfl rfl rfl rfl (by decide +kernel)
    (by decide +kernel)).1 (by decide +kernel)).choose_spec.1
theorem test_applies_tokenizeLeg : Obligations.TextUnits → Runs (.tokenizeLeg 1) (tTokState false) := fun h =>
  runs ((h.2.2.2.2.2.2.1 (tTokState false) 1 (tTok false) _ _ _ _ _ _ _ rfl rfl rfl rfl rfl (by decide +kernel)
    (by decide +kernel)).2 (by decide +kernel) (tOk (by decide +kernel)) (tSome (by decide +kernel)) (by decide +kernel)
    (by decide +kernel) (tOk (by decide +kernel)) (tOk (by decide +kernel)))
def tPre : Request := { seq := 1, kind := 4, legs := [7, 8], grammar := some 63 }
theorem test_applies_kerfContextAcquire : Obligations.TextUnits → Runs (.kerfContextAcquire 1) (tReq [] tPre) := fun h =>
  runsEq (h.2.2.2.2.2.2.2.1 (tReq [] tPre) 1 tPre rfl rfl rfl (by decide +kernel) (by decide +kernel))
theorem test_applies_guylineContextAcquire : Obligations.TextUnits →
    Runs (.guylineContextAcquire 1) (tReq [(4, 1)] tPre) := fun h =>
  runsEq (h.2.2.2.2.2.2.2.2.1 (tReq [(4, 1)] tPre) 1 tPre 63 _ _ rfl rfl rfl rfl (by decide +kernel) (by decide +kernel)
    (tOk (by decide +kernel)) (tOkSome1 (by decide +kernel)))
/-- A grammar of one STATIC state that allows nothing. -/
def tGImg : SMap Byte := [(4, 1), (0x20, 0x40), (0x38, 1), (0x46, 2)]
def tMask : Request := { seq := 1, kind := 4, legs := [8], grammar := some 63, gen := { guy := some 0 } }
theorem test_applies_guylineMask : Obligations.TextUnits → Runs (.guylineMask 1 0) (tReq tGImg tMask) := fun h =>
  runs (h.2.2.2.2.2.2.2.2.2 (tReq tGImg tMask) 1 0 tMask _ _ _ rfl rfl rfl rfl (by decide +kernel) rfl (tOk (by decide +kernel))
    (tOkSome1 (by decide +kernel)) (tOk (by decide +kernel)))

/-! Queues and admission. -/

/-- Queues 0 of 16 entries in the host region, of tent 0, which may hold descriptors and a queue. -/
def tQ (b : SMap Byte) (a : Admit := {}) : State :=
  let s := tHostMem b (tTent { ao := { tick := 10 ^ 10, startStep := 12 } })
  let s := (s.wr (rSqCfg 0) 0x11).wr (rCqCfg 0) 0x11
  let s := ((s.setFld (rTentQuota 0) fTentQuotaSqMax 1).setFld (rTentQuota 0) fTentQuotaHoldMax 1).setFlag (rShapeRate 0 0)
    fShapeRateUnlimited true
  let s := s.setFlag (rShapeRate 0 1) fShapeRateUnlimited false
  s.modAdm fun _ => a
theorem test_applies_sqRegister : Obligations.QueuesAndFetching →
    Runs (.sqRegister 63 0x11) (tQ []) := fun h => runs (h.1 _ 63 _ (by decide))
theorem test_sqRegister_accepts : (tQ []).sqAccepts 0 0x11 = true := by decide +kernel
theorem test_applies_sqDisable : Obligations.QueuesAndFetching → Runs (.sqDisable 63) (tQ []) := fun h =>
  runs (h.2.1 _ 63 (by decide))
theorem test_applies_cqRegister : Obligations.QueuesAndFetching → Runs (.cqRegister 63 0x11) (tQ []) := fun h =>
  runs (h.2.2.1 _ 63 _ (by decide))
theorem test_applies_cqDisable : Obligations.QueuesAndFetching → Runs (.cqDisable 63) (tQ []) := fun h =>
  runs (h.2.2.2.1 _ 63 (by decide))
theorem test_applies_sqDoorbell : Obligations.QueuesAndFetching → Runs (.sqDoorbell 0 15) (tQ []) := fun h =>
  runs (h.2.2.2.2.1 (tQ []) 0 15 (by decide) (by decide +kernel))
theorem test_applies_cqDoorbell : Obligations.QueuesAndFetching → Runs (.cqDoorbell 0 15) (tQ []) := fun h =>
  runs (h.2.2.2.2.2.1 (tQ []) 0 15 (by decide) (by decide +kernel))
/-- One descriptor of kind 1 is pending in queue 0. -/
def tPend : State := (tQ [(0, 1)]).setFld (rSqTail 0) fSqTailTail 1
theorem test_applies_descriptorFetch : Obligations.QueuesAndFetching → Runs .descriptorFetch tPend := fun h =>
  runs₂ (h.2.2.2.2.2.2 tPend 0 (by decide +kernel) (by decide +kernel) (by decide +kernel))

/-- A fetched descriptor of kind `k` and class `c`; a TABLE_OP names the ring in slot 0. -/
def tFet (k c : Byte) : Fetched := { bytes := tBytes 256 [(0, k), (1, c), (0x38, 6)] }
def tFront (k c : Byte) (held : List Fetched := []) : State :=
  tQ [] { fetched := [tFet k c], held := held, rings := [(0, some { log2 := 6 })] }
theorem test_applies_requestEmbed : Obligations.AdmissionDecides → Runs .requestEmbed (tFront 1 0) := fun h =>
  runs ((h.1 (1, .requestEmbed) (tFront 1 0) (tFet 1 0) [] (by simp) rfl (by decide +kernel) (by decide +kernel)).2.1
    (by decide +kernel) (by decide +kernel) (by decide +kernel) rfl)
theorem test_applies_requestTableOp : Obligations.AdmissionDecides → Runs .requestTableOp (tFront 8 0) := fun h =>
  runs ((h.1 (8, .requestTableOp) (tFront 8 0) (tFet 8 0) [] (by simp) rfl (by decide +kernel) (by decide +kernel)).2.1
    (by decide +kernel) (by decide +kernel) (by decide +kernel) rfl)
theorem test_applies_requestSearch_rejected : Obligations.AdmissionDecides → Runs .requestSearch (tFront 2 8) := fun h =>
  runs ((h.1 (2, .requestSearch) (tFront 2 8) (tFet 2 8) [] (by simp) rfl (by decide +kernel) (by decide +kernel)).1
    (by decide +kernel))
theorem test_applies_requestRag_held : Obligations.AdmissionDecides → Runs .requestRag (tFront 5 1) := fun h =>
  runsEq ((if_neg (by decide +kernel)).mp ((h.1 (5, .requestRag) (tFront 5 1) (tFet 5 1) [] (by simp) rfl (by decide +kernel)
    (by decide +kernel)).2.2 (by decide +kernel) (.inr (by decide +kernel))))
theorem test_applies_requestRag_tooMany : Obligations.AdmissionDecides → Runs .requestRag (tFront 5 1 [tFet 4 1]) := fun h =>
  runs ((if_pos (by decide +kernel)).mp ((h.1 (5, .requestRag) (tFront 5 1 [tFet 4 1]) (tFet 5 1) [] (by simp) rfl
    (by decide +kernel) (by decide +kernel)).2.2 (by decide +kernel) (.inl (by decide +kernel))))
def tCancelled : Fetched := { bytes := tBytes 256 [(0, 15)] }
theorem test_applies_requestCancel : Obligations.AdmissionDecides → Runs .requestCancel (tQ [] { fetched := [tCancelled] }) :=
  fun h => runs₃ (h.2.1 (tQ [] { fetched := [tCancelled] }) tCancelled [] rfl (by decide +kernel) (by decide +kernel)
    (by decide +kernel) rfl)
theorem test_applies_heldDescriptorAdmit : Obligations.AdmissionDecides →
    Runs (.heldDescriptorAdmit 0 0) (tFront 1 0 [tFet 4 0]) := fun h =>
  runs ((h.2.2.1 (tFront 1 0 [tFet 4 0]) 0 0 (tFet 4 0) [] (by decide +kernel) (by decide +kernel) (by decide +kernel)
    (by decide +kernel) (by decide +kernel) (by decide +kernel)).2 (by decide +kernel) (by decide +kernel) rfl)
theorem test_applies_heldDescriptorAdmit_rejected : Obligations.AdmissionDecides →
    Runs (.heldDescriptorAdmit 0 0) (tQ [] { held := [tFet 4 0] }) := fun h =>
  runs ((h.2.2.1 (tQ [] { held := [tFet 4 0] }) 0 0 (tFet 4 0) [] (by decide +kernel) (by decide +kernel) (by decide +kernel)
    (by decide +kernel) (by decide +kernel) (by decide +kernel)).1 (by decide +kernel))
theorem test_applies_acceptRecordPost : Obligations.AdmissionDecides →
    Runs (.acceptRecordPost 0) (tQ [] { accepts := [{ status := 0x30, tent := 63 }] }) := fun h =>
  runs (h.2.2.2 (tQ [] { accepts := [{ status := 0x30, tent := 63 }] }) 0 { status := 0x30, tent := 63 } (by decide)
    (by decide +kernel) (by decide +kernel) (by decide +kernel) (by decide +kernel) (by decide))
/-- An acceptance whose ADMIT record is on the device of a VOLATILE tent. -/
def tAccept : State := (tQ [] { accepts := [{ seq := 1 }], requests := [(1, some { seq := 1 })] }).modJrnl fun j =>
  { j with log := [{ req := 1, pay := .admitReq [] 0 0 [] [] [] 0 0 }] }
theorem test_applies_acceptRecordPost_accepted : Obligations.AdmissionDecides → Runs (.acceptRecordPost 0) tAccept := fun h =>
  runs (h.2.2.2 tAccept 0 { seq := 1 } (by decide) (by decide +kernel) (by decide +kernel) (by decide +kernel) (by decide +kernel)
    (by decide))

/-! Legs, rings and publication. -/

def tEmbed : Request := { tTok false with legs := [2] }
theorem test_applies_embedLeg : Obligations.LegsComplete →
    Runs (.embedLeg 1 [0] false) ((tReq [] tEmbed).setFlag (rSecKeyslot 0) fSecKeyslotSealed false) := fun h =>
  runsEq (h.1 _ 1 tEmbed [0] rfl rfl (by decide +kernel) (by decide +kernel))
/-- A template of the query and the passages, and a request of kind 3 with one empty passage in leg `k`. -/
def tTmpl : SMap Byte := [(0, 1), (2, 2), (64, 1), (80, 2)]
def tRerank (k : Nat) : Request := { seq := 1, kind := 3, legs := [k], started := true, passages := [{}] }
theorem test_applies_rerankLeg : Obligations.LegsComplete →
    Runs (.rerankLeg 1 [⟨0, false⟩]) (tReq tTmpl (tRerank 5)) := fun h =>
  runs (h.2.1 (tReq tTmpl (tRerank 5)) 1 (tRerank 5) [⟨0, false⟩] _ _ _ _ rfl rfl (by decide +kernel)
    (tOk (by decide +kernel)) (tOk (by decide +kernel)) (by decide +kernel) (by decide +kernel) (by decide +kernel))
theorem test_applies_packLeg : Obligations.LegsComplete → Runs (.packLeg 1) (tReq tTmpl (tRerank 6)) := fun h =>
  runs (h.2.2.1 (tReq tTmpl (tRerank 6)) 1 (tRerank 6) _ _ rfl rfl (by decide +kernel) (tOk (by decide +kernel))
    (by decide +kernel))
/-- A leg whose result is complete: the request's only leg, or the first of two. -/
def tDone (l : List Nat) : Request := { seq := 1, kind := 1, legs := l, started := true, ready := true }
theorem test_applies_legComplete_last : Obligations.LegsComplete → Runs (.legComplete 1) (tReq [] (tDone [2])) := fun h =>
  runs₂ (h.2.2.2 (tReq [] (tDone [2])) 1 (tDone [2]) rfl rfl (by decide) rfl rfl rfl (by decide +kernel))
theorem test_applies_legComplete_next : Obligations.LegsComplete → Runs (.legComplete 1) (tReq [] (tDone [1, 2])) := fun h =>
  runs₂ (h.2.2.2 (tReq [] (tDone [1, 2])) 1 (tDone [1, 2]) rfl rfl (by decide) rfl rfl rfl (by decide +kernel))

theorem test_applies_ringRegister : Obligations.RingsAndPublication → Runs (.ringRegister 65535 63 20) {} := fun h =>
  runs (h.1 {} 65535 63 20 (by decide) (by decide))
/-- The ring in slot 0, and a request bound to it. -/
def tRing (x : Ring) (r : Request) : State :=
  (tReq [] r).modAdm fun a => { a with rings := [(0, some x)] }
def tRing0 : Ring := { log2 := 6 }
theorem test_applies_ringUnregister : Obligations.RingsAndPublication → Runs (.ringUnregister 0) (tRing tRing0 {}) := fun h =>
  runs (h.2.1 (tRing tRing0 {}) 0)
theorem test_applies_ringRead : Obligations.RingsAndPublication → Runs (.ringRead 0) (tRing tRing0 {}) := fun h =>
  runs (h.2.2.1 (tRing tRing0 {}) 0 tRing0 rfl)
theorem test_applies_ringConsumerPoll : Obligations.RingsAndPublication → Runs (.ringConsumerPoll 0) (tRing tRing0 {}) :=
  fun h => runs (h.2.2.2.1 (tRing tRing0 {}) 0 tRing0 0 rfl (by decide +kernel))
def tPub : Request := { seq := 1, ring := some 0, groups := [{ records := [{}], covered := true }] }
theorem test_applies_recordPublish : Obligations.RingsAndPublication → Runs (.recordPublish 1) (tRing { tRing0 with bound := 1 } tPub) :=
  fun h => runs₂ (h.2.2.2.2.1 (tRing { tRing0 with bound := 1 } tPub) 1 tPub _ [] 0 { tRing0 with bound := 1 } 0 rfl rfl rfl rfl
    (by decide +kernel) (.inl rfl) (by decide +kernel) rfl (by decide +kernel))
/-- A ring of one record that is full: the stall begins. -/
def tFullRing : Ring := { bound := 1, producer := 1 }
theorem test_applies_recordPublish_stall : Obligations.RingsAndPublication → Runs (.recordPublish 1) (tRing tFullRing tPub) :=
  fun h => runs₂ (h.2.2.2.2.1 (tRing tFullRing tPub) 1 tPub _ [] 0 tFullRing 0 rfl rfl rfl rfl
    (by decide +kernel) (.inl rfl) (by decide +kernel) rfl (by decide +kernel))
/-- A cancel of request 1, which runs, and one of a request that there is not. -/
def tCnc (n : Nat) : State := (tReq [] { seq := 1 }).modAdm fun a => { a with cancels := [{ seq := 2, target := n }] }
theorem tCnc_ended {n : Nat} : ∀ r e, (tCnc n).req 1 = some r → r.ended = some e → (tCnc n).settled e.2 = true := by
  intro r e h k
  have : r = { seq := 1 } := Option.some.inj (h.symm.trans rfl)
  subst this; cases k
theorem test_applies_cancelDecision : Obligations.RingsAndPublication → Runs (.cancelDecision 2) (tCnc 1) := fun h =>
  runs₂ (h.2.2.2.2.2 (tCnc 1) 2 { seq := 2, target := 1 } rfl rfl (by decide +kernel) tCnc_ended
    (fun r k => by
      have : r = { seq := 1 } := Option.some.inj (k.symm.trans rfl)
      subst this; decide +kernel)
    (fun k => by cases k))
theorem test_applies_cancelDecision_none : Obligations.RingsAndPublication → Runs (.cancelDecision 2) (tCnc 3) := fun h =>
  runs₂ (h.2.2.2.2.2 (tCnc 3) 2 { seq := 2, target := 3 } rfl rfl (by decide +kernel) (fun _ _ k => by cases k)
    (fun _ k => by cases k) (fun _ => by decide +kernel))

/-! Generation. -/

/-- A GENERATE request of tent 0 on model slot 0, greedy, with `m` tokens to generate and no draft model. -/
def tGen (m : Byte := 2) (legs : List Nat := [8]) : Request :=
  { seq := 1, kind := 4, legs := legs, params := List.replicate 128 0
    desc := tBytes 256 [(0, 4), (0x24, m), (0x46, 0xFF), (0x47, 0xFF)], gen := { kerf := some 0 } }
/-- Bay 0 is the tent's; the vocabulary has one token, which is no end; context 0 is fed and closed; the loop's step. -/
def tLoop (r : Request) (p : Option GenStep) : State :=
  let s := (((tReq [] r).setFld (rTentBays 0 0) (0, 64) 1).setFld (rGenCfg 0) fGenCfgMaxRunning 1).setFld (rGenCfg 0)
    fGenCfgStepTokens 8
  s.modText fun x => { x with
    vocabs := [(0, { image := tBytes 192 [(4, 1), (0x14, 9)] })]
    slices := [(0, { feeds := [{ logits := [⟨0, false⟩] }], closed := true })]
    loops := [(0, { step := p })], running := [(0, [{ slot := 0, tag := 0, members := [1] }])] }
def tStep (x : StepSeq) : Option GenStep := some { seqs := [{ x with seq := 1, draws := true }] }
theorem test_applies_stepBoundary : Obligations.StepsDrawAndCommit → Runs (.stepBoundary 0 0 [] []) (tLoop (tGen 2 [7, 8]) none) :=
  fun h => runs (h.1 (tLoop (tGen 2 [7, 8]) none) 0 0 [] [] _ _ _ _ (by decide) (by decide +kernel) (by decide +kernel) rfl rfl)
theorem test_stepBoundary_joins :
    (match exec (.stepBoundary 0 0 [] []) (tLoop (tGen 2 [7, 8]) none) with
      | .next t => ((t.genLoop 0 0).step.map fun p => p.seqs.map (·.seq))
      | _ => none) = some [1] := by decide +kernel
theorem test_applies_draftDraw : Obligations.StepsDrawAndCommit →
    Runs (.draftDraw 1 0 0) (tLoop (tGen) (tStep { depth := 1 })) := fun h =>
  runs (h.2.1 (tLoop (tGen) (tStep { depth := 1 })) 1 0 0 tGen _ _ 0 rfl (tSome (by decide +kernel)) rfl (by decide +kernel)
    (by decide +kernel) (by decide +kernel) (by decide +kernel) (tPair (by decide +kernel)) (by decide +kernel))
theorem test_applies_samplerDraw : Obligations.StepsDrawAndCommit → Runs (.samplerDraw 1 0 []) (tLoop (tGen) (tStep {})) :=
  fun h => runs (h.2.2.1 (tLoop (tGen) (tStep {})) 1 0 [] tGen _ _ rfl (tSome (by decide +kernel)) rfl (by decide +kernel)
    (by decide +kernel) (by decide +kernel) (by decide +kernel) (by decide +kernel)
    (fun j _ => by simp [Request.maskAt, tGen]) (tPair (by decide +kernel)) _ rfl)
theorem test_applies_stepCommit : Obligations.StepsDrawAndCommit →
    Runs (.stepCommit 1) (tLoop (tGen) (tStep { decided := true, tokens := [0], released := [(0, [])] })) := fun h =>
  runs₂ (h.2.2.2.1 (tLoop (tGen) (tStep { decided := true, tokens := [0], released := [(0, [])] })) 1 tGen _ rfl
    (tSome (by decide +kernel)) rfl rfl (by decide +kernel) (by decide +kernel) (by decide +kernel))
theorem test_applies_stepClose : Obligations.StepsDrawAndCommit →
    Runs (.stepClose 0 0) (tLoop (tGen) (tStep { committed := true })) := fun h =>
  runs (h.2.2.2.2 (tLoop (tGen) (tStep { committed := true })) 0 0 _ (tSome (by decide +kernel)) (by decide +kernel)
    (fun x m _ => .inl (by
      have e : x = { committed := true, seq := 1, draws := true } := List.mem_singleton.mp m
      subst e; rfl)))

/-- Tent 63 is in CONFIG. -/
def tGenTent : State := ({} : State).setFld (rTentCtl 63) fTentCtlState 1
theorem test_applies_batchDescriptorWrite : Obligations.BatchesAndAdapters → Runs (.batchDescriptorWrite 63 64) tGenTent := fun h =>
  runs (h.1 tGenTent 63 64 (by decide) (by decide +kernel) (by decide +kernel))
/-- A batch of the one request, at address 0 of the host region. -/
def tBatchQ (b : SMap Byte) : State :=
  (tHostMem b (tReq [] (tGen 2 [7, 8]))).modText fun x => { x with batches := [(0, [0])] }
theorem test_applies_batchStart : Obligations.BatchesAndAdapters → Runs (.batchStart 0) (tBatchQ [(0, 1), (2, 1), (0x40, 1)]) :=
  fun h => runs (h.2.1 (tBatchQ [(0, 1), (2, 1), (0x40, 1)]) 0 0 [] rfl (by decide +kernel) (by decide +kernel) (by decide +kernel)
    (by decide +kernel) (by decide +kernel) (by decide +kernel) (by decide +kernel))
theorem test_batchStart_member :
    (tBatchQ [(0, 1), (2, 1), (0x40, 1)]).batchMembers 0 0 [] [1] = [1] := by decide +kernel
/-- Adapter slot 0: its versions, and an image at 0 for model slot 0, a generator. -/
def tAda (vs : List AdapterVer) (r : Request := {}) : State :=
  let s := (tReq [(0, 1), (2, 1), (6, 1)] r).modTent 0 fun x => { x with models := tBytes 64 [(0, 3)], modelCount := 1 }
  s.modText fun x => { x with adapters := [(0, vs)] }
theorem test_applies_adapterInstall : Obligations.BatchesAndAdapters → Runs (.adapterInstall 0 0) (tAda []) := fun h =>
  runs ((h.2.2.1 (tAda []) 0 0 (by decide) (by decide) (by decide +kernel)).2 (by decide +kernel) _ _ (tOk (by decide +kernel)))
theorem test_adapterInstall_passes : (tAda []).adapterCheck 0 0 (tBytes 64 [(0, 1), (2, 1), (6, 1)]) = 0 := by decide +kernel
/-- An older version holds a request. -/
def tOld : AdapterVer := { version := 1, ended := some {} }
theorem test_applies_adapterInstall_waits : Obligations.BatchesAndAdapters →
    Runs (.adapterInstall 0 0) (tAda [tOld] { seq := 1, kind := 4, gen := { adapter := 1 } }) := fun h =>
  runs ((h.2.2.1 (tAda [tOld] { seq := 1, kind := 4, gen := { adapter := 1 } }) 0 0 (by decide) (by decide) (by decide +kernel)).1
    (by decide +kernel))
theorem test_applies_adapterRetire_none : Obligations.BatchesAndAdapters → Runs (.adapterRetire 63 1023) {} := fun h =>
  runs ((h.2.2.2.1 {} 63 1023 (by decide) (by decide) (by decide +kernel)).1 (by decide +kernel))
theorem test_applies_adapterRetire : Obligations.BatchesAndAdapters → Runs (.adapterRetire 0 0) (tAda [{ version := 1 }]) :=
  fun h => runs ((h.2.2.2.1 (tAda [{ version := 1 }]) 0 0 (by decide) (by decide) (by decide +kernel)).2 (by decide +kernel))
theorem test_applies_adapterQuery : Obligations.BatchesAndAdapters → Runs (.adapterQuery 63 1023) {} := fun h =>
  runs (h.2.2.2.2 {} 63 1023 (by decide) (by decide))

/-! Tents. -/

/-- Tent 0 in a state, its model table of one unused slot at 0. -/
def tTn (st : Nat) (s : State := {}) : State :=
  (((tMem [] s).setFld (rTentCtl 0) fTentCtlState st).setFld (rTentModels 0) fTentModelsCount 1).setFld (rTentQuota 0)
    fTentQuotaHoldMax 1
theorem test_applies_tentConfigure_state : Obligations.TentLifeCycle → Runs (.tentConfigure 0 7) (tTn 2) := fun h =>
  runsEq (h.1 (tTn 2) 0 7 (0, .tentConfigure 0 7) (by simp) (by decide) (by decide +kernel))
theorem test_applies_tentReloadModels_state : Obligations.TentLifeCycle → Runs (.tentReloadModels 63) {} := fun h =>
  runsEq (h.1 {} 63 7 (2, .tentReloadModels 63) (by simp) (by decide) (by decide +kernel))
theorem test_applies_tentConfigure : Obligations.TentLifeCycle → Runs (.tentConfigure 63 7) {} := fun h =>
  runs (h.2.1 {} 63 7 (by decide) (by decide +kernel))
theorem test_applies_tentAbort : Obligations.TentLifeCycle → Runs (.tentAbort 0) (tTn 1) := fun h =>
  runs (h.2.2.1 (tTn 1) 0 (by decide) (by decide +kernel))
theorem test_applies_tentActivate : Obligations.TentLifeCycle → Runs (.tentActivate 0) (tTn 1) := fun h =>
  runs ((if_neg (by decide +kernel)).mp ((h.2.2.2.1 (tTn 1) 0 (by decide) (by decide +kernel)).2 (by decide +kernel)
    (by decide +kernel) _ _ _ (tOk (by decide +kernel))))
/-- With no stack the quota does not fit. -/
theorem test_applies_tentActivate_error : Obligations.TentLifeCycle →
    Runs (.tentActivate 0) ((tTn 1).setFld (rTentHbm 0) fTentHbmStacks 0) := fun h =>
  runsEq ((h.2.2.2.1 _ 0 (by decide) (by decide +kernel)).1 (by decide +kernel))
theorem test_applies_tentReloadModels : Obligations.TentLifeCycle → Runs (.tentReloadModels 0) (tTn 2) := fun h =>
  runs (h.2.2.2.2.1 (tTn 2) 0 _ _ _ (by decide) (by decide +kernel) (by decide +kernel) (by decide +kernel)
    (tOk (by decide +kernel)))
/-- The tent has bay 0 and the request 1. -/
def tBusy : State :=
  { ((tTn 2).setReq 1 (some { seq := 1 })).setFld (rTentBays 0 0) (0, 64) 1 with ao := { tick := 10 ^ 10 } }
theorem tBusy_seq : ∀ k r, tBusy.req k = some r → r.seq = k := by
  intro k r h
  by_cases e : k = 1
  · subst e
    have : r = { seq := 1 } := Option.some.inj (h.symm.trans rfl)
    subst this; rfl
  · have : tBusy.req k = none := by
      show SMap.get _ [(1, _)] k = none
      simp [SMap.get, Ne.symm e]
    rw [this] at h; cases h
theorem test_applies_tentReset : Obligations.TentLifeCycle → Runs (.tentReset 0) tBusy := fun h =>
  runs (h.2.2.2.2.2.1 tBusy 0 (by decide) (by decide +kernel) (by decide +kernel) (fun _ _ e => by cases e) tBusy_seq)
theorem test_applies_tentRelease : Obligations.TentLifeCycle → Runs (.tentRelease 0) (tTn 2) := fun h =>
  runs (h.2.2.2.2.2.2.1 (tTn 2) 0 (by decide) (by decide +kernel) (by decide +kernel))
theorem test_applies_tentReleaseDrained : Obligations.TentLifeCycle → Runs (.tentReleaseDrained 0) (tTn 4) := fun h =>
  runs (h.2.2.2.2.2.2.2.1 (tTn 4) 0 (by decide) (by decide +kernel) (by decide +kernel) (by decide +kernel))
/-- A tent that is drained and has nothing registered. -/
def tGone : State := (({} : State).setFld (rTentCtl 63) fTentCtlState 4).modTent 63 fun x => { x with drained := true }
theorem test_applies_tentFree : Obligations.TentLifeCycle → Runs (.tentFree 63) tGone := fun h =>
  runs (h.2.2.2.2.2.2.2.2.1 tGone 63 (by decide) (by decide +kernel) (by decide +kernel) (fun _ _ e => by cases e)
    (by decide +kernel))
theorem test_applies_quotaWrite_config : Obligations.TentLifeCycle → Runs (.quotaWrite 0 8) (tTn 1) := fun h =>
  runsEq ((h.2.2.2.2.2.2.2.2.2 (tTn 1) 0 8 (by decide)).1 (by decide +kernel))
theorem test_applies_quotaWrite : Obligations.TentLifeCycle → Runs (.quotaWrite 0 1) (tTn 2) := fun h =>
  runs ((h.2.2.2.2.2.2.2.2.2 (tTn 2) 0 1 (by decide)).2 (by decide +kernel) (.inl (by decide +kernel)) (by decide +kernel))

theorem test_applies_migrationCutArm : Obligations.PlacementCuts → Runs (.migrationCutArm 0 100000) (tTn 2) := fun h =>
  runs (h.1 (tTn 2) 0 100000 (by decide) (by decide +kernel))
theorem test_migrationCutArm_arms :
    (tTn 2).tentState 0 = 2 ∧ (tTn 2).ao.tick + 100000 ≤ (100000 : W64).toNat ∧ ((tTn 2).tent 0).cutAt = none ∧
      (tTn 2).baysOk 0 ((tTn 2).pendingMask 0) = true := by decide +kernel
def tCut : State := { (tBusy.modTent 0 fun x => { x with cutAt := some 100000, cutBays := [0xE, 0, 0, 0] }) with
  ao := { tick := 100000 } }
theorem test_applies_migrationCut : Obligations.PlacementCuts → Runs (.migrationCut 0) tCut := fun h =>
  runs (h.2 tCut 0 100000 (by decide) (by decide +kernel) (by decide +kernel) (fun _ _ e => by cases e))

/-! Shapers, gate lists and accounting. -/

theorem test_applies_shapeRateWrite : Obligations.ShapersGatesAccounts → Runs (.shapeRateWrite 0 7 1) (tTn 2) := fun h =>
  runs (h.1 (tTn 2) 0 7 1 (by decide) (by decide) (by decide +kernel)).1
theorem test_applies_shapeBurstWrite : Obligations.ShapersGatesAccounts → Runs (.shapeBurstWrite 0 7 1) (tTn 2) := fun h =>
  runs (h.1 (tTn 2) 0 7 1 (by decide) (by decide) (by decide +kernel)).2
/-- A list of one entry of 1,000 ticks at address 0. -/
def tGateMem : State := tHostMem [(0, 0xE8), (1, 3), (8, 1)]
theorem test_applies_gateListArm : Obligations.ShapersGatesAccounts → Runs (.gateListArm 20000) tGateMem := fun h =>
  runs (h.2.1 tGateMem 20000)
theorem test_gateListArm_arms : tGateMem.readGateList = [(1000, 1)] ∧ tGateMem.inHost 0 16 = true := by decide +kernel
def tGate (a g : Option GateList) : State :=
  let s : State := {}
  { s with dev := { s.dev with gateArmed := a, gate := g } }
def tGl : GateList := { entries := [(1000, 1)] }
theorem test_applies_gateListActivate : Obligations.ShapersGatesAccounts → Runs .gateListActivate (tGate (some tGl) none) :=
  fun h => runs (h.2.2.1 (tGate (some tGl) none) tGl rfl (by decide))
theorem test_applies_gateEntryAdvance : Obligations.ShapersGatesAccounts → Runs .gateEntryAdvance (tGate none (some tGl)) :=
  fun h => runs (h.2.2.2.1 (tGate none (some tGl)) tGl rfl)
theorem test_applies_acctEnable : Obligations.ShapersGatesAccounts → Runs (.acctEnable 63 1) (tHostMem []) := fun h =>
  runs (h.2.2.2.2.1 (tHostMem []) 63 1 (by decide))
theorem test_acctEnable_accepts : (tHostMem []).inHost (getBits 1 6 50 * 64) acctArea = true := by decide +kernel
theorem test_applies_acctDisable : Obligations.ShapersGatesAccounts → Runs (.acctDisable 63) {} := fun h =>
  runs (h.2.2.2.2.2.1 {} 63 (by decide))
theorem test_applies_acctSnapshotArm : Obligations.ShapersGatesAccounts → Runs (.acctSnapshotArm 10000) {} := fun h =>
  runs (h.2.2.2.2.2.2.1 {} 10000)
def tSnap : State := { (({} : State).wr rAcctSnapshotAt 10000).setFlag rAcctSnapshotDone fAcctSnapshotDonePending true with
  ao := { tick := 10200 } }
theorem test_applies_acctSnapshotWrite : Obligations.ShapersGatesAccounts → Runs .acctSnapshotWrite tSnap := fun h =>
  runs (h.2.2.2.2.2.2.2 tSnap (by decide +kernel) (by decide +kernel) (by decide +kernel) (by decide +kernel))

/-! The journal and recovery. -/

/-- Request 1 of a VOLATILE tent with records on their way and in the log; a local log of 1 GiB. -/
def tJ (j : Journal := {}) (r : Request := { seq := 1 }) : State :=
  let s := ((tReq [] r).setFld rJrnlCfg fJrnlCfgAreaGib 1).setFlag rJrnlMirrorPeer fJrnlMirrorPeerEnable true
  s.modJrnl fun _ => j
def tAdm (cls : Nat := 0) : JRec := { req := 1, id := 1, cls := cls, pay := .admitReq (tBytes 256 [(0, 1)]) 0 0 [] [] [] 0 0 }
theorem test_applies_journalAdmit : Obligations.JournalUnit → Runs .journalAdmit (tJ { sent := [tAdm] }) := fun h =>
  runs₂ ((h.1 (tJ { sent := [tAdm] }) tAdm (1, .journalAdmit) (by simp) (by decide +kernel) (by decide +kernel)).1
    (by decide +kernel) (fun _ => by decide +kernel))
/-- A FLASH record with no journal SSD. -/
theorem test_applies_journalAdmit_fails : Obligations.JournalUnit → Runs .journalAdmit (tJ { sent := [tAdm 2] }) := fun h =>
  runs ((h.1 (tJ { sent := [tAdm 2] }) (tAdm 2) (1, .journalAdmit) (by simp) (by decide +kernel) (by decide +kernel)).2 rfl
    (.inl (by decide +kernel)) { seq := 1 } rfl rfl)
def tCan : JRec := { req := 2, pay := .cancel 1 1 }
theorem test_applies_journalCancel : Obligations.JournalUnit → Runs .journalCancel (tJ { sent := [tCan] }) := fun h =>
  runs₂ ((h.1 (tJ { sent := [tCan] }) tCan (4, .journalCancel) (by simp) (by decide +kernel) (by decide +kernel)).1
    (by decide +kernel) (fun e => by cases e))
def tEnd : Request := { seq := 1, ended := some (0, {}) }
theorem test_applies_journalComplete : Obligations.JournalUnit → Runs (.journalComplete 1) (tJ {} tEnd) := fun h =>
  runs₃ (h.2.1 (tJ {} tEnd) 1 tEnd (0, {}) rfl rfl rfl (.inl rfl) (by decide +kernel) (by decide +kernel) (by decide +kernel)
    (by decide +kernel) (by decide +kernel))
/-- Two journal SSDs, in slots 0 and 1 of flash set 0. -/
def tSsd (j : Journal) : State :=
  ((tJ j).setFlag (rMemFlashsetCfg 0) fMemFlashsetCfgValid true).modMem fun m => { m with sets := [(0, { slots := [0, 1] })] }
theorem test_applies_groupCommitWrite : Obligations.JournalUnit → Runs .groupCommitWrite (tSsd { gather := [1], log := [tAdm 2] }) :=
  fun h => runsEq (h.2.2.1 (tSsd { gather := [1], log := [tAdm 2] }) (by decide +kernel) (by decide +kernel)
    (by decide +kernel) (.inr (.inr (by decide +kernel))))
theorem test_applies_groupWriteComplete : Obligations.JournalUnit →
    Runs .groupWriteComplete (tSsd { writing := [1], log := [tAdm 2] }) := fun h =>
  runs (h.2.2.2.1 (tSsd { writing := [1], log := [tAdm 2] }) (by decide +kernel) (by decide +kernel))
theorem test_applies_mirrorTimeout : Obligations.JournalUnit → Runs .mirrorTimeout (tJ { log := [tAdm 1] }) := fun h =>
  runs (h.2.2.2.2.1 (tJ { log := [tAdm 1] }) (tAdm 1) (List.mem_singleton.mpr rfl) (by decide +kernel))
theorem test_applies_mirrorPeerChange : Obligations.JournalUnit → Runs (.mirrorPeerChange 4101) (tJ { log := [tAdm 1] }) := fun h =>
  runs (h.2.2.2.2.2.1 (tJ { log := [tAdm 1] }) 4101 (by decide +kernel))
theorem test_applies_mirrorResyncComplete : Obligations.JournalUnit →
    Runs .mirrorResyncComplete ((tJ).setFlag rJrnlMirrorPeer fJrnlMirrorPeerResync true) := fun h =>
  runs (h.2.2.2.2.2.2.1 _ (by decide +kernel) (by decide +kernel))
theorem test_applies_mirrorProbe : Obligations.JournalUnit → Runs (.mirrorProbe true) tJ := fun h =>
  runs (h.2.2.2.2.2.2.2.1 tJ (by decide +kernel) (by decide +kernel)).1
theorem test_applies_hostBeat : Obligations.JournalUnit → Runs .hostBeat (tJ { leaseRunning := true }) := fun h =>
  runsEq (h.2.2.2.2.2.2.2.2.1 (tJ { leaseRunning := true }) rfl).1
theorem test_applies_hostDetach : Obligations.JournalUnit → Runs .hostDetach (tJ { leaseRunning := true }) := fun h =>
  runs (h.2.2.2.2.2.2.2.2.1 (tJ { leaseRunning := true }) rfl).2.1
theorem test_applies_leaseExpire : Obligations.JournalUnit → Runs .leaseExpire (tJ { leaseRunning := true }) := fun h =>
  runs (h.2.2.2.2.2.2.2.2.1 (tJ { leaseRunning := true }) rfl).2.2
theorem test_applies_hostBeat_off : Obligations.JournalUnit → Runs .hostBeat {} := fun h =>
  runsEq (h.2.2.2.2.2.2.2.2.2.1 {} rfl).1
theorem test_applies_hostAttach : Obligations.JournalUnit → Runs .hostAttach {} := fun h => runs (h.2.2.2.2.2.2.2.2.2.2 {})

/-- Start-up step 11 of a power-on; the peer holds a MIRROR ADMIT. -/
def tReplay : State := { (({} : State).setFlag rJrnlStatus fJrnlStatusReplaying true) with ao := { startStep := 11 } }
theorem test_applies_replayScan : Obligations.RecoveryFromTheJournal → Runs (.replayScan [] [tAdm 1]) tReplay := fun h =>
  runs (h.1 tReplay [] [tAdm 1] (by decide) (by decide +kernel))
theorem test_replayScan_counts : ((tReplay.counted [] [tAdm 1]).filter fun r => r.pay.kind == 1) = [tAdm 1] := by decide +kernel
theorem test_applies_recoveryTableWrite : Obligations.RecoveryFromTheJournal → Runs (.recoveryTableWrite 1) {} := fun h =>
  runs (h.2.1 {} 1)
theorem test_applies_tentRecover : Obligations.RecoveryFromTheJournal → Runs (.tentRecover 63) {} := fun h =>
  runs (h.2.2.1 {} 63 (by decide))
/-- A recovered request of an ACTIVE tent, and a ring of the tent. -/
def tRec : Request := { seq := 1, kind := 6, recovered := true, replay := [{}], desc := tBytes 256 [(0, 6)] }
def tBack : State := ((tJ { recovered := [1] } tRec).modAdm fun a => { a with rings := [(0, some { log2 := 6 })] }).modTent 0
  fun x => { x with keyId := 0 }
theorem test_tentRecover_resumes :
    (match exec (.tentRecover 0) tBack with
      | .next t => (t.req 1).any (·.resumed)
      | _ => false) = true := by decide +kernel
theorem test_applies_requestReattach : Obligations.RecoveryFromTheJournal →
    Runs (.requestReattach 0) (tBack.wr rJrnlReattachSeq 1) := fun h =>
  runs (h.2.2.2.1 (tBack.wr rJrnlReattachSeq 1) 0 tRec { log2 := 6 } rfl (.inl rfl) rfl (by decide +kernel) rfl rfl rfl)
theorem test_applies_requestReattach_none : Obligations.RecoveryFromTheJournal → Runs (.requestReattach 0) {} := fun h =>
  runsEq (h.2.2.2.2.1 {} 0 (.inl rfl))
def tRangers : State := ({} : State).setFld rFwStatus fFwStatusRangersUp 0x80
theorem test_applies_rangerWatchdogExpire : Obligations.RecoveryFromTheJournal → Runs (.rangerWatchdogExpire 7) tRangers :=
  fun h => runs (h.2.2.2.2.2.1 tRangers 7 (by decide) (by decide +kernel))
def tDown : State := { dev := { rangers := [(7, [0])] } }
theorem test_applies_rangerRestartComplete_fails : Obligations.RecoveryFromTheJournal →
    Runs (.rangerRestartComplete 7 false) tDown := fun h =>
  runs (h.2.2.2.2.2.2 tDown 7 (by decide) (by decide +kernel) (by decide +kernel)).1
theorem test_applies_rangerRestartComplete : Obligations.RecoveryFromTheJournal → Runs (.rangerRestartComplete 7 true) tDown :=
  fun h => runs ((h.2.2.2.2.2.2 tDown 7 (by decide) (by decide +kernel) (by decide +kernel)).2 (by decide +kernel))

/-! The block. -/

theorem test_applies_emptyQueueTicks : Obligations.EmptyQueueTicks → ∃ t, step State.reset = .next t ∧ t.ao.tick = 1 := fun h =>
  (h State.reset rfl).elim fun t e => ⟨t, e.1, e.2.1⟩
theorem test_applies_stepRunsFrontCommand : Obligations.StepRunsFrontCommand →
    step { State.reset with pending := [.hostAttach] } = exec .hostAttach { State.reset with pending := [] } := fun h =>
  h .hostAttach [] State.reset
theorem test_applies_tickNeverFalls : Obligations.TickNeverFalls → ∃ t, step State.reset = .next t ∧ 0 ≤ t.ao.tick := fun h =>
  ⟨_, rfl, h 0 State.reset _ (by decide +kernel) (by decide) rfl⟩
theorem test_applies_bayWordsDecode : Obligations.BayWordsDecode →
    instrAt 255 255 (tF.word 0x20) 0 = some (.fadd 255 255 tF) := fun h => h.1 (.fadd 255 255 tF) _ 0 rfl (.inl rfl)
theorem test_applies_bayWordsDecode_same : Obligations.BayWordsDecode → Instr.brk 255 255 tF = .brk 255 255 tF := fun h =>
  h.2 _ _ _ rfl rfl
theorem test_applies_checkCode : Obligations.CheckCode →
    eccDecode 0 = .clean 0 ∧ eccDecode (2 ^ 38) = .corrected 0 64 ∧ eccDecode (0x70 * 2 ^ 32) = .poisoned 0 ∧
    eccDecode (0x64 * 2 ^ 32) = .bad 0 0x64 := fun h =>
  ⟨(h.1 0).1 (by decide), (h.1 (2 ^ 38)).2.1 6 (by decide) (by decide +kernel), (h.1 (0x70 * 2 ^ 32)).2.2.2.1 (by decide +kernel),
    (h.1 (0x64 * 2 ^ 32)).2.2.2.2 (by decide +kernel) (by decide +kernel) (by decide +kernel) (by decide +kernel)⟩
theorem test_applies_checkCode_data : Obligations.CheckCode → eccDecode (eccCols.getD 31 0 * 2 ^ 32) = .corrected (2 ^ 31)
    (eccCols.getD 31 0) := fun h => by
  have e := (h.1 (eccCols.getD 31 0 * 2 ^ 32)).2.2.1 31 (by decide) (by decide +kernel)
  revert e; decide +kernel
theorem test_applies_checkCode_double : Obligations.CheckCode → ∃ x y, eccDecode (eccEncode 0 false ^^^ 2 ^ 0 ^^^ 2 ^ 38) = .bad x y :=
  fun h => (h.2.1 0 0 38 (by decide) (by decide) (by decide)).elim fun x e => e.elim fun y e => ⟨x, y, e.1⟩
theorem test_reset_canonical : State.reset.canonical = true := by decide +kernel
theorem test_reset_tents : ((List.range 64).all fun n => State.reset.tentState n == 0) = true := by decide +kernel
theorem test_reset_registers :
    (State.reset.rd rTimeFreezeAt, State.reset.rd rTimeResumeAt, State.reset.freezeState) = (noTick, noTick, 0) := by decide +kernel

/-! A command that names no unit of the part is not well formed: one for each check. -/

theorem test_wf_bay : Instr.wf (.crewLaunch 256 0) = false := by decide
theorem test_wf_crewSlot : Instr.wf (.crewLaunch 0 256) = false := by decide
theorem test_wf_tent : Instr.wf (.tentFree 64) = false := by decide
theorem test_wf_queue : Instr.wf (.sqDisable 64) = false := by decide
theorem test_wf_reqClass : Instr.wf (.heldDescriptorAdmit 0 8) = false := by decide
theorem test_wf_index : Instr.wf (.indexRetire 64) = false := by decide
theorem test_wf_table : Instr.wf (.tableRetire 256) = false := by decide
theorem test_wf_vocab : Instr.wf (.vocabRetire 8) = false := by decide
theorem test_wf_grammar : Instr.wf (.grammarRetire 64) = false := by decide
theorem test_wf_comparator : Instr.wf (.timeCmpFire 2) = false := by decide
theorem test_wf_flashSet : Instr.wf (.flashRebuildDone 2) = false := by decide
theorem test_wf_ssd : Instr.wf (.ssdFail 16) = false := by decide
theorem test_wf_ring : Instr.wf (.ringUnregister 65536) = false := by decide
theorem test_wf_link : Instr.wf (.linkUp 16) = false := by decide
theorem test_wf_device : Instr.wf (.routeHoldExpire 4096) = false := by decide
theorem test_wf_die : Instr.wf (.trapRecordHandle 4 false) = false := by decide
theorem test_wf_group : Instr.wf (.collTimeout 256 0) = false := by decide
theorem test_wf_ranger : Instr.wf (.rangerWatchdogExpire 8) = false := by decide
theorem test_wf_migration : Instr.wf (.inboundMigration 6 none) = false := by decide
theorem test_wf_lantern : Instr.wf (.versionReclaim 24) = false := by decide
theorem test_wf_stack : Instr.wf (.stackWake 12) = false := by decide
theorem test_wf_port : Instr.wf (.ethernetFrameReceive 5 false false) = false := by decide
theorem test_wf_island : Instr.wf (.timingFault 1024) = false := by decide
theorem test_wf_channel : Instr.wf (.dmaFault 0 8) = false := by decide
theorem test_wf_adapter : Instr.wf (.adapterQuery 0 1024) = false := by decide
theorem test_wf_sensor : Instr.wf (.tempPeakClear 0 48) = false := by decide
theorem test_wf_point : Instr.wf (.fwlogWrite 0 32768 0 0 []) = false := by decide
theorem test_wf_level : Instr.wf (.fwlogWrite 0 0 4 0 []) = false := by decide
theorem test_wf_controlOffset : Instr.wf (.registerWrite 4 0) = false := by decide
theorem test_wf_controlOffset_end : Instr.wf (.registerWrite 0x400000 0) = false := by decide
theorem test_wf_owner : Instr.wf (.fwlogWrite 0 0 0 64 []) = false := by decide
theorem test_wf_ends : [Instr.crewLaunch 255 255, .heldDescriptorAdmit 63 7, .tableRetire 255, .fwlogWrite 7 32767 3 0xFF [],
    .registerWrite 0x3FFFF8 0, .dmaFault 255 7, .versionReclaim 23].all Instr.wf = true := by decide

/-! Words written out from the fields of R96 and the opcode tables of R101 to R129: OPCODE, DST, SRCA, SRCB, SRCC, PRED,
PNEG, FUNC. -/

def tBits (op : BitVec 8) (d a b c : BitVec 6) (p : BitVec 3) (n : BitVec 1) (func : BitVec 28) : W64 :=
  op ++ d ++ a ++ b ++ c ++ p ++ n ++ func
theorem test_decode_iadd : instrAt 1 2 (tBits 0b00000001 0b000011 0b000100 0b000101 0 0b110 1 0) 0 =
    some (.iadd 1 2 ⟨3, 4, 5, 0, 6, true, 0⟩) := by decide +kernel
theorem test_decode_iadd_word : instrAt 0 0 0x010C414000000000 0 = some (.iadd 0 0 ⟨3, 4, 5, 0, 0, false, 0⟩) := by decide +kernel
theorem test_decode_bfe : instrAt 0 0 (tBits 0x18 1 2 0 0 0 0 0b100001000011) 0 =
    some (.bfe 0 0 ⟨1, 2, 0, 0, 0, false, 0x843⟩) := by decide +kernel
theorem test_decode_ffma : instrAt 0 0 (tBits 0x23 63 62 61 60 0 0 0) 0 = some (.ffma 0 0 ⟨63, 62, 61, 60, 0, false, 0⟩) := by
  decide +kernel
theorem test_decode_isetp : instrAt 0 0 (tBits 0x13 7 1 2 0 1 0 0b1010) 0 = some (.isetp 0 0 ⟨7, 1, 2, 0, 1, false, 10⟩) := by
  decide +kernel
theorem test_decode_umovi : instrAt 0 0 (tBits 0x42 15 0 0 0 0 0 0xFFFFFFF) 0 = some (.umovi 0 0 ⟨15, 0, 0, 0, 0, false, 0xFFFFFFF⟩) := by
  decide +kernel
theorem test_decode_bra : instrAt 0 0 (tBits 0x48 0 0 0 0 2 1 5) 0 = some (.bra 0 0 ⟨0, 0, 0, 0, 2, true, 5⟩) := by decide +kernel
theorem test_decode_loadDev : instrAt 0 0 (tBits 0x54 1 2 3 0 0 0 64) 0 = some (.loadDev 0 0 ⟨1, 2, 3, 0, 0, false, 64⟩) := by
  decide +kernel
theorem test_decode_atomLocal : instrAt 0 0 (tBits 0x57 1 2 3 4 0 0 3) 0 = some (.atomLocal 0 0 ⟨1, 2, 3, 4, 0, false, 3⟩) := by
  decide +kernel
theorem test_decode_evSignal : instrAt 0 0 (tBits 0x60 0 1 0 0 0 0 0) 0 = some (.evSignal 0 0 ⟨0, 1, 0, 0, 0, false, 0⟩) := by
  decide +kernel
theorem test_decode_trap : instrAt 0 0 (tBits 0x70 0 0 0 0 0 0 0xFFFF) 0 = some (.trap 0 0 ⟨0, 0, 0, 0, 0, false, 0xFFFF⟩) := by
  decide +kernel
theorem test_decode_trRun : instrAt 0 0 (tBits 0x83 0 1 2 0 0 0 0) 7 = some (.trRun 0 0 ⟨0, 1, 2, 0, 0, false, 0⟩ 7) := by
  decide +kernel
theorem test_decode_dmaLoad : instrAt 0 0 (tBits 0x90 0 1 2 3 0 0 0) 9 = some (.dmaLoad 0 0 ⟨0, 1, 2, 3, 0, false, 0⟩ 9) := by
  decide +kernel
theorem test_decode_merge : instrAt 0 0 (tBits 0x9B 0 1 2 3 0 0 1) 4 = some (.merge 0 0 ⟨0, 1, 2, 3, 0, false, 1⟩ 4) := by
  decide +kernel
theorem test_decode_smpFeed : instrAt 0 0 (tBits 0xA0 0 1 2 3 0 0 0) 0 = some (.smpFeed 0 0 ⟨0, 1, 2, 3, 0, false, 0⟩ 0) := by
  decide +kernel
/-- A reserved major opcode spells nothing. -/
theorem test_decode_reserved : instrAt 0 0 (tBits 0x4F 0 0 0 0 0 0 0) 0 = none := by decide +kernel
/-- The table gives no row bits. -/
theorem test_decodeTableWord : decodeTableWord 64 0x010C414000000000 = none := by decide

end Sys2Proof.Tests
end

section
/-! SUPPORT. What firing an injection, counting an event and logging a detection change (R495 to R499, R514), and the
accesses of the control window (R11, R12, R15). -/

namespace Sys2Proof.Machine

/-! An armed injection and an event counter change registers alone. -/

theorem State.fire_kept {α : Type} (p : State → α) (hw : ∀ s off v, p (State.wr s off v) = p s) (s : State)
    (isl det : Nat) : p (s.fire isl det).2 = p s := by
  unfold State.fire
  split
  · exact (hw _ _ _).trans ((hw _ _ _).trans (hw _ _ _))
  · rfl

@[simp] theorem State.fire_ras (s : State) (isl det : Nat) : (s.fire isl det).2.dev.ras = s.dev.ras :=
  State.fire_kept (·.dev.ras) (fun _ _ _ => rfl) s isl det

@[simp] theorem State.iodEvent_ras (s : State) (i code inst tent n : Nat) :
    (s.iodEvent i code inst tent n).dev.ras = s.dev.ras :=
  State.countEvent_kept (·.dev.ras) (fun _ _ _ => rfl) s _ _ _ _ _ _ _
@[simp] theorem State.iodEvent_mem (s : State) (i code inst tent n : Nat) :
    (s.iodEvent i code inst tent n).dev.mem = s.dev.mem :=
  State.countEvent_kept (·.dev.mem) (fun _ _ _ => rfl) s _ _ _ _ _ _ _
@[simp] theorem State.iodEvent_ethBadFcs (s : State) (i code inst tent n : Nat) :
    (s.iodEvent i code inst tent n).dev.ethBadFcs = s.dev.ethBadFcs :=
  State.countEvent_kept (·.dev.ethBadFcs) (fun _ _ _ => rfl) s _ _ _ _ _ _ _

/-! Logging a detection. -/

theorem State.countClass_kept {α : Type} (p : State → α) (hw : ∀ s off v, p (State.wr s off v) = p s) (s : State)
    (det sev : Nat) : p (s.countClass det sev) = p s := by
  unfold State.countClass
  dsimp only
  split
  · exact hw _ _ _
  · split
    · exact hw _ _ _
    · rfl

/-- An occurrence of severity 3 has no class counter (R496, R506). -/
theorem State.countClass_uncounted (s : State) (det sev : Nat) (h : 3 ≤ sev) : s.countClass det sev = s := by
  unfold State.countClass
  dsimp only
  rw [if_neg (by omega), if_neg (by omega)]

theorem State.errorSource_kept {α : Type} (p : State → α) (h : ∀ s f, p (State.modObs s f) = p s) (s : State)
    (det sev : Nat) (st : Stamp) : p (s.errorSource det sev st) = p s := by
  unfold State.errorSource
  dsimp only
  split
  · exact h s fun o => { o with source := some st }
  · rfl

/-- A detection that is not a corrected one puts one record, with its detector, severity, detail and address, behind
those on their way to the RAS unit. -/
theorem State.log_arrived (s : State) (isl : Nat) (r : ErrRec) (hs : r.severity ≠ 0) :
    ∃ x, (s.log isl r).dev.ras.arrived = s.dev.ras.arrived ++ [x] ∧ x.detector = r.detector ∧ x.severity = r.severity ∧
      x.detail = r.detail ∧ x.address = r.address := by
  have fired : (if r.detector < 0x0900 then (none, s) else s.fire isl r.detector).2.dev.ras = s.dev.ras := by
    split
    · rfl
    · exact s.fire_ras isl r.detector
  unfold State.log State.logAt
  generalize (if r.detector < 0x0900 then (none, s) else s.fire isl r.detector) = p at fired
  obtain ⟨inj, u⟩ := p
  dsimp only at fired ⊢
  rw [if_neg hs]
  refine ⟨_, congrArg (· ++ [_]) (congrArg RasSt.arrived ?_), rfl, rfl, rfl, rfl⟩
  rw [State.errorSource_kept (·.dev.ras) (fun _ _ => rfl), State.countClass_kept (·.dev.ras) (fun _ _ _ => rfl)]
  exact fired

/-- With nothing armed, logging an occurrence that no class counts changes no register. -/
theorem State.rd_log_uncounted (s : State) (isl : Nat) (r : ErrRec) (o : Nat) (hu : s.unarmed = true)
    (hs : 3 ≤ r.severity) : (s.log isl r).rd o = s.rd o := by
  have unfired : (if r.detector < 0x0900 then (none, s) else s.fire isl r.detector) = (none, s) := by
    rw [State.fire_unarmed _ _ _ hu, ite_self]
  unfold State.log State.logAt
  rw [unfired]
  dsimp only
  rw [if_neg (by omega), State.countClass_uncounted _ _ _ hs]
  exact State.errorSource_kept (·.rd o) (fun _ _ => rfl) _ _ _ _

/-! Accesses of the control window. -/

/-- An access that is not an aligned 64-bit one logs a PROTOCOL record of its offset and answers a read with ones. -/
theorem execMalformedControlAccess_eq (off size : Nat) (write : Bool) (s : State) (h : ¬ (off % 8 = 0 ∧ size = 8)) :
    execMalformedControlAccess off size write s = .next
      (if write then s.log islPort (protocolRec 1 12 off 9)
        else { s.log islPort (protocolRec 1 12 off 9) with
          dev := { (s.log islPort (protocolRec 1 12 off 9)).dev with portData := 0xFFFFFFFFFFFFFFFF } }) := if_neg h

theorem malformedControlAccess_logged (s : State) (off size : Nat) (write : Bool) (h : ¬ (off % 8 = 0 ∧ size = 8)) :
    ∃ t r, exec (.malformedControlAccess off size write) s = .next t ∧ t.dev.ras.arrived = s.dev.ras.arrived ++ [r] ∧
      r.detector = 0x1100 ∧ r.detail = 1 ∧ r.address = off ∧
      (write = false → t.dev.portData = 0xFFFFFFFFFFFFFFFF) ∧ (s.unarmed = true → ∀ o, t.rd o = s.rd o) := by
  obtain ⟨r, harr, hdet, -, hdetail, haddr⟩ := s.log_arrived islPort (protocolRec 1 12 off 9) (by decide : (3 : Nat) ≠ 0)
  have hrd (hu : s.unarmed = true) (o : Nat) : (s.log islPort (protocolRec 1 12 off 9)).rd o = s.rd o :=
    s.rd_log_uncounted islPort _ o hu (le_refl 3)
  refine ⟨_, r, execMalformedControlAccess_eq off size write s h, ?_⟩
  cases write with
  | true => exact ⟨harr, hdet, hdetail, haddr, nofun, hrd⟩
  | false => exact ⟨harr, hdet, hdetail, haddr, fun _ => rfl, hrd⟩

theorem State.findReg_of_writable {s : State} {off : Nat} {x : RegRow × Nat × Nat} (h : s.writable off = some x) :
    findReg off (regBlock off) = some x := by
  unfold State.writable at h
  split at h
  · cases h
  · rename_i hf
    split at h
    · exact hf.trans h
    · cases h

theorem State.writeReg_of_findReg (s : State) {off : Nat} {r : RegRow} {i j : Nat} (v : W64)
    (h : findReg off (regBlock off) = some (r, i, j)) : s.writeReg off v = s.wr off (fieldsWritten r.flds (s.rd off) v) := by
  unfold State.writeReg
  rw [h]

/-- A row without a guard takes a write by the access codes of its fields. -/
theorem State.regWrite_unguarded (s : State) (base i j off : Nat) (v : W64) (h : base ∉ guardedBases) :
    s.regWrite base i j off v = s.writeReg off v := by
  simp only [guardedBases, List.mem_cons, List.not_mem_nil, or_false, not_or] at h
  simp only [State.regWrite, h, or_self, if_false]

theorem exec_registerWrite_unguarded (s : State) (off : Nat) (v : W64) (r : RegRow) (i j : Nat)
    (hw : s.writable off = some (r, i, j)) (hrow : rowedWrite r.base v = false) (hg : r.base ∉ guardedBases) :
    exec (.registerWrite off v) s = .next (s.wr off (fieldsWritten r.flds (s.rd off) v)) := by
  change execRegisterWrite off v s = _
  unfold execRegisterWrite
  simp only [hw, hrow, Bool.false_eq_true, if_false, State.regWrite_unguarded _ _ _ _ _ _ hg,
    State.writeReg_of_findReg _ _ (State.findReg_of_writable hw)]

theorem State.flag_setFld_apart (s : State) (off : Nat) (f : Nat × Nat) (v : Nat) (g : Nat × Nat) (h : f.1 + f.2 ≤ 64)
    (d : g.1 + g.2 ≤ f.1 ∨ f.1 + f.2 ≤ g.1) : (s.setFld off f v).flag off g = s.flag off g := by
  simp [State.flag, State.fld_setFld_apart _ _ _ _ _ h d]

/-! The dump and the Ethernet ports. -/

/-- While FROZEN, with an aligned base and room in the host region, the dump's records are written at the base. -/
theorem execDumpGo_frozen (s : State) (hf : s.freezeState = 3) (ha : (s.rd rTimeDumpBase).toNat % 64 = 0)
    (hh : s.inHost (s.rd rTimeDumpBase).toNat (64 * s.heldCount) = true) :
    execDumpGo s = .next (((s.hostWrite (s.rd rTimeDumpBase).toNat s.dumpRecords.flatten).setFlag rTimeDumpCtl
      fTimeDumpCtlDone true).setFld rTimeDumpCtl fTimeDumpCtlRecords s.dumpRecords.length) := by
  unfold execDumpGo
  dsimp only
  rw [if_neg (not_not_intro hf), if_neg (by simp [ha, hh])]

theorem dumpGo_writes (s : State) (hf : s.freezeState = 3) (ha : (s.rd rTimeDumpBase).toNat % 64 = 0)
    (hh : s.inHost (s.rd rTimeDumpBase).toNat (64 * s.heldCount) = true) :
    ∃ t, exec .dumpGo s = .next t ∧ t.flag rTimeDumpCtl fTimeDumpCtlDone = true ∧
      t.dev.mem.host = s.dev.mem.host.write (s.rd rTimeDumpBase).toNat s.dumpRecords.flatten := by
  refine ⟨_, execDumpGo_frozen s hf ha hh, ?_, rfl⟩
  rw [State.flag_setFld_apart _ _ _ _ _ (by decide) (by decide)]
  exact State.flag_setFlag_same _ _ _ _ (by decide) rfl

/-- The record of a frame received with a bad FCS (R491), and whether an injection made it so. -/
def badFcsRec (injected : Bool) : ErrRec :=
  { detector := 0x0B00, severity := 1, action := 12, flags := if injected then 1 else 0 }

/-- A frame with a bad FCS fires the port's injection, is counted, and is logged. -/
theorem execEthernetFrameReceive_bad (s : State) (port : Nat) (fec : Bool) (h : s.hasEth port = true) :
    execEthernetFrameReceive port fec false s = .next
      (((s.fire (ethIsland port) 0x0B00).2.iodEvent (ethDie port) 0x20E 0 0xFF).log (ethIsland port)
        (badFcsRec (s.fire (ethIsland port) 0x0B00).1.isSome)) := by
  unfold execEthernetFrameReceive
  rw [h]
  rfl

theorem ethernetFrameReceive_bad_logged (s : State) (port : Nat) (fec : Bool) (h : s.hasEth port = true) :
    ∃ t r, exec (.ethernetFrameReceive port fec false) s = .next t ∧ t.dev.ras.arrived = s.dev.ras.arrived ++ [r] ∧
      r.detector = 0x0B00 ∧ r.severity = 1 := by
  have hx := execEthernetFrameReceive_bad s port fec h
  generalize hu : (s.fire (ethIsland port) 0x0B00).2.iodEvent (ethDie port) 0x20E 0 0xFF = u at hx
  obtain ⟨r, harr, hdet, hsev, -, -⟩ :=
    u.log_arrived (ethIsland port) (badFcsRec (s.fire (ethIsland port) 0x0B00).1.isSome) (by decide : (1 : Nat) ≠ 0)
  have hras : u.dev.ras = s.dev.ras := by rw [← hu, State.iodEvent_ras, State.fire_ras]
  exact ⟨_, r, hx, hras ▸ harr, hdet, hsev⟩

/-- With nothing armed, a good frame that FEC leaves alone is counted and nothing else. -/
theorem execEthernetFrameReceive_good (s : State) (port : Nat) (h : s.hasEth port = true) (hu : s.unarmed = true) :
    execEthernetFrameReceive port false true s = .next (s.iodEvent (ethDie port) 0x20E 0 0xFF) := by
  unfold execEthernetFrameReceive
  dsimp only
  rw [State.fire_unarmed _ _ _ hu, h]
  rfl

/-- Outside FAILSAFE a 400 GbE port of the part counts the frame, and its bad FCS where the bytes hold poison. -/
theorem execEthernetFrameTransmit_eq (s : State) (port a n : Nat) (h : s.hasEth port = true) (hp : port < 4)
    (hf : s.failsafe = false) :
    execEthernetFrameTransmit port a n s = .next { s.iodEvent (ethDie port) 0x20D 0 0xFF with
      dev := { (s.iodEvent (ethDie port) 0x20D 0 0xFF).dev with
        ethBadFcs := s.dev.ethBadFcs + (if s.dev.mem.host.poisoned a n then 1 else 0) } } := by
  unfold execEthernetFrameTransmit
  dsimp only
  rw [if_neg (by simp [h, hp, hf]), State.iodEvent_ethBadFcs, State.iodEvent_mem]

/-- Settles O19: each clause is the equation of its command, with what logging and counting leave alone. The order
of the dump's records and the count of frames sent with a bad FCS are deduced (log entries 202 and 204). -/
theorem controlWindow : Obligations.ControlWindow := by
  unfold Obligations.ControlWindow
  refine ⟨malformedControlAccess_logged, ?write, dumpGo_writes, ethernetFrameReceive_bad_logged, ?good, ?transmit⟩
  case write =>
    intro s off v r i j hw hrow hg
    exact ⟨_, exec_registerWrite_unguarded s off v r i j hw hrow hg, s.rd_wr_same off _,
      fun o ho => s.rd_wr_other off _ o ho, rfl, rfl, rfl⟩
  case good =>
    intro s port h hu
    exact ⟨_, execEthernetFrameReceive_good s port h hu, s.iodEvent_ras .., s.iodEvent_mem ..⟩
  case transmit =>
    intro s port a n h hp hf
    exact ⟨_, execEthernetFrameTransmit_eq s port a n h hp hf, rfl, s.iodEvent_mem ..⟩

/-! A step, and the state after reset. -/

/-- Settles O55: the front command is taken off the queue, and nothing else happens before it is performed. -/
theorem stepRunsFrontCommand : Obligations.StepRunsFrontCommand := fun _ _ _ => rfl

theorem State.rd_reset (o : Nat) : State.reset.rd o = regReset o := rfl

theorem State.crew_reset (b k : Nat) : State.reset.crew b k = none := rfl

theorem Store.byte_empty (a : Nat) : ({} : Store).byte a = 0 := rfl

theorem State.canonical_reset : State.reset.canonical = true := rfl

theorem State.freezeState_reset : State.reset.freezeState = 0 := by decide +kernel

theorem regReset_freezeTicks : regReset rTimeFreezeAt = noTick ∧ regReset rTimeResumeAt = noTick := by decide +kernel

theorem State.tentState_reset : ∀ n, n < 64 → State.reset.tentState n = 0 := by decide +kernel

theorem State.linkUp_reset : ∀ l, l < 16 → State.reset.linkUp l = false := by decide +kernel

/-- Settles O57: no store lists anything after reset, so a register reads its fields' reset values, a bay holds no crew
and a byte is 0 (log entry 3); the freeze, the tents and the links follow from the reset values of their registers. -/
theorem resetState : Obligations.ResetState := by
  unfold Obligations.ResetState
  obtain ⟨hfreeze, hresume⟩ := regReset_freezeTicks
  exact ⟨rfl, rfl, State.canonical_reset, State.rd_reset, State.freezeState_reset, hfreeze, hresume,
    State.tentState_reset, State.linkUp_reset, State.crew_reset, fun a => ⟨Store.byte_empty a, Store.byte_empty a⟩⟩

end Sys2Proof.Machine
end

section
/-! SUPPORT. Delivery on the coupler paths (R20, R50, R51). -/

namespace Sys2Proof.Machine

/-! The items of a path and of an island's inbox. -/

@[simp] theorem State.coupler_setCoupler_same (s : State) (src dst : Nat) (l : List Item) :
    (s.setCoupler src dst l).coupler src dst = l := SMap.get_set_same ..
@[simp] theorem State.inboxOf_setCoupler (s : State) (src dst : Nat) (l : List Item) (n : Nat) :
    (s.setCoupler src dst l).inboxOf n = s.inboxOf n := rfl

@[simp] theorem State.inboxOf_setInbox_same (s : State) (n : Nat) (l : List Item) : (s.setInbox n l).inboxOf n = l :=
  SMap.get_set_same ..
theorem State.inboxOf_setInbox_other (s : State) (n : Nat) (l : List Item) (m : Nat) (h : m ≠ n) :
    (s.setInbox n l).inboxOf m = s.inboxOf m := SMap.get_set_other _ _ _ _ _ h
@[simp] theorem State.coupler_setInbox (s : State) (n : Nat) (l : List Item) (src dst : Nat) :
    (s.setInbox n l).coupler src dst = s.coupler src dst := rfl
@[simp] theorem State.isl_setInbox (s : State) (n : Nat) (l : List Item) (m : Nat) :
    (s.setInbox n l).isl m = s.isl m := rfl

@[simp] theorem State.isl_setIsl_same (s : State) (n : Nat) (i : Island) : (s.setIsl n i).isl n = i :=
  SMap.get_set_same ..
@[simp] theorem State.coupler_receive (s : State) (n t src dst : Nat) :
    (s.receive n t).coupler src dst = s.coupler src dst := rfl
@[simp] theorem State.inboxOf_receive (s : State) (n t m : Nat) : (s.receive n t).inboxOf m = s.inboxOf m := rfl

/-- What an island receives raises its highest tick to at least the stamp's (R50). -/
theorem State.le_highTick_receive (s : State) (n t : Nat) : t ≤ ((s.receive n t).isl n).highTick := by
  simp [State.receive]

theorem State.coupler_send_same (s : State) (src dst : Nat) (i : Item) :
    (s.send src dst i).coupler src dst = s.coupler src dst ++ [i] := s.coupler_setCoupler_same src dst _

/-! Delivery. -/

/-- With no bit inverted and nothing armed the receiving coupler passes a payload unchanged. -/
theorem State.checkPayload_unarmed (s : State) (dst k : Nat) (ws : List PWord) (h : s.unarmed = true) :
    s.checkPayload dst [] k ws = (ws, s) := by
  induction ws generalizing k with
  | nil => rfl
  | cons w ws ih =>
    have hw : s.checkWord dst 0x0500 0 0 (flipsOf [] k) w = (w, s) := s.checkWord_unarmed _ _ _ _ w h
    simp only [State.checkPayload, hw, ih]

/-- The state once the oldest item `i` of a path has been taken, `is` are left, and the island has received its
stamp. -/
def State.taken (s : State) (src dst : Nat) (i : Item) (is : List Item) : State :=
  (s.setCoupler src dst is).receive dst i.stamp.tick

@[simp] theorem State.coupler_taken (s : State) (src dst : Nat) (i : Item) (is : List Item) :
    (s.taken src dst i is).coupler src dst = is := by simp [State.taken]
@[simp] theorem State.inboxOf_taken (s : State) (src dst : Nat) (i : Item) (is : List Item) (n : Nat) :
    (s.taken src dst i is).inboxOf n = s.inboxOf n := by simp [State.taken]
theorem State.le_highTick_taken (s : State) (src dst : Nat) (i : Item) (is : List Item) :
    i.stamp.tick ≤ ((s.taken src dst i is).isl dst).highTick := State.le_highTick_receive ..

/-- A clean delivery takes the oldest item, and puts it into the inbox unless it is a watermark. -/
theorem execCouplerDeliver_clean (s : State) (src dst : Nat) (i : Item) (is : List Item) (bridge : Nat)
    (hq : s.coupler src dst = i :: is) (hf : s.heldByFreeze dst = false) (hu : s.unarmed = true) :
    execCouplerDeliver src dst [] false bridge 0 s = .next (if i.kind = .watermark then s.taken src dst i is
      else (s.taken src dst i is).setInbox dst (s.inboxOf dst ++ [i])) := by
  have hpay : (s.setCoupler src dst is).checkPayload dst [] 0 i.payload = (i.payload, s.setCoupler src dst is) :=
    State.checkPayload_unarmed _ _ _ _ hu
  have htries : ¬ 0 ≥ 4 := by decide
  unfold execCouplerDeliver
  simp only [hq, hf, htries, State.logReplays, hpay, Bool.false_eq_true, if_false]
  split
  · rename_i hk
    rw [if_pos hk, State.taken]
  · rename_i hk
    rw [if_neg hk, State.taken, State.inboxOf_receive, State.inboxOf_setCoupler]

/-- An island that may originate puts a stamped watermark on a path that has been quiet for 64 ticks. -/
theorem execWatermarkSend_quiet (s : State) (src dst : Nat) (hb : s.blocked src = false)
    (hq : SMap.get (fun _ => 0) s.dev.couplerSent (couplerKey src dst) + 64 ≤ s.copy src) :
    execWatermarkSend src dst s = .next ((s.originate src).2.send src dst
      { stamp := (s.originate src).1, sender := src, holder := dst, kind := .watermark }) := by
  unfold execWatermarkSend
  rw [if_neg (by simp [hb, hq])]

/-- Settles O20: the check of a clean payload changes nothing, so the item taken is the item delivered. -/
theorem couplersDeliverInOrder : Obligations.CouplersDeliverInOrder := by
  unfold Obligations.CouplersDeliverInOrder
  refine ⟨?deliver, ?watermark⟩
  case deliver =>
    intro s src dst i is bridge hq hf hu
    refine ⟨_, execCouplerDeliver_clean s src dst i is bridge hq hf hu, ?_⟩
    have hhigh := s.le_highTick_taken src dst i is
    by_cases hk : i.kind = .watermark
    · simp [hk, hhigh]
    · simp only [hk, if_false, State.coupler_setInbox, State.coupler_taken, State.inboxOf_setInbox_same,
        State.isl_setInbox]
      exact ⟨trivial, trivial, hhigh, fun n hn => by rw [State.inboxOf_setInbox_other _ _ _ _ hn, State.inboxOf_taken]⟩
  case watermark =>
    intro s src dst hb hq
    exact ⟨_, _, execWatermarkSend_quiet s src dst hb hq, State.coupler_send_same .., rfl, rfl, rfl⟩

end Sys2Proof.Machine
end

section
/-! SUPPORT. What the changes of a request leave alone, and the parts of a leg's completion (R31, R335, R409). -/

namespace Sys2Proof.Machine

/-! A request after a change. -/

@[simp] theorem State.req_setReq_same (s : State) (n : Nat) (r : Option Request) : (s.setReq n r).req n = r :=
  SMap.get_set_same ..

/-- Changing a request that is there stores what the change makes of it. -/
theorem State.modReq_of_req {s : State} {n : Nat} {r : Request} (h : s.req n = some r) (f : Request → Request) :
    s.modReq n f = s.setReq n (some (f r)) := by
  unfold State.modReq
  rw [h]

theorem State.req_modReq_of_req {s : State} {n : Nat} {r : Request} (h : s.req n = some r) (f : Request → Request) :
    (s.modReq n f).req n = some (f r) := by
  rw [State.modReq_of_req h, State.req_setReq_same]

@[simp] theorem State.modReq_jrnl (s : State) (n : Nat) (f : Request → Request) :
    (s.modReq n f).dev.jrnl = s.dev.jrnl := by
  unfold State.modReq
  split <;> rfl

/-! An accounted contribution changes the host region and the account unit alone. -/

theorem State.acctApply_kept {α : Type} (p : State → α) (h : ∀ s a bs, p (State.hostWrite s a bs) = p s) (s : State)
    (c : Contrib) : p (s.acctApply c) = p s := by
  have put (s : State) (a n x : Nat) : p (s.hostPut a n x) = p s := h _ _ _
  have add (s : State) (a : Nat) : p (s.acctAdd a c) = p s := by
    simp only [State.acctAdd, State.hostAdd, put]
  rw [State.acctApply, add, add]

theorem State.contribute_kept {α : Type} (p : State → α) (hw : ∀ s a bs, p (State.hostWrite s a bs) = p s)
    (ha : ∀ s f, p (State.modAcct s f) = p s) (s : State) (c : Contrib) : p (s.contribute c) = p s := by
  unfold State.contribute
  split
  · rfl
  · split
    · exact ha s fun a => { a with late := a.late ++ [c] }
    · exact State.acctApply_kept p hw s c

@[simp] theorem State.req_contribute (s : State) (c : Contrib) (n : Nat) : (s.contribute c).req n = s.req n :=
  State.contribute_kept (·.req n) (fun _ _ _ => rfl) (fun _ _ => rfl) s c
@[simp] theorem State.contribute_jrnl (s : State) (c : Contrib) : (s.contribute c).dev.jrnl = s.dev.jrnl :=
  State.contribute_kept (·.dev.jrnl) (fun _ _ _ => rfl) (fun _ _ => rfl) s c

/-- The end of a cut changes of its request the ticks lost and the mark of the cut alone. -/
theorem State.req_endCut {s : State} {n : Nat} {r : Request} (h : s.req n = some r) (st : Stamp) :
    ∃ lost cut, (s.endCut n st).req n = some { r with preemptTicks := lost, cutSince := cut } := by
  unfold State.endCut
  rw [h]
  dsimp only
  split
  · exact ⟨_, _, h⟩
  · exact ⟨_, _, State.req_modReq_of_req ((State.req_contribute ..).trans h) _⟩

@[simp] theorem State.endCut_jrnl (s : State) (n : Nat) (st : Stamp) : (s.endCut n st).dev.jrnl = s.dev.jrnl := by
  unfold State.endCut
  split
  · rfl
  · split
    · rfl
    · simp

/-! The journal records of a leg. -/

theorem State.durability_traceAt (s : State) (st : Stamp) (ty tent a b fl t : Nat) :
    (s.traceAt st ty tent a b fl).durability t = s.durability t :=
  State.traceAt_kept (·.durability t) (fun _ _ => rfl) s _ _ _ _ _ _

theorem State.traceAt_jrnl (s : State) (st : Stamp) (ty tent a b fl : Nat) :
    (s.traceAt st ty tent a b fl).dev.jrnl = s.dev.jrnl :=
  State.traceAt_kept (·.dev.jrnl) (fun _ _ => rfl) s _ _ _ _ _ _

theorem State.req_traceAt (s : State) (st : Stamp) (ty tent a b fl n : Nat) :
    (s.traceAt st ty tent a b fl).req n = s.req n :=
  State.traceAt_kept (·.req n) (fun _ _ => rfl) s _ _ _ _ _ _

@[simp] theorem State.trace_jrnl (s : State) (isl ty tent a b fl : Nat) :
    (s.trace isl ty tent a b fl).dev.jrnl = s.dev.jrnl :=
  State.trace_kept (·.dev.jrnl) (fun _ _ _ => rfl) (fun _ _ => rfl) s _ _ _ _ _ _

@[simp] theorem State.req_trace (s : State) (isl ty tent a b fl n : Nat) :
    (s.trace isl ty tent a b fl).req n = s.req n :=
  State.trace_kept (·.req n) (fun _ _ _ => rfl) (fun _ _ => rfl) s _ _ _ _ _ _

theorem State.journalLeg_kept {α : Type} (p : State → α) (h : ∀ s x, p (State.sendJournal s x) = p s) (s : State)
    (r : Request) (st : Stamp) : p (s.journalLeg r st) = p s := by
  unfold State.journalLeg
  by_cases hcls : s.durability r.tent = 0
  · rw [if_pos hcls]
  · rw [if_neg hcls]
    clear hcls
    generalize r.legData st = l
    induction l generalizing s with
    | nil => rfl
    | cons d l ih => exact (ih _).trans (h _ _)

theorem State.req_journalLeg (s : State) (r : Request) (st : Stamp) (n : Nat) :
    (s.journalLeg r st).req n = s.req n :=
  State.journalLeg_kept (·.req n) (fun _ _ => rfl) s r st

/-- The data of a completed leg go to the journal behind what was sent before, none for a VOLATILE tent (R409, R410). -/
theorem State.sent_journalLeg (s : State) (r : Request) (st : Stamp) :
    (s.journalLeg r st).dev.jrnl.sent.map JRec.pay = s.dev.jrnl.sent.map JRec.pay ++
      (if s.durability r.tent = 0 then [] else (r.legData st).map fun d => .leg d.1 d.2) := by
  unfold State.journalLeg
  by_cases hcls : s.durability r.tent = 0
  · rw [if_pos hcls, if_pos hcls, List.append_nil]
  · rw [if_neg hcls, if_neg hcls]
    clear hcls
    generalize r.legData st = l
    induction l generalizing s with
    | nil => exact (List.append_nil _).symm
    | cons d l ih =>
      rw [List.foldl_cons, ih]
      simp [State.sendJournal, State.jrecFor]

/-! The next leg. -/

/-- After a leg that is not the last of its request the next is current and not ready. -/
theorem Request.nextLeg_more (r : Request) (st : Stamp) (covered : Bool)
    (h : ¬ (r.legs.length = 1 ∧ genKind r.kind = false)) : (r.nextLeg st covered).ready = false ∧
      (r.nextLeg st covered).ended = r.ended ∧ (r.nextLeg st covered).legs = r.legs.drop 1 := by
  unfold Request.nextLeg
  dsimp only
  rw [if_neg (by simpa using h)]
  exact ⟨rfl, rfl, rfl⟩

/-- Such a leg adds one group where it composes records, and none otherwise. -/
theorem Request.groups_nextLeg_more (r : Request) (st : Stamp) (covered : Bool)
    (h : ¬ (r.legs.length = 1 ∧ genKind r.kind = false)) : (r.nextLeg st covered).groups.length =
      r.groups.length + if r.legRecords st = [] then 0 else 1 := by
  unfold Request.nextLeg
  dsimp only
  rw [if_neg (by simpa using h)]
  split <;> simp

/-- A request that has not ended and is not closing ends with its status and stamp, and no leg is left. -/
theorem Request.end_open (r : Request) (status : Nat) (st : Stamp) (he : r.ended = none) (hc : r.closing = false) :
    (r.end_ status st).ended = some (status, st) ∧ (r.end_ status st).legs = [] ∧ (r.end_ status st).ready = false := by
  unfold Request.end_
  simp [he, hc]

/-- After its last leg a request that does not generate has ended OK_DONE (R335). -/
theorem Request.nextLeg_last (r : Request) (st : Stamp) (covered : Bool) (hl : r.legs.length = 1)
    (hk : genKind r.kind = false) (he : r.ended = none) (hc : r.closing = false) :
    (r.nextLeg st covered).ended = some (0, st) ∧ (r.nextLeg st covered).legs = [] ∧
      (r.nextLeg st covered).ready = false := by
  unfold Request.nextLeg
  dsimp only
  rw [if_pos (by simp [hl, hk])]
  exact Request.end_open _ 0 st he hc

theorem Request.endWait_kept {α : Type} (p : Request → α)
    (h : ∀ r w d, p { r with waitFrom := w, waited := d } = p r) (r : Request) (now : Nat) : p (r.endWait now) = p r := by
  unfold Request.endWait
  split
  · rfl
  · exact h _ _ _

/-- Whether the next leg waits or starts, its request's end, legs, groups and readiness stay. -/
theorem State.req_legReady {s : State} {n : Nat} {r : Request} (h : s.req n = some r) :
    ∃ p, (s.legReady n).req n = some p ∧ p.ready = r.ready ∧ p.ended = r.ended ∧ p.legs = r.legs ∧
      p.groups = r.groups := by
  unfold State.legReady
  rw [h]
  dsimp only
  split
  · exact ⟨r, h, rfl, rfl, rfl, rfl⟩
  · split
    · exact ⟨_, State.req_modReq_of_req h _, rfl, rfl, rfl, rfl⟩
    · unfold State.legStart
      rw [h]
      refine ⟨_, State.req_modReq_of_req ((State.req_trace ..).trans h) _, ?_, ?_, ?_, ?_⟩
      · exact Request.endWait_kept Request.ready (fun _ _ _ => rfl) r _
      · exact Request.endWait_kept Request.ended (fun _ _ _ => rfl) r _
      · exact Request.endWait_kept Request.legs (fun _ _ _ => rfl) r _
      · exact Request.endWait_kept Request.groups (fun _ _ _ => rfl) r _

@[simp] theorem State.legStart_jrnl (s : State) (n isl : Nat) : (s.legStart n isl).dev.jrnl = s.dev.jrnl := by
  unfold State.legStart
  split
  · rfl
  · simp

@[simp] theorem State.legReady_jrnl (s : State) (n : Nat) : (s.legReady n).dev.jrnl = s.dev.jrnl := by
  unfold State.legReady
  split
  · rfl
  · split
    · rfl
    · split <;> simp

/-! The commands. -/

theorem execEmbedLeg_good (s : State) (n : Nat) (r : Request) (vec : List W32) (hr : s.req n = some r)
    (hl : r.inLeg 2 = true) (hb : s.blocked (islSequencer r.home) = false) (hi : s.inputFault r = false) :
    execEmbedLeg n vec false s = .next (s.setReq n (some { r with vector := vec, ready := true })) := by
  unfold execEmbedLeg
  simp [hr, hl, hb, hi, State.modReq_of_req hr]

/-- The passages a RERANK leg keeps, in score order (R317). -/
def Request.reranked (r : Request) (scores : List PWord) (ps : List TextItem) : ResList :=
  selectTop 0 false (if r.kind = 3 then dPassages r.desc else dRerankDepth r.desc)
    ((scores.zip ps).map fun x => (x.1.data.toNat, x.2.id))

/-- A RERANK leg whose inputs and scores are good orders its passages by score. -/
theorem execRerankLeg_good (s : State) (n : Nat) (r : Request) (scores : List PWord) (es : List TElem) (s1 : State)
    (ps : List TextItem) (s2 : State) (hr : s.req n = some r) (hl : r.inLeg 5 = true)
    (hb : s.blocked (islSequencer r.home) = false)
    (ht : s.readTemplate r.tent (dPair r.desc) (s.reqVocab r).image 1 = .ok (es, s1))
    (hp : s1.rerankPassages r (s.reqVocab r) = .ok (ps, s2))
    (hfit : ∀ p ∈ ps, (buildPrompt es r.query [p.tokens]).length ≤
      s2.modelMax r.tent (if r.kind = 3 then dModel r.desc else dRerankSlot r.desc))
    (hlen : scores.length = ps.length) (hgood : ∀ x ∈ scores, x.poison = false) :
    execRerankLeg n scores s = .next ((s2.raise n (r.reranked scores ps).conditions).modReq n fun q =>
      { q with passages := ps, list := r.reranked scores ps, ready := true }) := by
  unfold execRerankLeg
  simp only [hr, hl, hb, ht, hp, bind, Except.bind, pure, Except.pure]
  rw [if_neg (by simp), if_neg (by simpa using hfit), if_neg (not_not_intro hlen),
    if_neg (by simpa using hgood)]
  rfl

/-- The passages that fit the budget of a PACK leg, best first, with their tokens (R321). -/
def Request.packKept (r : Request) (es : List TElem) : List (ResEntry × List Nat) :=
  let ranked := r.list.entries.map fun e => (e, r.passageTokens e.id)
  ranked.take (packRun (dBudget r.desc) (separator es) (fixedTokens es r.query) (ranked.map (·.2)))

/-- A PACK leg whose fixed tokens fit the budget packs what else fits. -/
theorem execPackLeg_good (s : State) (n : Nat) (r : Request) (es : List TElem) (s1 : State) (hr : s.req n = some r)
    (hl : r.inLeg 6 = true) (hb : s.blocked (islKerf r.kerf) = false)
    (ht : s.readTemplate r.tent (dTemplate r.desc) (s.reqVocab r).image 1 = .ok (es, s1))
    (hfit : fixedTokens es r.query ≤ dBudget r.desc) :
    execPackLeg n s = .next (s1.modReq n fun q => { q with
      packed := (r.packKept es).map fun e => (e.1.id, e.1.score, e.2.length)
      prompt := buildPrompt es r.query ((r.packKept es).map (·.2)), ready := true }) := by
  unfold execPackLeg
  simp only [hr, hl, hb, ht]
  rw [if_neg (by simp), if_neg (by omega)]
  rfl

/-- The state once a completed leg has been traced, its data sent to the journal and the ticks lost by a cut
accounted. -/
def State.legClosed (s : State) (n : Nat) (r : Request) : State :=
  let x := s.originate r.legIsland
  ((x.2.traceAt x.1 0x12 r.tent (r.legs.headD 0) n).journalLeg r x.1).endCut n x.1

/-- A ready leg with a good result closes and is taken away, and the next one may start. -/
theorem execLegComplete_good (s : State) (n : Nat) (r : Request) (hr : s.req n = some r) (hready : r.ready = true)
    (hl : r.legs ≠ []) (he : r.ended = none) (hbad : r.resultBad = false) (hb : s.blocked r.legIsland = false) :
    execLegComplete n s = .next (((s.legClosed n r).modReq n fun q => q.nextLeg (s.originate r.legIsland).1
      ((s.legClosed n r).durability r.tent == 0)).legReady n) := by
  unfold execLegComplete
  simp only [hr]
  rw [if_neg (by simp [hready, hl, he, hb]), if_neg (by simp [hbad])]
  rfl

/-- Closing a leg changes of its request the ticks lost and the mark of a cut alone. -/
theorem State.req_legClosed {s : State} {n : Nat} {r : Request} (h : s.req n = some r) :
    ∃ lost cut, (s.legClosed n r).req n = some { r with preemptTicks := lost, cutSince := cut } := by
  refine State.req_endCut ?_ _
  rw [State.req_journalLeg, State.req_traceAt]
  exact h

theorem State.sent_legClosed (s : State) (n : Nat) (r : Request) :
    (s.legClosed n r).dev.jrnl.sent.map JRec.pay = s.dev.jrnl.sent.map JRec.pay ++
      (if s.durability r.tent = 0 then [] else (r.legData (s.originate r.legIsland).1).map fun d => .leg d.1 d.2) := by
  unfold State.legClosed
  rw [State.endCut_jrnl, State.sent_journalLeg, State.traceAt_jrnl, State.durability_traceAt]
  rfl

/-- Settles O46: each command's equation for good inputs, and what closing a leg and readying the next leave of the
request. The passages of a RAG request are read in its RERANK leg (log entry 53). -/
theorem legsComplete : Obligations.LegsComplete := by
  unfold Obligations.LegsComplete
  refine ⟨fun s n r vec => execEmbedLeg_good s n r vec, ?rerank, ?pack, ?complete⟩
  case rerank =>
    intro s n r scores es s1 ps s2 hr hl hb ht hp hfit hlen hgood
    refine ⟨_, execRerankLeg_good s n r scores es s1 ps s2 hr hl hb ht hp hfit hlen hgood, fun p hq => ?_⟩
    exact State.req_modReq_of_req (State.req_modReq_of_req hq _) _
  case pack =>
    intro s n r es s1 hr hl hb ht hfit
    exact ⟨_, execPackLeg_good s n r es s1 hr hl hb ht hfit, fun p hp => State.req_modReq_of_req hp _⟩
  case complete =>
    intro s n r hr hready hl he hc hbad hb
    let st := (s.originate r.legIsland).1
    let covered := (s.legClosed n r).durability r.tent == 0
    obtain ⟨lost, cut, hclosed⟩ := State.req_legClosed hr
    let closed : Request := { r with preemptTicks := lost, cutSince := cut }
    obtain ⟨p, hp, hpr, hpe, hpl, hpg⟩ :=
      State.req_legReady (State.req_modReq_of_req hclosed fun q => q.nextLeg st covered)
    refine ⟨_, p, execLegComplete_good s n r hr hready hl he hbad hb, hp, ?_⟩
    rw [State.legReady_jrnl, State.modReq_jrnl, State.sent_legClosed, hpr, hpe, hpl, hpg]
    by_cases hlast : r.legs.length = 1 ∧ genKind r.kind = false
    · rw [if_pos hlast]
      obtain ⟨hended, hlegs, hnot⟩ := closed.nextLeg_last st covered hlast.1 hlast.2 he hc
      exact ⟨hnot, rfl, hended, hlegs⟩
    · rw [if_neg hlast]
      obtain ⟨hnot, hended, hlegs⟩ := closed.nextLeg_more st covered hlast
      exact ⟨hnot, rfl, hended.trans he, hlegs, closed.groups_nextLeg_more st covered hlast⟩

end Sys2Proof.Machine
end

section
/-! SUPPORT. The registers of the freeze after each of its transitions (R57 to R62), and the tick of an empty queue. -/

namespace Sys2Proof.Machine

/-! The state of the freeze. -/

theorem State.freezeState_setFreeze (s : State) (n : Nat) : (s.setFreeze n).freezeState = n % 8 :=
  s.fld_setFld_same rTimeFreezeStatus fTimeFreezeStatusState n (by decide)

/-- The other fields of TIME_FREEZE_STATUS lie above STATE. -/
theorem State.freezeState_setFld_above (s : State) (f : Nat × Nat) (v : Nat) (h : f.1 + f.2 ≤ 64) (above : 3 ≤ f.1) :
    (s.setFld rTimeFreezeStatus f v).freezeState = s.freezeState :=
  s.fld_setFld_apart rTimeFreezeStatus f v fTimeFreezeStatusState h (.inl above)

theorem State.freezeState_freezeFlag (s : State) (f : Nat × Nat) (h : f.1 + f.2 ≤ 64) (above : 3 ≤ f.1) :
    (s.freezeFlag f).freezeState = s.freezeState := s.freezeState_setFld_above f _ h above

theorem State.freezeState_wr_other (s : State) (off : Nat) (v : W64) (h : rTimeFreezeStatus ≠ off) :
    (s.wr off v).freezeState = s.freezeState := s.fld_wr_other off v _ _ h

theorem State.rd_setFreeze_other (s : State) (n o : Nat) (h : o ≠ rTimeFreezeStatus) :
    (s.setFreeze n).rd o = s.rd o := s.rd_setFld_other _ _ _ _ h

theorem State.rd_freezeFlag_other (s : State) (f : Nat × Nat) (o : Nat) (h : o ≠ rTimeFreezeStatus) :
    (s.freezeFlag f).rd o = s.rd o := s.rd_setFlag_other _ _ _ _ h

/-! Ending and arming a freeze. -/

theorem State.freezeState_freezeIdle (s : State) : s.freezeIdle.freezeState = 0 := by
  unfold State.freezeIdle State.freezeState
  rw [State.fld_setFlag_other _ _ _ _ _ _ (by decide), State.fld_setFlag_apart _ _ _ _ _ (by decide) (by decide),
    State.fld_setFld_apart _ _ _ _ _ (by decide) (by decide), State.fld_wr_other _ _ _ _ _ (by decide),
    State.fld_wr_other _ _ _ _ _ (by decide)]
  exact s.freezeState_setFreeze 0

theorem State.freezeAt_freezeIdle (s : State) : s.freezeIdle.rd rTimeFreezeAt = noTick := by
  unfold State.freezeIdle
  rw [State.rd_setFlag_other _ _ _ _ _ (by decide), State.rd_setFlag_other _ _ _ _ _ (by decide),
    State.rd_setFld_other _ _ _ _ _ (by decide), State.rd_wr_other _ _ _ _ (by decide), State.rd_wr_same]

theorem State.resumeAt_freezeIdle (s : State) : s.freezeIdle.rd rTimeResumeAt = noTick := by
  unfold State.freezeIdle
  rw [State.rd_setFlag_other _ _ _ _ _ (by decide), State.rd_setFlag_other _ _ _ _ _ (by decide),
    State.rd_setFld_other _ _ _ _ _ (by decide), State.rd_wr_same]

theorem State.disarm_armed (s : State) (late : Nat × Nat) (h1 : s.freezeState = 1)
    (lead : s.ao.tick + 1000 ≤ (s.rd rTimeFreezeAt).toNat) : s.disarm late = s.freezeIdle := by
  unfold State.disarm
  rw [if_neg (by omega), if_pos h1, if_pos lead]

/-- The state in which a local freeze is armed at tick `u` (R58). -/
def State.armedLocal (s : State) (u : W64) : State :=
  (((s.wr rTimeFreezeAt u).setFreeze 1).setFlag rTimeFreezeStatus fTimeFreezeStatusScopeFabric false).setFld
    rTimeFreezeStatus fTimeFreezeStatusPeersAcked 0

theorem execFreezeArm_local (s : State) (u : W64) (hu : u ≠ noTick) (h2 : s.freezeState < 2)
    (lead : s.ao.tick + 2000 ≤ u.toNat) (here : s.flag rTimeFreezeCtl fTimeFreezeCtlScope = false) :
    execFreezeArm u s = .next (s.armedLocal u) := by
  unfold execFreezeArm State.armFreeze
  rw [if_neg hu, here]
  dsimp only
  rw [if_neg (by omega), if_neg (by simpa using lead)]
  rfl

theorem State.freezeState_armedLocal (s : State) (u : W64) : (s.armedLocal u).freezeState = 1 := by
  unfold State.armedLocal
  rw [State.freezeState_setFld_above _ _ _ (by decide) (by decide), State.setFlag,
    State.freezeState_setFld_above _ _ _ (by decide) (by decide), State.freezeState_setFreeze]

theorem State.rd_armedLocal (s : State) (u : W64) (o : Nat) (h : o ≠ rTimeFreezeStatus) :
    (s.armedLocal u).rd o = if o = rTimeFreezeAt then u else s.rd o := by
  unfold State.armedLocal
  rw [State.rd_setFld_other _ _ _ _ _ h, State.rd_setFlag_other _ _ _ _ _ h, State.rd_setFreeze_other _ _ _ h,
    State.rd_wr]

/-! The obligations. -/

/-- Settles O21: each command's transition, and the registers after it. -/
theorem freezeStates : Obligations.FreezeStates := by
  unfold Obligations.FreezeStates
  refine ⟨?arm, ?disarm, ?drain, ?settle, ?resume, ?early, ?resumed, ?ack⟩
  case arm =>
    intro s u hu h2 lead here
    exact ⟨_, execFreezeArm_local s u hu h2 lead here, s.freezeState_armedLocal u, s.rd_armedLocal u _ (by decide),
      s.rd_armedLocal u _ (by decide)⟩
  case disarm =>
    intro s h1 lead c hc
    refine ⟨s.freezeIdle, ?_, s.freezeState_freezeIdle, s.freezeAt_freezeIdle, s.resumeAt_freezeIdle⟩
    rcases List.mem_pair.1 hc with rfl | rfl
    · exact congrArg _ (s.disarm_armed fTimeFreezeStatusInProgress h1 lead)
    · exact congrArg _ (s.disarm_armed fTimeFreezeStatusCancelRefused h1 lead)
  case drain =>
    intro s h1 due
    exact ⟨_, if_pos ⟨h1, due⟩, State.freezeState_setFreeze _ 2, State.rd_setFreeze_other _ _ _ (by decide)⟩
  case settle =>
    intro s h2 due
    refine ⟨_, if_pos ⟨h2, due⟩, ?_, State.fld_setFld_same _ _ _ _ (by decide)⟩
    rw [State.freezeState_setFld_above _ _ _ (by decide) (by decide), State.freezeState_setFreeze]
  case resume =>
    intro s u h3 lead here
    refine ⟨(s.wr rTimeResumeAt u).setFreeze 4, ?_, State.freezeState_setFreeze _ 4, ?_⟩
    · have kept : ((s.wr rTimeResumeAt u).setFreeze 4).flag rTimeFreezeStatus fTimeFreezeStatusScopeFabric = false := by
        rw [State.setFreeze, State.flag_setFld_apart _ _ _ _ _ (by decide) (by decide), State.flag,
          State.fld_wr_other _ _ _ _ _ (by decide)]
        exact here
      change execResumeArm u s = _
      unfold execResumeArm
      rw [if_pos ⟨h3, lead⟩]
      dsimp only
      rw [kept]
      rfl
    · rw [State.rd_setFreeze_other _ _ _ (by decide), State.rd_wr_same]
  case early =>
    intro s u h3
    exact ⟨s.freezeFlag fTimeFreezeStatusTooSoon, if_neg fun h => h3 h.1,
      s.freezeState_freezeFlag _ (by decide) (by decide), s.rd_freezeFlag_other _ _ (by decide),
      s.rd_freezeFlag_other _ _ (by decide)⟩
  case resumed =>
    intro s h4 due
    exact ⟨_, if_pos ⟨h4, due⟩, State.freezeState_freezeIdle _, State.freezeAt_freezeIdle _, rfl⟩
  case ack =>
    intro s fabric h0
    refine ⟨_, if_pos ⟨fabric, h0⟩, s.freezeState_setFld_above _ _ (by decide) (by decide), ?_⟩
    change (s.setFld rTimeFreezeStatus fTimeFreezeStatusPeersAcked _).fld _ _ = _
    rw [State.fld_setFld_same _ _ _ _ (by decide)]
    exact Nat.mod_eq_of_lt (by simp only [fTimeFreezeStatusPeersAcked]; omega)

/-- Settles O56, from the empty queue's arm of `step`. -/
theorem emptyQueueTicks : Obligations.EmptyQueueTicks := by
  unfold Obligations.EmptyQueueTicks
  intro s empty
  refine ⟨s.tickOn, ?_, rfl, rfl, rfl, rfl, rfl, empty⟩
  unfold step
  rw [empty]

end Sys2Proof.Machine
end

section
/-! SUPPORT. Entering FAILSAFE (R503 to R505, R582), the beacons, the pulse pins, the PTP mapping and the compare
registers (R40 to R47, R556). -/

namespace Sys2Proof.Machine

/-! What keeps the part in FAILSAFE: RAS_FAILSAFE.ACTIVE is cleared by none of the operations of an entry. -/

theorem State.fld_of_regs {s t : State} (h : t.dev.regs = s.dev.regs) (off : Nat) (f : Nat × Nat) :
    t.fld off f = s.fld off f := by
  unfold State.fld State.rd
  rw [h]

theorem State.flag_of_regs {s t : State} (h : t.dev.regs = s.dev.regs) (off : Nat) (f : Nat × Nat) :
    t.flag off f = s.flag off f := by
  unfold State.flag
  rw [State.fld_of_regs h]

theorem State.failsafe_of_regs {s t : State} (h : t.dev.regs = s.dev.regs) : t.failsafe = s.failsafe :=
  State.flag_of_regs h _ _

theorem State.failsafe_modFab (s : State) (f : FabricSt → FabricSt) : (s.modFab f).failsafe = s.failsafe := rfl

theorem State.failsafe_wr_other (s : State) (off : Nat) (v : W64) (h : rRasFailsafe ≠ off) :
    (s.wr off v).failsafe = s.failsafe := by
  simp only [State.failsafe, State.flag, State.fld_wr_other _ _ _ _ _ h]

theorem State.failsafe_setFld_other (s : State) (off : Nat) (f : Nat × Nat) (v : Nat) (h : rRasFailsafe ≠ off) :
    (s.setFld off f v).failsafe = s.failsafe := s.failsafe_wr_other _ _ h

/-- The other fields of RAS_FAILSAFE lie above ACTIVE. -/
theorem State.failsafe_setFld_above (s : State) (f : Nat × Nat) (v : Nat) (h : f.1 + f.2 ≤ 64) (above : 1 ≤ f.1) :
    (s.setFld rRasFailsafe f v).failsafe = s.failsafe := s.flag_setFld_apart _ _ _ _ h (.inl above)

@[simp] theorem State.failsafe_fire (s : State) (isl det : Nat) : (s.fire isl det).2.failsafe = s.failsafe := by
  unfold State.fire
  split
  · exact (State.failsafe_setFld_other _ _ _ _ (by decide)).trans
      ((State.failsafe_setFld_other _ _ _ _ (by decide)).trans (State.failsafe_setFld_other _ _ _ _ (by decide)))
  · rfl

@[simp] theorem State.failsafe_countClass (s : State) (det sev : Nat) : (s.countClass det sev).failsafe = s.failsafe := by
  have apart : rRasFailsafe ≠ rRasClassCount (det / 256) := by
    unfold rRasFailsafe rRasClassCount
    omega
  unfold State.countClass
  dsimp only
  split
  · exact s.failsafe_setFld_other _ _ _ apart
  · split
    · exact s.failsafe_setFld_other _ _ _ apart
    · rfl

/-- A detection that is logged leaves the part in FAILSAFE or out of it. -/
theorem State.failsafe_logAt (s : State) (isl : Nat) (r : ErrRec) : (s.logAt isl r).2.failsafe = s.failsafe := by
  have fired : (if r.detector < 0x0900 then (none, s) else s.fire isl r.detector).2.failsafe = s.failsafe := by
    split
    · rfl
    · exact s.failsafe_fire isl r.detector
  unfold State.logAt
  generalize (if r.detector < 0x0900 then (none, s) else s.fire isl r.detector) = p at fired
  obtain ⟨inj, u⟩ := p
  have counted : (((u.originate isl).2.countClass r.detector r.severity).errorSource r.detector r.severity
      (u.originate isl).1).failsafe = s.failsafe :=
    calc
      _ = ((u.originate isl).2.countClass r.detector r.severity).failsafe :=
        State.errorSource_kept State.failsafe (fun _ _ => rfl) _ _ _ _
      _ = u.failsafe := State.failsafe_countClass _ _ _
      _ = s.failsafe := fired
  dsimp only
  split
  · exact counted
  · exact counted

theorem State.failsafe_failStamp (s : State) (isl : Nat) (r : ErrRec) (cause : Nat) :
    (s.failStamp isl r cause).2.failsafe = s.failsafe :=
  s.failsafe_logAt isl { r with severity := 2, action := 11, detail := cause }

theorem State.modReq_regs (s : State) (n : Nat) (f : Request → Request) : (s.modReq n f).dev.regs = s.dev.regs := by
  unfold State.modReq
  split
  · rfl
  · rfl

theorem State.failTent_regs (s : State) (f : Stamp) (t : Nat) : (s.failTent f t).dev.regs = s.dev.regs := by
  have ended (ns : List Nat) (u : State) : (ns.foldl (fun s n => s.endRequest n 0x41 f) u).dev.regs = u.dev.regs := by
    induction ns generalizing u with
    | nil => rfl
    | cons n ns ih => exact (ih _).trans (u.modReq_regs n _)
  exact ended _ _

theorem State.failsafe_failTents (ts : List Nat) (f : Stamp) (s : State) :
    (ts.foldl (fun s t => s.failTent f t) s).failsafe = s.failsafe := by
  induction ts generalizing s with
  | nil => rfl
  | cons t ts ih => exact (ih _).trans (State.failsafe_of_regs (s.failTent_regs f t))

theorem State.failsafe_writeEvent (s : State) (e : FwEvent) : (s.writeEvent e).failsafe = s.failsafe := by
  have tail (u : State) (f : Nat × Nat) (v : Nat) : (u.setFld rFwEvtqTail f v).failsafe = u.failsafe :=
    u.failsafe_setFld_other _ _ _ (by decide)
  have host (u : State) (a : Nat) (bs : List Byte) : (u.hostWrite a bs).failsafe = u.failsafe := rfl
  have interrupt (u : State) (f : FwSt → FwSt) : (u.modFw f).failsafe = u.failsafe := rfl
  simp only [State.writeEvent, apply_ite State.failsafe, interrupt, tail, host, ite_self]

theorem State.failsafe_postEvent (s : State) (core type status tag : Nat) (args : List Nat) :
    (s.postEvent core type status tag args).failsafe = s.failsafe := by
  unfold State.postEvent
  split
  · rfl
  · dsimp only
    split
    · exact State.failsafe_writeEvent _ _
    · split
      · exact State.failsafe_setFld_other _ _ _ _ (by decide)
      · rfl

/-! Entering FAILSAFE. -/

/-- The latest record of the management log is the one just appended. -/
theorem State.getLast_mgmtLog (s : State) (type result source keyTag arg0 arg1 : Nat) :
    ∃ r, (s.mgmtLog type result source keyTag arg0 arg1).nv.mgmt.log.getLast? = some r ∧ r.type = type ∧
      r.arg0 = arg0 := by
  have kept (l : List MgmtRec) (r : MgmtRec) : ((l ++ [r]).drop (l.length + 1 - 65536)).getLast? = some r := by
    rw [List.getLast?_drop, if_neg (by simp), List.getLast?_concat]
  unfold State.mgmtLog State.modMgmt
  dsimp only
  rw [kept]
  exact ⟨_, rfl, rfl, rfl⟩

theorem State.mgmtLog_regs (s : State) (type result source keyTag arg0 arg1 : Nat) :
    (s.mgmtLog type result source keyTag arg0 arg1).dev.regs = s.dev.regs := by
  unfold State.mgmtLog
  dsimp only
  rw [State.modMgmt_dev]
  rfl

theorem State.mgmtLog_ao (s : State) (type result source keyTag arg0 arg1 : Nat) :
    (s.mgmtLog type result source keyTag arg0 arg1).ao = s.ao := by
  unfold State.mgmtLog
  dsimp only
  rw [State.modMgmt_ao]
  rfl

theorem State.failsafe_mgmtLog (s : State) (type result source keyTag arg0 arg1 : Nat) :
    (s.mgmtLog type result source keyTag arg0 arg1).failsafe = s.failsafe :=
  State.failsafe_of_regs (s.mgmtLog_regs ..)

/-- The tail of an entry, once ACTIVE is set: the tents are stopped, firmware and Lookout are told (R504, R535, R549). -/
theorem State.inFailsafe_told (s : State) (f : Stamp) (ts : List Nat) (core cause : Nat) (h : s.failsafe = true) :
    InFailsafe (((ts.foldl (fun s t => s.failTent f t) s).postEvent core 5 0 0 [cause]).mgmtLog 10 0 0 0 cause) cause := by
  refine ⟨?_, State.getLast_mgmtLog _ 10 0 0 0 cause 0⟩
  rw [State.failsafe_mgmtLog, State.failsafe_postEvent, State.failsafe_failTents, h]

/-- An entry puts the part in FAILSAFE whether or not it was in it before. -/
theorem State.inFailsafe_enterFailsafe (s : State) (isl : Nat) (r : ErrRec) (cause : Nat) (scope : Option Nat) :
    InFailsafe (s.enterFailsafe isl r cause scope) cause := by
  have stamped := s.failsafe_failStamp isl r cause
  unfold State.enterFailsafe
  generalize s.failStamp isl r cause = p at stamped
  obtain ⟨f, u⟩ := p
  dsimp only at stamped ⊢
  have tents (v : State) (x : W64) : (v.wr rRasFailsafeTents x).failsafe = v.failsafe :=
    v.failsafe_wr_other _ _ (by decide)
  have scopeAll (v : State) : (v.setFlag rRasFailsafe fRasFailsafeScopeAll true).failsafe = v.failsafe :=
    v.failsafe_setFld_above _ _ (by decide) (by decide)
  have active : (if !s.flag rRasFailsafe fRasFailsafeActive then
      ((u.setFlag rRasFailsafe fRasFailsafeActive true).setFld rRasFailsafe fRasFailsafeCause cause).wr rRasFailsafeTick
        (BitVec.ofNat 64 f.tick) else u).failsafe = true := by
    split
    · rw [State.failsafe_wr_other _ _ _ (by decide), State.failsafe_setFld_above _ _ _ (by decide) (by decide)]
      exact u.flag_setFlag_same _ _ _ (by decide) rfl
    · next first => exact stamped.trans (by simpa [State.failsafe] using first)
  refine State.inFailsafe_told _ f _ _ cause ?_
  rw [State.failsafe_modFab, tents]
  split
  · exact (scopeAll _).trans active
  · exact active

/-! Beacons. -/

theorem State.isl_setIsl_other (s : State) (n : Nat) (i : Island) (m : Nat) (h : m ≠ n) : (s.setIsl n i).isl m = s.isl m :=
  SMap.get_set_other _ _ _ _ _ h

theorem State.isl_noteSkew (s : State) (n : Nat) (d : Int) (m : Nat) : (s.noteSkew n d).isl m = s.isl m := by
  have register (u : State) (o : Nat) (f : Nat × Nat) (v : Nat) : (u.setFld o f v).isl m = u.isl m := rfl
  unfold State.noteSkew
  split
  · rw [register, register]
  · rfl

/-- A beacon at an island checks its copy, and no other island's. -/
theorem State.isl_beaconAt (s : State) (n : Nat) (d : Int) (h : s.isIsland n = true) (m : Nat) :
    (s.beaconAt n d).isl m = if m = n then (s.isl n).beacon s.ao.tick d else s.isl m := by
  unfold State.beaconAt
  rw [if_pos h]
  dsimp only
  by_cases same : m = n
  · rw [if_pos same, same, State.isl_setIsl_same]
  · rw [if_neg same, State.isl_setIsl_other _ _ _ _ same]
    split
    · rfl
    · exact s.isl_noteSkew n _ m

/-! The compare registers. -/

theorem testBit_setBit_true (x i : Nat) : (setBit x i true).testBit i = true := by
  unfold setBit
  split
  · assumption
  · next clear => rw [if_pos rfl, Nat.add_comm, Nat.testBit_two_pow_add_eq, eq_false_of_ne_true clear]; rfl

/-- The flag by which a comparator wakes the part. -/
def wakeFlag (k : Nat) : Nat × Nat := if k = 0 then fPwrWakeCfgCmp0Wake else fPwrWakeCfgCmp1Wake

@[simp] theorem State.cmpDone_setCmpDone (s : State) (k : Nat) (b : Bool) : (s.setCmpDone k b).cmpDone k = b := by
  unfold State.setCmpDone State.cmpDone
  split
  · rfl
  · rfl

/-- A comparator is marked as fired. -/
def State.cmpMarked (s : State) (k : Nat) : State :=
  (s.setCmpDone k true).setFld rPwrTripStatus fPwrTripStatusCmpFired
    (setBit ((s.setCmpDone k true).fld rPwrTripStatus fPwrTripStatusCmpFired) k true)

theorem State.cmpFired_cmpMarked (s : State) (k : Nat) (hk : k < 2) :
    ((s.cmpMarked k).fld rPwrTripStatus fPwrTripStatusCmpFired).testBit k = true := by
  unfold State.cmpMarked
  rw [State.fld_setFld_same _ _ _ _ (by decide), Nat.testBit_mod_two_pow, testBit_setBit_true]
  simpa [fPwrTripStatusCmpFired] using hk

theorem State.wakeFlag_cmpMarked (s : State) (k : Nat) :
    (s.cmpMarked k).flag rPwrWakeCfg (wakeFlag k) = s.flag rPwrWakeCfg (wakeFlag k) :=
  State.flag_setFld_other _ _ _ _ _ _ (by decide)

/-- The management log record of a comparator that fires. -/
def State.cmpLogged (s : State) (k : Nat) : State := s.drawFree.2.mgmtLog (s.drawFree.1 % 2 ^ 16) 0 0 0 k

theorem State.cmpLogged_regs (s : State) (k : Nat) : (s.cmpLogged k).dev.regs = s.dev.regs := State.mgmtLog_regs ..

theorem State.cmpDone_cmpLogged (s : State) (k j : Nat) : (s.cmpLogged k).cmpDone j = s.cmpDone j := by
  unfold State.cmpDone State.cmpLogged
  rw [State.mgmtLog_ao]
  rfl

theorem State.cmpFire_eq (s : State) (k : Nat) : s.cmpFire k =
    if ((s.cmpMarked k).cmpLogged k).flag rPwrWakeCfg (wakeFlag k) then ((s.cmpMarked k).cmpLogged k).wakeEvent (7 + k)
    else (s.cmpMarked k).cmpLogged k := rfl

/-- A comparator that fires without waking the part is done, and CMP_FIRED says so (R47). -/
theorem State.cmpFire_fired (s : State) (k : Nat) (hk : k < 2) (asleep : s.flag rPwrWakeCfg (wakeFlag k) = false) :
    (s.cmpFire k).cmpDone k = true ∧ ((s.cmpFire k).fld rPwrTripStatus fPwrTripStatusCmpFired).testBit k = true := by
  have regs := (s.cmpMarked k).cmpLogged_regs k
  rw [State.cmpFire_eq, State.flag_of_regs regs, State.wakeFlag_cmpMarked, asleep, if_neg Bool.false_ne_true,
    State.cmpDone_cmpLogged, State.fld_of_regs regs]
  exact ⟨s.cmpDone_setCmpDone k true, s.cmpFired_cmpMarked k hk⟩

theorem State.cmpReg_ne_wakeCfg (k : Nat) : rPwrWakeCfg ≠ State.cmpReg k := by
  unfold State.cmpReg
  split
  · decide
  · decide

/-- The state after a value is written to a compare register (R47). -/
def State.cmpWritten (s : State) (k : Nat) (v : W64) : State := (s.wr (State.cmpReg k) v).setCmpDone k false

theorem execTimeCmpWrite_ahead (s : State) (k : Nat) (v : W64) (hk : k < 2) (ahead : s.ao.tick < v.toNat) :
    execTimeCmpWrite k v s = .next (s.cmpWritten k v) := by
  have now : (s.cmpWritten k v).ao.tick = s.ao.tick := by
    unfold State.cmpWritten State.setCmpDone
    split <;> rfl
  unfold execTimeCmpWrite
  rw [if_neg (by omega)]
  exact congrArg _ (if_neg (show ¬ v.toNat ≤ (s.cmpWritten k v).ao.tick by omega))

theorem execTimeCmpWrite_past (s : State) (k : Nat) (v : W64) (hk : k < 2) (past : v.toNat ≤ s.ao.tick) :
    execTimeCmpWrite k v s = .next ((s.cmpWritten k v).cmpFire k) := by
  have now : (s.cmpWritten k v).ao.tick = s.ao.tick := by
    unfold State.cmpWritten State.setCmpDone
    split <;> rfl
  unfold execTimeCmpWrite
  rw [if_neg (by omega)]
  exact congrArg _ (if_pos (past.trans now.ge))

theorem execTimeCmpFire_due (s : State) (k : Nat) (hk : k < 2) (waits : s.cmpDone k = false) (up : s.ao.s1 = false)
    (due : (s.rd (State.cmpReg k)).toNat ≤ s.ao.tick) : execTimeCmpFire k s = .next (s.cmpFire k) := by
  unfold execTimeCmpFire
  rw [if_neg (by simp [waits, hk]), up, if_neg Bool.false_ne_true, if_pos due]

/-! The PTP mapping and the pulse pins. -/

/-- The mapping that reads back, with UPDATE_SEQ two higher (R44). -/
theorem ptpMappingUpdate_reads (s : State) (offset : W64) (rate : W32) (p : Nat) :
    ∃ t, exec (.ptpMappingUpdate offset rate p) s = .next t ∧ t.rd rTimePtpOffset = offset ∧
      t.rd rTimePtpBase = BitVec.ofNat 64 s.ao.tick ∧ t.fld rTimePtpStatus fTimePtpStatusRatePpb = rate.toNat ∧
      t.fld rTimePtpStatus fTimePtpStatusUpdateSeq =
        (s.fld rTimePtpStatus fTimePtpStatusUpdateSeq + 2) % 2 ^ fTimePtpStatusUpdateSeq.2 := by
  refine ⟨_, rfl, ?offset, ?base, ?rate, ?seq⟩
  case offset =>
    rw [State.rd_setFld_other _ _ _ _ _ (by decide), State.rd_setFld_other _ _ _ _ _ (by decide),
      State.rd_setFld_other _ _ _ _ _ (by decide), State.rd_wr_other _ _ _ _ (by decide), State.rd_wr_same]
  case base =>
    rw [State.rd_setFld_other _ _ _ _ _ (by decide), State.rd_setFld_other _ _ _ _ _ (by decide),
      State.rd_setFld_other _ _ _ _ _ (by decide), State.rd_wr_same]
  case rate =>
    rw [State.fld_setFld_apart _ _ _ _ _ (by decide) (by decide), State.fld_setFld_apart _ _ _ _ _ (by decide) (by decide),
      State.fld_setFld_same _ _ _ _ (by decide)]
    exact Nat.mod_eq_of_lt rate.isLt
  case seq => exact State.fld_setFld_same _ _ _ _ (by decide)

/-- With the mapping not locked, PPS_OUT rises at each multiple of 10⁹ ticks (R46). -/
theorem execPpsOutEdge_unlocked (s : State) (unlocked : s.fld rTimePtpStatus fTimePtpStatusPtpState ≠ 2)
    (whole : s.ao.tick % 1000000000 = 0) :
    execPpsOutEdge s = .next { s with ao := { s.ao with ppsOut := some s.ao.tick } } := by
  unfold execPpsOutEdge
  dsimp only
  rw [if_neg unlocked, if_pos (decide_eq_true whole)]

/-! The obligation. -/

/-- Settles O22: the beacons by island, FAILSAFE by its entry, the registers by the laws of a store. -/
theorem timeBase : Obligations.TimeBase := by
  unfold Obligations.TimeBase
  refine ⟨?beacon, ?missed, ?fault, ?skew, ptpMappingUpdate_reads, ?ppsOut, ?ppsIn, ?ahead, ?past, ?fire⟩
  case beacon =>
    intro s n d due island
    refine ⟨s.beaconAt n d, if_neg (not_not_intro due), ?_, fun m other => ?_⟩
    · rw [s.isl_beaconAt n d island, if_pos rfl]
    · rw [s.isl_beaconAt n d island, if_neg other]
  case missed =>
    intro s n due island three
    refine ⟨s.beaconMissed n, if_neg (not_not_intro due), ?_⟩
    unfold State.beaconMissed
    rw [if_pos island]
    dsimp only
    rw [State.isl_setIsl_same, decide_eq_true (by omega), Bool.or_true]
  case fault =>
    intro s n fault
    exact ⟨_, if_pos (.inl fault), State.inFailsafe_enterFailsafe _ n _ 1 none⟩
  case skew =>
    intro s
    exact ⟨_, rfl, s.rd_wr_same _ _, fun o other => s.rd_wr_other _ _ _ other⟩
  case ppsOut =>
    intro s unlocked whole
    exact ⟨_, execPpsOutEdge_unlocked s unlocked whole, rfl⟩
  case ppsIn =>
    intro s
    exact ⟨_, rfl, State.rd_wr_same _ _ _, rfl⟩
  case ahead =>
    intro s k v hk ahead
    exact ⟨_, execTimeCmpWrite_ahead s k v hk ahead, s.rd_wr_same _ _, State.cmpDone_setCmpDone _ k false⟩
  case past =>
    intro s k v hk past asleep
    have asleep' : (s.cmpWritten k v).flag rPwrWakeCfg (wakeFlag k) = false := by
      change (s.wr (State.cmpReg k) v).flag rPwrWakeCfg (wakeFlag k) = false
      rw [State.flag, State.fld_wr_other _ _ _ _ _ (State.cmpReg_ne_wakeCfg k)]
      exact asleep
    exact ⟨_, execTimeCmpWrite_past s k v hk past, State.cmpFire_fired _ k hk asleep'⟩
  case fire =>
    intro s k hk waits up due asleep
    exact ⟨_, execTimeCmpFire_due s k hk waits up due, s.cmpFire_fired k hk asleep⟩

end Sys2Proof.Machine
end

section
/-! SUPPORT. What it means that a computation keeps the reference tick (R37): a state that it answers stands at the tick
at which it began. -/

namespace Sys2Proof.Machine

/-- The reference tick of a state (R37). -/
def State.now (s : State) : Nat := s.ao.tick

/-! The proofs `(rfl)` below stand in parentheses so that `simp` uses the lemmas as equations: used by unfolding, they
leave the kernel to compare whole states. -/

theorem State.ao_tick (s : State) : s.ao.tick = s.now := (rfl)

theorem State.now_mk (ao : AlwaysOn) (nv) (dev) (free) (pending) :
    State.now ⟨ao, nv, dev, free, pending⟩ = ao.tick := (rfl)

/-- A state that keeps the always-on domain of another stands at its tick. -/
@[simp] theorem State.now_of_ao (s : State) (nv) (dev) (free) (pending) :
    State.now ⟨s.ao, nv, dev, free, pending⟩ = s.now := (rfl)

/-- Every next state that the outcome answers stands at tick `n`. -/
def AtNow (n : Nat) (o : Host.Outcome State Fault Refusal) : Prop := ∀ t, o = .next t → t.now = n

@[simp] theorem atNow_next (n : Nat) (t : State) : AtNow n (.next t) ↔ t.now = n :=
  ⟨fun h => h t rfl, fun h u e => by cases e; exact h⟩

@[simp] theorem atNow_fault (n : Nat) (f : Fault) : AtNow n (.fault f) := fun _ e => nomatch e

@[simp] theorem atNow_refused (n : Nat) (r : Refusal) : AtNow n (.refused r) := fun _ e => nomatch e

@[simp] theorem atNow_ite (n : Nat) (c : Prop) [Decidable c] (a b : Host.Outcome State Fault Refusal) :
    AtNow n (if c then a else b) ↔ if c then AtNow n a else AtNow n b := by split <;> rfl

theorem AtNow.ite {n : Nat} {c : Prop} [Decidable c] {a b : Host.Outcome State Fault Refusal} (ha : AtNow n a)
    (hb : AtNow n b) : AtNow n (if c then a else b) := by
  split
  · exact ha
  · exact hb

@[simp] theorem ite_now (c : Prop) [Decidable c] (a b : State) :
    (if c then a else b).now = if c then a.now else b.now := by split <;> rfl

@[simp] theorem ite_snd_now {α : Type} (c : Prop) [Decidable c] (a b : α × State) :
    (if c then a else b).2.now = if c then a.2.now else b.2.now := by split <;> rfl

@[simp] theorem foldl_now {α : Type} (f : State → α → State) (l : List α) (s : State)
    (h : ∀ s a, (f s a).now = s.now) : (l.foldl f s).now = s.now := by
  induction l generalizing s with
  | nil => rfl
  | cons a l ih => rw [List.foldl_cons, ih, h]

@[simp] theorem foldl_snd_now {α β : Type} (f : β × State → α → β × State) (l : List α) (r : β × State)
    (h : ∀ r a, (f r a).2.now = r.2.now) : (l.foldl f r).2.now = r.2.now := by
  induction l generalizing r with
  | nil => rfl
  | cons a l ih => rw [List.foldl_cons, ih, h]

/-- An answer, where there is one, carries a state that stands at tick `n`. -/
def OkNow {ε α : Type} (n : Nat) (st : α → State) (x : Except ε α) : Prop := ∀ a, x = .ok a → (st a).now = n

section
variable {ε α β : Type} {n : Nat} {st : α → State} {st' : β → State}

@[simp] theorem okNow_ok {a : α} : OkNow n st (.ok a : Except ε α) ↔ (st a).now = n :=
  ⟨fun h => h a rfl, fun h b e => by cases e; exact h⟩

@[simp] theorem okNow_pure {a : α} : OkNow n st (pure a : Except ε α) ↔ (st a).now = n := okNow_ok

@[simp] theorem okNow_error {e : ε} : OkNow n st (.error e) := fun _ h => nomatch h

@[simp] theorem okNow_throw {e : ε} : OkNow n st (throw e : Except ε α) := okNow_error

@[simp] theorem okNow_throw_bind {e : ε} {f : β → Except ε α} : OkNow n st (throw e >>= f) := okNow_error

@[simp] theorem okNow_map_throw {e : ε} {g : β → α} : OkNow n st (g <$> (throw e : Except ε β)) := okNow_error

theorem OkNow.ite {c : Prop} [Decidable c] {x y : Except ε α} (hx : OkNow n st x) (hy : OkNow n st y) :
    OkNow n st (if c then x else y) := by
  split
  · exact hx
  · exact hy

theorem OkNow.bind {x : Except ε α} {f : α → Except ε β} (hx : OkNow n st x)
    (hf : ∀ a, (st a).now = n → OkNow n st' (f a)) : OkNow n st' (x >>= f) := by
  intro b h
  cases x with
  | error e => cases h
  | ok a => exact hf a (hx a rfl) b h

end

/-- A computation of the engines that ends answers a state at the tick it began at. -/
def EM.KeepsNow {α : Type} (m : EM α) : Prop := ∀ s a t, m s = .ok (a, t) → t.now = s.now

namespace EM
variable {α β : Type}

theorem KeepsNow.of_ok {m : EM α} {s t : State} {a : α} (h : m.KeepsNow) (e : m s = .ok (a, t)) : t.now = s.now :=
  h s a t e

@[simp] theorem KeepsNow.pure (a : α) : KeepsNow (pure a : EM α) := by
  intro s b t e
  cases e
  rfl

@[simp] theorem KeepsNow.get : KeepsNow (get : EM State) := by
  intro s b t e
  cases e
  rfl

theorem KeepsNow.bind {m : EM α} {f : α → EM β} (hm : m.KeepsNow) (hf : ∀ a, (f a).KeepsNow) : (m >>= f).KeepsNow := by
  intro s b t e
  change (m s >>= fun p => f p.1 p.2) = _ at e
  cases h : m s with
  | error x => rw [h] at e; cases e
  | ok p =>
    rw [h] at e
    exact (hf p.1 p.2 b t e).trans (hm s p.1 p.2 h)

theorem KeepsNow.ite {c : Prop} [Decidable c] {a b : EM α} (ha : a.KeepsNow) (hb : b.KeepsNow) :
    KeepsNow (if c then a else b) := by
  split
  · exact ha
  · exact hb

@[simp] theorem KeepsNow.modify (f : State → State) (hf : ∀ s, (f s).now = s.now) : KeepsNow (modify f : EM PUnit) := by
  intro s b t e
  cases e
  exact hf s

@[simp] theorem KeepsNow.throw (e : EngErr) : KeepsNow (throw e : EM α) := by
  intro s b t e
  cases e

@[simp] theorem KeepsNow.mapM (f : α → EM β) (l : List α) (hf : ∀ a, (f a).KeepsNow) : (l.mapM f).KeepsNow := by
  induction l with
  | nil => exact .pure _
  | cons a l ih =>
    rw [List.mapM_cons]
    exact .bind (hf a) fun b => .bind ih fun bs => .pure _

@[simp] theorem KeepsNow.forM (f : α → EM PUnit) (l : List α) (hf : ∀ a, (f a).KeepsNow) : (l.forM f).KeepsNow := by
  induction l with
  | nil => exact .pure _
  | cons a l ih => exact .bind (hf a) fun _ => ih

@[simp] theorem KeepsNow.foldlM (f : β → α → EM β) (l : List α) (b : β) (hf : ∀ b a, (f b a).KeepsNow) :
    (l.foldlM f b).KeepsNow := by
  induction l generalizing b with
  | nil => exact .pure _
  | cons a l ih => exact .bind (hf b a) fun b => ih b

end EM

end Sys2Proof.Machine
end

section
/-! SUPPORT. The operations that the units share leave the reference tick alone (R37): stores, logs, traces, stamps,
accounting, journal records, admission. -/

namespace Sys2Proof.Machine

/-! The named operations over the state: control registers, byte stores, island clocks and stamps, free values, the
error log. -/

@[simp] theorem State.wr_now (s : State) (off v) : (s.wr off v).now = s.now := by simp [State.wr]
@[simp] theorem State.setFld_now (s : State) (off f v) : (s.setFld off f v).now = s.now := by simp [State.setFld]
@[simp] theorem State.setFlag_now (s : State) (off f b) : (s.setFlag off f b).now = s.now := by simp [State.setFlag]
@[simp] theorem State.addFld_now (s : State) (off f n) : (s.addFld off f n).now = s.now := by simp [State.addFld]

@[simp] theorem State.writeReg_now (s : State) (off v) : (s.writeReg off v).now = s.now := by
  unfold State.writeReg
  split <;> simp

@[simp] theorem State.hostWrite_now (s : State) (a bs) : (s.hostWrite a bs).now = s.now := by simp [State.hostWrite]
@[simp] theorem State.hostPut_now (s : State) (a n x) : (s.hostPut a n x).now = s.now := by simp [State.hostPut]
@[simp] theorem State.setBay_now (s : State) (n b) : (s.setBay n b).now = s.now := by simp [State.setBay]
@[simp] theorem State.setIsl_now (s : State) (n i) : (s.setIsl n i).now = s.now := by simp [State.setIsl]
@[simp] theorem State.originate_now (s : State) (n) : (s.originate n).2.now = s.now := by simp [State.originate]
@[simp] theorem State.receive_now (s : State) (n t) : (s.receive n t).now = s.now := by simp [State.receive]

@[simp] theorem State.acting_now (s : State) (n) (f : State → State) (h : (f s).now = s.now) :
    (s.acting n f).now = s.now := by
  simp [State.acting, h]

@[simp] theorem State.drawFree_now (s : State) : s.drawFree.2.now = s.now := by simp [State.drawFree]
@[simp] theorem State.modRas_now (s : State) (f : RasSt → RasSt) : (s.modRas f).now = s.now := by simp [State.modRas]

@[simp] theorem State.countClass_now (s : State) (detector severity) :
    (s.countClass detector severity).now = s.now := by
  simp [State.countClass]

@[simp] theorem State.fire_now (s : State) (isl detector) : (s.fire isl detector).2.now = s.now := by
  simp [State.fire]

@[simp] theorem State.errorSource_now (s : State) (detector severity st) :
    (s.errorSource detector severity st).now = s.now := by
  simp [State.errorSource]

@[simp] theorem State.logAt_now (s : State) (isl r) : (s.logAt isl r).2.now = s.now := by simp [State.logAt]
@[simp] theorem State.log_now (s : State) (isl r) : (s.log isl r).now = s.now := by simp [State.log]

/-! Originating trace events (R520, R521), counting selected events (R514 to R516) and engine clocks (R507). -/

@[simp] theorem State.modObs_now (s : State) (f : ObsSt → ObsSt) : (s.modObs f).now = s.now := by simp [State.modObs]

@[simp] theorem State.traceAt_now (s : State) (st type tent arg0 arg1 flags) :
    (s.traceAt st type tent arg0 arg1 flags).now = s.now := by
  simp [State.traceAt]

@[simp] theorem State.trace_now (s : State) (isl type tent arg0 arg1 flags) :
    (s.trace isl type tent arg0 arg1 flags).now = s.now := by
  simp [State.trace]

@[simp] theorem State.countEvent_now (s : State) (win kmax code inst tent tick n) :
    (s.countEvent win kmax code inst tent tick n).now = s.now := by
  simp [State.countEvent]

@[simp] theorem State.bayEvent_now (s : State) (bay code n) : (s.bayEvent bay code n).now = s.now := by
  simp [State.bayEvent]

@[simp] theorem State.msdEvent_now (s : State) (m code inst tent n) :
    (s.msdEvent m code inst tent n).now = s.now := by
  simp [State.msdEvent]

@[simp] theorem State.iodEvent_now (s : State) (i code inst tent n) :
    (s.iodEvent i code inst tent n).now = s.now := by
  simp [State.iodEvent]

@[simp] theorem State.busy_now (s : State) (e n) : (s.busy e n).now = s.now := by simp [State.busy]
@[simp] theorem State.stallFor_now (s : State) (e r) : (s.stallFor e r).now = s.now := by simp [State.stallFor]

/-! Requests, rings and accounts as shared operations: descriptor fields (R308, R310), contributions (R396 to R398),
ends of requests (R335, R339), composed records (R330 to R332), records sent to the journal (R407, R408). -/

@[simp] theorem State.modAdm_now (s : State) (f : Admit → Admit) : (s.modAdm f).now = s.now := by simp [State.modAdm]
@[simp] theorem State.setReq_now (s : State) (n r) : (s.setReq n r).now = s.now := by simp [State.setReq]

@[simp] theorem State.modReq_now (s : State) (n) (f : Request → Request) : (s.modReq n f).now = s.now := by
  unfold State.modReq
  split <;> simp

@[simp] theorem State.setRing_now (s : State) (k r) : (s.setRing k r).now = s.now := by simp [State.setRing]
@[simp] theorem State.setTent_now (s : State) (t x) : (s.setTent t x).now = s.now := by simp [State.setTent]
@[simp] theorem State.modTent_now (s : State) (t) (f : Tent → Tent) : (s.modTent t f).now = s.now := by
  simp [State.modTent]
@[simp] theorem State.hostAdd_now (s : State) (a n x) : (s.hostAdd a n x).now = s.now := by simp [State.hostAdd]
@[simp] theorem State.acctAdd_now (s : State) (a c) : (s.acctAdd a c).now = s.now := by simp [State.acctAdd]
@[simp] theorem State.acctApply_now (s : State) (c) : (s.acctApply c).now = s.now := by simp [State.acctApply]
@[simp] theorem State.contribute_now (s : State) (c) : (s.contribute c).now = s.now := by simp [State.contribute]

@[simp] theorem State.endCut_now (s : State) (n st) : (s.endCut n st).now = s.now := by
  simp only [State.endCut]
  (repeat' split) <;> simp

@[simp] theorem State.endRequest_now (s : State) (n status st) : (s.endRequest n status st).now = s.now := by
  simp [State.endRequest]
@[simp] theorem State.endAt_now (s : State) (n status isl poison) : (s.endAt n status isl poison).now = s.now := by
  simp [State.endAt]
@[simp] theorem State.raise_now (s : State) (n mask) : (s.raise n mask).now = s.now := by simp [State.raise]
@[simp] theorem State.modJrnl_now (s : State) (f : Journal → Journal) : (s.modJrnl f).now = s.now := by
  simp [State.modJrnl]
@[simp] theorem State.sendJournal_now (s : State) (r) : (s.sendJournal r).now = s.now := by simp [State.sendJournal]

/-! The ACCT block (R396 to R399): accounting tables and snapshots. -/

@[simp] theorem State.hostZero_now (s : State) (a n) : (s.hostZero a n).now = s.now := by simp [State.hostZero]
@[simp] theorem State.hostCopy_now (s : State) (a b n) : (s.hostCopy a b n).now = s.now := by simp [State.hostCopy]
@[simp] theorem State.modAcct_now (s : State) (f : Acct → Acct) : (s.modAcct f).now = s.now := by simp [State.modAcct]
@[simp] theorem execAcctEnable_now (t v) (s : State) : AtNow s.now (execAcctEnable t v s) := by simp [execAcctEnable]
@[simp] theorem execAcctDisable_now (t) (s : State) : AtNow s.now (execAcctDisable t s) := by simp [execAcctDisable]

@[simp] theorem execAcctSnapshotArm_now (v) (s : State) : AtNow s.now (execAcctSnapshotArm v s) := by
  unfold execAcctSnapshotArm
  split <;> simp

@[simp] theorem State.snapshotTent_now (s : State) (t) : (s.snapshotTent t).now = s.now := by
  simp [State.snapshotTent]
@[simp] theorem execAcctSnapshotWrite_now (s : State) : AtNow s.now (execAcctSnapshotWrite s) := by
  simp [execAcctSnapshotWrite]

/-! Keys and sealing as shared operations (R462, R474, R476, R477). -/

@[simp] theorem State.modSec_now (s : State) (f : SecSt → SecSt) : (s.modSec f).now = s.now := by simp [State.modSec]

/-! Sending over the fabric (R434, R436, R438, R441, R442, R445, R456): transactions into flits, routing, the links'
queues, broadcasts. -/

@[simp] theorem State.modFab_now (s : State) (f : FabricSt → FabricSt) : (s.modFab f).now = s.now := by
  simp [State.modFab]
@[simp] theorem State.setLink_now (s : State) (l x) : (s.setLink l x).now = s.now := by simp [State.setLink]
@[simp] theorem State.modLink_now (s : State) (l) (f : Link → Link) : (s.modLink l f).now = s.now := by
  simp [State.modLink]
@[simp] theorem State.queueFlit_now (s : State) (l from_ f) : (s.queueFlit l from_ f).now = s.now := by
  simp [State.queueFlit]

@[simp] theorem State.dropFlit_now (s : State) (f) : (s.dropFlit f).now = s.now := by
  unfold State.dropFlit
  split <;> simp

@[simp] theorem State.sendFlit_now (s : State) (from_ f) : (s.sendFlit from_ f).now = s.now := by
  simp only [State.sendFlit]
  (repeat' split) <;> simp

@[simp] theorem State.fabSend_now (s : State) (t) : (s.fabSend t).now = s.now := by simp [State.fabSend]
@[simp] theorem State.linkSend_now (s : State) (l t) : (s.linkSend l t).now = s.now := by simp [State.linkSend]
@[simp] theorem State.orphanOps_now (s : State) (p : RemoteOp → Bool) : (s.orphanOps p).now = s.now := by
  simp [State.orphanOps]
@[simp] theorem State.fabBroadcast_now (s : State) (op tick but) : (s.fabBroadcast op tick but).now = s.now := by
  simp [State.fabBroadcast]

/-! Posting firmware's events (R534, R535) and the management log (R549), as shared operations. -/

@[simp] theorem State.modFw_now (s : State) (f : FwSt → FwSt) : (s.modFw f).now = s.now := by simp [State.modFw]
@[simp] theorem State.modLook_now (s : State) (f : LookSt → LookSt) : (s.modLook f).now = s.now := by
  simp [State.modLook]
@[simp] theorem State.modMgmt_now (s : State) (f : MgmtFlash → MgmtFlash) : (s.modMgmt f).now = s.now := by
  simp [State.modMgmt]
@[simp] theorem State.writeEvent_now (s : State) (e) : (s.writeEvent e).now = s.now := by simp [State.writeEvent]

@[simp] theorem State.drainEvents_now (n) (s : State) : (State.drainEvents n s).now = s.now := by
  induction n generalizing s with
  | zero => rfl
  | succ fuel ih => simp only [State.drainEvents]; (repeat' split) <;> simp [ih]

@[simp] theorem State.postEvent_now (s : State) (core type status tag args) :
    (s.postEvent core type status tag args).now = s.now := by
  simp [State.postEvent]

@[simp] theorem State.endLaunch_now (s : State) (id status arg) : (s.endLaunch id status arg).now = s.now := by
  unfold State.endLaunch
  split <;> simp

@[simp] theorem State.mgmtLog_now (s : State) (type result source keyTag arg0 arg1) :
    (s.mgmtLog type result source keyTag arg0 arg1).now = s.now := by
  simp [State.mgmtLog]

/-! Work of the engines that other units end: entering FAILSAFE (R503, R504, R582), Lantern's queues (R30, R191),
discarding a tent's queries and table commands (R375), consents (R481). -/

@[simp] theorem State.modLantern_now (s : State) (f : LanternSt → LanternSt) : (s.modLantern f).now = s.now := by
  simp [State.modLantern]
@[simp] theorem State.modTables_now (s : State) (f : TablesSt → TablesSt) : (s.modTables f).now = s.now := by
  simp [State.modTables]
@[simp] theorem State.lanternDiscardTent_now (s : State) (t) : (s.lanternDiscardTent t).now = s.now := by
  simp [State.lanternDiscardTent]
@[simp] theorem State.tableDiscardTent_now (s : State) (t) : (s.tableDiscardTent t).now = s.now := by
  simp [State.tableDiscardTent]
@[simp] theorem State.failTent_now (s : State) (f t) : (s.failTent f t).now = s.now := by simp [State.failTent]
@[simp] theorem State.failStamp_now (s : State) (isl r cause) : (s.failStamp isl r cause).2.now = s.now := by
  simp [State.failStamp]

@[simp] theorem State.enterFailsafe_now (s : State) (isl r cause scope) :
    (s.enterFailsafe isl r cause scope).now = s.now := by
  simp [State.enterFailsafe]

/-! The journal unit's records, its local log and commits (R403, R405 to R407, R413, R416). -/

@[simp] theorem State.trimLog_now (s : State) : s.trimLog.now = s.now := by simp [State.trimLog]

@[simp] theorem State.makeRoom_now (s : State) (n k) : (s.makeRoom n k).now = s.now := by
  induction k generalizing s with
  | zero => rfl
  | succ fuel ih => simp only [State.makeRoom]; (repeat' split) <;> simp [ih]

@[simp] theorem State.mirrorSend_now (s : State) (r) : (s.mirrorSend r).now = s.now := by simp [State.mirrorSend]

@[simp] theorem State.appendRec_now (s : State) (r) {r0 t1} (h : s.appendRec r = some (r0, t1)) : t1.now = s.now := by
  unfold State.appendRec at h
  split at h
  · cases h
  · cases h
    simp

@[simp] theorem State.ssdJournal_now (s : State) (slot rs) : (s.ssdJournal slot rs).now = s.now := by
  simp [State.ssdJournal]
@[simp] theorem State.journalSsdFailed_now (s : State) : s.journalSsdFailed.now = s.now := by
  simp [State.journalSsdFailed]

/-! Shapers and gate lists (R391 to R395). -/

@[simp] theorem State.setCredit_now (s : State) (t c tick v) : (s.setCredit t c tick v).now = s.now := by
  simp [State.setCredit]
@[simp] theorem State.takeCredit_now (s : State) (t c tick) : (s.takeCredit t c tick).now = s.now := by
  simp [State.takeCredit]

@[simp] theorem State.tentWrite_now (s : State) (t) (f : State → State) (h : (f s).now = s.now) :
    (s.tentWrite t f).now = s.now := by
  simp [State.tentWrite, h]

@[simp] theorem execShapeRateWrite_now (t c v) (s : State) : AtNow s.now (execShapeRateWrite t c v s) := by
  simp [execShapeRateWrite]
@[simp] theorem execShapeBurstWrite_now (t c v) (s : State) : AtNow s.now (execShapeBurstWrite t c v s) := by
  simp [execShapeBurstWrite]

@[simp] theorem execGateListArm_now (a) (s : State) : AtNow s.now (execGateListArm a s) := by
  simp only [execGateListArm]
  split <;> simp

@[simp] theorem State.showGate_now (s : State) : s.showGate.now = s.now := by
  unfold State.showGate
  split <;> simp

@[simp] theorem execGateListActivate_now (s : State) : AtNow s.now (execGateListActivate s) := by
  simp only [execGateListActivate]
  (repeat' split) <;> simp

@[simp] theorem execGateEntryAdvance_now (s : State) : AtNow s.now (execGateEntryAdvance s) := by
  simp [execGateEntryAdvance]

/-! Queues, fetching and admission (R303 to R316, R381), the bindings of R30 and R276, and accept records. -/

@[simp] theorem execSqRegister_now (q v) (s : State) : AtNow s.now (execSqRegister q v s) := by simp [execSqRegister]
@[simp] theorem execSqDisable_now (q) (s : State) : AtNow s.now (execSqDisable q s) := by simp [execSqDisable]
@[simp] theorem execCqRegister_now (c v) (s : State) : AtNow s.now (execCqRegister c v s) := by simp [execCqRegister]
@[simp] theorem execCqDisable_now (c) (s : State) : AtNow s.now (execCqDisable c s) := by simp [execCqDisable]
@[simp] theorem State.doorbell_now (s : State) (off n v tent) : (s.doorbell off n v tent).now = s.now := by
  simp [State.doorbell]
@[simp] theorem execSqDoorbell_now (q v) (s : State) : AtNow s.now (execSqDoorbell q v s) := by simp [execSqDoorbell]
@[simp] theorem execCqDoorbell_now (c v) (s : State) : AtNow s.now (execCqDoorbell c v s) := by simp [execCqDoorbell]
@[simp] theorem State.reject_now (s : State) (f reason) : (s.reject f reason).now = s.now := by simp [State.reject]

@[simp] theorem execDescriptorFetch_now (s : State) : AtNow s.now (execDescriptorFetch s) := by
  simp only [execDescriptorFetch]
  (repeat' split) <;> simp

@[simp] theorem State.legStart_now (s : State) (n isl) : (s.legStart n isl).now = s.now := by
  unfold State.legStart
  split <;> simp

@[simp] theorem State.legReady_now (s : State) (n) : (s.legReady n).now = s.now := by
  unfold State.legReady
  split <;> simp

@[simp] theorem State.takeSeq_now (s : State) : s.takeSeq.2.now = s.now := by
  simp only [State.takeSeq]
  split <;> simp [State.now_mk, State.ao_tick]

@[simp] theorem State.bindRing_now (s : State) (k n) : (s.bindRing k n).now = s.now := by
  unfold State.bindRing
  split <;> simp

@[simp] theorem State.admitReq_now (s : State) (f) : (s.admitReq f).now = s.now := by
  simp only [State.admitReq]
  (repeat' split) <;> simp

@[simp] theorem State.admitFront_now (s : State) (k) : (s.admitFront k).now = s.now := by
  unfold State.admitFront
  split <;> simp

@[simp] theorem execRequestEmbed_now (s : State) : AtNow s.now (execRequestEmbed s) := by simp [execRequestEmbed]
@[simp] theorem execRequestSearch_now (s : State) : AtNow s.now (execRequestSearch s) := by simp [execRequestSearch]
@[simp] theorem execRequestRerank_now (s : State) : AtNow s.now (execRequestRerank s) := by simp [execRequestRerank]
@[simp] theorem execRequestGenerate_now (s : State) : AtNow s.now (execRequestGenerate s) := by
  simp [execRequestGenerate]
@[simp] theorem execRequestRag_now (s : State) : AtNow s.now (execRequestRag s) := by simp [execRequestRag]
@[simp] theorem execRequestTokenize_now (s : State) : AtNow s.now (execRequestTokenize s) := by
  simp [execRequestTokenize]
@[simp] theorem execRequestIndexMutate_now (s : State) : AtNow s.now (execRequestIndexMutate s) := by
  simp [execRequestIndexMutate]
@[simp] theorem execRequestTableOp_now (s : State) : AtNow s.now (execRequestTableOp s) := by
  simp [execRequestTableOp]
@[simp] theorem execRequestCancel_now (s : State) : AtNow s.now (execRequestCancel s) := by simp [execRequestCancel]

@[simp] theorem execHeldDescriptorAdmit_now (t c) (s : State) : AtNow s.now (execHeldDescriptorAdmit t c s) := by
  unfold execHeldDescriptorAdmit
  split <;> simp

@[simp] theorem State.admitFailed_now (s : State) (n) : (s.admitFailed n).now = s.now := by
  simp only [State.admitFailed]
  (repeat' split) <;> simp

@[simp] theorem State.postAccept_now (s : State) (c a) : (s.postAccept c a).now = s.now := by simp [State.postAccept]

@[simp] theorem State.noteAccept_now (s : State) (a) : (s.noteAccept a).now = s.now := by
  simp only [State.noteAccept]
  split <;> simp

@[simp] theorem execAcceptRecordPost_now (c) (s : State) : AtNow s.now (execAcceptRecordPost c s) := by
  simp only [execAcceptRecordPost]
  (repeat' split) <;> simp

/-! The check code of on-die data and HBM words (R483 to R485), and injected errors (R499). -/

@[simp] theorem State.deliver_now (s : State) (isl detector space addr flags x) :
    (s.deliver isl detector space addr flags x).2.now = s.now := by
  unfold State.deliver
  split <;> simp

@[simp] theorem State.checkWord_now (s : State) (isl detector space addr flips w) :
    (s.checkWord isl detector space addr flips w).2.now = s.now := by
  simp [State.checkWord]

/-! Flash sets: the stripe layout, the Reed–Solomon code, granule reads and writes, the poison list (R255 to R264). -/

@[simp] theorem State.setFlashSet_now (s : State) (k x) : (s.setFlashSet k x).now = s.now := by
  simp [State.setFlashSet]
@[simp] theorem State.setSsd_now (s : State) (slot x) : (s.setSsd slot x).now = s.now := by simp [State.setSsd]

theorem State.setPoisonList_now (s : State) (k d bad) {t1} (h : s.setPoisonList k d bad = some t1) :
    t1.now = s.now := by
  unfold State.setPoisonList at h
  (repeat' split at h) <;> cases h <;> simp

@[simp] theorem State.storeGranule_now (s : State) (slot o b) : (s.storeGranule slot o b).now = s.now := by
  simp [State.storeGranule]
@[simp] theorem State.storeSlot_now (s : State) (k st j b) : (s.storeSlot k st j b).now = s.now := by
  simp [State.storeSlot]

theorem State.writeGranule_now (s : State) (k d b) {t1} (h : s.writeGranule k d b = some t1) : t1.now = s.now := by
  simp only [State.writeGranule] at h
  split at h <;> cases h
  simp

@[simp] theorem State.setIntent_now (s : State) (k st on) : (s.setIntent k st on).now = s.now := by
  simp [State.setIntent]
@[simp] theorem State.fixParity_now (s : State) (k st) : (s.fixParity k st).now = s.now := by simp [State.fixParity]

end Sys2Proof.Machine
end

section
/-! SUPPORT. The issue of a bay's instructions, its stores and its device memory leave the reference tick alone (R37).
-/

namespace Sys2Proof.Machine

/-! Crews and their operands: register reads and writes with poison (R69, R107), the form and range checks of an
instruction (R97 to R99), traps (R130 to R132), reconvergence (R78), event slots (R85, R86), and the issue of one
instruction by one crew. -/

@[simp] theorem State.modBay_now (s : State) (bay) (f : Bay → Bay) : (s.modBay bay f).now = s.now := by
  simp [State.modBay]
@[simp] theorem State.setCrew_now (s : State) (bay slot c) : (s.setCrew bay slot c).now = s.now := by
  simp [State.setCrew]

@[simp] theorem State.modCrew_now (s : State) (bay slot) (f : Crew → Crew) : (s.modCrew bay slot f).now = s.now := by
  simp only [State.modCrew]
  (repeat' split) <;> simp

@[simp] theorem State.trap_now (s : State) (bay slot pc cause lns detail) :
    (s.trap bay slot pc cause lns detail).now = s.now := by
  simp [State.trap]

@[simp] theorem State.fetchCheck_now (s : State) (bay pc) : (s.fetchCheck bay pc).2.now = s.now := by
  simp [State.fetchCheck]

@[simp] theorem State.regCheck_now (s : State) (bay slot f k c) : (s.regCheck bay slot f k c).2.now = s.now := by
  unfold State.regCheck
  split <;> simp

@[simp] theorem State.issue_now (s : State) (bay slot f k) (body : Crew → W32 → State → State)
    (h : ∀ c ex t, t.now = s.now → (body c ex t).now = s.now) : (s.issue bay slot f k body).now = s.now := by
  unfold State.issue
  split
  · rfl
  refine (ite_now _ _ _).trans ?_
  dsimp only
  (repeat' split) <;> simp [h]

@[simp] theorem State.trapAll_now (s : State) (bay slot c cause detail) :
    (s.trapAll bay slot c cause detail).now = s.now := by
  simp [State.trapAll]

@[simp] theorem State.skipFree_now (s : State) : s.skipFree.now = s.now := by simp [State.skipFree]

@[simp] theorem State.strand_now (s : State) (bay slot f k) (bad : Crew → Bool) (g : State → Crew → Nat → VReg) :
    (s.strand bay slot f k bad g).now = s.now := by
  simp [State.strand]

@[simp] theorem State.alu2_now (s : State) (bay slot f mask) (op : W32 → W32 → W32) :
    (s.alu2 bay slot f mask op).now = s.now := by
  simp [State.alu2]

@[simp] theorem State.alu3_now (s : State) (bay slot f) (op : W32 → W32 → W32 → W32) :
    (s.alu3 bay slot f op).now = s.now := by
  simp [State.alu3]

@[simp] theorem State.alu1_now (s : State) (bay slot f mask) (op : W32 → W32) :
    (s.alu1 bay slot f mask op).now = s.now := by
  simp [State.alu1]

@[simp] theorem State.approx_now (s : State) (bay slot f) (op : Nat → W32 → W32) :
    (s.approx bay slot f op).now = s.now := by
  simp [State.approx]

@[simp] theorem State.uniform_now (s : State) (bay slot f k) (g : Crew → UReg) :
    (s.uniform bay slot f k g).now = s.now := by
  simp [State.uniform]

/-! The device range (R239, R244, R245, R249, R266): panel entries, HBM addresses, reads and writes, and accesses held
while their panel is brought in. -/

@[simp] theorem State.modMem_now (s : State) (f : MemSt → MemSt) : (s.modMem f).now = s.now := by simp [State.modMem]
@[simp] theorem State.setTable_now (s : State) (t x) : (s.setTable t x).now = s.now := by simp [State.setTable]
@[simp] theorem State.setPanel_now (s : State) (t v p) : (s.setPanel t v p).now = s.now := by simp [State.setPanel]
@[simp] theorem State.hbmWord_now (s : State) (pa) : (s.hbmWord pa).2.now = s.now := by simp [State.hbmWord]
@[simp] theorem State.touch_now (s : State) (t a write) : (s.touch t a write).now = s.now := by simp [State.touch]

@[simp] theorem State.devWords_now (s : State) (t n k) : (s.devWords t n k).2.now = s.now := by
  induction k generalizing s n with
  | zero => rfl
  | succ n ih => simp [State.devWords, ih]

@[simp] theorem State.devRead_now (s : State) (t a n) : (s.devRead t a n).2.2.now = s.now := by
  unfold State.devRead
  split <;> simp

@[simp] theorem State.devWriteIn_now (s : State) (t a bs bad) : (s.devWriteIn t a bs bad).now = s.now := by
  simp [State.devWriteIn]

@[simp] theorem State.devWriteFrom_now (s : State) (t bad n k l) : (s.devWriteFrom t bad n k l).now = s.now := by
  induction n generalizing s k l with
  | zero => rfl
  | succ n ih => simp [State.devWriteFrom, ih]

@[simp] theorem State.devWrite_now (s : State) (t a bs bad) : (s.devWrite t a bs bad).now = s.now := by
  simp [State.devWrite]
@[simp] theorem State.setMig_now (s : State) (m x) : (s.setMig m x).now = s.now := by simp [State.setMig]
@[simp] theorem State.queueMigration_now (s : State) (m) : (s.queueMigration m).now = s.now := by
  simp [State.queueMigration]

@[simp] theorem State.requestInbound_now (s : State) (t v st demand) :
    (s.requestInbound t v st demand).now = s.now := by
  simp [State.requestInbound]

@[simp] theorem State.hold_now (s : State) (a) : (s.hold a).now = s.now := by simp [State.hold]
@[simp] theorem State.fillOp_now (s : State) (bay slot id rs) : (s.fillOp bay slot id rs).now = s.now := by
  simp [State.fillOp]

@[simp] theorem State.perform_now (s : State) (a) : (s.perform a).now = s.now := by
  simp only [State.perform]
  (repeat' split) <;> simp

@[simp] theorem State.failOp_now (s : State) (bay slot id pc cause l addr) :
    (s.failOp bay slot id pc cause l addr).now = s.now := by
  simp [State.failOp]

@[simp] theorem State.access_now (s : State) (a l) : (s.access a l).now = s.now := by
  unfold State.access
  split <;> simp

@[simp] theorem State.markReady_now (s : State) (bay slot id) : (s.markReady bay slot id).now = s.now := by
  simp [State.markReady]

@[simp] theorem State.serveHeld_now (s : State) (t v) (keep : Access → Bool) :
    (s.serveHeld t v keep).now = s.now := by
  simp [State.serveHeld]

/-! Strand integer and logic instructions, opcodes 0x00 to 0x1A (R102, R103). -/

@[simp] theorem State.setPred_now (s : State) (bay slot f) (op : W32 → W32 → Bool) :
    (s.setPred bay slot f op).now = s.now := by
  simp [State.setPred]

@[simp] theorem execNop_now (bay slot f) (s : State) : AtNow s.now (execNop bay slot f s) := by simp [execNop]
@[simp] theorem execIadd_now (bay slot f) (s : State) : AtNow s.now (execIadd bay slot f s) := by simp [execIadd]
@[simp] theorem execIsub_now (bay slot f) (s : State) : AtNow s.now (execIsub bay slot f s) := by simp [execIsub]
@[simp] theorem execImul_now (bay slot f) (s : State) : AtNow s.now (execImul bay slot f s) := by simp [execImul]
@[simp] theorem execImulh_now (bay slot f) (s : State) : AtNow s.now (execImulh bay slot f s) := by simp [execImulh]
@[simp] theorem execImad_now (bay slot f) (s : State) : AtNow s.now (execImad bay slot f s) := by simp [execImad]
@[simp] theorem execImin_now (bay slot f) (s : State) : AtNow s.now (execImin bay slot f s) := by simp [execImin]
@[simp] theorem execImax_now (bay slot f) (s : State) : AtNow s.now (execImax bay slot f s) := by simp [execImax]
@[simp] theorem execAnd_now (bay slot f) (s : State) : AtNow s.now (execAnd bay slot f s) := by simp [execAnd]
@[simp] theorem execOr_now (bay slot f) (s : State) : AtNow s.now (execOr bay slot f s) := by simp [execOr]
@[simp] theorem execXor_now (bay slot f) (s : State) : AtNow s.now (execXor bay slot f s) := by simp [execXor]
@[simp] theorem execAndn_now (bay slot f) (s : State) : AtNow s.now (execAndn bay slot f s) := by simp [execAndn]
@[simp] theorem execShl_now (bay slot f) (s : State) : AtNow s.now (execShl bay slot f s) := by simp [execShl]
@[simp] theorem execShr_now (bay slot f) (s : State) : AtNow s.now (execShr bay slot f s) := by simp [execShr]
@[simp] theorem execPopc_now (bay slot f) (s : State) : AtNow s.now (execPopc bay slot f s) := by simp [execPopc]
@[simp] theorem execClz_now (bay slot f) (s : State) : AtNow s.now (execClz bay slot f s) := by simp [execClz]
@[simp] theorem execIaddi_now (bay slot f) (s : State) : AtNow s.now (execIaddi bay slot f s) := by simp [execIaddi]
@[simp] theorem execMovi_now (bay slot f) (s : State) : AtNow s.now (execMovi bay slot f s) := by simp [execMovi]
@[simp] theorem execMovhi_now (bay slot f) (s : State) : AtNow s.now (execMovhi bay slot f s) := by simp [execMovhi]
@[simp] theorem execIsetp_now (bay slot f) (s : State) : AtNow s.now (execIsetp bay slot f s) := by simp [execIsetp]
@[simp] theorem execSel_now (bay slot f) (s : State) : AtNow s.now (execSel bay slot f s) := by simp [execSel]
@[simp] theorem execPlop_now (bay slot f) (s : State) : AtNow s.now (execPlop bay slot f s) := by simp [execPlop]
@[simp] theorem execShfl_now (bay slot f) (s : State) : AtNow s.now (execShfl bay slot f s) := by simp [execShfl]
@[simp] theorem execVote_now (bay slot f) (s : State) : AtNow s.now (execVote bay slot f s) := by simp [execVote]
@[simp] theorem execBfe_now (bay slot f) (s : State) : AtNow s.now (execBfe bay slot f s) := by simp [execBfe]
@[simp] theorem execBfi_now (bay slot f) (s : State) : AtNow s.now (execBfi bay slot f s) := by simp [execBfi]
@[simp] theorem execMovu_now (bay slot f) (s : State) : AtNow s.now (execMovu bay slot f s) := by simp [execMovu]

/-! Control flow and launch, opcodes 0x48 to 0x4E (R72, R74, R78, R102, R112, R113). -/

@[simp] theorem execBra_now (bay slot f) (s : State) : AtNow s.now (execBra bay slot f s) := by simp [execBra]
@[simp] theorem State.jumpU_now (s : State) (bay slot f) : (s.jumpU bay slot f).now = s.now := by simp [State.jumpU]
@[simp] theorem execJmpu_now (bay slot f) (s : State) : AtNow s.now (execJmpu bay slot f s) := by simp [execJmpu]
@[simp] theorem execRet_now (bay slot f) (s : State) : AtNow s.now (execRet bay slot f s) := by simp [execRet]
@[simp] theorem execLoop_now (bay slot f) (s : State) : AtNow s.now (execLoop bay slot f s) := by simp [execLoop]
@[simp] theorem execCall_now (bay slot f) (s : State) : AtNow s.now (execCall bay slot f s) := by simp [execCall]
@[simp] theorem execExit_now (bay slot f) (s : State) : AtNow s.now (execExit bay slot f s) := by simp [execExit]

@[simp] theorem execLaunch_now (bay slot f) (s : State) : AtNow s.now (execLaunch bay slot f s) := by
  unfold execLaunch
  split
  · simp
  refine (atNow_next _ _).2 (State.issue_now _ _ _ _ _ _ fun c ex t ht => ?_)
  dsimp only
  (repeat' split) <;> simp [ht]

/-! Bay store and device-range memory, opcodes 0x50 to 0x59 (R84, R108 to R111). -/

@[simp] theorem State.localRead_now (s : State) (bay acc a n) : (s.localRead bay acc a n).2.2.now = s.now := by
  simp only [State.localRead]
  split <;> simp

@[simp] theorem State.mAccess_now (s : State) (bay slot f store acc) (cause : Nat → Option Nat) (c ex)
    (go : State → State) (h : (go s).now = s.now) : (s.mAccess bay slot f store acc cause c ex go).now = s.now := by
  unfold State.mAccess
  (repeat' split) <;> simp [h]

@[simp] theorem State.loadLocal_now (s : State) (bay slot f acc) : (s.loadLocal bay slot f acc).now = s.now := by
  unfold State.loadLocal
  refine State.issue_now _ _ _ _ _ _ fun c ex t ht => ?_
  refine (State.mAccess_now _ _ _ _ _ _ _ _ _ _ ?_).trans ht
  simp

@[simp] theorem State.storeLocal_now (s : State) (bay slot f acc) : (s.storeLocal bay slot f acc).now = s.now := by
  simp [State.storeLocal]
@[simp] theorem execLoadLocal_now (bay slot f) (s : State) : AtNow s.now (execLoadLocal bay slot f s) := by
  simp [execLoadLocal]
@[simp] theorem execStoreLocal_now (bay slot f) (s : State) : AtNow s.now (execStoreLocal bay slot f s) := by
  simp [execStoreLocal]
@[simp] theorem execLoadAcc_now (bay slot f) (s : State) : AtNow s.now (execLoadAcc bay slot f s) := by
  simp [execLoadAcc]
@[simp] theorem execStoreAcc_now (bay slot f) (s : State) : AtNow s.now (execStoreAcc bay slot f s) := by
  simp [execStoreAcc]

@[simp] theorem State.beginLong_now (s : State) (s0 : State) (bay slot c o) (go : Nat → State → State)
    (h0 : s0.now = s.now) (h : ∀ id t, (go id t).now = t.now) : (s.beginLong s0 bay slot c o go).now = s.now := by
  unfold State.beginLong
  (repeat' split) <;> simp [h0, h]

@[simp] theorem State.noteEffect_now (s : State) (bay slot st) : (s.noteEffect bay slot st).now = s.now := by
  simp [State.noteEffect]

@[simp] theorem execLoadDev_now (bay slot f) (s : State) : AtNow s.now (execLoadDev bay slot f s) := by
  unfold execLoadDev
  split
  · simp
  refine (atNow_next _ _).2 (State.issue_now _ _ _ _ _ _ fun c ex t ht => ?_)
  refine (State.mAccess_now _ _ _ _ _ _ _ _ _ _ ?_).trans ht
  dsimp only
  split
  · simp
  · refine State.beginLong_now _ _ _ _ _ _ _ ht.symm fun id u => ?_
    simp

@[simp] theorem execStoreDev_now (bay slot f) (s : State) : AtNow s.now (execStoreDev bay slot f s) := by
  unfold execStoreDev
  split
  · simp
  refine (atNow_next _ _).2 ?_
  rw [State.skipFree_now]
  refine State.issue_now _ _ _ _ _ _ fun c ex t ht => ?_
  refine (State.mAccess_now _ _ _ _ _ _ _ _ _ _ ?_).trans ht
  simp

@[simp] theorem execAtomDev_now (bay slot f) (s : State) : AtNow s.now (execAtomDev bay slot f s) := by
  unfold execAtomDev
  split
  · simp
  refine (atNow_next _ _).2 ?_
  rw [State.skipFree_now]
  refine State.issue_now _ _ _ _ _ _ fun c ex t ht => ?_
  dsimp only
  (repeat' split)
  · simp [ht]
  · simp [ht]
  · simp [ht]
  · simp [ht]
  · refine (State.beginLong_now _ _ _ _ _ _ _ ht.symm fun id u => ?_).trans ht
    simp

@[simp] theorem execAtomLocal_now (bay slot f) (s : State) : AtNow s.now (execAtomLocal bay slot f s) := by
  unfold execAtomLocal
  split
  · simp
  refine (atNow_next _ _).2 ?_
  rw [State.skipFree_now]
  refine State.issue_now _ _ _ _ _ _ fun c ex t ht => ?_
  (repeat' split) <;> simp [ht]

@[simp] theorem execFlashRead_now (bay slot f) (s : State) : AtNow s.now (execFlashRead bay slot f s) := by
  unfold execFlashRead
  split
  · simp
  refine (atNow_next _ _).2 (State.issue_now _ _ _ _ _ _ fun c ex t ht => ?_)
  dsimp only
  repeat' with_reducible refine (ite_now _ _ _).trans ?_
  simp [ht, State.beginLong_now _ _ _ _ _ _ _ ht.symm]

@[simp] theorem execSpanClear_now (bay slot f) (s : State) : AtNow s.now (execSpanClear bay slot f s) := by
  simp [execSpanClear]

end Sys2Proof.Machine
end

section
/-! SUPPORT. Measurements, images, streams, the journal and the legs on text leave the reference tick alone (R37). -/

namespace Sys2Proof.Machine

/-! Measurement logs (R466, R467). -/

@[simp] theorem State.setTentLog_now (s : State) (t l) : (s.setTentLog t l).now = s.now := by simp [State.setTentLog]

@[simp] theorem State.measureTent_now (s : State) (t component st digest) :
    (s.measureTent t component st digest).now = s.now := by
  simp [State.measureTent]

@[simp] theorem State.measureImage_now (s : State) (component svn ok st digest) :
    (s.measureImage component svn ok st digest).now = s.now := by
  simp [State.measureImage]

/-! Signed images (R463, R464). -/

@[simp] theorem State.verifyImage_now (s : State) (isl det component b) :
    (s.verifyImage isl det component b).2.now = s.now := by
  simp [State.verifyImage]

@[simp] theorem State.commitUpdates_now (s : State) : s.commitUpdates.now = s.now := by
  refine foldl_now _ _ _ fun s c => ?_
  (repeat' split) <;> simp

/-! Stream rings, publication and cancel decisions (R325 to R333, R337, R362, R363). -/

@[simp] theorem State.strmResult_now (s : State) (n) : (s.strmResult n).now = s.now := by simp [State.strmResult]
@[simp] theorem execRingRegister_now (k t log2) (s : State) : AtNow s.now (execRingRegister k t log2 s) := by
  simp [execRingRegister]

@[simp] theorem execRingUnregister_now (k) (s : State) : AtNow s.now (execRingUnregister k s) := by
  unfold execRingUnregister
  split <;> simp

@[simp] theorem execRingRead_now (k) (s : State) : AtNow s.now (execRingRead k s) := by
  unfold execRingRead
  split <;> simp

@[simp] theorem State.pollRing_now (s : State) (k) : (s.pollRing k).now = s.now := by
  unfold State.pollRing
  split <;> simp

@[simp] theorem State.stallBegin_now (s : State) (k r) : (s.stallBegin k r).now = s.now := by
  simp only [State.stallBegin]
  (repeat' split) <;> simp

@[simp] theorem State.stallEnd_now (s : State) (k) : (s.stallEnd k).now = s.now := by
  simp only [State.stallEnd]
  (repeat' split) <;> simp

@[simp] theorem execRingConsumerPoll_now (k) (s : State) : AtNow s.now (execRingConsumerPoll k s) := by
  simp only [execRingConsumerPoll]
  split <;> simp

@[simp] theorem State.writeRecord_now (s : State) (q k p n r) : (s.writeRecord q k p n r).now = s.now := by
  simp [State.writeRecord]

@[simp] theorem State.writeRecords_now (s : State) (q k n m l) : (s.writeRecords q k n m l).now = s.now := by
  induction l generalizing s n m with
  | nil => rfl
  | cons r rs ih => simp [State.writeRecords, ih]

@[simp] theorem State.finalPublished_now (s : State) (r k g) : (s.finalPublished r k g).now = s.now := by
  simp [State.finalPublished]
@[simp] theorem State.publishGroup_now (s : State) (r k x g gs) : (s.publishGroup r k x g gs).now = s.now := by
  simp [State.publishGroup]

@[simp] theorem execRecordPublish_now (n) (s : State) : AtNow s.now (execRecordPublish n s) := by
  simp only [execRecordPublish]
  (repeat' split) <;> simp

@[simp] theorem execCancelDecision_now (n) (s : State) : AtNow s.now (execCancelDecision n s) := by
  unfold execCancelDecision
  split <;> simp

/-! The journal unit (R403, R408 to R416, R428 to R430, R454): appends, group writes, the mirror and the host's lease.
-/

@[simp] theorem State.takeSent_now (s : State) (r) : (s.takeSent r).now = s.now := by simp [State.takeSent]
@[simp] theorem State.coverGroups_now (s : State) (r id) : (s.coverGroups r id).now = s.now := by
  simp [State.coverGroups]

@[simp] theorem State.appendNext_now (s : State) (k) : (s.appendNext k).now = s.now := by
  unfold State.appendNext
  split
  · rfl
  split
  · rfl
  split
  · next hu => simpa using State.appendRec_now _ _ hu
  · rfl

@[simp] theorem execJournalAdmit_now (s : State) : AtNow s.now (execJournalAdmit s) := by
  unfold execJournalAdmit
  split
  · simp
  refine .ite (by simp) (.ite (by simp) ?_)
  split
  · next hu => simpa using State.appendRec_now _ _ hu
  · simp

@[simp] theorem execJournalLegResult_now (s : State) : AtNow s.now (execJournalLegResult s) := by
  simp [execJournalLegResult]
@[simp] theorem execJournalTokens_now (s : State) : AtNow s.now (execJournalTokens s) := by simp [execJournalTokens]
@[simp] theorem execJournalCancel_now (s : State) : AtNow s.now (execJournalCancel s) := by simp [execJournalCancel]

@[simp] theorem execJournalComplete_now (n) (s : State) : AtNow s.now (execJournalComplete n s) := by
  unfold execJournalComplete
  split
  · simp
  next r _ =>
  split
  · simp
  refine .ite (by simp) ?_
  have stamped := s.originate_now (islKerf r.kerf)
  generalize s.originate (islKerf r.kerf) = p at stamped ⊢
  obtain ⟨st, u⟩ := p
  refine AtNow.ite (by simpa using stamped) ?_
  split
  · next hu => simpa using (State.appendRec_now _ _ hu).trans stamped
  · simp

@[simp] theorem execGroupCommitWrite_now (s : State) : AtNow s.now (execGroupCommitWrite s) := by
  simp [execGroupCommitWrite]
@[simp] theorem execGroupWriteComplete_now (s : State) : AtNow s.now (execGroupWriteComplete s) := by
  simp [execGroupWriteComplete]
@[simp] theorem execMirrorTimeout_now (s : State) : AtNow s.now (execMirrorTimeout s) := by simp [execMirrorTimeout]
@[simp] theorem State.beginResync_now (s : State) : s.beginResync.now = s.now := by simp [State.beginResync]
@[simp] theorem execMirrorPeerChange_now (v) (s : State) : AtNow s.now (execMirrorPeerChange v s) := by
  simp [execMirrorPeerChange]
@[simp] theorem execMirrorResyncComplete_now (s : State) : AtNow s.now (execMirrorResyncComplete s) := by
  simp [execMirrorResyncComplete]
@[simp] theorem State.probePeer_now (s : State) : s.probePeer.now = s.now := by simp [State.probePeer]
@[simp] theorem execMirrorProbe_now (answered) (s : State) : AtNow s.now (execMirrorProbe answered s) := by
  simp [execMirrorProbe]
@[simp] theorem execHostBeat_now (s : State) : AtNow s.now (execHostBeat s) := by simp [execHostBeat]
@[simp] theorem execHostAttach_now (s : State) : AtNow s.now (execHostAttach s) := by simp [execHostAttach]
@[simp] theorem State.enterOrphan_now (s : State) : s.enterOrphan.now = s.now := by simp [State.enterOrphan]
@[simp] theorem execHostDetach_now (s : State) : AtNow s.now (execHostDetach s) := by simp [execHostDetach]
@[simp] theorem execLeaseExpire_now (s : State) : AtNow s.now (execLeaseExpire s) := by simp [execLeaseExpire]

/-! What the legs read: units' reads of a tent's device range, model slots (R377), the checks of a request's
parameters (R308, R310, R311, R355), templates and prompts (R320 to R322). -/

@[simp] theorem State.unitRead_now (s : State) (t a n) {m : Nat} (h : s.now = m) :
    OkNow m (·.2) (s.unitRead t a n) := by
  unfold State.unitRead
  split
  · dsimp only
    split <;> simp [h]
  · simp
  · simp
  · simp

@[simp] theorem State.unitFail_now (s : State) (n t isl x) : (s.unitFail n t isl x).now = s.now := by
  unfold State.unitFail
  split <;> simp

@[simp] theorem State.readElems_now (t a n k) (s : State) {m : Nat} (h : s.now = m) :
    OkNow m (·.2) (State.readElems t a n k s) := by
  induction n generalizing k s with
  | zero => simp [State.readElems, h]
  | succ n ih =>
    refine .bind (State.unitRead_now _ _ _ _ h) fun x hx => ?_
    refine .bind (st := (·.2)) ?_ fun y hy => .bind (ih _ _ hy) fun z hz => ?_
    · exact .ite (by simpa using hx) (State.unitRead_now _ _ _ _ hx)
    · exact .ite (by simp) (by simpa using hz)

@[simp] theorem State.readTemplate_now (s : State) (t a v pass) {m : Nat} (h : s.now = m) :
    OkNow m (·.2) (s.readTemplate t a v pass) := by
  refine .bind (State.unitRead_now _ _ _ _ h) fun x hx => .ite (by simp) ?_
  refine .bind (State.readElems_now _ _ _ _ _ hx) fun y hy => .ite (by simp) ?_
  simpa using hy

/-! The TEXT block (R273 to R302): vocabulary and grammar slots, tokenization, contexts and masks. -/

@[simp] theorem State.modText_now (s : State) (f : TextSt → TextSt) : (s.modText f).now = s.now := by
  simp [State.modText]
@[simp] theorem State.setVocab_now (s : State) (x v) : (s.setVocab x v).now = s.now := by simp [State.setVocab]
@[simp] theorem State.setGrammar_now (s : State) (x g) : (s.setGrammar x g).now = s.now := by simp [State.setGrammar]
@[simp] theorem State.vocabFail_now (s : State) (x reason) : (s.vocabFail x reason).now = s.now := by
  simp [State.vocabFail]
@[simp] theorem execVocabRegister_now (x v) (s : State) : AtNow s.now (execVocabRegister x v s) := by
  simp [execVocabRegister]

@[simp] theorem execVocabLoadComplete_now (x) (s : State) : AtNow s.now (execVocabLoadComplete x s) := by
  simp only [execVocabLoadComplete]
  (repeat' split) <;> simp

@[simp] theorem execVocabRetire_now (x) (s : State) : AtNow s.now (execVocabRetire x s) := by simp [execVocabRetire]
@[simp] theorem State.grammarFail_now (s : State) (x reason) : (s.grammarFail x reason).now = s.now := by
  simp [State.grammarFail]
@[simp] theorem execGrammarRegister_now (x v) (s : State) : AtNow s.now (execGrammarRegister x v s) := by
  simp [execGrammarRegister]

@[simp] theorem execGrammarLoadComplete_now (x) (s : State) : AtNow s.now (execGrammarLoadComplete x s) := by
  unfold execGrammarLoadComplete
  dsimp only
  refine .ite (by simp) ?_
  split
  · simp
  · simp
  rename_i h u hu
  have e : u.now = s.now := State.unitRead_now _ _ _ _ rfl _ hu
  (repeat' split) <;> simp [e]

@[simp] theorem execGrammarRetire_now (x) (s : State) : AtNow s.now (execGrammarRetire x s) := by
  simp [execGrammarRetire]
@[simp] theorem State.noteItem_now (s : State) (r k) : (s.noteItem r k).now = s.now := by simp [State.noteItem]

@[simp] theorem State.rerankItems_now (r v n k) (s : State) {m : Nat} (h : s.now = m) :
    OkNow m (·.2) (State.rerankItems r v n k s) := by
  induction n generalizing k s with
  | zero => simp [State.rerankItems, h]
  | succ n ih =>
    unfold State.rerankItems
    split
    · simp
    refine .ite (by simp) ?_
    dsimp only
    split
    · simp
    refine .ite (by simp) ?_
    refine .bind (ih _ _ (by simpa using h)) fun z hz => ?_
    simpa using hz

@[simp] theorem State.readStop_now (s : State) (r) {m : Nat} (h : s.now = m) : OkNow m (·.2) (s.readStop r) := by
  refine .ite (by simpa using h) ?_
  refine .bind (State.unitRead_now _ _ _ _ h) fun x hx => .ite (by simp) ?_
  refine .bind (State.unitRead_now _ _ _ _ hx) fun y hy => .ite (by simp) ?_
  simpa using hy

@[simp] theorem State.generatePrompt_now (s : State) (r v query) {m : Nat} (h : s.now = m) :
    OkNow m (·.2) (s.generatePrompt r v query) := by
  refine .ite (by simpa using h) (.ite (by simpa using h) ?_)
  refine .bind (State.readTemplate_now _ _ _ _ _ h) fun x hx => .ite (by simp) ?_
  simpa using hx

@[simp] theorem State.tokenized_now (s : State) (r query prompt passages stop) :
    (s.tokenized r query prompt passages stop).now = s.now := by
  simp [State.tokenized]

@[simp] theorem execTokenizeLeg_now (n) (s : State) : AtNow s.now (execTokenizeLeg n s) := by
  unfold execTokenizeLeg
  split
  · simp
  dsimp only
  refine .ite (by simp) (.ite (by simp) (.ite (by simp) ?_))
  split
  · simp
  rename_i stop s1 hs
  have e1 : s1.now = s.now := State.readStop_now _ _ rfl _ hs
  split
  · simp [e1]
  refine .ite (by simp [e1]) (.ite (by simp [e1]) ?_)
  split
  · simp [e1]
  rename_i prompt s2 hp
  have e2 : s2.now = s1.now := State.generatePrompt_now _ _ _ _ rfl _ hp
  split
  · simp [e1, e2]
  rename_i ps s3 hr
  have e3 : s3.now = s2.now := State.rerankItems_now _ _ _ _ _ (by simp) _ hr
  simp [e1, e2, e3]

@[simp] theorem execKerfContextAcquire_now (n) (s : State) : AtNow s.now (execKerfContextAcquire n s) := by
  unfold execKerfContextAcquire
  split <;> simp

@[simp] theorem State.imageInconsistent_now (s : State) (r addr token) :
    (s.imageInconsistent r addr token).now = s.now := by
  simp [State.imageInconsistent]

@[simp] theorem execGuylineContextAcquire_now (n) (s : State) : AtNow s.now (execGuylineContextAcquire n s) := by
  simp only [execGuylineContextAcquire]
  (repeat' split) <;> simp

@[simp] theorem State.guyFail_now (s : State) (r t token x) : (s.guyFail r t token x).now = s.now := by
  unfold State.guyFail
  split <;> simp

@[simp] theorem execGuylineMask_now (n j) (s : State) : AtNow s.now (execGuylineMask n j s) := by
  simp only [execGuylineMask]
  (repeat' split) <;> simp

/-! The EMBED, RERANK and PACK legs and the completion of a leg (R28 to R33, R317 to R322, R409). -/

@[simp] theorem execEmbedLeg_now (n vec bad) (s : State) : AtNow s.now (execEmbedLeg n vec bad s) := by
  unfold execEmbedLeg
  split <;> simp

@[simp] theorem State.ragPassage_now (r v id) (s : State) {m : Nat} (h : s.now = m) :
    OkNow m (·.2) (State.ragPassage r v id s) := by
  refine .bind (State.unitRead_now _ _ _ _ h) fun x hx => .ite (by simp) ?_
  refine .bind (st := (·.2)) ?_ fun y hy => .ite (by simp) ?_
  · exact .ite (by simpa using hx) (State.unitRead_now _ _ _ _ hx)
  · simpa using hy

@[simp] theorem State.ragPassages_now (r v l) (s : State) {m : Nat} (h : s.now = m) :
    OkNow m (·.2) (State.ragPassages r v l s) := by
  induction l generalizing s with
  | nil => simp [State.ragPassages, h]
  | cons i is ih =>
    refine .bind (State.ragPassage_now _ _ _ _ h) fun x hx => .bind (ih _ hx) fun y hy => ?_
    simpa using hy

@[simp] theorem State.rerankPassages_now (s : State) (r v) {m : Nat} (h : s.now = m) :
    OkNow m (·.2) (s.rerankPassages r v) :=
  .ite (by simpa using h) (State.ragPassages_now _ _ _ _ h)

@[simp] theorem execRerankLeg_now (n scores) (s : State) : AtNow s.now (execRerankLeg n scores s) := by
  unfold execRerankLeg
  split
  · simp
  refine .ite (by simp) ?_
  dsimp only
  split
  · simp
  rename_i es ps s1 hres
  have e : s1.now = s.now := by
    refine OkNow.bind (st' := fun x : List TElem × List TextItem × State => x.2.2)
      (State.readTemplate_now _ _ _ _ _ rfl) (fun x hx => ?_) _ hres
    exact .bind (State.rerankPassages_now _ _ _ hx) fun y hy => okNow_pure.2 hy
  (repeat' split) <;> simp [e]

@[simp] theorem execPackLeg_now (n) (s : State) : AtNow s.now (execPackLeg n s) := by
  unfold execPackLeg
  split
  · simp
  refine .ite (by simp) ?_
  dsimp only
  split
  · simp
  rename_i es u hu
  have e : u.now = s.now := State.readTemplate_now _ _ _ _ _ rfl _ hu
  split <;> simp [e]

@[simp] theorem State.journalLeg_now (s : State) (r st) : (s.journalLeg r st).now = s.now := by
  simp [State.journalLeg]

@[simp] theorem execLegComplete_now (n) (s : State) : AtNow s.now (execLegComplete n s) := by
  unfold execLegComplete
  split <;> simp

/-! Accesses of Lantern and of the table engines to a tent's device range (R239, R245, R489): a small state monad that
stops where a panel has to be brought in or the request ends. -/

@[simp] theorem EM.stop_now {α : Type} (status addr bad) : (EM.stop status addr bad : EM α).KeepsNow := by
  intro s b t e
  cases e

@[simp] theorem EM.served_now (t a n) : (EM.served t a n).KeepsNow := by
  intro s b u e
  unfold EM.served at e
  split at e <;> cases e
  rfl

@[simp] theorem EM.read_now (t a n) : (EM.read t a n).KeepsNow := by
  refine .bind (EM.served_now _ _ _) fun _ => ?_
  intro s b u e
  change (if (s.devRead t a n).2.1 then EM.stop 0x40 a true else
    (do set (s.devRead t a n).2.2; return (s.devRead t a n).1 : EM (List Byte))) s = _ at e
  split at e <;> cases e
  exact s.devRead_now t a n

@[simp] theorem EM.write_now (t a bs) : (EM.write t a bs).KeepsNow := .bind (EM.served_now _ _ _) fun _ => by simp

@[simp] theorem State.engFail_now (s : State) (n t isl x) : (s.engFail n t isl x).now = s.now := by
  unfold State.engFail
  split <;> simp

end Sys2Proof.Machine
end

section
/-! SUPPORT. The couplers, the fabric and its transactions, the long engines and collectives leave the reference tick
alone (R37); a time exchange, which moves it, stands with the dispatch below. -/

namespace Sys2Proof.Machine

/-! Couplers (R20, R51, R486, R489): delivery in order with the check of the payload, and watermarks. -/

@[simp] theorem State.setCoupler_now (s : State) (src dst l) : (s.setCoupler src dst l).now = s.now := by
  simp [State.setCoupler]
@[simp] theorem State.send_now (s : State) (src dst i) : (s.send src dst i).now = s.now := by simp [State.send]
@[simp] theorem State.setInbox_now (s : State) (n l) : (s.setInbox n l).now = s.now := by simp [State.setInbox]

@[simp] theorem State.checkPayload_now (s : State) (dst flips n l) :
    (s.checkPayload dst flips n l).2.now = s.now := by
  induction l generalizing s n with
  | nil => rfl
  | cons w ws ih => simp [State.checkPayload, ih]

@[simp] theorem State.logReplays_now (s : State) (bridge n) : (s.logReplays bridge n).now = s.now := by
  induction n generalizing s with
  | zero => rfl
  | succ n ih => simp [State.logReplays, ih]

@[simp] theorem execCouplerDeliver_now (src dst flips ctlBad bridge tries) (s : State) :
    AtNow s.now (execCouplerDeliver src dst flips ctlBad bridge tries s) := by
  simp only [execCouplerDeliver]
  (repeat' split) <;> simp

@[simp] theorem execWatermarkSend_now (src dst) (s : State) : AtNow s.now (execWatermarkSend src dst s) := by
  simp [execWatermarkSend]

/-! Messages and remote access as bays issue them (R116 to R118), opcodes 0x68 to 0x6C, and what a reply does (R385,
R445 to R447). -/

@[simp] theorem State.remoteIssue_now (s : State) (o t) : (s.remoteIssue o t).now = s.now := by
  simp [State.remoteIssue]
@[simp] theorem State.remoteOver_now (s : State) (bay slot id) : (s.remoteOver bay slot id).now = s.now := by
  simp [State.remoteOver]
@[simp] theorem State.dropOp_now (s : State) (o) : (s.dropOp o).now = s.now := by simp [State.dropOp]

@[simp] theorem State.remoteData_now (s : State) (o b bad) : (s.remoteData o b bad).now = s.now := by
  simp only [State.remoteData]
  (repeat' split) <;> simp

@[simp] theorem State.remoteTrap_now (s : State) (o cause detail) : (s.remoteTrap o cause detail).now = s.now := by
  simp [State.remoteTrap]
@[simp] theorem State.remoteFault_now (s : State) (o code) : (s.remoteFault o code).now = s.now := by
  simp [State.remoteFault]
@[simp] theorem execMsgSend_now (bay slot f) (s : State) : AtNow s.now (execMsgSend bay slot f s) := by
  simp [execMsgSend]

@[simp] theorem execMessageDeliver_now (bay) (s : State) : AtNow s.now (execMessageDeliver bay s) := by
  simp only [execMessageDeliver]
  split <;> simp

@[simp] theorem execRemoteLoad_now (bay slot f) (s : State) : AtNow s.now (execRemoteLoad bay slot f s) := by
  unfold execRemoteLoad
  split
  · simp
  refine (atNow_next _ _).2 (State.issue_now _ _ _ _ _ _ fun c ex t ht => ?_)
  dsimp only
  split
  · simp [ht]
  split
  · simp [ht]
  split
  · simp [ht]
  refine (State.beginLong_now _ _ _ _ _ _ _ ht.symm fun id u => ?_).trans ht
  split <;> simp

@[simp] theorem execRemoteAtom_now (bay slot f) (s : State) : AtNow s.now (execRemoteAtom bay slot f s) := by
  unfold execRemoteAtom
  split
  · simp
  refine (atNow_next _ _).2 (State.issue_now _ _ _ _ _ _ fun c ex t ht => ?_)
  dsimp only
  split
  · simp [ht]
  split
  · simp [ht]
  split
  · simp [ht]
  split
  · simp [ht]
  rw [State.skipFree_now]
  refine (State.beginLong_now _ _ _ _ _ _ _ ht.symm fun id u => ?_).trans ht
  split <;> simp

@[simp] theorem State.remoteCopy_now (s : State) (bay slot f) (go : Crew → Nat → Nat → Nat → Nat → State → State)
    (h : ∀ c a d n dev t, t.now = s.now → (go c a d n dev t).now = s.now) :
    (s.remoteCopy bay slot f go).now = s.now := by
  unfold State.remoteCopy
  refine State.issue_now _ _ _ _ _ _ fun c ex t ht => ?_
  simp [ht, h]

@[simp] theorem execRemoteGet_now (bay slot f) (s : State) : AtNow s.now (execRemoteGet bay slot f s) := by
  unfold execRemoteGet
  split
  · simp
  refine (atNow_next _ _).2 (State.remoteCopy_now _ _ _ _ _ fun c a d n dev t ht => ?_)
  refine (State.beginLong_now _ _ _ _ _ _ _ ht.symm fun id u => ?_).trans ht
  simp

@[simp] theorem execRemotePut_now (bay slot f) (s : State) : AtNow s.now (execRemotePut bay slot f s) := by
  unfold execRemotePut
  split
  · simp
  refine (atNow_next _ _).2 (State.remoteCopy_now _ _ _ _ _ fun c a d n dev t ht => ?_)
  dsimp only
  split
  · exact (State.beginLong_now _ _ _ _ _ _ _ ht.symm fun id u => rfl).trans ht
  · refine (State.beginLong_now _ _ _ _ _ _ _ ht.symm fun id u => ?_).trans ht
    simp

/-! Fabric links (R432 to R443, R455 to R457): bring-up, flits, sealing, time exchange, routing and link failure. -/

@[simp] theorem State.setLinkState_now (s : State) (l st) : (s.setLinkState l st).now = s.now := by
  simp [State.setLinkState]

@[simp] theorem State.timeTree_now (s : State) : s.timeTree.now = s.now := by
  simp only [State.timeTree]
  split <;> simp

@[simp] theorem State.takeDown_now (s : State) (l reason) : (s.takeDown l reason).now = s.now := by
  simp [State.takeDown]
@[simp] theorem execLinkDown_now (l reason) (s : State) : AtNow s.now (execLinkDown l reason s) := by
  simp [execLinkDown]
@[simp] theorem execLinkDisable_now (l) (s : State) : AtNow s.now (execLinkDisable l s) := by simp [execLinkDisable]
@[simp] theorem State.tellLost_now (s : State) (l code t) : (s.tellLost l code t).now = s.now := by
  simp [State.tellLost]

@[simp] theorem State.loseFlits_now (s : State) (l code fs) : (s.loseFlits l code fs).now = s.now := by
  unfold State.loseFlits
  refine (foldl_now _ _ _ fun s f => ?_).trans (foldl_now _ _ _ fun s o => ?_)
  · (repeat' split) <;> simp
  · simp

@[simp] theorem execLinkNoticeTimeout_now (l) (s : State) : AtNow s.now (execLinkNoticeTimeout l s) := by
  simp only [execLinkNoticeTimeout]
  (repeat' split) <;> simp

@[simp] theorem execLinksGo_now (v) (s : State) : AtNow s.now (execLinksGo v s) := by simp [execLinksGo]

@[simp] theorem execLinkTrainRetry_now (l peer) (s : State) : AtNow s.now (execLinkTrainRetry l peer s) := by
  unfold execLinkTrainRetry
  split <;> simp

@[simp] theorem execLinkKeyAgree_now (l ok) (s : State) : AtNow s.now (execLinkKeyAgree l ok s) := by
  simp [execLinkKeyAgree]
@[simp] theorem execLinkRekey_now (l) (s : State) : AtNow s.now (execLinkRekey l s) := by simp [execLinkRekey]
@[simp] theorem execLinkUp_now (l) (s : State) : AtNow s.now (execLinkUp l s) := by simp [execLinkUp]
@[simp] theorem State.transmit_now (s : State) (l f) : (s.transmit l f).now = s.now := by simp [State.transmit]

@[simp] theorem execFlitSend_now (l) (s : State) : AtNow s.now (execFlitSend l s) := by
  simp only [execFlitSend]
  (repeat' split) <;> simp

@[simp] theorem execAckTimer_now (l) (s : State) : AtNow s.now (execAckTimer l s) := by simp [execAckTimer]
@[simp] theorem execSealIdleClose_now (l) (s : State) : AtNow s.now (execSealIdleClose l s) := by
  simp [execSealIdleClose]

theorem State.systemTxn_now (s : State) (t) {t1} (h : s.systemTxn t = some t1) : t1.now = s.now := by
  unfold State.systemTxn at h
  split at h
  · split at h <;> cases h <;> simp
  · cases h
    simp
  · cases h
    rfl
  · cases h

@[simp] theorem State.assemble_now (s : State) (l f) : (s.assemble l f).now = s.now := by
  simp only [State.assemble]
  split
  · split
    · split
      · next hu => simpa using State.systemTxn_now _ _ hu
      · simp
    · simp
  · simp

@[simp] theorem State.returnCredit_now (s : State) (l f) : (s.returnCredit l f).now = s.now := by
  simp [State.returnCredit]
@[simp] theorem State.takeFlit_now (s : State) (l f) : (s.takeFlit l f).now = s.now := by simp [State.takeFlit]
@[simp] theorem State.acceptFlit_now (s : State) (l f sealOk) : (s.acceptFlit l f sealOk).now = s.now := by
  simp [State.acceptFlit]

@[simp] theorem execFlitReceive_now (l f crcOk sealOk) (s : State) :
    AtNow s.now (execFlitReceive l f crcOk sealOk s) := by
  simp [execFlitReceive]

@[simp] theorem execFlitForward_now (l) (s : State) : AtNow s.now (execFlitForward l s) := by
  unfold execFlitForward
  split <;> simp

@[simp] theorem execRouteWrite_now (v) (s : State) : AtNow s.now (execRouteWrite v s) := by simp [execRouteWrite]

@[simp] theorem execRouteHoldExpire_now (d) (s : State) : AtNow s.now (execRouteHoldExpire d s) := by
  simp only [execRouteHoldExpire]
  split <;> simp

/-! Fabric transactions that have arrived (R62, R411, R445 to R448, R454, R456, R474). -/

@[simp] theorem State.takeTxn_now (s : State) (k) : (s.takeTxn k).now = s.now := by simp [State.takeTxn]
@[simp] theorem State.reply_now (s : State) (l t op addr size pay) : (s.reply l t op addr size pay).now = s.now := by
  simp [State.reply]

@[simp] theorem State.replyFault_now (s : State) (l t code) : (s.replyFault l t code).now = s.now := by
  simp only [State.replyFault]
  (repeat' split) <;> simp

@[simp] theorem State.replyData_now (s : State) (l t op b bad) : (s.replyData l t op b bad).now = s.now := by
  simp only [State.replyData]
  (repeat' split) <;> simp

@[simp] theorem State.serveTxn_now (s : State) (k op) (go : Nat → Txn → State → State)
    (hgo : ∀ x0 x1 x2, (go x0 x1 x2).now = x2.now) : (s.serveTxn k op go).now = s.now := by
  unfold State.serveTxn
  split
  · rfl
  dsimp only
  split
  · rfl
  split
  · split <;> simp
  · split <;> simp [hgo]

@[simp] theorem execTxnRead_now (k) (s : State) : AtNow s.now (execTxnRead k s) := by simp [execTxnRead]
@[simp] theorem execTxnWrite_now (k) (s : State) : AtNow s.now (execTxnWrite k s) := by simp [execTxnWrite]

@[simp] theorem execTxnAtomic_now (k) (s : State) : AtNow s.now (execTxnAtomic k s) := by
  unfold execTxnAtomic
  refine (atNow_next _ _).2 (State.serveTxn_now _ _ _ _ fun l t u => ?_)
  split
  · dsimp only
    split <;> simp
  · rfl

@[simp] theorem execTxnMessage_now (k) (s : State) : AtNow s.now (execTxnMessage k s) := by simp [execTxnMessage]

@[simp] theorem State.takeReply_now (s : State) (k op) (go : RemoteOp → Txn → State → State)
    (hgo : ∀ x0 x1 x2, (go x0 x1 x2).now = x2.now) : (s.takeReply k op go).now = s.now := by
  unfold State.takeReply
  dsimp only
  (repeat' split) <;> simp [hgo]

@[simp] theorem execTxnReadData_now (k) (s : State) : AtNow s.now (execTxnReadData k s) := by simp [execTxnReadData]
@[simp] theorem execTxnWriteDone_now (k) (s : State) : AtNow s.now (execTxnWriteDone k s) := by
  simp [execTxnWriteDone]
@[simp] theorem execTxnAtomicData_now (k) (s : State) : AtNow s.now (execTxnAtomicData k s) := by
  simp [execTxnAtomicData]
@[simp] theorem execTxnFault_now (k) (s : State) : AtNow s.now (execTxnFault k s) := by simp [execTxnFault]

@[simp] theorem execRemoteTimeout_now (tag) (s : State) : AtNow s.now (execRemoteTimeout tag s) := by
  unfold execRemoteTimeout
  split <;> simp

@[simp] theorem State.truncateRegion_now (s : State) (dev tail ids) :
    (s.truncateRegion dev tail ids).now = s.now := by
  unfold State.truncateRegion
  split <;> simp

@[simp] theorem execTxnJournal_now (k) (s : State) : AtNow s.now (execTxnJournal k s) := by
  simp only [execTxnJournal]
  (repeat' split) <;> simp

@[simp] theorem execTxnJournalAck_now (k) (s : State) : AtNow s.now (execTxnJournalAck k s) := by
  simp only [execTxnJournalAck]
  (repeat' split) <;> simp

@[simp] theorem execTxnLinkNotice_now (k) (s : State) : AtNow s.now (execTxnLinkNotice k s) := by
  simp only [execTxnLinkNotice]
  (repeat' split) <;> simp

@[simp] theorem State.forwardBroadcast_now (s : State) (l t) : (s.forwardBroadcast l t).now = s.now := by
  simp [State.forwardBroadcast]

@[simp] theorem execTxnFreeze_now (k) (s : State) : AtNow s.now (execTxnFreeze k s) := by
  simp only [execTxnFreeze]
  (repeat' split) <;> simp

@[simp] theorem execTxnResume_now (k) (s : State) : AtNow s.now (execTxnResume k s) := by
  simp only [execTxnResume]
  (repeat' split) <;> simp

@[simp] theorem execKeyidAnnounce_now (t) (s : State) : AtNow s.now (execKeyidAnnounce t s) := by
  simp [execKeyidAnnounce]

/-! Issuing a long form into its unit's queue (R119 to R121), and what a unit reads of a local store. -/

@[simp] theorem State.issueLong_now (s : State) (bay slot f w2 op k uses) (ok : LongForm → Bay → Bool)
    (full : Bay → Bool) (eng reason) (push : Bay → LongForm → Bay) :
    (s.issueLong bay slot f w2 op k uses ok full eng reason push).now = s.now := by
  unfold State.issueLong
  refine State.issue_now _ _ _ _ _ _ fun c ex t ht => ?_
  simp [ht]

@[simp] theorem State.skipForm_now (s : State) : s.skipForm.now = s.now := by simp [State.skipForm]
@[simp] theorem State.feedStore_now (s : State) (bay a) : (s.feedStore bay a).2.now = s.now := by
  simp [State.feedStore]

/-! The truss (chapter 05 of the spec): the forms of R123 to R125 at issue, and what each computes when it completes.
-/

@[simp] theorem State.issueTruss_now (s : State) (bay slot f w2 op k uses) (ok : Bay → Bool) :
    (s.issueTruss bay slot f w2 op k uses ok).now = s.now := by
  simp [State.issueTruss]

@[simp] theorem execTrShape_now (bay slot f w2) (s : State) : AtNow s.now (execTrShape bay slot f w2 s) := by
  simp [execTrShape]
@[simp] theorem execTrWload_now (bay slot f w2) (s : State) : AtNow s.now (execTrWload bay slot f w2 s) := by
  simp [execTrWload]
@[simp] theorem execTrSwap_now (bay slot f w2) (s : State) : AtNow s.now (execTrSwap bay slot f w2 s) := by
  simp [execTrSwap]
@[simp] theorem execTrRun_now (bay slot f w2) (s : State) : AtNow s.now (execTrRun bay slot f w2 s) := by
  simp [execTrRun]
@[simp] theorem execTrCmp_now (bay slot f w2) (s : State) : AtNow s.now (execTrCmp bay slot f w2 s) := by
  simp [execTrCmp]
@[simp] theorem execTrAccz_now (bay slot f w2) (s : State) : AtNow s.now (execTrAccz bay slot f w2 s) := by
  simp [execTrAccz]
@[simp] theorem execTrSync_now (bay slot f w2) (s : State) : AtNow s.now (execTrSync bay slot f w2 s) := by
  simp [execTrSync]

@[simp] theorem execTrussFormComplete_now (bay) (s : State) : AtNow s.now (execTrussFormComplete bay s) := by
  unfold execTrussFormComplete
  refine (atNow_next _ _).2 (State.acting_now _ _ _ ?_)
  split
  · rfl
  · simp

/-! The select unit of a bay (R128, R167 to R186, R190): SEL.TOPK, SEL.HIST, SEL.EMIT and MERGE. -/

@[simp] theorem State.issueSelect_now (s : State) (bay slot f w2 op k uses) (ok : LongForm → Bool) :
    (s.issueSelect bay slot f w2 op k uses ok).now = s.now := by
  simp [State.issueSelect]

@[simp] theorem execSelTopk_now (bay slot f w2) (s : State) : AtNow s.now (execSelTopk bay slot f w2 s) := by
  simp [execSelTopk]
@[simp] theorem execSelHist_now (bay slot f w2) (s : State) : AtNow s.now (execSelHist bay slot f w2 s) := by
  simp [execSelHist]
@[simp] theorem execSelEmit_now (bay slot f w2) (s : State) : AtNow s.now (execSelEmit bay slot f w2 s) := by
  simp [execSelEmit]
@[simp] theorem execMerge_now (bay slot f w2) (s : State) : AtNow s.now (execMerge bay slot f w2 s) := by
  simp [execMerge]

@[simp] theorem execSelectFormComplete_now (bay) (s : State) : AtNow s.now (execSelectFormComplete bay s) := by
  unfold execSelectFormComplete
  refine (atNow_next _ _).2 (State.acting_now _ _ _ ?_)
  split
  · rfl
  · simp

/-! Collectives (R449 to R453). -/

@[simp] theorem State.setInst_now (s : State) (x) : (s.setInst x).now = s.now := by simp [State.setInst]
@[simp] theorem execCollGroupRegister_now (g v) (s : State) : AtNow s.now (execCollGroupRegister g v s) := by
  simp [execCollGroupRegister]

@[simp] theorem State.joinInst_now (s : State) (g i sh m) : (s.joinInst g i sh m).now = s.now := by
  unfold State.joinInst
  split <;> simp

@[simp] theorem State.joinDescriptor_now (s : State) (isl t d) : (s.joinDescriptor isl t d).now = s.now := by
  simp only [State.joinDescriptor]
  split <;> simp

@[simp] theorem execCollDescriptorTake_now (t) (s : State) : AtNow s.now (execCollDescriptorTake t s) := by
  unfold execCollDescriptorTake
  dsimp only
  refine .ite (by simp) ?_
  split
  · simp
  · simp
  rename_i d s1 hwork
  have e : s1.now = s.now := by
    refine EM.KeepsNow.of_ok ?_ hwork
    refine .bind (EM.read_now _ _ _) fun h => .bind (EM.read_now _ _ _) fun d => ?_
    refine .bind (by simp) fun u => .ite (by simp) ?_
    exact .bind (EM.write_now _ _ _) fun _ => .bind (EM.write_now _ _ _) fun _ => by simp
  simp [e]

@[simp] theorem State.collSend_now (s : State) (isl dev tent g i m up v sh status) :
    (s.collSend isl dev tent g i m up v sh status).now = s.now := by
  simp [State.collSend]

@[simp] theorem State.endMember_now (s : State) (t m v bad status) :
    (s.endMember t m v bad status).2.now = s.now := by
  simp only [State.endMember]
  (repeat' split) <;> simp

@[simp] theorem State.endMembers_now (s : State) (t status x) (v : CollMember → Option (Option (List Byte))) :
    (s.endMembers t status x v).2.now = s.now := by
  refine foldl_snd_now _ _ _ fun r m => ?_
  dsimp only
  (repeat' split) <;> simp

@[simp] theorem State.closeInst_now (s : State) (g x) : (s.closeInst g x).now = s.now := by simp [State.closeInst]

@[simp] theorem State.failInst_now (s : State) (isl g x) : (s.failInst isl g x).now = s.now := by
  simp only [State.failInst]
  split <;> simp

@[simp] theorem State.countMerges_now (s : State) (members x) : (s.countMerges members x).now = s.now := by
  simp [State.countMerges]

@[simp] theorem State.distribute_now (s : State) (isl g x b) : (s.distribute isl g x b).now = s.now := by
  simp only [State.distribute, State.closeInst_now, State.endMembers_now]
  split
  · rfl
  · refine (foldl_now _ _ _ fun s e => ?_).trans (State.countMerges_now _ _ _)
    split <;> simp

@[simp] theorem State.relay_now (s : State) (isl g x) : (s.relay isl g x).now = s.now := by
  simp only [State.relay, State.closeInst_now, State.endMembers_now]
  refine foldl_snd_now _ _ _ fun r m => ?_
  (repeat' split) <;> simp

@[simp] theorem State.collMove_now (s : State) (op g i) : (s.collMove op g i).now = s.now := by
  simp only [State.collMove]
  (repeat' split) <;> simp

@[simp] theorem execCollAllReduce_now (g i) (s : State) : AtNow s.now (execCollAllReduce g i s) := by
  simp [execCollAllReduce]
@[simp] theorem execCollReduceScatter_now (g i) (s : State) : AtNow s.now (execCollReduceScatter g i s) := by
  simp [execCollReduceScatter]
@[simp] theorem execCollBroadcast_now (g i) (s : State) : AtNow s.now (execCollBroadcast g i s) := by
  simp [execCollBroadcast]
@[simp] theorem execCollHistSum_now (g i) (s : State) : AtNow s.now (execCollHistSum g i s) := by
  simp [execCollHistSum]
@[simp] theorem execCollSelectMerge_now (g i) (s : State) : AtNow s.now (execCollSelectMerge g i s) := by
  simp [execCollSelectMerge]

@[simp] theorem execCollTimeout_now (g i) (s : State) : AtNow s.now (execCollTimeout g i s) := by
  unfold execCollTimeout
  split <;> simp

@[simp] theorem execTxnCollective_now (k) (s : State) : AtNow s.now (execTxnCollective k s) := by
  simp only [execTxnCollective]
  (repeat' split) <;> simp

end Sys2Proof.Machine
end

section
/-! SUPPORT. Panels and their migration, flash sets, the freeze, crews and generation leave the reference tick alone
(R37). -/

namespace Sys2Proof.Machine

/-! Panel tables, mapping, hints and retirement (R240 to R248, R269 to R271). -/

@[simp] theorem State.setPhys_now (s : State) (p u) : (s.setPhys p u).now = s.now := by simp [State.setPhys]
@[simp] theorem State.hbmClear_now (s : State) (a n) : (s.hbmClear a n).now = s.now := by simp [State.hbmClear]

@[simp] theorem State.zeroPanel_now (s : State) (stackMask interleave p) :
    (s.zeroPanel stackMask interleave p).now = s.now := by
  simp [State.zeroPanel]

@[simp] theorem State.takePanel_now (s : State) (t v p) : (s.takePanel t v p).now = s.now := by simp [State.takePanel]
@[simp] theorem State.setExtent_now (s : State) (k e u) : (s.setExtent k e u).now = s.now := by simp [State.setExtent]

theorem State.takeLeaf_now (s : State) (t v) {t1} (h : s.takeLeaf t v = some t1) : t1.now = s.now := by
  unfold State.takeLeaf at h
  dsimp only at h
  split at h
  · cases h
    rfl
  split at h <;> cases h
  simp

@[simp] theorem State.dropLeaf_now (s : State) (t v) : (s.dropLeaf t v).now = s.now := by simp [State.dropLeaf]

@[simp] theorem execPanelTableCreate_now (t rangeLog2 dir) (s : State) :
    AtNow s.now (execPanelTableCreate t rangeLog2 dir s) := by
  simp [execPanelTableCreate]

@[simp] theorem State.freeTable_now (s : State) (t) : (s.freeTable t).now = s.now := by simp [State.freeTable]
@[simp] theorem execPanelTableDestroy_now (t) (s : State) : AtNow s.now (execPanelTableDestroy t s) := by
  simp [execPanelTableDestroy]
@[simp] theorem execPanelRead_now (t v) (s : State) : AtNow s.now (execPanelRead t v s) := by simp [execPanelRead]

@[simp] theorem State.memReport_now (s : State) (hint busy result done) :
    (s.memReport hint busy result done).now = s.now := by
  simp [State.memReport]

@[simp] theorem State.eachPanel_now (t) (f : State → Stamp → Nat → Except Nat State) (n k m) (s : State)
    (hf : ∀ x0 x1 x2 t, f x0 x1 x2 = .ok t → t.now = x0.now) : (State.eachPanel t f n k m s).2.2.now = s.now := by
  induction n generalizing k m s with
  | zero => rfl
  | succ n ih => 
    unfold State.eachPanel
    split
    · rfl
    · split
      · rfl
      · next h => simp [ih, hf _ _ _ _ h]

@[simp] theorem State.memOp_now (s : State) (hint t v count) (f : State → Stamp → Nat → Except Nat State)
    (hf : ∀ x0 x1 x2 t, f x0 x1 x2 = .ok t → t.now = x0.now) : (s.memOp hint t v count f).now = s.now := by
  unfold State.memOp
  have each := State.eachPanel_now t f (min count 16384) v 0 s hf
  simp only
  (repeat' split) <;> simp [each]

@[simp] theorem execMapHbm_now (t v count picks) (s : State) : AtNow s.now (execMapHbm t v count picks s) := by
  unfold execMapHbm
  refine (atNow_next _ _).2 (State.memOp_now _ _ _ _ _ _ fun u st x w h => ?_)
  split at h
  · cases h
  split at h
  · cases h
  split at h
  · cases h
  split at h
  · cases h
  · next hu =>
    cases h
    simp [State.takeLeaf_now _ _ _ hu]

@[simp] theorem execMapFlash_now (t v count) (s : State) : AtNow s.now (execMapFlash t v count s) := by
  unfold execMapFlash
  refine (atNow_next _ _).2 (State.memOp_now _ _ _ _ _ _ fun u st x w h => ?_)
  split at h
  · cases h
  split at h
  · cases h
  split at h
  · cases h
  · next hu =>
    cases h
    simp [State.takeLeaf_now _ _ _ hu]

@[simp] theorem State.unqueue_now (s : State) (t v) : (s.unqueue t v).now = s.now := by simp [State.unqueue]
@[simp] theorem State.unmapPanel_now (s : State) (t v) : (s.unmapPanel t v).now = s.now := by simp [State.unmapPanel]

@[simp] theorem State.unmapFrom_now (t n k m) (s : State) : (State.unmapFrom t n k m s).now = s.now := by
  induction n generalizing k m s with
  | zero => simp [State.unmapFrom]
  | succ n ih => simp [State.unmapFrom, ih]

@[simp] theorem execUnmap_now (t v count) (s : State) : AtNow s.now (execUnmap t v count s) := by simp [execUnmap]
@[simp] theorem execHintPrefetch_now (t v count) (s : State) : AtNow s.now (execHintPrefetch t v count s) := by
  simp [execHintPrefetch]

@[simp] theorem execHintPin_now (t v count) (s : State) : AtNow s.now (execHintPin t v count s) := by
  unfold execHintPin
  refine (atNow_next _ _).2 (State.memOp_now _ _ _ _ _ _ fun u st x w h => ?_)
  dsimp only at h
  (repeat' split at h) <;> cases h <;> simp

@[simp] theorem execHintUnpin_now (t v count) (s : State) : AtNow s.now (execHintUnpin t v count s) := by
  unfold execHintUnpin
  refine (atNow_next _ _).2 (State.memOp_now _ _ _ _ _ _ fun u st x w h => ?_)
  dsimp only at h
  split at h <;> cases h <;> simp

@[simp] theorem execHintDemote_now (t v count) (s : State) : AtNow s.now (execHintDemote t v count s) := by
  unfold execHintDemote
  refine (atNow_next _ _).2 (State.memOp_now _ _ _ _ _ _ fun u st x w h => ?_)
  dsimp only at h
  split at h <;> cases h <;> simp

@[simp] theorem State.retireReport_now (s : State) (busy result) : (s.retireReport busy result).now = s.now := by
  simp [State.retireReport]
@[simp] theorem State.retireEntry_now (s : State) (p) : (s.retireEntry p).now = s.now := by simp [State.retireEntry]

@[simp] theorem State.replaceGranule_now (s : State) (u p q g) : (s.replaceGranule u p q g).now = s.now := by
  simp only [State.replaceGranule]
  (repeat' split) <;> simp

@[simp] theorem State.retireUsed_now (s : State) (p u) : (s.retireUsed p u).2.now = s.now := by
  simp only [State.retireUsed]
  split <;> simp

@[simp] theorem State.retire_now (s : State) (p) : (s.retire p).now = s.now := by
  simp only [State.retire]
  (repeat' split) <;> simp

@[simp] theorem execPanelRetire_now (p) (s : State) : AtNow s.now (execPanelRetire p s) := by simp [execPanelRetire]

@[simp] theorem State.memResume_now (s : State) : s.memResume.now = s.now := by
  simp only [State.memResume]
  (repeat' split) <;> simp

/-! Migration between HBM and flash (R265 to R268), and NVMe commands (R257, R262). -/

@[simp] theorem State.refreshSet_now (s : State) (k) : (s.refreshSet k).now = s.now := by simp [State.refreshSet]
@[simp] theorem State.flashAdmitsFailed_now (s : State) : s.flashAdmitsFailed.now = s.now := by
  simp [State.flashAdmitsFailed]

@[simp] theorem State.failSsd_now (s : State) (slot) : (s.failSsd slot).now = s.now := by
  unfold State.failSsd
  split <;> simp

@[simp] theorem State.noteReconstruct_now (s : State) (k d) : (s.noteReconstruct k d).now = s.now := by
  simp [State.noteReconstruct]
@[simp] theorem State.nvmeIssue_now (s : State) (t v k d write) : (s.nvmeIssue t v k d write).now = s.now := by
  simp [State.nvmeIssue]

@[simp] theorem execNvmeCompletion_now (id status) (s : State) : AtNow s.now (execNvmeCompletion id status s) := by
  unfold execNvmeCompletion
  split <;> simp

@[simp] theorem execNvmeCommandTimeout_now (id) (s : State) : AtNow s.now (execNvmeCommandTimeout id s) := by
  unfold execNvmeCommandTimeout
  split <;> simp

@[simp] theorem execSsdFail_now (slot) (s : State) : AtNow s.now (execSsdFail slot s) := by simp [execSsdFail]
@[simp] theorem State.dropRequest_now (s : State) (m r) : (s.dropRequest m r).now = s.now := by
  simp [State.dropRequest]
@[simp] theorem State.migLog_now (s : State) (m detail action t v) : (s.migLog m detail action t v).now = s.now := by
  simp [State.migLog]

@[simp] theorem State.sweepFor_now (s : State) (t l) : (s.sweepFor t l).2.now = s.now := by
  induction l generalizing s with
  | nil => rfl
  | cons v vs ih => simp only [State.sweepFor]; (repeat' split) <;> simp [ih]

@[simp] theorem State.victim_now (s : State) (t) : (s.victim t).2.now = s.now := by simp [State.victim]
@[simp] theorem State.failHeld_now (s : State) (t v cause) : (s.failHeld t v cause).now = s.now := by
  simp [State.failHeld]

@[simp] theorem execInboundMigration_now (m pick) (s : State) : AtNow s.now (execInboundMigration m pick s) := by
  unfold execInboundMigration
  refine (atNow_next _ _).2 (State.acting_now _ _ _ ?_)
  dsimp only
  (repeat' split) <;> simp

@[simp] theorem State.endFlight_now (s : State) (m r) : (s.endFlight m r).now = s.now := by simp [State.endFlight]

@[simp] theorem State.fillGranule_now (s : State) (t v g) : (s.fillGranule t v g).now = s.now := by
  unfold State.fillGranule
  extract_lets p k d a st u
  have hu : u.now = s.now := by
    simp only [u]
    split <;> simp
  split
  · exact (State.modMem_now _ _).trans hu
  split
  · exact (State.modMem_now _ _).trans hu
  · exact (State.modMem_now _ _).trans hu

@[simp] theorem execInboundMigrationDone_now (t v) (s : State) : AtNow s.now (execInboundMigrationDone t v s) := by
  unfold execInboundMigrationDone
  split <;> simp

theorem State.writeBack_now (s : State) (t v g) {t1} (h : s.writeBack t v g = some t1) : t1.now = s.now := by
  unfold State.writeBack at h
  extract_lets p k d a at h
  split at h
  · cases h
  split at h
  · cases h
  rename_i u hu
  obtain ⟨w, hw, rfl⟩ := Option.map_eq_some_iff.1 h
  have e1 : w.now = _ := State.writeGranule_now _ _ _ _ hw
  have e2 : u.now = s.now := State.setPoisonList_now _ _ _ _ hu
  simp [e1, e2]

theorem State.writeBackAll_now (s : State) (t v l) {t1} (h : s.writeBackAll t v l = some t1) : t1.now = s.now := by
  induction l generalizing s with
  | nil => cases h; rfl
  | cons g gs ih => 
    unfold State.writeBackAll at h
    split at h
    · cases h
    · next hb => exact (ih _ h).trans (State.writeBack_now _ _ _ _ hb)

@[simp] theorem execOutboundMigration_now (m pick) (s : State) : AtNow s.now (execOutboundMigration m pick s) := by
  unfold execOutboundMigration
  refine (atNow_next _ _).2 (State.acting_now _ _ _ ?_)
  simp only
  (repeat' split) <;> simp
  · next h => simpa using State.writeBackAll_now _ _ _ _ h

@[simp] theorem execOutboundWritebackDone_now (t v) (s : State) : AtNow s.now (execOutboundWritebackDone t v s) := by
  unfold execOutboundWritebackDone
  split <;> simp

@[simp] theorem execOutboundCommitSettled_now (t v) (s : State) : AtNow s.now (execOutboundCommitSettled t v s) := by
  simp only [execOutboundCommitSettled]
  (repeat' split) <;> simp

/-! Building, assembling and rebuilding flash sets (R258, R260, R261, R263). -/

@[simp] theorem State.setCfgFail_now (s : State) (k) : (s.setCfgFail k).now = s.now := by simp [State.setCfgFail]

@[simp] theorem State.bringUp_now (s : State) (k mask plp ident failed) :
    (s.bringUp k mask plp ident failed).now = s.now := by
  simp [State.bringUp]

@[simp] theorem execFlashSetCreate_now (k mask plp ident) (s : State) :
    AtNow s.now (execFlashSetCreate k mask plp ident s) := by
  simp [execFlashSetCreate]

@[simp] theorem State.replayIntent_now (s : State) (k) : (s.replayIntent k).now = s.now := by
  simp [State.replayIntent]

@[simp] theorem State.assembleSet_now (s : State) (k mask) : (s.assembleSet k mask).now = s.now := by
  simp only [State.assembleSet]
  (repeat' split) <;> simp

@[simp] theorem execFlashSetAssemble_now (k mask) (s : State) : AtNow s.now (execFlashSetAssemble k mask s) := by
  simp [execFlashSetAssemble]

@[simp] theorem execFlashRebuildGo_now (k slot fresh supported) (s : State) :
    AtNow s.now (execFlashRebuildGo k slot fresh supported s) := by
  simp only [execFlashRebuildGo]
  split <;> simp

@[simp] theorem State.rebuildStripe_now (s : State) (k i st) : (s.rebuildStripe k i st).now = s.now := by
  refine foldl_now _ _ _ fun s j => ?_
  (repeat' split) <;> simp

@[simp] theorem execFlashRebuildDone_now (k) (s : State) : AtNow s.now (execFlashRebuildDone k s) := by
  simp only [execFlashRebuildDone]
  split <;> simp

/-! The global freeze (R56 to R62). -/

@[simp] theorem State.setFreeze_now (s : State) (n) : (s.setFreeze n).now = s.now := by simp [State.setFreeze]
@[simp] theorem State.freezeFlag_now (s : State) (f) : (s.freezeFlag f).now = s.now := by simp [State.freezeFlag]
@[simp] theorem State.freezeIdle_now (s : State) : s.freezeIdle.now = s.now := by simp [State.freezeIdle]

@[simp] theorem State.disarm_now (s : State) (late) : (s.disarm late).now = s.now := by
  simp only [State.disarm]
  (repeat' split) <;> simp

@[simp] theorem State.armFreeze_now (s : State) (t) : (s.armFreeze t).now = s.now := by
  simp only [State.armFreeze]
  (repeat' split) <;> simp

@[simp] theorem execFreezeArm_now (t) (s : State) : AtNow s.now (execFreezeArm t s) := by simp [execFreezeArm]
@[simp] theorem execFreezeDisarm_now (s : State) : AtNow s.now (execFreezeDisarm s) := by simp [execFreezeDisarm]
@[simp] theorem execFreezeCancel_now (s : State) : AtNow s.now (execFreezeCancel s) := by simp [execFreezeCancel]

@[simp] theorem execFreezeTickReached_now (s : State) : AtNow s.now (execFreezeTickReached s) := by
  unfold execFreezeTickReached
  split <;> simp

@[simp] theorem execFreezeSettled_now (s : State) : AtNow s.now (execFreezeSettled s) := by
  unfold execFreezeSettled
  split <;> simp

@[simp] theorem execResumeArm_now (u) (s : State) : AtNow s.now (execResumeArm u s) := by
  unfold execResumeArm
  split <;> simp

@[simp] theorem execResumeTickReached_now (s : State) : AtNow s.now (execResumeTickReached s) := by
  simp only [execResumeTickReached]
  split <;> simp

@[simp] theorem execFreezeAckReceive_now (late) (s : State) : AtNow s.now (execFreezeAckReceive late s) := by
  simp [execFreezeAckReceive]

/-! Launching, ending and landing (R71 to R74, R82, R130). -/

@[simp] theorem execCrewLaunch_now (bay slot) (s : State) : AtNow s.now (execCrewLaunch bay slot s) := by
  simp only [execCrewLaunch]
  split <;> simp

@[simp] theorem execCrewEnd_now (bay slot) (s : State) : AtNow s.now (execCrewEnd bay slot s) := by
  unfold execCrewEnd
  split <;> simp

@[simp] theorem execLongLatencyReplyLand_now (bay slot id) (s : State) :
    AtNow s.now (execLongLatencyReplyLand bay slot id s) := by
  simp only [execLongLatencyReplyLand]
  (repeat' split) <;> simp

/-! The sampler: slices of logits (R129), the stages of R356 to R358, and verification (R360). -/

@[simp] theorem State.setSlice_now (s : State) (bay ctx x) : (s.setSlice bay ctx x).now = s.now := by
  simp [State.setSlice]

@[simp] theorem State.issueSmp_now (s : State) (bay slot f w2 op uses) (ok : LongForm → Bool)
    (act : State → LongForm → State) (hact : ∀ x0 x1, (act x0 x1).now = x0.now) :
    (s.issueSmp bay slot f w2 op uses ok act).now = s.now := by
  unfold State.issueSmp
  refine State.issue_now _ _ _ _ _ _ fun c ex t ht => ?_
  simp [ht, hact]

@[simp] theorem execSmpFeed_now (bay slot f w2) (s : State) : AtNow s.now (execSmpFeed bay slot f w2 s) := by
  simp [execSmpFeed]
@[simp] theorem execSmpClose_now (bay slot f w2) (s : State) : AtNow s.now (execSmpClose bay slot f w2 s) := by
  simp [execSmpClose]
@[simp] theorem execSmpDraft_now (bay slot f w2) (s : State) : AtNow s.now (execSmpDraft bay slot f w2 s) := by
  simp [execSmpDraft]
@[simp] theorem State.dropCtx_now (s : State) (bays ctx) : (s.dropCtx bays ctx).now = s.now := by simp [State.dropCtx]

/-! Step loops as shared operations: rank (R349, R364), page pools (R352), pre-emption (R354), Cairn (R323, R324),
chunks (R346). -/

@[simp] theorem State.setLoop_now (s : State) (t slot l) : (s.setLoop t slot l).now = s.now := by simp [State.setLoop]
@[simp] theorem State.takePages_now (s : State) (n p) : (s.takePages n p).now = s.now := by simp [State.takePages]

@[simp] theorem State.evictBlocks_now (r n k) (s : State) : (State.evictBlocks r n k s).now = s.now := by
  induction k generalizing s with
  | zero => rfl
  | succ n ih => simp only [State.evictBlocks]; (repeat' split) <;> simp [ih]

@[simp] theorem State.dropHolds_now (s : State) (n) : (s.dropHolds n).now = s.now := by simp [State.dropHolds]

@[simp] theorem State.preemptSeq_now (s : State) (n) : (s.preemptSeq n).now = s.now := by
  unfold State.preemptSeq
  split <;> simp

@[simp] theorem State.holdBlocks_now (s : State) (n t bs) : (s.holdBlocks n t bs).now = s.now := by
  simp [State.holdBlocks]

@[simp] theorem State.insertBlock_now (s : State) (r draft i) : (s.insertBlock r draft i).now = s.now := by
  unfold State.insertBlock
  split <;> simp

@[simp] theorem State.insertBlocks_now (s : State) (n a b) : (s.insertBlocks n a b).now = s.now := by
  refine foldl_now _ _ _ fun s j => ?_
  split <;> simp

/-! The GENERATION block (R341 to R370): step boundaries, draws, commits and closes, batches, adapters. -/

@[simp] theorem State.makePages_now (n risk k) (s : State) (l) : (State.makePages n risk k s l).1.now = s.now := by
  induction k generalizing s l with
  | zero => rfl
  | succ n ih => simp only [State.makePages]; (repeat' split) <;> simp [ih]

@[simp] theorem State.planRunning_now (t risk l) (s : State) (l₁) :
    (State.planRunning t risk l s l₁).1.now = s.now := by
  induction l generalizing s l₁ with
  | nil => rfl
  | cons m ns ih => simp only [State.planRunning]; (repeat' split) <;> simp [ih]

@[simp] theorem State.endPreempt_now (s : State) (n st) : (s.endPreempt n st).now = s.now := by
  simp only [State.endPreempt]
  (repeat' split) <;> simp

@[simp] theorem State.takeJoin_now (s : State) (r hit chunk blocks need) :
    (s.takeJoin r hit chunk blocks need).now = s.now := by
  simp [State.takeJoin]

@[simp] theorem State.planJoins_now (t risk cuts l n) (s : State) (l₁) :
    (State.planJoins t risk cuts l n s l₁).1.now = s.now := by
  induction l generalizing n s l₁ with
  | nil => rfl
  | cons m ns ih => simp only [State.planJoins]; (repeat' split) <;> simp [ih]

@[simp] theorem execStepBoundary_now (t slot risk cuts) (s : State) :
    AtNow s.now (execStepBoundary t slot risk cuts s) := by
  simp [execStepBoundary]

@[simp] theorem State.setStepSeq_now (s : State) (r x) : (s.setStepSeq r x).now = s.now := by simp [State.setStepSeq]
@[simp] theorem State.countDraws_now (s : State) (n) : (s.countDraws n).now = s.now := by simp [State.countDraws]

@[simp] theorem execDraftDraw_now (n ctx w) (s : State) : AtNow s.now (execDraftDraw n ctx w s) := by
  simp only [execDraftDraw]
  (repeat' split) <;> simp

@[simp] theorem State.countDists_now (s : State) (t emitted ds) : (s.countDists t emitted ds).now = s.now := by
  simp [State.countDists]

@[simp] theorem State.takeTokens_now (s : State) (r x ts) : (s.takeTokens r x ts).now = s.now := by
  simp only [State.takeTokens]
  (repeat' split) <;> simp

@[simp] theorem execSamplerDraw_now (n ctx ws) (s : State) : AtNow s.now (execSamplerDraw n ctx ws s) := by
  simp only [execSamplerDraw]
  (repeat' split) <;> simp

@[simp] theorem State.journalTokens_now (s : State) (r st records ids) :
    (s.journalTokens r st records ids).now = s.now := by
  simp [State.journalTokens]

@[simp] theorem execStepCommit_now (n) (s : State) : AtNow s.now (execStepCommit n s) := by
  simp only [execStepCommit]
  (repeat' split) <;> simp

@[simp] theorem State.closeSeq_now (s : State) (st x) : (s.closeSeq st x).now = s.now := by
  unfold State.closeSeq
  split <;> simp

@[simp] theorem execStepClose_now (t slot) (s : State) : AtNow s.now (execStepClose t slot s) := by
  simp only [execStepClose]
  split <;> simp

@[simp] theorem execBatchDescriptorWrite_now (t v) (s : State) : AtNow s.now (execBatchDescriptorWrite t v s) := by
  simp [execBatchDescriptorWrite]

@[simp] theorem execBatchStart_now (t) (s : State) : AtNow s.now (execBatchStart t s) := by
  unfold execBatchStart
  split <;> simp

@[simp] theorem State.setAdapters_now (s : State) (t a vs) : (s.setAdapters t a vs).now = s.now := by
  simp [State.setAdapters]

@[simp] theorem State.adapterResult_now (s : State) (result version) :
    (s.adapterResult result version).now = s.now := by
  simp [State.adapterResult]

@[simp] theorem execAdapterInstall_now (t a) (s : State) : AtNow s.now (execAdapterInstall t a s) := by
  unfold execAdapterInstall
  refine .ite (by simp) (.ite (by simp) ?_)
  dsimp only
  split
  · simp
  · simp
  rename_i h u hu
  have e : u.now = s.now := State.unitRead_now _ _ _ _ rfl _ hu
  split <;> simp [e]

@[simp] theorem execAdapterRetire_now (t a) (s : State) : AtNow s.now (execAdapterRetire t a s) := by
  simp only [execAdapterRetire]
  (repeat' split) <;> simp

@[simp] theorem execAdapterQuery_now (t a) (s : State) : AtNow s.now (execAdapterQuery t a s) := by
  simp only [execAdapterQuery]
  (repeat' split) <;> simp

end Sys2Proof.Machine
end

section
/-! SUPPORT. Tents, the error log, observation, the control window, DMA, events and firmware leave the reference tick
alone (R37). -/

namespace Sys2Proof.Machine

/-! The TENT block (R371 to R390, R563): life cycle, model tables, placement, crew pre-emption, migration. -/

@[simp] theorem State.tentError_now (s : State) (t n) : (s.tentError t n).now = s.now := by simp [State.tentError]
@[simp] theorem State.setTentState_now (s : State) (t n) : (s.setTentState t n).now = s.now := by
  simp [State.setTentState]

@[simp] theorem State.tentCommand_now (s : State) (t n) (f : State → State) (h : (f s).now = s.now) :
    (s.tentCommand t n f).now = s.now := by
  simp [State.tentCommand, h]

@[simp] theorem execTentConfigure_now (t key) (s : State) : AtNow s.now (execTentConfigure t key s) := by
  simp [execTentConfigure]
@[simp] theorem execTentAbort_now (t) (s : State) : AtNow s.now (execTentAbort t s) := by simp [execTentAbort]

@[simp] theorem State.readModels_now (s : State) (t) {m : Nat} (h : s.now = m) :
    OkNow m (·.2.2) (s.readModels t) := by
  unfold State.readModels
  refine .ite (by simp) ?_
  split
  · simp
  · next h' =>
    exact .ite (by simpa using State.unitRead_now _ _ _ _ h _ h') (by simp)

@[simp] theorem State.useModels_now (s : State) (t n b) : (s.useModels t n b).now = s.now := by simp [State.useModels]
@[simp] theorem State.setBatch_now (s : State) (t) : (s.setBatch t).now = s.now := by simp [State.setBatch]
@[simp] theorem State.powerBays_now (s : State) : s.powerBays.now = s.now := by simp [State.powerBays]
@[simp] theorem State.leaveA2_now (s : State) : s.leaveA2.now = s.now := by simp [State.leaveA2]
@[simp] theorem State.activate_now (s : State) (t n b) : (s.activate t n b).now = s.now := by simp [State.activate]

@[simp] theorem execTentActivate_now (t) (s : State) : AtNow s.now (execTentActivate t s) := by
  unfold execTentActivate
  refine (atNow_next _ _).2 (State.tentCommand_now _ _ _ _ ?_)
  dsimp only
  split
  · simp
  split
  · rfl
  split
  · simp
  · simp
  · split <;> simp

@[simp] theorem execTentReloadModels_now (t) (s : State) : AtNow s.now (execTentReloadModels t s) := by
  unfold execTentReloadModels
  refine (atNow_next _ _).2 (State.tentCommand_now _ _ _ _ ?_)
  split
  · simp
  split
  · rfl
  split
  · simp
  · simp
  rename_i n b s1 hs
  have e : s1.now = s.now := State.readModels_now _ _ rfl _ hs
  simp [e]

@[simp] theorem State.condemnBay_now (s : State) (n) : (s.condemnBay n).now = s.now := by
  unfold State.condemnBay
  dsimp only
  rw [State.now_mk, State.ao_tick, State.setBay_now, State.orphanOps_now]
  split
  · rw [State.addFld_now]
  · rfl

@[simp] theorem State.zeroEngines_now (s : State) (n) : (s.zeroEngines n).now = s.now := by simp [State.zeroEngines]
@[simp] theorem State.resetOver_now (s : State) (t) : (s.resetOver t).now = s.now := by simp [State.resetOver]

@[simp] theorem execBayReset_now (bay) (s : State) : AtNow s.now (execBayReset bay s) := by
  simp only [execBayReset]
  (repeat' split) <;> simp

@[simp] theorem State.resetRequest_now (s : State) (r n) : (s.resetRequest r n).now = s.now := by
  unfold State.resetRequest
  split <;> simp

@[simp] theorem execTentReset_now (t) (s : State) : AtNow s.now (execTentReset t s) := by simp [execTentReset]
@[simp] theorem execTentRelease_now (t) (s : State) : AtNow s.now (execTentRelease t s) := by simp [execTentRelease]
@[simp] theorem execTentReleaseDrained_now (t) (s : State) : AtNow s.now (execTentReleaseDrained t s) := by
  simp [execTentReleaseDrained]
@[simp] theorem execTentFree_now (t) (s : State) : AtNow s.now (execTentFree t s) := by simp [execTentFree]
@[simp] theorem execQuotaWrite_now (t v) (s : State) : AtNow s.now (execQuotaWrite t v s) := by simp [execQuotaWrite]
@[simp] theorem State.renameHeld_now (s : State) (bay old new) : (s.renameHeld bay old new).now = s.now := by
  simp [State.renameHeld]

@[simp] theorem State.saveContext_now (s : State) (bay t n) {r0 t1} (h : s.saveContext bay t n = some (r0, t1)) :
    t1.now = s.now := by
  unfold State.saveContext at h
  dsimp only at h
  split at h
  · cases h
    simp
  · split at h <;> cases h
    simp

@[simp] theorem State.notePreempt_now (s : State) (n) : (s.notePreempt n).now = s.now := by simp [State.notePreempt]

@[simp] theorem execCrewPreempt_now (bay slot) (s : State) : AtNow s.now (execCrewPreempt bay slot s) := by
  unfold execCrewPreempt
  split
  · refine .ite (by simp) ?_
    dsimp only
    split
    · simp
    · next h => simpa using State.saveContext_now _ _ _ _ h
  · simp

@[simp] theorem execCrewRestore_now (k slot) (s : State) : AtNow s.now (execCrewRestore k slot s) := by
  simp only [execCrewRestore]
  (repeat' split) <;> simp

@[simp] theorem State.armCut_now (s : State) (t m mask) : (s.armCut t m mask).now = s.now := by simp [State.armCut]
@[simp] theorem execMigrationCutArm_now (t v) (s : State) : AtNow s.now (execMigrationCutArm t v s) := by
  simp [execMigrationCutArm]

@[simp] theorem State.cutLeg_now (s : State) (n) : (s.cutLeg n).now = s.now := by
  unfold State.cutLeg
  split <;> simp

@[simp] theorem State.cutSteps_now (s : State) (t) : (s.cutSteps t).now = s.now := by simp [State.cutSteps]

@[simp] theorem State.rehome_now (s : State) (t) : (s.rehome t).now = s.now := by
  refine foldl_now _ _ _ fun s j => ?_
  (repeat' split) <;> simp

@[simp] theorem State.remode_now (s : State) (t) : (s.remode t).now = s.now := by simp [State.remode]
@[simp] theorem State.cut_now (s : State) (t) : (s.cut t).now = s.now := by simp [State.cut]

@[simp] theorem execMigrationCut_now (t) (s : State) : AtNow s.now (execMigrationCut t s) := by
  simp only [execMigrationCut]
  (repeat' split) <;> simp

@[simp] theorem State.firmwareCut_now (s : State) (t bay) : (s.firmwareCut t bay).now = s.now := by
  unfold State.firmwareCut
  split <;> simp

/-! The error log ring, injection, remapping, bay retirement, patrol scrub and a host's FAILSAFE (chapter 17 of the
spec). -/

@[simp] theorem State.pollLogConsumer_now (s : State) : s.pollLogConsumer.now = s.now := by
  simp [State.pollLogConsumer]
@[simp] theorem State.logPut_now (s : State) (r) : (s.logPut r).now = s.now := by simp [State.logPut]
@[simp] theorem State.logTake_now (s : State) (r) : (s.logTake r).now = s.now := by simp [State.logTake]

@[simp] theorem State.logDrain_now (n) (s : State) : (State.logDrain n s).now = s.now := by
  induction n generalizing s with
  | zero => rfl
  | succ n ih => simp only [State.logDrain]; (repeat' split) <;> simp [ih]

@[simp] theorem execErrorLogWrite_now (s : State) : AtNow s.now (execErrorLogWrite s) := by
  unfold execErrorLogWrite
  split <;> simp

@[simp] theorem execLogRingSpaceReturn_now (s : State) : AtNow s.now (execLogRingSpaceReturn s) := by
  simp [execLogRingSpaceReturn]
@[simp] theorem execCoalesceHoldExpire_now (s : State) : AtNow s.now (execCoalesceHoldExpire s) := by
  simp [execCoalesceHoldExpire]
@[simp] theorem execErrorLogRegister_now (v) (s : State) : AtNow s.now (execErrorLogRegister v s) := by
  simp [execErrorLogRegister]
@[simp] theorem execInjectArm_now (v) (s : State) : AtNow s.now (execInjectArm v s) := by simp [execInjectArm]
@[simp] theorem execSramRemap_now (isl macro_ word) (s : State) : AtNow s.now (execSramRemap isl macro_ word s) := by
  simp [execSramRemap]

@[simp] theorem State.retireBay_now (s : State) (bay) : (s.retireBay bay).now = s.now := by
  simp only [State.retireBay]
  (repeat' split) <;> simp

@[simp] theorem execBayRetire_now (bay) (s : State) : AtNow s.now (execBayRetire bay s) := by simp [execBayRetire]
@[simp] theorem State.scrubWord_now (s : State) (owner pa) : (s.scrubWord owner pa).now = s.now := by
  simp [State.scrubWord]
@[simp] theorem execPatrolScrub_now (flips owner) (s : State) : AtNow s.now (execPatrolScrub flips owner s) := by
  simp [execPatrolScrub]
@[simp] theorem execFailsafeForce_now (s : State) : AtNow s.now (execFailsafeForce s) := by simp [execFailsafeForce]

/-! Counter snapshots, event counters, the trace unit with its trigger and reserve, and the firmware log ring (chapter
18 of the spec). -/

@[simp] theorem execCtrSnapshotArm_now (v) (s : State) : AtNow s.now (execCtrSnapshotArm v s) := by
  unfold execCtrSnapshotArm
  split <;> simp

@[simp] theorem execCtrSnapshotWrite_now (s : State) : AtNow s.now (execCtrSnapshotWrite s) := by
  simp [execCtrSnapshotWrite]

@[simp] theorem execEvcValueWrite_now (off v n) (s : State) : AtNow s.now (execEvcValueWrite off v n s) := by
  unfold execEvcValueWrite
  split <;> simp

@[simp] theorem execTempPeakClear_now (now sensor) (s : State) : AtNow s.now (execTempPeakClear now sensor s) := by
  simp [execTempPeakClear]
@[simp] theorem State.tracePut_now (s : State) (r) : (s.tracePut r).now = s.now := by simp [State.tracePut]
@[simp] theorem State.reserveStatus_now (s : State) : s.reserveStatus.now = s.now := by simp [State.reserveStatus]
@[simp] theorem State.reservePut_now (s : State) (r) : (s.reservePut r).now = s.now := by simp [State.reservePut]
@[simp] theorem State.reserveTrim_now (s : State) (from_) : (s.reserveTrim from_).now = s.now := by
  simp [State.reserveTrim]
@[simp] theorem State.reserveTake_now (s : State) (r) : (s.reserveTake r).2.now = s.now := by simp [State.reserveTake]

@[simp] theorem State.traceLoss_now (s : State) : s.traceLoss.now = s.now := by
  unfold State.traceLoss
  split <;> simp

@[simp] theorem State.traceTake_now (s : State) (r) : (s.traceTake r).now = s.now := by
  unfold State.traceTake
  refine (ite_now _ _ _).trans ?_
  have held := ((s.traceLoss.addFld rObsTraceLost fObsTraceLostLost 1).reserveTake_now r).trans (State.addFld_now _ _ _ _)
  generalize (s.traceLoss.addFld rObsTraceLost fObsTraceLostLost 1).reserveTake r = p at held ⊢
  obtain ⟨b, u⟩ := p
  simp [show u.now = s.now by simpa using held]

@[simp] theorem execTraceEventWrite_now (overflow) (s : State) : AtNow s.now (execTraceEventWrite overflow s) := by
  unfold execTraceEventWrite
  split <;> simp

@[simp] theorem execTraceConsumerWrite_now (v) (s : State) : AtNow s.now (execTraceConsumerWrite v s) := by
  simp [execTraceConsumerWrite]
@[simp] theorem execTriggerArm_now (v) (s : State) : AtNow s.now (execTriggerArm v s) := by simp [execTriggerArm]
@[simp] theorem execTriggerFireHost_now (s : State) : AtNow s.now (execTriggerFireHost s) := by
  simp [execTriggerFireHost]

@[simp] theorem execTriggerFire_now (s : State) : AtNow s.now (execTriggerFire s) := by
  unfold execTriggerFire
  split <;> simp

@[simp] theorem execReserveClose_now (s : State) : AtNow s.now (execReserveClose s) := by simp [execReserveClose]
@[simp] theorem State.fwPut_now (s : State) (r) : (s.fwPut r).now = s.now := by simp [State.fwPut]

@[simp] theorem State.fwDrain_now (n) (s : State) : (State.fwDrain n s).now = s.now := by
  induction n generalizing s with
  | zero => rfl
  | succ n ih => simp only [State.fwDrain]; (repeat' split) <;> simp [ih]

@[simp] theorem State.fwPoll_now (s : State) (core) : (s.fwPoll core).now = s.now := by simp [State.fwPoll]
@[simp] theorem State.fwTake_now (s : State) (r) : (s.fwTake r).now = s.now := by simp [State.fwTake]
@[simp] theorem execFwlogRegister_now (v) (s : State) : AtNow s.now (execFwlogRegister v s) := by
  simp [execFwlogRegister]

@[simp] theorem execFwlogWrite_now (core point level tent args) (s : State) :
    AtNow s.now (execFwlogWrite core point level tent args s) := by
  simp [execFwlogWrite]

/-! The control window: malformed accesses, writes of registers that have no row of their own, the dump of held items,
and the Ethernet ports (R11, R12, R15, R63, R64, R372, R486, R491, R574 to R577). -/

@[simp] theorem execMalformedControlAccess_now (off size write) (s : State) :
    AtNow s.now (execMalformedControlAccess off size write s) := by
  simp [execMalformedControlAccess]

@[simp] theorem State.configWrite_now (s : State) (t off v) : (s.configWrite t off v).now = s.now := by
  simp [State.configWrite]
@[simp] theorem State.writeTentBays_now (s : State) (t j v) : (s.writeTentBays t j v).now = s.now := by
  simp [State.writeTentBays]
@[simp] theorem State.writeCairnKey_now (s : State) (t k v) : (s.writeCairnKey t k v).now = s.now := by
  simp [State.writeCairnKey]
@[simp] theorem State.tentOther_now (s : State) (t off v) : (s.tentOther t off v).now = s.now := by
  simp [State.tentOther]
@[simp] theorem State.writeJrnlCfg_now (s : State) (v) : (s.writeJrnlCfg v).now = s.now := by
  simp [State.writeJrnlCfg]
@[simp] theorem State.writeCollq_now (s : State) (t v) : (s.writeCollq t v).now = s.now := by simp [State.writeCollq]
@[simp] theorem State.writeEvcCfg_now (s : State) (block i off v) : (s.writeEvcCfg block i off v).now = s.now := by
  simp [State.writeEvcCfg]
@[simp] theorem State.writeLinkCfg_now (s : State) (l v) : (s.writeLinkCfg l v).now = s.now := by
  simp [State.writeLinkCfg]
@[simp] theorem State.writeFlashsetCfg_now (s : State) (k v) : (s.writeFlashsetCfg k v).now = s.now := by
  simp [State.writeFlashsetCfg]
@[simp] theorem State.regWrite_now (s : State) (base i j off v) : (s.regWrite base i j off v).now = s.now := by
  simp [State.regWrite]

@[simp] theorem execRegisterWrite_now (off v) (s : State) : AtNow s.now (execRegisterWrite off v s) := by
  unfold execRegisterWrite
  split <;> simp

@[simp] theorem execDumpGo_now (s : State) : AtNow s.now (execDumpGo s) := by simp [execDumpGo]

@[simp] theorem execEthernetFrameReceive_now (port fec good) (s : State) :
    AtNow s.now (execEthernetFrameReceive port fec good s) := by
  simp [execEthernetFrameReceive]

@[simp] theorem execEthernetFrameTransmit_now (port a n) (s : State) :
    AtNow s.now (execEthernetFrameTransmit port a n s) := by
  simp [execEthernetFrameTransmit]

/-! DMA descriptors (R126, R127, R157 to R159, R84, R490): their checks at issue, and what each moves when it
completes. -/

@[simp] theorem State.issueDma_now (s : State) (bay slot f w2 op k uses) :
    (s.issueDma bay slot f w2 op k uses).now = s.now := by
  simp [State.issueDma]

@[simp] theorem execDmaLoad_now (bay slot f w2) (s : State) : AtNow s.now (execDmaLoad bay slot f w2 s) := by
  simp [execDmaLoad]
@[simp] theorem execDmaStore_now (bay slot f w2) (s : State) : AtNow s.now (execDmaStore bay slot f w2 s) := by
  simp [execDmaStore]
@[simp] theorem execDmaCopy_now (bay slot f w2) (s : State) : AtNow s.now (execDmaCopy bay slot f w2 s) := by
  simp [execDmaCopy]
@[simp] theorem execDmaScarf_now (bay slot f w2) (s : State) : AtNow s.now (execDmaScarf bay slot f w2 s) := by
  simp [execDmaScarf]
@[simp] theorem execDmaUnscarf_now (bay slot f w2) (s : State) : AtNow s.now (execDmaUnscarf bay slot f w2 s) := by
  simp [execDmaUnscarf]
@[simp] theorem execDmaFill_now (bay slot f w2) (s : State) : AtNow s.now (execDmaFill bay slot f w2 s) := by
  simp [execDmaFill]

@[simp] theorem State.dmaReadLocal_now (s : State) (bay acc n k) : (s.dmaReadLocal bay acc n k).2.2.now = s.now := by
  induction k generalizing s n with
  | zero => rfl
  | succ n ih => simp only [State.dmaReadLocal]; split <;> simp [ih]

@[simp] theorem State.dmaReadDev_now (s : State) (t n k) : (s.dmaReadDev t n k).2.2.now = s.now := by
  induction k generalizing s n with
  | zero => rfl
  | succ n ih => simp only [State.dmaReadDev]; split <;> simp [ih]

@[simp] theorem State.dmaWriteDev_now (s : State) (t a ws) : (s.dmaWriteDev t a ws).now = s.now := by
  simp [State.dmaWriteDev]
@[simp] theorem State.dmaRequest_now (s : State) (bay t d) : (s.dmaRequest bay t d).now = s.now := by
  simp [State.dmaRequest]

@[simp] theorem State.dmaMove_now (s : State) (bay t d) : (s.dmaMove bay t d).2.now = s.now := by
  simp only [State.dmaMove]
  split <;> simp

@[simp] theorem State.dmaRun_now (s : State) (bay d) : (s.dmaRun bay d).2.now = s.now := by
  simp only [State.dmaRun]
  (repeat' split) <;> simp

@[simp] theorem execDmaDescriptorComplete_now (bay ch) (s : State) :
    AtNow s.now (execDmaDescriptorComplete bay ch s) := by
  simp only [execDmaDescriptorComplete]
  (repeat' split) <;> simp

@[simp] theorem execDmaFault_now (bay ch) (s : State) : AtNow s.now (execDmaFault bay ch s) := by
  simp only [execDmaFault]
  (repeat' split) <;> simp

@[simp] theorem execDmaResume_now (bay ch) (s : State) : AtNow s.now (execDmaResume bay ch s) := by
  simp [execDmaResume]
@[simp] theorem execDmaFlush_now (bay ch) (s : State) : AtNow s.now (execDmaFlush bay ch s) := by simp [execDmaFlush]

/-! Events, fences, park and yield, opcodes 0x60 to 0x67 (R85, R86, R90 to R92, R114, R115). -/

@[simp] theorem execEvSignal_now (bay slot f) (s : State) : AtNow s.now (execEvSignal bay slot f s) := by
  simp [execEvSignal]
@[simp] theorem execEvSet_now (bay slot f) (s : State) : AtNow s.now (execEvSet bay slot f s) := by simp [execEvSet]

@[simp] theorem execEvWait_now (bay slot f) (s : State) : AtNow s.now (execEvWait bay slot f s) := by
  unfold execEvWait
  split
  · simp
  refine (atNow_next _ _).2 (State.issue_now _ _ _ _ _ _ fun c ex t ht => ?_)
  dsimp only
  split <;> simp [ht]

@[simp] theorem execFenceLocal_now (bay slot f) (s : State) : AtNow s.now (execFenceLocal bay slot f s) := by
  simp [execFenceLocal]
@[simp] theorem execFenceDevice_now (bay slot f) (s : State) : AtNow s.now (execFenceDevice bay slot f s) := by
  simp [execFenceDevice]
@[simp] theorem execFenceStamp_now (bay slot f) (s : State) : AtNow s.now (execFenceStamp bay slot f s) := by
  simp [execFenceStamp]
@[simp] theorem execPark_now (bay slot f) (s : State) : AtNow s.now (execPark bay slot f s) := by simp [execPark]
@[simp] theorem execYield_now (bay slot f) (s : State) : AtNow s.now (execYield bay slot f s) := by simp [execYield]

/-! Loading Yedal, the firmware queues, the commands of R536 and the handling of traps (R533 to R537). -/

@[simp] theorem State.fwRefused_now (s : State) (reason) : (s.fwRefused reason).now = s.now := by
  simp [State.fwRefused]
@[simp] theorem execFwLoad_now (v) (s : State) : AtNow s.now (execFwLoad v s) := by simp [execFwLoad]
@[simp] theorem execFwVerify_now (s : State) : AtNow s.now (execFwVerify s) := by simp [execFwVerify]
@[simp] theorem State.fwDoorbell_now (s : State) (off base v) : (s.fwDoorbell off base v).now = s.now := by
  simp [State.fwDoorbell]
@[simp] theorem execFwCmdqDoorbell_now (v) (s : State) : AtNow s.now (execFwCmdqDoorbell v s) := by
  simp [execFwCmdqDoorbell]
@[simp] theorem execFwEvtqDoorbell_now (v) (s : State) : AtNow s.now (execFwEvtqDoorbell v s) := by
  simp [execFwEvtqDoorbell]
@[simp] theorem State.fwTaken_now (s : State) : s.fwTaken.now = s.now := by simp [State.fwTaken]
@[simp] theorem State.respond_now (s : State) (e status arg) : (s.respond e status arg).now = s.now := by
  simp [State.respond]

@[simp] theorem State.relaunch_now (s : State) (c) : (s.relaunch c).now = s.now := by
  simp only [State.relaunch]
  (repeat' split) <;> simp

@[simp] theorem State.fwReap_now (s : State) : s.fwReap.now = s.now := by simp [State.fwReap]

@[simp] theorem State.fwCommand_now (s : State) (op) (f : List Byte → State → Bool × State)
    (hf : ∀ x0 x1, (f x0 x1).2.now = x1.now) : (s.fwCommand op f).now = s.now := by
  unfold State.fwCommand
  dsimp only
  (repeat' split) <;> simp [hf]

@[simp] theorem execFwPing_now (s : State) : AtNow s.now (execFwPing s) := by simp [execFwPing]
@[simp] theorem State.fwWrite_now (s : State) (e b) : (s.fwWrite e b).now = s.now := by simp [State.fwWrite]
@[simp] theorem execFwGetInfo_now (s : State) : AtNow s.now (execFwGetInfo s) := by simp [execFwGetInfo]

@[simp] theorem execFwLaunch_now (s : State) : AtNow s.now (execFwLaunch s) := by
  unfold execFwLaunch
  refine (atNow_next _ _).2 (State.fwCommand_now _ _ _ fun e t => ?_)
  dsimp only
  (repeat' split) <;> simp

@[simp] theorem execFwRetireBay_now (s : State) : AtNow s.now (execFwRetireBay s) := by simp [execFwRetireBay]
@[simp] theorem execFwGetRemap_now (s : State) : AtNow s.now (execFwGetRemap s) := by simp [execFwGetRemap]

@[simp] theorem execCrewResume_now (s : State) : AtNow s.now (execCrewResume s) := by
  unfold execCrewResume
  refine (atNow_next _ _).2 (State.fwCommand_now _ _ _ fun e s => ?_)
  dsimp only
  (repeat' split) <;> simp

@[simp] theorem State.dropCrews_now (s : State) (bay) (p : Crew → Bool) : (s.dropCrews bay p).now = s.now := by
  simp [State.dropCrews]

@[simp] theorem execCrewDiscard_now (s : State) : AtNow s.now (execCrewDiscard s) := by
  unfold execCrewDiscard
  refine (atNow_next _ _).2 (State.fwCommand_now _ _ _ fun e t => ?_)
  dsimp only
  (repeat' split) <;> simp

@[simp] theorem State.stepTrap_now (s : State) (k l status st) : (s.stepTrap k l status st).now = s.now := by
  simp [State.stepTrap]

@[simp] theorem State.trapEnds_now (s : State) (r c status) : (s.trapEnds r c status).now = s.now := by
  simp only [State.trapEnds]
  (repeat' split) <;> simp

@[simp] theorem State.holdCrew_now (s : State) (r c) : (s.holdCrew r c).now = s.now := by
  simp only [State.holdCrew]
  (repeat' split)
  · simp
  · simp
  · next h => simpa using State.saveContext_now _ _ _ _ h

@[simp] theorem execTrapRecordHandle_now (d dataErr) (s : State) :
    AtNow s.now (execTrapRecordHandle d dataErr s) := by
  simp only [execTrapRecordHandle]
  (repeat' split) <;> simp

end Sys2Proof.Machine
end

section
/-! SUPPORT. Lantern, resets and power leave the reference tick alone (R37), but for the power-on, which begins an
epoch. -/

namespace Sys2Proof.Machine

/-! Lantern's data (R194 to R200, R203, R204, R207): codes and their scores, node records, the version directory,
granules, filters, query blocks. -/

@[simp] theorem Index.side_now (x k v) : (Index.side x k v).KeepsNow := by
  refine .bind (EM.read_now _ _ _) fun rows => .ite (.pure _) (.ite ?_ ?_)
  · exact .bind (EM.read_now _ _ _) fun b => .pure _
  · exact .bind (EM.read_now _ _ _) fun b => .pure _

@[simp] theorem Index.code_now (x j k node) : (Index.code x j k node).KeepsNow := by simp [Index.code]
@[simp] theorem Index.attr_now (x j node) : (Index.attr x j node).KeepsNow :=
  .bind (EM.read_now _ _ _) fun _ => .pure _

@[simp] theorem Index.probe_now (x j node taken n k) : (Index.probe x j node taken n k).KeepsNow := by
  induction n generalizing k with
  | zero => simp [Index.probe]
  | succ n ih => exact .bind (EM.read_now _ _ _) fun b => .ite (.ite (by simp) (ih _)) (.ite (ih _) (by simp))

@[simp] theorem Index.entry_now (x j node) : (Index.entry x j node).KeepsNow := by
  refine .bind (Index.probe_now _ _ _ _ _ _) fun e => ?_
  split
  · exact .pure _
  · exact .pure _

@[simp] theorem Index.granule_now (x node a) : (Index.granule x node a).KeepsNow := by
  intro s b t e
  unfold Index.granule at e
  split at e
  · cases e
  · split at e <;> cases e
    rfl

@[simp] theorem Index.walk_now (x node snap n k m) : (Index.walk x node snap n k m).KeepsNow := by
  induction n generalizing k m with
  | zero => simp [Index.walk]
  | succ fuel ih => exact .bind (Index.granule_now _ _ _) fun b => .ite (by simp) (.ite (by simp) (ih _ _))

@[simp] theorem Index.visible_now (x j node snap) : (Index.visible x j node snap).KeepsNow := by
  refine .bind (Index.entry_now _ _ _) fun e => ?_
  split
  · exact Index.walk_now _ _ _ _ _ _
  · exact Index.walk_now _ _ _ _ _ _

/-! The beam search of a sub-query (R202, R205, R206) and re-scoring's candidates (R207, R208, R210). -/

@[simp] theorem scoreNew_now (a l x) : (scoreNew a l x).KeepsNow := by
  induction l generalizing x with
  | nil => simp [scoreNew]
  | cons n ns ih => exact .ite (ih _) (.bind (Index.code_now _ _ _ _) fun _ => ih _)

@[simp] theorem startSub_now (a l j vec) : (startSub a l j vec).KeepsNow := by
  refine .bind (Index.side_now _ _ _) fun side => .bind (.mapM _ _ fun n => ?_) fun scored => .pure _
  exact .bind (Index.code_now _ _ _ _) fun c => .pure _

@[simp] theorem nodeTest_now (a j node) : (nodeTest a j node).KeepsNow := by
  refine .ite (.bind (.pure _) fun pass => ?_) (.bind (Index.attr_now _ _ _) fun attr => ?_)
  · exact .bind (Index.entry_now _ _ _) fun e => .pure _
  · exact .bind (Index.entry_now _ _ _) fun e => .pure _

@[simp] theorem passing_now (a j l) : (passing a j l).KeepsNow := by
  induction l with
  | nil => simp [passing]
  | cons e es ih => exact .bind (nodeTest_now _ _ _) fun _ => .bind ih fun _ => by simp

@[simp] theorem enough_now (a x) : (enough a x).KeepsNow := .bind (passing_now _ _ _) fun _ => .pure _

@[simp] theorem beginRound_now (a x) : (beginRound a x).KeepsNow := by
  refine .ite ?_ (.ite ?_ (.pure _))
  · exact .bind (enough_now _ _) fun done => .ite (.pure _) (.pure _)
  · exact .bind (enough_now _ _) fun done => .ite (.pure _) (.pure _)

@[simp] theorem expandRound_now (a es extra x) : (expandRound a es extra x).KeepsNow := by simp [expandRound]

@[simp] theorem stepSub_now (a x) : (stepSub a x).KeepsNow := by
  unfold stepSub
  refine .ite (.bind (beginRound_now _ _) fun y => ?_) (.bind (.pure _) fun y => ?_)
  all_goals
    beta_reduce
    split
    · exact .pure _
    · exact .ite (expandRound_now _ _ _ _) (.pure _)

@[simp] theorem land_now (a node x) : (land a node x).KeepsNow :=
  .ite (.pure _) (.bind (Index.visible_now _ _ _ _) fun ⟨_, _⟩ => .pure _)

@[simp] theorem rescoreNodes_now (a j l c) : (rescoreNodes a j l c).KeepsNow := by
  induction l generalizing c with
  | nil => simp [rescoreNodes]
  | cons e es ih => exact .bind (nodeTest_now _ _ _) fun _ => .bind (ih _) fun _ => by simp

@[simp] theorem runSub_now (a n x) : (runSub a n x).KeepsNow := by
  induction n generalizing x with
  | zero => simp [runSub]
  | succ fuel ih =>
    refine .ite (by simp) (.bind (stepSub_now _ _) fun y => .bind ?_ fun z => ih _)
    exact .foldlM _ _ _ fun y n => land_now _ _ _

/-! The SRCH block (R191 to R218): index slots, the SEARCH and RESCORE legs, callbacks, mutations, reclamation, ground
truth. -/

@[simp] theorem State.setQuery_now (s : State) (q) : (s.setQuery q).now = s.now := by simp [State.setQuery]
@[simp] theorem State.dropQuery_now (s : State) (n) : (s.dropQuery n).now = s.now := by simp [State.dropQuery]
@[simp] theorem readIndex_now (x t a engines) : (readIndex x t a engines).KeepsNow :=
  .bind (EM.read_now _ _ _) fun _ => .ite (.pure _) (.bind (EM.read_now _ _ _) fun _ => .pure _)

@[simp] theorem execIndexRegister_now (x v) (s : State) : AtNow s.now (execIndexRegister x v s) := by
  unfold execIndexRegister
  dsimp only
  refine .ite (by simp) ?_
  split
  · simp
  · simp
  · next hu => simpa using (readIndex_now _ _ _ _).of_ok hu
  · next hu => simpa using (readIndex_now _ _ _ _).of_ok hu

@[simp] theorem execIndexRetire_now (x) (s : State) : AtNow s.now (execIndexRetire x s) := by simp [execIndexRetire]
@[simp] theorem queryVectors_now (r x) : (queryVectors r x).KeepsNow :=
  .ite (.pure _) (.bind (EM.read_now _ _ _) fun _ => .pure _)
@[simp] theorem readClauses_now (r) : (readClauses r).KeepsNow :=
  .ite (.pure _) (.bind (EM.read_now _ _ _) fun _ => .ite (EM.stop_now _ _ _) (.pure _))
@[simp] theorem gateShut_now (x) : (gateShut x).KeepsNow :=
  .bind (.mapM _ _ fun _ => EM.read_now _ _ _) fun _ => .pure _
@[simp] theorem startQuery_now (r x e vs) : (startQuery r x e vs).KeepsNow :=
  .bind (readClauses_now _) fun _ => .bind (.mapM _ _ fun _ => startSub_now _ _ _ _) fun _ => .pure _

@[simp] theorem execSearchStart_now (n) (s : State) : AtNow s.now (execSearchStart n s) := by
  unfold execSearchStart
  split
  · simp
  dsimp only
  refine .ite (by simp) ?_
  split
  · simp
  refine .ite (by simp) (.ite (by simp) ?_)
  split
  · simp
  · next u hu =>
    have e : u.now = s.now := (gateShut_now _).of_ok hu
    split <;> simp [e]
  rename_i u hu
  have e : u.now = s.now := (gateShut_now _).of_ok hu
  split
  · simp [e]
  · next v hv =>
    have e1 : v.now = u.now := (queryVectors_now _ _).of_ok hv
    simp [e, e1]
  rename_i vs v hv
  have e1 : v.now = u.now := (queryVectors_now _ _).of_ok hv
  split
  · simp [e, e1]
  · next q w hw =>
    have e2 : w.now = v.now := (startQuery_now _ _ _ _).of_ok hw
    simp [e, e1, e2]

@[simp] theorem State.lanternEvents_now (s : State) (e t a b) : (s.lanternEvents e t a b).now = s.now := by
  simp [State.lanternEvents]
@[simp] theorem State.putSub_now (s : State) (q t j x) : (s.putSub q t j x).now = s.now := by simp [State.putSub]

@[simp] theorem execSearchRound_now (n j) (s : State) : AtNow s.now (execSearchRound n j s) := by
  unfold execSearchRound
  split
  · split
    · simp
    refine .ite (by simp) ?_
    split
    · simp
    rename_i y u hu
    have e : u.now = s.now := (stepSub_now _ _).of_ok hu
    dsimp only
    (repeat' split) <;> simp [e]
  · simp

@[simp] theorem execGranuleReadComplete_now (n j node) (s : State) :
    AtNow s.now (execGranuleReadComplete n j node s) := by
  unfold execGranuleReadComplete
  split
  · split
    · simp
    refine .ite (by simp) ?_
    split
    · simp
    · next hu => simpa using (land_now _ _ _).of_ok hu
  · simp

@[simp] theorem rescoreAll_now (a codeOnly l c) : (rescoreAll a codeOnly l c).KeepsNow := by
  induction l generalizing c with
  | nil => simp [rescoreAll]
  | cons x xs ih => exact .bind (rescoreNodes_now _ _ _ _) fun _ => .bind (ih _) fun _ => by simp

@[simp] theorem postBatch_now (r q b now) : (postBatch r q b now).KeepsNow :=
  .bind (EM.write_now _ _ _) fun _ => .bind (by simp) fun _ => .pure _
@[simp] theorem State.finishQuery_now (s : State) (r q) : (s.finishQuery r q).now = s.now := by
  simp [State.finishQuery]

@[simp] theorem execRescoreLeg_now (n) (s : State) : AtNow s.now (execRescoreLeg n s) := by
  unfold execRescoreLeg
  split
  · dsimp only
    refine .ite (by simp) ?_
    split
    · split
      · simp
      · next hu => simpa using (rescoreAll_now _ _ _ _).of_ok hu
    refine .ite (by simp) (.ite ?_ (by simp))
    split
    · simp
    · next hu => simpa using (postBatch_now _ _ _ _).of_ok hu
  · simp

@[simp] theorem execCallbackDone_now (n) (s : State) : AtNow s.now (execCallbackDone n s) := by
  unfold execCallbackDone
  split
  · dsimp only
    refine .ite (by simp) ?_
    split
    · simp
    · next hu =>
      have e := (EM.read_now _ _ _).of_ok hu
      split <;> simp [e]
  · simp

@[simp] theorem execCallbackTimeout_now (n) (s : State) : AtNow s.now (execCallbackTimeout n s) := by
  simp only [execCallbackTimeout]
  (repeat' split) <;> simp

@[simp] theorem State.setVersions_now (s : State) (x j l) : (s.setVersions x j l).now = s.now := by
  simp [State.setVersions]

@[simp] theorem newest_now (x j node) : (newest x j node).KeepsNow := by
  refine .bind (Index.entry_now _ _ _) fun e => ?_
  split
  · exact .pure _
  · refine .bind .get fun s => ?_
    split
    · exact EM.stop_now _ _ _
    · exact .ite (EM.stop_now _ _ _) (.pure _)

@[simp] theorem linkCopies_now (x j node l) : (linkCopies x j node l).KeepsNow := by
  induction l with
  | nil => simp [linkCopies]
  | cons n ns ih =>
    refine .bind (newest_now _ _ _) fun _ => .bind ih fun more => ?_
    split
    · simp
    · refine .bind (Index.granule_now _ _ _) fun g => ?_
      split <;> simp

@[simp] theorem placesFor_now (x j l l₁) : (placesFor x j l l₁).KeepsNow := by
  induction l generalizing l₁ with
  | nil => simp [placesFor]
  | cons n ns ih =>
    refine .bind (Index.probe_now _ _ _ _ _ _) fun e => ?_
    split
    · simp
    · refine .bind (ih _) fun l => ?_
      split <;> simp

@[simp] theorem insertNeighbours_now (x j snap vec) : (insertNeighbours x j snap vec).KeepsNow := by
  refine .bind (startSub_now _ _ _ _) fun y => .bind (.foldlM _ _ _ fun _ _ => land_now _ _ _) fun y => ?_
  refine .bind (runSub_now _ _ _) fun y => .bind (rescoreNodes_now _ _ _ _) fun ⟨ns, c⟩ => ?_
  exact .bind (.foldlM _ _ _ fun _ _ => land_now _ _ _) fun y => .pure _

@[simp] theorem insertNode_now (r x) : (insertNode r x).KeepsNow := by
  refine .bind (newest_now _ _ _) fun ⟨e, at_⟩ => .ite (.bind (EM.stop_now _ _ _) fun _ => ?_) ?_
  all_goals
    refine .bind (EM.read_now _ _ _) fun raw => .bind (insertNeighbours_now _ _ _ _) fun ns => ?_
    refine .bind (linkCopies_now _ _ _ _) fun copies => .bind (placesFor_now _ _ _ _) fun places => ?_
    split
    · exact EM.stop_now _ _ _
    refine .bind .get fun s => .ite (.pure _) (.bind (.forM _ _ fun _ => EM.write_now _ _ _) fun _ => ?_)
    refine .bind (Index.side_now _ _ _) fun c0 => .bind (EM.write_now _ _ _) fun _ => .ite ?_ (.bind (by simp) fun _ => .pure _)
    exact .bind (Index.side_now _ _ _) fun c1 => .bind (EM.write_now _ _ _) fun _ => .bind (by simp) fun _ => .pure _

@[simp] theorem State.mutationStart_now (s : State) (r isl) : (s.mutationStart r isl).now = s.now := by
  simp [State.mutationStart]

@[simp] theorem execIndexInsert_now (n) (s : State) : AtNow s.now (execIndexInsert n s) := by
  unfold execIndexInsert
  split
  · simp
  · simp
  dsimp only
  refine .ite (by simp) ?_
  split
  · simp
  · next hu => simpa using (insertNode_now _ _).of_ok hu
  · refine (atNow_next _ _).2 ?_
    split <;> simp

@[simp] theorem deleteNode_now (r x) : (deleteNode r x).KeepsNow := by
  refine .ite (.bind (EM.stop_now _ _ _) fun _ => .bind (newest_now _ _ _) fun ⟨e, at_⟩ => ?_)
    (.bind (newest_now _ _ _) fun ⟨e, at_⟩ => ?_)
  all_goals
    refine .ite (EM.stop_now _ _ _) (.ite (.pure _) (.bind (placesFor_now _ _ _ _) fun places => ?_))
    split
    · exact EM.stop_now _ _ _
    · exact .pure _

@[simp] theorem execIndexDelete_now (n) (s : State) : AtNow s.now (execIndexDelete n s) := by
  unfold execIndexDelete
  split
  · simp
  · simp
  dsimp only
  refine .ite (by simp) ?_
  split
  · simp
  · next hu => simpa using (deleteNode_now _ _).of_ok hu
  · next hu => simpa using (deleteNode_now _ _).of_ok hu

@[simp] theorem commitMutation_now (m c) : (commitMutation m c).KeepsNow := by
  refine .bind (EM.write_now _ _ _) fun _ => .bind (.forM _ _ fun _ => EM.write_now _ _ _) fun _ => ?_
  refine .bind (.forM _ _ fun e => .bind (Index.probe_now _ _ _ _ _ _) fun place => ?_) fun _ => EM.write_now _ _ _
  split
  · exact .pure _
  · refine .bind (EM.write_now _ _ _) fun _ => .ite (.pure _) ?_
    exact .bind (EM.read_now _ _ _) fun b => EM.write_now _ _ _

@[simp] theorem execMutationCommit_now (n) (s : State) : AtNow s.now (execMutationCommit n s) := by
  unfold execMutationCommit
  split
  · dsimp only
    refine .ite (by simp) ?_
    split
    · simp
    · next hu => simpa using (commitMutation_now _ _).of_ok hu
  · simp

@[simp] theorem execVersionReclaim_now (e) (s : State) : AtNow s.now (execVersionReclaim e s) := by
  simp [execVersionReclaim]

@[simp] theorem truthNodes_now (a j l) : (truthNodes a j l).KeepsNow := by
  induction l with
  | nil => simp [truthNodes]
  | cons n ns ih =>
    refine .bind ih fun more => .bind (newest_now _ _ _) fun _ => .ite (by simp) ?_
    refine .bind (nodeTest_now _ _ _) fun _ => .ite (by simp) (.bind (by simp) fun s => ?_)
    split <;> simp

@[simp] theorem execGroundTruthPass_now (n) (s : State) : AtNow s.now (execGroundTruthPass n s) := by
  unfold execGroundTruthPass
  split
  · dsimp only
    refine .ite (by simp) ?_
    split
    · simp
    rename_i ns s1 hres
    have e : s1.now = s.now := EM.KeepsNow.of_ok (.mapM _ _ fun j => truthNodes_now _ _ _) hres
    simp [e]
  · simp

/-! The resets as shared operations (R243, R561 to R565, R587) and the power cap (R541). -/

@[simp] theorem State.markRetired_now (s : State) : s.markRetired.now = s.now := by simp [State.markRetired]
@[simp] theorem State.flushLog_now (s : State) : s.flushLog.now = s.now := by simp [State.flushLog]
@[simp] theorem State.warmReset_now (s : State) (source) : (s.warmReset source).now = s.now := by
  simp [State.warmReset, State.now_mk, State.ao_tick]
@[simp] theorem State.endFreeze_now (s : State) : s.endFreeze.now = s.now := by simp [State.endFreeze]
@[simp] theorem State.keepAreas_now (s : State) (old : State) : (s.keepAreas old).now = s.now := by
  simp [State.keepAreas]
@[simp] theorem State.coldReset_now (s : State) (kind source step) : (s.coldReset kind source step).now = s.now := by
  simp [State.coldReset, State.now_mk, State.ao_tick]
@[simp] theorem State.requestCold_now (s : State) (source) : (s.requestCold source).now = s.now := by
  simp [State.requestCold]
@[simp] theorem State.requestWarm_now (s : State) (source) : (s.requestWarm source).now = s.now := by
  simp [State.requestWarm, State.now_mk, State.ao_tick]

@[simp] theorem State.writeCap_now (s : State) (type source keyTag) :
    (s.writeCap type source keyTag).now = s.now := by
  simp [State.writeCap]

/-! Power states, the always-on comparators, the duty controller, reset requests, start-up and the timer compares
(chapter 20 of the spec, R47). -/

@[simp] theorem State.setPwrState_now (s : State) (n) : (s.setPwrState n).now = s.now := by simp [State.setPwrState]
@[simp] theorem execRequestA0_now (s : State) : AtNow s.now (execRequestA0 s) := by simp [execRequestA0]
@[simp] theorem State.gateBay_now (s : State) (n) : (s.gateBay n).now = s.now := by simp [State.gateBay]
@[simp] theorem execRequestA2_now (s : State) : AtNow s.now (execRequestA2 s) := by simp [execRequestA2]
@[simp] theorem execRequestS1_now (s : State) : AtNow s.now (execRequestS1 s) := by
  simp [execRequestS1, State.now_mk, State.ao_tick]
@[simp] theorem State.enterS1_now (s : State) : s.enterS1.now = s.now := by
  simp [State.enterS1, State.now_mk, State.ao_tick]
@[simp] theorem State.wake_now (s : State) (source) : (s.wake source).now = s.now := by simp [State.wake]

@[simp] theorem execS1Entry_now (halted) (s : State) : AtNow s.now (execS1Entry halted s) := by
  simp only [execS1Entry]
  (repeat' split) <;> simp

@[simp] theorem execIslandClockStop_now (n) (s : State) : AtNow s.now (execIslandClockStop n s) := by
  simp [execIslandClockStop]
@[simp] theorem execIslandClockRestart_now (n) (s : State) : AtNow s.now (execIslandClockRestart n s) := by
  simp [execIslandClockRestart]
@[simp] theorem execStackWake_now (n) (s : State) : AtNow s.now (execStackWake n s) := by simp [execStackWake]
@[simp] theorem execStackSelfRefresh_now (n) (s : State) : AtNow s.now (execStackSelfRefresh n s) := by
  simp [execStackSelfRefresh]

@[simp] theorem State.wakeEvent_now (s : State) (source) : (s.wakeEvent source).now = s.now := by
  simp only [State.wakeEvent]
  (repeat' split) <;> simp [State.now_mk, State.ao_tick]

@[simp] theorem execWakeEvent_now (s : State) : AtNow s.now (execWakeEvent s) := by simp [execWakeEvent]

@[simp] theorem State.setCmpDone_now (s : State) (k b) : (s.setCmpDone k b).now = s.now := by
  unfold State.setCmpDone
  split <;> simp [State.now_mk, State.ao_tick]

@[simp] theorem State.cmpFire_now (s : State) (k) : (s.cmpFire k).now = s.now := by simp [State.cmpFire]
@[simp] theorem execTimeCmpWrite_now (k v) (s : State) : AtNow s.now (execTimeCmpWrite k v s) := by
  simp [execTimeCmpWrite]

@[simp] theorem execTimeCmpFire_now (k) (s : State) : AtNow s.now (execTimeCmpFire k s) := by
  simp only [execTimeCmpFire]
  (repeat' split) <;> simp

@[simp] theorem State.tripFire_now (s : State) (k injected) : (s.tripFire k injected).now = s.now := by
  simp [State.tripFire, State.now_mk, State.ao_tick]
@[simp] theorem execAoSensorRead_now (temps) (s : State) : AtNow s.now (execAoSensorRead temps s) := by
  simp [execAoSensorRead, State.now_mk, State.ao_tick]
@[simp] theorem execSup0Fault_now (s : State) : AtNow s.now (execSup0Fault s) := by simp [execSup0Fault]

@[simp] theorem execDutyUpdate_now (p) (s : State) : AtNow s.now (execDutyUpdate p s) := by
  unfold execDutyUpdate
  refine .ite (by simp) ((atNow_next _ _).2 ?_)
  dsimp only
  rw [State.now_mk, State.ao_tick, State.addFld_now, State.setFld_now, State.setFld_now, State.setFld_now, State.setFld_now,
    State.now_mk, State.ao_tick]

@[simp] theorem execDutyMinClear_now (s : State) : AtNow s.now (execDutyMinClear s) := by simp [execDutyMinClear]
@[simp] theorem execPwrResetWarm_now (v) (s : State) : AtNow s.now (execPwrResetWarm v s) := by
  simp [execPwrResetWarm]
@[simp] theorem execPwrResetCold_now (v) (s : State) : AtNow s.now (execPwrResetCold v s) := by
  simp [execPwrResetCold]
@[simp] theorem execPkgResetAssert_now (s : State) : AtNow s.now (execPkgResetAssert s) := by
  simp [execPkgResetAssert, State.now_mk, State.ao_tick]
@[simp] theorem execPkgResetRelease_now (s : State) : AtNow s.now (execPkgResetRelease s) := by
  simp [execPkgResetRelease, State.now_mk, State.ao_tick]

@[simp] theorem State.bootImage_now (s : State) (c) : (s.bootImage c).2.now = s.now := by
  simp only [State.bootImage]
  split <;> simp

@[simp] theorem State.bootVerify_now (s : State) (c ok) : (s.bootVerify c ok).2.2.now = s.now := by
  simp [State.bootVerify]
@[simp] theorem State.loadDescriptor_now (s : State) : s.loadDescriptor.now = s.now := by simp [State.loadDescriptor]

theorem State.carve_now (s : State) (slots bases) {t1} (h : s.carve slots bases = some t1) : t1.now = s.now := by
  unfold State.carve at h
  dsimp only at h
  split at h <;> cases h
  simp

@[simp] theorem State.writeHandoff_now (s : State) (cause areas) : (s.writeHandoff cause areas).now = s.now := by
  simp [State.writeHandoff]
@[simp] theorem State.startFail_now (s : State) : s.startFail.now = s.now := by
  simp [State.startFail, State.now_mk, State.ao_tick]
@[simp] theorem State.startNext_now (s : State) : s.startNext.now = s.now := by
  simp [State.startNext, State.now_mk, State.ao_tick]
@[simp] theorem State.hold__now (s : State) : s.hold_.now = s.now := by
  simp [State.hold_, State.now_mk, State.ao_tick]

@[simp] theorem State.enumerate_now (s : State) (found) : (s.enumerate found).now = s.now := by
  refine foldl_now _ _ _ fun s j => ?_
  split <;> simp

@[simp] theorem State.commitYedal_now (s : State) : s.commitYedal.now = s.now := by simp [State.commitYedal]

@[simp] theorem State.startWork_now (s : State) (k ok slots bases control found) :
    (s.startWork k ok slots bases control found).now = s.now := by
  unfold State.startWork
  split
  · dsimp only
    (repeat' split) <;> simp [State.now_mk, State.ao_tick]
  · (repeat' split) <;> simp
  · dsimp only
    (repeat' split) <;> simp [State.now_mk, State.ao_tick]
  · split <;> simp [State.now_mk, State.ao_tick]
  · split
    · simp
    split
    · rfl
    rename_i u hu
    have e : u.now = s.now := by
      split at hu
      · cases hu
        rfl
      · exact State.carve_now _ _ _ hu
    split <;> simp [e]
  · dsimp only
    (repeat' split) <;> simp
  · split <;> simp
  · dsimp only
    rw [State.startNext_now, State.setFlag_now]
    refine (foldl_now _ _ _ fun u j => ?_).trans (State.enumerate_now _ _)
    split <;> simp
  · split <;> simp
  · split <;> simp

@[simp] theorem execStartupStepAdvance_now (ok slots bases control found) (s : State) :
    AtNow s.now (execStartupStepAdvance ok slots bases control found s) := by
  unfold execStartupStepAdvance
  split <;> simp [State.now_mk, State.ao_tick]

end Sys2Proof.Machine
end

section
/-! SUPPORT. Security, Lookout, recovery, the strands' floating point, tables and the time base leave the reference
tick alone (R37). -/

namespace Sys2Proof.Machine

/-! The key engine: the commands of SEC_CMD, consents and entropy (chapter 16 of the spec). -/

@[simp] theorem State.secDone_now (s : State) (res out) : (s.secDone res out).now = s.now := by simp [State.secDone]

@[simp] theorem State.secCommand_now (s : State) (f : State → State) (h : (f s).now = s.now) :
    (s.secCommand f).now = s.now := by
  simp [State.secCommand, h]

@[simp] theorem State.drbg_now (s : State) : s.drbg.2.now = s.now := by simp [State.drbg]
@[simp] theorem State.installKey_now (s : State) (k root policy) : (s.installKey k root policy).now = s.now := by
  simp [State.installKey]
@[simp] theorem State.eraseKey_now (s : State) (k) : (s.eraseKey k).now = s.now := by simp [State.eraseKey]
@[simp] theorem State.consumeKem_now (s : State) (k) : (s.consumeKem k).now = s.now := by simp [State.consumeKem]
@[simp] theorem State.setSession_now (s : State) (k x) : (s.setSession k x).now = s.now := by simp [State.setSession]

@[simp] theorem State.blob_now (s : State) (kind policy tent client keyId secret) :
    (s.blob kind policy tent client keyId secret).2.now = s.now := by
  simp [State.blob]

@[simp] theorem execKemGenerate_now (v) (s : State) : AtNow s.now (execKemGenerate v s) := by simp [execKemGenerate]
@[simp] theorem execKeyGenerate_now (v) (s : State) : AtNow s.now (execKeyGenerate v s) := by simp [execKeyGenerate]

@[simp] theorem execKeyImport_now (v) (s : State) : AtNow s.now (execKeyImport v s) := by
  unfold execKeyImport
  refine (atNow_next _ _).2 (State.secCommand_now _ _ ?_)
  dsimp only
  (repeat' split) <;> simp

@[simp] theorem execKeyLoad_now (v) (s : State) : AtNow s.now (execKeyLoad v s) := by
  unfold execKeyLoad
  refine (atNow_next _ _).2 (State.secCommand_now _ _ ?_)
  dsimp only
  (repeat' split) <;> simp

@[simp] theorem execKeyClear_now (v) (s : State) : AtNow s.now (execKeyClear v s) := by simp [execKeyClear]

@[simp] theorem execSessionOpen_now (v) (s : State) : AtNow s.now (execSessionOpen v s) := by
  unfold execSessionOpen
  refine (atNow_next _ _).2 (State.secCommand_now _ _ ?_)
  dsimp only
  (repeat' split) <;> simp

@[simp] theorem execSessionLoad_now (v) (s : State) : AtNow s.now (execSessionLoad v s) := by
  unfold execSessionLoad
  refine (atNow_next _ _).2 (State.secCommand_now _ _ ?_)
  dsimp only
  (repeat' split) <;> simp

@[simp] theorem execSessionClose_now (v) (s : State) : AtNow s.now (execSessionClose v s) := by
  simp [execSessionClose]
@[simp] theorem execSecAttest_now (v) (s : State) : AtNow s.now (execSecAttest v s) := by simp [execSecAttest]

@[simp] theorem State.importInto_now (s : State) (t buf dst) : (s.importInto t buf dst).now = s.now := by
  simp only [State.importInto]
  split <;> simp

@[simp] theorem State.importStep_now (s : State) (t buf dst) : (s.importStep t buf dst).now = s.now := by
  simp only [State.importStep]
  (repeat' split) <;> simp

@[simp] theorem execSealedImport_now (v) (s : State) : AtNow s.now (execSealedImport v s) := by
  unfold execSealedImport
  split <;> simp

@[simp] theorem State.consentBits_now (s : State) : s.consentBits.now = s.now := by simp [State.consentBits]
@[simp] theorem execConsent_now (v) (s : State) : AtNow s.now (execConsent v s) := by simp [execConsent]
@[simp] theorem execConsentRevoke_now (v) (s : State) : AtNow s.now (execConsentRevoke v s) := by
  simp [execConsentRevoke]
@[simp] theorem execConsentWindowBoundary_now (s : State) : AtNow s.now (execConsentWindowBoundary s) := by
  simp [execConsentWindowBoundary]
@[simp] theorem State.secOut_now (s : State) (b) : (s.secOut b).now = s.now := by simp [State.secOut]
@[simp] theorem execGetCert_now (s : State) : AtNow s.now (execGetCert s) := by simp [execGetCert]
@[simp] theorem execSecGetLog_now (v) (s : State) : AtNow s.now (execSecGetLog v s) := by simp [execSecGetLog]
@[simp] theorem execDrbgReseed_now (s : State) : AtNow s.now (execDrbgReseed s) := by simp [execDrbgReseed]
@[simp] theorem execEntropyHealthFail_now (s : State) : AtNow s.now (execEntropyHealthFail s) := by
  simp [execEntropyHealthFail]

/-! Lookout: Basecamp resets, sensors, the thermal cap, the mailbox, the management protocol and the update path
(chapter 19 of the spec). -/

@[simp] theorem State.requestBasecamp_now (s : State) : s.requestBasecamp.now = s.now := by
  simp [State.requestBasecamp, State.now_mk, State.ao_tick]
@[simp] theorem execBasecampReset_now (ok) (s : State) : AtNow s.now (execBasecampReset ok s) := by
  simp [execBasecampReset]
@[simp] theorem execBasecampHaltTimeout_now (s : State) : AtNow s.now (execBasecampHaltTimeout s) := by
  simp [execBasecampHaltTimeout]

@[simp] theorem execSensorPoll_now (p temps stackTemps rails) (s : State) :
    AtNow s.now (execSensorPoll p temps stackTemps rails s) := by
  simp [execSensorPoll]

@[simp] theorem execThermalCapUpdate_now (s : State) : AtNow s.now (execThermalCapUpdate s) := by
  simp [execThermalCapUpdate]
@[simp] theorem State.lkDone_now (s : State) (res n) : (s.lkDone res n).now = s.now := by simp [State.lkDone]
@[simp] theorem State.lkOut_now (s : State) (b) : (s.lkOut b).now = s.now := by simp [State.lkOut]

@[simp] theorem State.lkCommand_now (s : State) (f : State → State) (h : (f s).now = s.now) :
    (s.lkCommand f).now = s.now := by
  simp [State.lkCommand, h]

@[simp] theorem execLkSensors_now (s : State) : AtNow s.now (execLkSensors s) := by simp [execLkSensors]
@[simp] theorem execLkGetLog_now (v) (s : State) : AtNow s.now (execLkGetLog v s) := by simp [execLkGetLog]
@[simp] theorem execLkInfo_now (s : State) : AtNow s.now (execLkInfo s) := by simp [execLkInfo]

@[simp] theorem State.trustAdd_now (s : State) (digest source keyTag) :
    (s.trustAdd digest source keyTag).now = s.now := by
  simp [State.trustAdd]

@[simp] theorem execLkEnroll_now (s : State) : AtNow s.now (execLkEnroll s) := by simp [execLkEnroll]
@[simp] theorem State.setMgmtSession_now (s : State) (conn x) : (s.setMgmtSession conn x).now = s.now := by
  simp [State.setMgmtSession]
@[simp] theorem State.refuseSession_now (s : State) (conn key) : (s.refuseSession conn key).now = s.now := by
  simp [State.refuseSession]

@[simp] theorem execMgmtHello_now (conn hello) (s : State) : AtNow s.now (execMgmtHello conn hello s) := by
  simp only [execMgmtHello]
  (repeat' split) <;> simp

@[simp] theorem execMgmtFinish_now (conn ct sig) (s : State) : AtNow s.now (execMgmtFinish conn ct sig s) := by
  unfold execMgmtFinish
  split <;> simp

@[simp] theorem execMgmtConnectionClose_now (conn) (s : State) : AtNow s.now (execMgmtConnectionClose conn s) := by
  unfold execMgmtConnectionClose
  split <;> simp

@[simp] theorem State.mgmtReply_now (s : State) (conn type status out) :
    (s.mgmtReply conn type status out).now = s.now := by
  unfold State.mgmtReply
  split <;> simp

@[simp] theorem State.mgmtRequest_now (s : State) (conn type seq cipher tag)
    (f : List Byte → Nat → State → Nat × List Byte × State) (hf : ∀ x0 x1 x2, (f x0 x1 x2).2.2.now = x2.now) :
    (s.mgmtRequest conn type seq cipher tag f).now = s.now := by
  unfold State.mgmtRequest
  dsimp only
  (repeat' split) <;> simp [hf]

@[simp] theorem execMgmtInfo_now (conn type seq cipher tag) (s : State) :
    AtNow s.now (execMgmtInfo conn type seq cipher tag s) := by
  simp only [execMgmtInfo]
  (repeat' split) <;> simp

@[simp] theorem execMgmtSensors_now (conn seq cipher tag) (s : State) :
    AtNow s.now (execMgmtSensors conn seq cipher tag s) := by
  simp [execMgmtSensors]

@[simp] theorem execMgmtGetLog_now (conn seq cipher tag) (s : State) :
    AtNow s.now (execMgmtGetLog conn seq cipher tag s) := by
  unfold execMgmtGetLog
  refine (atNow_next _ _).2 (State.mgmtRequest_now _ _ _ _ _ _ _ fun b k t => ?_)
  dsimp only
  (repeat' split) <;> simp

@[simp] theorem execSetPowerCap_now (conn seq cipher tag) (s : State) :
    AtNow s.now (execSetPowerCap conn seq cipher tag s) := by
  unfold execSetPowerCap
  refine (atNow_next _ _).2 (State.mgmtRequest_now _ _ _ _ _ _ _ fun b k t => ?_)
  dsimp only
  (repeat' split) <;> simp

@[simp] theorem execSetConfig_now (conn seq cipher tag) (s : State) :
    AtNow s.now (execSetConfig conn seq cipher tag s) := by
  unfold execSetConfig
  refine (atNow_next _ _).2 (State.mgmtRequest_now _ _ _ _ _ _ _ fun b k t => ?_)
  dsimp only
  (repeat' split) <;> simp

@[simp] theorem State.mgmtReset_now (s : State) (conn seq cipher tag scope) (go : State → State)
    (hgo : ∀ x0, (go x0).now = x0.now) : (s.mgmtReset conn seq cipher tag scope go).now = s.now := by
  unfold State.mgmtReset
  dsimp only
  (repeat' split) <;> simp [hgo]

@[simp] theorem execMgmtResetWarm_now (conn seq cipher tag) (s : State) :
    AtNow s.now (execMgmtResetWarm conn seq cipher tag s) := by
  simp [execMgmtResetWarm]

@[simp] theorem execMgmtResetCold_now (conn seq cipher tag) (s : State) :
    AtNow s.now (execMgmtResetCold conn seq cipher tag s) := by
  simp [execMgmtResetCold]

@[simp] theorem execMgmtResetBasecamp_now (conn seq cipher tag) (s : State) :
    AtNow s.now (execMgmtResetBasecamp conn seq cipher tag s) := by
  simp [execMgmtResetBasecamp]

@[simp] theorem execUpdateBegin_now (conn seq cipher tag) (s : State) :
    AtNow s.now (execUpdateBegin conn seq cipher tag s) := by
  unfold execUpdateBegin
  refine (atNow_next _ _).2 (State.mgmtRequest_now _ _ _ _ _ _ _ fun b k t => ?_)
  dsimp only
  (repeat' split) <;> simp

@[simp] theorem execUpdateData_now (conn seq cipher tag) (s : State) :
    AtNow s.now (execUpdateData conn seq cipher tag s) := by
  unfold execUpdateData
  refine (atNow_next _ _).2 (State.mgmtRequest_now _ _ _ _ _ _ _ fun b k t => ?_)
  dsimp only
  (repeat' split) <;> simp

@[simp] theorem execUpdateCommit_now (conn seq cipher tag) (s : State) :
    AtNow s.now (execUpdateCommit conn seq cipher tag s) := by
  unfold execUpdateCommit
  refine (atNow_next _ _).2 (State.mgmtRequest_now _ _ _ _ _ _ _ fun b k t => ?_)
  dsimp only
  (repeat' split) <;> simp

@[simp] theorem execTrustAdd_now (conn seq cipher tag) (s : State) :
    AtNow s.now (execTrustAdd conn seq cipher tag s) := by
  unfold execTrustAdd
  refine (atNow_next _ _).2 (State.mgmtRequest_now _ _ _ _ _ _ _ fun b k t => ?_)
  (repeat' split) <;> simp

@[simp] theorem execTrustRemove_now (conn seq cipher tag) (s : State) :
    AtNow s.now (execTrustRemove conn seq cipher tag s) := by
  unfold execTrustRemove
  refine (atNow_next _ _).2 (State.mgmtRequest_now _ _ _ _ _ _ _ fun b k t => ?_)
  dsimp only
  (repeat' split) <;> simp

@[simp] theorem execMgmtAttest_now (conn seq cipher tag) (s : State) :
    AtNow s.now (execMgmtAttest conn seq cipher tag s) := by
  unfold execMgmtAttest
  refine (atNow_next _ _).2 (State.mgmtRequest_now _ _ _ _ _ _ _ fun b k t => ?_)
  dsimp only
  (repeat' split) <;> simp

/-! Recovery from the journal and ranger restart (R418 to R427, R431). -/

@[simp] theorem execReplayScan_now (bad peer) (s : State) : AtNow s.now (execReplayScan bad peer s) := by
  unfold execReplayScan
  have stamped := s.originate_now (islRanger 0)
  generalize s.originate (islRanger 0) = p at stamped ⊢
  obtain ⟨st, u⟩ := p
  dsimp only at stamped ⊢
  refine .ite (by simp) ((atNow_next _ _).2 ?_)
  rw [State.setFlag_now, State.setFld_now, State.modJrnl_now, State.modAdm_now]
  split
  · refine (foldl_now _ _ _ fun u a => ?_).trans stamped
    split <;> simp
  · rw [State.wr_now]
    refine (foldl_now _ _ _ fun u a => ?_).trans stamped
    split <;> simp

@[simp] theorem execRecoveryTableWrite_now (v) (s : State) : AtNow s.now (execRecoveryTableWrite v s) := by
  simp [execRecoveryTableWrite]
@[simp] theorem State.rebind_now (s : State) (r st) : (s.rebind r st).2.now = s.now := by simp [State.rebind]

@[simp] theorem State.repack_now (s : State) (r query d) {m : Nat} (h : s.now = m) :
    OkNow m (·.2) (s.repack r query d) := by
  refine .bind (State.readTemplate_now _ _ _ _ _ h) fun x hx => .bind (State.ragPassages_now _ _ _ _ hx) fun y hy => ?_
  exact .ite (by simpa using hy) (by simpa using hy)

@[simp] theorem State.reinputs_now (s : State) (r) {m : Nat} (h : s.now = m) : OkNow m (·.2.2) (s.reinputs r) := by
  refine .ite (by simpa using h) (.bind (State.readStop_now _ _ h) fun x hx => ?_)
  dsimp only
  split
  · simpa using hx
  refine .ite (.bind (State.generatePrompt_now _ _ _ _ hx) fun y hy => by simpa using hy) ?_
  split
  · simpa using hx
  refine .bind (State.repack_now _ _ _ _ hx) fun y hy => ?_
  split <;> simpa using hy

@[simp] theorem State.repassages_now (s : State) (r) {m : Nat} (h : s.now = m) : OkNow m (·.2) (s.repassages r) :=
  .ite (State.ragPassages_now _ _ _ _ h) (by simpa using h)
@[simp] theorem State.putBack_now (s : State) (r) : (s.putBack r).now = s.now := by simp [State.putBack]

@[simp] theorem State.resumeRequest_now (s : State) (n) : (s.resumeRequest n).now = s.now := by
  unfold State.resumeRequest
  split
  · rfl
  split
  · rfl
  have stamped := s.originate_now (islRanger 0)
  generalize s.originate (islRanger 0) = p at stamped ⊢
  obtain ⟨st, u⟩ := p
  dsimp only at stamped ⊢
  rename_i r0 hr0 hnot
  have bound := (u.rebind_now r0 st).trans stamped
  generalize u.rebind r0 st = p at bound ⊢
  obtain ⟨r, v⟩ := p
  dsimp only at bound ⊢
  split
  · simp [bound]
  · simp [bound]
  · simp [bound]
  rename_i r1 e1 ps s1 hres
  have e : s1.now = s.now := by
    have passages {q : Request} {o : Option Nat} {w : State} (hw : w.now = s.now) {b : Prop} [Decidable b] :
        OkNow s.now (fun x : Request × Option Nat × List TextItem × State => x.2.2.2) (if b then
          (do let y ← w.repassages q; pure (q, o, y.1, y.2)) else (do let y ← pure ([], w); pure (q, o, y.1, y.2))) :=
      .ite (.bind (State.repassages_now _ _ hw) fun y hy => okNow_pure.2 hy)
        (.bind (st := (·.2)) (okNow_pure.2 hw) fun y hy => okNow_pure.2 hy)
    refine OkNow.ite (st := fun x : Request × Option Nat × List TextItem × State => x.2.2.2) ?_ ?_ _ hres
    · exact .bind (State.reinputs_now _ _ bound) fun x hx => passages hx
    · exact .bind (st := fun x : Request × Option Nat × State => x.2.2) (okNow_pure.2 bound) fun x hx => passages hx
  (repeat' split) <;> simp [e]

@[simp] theorem State.recoverResult_now (s : State) (n) : (s.recoverResult n).now = s.now := by
  simp [State.recoverResult]
@[simp] theorem execTentRecover_now (t) (s : State) : AtNow s.now (execTentRecover t s) := by simp [execTentRecover]

@[simp] theorem execRequestReattach_now (k) (s : State) : AtNow s.now (execRequestReattach k s) := by
  simp only [execRequestReattach]
  (repeat' split) <;> simp

@[simp] theorem execRangerWatchdogExpire_now (r) (s : State) : AtNow s.now (execRangerWatchdogExpire r s) := by
  simp [execRangerWatchdogExpire]

@[simp] theorem execRangerRestartComplete_now (r ok) (s : State) :
    AtNow s.now (execRangerRestartComplete r ok s) := by
  simp [execRangerRestartComplete]

/-! Strand floating point and conversions, opcodes 0x20 to 0x31 (R102, R104, R105). -/

@[simp] theorem execFadd_now (bay slot f) (s : State) : AtNow s.now (execFadd bay slot f s) := by simp [execFadd]
@[simp] theorem execFsub_now (bay slot f) (s : State) : AtNow s.now (execFsub bay slot f s) := by simp [execFsub]
@[simp] theorem execFmul_now (bay slot f) (s : State) : AtNow s.now (execFmul bay slot f s) := by simp [execFmul]
@[simp] theorem execFfma_now (bay slot f) (s : State) : AtNow s.now (execFfma bay slot f s) := by simp [execFfma]
@[simp] theorem execFmin_now (bay slot f) (s : State) : AtNow s.now (execFmin bay slot f s) := by simp [execFmin]
@[simp] theorem execFmax_now (bay slot f) (s : State) : AtNow s.now (execFmax bay slot f s) := by simp [execFmax]
@[simp] theorem execFsetp_now (bay slot f) (s : State) : AtNow s.now (execFsetp bay slot f s) := by simp [execFsetp]
@[simp] theorem execFabsneg_now (bay slot f) (s : State) : AtNow s.now (execFabsneg bay slot f s) := by
  simp [execFabsneg]
@[simp] theorem execFrcp_now (bay slot f) (s : State) : AtNow s.now (execFrcp bay slot f s) := by simp [execFrcp]
@[simp] theorem execFrsq_now (bay slot f) (s : State) : AtNow s.now (execFrsq bay slot f s) := by simp [execFrsq]
@[simp] theorem execFexp2_now (bay slot f) (s : State) : AtNow s.now (execFexp2 bay slot f s) := by simp [execFexp2]
@[simp] theorem execFlog2_now (bay slot f) (s : State) : AtNow s.now (execFlog2 bay slot f s) := by simp [execFlog2]
@[simp] theorem execFtanh_now (bay slot f) (s : State) : AtNow s.now (execFtanh bay slot f s) := by simp [execFtanh]
@[simp] theorem execF2i_now (bay slot f) (s : State) : AtNow s.now (execF2i bay slot f s) := by simp [execF2i]
@[simp] theorem execI2f_now (bay slot f) (s : State) : AtNow s.now (execI2f bay slot f s) := by simp [execI2f]
@[simp] theorem execF2n_now (bay slot f) (s : State) : AtNow s.now (execF2n bay slot f s) := by simp [execF2n]
@[simp] theorem execN2f_now (bay slot f) (s : State) : AtNow s.now (execN2f bay slot f s) := by simp [execN2f]
@[simp] theorem execFclass_now (bay slot f) (s : State) : AtNow s.now (execFclass bay slot f s) := by
  simp [execFclass]

/-! System instructions, opcodes 0x70 to 0x75, and the fetch of an ill-formed word (R99, R102, R131). -/

@[simp] theorem execTrap_now (bay slot f) (s : State) : AtNow s.now (execTrap bay slot f s) := by simp [execTrap]
@[simp] theorem execTime_now (bay slot f) (s : State) : AtNow s.now (execTime bay slot f s) := by simp [execTime]
@[simp] theorem execCtr_now (bay slot f) (s : State) : AtNow s.now (execCtr bay slot f s) := by simp [execCtr]
@[simp] theorem execBayinfo_now (bay slot f) (s : State) : AtNow s.now (execBayinfo bay slot f s) := by
  simp [execBayinfo]
@[simp] theorem execTrace_now (bay slot f) (s : State) : AtNow s.now (execTrace bay slot f s) := by simp [execTrace]
@[simp] theorem execBrk_now (bay slot f) (s : State) : AtNow s.now (execBrk bay slot f s) := by simp [execBrk]

@[simp] theorem execIllegalOpcode_now (bay slot) (s : State) : AtNow s.now (execIllegalOpcode bay slot s) := by
  unfold execIllegalOpcode
  dsimp only
  (repeat' split) <;> simp

/-! The TBL block (R221 to R238): registration, commands and their parts, replication, bucket moves and version
switches. -/

@[simp] theorem State.setTblReg_now (s : State) (r) : (s.setTblReg r).now = s.now := by simp [State.setTblReg]
@[simp] theorem State.setTblCmd_now (s : State) (c) : (s.setTblCmd c).now = s.now := by simp [State.setTblCmd]
@[simp] theorem TblVer.place_now (v t r) : (TblVer.place v t r).KeepsNow :=
  .ite (.bind (EM.read_now _ _ _) fun _ => .pure _) (.pure _)
@[simp] theorem TblVer.slotsFit_now (v t) : (TblVer.slotsFit v t).KeepsNow :=
  .ite (.bind (EM.read_now _ _ _) fun _ => .pure _) (.pure _)

@[simp] theorem readTable_now (t a marks) : (readTable t a marks).KeepsNow := by
  refine .bind (EM.read_now _ _ _) fun h => .ite (.pure _) (.bind (EM.read_now _ _ _) fun rows => ?_)
  refine .bind .get fun s => .ite (.pure _) (.bind (TblVer.slotsFit_now _ _) fun fit => .ite (.pure _) ?_)
  exact .bind (EM.read_now _ _ _) fun hot => .pure _

@[simp] theorem execTableRegister_now (x v) (s : State) : AtNow s.now (execTableRegister x v s) := by
  unfold execTableRegister
  dsimp only
  refine .ite (by simp) ?_
  split
  · simp
  · simp
  · next hu => simpa using (readTable_now _ _ _).of_ok hu
  · next hu =>
    have e := (readTable_now _ _ _).of_ok hu
    split <;> simpa using e

@[simp] theorem State.tblSweep_now (s : State) : s.tblSweep.now = s.now := by simp [State.tblSweep]
@[simp] theorem execTableRetire_now (x) (s : State) : AtNow s.now (execTableRetire x s) := by simp [execTableRetire]
@[simp] theorem State.switchRefused_now (s : State) (x) : (s.switchRefused x).now = s.now := by
  simp [State.switchRefused]

@[simp] theorem execTableSwitch_now (v) (s : State) : AtNow s.now (execTableSwitch v s) := by
  unfold execTableSwitch
  dsimp only
  split
  · simp
  refine .ite (by simp) ?_
  split
  · simp
  · simp
  · simp
  · next hu =>
    have e := (readTable_now _ _ _).of_ok hu
    split <;> simp [e]

@[simp] theorem execTableSwitchActivate_now (x) (s : State) : AtNow s.now (execTableSwitchActivate x s) := by
  simp only [execTableSwitchActivate]
  (repeat' split) <;> simp

@[simp] theorem readIndices_now (t b) : (readIndices t b).KeepsNow := by
  refine .ite (.bind .get fun s => .ite (.bind (EM.stop_now _ _ _) fun _ => ?_) ?_) ?_
  · exact .bind (.pure _) fun _ => .pure _
  · exact .bind (.pure _) fun _ => .pure _
  · exact .bind (EM.read_now _ _ _) fun b => .pure _

@[simp] theorem TblReg.locate_now (r v st pos row) : (TblReg.locate r v st pos row).KeepsNow :=
  .ite (.pure _) (.bind (TblVer.place_now _ _ _) fun _ => .ite (.pure _) (.ite (.pure _) (.pure _)))
@[simp] theorem TblReg.split_now (r v st is) : (TblReg.split r v st is).KeepsNow :=
  .bind (.mapM _ _ fun _ => TblReg.locate_now _ _ _ _ _) fun _ => .pure _
@[simp] theorem State.tcRefuse_now (s : State) (isl t n kind b) : (s.tcRefuse isl t n kind b).now = s.now := by
  simp [State.tcRefuse]

@[simp] theorem State.tcIssue_now (s : State) (isl t n kind b) : (s.tcIssue isl t n kind b).now = s.now := by
  unfold State.tcIssue
  dsimp only
  split
  · simp
  split
  · simp
  split
  · simp
  rename_i ps bad s1 hw
  have e : s1.now = s.now := by
    refine (EM.KeepsNow.of_ok ?_ hw).trans (State.originate_now _ _)
    exact .bind (readIndices_now _ _) fun is => .bind (TblReg.split_now _ _ _ _) fun ps => by simp
  split <;> simp [e]

@[simp] theorem execTableCommandIssue_now (isl t n cmd) (s : State) :
    AtNow s.now (execTableCommandIssue isl t n cmd s) := by
  simp only [execTableCommandIssue]
  (repeat' split) <;> simp

@[simp] theorem EM.readP_now (t a n) : (EM.readP t a n).KeepsNow := by
  refine .bind (EM.served_now _ _ _) fun _ => ?_
  intro s b u e
  cases e
  exact s.devRead_now t a n

@[simp] theorem EM.writeP_now (t a b bad) : (EM.writeP t a b bad).KeepsNow :=
  .bind (EM.served_now _ _ _) fun _ => by simp

@[simp] theorem WinArgs.row_now (a gather k i) : (WinArgs.row a gather k i).KeepsNow := by
  simp only [WinArgs.row]
  (repeat' split) <;> simp

@[simp] theorem gatherPut_now (c pos b bad) : (gatherPut c pos b bad).KeepsNow :=
  .ite (.bind (EM.writeP_now _ _ _ _) fun _ => .forM _ _ fun _ => by simp) (.forM _ _ fun _ => by simp)

@[simp] theorem gatherWindow_now (a c w) : (gatherWindow a c w).KeepsNow := by
  refine .bind (.mapM _ _ fun i => .bind (WinArgs.row_now _ _ _ _) fun row => .pure _) fun rows => ?_
  exact .bind (.mapM _ _ fun i => .bind (gatherPut_now _ _ _ _) fun bad => .pure _) fun bads => .pure _

@[simp] theorem scatterSource_now (a c pos) : (scatterSource a c pos).KeepsNow :=
  .ite (EM.readP_now _ _ _) (.bind .get fun _ => .pure _)

@[simp] theorem WinArgs.put_now (a i b bad) : (WinArgs.put a i b bad).KeepsNow := by
  simp only [WinArgs.put]
  (repeat' split) <;> simp

@[simp] theorem scatterWindow_now (a c w) : (scatterWindow a c w).KeepsNow := by
  refine .bind (.mapM _ _ fun i => ?_) fun bads => .pure _
  exact .bind (scatterSource_now _ _ _) fun src => .bind (WinArgs.put_now _ _ _ _) fun _ => .pure _

@[simp] theorem addWindow_now (a c order w) : (addWindow a c order w).KeepsNow := by
  refine .bind (.mapM _ _ fun i => .bind (.mapM _ _ fun pos => scatterSource_now _ _ _) fun srcs => ?_) fun bads => .pure _
  exact .bind (WinArgs.row_now _ _ _ _) fun row => .bind (WinArgs.put_now _ _ _ _) fun _ => .pure _

@[simp] theorem State.countWindow_now (s : State) (r v c sh w) : (s.countWindow r v c sh w).now = s.now := by
  simp [State.countWindow]

@[simp] theorem State.tcWindow_now (s : State) (op id k given) (f : WinArgs → TblCmd → List TblIndex → EM Bool)
    (h : ∀ a c w, (f a c w).KeepsNow) : (s.tcWindow op id k given f).now = s.now := by
  unfold State.tcWindow
  split
  · rfl
  split
  · dsimp only
    split
    · rfl
    split
    · simp
    · simp
    rename_i bad s1 hs
    have e : s1.now = s.now := EM.KeepsNow.of_ok (h _ _ _) hs
    simp [e]
  · rfl

@[simp] theorem execTableGather_now (id k given) (s : State) : AtNow s.now (execTableGather id k given s) := by
  simp [execTableGather]
@[simp] theorem execTableScatter_now (id k) (s : State) : AtNow s.now (execTableScatter id k s) := by
  simp [execTableScatter]

@[simp] theorem execTableScatterAdd_now (id k order) (s : State) :
    AtNow s.now (execTableScatterAdd id k order s) := by
  simp [execTableScatterAdd]

@[simp] theorem execTableCommandComplete_now (id) (s : State) : AtNow s.now (execTableCommandComplete id s) := by
  unfold execTableCommandComplete
  split <;> simp

@[simp] theorem execHotSampleInterval_now (x counts) (s : State) :
    AtNow s.now (execHotSampleInterval x counts s) := by
  unfold execHotSampleInterval
  split <;> simp

@[simp] theorem copyRows_now (t v n) : (copyRows t v n).KeepsNow := by
  refine .bind (.mapM _ _ fun row => .bind (TblVer.place_now _ _ _) fun place => ?_) fun rows => .pure _
  exact .bind (EM.readP_now _ _ _) fun b => .pure _

@[simp] theorem execReplicaCopyComplete_now (x n) (s : State) : AtNow s.now (execReplicaCopyComplete x n s) := by
  unfold execReplicaCopyComplete
  split
  · simp
  refine .ite (by simp) ?_
  dsimp only
  split
  · simp
  split
  · simp
  · simp
  · next hu => simpa using (copyRows_now _ _ _).of_ok hu

@[simp] theorem moveBucket_now (t v m) : (moveBucket t v m).KeepsNow := by
  refine .bind (EM.read_now _ _ _) fun e => .bind (.forM _ _ fun i => ?_) fun _ => EM.write_now _ _ _
  exact .bind (EM.readP_now _ _ _) fun b => EM.writeP_now _ _ _ _

@[simp] theorem execBucketMove_now (x bucket shard slot cut) (s : State) :
    AtNow s.now (execBucketMove x bucket shard slot cut s) := by
  unfold execBucketMove
  split
  · simp
  refine .ite (by simp) ?_
  dsimp only
  split
  · split <;> simp
  refine .ite (by simp) ?_
  split
  · simp
  · simp
  · next hu => simpa using (moveBucket_now _ _ _).of_ok hu

/-! The time base (R37 to R46): beacons and slewing, timing faults, skew, the PTP mapping and the pulse pins. -/

@[simp] theorem State.noteSkew_now (s : State) (n d) : (s.noteSkew n d).now = s.now := by simp [State.noteSkew]
@[simp] theorem State.beaconAt_now (s : State) (n drift) : (s.beaconAt n drift).now = s.now := by
  simp [State.beaconAt]
@[simp] theorem State.beaconMissed_now (s : State) (n) : (s.beaconMissed n).now = s.now := by
  simp [State.beaconMissed]
@[simp] theorem execTimeBeacon_now (drift absent) (s : State) : AtNow s.now (execTimeBeacon drift absent s) := by
  simp [execTimeBeacon]
@[simp] theorem execTimingFault_now (isl) (s : State) : AtNow s.now (execTimingFault isl s) := by
  simp [execTimingFault]
@[simp] theorem execTimeSkewClear_now (s : State) : AtNow s.now (execTimeSkewClear s) := by simp [execTimeSkewClear]

@[simp] theorem execPtpMappingUpdate_now (offset rate ptpState) (s : State) :
    AtNow s.now (execPtpMappingUpdate offset rate ptpState s) := by
  simp [execPtpMappingUpdate]

@[simp] theorem execPpsOutEdge_now (s : State) : AtNow s.now (execPpsOutEdge s) := by
  simp [execPpsOutEdge, State.now_mk, State.ao_tick]
@[simp] theorem execPpsInEdge_now (s : State) : AtNow s.now (execPpsInEdge s) := by
  simp [execPpsInEdge, State.now_mk, State.ao_tick]

/-! Crew-uniform operations, opcodes 0x40 to 0x47 (R70, R102). -/

@[simp] theorem State.uni2_now (s : State) (bay slot f) (op : W64 → W64 → W64) :
    (s.uni2 bay slot f op).now = s.now := by
  simp [State.uni2]

@[simp] theorem execUadd_now (bay slot f) (s : State) : AtNow s.now (execUadd bay slot f s) := by simp [execUadd]
@[simp] theorem execUaddi_now (bay slot f) (s : State) : AtNow s.now (execUaddi bay slot f s) := by simp [execUaddi]
@[simp] theorem execUmovi_now (bay slot f) (s : State) : AtNow s.now (execUmovi bay slot f s) := by simp [execUmovi]
@[simp] theorem execUlui_now (bay slot f) (s : State) : AtNow s.now (execUlui bay slot f s) := by simp [execUlui]
@[simp] theorem execUmul_now (bay slot f) (s : State) : AtNow s.now (execUmul bay slot f s) := by simp [execUmul]
@[simp] theorem execUshift_now (bay slot f) (s : State) : AtNow s.now (execUshift bay slot f s) := by
  simp [execUshift]
@[simp] theorem execUand_now (bay slot f) (s : State) : AtNow s.now (execUand bay slot f s) := by simp [execUand]
@[simp] theorem execUmovv_now (bay slot f) (s : State) : AtNow s.now (execUmovv bay slot f s) := by simp [execUmovv]

end Sys2Proof.Machine
end

section
/-! SUPPORT. Of the commands, only a power-on and SUP1 move the reference tick back, and only a time exchange moves it
forward (R37, R439). -/

namespace Sys2Proof.Machine

/-! The dispatch. -/

/-- A time exchange over a link is the one command that moves the reference, and it moves it forward (R439). -/
theorem execLinkTimeExchange_now_le (l rtt skew root hops) (s t : State)
    (h : execLinkTimeExchange l rtt skew root hops s = .next t) : s.now ≤ t.now := by
  unfold execLinkTimeExchange at h
  extract_lets x u booting v w parent at h
  have kept : w.now = s.now :=
    (State.timeTree_now _).trans ((State.setLink_now ..).trans ((State.setFld_now ..).trans (State.setFld_now ..)))
  split at h
  · cases h
    exact le_rfl
  · cases h
    split
    · exact kept.ge.trans (Nat.le_add_right w.now _)
    · split
      · exact kept.ge.trans (Nat.le_add_right w.now 1)
      · exact kept.ge

/-- Every other command that does not begin an epoch leaves the reference where it is. -/
theorem exec_now (c : Instr) (s : State) (power : c ≠ .aonPowerGood) (reset : c ≠ .sup1Reset)
    (exchange : ∀ l rtt skew root hops, c ≠ .linkTimeExchange l rtt skew root hops) : AtNow s.now (exec c s) := by
  cases c with
  | aonPowerGood => exact absurd rfl power
  | sup1Reset => exact absurd rfl reset
  | linkTimeExchange => exact absurd rfl (exchange _ _ _ _ _)
  | _ => simp [exec]

theorem exec_now_le (c : Instr) (s t : State) (power : c ≠ .aonPowerGood) (reset : c ≠ .sup1Reset)
    (h : exec c s = .next t) : s.now ≤ t.now := by
  by_cases exchange : ∃ l rtt skew root hops, c = .linkTimeExchange l rtt skew root hops
  · obtain ⟨l, rtt, skew, root, hops, rfl⟩ := exchange
    exact execLinkTimeExchange_now_le l rtt skew root hops s t h
  · push Not at exchange
    exact (exec_now c s power reset exchange t h).ge

/-- The front command of a state whose epoch goes on begins none. -/
theorem State.sameEpoch_front {s : State} {c : Instr} {cs : List Instr} (h : s.sameEpoch = true)
    (front : s.pending = c :: cs) : c ≠ .aonPowerGood ∧ c ≠ .sup1Reset := by
  unfold State.sameEpoch at h
  rw [front] at h
  constructor
  · rintro rfl
    cases h
  · rintro rfl
    cases h

/-! The obligation. -/

/-- Settles O60: an empty queue lets one tick pass, and no command of the same epoch moves the reference back. -/
theorem tickNeverFalls : Obligations.TickNeverFalls := by
  unfold Obligations.TickNeverFalls
  intro n s t same past h
  refine past.trans ?_
  unfold step at h
  split at h
  · cases h
    exact Nat.le_succ _
  · next c cs front =>
    obtain ⟨power, reset⟩ := State.sameEpoch_front same front
    exact exec_now_le c { s with pending := cs } t power reset h

end Sys2Proof.Machine
end

section
/-! SUPPORT. A divergent branch and the reconvergence stack (R78, R79, R112). -/

namespace Sys2Proof.Machine

/-- An instruction whose word stands at the crew's PC is not skipped (R68, R96). -/
theorem AtPc.runs {α : Type} {s : State} {bay slot op : Nat} {f : Short} {w2 : Option W64} {c : Crew}
    (h : AtPc s bay slot op f w2 c) (x y : α) : (if !s.fetches bay slot op f w2 then x else y) = y :=
  if_neg (by simp [h.fetches])

/-- A crew with a strand active that is not at the reconvergence point of its top entry goes on with its stack as it
is. -/
theorem Crew.goto_apart (c : Crew) (e : Reconv) (es : List Reconv) (pc : Nat) (hstack : c.stack = e :: es)
    (hactive : c.active ≠ 0) (hpc : pc ≠ e.reconv) : c.goto pc = { c with pc := pc } := by
  have stays : reconverge c.stack pc c.active = (pc, c.active, e :: es) := by
    rw [hstack, reconverge, if_neg hactive, if_neg hpc]
  rw [Crew.goto, stays, hstack]

/-- A divergent branch whose target is not its reconvergence point runs the strands that take it and adds an entry. -/
theorem Crew.branch_divergent (c : Crew) (f : Short) (taken : W32) (htaken : taken ≠ 0) (hsome : taken ≠ c.active)
    (htarget : pcPlus c.pc (sfield f 14 14) ≠ c.pc + fn f % 2 ^ 14) :
    (c.branch f taken).depth = c.depth + 1 ∧ (c.branch f taken).active = taken := by
  unfold Crew.branch
  rw [if_neg htaken, if_neg hsome, Crew.goto_apart _ _ _ _ rfl htaken htarget]
  exact ⟨by simp [Crew.depth], rfl⟩

/-- BRA traps where it diverges at a depth of 16 and branches otherwise. -/
theorem exec_bra_eq {s : State} {bay slot : Nat} {f : Short} {c : Crew} (ha : AtPc s bay slot 0x48 f none c)
    (hi : Issues s bay slot f { func := 0xFFFFFFF, guarded := true } c) :
    exec (.bra bay slot f) s = .next
      (if c.executing f ≠ 0 ∧ c.executing f ≠ c.active ∧ 16 ≤ c.depth then
        (s.issued bay).trapAll bay slot c trapReconvOverflow
      else (s.issued bay).setCrew bay slot (c.branch f (c.executing f))) := by
  change execBra bay slot f s = _
  unfold execBra
  rw [ha.runs, State.issue_eq s bay slot 0x48 f none _ c _ ha hi]
  rfl

/-- Settles O8: below a depth of 16 the entry is pushed, and at 16 the trap is taken. -/
theorem divergentBranchDepth : Obligations.DivergentBranchDepth := by
  unfold Obligations.DivergentBranchDepth
  intro s bay slot f c ha hi hslot hsome hnotAll
  constructor
  · intro hdepth htarget
    have hroom : ¬ (c.executing f ≠ 0 ∧ c.executing f ≠ c.active ∧ 16 ≤ c.depth) := fun h => by omega
    obtain ⟨hpushed, hactive⟩ := c.branch_divergent f (c.executing f) hsome hnotAll htarget
    rw [exec_bra_eq ha hi, if_neg hroom]
    exact ⟨_, _, rfl, State.crew_setCrew_same .., hpushed, hactive⟩
  · intro hfull
    have hcrew : (s.issued bay).crew bay slot = some c := (State.issued_crew s bay bay slot).trans ha.crew
    rw [exec_bra_eq ha hi, if_pos ⟨hsome, hnotAll, hfull⟩]
    exact ⟨_, rfl, (State.trap_spec _ bay slot c trapReconvOverflow c.active 0 hcrew hslot).of_issued⟩

end Sys2Proof.Machine
end

section
/-! SUPPORT. CREW_LAUNCH, and the state that refutes O18 (R74). -/

namespace Sys2Proof.Machine

/-- What a launch makes of its bay: the new crew stands in the slot, and crews that wait for the launch queue go on. -/
def Bay.launched (b : Bay) (d : LaunchDesc) (ds : List LaunchDesc) (slot : Nat) : Bay :=
  ({ b with launchq := ds, launches := b.launches + 1 }.setCrew slot
    (some { newCrew d slot with launchNo := b.launches })).wakeLaunch

theorem bay_crewLaunch {s t : State} {bay slot : Nat} {d : LaunchDesc} {ds : List LaunchDesc}
    (hqueue : (s.bay bay).launchq = d :: ds) (hroom : (s.bay bay).canLaunch d slot = true)
    (hgated : (s.bay bay).gated = false) (hreset : (s.bay bay).resetDue = false)
    (hfree : s.blocked (s.bayIsland bay) = false) (h : exec (.crewLaunch bay slot) s = .next t) :
    t.bay bay = (s.bay bay).launched d ds slot := by
  change execCrewLaunch bay slot s = _ at h
  unfold execCrewLaunch at h
  simp only [hqueue] at h
  rw [if_pos (by simp [hroom, hgated, hreset, hfree])] at h
  cases h
  rw [State.bay_trace, State.bay_bayEvent, State.bay_setBay_same]
  rfl

/-- A bay whose crews' map lists slot 0 twice: first as free, and behind that with a crew that waits to issue its
LAUNCH again. No command makes such a map (`SMap.set_wf`), but the statement speaks of every state. -/
def slotListedTwice : State :=
  { dev := { bays := [(0, { launchq := [{}], crews := [(0, none), (0, some { park := .launch })] })] } }

/-- The launch fills the first entry of the slot, and then wakes the crew of the second into it. -/
theorem crew_launched_slotListedTwice : ((slotListedTwice.bay 0).launched {} [] 0).crew 0 = some {} := by
  decide +kernel

/-- Refutes O18 in the clause of CREW_LAUNCH: where the map of the bay's crews is not in canonical form, the slot ends
with the woken crew of a second entry, which has written no register, and not with the crew launched. -/
theorem not_crewLifecycle : ¬ Obligations.CrewLifecycle := by
  unfold Obligations.CrewLifecycle
  intro h
  obtain ⟨launch, -⟩ := h
  have room : (slotListedTwice.bay 0).canLaunch {} 0 = true := by decide +kernel
  have free : slotListedTwice.blocked (slotListedTwice.bayIsland 0) = false := by decide +kernel
  obtain ⟨t, hexec, -, hnew, -⟩ := launch slotListedTwice 0 0 {} [] rfl room rfl rfl free
  have hwoken : t.crew 0 0 = some {} :=
    (congrArg (·.crew 0) (bay_crewLaunch rfl room rfl rfl free hexec)).trans crew_launched_slotListedTwice
  have hsame : { newCrew {} 0 with launchNo := 0 } = ({} : Crew) := Option.some.inj (hnew.symm.trans hwoken)
  exact absurd hsame (by decide +kernel)

end Sys2Proof.Machine
end

section
/-! SUPPORT. What the accesses of a crew's operation change (R80 to R82, R109, R118): of its bay the crew alone, and of
the crew its outstanding operations and the tick of its last effect. -/

namespace Sys2Proof.Machine

/-! A crew whose operation `id` is under way. -/

/-- From crew `c` to crew `d` nothing changes but what the outstanding operations hold and the tick of the last effect,
and where operation `id` is outstanding none begins or ends. -/
structure Crew.Awaits (id : Nat) (c d : Crew) : Prop where
  kept : d = { c with ops := d.ops, lastEffect := d.lastEffect }
  ids : id ∈ c.ops.map LongOp.id → d.ops.map LongOp.id = c.ops.map LongOp.id

theorem Crew.Awaits.trans {id : Nat} {c d e : Crew} (h : c.Awaits id d) (k : d.Awaits id e) : c.Awaits id e where
  kept := k.kept.trans (by rw [h.kept])
  ids m := by
    have ids := h.ids m
    exact (k.ids (ids ▸ m)).trans ids

theorem Crew.Awaits.movedTo {id : Nat} {b c d : Crew} (h : c.Awaits id d) {pc : Nat} (moved : b.movedTo c pc) :
    b.movedTo d pc := by
  rw [h.kept]
  exact moved

/-- Changing operations one by one, each keeping its number. -/
theorem Crew.awaits_mapOps (id : Nat) (c : Crew) (g : LongOp → LongOp) (hg : ∀ o, (g o).id = o.id) :
    c.Awaits id { c with ops := c.ops.map g } where
  kept := rfl
  ids _ := by rw [List.map_map]; exact List.map_congr_left fun o _ => hg o

theorem Crew.awaits_lastEffect (id : Nat) (c : Crew) (n : Nat) : c.Awaits id { c with lastEffect := n } where
  kept := rfl
  ids _ := rfl

/-! The frame. -/

/-- From state `s` to state `t` the bays are as before but for the crew of one slot, which awaits operation `id`. -/
structure Accessed (bay slot id : Nat) (s t : State) : Prop where
  bays : ∀ b, b ≠ bay → t.bay b = s.bay b
  own : t.bay bay = { s.bay bay with crews := (t.bay bay).crews }
  crews : ∀ j, j ≠ slot → t.crew bay j = s.crew bay j
  crew : ∀ c, s.crew bay slot = some c → ∃ d, t.crew bay slot = some d ∧ c.Awaits id d

section
variable {bay slot id : Nat} {s t u : State}

theorem Accessed.trans (h : Accessed bay slot id s t) (k : Accessed bay slot id t u) : Accessed bay slot id s u where
  bays b hb := (k.bays b hb).trans (h.bays b hb)
  own := k.own.trans (by rw [h.own])
  crews j hj := (k.crews j hj).trans (h.crews j hj)
  crew c hc := by
    obtain ⟨d, hd, hcd⟩ := h.crew c hc
    obtain ⟨e, he, hde⟩ := k.crew d hd
    exact ⟨e, he, hcd.trans hde⟩

/-- What leaves the bays alone. -/
theorem Accessed.of_bays (h : t.dev.bays = s.dev.bays) : Accessed bay slot id s t := by
  have bays (b : Nat) : t.bay b = s.bay b := by unfold State.bay; rw [h]
  have crews (j : Nat) : t.crew bay j = s.crew bay j := by unfold State.crew; rw [bays]
  exact ⟨fun b _ => bays b, by rw [bays], fun j _ => crews j, fun c hc => ⟨c, (crews slot).trans hc, rfl, fun _ => rfl⟩⟩

theorem Accessed.refl : Accessed bay slot id s s := Accessed.of_bays rfl

theorem Accessed.foldl {α : Type} (h : Accessed bay slot id s t) (f : State → α → State)
    (hf : ∀ u x, Accessed bay slot id u (f u x)) (l : List α) : Accessed bay slot id s (l.foldl f t) := by
  induction l generalizing t with
  | nil => exact h
  | cons x l ih => exact ih (h.trans (hf t x))

/-- The bay's store, where the frame begins with the issue of an instruction. -/
theorem Accessed.store_issued {c : Crew} (h : Accessed bay slot id ((s.issued bay).setCrew bay slot c) t) :
    (t.bay bay).store = (s.bay bay).store := by
  rw [h.own]
  simp [State.setCrew, Bay.setCrew]

/-- What changes the crew of the slot alone. -/
theorem Accessed.modCrew (hs : slot < 256) (f : Crew → Crew) (hf : ∀ c : Crew, c.Awaits id (f c)) :
    Accessed bay slot id s (s.modCrew bay slot f) := by
  unfold State.modCrew
  rw [if_neg (by omega)]
  cases hcrew : s.crew bay slot with
  | none => exact .refl
  | some c =>
    refine ⟨fun b => State.bay_setCrew_other _ _ _ _ b, ?_, fun j => State.crew_setCrew_other _ _ _ _ j, ?_⟩
    · simp [State.setCrew, Bay.setCrew]
    · intro d hd
      obtain rfl : c = d := Option.some.inj (hcrew.symm.trans hd)
      exact ⟨_, State.crew_setCrew_same .., hf c⟩

end

/-! The bays under the operations of the memory and of the fabric. -/

theorem State.bayEvent_bays (s : State) (b c n : Nat) : (s.bayEvent b c n).dev.bays = s.dev.bays := by
  rw [State.bayEvent_dev]

theorem State.logAt_bays (s : State) (isl : Nat) (r : ErrRec) : (s.logAt isl r).2.dev.bays = s.dev.bays := by
  have fired : (if r.detector < 0x0900 then (none, s) else s.fire isl r.detector).2.dev.bays = s.dev.bays := by
    split
    · rfl
    · exact State.fire_kept (·.dev.bays) (fun _ _ _ => rfl) s isl r.detector
  unfold State.logAt
  generalize (if r.detector < 0x0900 then (none, s) else s.fire isl r.detector) = p at fired
  obtain ⟨inj, u⟩ := p
  dsimp only
  split <;>
    exact (State.errorSource_kept (·.dev.bays) (fun _ _ => rfl) _ _ _ _).trans
      ((State.countClass_kept (·.dev.bays) (fun _ _ _ => rfl) _ _ _).trans fired)

theorem State.deliver_bays (s : State) (isl det sp a fl : Nat) (r : EccResult) :
    (s.deliver isl det sp a fl r).2.dev.bays = s.dev.bays := by
  cases r with
  | clean => rfl
  | poisoned => rfl
  | corrected => exact s.logAt_bays isl _
  | bad => exact s.logAt_bays isl _

theorem State.checkWord_bays (s : State) (isl det sp a flips : Nat) (w : PWord) :
    (s.checkWord isl det sp a flips w).2.dev.bays = s.dev.bays := by
  have fired : (s.fire isl det).2.dev.bays = s.dev.bays :=
    State.fire_kept (·.dev.bays) (fun _ _ _ => rfl) s isl det
  unfold State.checkWord
  dsimp only
  split
  · exact fired
  · exact (State.deliver_bays ..).trans fired

theorem State.hbmWord_bays (s : State) (pa : Nat) : (s.hbmWord pa).2.dev.bays = s.dev.bays := by
  unfold State.hbmWord
  dsimp only
  split <;> exact State.checkWord_bays ..

theorem State.devWords_bays (s : State) (t a n : Nat) : (s.devWords t a n).2.dev.bays = s.dev.bays := by
  induction n generalizing s a with
  | zero => rfl
  | succ n ih => exact (ih _ _).trans (s.hbmWord_bays _)

theorem State.foldl_bays {α : Type} (f : State → α → State) (hf : ∀ s x, (f s x).dev.bays = s.dev.bays) (l : List α)
    (s : State) : (l.foldl f s).dev.bays = s.dev.bays := by
  induction l generalizing s with
  | nil => rfl
  | cons x l ih => exact (ih _).trans (hf s x)

theorem State.touch_bays (s : State) (t a : Nat) (write : Bool) : (s.touch t a write).dev.bays = s.dev.bays := rfl

theorem State.devRead_bays (s : State) (t a n : Nat) : (s.devRead t a n).2.2.dev.bays = s.dev.bays := by
  unfold State.devRead
  split
  · rfl
  · dsimp only
    rw [State.foldl_bays _ fun s i => s.touch_bays ..]
    exact s.devWords_bays ..

theorem State.devWriteFrom_bays (s : State) (t : Nat) (bad : Bool) (fuel a : Nat) (bs : List Byte) :
    (s.devWriteFrom t bad fuel a bs).dev.bays = s.dev.bays := by
  induction fuel generalizing s a bs with
  | zero => rfl
  | succ fuel ih =>
    unfold State.devWriteFrom
    split
    · rfl
    · exact ih _ _ _

theorem State.queueMigration_bays (s : State) (m : Migration) : (s.queueMigration m).dev.bays = s.dev.bays := rfl

theorem State.requestInbound_bays (s : State) (t v : Nat) (st : Stamp) (demand : Bool) :
    (s.requestInbound t v st demand).dev.bays = s.dev.bays := by
  unfold State.requestInbound
  split
  · rfl
  · exact s.queueMigration_bays _

theorem State.hold_bays (s : State) (a : Access) : (s.hold a).dev.bays = s.dev.bays := by
  unfold State.hold
  rw [State.requestInbound_bays, State.modMem_dev]

theorem State.addFld_bays (s : State) (off : Nat) (f : Nat × Nat) (n : Nat) :
    (s.addFld off f n).dev.bays = s.dev.bays := by simp only [State.addFld, State.setFld, State.wr_dev]

theorem State.dropFlit_bays (s : State) (f : Flit) : (s.dropFlit f).dev.bays = s.dev.bays := by
  unfold State.dropFlit
  dsimp only
  split
  · rw [apply_ite State.dev, State.modFab_dev, apply_ite Device.bays, ite_self, State.addFld_bays]
  · exact State.addFld_bays ..

theorem State.queueFlit_bays (s : State) (l : Nat) (link : Option Nat) (f : Flit) :
    (s.queueFlit l link f).dev.bays = s.dev.bays := rfl

theorem State.sendFlit_bays (s : State) (link : Option Nat) (f : Flit) :
    (s.sendFlit link f).dev.bays = s.dev.bays := by
  unfold State.sendFlit
  dsimp only
  split
  · rfl
  · split
    · rfl
    · split
      · rfl
      · split
        · exact s.queueFlit_bays _ link f
        · exact s.dropFlit_bays f

theorem State.fabSend_bays (s : State) (t : Txn) : (s.fabSend t).dev.bays = s.dev.bays := by
  unfold State.fabSend
  split
  · rfl
  · exact State.foldl_bays _ (fun s f => s.sendFlit_bays none f) _ s

/-! The accesses. -/

section
variable {bay slot id : Nat} {s t : State} (hs : slot < 256)

theorem Accessed.originate (h : Accessed bay slot id s t) (n : Nat) : Accessed bay slot id s (t.originate n).2 :=
  h.trans (.of_bays rfl)

theorem Accessed.event (h : Accessed bay slot id s t) (b code n : Nat) :
    Accessed bay slot id s (t.bayEvent b code n) := h.trans (.of_bays (t.bayEvent_bays b code n))

theorem Accessed.skipFree (h : Accessed bay slot id s t) : Accessed bay slot id s t.skipFree := h.trans (.of_bays rfl)

include hs

theorem Accessed.noteEffect (h : Accessed bay slot id s t) (st : Stamp) :
    Accessed bay slot id s (t.noteEffect bay slot st) :=
  h.trans (.modCrew hs _ fun c => c.awaits_lastEffect id _)

theorem Accessed.fillOp (h : Accessed bay slot id s t) (n : Nat) (rs : List (Nat × VReg)) :
    Accessed bay slot id s (t.fillOp bay slot n rs) :=
  h.trans (.modCrew hs _ fun c => c.awaits_mapOps id _ fun o => by split <;> rfl)

/-- The fault of operation `id` itself marks it, or is its only trace where the operation is posted. -/
theorem Accessed.failOp (h : Accessed bay slot id s t) (pc cause l a : Nat) :
    Accessed bay slot id s (t.failOp bay slot id pc cause l a) := by
  refine h.trans (.modCrew hs _ fun c => ?_)
  by_cases out : c.ops.any (·.id == id) = true
  · rw [if_pos out]
    exact c.awaits_mapOps id _ fun o => by split <;> rfl
  · rw [if_neg out]
    exact ⟨rfl, fun m => absurd (by simpa using m) out⟩

theorem Accessed.markReady (h : Accessed bay slot id s t) (n : Nat) :
    Accessed bay slot id s (t.markReady bay slot n) := by
  unfold State.markReady
  split
  · exact h
  · exact h.trans (.modCrew hs _ fun c => c.awaits_mapOps id _ fun o => by split <;> rfl)

/-- An access served now fills its operation's registers at most. -/
theorem Accessed.perform (h : Accessed bay slot id s t) (a : Access) (hbay : a.bay = bay) (hslot : a.slot = slot) :
    Accessed bay slot id s (t.perform a) := by
  have filled (u : State) (hu : u.dev.bays = t.dev.bays) (rs : Nat → List (Nat × VReg)) :
      Accessed bay slot id s (match a.dest with
        | some d => u.fillOp a.bay a.slot a.opId (rs d)
        | none => u) := by
    have hsu : Accessed bay slot id s u := h.trans (.of_bays hu)
    rw [hbay, hslot]
    split
    · exact hsu.fillOp hs _ _
    · exact hsu
  unfold State.perform
  split
  · exact filled _ (t.devRead_bays ..) _
  · exact h.trans (.of_bays (State.devWriteFrom_bays ..))
  · exact filled _ ((State.devWriteFrom_bays ..).trans (t.devRead_bays ..)) _

/-- An access of operation `id` is performed, held or fails, and changes no more of the bays than that operation. -/
theorem Accessed.access (h : Accessed bay slot id s t) (a : Access) (l : Nat) (hbay : a.bay = bay)
    (hslot : a.slot = slot) (hid : a.opId = id) : Accessed bay slot id s (t.access a l) := by
  unfold State.access
  split
  · exact h.perform hs a hbay hslot
  · exact h.trans (.of_bays (t.hold_bays a))
  · rw [hbay, hslot, hid]
    exact h.failOp hs _ _ _ _
  · rw [hbay, hslot, hid]
    exact h.failOp hs _ _ _ _

/-- So does a transaction to another package. -/
theorem Accessed.remoteIssue (h : Accessed bay slot id s t) (o : RemoteOp) (x : Txn) (hbay : o.bay = bay)
    (hslot : o.slot = slot) : Accessed bay slot id s (t.remoteIssue o x) := by
  subst hbay hslot
  unfold State.remoteIssue
  exact ((h.originate _).noteEffect hs _).trans (.of_bays (State.fabSend_bays ..))

end

end Sys2Proof.Machine
end

section
/-! SUPPORT. The instructions that begin a long-latency operation (R80 to R82): with their checks passed and room they
record it, and what they then do for it is what accesses may do. -/

namespace Sys2Proof.Machine

/-! The checks of an access. -/

theorem laneFault_none (ex : W32) (cause : Nat → Option Nat)
    (h : ∀ l, l < 32 → lane ex l = true → cause l = none) : laneFault ex cause = none := by
  have clean : ((lanes ex).filter fun l => (cause l).isSome) = [] := by
    rw [List.filter_eq_nil_iff]
    intro l hl
    obtain ⟨hlt, hlane⟩ := (mem_lanes ex l).1 hl
    simp [h l hlt hlane]
  unfold laneFault
  rw [clean]

theorem laneFault_aligned (ex : W32) (n : Nat) (addr : Nat → Nat)
    (h : ∀ l, l < 32 → lane ex l = true → addr l % n = 0) : laneFault ex (fun l => devCause n (addr l)) = none :=
  laneFault_none ex _ fun l hl hex => if_neg (not_not_intro (h l hl hex))

/-- An M-format access of the device range with its checks passed acts. -/
theorem State.mAccess_aligned (s : State) (bay slot : Nat) (f : Short) (store : Bool) (c : Crew) (ex : W32)
    (go : State → State) (hcode : mCodeOk f store false = true) (hclean : mPoison c f ex = 0)
    (haligned : ∀ l, l < 32 → lane ex l = true → mAddr c f l % mBytes f = 0) :
    s.mAccess bay slot f store false (devCause (mBytes f)) c ex go = go s := by
  unfold State.mAccess
  rw [hcode, hclean, laneFault_aligned ex (mBytes f) (mAddr c f) haligned]
  rfl

/-- A guarded instruction runs for the strands that execute it (R77). -/
theorem State.issue_guarded (s : State) (bay slot op : Nat) (f : Short) (k : OpForm) (c : Crew)
    (body : Crew → W32 → State → State) (ha : AtPc s bay slot op f none c) (hi : Issues s bay slot f k c)
    (hg : k.guarded = true) : s.issue bay slot f k body = body c (c.executing f) (s.issued bay) := by
  rw [State.issue_eq s bay slot op f none k c body ha hi, hg]
  rfl

/-! Beginning an operation. -/

/-- The crew has gone on with operation `o` outstanding under its next number (R81). -/
def Crew.begun (c : Crew) (o : LongOp) : Crew :=
  { c.advance {} with ops := c.ops ++ [{ o with id := c.nextOp, pc := c.pc }], nextOp := c.nextOp + 1 }

theorem Crew.map_id_begun (c : Crew) (o : LongOp) :
    (c.begun o).ops.map LongOp.id = c.ops.map LongOp.id ++ [c.nextOp] := by simp [Crew.begun]

theorem Crew.movedTo_begun (c : Crew) (o : LongOp) : c.movedTo (c.begun o) (c.pc + 1) :=
  movedTo_goto c c (c.pc + 1) rfl rfl

/-- With fewer than eight operations outstanding and room in the request table the operation begins. -/
theorem State.beginLong_room (s s0 : State) (bay slot : Nat) (c : Crew) (o : LongOp) (go : Nat → State → State)
    (hfew : c.outstanding < 8) (hroom : (s.bay bay).requests + o.reqs ≤ 4096) :
    s.beginLong s0 bay slot c o go = go c.nextOp (s.setCrew bay slot (c.begun o)) := by
  unfold State.beginLong
  rw [if_neg (by omega), if_neg (by omega)]
  rfl

/-- The outcome is a next state in which the crew of state `s` has begun an operation, and nothing else of the bays is
changed but by its accesses. -/
def Begins (s : State) (bay slot : Nat) (c : Crew) (x : Host.Outcome State Fault Refusal) : Prop :=
  ∃ t o, x = .next t ∧ Accessed bay slot c.nextOp ((s.issued bay).setCrew bay slot (c.begun o)) t

theorem Begins.skipFree {s t : State} {bay slot : Nat} {c : Crew} (h : Begins s bay slot c (.next t)) :
    Begins s bay slot c (.next t.skipFree) := by
  obtain ⟨u, o, hu, frame⟩ := h
  cases hu
  exact ⟨_, o, rfl, frame.skipFree⟩

/-- With room, an operation begins whose continuation makes accesses alone. -/
theorem begins_beginLong {s s0 : State} {bay slot : Nat} {c : Crew} {o : LongOp} {go : Nat → State → State}
    (hfew : c.outstanding < 8) (hroom : (s.bay bay).requests + o.reqs ≤ 4096)
    (hgo : ∀ u, Accessed bay slot c.nextOp u (go c.nextOp u)) :
    Begins s bay slot c (.next ((s.issued bay).beginLong s0 bay slot c o go)) :=
  ⟨_, o, congrArg _ (State.beginLong_room _ _ _ _ _ _ _ hfew (by rwa [State.issued_bay])), hgo _⟩

/-- An instruction that begins an operation under the premises of `LongBegins` does what that says. -/
theorem longBegins_of {op : Nat} {mk : Nat → Nat → Short → Instr} {k : Short → OpForm}
    {ok : State → Nat → Short → Crew → Prop} {reqs : State → Nat → Short → Crew → Nat}
    (h : ∀ s bay slot f c, AtPc s bay slot op f none c → Issues s bay slot f (k f) c → slot < 256 → ok s bay f c →
      c.outstanding < 8 → (s.bay bay).requests + reqs s bay f c ≤ 4096 →
      Begins s bay slot c (exec (mk bay slot f) s)) : LongBegins op mk k ok reqs := by
  intro s bay slot f c ha hi hslot hok hfew hroom
  obtain ⟨t, o, hexec, frame⟩ := h s bay slot f c ha hi hslot hok hfew hroom
  obtain ⟨d, hd, hcd⟩ := frame.crew _ (State.crew_setCrew_same ..)
  have hids : d.ops.map LongOp.id = c.ops.map LongOp.id ++ [c.nextOp] :=
    (hcd.ids (by simp [c.map_id_begun])).trans (c.map_id_begun o)
  have hv : d.v = c.v := by rw [hcd.kept]; rfl
  have hnext : d.nextOp = c.nextOp + 1 := by rw [hcd.kept]; rfl
  refine ⟨t, d, hexec, hd, hcd.movedTo (c.movedTo_begun o), hids, hnext, hv, frame.store_issued,
    fun j hj => ?_, fun b hb => ?_⟩
  · rw [frame.crews j hj, State.crew_setCrew_other _ _ _ _ _ hj, State.issued_crew]
  · rw [frame.bays b hb, State.bay_setCrew_other _ _ _ _ _ hb, State.issued_bay]

@[simp] theorem State.issued_deviceNum (s : State) (b : Nat) : (s.issued b).deviceNum = s.deviceNum := by
  unfold State.deviceNum State.fld
  rw [State.rd_issued]
  intro k _
  unfold rFabDeviceNum rBayEvcValue
  omega

/-! The instructions. -/

/-- A copy whose operands pass its checks goes on (R118). -/
theorem State.remoteCopy_passes {s : State} {bay slot op : Nat} {f : Short} {c : Crew}
    {go : Crew → Nat → Nat → Nat → Nat → State → State} (ha : AtPc s bay slot op f none c)
    (hi : Issues s bay slot f copyForm c) (hok : copyPasses s bay f c) :
    s.remoteCopy bay slot f go = go c (c.readU f.srca.toNat).val.toNat (c.readU f.srcc.toNat).val.toNat
      (64 * (fn f % 65536)) (getBits (c.readU f.srcb.toNat).val 0 12) (s.issued bay) := by
  obtain ⟨hsome, hcleanA, hcleanB, hcleanC, hinside⟩ := hok
  unfold State.remoteCopy
  refine (State.issue_plain s bay slot op f none copyForm c _ ha hi rfl).trans ?_
  dsimp only
  rw [if_neg (by omega), hcleanA, hcleanB, hcleanC, if_neg (by decide), State.issued_bayEnd, if_neg (by omega)]

theorem loadDev_begins : LongBegins 0x54 .loadDev (mForm · false) (fun s bay f c => mCodeOk f false false = true ∧
      mPoison c f (c.executing f) = 0 ∧
      (∀ l, l < 32 → lane (c.executing f) l = true → mAddr c f l % mBytes f = 0) ∧
      ∃ l, l < 32 ∧ lane (c.executing f) l = true ∧ (s.bay bay).spanFor c (mAddr c f l) (mBytes f) = none)
    (fun s bay f c => ((lanes (c.executing f)).filter fun l =>
      ((s.bay bay).spanFor c (mAddr c f l) (mBytes f)).isNone).length) := by
  refine longBegins_of fun s bay slot f c ha hi hslot hok hfew hroom => ?_
  obtain ⟨hcode, hclean, haligned, l, hl, hex, hmiss⟩ := hok
  have missing : ((lanes (c.executing f)).filter fun l =>
      ((s.bay bay).spanFor c (mAddr c f l) (mBytes f)).isNone) ≠ [] :=
    List.ne_nil_of_mem (List.mem_filter.2 ⟨(mem_lanes _ l).2 ⟨hl, hex⟩, by rw [hmiss]; rfl⟩)
  change Begins s bay slot c (execLoadDev bay slot f s)
  unfold execLoadDev
  rw [ha.runs]
  dsimp only
  rw [State.issue_guarded s bay slot 0x54 f _ c _ ha hi rfl,
    State.mAccess_aligned _ _ _ _ _ _ _ _ hcode hclean haligned, State.issued_bay, if_neg missing]
  refine begins_beginLong hfew hroom fun u => .markReady hslot (.foldl ?_ _ (fun u l => ?_) _) _
  · exact .event (.noteEffect hslot (.originate .refl _) _) _ _ _
  · exact .access hslot .refl _ l rfl rfl rfl

theorem atomDev_begins : LongBegins 0x56 .atomDev (atomForm · 0x3F) (fun _ _ f c => atomOk f = true ∧
      atomNoret f = false ∧ atomPoison c f (c.executing f) = 0 ∧
      ∀ l, l < 32 → lane (c.executing f) l = true → atomAddr c f l % atomBytes f = 0)
    (fun _ _ f c => (lanes (c.executing f)).length) := by
  refine longBegins_of fun s bay slot f c ha hi hslot hok hfew hroom => ?_
  obtain ⟨hop, hreturns, hclean, haligned⟩ := hok
  change Begins s bay slot c (execAtomDev bay slot f s)
  unfold execAtomDev
  rw [ha.runs]
  dsimp only
  rw [State.issue_guarded s bay slot 0x56 f _ c _ ha hi rfl]
  simp only [hop, hreturns, hclean, laneFault_aligned _ _ _ haligned, Bool.not_true, Bool.false_eq_true, if_false,
    ne_eq, not_true_eq_false]
  refine (begins_beginLong hfew hroom fun u => .markReady hslot (.foldl ?_ _ (fun u l => ?_) _) _).skipFree
  · exact .noteEffect hslot (.originate .refl _) _
  · exact .access hslot .refl _ l rfl rfl rfl

theorem flashRead_begins : LongBegins 0x58 .flashRead (fun _ => { a := .u, b := .u, func := 0x1FF })
    (fun s bay f c =>
      (c.readU f.srca.toNat).poison = false ∧ (c.readU f.srcb.toNat).poison = false ∧
      (c.readU f.srca.toNat).val.toNat % 4096 = 0 ∧ (c.readU f.srcb.toNat).val.toNat % 4096 = 0 ∧
      (c.readU f.srcb.toNat).val.toNat + 4096 ≤ s.bayEnd bay) (fun _ _ _ _ => 64) := by
  refine longBegins_of fun s bay slot f c ha hi hslot hok hfew hroom => ?_
  obtain ⟨hcleanA, hcleanB, halignedA, halignedB, hinside⟩ := hok
  have inside : ¬ (s.issued bay).bayEnd bay < (c.readU f.srcb.toNat).val.toNat + 4096 := by
    rw [State.issued_bayEnd]; omega
  change Begins s bay slot c (execFlashRead bay slot f s)
  unfold execFlashRead
  rw [ha.runs]
  dsimp only
  rw [State.issue_plain s bay slot 0x58 f none _ c _ ha hi rfl, hcleanA, hcleanB, if_neg (by decide),
    if_neg (not_not_intro halignedA), if_neg (not_not_intro halignedB), if_neg inside]
  split <;> exact begins_beginLong hfew hroom fun u => .refl

theorem remoteGet_begins : LongBegins 0x69 .remoteGet (fun _ => copyForm) copyPasses
    (fun _ _ f _ => min (fn f % 65536) 4096) := by
  refine longBegins_of fun s bay slot f c ha hi hslot hok hfew hroom => ?_
  change Begins s bay slot c (execRemoteGet bay slot f s)
  unfold execRemoteGet
  rw [ha.runs]
  dsimp only
  rw [State.remoteCopy_passes ha hi hok]
  refine begins_beginLong hfew (by simpa using hroom) fun u => .foldl ?_ _ (fun u p => ?_) _
  · exact .event .refl _ _ _
  · exact .remoteIssue hslot .refl _ _ rfl rfl

theorem remotePut_begins : LongBegins 0x6A .remotePut (fun _ => copyForm) copyPasses
    (fun _ _ f _ => min (fn f % 65536) 4096) := by
  refine longBegins_of fun s bay slot f c ha hi hslot hok hfew hroom => ?_
  change Begins s bay slot c (execRemotePut bay slot f s)
  unfold execRemotePut
  rw [ha.runs]
  dsimp only
  rw [State.remoteCopy_passes ha hi hok]
  split
  · exact begins_beginLong hfew (by simpa using hroom) fun u => .refl
  · refine begins_beginLong hfew (by simpa using hroom) fun u => .foldl ?_ _ (fun u p => ?_) _
    · exact .event .refl _ _ _
    · exact .remoteIssue hslot .refl _ _ rfl rfl

theorem remoteLoad_begins : LongBegins 0x6B .remoteLoad
    (fun f => { dst := .v ((if fn f % 8 = 3 then 8 else 4) / 4), a := .u, b := .v 1, func := 0xFFF07, guarded := true })
    (fun _ _ f c => (fn f % 8 = 2 ∨ fn f % 8 = 3) ∧ atomPoison c f (c.executing f) = 0 ∧
      ∀ l, l < 32 → lane (c.executing f) l = true → atomAddr c f l % (if fn f % 8 = 3 then 8 else 4) = 0)
    (fun _ _ f c => (lanes (c.executing f)).length) := by
  refine longBegins_of fun s bay slot f c ha hi hslot hok hfew hroom => ?_
  obtain ⟨hcode, hclean, haligned⟩ := hok
  change Begins s bay slot c (execRemoteLoad bay slot f s)
  unfold execRemoteLoad
  rw [ha.runs]
  dsimp only
  rw [State.issue_guarded s bay slot 0x6B f _ c _ ha hi rfl, if_neg (by omega), if_neg (not_not_intro hclean),
    laneFault_aligned _ _ _ haligned]
  refine begins_beginLong hfew hroom fun u => ?_
  split
  · refine .markReady hslot (.foldl ?_ _ (fun u l => ?_) _) _
    · exact .noteEffect hslot (.originate .refl _) _
    · exact .access hslot .refl _ l rfl rfl rfl
  · refine .foldl ?_ _ (fun u p => ?_) _
    · exact .event .refl _ _ _
    · exact .remoteIssue hslot .refl _ _ rfl rfl

theorem remoteAtom_begins : LongBegins 0x6C .remoteAtom (atomForm · 0xFFF3F) (fun s _ f c => atomOk f = true ∧
      atomPoison c f (c.executing f) = 0 ∧ (remoteDevice f = s.deviceNum ∨ remotePoison c f (c.executing f) = 0) ∧
      ∀ l, l < 32 → lane (c.executing f) l = true → atomAddr c f l % atomBytes f = 0)
    (fun _ _ f c => (lanes (c.executing f)).length) := by
  refine longBegins_of fun s bay slot f c ha hi hslot hok hfew hroom => ?_
  obtain ⟨hop, hclean, hdata, haligned⟩ := hok
  have sendable : ¬ (remoteDevice f ≠ (s.issued bay).deviceNum ∧ remotePoison c f (c.executing f) ≠ 0) := by
    rw [State.issued_deviceNum]
    tauto
  change Begins s bay slot c (execRemoteAtom bay slot f s)
  unfold execRemoteAtom
  rw [ha.runs]
  dsimp only
  rw [State.issue_guarded s bay slot 0x6C f _ c _ ha hi rfl, hop, Bool.not_true, if_neg Bool.false_ne_true,
    if_neg (not_not_intro hclean), if_neg sendable, laneFault_aligned _ _ _ haligned]
  refine (begins_beginLong hfew hroom fun u => ?_).skipFree
  split
  · refine .markReady hslot (.foldl ?_ _ (fun u l => ?_) _) _
    · exact .noteEffect hslot (.originate .refl _) _
    · exact .access hslot .refl _ l rfl rfl rfl
  · refine .foldl ?_ _ (fun u p => ?_) _
    · exact .event .refl _ _ _
    · exact .remoteIssue hslot .refl _ _ rfl rfl

end Sys2Proof.Machine
end

section
/-! SUPPORT. The stores of a crew to its device range (R108, R109, R239, R244, R245, R249): a posted access is performed
where its panel is resident, and is held or fails otherwise. -/

namespace Sys2Proof.Machine

/-! Little-endian numbers in a byte store (R10). -/

@[simp] theorem length_leBytes (n x : Nat) : (leBytes n x).length = n := by
  induction n generalizing x with
  | zero => rfl
  | succ n ih => rw [leBytes, List.length_cons, ih]

theorem leNat_leBytes (n x : Nat) : leNat (leBytes n x) = x % 2 ^ (8 * n) := by
  induction n generalizing x with
  | zero => simp [leBytes, leNat, Nat.mod_one]
  | succ n ih =>
    have split : 2 ^ (8 * (n + 1)) = 2 ^ 8 * 2 ^ (8 * n) := by rw [← pow_add]; congr 1; omega
    rw [leBytes, leNat, ih, split, Nat.mod_mul, BitVec.toNat_ofNat]
    rfl

theorem Store.read_write (m : Store) (a : Nat) (bs : List Byte) (bad : Bool) :
    (m.write a bs bad).read a bs.length = bs := by
  refine List.ext_getElem (by simp [Store.read]) fun i hi hb => ?_
  have inside : a ≤ a + i ∧ a + i - a < bs.length := by omega
  simp only [Store.read, List.getElem_map, List.getElem_range, Store.byte_write]
  rw [dif_pos inside]
  congr 1
  omega

theorem Store.num_write_leBytes (m : Store) (a n x : Nat) (bad : Bool) :
    (m.write a (leBytes n x) bad).num a n = x % 2 ^ (8 * n) := by
  have back := m.read_write a (leBytes n x) bad
  rw [length_leBytes] at back
  rw [Store.num, back, leNat_leBytes]

/-! The size of an access. -/

/-- The bytes of an M-format access divide a granule of 4,096. -/
theorem mBytes_dvd (f : Short) : 0 < mBytes f ∧ mBytes f ≤ 16 ∧ mBytes f ∣ 4096 := by
  unfold mBytes sizeBytes
  (repeat' split) <;> decide

/-- An aligned access lies in one granule. -/
theorem aligned_in_granule {a n : Nat} (hn : 0 < n ∧ n ∣ 4096) (ha : a % n = 0) : a % 4096 + n ≤ 4096 := by
  obtain ⟨hpos, k, hk⟩ := hn
  have haligned : a % 4096 % n = 0 := by rw [Nat.mod_mod_of_dvd a ⟨k, hk⟩, ha]
  obtain ⟨j, hj⟩ := Nat.dvd_of_mod_eq_zero haligned
  have hlt : a % 4096 < 4096 := Nat.mod_lt _ (by decide)
  have hjk : j < k := Nat.lt_of_mul_lt_mul_left (a := n) (by omega)
  calc a % 4096 + n = n * (j + 1) := by rw [hj, Nat.mul_succ]
    _ ≤ n * k := Nat.mul_le_mul_left n hjk
    _ = 4096 := hk.symm

/-! Where a device-range address lies. -/

/-- The states agree on what gives the physical address of a device-range address: the registers, and each panel's
physical panel (R249). -/
structure SamePlaces (s t : State) : Prop where
  regs : t.dev.regs = s.dev.regs
  hbm : ∀ n v, (t.panel n v).hbm = (s.panel n v).hbm

section
variable {s t u : State}

theorem SamePlaces.trans (h : SamePlaces s t) (k : SamePlaces t u) : SamePlaces s u :=
  ⟨k.regs.trans h.regs, fun n v => (k.hbm n v).trans (h.hbm n v)⟩

theorem SamePlaces.physAddr (h : SamePlaces s t) (n a : Nat) : t.physAddr n a = s.physAddr n a := by
  unfold State.physAddr State.tentStacks State.tentInterleave State.flag State.fld State.rd
  rw [h.regs, h.hbm]

theorem SamePlaces.of_tables (hregs : t.dev.regs = s.dev.regs) (htables : t.dev.mem.tables = s.dev.mem.tables) :
    SamePlaces s t := by
  refine ⟨hregs, fun n v => ?_⟩
  unfold State.panel State.table
  rw [htables]

end

theorem State.panel_setPanel (s : State) (n v : Nat) (p : Panel) (m w : Nat) :
    (s.setPanel n v p).panel m w = if m = n ∧ w = v then p else s.panel m w := by
  have table : (s.setPanel n v p).table m =
      if m = n then { s.table n with panels := SMap.set (fun _ => {}) (s.table n).panels v p } else s.table m :=
    SMap.get_set _ _ _ _ _
  unfold State.panel
  rw [table]
  by_cases hm : m = n
  · subst hm
    simp [SMap.get_set]
  · simp [hm]

/-- Touching a panel marks it accessed and written, and leaves it where it is. -/
theorem State.touch_samePlaces (s : State) (n a : Nat) (write : Bool) : SamePlaces s (s.touch n a write) := by
  refine ⟨rfl, fun m v => ?_⟩
  unfold State.touch
  rw [State.panel_setPanel]
  split
  · next h => rw [h.1, h.2]
  · rfl

/-! Posted stores. -/

/-- What one aligned store of `n` bytes at device-range address `a` of a tent may change: the bytes at its physical
address. -/
structure StoresAt (s t : State) (tent a n : Nat) : Prop where
  places : SamePlaces s t
  outside : ∀ x, ¬ within x (s.physAddr tent a) n → t.dev.mem.hbm.byte x = s.dev.mem.hbm.byte x

theorem StoresAt.of_mem {s t : State} {tent a n : Nat} (hregs : t.dev.regs = s.dev.regs)
    (htables : t.dev.mem.tables = s.dev.mem.tables) (hhbm : t.dev.mem.hbm = s.dev.mem.hbm) : StoresAt s t tent a n :=
  ⟨.of_tables hregs htables, fun x _ => by rw [hhbm]⟩

/-- Bytes that lie in one granule are written in one piece. -/
theorem State.devWrite_in_granule (s : State) (t a : Nat) (bs : List Byte) (bad : Bool) (hsome : bs ≠ [])
    (hin : a % 4096 + bs.length ≤ 4096) : s.devWrite t a bs bad = s.devWriteIn t a bs bad := by
  have all : bs.length ≤ 4096 - a % 4096 := by omega
  unfold State.devWrite
  rw [State.devWriteFrom, if_neg hsome]
  dsimp only
  rw [List.take_of_length_le all, List.drop_of_length_le all, State.devWriteFrom, if_pos rfl]

theorem State.hbm_devWriteIn (s : State) (t a : Nat) (bs : List Byte) (bad : Bool) :
    (s.devWriteIn t a bs bad).dev.mem.hbm = s.dev.mem.hbm.write (s.physAddr t a) bs bad := rfl

theorem State.devWriteIn_samePlaces (s : State) (t a : Nat) (bs : List Byte) (bad : Bool) :
    SamePlaces s (s.devWriteIn t a bs bad) := by
  unfold State.devWriteIn
  refine SamePlaces.trans ?_ (State.touch_samePlaces _ t a true)
  exact .of_tables rfl rfl

/-- A store that is performed writes its bytes at its physical address. -/
theorem State.perform_store (s : State) (a : Access) (hop : a.op = .store) (hsize : 0 < a.size ∧ a.size ∣ 4096)
    (haligned : a.addr % a.size = 0) :
    s.perform a = s.devWriteIn a.tent a.addr (leBytes a.size a.data.toNat) a.poison := by
  have hlen : (leBytes a.size a.data.toNat).length = a.size := length_leBytes ..
  unfold State.perform
  rw [hop]
  refine s.devWrite_in_granule _ _ _ _ (List.ne_nil_of_length_pos (by omega)) ?_
  rw [hlen]
  exact aligned_in_granule hsize haligned

theorem State.hold_storesAt (s : State) (a : Access) (tent x n : Nat) : StoresAt s (s.hold a) tent x n := by
  unfold State.hold State.requestInbound
  split
  · exact .of_mem rfl rfl rfl
  · exact .of_mem rfl rfl rfl

theorem State.failOp_storesAt (s : State) (bay slot id pc cause l a tent x n : Nat) :
    StoresAt s (s.failOp bay slot id pc cause l a) tent x n := by
  unfold State.failOp State.modCrew
  split
  · exact .of_mem rfl rfl rfl
  · split
    · exact .of_mem rfl rfl rfl
    · exact .of_mem rfl rfl rfl

/-- An aligned store changes the bytes at its physical address at most. -/
theorem State.access_storesAt (s : State) (a : Access) (l : Nat) (hop : a.op = .store)
    (hsize : 0 < a.size ∧ a.size ∣ 4096) (haligned : a.addr % a.size = 0) :
    StoresAt s (s.access a l) a.tent a.addr a.size := by
  unfold State.access
  split
  · rw [s.perform_store a hop hsize haligned]
    refine ⟨s.devWriteIn_samePlaces .., fun x hx => ?_⟩
    rw [State.hbm_devWriteIn]
    refine Store.byte_write_outside _ _ _ _ _ ?_
    rw [length_leBytes]
    unfold within at hx
    omega
  · exact s.hold_storesAt a _ _ _
  · exact s.failOp_storesAt ..
  · exact s.failOp_storesAt ..

/-! The stores of a crew's lanes. -/

/-- The store of one lane of a STORE_DEV (R109). -/
def State.storeLane (bay slot : Nat) (f : Short) (c : Crew) (st : Stamp) (s : State) (l : Nat) : State :=
  s.access { stamp := st, tent := s.bayTent bay, addr := mAddr c f l, size := mBytes f, op := .store
             data := BitVec.ofNat 128 (groupData c f.srcc.toNat (mGroup f) l).1
             poison := (groupData c f.srcc.toNat (mGroup f) l).2
             bay := bay, slot := slot, opId := c.nextOp, pc := c.pc } l

section
variable {bay slot : Nat} {f : Short} {c : Crew} {st : Stamp}

theorem State.storeLane_accessed (hs : slot < 256) (s : State) (l : Nat) :
    Accessed bay slot c.nextOp s (s.storeLane bay slot f c st l) := .access hs .refl _ l rfl rfl rfl

/-- The stores of lanes whose addresses are aligned leave every byte outside their physical addresses alone. -/
theorem State.storeLanes_outside (hs : slot < 256) (x tent : Nat) (ls : List Nat) (s u : State)
    (haligned : ∀ l ∈ ls, mAddr c f l % mBytes f = 0) (htent : u.bayTent bay = tent) (hplaces : SamePlaces s u)
    (hx : ∀ l ∈ ls, ¬ within x (s.physAddr tent (mAddr c f l)) (mBytes f)) :
    (ls.foldl (State.storeLane bay slot f c st) u).dev.mem.hbm.byte x = u.dev.mem.hbm.byte x := by
  induction ls generalizing u with
  | nil => rfl
  | cons l ls ih =>
    obtain ⟨hpos, -, hdvd⟩ := mBytes_dvd f
    have stored : StoresAt u (u.storeLane bay slot f c st l) tent (mAddr c f l) (mBytes f) :=
      htent ▸ u.access_storesAt _ l rfl ⟨hpos, hdvd⟩ (haligned l (by simp))
    have frame : Accessed bay slot c.nextOp u (u.storeLane bay slot f c st l) := u.storeLane_accessed hs l
    have htent' : (u.storeLane bay slot f c st l).bayTent bay = tent := by
      rw [← htent, State.bayTent, frame.own]
      rfl
    rw [List.foldl_cons, ih _ (fun k hk => haligned k (by simp [hk])) htent' (hplaces.trans stored.places)
      fun k hk => hx k (by simp [hk])]
    exact stored.outside x (by rw [hplaces.physAddr]; exact hx l (by simp))

/-- A lane whose panel is resident stores its data. -/
theorem State.storeLane_num (s : State) (l : Nat) (haligned : mAddr c f l % mBytes f = 0)
    (hserved : s.served (s.bayTent bay) (mAddr c f l) (mBytes f) = .hbm) :
    (s.storeLane bay slot f c st l).dev.mem.hbm.num (s.physAddr (s.bayTent bay) (mAddr c f l)) (mBytes f) =
      (groupData c f.srcc.toNat (mGroup f) l).1 % 2 ^ (8 * mBytes f) := by
  obtain ⟨hpos, hle, hdvd⟩ := mBytes_dvd f
  have fits : 8 * mBytes f ≤ 128 := by omega
  unfold State.storeLane State.access
  rw [hserved]
  dsimp only
  rw [State.perform_store s _ rfl ⟨hpos, hdvd⟩ haligned, State.hbm_devWriteIn, Store.num_write_leBytes,
    BitVec.toNat_ofNat, Nat.mod_mod_of_dvd _ (Nat.pow_dvd_pow 2 fits)]

end

/-- Every order of the lanes is one of the lanes themselves (R94). -/
theorem State.mem_laneOrder (s : State) (ex : W32) (l : Nat) : l ∈ s.laneOrder ex ↔ l < 32 ∧ lane ex l = true := by
  unfold State.laneOrder
  rw [List.mem_append, or_comm, ← List.mem_append, List.take_append_drop, mem_lanes]

theorem State.laneOrder_single (s : State) (ex : W32) (l : Nat) (h : lanes ex = [l]) : s.laneOrder ex = [l] := by
  unfold State.laneOrder
  rw [h]
  simp [Nat.mod_one]

/-! The state in which a crew's stores begin. -/

/-- The stamp that a STORE_DEV gives its effects, once the crew has gone on and its posted operation has its number. -/
def State.posting (s : State) (bay slot : Nat) (c : Crew) : Stamp × State :=
  let u := (s.issued bay).setCrew bay slot { c.advance {} with nextOp := c.nextOp + 1 }
  u.originate (u.bayIsland bay)

/-- The state in which its lanes' stores begin. -/
def State.posted (s : State) (bay slot : Nat) (c : Crew) : State :=
  (s.posting bay slot c).2.noteEffect bay slot (s.posting bay slot c).1

theorem State.posted_accessed (s : State) (bay : Nat) {slot : Nat} (hs : slot < 256) (c : Crew) (id : Nat) :
    Accessed bay slot id ((s.issued bay).setCrew bay slot { c.advance {} with nextOp := c.nextOp + 1 })
      (s.posted bay slot c) := .noteEffect hs (.originate .refl _) _

theorem State.modCrew_kept {α : Type} (p : State → α) (hbay : ∀ s n b, p (State.setBay s n b) = p s) {slot : Nat}
    (hs : slot < 256) (s : State) (bay : Nat) (f : Crew → Crew) : p (s.modCrew bay slot f) = p s := by
  unfold State.modCrew
  rw [if_neg (by omega)]
  split
  · rfl
  · exact hbay _ _ _

theorem State.posted_kept {α : Type} (p : State → α) (hbay : ∀ s n b, p (State.setBay s n b) = p s)
    (hisl : ∀ s n i, p (State.setIsl s n i) = p s) (s : State) {bay slot : Nat} (hs : slot < 256) (c : Crew) :
    p (s.posted bay slot c) = p (s.issued bay) := by
  unfold State.posted State.noteEffect
  exact (State.modCrew_kept p hbay hs _ bay _).trans ((hisl _ _ _).trans (hbay _ _ _))

theorem State.posted_mem (s : State) {bay slot : Nat} (hs : slot < 256) (c : Crew) :
    (s.posted bay slot c).dev.mem = s.dev.mem :=
  (State.posted_kept (·.dev.mem) (fun _ _ _ => rfl) (fun _ _ _ => rfl) s hs c).trans (s.issued_mem bay)

/-- Below the event counters of the bays the registers are as before the issue. -/
theorem State.posted_fld (s : State) {bay slot : Nat} (hs : slot < 256) (c : Crew) (off : Nat) (x : Nat × Nat)
    (h : off < 0x200118) : (s.posted bay slot c).fld off x = s.fld off x := by
  unfold State.fld
  rw [State.posted_kept (·.rd off) (fun _ _ _ => rfl) (fun _ _ _ => rfl) s hs c, State.rd_issued]
  intro k _
  unfold rBayEvcValue
  omega

theorem State.posted_bayTent (s : State) {bay slot : Nat} (hs : slot < 256) (c : Crew) :
    (s.posted bay slot c).bayTent bay = s.bayTent bay := by
  unfold State.bayTent
  rw [(s.posted_accessed bay hs c 0).own]
  simp [State.setCrew, Bay.setCrew]

theorem State.posted_panel (s : State) {bay slot : Nat} (hs : slot < 256) (c : Crew) (n v : Nat) :
    (s.posted bay slot c).panel n v = s.panel n v := by
  unfold State.panel State.table
  rw [s.posted_mem hs c]

theorem State.posted_physAddr (s : State) {bay slot : Nat} (hs : slot < 256) (c : Crew) (n a : Nat) (hn : n < 64) :
    (s.posted bay slot c).physAddr n a = s.physAddr n a := by
  have below : rTentHbm n < 0x200118 := by unfold rTentHbm; omega
  unfold State.physAddr State.tentStacks State.tentInterleave State.flag
  rw [s.posted_fld hs c _ _ below, s.posted_fld hs c _ _ below, s.posted_panel hs c]

theorem State.posted_served (s : State) {bay slot : Nat} (hs : slot < 256) (c : Crew) (n a k : Nat) (hn : n < 64) :
    (s.posted bay slot c).served n a k = s.served n a k := by
  have below : rMemPanelTableBase n < 0x200118 := by unfold rMemPanelTableBase; omega
  unfold State.served State.tableServes State.rangeEnd State.closed State.flag
  rw [s.posted_fld hs c _ _ below, s.posted_fld hs c _ _ below, s.posted_fld hs c _ _ below, s.posted_panel hs c,
    s.posted_mem hs c]

/-! The instruction. -/

/-- The state once a STORE_DEV has posted the stores of its lanes. -/
def State.storesPosted (s : State) (bay slot : Nat) (f : Short) (c : Crew) : State :=
  (((s.posted bay slot c).laneOrder (c.executing f)).foldl
    (State.storeLane bay slot f c (s.posting bay slot c).1) (s.posted bay slot c)).skipFree

theorem exec_storeDev_eq {s : State} {bay slot : Nat} {f : Short} {c : Crew} (ha : AtPc s bay slot 0x55 f none c)
    (hi : Issues s bay slot f (mForm f true) c) (hcode : mCodeOk f true false = true)
    (hclean : mPoison c f (c.executing f) = 0)
    (haligned : ∀ l, l < 32 → lane (c.executing f) l = true → mAddr c f l % mBytes f = 0) :
    exec (.storeDev bay slot f) s = .next (s.storesPosted bay slot f c) := by
  change execStoreDev bay slot f s = _
  unfold execStoreDev
  rw [ha.runs, State.issue_guarded s bay slot 0x55 f _ c _ ha hi rfl,
    State.mAccess_aligned _ _ _ _ _ _ _ _ hcode hclean haligned]
  rfl

theorem State.storesPosted_accessed (s : State) (bay : Nat) {slot : Nat} (hs : slot < 256) (f : Short) (c : Crew) :
    Accessed bay slot c.nextOp ((s.issued bay).setCrew bay slot { c.advance {} with nextOp := c.nextOp + 1 })
      (s.storesPosted bay slot f c) :=
  .skipFree (.foldl (s.posted_accessed bay hs c _) _ (fun u l => u.storeLane_accessed hs l) _)

/-- Bytes outside the executing lanes' physical addresses stay (R109). -/
theorem State.storesPosted_outside {s : State} {bay slot : Nat} {f : Short} {c : Crew} (hs : slot < 256)
    (htent : s.bayTent bay < 64)
    (haligned : ∀ l, l < 32 → lane (c.executing f) l = true → mAddr c f l % mBytes f = 0) (x : Nat)
    (hx : ∀ l, l < 32 → lane (c.executing f) l = true →
      ¬ within x (s.physAddr (s.bayTent bay) (mAddr c f l)) (mBytes f)) :
    (s.storesPosted bay slot f c).dev.mem.hbm.byte x = s.dev.mem.hbm.byte x := by
  have lane_of {l : Nat} (hl : l ∈ (s.posted bay slot c).laneOrder (c.executing f)) :=
    (State.mem_laneOrder _ _ l).1 hl
  have unchanged := State.storeLanes_outside (f := f) (st := (s.posting bay slot c).1) hs x (s.bayTent bay) _
    (s.posted bay slot c) _ (fun l hl => haligned l (lane_of hl).1 (lane_of hl).2) (s.posted_bayTent hs c)
    (.of_tables rfl rfl)
    (fun l hl => by rw [s.posted_physAddr hs c _ _ htent]; exact hx l (lane_of hl).1 (lane_of hl).2)
  exact unchanged.trans (by rw [s.posted_mem hs c])

/-- The data of a single executing lane stand at its physical address where its panel is resident (R245). -/
theorem State.storesPosted_single {s : State} {bay slot : Nat} {f : Short} {c : Crew} (hs : slot < 256)
    (htent : s.bayTent bay < 64)
    (haligned : ∀ l, l < 32 → lane (c.executing f) l = true → mAddr c f l % mBytes f = 0) (l : Nat)
    (hl : lanes (c.executing f) = [l]) (hserved : s.served (s.bayTent bay) (mAddr c f l) (mBytes f) = .hbm) :
    (s.storesPosted bay slot f c).dev.mem.hbm.num (s.physAddr (s.bayTent bay) (mAddr c f l)) (mBytes f) =
      (groupData c f.srcc.toNat (mGroup f) l).1 % 2 ^ (8 * mBytes f) := by
  obtain ⟨hlt, hlane⟩ := (mem_lanes (c.executing f) l).1 (by rw [hl]; simp)
  have stored := (s.posted bay slot c).storeLane_num (slot := slot) (st := (s.posting bay slot c).1) l
    (haligned l hlt hlane) (by rw [s.posted_bayTent hs c, s.posted_served hs c _ _ _ htent]; exact hserved)
  rw [s.posted_bayTent hs c, s.posted_physAddr hs c _ _ htent] at stored
  unfold State.storesPosted
  rw [State.laneOrder_single _ _ l hl]
  exact stored

/-- Settles O14: each instruction that waits begins its operation and makes accesses alone; STORE_DEV is posted, and
what reaches HBM does so at issue (log entry 34). -/
theorem deviceAndRemoteAccesses : Obligations.DeviceAndRemoteAccesses := by
  unfold Obligations.DeviceAndRemoteAccesses
  refine ⟨⟨loadDev_begins, atomDev_begins, flashRead_begins, remoteGet_begins, remotePut_begins, remoteLoad_begins,
    remoteAtom_begins⟩, ?_⟩
  intro s bay slot f c ha hi hs htent hcode hclean haligned
  have frame := s.storesPosted_accessed bay hs f c
  obtain ⟨d, hd, hcd⟩ := frame.crew _ (State.crew_setCrew_same ..)
  have hv : d.v = c.v := by rw [hcd.kept]; rfl
  have hmoved : c.movedTo d (c.pc + 1) := hcd.movedTo (movedTo_goto c c (c.pc + 1) rfl rfl)
  exact ⟨_, d, exec_storeDev_eq ha hi hcode hclean haligned, hd, hmoved, hv, frame.store_issued,
    State.storesPosted_outside hs htent haligned, State.storesPosted_single hs htent haligned⟩

end Sys2Proof.Machine
end

section
/-! SUPPORT. The words of every instruction of a bay, and the instruction that words spell (R96, R98 to R100). -/

namespace Sys2Proof.Laws

open Sys2Proof.Machine

/-- The words of every instruction spell it: its opcode and fields are read back from the first word, the second is an
operand as it stands. The commands in the last case are no instructions of a bay. -/
theorem words_statement (i : Instr) : Words.Statement i := by
  cases i with
  | nop => exact Words.nop _ _ _
  | iadd => exact Words.iadd _ _ _
  | isub => exact Words.isub _ _ _
  | imul => exact Words.imul _ _ _
  | imulh => exact Words.imulh _ _ _
  | imad => exact Words.imad _ _ _
  | imin => exact Words.imin _ _ _
  | imax => exact Words.imax _ _ _
  | and => exact Words.and _ _ _
  | or => exact Words.or _ _ _
  | xor => exact Words.xor _ _ _
  | andn => exact Words.andn _ _ _
  | shl => exact Words.shl _ _ _
  | shr => exact Words.shr _ _ _
  | popc => exact Words.popc _ _ _
  | clz => exact Words.clz _ _ _
  | iaddi => exact Words.iaddi _ _ _
  | movi => exact Words.movi _ _ _
  | movhi => exact Words.movhi _ _ _
  | isetp => exact Words.isetp _ _ _
  | sel => exact Words.sel _ _ _
  | plop => exact Words.plop _ _ _
  | shfl => exact Words.shfl _ _ _
  | vote => exact Words.vote _ _ _
  | bfe => exact Words.bfe _ _ _
  | bfi => exact Words.bfi _ _ _
  | movu => exact Words.movu _ _ _
  | fadd => exact Words.fadd _ _ _
  | fsub => exact Words.fsub _ _ _
  | fmul => exact Words.fmul _ _ _
  | ffma => exact Words.ffma _ _ _
  | fmin => exact Words.fmin _ _ _
  | fmax => exact Words.fmax _ _ _
  | fsetp => exact Words.fsetp _ _ _
  | fabsneg => exact Words.fabsneg _ _ _
  | frcp => exact Words.frcp _ _ _
  | frsq => exact Words.frsq _ _ _
  | fexp2 => exact Words.fexp2 _ _ _
  | flog2 => exact Words.flog2 _ _ _
  | ftanh => exact Words.ftanh _ _ _
  | f2i => exact Words.f2i _ _ _
  | i2f => exact Words.i2f _ _ _
  | f2n => exact Words.f2n _ _ _
  | n2f => exact Words.n2f _ _ _
  | fclass => exact Words.fclass _ _ _
  | uadd => exact Words.uadd _ _ _
  | uaddi => exact Words.uaddi _ _ _
  | umovi => exact Words.umovi _ _ _
  | ului => exact Words.ului _ _ _
  | umul => exact Words.umul _ _ _
  | ushift => exact Words.ushift _ _ _
  | uand => exact Words.uand _ _ _
  | umovv => exact Words.umovv _ _ _
  | bra => exact Words.bra _ _ _
  | jmpu => exact Words.jmpu _ _ _
  | loop => exact Words.loop _ _ _
  | call => exact Words.call _ _ _
  | ret => exact Words.ret _ _ _
  | exit => exact Words.exit _ _ _
  | launch => exact Words.launch _ _ _
  | loadLocal => exact Words.loadLocal _ _ _
  | storeLocal => exact Words.storeLocal _ _ _
  | loadAcc => exact Words.loadAcc _ _ _
  | storeAcc => exact Words.storeAcc _ _ _
  | loadDev => exact Words.loadDev _ _ _
  | storeDev => exact Words.storeDev _ _ _
  | atomDev => exact Words.atomDev _ _ _
  | atomLocal => exact Words.atomLocal _ _ _
  | flashRead => exact Words.flashRead _ _ _
  | spanClear => exact Words.spanClear _ _ _
  | evSignal => exact Words.evSignal _ _ _
  | evSet => exact Words.evSet _ _ _
  | evWait => exact Words.evWait _ _ _
  | fenceLocal => exact Words.fenceLocal _ _ _
  | fenceDevice => exact Words.fenceDevice _ _ _
  | fenceStamp => exact Words.fenceStamp _ _ _
  | park => exact Words.park _ _ _
  | yield => exact Words.yield _ _ _
  | msgSend => exact Words.msgSend _ _ _
  | remoteGet => exact Words.remoteGet _ _ _
  | remotePut => exact Words.remotePut _ _ _
  | remoteLoad => exact Words.remoteLoad _ _ _
  | remoteAtom => exact Words.remoteAtom _ _ _
  | trap => exact Words.trap _ _ _
  | time => exact Words.time _ _ _
  | ctr => exact Words.ctr _ _ _
  | bayinfo => exact Words.bayinfo _ _ _
  | trace => exact Words.trace _ _ _
  | brk => exact Words.brk _ _ _
  | trShape => exact Words.trShape _ _ _ _
  | trWload => exact Words.trWload _ _ _ _
  | trSwap => exact Words.trSwap _ _ _ _
  | trRun => exact Words.trRun _ _ _ _
  | trCmp => exact Words.trCmp _ _ _ _
  | trAccz => exact Words.trAccz _ _ _ _
  | trSync => exact Words.trSync _ _ _ _
  | dmaLoad => exact Words.dmaLoad _ _ _ _
  | dmaStore => exact Words.dmaStore _ _ _ _
  | dmaCopy => exact Words.dmaCopy _ _ _ _
  | dmaScarf => exact Words.dmaScarf _ _ _ _
  | dmaUnscarf => exact Words.dmaUnscarf _ _ _ _
  | dmaFill => exact Words.dmaFill _ _ _ _
  | selTopk => exact Words.selTopk _ _ _ _
  | selHist => exact Words.selHist _ _ _ _
  | selEmit => exact Words.selEmit _ _ _ _
  | merge => exact Words.merge _ _ _ _
  | smpFeed => exact Words.smpFeed _ _ _ _
  | smpClose => exact Words.smpClose _ _ _ _
  | smpDraft => exact Words.smpDraft _ _ _ _
  | _ => exact words_absent _ rfl

/-- Settles O59: the words of each instruction spell it, so the decoder takes equal words to one instruction. -/
theorem bayWordsDecode : Obligations.BayWordsDecode := by
  unfold Obligations.BayWordsDecode
  refine ⟨fun i x w2 hx h2 => words_statement i x hx w2 h2, fun i j x hi hj => ?_⟩
  have second : x.second = none ∨ x.second = some (x.second.getD 0) := by cases x.second <;> simp
  have spelt : some i = some j :=
    (words_statement i x hi _ second).symm.trans (words_statement j x hj _ second)
  exact Option.some.inj spelt

end Sys2Proof.Laws
end

section
/-! SUPPORT. The strand and uniform instructions of one shape complete as one: on one, two or three `v` sources, with the
result that a free value picks, on predicates, and on `u` registers (R69, R70, R102 to R105, R107). -/

namespace Sys2Proof.Machine

/-- A command that concerns the word at the crew's PC runs (R68, log entry 6). -/
theorem State.fetches_runs {α : Type} {s : State} {bay slot op : Nat} {f : Short} {w2 : Option W64} {x y : α}
    (h : s.fetches bay slot op f w2 = true) : (if !s.fetches bay slot op f w2 then x else y) = y :=
  if_neg (by simp [h])

/-! Strand instructions by their sources. -/

section
variable {op : Nat} {mk : Nat → Nat → Short → Instr}

theorem strandResult_alu1 (m : Nat) (g : Short → W32 → W32)
    (he : ∀ bay slot f s, s.fetches bay slot op f none = true →
      exec (mk bay slot f) s = .next (s.alu1 bay slot f m (g f))) :
    StrandResult op mk (formV m) (fun _ => true) (fun f _ => onV (g f) f) :=
  strandResult_of (formV m) (fun _ _ => false) rfl rfl (fun _ _ _ => rfl) (fun _ _ _ _ _ => rfl) he

theorem strandResult_alu2 (m : Nat) (g : Short → W32 → W32 → W32)
    (he : ∀ bay slot f s, s.fetches bay slot op f none = true →
      exec (mk bay slot f) s = .next (s.alu2 bay slot f m (g f))) :
    StrandResult op mk (formVV m) (fun _ => true) (fun f _ => onVV (g f) f) :=
  strandResult_of (formVV m) (fun _ _ => false) rfl rfl (fun _ _ _ => rfl) (fun _ _ _ _ _ => rfl) he

theorem strandResult_alu3 (g : W32 → W32 → W32 → W32)
    (he : ∀ bay slot f s, s.fetches bay slot op f none = true →
      exec (mk bay slot f) s = .next (s.alu3 bay slot f g)) :
    StrandResult op mk formVVV (fun _ => true) (fun f _ => onVVV g f) :=
  strandResult_of formVVV (fun _ _ => false) rfl rfl (fun _ _ _ => rfl) (fun _ _ _ _ _ => rfl) he

/-- The free value that picks a lane's result is the one drawn at the issue (R104). -/
theorem strandResult_approx (g : Nat → W32 → W32)
    (he : ∀ bay slot f s, s.fetches bay slot op f none = true →
      exec (mk bay slot f) s = .next (s.approx bay slot f g)) :
    StrandResult op mk (formV 0) (fun _ => true) (fun f s c l => onV (g (s.laneFree l)) f c l) :=
  strandResult_of_free (formV 0) (fun _ _ => false) rfl rfl (fun _ _ _ => rfl)
    (fun _ _ _ _ _ => by rw [State.issued_laneFree]) he

/-- An operation that reads the crew alone and exists for the fields that pass `ok`. -/
theorem strandResult_crew (k : OpForm) (hk : k.long = false) (ok : Short → Bool) (g : Short → Crew → Nat → VReg)
    (he : ∀ bay slot f s, s.fetches bay slot op f none = true →
      exec (mk bay slot f) s = .next (s.strand bay slot f k (fun _ => !ok f) fun _ c l => g f c l)) :
    StrandResult op mk k ok (fun f _ c l => g f c l) :=
  strandResult_of k (fun f _ => !ok f) rfl hk (fun _ _ h => by rw [h]; rfl) (fun _ _ _ _ _ => rfl) he

end

/-- Settles O1: each instruction is one strand operation whose result is the one stated. -/
theorem strandIntegerResults : Obligations.StrandIntegerResults := by
  unfold Obligations.StrandIntegerResults
  refine ⟨?iadd, ?isub, ?imul, ?imulh, ?imad, ?imin, ?imax, ?and, ?or, ?xor, ?andn, ?shl, ?shr, ?popc, ?clz, ?iaddi,
    ?movi, ?movhi, ?sel, ?shfl, ?vote, ?bfe, ?bfi, ?movu⟩
  case iadd | isub | imul | and | or | xor | andn | shl =>
    exact strandResult_alu2 0 _ fun _ _ _ _ => State.fetches_runs
  case imulh | imin | imax | shr => exact strandResult_alu2 1 _ fun _ _ _ _ => State.fetches_runs
  case imad => exact strandResult_alu3 _ fun _ _ _ _ => State.fetches_runs
  case popc | clz => exact strandResult_alu1 0 _ fun _ _ _ _ => State.fetches_runs
  case iaddi => exact strandResult_alu1 0xFFFFFFF _ fun _ _ _ _ => State.fetches_runs
  case movi | movhi | sel | shfl | vote | movu =>
    exact strandResult_crew _ rfl _ _ fun _ _ _ _ => State.fetches_runs
  case bfe | bfi =>
    exact strandResult_of_free _ (fun f _ => !fieldOk f) rfl rfl (fun _ _ ok => by rw [ok]; rfl)
      (fun _ _ _ _ _ => by rw [State.issued_laneFree]) fun _ _ _ _ => State.fetches_runs

/-- FABSNEG inverts the sign last, or nothing of the word (R102). -/
theorem absNeg_eq (f : Short) (a : W32) : absNeg f a =
    (if f.func.getLsbD 0 then a &&& 0x7FFFFFFF else a) ^^^ (if f.func.getLsbD 1 then 0x80000000 else 0) := by
  unfold absNeg fbit
  by_cases invert : f.func.getLsbD 1 = true
  · rw [if_pos invert, if_pos invert]
  · rw [if_neg invert, if_neg invert]
    exact BitVec.xor_zero.symm

/-- The formats of F2N are those of its fields' code, and its element lies in the word. -/
theorem f2n_exists {f : Short} (ok : ((fmtOf (elemCode f)).isSome && elemOk f) = true) :
    ((fmtOf (elemCode f)).isNone || !elemOk f) = false := by
  obtain ⟨format, element⟩ := Bool.and_eq_true_iff.1 ok
  rw [element, Option.isNone_eq_false_iff.2 format]
  rfl

/-- Settles O2: each instruction is one strand operation whose result is the one stated. -/
theorem strandFloatResults : Obligations.StrandFloatResults := by
  unfold Obligations.StrandFloatResults
  refine ⟨?fadd, ?fsub, ?fmul, ?ffma, ?fmin, ?fmax, ?fabsneg, ?frcp, ?frsq, ?fexp2, ?flog2, ?ftanh, ?f2i, ?i2f, ?f2n,
    ?n2f, ?fclass⟩
  case fadd | fsub | fmul | fmin | fmax => exact strandResult_alu2 0 _ fun _ _ _ _ => State.fetches_runs
  case ffma => exact strandResult_alu3 _ fun _ _ _ _ => State.fetches_runs
  case fabsneg =>
    simp only [← absNeg_eq]
    exact strandResult_alu1 3 _ fun _ _ _ _ => State.fetches_runs
  case frcp | frsq | fexp2 | flog2 | ftanh => exact strandResult_approx _ fun _ _ _ _ => State.fetches_runs
  case f2i | i2f => exact strandResult_alu1 1 _ fun _ _ _ _ => State.fetches_runs
  case fclass => exact strandResult_alu1 0 _ fun _ _ _ _ => State.fetches_runs
  case n2f => exact strandResult_crew _ rfl _ _ fun _ _ _ _ => State.fetches_runs
  case f2n =>
    exact strandResult_of_free _ (fun f _ => (fmtOf (elemCode f)).isNone || !elemOk f) rfl rfl
      (fun _ _ ok => f2n_exists ok) (fun _ _ _ _ _ => by rw [State.issued_laneFree])
      fun _ _ _ _ => State.fetches_runs

end Sys2Proof.Machine
end

section
/-! SUPPORT. Instructions that write a predicate or a `u` register (R69, R70, R102, R107). -/

namespace Sys2Proof.Machine

theorem OpForm.fits_dst {k : OpForm} {f : Short} (h : k.wellFormed f = true) : k.dst.fits f.dst.toNat = true := by
  simp only [OpForm.wellFormed, Bool.and_eq_true] at h
  exact h.1.1.1.1.1

/-! Predicates. -/

/-- An instruction that writes one predicate a lane completes where it takes no trap of its own. -/
theorem predicateResult_of {op : Nat} {mk : Nat → Nat → Short → Instr} {k : OpForm} {ok : Short → Bool}
    {g : Short → Crew → Nat → PReg} (k' : OpForm) (hl : k'.long = false) (g' : Short → Crew → Nat → PReg)
    (hg : ∀ f c l, g f c l = g' f c l)
    (he : ∀ s bay slot f c, AtPc s bay slot op f none c →
      Issues s bay slot f { k with guarded := true, dst := .p } c → ok f = true →
      exec (mk bay slot f) s = .next
        ((s.issued bay).setCrew bay slot ((c.writePreds (c.executing f) f.dst.toNat (g' f c)).advance k'))) :
    PredicateResult op mk k ok g := by
  intro s bay slot f c ha hi hok
  have hdst : f.dst.toNat < 8 := of_decide_eq_true (OpForm.fits_dst hi.fields)
  refine ⟨_, he s bay slot f c ha hi hok, ?_⟩
  rw [funext (hg f c)]
  exact writesP_advance s bay slot f c (g' f c) k' hl hdst

/-- What a compare writes (R102). -/
def comparePreds (cmp : Short → W32 → W32 → Bool) (f : Short) (c : Crew) (l : Nat) : PReg :=
  ⟨cmp f (c.readV l f.srca.toNat).val (c.readV l f.srcb.toNat).val,
    (c.readV l f.srca.toNat).poison || (c.readV l f.srcb.toNat).poison⟩

/-- A compare with a code of 0 to 5 writes the predicate of each lane. -/
theorem predicateResult_compare {op : Nat} {mk : Nat → Nat → Short → Instr} (cmp : Short → W32 → W32 → Bool)
    (he : ∀ bay slot f s, s.fetches bay slot op f none = true →
      exec (mk bay slot f) s = .next (s.setPred bay slot f (cmp f))) :
    PredicateResult op mk { a := .v 1, b := .v 1, func := 0xF } (fun f => decide (f.func.toNat % 8 ≤ 5))
      (comparePreds cmp) := by
  refine predicateResult_of { dst := .p, a := .v 1, b := .v 1, func := 0xF, guarded := true } rfl _ (fun _ _ _ => rfl)
    fun s bay slot f c ha hi hok => ?_
  have hcode : ¬ 5 < fn f % 8 := Nat.not_lt.2 (of_decide_eq_true hok)
  rw [he bay slot f s ha.fetches, State.setPred, State.issue_guarded s bay slot op f _ c _ ha hi rfl, if_neg hcode]
  rfl

/-- What PLOP writes (R102). -/
def logicPreds (f : Short) (c : Crew) (l : Nat) : PReg :=
  ⟨predOp (fn f % 4) (c.readP l f.srca.toNat).val (c.readP l f.srcb.toNat).val,
    (c.readP l f.srca.toNat).poison || (c.readP l f.srcb.toNat).poison⟩

/-- Settles O3: the compares by their common form, and PLOP by the codes of its operations. -/
theorem predicateResults : Obligations.PredicateResults := by
  unfold Obligations.PredicateResults
  refine ⟨?isetp, ?fsetp, ?plop⟩
  case isetp =>
    exact predicateResult_compare (fun f a b => cmpCode (fn f % 8) (wordCmp (fbit f 3) a b))
      fun _ _ _ _ => State.fetches_runs
  case fsetp =>
    exact predicateResult_compare (fun f => fcompare (fn f % 8) (fbit f 3)) fun _ _ _ _ => State.fetches_runs
  case plop =>
    refine predicateResult_of { dst := .p, a := .p, b := .p, func := 3, guarded := true } rfl logicPreds
      (fun f c l => ?_) fun s bay slot f c ha hi _ => ?_
    · have code : f.func.toNat % 4 < 4 := Nat.mod_lt _ (by decide)
      unfold logicPreds fn
      generalize f.func.toNat % 4 = n at code
      interval_cases n <;> rfl
    · change execPlop bay slot f s = _
      unfold execPlop
      rw [ha.runs, State.issue_guarded s bay slot 0x15 f _ c _ ha hi rfl]
      rfl

/-! Uniform instructions. -/

theorem uniformResult_crew {op : Nat} {mk : Nat → Nat → Short → Instr} (k : OpForm) (hl : k.long = false)
    (g : Short → Crew → UReg)
    (he : ∀ bay slot f s, s.fetches bay slot op f none = true →
      exec (mk bay slot f) s = .next (s.uniform bay slot f k (g f))) :
    UniformResult op mk k (fun _ f _ c => g f c) :=
  uniformResult_of k _ rfl hl (fun _ _ _ _ => rfl) he

/-- Settles O4: each instruction is one uniform operation; CTR reads its counter once its own issue has been counted
(log entry 36). -/
theorem uniformResults : Obligations.UniformResults := by
  unfold Obligations.UniformResults
  refine ⟨?uadd, ?uaddi, ?umovi, ?ului, ?umul, ?ushift, ?uand, ?umovv, ?time, ?ctr, ?bayinfo⟩
  case uadd | uaddi | umovi | ului | umul | ushift | uand | umovv =>
    exact uniformResult_crew _ rfl _ fun _ _ _ _ => State.fetches_runs
  case time | bayinfo =>
    exact uniformResult_of _ _ rfl rfl (fun _ _ _ _ => rfl) fun _ _ _ _ => State.fetches_runs
  case ctr =>
    intro s bay slot f c ha hi hactive
    refine ⟨_, ?_, writesU_goto s bay slot f c (c.pc + 1) ⟨(s.issued bay).rd (rBayEvcValue bay f.func.toNat), false⟩⟩
    change execCtr bay slot f s = _
    unfold execCtr
    rw [ha.runs, State.issue_plain s bay slot 0x72 f none _ c _ ha hi rfl, if_neg hactive]
    rfl

end Sys2Proof.Machine
end

section
/-! SUPPORT. Control flow (R72, R78, R102, R107, R112). -/

namespace Sys2Proof.Machine

/-- An outcome that sets the crew, after the issue has been counted, moves the crew there and does nothing else. -/
theorem crewOnly_of_setCrew {s : State} {bay slot : Nat} {x : Host.Outcome State Fault Refusal} {d : Crew}
    (h : x = .next ((s.issued bay).setCrew bay slot d)) :
    ∃ t, x = .next t ∧ CrewOnly s t bay slot ∧ t.crew bay slot = some d :=
  ⟨_, h, crewOnly_setCrew s bay slot d, State.crew_setCrew_same ..⟩

/-- A jump to an unpoisoned `u` register (R112). -/
theorem State.jumpU_eq {s : State} {bay slot op : Nat} {f : Short} {c : Crew} (ha : AtPc s bay slot op f none c)
    (hi : Issues s bay slot f { a := .u } c) (hclean : (c.readU f.srca.toNat).poison = false) :
    s.jumpU bay slot f =
      (s.issued bay).setCrew bay slot (c.goto ((c.readU f.srca.toNat).val.toNat % 32768)) := by
  unfold State.jumpU
  rw [State.issue_plain s bay slot op f none _ c _ ha hi rfl]
  exact if_neg (by simp [hclean])

/-- A crew whose active strands all end, with no path left, is ending (R72). -/
theorem Crew.exit_last (c : Crew) (hstack : c.stack = []) :
    c.exit c.active = { c with
      active := 0, ended := c.ended ||| c.active, exiting := true, park := if c.ops = [] then .running else .drain } := by
  have none_left : c.active &&& ~~~c.active = 0 := BitVec.and_not_self _
  unfold Crew.exit
  rw [none_left]
  simp only [Crew.goto, hstack, reconverge, if_true]

/-- Settles O5: each instruction sets the crew to where it goes on, after its issue. -/
theorem flowMovesCrew : Obligations.FlowMovesCrew := by
  unfold Obligations.FlowMovesCrew
  refine ⟨fun s bay slot f c ha hi => crewOnly_of_setCrew ?nop, ?bra,
    fun s bay slot f c ha hi hclean => crewOnly_of_setCrew ?jmpu,
    fun s bay slot f c ha hi hclean => crewOnly_of_setCrew ?ret,
    fun s bay slot f c ha hi hclean => ⟨_, ?loop, writesU_goto s bay slot f c _ _⟩,
    fun s bay slot f c ha hi => ⟨_, ?call, writesU_goto s bay slot f c _ _⟩,
    fun s bay slot f c ha hi hall hstack => crewOnly_of_setCrew ?exit⟩
  case nop =>
    change execNop bay slot f s = _
    unfold execNop
    rw [ha.runs, State.issue_guarded s bay slot 0x00 f _ c _ ha hi rfl]
    rfl
  case bra =>
    intro s bay slot f c ha hi hdepth
    have room : ¬ (c.executing f ≠ 0 ∧ c.executing f ≠ c.active ∧ 16 ≤ c.depth) := fun h => by omega
    have branches := exec_bra_eq ha hi
    rw [if_neg room] at branches
    exact crewOnly_of_setCrew branches
  case jmpu =>
    change execJmpu bay slot f s = _
    unfold execJmpu
    rw [ha.runs, State.jumpU_eq ha hi hclean]
  case ret =>
    change execRet bay slot f s = _
    unfold execRet
    rw [ha.runs, State.jumpU_eq ha hi hclean]
  case loop =>
    change execLoop bay slot f s = _
    unfold execLoop
    rw [ha.runs, State.issue_plain s bay slot 0x4A f none _ c _ ha hi rfl]
    simp only [hclean, Bool.false_eq_true, if_false]
  case call =>
    change execCall bay slot f s = _
    unfold execCall
    rw [ha.runs, State.issue_plain s bay slot 0x4B f none _ c _ ha hi rfl]
  case exit =>
    change execExit bay slot f s = _
    unfold execExit
    rw [ha.runs, State.issue_guarded s bay slot 0x4D f _ c _ ha hi rfl, hall, Crew.exit_last c hstack]

end Sys2Proof.Machine
end

section
/-! SUPPORT. Event slots under EV.SIGNAL, EV.SET and EV.WAIT (R85, R86, R107, R114). -/

namespace Sys2Proof.Machine

@[simp] theorem State.bay_setCrew_same (s : State) (bay slot : Nat) (c : Crew) :
    (s.setCrew bay slot c).bay bay = (s.bay bay).setCrew slot (some c) := s.bay_modBay_same bay _

theorem eventForm_unguarded (f : Short) : (eventForm f).guarded = false := by
  unfold eventForm
  split <;> rfl

/-- The value of an event instruction is FUNC[27:9] or the low half of `ua` (R114). -/
theorem eventValue_eq (f : Short) (c : Crew) : eventValue f c = eventOperand f c := by
  unfold eventValue eventOperand fbit
  by_cases register : f.func.getLsbD 8 = true
  · rw [if_pos register, if_pos register]
  · rw [if_neg register, if_neg register]
    have upper : BitVec.ofNat 32 (fn f / 512) = (f.func >>> 9).zeroExtend 32 := by
      apply BitVec.eq_of_toNat_eq
      simp only [fn, BitVec.toNat_ofNat, BitVec.truncate_eq_setWidth, BitVec.toNat_setWidth, BitVec.toNat_ushiftRight,
        Nat.shiftRight_eq_div_pow]
    rw [upper]

/-- The state once EV.SIGNAL or EV.SET has gone on and written `x` of its bay to its slot. -/
def State.slotWritten (s : State) (bay slot : Nat) (f : Short) (c : Crew) (x : Bay → PWord) : State :=
  ((s.issued bay).setCrew bay slot (c.advance {})).modBay bay fun b => b.setEvent (eventSlot f) (x b)

@[simp] theorem State.store_slotWritten (s : State) (bay slot : Nat) (f : Short) (c : Crew) (x : Bay → PWord) :
    ((s.slotWritten bay slot f c x).bay bay).store = (s.bay bay).store := by
  simp [State.slotWritten, Bay.setCrew]

theorem State.events_slotWritten (s : State) (bay slot : Nat) (f : Short) (c : Crew) (x : Bay → PWord) (n : Nat) :
    SMap.get (fun _ => {}) ((s.slotWritten bay slot f c x).bay bay).events n =
      if n = f.func.toNat % 256 then x ((s.bay bay).setCrew slot (some (c.advance {})))
      else SMap.get (fun _ => {}) (s.bay bay).events n := by
  simp only [State.slotWritten, State.bay_modBay_same, State.bay_setCrew_same, State.issued_bay,
    Bay.events_setEvent]
  rfl

theorem exec_evSignal_eq {s : State} {bay slot : Nat} {f : Short} {c : Crew} (ha : AtPc s bay slot 0x60 f none c)
    (hi : Issues s bay slot f (eventForm f) c) :
    exec (.evSignal bay slot f) s = .next (s.slotWritten bay slot f c fun b =>
      ⟨(SMap.get (fun _ => {}) b.events (eventSlot f)).data + (eventOperand f c).data,
        (SMap.get (fun _ => {}) b.events (eventSlot f)).poison || (eventOperand f c).poison⟩) := by
  change execEvSignal bay slot f s = _
  unfold execEvSignal
  rw [ha.runs, State.issue_plain s bay slot 0x60 f none _ c _ ha hi (eventForm_unguarded f), eventValue_eq]
  rfl

theorem exec_evSet_eq {s : State} {bay slot : Nat} {f : Short} {c : Crew} (ha : AtPc s bay slot 0x61 f none c)
    (hi : Issues s bay slot f (eventForm f) c) :
    exec (.evSet bay slot f) s = .next (s.slotWritten bay slot f c fun _ => eventOperand f c) := by
  change execEvSet bay slot f s = _
  unfold execEvSet
  rw [ha.runs, State.issue_plain s bay slot 0x61 f none _ c _ ha hi (eventForm_unguarded f), eventValue_eq]
  rfl

/-! Waiting. -/

/-- The crew that waits on its slot for its value. -/
def Crew.waits (c : Crew) (f : Short) : Crew :=
  { c.advance {} with park := .event (eventSlot f) (eventOperand f c).data }

/-- The state once EV.WAIT has been taken and its slot evaluated, before the wait is counted. -/
def State.waited (s : State) (bay slot : Nat) (f : Short) (c : Crew) : State :=
  ((s.issued bay).setCrew bay slot (c.waits f)).modBay bay (·.wakeSlot (eventSlot f))

theorem State.bay_waited (s : State) (bay slot : Nat) (f : Short) (c : Crew) :
    (s.waited bay slot f c).bay bay = ((s.bay bay).setCrew slot (some (c.waits f))).wakeSlot (eventSlot f) := by
  simp [State.waited]

/-- The crew as the evaluation of its slot leaves it. -/
def State.waitingCrew (s : State) (bay slot : Nat) (f : Short) (c : Crew) : Crew :=
  ((s.bay bay).setCrew slot (some (c.waits f))).woken (eventSlot f) (c.waits f)

theorem State.crew_waited (s : State) (bay slot : Nat) (f : Short) (c : Crew) :
    (s.waited bay slot f c).crew bay slot = some (s.waitingCrew bay slot f c) := by
  rw [State.crew, State.bay_waited, Bay.crew_wakeSlot, Bay.crew_setCrew_same]
  rfl

/-- Evaluating a slot changes whether a crew waits and which spans it may read, and nothing else of it. -/
theorem Bay.woken_kept (b : Bay) (n : Nat) (c : Crew) :
    b.woken n c = { c with park := (b.woken n c).park, spansSeen := (b.woken n c).spansSeen } := by
  unfold Bay.woken
  split
  · split <;> rfl
  · rfl

/-- A wait that is met at once lets the crew run on (R85). -/
theorem State.park_waitingCrew (s : State) (bay slot : Nat) (f : Short) (c : Crew) :
    (s.waitingCrew bay slot f c).park =
      if 0 ≤ ((SMap.get (fun _ => {}) (s.bay bay).events (f.func.toNat % 256)).data - (eventOperand f c).data).toInt
      then .running else .event (f.func.toNat % 256) (eventOperand f c).data := by
  unfold State.waitingCrew
  rw [Bay.woken_event _ _ (eventOperand f c).data _ rfl]
  simp only [waitMet, decide_eq_true_eq]
  rfl

theorem exec_evWait_eq {s : State} {bay slot : Nat} {f : Short} {c : Crew} (ha : AtPc s bay slot 0x62 f none c)
    (hi : Issues s bay slot f (eventForm f) c) :
    exec (.evWait bay slot f) s = .next (if (s.waitingCrew bay slot f c).park = .running then s.waited bay slot f c
      else (s.waited bay slot f c).bayEvent bay 0x004) := by
  have waiting := s.crew_waited bay slot f c
  unfold State.waited Crew.waits at waiting
  change execEvWait bay slot f s = _
  unfold execEvWait
  rw [ha.runs, State.issue_plain s bay slot 0x62 f none _ c _ ha hi (eventForm_unguarded f), eventValue_eq]
  dsimp only
  rw [waiting]
  rfl

/-- Settles O6: what each instruction does to its slot, and that a wait is evaluated as it is taken. -/
theorem eventSlots : Obligations.EventSlots := by
  unfold Obligations.EventSlots
  refine ⟨fun s bay slot f c ha hi => ⟨_, exec_evSignal_eq ha hi, s.store_slotWritten .., fun n => ?signal⟩,
    fun s bay slot f c ha hi => ⟨_, exec_evSet_eq ha hi, s.store_slotWritten .., s.events_slotWritten bay slot f c _⟩,
    ?wait⟩
  case signal =>
    rw [State.events_slotWritten]
    by_cases named : n = f.func.toNat % 256
    · rw [if_pos named, if_pos named, named]; rfl
    · rw [if_neg named, if_neg named]
  case wait =>
    intro s bay slot f c ha hi
    have moved : c.movedTo (s.waitingCrew bay slot f c) (c.pc + 1) := by
      unfold State.waitingCrew
      rw [Bay.woken_kept]
      exact movedTo_goto c c (c.pc + 1) rfl rfl
    have bay_eq (t : State) (h : t.bay bay = (s.waited bay slot f c).bay bay) :
        (t.bay bay).store = (s.bay bay).store ∧ (t.bay bay).events = (s.bay bay).events ∧
          t.crew bay slot = some (s.waitingCrew bay slot f c) := by
      refine ⟨?_, ?_, ?_⟩
      · rw [h, State.bay_waited]; rfl
      · rw [h, State.bay_waited]; rfl
      · rw [State.crew, h]; exact s.crew_waited bay slot f c
    obtain ⟨store, events, crew⟩ := bay_eq (if (s.waitingCrew bay slot f c).park = .running then s.waited bay slot f c
      else (s.waited bay slot f c).bayEvent bay 0x004) (by split <;> simp)
    exact ⟨_, _, exec_evWait_eq ha hi, store, events, crew, moved, s.park_waitingCrew bay slot f c⟩

end Sys2Proof.Machine
end

section
/-! SUPPORT. Fences, PARK and YIELD (R76, R84, R90 to R92, R115). -/

namespace Sys2Proof.Machine

/-- Counting an issue performs no device-range access (R91). -/
@[simp] theorem State.issued_deviceBusy (s : State) (b bay slot : Nat) (c : Crew) :
    (s.issued b).deviceBusy bay slot c = s.deviceBusy bay slot c := by
  simp [State.deviceBusy]

/-- FENCE.STAMP gives a tick above every earlier effect of the crew, and holds it back until its bay's copy has reached
the tick (R92). -/
def Crew.stampFenced (c : Crew) (f : Short) (tick : Nat) : Crew :=
  { (c.writeU f.dst.toNat ⟨BitVec.ofNat 64 tick, false⟩).advance {} with notBefore := max c.notBefore tick }

theorem exec_fenceStamp_eq {s : State} {bay slot : Nat} {f : Short} {c : Crew} (ha : AtPc s bay slot 0x65 f none c)
    (hi : Issues s bay slot f { dst := .u } c) :
    exec (.fenceStamp bay slot f) s = .next ((s.issued bay).setCrew bay slot
      (c.stampFenced f (max (s.stampTick (s.bayIsland bay)) c.lastEffect + 1))) := by
  change execFenceStamp bay slot f s = _
  unfold execFenceStamp
  rw [ha.runs, State.issue_plain s bay slot 0x65 f none _ c _ ha hi rfl]
  simp only [State.issued_bayIsland, State.issued_stampTick]
  rfl

theorem Crew.readU_stampFenced (c : Crew) (f : Short) (tick : Nat) :
    (c.stampFenced f tick).readU f.dst.toNat = ⟨BitVec.ofNat 64 tick, false⟩ :=
  (c.readU_writeU f.dst.toNat _ f.dst.toNat).trans (if_pos rfl)

/-- Settles O7: each instruction sets its crew, after its issue; a PARK that waits is counted too. -/
theorem fencesParkYield : Obligations.FencesParkYield := by
  unfold Obligations.FencesParkYield
  refine ⟨fun s bay slot f c ha hi => crewOnly_of_setCrew ?fenceLocal,
    fun s bay slot f c ha hi => crewOnly_of_setCrew ?fenceDevice, ?fenceStamp, ?park,
    fun s bay slot f c ha hi => crewOnly_of_setCrew ?yield⟩
  case fenceLocal =>
    change execFenceLocal bay slot f s = _
    unfold execFenceLocal
    rw [ha.runs, State.issue_plain s bay slot 0x63 f none _ c _ ha hi rfl]
    refine congrArg (fun seen => Host.Outcome.next ((s.issued bay).setCrew bay slot
      { c.goto (c.pc + 1) with spansSeen := c.spansSeen ++ seen })) (List.filter_congr fun k _ => ?_)
    rw [State.issued_bay]
    cases SMap.get (fun _ => none) (s.bay bay).spans k <;> rfl
  case fenceDevice =>
    change execFenceDevice bay slot f s = _
    unfold execFenceDevice
    rw [ha.runs, State.issue_plain s bay slot 0x64 f none _ c _ ha hi rfl, State.issued_deviceBusy]
    by_cases busy : s.deviceBusy bay slot c = true
    · rw [if_pos busy, if_pos busy]; rfl
    · rw [if_neg busy, if_neg busy]; rfl
  case fenceStamp =>
    intro s bay slot f c ha hi
    obtain ⟨t, next, only, crew⟩ := crewOnly_of_setCrew (exec_fenceStamp_eq ha hi)
    refine ⟨t, _, next, only, crew, c.readU_stampFenced f _, ?_, ?_⟩
    · unfold Crew.stampFenced; dsimp only; omega
    · unfold Crew.stampFenced; dsimp only; omega
  case park =>
    intro s bay slot f c ha hi
    have runs : exec (.park bay slot f) s = .next
        (if c.ops = [] then (s.issued bay).setCrew bay slot (c.advance {})
        else ((s.issued bay).setCrew bay slot { c.advance {} with park := .drain }).bayEvent bay 0x004) := by
      change execPark bay slot f s = _
      unfold execPark
      rw [ha.runs, State.issue_plain s bay slot 0x66 f none _ c _ ha hi rfl]
    refine ⟨_, runs, ?_⟩
    by_cases done : c.ops = []
    · rw [if_pos done, if_pos done]
      exact ⟨crewOnly_setCrew s bay slot _, State.crew_setCrew_same ..⟩
    · rw [if_neg done, if_neg done, State.crew_bayEvent]
      exact ⟨(crewOnly_setCrew s bay slot _).event _ _, State.crew_setCrew_same ..⟩
  case yield =>
    change execYield bay slot f s = _
    unfold execYield
    rw [ha.runs, State.issue_plain s bay slot 0x67 f none _ c _ ha hi rfl]
    simp only [State.issued_bayIsland, State.issued_copy]
    rfl

end Sys2Proof.Machine
end

section
/-! SUPPORT. TRAP, BRK and the words that spell no instruction (R99, R102, R130 to R133). -/

namespace Sys2Proof.Machine

theorem wordOpcode_lt (w : W64) : wordOpcode w < 256 := by
  have word := w.isLt
  unfold wordOpcode
  omega

/-- The opcode is bits [63:56] (R96). -/
theorem getBits_opcode (w : W64) : getBits w 56 8 = wordOpcode w := by
  rw [getBits, Nat.shiftRight_eq_div_pow]
  exact Nat.mod_eq_of_lt (wordOpcode_lt w)

/-- The opcodes that the tables list are those that spell an instruction (R99). -/
theorem opcodeListed_eq_isSome (bay slot : Nat) (w w2 : W64) :
    opcodeListed (wordOpcode w) = (instrAt bay slot w w2).isSome := by
  have byte := wordOpcode_lt w
  unfold instrAt
  generalize wordOpcode w = op at byte
  interval_cases op <;> rfl

/-- A trap of all the active lanes, after the issue has been counted. -/
theorem trapped_trapAll {s : State} {bay slot : Nat} {c : Crew} (hcrew : s.crew bay slot = some c) (hslot : slot < 256)
    (cause : Nat) (detail : W64) :
    Trapped s ((s.issued bay).trapAll bay slot c cause detail) bay slot c cause c.active detail :=
  (State.trap_spec _ bay slot c cause c.active detail (by rwa [State.issued_crew]) hslot).of_issued

/-- Settles O9: each instruction takes the trap that its word names, and an unlisted opcode has none of its own. -/
theorem trapsStopCrew : Obligations.TrapsStopCrew := by
  unfold Obligations.TrapsStopCrew
  refine ⟨fun s bay slot f c ha hi hslot => ⟨_, ?trap, trapped_trapAll ha.crew hslot 0x0F _⟩,
    fun s bay slot f c ha hi hslot => ⟨_, ?brk, trapped_trapAll ha.crew hslot 0x10 _⟩,
    fun s bay slot c hcrew hslot hready hpc hquiet hgood hnone =>
      ⟨_, ?illegal, State.trap_spec s bay slot c 0x01 c.active 0 hcrew hslot⟩⟩
  case trap =>
    change execTrap bay slot f s = _
    unfold execTrap
    rw [ha.runs, State.issue_plain s bay slot 0x70 f none _ c _ ha hi rfl]
    rfl
  case brk =>
    change execBrk bay slot f s = _
    unfold execBrk
    rw [ha.runs, State.issue_plain s bay slot 0x75 f none _ c _ ha hi rfl]
    rfl
  case illegal =>
    have unlisted : opcodeListed (wordOpcode ((s.bay bay).fetch c.pc).1) = false := by
      rw [opcodeListed_eq_isSome bay slot _ 0, hnone]
      rfl
    change execIllegalOpcode bay slot s = _
    unfold execIllegalOpcode
    rw [hcrew]
    dsimp only
    rw [hready, if_neg (by decide), if_neg (by omega), hquiet, if_neg (by decide), hgood, if_neg (by decide)]
    exact if_neg (by rw [getBits_opcode, unlisted]; decide)

end Sys2Proof.Machine
end

section
/-! SUPPORT. TRACE and LAUNCH (R71, R74, R102, R113, R520, R521). -/

namespace Sys2Proof.Machine

/-! The registers below the bays' windows under the count of an issue. -/

theorem State.rd_issued_below (s : State) (b : Nat) {off : Nat} (h : off < 0x200118) : (s.issued b).rd off = s.rd off :=
  s.rd_issued b off fun k _ => by unfold rBayEvcValue; omega

theorem State.fld_issued_below (s : State) (b : Nat) {off : Nat} (x : Nat × Nat) (h : off < 0x200118) :
    (s.issued b).fld off x = s.fld off x := by rw [State.fld, State.fld, s.rd_issued_below b h]

theorem State.flag_issued_below (s : State) (b : Nat) {off : Nat} (x : Nat × Nat) (h : off < 0x200118) :
    (s.issued b).flag off x = s.flag off x := by rw [State.flag, State.flag, s.fld_issued_below b x h]

@[simp] theorem State.issued_traced (s : State) (b type tent tick : Nat) :
    (s.issued b).traced type tent tick = s.traced type tent tick := by
  have ctl : rObsTraceCtl < 0x200118 := by decide
  have start : rObsTraceWinStart < 0x200118 := by decide
  have stop : rObsTraceWinEnd < 0x200118 := by decide
  simp only [State.traced, s.flag_issued_below b _ ctl, s.fld_issued_below b _ ctl, s.rd_issued_below b start,
    s.rd_issued_below b stop]

@[simp] theorem State.issued_sealedHidden (s : State) (b t bit tick : Nat) :
    (s.issued b).sealedHidden t bit tick = s.sealedHidden t bit tick := by
  by_cases named : t < 64
  · have key : rTentKeyslot t < 0x200118 := by unfold rTentKeyslot; omega
    have slot (k : Nat) (h : k < 64) : rSecKeyslot k < 0x200118 := by unfold rSecKeyslot; omega
    have small : s.tentKey t < 64 := Nat.mod_lt _ (by decide)
    have same : (s.issued b).tentKey t = s.tentKey t := s.fld_issued_below b _ key
    have consents : (s.issued b).consents t bit tick = s.consents t bit tick := by
      unfold State.consents; rw [State.issued_dev]
    unfold State.sealedHidden State.sealed State.keyValid
    rw [same, s.flag_issued_below b _ (slot _ small), s.flag_issued_below b _ (slot _ small), consents]
  · simp [State.sealedHidden, named]

@[simp] theorem State.issued_originate_stamp (s : State) (b n : Nat) :
    ((s.issued b).originate n).1 = (s.originate n).1 := by
  have isl : (s.issued b).isl n = s.isl n := by simp [State.isl]
  unfold State.originate
  rw [isl, State.issued_stampTick, State.issued_deviceNum]

/-- An event that passes the trace unit's filters is the last on its way there (R521). -/
theorem State.events_trace (s : State) (isl type tent a b fl : Nat) (h : s.traced type tent (s.stampTick isl) = true) :
    (s.trace isl type tent a b fl).dev.obs.events =
      s.dev.obs.events ++ [⟨(s.originate isl).1, type, tent, fl, a % 2 ^ 32, b % 2 ^ 64⟩] := by
  have passes : (s.originate isl).2.traced type tent (s.originate isl).1.tick = true := h
  unfold State.trace
  rw [if_pos h]
  dsimp only
  unfold State.traceAt
  rw [if_pos passes]
  rfl

theorem exec_trace_eq {s : State} {bay slot : Nat} {f : Short} {c : Crew} (ha : AtPc s bay slot 0x74 f none c)
    (hi : Issues s bay slot f { a := .u, func := 0xFFFF } c)
    (hopen : s.sealedHidden ((s.bay bay).tent.getD 0xFF) 2 (s.stampTick (s.bayIsland bay)) = false) :
    exec (.trace bay slot f) s = .next (((s.issued bay).setCrew bay slot (c.goto (c.pc + 1))).trace (s.bayIsland bay)
      0x80 ((s.bay bay).tent.getD 0xFF) f.func.toNat (c.readU f.srca.toNat).val.toNat 0) := by
  change execTrace bay slot f s = _
  unfold execTrace
  rw [ha.runs, State.issue_plain s bay slot 0x74 f none _ c _ ha hi rfl]
  simp only [State.issued_bay, State.issued_bayIsland, State.issued_stampTick, State.issued_sealedHidden, hopen,
    Bool.false_eq_true, if_false]
  rfl

/-- A LAUNCH whose operand and descriptor pass their checks queues the descriptor, where there is room (R74, R113). -/
theorem exec_launch_eq {s : State} {bay slot : Nat} {f : Short} {c : Crew} {d : LaunchDesc}
    (ha : AtPc s bay slot 0x4E f none c) (hi : Issues s bay slot f { a := .u } c)
    (hclean : (c.readU f.srca.toNat).poison = false) (haligned : (c.readU f.srca.toNat).val.toNat % 8 = 0)
    (hinside : (c.readU f.srca.toNat).val.toNat + 136 ≤ s.bayEnd bay)
    (hword : (s.bay bay).store.poisoned (c.readU f.srca.toNat).val.toNat 8 = false)
    (hread : readLaunch (s.bay bay).store (c.readU f.srca.toNat).val.toNat c.request c.rank = some d)
    (hroom : (s.bay bay).launchq.length < 16) :
    exec (.launch bay slot f) s = .next (((s.issued bay).modBay bay fun b =>
      { b with launchq := b.launchq ++ [d] }).setCrew bay slot (c.goto (c.pc + 1))) := by
  have inside : ¬ (s.issued bay).bayEnd bay < (c.readU f.srca.toNat).val.toNat + 136 := by
    rw [State.issued_bayEnd]; omega
  change execLaunch bay slot f s = _
  unfold execLaunch
  rw [ha.runs, State.issue_plain s bay slot 0x4E f none _ c _ ha hi rfl]
  dsimp only
  rw [hclean, if_neg (by decide), if_neg (not_not_intro haligned), if_neg inside, State.issued_bay, hword,
    if_neg (by decide), hread]
  exact congrArg Host.Outcome.next (if_neg (by omega))

/-- Settles O10: the event that TRACE originates passes the trace unit, and LAUNCH appends to the queue. -/
theorem traceAndLaunch : Obligations.TraceAndLaunch := by
  unfold Obligations.TraceAndLaunch
  refine ⟨?trace, ?launch⟩
  case trace =>
    intro s bay slot f c ha hi isl tent hopen hpass
    have passes : ((s.issued bay).setCrew bay slot (c.goto (c.pc + 1))).traced 0x80 tent
        (((s.issued bay).setCrew bay slot (c.goto (c.pc + 1))).stampTick isl) = true := by
      change (s.issued bay).traced 0x80 tent ((s.issued bay).stampTick isl) = true
      rw [State.issued_traced, State.issued_stampTick, hpass]
    refine ⟨_, exec_trace_eq ha hi hopen, ?_, ?_⟩
    · rw [State.events_trace _ _ _ _ _ _ _ passes, Nat.mod_eq_of_lt (c.readU f.srca.toNat).val.isLt]
      change (s.issued bay).dev.obs.events ++ [⟨((s.issued bay).originate isl).1, _, _, _, _, _⟩] = _
      rw [State.issued_originate_stamp, State.issued_obs]
    · rw [State.crew_trace, State.crew_setCrew_same]
  case launch =>
    intro s bay slot f c d ha hi hclean haligned hinside hword hread hroom
    refine ⟨_, exec_launch_eq ha hi hclean haligned hinside hword hread hroom, ?_⟩
    rw [State.crew_setCrew_same, State.bay_setCrew_same, State.bay_modBay_same, State.issued_bay]
    exact ⟨rfl, rfl, rfl, rfl, rfl⟩

end Sys2Proof.Machine
end

section
/-! SUPPORT. Long forms join their unit's queue (R119 to R128, R156, R180, R181). -/

namespace Sys2Proof.Machine

/-- A unit takes a form: it joins the end of the unit's queue, and the bay's crews, stores and slots stay. -/
structure TakesForm (queue : Bay → List LongForm) (push : Bay → LongForm → Bay) : Prop where
  joins : ∀ b d, queue (push b d) = queue b ++ [d]
  apart : ∀ b slot c, queue (Bay.setCrew b slot c) = queue b
  crews : ∀ b d, (push b d).crews = b.crews
  store : ∀ b d, (push b d).store = b.store
  acc : ∀ b d, (push b d).acc = b.acc
  events : ∀ b d, (push b d).events = b.events

/-- The state once a long form has gone on and its unit has taken it. -/
def State.queued (s : State) (bay slot : Nat) (c : Crew) (push : Bay → LongForm → Bay) (d : LongForm) : State :=
  ((s.issued bay).setCrew bay slot (c.goto (c.pc + 2))).modBay bay fun b => push b d

/-- A long form whose second word and operands pass their checks is taken, where the queue has room (R119 to R121). -/
theorem State.issueLong_eq {s : State} {bay slot op : Nat} {f : Short} {w2 : W64} {k : OpForm} {c : Crew}
    {uses : List Nat} {ok : LongForm → Bay → Bool} {full : Bay → Bool} {eng reason : Nat}
    {push : Bay → LongForm → Bay} (ha : AtPc s bay slot op f (some w2) c)
    (hi : Issues s bay slot f { k with long := true } c) (hk : k.guarded = false)
    (hok : ok (longFormOf op slot f w2 c) (s.bay bay) = true) (hclean : ∀ n ∈ uses, (c.readU n).poison = false)
    (hroom : full (s.bay bay) = false) :
    s.issueLong bay slot f w2 op k uses ok full eng reason push =
      s.queued bay slot c push (longFormOf op slot f w2 c) := by
  have clean : (uses.any fun n => (c.readU n).poison) = false := by simpa using hclean
  unfold State.issueLong
  refine (State.issue_plain s bay slot op f (some w2) _ c _ ha hi hk).trans ?_
  dsimp only
  unfold longFormOf at hok
  rw [State.issued_bay, hok, if_neg (by decide), clean, if_neg (by decide), hroom, if_neg (by decide)]
  rfl

theorem State.queued_spec (s : State) (bay slot : Nat) (c : Crew) {queue : Bay → List LongForm}
    {push : Bay → LongForm → Bay} (h : TakesForm queue push) (d : LongForm) :
    queue ((s.queued bay slot c push d).bay bay) = queue (s.bay bay) ++ [d] ∧
      (s.queued bay slot c push d).crew bay slot = some (c.goto (c.pc + 2)) ∧
      (∀ j, j ≠ slot → (s.queued bay slot c push d).crew bay j = s.crew bay j) ∧
      ((s.queued bay slot c push d).bay bay).store = (s.bay bay).store ∧
      ((s.queued bay slot c push d).bay bay).acc = (s.bay bay).acc ∧
      ((s.queued bay slot c push d).bay bay).events = (s.bay bay).events ∧
      ∀ b, b ≠ bay → (s.queued bay slot c push d).bay b = s.bay b := by
  have own : (s.queued bay slot c push d).bay bay =
      push ((s.bay bay).setCrew slot (some (c.goto (c.pc + 2)))) d := by simp [State.queued]
  have crew (j : Nat) : (s.queued bay slot c push d).crew bay j =
      ((s.bay bay).setCrew slot (some (c.goto (c.pc + 2)))).crew j := by
    rw [State.crew, own, Bay.crew, h.crews]
    rfl
  refine ⟨?_, ?_, fun j hj => ?_, ?_, ?_, ?_, fun b hb => ?_⟩
  · rw [own, h.joins, h.apart]
  · rw [crew, Bay.crew_setCrew_same]
  · rw [crew, Bay.crew_setCrew_other _ _ _ _ hj]
    rfl
  · rw [own, h.store]; rfl
  · rw [own, h.acc]; rfl
  · rw [own, h.events]; rfl
  · rw [State.queued, State.bay_modBay_other _ _ _ _ hb, State.bay_setCrew_other _ _ _ _ _ hb, State.issued_bay]

/-- An instruction that issues a long form, with the checks that the form passes. -/
theorem longQueued_of {op : Nat} {mk : Nat → Nat → Short → W64 → Instr} {k : OpForm} {uses : Short → W64 → List Nat}
    {ok : LongForm → Bay → Bool} {queue : W64 → Bay → List LongForm} {room : Nat}
    (ok' : Short → W64 → LongForm → Bay → Bool) (full : W64 → Bay → Bool) (eng : Nat → Nat) (reason : Nat)
    (push : W64 → Bay → LongForm → Bay) (hk : k.guarded = false)
    (hok : ∀ slot f w2 c b, ok (longFormOf op slot f w2 c) b = true → ok' f w2 (longFormOf op slot f w2 c) b = true)
    (hroom : ∀ w2 b, (queue w2 b).length < room → full w2 b = false)
    (htakes : ∀ w2, TakesForm (queue w2) (push w2))
    (he : ∀ bay slot f w2 s, s.fetches bay slot op f (some w2) = true → exec (mk bay slot f w2) s =
      .next (s.issueLong bay slot f w2 op k (uses f w2) (ok' f w2) (full w2) (eng bay) reason (push w2))) :
    LongQueued op mk k uses ok queue room := by
  intro s bay slot f w2 c ha hi hpass hclean hlen
  refine ⟨s.queued bay slot c (push w2) (longFormOf op slot f w2 c), ?_, s.queued_spec bay slot c (htakes w2) _⟩
  rw [he bay slot f w2 s ha.fetches,
    State.issueLong_eq ha hi hk (hok slot f w2 c _ hpass) hclean (hroom w2 _ hlen)]

/-! The three units. -/

section
variable {op : Nat} {mk : Nat → Nat → Short → W64 → Instr}

theorem longQueued_truss (k : OpForm) (hk : k.guarded = false) (uses : Short → W64 → List Nat)
    (ok : W64 → Bay → Bool)
    (he : ∀ bay slot f w2 s, s.fetches bay slot op f (some w2) = true →
      exec (mk bay slot f w2) s = .next (s.issueTruss bay slot f w2 op k (uses f w2) (ok w2))) :
    LongQueued op mk k uses (trussForms ok) trussQueue 8 :=
  longQueued_of (fun _ w2 _ b => trussReserved w2 && ok w2 b) (fun _ b => decide (8 ≤ b.truss.queue.length)) engStrand 2
    (fun _ b d => { b with truss := { b.truss with queue := b.truss.queue ++ [d] } }) hk (fun _ _ _ _ _ pass => pass)
    (fun _ _ few => decide_eq_false (Nat.not_le.2 few))
    (fun _ => ⟨fun _ _ => rfl, fun _ _ _ => rfl, fun _ _ => rfl, fun _ _ => rfl, fun _ _ => rfl, fun _ _ => rfl⟩) he

theorem longQueued_dma (k : OpForm) (hk : k.guarded = false) (uses : Short → W64 → List Nat)
    (he : ∀ bay slot f w2 s, s.fetches bay slot op f (some w2) = true →
      exec (mk bay slot f w2) s = .next (s.issueDma bay slot f w2 op k (uses f w2))) :
    LongQueued op mk k uses dmaForms dmaQueue 16 := by
  refine longQueued_of (fun _ _ d _ => dmaOk d) (fun w2 b => decide (16 ≤ (b.chan (dChannel w2)).queue.length))
    engStrand 1 (fun w2 b d => b.setChan (dChannel w2)
      { b.chan (dChannel w2) with queue := (b.chan (dChannel w2)).queue ++ [d] }) hk (fun _ _ _ _ _ pass => pass)
    (fun _ _ few => decide_eq_false (Nat.not_le.2 few))
    (fun w2 => ⟨fun b d => ?_, fun _ _ _ => rfl, fun _ _ => rfl, fun _ _ => rfl, fun _ _ => rfl, fun _ _ => rfl⟩) he
  unfold dmaQueue Bay.setChan
  rw [Bay.chan, SMap.get_set_same]

theorem longQueued_select (k : OpForm) (hk : k.guarded = false) (uses : Short → W64 → List Nat)
    (ok : LongForm → Bay → Bool) (ok' : Short → W64 → LongForm → Bool)
    (hok : ∀ slot f w2 c b, ok (longFormOf op slot f w2 c) b = true → ok' f w2 (longFormOf op slot f w2 c) = true)
    (he : ∀ bay slot f w2 s, s.fetches bay slot op f (some w2) = true →
      exec (mk bay slot f w2) s = .next (s.issueSelect bay slot f w2 op k (uses f w2) (ok' f w2))) :
    LongQueued op mk k uses ok selQueue 4 :=
  longQueued_of (fun f w2 d _ => ok' f w2 d) (fun _ b => decide (4 ≤ b.selq.length)) engStrand 3
    (fun _ b d => { b with selq := b.selq ++ [d] }) hk hok
    (fun _ _ few => decide_eq_false (Nat.not_le.2 few))
    (fun _ => ⟨fun _ _ => rfl, fun _ _ _ => rfl, fun _ _ => rfl, fun _ _ => rfl, fun _ _ => rfl, fun _ _ => rfl⟩) he

end

/-- Settles O13: each form is one issue into its unit's queue with the checks of its second word. -/
theorem longFormsQueue : Obligations.LongFormsQueue := by
  unfold Obligations.LongFormsQueue
  refine ⟨⟨?trShape, ?trWload, ?trSwap, ?trRun, ?trCmp, ?trAccz, ?trSync⟩,
    ?dmaLoad, ?dmaStore, ?dmaCopy, ?dmaScarf, ?dmaUnscarf, ?dmaFill, ?selTopk, ?selHist, ?selEmit, ?merge⟩
  case trShape | trWload | trSwap | trRun | trCmp | trAccz | trSync =>
    exact longQueued_truss _ rfl _ _ fun _ _ _ _ _ => State.fetches_runs
  case dmaLoad | dmaStore | dmaCopy | dmaScarf | dmaUnscarf | dmaFill =>
    exact longQueued_dma _ rfl _ fun _ _ _ _ _ => State.fetches_runs
  case selTopk | selHist | selEmit | merge =>
    exact longQueued_select _ rfl _ _ _ (fun _ _ _ _ _ pass => pass) fun _ _ _ _ _ => State.fetches_runs

end Sys2Proof.Machine
end

section
/-! SUPPORT. Messages between bays and SPAN_CLEAR (R84, R87, R111, R116). -/

namespace Sys2Proof.Machine

/-! MSG_SEND. -/

/-- The message that MSG_SEND sends to a bay of its tent on this package, `st` being its stamp (R116). -/
def State.messageOf (s : State) (bay : Nat) (f : Short) (c : Crew) (st : Stamp) : Item :=
  { stamp := st, sender := s.bayIsland bay, holder := s.bayIsland (getBits (c.readU f.srcb.toNat).val 0 8)
    kind := .message (c.readU f.srcc.toNat).val.toNat (getBits (c.readU f.srcb.toNat).val 20 8)
    tent := s.bayTent bay
    payload := wordsOf ((s.bay bay).store.read (c.readU f.srca.toNat).val.toNat (fn f))
      ((s.bay bay).store.poisoned (c.readU f.srca.toNat).val.toNat (fn f))
    bytes := fn f }

/-- The state once MSG_SEND has gone on and sent its message: posted like a store, it has a stamp and a number. -/
def State.messageSent (s : State) (bay slot : Nat) (f : Short) (c : Crew) : State :=
  (s.posted bay slot c).send (s.bayIsland bay) (s.bayIsland (getBits (c.readU f.srcb.toNat).val 0 8))
    (s.messageOf bay f c (s.posting bay slot c).1)

theorem State.bayIsland_posting (s : State) (bay slot : Nat) (c : Crew) (n : Nat) :
    (s.posting bay slot c).2.bayIsland n = s.bayIsland n := by
  simp [State.bayIsland, State.physOf, State.posting, State.originate, State.setCrew, State.modBay]

theorem State.bayTent_posting (s : State) (bay slot : Nat) (c : Crew) :
    (s.posting bay slot c).2.bayTent bay = s.bayTent bay := by
  simp [State.bayTent, State.posting, Bay.setCrew]

theorem exec_msgSend_eq {s : State} {bay slot : Nat} {f : Short} {c : Crew} (ha : AtPc s bay slot 0x68 f none c)
    (hi : Issues s bay slot f { a := .u, b := .u, c := .u, func := 0x7F } c) (hsome : 1 ≤ fn f) (hfew : fn f ≤ 64)
    (hcleanA : (c.readU f.srca.toNat).poison = false) (hcleanB : (c.readU f.srcb.toNat).poison = false)
    (hcleanC : (c.readU f.srcc.toNat).poison = false)
    (hinside : (c.readU f.srca.toNat).val.toNat + fn f ≤ s.bayEnd bay)
    (hhere : getBits (c.readU f.srcb.toNat).val 8 12 = s.deviceNum)
    (htent : (s.bay (getBits (c.readU f.srcb.toNat).val 0 8)).tent = (s.bay bay).tent) :
    exec (.msgSend bay slot f) s = .next (s.messageSent bay slot f c) := by
  have inside : ¬ (s.issued bay).bayEnd bay < (c.readU f.srca.toNat).val.toNat + fn f := by
    rw [State.issued_bayEnd]; omega
  have sameTent : ¬ (getBits (c.readU f.srcb.toNat).val 8 12 = (s.issued bay).deviceNum ∧
      ((s.issued bay).bay (getBits (c.readU f.srcb.toNat).val 0 8)).tent ≠ ((s.issued bay).bay bay).tent) := by
    simp [htent]
  change execMsgSend bay slot f s = _
  unfold execMsgSend
  rw [ha.runs, State.issue_plain s bay slot 0x68 f none _ c _ ha hi rfl]
  dsimp only
  rw [if_neg (by omega), hcleanA, hcleanB, hcleanC, if_neg (by decide), if_neg inside, if_neg sameTent]
  refine (congrArg Host.Outcome.next (if_pos (hhere.trans (s.issued_deviceNum bay).symm))).trans ?_
  unfold State.messageSent State.messageOf
  rw [← State.bayIsland_posting s bay slot c, ← State.bayIsland_posting s bay slot c, ← State.bayTent_posting s bay slot c,
    ← State.issued_bay s bay bay]
  rfl

@[simp] theorem State.issued_couplers (s : State) (b : Nat) : (s.issued b).dev.couplers = s.dev.couplers := by
  rw [State.issued_dev]

theorem State.coupler_noteEffect (s : State) (bay slot : Nat) (st : Stamp) (src dst : Nat) :
    (s.noteEffect bay slot st).coupler src dst = s.coupler src dst := by
  unfold State.noteEffect State.modCrew
  split
  · rfl
  · split <;> rfl

theorem State.store_noteEffect (s : State) (bay slot : Nat) (st : Stamp) (b : Nat) :
    ((s.noteEffect b slot st).bay bay).store = (s.bay bay).store := by
  unfold State.noteEffect State.modCrew
  split
  · rfl
  · split
    · rfl
    · by_cases own : bay = b
      · subst own
        simp [Bay.setCrew]
      · rw [State.bay_setCrew_other _ _ _ _ _ own]

/-- What waited on the path keeps its place before the message (R20). -/
theorem State.coupler_messageSent (s : State) (bay slot : Nat) (f : Short) (c : Crew) :
    (s.messageSent bay slot f c).coupler (s.bayIsland bay) (s.bayIsland (getBits (c.readU f.srcb.toNat).val 0 8)) =
      s.coupler (s.bayIsland bay) (s.bayIsland (getBits (c.readU f.srcb.toNat).val 0 8)) ++
        [s.messageOf bay f c (s.posting bay slot c).1] := by
  unfold State.messageSent State.posted
  rw [State.coupler_send_same, State.coupler_noteEffect]
  simp [State.coupler, State.posting, State.originate, State.setCrew, State.modBay]

theorem State.store_messageSent (s : State) (bay slot : Nat) (f : Short) (c : Crew) :
    ((s.messageSent bay slot f c).bay bay).store = (s.bay bay).store := by
  have sent : (s.messageSent bay slot f c).bay bay = (s.posted bay slot c).bay bay := rfl
  rw [sent, State.posted, State.store_noteEffect]
  simp [State.posting, Bay.setCrew]

/-! MESSAGE_DELIVER. -/

theorem State.inboxOf_bayEvent (s : State) (b code n isl : Nat) : (s.bayEvent b code n).inboxOf isl = s.inboxOf isl := by
  rw [State.inboxOf, State.bayEvent_dev]
  rfl

/-- The bay once a message has been copied to its store and its slot signalled (R116). -/
def Bay.received (b : Bay) (m : Item) (a e : Nat) : Bay :=
  { b with
    store := b.store.write a ((payloadBytes m.bytes m.payload).take (bayStoreSize - a))
      (m.payload.any (·.poison)) }.signal e 1

theorem exec_messageDeliver_eq {s : State} {bay : Nat} {m : Item} {a e : Nat} {is : List Item}
    (hmessage : takeMessage (s.inboxOf (s.bayIsland bay)) = some (m, a, e, is))
    (hfree : s.heldByFreeze (s.bayIsland bay) = false) (htent : (s.bay bay).tent = some m.tent) :
    exec (.messageDeliver bay) s = .next (((s.setInbox (s.bayIsland bay) is).modBay bay
      (·.received m a e)).bayEvent bay 0x00D) := by
  have sameTent : ¬ ((s.setInbox (s.bayIsland bay) is).bay bay).tent ≠ some m.tent := not_not_intro htent
  change execMessageDeliver bay s = _
  unfold execMessageDeliver
  dsimp only
  rw [hmessage]
  dsimp only
  rw [hfree, if_neg (by decide), if_neg sameTent]
  rfl

/-! SPAN_CLEAR. -/

/-- Removing a span entry changes the crews that may read it and no other part of the bay (R84). -/
theorem Bay.clearSpan_eq (b : Bay) (k : Nat) :
    b.clearSpan k = { b with spans := SMap.set (fun _ => none) b.spans k none, crews := (b.clearSpan k).crews } := by
  have forgets (l : List (Nat × Crew)) (b : Bay) :
      l.foldl (fun b e => if e.2.spansSeen.contains k then
        b.setCrew e.1 (some { e.2 with spansSeen := e.2.spansSeen.filter (· ≠ k) }) else b) b =
      { b with crews := (l.foldl (fun b e => if e.2.spansSeen.contains k then
        b.setCrew e.1 (some { e.2 with spansSeen := e.2.spansSeen.filter (· ≠ k) }) else b) b).crews } := by
    induction l generalizing b with
    | nil => rfl
    | cons e l ih =>
      rw [List.foldl_cons, ih]
      split <;> rfl
  exact forgets _ _

/-- Settles O15: a message goes behind those on its path, and is taken and signalled as it is delivered; a span entry is
removed by itself. -/
theorem messages : Obligations.Messages := by
  unfold Obligations.Messages
  refine ⟨?send, ?deliver, ?clear⟩
  case send =>
    intro s bay slot f c ha hi hsome hfew hcleanA hcleanB hcleanC hinside b isl to_ hhere htent
    exact ⟨_, _, exec_msgSend_eq ha hi hsome hfew hcleanA hcleanB hcleanC hinside hhere htent,
      s.coupler_messageSent bay slot f c, rfl, rfl, rfl, s.store_messageSent bay slot f c⟩
  case deliver =>
    intro s bay m a e is hmessage hfree htent
    refine ⟨_, exec_messageDeliver_eq hmessage hfree htent, ?_, ?_, ?_⟩
    · rw [State.inboxOf_bayEvent]
      exact State.inboxOf_setInbox_same s _ is
    · rw [State.bay_bayEvent, State.bay_modBay_same]
      rfl
    · rw [State.bay_bayEvent, State.bay_modBay_same, Bay.received, Bay.signal, Bay.events_setEvent, if_pos rfl]
      rfl
  case clear =>
    intro s bay slot f c ha hi
    refine ⟨((s.issued bay).setCrew bay slot (c.advance {})).modBay bay (·.clearSpan (fn f)), ?_, ?_, fun k => ?_⟩
    · change execSpanClear bay slot f s = _
      unfold execSpanClear
      rw [ha.runs, State.issue_plain s bay slot 0x59 f none _ c _ ha hi rfl]
    · rw [State.bay_modBay_same, State.bay_setCrew_same, State.issued_bay, Bay.clearSpan_eq]
      rfl
    · rw [State.bay_modBay_same, State.bay_setCrew_same, State.issued_bay, Bay.clearSpan_eq]
      exact SMap.get_set (fun _ => none) (s.bay bay).spans (fn f) none k

end Sys2Proof.Machine
end

section
/-! SUPPORT. The slices of the sampler as the bays' forms feed and close them (R129). -/

namespace Sys2Proof.Machine

@[simp] theorem State.slice_setSlice (s : State) (bay ctx : Nat) (x : Slice) :
    (s.setSlice bay ctx x).slice bay ctx = x := SMap.get_set_same ..

theorem State.slice_bayEvent (s : State) (b code n bay ctx : Nat) :
    (s.bayEvent b code n).slice bay ctx = s.slice bay ctx := by
  rw [State.slice, State.bayEvent_dev]
  rfl

/-! The issue of a sampler form. -/

@[simp] theorem State.issued_text (s : State) (b : Nat) : (s.issued b).dev.text = s.dev.text := by
  rw [State.issued_dev]

/-- The state in which the slice performs a form: its crew has gone on. -/
def State.sampling (s : State) (bay slot : Nat) (c : Crew) : State :=
  (s.issued bay).setCrew bay slot (c.goto (c.pc + 2))

theorem State.slice_sampling (s : State) (bay slot : Nat) (c : Crew) (b ctx : Nat) :
    (s.sampling bay slot c).slice b ctx = s.slice b ctx := by
  simp [State.slice, State.sampling, State.setCrew, State.modBay]

/-- The block of logits is what the accumulator store held at the issue. -/
theorem State.logitBlock_sampling (s : State) (bay slot : Nat) (c : Crew) (d : LongForm) :
    (s.sampling bay slot c).logitBlock bay d = s.logitBlock bay d := by
  have acc : ((s.sampling bay slot c).bay bay).acc = (s.bay bay).acc := by
    simp [State.sampling, Bay.setCrew]
  have free : (s.sampling bay slot c).free = s.free := s.issued_free bay
  unfold State.logitBlock
  rw [acc, free]

/-- The form that the slice performs (R129). -/
def smpFormOf (op slot : Nat) (f : Short) (w2 : W64) (c : Crew) : LongForm :=
  { op := op, a := (c.readU f.srca.toNat).val, b := (c.readU f.srcb.toNat).val, c := (c.readU f.srcc.toNat).val
    w2 := w2, crew := slot, request := c.request }

/-- The state once a sampler form has acted on its slice and signalled its slot. -/
def State.sampled (s : State) (bay slot : Nat) (w2 : W64) (c : Crew) (act : State → State) : State :=
  ((act (s.sampling bay slot c)).modBay bay (·.signalOpt (w2slot w2))).skipForm

theorem State.slice_sampled (s : State) (bay slot : Nat) (w2 : W64) (c : Crew) (act : State → State) (b ctx : Nat) :
    (s.sampled bay slot w2 c act).slice b ctx = (act (s.sampling bay slot c)).slice b ctx := rfl

/-- A sampler form whose second word and operands pass their checks acts (R119, R129). -/
theorem State.issueSmp_eq {s : State} {bay slot op : Nat} {f : Short} {w2 : W64} {c : Crew} {uses : List Nat}
    {ok : LongForm → Bool} {act : State → LongForm → State} (ha : AtPc s bay slot op f (some w2) c)
    (hi : Issues s bay slot f smpForm c) (hfields : smpFields w2 = true) (hok : ok (smpFormOf op slot f w2 c) = true)
    (hclean : ∀ n ∈ uses, (c.readU n).poison = false) :
    s.issueSmp bay slot f w2 op uses ok act =
      s.sampled bay slot w2 c fun u => act u (smpFormOf op slot f w2 c) := by
  have clean : (uses.any fun n => (c.readU n).poison) = false := by simpa using hclean
  unfold State.issueSmp
  refine (State.issue_plain s bay slot op f (some w2) smpForm c _ ha hi rfl).trans ?_
  dsimp only
  unfold smpFormOf at hok
  rw [hfields, hok, if_neg (by decide), clean, if_neg (by decide)]
  rfl

/-! The forms. -/

/-- What a form of the bay adds to the slice (R129). -/
def State.feedOf (s : State) (bay : Nat) (d : LongForm) (draft : Bool) : Feed :=
  { position := w2f d.w2 26 4, first := d.c.toNat, logits := s.logitBlock bay d, draft := draft }

/-- The feed joins the slice of its context. -/
def State.feed (s : State) (bay : Nat) (d : LongForm) (draft : Bool) : State :=
  s.setSlice bay d.a.toNat
    { s.slice bay d.a.toNat with feeds := (s.slice bay d.a.toNat).feeds ++ [s.feedOf bay d draft] }

theorem State.slice_feed_sampling (s : State) (bay slot : Nat) (c : Crew) (d : LongForm) (draft : Bool) :
    ((s.sampling bay slot c).feed bay d draft).slice bay d.a.toNat =
      { s.slice bay d.a.toNat with feeds := (s.slice bay d.a.toNat).feeds ++ [s.feedOf bay d draft] } := by
  rw [State.feed, State.slice_setSlice, State.slice_sampling, State.feedOf, State.logitBlock_sampling]
  rfl

theorem exec_smpFeed_eq {s : State} {bay slot : Nat} {f : Short} {w2 : W64} {c : Crew}
    (ha : AtPc s bay slot 0xA0 f (some w2) c) (hi : Issues s bay slot f smpForm c) (hfields : smpFields w2 = true)
    (hcleanA : (c.readU f.srca.toNat).poison = false) (hcleanB : (c.readU f.srcb.toNat).poison = false)
    (hcleanC : (c.readU f.srcc.toNat).poison = false)
    (hopen : (s.slice bay (c.readU f.srca.toNat).val.toNat).closed = false) :
    exec (.smpFeed bay slot f w2) s = .next (s.sampled bay slot w2 c fun u =>
      (u.feed bay (smpFormOf 0xA0 slot f w2 c) false).bayEvent bay 0x00B) := by
  change execSmpFeed bay slot f w2 s = _
  unfold execSmpFeed
  rw [ha.runs, State.issueSmp_eq ha hi hfields (by simp [smpFormOf, hopen]) (by simp [hcleanA, hcleanB, hcleanC])]
  rfl

theorem exec_smpDraft_eq {s : State} {bay slot : Nat} {f : Short} {w2 : W64} {c : Crew}
    (ha : AtPc s bay slot 0xA2 f (some w2) c) (hi : Issues s bay slot f smpForm c) (hfields : smpFields w2 = true)
    (hcleanA : (c.readU f.srca.toNat).poison = false) (hcleanB : (c.readU f.srcb.toNat).poison = false)
    (hcleanC : (c.readU f.srcc.toNat).poison = false) :
    exec (.smpDraft bay slot f w2) s = .next (s.sampled bay slot w2 c fun u =>
      u.feed bay (smpFormOf 0xA2 slot f w2 c) true) := by
  change execSmpDraft bay slot f w2 s = _
  unfold execSmpDraft
  rw [ha.runs, State.issueSmp_eq ha hi hfields rfl (by simp [hcleanA, hcleanB, hcleanC])]
  rfl

theorem exec_smpClose_eq {s : State} {bay slot : Nat} {f : Short} {w2 : W64} {c : Crew}
    (ha : AtPc s bay slot 0xA1 f (some w2) c) (hi : Issues s bay slot f smpForm c) (hfields : smpFields w2 = true)
    (hcleanA : (c.readU f.srca.toNat).poison = false) :
    exec (.smpClose bay slot f w2) s = .next (s.sampled bay slot w2 c fun u =>
      u.setSlice bay (c.readU f.srca.toNat).val.toNat
        { u.slice bay (c.readU f.srca.toNat).val.toNat with closed := true }) := by
  change execSmpClose bay slot f w2 s = _
  unfold execSmpClose
  rw [ha.runs, State.issueSmp_eq ha hi hfields rfl (by simp [hcleanA])]
  rfl

/-- Settles O17: the slice performs each form as it is issued (log entry 18). -/
theorem samplerSlices : Obligations.SamplerSlices := by
  unfold Obligations.SamplerSlices
  refine ⟨?feed, ?draft, ?close⟩
  case feed =>
    intro s bay slot f w2 c ha hi hfields hcleanA hcleanB hcleanC hopen
    refine ⟨_, s.feedOf bay (smpFormOf 0xA0 slot f w2 c) false,
      exec_smpFeed_eq ha hi hfields hcleanA hcleanB hcleanC hopen, ?_, rfl, rfl, rfl, rfl⟩
    rw [State.slice_sampled, State.slice_bayEvent]
    exact s.slice_feed_sampling bay slot c (smpFormOf 0xA0 slot f w2 c) false
  case draft =>
    intro s bay slot f w2 c ha hi hfields hcleanA hcleanB hcleanC
    refine ⟨_, s.feedOf bay (smpFormOf 0xA2 slot f w2 c) true,
      exec_smpDraft_eq ha hi hfields hcleanA hcleanB hcleanC, ?_, rfl, rfl, rfl, rfl⟩
    rw [State.slice_sampled]
    exact s.slice_feed_sampling bay slot c (smpFormOf 0xA2 slot f w2 c) true
  case close =>
    intro s bay slot f w2 c ha hi hfields hcleanA
    refine ⟨_, exec_smpClose_eq ha hi hfields hcleanA, ?_⟩
    rw [State.slice_sampled, State.slice_setSlice, State.slice_sampling]

end Sys2Proof.Machine
end

section
/-! SUPPORT. Loads and stores of the bay store and the accumulator store (R69, R94, R107, R108). -/

namespace Sys2Proof.Machine

/-! Bytes and poison of a store. -/

theorem Store.num_congr {m m' : Store} {a n : Nat} (h : ∀ i, i < n → m'.byte (a + i) = m.byte (a + i)) :
    m'.num a n = m.num a n := by
  unfold Store.num Store.read
  exact congrArg leNat (List.map_congr_left fun i hi => h i (List.mem_range.1 hi))

theorem Store.byte_put_outside (m : Store) (a n x : Nat) (bad : Bool) (b : Nat) (h : ¬ within b a n) :
    (m.put a n x bad).byte b = m.byte b := by
  refine m.byte_write_outside a _ bad b ?_
  rw [length_leBytes]
  unfold within at h
  omega

/-- A number apart from the bytes written reads as before. -/
theorem Store.num_put_apart (m : Store) (a n x : Nat) (bad : Bool) (b k : Nat) (h : b + k ≤ a ∨ a + n ≤ b) :
    (m.put a n x bad).num b k = m.num b k :=
  Store.num_congr fun i hi => m.byte_put_outside a n x bad (b + i) (by unfold within; omega)

theorem State.issued_unarmed (s : State) (b : Nat) (h : s.unarmed = true) : (s.issued b).unarmed = true := by
  have arm : rRasInjectArm < 0x200118 := by decide
  rw [State.unarmed, s.flag_issued_below b _ arm]
  exact h

/-- With nothing armed a local read gives the bytes and the poison that the store holds (R484, R489). -/
theorem State.localRead_unarmed (s : State) (bay : Nat) (acc : Bool) (a n : Nat) (h : s.unarmed = true) (hn : 0 < n) :
    s.localRead bay acc a n = (((s.bay bay).mem acc).num a n, ((s.bay bay).mem acc).poisoned a n, s) := by
  have words (l : List Nat) (b : Bool) :
      l.foldl (fun (r : Bool × State) i =>
        ((r.1 || (r.2.checkWord (s.bayIsland bay) 0x0100 (if acc then 3 else 2) (4 * (a / 4 + i)) 0
            ⟨BitVec.ofNat 32 (((s.bay bay).mem acc).num (4 * (a / 4 + i)) 4), ((s.bay bay).mem acc).bad (a / 4 + i)⟩).1.poison,
          (r.2.checkWord (s.bayIsland bay) 0x0100 (if acc then 3 else 2) (4 * (a / 4 + i)) 0
            ⟨BitVec.ofNat 32 (((s.bay bay).mem acc).num (4 * (a / 4 + i)) 4),
              ((s.bay bay).mem acc).bad (a / 4 + i)⟩).2))) (b, s) =
      (b || l.any fun i => ((s.bay bay).mem acc).bad (a / 4 + i), s) := by
    induction l generalizing b with
    | nil => simp
    | cons i l ih => rw [List.foldl_cons, State.checkWord_unarmed _ _ _ _ _ _ h, ih, List.any_cons, Bool.or_assoc]
  have some_bytes : (n != 0) = true := by simp; omega
  unfold State.localRead
  dsimp only
  rw [words, Bool.false_or, Store.poisoned, some_bytes, Bool.true_and]

/-- An M-format access whose checks pass acts. -/
theorem State.mAccess_passes (s : State) (bay slot : Nat) (f : Short) (store acc : Bool) (cause : Nat → Option Nat)
    (c : Crew) (ex : W32) (go : State → State) (hcode : mCodeOk f store acc = true) (hclean : mPoison c f ex = 0)
    (hplace : ∀ l, l < 32 → lane ex l = true → cause (mAddr c f l) = none) :
    s.mAccess bay slot f store acc cause c ex go = go s := by
  unfold State.mAccess
  rw [hcode, hclean, laneFault_none ex (fun l => cause (mAddr c f l)) hplace]
  rfl

/-! The registers that loads fill. -/

/-- The crew with registers filled, in order. -/
def Crew.fill (c : Crew) (qs : List (Nat × VReg)) : Crew :=
  qs.foldl (fun d q => { d with v := SMap.set (fun _ => {}) d.v q.1 q.2 }) c

theorem Crew.fill_eq (c : Crew) (qs : List (Nat × VReg)) : c.fill qs = { c with v := (c.fill qs).v } := by
  unfold Crew.fill
  induction qs generalizing c with
  | nil => rfl
  | cons q qs ih => rw [List.foldl_cons, ih]

/-- A register that is filled alike wherever it is filled holds that. -/
theorem Crew.get_fill (c : Crew) (qs : List (Nat × VReg)) (k : Nat) (x : VReg) (alike : ∀ q ∈ qs, q.1 = k → q.2 = x)
    (filled : SMap.get (fun _ => {}) c.v k = x ∨ ∃ q ∈ qs, q.1 = k) : SMap.get (fun _ => {}) (c.fill qs).v k = x := by
  unfold Crew.fill
  induction qs generalizing c with
  | nil => simpa using filled
  | cons q qs ih =>
    rw [List.foldl_cons]
    refine ih _ (fun r hr => alike r (by simp [hr])) ?_
    by_cases here : q.1 = k
    · exact .inl (by rw [SMap.get_set, if_pos here.symm, alike q (by simp) here])
    · rcases filled with before | ⟨r, hr, hk⟩
      · exact .inl (by rw [SMap.get_set, if_neg (Ne.symm here), before])
      · rcases List.mem_cons.1 hr with rfl | later
        · exact absurd hk here
        · exact .inr ⟨r, later, hk⟩

/-- The registers of the group from `d`, each once. -/
theorem fillRegs_spec {d n : Nat} {signed bad : Bool} {x : Nat} {q : Nat × VReg}
    (h : q ∈ fillRegs d n signed x bad) : within q.1 d (if n ≤ 4 then 1 else n / 4) ∧
      ∀ r ∈ fillRegs d n signed x bad, r.1 = q.1 → r.2 = q.2 := by
  unfold fillRegs at h ⊢
  by_cases one : n ≤ 4
  · simp only [if_pos one] at h ⊢
    rw [List.mem_singleton] at h
    subst h
    refine ⟨by unfold within; omega, fun r hr _ => ?_⟩
    rw [List.mem_singleton] at hr
    rw [hr]
  · simp only [if_neg one] at h ⊢
    obtain ⟨i, hi, rfl⟩ := List.mem_map.1 h
    rw [List.mem_range] at hi
    refine ⟨by unfold within; omega, fun r hr same => ?_⟩
    obtain ⟨j, -, rfl⟩ := List.mem_map.1 hr
    obtain rfl : j = i := by simpa using same
    rfl

theorem mGroup_cases (f : Short) : mGroup f = 1 ∨ mGroup f = 2 ∨ mGroup f = 4 := by
  unfold mGroup mBytes sizeBytes
  (repeat' split) <;> simp_all

/-- A group of registers named by an aligned field lies in the register file of its lane (R69, R97). -/
theorem group_inside {k : OpForm} {f : Short} (h : k.wellFormed f = true) (hdst : k.dst = .v (mGroup f)) :
    f.dst.toNat + mGroup f ≤ 64 := by
  have fits := OpForm.fits_dst h
  have small := f.dst.isLt
  rw [hdst] at fits
  have aligned : f.dst.toNat % mGroup f = 0 := by simpa [OpKind.fits] using fits
  rcases mGroup_cases f with e | e | e <;> (rw [e] at aligned ⊢; omega)

/-! Loads. -/

/-- The registers that the load of lane `l` fills, from store `m` (R108). -/
def loadRegs (m : Store) (c : Crew) (f : Short) (l : Nat) : List (Nat × VReg) :=
  fillRegs (64 * l + f.dst.toNat) (mBytes f) (decide (5 ≤ fn f % 8)) (m.num (mAddr c f l) (mBytes f))
    (m.poisoned (mAddr c f l) (mBytes f))

/-- The crew once its executing lanes have loaded. -/
def Crew.loaded (c : Crew) (m : Store) (f : Short) : Crew := c.fill ((lanes (c.executing f)).flatMap (loadRegs m c f))

theorem State.loadLocal_eq {s : State} {bay slot op : Nat} {f : Short} {c : Crew} {acc : Bool}
    (ha : AtPc s bay slot op f none c) (hi : Issues s bay slot f (mForm f false) c)
    (hl : LocalAccess s bay f false acc c) :
    s.loadLocal bay slot f acc =
      (s.issued bay).setCrew bay slot ((c.loaded ((s.bay bay).mem acc) f).advance {}) := by
  have unarmed := s.issued_unarmed bay hi.unarmed
  have lanes_loaded (ls : List Nat) (d : Crew) :
      ls.foldl (fun (r : Crew × State) l =>
        ((fillRegs (64 * l + f.dst.toNat) (mBytes f) (decide (5 ≤ fn f % 8))
            (r.2.localRead bay acc (mAddr c f l) (mBytes f)).1 (r.2.localRead bay acc (mAddr c f l) (mBytes f)).2.1).foldl
          (fun d (q : Nat × VReg) => { d with v := SMap.set (fun _ => {}) d.v q.1 q.2 }) r.1,
          (r.2.localRead bay acc (mAddr c f l) (mBytes f)).2.2)) (d, s.issued bay) =
      (d.fill (ls.flatMap (loadRegs ((s.bay bay).mem acc) c f)), s.issued bay) := by
    induction ls generalizing d with
    | nil => rfl
    | cons l ls ih =>
      rw [List.foldl_cons, State.localRead_unarmed _ _ _ _ _ unarmed (mBytes_dvd f).1, ih, State.issued_bay,
        List.flatMap_cons, Crew.fill, Crew.fill, List.foldl_append]
      rfl
  unfold State.loadLocal
  rw [State.issue_guarded s bay slot op f _ c _ ha hi rfl,
    State.mAccess_passes _ _ _ _ _ _ _ _ _ _ hl.code hl.clean (by simpa using hl.place)]
  dsimp only
  rw [lanes_loaded]
  rfl

/-- The groups of two lanes are apart, so a lane's registers hold what that lane loads. -/
theorem Crew.loaded_lane {c : Crew} {m : Store} {f : Short} (hgroup : f.dst.toNat + mGroup f ≤ 64) {l : Nat}
    (hl : l ∈ lanes (c.executing f)) {q : Nat × VReg} (hq : q ∈ loadRegs m c f l) :
    SMap.get (fun _ => {}) (c.loaded m f).v q.1 = q.2 := by
  obtain ⟨inside, once⟩ := fillRegs_spec hq
  refine c.get_fill _ q.1 q.2 (fun r hr same => ?_) (.inr ⟨q, List.mem_flatMap.2 ⟨l, hl, hq⟩, rfl⟩)
  obtain ⟨k, -, hk⟩ := List.mem_flatMap.1 hr
  obtain ⟨inside', -⟩ := fillRegs_spec hk
  change within q.1 _ (mGroup f) at inside
  change within r.1 _ (mGroup f) at inside'
  obtain rfl : k = l := by unfold within at inside inside'; omega
  exact once r hk same

theorem Crew.loaded_other {c : Crew} {m : Store} {f : Short} {k : Nat}
    (h : ∀ l, l < 32 → lane (c.executing f) l = true → ¬ within k (64 * l + f.dst.toNat) (mGroup f)) :
    SMap.get (fun _ => {}) (c.loaded m f).v k = SMap.get (fun _ => {}) c.v k := by
  refine c.get_fill _ k _ (fun q hq same => ?_) (.inl rfl)
  obtain ⟨l, hl, hk⟩ := List.mem_flatMap.1 hq
  obtain ⟨hlt, hlane⟩ := (mem_lanes _ l).1 hl
  exact absurd (same ▸ (fillRegs_spec hk).1) (h l hlt hlane)

theorem loadResult_of {op : Nat} {mk : Nat → Nat → Short → Instr} {acc : Bool}
    (he : ∀ bay slot f s, s.fetches bay slot op f none = true →
      exec (mk bay slot f) s = .next (s.loadLocal bay slot f acc)) : LoadResult op mk acc := by
  intro s bay slot f c ha hi hl
  have kept := c.fill_eq ((lanes (c.executing f)).flatMap (loadRegs ((s.bay bay).mem acc) c f))
  have runs := (he bay slot f s ha.fetches).trans (congrArg Host.Outcome.next (State.loadLocal_eq ha hi hl))
  obtain ⟨t, next, only, crew⟩ := crewOnly_of_setCrew runs
  have moved : c.movedTo ((c.loaded ((s.bay bay).mem acc) f).advance {}) (c.pc + 1) := by
    unfold Crew.loaded
    rw [kept]
    exact movedTo_goto c _ (c.pc + 1) rfl rfl
  refine ⟨t, _, next, only, crew, ?_, moved, fun l hlt hlane q hq => ?_, fun k hk => ?_⟩
  · unfold Crew.loaded
    rw [kept]
    rfl
  · exact Crew.loaded_lane (group_inside hi.fields rfl) ((mem_lanes _ l).2 ⟨hlt, hlane⟩) hq
  · exact Crew.loaded_other hk

/-! Stores. -/

/-- The store once the lanes `ls` have written their data, in this order. -/
def Store.lanesPut (m : Store) (c : Crew) (f : Short) (ls : List Nat) : Store :=
  ls.foldl (fun m l => m.put (mAddr c f l) (mBytes f) (groupData c f.srcc.toNat (mGroup f) l).1
    (groupData c f.srcc.toNat (mGroup f) l).2) m

theorem Store.byte_lanesPut_outside (m : Store) (c : Crew) (f : Short) (ls : List Nat) (a : Nat)
    (h : ∀ l ∈ ls, ¬ within a (mAddr c f l) (mBytes f)) : (m.lanesPut c f ls).byte a = m.byte a := by
  unfold Store.lanesPut
  induction ls generalizing m with
  | nil => rfl
  | cons l ls ih =>
    rw [List.foldl_cons, ih _ fun k hk => h k (by simp [hk])]
    exact m.byte_put_outside _ _ _ _ a (h l (by simp))

/-- A lane whose bytes no other lane writes leaves its data there. -/
theorem Store.num_lanesPut (m : Store) (c : Crew) (f : Short) (ls : List Nat) (l : Nat)
    (alone : ∀ k ∈ ls, k ≠ l → mAddr c f k + mBytes f ≤ mAddr c f l ∨ mAddr c f l + mBytes f ≤ mAddr c f k)
    (writes : l ∈ ls ∨ m.num (mAddr c f l) (mBytes f) =
      (groupData c f.srcc.toNat (mGroup f) l).1 % 2 ^ (8 * mBytes f)) :
    (m.lanesPut c f ls).num (mAddr c f l) (mBytes f) =
      (groupData c f.srcc.toNat (mGroup f) l).1 % 2 ^ (8 * mBytes f) := by
  unfold Store.lanesPut
  induction ls generalizing m with
  | nil => simpa using writes
  | cons k ls ih =>
    rw [List.foldl_cons]
    refine ih _ (fun j hj => alone j (by simp [hj])) ?_
    by_cases here : k = l
    · subst here
      exact .inr (m.num_write_leBytes _ _ _ _)
    · rcases writes with later | before
      · exact .inl ((List.mem_cons.1 later).resolve_left (Ne.symm here))
      · exact .inr ((m.num_put_apart _ _ _ _ _ _ (alone k (by simp) here).symm).trans before)

theorem Bay.mem_setMem (b : Bay) (acc : Bool) (m : Store) : (b.setMem acc m).mem acc = m := by cases acc <;> rfl

theorem Bay.setMem_setMem (b : Bay) (acc : Bool) (m m' : Store) : (b.setMem acc m).setMem acc m' = b.setMem acc m' := by
  cases acc <;> rfl

theorem Bay.mem_setMem_not (b : Bay) (acc : Bool) (m : Store) : (b.setMem acc m).mem (!acc) = b.mem (!acc) := by
  cases acc <;> rfl

theorem Bay.crews_setMem (b : Bay) (acc : Bool) (m : Store) : (b.setMem acc m).crews = b.crews := by
  cases acc <;> rfl

theorem Bay.events_setMem (b : Bay) (acc : Bool) (m : Store) : (b.setMem acc m).events = b.events := by
  cases acc <;> rfl

/-- The bay once the lanes `ls` have stored. -/
def Bay.stored (b : Bay) (acc : Bool) (c : Crew) (f : Short) (ls : List Nat) : Bay :=
  b.setMem acc ((b.mem acc).lanesPut c f ls)

/-- The state once a store to a local store has gone on. -/
def State.locallyStored (s : State) (bay slot : Nat) (acc : Bool) (c : Crew) (f : Short) : State :=
  (((s.issued bay).modBay bay (·.stored acc c f ((s.issued bay).laneOrder (c.executing f)))).setCrew bay slot
    (c.goto (c.pc + 1))).skipFree

theorem State.storeLocal_eq {s : State} {bay slot op : Nat} {f : Short} {c : Crew} {acc : Bool}
    (ha : AtPc s bay slot op f none c) (hi : Issues s bay slot f (mForm f true) c)
    (hl : LocalAccess s bay f true acc c) : s.storeLocal bay slot f acc = s.locallyStored bay slot acc c f := by
  have lanes_stored (ls : List Nat) (b : Bay) :
      ls.foldl (fun b l => b.setMem acc ((b.mem acc).put (mAddr c f l) (mBytes f)
        (groupData c f.srcc.toNat (mGroup f) l).1 (groupData c f.srcc.toNat (mGroup f) l).2)) b =
      b.stored acc c f ls := by
    induction ls generalizing b with
    | nil => cases acc <;> rfl
    | cons l ls ih =>
      rw [List.foldl_cons, ih, Bay.stored, Bay.mem_setMem, Bay.setMem_setMem]
      rfl
  unfold State.storeLocal
  rw [State.issue_guarded s bay slot op f _ c _ ha hi rfl,
    State.mAccess_passes _ _ _ _ _ _ _ _ _ _ hl.code hl.clean (by simpa using hl.place)]
  simp only [lanes_stored]
  rfl

theorem State.bay_locallyStored (s : State) (bay slot : Nat) (acc : Bool) (c : Crew) (f : Short) :
    (s.locallyStored bay slot acc c f).bay bay = ((s.bay bay).stored acc c f
      ((s.issued bay).laneOrder (c.executing f))).setCrew slot (some (c.goto (c.pc + 1))) := by
  have skip : (s.locallyStored bay slot acc c f).bay bay = (((s.issued bay).modBay bay
    (·.stored acc c f ((s.issued bay).laneOrder (c.executing f)))).setCrew bay slot (c.goto (c.pc + 1))).bay bay := rfl
  rw [skip, State.bay_setCrew_same, State.bay_modBay_same, State.issued_bay]

theorem State.mem_locallyStored (s : State) (bay slot : Nat) (acc other : Bool) (c : Crew) (f : Short) :
    ((s.locallyStored bay slot acc c f).bay bay).mem other =
      ((s.bay bay).stored acc c f ((s.issued bay).laneOrder (c.executing f))).mem other := by
  rw [State.bay_locallyStored]
  cases other <;> rfl

theorem storeResult_of {op : Nat} {mk : Nat → Nat → Short → Instr} {acc : Bool}
    (he : ∀ bay slot f s, s.fetches bay slot op f none = true →
      exec (mk bay slot f) s = .next (s.storeLocal bay slot f acc)) : StoreResult op mk acc := by
  intro s bay slot f c ha hi hl
  have stores := s.mem_locallyStored bay slot acc acc c f
  unfold Bay.stored at stores
  rw [Bay.mem_setMem] at stores
  have runs := (he bay slot f s ha.fetches).trans (congrArg Host.Outcome.next (State.storeLocal_eq ha hi hl))
  refine ⟨_, runs, ?crew, fun j hj => ?crews, fun b hb => ?bays, ?other, ?events, s.issued_mem bay, fun a ha => ?outside,
    fun l hlt hlane alone => ?lane⟩
  case crew => rw [State.crew, State.bay_locallyStored, Bay.crew_setCrew_same]
  case crews =>
    rw [State.crew, State.bay_locallyStored, Bay.crew_setCrew_other _ _ _ _ hj, Bay.crew, Bay.stored, Bay.crews_setMem]
    rfl
  case bays =>
    have skip : (s.locallyStored bay slot acc c f).bay b = (((s.issued bay).modBay bay
      (·.stored acc c f ((s.issued bay).laneOrder (c.executing f)))).setCrew bay slot (c.goto (c.pc + 1))).bay b := rfl
    rw [skip, State.bay_setCrew_other _ _ _ _ _ hb, State.bay_modBay_other _ _ _ _ hb, State.issued_bay]
  case other => rw [State.mem_locallyStored, Bay.stored, Bay.mem_setMem_not]
  case events =>
    rw [State.bay_locallyStored]
    exact Bay.events_setMem _ _ _
  case outside =>
    rw [stores]
    refine Store.byte_lanesPut_outside _ c f _ a fun l hl => ?_
    obtain ⟨hlt, hlane⟩ := (State.mem_laneOrder _ _ l).1 hl
    exact ha l hlt hlane
  case lane =>
    rw [stores]
    refine Store.num_lanesPut _ c f _ l (fun k hk apart => ?_) (.inl ((State.mem_laneOrder _ _ l).2 ⟨hlt, hlane⟩))
    obtain ⟨hklt, hklane⟩ := (State.mem_laneOrder _ _ k).1 hk
    exact alone k hklt hklane apart

/-- Settles O11: the loads and the stores, each of either store. -/
theorem localAccesses : Obligations.LocalAccesses := by
  unfold Obligations.LocalAccesses
  exact ⟨⟨loadResult_of fun _ _ _ _ => State.fetches_runs, loadResult_of fun _ _ _ _ => State.fetches_runs⟩,
    storeResult_of fun _ _ _ _ => State.fetches_runs, storeResult_of fun _ _ _ _ => State.fetches_runs⟩

end Sys2Proof.Machine
end

section
/-! SUPPORT. Atomics on the bay store (R94, R107, R110). -/

namespace Sys2Proof.Machine

/-! Words of a store. -/

/-- A write leaves the poison of the words that it does not touch (R485). -/
theorem Store.bad_write_apart (m : Store) (a : Nat) (bs : List Byte) (bad : Bool) (w : Nat)
    (h : 4 * w + 4 ≤ a ∨ a + bs.length ≤ 4 * w) : (m.write a bs bad).bad w = m.bad w := by
  have untouched (ws : List Nat) (hw : w ∉ ws) (p : SMap Bool) :
      SMap.get (fun _ => false) (ws.foldl (fun p w =>
        if bad then SMap.set (fun _ => false) p w true
        else if a ≤ 4 * w ∧ 4 * w + 4 ≤ a + bs.length then SMap.set (fun _ => false) p w false
        else p) p) w = SMap.get (fun _ => false) p w := by
    induction ws generalizing p with
    | nil => rfl
    | cons x ws ih =>
      rw [List.mem_cons, not_or] at hw
      obtain ⟨hx, hws⟩ := hw
      rw [List.foldl_cons, ih hws]
      split
      · rw [SMap.get_set, if_neg hx]
      · split
        · rw [SMap.get_set, if_neg hx]
        · rfl
  refine untouched _ (fun hw => ?_) _
  by_cases none : bs = []
  · simp [none] at hw
  · rw [if_neg none] at hw
    obtain ⟨i, hi, rfl⟩ := List.mem_map.1 hw
    have some_bytes := List.length_pos_of_ne_nil none
    rw [List.mem_range] at hi
    omega

/-- The poison of an aligned word is its word's. -/
theorem Store.poisoned_word (m : Store) {a : Nat} (h : a % 4 = 0) : m.poisoned a 4 = m.bad (a / 4) := by
  have one : (a + 4 - 1) / 4 - a / 4 + 1 = 1 := by omega
  unfold Store.poisoned
  rw [one]
  simp

/-- An aligned word apart from the one written keeps its value and its poison. -/
theorem Store.word_put_apart (m : Store) {a b : Nat} (x : Nat) (bad : Bool) (ha : a % 4 = 0) (hb : b % 4 = 0)
    (h : a ≠ b) : (m.put a 4 x bad).num b 4 = m.num b 4 ∧ (m.put a 4 x bad).poisoned b 4 = m.poisoned b 4 := by
  refine ⟨m.num_put_apart a 4 x bad b 4 (by omega), ?_⟩
  rw [Store.poisoned_word _ hb, Store.poisoned_word _ hb]
  exact m.bad_write_apart a _ bad _ (by rw [length_leBytes]; omega)

/-- Of two words either is a word. -/
theorem word_ite {p : Prop} [Decidable p] {a b : Nat} (ha : ∃ y : W32, a = y.toNat) (hb : ∃ y : W32, b = y.toNat) :
    ∃ y : W32, (if p then a else b) = y.toNat := by
  by_cases h : p
  · rwa [if_pos h]
  · rwa [if_neg h]

/-- The new value of a 32-bit atomic is a word (R110). -/
theorem atomNew_word (op old x cmp : Nat) : ∃ y : W32, atomNew op 32 old x cmp = y.toNat := by
  have min_word (o v : W32) : ∃ y : W32, min o.toNat v.toNat = y.toNat :=
    (min_choice o.toNat v.toNat).elim (⟨o, ·⟩) (⟨v, ·⟩)
  have max_word (o v : W32) : ∃ y : W32, max o.toNat v.toNat = y.toNat :=
    (max_choice o.toNat v.toNat).elim (⟨o, ·⟩) (⟨v, ·⟩)
  have word (y : W32) : ∃ z : W32, y.toNat = z.toNat := ⟨y, rfl⟩
  exact word_ite (word _) <| word_ite (word_ite (word _) (word _)) <| word_ite (min_word _ _) <|
    word_ite (word_ite (word _) (word _)) <| word_ite (max_word _ _) <| word_ite (word _) <| word_ite (word _) <|
    word_ite (word _) <| word_ite (word _) <| word_ite (word_ite (word _) (word _)) (word _)

/-- The word of an atomic holds its new value. -/
theorem Store.num_put_atomNew (m : Store) (a op old x cmp : Nat) (bad : Bool) :
    (m.put a 4 (atomNew op 32 old x cmp) bad).num a 4 = atomNew op 32 old x cmp := by
  obtain ⟨y, hy⟩ := atomNew_word op old x cmp
  rw [Store.put, Store.num_write_leBytes, hy]
  exact Nat.mod_eq_of_lt y.isLt

/-! The lanes of an atomic, one after another. -/

section
variable (c : Crew) (f : Short)

/-- One lane's update of its word, and its destination (R110). -/
def atomLane (r : Crew × Store) (l : Nat) : Crew × Store :=
  let a := atomAddr c f l
  let x := c.readV l f.srcc.toNat
  (if atomNoret f then r.1 else r.1.writeV l f.dst.toNat ⟨BitVec.ofNat 32 (r.2.num a 4), r.2.poisoned a 4⟩,
    r.2.put a 4 (atomNew (atomOp f) 32 (r.2.num a 4) x.val.toNat 0) (r.2.poisoned a 4 || x.poison))

/-- The crew and the bay store once the lanes `ls` have updated their words, in this order. -/
def atomLanes (ls : List Nat) (r : Crew × Store) : Crew × Store := ls.foldl (atomLane c f) r

/-- Only vector registers of the crew change. -/
theorem atomLane_kept (r : Crew × Store) (l : Nat) :
    (atomLane c f r l).1 = { r.1 with v := (atomLane c f r l).1.v } := by
  unfold atomLane
  dsimp only
  split <;> rfl

theorem atomLanes_kept (ls : List Nat) (r : Crew × Store) :
    (atomLanes c f ls r).1 = { r.1 with v := (atomLanes c f ls r).1.v } := by
  unfold atomLanes
  induction ls generalizing r with
  | nil => rfl
  | cons l ls ih => rw [List.foldl_cons, ih, atomLane_kept]

theorem atomLanes_byte_outside (ls : List Nat) (r : Crew × Store) (b : Nat)
    (h : ∀ l ∈ ls, ¬ within b (atomAddr c f l) 4) : (atomLanes c f ls r).2.byte b = r.2.byte b := by
  unfold atomLanes
  induction ls generalizing r with
  | nil => rfl
  | cons l ls ih =>
    rw [List.foldl_cons, ih _ fun k hk => h k (by simp [hk])]
    exact r.2.byte_put_outside _ 4 _ _ b (h l (by simp))

/-- What a lane has of its word and its destination: the word, its poison, and the register. -/
def atomView (l : Nat) (r : Crew × Store) : Nat × Bool × VReg :=
  (r.2.num (atomAddr c f l) 4, r.2.poisoned (atomAddr c f l) 4, r.1.readV l f.dst.toNat)

/-- A lane at another word changes neither a lane's word nor its destination. -/
theorem atomView_atomLane {l k : Nat} (r : Crew × Store) (hl : atomAddr c f l % 4 = 0) (hk : atomAddr c f k % 4 = 0)
    (other : k ≠ l) (apart : atomAddr c f k ≠ atomAddr c f l) :
    atomView c f l (atomLane c f r k) = atomView c f l r := by
  obtain ⟨value, poison⟩ := r.2.word_put_apart (atomNew (atomOp f) 32 (r.2.num (atomAddr c f k) 4)
    (c.readV k f.srcc.toNat).val.toNat 0) (r.2.poisoned (atomAddr c f k) 4 || (c.readV k f.srcc.toNat).poison) hk hl apart
  have register : (atomLane c f r k).1.readV l f.dst.toNat = r.1.readV l f.dst.toNat := by
    unfold atomLane
    dsimp only
    split
    · rfl
    · rw [Crew.readV_writeV, if_neg (by omega)]
  unfold atomView
  rw [register]
  exact congrArg₂ (fun n p => (n, p, r.1.readV l f.dst.toNat)) value poison

theorem atomView_atomLanes {l : Nat} (ls : List Nat) (r : Crew × Store) (hl : atomAddr c f l % 4 = 0)
    (apart : ∀ k ∈ ls, atomAddr c f k % 4 = 0 ∧ k ≠ l ∧ atomAddr c f k ≠ atomAddr c f l) :
    atomView c f l (atomLanes c f ls r) = atomView c f l r := by
  unfold atomLanes
  induction ls generalizing r with
  | nil => rfl
  | cons k ls ih =>
    obtain ⟨aligned, other, away⟩ := apart k (by simp)
    rw [List.foldl_cons, ih _ fun j hj => apart j (by simp [hj]), atomView_atomLane c f r hl aligned other away]

/-- A lane whose word no other lane names updates it once, and its destination holds the old value. -/
theorem atomLanes_lane {l : Nat} (ls : List Nat) (r : Crew × Store) (once : ls.Nodup) (mem : l ∈ ls)
    (aligned : ∀ k ∈ ls, atomAddr c f k % 4 = 0)
    (alone : ∀ k ∈ ls, k ≠ l → atomAddr c f k ≠ atomAddr c f l) :
    (atomLanes c f ls r).2.num (atomAddr c f l) 4 =
        atomNew (atomOp f) 32 (r.2.num (atomAddr c f l) 4) (c.readV l f.srcc.toNat).val.toNat 0 ∧
      (atomLanes c f ls r).1.readV l f.dst.toNat =
        if atomNoret f then r.1.readV l f.dst.toNat
        else ⟨BitVec.ofNat 32 (r.2.num (atomAddr c f l) 4), r.2.poisoned (atomAddr c f l) 4⟩ := by
  obtain ⟨xs, ys, rfl⟩ := List.append_of_mem mem
  have apart (k : Nat) (hk : k ∈ xs ∨ k ∈ ys) :
      atomAddr c f k % 4 = 0 ∧ k ≠ l ∧ atomAddr c f k ≠ atomAddr c f l := by
    have listed : k ∈ xs ++ l :: ys := by simp only [List.mem_append, List.mem_cons]; tauto
    have other : k ≠ l := by
      rintro rfl
      rw [List.nodup_middle, List.nodup_cons, List.mem_append] at once
      exact once.1 hk
    exact ⟨aligned k listed, other, alone k listed other⟩
  have before := atomView_atomLanes c f xs r (aligned l mem) fun k hk => apart k (.inl hk)
  have after := atomView_atomLanes c f ys (atomLane c f (atomLanes c f xs r) l) (aligned l mem)
    fun k hk => apart k (.inr hk)
  have split : atomLanes c f (xs ++ l :: ys) r = atomLanes c f ys (atomLane c f (atomLanes c f xs r) l) := by
    simp [atomLanes]
  rw [split]
  simp only [atomView, Prod.mk.injEq] at before after
  obtain ⟨word, poison, register⟩ := before
  obtain ⟨word', -, register'⟩ := after
  rw [word', register']
  refine ⟨?_, ?_⟩
  · rw [← word]
    exact Store.num_put_atomNew _ _ _ _ _ _ _
  · rw [← word, ← poison, ← register]
    unfold atomLane
    dsimp only
    split
    · rfl
    · rw [Crew.readV_writeV, if_pos rfl]

end

/-- The order of the lanes holds each of them once (R94). -/
theorem State.nodup_laneOrder (s : State) (ex : W32) : (s.laneOrder ex).Nodup := by
  unfold State.laneOrder
  rw [List.nodup_append_comm, List.take_append_drop]
  exact List.nodup_range.filter _

/-! The block while the lanes act. -/

/-- The bay store of `bay` is `m`, and nothing else of the bays is another than in `s`. -/
structure StoreIs (bay : Nat) (s t : State) (m : Store) : Prop where
  own : t.bay bay = { s.bay bay with store := m }
  bays : ∀ b, b ≠ bay → t.bay b = s.bay b
  unarmed : t.unarmed = true

theorem StoreIs.modBay {bay : Nat} {s t : State} {m : Store} (h : StoreIs bay s t m) (m' : Store) :
    StoreIs bay s (t.modBay bay fun b => { b with store := m' }) m' where
  own := by rw [State.bay_modBay_same, h.own]
  bays b hb := by rw [State.bay_modBay_other _ _ _ _ hb, h.bays b hb]
  unarmed := h.unarmed

/-- One lane's update in the block, as ATOM_LOCAL makes it. -/
def State.atomLane (bay : Nat) (c : Crew) (f : Short) (r : Crew × State) (l : Nat) : Crew × State :=
  let a := atomAddr c f l
  let (old, bad, s) := r.2.localRead bay false a 4
  let x := c.readV l f.srcc.toNat
  let new := atomNew (atomOp f) 32 old x.val.toNat 0
  let s := s.modBay bay fun b => { b with store := b.store.put a 4 new (bad || x.poison) }
  (if atomNoret f then r.1 else r.1.writeV l f.dst.toNat ⟨BitVec.ofNat 32 old, bad⟩, s)

/-- The lanes update the bay store, and nothing else of the block. -/
theorem State.atomLanes_store {bay : Nat} {s : State} (c : Crew) (f : Short) (ls : List Nat) (d : Crew) (t : State)
    (m : Store) (h : StoreIs bay s t m) :
    (ls.foldl (State.atomLane bay c f) (d, t)).1 = (atomLanes c f ls (d, m)).1 ∧
      StoreIs bay s (ls.foldl (State.atomLane bay c f) (d, t)).2 (atomLanes c f ls (d, m)).2 := by
  unfold atomLanes
  induction ls generalizing d t m with
  | nil => exact ⟨rfl, h⟩
  | cons l ls ih =>
    have store : (t.bay bay).store = m := by rw [h.own]
    have read := t.localRead_unarmed bay false (atomAddr c f l) 4 h.unarmed (by decide)
    have step : State.atomLane bay c f (d, t) l = ((Machine.atomLane c f (d, m) l).1,
        t.modBay bay fun b => { b with store := (Machine.atomLane c f (d, m) l).2 }) := by
      unfold State.atomLane
      dsimp only
      rw [read, ← store]
      rfl
    rw [List.foldl_cons, step]
    exact ih _ _ _ (h.modBay _)

/-- The state once the executing lanes of an atomic have acted. -/
def State.atomsDone (s : State) (bay slot : Nat) (f : Short) (c : Crew) : State :=
  let r := ((s.issued bay).laneOrder (c.executing f)).foldl (State.atomLane bay c f) (c, s.issued bay)
  (r.2.setCrew bay slot (r.1.advance {})).skipFree

/-- The crew and the bay store once the executing lanes of an atomic have acted. -/
def State.atomsEnd (s : State) (bay : Nat) (f : Short) (c : Crew) : Crew × Store :=
  atomLanes c f ((s.issued bay).laneOrder (c.executing f)) (c, (s.bay bay).store)

/-- The block has the crew and the store with which the lanes end, and nothing else of its bays has changed. -/
theorem State.bays_atomsDone {s : State} (bay slot : Nat) (f : Short) (c : Crew) (h : s.unarmed = true) :
    (s.atomsDone bay slot f c).bay bay =
        ({ s.bay bay with store := (s.atomsEnd bay f c).2 } : Bay).setCrew slot
          (some ((s.atomsEnd bay f c).1.advance {})) ∧
      ∀ b, b ≠ bay → (s.atomsDone bay slot f c).bay b = s.bay b := by
  have start : StoreIs bay s (s.issued bay) (s.bay bay).store :=
    ⟨s.issued_bay bay bay, fun b _ => s.issued_bay bay b, s.issued_unarmed bay h⟩
  obtain ⟨crew, block⟩ :=
    State.atomLanes_store c f ((s.issued bay).laneOrder (c.executing f)) c (s.issued bay) _ start
  have ends (b : Nat) : (s.atomsDone bay slot f c).bay b =
      ((((s.issued bay).laneOrder (c.executing f)).foldl (State.atomLane bay c f) (c, s.issued bay)).2.setCrew bay slot
        ((s.atomsEnd bay f c).1.advance {})).bay b := by
    rw [State.atomsEnd, ← crew]
    rfl
  constructor
  · rw [ends, State.bay_setCrew_same, block.own]
    rfl
  · intro b hb
    rw [ends, State.bay_setCrew_other _ _ _ _ _ hb, block.bays b hb]

/-- With its checks passed ATOM_LOCAL acts. -/
theorem exec_atomLocal {s : State} {bay slot : Nat} {f : Short} {c : Crew} (ha : AtPc s bay slot 0x57 f none c)
    (hi : Issues s bay slot f (atomForm f 0x2F) c) (hok : atomOk f = true) (h8 : atomOp f ≠ 8) (h9 : atomOp f ≠ 9)
    (hclean : atomPoison c f (c.executing f) = 0)
    (hplace : ∀ l, l < 32 → lane (c.executing f) l = true → localCause (s.bayEnd bay) (atomAddr c f l) 4 = none) :
    exec (.atomLocal bay slot f) s = .next (s.atomsDone bay slot f c) := by
  change execAtomLocal bay slot f s = _
  unfold execAtomLocal
  rw [if_neg (by simp [ha.fetches]), State.issue_guarded s bay slot _ f _ c _ ha hi rfl, if_neg (by simp [hok, h8, h9]),
    if_neg (by simp [hclean]), laneFault_none _ _ (by simpa using hplace)]
  rfl

/-- Settles O12: the lanes act one after another, and a lane alone at its word does so once. -/
theorem localAtomics : Obligations.LocalAtomics := by
  unfold Obligations.LocalAtomics
  intro s bay slot f c ha hi hok h8 h9 hclean hplace
  have listed := State.mem_laneOrder (s.issued bay) (c.executing f)
  have aligned (l : Nat) (hl : l ∈ (s.issued bay).laneOrder (c.executing f)) : atomAddr c f l % 4 = 0 := by
    obtain ⟨hlt, hlane⟩ := (listed l).1 hl
    have place := hplace l hlt hlane
    by_contra misaligned
    rw [localCause, if_pos misaligned] at place
    cases place
  have kept : (s.atomsEnd bay f c).1 = { c with v := (s.atomsEnd bay f c).1.v } := atomLanes_kept c f _ _
  obtain ⟨own, bays⟩ := State.bays_atomsDone bay slot f c hi.unarmed
  refine ⟨_, (s.atomsEnd bay f c).1.advance {}, exec_atomLocal ha hi hok h8 h9 hclean hplace, ?crew, ?moved,
    by rw [own]; rfl, fun j hj => ?crews, bays, fun a outside => ?bytes, fun l hlt hlane alone => ?lane⟩
  case crew => rw [State.crew, own, Bay.crew_setCrew_same]
  case moved =>
    rw [kept]
    exact movedTo_goto c _ (c.pc + 1) rfl rfl
  case crews =>
    rw [State.crew, own, Bay.crew_setCrew_other _ _ _ _ hj]
    rfl
  case bytes =>
    rw [own]
    refine atomLanes_byte_outside c f _ _ a fun l hl => ?_
    obtain ⟨hlt, hlane⟩ := (listed l).1 hl
    exact outside l hlt hlane
  case lane =>
    rw [own, Crew.readV_advance]
    refine atomLanes_lane c f _ _ (State.nodup_laneOrder _ _) ((listed l).2 ⟨hlt, hlane⟩) aligned fun k hk other => ?_
    obtain ⟨hklt, hklane⟩ := (listed k).1 hk
    exact alone k hklt hklane other

end Sys2Proof.Machine
end

section
/-! SUPPORT. Index slots, searches and re-scoring in the SRCH block (R191 to R211, R218). -/

namespace Sys2Proof.Machine

/-! What traces, events and changes of a request leave of Lantern, and what the block leaves of a request. -/

@[simp] theorem State.modReq_lantern (s : State) (n : Nat) (f : Request → Request) :
    (s.modReq n f).dev.lantern = s.dev.lantern := by
  unfold State.modReq
  split <;> rfl
@[simp] theorem State.raise_lantern (s : State) (n mask : Nat) : (s.raise n mask).dev.lantern = s.dev.lantern :=
  State.modReq_lantern ..
@[simp] theorem State.trace_lantern (s : State) (isl ty tent a b fl : Nat) :
    (s.trace isl ty tent a b fl).dev.lantern = s.dev.lantern :=
  State.trace_kept (·.dev.lantern) (fun _ _ _ => rfl) (fun _ _ => rfl) s _ _ _ _ _ _
@[simp] theorem State.msdEvent_lantern (s : State) (m code inst tent n : Nat) :
    (s.msdEvent m code inst tent n).dev.lantern = s.dev.lantern :=
  State.countEvent_kept (·.dev.lantern) (fun _ _ _ => rfl) s _ _ _ _ _ _ _
@[simp] theorem State.req_msdEvent (s : State) (m code inst tent n k : Nat) :
    (s.msdEvent m code inst tent n).req k = s.req k :=
  State.countEvent_kept (·.req k) (fun _ _ _ => rfl) s _ _ _ _ _ _ _
@[simp] theorem State.req_busy (s : State) (e n k : Nat) : (s.busy e n).req k = s.req k := rfl
@[simp] theorem State.busy_lantern (s : State) (e n : Nat) : (s.busy e n).dev.lantern = s.dev.lantern := rfl
@[simp] theorem State.req_modLantern (s : State) (f : LanternSt → LanternSt) (k : Nat) :
    (s.modLantern f).req k = s.req k := rfl
@[simp] theorem State.addFld_lantern (s : State) (off : Nat) (f : Nat × Nat) (n : Nat) :
    (s.addFld off f n).dev.lantern = s.dev.lantern := by
  rw [State.addFld, State.setFld_dev]
@[simp] theorem State.legStart_lantern (s : State) (n isl : Nat) :
    (s.legStart n isl).dev.lantern = s.dev.lantern := by
  unfold State.legStart
  split
  · rfl
  · simp

/-- A leg that starts is marked as started, with the legs its request had. -/
theorem State.req_legStart {s : State} {n : Nat} {p : Request} (h : s.req n = some p) (isl : Nat) :
    ∃ p', (s.legStart n isl).req n = some p' ∧ p'.started = true ∧ p'.legs = p.legs := by
  unfold State.legStart
  rw [h]
  exact ⟨_, State.req_modReq_of_req ((State.req_trace ..).trans h) _, rfl,
    Request.endWait_kept Request.legs (fun _ _ _ => rfl) p _⟩

/-! The queries of an engine. -/

@[simp] theorem State.setQuery_queries (s : State) (q : Query) :
    (s.setQuery q).dev.lantern.queries = withQuery s.dev.lantern.queries q := rfl
@[simp] theorem State.dropQuery_queries (s : State) (n : Nat) :
    (s.dropQuery n).dev.lantern.queries = s.dev.lantern.queries.filter (·.seq != n) := rfl
@[simp] theorem State.req_setQuery (s : State) (q : Query) (k : Nat) : (s.setQuery q).req k = s.req k := rfl
@[simp] theorem State.req_dropQuery (s : State) (n k : Nat) : (s.dropQuery n).req k = s.req k := rfl

@[simp] theorem State.lanternEvents_lantern (s : State) (e t : Nat) (a b : SearchStats) :
    (s.lanternEvents e t a b).dev.lantern = s.dev.lantern := by
  simp [State.lanternEvents]
@[simp] theorem State.req_lanternEvents (s : State) (e t : Nat) (a b : SearchStats) (k : Nat) :
    (s.lanternEvents e t a b).req k = s.req k := by
  simp [State.lanternEvents]

@[simp] theorem State.putSub_queries (s : State) (q : Query) (t j : Nat) (x : Sub) :
    (s.putSub q t j x).dev.lantern.queries =
      withQuery s.dev.lantern.queries { q with subs := q.subs.set j x.1, stats := x.2 } := by
  simp [State.putSub]
@[simp] theorem State.req_putSub (s : State) (q : Query) (t j : Nat) (x : Sub) (k : Nat) :
    (s.putSub q t j x).req k = s.req k := by
  simp [State.putSub]

/-! Registration (R193). -/

/-- The state in which a write of `v` to the slot's register has the descriptor read: VALID is not set yet. -/
def State.indexWritten (s : State) (x : Nat) (v : W64) : State :=
  (s.writeReg (rLanternIndexBase x) v).setFlag (rLanternIndexBase x) fLanternIndexBaseValid false

/-- The descriptor that the slot's register names. -/
def State.indexNamed (s : State) (x : Nat) : EM (Option Index) :=
  readIndex x (s.fld (rLanternIndexBase x) fLanternIndexBaseTent)
    (s.fld (rLanternIndexBase x) fLanternIndexBaseAddr * 64) (4 * s.dev.desc.msds)

/-- Put an index in its slot, or take it away. -/
def State.setIndex (s : State) (x : Nat) (ix : Option Index) : State :=
  s.modLantern fun l => { l with indexes := SMap.set (fun _ => none) l.indexes x ix }

@[simp] theorem State.indexOf_setIndex_same (s : State) (x : Nat) (ix : Option Index) :
    (s.setIndex x ix).indexOf x = ix := SMap.get_set_same ..
@[simp] theorem State.indexOf_setFlag (s : State) (off : Nat) (f : Nat × Nat) (b : Bool) (x : Nat) :
    (s.setFlag off f b).indexOf x = s.indexOf x := rfl

/-- A free slot whose register names a descriptor in range takes its index. -/
theorem execIndexRegister_registers (s : State) (x : Nat) (v : W64) (ix : Index) (s1 : State) (hx : x < 64)
    (hfree : s.flag (rLanternIndexBase x) fLanternIndexBaseValid = false)
    (hread : (s.indexWritten x v).indexNamed x (s.indexWritten x v) = .ok (some ix, s1)) :
    execIndexRegister x v s = .next (((s1.setIndex x (some ix)).setFlag (rLanternIndexBase x)
      fLanternIndexBaseDescError false).setFlag (rLanternIndexBase x) fLanternIndexBaseValid true) := by
  unfold State.indexNamed State.indexWritten at hread
  unfold execIndexRegister
  dsimp only
  rw [if_neg (by simp [hfree, hx]), hread]
  rfl

theorem execIndexRetire_clears (s : State) (x : Nat) (hx : x < 64) :
    execIndexRetire x s = .next ((s.setIndex x none).setFlag (rLanternIndexBase x) fLanternIndexBaseValid false) :=
  if_neg (Nat.not_le.2 hx)

/-! The start of a search (R191, R201). -/

/-- The request's SEARCH leg has its turn at its engine on index `x`: the engine may act, no earlier stamp waits, the
snapshot has settled, the inputs are good and the sub-queries find room. -/
structure SearchTurn (s : State) (n : Nat) (r : Request) (x : Index) : Prop where
  req : s.req n = some r
  waits : r.waitsSearch = true
  index : r.index = some x
  acts : s.blocked (islLantern (r.engine.getD 0)) = false
  first : s.searchBehind r = false
  settled : r.admitReq.tick + 8 ≤ s.copy (islLantern (r.engine.getD 0))
  query : s.queryOk r.tent x (qBlock r.desc) = true
  input : (legsOf r.desc).head? = some 3 → s.inputFault r = false
  room : s.lanternActive (r.engine.getD 0) + qQueries (qBlock r.desc) * x.shards.length ≤ 4096

/-- The request waits for a gate, counted once. -/
def State.gateWait (s : State) (n e : Nat) : State :=
  if s.dev.lantern.gateWaited.contains n then s
  else (s.addFld (rLanternStatus e) fLanternStatusGateWaits 1).modLantern fun l =>
    { l with gateWaited := l.gateWaited ++ [n] }

theorem State.gateWait_queries (s : State) (n e : Nat) :
    (s.gateWait n e).dev.lantern.queries = s.dev.lantern.queries := by
  unfold State.gateWait
  split
  · rfl
  · rw [State.modLantern_dev, State.addFld_lantern]

theorem State.mem_gateWaited_gateWait (s : State) (n e : Nat) : n ∈ (s.gateWait n e).dev.lantern.gateWaited := by
  unfold State.gateWait
  split
  · next waited => exact List.contains_iff_mem.1 waited
  · exact List.mem_append_right _ (List.mem_singleton_self n)

section
variable {s : State} {n : Nat} {r : Request} {x : Index} (h : SearchTurn s n r x)
include h

theorem SearchTurn.comes : ¬ ((!r.waitsSearch) = true ∨ s.blocked (islLantern (r.engine.getD 0)) = true ∨
    s.searchBehind r = true ∨ s.copy (islLantern (r.engine.getD 0)) < r.admitReq.tick + 8) := by
  simp [h.waits, h.acts, h.first, h.settled]

theorem SearchTurn.good : ¬ ((!s.queryOk r.tent x (qBlock r.desc)) = true ∨
    ((legsOf r.desc).head? == some 3 && s.inputFault r) = true) := by
  simpa [h.query] using h.input

/-- With no gate set a search that has its turn puts its query on the engine and starts its leg. -/
theorem SearchTurn.starts {s1 s2 s3 : State} {vs : List (List W32)} {q : Query}
    (hgate : gateShut x s = .ok (false, s1)) (hvec : queryVectors r x s1 = .ok (some vs, s2))
    (hq : startQuery r x (r.engine.getD 0) vs s2 = .ok (q, s3)) :
    execSearchStart n s = .next ((s3.modLantern fun l => { l with queries := l.queries ++ [q] }).legStart n
      (islLantern (r.engine.getD 0))) := by
  unfold execSearchStart
  simp only [h.req, if_neg h.comes, h.index, if_neg h.good, if_neg (Nat.not_lt.2 h.room), hgate, hvec, hq]

/-- With a gate set it waits. -/
theorem SearchTurn.gated {s1 : State} (hgate : gateShut x s = .ok (true, s1)) :
    execSearchStart n s = .next (s1.gateWait n (r.engine.getD 0)) := by
  unfold execSearchStart
  simp only [h.req, if_neg h.comes, h.index, if_neg h.good, if_neg (Nat.not_lt.2 h.room), hgate]
  rfl

end

/-! Rounds and granules (R202 to R206). -/

/-- The step ended a round: its entries were expanded. -/
def SubQuery.ran (y : SubQuery) : Bool := y.round.isNone && y.ended.isNone

/-- A round that has ended starts the count of its reads again. -/
def SubQuery.afterRound (y : SubQuery) : SubQuery := if y.ran then { y with roundReads := 0 } else y

theorem SubQuery.afterRound_kept (y : SubQuery) :
    y.afterRound.beam = y.beam ∧ y.afterRound.rounds = y.rounds ∧ y.afterRound.ended = y.ended := by
  unfold SubQuery.afterRound
  split <;> exact ⟨rfl, rfl, rfl⟩

/-- Whether every sub-query has ended takes of the one that is written back its end alone. -/
theorem all_ended_set (l : List SubQuery) (j : Nat) {y z : SubQuery} (h : z.ended = y.ended) :
    ((l.set j z).all fun x => x.ended.isSome) = (l.set j y).all fun x => x.ended.isSome := by
  have byEnds (x : SubQuery) : ((l.set j x).all fun x => x.ended.isSome) =
      ((l.map (·.ended)).set j x.ended).all Option.isSome := by
    rw [← List.map_set, List.all_map]
    rfl
  rw [byEnds, byEnds, h]

/-- The engine's clock is counted, and a round that has ended is traced and counted. -/
def State.roundCounted (s : State) (n : Nat) (r : Request) (q : Query) (y : SubQuery) : State :=
  if y.ran then
    ((s.busy (engLantern q.engine)).trace (islLantern q.engine) 0x50 r.tent y.roundReads n).msdEvent (q.engine / 4) 0x104
      (q.engine % 4) r.tent
  else s.busy (engLantern q.engine)

theorem State.roundCounted_lantern (s : State) (n : Nat) (r : Request) (q : Query) (y : SubQuery) :
    (s.roundCounted n r q y).dev.lantern = s.dev.lantern := by
  unfold State.roundCounted
  split <;> simp
theorem State.req_roundCounted (s : State) (n : Nat) (r : Request) (q : Query) (y : SubQuery) (k : Nat) :
    (s.roundCounted n r q y).req k = s.req k := by
  unfold State.roundCounted
  split <;> simp

/-- A step of a sub-query that runs writes it back, and the leg is ready once every sub-query has ended. -/
theorem execSearchRound_steps (s : State) (n j : Nat) (r : Request) (q : Query) (x : SubQuery) (y : Sub) (s1 : State)
    (hr : s.req n = some r) (hq : s.query n = some q) (hx : q.subs[j]? = some x) (hl : r.inLeg 3 = true)
    (he : x.ended = none) (hb : s.blocked (islLantern q.engine) = false)
    (hstep : stepSub (q.args (qBlock r.desc)) (x, q.stats) s = .ok (y, s1)) :
    execSearchRound n j s = .next
      (if ((q.subs.set j y.1.afterRound).all fun z => z.ended.isSome) = true then
        ((s1.roundCounted n r q y.1).putSub q r.tent j (y.1.afterRound, y.2)).modReq n fun p => { p with ready := true }
      else (s1.roundCounted n r q y.1).putSub q r.tent j (y.1.afterRound, y.2)) := by
  unfold execSearchRound
  simp only [hr, hq, hx]
  rw [if_neg (by simp [hl, he, hb])]
  simp only [hstep]
  rfl

/-- A granule that lands replaces its sub-query. -/
theorem execGranuleReadComplete_lands (s : State) (n j node : Nat) (r : Request) (q : Query) (x : SubQuery) (y : Sub)
    (s1 : State) (hr : s.req n = some r) (hq : s.query n = some q) (hx : q.subs[j]? = some x) (he : r.ended = none)
    (hb : s.blocked (islLantern q.engine) = false)
    (hland : land (q.args (qBlock r.desc)) node (x, q.stats) s = .ok (y, s1)) :
    execGranuleReadComplete n j node s = .next (s1.putSub q r.tent j y) := by
  unfold execGranuleReadComplete
  simp only [hr, hq, hx]
  rw [if_neg (by simp [he, hb])]
  simp only [hland]

/-! Re-scoring and its callbacks (R209, R210). -/

/-- The request's RESCORE leg runs and waits neither for a callback nor for the pass of R218. -/
structure RescoreRuns (s : State) (n : Nat) (r : Request) (q : Query) : Prop where
  req : s.req n = some r
  query : s.query n = some q
  leg : r.inLeg 4 = true
  acts : s.blocked (islLantern q.engine) = false
  noLists : q.lists = []
  noBatch : q.batch = none

/-- The query with the candidates of re-scoring: they wait for the callback where one is asked for, else they pass. -/
def Query.rescored (q : Query) (b : List Byte) (cs : List (Nat × Nat)) (subs : List SubQuery) (c : SearchStats) : Query :=
  let call := qBuf b != 0 && !qTruth b
  { q with cands := some cs, subs := subs, stats := c, todo := if call then cs else [], passed := if call then [] else cs }

section
variable {s : State} {n : Nat} {r : Request} {q : Query} (h : RescoreRuns s n r q)
include h

theorem RescoreRuns.passes :
    ¬ ((!r.inLeg 4) = true ∨ s.blocked (islLantern q.engine) = true ∨ q.lists ≠ [] ∨ q.batch.isSome = true) := by
  simp [h.leg, h.acts, h.noLists, h.noBatch]

theorem RescoreRuns.scores {cs : List (Nat × Nat)} {subs : List SubQuery} {c : SearchStats} {s1 : State}
    (hc : q.cands = none)
    (hall : rescoreAll (q.args (qBlock r.desc)) (qCodeOnly (qBlock r.desc)) ((List.range q.subs.length).zip q.subs) q.stats s =
      .ok ((cs, subs, c), s1)) :
    execRescoreLeg n s =
      .next ((s1.setQuery (q.rescored (qBlock r.desc) cs subs c)).lanternEvents q.engine r.tent q.stats c) := by
  unfold execRescoreLeg
  simp only [h.req, h.query, if_neg h.passes, hc, hall]
  rfl

theorem RescoreRuns.posts {q' : Query} {s1 : State} (hc : q.cands.isSome = true) (hread : q.reading = false)
    (htodo : q.todo ≠ []) (hpost : postBatch r q (qBlock r.desc) s.liveTick s = .ok (q', s1)) :
    execRescoreLeg n s = .next (s1.setQuery q') := by
  obtain ⟨cs, hcs⟩ := Option.isSome_iff_exists.1 hc
  unfold execRescoreLeg
  simp only [h.req, h.query, if_neg h.passes, hcs, hread, Bool.false_eq_true, if_false, if_pos htodo, hpost]

theorem RescoreRuns.finishes (hc : q.cands.isSome = true) (hread : q.reading = false) (htodo : q.todo = []) :
    execRescoreLeg n s = .next (s.finishQuery r q) := by
  obtain ⟨cs, hcs⟩ := Option.isSome_iff_exists.1 hc
  unfold execRescoreLeg
  simp only [h.req, h.query, if_neg h.passes, hcs, hread, Bool.false_eq_true, if_false, if_neg (not_not_intro htodo)]

end

/-- The query is dropped, and its request has the conditions of its lists, the first of them and the statistics. -/
def State.queryEnded (s : State) (r : Request) (q : Query) : State :=
  let ls := q.results (q.args (qBlock r.desc)) (qBlock r.desc)
  let t := s.raise r.seq (ls.foldl (fun c x => c ||| x.conditions) 0)
  (t.dropQuery r.seq).modReq r.seq fun p => { p with list := ls.headD {}, stats := q.record t.free, ready := true }

/-- Where no pass of R218 follows, the finished query is dropped and its request is ready with the first list. -/
theorem State.finishQuery_ends (s : State) (r : Request) (q : Query) (hr : s.req r.seq = some r)
    (ht : qTruth (qBlock r.desc) = false) :
    (∃ p, (s.finishQuery r q).req r.seq = some p ∧ p.ready = true ∧
      p.list = (q.results (q.args (qBlock r.desc)) (qBlock r.desc)).headD {}) ∧
    (s.finishQuery r q).dev.lantern.queries = s.dev.lantern.queries.filter (·.seq != r.seq) := by
  have ended : s.finishQuery r q = { s.queryEnded r q with free := (s.queryEnded r q).free + 2 } := by
    unfold State.finishQuery
    simp only [ht, Bool.false_eq_true, if_false]
    rfl
  have req : (s.queryEnded r q).req r.seq = _ :=
    State.req_modReq_of_req ((State.req_dropQuery ..).trans (State.req_modReq_of_req hr _)) _
  have queries : (s.queryEnded r q).dev.lantern.queries = s.dev.lantern.queries.filter (·.seq != r.seq) := by
    rw [State.queryEnded, State.modReq_lantern, State.dropQuery_queries, State.raise_lantern]
  rw [ended]
  exact ⟨⟨_, req, rfl, rfl⟩, queries⟩

theorem Query.endBatch_batch (q : Query) (ok : Nat → Bool) (k : Nat) : (q.endBatch ok k).batch = none := by
  unfold Query.endBatch
  split
  · assumption
  · rfl

/-- A batch that times out passes none of its candidates and is counted. -/
theorem Query.endBatch_timeout {q : Query} {x : Batch64} (h : q.batch = some x) :
    (q.endBatch (fun _ => false) 1).passed = q.passed ∧
      (q.endBatch (fun _ => false) 1).stats.callbackTimeouts = q.stats.callbackTimeouts + 1 := by
  unfold Query.endBatch
  simp [h]

theorem execCallbackDone_ends (s : State) (n : Nat) (r : Request) (q : Query) (x : Batch64) (h : List Byte) (s1 : State)
    (hr : s.req n = some r) (hq : s.query n = some q) (he : r.ended = none) (hbatch : q.batch = some x)
    (hb : s.blocked (islLantern q.engine) = false)
    (hread : EM.read r.tent (qBuf (qBlock r.desc)) 64 s = .ok (h, s1)) (hdone : field h 8 8 = 1) :
    execCallbackDone n s = .next (s1.setQuery (q.endBatch (fun k => (field h 0x10 8).testBit k) 0)) := by
  unfold execCallbackDone
  simp only [hr, hq]
  rw [if_neg (by simp [he, hbatch, hb])]
  simp only [hread]
  rw [if_neg (not_not_intro hdone)]

theorem execCallbackTimeout_ends (s : State) (n : Nat) (q : Query) (x : Batch64) (hq : s.query n = some q)
    (hbatch : q.batch = some x) (hb : s.blocked (islLantern q.engine) = false)
    (hlate : x.since + 1000 * s.fld rLanternCfg fLanternCfgCallbackTimeoutUs ≤ s.liveTick) :
    execCallbackTimeout n s = .next (s.setQuery (q.endBatch (fun _ => false) 1)) := by
  unfold execCallbackTimeout
  simp only [hq, hbatch]
  rw [if_neg (by simp [hb, hlate])]

/-! Ground truth (R218). -/

/-- The pass drops the query, and its request is ready with the search's first list. -/
theorem execGroundTruthPass_ends (s : State) (n : Nat) (r : Request) (q : Query) (ns : List (List (Nat × List W32)))
    (s1 : State) (hr : s.req n = some r) (hq : s.query n = some q) (hl : r.inLeg 4 = true) (hlists : q.lists ≠ [])
    (hb : s.blocked (islSequencer r.home) = false)
    (hnodes : ((List.range q.index.shards.length).mapM fun j => truthNodes (q.args (qBlock r.desc)) j
      (List.range (q.index.shard j).nodes)) s = Except.ok (ns, s1)) :
    ∃ result, execGroundTruthPass n s = .next ((s1.dropQuery n).modReq n fun p =>
      { p with list := q.lists.headD {}, result := result, ready := true }) := by
  unfold execGroundTruthPass
  simp only [hr, hq]
  rw [if_neg (by simp [hl, hlists, hb])]
  simp only [hnodes]
  exact ⟨_, rfl⟩

/-- Settles O38: each command's equation where its premises hold, with what tracing, counting and the change of the
request leave of Lantern. -/
theorem searchesRun : Obligations.SearchesRun := by
  unfold Obligations.SearchesRun
  refine ⟨?register, ?retire, ?start, ?round, ?granule, ?rescore, ?done, ?timeout, ?truth⟩
  case register =>
    intro s x v ix s1 hx hfree hread
    refine ⟨_, execIndexRegister_registers s x v ix s1 hx hfree hread, ?_, State.flag_setFlag_same _ _ _ _ (by decide) rfl⟩
    rw [State.indexOf_setFlag, State.indexOf_setFlag, State.indexOf_setIndex_same]
  case retire =>
    intro s x hx
    refine ⟨_, execIndexRetire_clears s x hx, ?_, State.flag_setFlag_same _ _ _ _ (by decide) rfl, rfl⟩
    rw [State.indexOf_setFlag, State.indexOf_setIndex_same]
  case start =>
    intro s n r x hr hw hi hb hbehind hcopy hok hin hroom
    have turn : SearchTurn s n r x := ⟨hr, hw, hi, hb, hbehind, hcopy, hok, hin, hroom⟩
    refine ⟨fun s1 vs s2 q s3 hgate hvec hq => ⟨_, turn.starts hgate hvec hq, ?_, fun p hp => ?_⟩, fun s1 hgate => ?_⟩
    · rw [State.legStart_lantern, State.modLantern_dev]
    · exact State.req_legStart ((State.req_modLantern ..).trans hp) _
    · exact ⟨_, turn.gated hgate, State.gateWait_queries .., State.mem_gateWaited_gateWait ..⟩
  case round =>
    intro s n j r q x y s1 hr hq hx hl he hb hstep
    obtain ⟨hbeam, hrounds, hended⟩ := y.1.afterRound_kept
    have queries := (s1.roundCounted n r q y.1).putSub_queries q r.tent j (y.1.afterRound, y.2)
    rw [State.roundCounted_lantern] at queries
    refine ⟨_, y.1.afterRound, execSearchRound_steps s n j r q x y s1 hr hq hx hl he hb hstep, hbeam, hrounds, hended, ?_,
      fun hall p hp => ?_⟩
    · split
      · rw [State.modReq_lantern, queries]
      · exact queries
    · rw [if_pos (by rw [all_ended_set _ _ hended, hall])]
      exact State.req_modReq_of_req (by rw [State.req_putSub, State.req_roundCounted, hp]) _
  case granule =>
    intro s n j node r q x y s1 hr hq hx he hb hland
    exact ⟨_, execGranuleReadComplete_lands s n j node r q x y s1 hr hq hx he hb hland, State.putSub_queries ..⟩
  case rescore =>
    intro s n r q hr hseq hq hl hb hlists hbatch
    have runs : RescoreRuns s n r q := ⟨hr, hq, hl, hb, hlists, hbatch⟩
    refine ⟨fun cs subs c s1 hc hall => ?_, fun q' s1 hc hread htodo hpost => ?_, fun hc hread htodo ht => ?_⟩
    · refine ⟨_, q.rescored (qBlock r.desc) cs subs c, runs.scores hc hall, ?_, rfl, rfl, rfl⟩
      rw [State.lanternEvents_lantern, State.setQuery_queries]
    · exact ⟨_, runs.posts hc hread htodo hpost, State.setQuery_queries ..⟩
    · subst hseq
      obtain ⟨⟨p, hp, ready, list⟩, queries⟩ := s.finishQuery_ends r q hr ht
      exact ⟨_, p, runs.finishes hc hread htodo, hp, ready, list, queries⟩
  case done =>
    intro s n r q x h s1 hr hq he hbatch hb hread hdone
    exact ⟨_, _, execCallbackDone_ends s n r q x h s1 hr hq he hbatch hb hread hdone, State.setQuery_queries .., rfl,
      Query.endBatch_batch ..⟩
  case timeout =>
    intro s n q x hq hbatch hb hlate
    obtain ⟨passed, counted⟩ := Query.endBatch_timeout hbatch
    exact ⟨_, _, execCallbackTimeout_ends s n q x hq hbatch hb hlate, State.setQuery_queries .., Query.endBatch_batch ..,
      passed, counted⟩
  case truth =>
    intro s n r q ns s1 hr hq hl hlists hb hnodes
    obtain ⟨result, run⟩ := execGroundTruthPass_ends s n r q ns s1 hr hq hl hlists hb hnodes
    refine ⟨_, run, ?_, fun p hp => ⟨_, State.req_modReq_of_req ((State.req_dropQuery ..).trans hp) _, rfl, rfl⟩⟩
    rw [State.modReq_lantern, State.dropQuery_queries]

end Sys2Proof.Machine
end

section
/-! SUPPORT. Mutations of an index and the reclamation of its versions (R212 to R217). -/

namespace Sys2Proof.Machine

/-! The start of a mutation leaves Lantern alone; a mutation that is prepared is left to commit. -/

theorem State.mutationStart_lantern (s : State) (r : Request) (isl : Nat) :
    (s.mutationStart r isl).dev.lantern = s.dev.lantern := by
  unfold State.mutationStart
  split
  · rfl
  · exact State.legStart_lantern ..

/-- A prepared mutation waits for its commit. -/
def State.addMutation (s : State) (m : Mutation) : State :=
  s.modLantern fun l => { l with mutations := l.mutations ++ [m] }

/-- The request waits for version granules, counted once (R217). -/
def State.versionStall (s : State) (n e : Nat) : State :=
  if s.dev.lantern.stalled.contains n then s
  else (s.addFld (rLanternStatus e) fLanternStatusVersionStalls 1).modLantern fun l =>
    { l with stalled := l.stalled ++ [n] }

theorem State.versionStall_mutations (s : State) (n e : Nat) :
    (s.versionStall n e).dev.lantern.mutations = s.dev.lantern.mutations := by
  unfold State.versionStall
  split
  · rfl
  · rw [State.modLantern_dev, State.addFld_lantern]

theorem State.mem_stalled_versionStall (s : State) (n e : Nat) : n ∈ (s.versionStall n e).dev.lantern.stalled := by
  unfold State.versionStall
  split
  · next waited => exact List.contains_iff_mem.1 waited
  · exact List.mem_append_right _ (List.mem_singleton_self n)

section
variable {s : State} {n : Nat} {r : Request} {x : Index} {s1 : State}

theorem execIndexInsert_prepares {m : Mutation} (hturn : s.mutationReady n 1 = some (r, some x))
    (hb : s.blocked (islLantern (mutationEngine r x)) = false)
    (hins : insertNode r x (s.mutationStart r (islLantern (mutationEngine r x))) = .ok (some m, s1)) :
    execIndexInsert n s = .next (s1.addMutation m) := by
  unfold execIndexInsert
  simp only [hturn, hb, Bool.false_eq_true, if_false, hins]
  rfl

theorem execIndexInsert_stalls (hturn : s.mutationReady n 1 = some (r, some x))
    (hb : s.blocked (islLantern (mutationEngine r x)) = false)
    (hins : insertNode r x (s.mutationStart r (islLantern (mutationEngine r x))) = .ok (none, s1)) :
    execIndexInsert n s =
      .next ((s.mutationStart r (islLantern (mutationEngine r x))).versionStall n (mutationEngine r x)) := by
  unfold execIndexInsert
  simp only [hturn, hb, Bool.false_eq_true, if_false, hins]
  rfl

theorem execIndexDelete_prepares {m : Mutation} (hturn : s.mutationReady n 2 = some (r, some x))
    (hb : s.blocked (islLantern (mutationEngine r x)) = false)
    (hdel : deleteNode r x (s.mutationStart r (islLantern (mutationEngine r x))) = .ok (some m, s1)) :
    execIndexDelete n s = .next (s1.addMutation m) := by
  unfold execIndexDelete
  simp only [hturn, hb, Bool.false_eq_true, if_false, hdel]
  rfl

/-- A DELETE of a deleted node has no effect and is ready at once (R214). -/
theorem execIndexDelete_deleted (hturn : s.mutationReady n 2 = some (r, some x))
    (hb : s.blocked (islLantern (mutationEngine r x)) = false)
    (hdel : deleteNode r x (s.mutationStart r (islLantern (mutationEngine r x))) = .ok (none, s1)) :
    execIndexDelete n s = .next (s1.modReq n fun q => { q with ready := true }) := by
  unfold execIndexDelete
  simp only [hturn, hb, Bool.false_eq_true, if_false, hdel]

end

/-! The commit (R215). -/

/-- The versions of a mutation are committed at stamp `c`. -/
def State.commitVersions (s : State) (m : Mutation) (c : Stamp) : State :=
  s.setVersions m.index m.shard ((s.versions m.index m.shard).map fun v =>
    if (m.versions.map (·.2)).contains v.addr then { v with commit := some c } else v)

/-- The mutation of a request is over. -/
def State.dropMutation (s : State) (n : Nat) : State :=
  s.modLantern fun l => { l with mutations := l.mutations.filter (·.seq != n) }

@[simp] theorem State.dropMutation_mutations (s : State) (n : Nat) :
    (s.dropMutation n).dev.lantern.mutations = s.dev.lantern.mutations.filter (·.seq != n) := rfl
@[simp] theorem State.commitVersions_mutations (s : State) (m : Mutation) (c : Stamp) :
    (s.commitVersions m c).dev.lantern.mutations = s.dev.lantern.mutations := rfl
@[simp] theorem State.req_dropMutation (s : State) (n k : Nat) : (s.dropMutation n).req k = s.req k := rfl
@[simp] theorem State.req_commitVersions (s : State) (m : Mutation) (c : Stamp) (k : Nat) :
    (s.commitVersions m c).req k = s.req k := rfl

theorem execMutationCommit_commits (s : State) (n : Nat) (r : Request) (m : Mutation) (s1 : State)
    (hr : s.req n = some r) (hm : s.dev.lantern.mutations.find? (·.seq == n) = some m) (he : r.ended = none)
    (hb : s.blocked (islLantern (mutationEngine r m.index)) = false)
    (hcommit : commitMutation m (s.originate (islLantern (mutationEngine r m.index))).1
      (s.originate (islLantern (mutationEngine r m.index))).2 = .ok ((), s1)) :
    execMutationCommit n s =
      .next (((s1.commitVersions m (s.originate (islLantern (mutationEngine r m.index))).1).dropMutation n).modReq n
        fun q => { q with result := (s.originate (islLantern (mutationEngine r m.index))).1.bytes, ready := true }) := by
  unfold execMutationCommit
  simp only [hr, hm]
  rw [if_neg (by simp [he, hb])]
  simp only [hcommit]
  rfl

/-! Reclamation (R217). -/

/-- `t` comes from `s` by dropping committed versions: the tick and the engines' reclamations are the same, and every
version without a commit is still there. -/
structure DropsCommitted (s t : State) : Prop where
  ao : t.ao = s.ao
  reclaimed : t.dev.lantern.reclaimed = s.dev.lantern.reclaimed
  keeps : ∀ k, ∀ v ∈ SMap.get (fun _ => []) s.dev.lantern.versions k, v.commit = none →
    v ∈ SMap.get (fun _ => []) t.dev.lantern.versions k

theorem DropsCommitted.refl (s : State) : DropsCommitted s s := ⟨rfl, rfl, fun _ _ hv _ => hv⟩

theorem DropsCommitted.trans {s t u : State} (h : DropsCommitted s t) (h' : DropsCommitted t u) : DropsCommitted s u :=
  ⟨h'.ao.trans h.ao, h'.reclaimed.trans h.reclaimed, fun k v hv hc => h'.keeps k v (h.keeps k v hv hc) hc⟩

/-- Steps that drop committed versions alone do so together. -/
theorem DropsCommitted.foldl {α : Type} {f : State → α → State} (h : ∀ s a, DropsCommitted s (f s a)) (l : List α)
    (s : State) : DropsCommitted s (l.foldl f s) :=
  List.foldlRecOn l f (DropsCommitted.refl s) fun _ sofar a _ => sofar.trans (h _ a)

theorem State.reclaimable_uncommitted (s : State) (x : Index) (l : List Version) {v : Version} (h : v.commit = none) :
    s.reclaimable x l v = false := by
  unfold State.reclaimable
  rw [h]

/-- Engine `e` reclaims what it may of shard `j`, where it owns the shard. -/
def State.reclaimShard (s : State) (e : Nat) (x : Index) (j : Nat) : State :=
  if (x.shard j).owner = e then
    s.setVersions x j ((s.versions x j).filter fun v => !s.reclaimable x (s.versions x j) v)
  else s

theorem State.dropsCommitted_reclaimShard (s : State) (e : Nat) (x : Index) (j : Nat) :
    DropsCommitted s (s.reclaimShard e x j) := by
  unfold State.reclaimShard
  split
  · refine ⟨rfl, rfl, fun k v hv hc => ?_⟩
    by_cases hk : k = versionKey x j
    · subst hk
      have kept : v ∈ (s.versions x j).filter fun v => !s.reclaimable x (s.versions x j) v :=
        List.mem_filter.2 ⟨hv, by rw [State.reclaimable_uncommitted _ _ _ hc]; rfl⟩
      simpa only [State.setVersions, State.modLantern_dev, SMap.get_set_same] using kept
    · simpa only [State.setVersions, State.modLantern_dev, SMap.get_set_other _ _ _ _ _ hk] using hv
  · exact .refl s

/-- Engine `e` goes through the shards of every index. -/
def State.reclaimShards (s : State) (e : Nat) : State :=
  ((List.range 64).filterMap s.indexOf).foldl
    (fun s x => (List.range x.shards.length).foldl (fun s j => s.reclaimShard e x j) s) s

theorem State.dropsCommitted_reclaimShards (s : State) (e : Nat) : DropsCommitted s (s.reclaimShards e) :=
  .foldl (fun s x => .foldl (fun s j => s.dropsCommitted_reclaimShard e x j) _ s) _ s

theorem execVersionReclaim_due (s : State) (e : Nat) (he : e < 4 * s.dev.desc.msds)
    (hb : s.blocked (islLantern e) = false)
    (hdue : SMap.get (fun _ => 0) s.dev.lantern.reclaimed e + 1000 * s.fld rLanternCfg fLanternCfgReclaimIntervalUs ≤
      s.ao.tick) :
    execVersionReclaim e s = .next ((s.reclaimShards e).modLantern fun l =>
      { l with reclaimed := SMap.set (fun _ => 0) l.reclaimed e (s.reclaimShards e).ao.tick }) :=
  if_neg (by simp [hb, he, hdue])

/-- Settles O39: each command's equation where its premises hold; reclamation is a run of steps over the shards, each
of which keeps the versions without a commit. -/
theorem indexMutations : Obligations.IndexMutations := by
  unfold Obligations.IndexMutations
  refine ⟨?insert, ?delete, ?commit, ?reclaim⟩
  case insert =>
    intro s n r x hturn hb
    refine ⟨fun m s1 hins => ⟨_, execIndexInsert_prepares hturn hb hins, rfl⟩, fun s1 hins =>
      ⟨_, execIndexInsert_stalls hturn hb hins, State.mem_stalled_versionStall .., ?_⟩⟩
    rw [State.versionStall_mutations, State.mutationStart_lantern]
  case delete =>
    intro s n r x hturn hb
    exact ⟨fun m s1 hdel => ⟨_, execIndexDelete_prepares hturn hb hdel, rfl⟩, fun s1 hdel =>
      ⟨_, execIndexDelete_deleted hturn hb hdel, State.modReq_lantern .., fun p hp => State.req_modReq_of_req hp _⟩⟩
  case commit =>
    intro s n r m s1 hr hm he hb hcommit
    refine ⟨_, execMutationCommit_commits s n r m s1 hr hm he hb hcommit, ?_, fun p hp => ?_⟩
    · rw [State.modReq_lantern, State.dropMutation_mutations, State.commitVersions_mutations]
    · exact State.req_modReq_of_req (by rw [State.req_dropMutation, State.req_commitVersions, hp]) _
  case reclaim =>
    intro s e he hb hdue
    have drops := s.dropsCommitted_reclaimShards e
    refine ⟨_, execVersionReclaim_due s e he hb hdue, ?_, drops.keeps⟩
    rw [State.modLantern_dev, SMap.get_set_same, drops.ao]

end Sys2Proof.Machine
end

section
/-! SUPPORT. The tables: registration, commands and their windows, sampling, replica copies, bucket moves and version
switches (R221 to R238). -/

namespace Sys2Proof.Machine

/-! What logs, traces, counts and ends of a request leave of the table engines. -/

/-- Logging a detection changes registers, the issuer's island and the observation and RAS units alone. -/
theorem State.logAt_kept {α : Type} (p : State → α) (hwr : ∀ s off v, p (State.wr s off v) = p s)
    (hisl : ∀ s n i, p (State.setIsl s n i) = p s) (hobs : ∀ s f, p (State.modObs s f) = p s)
    (hras : ∀ s f, p (State.modRas s f) = p s) (s : State) (isl : Nat) (r : ErrRec) : p (s.logAt isl r).2 = p s := by
  have fired : p (if r.detector < 0x0900 then (none, s) else s.fire isl r.detector).2 = p s := by
    split
    · rfl
    · exact State.fire_kept p hwr s isl r.detector
  unfold State.logAt
  generalize (if r.detector < 0x0900 then (none, s) else s.fire isl r.detector) = q at fired
  obtain ⟨inj, u⟩ := q
  have counted (st : Stamp) :
      p (((u.originate isl).2.countClass r.detector r.severity).errorSource r.detector r.severity st) = p s :=
    calc
      _ = p ((u.originate isl).2.countClass r.detector r.severity) := State.errorSource_kept p hobs _ _ _ _
      _ = p (u.originate isl).2 := State.countClass_kept p hwr _ _ _
      _ = p u := State.originate_kept p hisl u isl
      _ = p s := fired
  dsimp only
  split <;> rw [hras, counted]

@[simp] theorem State.logAt_tables (s : State) (isl : Nat) (r : ErrRec) : (s.logAt isl r).2.dev.tables = s.dev.tables :=
  State.logAt_kept (·.dev.tables) (fun _ _ _ => rfl) (fun _ _ _ => rfl) (fun _ _ => rfl) (fun _ _ => rfl) s isl r
@[simp] theorem State.log_tables (s : State) (isl : Nat) (r : ErrRec) : (s.log isl r).dev.tables = s.dev.tables :=
  s.logAt_tables isl r
@[simp] theorem State.originate_tables (s : State) (n : Nat) : (s.originate n).2.dev.tables = s.dev.tables := rfl
@[simp] theorem State.tblSlot_originate (s : State) (n x : Nat) : (s.originate n).2.tblSlot x = s.tblSlot x := rfl
@[simp] theorem State.modReq_tables (s : State) (n : Nat) (f : Request → Request) :
    (s.modReq n f).dev.tables = s.dev.tables := by
  unfold State.modReq
  split <;> rfl
@[simp] theorem State.endAt_tables (s : State) (n status isl : Nat) (poison : Bool) :
    (s.endAt n status isl poison).dev.tables = s.dev.tables := by
  unfold State.endAt State.endRequest
  dsimp only
  split
  · rw [State.modReq_tables, State.logAt_tables]
  · rw [State.modReq_tables, State.originate_tables]
@[simp] theorem State.addFld_tables (s : State) (off : Nat) (f : Nat × Nat) (n : Nat) :
    (s.addFld off f n).dev.tables = s.dev.tables := by
  rw [State.addFld, State.setFld_dev]
@[simp] theorem State.msdEvent_tables (s : State) (m code inst tent n : Nat) :
    (s.msdEvent m code inst tent n).dev.tables = s.dev.tables :=
  State.countEvent_kept (·.dev.tables) (fun _ _ _ => rfl) s _ _ _ _ _ _ _
@[simp] theorem State.busy_tables (s : State) (e n : Nat) : (s.busy e n).dev.tables = s.dev.tables := rfl

@[simp] theorem State.setTblReg_regs (s : State) (r : TblReg) :
    (s.setTblReg r).dev.tables.regs = withReg s.dev.tables.regs r := rfl
@[simp] theorem State.setTblReg_cmds (s : State) (r : TblReg) :
    (s.setTblReg r).dev.tables.cmds = s.dev.tables.cmds := rfl
@[simp] theorem State.setTblCmd_cmds (s : State) (c : TblCmd) :
    (s.setTblCmd c).dev.tables.cmds = withCmd s.dev.tables.cmds c := rfl

/-- A table found in a slot is registered and not retired. -/
theorem State.tblSlot_some {s : State} {x : Nat} {r : TblReg} (h : s.tblSlot x = some r) :
    r ∈ s.dev.tables.regs ∧ r.retired = false := by
  have found := List.find?_some h
  simp only [Bool.and_eq_true, Bool.not_eq_true'] at found
  exact ⟨List.mem_of_find?_eq_some h, found.2⟩

theorem mem_withReg {l : List TblReg} {q r : TblReg} (hq : q ∈ l) (hid : q.id = r.id) : r ∈ withReg l r :=
  List.mem_map.2 ⟨q, hq, if_pos hid⟩

/-! The sweep of what has drained (R221, R236). -/

/-- A registration after the sweep: its old version is gone once no command is bound to it. -/
def State.swept (s : State) (r : TblReg) : TblReg :=
  match r.old with
  | some o => if (s.tblRefs r.id).any (·.version == o.version) then r else { r with old := none }
  | none => r

/-- Of a registration the sweep touches the old version alone. -/
theorem State.swept_kept {α : Type} (p : TblReg → α) (h : ∀ r o, p { r with old := o } = p r) (s : State) (r : TblReg) :
    p (s.swept r) = p r := by
  unfold State.swept
  split
  · split
    · rfl
    · exact h r none
  · rfl

theorem State.tblSweep_regs (s : State) : s.tblSweep.dev.tables.regs =
    (s.dev.tables.regs.filter fun r => !r.retired || s.tblRefs r.id != []).map s.swept := rfl
@[simp] theorem State.tblSweep_cmds (s : State) : s.tblSweep.dev.tables.cmds = s.dev.tables.cmds := rfl
@[simp] theorem State.tblSweep_done (s : State) : s.tblSweep.dev.tables.done = s.dev.tables.done := rfl
@[simp] theorem State.req_tblSweep (s : State) (k : Nat) : s.tblSweep.req k = s.req k := rfl
theorem State.flag_tblSweep (s : State) (off : Nat) (f : Nat × Nat) : s.tblSweep.flag off f = s.flag off f := rfl

/-- A sweep leaves no registration that was not there. -/
theorem State.of_mem_tblSweep {s : State} {r : TblReg} (h : r ∈ s.tblSweep.dev.tables.regs) :
    ∃ q ∈ s.dev.tables.regs, s.swept q = r := by
  rw [State.tblSweep_regs, List.mem_map] at h
  obtain ⟨q, hq, rfl⟩ := h
  exact ⟨q, (List.mem_filter.1 hq).1, rfl⟩

/-- A registration that is not retired outlives the sweep. -/
theorem State.swept_mem_tblSweep {s : State} {r : TblReg} (h : r ∈ s.dev.tables.regs) (hr : r.retired = false) :
    s.swept r ∈ s.tblSweep.dev.tables.regs := by
  rw [State.tblSweep_regs]
  exact List.mem_map_of_mem (List.mem_filter.2 ⟨h, by rw [hr]; rfl⟩)

/-! Registration (R221, R222). -/

/-- The state in which a write of `v` to the slot's register has the descriptor read: VALID is not set yet. -/
def State.tableWritten (s : State) (x : Nat) (v : W64) : State :=
  (s.writeReg (rTblDescBase x) v).setFlag (rTblDescBase x) fTblDescBaseValid false

/-- The tent that the slot's register names, and the descriptor. -/
def State.tableTent (s : State) (x : Nat) : Nat := s.fld (rTblDescBase x) fTblDescBaseTent
def State.tableNamed (s : State) (x : Nat) : EM (Option TblVer) :=
  readTable (s.tableTent x) (s.fld (rTblDescBase x) fTblDescBaseAddr * 64) []

/-- The registration that the next number goes to. -/
def State.newTable (s : State) (x tent : Nat) (d : TblVer) : TblReg :=
  { id := s.dev.tables.nextReg, slot := x, tent := tent, cur := d, sampled := s.ao.tick }
/-- The table of a slot is registered. -/
def State.addTable (s : State) (x tent : Nat) (d : TblVer) : State :=
  s.modTables fun y => { y with regs := y.regs ++ [s.newTable x tent d], nextReg := y.nextReg + 1 }

/-- A free slot whose register names a descriptor in range takes its table where the replicas fit. -/
theorem execTableRegister_registers {s : State} {x : Nat} {v : W64} {d : TblVer} {s1 : State} (hx : x < 256)
    (hfree : s.flag (rTblDescBase x) fTblDescBaseValid = false)
    (hread : (s.tableWritten x v).tableNamed x (s.tableWritten x v) = .ok (some d, s1))
    (hfit : s1.replicaUsed + d.replicaSpace ≤ 2 ^ 28) :
    execTableRegister x v s = .next (((s1.addTable x ((s.tableWritten x v).tableTent x) d).setFlag (rTblDescBase x)
      fTblDescBaseDescError false).setFlag (rTblDescBase x) fTblDescBaseValid true) := by
  unfold State.tableNamed State.tableTent State.tableWritten at hread
  unfold execTableRegister
  dsimp only
  rw [if_neg (by simp [hfree, hx]), hread]
  exact if_neg (Nat.not_lt.2 hfit)

/-- The tables of a slot are retired. -/
def State.retireSlot (s : State) (x : Nat) : State :=
  s.modTables fun y => { y with regs := y.regs.map fun r => if r.slot = x then { r with retired := true } else r }

theorem execTableRetire_retires (s : State) {x : Nat} (hx : x < 256) :
    execTableRetire x s = .next (((s.retireSlot x).setFlag (rTblDescBase x) fTblDescBaseValid false).tblSweep) :=
  if_neg (Nat.not_le.2 hx)

theorem State.retired_of_mem_retireSlot {s : State} {x : Nat} {r : TblReg}
    (h : r ∈ (s.retireSlot x).dev.tables.regs) (hslot : r.slot = x) : r.retired = true := by
  obtain ⟨q, -, rfl⟩ := List.mem_map.1 h
  split
  · rfl
  · next other => exact absurd (by rwa [if_neg other] at hslot) other

/-! Issue (R225 to R227). -/

/-- A step sequencer or a ranger core that may act issues the command's first 64 bytes. -/
theorem execTableCommandIssue_issues {s : State} {isl kind : Nat} (n q : Nat) (b : List Byte)
    (hsrc : (∃ d, d < 4 ∧ isl = islSequencer d ∧ kind = 0) ∨ (∃ d, d < 8 ∧ isl = islRanger d ∧ kind = 1))
    (hb : s.blocked isl = false) : execTableCommandIssue isl n q b s = .next (s.tcIssue isl n q kind (b.take 64)) := by
  unfold execTableCommandIssue
  rw [if_neg (by simp [hb])]
  rcases hsrc with ⟨d, hd, rfl, rfl⟩ | ⟨d, hd, rfl, rfl⟩
  · rw [if_neg (by unfold islSequencer islAdmit; omega), if_pos]
    exact List.any_eq_true.2 ⟨d, List.mem_range.2 hd, beq_self_eq_true _⟩
  · have noSequencer : ¬ ((List.range 4).any fun k => islRanger d == islSequencer k) = true := by
      simp only [List.any_eq_true, beq_iff_eq, not_exists, not_and]
      intro k _
      unfold islRanger islSequencer
      omega
    rw [if_neg (by unfold islRanger islAdmit; omega), if_neg noSequencer, if_pos]
    exact List.any_eq_true.2 ⟨d, List.mem_range.2 hd, beq_self_eq_true _⟩

/-- Indices of the parts that are out of range (R229). -/
def indicesOut (ps : List TblPart) : Nat := ps.foldl (fun k p => k + (p.left.filter (·.slot.isNone)).length) 0

/-- A command of a sequencer or a ranger core as it is issued: one that writes and has an index out of range has no part
to perform (R229). -/
def TblReg.command (r : TblReg) (id : Nat) (st : Stamp) (isl t n : Nat) (b : List Byte) (ps : List TblPart) : TblCmd :=
  { id := id, stamp := st, issuer := isl, tent := t, req := n, reg := r.id, version := (r.bound st).version, bytes := b
    parts := if tcOp b ≠ 1 ∧ indicesOut ps ≠ 0 then [] else ps, rangeCount := indicesOut ps }

/-- The command is in progress. -/
def State.addCommand (s : State) (c : TblCmd) : State :=
  s.modTables fun x => { x with cmds := x.cmds ++ [c], nextCmd := x.nextCmd + 1 }

theorem State.tcIssue_issues {s : State} {isl t n kind : Nat} {b : List Byte} {r : TblReg} {is : List Nat} {s1 s2 : State}
    {ps : List TblPart} (hkind : kind ≠ 2) (hr : s.tblSlot (tcTable b) = some r)
    (hok : (s.originate isl).2.tcOk t kind r (r.bound (s.originate isl).1) b = true)
    (hread : readIndices t b (s.originate isl).2 = .ok (is, s1))
    (hsplit : r.split (r.bound (s.originate isl).1) (s.originate isl).1 is s1 = .ok (ps, s2)) :
    s.tcIssue isl t n kind b =
      s2.addCommand (r.command s2.dev.tables.nextCmd (s.originate isl).1 isl t n b ps) := by
  have slot : (s.originate isl).2.tblSlot (tcTable b) = some r := hr
  unfold State.tcIssue
  generalize s.originate isl = o at hok hread hsplit slot
  obtain ⟨st, u⟩ := o
  dsimp only at hok hread hsplit slot ⊢
  simp only [slot, hok, Bool.not_true, Bool.false_eq_true, if_false, if_neg hkind, beq_eq_false_iff_ne.2 hkind]
  simp only [bind, StateT.bind, Except.bind, hread, hsplit, pure, StateT.pure, Except.pure]
  rfl

/-- A command that names no table or fails its checks is refused. -/
theorem State.tcIssue_refuses {s : State} {isl t n kind : Nat} {b : List Byte}
    (hbad : ∀ r, s.tblSlot (tcTable b) = some r →
      (s.originate isl).2.tcOk t kind r (r.bound (s.originate isl).1) b = false) :
    s.tcIssue isl t n kind b = (s.originate isl).2.tcRefuse isl t n kind b := by
  unfold State.tcIssue
  dsimp only
  rw [State.tblSlot_originate]
  cases hr : s.tblSlot (tcTable b) with
  | none => rfl
  | some r => exact if_pos (by rw [hbad r hr]; rfl)

/-- A refusal reaches a sequencer or a ranger core as a completion with STATUS 3, and no command is in progress (R226). -/
theorem State.tcRefuse_completes (s : State) (isl t n : Nat) {kind : Nat} (b : List Byte) (hkind : kind ≠ 2) :
    (s.tcRefuse isl t n kind b).dev.tables =
      { s.dev.tables with done := s.dev.tables.done ++ [(isl, leBytes 1 3 ++ List.replicate 15 0)] } := by
  unfold State.tcRefuse
  dsimp only
  rw [if_neg hkind, State.modTables_dev, State.addFld_tables, State.log_tables]

/-! Windows (R227 to R230). -/

/-- The command after window `w` of its part `p` on shard `k`. -/
def TblCmd.afterWindow (c : TblCmd) (op k : Nat) (p : TblPart) (w : List TblIndex) (bad : Bool) : TblCmd :=
  { c with
    poison := c.poison || bad, rowReads := c.rowReads + if op = 2 then 0 else (liveIndices w).length
    parts := if p.left.drop w.length = [] then c.parts.filter (·.shard != k)
      else c.parts.map fun q => if q.shard = k then { q with left := p.left.drop w.length, started := true } else q }

@[simp] theorem State.countWindow_cmds (s : State) (r : TblReg) (v : TblVer) (c : TblCmd) (sh : Nat) (w : List TblIndex) :
    (s.countWindow r v c sh w).dev.tables.cmds = s.dev.tables.cmds := by
  unfold State.countWindow
  dsimp only
  rw [State.setTblReg_cmds, State.busy_tables, State.msdEvent_tables, State.msdEvent_tables, State.setFld_dev,
    State.modTables_dev, State.addFld_tables]

/-- A part that has its turn and whose window goes well gives the window up, and the rest is counted. -/
theorem State.tcWindow_takes {s : State} {op id k : Nat} {given : List (List Byte × Bool)}
    {f : WinArgs → TblCmd → List TblIndex → EM Bool} {c : TblCmd} {r : TblReg} {p : TblPart} {bad : Bool} {s1 : State}
    (hc : s.tblCmd id = some c) (hr : s.tblReg c.reg = some r) (hp : c.parts.find? (·.shard == k) = some p)
    (hop : tcOp c.bytes = op) (hb : s.blocked (islTable ((r.ver c.version).shards.getD k {}).engine) = false)
    (hturn : s.partTurn c r p = true)
    (hrun : f ⟨c.tent, r.ver c.version, (r.ver c.version).shards.getD k {},
        ((r.ver c.version).shards.getD k {}).device == s.deviceNum, given⟩ c
        (window (op == 3) (r.ver c.version).rowBytes 4096 p.left []) s = .ok (bad, s1)) :
    s.tcWindow op id k given f =
      (s1.setTblCmd (c.afterWindow op k p (window (op == 3) (r.ver c.version).rowBytes 4096 p.left []) bad)).countWindow r
        (r.ver c.version) c k (window (op == 3) (r.ver c.version).rowBytes 4096 p.left []) := by
  unfold State.tcWindow
  simp only [hc, hr, hp]
  rw [if_neg (by rw [hop, hb, hturn]; simp), hrun]
  rfl

/-! Completion (R228, R229). -/

/-- The command is in progress no longer. -/
def State.dropCommand (s : State) (id : Nat) : State :=
  s.modTables fun x => { x with cmds := x.cmds.filter (·.id != id) }

/-- The bays that the command names and its tent still has are signalled (R87). -/
def State.signalBays (s : State) (c : TblCmd) : State :=
  (tcBays c.bytes).foldl (fun s n =>
    if s.hasBay c.tent n then s.modBay n fun y => y.signal (tcSlot c.bytes) 1 else s) s

theorem State.signalBays_kept {α : Type} (p : State → α) (h : ∀ s n b, p (State.setBay s n b) = p s) (s : State)
    (c : TblCmd) : p (s.signalBays c) = p s := by
  refine List.foldlRecOn (motive := fun t => p t = p s) _ _ rfl fun t sofar n _ => ?_
  split
  · exact (h _ _ _).trans sofar
  · exact sofar

@[simp] theorem State.signalBays_tables (s : State) (c : TblCmd) : (s.signalBays c).dev.tables = s.dev.tables :=
  State.signalBays_kept (·.dev.tables) (fun _ _ _ => rfl) s c
@[simp] theorem State.req_signalBays (s : State) (c : TblCmd) (k : Nat) : (s.signalBays c).req k = s.req k :=
  State.signalBays_kept (·.req k) (fun _ _ _ => rfl) s c

/-- A TABLE_OP's request ends or has its result; another issuer receives the record. -/
def State.answer (s : State) (c : TblCmd) : State :=
  if c.isOp then
    if c.status = 1 then s.endAt c.req 0x31 (islTable 0)
    else if c.status = 2 then s.endAt c.req 0x40 (islTable 0) true
    else s.modReq c.req fun q => { q with result := c.completion, ready := true }
  else s.modTables fun x => { x with done := x.done ++ [(c.issuer, c.completion)] }

theorem State.answer_cmds (s : State) (c : TblCmd) : (s.answer c).dev.tables.cmds = s.dev.tables.cmds := by
  unfold State.answer
  split
  · split
    · rw [State.endAt_tables]
    · split
      · rw [State.endAt_tables]
      · rw [State.modReq_tables]
  · rfl

theorem State.answer_done (s : State) {c : TblCmd} (h : c.isOp = false) :
    (s.answer c).dev.tables.done = s.dev.tables.done ++ [(c.issuer, c.completion)] := by
  rw [State.answer, if_neg (by simp [h])]
  rfl

theorem State.req_answer {s : State} {c : TblCmd} {p : Request} (h : c.isOp = true) (hst : c.status = 0)
    (hp : s.req c.req = some p) : (s.answer c).req c.req = some { p with result := c.completion, ready := true } := by
  rw [State.answer, if_pos h, hst]
  exact State.req_modReq_of_req hp _

theorem execTableCommandComplete_answers {s : State} {id : Nat} {c : TblCmd} (hc : s.tblCmd id = some c)
    (hparts : c.parts = []) (hb : s.blocked (islTable 0) = false) :
    execTableCommandComplete id s = .next (((s.dropCommand id).tblSweep.signalBays c).answer c) := by
  unfold execTableCommandComplete
  simp only [hc]
  rw [if_neg (by simp [hparts, hb])]
  rfl

/-! Skew (R231 to R233). -/

/-- A sampling interval that is over empties the counts of accesses and starts another. -/
theorem execHotSampleInterval_samples {s : State} {x : Nat} {r : TblReg} (counts : List (Nat × Nat))
    (hr : s.tblSlot x = some r) (hmode : r.cur.mode = 1) (hb : s.blocked (islTable 0) = false)
    (hdue : r.sampled + 1000 * s.fld rTblCfg fTblCfgSampleIntervalUs ≤ s.ao.tick) :
    ∃ marks, execHotSampleInterval x counts s =
      .next (s.setTblReg { r with accesses := [], sampled := s.ao.tick, marks := marks }) := by
  unfold execHotSampleInterval
  simp only [hr]
  rw [if_neg (by simp [hmode, hb, hdue])]
  exact ⟨_, rfl⟩

/-- With no switch pending the rows copied are the current version's. -/
theorem execReplicaCopyComplete_copies {s : State} {x n : Nat} {r : TblReg} {v : TblVer} {s1 : State}
    (hr : s.tblSlot x = some r) (hnext : r.next = none) (hcopying : r.cur.copying = true)
    (hb : s.blocked (islTable 0) = false) (hcopy : copyRows r.tent r.cur n s = .ok (v, s1)) :
    execReplicaCopyComplete x n s = .next (s1.setTblReg { r with cur := v }) := by
  unfold execReplicaCopyComplete
  simp only [hr, hb, Bool.false_eq_true, if_false, hnext, hcopying, if_true, hcopy]

section
variable {s : State} {x bucket shard slot cut : Nat} {r : TblReg} (hr : s.tblSlot x = some r) (hmode : r.cur.mode = 2)
  (hrow : bucket * 2 ^ r.cur.bucketLog2 < r.cur.rows) (hb : s.blocked (islRanger 0) = false)
include hr hmode hrow hb

theorem execBucketMove_begins (hnew : r.moves.find? (·.bucket == bucket) = none) (hcut : s.ao.tick + 10000 ≤ cut)
    (hshard : shard < r.cur.shards.length)
    (hslot : (slot + 1) * 2 ^ r.cur.bucketLog2 ≤ (r.cur.shards.getD shard {}).slots) :
    execBucketMove x bucket shard slot cut s =
      .next (s.setTblReg { r with moves := r.moves ++ [⟨bucket, shard, slot, cut⟩] }) := by
  unfold execBucketMove
  simp only [hr]
  rw [if_neg (by simp [hmode, hrow, hb])]
  simp only [hnew]
  exact if_neg (by omega)

theorem execBucketMove_ends {m : TblMove} {s1 : State} (hm : r.moves.find? (·.bucket == bucket) = some m)
    (hcut : m.cut + 200 ≤ s.ao.tick) (hquiet : s.bucketQuiet r m = true)
    (hmove : moveBucket r.tent r.cur m s = .ok ((), s1)) :
    execBucketMove x bucket shard slot cut s =
      .next (s1.setTblReg { r with moves := r.moves.filter (·.bucket != bucket) }) := by
  unfold execBucketMove
  simp only [hr]
  rw [if_neg (by simp [hmode, hrow, hb])]
  simp only [hm]
  rw [if_neg (by simp [hcut, hquiet])]
  simp only [hmove]

end

/-! Version switches (R234 to R236). -/

theorem execTableSwitch_arms {s : State} {v : W64} {r : TblReg} {d : TblVer} {s1 : State}
    (hr : s.tblSlot (getBits v 0 8) = some r) (hat : s.ao.tick + 20000 ≤ (s.rd rTblSwitchAt).toNat) (hnext : r.next = none)
    (hold : r.old = none) (hread : readTable r.tent (getBits v 14 50 * 64) r.markedRows s = .ok (some d, s1))
    (hver : r.cur.version < d.version) (hmode : d.mode = r.cur.mode) (helem : d.elem = r.cur.elem) :
    execTableSwitch v s =
      .next (s1.setTblReg { r with next := some ((s.rd rTblSwitchAt).toNat, d), marks := [] }) := by
  unfold execTableSwitch
  simp only [hr]
  rw [if_neg (by simp [hnext, hold, hat]), hread]
  exact if_neg (by simp [hver, hmode, helem])

/-- The registration once its pending version `v` is current. -/
def TblReg.switched (r : TblReg) (v : TblVer) : TblReg := { r with cur := v, next := none, old := some r.cur }

theorem execTableSwitchActivate_switches {s : State} {x : Nat} {r : TblReg} {a : Nat} {v : TblVer}
    (hr : s.tblSlot x = some r) (hnext : r.next = some (a, v)) (ha : a ≤ s.ao.tick) :
    execTableSwitchActivate x s = .next (s.setTblReg (r.switched v)).tblSweep := by
  unfold execTableSwitchActivate
  simp only [hr, hnext]
  exact if_neg (Nat.not_lt.2 ha)

/-- Settles O40: each command's equation where its premises hold, with what the sweep, the counts and the answer leave of
the registrations and commands. -/
theorem tableCommands : Obligations.TableCommands := by
  unfold Obligations.TableCommands
  refine ⟨?register, ?retire, ?issue, ?refuse, ?window, ?complete, ?sample, ?copy, ?move, ?switch, ?activate⟩
  case register =>
    intro s x v d s1 hx hfree hread hfit
    exact ⟨_, s1.newTable x ((s.tableWritten x v).tableTent x) d, execTableRegister_registers hx hfree hread hfit, rfl, rfl,
      rfl, rfl, State.flag_setFlag_same _ _ _ _ (by decide) rfl⟩
  case retire =>
    intro s x hx
    refine ⟨_, execTableRetire_retires s hx, ?_, fun r hr hslot => ?_⟩
    · rw [State.flag_tblSweep, State.flag_setFlag_same _ _ _ _ (by decide) rfl]
    · obtain ⟨q, hq, rfl⟩ := State.of_mem_tblSweep hr
      rw [State.swept_kept TblReg.slot (fun _ _ => rfl)] at hslot
      rw [State.swept_kept TblReg.retired (fun _ _ => rfl)]
      exact State.retired_of_mem_retireSlot hq hslot
  case issue =>
    intro s isl kind n q b r is s1 ps s2 hsrc hb hr hok hread hsplit
    have hkind : kind ≠ 2 := by
      rcases hsrc with ⟨d, -, -, rfl⟩ | ⟨d, -, -, rfl⟩ <;> decide
    have run := execTableCommandIssue_issues n q b hsrc hb
    rw [State.tcIssue_issues hkind hr hok hread hsplit] at run
    exact ⟨_, _, run, rfl, rfl, rfl, rfl, rfl, rfl, rfl, rfl, rfl⟩
  case refuse =>
    intro s isl n q b d hd hisl hb hbad
    have completes := (s.originate isl).2.tcRefuse_completes isl n q (b.take 64) (by decide : (0 : Nat) ≠ 2)
    rw [State.originate_tables] at completes
    have run := execTableCommandIssue_issues n q b (.inl ⟨d, hd, hisl, rfl⟩) hb
    rw [State.tcIssue_refuses hbad] at run
    exact ⟨_, run, by rw [completes], by rw [completes]⟩
  case window =>
    intro s id k given order c r p bad s1 e he hc hr hp hop hb hturn
    have run : exec e.2.1 s = .next (s.tcWindow e.1 id k (if e.1 = 1 then given else []) e.2.2) := by
      simp only [List.mem_cons, List.not_mem_nil, or_false] at he
      rcases he with rfl | rfl | rfl <;> rfl
    intro v w hrun
    refine ⟨_, run, ?_⟩
    rw [State.tcWindow_takes hc hr hp hop hb hturn hrun, State.countWindow_cmds, State.setTblCmd_cmds]
    rfl
  case complete =>
    intro s id c hc hparts hb
    refine ⟨_, execTableCommandComplete_answers hc hparts hb, ?_, fun hop => ?_, fun hop hst p hp => ?_⟩
    · rw [State.answer_cmds, State.signalBays_tables, State.tblSweep_cmds]
      rfl
    · rw [State.answer_done _ hop, State.signalBays_tables, State.tblSweep_done]
      rfl
    · refine State.req_answer hop hst ?_
      rw [State.req_signalBays, State.req_tblSweep]
      exact hp
  case sample =>
    intro s x counts r hr hmode hb hdue
    obtain ⟨marks, run⟩ := execHotSampleInterval_samples counts hr hmode hb hdue
    exact ⟨_, _, run, State.setTblReg_regs .., rfl, rfl, rfl, rfl⟩
  case copy =>
    intro s x n r v s1 hr hnext hcopying hb hcopy
    exact ⟨_, execReplicaCopyComplete_copies hr hnext hcopying hb hcopy, State.setTblReg_regs ..⟩
  case move =>
    intro s x bucket shard slot cut r hr hmode hrow hb
    exact ⟨fun hnew hcut hshard hslot =>
        ⟨_, execBucketMove_begins hr hmode hrow hb hnew hcut hshard hslot, State.setTblReg_regs ..⟩,
      fun m s1 hm hcut hquiet hmove => ⟨_, execBucketMove_ends hr hmode hrow hb hm hcut hquiet hmove,
        State.setTblReg_regs ..⟩⟩
  case switch =>
    intro s v r d s1 hr hat hnext hold hread hver hmode helem
    exact ⟨_, execTableSwitch_arms hr hat hnext hold hread hver hmode helem, State.setTblReg_regs ..⟩
  case activate =>
    intro s x r a v hr hnext ha
    obtain ⟨hmem, hretired⟩ := State.tblSlot_some hr
    have there : r.switched v ∈ (s.setTblReg (r.switched v)).dev.tables.regs := by
      rw [State.setTblReg_regs]
      exact mem_withReg hmem rfl
    refine ⟨_, execTableSwitchActivate_switches hr hnext ha, _, State.swept_mem_tblSweep there hretired, ?_, ?_, ?_⟩
    · exact State.swept_kept TblReg.id (fun _ _ => rfl) _ _
    · exact State.swept_kept TblReg.cur (fun _ _ => rfl) _ _
    · exact State.swept_kept TblReg.next (fun _ _ => rfl) _ _

end Sys2Proof.Machine
end

section
/-! SUPPORT. The device range and flash: what logs, events and traces leave of them, what each of their writes sets, and
the accesses held for a panel (R244, R265, R266). -/

namespace Sys2Proof.Machine

/-- What every step of a fold keeps, the fold keeps. -/
theorem foldl_kept {α β : Type} (p : State → β) (f : State → α → State) (hf : ∀ s x, p (f s x) = p s) (l : List α)
    (s : State) : p (l.foldl f s) = p s := by
  induction l generalizing s with
  | nil => rfl
  | cons x l ih => rw [List.foldl_cons, ih, hf]

/-- A unit that no freeze keeps acts (R57). -/
theorem State.acting_free {s : State} {n : Nat} (h : s.blocked n = false) (f : State → State) : s.acting n f = f s :=
  if_neg (by rw [h]; exact Bool.false_ne_true)

/-! What logs, events, traces and originations leave of the memories. The proofs `(rfl)` stand in parentheses so that
`simp` and `rw` use the lemmas as equations, and the kernel compares no whole states. -/

@[simp] theorem State.originate_mem (s : State) (n : Nat) : (s.originate n).2.dev.mem = s.dev.mem := (rfl)
@[simp] theorem State.busy_mem (s : State) (e n : Nat) : (s.busy e n).dev.mem = s.dev.mem := (rfl)
@[simp] theorem State.msdEvent_mem (s : State) (m code inst tent n : Nat) :
    (s.msdEvent m code inst tent n).dev.mem = s.dev.mem :=
  State.countEvent_kept (·.dev.mem) (fun _ _ _ => rfl) s _ _ _ _ _ _ _
@[simp] theorem State.trace_mem (s : State) (isl ty tent a b fl : Nat) :
    (s.trace isl ty tent a b fl).dev.mem = s.dev.mem :=
  State.trace_kept (·.dev.mem) (fun _ _ _ => rfl) (fun _ _ => rfl) s _ _ _ _ _ _
@[simp] theorem State.log_mem (s : State) (isl : Nat) (r : ErrRec) : (s.log isl r).dev.mem = s.dev.mem :=
  State.logAt_kept (·.dev.mem) (fun _ _ _ => rfl) (fun _ _ _ => rfl) (fun _ _ => rfl) (fun _ _ => rfl) s isl r
@[simp] theorem State.deliver_mem (s : State) (isl det sp a fl : Nat) (r : EccResult) :
    (s.deliver isl det sp a fl r).2.dev.mem = s.dev.mem := by
  cases r with
  | clean => rfl
  | poisoned => rfl
  | corrected => exact s.log_mem isl _
  | bad => exact s.log_mem isl _
@[simp] theorem State.checkWord_mem (s : State) (isl det sp a flips : Nat) (w : PWord) :
    (s.checkWord isl det sp a flips w).2.dev.mem = s.dev.mem := by
  have fired : (s.fire isl det).2.dev.mem = s.dev.mem := State.fire_kept (·.dev.mem) (fun _ _ _ => rfl) s isl det
  unfold State.checkWord
  dsimp only
  split
  · exact fired
  · exact (State.deliver_mem ..).trans fired

/-- A crew that is changed, resident or saved, leaves the memories alone. -/
@[simp] theorem State.modCrew_mem (s : State) (bay slot : Nat) (f : Crew → Crew) :
    (s.modCrew bay slot f).dev.mem = s.dev.mem := by
  unfold State.modCrew
  split
  · rfl
  · split
    · rfl
    · rfl

/-! What each write of the device range sets, and what it leaves alone. -/

theorem State.panel_of_tables {s t : State} (h : t.dev.mem.tables = s.dev.mem.tables) (n v : Nat) :
    t.panel n v = s.panel n v := by
  unfold State.panel State.table
  rw [h]

theorem State.mig_of_mig {s t : State} (h : t.dev.mem.mig = s.dev.mem.mig) (m : Nat) : t.mig m = s.mig m := by
  unfold State.mig
  rw [h]

@[simp] theorem State.table_setTable_same (s : State) (n : Nat) (x : PanelTable) : (s.setTable n x).table n = x :=
  SMap.get_set_same _ _ _ _
@[simp] theorem State.panel_setPanel_same (s : State) (n v : Nat) (p : Panel) : (s.setPanel n v p).panel n v = p := by
  rw [State.panel_setPanel, if_pos ⟨rfl, rfl⟩]
@[simp] theorem State.mig_setMig_same (s : State) (m : Nat) (x : MigEngine) : (s.setMig m x).mig m = x :=
  SMap.get_set_same _ _ _ _
@[simp] theorem State.flashSet_setFlashSet_same (s : State) (k : Nat) (x : FlashSet) :
    (s.setFlashSet k x).flashSet k = x := SMap.get_set_same _ _ _ _
@[simp] theorem State.ssd_setSsd_same (s : State) (slot : Nat) (x : Ssd) : (s.setSsd slot x).ssd slot = x :=
  SMap.get_set_same _ _ _ _

/-! Reports and other registers leave the device range alone. -/

@[simp] theorem State.table_setFld (s : State) (off : Nat) (f : Nat × Nat) (x n : Nat) :
    (s.setFld off f x).table n = s.table n := (rfl)
@[simp] theorem State.table_setFlag (s : State) (off : Nat) (f : Nat × Nat) (b : Bool) (n : Nat) :
    (s.setFlag off f b).table n = s.table n := (rfl)
@[simp] theorem State.panel_memReport (s : State) (hint busy : Bool) (result done n v : Nat) :
    (s.memReport hint busy result done).panel n v = s.panel n v := (rfl)
@[simp] theorem State.mig_memReport (s : State) (hint busy : Bool) (result done m : Nat) :
    (s.memReport hint busy result done).mig m = s.mig m := (rfl)

@[simp] theorem State.phys_memReport (s : State) (hint busy : Bool) (result done : Nat) :
    (s.memReport hint busy result done).dev.mem.phys = s.dev.mem.phys := (rfl)
@[simp] theorem State.panel_retireReport (s : State) (busy : Bool) (result n v : Nat) :
    (s.retireReport busy result).panel n v = s.panel n v := (rfl)
@[simp] theorem State.retireReport_nv (s : State) (busy : Bool) (result : Nat) :
    (s.retireReport busy result).nv = s.nv := (rfl)
@[simp] theorem State.setPanel_nv (s : State) (n v : Nat) (p : Panel) : (s.setPanel n v p).nv = s.nv := (rfl)
@[simp] theorem State.setPhys_nv (s : State) (p : Nat) (u : Option PhysUse) : (s.setPhys p u).nv = s.nv := (rfl)
@[simp] theorem State.hbmClear_nv (s : State) (a n : Nat) : (s.hbmClear a n).nv = s.nv := (rfl)
@[simp] theorem State.panel_unmapping (s : State) (x : Option (Nat × Nat × Nat)) (n v : Nat) :
    (s.modMem fun m => { m with unmapping := x }).panel n v = s.panel n v := (rfl)
@[simp] theorem State.panel_retiring (s : State) (x : Option Nat) (n v : Nat) :
    (s.modMem fun m => { m with retiring := x }).panel n v = s.panel n v := (rfl)
@[simp] theorem State.phys_setPanel (s : State) (n v : Nat) (p : Panel) :
    (s.setPanel n v p).dev.mem.phys = s.dev.mem.phys := (rfl)
@[simp] theorem State.phys_setPhys_same (s : State) (p : Nat) (u : Option PhysUse) :
    SMap.get (fun _ => none) (s.setPhys p u).dev.mem.phys p = u := SMap.get_set_same _ _ _ _
@[simp] theorem State.held_setPhys (s : State) (p : Nat) (u : Option PhysUse) :
    (s.setPhys p u).dev.mem.held = s.dev.mem.held := (rfl)
@[simp] theorem State.held_setExtent (s : State) (k e u : Nat) :
    (s.setExtent k e u).dev.mem.held = s.dev.mem.held := (rfl)
@[simp] theorem State.held_setPanel (s : State) (n v : Nat) (p : Panel) :
    (s.setPanel n v p).dev.mem.held = s.dev.mem.held := (rfl)

/-! The order stamp of a change leaves what decides on it alone. -/

@[simp] theorem State.panel_originate (s : State) (k n v : Nat) : (s.originate k).2.panel n v = s.panel n v := (rfl)
@[simp] theorem State.mig_originate (s : State) (k m : Nat) : (s.originate k).2.mig m = s.mig m := (rfl)
@[simp] theorem State.residentCount_originate (s : State) (k n : Nat) :
    (s.originate k).2.residentCount n = s.residentCount n := (rfl)
@[simp] theorem State.pinnedCount_originate (s : State) (k n : Nat) :
    (s.originate k).2.pinnedCount n = s.pinnedCount n := (rfl)
@[simp] theorem State.quota_originate (s : State) (k n : Nat) : (s.originate k).2.quota n = s.quota n := (rfl)
@[simp] theorem State.flashEnabled_originate (s : State) (k n : Nat) :
    (s.originate k).2.flashEnabled n = s.flashEnabled n := (rfl)
@[simp] theorem State.mayTake_originate (s : State) (k n p : Nat) :
    (s.originate k).2.mayTake n p = s.mayTake n p := (rfl)
theorem LeafRoom.originate {s : State} {n v : Nat} (h : LeafRoom s n v) (k : Nat) :
    LeafRoom (s.originate k).2 n v := (h)
@[simp] theorem State.inboundPending_originate (s : State) (k n v : Nat) :
    (s.originate k).2.inboundPending n v = s.inboundPending n v := (rfl)
@[simp] theorem State.outboundPending_originate (s : State) (k n v : Nat) :
    (s.originate k).2.outboundPending n v = s.outboundPending n v := (rfl)
@[simp] theorem State.engineOf_originate (s : State) (k n v : Nat) :
    (s.originate k).2.engineOf n v = s.engineOf n v := (rfl)

/-- Dropping a leaf leaves every panel as it is. -/
@[simp] theorem State.panel_dropLeaf (s : State) (n v m w : Nat) : (s.dropLeaf n v).panel m w = s.panel m w := by
  unfold State.dropLeaf
  dsimp only
  split
  · rfl
  · unfold State.panel
    by_cases hm : m = n
    · subst hm
      rw [State.table_setTable_same]
    · rw [show (s.setTable n _).table m = s.table m from SMap.get_set_other _ _ _ _ _ hm]

/-- Where the leaf of a panel is there or fits, it is taken, and no register changes. -/
theorem State.takeLeaf_of_room {s : State} {n v : Nat} (h : LeafRoom s n v) :
    ∃ t, s.takeLeaf n v = some t ∧ t.dev.regs = s.dev.regs := by
  unfold State.takeLeaf
  by_cases there : SMap.get (fun _ => 0) (s.table n).leaves (v / 4096) ≠ 0
  · exact ⟨s, if_pos there, rfl⟩
  · exact ⟨_, (if_neg there).trans (if_pos (h.resolve_left there)), rfl⟩

/-! What counts and traces leave of a panel and of an engine. -/

@[simp] theorem State.panel_busy (s : State) (e k n v : Nat) : (s.busy e k).panel n v = s.panel n v := (rfl)
@[simp] theorem State.mig_busy (s : State) (e k m : Nat) : (s.busy e k).mig m = s.mig m := (rfl)
@[simp] theorem State.panel_msdEvent (s : State) (i code inst tent k n v : Nat) :
    (s.msdEvent i code inst tent k).panel n v = s.panel n v :=
  State.panel_of_tables (congrArg MemSt.tables (s.msdEvent_mem ..)) n v
@[simp] theorem State.mig_msdEvent (s : State) (i code inst tent k m : Nat) :
    (s.msdEvent i code inst tent k).mig m = s.mig m :=
  State.mig_of_mig (congrArg MemSt.mig (s.msdEvent_mem ..)) m
@[simp] theorem State.panel_trace (s : State) (isl ty tent a b fl n v : Nat) :
    (s.trace isl ty tent a b fl).panel n v = s.panel n v :=
  State.panel_of_tables (congrArg MemSt.tables (s.trace_mem ..)) n v
@[simp] theorem State.mig_trace (s : State) (isl ty tent a b fl m : Nat) :
    (s.trace isl ty tent a b fl).mig m = s.mig m :=
  State.mig_of_mig (congrArg MemSt.mig (s.trace_mem ..)) m
@[simp] theorem State.panel_setMig (s : State) (m : Nat) (x : MigEngine) (n v : Nat) :
    (s.setMig m x).panel n v = s.panel n v := (rfl)
@[simp] theorem State.mig_setPanel (s : State) (n v : Nat) (p : Panel) (m : Nat) :
    (s.setPanel n v p).mig m = s.mig m := (rfl)
@[simp] theorem State.mig_setPhys (s : State) (p : Nat) (u : Option PhysUse) (m : Nat) :
    (s.setPhys p u).mig m = s.mig m := (rfl)
@[simp] theorem State.mig_setExtent (s : State) (k e u m : Nat) : (s.setExtent k e u).mig m = s.mig m := (rfl)

/-! Accesses held for a panel. -/

/-- No access is held for the panel. -/
def State.NoneHeld (s : State) (n v : Nat) : Prop := ∀ a ∈ s.dev.mem.held, a.tent = n → a.addr / 65536 ≠ v

/-- With no access held for the panel, there is nothing to serve. -/
theorem State.serveHeld_none {s : State} {n v : Nat} (h : s.NoneHeld n v) (keep : Access → Bool) :
    s.serveHeld n v keep = s := by
  have other : ∀ a ∈ s.dev.mem.held, (a.tent == n && a.addr / 65536 == v) = false := by
    intro a ha
    have := h a ha
    simpa using this
  have mine : (s.dev.mem.held.filter fun a => a.tent == n && a.addr / 65536 == v && !keep a) = [] := by
    refine List.filter_eq_nil_iff.2 fun a ha => ?_
    rw [other a ha]
    exact Bool.false_ne_true
  have rest : (s.dev.mem.held.filter fun a => !(a.tent == n && a.addr / 65536 == v && !keep a)) = s.dev.mem.held := by
    refine List.filter_eq_self.2 fun a ha => ?_
    rw [other a ha]
    rfl
  unfold State.serveHeld
  rw [mine, rest]
  rfl

/-- With nothing that waits for a migration, its end resumes nothing. -/
theorem State.memResume_idle {s : State} (h : NothingResumes s) : s.memResume = s := by
  obtain ⟨hunmapping, hretiring⟩ := h
  unfold State.memResume
  rw [hunmapping]
  dsimp only
  rw [hretiring]

/-- The end of a migration of a panel without accesses held changes nothing more. -/
theorem State.resume_idle {s : State} {n v : Nat} (h : s.NoneHeld n v) (idle : NothingResumes s) :
    (s.serveHeld n v).memResume = s := by
  rw [State.serveHeld_none h, State.memResume_idle idle]

/-! The state of every panel, and the commands that wait for a migration. -/

/-- The state of every panel, the UNMAP that waits, and the retirement that waits (R246, R271). -/
def State.standing (s : State) : (Nat → Nat → Nat) × Option (Nat × Nat × Nat) × Option Nat :=
  (fun n v => (s.panel n v).state, s.dev.mem.unmapping, s.dev.mem.retiring)

theorem State.standing_of_mem {s t : State} (h : t.dev.mem = s.dev.mem) : t.standing = s.standing := by
  unfold State.standing State.panel State.table
  rw [h]

theorem NothingResumes.of_standing {s t : State} (h : NothingResumes s) (same : t.standing = s.standing) :
    NothingResumes t :=
  ⟨(congrArg (·.2.1) same).trans h.1, (congrArg (·.2.2) same).trans h.2⟩

theorem NothingResumes.setPanel {s : State} (h : NothingResumes s) (n v : Nat) (p : Panel) :
    NothingResumes (s.setPanel n v p) := h

theorem State.state_of_standing {s t : State} (same : t.standing = s.standing) (n v : Nat) :
    (t.panel n v).state = (s.panel n v).state := congrFun (congrFun (congrArg Prod.fst same) n) v

theorem State.standing_modFlips (s : State) (f : MemSt → SMap Nat) :
    (s.modMem fun m => { m with flips := f m }).standing = s.standing := rfl

theorem State.standing_modHbm (s : State) (f : MemSt → Store) (g : MemSt → List (Nat × Nat)) :
    (s.modMem fun m => { m with hbm := f m, unread := g m }).standing = s.standing := rfl

theorem State.touch_standing (s : State) (n a : Nat) (write : Bool) : (s.touch n a write).standing = s.standing := by
  unfold State.touch State.standing
  refine Prod.ext (funext fun m => funext fun v => ?_) rfl
  dsimp only
  rw [State.panel_setPanel]
  split
  · next h => rw [h.1, h.2]
  · rfl

theorem State.hbmWord_standing (s : State) (pa : Nat) : (s.hbmWord pa).2.standing = s.standing := by
  unfold State.hbmWord
  dsimp only
  have checked (fl : Nat) (w : PWord) :
      (s.checkWord (islStack (pa / 2 ^ 36)) 0x0700 1 (4 * (pa / 4)) fl w).2.standing = s.standing :=
    State.standing_of_mem (State.checkWord_mem ..)
  split
  · exact (State.standing_modFlips ..).trans (checked _ _)
  · exact checked _ _

theorem State.devWords_standing (s : State) (n a k : Nat) : (s.devWords n a k).2.standing = s.standing := by
  induction k generalizing s a with
  | zero => rfl
  | succ k ih => exact (ih _ _).trans (s.hbmWord_standing _)

theorem State.devRead_standing (s : State) (n a k : Nat) : (s.devRead n a k).2.2.standing = s.standing := by
  unfold State.devRead
  split
  · rfl
  · exact (foldl_kept State.standing _ (fun s i => s.touch_standing ..) _ _).trans (s.devWords_standing ..)

theorem State.devWriteFrom_standing (s : State) (n : Nat) (bad : Bool) (fuel a : Nat) (bs : List Byte) :
    (s.devWriteFrom n bad fuel a bs).standing = s.standing := by
  induction fuel generalizing s a bs with
  | zero => rfl
  | succ fuel ih =>
    unfold State.devWriteFrom
    split
    · rfl
    · exact (ih _ _ _).trans (State.touch_standing ..)

theorem State.hold_standing (s : State) (a : Access) : (s.hold a).standing = s.standing := by
  unfold State.hold State.requestInbound
  split
  · rfl
  · rfl

theorem State.perform_standing (s : State) (a : Access) : (s.perform a).standing = s.standing := by
  have filled (u : State) (hu : u.standing = s.standing) (rs : Nat → List (Nat × VReg)) :
      (match a.dest with
        | some d => u.fillOp a.bay a.slot a.opId (rs d)
        | none => u).standing = s.standing := by
    split
    · exact (State.standing_of_mem (State.modCrew_mem ..)).trans hu
    · exact hu
  unfold State.perform
  split
  · exact filled _ (s.devRead_standing ..) _
  · exact s.devWriteFrom_standing ..
  · exact filled _ ((State.devWriteFrom_standing ..).trans (s.devRead_standing ..)) _

theorem State.access_standing (s : State) (a : Access) (l : Nat) : (s.access a l).standing = s.standing := by
  unfold State.access
  split
  · exact s.perform_standing a
  · exact s.hold_standing a
  · exact State.standing_of_mem (State.modCrew_mem ..)
  · exact State.standing_of_mem (State.modCrew_mem ..)

theorem State.markReady_standing (s : State) (bay slot id : Nat) : (s.markReady bay slot id).standing = s.standing := by
  unfold State.markReady
  split
  · rfl
  · exact State.standing_of_mem (State.modCrew_mem ..)

/-- Serving the accesses held for a panel changes no panel's state and ends no wait. -/
theorem State.serveHeld_standing (s : State) (n v : Nat) (keep : Access → Bool) :
    (s.serveHeld n v keep).standing = s.standing := by
  unfold State.serveHeld
  dsimp only
  rw [foldl_kept State.standing _ (fun s a => s.markReady_standing ..),
    foldl_kept State.standing _ (fun s a => s.access_standing ..)]
  rfl

end Sys2Proof.Machine
end

section
/-! SUPPORT. Panel tables, MEM_MAP and MEM_HINT, and retirement (R240 to R248, R269 to R271). -/

namespace Sys2Proof.Machine

/-! Panel tables. -/

/-- A table that fits is created empty (R240). -/
theorem execPanelTableCreate_creates {s : State} {n r dir : Nat} (hn : n < 64) (hlow : 28 ≤ r) (hhigh : r ≤ 56)
    (hvalid : s.flag (rMemPanelTableBase n) fMemPanelTableBaseValid = false)
    (hpool : s.poolUsed + 4096 * ((dirBytes r + 4095) / 4096) ≤ s.poolSize) :
    ∃ t, exec (.panelTableCreate n r dir) s = .next t ∧
      t.flag (rMemPanelTableBase n) fMemPanelTableBaseValid = true ∧ t.table n = {} ∧
      t.fld (rMemPanelTableBase n) fMemPanelTableBaseRangeLog2 = r := by
  have fits : ¬ (r < 28 ∨ 56 < r ∨ s.flag (rMemPanelTableBase n) fMemPanelTableBaseValid = true ∨
      s.poolSize < s.poolUsed + 4096 * ((dirBytes r + 4095) / 4096)) := by
    rw [hvalid]
    simp only [Bool.false_eq_true, false_or]
    omega
  change ∃ t, execPanelTableCreate n r dir s = .next t ∧ _
  unfold execPanelTableCreate
  rw [if_neg (by omega), if_neg fits]
  refine ⟨_, rfl, ?_, ?_, ?_⟩
  · simp (disch := decide) only [State.flag_setFld_apart, State.flag_setFlag_apart, State.flag_setFlag_same]
  · simp only [State.table_setFld, State.table_setFlag, State.table_setTable_same]
  · simp (disch := decide) only [State.fld_setFld_apart, State.fld_setFlag_apart, State.fld_setFld_same]
    exact Nat.mod_eq_of_lt (lt_of_le_of_lt hhigh (by decide))

/-- A table that does not fit, or a tent that has one, sets CFG_ERROR (R240). -/
theorem execPanelTableCreate_refuses {s : State} {n r dir : Nat} (hn : n < 64)
    (hbad : ¬ (28 ≤ r ∧ r ≤ 56 ∧ s.flag (rMemPanelTableBase n) fMemPanelTableBaseValid = false ∧
      s.poolUsed + 4096 * ((dirBytes r + 4095) / 4096) ≤ s.poolSize)) :
    exec (.panelTableCreate n r dir) s = .next (s.setFlag (rMemPanelTableBase n) fMemPanelTableBaseCfgError true) := by
  refine (if_neg (by omega)).trans (if_pos ?_)
  by_contra h
  refine hbad ?_
  simp only [not_or, Bool.not_eq_true] at h
  obtain ⟨hlow, hhigh, hvalid, hpool⟩ := h
  exact ⟨by omega, by omega, hvalid, by omega⟩

theorem State.flag_cfgError (s : State) (n : Nat) : (s.setFlag (rMemPanelTableBase n)
    fMemPanelTableBaseCfgError true).flag (rMemPanelTableBase n) fMemPanelTableBaseCfgError = true :=
  State.flag_setFlag_same _ _ _ _ (by decide) rfl

/-- A table whose panels are all INVALID, or a RETAINED one, is destroyed (R240, R243). -/
theorem execPanelTableDestroy_destroys {s : State} {n : Nat} (hn : n < 64)
    (h : s.flag (rMemPanelTableBase n) fMemPanelTableBaseRetained = true ∨
      ((s.table n).panels.any fun e => e.2.state != 0) = false) :
    ∃ t, exec (.panelTableDestroy n) s = .next t ∧
      t.flag (rMemPanelTableBase n) fMemPanelTableBaseValid = false ∧ t.table n = {} := by
  have free : ¬ (s.flag (rMemPanelTableBase n) fMemPanelTableBaseRetained = false ∧
      ((s.table n).panels.any fun e => e.2.state != 0) = true) := by
    rintro ⟨hkept, hused⟩
    rcases h with h | h
    · rw [h] at hkept
      exact Bool.false_ne_true hkept.symm
    · rw [h] at hused
      exact Bool.false_ne_true hused
  change ∃ t, execPanelTableDestroy n s = .next t ∧ _
  unfold execPanelTableDestroy
  rw [if_neg (by omega), if_neg free]
  refine ⟨_, rfl, ?_, ?_⟩
  · simp (disch := decide) only [State.flag_setFld_apart, State.flag_setFlag_apart, State.flag_setFlag_same]
  · simp only [State.table_setFld, State.table_setFlag, State.table_setTable_same]

/-- Another table sets CFG_ERROR (R240). -/
theorem execPanelTableDestroy_refuses {s : State} {n : Nat} (hn : n < 64)
    (h : ¬ (s.flag (rMemPanelTableBase n) fMemPanelTableBaseRetained = true ∨
      ((s.table n).panels.any fun e => e.2.state != 0) = false)) :
    exec (.panelTableDestroy n) s = .next (s.setFlag (rMemPanelTableBase n) fMemPanelTableBaseCfgError true) := by
  rw [not_or, Bool.not_eq_true, Bool.not_eq_false] at h
  exact (if_neg (by omega)).trans (if_pos h)

/-- A panel read loads the two words of an entry in the range (R242). -/
theorem execPanelRead_loads {s : State} {n v : Nat} (hv : v < s.panelEnd n) :
    ∃ t, exec (.panelRead n v) s = .next t ∧ t.rd rMemPanelData0 = (s.panel n v).word0 ∧
      t.rd rMemPanelData1 = (s.panel n v).word1 := by
  have run : exec (.panelRead n v) s =
      .next ((s.wr rMemPanelData0 (s.panel n v).word0).wr rMemPanelData1 (s.panel n v).word1) := by
    change execPanelRead n v s = _
    unfold execPanelRead
    rw [if_pos hv]
  exact ⟨_, run, (State.rd_wr_other _ _ _ _ (by decide)).trans (State.rd_wr_same ..), State.rd_wr_same ..⟩

/-! MEM_MAP and MEM_HINT. -/

/-- A report of a write that is over reads as its result, its kind and the panels done (R248). -/
theorem State.mapReports_memReport (s : State) (hint : Bool) {result done : Nat} (hresult : result < 16)
    (hdone : done < 32768) : MapReports (s.memReport hint false result done) hint result done := by
  have kept : getBits (s.rd rMemOpStatus) 1 1 < 2 := Nat.mod_lt _ (by decide)
  unfold MapReports State.flag State.fld State.memReport
  rw [State.rd_wr_same]
  generalize getBits (s.rd rMemOpStatus) 1 1 = b at kept
  cases hint <;>
    simp only [getBits, BitVec.toNat_ofNat, Nat.shiftRight_eq_div_pow, fMemOpStatusBusy, fMemOpStatusResult,
      fMemOpStatusFromHint, fMemOpStatusPanelsDone, bne_eq_false_iff_eq, bne_iff_ne, if_true, if_false,
      Bool.false_eq_true] <;>
    omega

/-- A write for one panel that is taken does its work on it, with an order stamp of its own (R247, R248). -/
theorem State.memOp_one {s t : State} {n v : Nat} (h : MapReady s n) (hv : v < s.panelEnd n) (hint : Bool)
    {f : State → Stamp → Nat → Except Nat State} (hf : f (s.originate islPort).2 (s.originate islPort).1 v = .ok t) :
    s.memOp hint n v 1 f = t.memReport hint false 0 1 := by
  obtain ⟨htent, hidle, hvalid, hcurrent⟩ := h
  have each : State.eachPanel n f (min 1 16384) v 0 s = (0, 1, t) := by
    change State.eachPanel n f 1 v 0 s = _
    unfold State.eachPanel
    rw [if_neg (by omega), hf]
    rfl
  unfold State.memOp
  rw [hidle, hcurrent, hvalid, each, if_neg Bool.false_ne_true, if_neg (by simp), if_neg (by simp; omega)]

/-- A write while another is in progress sets OVERRUN alone (R248). -/
theorem State.memOp_busy {s : State} (h : s.flag rMemOpStatus fMemOpStatusBusy = true) (hint : Bool) (n v count : Nat)
    (f : State → Stamp → Nat → Except Nat State) :
    s.memOp hint n v count f = s.setFlag rMemOpStatus fMemOpStatusOverrun true := if_pos h

/-- A physical panel that is taken is in use by its panel. -/
theorem State.phys_takePanel (s : State) (n v p : Nat) : SMap.get (fun _ => none) (s.takePanel n v p).dev.mem.phys p =
    some ⟨n, v, s.tentStacks n, s.tentInterleave n⟩ := State.phys_setPhys_same _ _ _

/-- MAP_HBM gives an INVALID panel the physical panel picked (R246, R247). -/
theorem execMapHbm_takes {s : State} {n v p : Nat} (h : MapReady s n) (hv : v < s.panelEnd n)
    (hstate : (s.panel n v).state = 0) (hroom : LeafRoom s n v) (hquota : s.residentCount n < s.quota n)
    (hmay : s.mayTake n p = true) :
    ∃ t, exec (.mapHbm n v 1 [p]) s = .next t ∧ t.panel n v = { state := 1, hbm := p } ∧ MapReports t false 0 1 ∧
      SMap.get (fun _ => none) t.dev.mem.phys p = some ⟨n, v, s.tentStacks n, s.tentInterleave n⟩ := by
  obtain ⟨u, hleaf, hregs⟩ := State.takeLeaf_of_room (hroom.originate islPort)
  have hstacks : u.tentStacks n = s.tentStacks n := State.fld_of_regs hregs _ _
  have hinterleave : u.tentInterleave n = s.tentInterleave n := State.flag_of_regs hregs _ _
  have picked : (s.originate islPort).2.pickPanel n [p][v - v]? = some p := by
    rw [Nat.sub_self]
    exact if_pos ((State.mayTake_originate ..).trans hmay)
  have run : exec (.mapHbm n v 1 [p]) s =
      .next (((u.takePanel n v p).setPanel n v { state := 1, hbm := p }).memReport false false 0 1) := by
    refine congrArg Host.Outcome.next (State.memOp_one h hv false ?_)
    rw [State.panel_originate, State.quota_originate, State.residentCount_originate, if_neg (not_not.2 hstate),
      if_neg (Nat.not_le.2 hquota), picked]
    dsimp only
    rw [hleaf]
  refine ⟨_, run, ?_, State.mapReports_memReport _ _ (by decide) (by decide), ?_⟩
  · rw [State.panel_memReport, State.panel_setPanel_same]
  · rw [← hstacks, ← hinterleave, State.phys_memReport, State.phys_setPanel, State.phys_takePanel]

/-- MAP_FLASH makes an INVALID panel FLASH (R246). -/
theorem execMapFlash_maps {s : State} {n v : Nat} (h : MapReady s n) (hv : v < s.panelEnd n)
    (hstate : (s.panel n v).state = 0) (hroom : LeafRoom s n v) (hflash : s.flashEnabled n = true) :
    ∃ t, exec (.mapFlash n v 1) s = .next t ∧ t.panel n v = { state := 2 } ∧ MapReports t false 0 1 := by
  obtain ⟨u, hleaf, -⟩ := State.takeLeaf_of_room (hroom.originate islPort)
  have run : exec (.mapFlash n v 1) s = .next ((u.setPanel n v { state := 2 }).memReport false false 0 1) := by
    refine congrArg Host.Outcome.next (State.memOp_one h hv false ?_)
    rw [State.panel_originate, State.flashEnabled_originate, if_neg (not_not.2 hstate), hflash, if_neg (by decide),
      hleaf]
  exact ⟨_, run, by rw [State.panel_memReport, State.panel_setPanel_same],
    State.mapReports_memReport _ _ (by decide) (by decide)⟩

/-! UNMAP. -/

/-- A panel that does not migrate has no access held for it. -/
theorem State.noneHeld_of_not_moving {s : State} {n v : Nat} (h : s.moving n v = false) : s.NoneHeld n v := by
  unfold State.moving at h
  rw [Bool.or_eq_false_iff, List.any_eq_false] at h
  intro a ha htent hpanel
  exact h.2 a ha (by simp [htent, hpanel])

theorem State.unqueue_held (s : State) (n v : Nat) : (s.unqueue n v).dev.mem.held = s.dev.mem.held := by
  unfold State.unqueue
  generalize List.range 6 = l
  induction l generalizing s with
  | nil => rfl
  | cons m l ih => exact (ih _).trans rfl

theorem State.dropLeaf_held (s : State) (n v : Nat) : (s.dropLeaf n v).dev.mem.held = s.dev.mem.held := by
  unfold State.dropLeaf
  dsimp only
  split
  · rfl
  · rfl

/-- A panel that is unmapped is INVALID (R246). -/
theorem State.unmapPanel_invalid {s : State} {n v : Nat} (h : s.moving n v = false) :
    ((s.unmapPanel n v).panel n v).state = 0 := by
  unfold State.unmapPanel
  dsimp only
  split
  · assumption
  · generalize freed : (if (s.panel n v).homeFlash = true then _ else _ : State) = u
    have unqueued : ((s.originate islPort).2.unqueue n v).dev.mem.held = s.dev.mem.held :=
      (State.unqueue_held ..).trans (congrArg MemSt.held (s.originate_mem islPort))
    have held : u.dev.mem.held = s.dev.mem.held := by
      rw [← freed, apply_ite (fun t : State => t.dev.mem.held), State.held_setExtent, ite_self,
        apply_ite (fun t : State => t.dev.mem.held), State.held_setPhys, ite_self, unqueued]
    have none_held : ((u.setPanel n v {}).dropLeaf n v).NoneHeld n v := by
      unfold State.NoneHeld
      rw [State.dropLeaf_held, State.held_setPanel, held]
      exact State.noneHeld_of_not_moving h
    rw [State.serveHeld_none none_held, State.panel_dropLeaf, State.panel_setPanel_same]

theorem execUnmap_unmaps {s : State} {n v : Nat} (h : MapReady s n) (hv : v < s.panelEnd n)
    (hmoving : s.moving n v = false) :
    ∃ t, exec (.unmap n v 1) s = .next t ∧ (t.panel n v).state = 0 ∧ MapReports t false 0 1 := by
  obtain ⟨htent, hidle, hvalid, hcurrent⟩ := h
  have one : State.unmapFrom n 1 v 0 s =
      ((s.unmapPanel n v).modMem fun m => { m with unmapping := none }).memReport false false 0 1 := by
    unfold State.unmapFrom
    rw [if_neg (by omega), hmoving, if_neg Bool.false_ne_true]
    rfl
  have run : exec (.unmap n v 1) s =
      .next (((s.unmapPanel n v).modMem fun m => { m with unmapping := none }).memReport false false 0 1) := by
    change execUnmap n v 1 s = _
    unfold execUnmap
    rw [hidle, hcurrent, hvalid, if_neg Bool.false_ne_true, if_neg (by simp), if_neg (by simp; omega)]
    exact congrArg Host.Outcome.next one
  refine ⟨_, run, ?_, State.mapReports_memReport _ _ (by decide) (by decide)⟩
  rw [State.panel_memReport, State.panel_unmapping, State.unmapPanel_invalid hmoving]

/-! Hints. -/

/-- A migration request stands behind the others of its panel's engine (R265). -/
theorem State.mig_queueMigration (s : State) (m : Migration) : (s.queueMigration m).mig (s.engineOf m.tent m.panel) =
    { s.mig (s.engineOf m.tent m.panel) with queue := (s.mig (s.engineOf m.tent m.panel)).queue ++ [m] } := by
  unfold State.queueMigration
  dsimp only
  rw [State.mig_setMig_same]

/-- A request for a panel leaves the panels as they are. -/
theorem State.panel_requestInbound (s : State) (n v : Nat) (st : Stamp) (demand : Bool) (m w : Nat) :
    (s.requestInbound n v st demand).panel m w = s.panel m w := by
  unfold State.requestInbound
  split
  · rfl
  · rfl

/-- A prefetch of a FLASH panel queues an inbound migration (R269). -/
theorem execHintPrefetch_queues {s : State} {n v : Nat} (h : MapReady s n) (hv : v < s.panelEnd n)
    (hstate : (s.panel n v).state = 2) (hpending : s.inboundPending n v = false) :
    ∃ t m, exec (.hintPrefetch n v 1) s = .next t ∧ MapReports t true 0 1 ∧
      (t.mig (s.engineOf n v)).queue = (s.mig (s.engineOf n v)).queue ++ [m] ∧ m.tent = n ∧ m.panel = v ∧
      m.out = false ∧ m.demand = false := by
  have queued : (s.originate islPort).2.requestInbound n v (s.originate islPort).1 false =
      (s.originate islPort).2.queueMigration { tent := n, panel := v, stamp := (s.originate islPort).1 } := by
    unfold State.requestInbound
    rw [State.inboundPending_originate, State.panel_originate, hpending, if_neg (by simp [hstate])]
  have run : exec (.hintPrefetch n v 1) s = .next (((s.originate islPort).2.queueMigration
      { tent := n, panel := v, stamp := (s.originate islPort).1 }).memReport true false 0 1) :=
    congrArg Host.Outcome.next (State.memOp_one h hv true (congrArg Except.ok queued))
  refine ⟨_, { tent := n, panel := v, stamp := (s.originate islPort).1 }, run,
    State.mapReports_memReport _ _ (by decide) (by decide), ?_, rfl, rfl, rfl, rfl⟩
  rw [State.mig_memReport, ← State.engineOf_originate s islPort n v, State.mig_queueMigration, State.mig_originate]

/-- A pin sets the mark of a panel, where 16 panels of the quota stay unpinned (R269). -/
theorem execHintPin_pins {s : State} {n v : Nat} (h : MapReady s n) (hv : v < s.panelEnd n)
    (hstate : (s.panel n v).state ≠ 0) (hretired : (s.panel n v).state ≠ 5)
    (hroom : (s.panel n v).pin = true ∨ s.pinnedCount n + 1 + 16 ≤ s.quota n) :
    ∃ t, exec (.hintPin n v 1) s = .next t ∧ t.panel n v = { s.panel n v with pin := true } ∧
      MapReports t true 0 1 := by
  have fits : ¬ ((!(s.panel n v).pin && decide (s.quota n < s.pinnedCount n + 1 + 16)) = true) := by
    rw [Bool.and_eq_true, Bool.not_eq_true', decide_eq_true_eq]
    rintro ⟨hpin, hover⟩
    rcases hroom with hroom | hroom
    · rw [hroom] at hpin
      exact Bool.false_ne_true hpin.symm
    · omega
  have run : exec (.hintPin n v 1) s = .next ((((s.originate islPort).2.setPanel n v
      { s.panel n v with pin := true }).requestInbound n v (s.originate islPort).1 false).memReport
        true false 0 1) := by
    refine congrArg Host.Outcome.next (State.memOp_one h hv true ?_)
    dsimp only
    rw [State.panel_originate, State.quota_originate, State.pinnedCount_originate,
      if_neg (not_or.2 ⟨hstate, hretired⟩), if_neg fits]
  exact ⟨_, run, by rw [State.panel_memReport, State.panel_requestInbound, State.panel_setPanel_same],
    State.mapReports_memReport _ _ (by decide) (by decide)⟩

/-- An unpin clears it (R269). -/
theorem execHintUnpin_unpins {s : State} {n v : Nat} (h : MapReady s n) (hv : v < s.panelEnd n)
    (hstate : (s.panel n v).state ≠ 0) (hretired : (s.panel n v).state ≠ 5) :
    ∃ t, exec (.hintUnpin n v 1) s = .next t ∧ t.panel n v = { s.panel n v with pin := false } ∧
      MapReports t true 0 1 := by
  have run : exec (.hintUnpin n v 1) s = .next (((s.originate islPort).2.setPanel n v
      { s.panel n v with pin := false }).memReport true false 0 1) := by
    refine congrArg Host.Outcome.next (State.memOp_one h hv true ?_)
    dsimp only
    rw [State.panel_originate, if_neg (not_or.2 ⟨hstate, hretired⟩)]
  exact ⟨_, run, by rw [State.panel_memReport, State.panel_setPanel_same],
    State.mapReports_memReport _ _ (by decide) (by decide)⟩

/-- A demote of a RESIDENT panel without a pin queues its write-back (R269). -/
theorem execHintDemote_queues {s : State} {n v : Nat} (h : MapReady s n) (hv : v < s.panelEnd n)
    (hstate : (s.panel n v).state = 1) (hpin : (s.panel n v).pin = false) (hflash : s.flashEnabled n = true)
    (hpending : s.outboundPending n v = false) :
    ∃ t m, exec (.hintDemote n v 1) s = .next t ∧ MapReports t true 0 1 ∧
      (t.mig (s.engineOf n v)).queue = (s.mig (s.engineOf n v)).queue ++ [m] ∧ m.tent = n ∧ m.panel = v ∧
      m.out = true := by
  have run : exec (.hintDemote n v 1) s = .next (((s.originate islPort).2.queueMigration
      { tent := n, panel := v, out := true, stamp := (s.originate islPort).1 }).memReport true false 0 1) := by
    refine congrArg Host.Outcome.next (State.memOp_one h hv true ?_)
    dsimp only
    rw [State.panel_originate, State.flashEnabled_originate, State.outboundPending_originate,
      if_pos ⟨hstate, hpin, hflash, hpending⟩]
  refine ⟨_, { tent := n, panel := v, out := true, stamp := (s.originate islPort).1 }, run,
    State.mapReports_memReport _ _ (by decide) (by decide), ?_, rfl, rfl, rfl⟩
  rw [State.mig_memReport, ← State.engineOf_originate s islPort n v, State.mig_queueMigration, State.mig_originate]

/-! Retirement. -/

/-- RESULT of a retirement that is over reads as reported (R270). -/
theorem State.retireReport_result (s : State) {result : Nat} (h : result < 8) :
    (s.retireReport false result).fld rMemRetireStatus fMemRetireStatusResult = result := by
  unfold State.fld State.retireReport
  rw [State.rd_wr_same]
  generalize s.nv.retired.length = k
  simp only [getBits, BitVec.toNat_ofNat, Nat.shiftRight_eq_div_pow, fMemRetireStatusResult, Bool.false_eq_true,
    if_false]
  omega

/-- Moving a granule to a replacement leaves what every reset keeps alone. -/
theorem State.replaceGranule_nv (s : State) (u : PhysUse) (p q g : Nat) : (s.replaceGranule u p q g).nv = s.nv := by
  unfold State.replaceGranule
  extract_lets a b k d
  split
  · split
    · rw [State.modMem_nv, State.hbmClear_nv]
    · rfl
  · rw [State.modMem_nv, State.hbmClear_nv]

/-- A physical panel without a lost granule moves its tent panel to the spare that is free (R271). -/
theorem State.retireUsed_moves {s : State} {p q : Nat} {u : PhysUse}
    (hclean : ∀ g, g < 16 → s.granuleLost u.stackMask u.interleave p g = false)
    (hspare : ((List.range 64).map fun k => 2 ^ 20 * (p / 2 ^ 20) + s.dev.mem.reserveSlot + k).find?
      (s.panelFree u.stackMask u.interleave) = some q) :
    ∃ t, s.retireUsed p u = (0, t) ∧ t.nv.retired = s.nv.retired ++ [p] ∧
      t.panel u.tent u.panel = { s.panel u.tent u.panel with hbm := q } := by
  have lost : ((List.range 16).filter fun g => s.granuleLost u.stackMask u.interleave p g) = [] := by
    refine List.filter_eq_nil_iff.2 fun g hg => ?_
    rw [hclean g (List.mem_range.1 hg)]
    exact Bool.false_ne_true
  have nv : ∀ (l : List Nat) (v : State), (l.foldl (fun s g => s.replaceGranule u p q g) v).nv = v.nv := by
    intro l
    induction l with
    | nil => exact fun v => by rw [List.foldl_nil]
    | cons g l ih => exact fun v => by rw [List.foldl_cons, ih, State.replaceGranule_nv]
  have run : s.retireUsed p u = (0, ((((List.range 16).foldl (fun s g => s.replaceGranule u p q g)
      (s.retireEntry p)).setPhys p none).setPhys q (some u)).setPanel u.tent u.panel
        { s.panel u.tent u.panel with hbm := q }) := by
    unfold State.retireUsed
    rw [lost, hspare]
    dsimp only
    rw [if_neg (by simp)]
    rfl
  refine ⟨_, run, ?_, State.panel_setPanel_same ..⟩
  rw [State.setPanel_nv, State.setPhys_nv, State.setPhys_nv, nv]
  rfl

/-- A physical panel passes the checks of a retirement: it lies on a stack of the assembly, outside the carved areas,
and is not in the list, which has room (R271). -/
structure Retirable (s : State) (p : Nat) : Prop where
  stack : p / 2 ^ 20 < s.dev.desc.stackCount
  new : p ∉ s.nv.retired
  room : s.nv.retired.length < 4096
  slot : (s.dev.mem.carved.any fun e => decide (e.1 ≤ p % 2 ^ 20) && decide (p % 2 ^ 20 < e.1 + e.2)) = false

section
variable {s : State} {p : Nat}

theorem execPanelRetire_eq (hp : p < 2 ^ 24) (hidle : s.flag rMemRetireStatus fMemRetireStatusBusy = false) :
    exec (.panelRetire p) s = .next (s.retire p) := by
  change execPanelRetire p s = _
  unfold execPanelRetire
  rw [hidle, if_neg Bool.false_ne_true, Nat.mod_eq_of_lt hp]

/-- One not in use enters the list, with result 3. -/
theorem Retirable.retire_unused (h : Retirable s p) (hfree : SMap.get (fun _ => none) s.dev.mem.phys p = none) :
    s.retire p = (s.retireEntry p).retireReport false 3 := by
  obtain ⟨hstack, hnew, hroom, hslot⟩ := h
  have unlisted : ¬ s.nv.retired.contains p = true := by simpa using hnew
  unfold State.retire
  dsimp only
  rw [if_neg (by omega), if_neg unlisted, if_neg (by omega), hslot, if_neg Bool.false_ne_true, hfree]

/-- One in use by a panel that does not migrate is taken from it. -/
theorem Retirable.retire_used (h : Retirable s p) {u : PhysUse} {result : Nat} {t : State}
    (huse : SMap.get (fun _ => none) s.dev.mem.phys p = some u) (hmoving : s.moving u.tent u.panel = false)
    (htaken : s.retireUsed p u = (result, t)) :
    s.retire p = (t.modMem fun m => { m with retiring := none }).retireReport false result := by
  obtain ⟨hstack, hnew, hroom, hslot⟩ := h
  have unlisted : ¬ s.nv.retired.contains p = true := by simpa using hnew
  unfold State.retire
  dsimp only
  rw [if_neg (by omega), if_neg unlisted, if_neg (by omega), hslot, if_neg Bool.false_ne_true, huse]
  dsimp only
  rw [hmoving, if_neg Bool.false_ne_true, htaken]

/-- A physical panel not in use is retired with result 3 (R270). -/
theorem execPanelRetire_unused (hp : p < 2 ^ 24) (hidle : s.flag rMemRetireStatus fMemRetireStatusBusy = false)
    (h : Retirable s p) (hfree : SMap.get (fun _ => none) s.dev.mem.phys p = none) :
    ∃ t, exec (.panelRetire p) s = .next t ∧ t.nv.retired = s.nv.retired ++ [p] ∧
      t.fld rMemRetireStatus fMemRetireStatusResult = 3 := by
  refine ⟨_, execPanelRetire_eq hp hidle, ?_⟩
  rw [h.retire_unused hfree]
  exact ⟨rfl, State.retireReport_result _ (by decide)⟩

/-- One in use without a lost granule moves its tent panel to a spare, with result 0 (R271). -/
theorem execPanelRetire_used (hp : p < 2 ^ 24) (hidle : s.flag rMemRetireStatus fMemRetireStatusBusy = false)
    (h : Retirable s p) {u : PhysUse} {q : Nat} (huse : SMap.get (fun _ => none) s.dev.mem.phys p = some u)
    (hmoving : s.moving u.tent u.panel = false)
    (hclean : ∀ g, g < 16 → s.granuleLost u.stackMask u.interleave p g = false)
    (hspare : ((List.range 64).map fun k => 2 ^ 20 * (p / 2 ^ 20) + s.dev.mem.reserveSlot + k).find?
      (s.panelFree u.stackMask u.interleave) = some q) :
    ∃ t, exec (.panelRetire p) s = .next t ∧ t.nv.retired = s.nv.retired ++ [p] ∧
      t.panel u.tent u.panel = { s.panel u.tent u.panel with hbm := q } ∧
      t.fld rMemRetireStatus fMemRetireStatusResult = 0 := by
  obtain ⟨t, moves, retired, panel⟩ := State.retireUsed_moves hclean hspare
  refine ⟨_, execPanelRetire_eq hp hidle, ?_⟩
  rw [h.retire_used huse hmoving moves]
  refine ⟨?_, ?_, State.retireReport_result _ (by decide)⟩
  · rw [State.retireReport_nv, State.modMem_nv, retired]
  · rw [State.panel_retireReport, State.panel_retiring, panel]

end

end Sys2Proof.Machine
end

section
/-! Panel tables, mapping, hints and retirement settled. -/

namespace Sys2Proof.Machine

/-- Settles O41, command by command: a write of MEM_MAP or MEM_HINT for one panel comes down to what it does with that
panel (`State.memOp_one`), and a retirement turns on the use of the physical panel. -/
theorem panelsMapAndRetire : Obligations.PanelsMapAndRetire := by
  unfold Obligations.PanelsMapAndRetire
  refine ⟨?create, ?destroy, fun s n v => execPanelRead_loads, ?map, fun s n v => execUnmap_unmaps,
    fun s n v => execHintPrefetch_queues, ?pin, fun s n v => execHintDemote_queues, ?busy, ?retire⟩
  case create =>
    intro s n r dir hn
    split
    · next h =>
      obtain ⟨hlow, hhigh, hvalid, hpool⟩ := h
      exact execPanelTableCreate_creates hn hlow hhigh hvalid hpool
    · next h => exact ⟨_, execPanelTableCreate_refuses hn h, s.flag_cfgError n, rfl⟩
  case destroy =>
    intro s n hn
    split
    · next h => exact execPanelTableDestroy_destroys hn h
    · next h => exact ⟨_, execPanelTableDestroy_refuses hn h, s.flag_cfgError n, rfl⟩
  case map =>
    intro s n v p ready hv hstate hroom
    refine ⟨fun hquota hfree hreserve hopen => execMapHbm_takes ready hv hstate hroom hquota ?_,
      execMapFlash_maps ready hv hstate hroom⟩
    unfold State.mayTake
    rw [hfree, hreserve, hopen]
    rfl
  case pin =>
    intro s n v ready hv hstate hretired
    exact ⟨execHintPin_pins ready hv hstate hretired, execHintUnpin_unpins ready hv hstate hretired⟩
  case busy =>
    intro s n v count picks hbusy c hc
    simp only [List.mem_cons, List.not_mem_nil, or_false] at hc
    rcases hc with rfl | rfl | rfl | rfl | rfl | rfl | rfl
    case inr.inr.inl => exact if_pos hbusy
    all_goals exact congrArg Host.Outcome.next (State.memOp_busy hbusy ..)
  case retire =>
    intro s p hp hidle hstack hnew hroom hslot
    have retirable : Retirable s p := ⟨hstack, hnew, hroom, hslot⟩
    exact ⟨execPanelRetire_unused hp hidle retirable, fun u q => execPanelRetire_used hp hidle retirable⟩

end Sys2Proof.Machine
end

section
/-! SUPPORT. Migration between HBM and flash, and NVMe commands (R257, R262, R265 to R267). -/

namespace Sys2Proof.Machine

/-! NVMe commands. -/

/-- An NVMe command that is issued leaves the tables and the engines alone. -/
theorem State.nvmeIssue_kept {α : Type} (p : MemSt → α)
    (h : ∀ m c n, p { m with nvme := c, nextNvme := n } = p m) (s : State) (n v k d : Nat) (write : Bool) :
    p (s.nvmeIssue n v k d write).dev.mem = p s.dev.mem := by
  unfold State.nvmeIssue
  extract_lets st i slot
  split
  · rw [State.iodEvent_mem]
    exact h _ _ _
  · rfl

@[simp] theorem State.panel_nvmeIssue (s : State) (n v k d : Nat) (write : Bool) (m w : Nat) :
    (s.nvmeIssue n v k d write).panel m w = s.panel m w :=
  State.panel_of_tables (State.nvmeIssue_kept MemSt.tables (fun _ _ _ => rfl) ..) m w
@[simp] theorem State.mig_nvmeIssue (s : State) (n v k d : Nat) (write : Bool) (m : Nat) :
    (s.nvmeIssue n v k d write).mig m = s.mig m :=
  State.mig_of_mig (State.nvmeIssue_kept MemSt.mig (fun _ _ _ => rfl) ..) m

/-- A good completion ends its command (R257). -/
theorem execNvmeCompletion_good {s : State} {id : Nat} {c : NvmeCmd}
    (h : s.dev.mem.nvme.find? (·.id == id) = some c) :
    exec (.nvmeCompletion id 0) s = .next (s.modMem fun m => { m with nvme := m.nvme.filter (·.id ≠ id) }) := by
  change execNvmeCompletion id 0 s = _
  unfold execNvmeCompletion
  rw [h]
  exact if_pos rfl

/-! Inbound. -/

@[simp] theorem State.mig_hbmClear (s : State) (a k m : Nat) : (s.hbmClear a k).mig m = s.mig m := (rfl)
@[simp] theorem State.mig_takePanel (s : State) (n v p m : Nat) : (s.takePanel n v p).mig m = s.mig m := by
  unfold State.takePanel State.zeroPanel
  rw [State.mig_setPhys, foldl_kept (·.mig m) _ fun _ _ => State.mig_hbmClear ..]
@[simp] theorem State.mig_dropRequest_same (s : State) (m : Nat) (r : Migration) :
    (s.dropRequest m r).mig m = { s.mig m with queue := (s.mig m).queue.filter (· ≠ r) } :=
  State.mig_setMig_same _ _ _
@[simp] theorem State.panel_dropRequest (s : State) (m : Nat) (r : Migration) (n v : Nat) :
    (s.dropRequest m r).panel n v = s.panel n v := (rfl)

/-- An inbound request with quota takes the physical panel picked: its panel is MIGRATING_IN, and the request in flight
(R265). -/
theorem execInboundMigration_begins {s : State} {m p : Nat} {r : Migration} (hb : s.blocked (islMigration m) = false)
    (hnext : s.nextRequest m = some r) (hin : r.out = false) (hflight : (s.mig m).flight.length < 64)
    (hstate : (s.panel r.tent r.panel).state = 2) (hquota : s.quotaFree r.tent = true)
    (hmay : s.mayTake r.tent p = true) :
    ∃ t, exec (.inboundMigration m (some p)) s = .next t ∧
      t.panel r.tent r.panel = { s.panel r.tent r.panel with state := 3, hbm := p } ∧
      (t.mig m).flight = (s.mig m).flight ++ [r] ∧ (t.mig m).queue = (s.mig m).queue.filter (· ≠ r) := by
  have begins : ¬ (r.out = true ∨ 64 ≤ (s.mig m).flight.length) := by
    rw [hin]
    simpa using hflight
  have picked : s.pickPanel r.tent (some p) = some p := if_pos hmay
  change ∃ t, execInboundMigration m (some p) s = .next t ∧ _
  unfold execInboundMigration
  rw [State.acting_free hb]
  simp only [hnext, hstate, hquota, picked, begins, if_false, if_true, ne_eq, not_true_eq_false]
  refine ⟨_, rfl, ?_⟩
  generalize begun : State.setPanel _ r.tent r.panel _ = u
  have panel : u.panel r.tent r.panel = { s.panel r.tent r.panel with state := 3, hbm := p } := by
    rw [← begun, State.panel_setPanel_same, State.panel_setMig, State.panel_dropRequest]
  have mig : u.mig m = { s.mig m with
      flight := (s.mig m).flight ++ [r], queue := (s.mig m).queue.filter (· ≠ r) } := by
    rw [← begun, State.mig_setPanel, State.mig_takePanel, State.mig_setMig_same, State.mig_dropRequest_same]
  have read {α : Type} (f : State → α) (hf : ∀ s n v k d b, f (State.nvmeIssue s n v k d b) = f s) :
      f (if (u.panel r.tent r.panel).homeFlash = true then
        (List.range 16).foldl (fun s g => s.nvmeIssue r.tent r.panel (s.fld (rTentFlash r.tent) fTentFlashSet)
          (16 * (s.panel r.tent r.panel).extent + g) false) u else u) = f u := by
    split
    · exact foldl_kept f _ (fun _ _ => hf ..) _ _
    · rfl
  rw [State.panel_busy, State.mig_busy, read (·.panel r.tent r.panel) (fun _ _ _ _ _ _ => State.panel_nvmeIssue ..),
    read (·.mig m) (fun _ _ _ _ _ _ => State.mig_nvmeIssue ..), panel, mig]
  exact ⟨rfl, rfl, rfl⟩

theorem State.addFld_mem (s : State) (off : Nat) (f : Nat × Nat) (k : Nat) :
    (s.addFld off f k).dev.mem = s.dev.mem := (rfl)
theorem State.noteReconstruct_mem (s : State) (k d : Nat) : (s.noteReconstruct k d).dev.mem = s.dev.mem := by
  simp only [State.noteReconstruct, State.iodEvent_mem, State.log_mem, State.addFld_mem]

/-- A granule that is filled changes HBM and the list of unread granules alone. -/
theorem State.fillGranule_standing (s : State) (n v g : Nat) : (s.fillGranule n v g).standing = s.standing := by
  unfold State.fillGranule
  extract_lets p k d a st u
  have noted : u.standing = s.standing := by
    unfold u
    split
    · exact State.standing_of_mem (State.noteReconstruct_mem ..)
    · rfl
  split
  · exact (State.standing_modHbm ..).trans noted
  · split
    · exact (State.standing_modHbm ..).trans noted
    · exact (State.standing_modHbm ..).trans noted

/-- Once its reads are done an inbound panel is RESIDENT (R265, R266). -/
theorem execInboundMigrationDone_resident {s : State} {n v m : Nat} {r : Migration}
    (hflight : s.flightOf false n v = some (m, r)) (hb : s.blocked (islMigration m) = false)
    (hread : s.nvmeBusy n v = false) (idle : NothingResumes s) :
    ∃ t, exec (.inboundMigrationDone n v) s = .next t ∧ (t.panel n v).state = 1 := by
  change ∃ t, execInboundMigrationDone n v s = .next t ∧ _
  unfold execInboundMigrationDone
  rw [hflight]
  simp only [State.acting_free hb, hread, Bool.false_eq_true, if_false]
  refine ⟨_, rfl, ?_⟩
  generalize filled : (if ((s.endFlight m r).panel n v).homeFlash = true then
    (List.range 16).foldl (fun s g => s.fillGranule n v g) (s.endFlight m r) else s.endFlight m r) = u
  have hu : u.standing = s.standing := by
    rw [← filled]
    split
    · exact foldl_kept State.standing _ (fun s g => s.fillGranule_standing n v g) _ _
    · rfl
  generalize resident : State.setPanel u n v _ = w
  have hw : (w.panel n v).state = 1 := by rw [← resident, State.panel_setPanel_same]
  have widle : NothingResumes w := by
    rw [← resident]
    exact (idle.of_standing hu).setPanel n v _
  generalize ended : State.trace _ _ _ _ _ _ = x
  have kept : x.dev.mem = (w.serveHeld n v).dev.mem := by
    rw [← ended, State.trace_mem, State.busy_mem, State.msdEvent_mem]
  have hx : x.standing = w.standing := (State.standing_of_mem kept).trans (w.serveHeld_standing n v _)
  rw [State.memResume_idle (widle.of_standing hx), State.state_of_standing hx, hw]

/-! Outbound. -/

theorem State.flashSetOf_dropped (s : State) (m : Nat) (r : Migration) (k n : Nat) :
    ((s.dropRequest m r).originate k).2.fld (rTentFlash n) fTentFlashSet = s.fld (rTentFlash n) fTentFlashSet := (rfl)

/-- An outbound request whose granules are written back is in flight, and its panel MIGRATING_OUT (R267). -/
theorem execOutboundMigration_begins {s s1 : State} {m : Nat} {pick : Option Nat} {r : Migration} {e : Nat}
    (hb : s.blocked (islMigration m) = false) (hnext : s.nextRequest m = some r) (hout : r.out = true)
    (hflight : (s.mig m).flight.length < 64) (hstate : (s.panel r.tent r.panel).state = 1)
    (hextent : (if (s.panel r.tent r.panel).homeFlash = true then some (s.panel r.tent r.panel).extent
      else ((s.dropRequest m r).originate (islMigration m)).2.pickExtent r.tent pick) = some e)
    (hwritten : ((((s.dropRequest m r).originate (islMigration m)).2.setExtent
        (s.fld (rTentFlash r.tent) fTentFlashSet) e (r.tent + 1)).setPanel r.tent r.panel
          { s.panel r.tent r.panel with state := 4, extent := e, dirty := 0 }).writeBackAll r.tent r.panel
        (if (s.panel r.tent r.panel).homeFlash = true then bitList 16 (s.panel r.tent r.panel).dirty.toNat
          else List.range 16) = some s1) :
    ∃ t x, exec (.outboundMigration m pick) s = .next t ∧ t.panel r.tent r.panel = s1.panel r.tent r.panel ∧
      (t.mig m).flight = (s1.mig m).flight ++ [x] ∧ x.tent = r.tent ∧ x.panel = r.panel ∧ x.out = true ∧
      x.commit = r.commit := by
  have begins : ¬ ((!r.out) = true ∨ 64 ≤ (s.mig m).flight.length) := by
    rw [hout]
    simpa using hflight
  change ∃ t x, execOutboundMigration m pick s = .next t ∧ _
  unfold execOutboundMigration
  rw [State.acting_free hb]
  simp only [hnext, hstate, begins, if_false, ne_eq, not_true_eq_false, hextent, State.flashSetOf_dropped, hwritten]
  refine ⟨_, { r with beganDirty := (s.panel r.tent r.panel).dirty }, rfl, ?_, ?_, rfl, rfl, hout, rfl⟩
  · rw [State.panel_busy, State.panel_setMig]
  · rw [State.mig_busy, State.mig_setMig_same]

theorem State.setIntent_dev (s : State) (k st : Nat) (on : Bool) : (s.setIntent k st on).dev = s.dev := by
  unfold State.setIntent
  exact foldl_kept State.dev _ (fun s slot => State.setSsd_dev ..) _ _

/-- Once its writes are done an outbound migration has a commit stamp of its engine (R267). -/
theorem execOutboundWritebackDone_commits {s : State} {n v m : Nat} {r : Migration}
    (hflight : s.flightOf true n v = some (m, r)) (hb : s.blocked (islMigration m) = false)
    (hwritten : s.nvmeBusy n v = false) (hcommit : r.commit = none) :
    ∃ t c, exec (.outboundWritebackDone n v) s = .next t ∧ c.island = islMigration m ∧
      (t.mig m).flight = (s.mig m).flight.map fun q => if q = r then { r with commit := some c } else q := by
  change ∃ t c, execOutboundWritebackDone n v s = .next t ∧ _
  unfold execOutboundWritebackDone
  rw [hflight]
  simp only [State.acting_free hb, hwritten, hcommit, Option.isSome_none, Bool.false_eq_true, if_false]
  generalize closed : List.foldl _ s (List.range 16) = u
  have hu : u.dev = s.dev := by
    rw [← closed]
    exact foldl_kept State.dev _ (fun _ _ => State.setIntent_dev ..) _ _
  refine ⟨_, (u.originate (islMigration m)).1, rfl, rfl, ?_⟩
  rw [State.mig_setMig_same, State.mig_originate, State.mig_of_mig (congrArg (·.mem.mig) hu)]

@[simp] theorem State.mig_endFlight_same (s : State) (m : Nat) (r : Migration) :
    (s.endFlight m r).mig m = { s.mig m with flight := (s.mig m).flight.filter (· ≠ r) } :=
  State.mig_setMig_same _ _ _
@[simp] theorem State.panel_endFlight (s : State) (m : Nat) (r : Migration) (n v : Nat) :
    (s.endFlight m r).panel n v = s.panel n v := (rfl)

theorem State.NoneHeld.endFlight {s : State} {n v : Nat} (h : s.NoneHeld n v) (m : Nat) (r : Migration) :
    (s.endFlight m r).NoneHeld n v := h

/-- The accesses held and the commands that wait are those of `s`. -/
structure SameWaits (s t : State) : Prop where
  held : t.dev.mem.held = s.dev.mem.held
  unmapping : t.dev.mem.unmapping = s.dev.mem.unmapping
  retiring : t.dev.mem.retiring = s.dev.mem.retiring

theorem SameWaits.of_mem {s t u : State} (h : SameWaits s t) (same : u.dev.mem = t.dev.mem) : SameWaits s u := by
  obtain ⟨held, unmapping, retiring⟩ := h
  exact ⟨same ▸ held, same ▸ unmapping, same ▸ retiring⟩

/-- Such a state has nothing to serve for the panel and nothing to resume, where `s` has none. -/
theorem SameWaits.resumes_nothing {s t : State} (same : SameWaits s t) {n v : Nat} (hheld : s.NoneHeld n v)
    (idle : NothingResumes s) : (t.serveHeld n v).memResume = t := by
  refine State.resume_idle ?_ ⟨same.unmapping.trans idle.1, same.retiring.trans idle.2⟩
  unfold State.NoneHeld
  rw [same.held]
  exact hheld

/-- Once the commit stamp is settled, a panel with no access waiting is FLASH where it is clean and RESIDENT where it is
not, and its migration is over (R267). -/
theorem execOutboundCommitSettled_ends {s : State} {n v m : Nat} {r : Migration} {c : Stamp}
    (hflight : s.flightOf true n v = some (m, r)) (hb : s.blocked (islMigration m) = false)
    (hcommit : r.commit = some c) (hsettled : s.settled c = true) (idle : NothingResumes s) (hheld : s.NoneHeld n v) :
    ∃ t, exec (.outboundCommitSettled n v) s = .next t ∧ (t.mig m).flight = (s.mig m).flight.filter (· ≠ r) ∧
      t.panel n v = if (s.panel n v).dirty = 0 then { s.panel n v with state := 2, homeFlash := true }
        else { s.panel n v with state := 1 } := by
  have served : (s.endFlight m r).serveHeld n v (fun a => !a.stamp.before c) = s.endFlight m r :=
    State.serveHeld_none (hheld.endFlight m r) _
  change ∃ t, execOutboundCommitSettled n v s = .next t ∧ _
  unfold execOutboundCommitSettled
  rw [hflight]
  simp only [hcommit, State.acting_free hb, hsettled, Bool.not_true, Bool.false_eq_true, if_false, served,
    State.panel_endFlight]
  refine ⟨_, rfl, ?_⟩
  split
  · next clean =>
    rw [SameWaits.resumes_nothing (s := s) ?_ hheld idle]
    · simp only [State.mig_trace, State.mig_msdEvent, State.mig_setPanel, State.mig_setPhys, State.mig_endFlight_same,
        State.panel_trace, State.panel_msdEvent, State.panel_setPanel_same, and_self]
    · refine SameWaits.of_mem ?_ ((State.trace_mem ..).trans (State.msdEvent_mem ..))
      exact ⟨rfl, rfl, rfl⟩
  · next dirty =>
    rw [SameWaits.resumes_nothing (s := s) ?_ hheld idle]
    · simp only [State.mig_trace, State.mig_msdEvent, State.mig_setPanel, State.mig_setMig_same,
        State.panel_trace, State.panel_msdEvent, State.panel_setPanel_same, and_true]
      split
      · rw [State.mig_endFlight_same]
      · rw [State.mig_setExtent, State.mig_endFlight_same]
    · refine SameWaits.of_mem ?_ ((State.trace_mem ..).trans (State.msdEvent_mem ..))
      split
      · exact ⟨rfl, rfl, rfl⟩
      · exact ⟨rfl, rfl, rfl⟩

end Sys2Proof.Machine
end

section
/-! SUPPORT. Flash sets: what fails an SSD, and how a set is created, assembled and rebuilt (R257, R258, R260 to
R263). -/

namespace Sys2Proof.Machine

/-! The registers of a set. -/

theorem flashsetCfg_ne_status (k : Nat) : rMemFlashsetCfg k ≠ rMemFlashsetStatus k := by
  unfold rMemFlashsetCfg rMemFlashsetStatus
  omega
theorem flashsetCfg_ne_extents (k : Nat) : rMemFlashsetCfg k ≠ rMemFlashsetExtents k := by
  unfold rMemFlashsetCfg rMemFlashsetExtents
  omega
theorem flashsetStatus_ne_extents (k : Nat) : rMemFlashsetStatus k ≠ rMemFlashsetExtents k := by
  unfold rMemFlashsetStatus rMemFlashsetExtents
  omega
theorem flashsetStatus_ne_rebuild (k : Nat) : rMemFlashsetStatus k ≠ rMemFlashsetRebuild k := by
  unfold rMemFlashsetStatus rMemFlashsetRebuild
  omega

@[simp] theorem State.flashSet_wr (s : State) (off : Nat) (x : W64) (k : Nat) :
    (s.wr off x).flashSet k = s.flashSet k := (rfl)
@[simp] theorem State.flashSet_setFld (s : State) (off : Nat) (f : Nat × Nat) (x k : Nat) :
    (s.setFld off f x).flashSet k = s.flashSet k := (rfl)
@[simp] theorem State.flashSet_setFlag (s : State) (off : Nat) (f : Nat × Nat) (b : Bool) (k : Nat) :
    (s.setFlag off f b).flashSet k = s.flashSet k := (rfl)

/-! STATE of a set. -/

@[simp] theorem State.flashSet_refreshSet (s : State) (k j : Nat) : (s.refreshSet k).flashSet j = s.flashSet j := (rfl)
@[simp] theorem State.ssd_refreshSet (s : State) (k slot : Nat) : (s.refreshSet k).ssd slot = s.ssd slot := (rfl)
@[simp] theorem State.ssd_wr (s : State) (off : Nat) (x : W64) (slot : Nat) :
    (s.wr off x).ssd slot = s.ssd slot := (rfl)
@[simp] theorem State.ssd_setFlashSet (s : State) (k : Nat) (x : FlashSet) (slot : Nat) :
    (s.setFlashSet k x).ssd slot = s.ssd slot := (rfl)

/-- Setting STATE leaves the failed slots as they are. -/
@[simp] theorem State.failedSlots_refreshSet (s : State) (k : Nat) : (s.refreshSet k).failedSlots k = s.failedSlots k :=
  State.fld_setFld_apart _ _ _ _ _ (by decide) (by decide)

theorem State.flag_refreshSet (s : State) (k off : Nat) (f : Nat × Nat) (h : off ≠ rMemFlashsetStatus k) :
    (s.refreshSet k).flag off f = s.flag off f := State.flag_setFld_other _ _ _ _ _ _ h

/-- Without a failed slot a set is OK (R262). -/
theorem State.state_refreshSet {s : State} {k : Nat} (h : s.failedSlots k = 0) :
    (s.refreshSet k).fld (rMemFlashsetStatus k) fMemFlashsetStatusState = 1 := by
  have good (n : Nat) : setState n (ones16 (s.failedSlots k)) = 1 := by
    rw [h]
    rfl
  unfold State.refreshSet
  dsimp only
  rw [good, if_neg (by simp), State.fld_setFld_same _ _ _ _ (by decide)]
  rfl

/-- The failed slots as they are stored: those of the 16 slots. -/
theorem State.failedSlots_setFld (s : State) (k v : Nat) :
    (s.setFld (rMemFlashsetStatus k) fMemFlashsetStatusFailedSlots v).failedSlots k = v % 2 ^ 16 :=
  State.fld_setFld_same _ _ _ _ (by decide)

@[simp] theorem State.failedSlots_setFlashSet (s : State) (j : Nat) (x : FlashSet) (k : Nat) :
    (s.setFlashSet j x).failedSlots k = s.failedSlots k := (rfl)
@[simp] theorem State.failedSlots_modMem (s : State) (f : MemSt → MemSt) (k : Nat) :
    (s.modMem f).failedSlots k = s.failedSlots k := (rfl)

theorem testBit_setBit_false (x i : Nat) : (setBit x i false).testBit i = false := by
  unfold setBit
  split
  · next set =>
    have split_off : x = 2 ^ i + (x - 2 ^ i) := (Nat.add_sub_cancel' (Nat.ge_two_pow_of_testBit set)).symm
    rw [split_off, Nat.testBit_two_pow_add_eq, Bool.not_eq_true'] at set
    rw [if_neg Bool.false_ne_true, set]
  · next clear => simpa using clear

/-! A failed SSD. -/

theorem State.rd_of_regs {s t : State} (h : t.dev.regs = s.dev.regs) (off : Nat) : t.rd off = s.rd off := by
  unfold State.rd
  rw [h]

theorem State.rd_countEvent_below (s : State) (win kmax code inst tent tick n : Nat) {off : Nat} (h : off < win) :
    (s.countEvent win kmax code inst tent tick n).rd off = s.rd off := by
  unfold State.countEvent
  refine foldl_kept (·.rd off) _ (fun s k => ?_) _ _
  split
  · exact State.rd_wr_other _ _ _ _ (by omega)
  · rfl

section
variable (s : State) {off : Nat} (h : off < rRasInjectSel)
include h

/-! Firing an injection, counting and logging a detection write no register below those of the RAS unit. -/

theorem State.rd_fire_below (isl det : Nat) : (s.fire isl det).2.rd off = s.rd off := by
  have arm : off ≠ rRasInjectArm := by
    unfold rRasInjectSel at h
    unfold rRasInjectArm
    omega
  unfold State.fire State.addFld
  split
  · dsimp only
    rw [State.rd_setFld_other _ _ _ _ _ arm, State.rd_setFlag_other _ _ _ _ _ arm,
      State.rd_setFlag_other _ _ _ _ _ arm]
  · rfl

theorem State.rd_countClass_below (det sev : Nat) : (s.countClass det sev).rd off = s.rd off := by
  have count : off ≠ rRasClassCount (det / 256) := by
    unfold rRasInjectSel at h
    unfold rRasClassCount
    omega
  unfold State.countClass State.addFld
  dsimp only
  split
  · exact State.rd_setFld_other _ _ _ _ _ count
  · split
    · exact State.rd_setFld_other _ _ _ _ _ count
    · rfl

theorem State.rd_log_below (isl : Nat) (r : ErrRec) : (s.log isl r).rd off = s.rd off := by
  have fired : (if r.detector < 0x0900 then (none, s) else s.fire isl r.detector).2.rd off = s.rd off := by
    split
    · rfl
    · exact s.rd_fire_below h _ _
  unfold State.log State.logAt
  generalize (if r.detector < 0x0900 then (none, s) else s.fire isl r.detector) = q at fired
  obtain ⟨inj, u⟩ := q
  have rest (st : Stamp) :
      (((u.originate isl).2.countClass r.detector r.severity).errorSource r.detector r.severity st).rd off = s.rd off :=
    calc
      _ = ((u.originate isl).2.countClass r.detector r.severity).rd off :=
        State.errorSource_kept (·.rd off) (fun _ _ => rfl) _ _ _ _
      _ = (u.originate isl).2.rd off := State.rd_countClass_below _ h _ _
      _ = u.rd off := State.originate_kept (·.rd off) (fun _ _ _ => rfl) u isl
      _ = s.rd off := fired
  dsimp only
  split
  · exact rest _
  · exact rest _

end

/-- Rejecting a descriptor writes the count of the journal's rejections and event counters of an I/O die alone. -/
theorem State.rd_reject (s : State) (f : Fetched) (reason : Nat) {off : Nat} (hj : off ≠ rJrnlStatus)
    (h : off < 0x380000) : (s.reject f reason).rd off = s.rd off := by
  unfold State.reject
  dsimp only
  rw [State.contribute_kept (·.rd off) (fun _ _ _ => rfl) (fun _ _ => rfl)]
  refine (State.rd_countEvent_below _ _ _ _ _ _ _ _ h).trans ?_
  split
  · exact State.rd_setFld_other _ _ _ _ _ hj
  · rfl

theorem State.rd_admitFailed (s : State) (n : Nat) {off : Nat} (hj : off ≠ rJrnlStatus) (h : off < 0x380000) :
    (s.admitFailed n).rd off = s.rd off := by
  unfold State.admitFailed
  split
  · rfl
  · split
    · rfl
    · next r _ _ =>
      have ring : (match r.ring with
          | some k => s.setRing k ((s.ring k).map fun (x : Ring) => { x with bound := 0, stalled := none })
          | none => s).rd off = s.rd off := by
        split
        · rfl
        · rfl
      dsimp only
      split
      · exact ring
      · exact (State.rd_reject _ _ _ hj h).trans ring

theorem State.ssdJournal_dev (s : State) (slot : Nat) (rs : List JRec) : (s.ssdJournal slot rs).dev = s.dev := (rfl)

theorem State.journalSsdFailed_regs (s : State) : s.journalSsdFailed.dev.regs = s.dev.regs := by
  unfold State.journalSsdFailed
  extract_lets rs u
  have moved : u.dev = s.dev := foldl_kept State.dev _ (fun s slot => s.ssdJournal_dev slot rs) _ _
  rw [State.modJrnl_dev, moved]

theorem State.rd_flashAdmitsFailed (s : State) {off : Nat} (hj : off ≠ rJrnlStatus) (h : off < 0x380000) :
    s.flashAdmitsFailed.rd off = s.rd off := by
  unfold State.flashAdmitsFailed
  split
  · rfl
  · exact foldl_kept (·.rd off) _ (fun s (r : JRec) => s.rd_admitFailed r.req hj h) _ _

/-- The set of a slot is one of the two. -/
theorem State.setOfSlot_lt {s : State} {slot k j : Nat} (h : s.setOfSlot slot = some (k, j)) : k < 2 := by
  have found := List.mem_of_mem_head? h
  rw [List.mem_filterMap] at found
  obtain ⟨x, hx, found⟩ := found
  have two : x < 2 := by
    simp only [List.mem_cons, List.not_mem_nil, or_false] at hx
    omega
  split at found
  · rw [Option.map_eq_some_iff] at found
    obtain ⟨y, -, hy⟩ := found
    rw [Prod.mk.injEq] at hy
    omega
  · exact absurd found (by simp)

/-- An SSD that fails, not failed yet or being rebuilt, is marked failed (R262). -/
theorem State.failSsd_failed {s : State} {slot k j : Nat} (hset : s.setOfSlot slot = some (k, j)) (hslot : slot < 16)
    (h : (s.failedSlots k).testBit slot = false ∨ (s.flashSet k).rebuilding = some j) :
    ((s.failSsd slot).failedSlots k).testBit slot = true := by
  have two := State.setOfSlot_lt hset
  have new : ¬ ((s.failedSlots k).testBit slot = true ∧ (s.flashSet k).rebuilding ≠ some j) := by
    rintro ⟨old, still⟩
    rcases h with h | h
    · rw [h] at old
      exact Bool.false_ne_true old
    · exact still h
  have journal : rMemFlashsetStatus k ≠ rJrnlStatus := by
    unfold rMemFlashsetStatus rJrnlStatus
    omega
  have ras : rMemFlashsetStatus k < rRasInjectSel := by
    unfold rMemFlashsetStatus rRasInjectSel
    omega
  have window : rMemFlashsetStatus k < 0x380000 := by
    unfold rMemFlashsetStatus
    omega
  have logged (t : State) (isl : Nat) (r : ErrRec) :
      ((t.log isl r).journalSsdFailed.flashAdmitsFailed).failedSlots k = t.failedSlots k := by
    unfold State.failedSlots State.fld
    rw [State.rd_flashAdmitsFailed _ journal window, State.rd_of_regs (State.journalSsdFailed_regs _),
      State.rd_log_below _ ras]
  unfold State.failSsd
  rw [hset]
  dsimp only
  rw [if_neg new, logged, State.failedSlots_refreshSet, State.failedSlots_modMem, State.failedSlots_setFlashSet,
    State.failedSlots_setFld, Nat.testBit_mod_two_pow, testBit_setBit_true, decide_eq_true hslot]
  rfl

theorem execNvmeCommandTimeout_fails {s : State} {id : Nat} {c : NvmeCmd}
    (h : (s.dev.mem.nvme.find? fun c => c.id == id && decide (c.since + 2000000000 ≤ s.ao.tick)) = some c) :
    exec (.nvmeCommandTimeout id) s = .next (s.failSsd c.ssd) := by
  change execNvmeCommandTimeout id s = _
  unfold execNvmeCommandTimeout
  rw [h]

/-! Building and assembling. -/

/-- The set is VALID, with the slots of the mask and this identity (R261). -/
structure BroughtUp (t : State) (k mask : Nat) (ident : W128) : Prop where
  valid : t.flag (rMemFlashsetCfg k) fMemFlashsetCfgValid = true
  slots : (t.flashSet k).slots = bitList 16 mask
  identity : (t.flashSet k).identity = ident

theorem State.bringUp_up (s : State) (k mask : Nat) (plp : Bool) (ident : W128) (failed : Nat) :
    BroughtUp (s.bringUp k mask plp ident failed) k mask ident := by
  unfold State.bringUp
  dsimp only
  refine ⟨?_, ?_, ?_⟩
  case refine_2 | refine_3 =>
    simp only [State.flashSet_refreshSet, State.flashSet_setFld, State.flashSet_wr, State.flashSet_setFlag,
      State.flashSet_setFlashSet_same]
  rw [State.flag_refreshSet _ _ _ _ (flashsetCfg_ne_status k),
    State.flag_setFld_other _ _ _ _ _ _ (flashsetCfg_ne_extents k),
    State.flag_setFld_other _ _ _ _ _ _ (flashsetCfg_ne_status k), State.flag,
    State.fld_wr_other _ _ _ _ _ (flashsetCfg_ne_status k), ← State.flag]
  simp (disch := decide) only [State.flag_setFlag_apart, State.flag_setFlag_same]

/-- Without a failed slot it is OK. -/
theorem State.bringUp_good (s : State) (k mask : Nat) (plp : Bool) (ident : W128) :
    (s.bringUp k mask plp ident 0).fld (rMemFlashsetStatus k) fMemFlashsetStatusState = 1 := by
  unfold State.bringUp
  dsimp only
  refine State.state_refreshSet ?_
  unfold State.failedSlots
  rw [State.fld_setFld_other _ _ _ _ _ _ (flashsetStatus_ne_extents k)]
  exact State.failedSlots_setFld ..

/-- A set of SSDs that fit is created, VALID and OK (R261). -/
theorem execFlashSetCreate_creates {s : State} {k mask : Nat} {plp : Bool} {ident : W128} (hk : k < 2)
    (hvalid : s.flag (rMemFlashsetCfg k) fMemFlashsetCfgValid = false)
    (hfits : (s.maskOk k mask && (bitList 16 mask).all fun x => (s.ssd x).fits) = true) :
    ∃ t, exec (.flashSetCreate k mask plp ident) s = .next t ∧ BroughtUp t k mask ident ∧
      t.fld (rMemFlashsetStatus k) fMemFlashsetStatusState = 1 := by
  change ∃ t, execFlashSetCreate k mask plp ident s = .next t ∧ _
  unfold execFlashSetCreate
  dsimp only
  rw [hvalid, if_neg (by simpa using hk), if_pos hfits]
  exact ⟨_, rfl, State.bringUp_up .., State.bringUp_good ..⟩

/-- Another set is not, and sets CFG_ERROR (R261). -/
theorem execFlashSetCreate_refuses {s : State} {k mask : Nat} {plp : Bool} {ident : W128} (hk : k < 2)
    (hvalid : s.flag (rMemFlashsetCfg k) fMemFlashsetCfgValid = false)
    (hbad : ¬ (s.maskOk k mask && (bitList 16 mask).all fun x => (s.ssd x).fits) = true) :
    ∃ t, exec (.flashSetCreate k mask plp ident) s = .next t ∧
      t.flag (rMemFlashsetCfg k) fMemFlashsetCfgValid = false ∧
      t.flag (rMemFlashsetCfg k) fMemFlashsetCfgCfgError = true := by
  change ∃ t, execFlashSetCreate k mask plp ident s = .next t ∧ _
  unfold execFlashSetCreate
  dsimp only
  rw [hvalid, if_neg (by simpa using hk), if_neg hbad]
  refine ⟨_, rfl, ?_⟩
  unfold State.setCfgFail
  simp (disch := decide) only [State.flag_setFlag_apart, State.flag_setFlag_same, and_self]

theorem State.storeSlot_dev (s : State) (k st j : Nat) (b : List Byte) : (s.storeSlot k st j b).dev = s.dev := by
  unfold State.storeSlot
  dsimp only
  split
  · rfl
  · rfl

theorem State.fixParity_dev (s : State) (k st : Nat) : (s.fixParity k st).dev = s.dev := by
  unfold State.fixParity
  dsimp only
  rw [State.storeSlot_dev, State.storeSlot_dev]

theorem State.replayIntent_dev (s : State) (k : Nat) : (s.replayIntent k).dev = s.dev := by
  unfold State.replayIntent
  dsimp only
  rw [foldl_kept State.dev _ (fun _ _ => State.setSsd_dev ..),
    foldl_kept State.dev _ (fun s st => s.fixParity_dev k st)]

theorem BroughtUp.of_dev {s t : State} {k mask : Nat} {ident : W128} (h : BroughtUp s k mask ident)
    (same : t.dev = s.dev) : BroughtUp t k mask ident := by
  obtain ⟨valid, slots, identity⟩ := h
  have set : t.flashSet k = s.flashSet k := by
    unfold State.flashSet
    rw [same]
  exact ⟨(State.flag_of_regs (congrArg Device.regs same) _ _).trans valid, set ▸ slots, set ▸ identity⟩

/-- A set is assembled from SSDs that agree (R261). -/
theorem execFlashSetAssemble_assembles {s : State} {k mask : Nat} {x : SsdMeta} {miss : List Nat} (hk : k < 2)
    (hvalid : s.flag (rMemFlashsetCfg k) fMemFlashsetCfgValid = false) (hmask : s.maskOk k mask = true)
    (hmeta : s.agreedMeta mask = some (x, miss)) :
    ∃ t, exec (.flashSetAssemble k mask) s = .next t ∧ BroughtUp t k mask x.identity := by
  change ∃ t, execFlashSetAssemble k mask s = .next t ∧ _
  unfold execFlashSetAssemble State.assembleSet
  rw [hvalid, if_neg (by simpa using hk), hmask, hmeta]
  exact ⟨_, rfl, (State.bringUp_up ..).of_dev (State.replayIntent_dev ..)⟩

/-! Rebuilding. -/

/-- A rebuild begins on a failed slot with the replacement found in it (R263). -/
theorem execFlashRebuildGo_begins {s : State} {k slot j g : Nat} (hk : k < 2)
    (hslot : (s.flashSet k).slots.findIdx? (· == slot) = some j)
    (hvalid : s.flag (rMemFlashsetCfg k) fMemFlashsetCfgValid = true) (hfailed : (s.failedSlots k).testBit slot = true)
    (hidle : (s.flashSet k).rebuilding = none) (hfits : (s.flashSet k).gmin + reservedGranules ≤ g)
    (hset : s.setFailed k = false) :
    ∃ t, exec (.flashRebuildGo k slot (some g) true) s = .next t ∧ (t.flashSet k).rebuilding = some j ∧
      (t.ssd slot).present = true ∧ (t.ssd slot).granules = g := by
  change ∃ t, execFlashRebuildGo k slot (some g) true s = .next t ∧ _
  unfold execFlashRebuildGo
  dsimp only
  rw [hslot]
  dsimp only
  rw [if_pos ⟨hk, hvalid, hfailed, hidle, rfl, hfits, hset⟩]
  refine ⟨_, rfl, ?_, ?_⟩
  · rw [State.flashSet_refreshSet, State.flashSet_wr, State.flashSet_setFlashSet_same]
  · rw [State.ssd_refreshSet, State.ssd_wr, State.ssd_setFlashSet, State.ssd_setSsd_same]
    exact ⟨rfl, rfl⟩

/-- A rebuild ends with its slot good and DONE set (R263). -/
theorem execFlashRebuildDone_ends {s : State} {k j : Nat} (hrebuilding : (s.flashSet k).rebuilding = some j) :
    ∃ t, exec (.flashRebuildDone k) s = .next t ∧ (t.flashSet k).rebuilding = none ∧
      t.flag (rMemFlashsetRebuild k) fMemFlashsetRebuildDone = true ∧
      (t.failedSlots k).testBit ((s.flashSet k).slots.getD j 0) = false := by
  change ∃ t, execFlashRebuildDone k s = .next t ∧ _
  unfold execFlashRebuildDone
  simp only [hrebuilding]
  refine ⟨_, rfl, ?_, ?_, ?_⟩
  · rw [State.flashSet_refreshSet, State.flashSet_setFld, State.flashSet_setFlag, State.flashSet_setFld,
      State.flashSet_setFlashSet_same]
  · rw [State.flag_refreshSet _ _ _ _ (flashsetStatus_ne_rebuild k).symm]
    simp (disch := decide) only [State.flag_setFld_apart, State.flag_setFlag_same]
  · rw [State.failedSlots_refreshSet]
    unfold State.failedSlots
    rw [State.fld_setFld_other _ _ _ _ _ _ (flashsetStatus_ne_rebuild k),
      State.fld_setFlag_other _ _ _ _ _ _ (flashsetStatus_ne_rebuild k)]
    rw [← State.failedSlots, State.failedSlots_setFld, Nat.testBit_mod_two_pow, testBit_setBit_false, Bool.and_false]

end Sys2Proof.Machine
end

section
/-! Migrations and flash sets settled. -/

namespace Sys2Proof.Machine

/-- Settles O42, command by command: serving the accesses held for a panel keeps the state of every panel
(`State.serveHeld_standing`), and what a failed SSD logs and rejects keeps the failed slots. -/
theorem migrationsAndFlashSets : Obligations.MigrationsAndFlashSets := by
  unfold Obligations.MigrationsAndFlashSets
  refine ⟨?inbound, fun s n v m r => execInboundMigrationDone_resident,
    fun s m pick r e s1 => execOutboundMigration_begins, fun s n v m r => execOutboundWritebackDone_commits, ?settled,
    fun s id c => execNvmeCompletion_good, ?failed, ?create, ?assemble, ?rebuild,
    fun s k j _ hrebuilding _ => execFlashRebuildDone_ends hrebuilding⟩
  case inbound =>
    intro s m r p hb hnext hin hflight hstate hquota hfree hreserve hopen
    refine execInboundMigration_begins hb hnext hin hflight hstate hquota ?_
    unfold State.mayTake
    rw [hfree, hreserve, hopen]
    rfl
  case settled =>
    intro s n v m r c hflight hb hcommit hsettled idle hheld
    exact execOutboundCommitSettled_ends hflight hb hcommit hsettled idle hheld
  case failed =>
    intro s slot k j hset hslot h
    have failed := State.failSsd_failed hset hslot h
    refine ⟨⟨_, rfl, failed⟩, fun id c hc hssd => ⟨_, execNvmeCommandTimeout_fails hc, ?_⟩⟩
    rw [hssd, failed]
  case create =>
    intro s k mask plp ident hk hvalid
    split
    · next hfits =>
      obtain ⟨t, run, ⟨valid, slots, identity⟩, good⟩ := execFlashSetCreate_creates hk hvalid hfits
      exact ⟨t, run, valid, slots, identity, good⟩
    · next hbad => exact execFlashSetCreate_refuses hk hvalid hbad
  case assemble =>
    intro s k mask x miss hk hvalid hmask hmeta
    obtain ⟨t, run, valid, slots, identity⟩ := execFlashSetAssemble_assembles hk hvalid hmask hmeta
    exact ⟨t, run, valid, slots, identity⟩
  case rebuild =>
    intro s k slot j g hk _ hslot hvalid hfailed hidle hfits hset
    exact execFlashRebuildGo_begins hk hslot hvalid hfailed hidle hfits hset

end Sys2Proof.Machine
end

section
/-! SUPPORT. Vocabulary and grammar slots (R274 to R276, R278, R293, R302): their registers, the slots beside them, and
what their commands come to. -/

namespace Sys2Proof.Machine

/-! A register written by its access codes (R12, R15). -/

theorem getBits_lt (x : W64) (lo w : Nat) : getBits x lo w < 2 ^ w := Nat.mod_lt _ (by positivity)

/-- A write of a field leaves the bits apart from it. -/
theorem Fld.getBits_written_apart (f : Fld) (old v : W64) {lo w : Nat} (hf : f.lo + f.w ≤ 64)
    (apart : lo + w ≤ f.lo ∨ f.lo + f.w ≤ lo) : getBits (f.written old v) lo w = getBits old lo w := by
  have set (x : Nat) : getBits (setBits old f.lo f.w x) lo w = getBits old lo w :=
    getBits_setBits_apart old f.lo f.w x lo w hf apart
  unfold Fld.written
  dsimp only
  split
  · split
    · exact set _
    · rfl
  · split
    · exact set _
    · rfl
  · exact set _
  · exact set _
  · rfl
  · rfl

/-- An RW field all of whose encodings are valid takes the bits written. -/
theorem Fld.getBits_written_rw (f : Fld) (old v : W64) (hf : f.lo + f.w ≤ 64) (hacc : f.acc = .rw) (hmin : f.vmin = 0)
    (hmax : 2 ^ f.w ≤ f.vmax + 1) : getBits (f.written old v) f.lo f.w = getBits v f.lo f.w := by
  have bound := getBits_lt v f.lo f.w
  unfold Fld.written
  simp only [hacc]
  rw [if_pos (by omega), getBits_setBits_same _ _ _ _ hf, Nat.mod_eq_of_lt bound]

/-- Such a field of a register takes the bits written where the fields after it lie apart. -/
theorem getBits_fieldsWritten_rw (pre post : List Fld) (f : Fld) (old v : W64) (hf : f.lo + f.w ≤ 64)
    (hacc : f.acc = .rw) (hmin : f.vmin = 0) (hmax : 2 ^ f.w ≤ f.vmax + 1)
    (hpost : ∀ g ∈ post, g.lo + g.w ≤ 64 ∧ (f.lo + f.w ≤ g.lo ∨ g.lo + g.w ≤ f.lo)) :
    getBits (fieldsWritten (pre ++ f :: post) old v) f.lo f.w = getBits v f.lo f.w := by
  unfold fieldsWritten
  rw [List.foldl_append, List.foldl_cons]
  generalize hx : f.written (List.foldl (fun x g => g.written x v) old pre) v = x
  have taken : getBits x f.lo f.w = getBits v f.lo f.w := by
    rw [← hx]
    exact f.getBits_written_rw _ v hf hacc hmin hmax
  clear hx
  induction post generalizing x with
  | nil => exact taken
  | cons g post ih =>
    obtain ⟨hg, apart⟩ := hpost g (List.mem_cons_self ..)
    exact ih (fun k hk => hpost k (List.mem_cons_of_mem g hk)) _ ((g.getBits_written_apart x v hg apart).trans taken)

/-! The slots beside their registers. -/

@[simp] theorem State.vocab_setVocab_same (s : State) (x : Nat) (v : Vocab) : (s.setVocab x v).vocab x = v :=
  SMap.get_set_same ..
@[simp] theorem State.vocab_setFlag (s : State) (off : Nat) (f : Nat × Nat) (b : Bool) (x : Nat) :
    (s.setFlag off f b).vocab x = s.vocab x := (rfl)
@[simp] theorem State.vocab_originate (s : State) (n x : Nat) : (s.originate n).2.vocab x = s.vocab x := (rfl)
@[simp] theorem State.grammar_setGrammar_same (s : State) (x : Nat) (g : Grammar) :
    (s.setGrammar x g).grammar x = g := SMap.get_set_same ..
@[simp] theorem State.grammar_setFlag (s : State) (off : Nat) (f : Nat × Nat) (b : Bool) (x : Nat) :
    (s.setFlag off f b).grammar x = s.grammar x := (rfl)
@[simp] theorem State.grammar_originate (s : State) (n x : Nat) : (s.originate n).2.grammar x = s.grammar x := (rfl)
@[simp] theorem State.setFld_text (s : State) (off : Nat) (f : Nat × Nat) (v : Nat) :
    (s.setFld off f v).dev.text = s.dev.text := by
  rw [State.setFld_dev]
@[simp] theorem State.setFlag_text (s : State) (off : Nat) (f : Nat × Nat) (b : Bool) :
    (s.setFlag off f b).dev.text = s.dev.text := by
  rw [State.setFlag_dev]
@[simp] theorem State.writeReg_text (s : State) (off : Nat) (v : W64) : (s.writeReg off v).dev.text = s.dev.text := by
  unfold State.writeReg
  split <;> rfl

/-! Vocabulary slots. -/

theorem kerfVocabBase_ne_lastError {x : Nat} (hx : x < 8) : rKerfVocabBase x ≠ rKerfLastError := by
  unfold rKerfVocabBase rKerfLastError
  omega

/-- A failed registration ends its load, sets DESC_ERROR, and names its reason and its slot. -/
theorem State.vocabFail_names (s : State) {x reason : Nat} (hx : x < 8) (hr : reason < 8) :
    (s.vocabFail x reason).flag (rKerfVocabBase x) fKerfVocabBaseLoading = false ∧
      (s.vocabFail x reason).flag (rKerfVocabBase x) fKerfVocabBaseDescError = true ∧
      (s.vocabFail x reason).fld rKerfLastError fKerfLastErrorReason = reason ∧
      (s.vocabFail x reason).fld rKerfLastError fKerfLastErrorSlot = x := by
  have other := kerfVocabBase_ne_lastError hx
  unfold State.vocabFail
  simp (disch := decide) only [State.flag_setFld_other _ _ _ _ _ _ other, State.flag_setFlag_apart,
    State.flag_setFlag_same, State.fld_setFld_apart, State.fld_setFld_same, true_and]
  exact ⟨Nat.mod_eq_of_lt hr, Nat.mod_eq_of_lt hx⟩

@[simp] theorem State.vocabFail_text (s : State) (x reason : Nat) : (s.vocabFail x reason).dev.text = s.dev.text := by
  simp [State.vocabFail]

/-- The slot's register written with `v`, its load started. -/
def State.vocabStarted (s : State) (x : Nat) (v : W64) : State :=
  (((s.writeReg (rKerfVocabBase x) v).setFlag (rKerfVocabBase x) fKerfVocabBaseValid false).setFlag (rKerfVocabBase x)
    fKerfVocabBaseDescError false).setFlag (rKerfVocabBase x) fKerfVocabBaseLoading true

/-- A registration in a free slot starts its load, unless the slot drains. -/
theorem execVocabRegister_free {s : State} {x : Nat} (v : W64) (hx : x < 8)
    (hvalid : s.flag (rKerfVocabBase x) fKerfVocabBaseValid = false)
    (hloading : s.flag (rKerfVocabBase x) fKerfVocabBaseLoading = false) :
    execVocabRegister x v s = .next (if s.vocabDraining x then s.vocabFail x 6 else s.vocabStarted x v) := by
  unfold execVocabRegister
  dsimp only
  rw [if_neg (by simp [hvalid, hloading, hx])]
  split <;> rfl

@[simp] theorem State.vocabStarted_text (s : State) (x : Nat) (v : W64) :
    (s.vocabStarted x v).dev.text = s.dev.text := by
  simp [State.vocabStarted]

theorem State.vocabStarted_flags (s : State) (x : Nat) (v : W64) :
    (s.vocabStarted x v).flag (rKerfVocabBase x) fKerfVocabBaseLoading = true ∧
      (s.vocabStarted x v).flag (rKerfVocabBase x) fKerfVocabBaseValid = false := by
  unfold State.vocabStarted
  simp (disch := decide) only [State.flag_setFlag_apart, State.flag_setFlag_same, and_self]

/-- The fields of KERF_VOCAB_BASE below ADDR. -/
def vocabBaseLow : List Fld :=
  [⟨0, 1, .rw, 0, 0, 1⟩, ⟨1, 1, .ro, 0, 0, 1⟩, ⟨2, 1, .ro, 0, 0, 1⟩, ⟨3, 1, .rw, 0, 0, 1⟩, ⟨4, 1, .ro, 0, 0, 1⟩]
/-- ADDR and TENT of KERF_VOCAB_BASE. -/
def vocabBaseAddr : Fld := ⟨6, 50, .rw, 0, 0, 0x3FFFFFFFFFFFF⟩
def vocabBaseTent : Fld := ⟨56, 6, .rw, 0, 0, 0x3F⟩

theorem findReg_kerfVocabBase {x : Nat} (hx : x < 8) : findReg (rKerfVocabBase x) (regBlock (rKerfVocabBase x)) =
    some (⟨0x80000, 8, 8, 0, 1, vocabBaseLow ++ [vocabBaseAddr, vocabBaseTent]⟩, x, 0) := by
  revert x
  decide

/-- A registration writes the address of its image and the tent whose range holds it. -/
theorem State.vocabStarted_image (s : State) {x : Nat} (hx : x < 8) (v : W64) :
    (s.vocabStarted x v).fld (rKerfVocabBase x) fKerfVocabBaseAddr = getBits v 6 50 ∧
      (s.vocabStarted x v).fld (rKerfVocabBase x) fKerfVocabBaseTent = getBits v 56 6 := by
  have started (f : Nat × Nat) (hf : 6 ≤ f.1) :
      (s.vocabStarted x v).fld (rKerfVocabBase x) f =
        getBits (fieldsWritten (vocabBaseLow ++ [vocabBaseAddr, vocabBaseTent]) (s.rd (rKerfVocabBase x)) v) f.1 f.2 := by
    have above (g : Nat × Nat) (hg : g.1 + g.2 ≤ 6) : f.1 + f.2 ≤ g.1 ∨ g.1 + g.2 ≤ f.1 := .inr (hg.trans hf)
    unfold State.vocabStarted
    rw [State.fld_setFlag_apart _ _ _ _ _ (by decide) (above _ (by decide)),
      State.fld_setFlag_apart _ _ _ _ _ (by decide) (above _ (by decide)),
      State.fld_setFlag_apart _ _ _ _ _ (by decide) (above _ (by decide)),
      State.writeReg_of_findReg _ _ (findReg_kerfVocabBase hx), State.fld, State.rd_wr_same]
  constructor
  · rw [started _ (by decide)]
    exact getBits_fieldsWritten_rw vocabBaseLow [vocabBaseTent] vocabBaseAddr _ v (by decide) rfl rfl (by decide) (by decide)
  · rw [started _ (by decide)]
    exact getBits_fieldsWritten_rw (vocabBaseLow ++ [vocabBaseAddr]) [] vocabBaseTent _ v (by decide) rfl rfl (by decide)
      (by simp)

theorem vocabCheck_lt (b : List Byte) : vocabCheck b < 8 := by
  unfold vocabCheck
  split_ifs
  · decide
  · decide
  · decide
  · decide
  · decide
  · split
    · decide
    · split <;> decide

/-- A checked image stands at its place of SRAM from a stamp of Kerf unit 0, and its slot is valid (R275, R276). -/
def State.vocabPlaced (s : State) (x : Nat) (img : List Byte) (bad : List Nat) (p n : Nat) : State :=
  ((((s.originate (islKerf 0)).2.setVocab x { image := img, bad := bad, place := p, units := n
                                              since := some (s.originate (islKerf 0)).1, retired := none }).setFlag
    (rKerfVocabBase x) fKerfVocabBaseLoading false).setFlag (rKerfVocabBase x) fKerfVocabBaseValid true).setFlag
    (rKerfVocabBase x) fKerfVocabBaseDescError false

/-- The image of `n` bytes that slot `x` has read passes its checks and is placed, or its registration fails. -/
def State.vocabChecked (s : State) (x : Nat) (img : List Byte) (bad : List Nat) (n : Nat) : State :=
  if vocabCheck img ≠ 0 then s.vocabFail x (vocabCheck img)
  else match s.sramPlace ((n + 65535) / 65536) with
    | none => s.vocabFail x 3
    | some p => s.vocabPlaced x img bad p ((n + 65535) / 65536)

/-- A load whose image has the right format and is served from HBM reads the image and has it checked. -/
theorem execVocabLoadComplete_reads {s s1 : State} {x t a : Nat} {h img : List Byte} {bad : Bool} (hx : x < 8)
    (hloading : s.flag (rKerfVocabBase x) fKerfVocabBaseLoading = true) (hb : s.blocked (islKerf 0) = false)
    (ht : s.fld (rKerfVocabBase x) fKerfVocabBaseTent = t) (ha : s.fld (rKerfVocabBase x) fKerfVocabBaseAddr * 64 = a)
    (hh : (s.devPeek t a 0x180).1 = h) (hserved : s.servedSpan t a 0x180 = .hbm) (hformat : num h 0 2 = 1)
    (hbytes : vBytes h = vHeapAt h + vHeap h) (himage : s.servedSpan t a (vBytes h) = .hbm)
    (hread : s.devRead t a (vBytes h) = (img, bad, s1)) :
    execVocabLoadComplete x s = .next (s1.vocabChecked x img (s1.badWords t a (vBytes h)) (vBytes h)) := by
  unfold execVocabLoadComplete State.vocabChecked
  dsimp only
  rw [if_neg (by simp [hloading, hb, hx]), ht, ha, hserved, hh]
  dsimp only
  rw [if_neg (by simp [hformat, ← hbytes]), himage, hread]
  dsimp only
  split
  · rfl
  · cases s1.sramPlace ((vBytes h + 65535) / 65536) with
    | none => rfl
    | some p => rfl

theorem State.vocabPlaced_flags (s : State) (x : Nat) (img : List Byte) (bad : List Nat) (p n : Nat) :
    (s.vocabPlaced x img bad p n).flag (rKerfVocabBase x) fKerfVocabBaseLoading = false ∧
      (s.vocabPlaced x img bad p n).flag (rKerfVocabBase x) fKerfVocabBaseValid = true := by
  unfold State.vocabPlaced
  simp (disch := decide) only [State.flag_setFlag_apart, State.flag_setFlag_same, and_self]

theorem State.vocab_vocabPlaced (s : State) (x : Nat) (img : List Byte) (bad : List Nat) (p n : Nat) :
    (s.vocabPlaced x img bad p n).vocab x = { image := img, bad := bad, place := p, units := n
                                              since := some (s.originate (islKerf 0)).1, retired := none } := by
  simp [State.vocabPlaced]

/-- A write of VALID = 0 ends a load. -/
theorem execVocabRetire_loading {s : State} {x : Nat} (hx : x < 8)
    (hloading : s.flag (rKerfVocabBase x) fKerfVocabBaseLoading = true) :
    execVocabRetire x s = .next (s.setFlag (rKerfVocabBase x) fKerfVocabBaseLoading false) := by
  unfold execVocabRetire
  dsimp only
  rw [if_neg (by omega), if_pos hloading]

/-- A write of VALID = 0 retires a valid slot at a stamp of Kerf unit 0. -/
theorem execVocabRetire_valid {s : State} {x : Nat} (hx : x < 8)
    (hloading : s.flag (rKerfVocabBase x) fKerfVocabBaseLoading = false)
    (hvalid : s.flag (rKerfVocabBase x) fKerfVocabBaseValid = true) :
    execVocabRetire x s = .next (((s.originate (islKerf 0)).2.setVocab x { s.vocab x with
      retired := some (s.originate (islKerf 0)).1 }).setFlag (rKerfVocabBase x) fKerfVocabBaseValid false) := by
  unfold execVocabRetire
  dsimp only
  rw [if_neg (by omega), if_neg (by simp [hloading]), if_pos hvalid]
  rfl

/-! Grammar slots. -/

theorem guyImageBase_ne_lastError {x : Nat} (hx : x < 64) : rGuyImageBase x ≠ rGuyLastError := by
  unfold rGuyImageBase rGuyLastError
  omega

/-- A failed registration sets DESC_ERROR, and names its reason and its slot. -/
theorem State.grammarFail_names (s : State) {x reason : Nat} (hx : x < 64) (hr : reason < 8) :
    (s.grammarFail x reason).flag (rGuyImageBase x) fGuyImageBaseDescError = true ∧
      (s.grammarFail x reason).fld rGuyLastError fGuyLastErrorReason = reason ∧
      (s.grammarFail x reason).fld rGuyLastError fGuyLastErrorSlot = x := by
  have other := guyImageBase_ne_lastError hx
  unfold State.grammarFail
  simp (disch := decide) only [State.flag_setFld_other _ _ _ _ _ _ other, State.flag_setFlag_same,
    State.fld_setFld_apart, State.fld_setFld_same, true_and]
  exact ⟨Nat.mod_eq_of_lt hr, Nat.mod_eq_of_lt hx⟩

@[simp] theorem State.grammarFail_text (s : State) (x reason : Nat) :
    (s.grammarFail x reason).dev.text = s.dev.text := by
  simp [State.grammarFail]

/-- The slot's register written with `v`, its load started. -/
def State.grammarStarted (s : State) (x : Nat) (v : W64) : State :=
  (((s.writeReg (rGuyImageBase x) v).setFlag (rGuyImageBase x) fGuyImageBaseValid false).setFlag (rGuyImageBase x)
    fGuyImageBaseDescError false).setFlag (rGuyImageBase x) fGuyImageBaseLoading true

/-- A registration in a free slot starts its load, unless the slot drains. -/
theorem execGrammarRegister_free {s : State} {x : Nat} (v : W64) (hx : x < 64)
    (hvalid : s.flag (rGuyImageBase x) fGuyImageBaseValid = false)
    (hloading : s.flag (rGuyImageBase x) fGuyImageBaseLoading = false) :
    execGrammarRegister x v s = .next (if s.grammarDraining x then s.grammarFail x 5 else s.grammarStarted x v) := by
  unfold execGrammarRegister
  dsimp only
  rw [if_neg (by simp [hvalid, hloading, hx])]
  split <;> rfl

@[simp] theorem State.grammarStarted_text (s : State) (x : Nat) (v : W64) :
    (s.grammarStarted x v).dev.text = s.dev.text := by
  simp [State.grammarStarted]

theorem State.grammarStarted_flags (s : State) (x : Nat) (v : W64) :
    (s.grammarStarted x v).flag (rGuyImageBase x) fGuyImageBaseLoading = true ∧
      (s.grammarStarted x v).flag (rGuyImageBase x) fGuyImageBaseValid = false := by
  unfold State.grammarStarted
  simp (disch := decide) only [State.flag_setFlag_apart, State.flag_setFlag_same, and_self]

/-- A grammar whose header is good serves from a stamp of the Guyline engine of compute die 0 (log entry 49). -/
def State.grammarLoaded (s : State) (x : Nat) : State :=
  ((((s.originate (islGuyline 0)).2.setGrammar x { since := some (s.originate (islGuyline 0)).1, retired := none }).setFlag
    (rGuyImageBase x) fGuyImageBaseLoading false).setFlag (rGuyImageBase x) fGuyImageBaseValid true).setFlag
    (rGuyImageBase x) fGuyImageBaseDescError false

/-- The vocabulary `k` is valid, and the header of a grammar image fits it and lies in its ranges (R293, R294). -/
def State.grammarFits (s : State) (h : List Byte) (k : Nat) : Prop :=
  num h 0 2 = 1 ∧ grammarHeaderOk h = true ∧ s.flag (rKerfVocabBase k) fKerfVocabBaseValid = true ∧
    num h 0x10 8 = num (s.vocab k).image 8 8 ∧ num h 0xC 4 = vSize (s.vocab k).image

theorem execGrammarLoadComplete_loads {s s1 : State} {x : Nat} {h : List Byte} (hx : x < 64)
    (hloading : s.flag (rGuyImageBase x) fGuyImageBaseLoading = true) (hb : s.blocked (islGuyline 0) = false)
    (hread : s.unitRead (s.fld (rGuyImageBase x) fGuyImageBaseTent) (s.fld (rGuyImageBase x) fGuyImageBaseAddr * 64) 128 =
      .ok (h, s1)) (hfits : s1.grammarFits h (s1.fld (rGuyImageBase x) fGuyImageBaseVocab)) :
    execGrammarLoadComplete x s = .next (s1.grammarLoaded x) := by
  obtain ⟨hformat, hheader, hvalid, hid, hsize⟩ := hfits
  unfold execGrammarLoadComplete
  dsimp only
  rw [if_neg (by simp [hloading, hb, hx]), hread]
  dsimp only
  rw [if_neg (not_not_intro hformat), if_neg (by simp [hheader]), if_neg (by simp [hvalid]), if_neg (by simp [hid, hsize])]
  rfl

theorem State.grammarLoaded_flags (s : State) (x : Nat) :
    (s.grammarLoaded x).flag (rGuyImageBase x) fGuyImageBaseValid = true ∧
      (s.grammarLoaded x).flag (rGuyImageBase x) fGuyImageBaseLoading = false := by
  unfold State.grammarLoaded
  simp (disch := decide) only [State.flag_setFlag_apart, State.flag_setFlag_same, and_self]

theorem State.grammar_grammarLoaded (s : State) (x : Nat) :
    (s.grammarLoaded x).grammar x = { since := some (s.originate (islGuyline 0)).1, retired := none } := by
  simp [State.grammarLoaded]

/-- A write of VALID = 0 ends a load. -/
theorem execGrammarRetire_loading {s : State} {x : Nat} (hx : x < 64)
    (hloading : s.flag (rGuyImageBase x) fGuyImageBaseLoading = true) :
    execGrammarRetire x s = .next (s.setFlag (rGuyImageBase x) fGuyImageBaseLoading false) := by
  unfold execGrammarRetire
  dsimp only
  rw [if_neg (by omega), if_pos hloading]

/-- A write of VALID = 0 retires a valid slot at a stamp of the Guyline engine of compute die 0. -/
theorem execGrammarRetire_valid {s : State} {x : Nat} (hx : x < 64)
    (hloading : s.flag (rGuyImageBase x) fGuyImageBaseLoading = false)
    (hvalid : s.flag (rGuyImageBase x) fGuyImageBaseValid = true) :
    execGrammarRetire x s = .next (((s.originate (islGuyline 0)).2.setGrammar x { s.grammar x with
      retired := some (s.originate (islGuyline 0)).1 }).setFlag (rGuyImageBase x) fGuyImageBaseValid false) := by
  unfold execGrammarRetire
  dsimp only
  rw [if_neg (by omega), if_neg (by simp [hloading]), if_pos hvalid]
  rfl

end Sys2Proof.Machine
end

section
/-! SUPPORT. The TOKENIZE leg, the contexts and the masks of a request (R282 to R285, R287, R298 to R301). -/

namespace Sys2Proof.Machine

/-! The end of a request at a unit. -/

theorem State.req_endAt {s : State} {n : Nat} {r : Request} (h : s.req n = some r) (status isl : Nat) :
    (s.endAt n status isl).req n = some (r.end_ status (s.originate isl).1) :=
  State.req_modReq_of_req (s := (s.originate isl).2) h _

@[simp] theorem State.req_addFld (s : State) (off : Nat) (f : Nat × Nat) (k n : Nat) :
    (s.addFld off f k).req n = s.req n := (rfl)

/-! The TOKENIZE leg. -/

/-- The inputs read afresh are the parameters, the biases and the text alone. -/
theorem State.freshInputs_kept {α : Type} (p : Request → α)
    (h : ∀ r ps b t bad, p { r with params := ps, bias := b, text := t, textBad := bad } = p r) (s : State)
    (r : Request) : p (s.freshInputs r) = p r := by
  unfold State.freshInputs
  split
  · rfl
  · exact h _ _ _ _ _

@[simp] theorem State.freshInputs_seq (s : State) (r : Request) : (s.freshInputs r).seq = r.seq :=
  State.freshInputs_kept Request.seq (fun _ _ _ _ _ => rfl) s r
@[simp] theorem State.freshInputs_kerf (s : State) (r : Request) : (s.freshInputs r).kerf = r.kerf :=
  State.freshInputs_kept Request.kerf (fun _ _ _ _ _ => rfl) s r

/-- The TOKENIZE leg of a request has started and is not ready, and its Kerf unit may act. -/
structure State.Tokenizes (s : State) (n : Nat) (q : Request) : Prop where
  req : s.req n = some q
  leg : q.legs.head? = some 1
  started : q.started = true
  notReady : q.ready = false
  free : s.blocked (islKerf q.kerf) = false

theorem State.Tokenizes.acts {s : State} {n : Nat} {q : Request} (h : s.Tokenizes n q) :
    ¬ (q.legs.head? ≠ some 1 ∨ !q.started ∨ q.ready ∨ s.blocked (islKerf q.kerf)) := by
  simp [h.leg, h.started, h.notReady, h.free]

/-- A leg whose inputs have a fault ends its request INPUT_INVALID (R283, R308, R310, R355). -/
theorem execTokenizeLeg_faults {s : State} {n : Nat} {q : Request} (h : s.Tokenizes n q)
    (hbad : (s.freshInputs q).textBad = false) (hfault : s.inputFault (s.freshInputs q) = true) :
    execTokenizeLeg n s = .next (s.endAt n 0x31 (islKerf q.kerf)) := by
  unfold execTokenizeLeg
  simp only [h.req]
  rw [if_neg h.acts, if_neg (by simp [hbad]), if_pos hfault, State.freshInputs_kerf]

/-- A leg whose inputs are good and whose reads go through leaves its results. -/
theorem execTokenizeLeg_good {s s1 s2 s3 : State} {n : Nat} {q r : Request} {stop text : List Byte} {k : Tokenized}
    {prompt : List Nat} {ps : List TextItem} (h : s.Tokenizes n q) (hr : s.freshInputs q = r) (hbad : r.textBad = false)
    (hfault : s.inputFault r = false) (hstop : s.readStop r = .ok (stop, s1))
    (htext : s1.plainItem r 0 r.text = some text) (hlen : text.length ≤ 4194304)
    (hk : tokenizeItem (s1.reqVocab r) text (s1.queryLimit r) = k) (hgood : k.bad = false)
    (hprompt : s1.generatePrompt r (s1.reqVocab r).image k.tokens = .ok (prompt, s2))
    (hps : State.rerankItems r (s1.reqVocab r) (if r.kind = 3 then dPassages r.desc else 0) 0 (s2.noteItem r k) =
      .ok (ps, s3)) :
    execTokenizeLeg n s = .next (s3.tokenized r k.tokens prompt ps stop) := by
  unfold execTokenizeLeg
  simp only [h.req]
  rw [if_neg h.acts, hr, if_neg (by simp [hbad]), if_neg (by simp [hfault]), hstop]
  dsimp only
  rw [htext]
  dsimp only
  rw [if_neg (Nat.not_lt.2 hlen), hk, if_neg (by simp [hgood]), hprompt]
  dsimp only
  rw [hps]

/-! Contexts. -/

/-- A request before PREFILL that has none and is the earliest takes the next free context of its Kerf unit. -/
theorem execKerfContextAcquire_takes {s : State} {n : Nat} {r : Request} (hr : s.req n = some r)
    (hbefore : r.beforePrefill = true) (hnone : r.gen.kerf = none) (hroom : s.kerfContexts r.kerf < 16384)
    (hfirst : ∀ q ∈ s.allReqs, q.beforePrefill = true → q.kerf = r.kerf → q.gen.kerf = none →
      q.admitReq.before r.admitReq = false) :
    execKerfContextAcquire n s =
      .next (s.setReq n (some { r with gen := { r.gen with kerf := some (s.kerfContexts r.kerf) } })) := by
  have first : (s.allReqs.any fun q => q.beforePrefill && q.kerf == r.kerf && q.gen.kerf.isNone &&
      q.admitReq.before r.admitReq) = false := by
    simpa [List.any_eq_false] using hfirst
  unfold execKerfContextAcquire
  simp only [hr]
  rw [if_neg (by simp [hbefore, hnone, first, hroom]), State.modReq_of_req hr]

/-- A request before PREFILL with a grammar that has none and is the earliest takes the next free context of its Guyline
engine, at the configuration to which its tokens lead. -/
theorem execGuylineContextAcquire_takes {s : State} {n x : Nat} {r : Request} {g : GImage} {c : GConf}
    (hr : s.req n = some r) (hbefore : r.beforePrefill = true) (hx : r.grammar = some x) (hnone : r.gen.guy = none)
    (hroom : s.guyContexts r.home < 16384)
    (hfirst : ∀ q ∈ s.allReqs, q.beforePrefill = true → q.grammar.isSome = true → q.home = r.home → q.gen.guy = none →
      q.admitReq.before r.admitReq = false)
    (hg : s.gImage x = .ok g) (hc : s.gTokens g (s.reqVocab r).image ⟨g.start, []⟩ r.gen.tokens = .ok (some c)) :
    execGuylineContextAcquire n s = .next (s.setReq n (some { r with
      gen := { r.gen with guy := some (s.guyContexts r.home), guyState := c.state, guyStack := c.stack } })) := by
  have first : (s.allReqs.any fun q => q.beforePrefill && q.grammar.isSome && q.home == r.home && q.gen.guy.isNone &&
      q.admitReq.before r.admitReq) = false := by
    simpa [List.any_eq_false] using hfirst
  have image : s.gImage (r.grammar.getD 0) = .ok g := by rwa [hx]
  unfold execGuylineContextAcquire
  simp only [hr]
  rw [if_neg (by simp [hbefore, hx, hnone, first, hroom])]
  simp only [image, bind, Except.bind, hc]
  rw [State.modReq_of_req hr]

/-! Masks. -/

/-- The mask of a position whose drafts before it are allowed is kept, but one of position 0 that allows nothing ends the
request (R301). -/
theorem execGuylineMask_masks {s : State} {n j : Nat} {r : Request} {g : GImage} {c : GConf} {m : List Bool}
    (hr : s.req n = some r) (hguy : r.gen.guy.isSome = true) (hended : r.ended = none)
    (hb : s.blocked (islGuyline r.home) = false) (hdrafts : r.draftsAllowed j = true)
    (hg : s.gImage (r.grammar.getD 0) = .ok g)
    (hc : s.gTokens g (s.reqVocab r).image r.gen.conf ((r.gen.drafts.take j).map (·.1)) = .ok (some c))
    (hm : s.gMask g (s.reqVocab r).image c = .ok m) :
    execGuylineMask n j s = .next (if j = 0 ∧ ∀ b ∈ m, b = false then
        (s.endAt n 0x20 (islGuyline r.home)).addFld (rGuyStatus r.home) fGuyStatusDead 1
      else s.setReq n (some { r with gen := { r.gen with masks := SMap.set (fun _ => []) r.gen.masks j m } })) := by
  have dead : (j = 0 ∧ m.all (· == false) = true) ↔ (j = 0 ∧ ∀ b ∈ m, b = false) := by simp
  have acts : ¬ (r.gen.guy.isNone ∨ r.ended.isSome ∨ s.blocked (islGuyline r.home) ∨ !r.draftsAllowed j) := by
    simp [Option.isSome_iff_ne_none.1 hguy, hended, hb, hdrafts]
  unfold execGuylineMask
  simp only [hr]
  rw [if_neg acts]
  simp only [hg, hc, hm, bind, Except.bind, pure, Except.pure, dead, State.modReq_of_req hr]
  split <;> rfl

/-! The obligation. -/

/-- Settles O43, command by command. The stamps of a vocabulary slot are those of Kerf unit 0 and the stamps of a grammar
slot those of the Guyline engine of compute die 0 (log entry 49, deduced from R276 and R293). -/
theorem textUnits : Obligations.TextUnits := by
  unfold Obligations.TextUnits
  refine ⟨?vocabRegister, ?vocabLoad, fun s x hx => ⟨execVocabRetire_loading hx, ?vocabRetire⟩, ?grammarRegister,
    ?grammarLoad, fun s x hx => ⟨execGrammarRetire_loading hx, ?grammarRetire⟩, ?tokenize,
    fun s n r => execKerfContextAcquire_takes, fun s n r x g c => execGuylineContextAcquire_takes, ?mask⟩
  case vocabRegister =>
    intro s x v hx hvalid hloading
    refine ⟨_, execVocabRegister_free v hx hvalid hloading, ?_⟩
    split
    · obtain ⟨-, error, reason, slot⟩ := s.vocabFail_names hx (by decide : 6 < 8)
      exact ⟨s.vocabFail_text x 6, error, reason, slot⟩
    · obtain ⟨loading, valid⟩ := s.vocabStarted_flags x v
      exact ⟨s.vocabStarted_text x v, loading, valid, s.vocabStarted_image hx v⟩
  case vocabLoad =>
    intro s x img bad s1 hx hloading hb
    dsimp only
    intro hserved hformat hbytes himage hread
    refine ⟨_, execVocabLoadComplete_reads hx hloading hb rfl rfl rfl hserved hformat hbytes himage hread, ?_⟩
    unfold State.vocabChecked
    by_cases hcheck : vocabCheck img ≠ 0
    · rw [if_pos hcheck, if_pos hcheck]
      obtain ⟨loading, error, reason, -⟩ := s1.vocabFail_names hx (vocabCheck_lt img)
      exact ⟨loading, error, reason⟩
    · rw [if_neg hcheck, if_neg hcheck]
      generalize s1.sramPlace _ = place
      cases place with
      | none =>
        obtain ⟨loading, error, reason, -⟩ := s1.vocabFail_names hx (by decide : 3 < 8)
        exact ⟨loading, error, reason⟩
      | some p =>
        dsimp only
        rw [State.vocab_vocabPlaced]
        obtain ⟨loading, valid⟩ := s1.vocabPlaced_flags x img _ p _
        exact ⟨loading, rfl, rfl, rfl, ⟨_, rfl, rfl⟩, valid⟩
  case vocabRetire =>
    intro hloading hvalid
    refine ⟨_, _, execVocabRetire_valid hx hloading hvalid, ?_, rfl, State.flag_setFlag_same _ _ _ _ (by decide) rfl⟩
    rw [State.vocab_setFlag, State.vocab_setVocab_same]
  case grammarRegister =>
    intro s x v hx hvalid hloading
    refine ⟨_, execGrammarRegister_free v hx hvalid hloading, ?_⟩
    split
    · exact ⟨s.grammarFail_text x 5, s.grammarFail_names hx (by decide : 5 < 8)⟩
    · exact ⟨s.grammarStarted_text x v, s.grammarStarted_flags x v⟩
  case grammarLoad =>
    intro s x h s1 hx hloading hb hread hfits
    exact ⟨_, _, execGrammarLoadComplete_loads hx hloading hb hread hfits, s1.grammar_grammarLoaded x, rfl,
      s1.grammarLoaded_flags x⟩
  case grammarRetire =>
    intro hloading hvalid
    refine ⟨_, _, execGrammarRetire_valid hx hloading hvalid, ?_, rfl, State.flag_setFlag_same _ _ _ _ (by decide) rfl⟩
    rw [State.grammar_setFlag, State.grammar_setGrammar_same]
  case tokenize =>
    intro s n q stop s1 text prompt s2 ps s3 hq hseq hleg hstarted hnot hb
    have h : s.Tokenizes n q := ⟨hq, hleg, hstarted, hnot, hb⟩
    dsimp only
    intro hbad
    refine ⟨fun hfault => ⟨_, execTokenizeLeg_faults h hbad hfault, State.req_endAt hq _ _⟩, ?_⟩
    intro hfault hstop htext hlen hgood hprompt hps
    refine ⟨_, execTokenizeLeg_good h rfl hbad hfault hstop htext hlen rfl hgood hprompt hps, fun p hp => ?_⟩
    unfold State.tokenized
    rw [State.freshInputs_seq, hseq, State.req_modReq_of_req hp]
  case mask =>
    intro s n j r g c m hr _ hguy hended hb hdrafts hg hc hm
    refine ⟨_, execGuylineMask_masks hr hguy hended hb hdrafts hg hc hm, ?_⟩
    split
    · rw [State.req_addFld, State.req_endAt hr]
    · rfl

end Sys2Proof.Machine
end

section
/-! SUPPORT. What the admission unit and the journal unit keep while other parts of the block change. The proofs `(rfl)`
stand in parentheses so that `simp` and `rw` use the lemmas as equations, and the kernel compares no whole states. -/

namespace Sys2Proof.Machine

@[simp] theorem State.originate_adm (s : State) (n : Nat) : (s.originate n).2.dev.adm = s.dev.adm := (rfl)
@[simp] theorem State.setFld_adm (s : State) (off : Nat) (f : Nat × Nat) (v : Nat) :
    (s.setFld off f v).dev.adm = s.dev.adm := (rfl)
@[simp] theorem State.setFlag_adm (s : State) (off : Nat) (f : Nat × Nat) (b : Bool) :
    (s.setFlag off f b).dev.adm = s.dev.adm := (rfl)
@[simp] theorem State.addFld_adm (s : State) (off : Nat) (f : Nat × Nat) (n : Nat) :
    (s.addFld off f n).dev.adm = s.dev.adm := (rfl)
@[simp] theorem State.trace_adm (s : State) (isl ty tent a b fl : Nat) :
    (s.trace isl ty tent a b fl).dev.adm = s.dev.adm :=
  State.trace_kept (·.dev.adm) (fun _ _ _ => rfl) (fun _ _ => rfl) s _ _ _ _ _ _
@[simp] theorem State.iodEvent_adm (s : State) (i code inst tent n : Nat) :
    (s.iodEvent i code inst tent n).dev.adm = s.dev.adm :=
  State.countEvent_kept (·.dev.adm) (fun _ _ _ => rfl) s _ _ _ _ _ _ _
@[simp] theorem State.contribute_adm (s : State) (c : Contrib) : (s.contribute c).dev.adm = s.dev.adm :=
  State.contribute_kept (·.dev.adm) (fun _ _ _ => rfl) (fun _ _ => rfl) s c
@[simp] theorem State.takeCredit_adm (s : State) (t c tick : Nat) : (s.takeCredit t c tick).dev.adm = s.dev.adm := by
  unfold State.takeCredit
  split <;> rfl

@[simp] theorem State.iodEvent_jrnl (s : State) (i code inst tent n : Nat) :
    (s.iodEvent i code inst tent n).dev.jrnl = s.dev.jrnl :=
  State.countEvent_kept (·.dev.jrnl) (fun _ _ _ => rfl) s _ _ _ _ _ _ _
@[simp] theorem State.takeCredit_jrnl (s : State) (t c tick : Nat) :
    (s.takeCredit t c tick).dev.jrnl = s.dev.jrnl := by
  unfold State.takeCredit
  split <;> rfl

theorem State.fld_modAdm (s : State) (f : Admit → Admit) (off : Nat) (g : Nat × Nat) :
    (s.modAdm f).fld off g = s.fld off g := (rfl)
theorem State.req_of_adm {s t : State} (h : t.dev.adm = s.dev.adm) (n : Nat) : t.req n = s.req n := by
  unfold State.req
  rw [h]
theorem State.ring_of_adm {s t : State} (h : t.dev.adm = s.dev.adm) (k : Nat) : t.ring k = s.ring k := by
  unfold State.ring
  rw [h]

end Sys2Proof.Machine
end

section
/-! SUPPORT. Submission and completion queues: their registers (R303 to R305), the fetch of a descriptor (R306, R307) and
what its rejection leaves (R314, R315). -/

namespace Sys2Proof.Machine

/-! Registers written by their access codes. -/

/-- An RW field all of whose encodings are valid reads what was written to its register, where no field after it in the
row overlaps it. -/
theorem State.fld_writeReg_rw (s : State) {off i j : Nat} {r : RegRow} (v : W64) (f : Fld) (k : Nat)
    (hrow : findReg off (regBlock off) = some (r, i, j)) (hk : r.flds[k]? = some f)
    (hrw : f.acc = .rw ∧ f.vmin = 0 ∧ 2 ^ f.w ≤ f.vmax + 1 ∧ f.lo + f.w ≤ 64)
    (hpost : ∀ g ∈ r.flds.drop (k + 1), g.lo + g.w ≤ 64 ∧ (f.lo + f.w ≤ g.lo ∨ g.lo + g.w ≤ f.lo)) :
    (s.writeReg off v).fld off (f.lo, f.w) = getBits v f.lo f.w := by
  obtain ⟨hacc, hmin, hmax, hfits⟩ := hrw
  obtain ⟨hlt, rfl⟩ := List.getElem?_eq_some_iff.1 hk
  have split : r.flds = r.flds.take k ++ r.flds[k] :: r.flds.drop (k + 1) := by
    rw [← List.drop_eq_getElem_cons hlt, List.take_append_drop]
  rw [State.writeReg_of_findReg s v hrow, State.fld, State.rd_wr_same]
  exact (congrArg (fun l => getBits (fieldsWritten l (s.rd off) v) _ _) split).trans
    (getBits_fieldsWritten_rw _ _ _ _ v hfits hacc hmin hmax hpost)

theorem State.rd_writeReg_other (s : State) (off : Nat) (v : W64) {o : Nat} (h : o ≠ off) :
    (s.writeReg off v).rd o = s.rd o := by
  unfold State.writeReg
  split
  · rfl
  · exact State.rd_wr_other _ _ _ _ h

theorem findReg_sqCfg {q : Nat} (hq : q < 64) : findReg (rSqCfg q) (regBlock (rSqCfg q)) =
    some (⟨0x30008, 0x20, 64, 0, 1, [⟨0, 1, .rw, 0, 0, 1⟩, ⟨1, 1, .ro, 0, 0, 1⟩, ⟨2, 5, .rw, 0, 0, 31⟩,
      ⟨7, 6, .rw, 0, 0, 63⟩, ⟨13, 6, .rw, 0, 0, 63⟩]⟩, q, 0) := by
  revert q
  decide +kernel

theorem findReg_cqCfg {c : Nat} (hc : c < 64) : findReg (rCqCfg c) (regBlock (rCqCfg c)) =
    some (⟨0x30808, 0x20, 64, 0, 1, [⟨0, 1, .rw, 0, 0, 1⟩, ⟨1, 1, .ro, 0, 0, 1⟩, ⟨2, 5, .rw, 0, 0, 31⟩,
      ⟨7, 6, .ro, 0, 0, 63⟩, ⟨13, 1, .ro, 0, 0, 1⟩]⟩, c, 0) := by
  revert c
  decide +kernel

theorem findReg_sqTail {q : Nat} (hq : q < 64) : findReg (rSqTail q) (regBlock (rSqTail q)) =
    some (⟨0x30010, 0x20, 64, 0, 1, [⟨0, 16, .rw, 0, 0, 0xFFFF⟩]⟩, q, 0) := by
  revert q
  decide +kernel

theorem findReg_cqHead {c : Nat} (hc : c < 64) : findReg (rCqHead c) (regBlock (rCqHead c)) =
    some (⟨0x30810, 0x20, 64, 0, 1, [⟨0, 16, .rw, 0, 0, 0xFFFF⟩]⟩, c, 0) := by
  revert c
  decide +kernel

/-! Registration (R304). -/

/-- SQ_CFG `q` after a VALID = 1 write of `v` that is taken. -/
def State.sqRegistered (s : State) (q : Nat) (v : W64) : State :=
  (s.writeReg (rSqCfg q) (setBits v 0 1 1)).setFlag (rSqCfg q) fSqCfgCfgError false

/-- A taken write may also show the tent of the first submission queue in CQ_CFG; SQ_CFG is as it left it. -/
theorem execSqRegister_accepts {s : State} {q : Nat} {v : W64} (hq : q < 64) (h : s.sqAccepts q v = true) :
    ∃ t, execSqRegister q v s = .next t ∧ ∀ f, t.fld (rSqCfg q) f = (s.sqRegistered q v).fld (rSqCfg q) f := by
  have apart : rSqCfg q ≠ rCqCfg (getBits v 13 6) := by
    unfold rSqCfg rCqCfg
    omega
  unfold execSqRegister
  rw [if_neg (by omega), if_pos h]
  refine ⟨_, rfl, fun f => ?_⟩
  split
  · exact State.fld_setFld_other _ _ _ _ _ _ apart
  · rfl

theorem State.sqRegistered_fields (s : State) {q : Nat} (hq : q < 64) (v : W64) :
    (s.sqRegistered q v).sqValid q = true ∧ (s.sqRegistered q v).flag (rSqCfg q) fSqCfgCfgError = false ∧
      (s.sqRegistered q v).fld (rSqCfg q) fSqCfgLog2 = getBits v 2 5 ∧ (s.sqRegistered q v).sqTent q = getBits v 7 6 ∧
      (s.sqRegistered q v).sqCq q = getBits v 13 6 := by
  have apart (lo w : Nat) (h : 1 ≤ lo) : getBits (setBits v 0 1 1) lo w = getBits v lo w :=
    getBits_setBits_apart v 0 1 1 lo w (by decide) (.inr h)
  have valid : (s.writeReg (rSqCfg q) (setBits v 0 1 1)).fld (rSqCfg q) fSqCfgValid = 1 :=
    (s.fld_writeReg_rw _ ⟨0, 1, .rw, 0, 0, 1⟩ 0 (findReg_sqCfg hq) rfl (by decide) (by decide)).trans
      (getBits_setBits_same v 0 1 1 (by decide))
  unfold State.sqRegistered State.sqValid State.sqTent State.sqCq
  simp (disch := decide) only [State.flag_setFlag_apart, State.flag_setFlag_same, State.fld_setFlag_apart, true_and]
  refine ⟨by rw [State.flag, valid]; rfl, ?_, ?_, ?_⟩
  · exact (s.fld_writeReg_rw _ ⟨2, 5, .rw, 0, 0, 31⟩ 2 (findReg_sqCfg hq) rfl (by decide) (by decide)).trans
      (apart _ _ (by decide))
  · exact (s.fld_writeReg_rw _ ⟨7, 6, .rw, 0, 0, 63⟩ 3 (findReg_sqCfg hq) rfl (by decide) (by decide)).trans
      (apart _ _ (by decide))
  · exact (s.fld_writeReg_rw _ ⟨13, 6, .rw, 0, 0, 63⟩ 4 (findReg_sqCfg hq) rfl (by decide) (by decide)).trans
      (apart _ _ (by decide))

theorem execSqRegister_refuses {s : State} {q : Nat} {v : W64} (hq : q < 64) (h : s.sqAccepts q v = false) :
    execSqRegister q v s = .next (s.setFlag (rSqCfg q) fSqCfgCfgError true) := by
  unfold execSqRegister
  rw [if_neg (by omega), if_neg (by simp [h])]

theorem execSqDisable_eq {s : State} {q : Nat} (hq : q < 64) : execSqDisable q s =
    .next ((s.setFlag (rSqCfg q) fSqCfgValid false).setFlag (rSqCfg q) fSqCfgCfgError false) := by
  unfold execSqDisable
  rw [if_neg (by omega)]

/-- CQ_CFG `c` after a VALID = 1 write of `v` that is taken. -/
def State.cqRegistered (s : State) (c : Nat) (v : W64) : State :=
  (s.writeReg (rCqCfg c) (setBits v 0 1 1)).setFlag (rCqCfg c) fCqCfgCfgError false

theorem execCqRegister_eq {s : State} {c : Nat} {v : W64} (hc : c < 64) : execCqRegister c v s =
    .next (if s.queueFits (s.fld (rCqBase c) fCqBaseAddr * 32) (getBits v 2 5) 32 = true then s.cqRegistered c v
      else s.setFlag (rCqCfg c) fCqCfgCfgError true) := by
  unfold execCqRegister
  rw [if_neg (by omega)]
  split <;> rfl

theorem State.cqRegistered_fields (s : State) {c : Nat} (hc : c < 64) (v : W64) :
    (s.cqRegistered c v).cqValid c = true ∧ (s.cqRegistered c v).flag (rCqCfg c) fCqCfgCfgError = false ∧
      (s.cqRegistered c v).fld (rCqCfg c) fCqCfgLog2 = getBits v 2 5 := by
  have valid : (s.writeReg (rCqCfg c) (setBits v 0 1 1)).fld (rCqCfg c) fCqCfgValid = 1 :=
    (s.fld_writeReg_rw _ ⟨0, 1, .rw, 0, 0, 1⟩ 0 (findReg_cqCfg hc) rfl (by decide) (by decide)).trans
      (getBits_setBits_same v 0 1 1 (by decide))
  unfold State.cqRegistered State.cqValid
  simp (disch := decide) only [State.flag_setFlag_apart, State.flag_setFlag_same, State.fld_setFlag_apart, true_and]
  refine ⟨by rw [State.flag, valid]; rfl, ?_⟩
  exact (s.fld_writeReg_rw _ ⟨2, 5, .rw, 0, 0, 31⟩ 2 (findReg_cqCfg hc) rfl (by decide) (by decide)).trans
    (getBits_setBits_apart v 0 1 1 2 5 (by decide) (.inr (by decide)))

theorem execCqDisable_eq {s : State} {c : Nat} (hc : c < 64) : execCqDisable c s =
    .next (if ((List.range 64).any fun q => s.sqValid q && s.sqCq q == c) = true then
        s.setFlag (rCqCfg c) fCqCfgCfgError true
      else (s.setFlag (rCqCfg c) fCqCfgValid false).setFlag (rCqCfg c) fCqCfgCfgError false) := by
  unfold execCqDisable
  rw [if_neg (by omega)]
  split <;> rfl

/-! Doorbells (R305). -/

/-- A doorbell below the queue's size is written. -/
theorem State.doorbell_below {s : State} {off n : Nat} {v : W64} (h : getBits v 0 16 < n) (tent : Nat) :
    s.doorbell off n v tent = s.writeReg off v := by
  unfold State.doorbell
  rw [if_neg (by omega)]

theorem execSqDoorbell_below {s : State} {q : Nat} {v : W64} (hq : q < 64) (h : getBits v 0 16 < s.sqSize q) :
    execSqDoorbell q v s = .next (s.writeReg (rSqTail q) v) := by
  unfold execSqDoorbell
  rw [if_neg (by omega), State.doorbell_below h]

theorem execCqDoorbell_below {s : State} {c : Nat} {v : W64} (hc : c < 64) (h : getBits v 0 16 < s.cqSize c) :
    execCqDoorbell c v s = .next (s.writeReg (rCqHead c) v) := by
  unfold execCqDoorbell
  rw [if_neg (by omega), State.doorbell_below h]

/-! Rejection (R314, R315). -/

/-- The accept record of a rejection. -/
def State.rejection (s : State) (f : Fetched) (reason : Nat) : Accept :=
  { cq := f.cq, tick := (s.originate islAdmit).1.tick, status := 0x30, tent := dTent f.bytes, reason := reason
    slot := f.slot, sq := f.sq, client := dClient f.bytes % 65536 }

/-- Of the admission unit a rejection changes the accept records alone. -/
@[simp] theorem State.reject_adm (s : State) (f : Fetched) (reason : Nat) : (s.reject f reason).dev.adm =
    { s.dev.adm with accepts := s.dev.adm.accepts ++ [s.rejection f reason] } := by
  unfold State.reject
  dsimp only
  rw [State.contribute_adm, State.iodEvent_adm]
  split
  · exact State.addFld_adm ..
  · rfl

/-- A rejection in a state with the requests and the accept records of `s`. -/
theorem rejected_reject {s u : State} (hreq : u.dev.adm.requests = s.dev.adm.requests)
    (hacc : u.dev.adm.accepts = s.dev.adm.accepts) (f : Fetched) (reason : Nat) :
    Rejected s (u.reject f reason) f reason := by
  unfold Rejected
  rw [State.reject_adm]
  exact ⟨hreq, u.rejection f reason, by rw [hacc], rfl, rfl, rfl, rfl⟩

/-! Fetching (R306). -/

/-- The descriptor at HEAD of queue `q`. -/
def State.atHead (s : State) (q : Nat) : Fetched :=
  let h := s.fld (rSqHead q) fSqHeadHead % s.sqSize q
  let a := s.fld (rSqBase q) fSqBaseAddr * 256 + 256 * h
  { bytes := s.hostRead a 256, sq := q, slot := h, cq := s.sqCq q, sqTent := s.sqTent q, tick := s.copy islAdmit
    live := s.liveTick, poison := s.dev.mem.host.poisoned a 256 }

theorem State.slot_atHead (s : State) (q : Nat) :
    (s.atHead q).slot = s.fld (rSqHead q) fSqHeadHead % s.sqSize q := (rfl)
theorem State.bytes_atHead (s : State) (q : Nat) : (s.atHead q).bytes =
    s.hostRead (s.fld (rSqBase q) fSqBaseAddr * 256 + 256 * (s.atHead q).slot) 256 := by
  rw [State.slot_atHead]
  rfl

/-- HEAD of queue `q` has moved on, and the next turn is the next queue's. -/
def State.headMoved (s : State) (q : Nat) : State :=
  ((s.setFld (rSqHead q) fSqHeadHead ((s.fld (rSqHead q) fSqHeadHead % s.sqSize q + 1) % s.sqSize q)).addFld (rSqHead q)
    fSqHeadFetched 1).modAdm fun x => { x with lastSq := q }

theorem State.head_headMoved (s : State) (q : Nat) : (s.headMoved q).fld (rSqHead q) fSqHeadHead =
    ((s.atHead q).slot + 1) % s.sqSize q % 2 ^ 16 := by
  rw [State.slot_atHead, State.headMoved, State.fld_modAdm, State.addFld, State.fld_setFld_apart _ _ _ _ _ (by decide)
    (by decide),
    State.fld_setFld_same _ _ _ _ (by decide)]
  rfl

theorem State.headMoved_adm (s : State) (q : Nat) : (s.headMoved q).dev.adm = { s.dev.adm with lastSq := q } := by
  rw [State.headMoved, State.modAdm_dev]
  dsimp only
  rw [State.addFld_adm, State.setFld_adm]

/-- The descriptor of the first fetchable queue in turn is fetched, or rejected for its kind. -/
theorem execDescriptorFetch_takes {s : State} {q : Nat} (hf : s.fetching = true) (hb : s.blocked islAdmit = false)
    (hq : (turns s.dev.adm.lastSq).find? s.fetchable = some q) : execDescriptorFetch s =
    .next (if kindKnown (dKind (s.atHead q).bytes) = true then
        (s.headMoved q).modAdm fun x => { x with fetched := x.fetched ++ [s.atHead q] }
      else (s.headMoved q).reject (s.atHead q) 1) := by
  unfold execDescriptorFetch
  rw [if_neg (by simp [hf, hb]), hq]
  dsimp only
  by_cases known : kindKnown (dKind (s.atHead q).bytes) = true
  · rw [if_pos known]
    exact if_pos known
  · rw [if_neg known]
    exact if_neg known

/-- Settles O44, command by command. A registration leaves the positions of its queue as they stand (log entry 14). -/
theorem queuesAndFetching : Obligations.QueuesAndFetching := by
  unfold Obligations.QueuesAndFetching
  refine ⟨?sqRegister, ?sqDisable, ?cqRegister, ?cqDisable, ?sqDoorbell, ?cqDoorbell, ?fetch⟩
  case sqRegister =>
    intro s q v hq
    cases h : s.sqAccepts q v with
    | false => exact ⟨_, execSqRegister_refuses hq h, rfl⟩
    | true =>
      obtain ⟨t, ht, fields⟩ := execSqRegister_accepts hq h
      obtain ⟨valid, error, log2, tent, cq⟩ := s.sqRegistered_fields hq v
      have flags (f : Nat × Nat) : t.flag (rSqCfg q) f = (s.sqRegistered q v).flag (rSqCfg q) f :=
        congrArg (· != 0) (fields f)
      exact ⟨t, ht, (flags _).trans valid, (flags _).trans error, (fields _).trans log2, (fields _).trans tent,
        (fields _).trans cq⟩
  case sqDisable =>
    intro s q hq
    refine ⟨_, execSqDisable_eq hq, ?_, fun o ho => ?_⟩
    · unfold State.sqValid
      simp (disch := decide) only [State.flag_setFlag_apart, State.flag_setFlag_same]
    · rw [State.rd_setFlag_other _ _ _ _ _ ho, State.rd_setFlag_other _ _ _ _ _ ho]
  case cqRegister =>
    intro s c v hc
    refine ⟨_, execCqRegister_eq hc, ?_⟩
    split
    · exact s.cqRegistered_fields hc v
    · rfl
  case cqDisable =>
    intro s c hc
    refine ⟨_, execCqDisable_eq hc, fun o ho => ?_, ?_⟩
    · split
      · exact State.rd_setFlag_other _ _ _ _ _ ho
      · rw [State.rd_setFlag_other _ _ _ _ _ ho, State.rd_setFlag_other _ _ _ _ _ ho]
    · unfold State.cqValid
      split
      · simp (disch := decide) only [State.flag_setFlag_apart, State.flag_setFlag_same, and_self]
      · simp (disch := decide) only [State.flag_setFlag_apart, State.flag_setFlag_same, and_self]
  case sqDoorbell =>
    intro s q v hq h
    exact ⟨_, execSqDoorbell_below hq h,
      s.fld_writeReg_rw v ⟨0, 16, .rw, 0, 0, 0xFFFF⟩ 0 (findReg_sqTail hq) rfl (by decide) (by decide),
      fun o ho => s.rd_writeReg_other _ v ho⟩
  case cqDoorbell =>
    intro s c v hc h
    exact ⟨_, execCqDoorbell_below hc h,
      s.fld_writeReg_rw v ⟨0, 16, .rw, 0, 0, 0xFFFF⟩ 0 (findReg_cqHead hc) rfl (by decide) (by decide),
      fun o ho => s.rd_writeReg_other _ v ho⟩
  case fetch =>
    intro s q hf hb hq
    refine ⟨_, s.atHead q, execDescriptorFetch_takes hf hb hq, ?_, rfl, rfl, rfl, s.slot_atHead q, s.bytes_atHead q, ?_⟩
    · split
      · rw [State.modAdm_dev]
        exact congrArg Admit.lastSq (s.headMoved_adm q)
      · rw [State.reject_adm]
        exact congrArg Admit.lastSq (s.headMoved_adm q)
    · split
      · refine ⟨?_, (State.fld_modAdm ..).trans (s.head_headMoved q)⟩
        rw [State.modAdm_dev]
        dsimp only
        rw [State.headMoved_adm]
      · refine ⟨?_, rejected_reject (by rw [State.headMoved_adm]) (by rw [State.headMoved_adm]) _ _⟩
        rw [State.reject_adm, State.headMoved_adm]

end Sys2Proof.Machine
end

section
/-! SUPPORT. Admission: what a descriptor that is admitted leaves (R312, R315, R327, R408), what decides on the one at the
front and on a held one (R313, R314), and the posting of accept records (R307, R315). -/

namespace Sys2Proof.Machine

/-! Rings and legs of a new request. -/

/-- Binding a ring changes the rings and the host region alone. -/
theorem State.bindRing_kept {α : Type} (p : State → α) (hr : ∀ s k r, p (State.setRing s k r) = p s)
    (hw : ∀ s a bs, p (State.hostWrite s a bs) = p s) (s : State) (k n : Nat) : p (s.bindRing k n) = p s := by
  unfold State.bindRing
  split
  · rfl
  · exact (hw _ _ _).trans ((hw _ _ _).trans (hr _ _ _))

@[simp] theorem State.ring_setRing_same (s : State) (k : Nat) (r : Option Ring) : (s.setRing k r).ring k = r :=
  SMap.get_set_same ..
theorem State.ring_setRing_other (s : State) (k : Nat) (r : Option Ring) {j : Nat} (h : j ≠ k) :
    (s.setRing k r).ring j = s.ring j := SMap.get_set_other _ _ _ _ _ h

theorem State.ring_bindRing {s : State} {k : Nat} {x : Ring} (h : s.ring k = some x) (n : Nat) :
    (s.bindRing k n).ring k = some { x with bound := n, stalls := 0, stalled := none } := by
  unfold State.bindRing
  rw [h]
  exact State.ring_setRing_same ..

theorem State.modReq_kept {α : Type} (p : State → α) (h : ∀ s n r, p (State.setReq s n r) = p s) (s : State) (n : Nat)
    (f : Request → Request) : p (s.modReq n f) = p s := by
  unfold State.modReq
  split
  · rfl
  · exact h _ _ _

/-- A leg that may start changes its request, an island's clock and the trace alone. -/
theorem State.legReady_kept {α : Type} (p : State → α) (hr : ∀ s n r, p (State.setReq s n r) = p s)
    (hi : ∀ s n i, p (State.setIsl s n i) = p s) (ho : ∀ s f, p (State.modObs s f) = p s) (s : State) (n : Nat) :
    p (s.legReady n) = p s := by
  unfold State.legReady
  split
  · rfl
  · split
    · rfl
    · split
      · exact State.modReq_kept p hr _ _ _
      · unfold State.legStart
        split
        · rfl
        · exact (State.modReq_kept p hr _ _ _).trans (State.trace_kept p hi ho _ _ _ _ _ _ _)

/-- The first leg of a request that has legs starts unless it waits for an engine's queue, a context or a batch. -/
theorem State.req_legReady_first {s : State} {n : Nat} {r : Request} (h : s.req n = some r) (hl : r.legs ≠ [])
    (hs : r.started = false) : ∃ wait sum tick epoch, (s.legReady n).req n = some { r with
      started := !legQueued (r.legs.headD 0), waitFrom := wait, waited := sum, legTick := tick, legEpoch := epoch } := by
  unfold State.legReady
  rw [h]
  dsimp only
  rw [if_neg hl]
  split
  · next queued =>
    refine ⟨(r.beginWait s.liveTick).waitFrom, r.waited, r.legTick, r.legEpoch, (State.req_modReq_of_req h _).trans ?_⟩
    rw [queued, Bool.not_true, ← hs]
    rfl
  · next starts =>
    unfold State.legStart
    rw [h]
    dsimp only
    rw [Bool.not_eq_true] at starts
    rw [starts, State.req_modReq_of_req ((State.req_trace ..).trans h)]
    unfold Request.endWait
    split
    · exact ⟨_, _, _, _, rfl⟩
    · exact ⟨_, _, _, _, rfl⟩

/-! Admission (R312). -/

/-- The stamp of an admission. -/
def State.admitStamp (s : State) : Stamp := (s.takeSeq.2.originate islAdmit).1

/-- The accept record of an admission at tick `now`. -/
def State.acceptance (s : State) (f : Fetched) (now : Nat) : Accept :=
  { cq := f.cq, seq := s.takeSeq.1, tick := s.admitStamp.tick, tent := dTent f.bytes, slot := f.slot, sq := f.sq
    client := dClient f.bytes % 65536, since := now }

/-- A descriptor has its number and its stamp, and its admission is traced and counted. -/
def State.numbered (s : State) (f : Fetched) : State :=
  ((s.takeSeq.2.originate islAdmit).2.trace islAdmit 0x10 (dTent f.bytes) (dKind f.bytes + 256 * dClass f.bytes)
    s.takeSeq.1).iodEvent 0 0x201 0 (dTent f.bytes)

/-- The accept record of a numbered descriptor waits. -/
def State.announced (s : State) (f : Fetched) : State :=
  (s.numbered f).modAdm fun a => { a with accepts := a.accepts ++ [s.acceptance f (s.numbered f).ao.tick] }

/-- The cancel that an admitted CANCEL becomes. -/
def State.cancellation (s : State) (f : Fetched) : Cancel :=
  { seq := s.takeSeq.1, tent := dTent f.bytes, client := dClient f.bytes % 65536, target := field f.bytes 0x40 8
    stamp := s.admitStamp }

/-- An admitted CANCEL waits for its decision (R337). -/
def State.cancelled (s : State) (f : Fetched) : State :=
  (s.announced f).modAdm fun a => { a with cancels := a.cancels ++ [s.cancellation f] }

theorem State.cancelled_adm (s : State) (f : Fetched) : (s.cancelled f).dev.adm = { (s.announced f).dev.adm with
    cancels := (s.announced f).dev.adm.cancels ++ [s.cancellation f] } := (rfl)

/-- A request stands in the block under its number, and the turns of R30 have moved on. -/
def State.placed (s : State) (n : Nat) (r : Request) : State :=
  (s.setReq n (some r)).modAdm fun a => { a with
    lastHome := SMap.set (fun _ => 3) a.lastHome r.tent r.home, lastKerf := r.kerf }

theorem State.req_placed (s : State) (n : Nat) (r : Request) : (s.placed n r).req n = some r :=
  State.req_setReq_same s n (some r)
theorem State.ring_placed (s : State) (n : Nat) (r : Request) (k : Nat) : (s.placed n r).ring k = s.ring k := (rfl)

/-- A placed request has its ring bound. -/
def State.requested (s : State) (n : Nat) (r : Request) : State :=
  match r.ring with
  | some k => (s.placed n r).bindRing k n
  | none => s.placed n r

/-- The request that an admitted descriptor becomes. -/
def State.admittee (s : State) (f : Fetched) : Request := (s.announced f).newRequest f s.takeSeq.1 s.admitStamp

theorem State.admitReq_cancel {s : State} {f : Fetched} (h : dKind f.bytes = 0x0F) : s.admitReq f = s.cancelled f := by
  unfold State.admitReq
  dsimp only
  rw [if_pos h]
  rfl

theorem State.admitReq_request {s : State} {f : Fetched} (h : dKind f.bytes ≠ 0x0F) (hp : f.poison = false) :
    s.admitReq f =
      let u := (s.announced f).requested s.takeSeq.1 (s.admittee f)
      (u.sendJournal (u.admitRecord (s.admittee f))).legReady s.takeSeq.1 := by
  unfold State.admitReq
  dsimp only
  rw [if_neg h, if_neg (by simp [hp])]
  rfl

theorem State.takeSeq_fst (s : State) : s.takeSeq.1 = s.dev.adm.nextSeq := (rfl)
theorem State.takeSeq_dev (s : State) :
    s.takeSeq.2.dev = { s.dev with adm := { s.dev.adm with nextSeq := s.dev.adm.nextSeq + 1 } } := by
  unfold State.takeSeq
  dsimp only
  split <;> rfl

/-- Of the admission unit, announcing a descriptor changes the next number and the accept records. -/
theorem State.announced_adm (s : State) (f : Fetched) : ∃ a, (s.announced f).dev.adm = { s.dev.adm with
      nextSeq := s.dev.adm.nextSeq + 1, accepts := s.dev.adm.accepts ++ [a] } ∧
    a.seq = s.dev.adm.nextSeq ∧ a.status = 0 ∧ a.cq = f.cq ∧ a.slot = f.slot := by
  have numbered : (s.numbered f).dev.adm = { s.dev.adm with nextSeq := s.dev.adm.nextSeq + 1 } := by
    rw [State.numbered, State.iodEvent_adm, State.trace_adm, State.originate_adm, State.takeSeq_dev]
  refine ⟨s.acceptance f (s.numbered f).ao.tick, ?_, s.takeSeq_fst, rfl, rfl, rfl⟩
  rw [State.announced, State.modAdm_dev]
  dsimp only
  rw [numbered]

theorem State.announced_jrnl (s : State) (f : Fetched) : (s.announced f).dev.jrnl = s.dev.jrnl := by
  rw [State.announced, State.modAdm_dev]
  dsimp only
  rw [State.numbered, State.iodEvent_jrnl, State.trace_jrnl, State.originate_kept (·.dev.jrnl) (fun _ _ _ => rfl),
    State.takeSeq_dev]

/-- A request that takes its place changes the requests, the rings, the turns of R30 and the host region alone. -/
theorem State.requested_kept {α : Type} (p : State → α) (hq : ∀ s n r, p (State.setReq s n r) = p s)
    (ht : ∀ (s : State) (h : Admit → SMap Nat) k, p (s.modAdm fun a => { a with lastHome := h a, lastKerf := k }) = p s)
    (hr : ∀ s k r, p (State.setRing s k r) = p s) (hw : ∀ s a bs, p (State.hostWrite s a bs) = p s) (s : State)
    (n : Nat) (r : Request) : p (s.requested n r) = p s := by
  have placed : p (s.placed n r) = p s := (ht _ _ _).trans (hq _ _ _)
  unfold State.requested
  split
  · rw [State.bindRing_kept p hr hw, placed]
  · exact placed

theorem State.req_requested (s : State) (n : Nat) (r : Request) : (s.requested n r).req n = some r := by
  unfold State.requested
  split
  · exact (State.bindRing_kept (·.req n) (fun _ _ _ => rfl) (fun _ _ _ => rfl) _ _ _).trans (s.req_placed n r)
  · exact s.req_placed n r

theorem State.ring_requested {s : State} {r : Request} {k : Nat} {x : Ring} (hk : r.ring = some k)
    (hx : s.ring k = some x) (n : Nat) :
    (s.requested n r).ring k = some { x with bound := n, stalls := 0, stalled := none } := by
  unfold State.requested
  rw [hk]
  exact State.ring_bindRing ((s.ring_placed n r k).trans hx) n

/-- A registered ring is found by the rings alone. -/
theorem State.freeRing_of_rings {s t : State} (h : t.dev.adm.rings = s.dev.adm.rings) (n addr log2 : Nat) :
    t.freeRing n addr log2 = s.freeRing n addr log2 := by
  unfold State.freeRing State.findRing State.ring
  rw [h]

theorem legsOf_ne_nil {d : List Byte} (h1 : 1 ≤ dKind d) (h8 : dKind d ≤ 8) : legsOf d ≠ [] := by
  unfold legsOf
  interval_cases h : dKind d
  · exact List.cons_ne_nil _ _
  · change (if field d 0xE8 8 = 0 then [1, 2, 3, 4] else [3, 4]) ≠ []
    split
    · exact List.cons_ne_nil _ _
    · exact List.cons_ne_nil _ _
  all_goals exact List.cons_ne_nil _ _

/-- What admission does to the admission unit beside the requests, the rings and the turns of R30 is done once the
descriptor is announced. -/
theorem State.admitReq_adm {α : Type} (p : Admit → α) (hq : ∀ a r, p { a with requests := r } = p a)
    (ht : ∀ a h k, p { a with lastHome := h, lastKerf := k } = p a) (hr : ∀ a r, p { a with rings := r } = p a)
    (s : State) {f : Fetched} (hk : dKind f.bytes ≠ 0x0F) (hp : f.poison = false) :
    p (s.admitReq f).dev.adm = p (s.announced f).dev.adm := by
  rw [State.admitReq_request hk hp]
  dsimp only
  rw [State.legReady_kept (fun u => p u.dev.adm) (fun _ _ _ => hq _ _) (fun _ _ _ => rfl) (fun _ _ => rfl)]
  exact State.requested_kept (fun u => p u.dev.adm) (fun _ _ _ => hq _ _) (fun _ _ _ => ht _ _ _)
    (fun _ _ _ => hr _ _) (fun _ _ _ => rfl) _ _ _

/-- Admission leaves the descriptors at the front and the held ones alone. -/
theorem State.admitReq_queues (s : State) {f : Fetched} (hk : dKind f.bytes ≠ 0x0F) (hp : f.poison = false) :
    (s.admitReq f).dev.adm.fetched = s.dev.adm.fetched ∧ (s.admitReq f).dev.adm.held = s.dev.adm.held := by
  obtain ⟨a, adm, -⟩ := s.announced_adm f
  constructor
  · rw [s.admitReq_adm Admit.fetched (fun _ _ => rfl) (fun _ _ _ => rfl) (fun _ _ => rfl) hk hp, adm]
  · rw [s.admitReq_adm Admit.held (fun _ _ => rfl) (fun _ _ _ => rfl) (fun _ _ => rfl) hk hp, adm]

/-- A clean descriptor of one of the kinds 1 to 8 is admitted. -/
theorem admitted_admitReq (s : State) {f : Fetched} (h1 : 1 ≤ dKind f.bytes) (h8 : dKind f.bytes ≤ 8)
    (hp : f.poison = false) : Admitted s (s.admitReq f) f := by
  obtain ⟨a, adm, number, status, cq, slot⟩ := s.announced_adm f
  have hk : dKind f.bytes ≠ 0x0F := by omega
  refine ⟨?numbered, ?request, ⟨a, ?accept, number, status, cq, slot⟩, ?ring, ?journal⟩
  case numbered =>
    rw [s.admitReq_adm Admit.nextSeq (fun _ _ => rfl) (fun _ _ _ => rfl) (fun _ _ => rfl) hk hp, adm]
  case accept =>
    rw [s.admitReq_adm Admit.accepts (fun _ _ => rfl) (fun _ _ _ => rfl) (fun _ _ => rfl) hk hp, adm]
  case request =>
    rw [State.admitReq_request hk hp]
    obtain ⟨wait, sum, tick, epoch, there⟩ := State.req_legReady_first
      (s := ((s.announced f).requested s.takeSeq.1 (s.admittee f)).sendJournal _)
      (State.req_requested _ _ _) (legsOf_ne_nil h1 h8) rfl
    exact ⟨_, there, rfl, rfl, rfl, rfl, rfl, rfl, rfl, rfl, rfl⟩
  case ring =>
    intro k x hfree hx
    have rings : (s.announced f).dev.adm.rings = s.dev.adm.rings := by rw [adm]
    have found : (s.announced f).ring k = some x := by
      unfold State.ring
      rw [rings]
      exact hx
    rw [State.admitReq_request hk hp]
    exact (State.legReady_kept (·.ring k) (fun _ _ _ => rfl) (fun _ _ _ => rfl) (fun _ _ => rfl) _ _).trans
      (State.ring_requested ((State.freeRing_of_rings rings _ _ _).trans hfree) found _)
  case journal =>
    let u := (s.announced f).requested s.takeSeq.1 (s.admittee f)
    refine ⟨u.admitRecord (s.admittee f), ?_, rfl, ?_⟩
    · rw [State.admitReq_request hk hp]
      dsimp only
      rw [State.legReady_jrnl]
      change u.dev.jrnl.sent ++ _ = _
      rw [State.requested_kept (·.dev.jrnl) (fun _ _ _ => rfl) (fun _ _ _ => rfl) (fun _ _ _ => rfl)
        (fun _ _ _ => rfl), State.announced_jrnl]
    · unfold State.admitRecord
      split <;> rfl

/-- Admission from a state that has the numbers, the accept records, the rings and the journal's records of `s`. -/
theorem Admitted.of_same {s u t : State} {f : Fetched} (h : Admitted u t f)
    (hseq : u.dev.adm.nextSeq = s.dev.adm.nextSeq) (hacc : u.dev.adm.accepts = s.dev.adm.accepts)
    (hrings : u.dev.adm.rings = s.dev.adm.rings) (hjrnl : u.dev.jrnl = s.dev.jrnl) : Admitted s t f := by
  obtain ⟨numbered, request, accept, ring, journal⟩ := h
  rw [hseq] at numbered request accept ring journal
  rw [hacc] at accept
  rw [hjrnl] at journal
  refine ⟨numbered, request, accept, fun k x hk hx => ring k x ?_ ?_, journal⟩
  · exact (State.freeRing_of_rings hrings _ _ _).trans hk
  · unfold State.ring
    rw [hrings]
    exact hx

/-! The descriptor at the front (R312 to R314). -/

section
variable {s : State} {f : Fetched} {fs : List Fetched} {k : Nat}

/-- The descriptors at the front are `fs`. -/
def State.front (s : State) (fs : List Fetched) : State := s.modAdm fun a => { a with fetched := fs }

theorem State.front_adm (s : State) (fs : List Fetched) : (s.front fs).dev.adm = { s.dev.adm with fetched := fs } := (rfl)
theorem State.front_jrnl (s : State) (fs : List Fetched) : (s.front fs).dev.jrnl = s.dev.jrnl := (rfl)

theorem State.rejected_front (s : State) (fs : List Fetched) (f : Fetched) (reason : Nat) :
    Rejected s ((s.front fs).reject f reason) f reason :=
  rejected_reject (by rw [State.front_adm]) (by rw [State.front_adm]) f reason

/-- A descriptor of kind `k` stands at the front, and the admission unit may act. -/
structure State.Decides (s : State) (f : Fetched) (fs : List Fetched) (k : Nat) : Prop where
  front : s.dev.adm.fetched = f :: fs
  kind : dKind f.bytes = k
  free : s.blocked islAdmit = false

theorem State.admitFront_eq (h : s.Decides f fs k) : s.admitFront k =
    if s.rejectReason f ≠ 0 then (s.front fs).reject f (s.rejectReason f)
    else if k = 0x0F then (s.front fs).admitReq f
    else if s.heldIn (dTent f.bytes) (dClass f.bytes) = [] ∧ s.mayAdmit (dTent f.bytes) (dClass f.bytes) then
      ((s.front fs).takeCredit (dTent f.bytes) (dClass f.bytes) (s.stampTick islAdmit)).admitReq f
    else if s.fld (rTentQuota (dTent f.bytes)) fTentQuotaHoldMax ≤ (s.heldOf (dTent f.bytes)).length then
      (s.front fs).reject f 5
    else s.modAdm fun a => { a with fetched := fs, held := a.held ++ [f] } := by
  unfold State.admitFront
  rw [h.front]
  dsimp only
  rw [if_neg (by simp [h.kind, h.free])]
  rfl

theorem State.admitFront_rejects (h : s.Decides f fs k) (hwhy : s.rejectReason f ≠ 0) :
    s.admitFront k = (s.front fs).reject f (s.rejectReason f) := by
  rw [State.admitFront_eq h, if_pos hwhy]

theorem State.admitFront_cancel (h : s.Decides f fs 0x0F) (hwhy : s.rejectReason f = 0) :
    s.admitFront 0x0F = (s.front fs).cancelled f := by
  rw [State.admitFront_eq h, if_neg (not_not_intro hwhy), if_pos rfl, State.admitReq_cancel h.kind]

theorem State.admitFront_admits (h : s.Decides f fs k) (hk : k ≠ 0x0F) (hwhy : s.rejectReason f = 0)
    (hheld : s.heldIn (dTent f.bytes) (dClass f.bytes) = [])
    (hmay : s.mayAdmit (dTent f.bytes) (dClass f.bytes) = true) : s.admitFront k =
      ((s.front fs).takeCredit (dTent f.bytes) (dClass f.bytes) (s.stampTick islAdmit)).admitReq f := by
  rw [State.admitFront_eq h, if_neg (not_not_intro hwhy), if_neg hk, if_pos ⟨hheld, hmay⟩]

theorem State.admitFront_holds (h : s.Decides f fs k) (hk : k ≠ 0x0F) (hwhy : s.rejectReason f = 0)
    (hnot : s.heldIn (dTent f.bytes) (dClass f.bytes) ≠ [] ∨ s.mayAdmit (dTent f.bytes) (dClass f.bytes) = false) :
    s.admitFront k =
      if s.fld (rTentQuota (dTent f.bytes)) fTentQuotaHoldMax ≤ (s.heldOf (dTent f.bytes)).length then
        (s.front fs).reject f 5
      else s.modAdm fun a => { a with fetched := fs, held := a.held ++ [f] } := by
  have waits : ¬ (s.heldIn (dTent f.bytes) (dClass f.bytes) = [] ∧
      s.mayAdmit (dTent f.bytes) (dClass f.bytes) = true) := by
    rintro ⟨none, may⟩
    rcases hnot with held | not
    · exact held none
    · exact Bool.false_ne_true (not.symm.trans may)
  rw [State.admitFront_eq h, if_neg (not_not_intro hwhy), if_neg hk, if_neg waits]

end

/-! A held descriptor (R313, R395). -/

section
variable {s : State} {n c : Nat} {f : Fetched} {fs : List Fetched}

/-- The held descriptors without `f`. -/
def State.unheld (s : State) (f : Fetched) : State := s.modAdm fun a => { a with held := a.held.erase f }

theorem State.unheld_adm (s : State) (f : Fetched) :
    (s.unheld f).dev.adm = { s.dev.adm with held := s.dev.adm.held.erase f } := (rfl)
theorem State.unheld_jrnl (s : State) (f : Fetched) : (s.unheld f).dev.jrnl = s.dev.jrnl := (rfl)

theorem execHeldDescriptorAdmit_eq (hheld : s.heldIn n c = f :: fs) (hb : s.blocked islAdmit = false)
    (hboot : s.booted = true) (hsafe : s.failsafe = false) : execHeldDescriptorAdmit n c s =
    .next (if s.rejectReason f ≠ 0 then (s.unheld f).reject f (s.rejectReason f)
      else if s.mayAdmit n c then ((s.unheld f).takeCredit n c (s.stampTick islAdmit)).admitReq f else s) := by
  unfold execHeldDescriptorAdmit
  rw [hheld]
  dsimp only
  rw [if_neg (by simp [hb, hboot, hsafe])]
  split
  · rfl
  · split <;> rfl

end

/-! Accept records (R307, R315). -/

/-- The accept record as it is posted: that of a CANCEL that came too late says so. -/
def State.flagged (s : State) (a : Accept) : Accept :=
  { a with flags := if (match s.dev.adm.cancels.find? (·.seq == a.seq) with
      | some x => x.outcome != some 1
      | none => false) = true then 0x40 else 0 }

theorem State.flagged_plain {s : State} {a : Accept} (h : s.dev.adm.cancels.find? (·.seq == a.seq) = none) :
    s.flagged a = { a with flags := 0 } := by
  unfold State.flagged
  rw [h]
  rfl

/-- A record of completion queue `c` has been written, and waits no more. -/
def State.acceptPosted (s : State) (c : Nat) (a : Accept) : State :=
  (s.postAccept c (s.flagged a)).modAdm fun x => { x with accepts := x.accepts.erase a }

theorem execAcceptRecordPost_posts {s : State} {c : Nat} {a : Accept} (hc : c < 64) (hvalid : s.cqValid c = true)
    (hroom : s.cqFull c = false) (hb : s.blocked islAdmit = false) (ha : s.nextAccept c = some a) :
    execAcceptRecordPost c s =
      .next (if a.status = 0 then (s.acceptPosted c a).noteAccept (s.flagged a) else s.acceptPosted c a) := by
  unfold execAcceptRecordPost
  rw [if_neg (by simp [hc, hvalid, hroom, hb]), ha]
  rfl

/-- Posting a record changes the host region and registers alone. -/
theorem State.postAccept_kept {α : Type} (p : State → α) (hw : ∀ s a bs, p (State.hostWrite s a bs) = p s)
    (hr : ∀ s off v, p (State.wr s off v) = p s) (s : State) (c : Nat) (a : Accept) : p (s.postAccept c a) = p s := by
  unfold State.postAccept
  dsimp only
  split
  · exact (hr _ _ _).trans ((hr _ _ _).trans (hw _ _ _))
  · exact (hr _ _ _).trans (hw _ _ _)

theorem State.adm_acceptPosted (s : State) (c : Nat) (a : Accept) :
    (s.acceptPosted c a).dev.adm = { s.dev.adm with accepts := s.dev.adm.accepts.erase a } := by
  unfold State.acceptPosted
  rw [State.modAdm_dev]
  dsimp only
  rw [State.postAccept_kept (·.dev.adm) (fun _ _ _ => rfl) (fun _ _ _ => rfl)]

theorem State.tail_acceptPosted (s : State) (c : Nat) (a : Accept) : (s.acceptPosted c a).fld (rCqTail c) fCqTailTail =
    (s.fld (rCqTail c) fCqTailTail % s.cqSize c + 1) % s.cqSize c % 2 ^ 16 := by
  change (s.postAccept c (s.flagged a)).fld (rCqTail c) fCqTailTail = _
  unfold State.postAccept
  dsimp only
  split
  · exact (State.fld_setFld_apart _ _ _ _ _ (by decide) (by decide)).trans
      (State.fld_setFld_same _ _ _ _ (by decide))
  · exact State.fld_setFld_same _ _ _ _ (by decide)

theorem State.host_acceptPosted (s : State) (c : Nat) (a : Accept) : (s.acceptPosted c a).dev.mem.host = s.dev.mem.host.write
    (s.fld (rCqBase c) fCqBaseAddr * 32 + 32 * (s.fld (rCqTail c) fCqTailTail % s.cqSize c))
    ((s.flagged a).encode (s.fld (rCqTail c) fCqTailPhase)) := by
  unfold State.acceptPosted State.postAccept
  dsimp only
  split <;> rfl

/-- An acceptance that takes effect leaves what the count of its tent, the cancels and the accounts do not touch. -/
theorem State.noteAccept_kept {α : Type} (p : State → α) (a : Accept)
    (hr : ∀ s v, p (State.wr s (rObsAoTentAdmit a.tent) v) = p s) (hi : ∀ s n i, p (State.setIsl s n i) = p s)
    (hc : ∀ (s : State) (g : Admit → List Cancel), p (s.modAdm fun x => { x with cancels := g x }) = p s)
    (hq : ∀ s n r, p (State.setReq s n r) = p s) (hw : ∀ s x bs, p (State.hostWrite s x bs) = p s)
    (ha : ∀ s f, p (State.modAcct s f) = p s) (s : State) : p (s.noteAccept a) = p s := by
  unfold State.noteAccept
  dsimp only
  split
  · rw [State.contribute_kept p hw ha, hc, State.originate_kept p hi, State.contribute_kept p hw ha, hr]
  · rw [State.contribute_kept p hw ha, State.modReq_kept p hq, hr]

/-- The acceptance of a request that is no CANCEL marks the request. -/
theorem State.req_noteAccept {s : State} {a : Accept} {r : Request}
    (hc : s.dev.adm.cancels.find? (·.seq == a.seq) = none) (hr : s.req a.seq = some r) :
    (s.noteAccept a).req a.seq = some { r with accepted := true } := by
  unfold State.noteAccept
  dsimp only
  rw [State.wr_dev]
  dsimp only
  rw [hc]
  dsimp only
  rw [State.req_contribute]
  exact State.req_modReq_of_req (s := s.wr _ _) hr _

theorem cqTail_ne_tentAdmit (c t : Nat) : rCqTail c ≠ rObsAoTentAdmit t := by
  unfold rCqTail rObsAoTentAdmit
  omega

/-! The obligation. -/

/-- The commands that decide on a descriptor of kind 1 to 8 at the front, each with its kind. -/
theorem exec_request {e : Nat × Instr} (he : e ∈ [(1, Instr.requestEmbed), (2, .requestSearch), (3, .requestRerank),
      (4, .requestGenerate), (5, .requestRag), (6, .requestTokenize), (7, .requestIndexMutate), (8, .requestTableOp)])
    (s : State) : exec e.2 s = .next (s.admitFront e.1) ∧ 1 ≤ e.1 ∧ e.1 ≤ 8 := by
  simp only [List.mem_cons, List.not_mem_nil, or_false] at he
  rcases he with rfl | rfl | rfl | rfl | rfl | rfl | rfl | rfl <;> exact ⟨rfl, by decide, by decide⟩

/-- Settles O45. A decision leads to a rejection, to an admission under the next number, or to the held descriptors; the
checks of R314 apply again to a held descriptor at its decision (log entry 15). -/
theorem admissionDecides : Obligations.AdmissionDecides := by
  unfold Obligations.AdmissionDecides
  refine ⟨?front, ?cancel, ?held, ?post⟩
  case front =>
    intro e s f fs he hfront hkind hb
    obtain ⟨run, h1, h8⟩ := exec_request he s
    have h : s.Decides f fs e.1 := ⟨hfront, hkind, hb⟩
    have hk : e.1 ≠ 0x0F := by omega
    rw [run]
    refine ⟨fun hwhy => ?_, fun hwhy hheld hmay hp => ?_, fun hwhy hnot => ?_⟩
    · rw [State.admitFront_rejects h hwhy]
      exact ⟨_, rfl, by rw [State.reject_adm, State.front_adm], s.rejected_front fs f _⟩
    · rw [State.admitFront_admits h hk hwhy hheld hmay]
      refine ⟨_, rfl, ?_, (admitted_admitReq _ (by omega) (by omega) hp).of_same ?_ ?_ ?_ ?_⟩
      · rw [(State.admitReq_queues _ (by omega) hp).1, State.takeCredit_adm, State.front_adm]
      · rw [State.takeCredit_adm, State.front_adm]
      · rw [State.takeCredit_adm, State.front_adm]
      · rw [State.takeCredit_adm, State.front_adm]
      · rw [State.takeCredit_jrnl, State.front_jrnl]
    · rw [State.admitFront_holds h hk hwhy hnot]
      split
      · exact ⟨_, rfl, by rw [State.reject_adm, State.front_adm], s.rejected_front fs f 5⟩
      · rfl
  case cancel =>
    intro s f fs hfront hkind hb hwhy hp
    obtain ⟨a, adm, number, status, cq, slot⟩ := (s.front fs).announced_adm f
    refine ⟨_, (s.front fs).cancellation f, a,
      congrArg Host.Outcome.next (State.admitFront_cancel ⟨hfront, hkind, hb⟩ hwhy), ?_⟩
    rw [State.cancelled_adm, adm, number, State.front_adm]
    exact ⟨rfl, rfl, rfl, rfl, rfl, rfl, rfl, rfl, rfl⟩
  case held =>
    intro s n c f fs hheld h1 h8 hb hboot hsafe
    change (_ → ∃ t, execHeldDescriptorAdmit n c s = _ ∧ _) ∧ (_ → _ → _ → ∃ t, execHeldDescriptorAdmit n c s = _ ∧ _)
    rw [execHeldDescriptorAdmit_eq hheld hb hboot hsafe]
    refine ⟨fun hwhy => ?_, fun hwhy hmay hp => ?_⟩
    · rw [if_pos hwhy]
      exact ⟨_, rfl, by rw [State.reject_adm, State.unheld_adm], rejected_reject (by rw [State.unheld_adm])
        (by rw [State.unheld_adm]) _ _⟩
    · rw [if_neg (not_not_intro hwhy), if_pos hmay]
      refine ⟨_, rfl, ?_, (admitted_admitReq _ h1 h8 hp).of_same ?_ ?_ ?_ ?_⟩
      · rw [(State.admitReq_queues _ (by omega) hp).2, State.takeCredit_adm, State.unheld_adm]
      · rw [State.takeCredit_adm, State.unheld_adm]
      · rw [State.takeCredit_adm, State.unheld_adm]
      · rw [State.takeCredit_adm, State.unheld_adm]
      · rw [State.takeCredit_jrnl, State.unheld_jrnl]
  case post =>
    intro s c a hc hvalid hroom hb ha _
    have cancels : (s.acceptPosted c a).dev.adm.cancels = s.dev.adm.cancels := by rw [State.adm_acceptPosted]
    have reqs (n : Nat) : (s.acceptPosted c a).req n = s.req n := by
      unfold State.req
      rw [State.adm_acceptPosted]
    refine ⟨_, execAcceptRecordPost_posts hc hvalid hroom hb ha, ?_, ?_, fun hstatus hplain => ?_,
      fun hstatus hplain r hr => ?_⟩
    · split
      · rw [State.noteAccept_kept (·.dev.adm.accepts) _ (fun _ _ => rfl) (fun _ _ _ => rfl) (fun _ _ => rfl)
          (fun _ _ _ => rfl) (fun _ _ _ => rfl) (fun _ _ => rfl), State.adm_acceptPosted]
      · rw [State.adm_acceptPosted]
    · split
      · rw [State.noteAccept_kept (·.fld (rCqTail c) fCqTailTail) _
          (fun _ _ => State.fld_wr_other _ _ _ _ _ (cqTail_ne_tentAdmit c _)) (fun _ _ _ => rfl) (fun _ _ => rfl)
          (fun _ _ _ => rfl) (fun _ _ _ => rfl) (fun _ _ => rfl), State.tail_acceptPosted]
      · exact State.tail_acceptPosted ..
    · rw [if_neg (by omega), State.host_acceptPosted, State.flagged_plain hplain]
    · rw [if_pos hstatus, State.flagged_plain hplain]
      exact State.req_noteAccept (a := { a with flags := 0 }) (by rw [cancels]; exact hplain) ((reqs _).trans hr)

end Sys2Proof.Machine
end

section
/-! SUPPORT. Stream rings: registration and reading (R325), CONSUMER and stalls (R328, R329), publication (R333) and the
decision of a cancel (R337, R410). -/

namespace Sys2Proof.Machine

/-! Registration and reading (R325). -/

theorem State.strmResult_result (s : State) {n : Nat} (h : n < 8) :
    (s.strmResult n).fld rStrmRegStatus fStrmRegStatusResult = n :=
  (State.fld_setFld_same _ _ _ _ (by decide)).trans (Nat.mod_eq_of_lt h)

/-- Slot `k` has taken the ring `r`, whose header is cleared. -/
def State.ringTaken (s : State) (k : Nat) (r : Ring) : State :=
  ((((s.setRing k (some r)).hostPut r.addr 8 0).hostPut (r.addr + 0x10) 8 0).hostPut (r.addr + 0x18) 4 0).strmResult 0

theorem State.ringTaken_adm (s : State) (k : Nat) (r : Ring) :
    (s.ringTaken k r).dev.adm = (s.setRing k (some r)).dev.adm := (rfl)

/-- The slot holds its ring, RESULT tells it, and the other slots stand. -/
theorem State.ringTaken_takes (s : State) (k : Nat) (r : Ring) : (s.ringTaken k r).ring k = some r ∧
    (s.ringTaken k r).fld rStrmRegStatus fStrmRegStatusResult = 0 ∧
      ∀ j, j ≠ k → (s.ringTaken k r).ring j = s.ring j := by
  refine ⟨?_, ?_, fun j hj => ?_⟩
  · rw [State.ring_of_adm (s.ringTaken_adm k r), State.ring_setRing_same]
  · unfold State.ringTaken
    exact State.strmResult_result _ (by decide)
  · rw [State.ring_of_adm (s.ringTaken_adm k r), State.ring_setRing_other s k _ hj]

theorem execRingRegister_eq (s : State) {k n : Nat} (l : Nat) (hk : k < 65536) (hn : n < 64) :
    execRingRegister k n l s =
      (let a := s.fld rStrmRegAddr fStrmRegAddrAddr * 64
       let b := ringBytes l (s.sealed n)
       .next (if l < 6 ∨ 20 < l ∨ s.inHost a b = false ∨ s.fld (rTentQuota n) fTentQuotaRingsMax ≤ s.ringCount n then
           s.strmResult 1
         else if s.ringOverlap a b = true then s.strmResult 2
         else if (s.ring k).isSome = true then s.strmResult 3
         else s.ringTaken k { addr := a, log2 := l, tent := n })) := by
  unfold execRingRegister
  dsimp only
  rw [if_neg (by omega)]
  simp only [Bool.not_eq_true']
  generalize s.fld rStrmRegAddr fStrmRegAddrAddr * 64 = a
  split_ifs
  · rfl
  · rfl
  · rfl
  · rfl

theorem execRingUnregister_none {s : State} {k : Nat} (h : s.ring k = none) :
    execRingUnregister k s = .next (s.strmResult 5) := by
  unfold execRingUnregister
  rw [h]

theorem execRingUnregister_some {s : State} {k : Nat} {r : Ring} (h : s.ring k = some r) :
    execRingUnregister k s = .next (if r.bound = 0 then (s.setRing k none).strmResult 0 else s.strmResult 4) := by
  unfold execRingUnregister
  rw [h]
  dsimp only
  by_cases free : r.bound = 0
  · rw [if_neg (not_not_intro free), if_pos free]
  · rw [if_pos free, if_neg free]

/-- The registers of a read of ring `r`. -/
def State.ringShown (s : State) (r : Ring) : State :=
  (((((s.strmResult 0).setFld rStrmRegStatus fStrmRegStatusLog2 r.log2).setFld rStrmRegStatus fStrmRegStatusTent
    r.tent).setFlag rStrmRegStatus fStrmRegStatusIsBound (r.bound != 0)).wr rStrmRegReq (BitVec.ofNat 64 r.bound)).wr
    rStrmRegData (BitVec.ofNat 64 r.addr)

theorem execRingRead_some {s : State} {k : Nat} {r : Ring} (h : s.ring k = some r) :
    execRingRead k s = .next (s.ringShown r) := by
  unfold execRingRead
  rw [h]
  rfl

theorem State.ringShown_fields (s : State) (r : Ring) :
    (s.ringShown r).fld rStrmRegStatus fStrmRegStatusResult = 0 ∧
      (s.ringShown r).fld rStrmRegStatus fStrmRegStatusLog2 = r.log2 % 32 ∧
      (s.ringShown r).fld rStrmRegStatus fStrmRegStatusTent = r.tent % 64 ∧
      (s.ringShown r).flag rStrmRegStatus fStrmRegStatusIsBound = (r.bound != 0) ∧
      (s.ringShown r).rd rStrmRegReq = BitVec.ofNat 64 r.bound ∧
      (s.ringShown r).rd rStrmRegData = BitVec.ofNat 64 r.addr := by
  unfold State.ringShown State.strmResult State.flag
  simp (disch := decide) only [State.fld_wr_other, State.fld_setFlag_apart, State.fld_setFld_apart, State.fld_setFld_same,
    State.rd_wr_same, State.rd_wr_other, and_true]
  exact ⟨rfl, rfl, rfl, State.flag_setFlag_same _ _ _ _ (by decide) rfl⟩

/-! CONSUMER and stalls (R328, R329). -/

/-- A valid CONSUMER is taken. -/
theorem State.pollRing_valid {s : State} {k c : Nat} {r : Ring} (h : s.ring k = some r)
    (hc : takeConsumer r.producer r.consumer r.log2 (s.hostNum (r.addr + 8) 8) = (c, false)) :
    s.pollRing k = s.setRing k (some { r with consumer := c }) := by
  unfold State.pollRing
  rw [h]
  dsimp only
  rw [hc]
  rfl

theorem State.modReq_ring (s : State) (n : Nat) (f : Request → Request) (k : Nat) : (s.modReq n f).ring k = s.ring k :=
  State.modReq_kept (·.ring k) (fun _ _ _ => rfl) s n f

/-- After the end of a stall the ring is not stalled. -/
theorem State.ring_stallEnd {s : State} {k : Nat} {r : Ring} (h : s.ring k = some r) :
    (s.stallEnd k).ring k = some { r with stalled := none } := by
  unfold State.stallEnd
  rw [h]
  dsimp only
  split
  · next none => rw [h, ← none]
  · rw [State.modReq_ring, State.ring_setRing_same]

theorem execRingConsumerPoll_valid {s : State} {k c : Nat} {r : Ring} (h : s.ring k = some r)
    (hc : takeConsumer r.producer r.consumer r.log2 (s.hostNum (r.addr + 8) 8) = (c, false)) :
    execRingConsumerPoll k s = .next
      (if ({ r with consumer := c } : Ring).room (((s.req r.bound).map Request.nextSize).getD 1) = true then
        (s.setRing k (some { r with consumer := c })).stallEnd k else s.setRing k (some { r with consumer := c })) := by
  have size : (match s.req r.bound with
      | some q => q.nextSize
      | none => 1) = ((s.req r.bound).map Request.nextSize).getD 1 := by
    cases s.req r.bound <;> rfl
  unfold execRingConsumerPoll
  dsimp only
  rw [State.pollRing_valid h hc, State.ring_setRing_same]
  dsimp only
  rw [← size]
  rfl

theorem State.req_setReq_other (s : State) (n : Nat) (r : Option Request) {m : Nat} (h : m ≠ n) :
    (s.setReq n r).req m = s.req m := SMap.get_set_other _ _ _ _ _ h

theorem State.req_modReq_other (s : State) (n : Nat) (f : Request → Request) {m : Nat} (h : m ≠ n) :
    (s.modReq n f).req m = s.req m := by
  unfold State.modReq
  split
  · rfl
  · exact State.req_setReq_other s n _ h

/-- The end of a stall changes of a request the ticks spent stalled alone. -/
theorem State.req_stallEnd {s : State} {n : Nat} {r : Request} (h : s.req n = some r) (k : Nat) :
    ∃ ticks, (s.stallEnd k).req n = some { r with gen := { r.gen with stallTicks := ticks } } := by
  unfold State.stallEnd
  cases s.ring k with
  | none => exact ⟨_, h⟩
  | some x =>
    dsimp only
    cases x.stalled with
    | none => exact ⟨_, h⟩
    | some began =>
      have before : (s.setRing k (some { x with stalled := none })).req n = some r := h
      dsimp only
      by_cases own : x.bound = n
      · subst own
        exact ⟨_, State.req_modReq_of_req before _⟩
      · exact ⟨_, (State.req_modReq_other _ _ _ (Ne.symm own)).trans before⟩

/-! Publication (R333). -/

/-- Writing records changes the host region alone. -/
theorem State.writeRecords_kept {α : Type} (p : State → α) (hw : ∀ s a bs, p (State.hostWrite s a bs) = p s)
    (q : Request) (x : Ring) (rs : List StrmRec) (s : State) (at_ n : Nat) :
    p (s.writeRecords q x at_ n rs) = p s := by
  induction rs generalizing s at_ n with
  | nil => rfl
  | cons r rs ih =>
    rw [State.writeRecords, ih]
    unfold State.writeRecord
    dsimp only
    split
    · exact (hw _ _ _).trans (hw _ _ _)
    · exact hw _ _ _

theorem Request.length_recordsOf (r : Request) (g : PubGroup) : (r.recordsOf g).length = g.records.length := by
  unfold Request.recordsOf
  split
  · exact List.length_map _
  · rfl

/-- The times of published tokens change the generation's counts and the conditions alone. -/
theorem Request.timeTokens_kept {α : Type} (p : Request → α)
    (h : ∀ (r : Request) g c, p { r with gen := g, conditions := c } = p r) (r : Request) (now n : Nat) :
    p (r.timeTokens now n) = p r := by
  unfold Request.timeTokens
  split
  · rfl
  · dsimp only
    split
    · exact h _ _ _
    · exact h _ _ _

/-- The state with the records of a group written and PRODUCER moved on. -/
def State.groupWritten (s : State) (r : Request) (k : Nat) (x : Ring) (g : PubGroup) : State :=
  (((s.writeRecords r x x.producer r.published (r.recordsOf g)).hostPut x.addr 8
    (x.producer + (r.recordsOf g).length)).setRing k (some { x with producer := x.producer + (r.recordsOf g).length })
    ).iodEvent r.kerf 0x205 0 r.tent (r.recordsOf g).length

/-- The request with its oldest group published. -/
def Request.groupDone (q : Request) (now : Nat) (g : PubGroup) (gs : List PubGroup) (n : Nat) : Request :=
  { (q.timeTokens now g.tokens) with
    groups := gs, published := q.published + n, history := q.history ++ [{ g with covered := true, tokens := 0 }] }

theorem State.publishGroup_eq (s : State) (r : Request) (k : Nat) (x : Ring) (g : PubGroup) (gs : List PubGroup) :
    s.publishGroup r k x g gs =
      (let u := s.groupWritten r k x g
       let v := u.modReq r.seq fun q => q.groupDone u.liveTick g gs (r.recordsOf g).length
       if g.final = true then v.finalPublished r k g else v) := rfl

theorem State.ring_groupWritten (s : State) (r : Request) (k : Nat) (x : Ring) (g : PubGroup) :
    (s.groupWritten r k x g).ring k = some { x with producer := x.producer + g.records.length } := by
  unfold State.groupWritten
  rw [State.ring_of_adm (State.iodEvent_adm ..), State.ring_setRing_same, Request.length_recordsOf]

theorem State.req_groupWritten (s : State) (r : Request) (k : Nat) (x : Ring) (g : PubGroup) (n : Nat) :
    (s.groupWritten r k x g).req n = s.req n := by
  unfold State.groupWritten
  rw [State.req_of_adm (State.iodEvent_adm ..)]
  exact State.writeRecords_kept (·.req n) (fun _ _ _ => rfl) _ _ _ _ _ _

/-- A published FINAL record frees the ring and marks its request. -/
theorem State.finalPublished_frees {s : State} {r q : Request} {k : Nat} {x : Ring} (hq : s.req r.seq = some q)
    (hx : s.ring k = some x) (g : PubGroup) :
    (s.finalPublished r k g).ring k = some { x with bound := 0, stalled := none } ∧
      (s.finalPublished r k g).req r.seq = some { q with finalDone := true, ring := none, waitFrom := none } := by
  unfold State.finalPublished
  dsimp only
  rw [hx]
  constructor
  · rw [State.modReq_ring, State.ring_of_adm (State.contribute_adm ..), State.ring_of_adm (State.trace_adm ..)]
    exact State.ring_setRing_same ..
  · refine State.req_modReq_of_req ?_ _
    rw [State.req_contribute, State.req_trace]
    exact hq

/-- A published group moves PRODUCER by its records and leaves its request, and a FINAL one frees the ring. -/
theorem State.publishGroup_publishes {s : State} {r : Request} {k : Nat} {x : Ring} (hr : s.req r.seq = some r)
    (g : PubGroup) (gs : List PubGroup) : ∃ z p, (s.publishGroup r k x g gs).ring k = some z ∧
      z.consumer = x.consumer ∧ z.producer = x.producer + g.records.length ∧ (x.stalled = none → z.stalled = none) ∧
      z.bound = (if g.final = true then 0 else x.bound) ∧ (s.publishGroup r k x g gs).req r.seq = some p ∧
      p.groups = gs ∧ p.published = r.published + g.records.length ∧ p.finalDone = (r.finalDone || g.final) := by
  rw [State.publishGroup_eq]
  extract_lets u v
  have hu : u.req r.seq = some r := (State.req_groupWritten ..).trans hr
  have hv : v.req r.seq = some _ := State.req_modReq_of_req hu _
  have ring : v.ring k = some _ := (State.modReq_ring ..).trans (State.ring_groupWritten ..)
  have done : (r.timeTokens u.liveTick g.tokens).finalDone = r.finalDone :=
    Request.timeTokens_kept Request.finalDone (fun _ _ _ => rfl) r _ _
  have records : r.published + (r.recordsOf g).length = r.published + g.records.length := by
    rw [Request.length_recordsOf]
  by_cases final : g.final = true
  · obtain ⟨freed, marked⟩ := State.finalPublished_frees hv ring g
    rw [if_pos final, if_pos final]
    exact ⟨_, _, freed, rfl, rfl, fun _ => rfl, rfl, marked, rfl, records, by rw [final, Bool.or_true]⟩
  · rw [if_neg final, if_neg final]
    exact ⟨_, _, ring, rfl, rfl, id, rfl, hv, rfl, records, by
      rw [Bool.not_eq_true] at final
      rw [final, Bool.or_false]
      exact done⟩

/-- The oldest group of request `n` may be published into ring `k`, whose CONSUMER reads as `c`. -/
structure State.Publishes (s : State) (n : Nat) (r : Request) (g : PubGroup) (gs : List PubGroup) (k : Nat) (x : Ring)
    (c : Nat) : Prop where
  req : s.req n = some r
  groups : r.groups = g :: gs
  bound : r.ring = some k
  ready : s.groupReady g = true
  resumed : r.recovered = false ∨ r.resumed = true
  free : s.blocked (islKerf r.kerf) = false
  ring : s.ring k = some x
  consumer : takeConsumer x.producer x.consumer x.log2 (s.hostNum (x.addr + 8) 8) = (c, false)

section
variable {s : State} {n : Nat} {r : Request} {g : PubGroup} {gs : List PubGroup} {k : Nat} {x : Ring} {c : Nat}

/-- Ring `k` with CONSUMER taken. -/
def State.polled (s : State) (k : Nat) (x : Ring) (c : Nat) : State := s.setRing k (some { x with consumer := c })

/-- The group goes into ring `k`, as request and ring stand. -/
def State.publishInto (s : State) (n k : Nat) (g : PubGroup) (gs : List PubGroup) : State :=
  match s.req n, s.ring k with
  | some r, some x => s.publishGroup r k x g gs
  | _, _ => s

theorem State.publishInto_of {u : State} {q : Request} {z : Ring} (hq : u.req n = some q) (hz : u.ring k = some z)
    (g : PubGroup) (gs : List PubGroup) : u.publishInto n k g gs = u.publishGroup q k z g gs := by
  unfold State.publishInto
  rw [hq, hz]

theorem execRecordPublish_eq (h : s.Publishes n r g gs k x c) : execRecordPublish n s =
    .next (if ({ x with consumer := c } : Ring).room g.records.length = true then
        ((s.polled k x c).stallEnd k).publishInto n k g gs
      else (s.polled k x c).stallBegin k { x with consumer := c }) := by
  have resumed : (r.recovered && !r.resumed) = false := by
    rcases h.resumed with fresh | resumed
    · rw [fresh, Bool.false_and]
    · rw [resumed, Bool.not_true, Bool.and_false]
  have polls : s.pollRing k = s.polled k x c := State.pollRing_valid h.ring h.consumer
  have polled : (s.polled k x c).ring k = some { x with consumer := c } := State.ring_setRing_same ..
  unfold execRecordPublish
  rw [h.req]
  dsimp only
  rw [h.groups, h.bound]
  dsimp only
  rw [if_neg (by simp [h.ready, resumed, h.free]), polls, polled]
  dsimp only
  rw [Request.length_recordsOf]
  unfold State.publishInto
  split
  · cases ((s.polled k x c).stallEnd k).req n with
    | none => rfl
    | some q => cases ((s.polled k x c).stallEnd k).ring k <;> rfl
  · rfl

/-- Where the ring has room, its stall ends and the group is published. -/
theorem execRecordPublish_room (h : s.Publishes n r g gs k x c)
    (room : ({ x with consumer := c } : Ring).room g.records.length = true) :
    ∃ ticks, ((s.polled k x c).stallEnd k).req n = some { r with gen := { r.gen with stallTicks := ticks } } ∧
      execRecordPublish n s = .next (((s.polled k x c).stallEnd k).publishGroup
        { r with gen := { r.gen with stallTicks := ticks } } k { x with consumer := c, stalled := none } g gs) := by
  have before : (s.polled k x c).req n = some r := h.req
  have polled : (s.polled k x c).ring k = some { x with consumer := c } := State.ring_setRing_same ..
  obtain ⟨ticks, there⟩ := State.req_stallEnd before k
  refine ⟨ticks, there, ?_⟩
  rw [execRecordPublish_eq h, if_pos room, State.publishInto_of there (State.ring_stallEnd polled)]

/-- Without room the request stalls. -/
theorem execRecordPublish_full (h : s.Publishes n r g gs k x c)
    (full : ¬ ({ x with consumer := c } : Ring).room g.records.length = true) :
    execRecordPublish n s = .next ((s.polled k x c).stallBegin k { x with consumer := c }) := by
  rw [execRecordPublish_eq h, if_neg full]

end

/-- A stall that begins, or goes on, leaves the requests alone, and the ring stalled. -/
theorem State.stallBegin_stalls {s : State} {k : Nat} {x : Ring} (h : s.ring k = some x) :
    ∃ z, (s.stallBegin k x).ring k = some z ∧ z.consumer = x.consumer ∧ z.producer = x.producer ∧
      z.stalled.isSome = true ∧ z.stalls = (if x.stalled.isSome = true then x.stalls else x.stalls + 1) ∧
      ∀ n, (s.stallBegin k x).req n = s.req n := by
  unfold State.stallBegin
  by_cases stalled : x.stalled.isSome = true
  · rw [if_pos stalled, if_pos stalled]
    exact ⟨x, h, rfl, rfl, stalled, rfl, fun _ => rfl⟩
  · rw [if_neg stalled, if_neg stalled]
    refine ⟨{ x with stalled := some s.liveTick, stalls := x.stalls + 1 }, ?_, rfl, rfl, rfl, rfl, fun n => ?_⟩
    · dsimp only
      split
      · rw [State.ring_of_adm (State.iodEvent_adm ..)]
        exact State.ring_setRing_same ..
      · exact State.ring_setRing_same ..
    · dsimp only
      split
      · rw [State.req_of_adm (State.iodEvent_adm ..)]
        rfl
      · rfl

/-! Cancels (R337, R410). -/

/-- The cancel has its outcome. -/
def State.cancelDecided (s : State) (n : Nat) (o : Nat) : State :=
  s.modAdm fun a => { a with cancels := a.cancels.map fun x => if x.seq = n then { x with outcome := some o } else x }

/-- The cancel's outcome has reached its target. -/
def State.cancelTold (s : State) (n : Nat) (c : Cancel) : State :=
  if s.cancelOutcome c = 1 then (s.cancelDecided n (s.cancelOutcome c)).modReq c.target (·.cancel c.stamp)
  else if s.cancelOutcome c = 0 then (s.cancelDecided n (s.cancelOutcome c)).modReq c.target (·.lateCancel c.stamp)
  else s.cancelDecided n (s.cancelOutcome c)

/-- The CANCEL record of an outcome. -/
def State.cancelRec (s : State) (n : Nat) (c : Cancel) (o : Nat) : JRec :=
  { tent := c.tent, cls := s.durability c.tent, epoch := s.ao.epoch, stamp := c.stamp, req := n
    pay := .cancel c.target o }

/-- Telling a cancel's outcome changes the cancels and the requests alone. -/
theorem State.cancelTold_kept {α : Type} (p : State → α)
    (hc : ∀ (s : State) (l : Admit → List Cancel), p (s.modAdm fun a => { a with cancels := l a }) = p s)
    (hq : ∀ s n r, p (State.setReq s n r) = p s) (s : State) (n : Nat) (c : Cancel) : p (s.cancelTold n c) = p s := by
  unfold State.cancelTold State.cancelDecided
  split
  · rw [State.modReq_kept p hq, hc]
  · split
    · rw [State.modReq_kept p hq, hc]
    · rw [hc]

theorem State.cancels_cancelTold (s : State) (n : Nat) (c : Cancel) : (s.cancelTold n c).dev.adm.cancels =
    s.dev.adm.cancels.map fun x => if x.seq = n then { x with outcome := some (s.cancelOutcome c) } else x := by
  unfold State.cancelTold
  split
  · rw [State.modReq_kept (·.dev.adm.cancels) (fun _ _ _ => rfl)]
    rfl
  · split
    · rw [State.modReq_kept (·.dev.adm.cancels) (fun _ _ _ => rfl)]
      rfl
    · rfl

/-- The island that decides a cancel: its target's Kerf unit, or the admission unit where there is none. -/
def State.cancelIsland (s : State) (c : Cancel) : Nat :=
  match s.req c.target with
  | some r => islKerf r.kerf
  | none => islAdmit

/-- A cancel's stamp and its target's end are settled. -/
def State.cancelDue (s : State) (c : Cancel) : Bool :=
  s.settled c.stamp && (match s.req c.target with
    | some r => (match r.ended with | some e => s.settled e.2 | none => true)
    | none => true)

theorem execCancelDecision_eq {s : State} {n : Nat} {c : Cancel}
    (hc : s.dev.adm.cancels.find? (·.seq == n) = some c) : execCancelDecision n s =
      if c.outcome.isSome ∨ !s.cancelDue c ∨ s.blocked (s.cancelIsland c) then .next s
      else .next ((s.cancelTold n c).sendJournal ((s.cancelTold n c).cancelRec n c (s.cancelOutcome c))) := by
  unfold execCancelDecision
  rw [hc]
  rfl

/-- A cancel that is settled, with its target's end, is decided, and its record goes to the journal. -/
theorem execCancelDecision_decides {s : State} {n : Nat} {c : Cancel}
    (hc : s.dev.adm.cancels.find? (·.seq == n) = some c) (hopen : c.outcome = none) (hstamp : s.settled c.stamp = true)
    (hend : ∀ r e, s.req c.target = some r → r.ended = some e → s.settled e.2 = true)
    (hkerf : ∀ r, s.req c.target = some r → s.blocked (islKerf r.kerf) = false)
    (hadm : s.req c.target = none → s.blocked islAdmit = false) :
    execCancelDecision n s =
      .next ((s.cancelTold n c).sendJournal ((s.cancelTold n c).cancelRec n c (s.cancelOutcome c))) := by
  have due : s.cancelDue c = true := by
    unfold State.cancelDue
    rw [hstamp, Bool.true_and]
    cases htarget : s.req c.target with
    | none => rfl
    | some r =>
      dsimp only
      cases hended : r.ended with
      | none => rfl
      | some e => exact hend r e htarget hended
  have free : s.blocked (s.cancelIsland c) = false := by
    unfold State.cancelIsland
    cases htarget : s.req c.target with
    | none => exact hadm htarget
    | some r => exact hkerf r htarget
  rw [execCancelDecision_eq hc, if_neg (by simp [hopen, due, free])]

/-! The obligation. -/

/-- Settles O47, command by command. RINGS_MAX refuses a registration by R381, and of several reasons the first of RANGE,
OVERLAP and OCCUPIED is told. -/
theorem ringsAndPublication : Obligations.RingsAndPublication := by
  unfold Obligations.RingsAndPublication
  refine ⟨?register, ?unregister, ?read, ?poll, ?publish, ?cancel⟩
  case register =>
    intro s k n l hk hn
    refine ⟨_, execRingRegister_eq s l hk hn, ?_⟩
    dsimp only
    split_ifs
    · rfl
    · rfl
    · rfl
    · exact s.ringTaken_takes k _
  case unregister =>
    intro s k
    cases h : s.ring k with
    | none => exact ⟨_, execRingUnregister_none h, rfl⟩
    | some r =>
      refine ⟨_, execRingUnregister_some h, ?_⟩
      dsimp only
      split
      · exact ⟨State.ring_setRing_same s k none, State.strmResult_result _ (by decide)⟩
      · rfl
  case read =>
    intro s k r h
    exact ⟨_, execRingRead_some h, s.ringShown_fields r⟩
  case poll =>
    intro s k r c h hc
    refine ⟨_, execRingConsumerPoll_valid h hc, ?_⟩
    split
    · exact State.ring_stallEnd (State.ring_setRing_same ..)
    · exact State.ring_setRing_same ..
  case publish =>
    intro s n r g gs k x c hr hseq hgroups hring hready hresumed hb hx hc
    subst hseq
    have h : s.Publishes r.seq r g gs k x c := ⟨hr, hgroups, hring, hready, hresumed, hb, hx, hc⟩
    by_cases room : ({ x with consumer := c } : Ring).room g.records.length = true
    · obtain ⟨ticks, there, run⟩ := execRecordPublish_room h room
      obtain ⟨z, p, ring, consumer, producer, stalled, bound, req, groups, published, done⟩ :=
        State.publishGroup_publishes (r := { r with gen := { r.gen with stallTicks := ticks } })
          (x := { x with consumer := c, stalled := none }) (k := k) there g gs
      refine ⟨_, z, run, ring, consumer, ?_⟩
      rw [if_pos room]
      exact ⟨producer, stalled rfl, bound, p, req, groups, published, done⟩
    · obtain ⟨z, ring, consumer, producer, stalled, stalls, reqs⟩ :=
        State.stallBegin_stalls (s := s.polled k x c) (State.ring_setRing_same ..)
      refine ⟨_, z, execRecordPublish_full h room, ring, consumer, ?_⟩
      rw [if_neg room]
      exact ⟨producer, stalled, stalls, (reqs _).trans hr⟩
  case cancel =>
    intro s n c hc hopen hstamp hend hkerf hadm
    refine ⟨_, (s.cancelTold n c).cancelRec n c (s.cancelOutcome c),
      execCancelDecision_decides hc hopen hstamp hend hkerf hadm, ?_, rfl, rfl, rfl, ?_, fun hone r hr => ?_⟩
    · change (s.cancelTold n c).dev.jrnl.sent ++ _ = _
      rw [State.cancelTold_kept (·.dev.jrnl) (fun _ _ => rfl) (fun _ _ _ => rfl)]
    · exact s.cancels_cancelTold n c
    · change (s.cancelTold n c).req c.target = _
      rw [State.cancelTold, if_pos hone]
      exact State.req_modReq_of_req (s := s.cancelDecided n _) hr _

end Sys2Proof.Machine
end

section
/-! SUPPORT. Step loops: the boundary of a step (R341, R342), draws (R356, R359 to R361), the commit of a sequence's part and
the close of the step (R342, R343). -/

namespace Sys2Proof.Machine

/-! Loops and the parts of their steps. -/

@[simp] theorem State.genLoop_setLoop_same (s : State) (t k : Nat) (l : GenLoop) : (s.setLoop t k l).genLoop t k = l :=
  SMap.get_set_same ..
@[simp] theorem State.genLoop_trace (s : State) (isl ty tent a b fl t k : Nat) :
    (s.trace isl ty tent a b fl).genLoop t k = s.genLoop t k :=
  State.trace_kept (·.genLoop t k) (fun _ _ _ => rfl) (fun _ _ => rfl) s _ _ _ _ _ _

theorem State.stepSeq_of_loops {s u : State} (h : u.dev.text.loops = s.dev.text.loops) (r : Request) :
    u.stepSeq r = s.stepSeq r := by
  unfold State.stepSeq State.genLoop
  rw [h]

theorem State.addFld_text (s : State) (o : Nat) (f : Nat × Nat) (n : Nat) : (s.addFld o f n).dev.text = s.dev.text := by
  rw [State.addFld, State.setFld_text]

/-- A part of a step that takes the place of a request's part is that request's part. -/
theorem State.stepSeq_setStepSeq {s : State} {r : Request} {x : StepSeq} (h : s.stepSeq r = some x) {y : StepSeq}
    (hy : y.seq = x.seq) : (s.setStepSeq r y).stepSeq r = some y := by
  unfold State.stepSeq at h
  cases hstep : (s.genLoop r.tent (dModel r.desc)).step with
  | none =>
    rw [hstep] at h
    cases h
  | some p =>
    rw [hstep] at h
    dsimp only at h
    have hseq : x.seq = r.seq := by simpa using List.find?_some h
    have hy' : y.seq = r.seq := hy.trans hseq
    have same : ((fun z : StepSeq => z.seq == r.seq) ∘ fun z => if z.seq = y.seq then y else z) =
        fun z => z.seq == r.seq := by
      funext z
      by_cases own : z.seq = y.seq
      · simp [own]
      · simp [own]
    unfold State.setStepSeq State.stepSeq
    dsimp only
    rw [State.genLoop_setLoop_same, hstep, Option.map_some]
    dsimp only
    rw [List.find?_map, same, h, Option.map_some, if_pos hy.symm]

/-! The boundary (R341). -/

/-- The step that a loop's plan opens. -/
def State.plannedStep (s : State) (number : Nat) (plan : List StepSeq) : GenStep :=
  { number := number, began := s.liveTick, positions := s.positions plan, seqs := plan }

/-- The step of a plan is open. -/
def State.stepOpened (s : State) (t k : Nat) (l : GenLoop) (lead : Nat) (plan : List StepSeq) : State :=
  (s.setLoop t k { l with step := some (s.plannedStep l.steps plan) }).trace lead 0x20 t
    ((s.loopReqs t k).filter (·.joined)).length l.steps

theorem State.genLoop_stepOpened (s : State) (t k : Nat) (l : GenLoop) (lead : Nat) (plan : List StepSeq) :
    (s.stepOpened t k l lead plan).genLoop t k = { l with step := some (s.plannedStep l.steps plan) } := by
  rw [State.stepOpened, State.genLoop_trace, State.genLoop_setLoop_same]

/-- A boundary opens the step of what its plans leave, and opens none where they leave nothing. -/
theorem execStepBoundary_plans {s s1 s2 : State} {n k : Nat} {risk : List Nat} {cuts : List (Nat × Nat)}
    {p1 p2 : List StepSeq} (hn : n < 64) (hidle : (s.genLoop n k).step = none) (hb : s.blocked (s.leadSeq n) = false)
    (hrunning : State.planRunning n risk (((sortBy (outranks risk) ((s.loopReqs n k).filter fun r => s.batched r)).filter
      (·.decoding)).map (·.seq)) s [] = (s1, p1))
    (hjoins : State.planJoins n risk cuts
      (sortBy (outranks risk) ((s1.loopReqs n k).filter fun r => s1.batched r && r.joins))
      (s1.fld (rGenCfg n) fGenCfgStepTokens * s1.fld (rGenCfg n) fGenCfgRiskSharePct / 100) s1 p1 = (s2, p2)) :
    execStepBoundary n k risk cuts s =
      .next (if p2 = [] then s2 else s2.stepOpened n k (s.genLoop n k) (s.leadSeq n) p2) := by
  unfold execStepBoundary
  dsimp only
  rw [if_neg (by simp [hn, hidle, hb])]
  simp only [hrunning, hjoins]
  split <;> rfl

/-! Draws (R356, R359 to R361). -/

/-- Freeing the slices of a context changes the slices alone. -/
theorem State.dropCtx_kept {α : Type} (p : State → α) (h : ∀ s b c x, p (State.setSlice s b c x) = p s) (s : State)
    (bays : List Nat) (ctx : Nat) : p (s.dropCtx bays ctx) = p s :=
  foldl_kept p _ (fun _ _ => h _ _ _ _) bays s

/-- A draft model's draw whose logits are clean. -/
structure State.Drafts (s : State) (n ctx : Nat) (r : Request) (x : StepSeq) (ls : List W32) : Prop where
  req : s.req n = some r
  part : s.stepSeq r = some x
  open_ : r.ended = none
  undecided : x.decided = false
  depth : r.gen.drafts.length < x.depth
  closed : s.ctxClosed (s.tentBays r.tent) ctx = true
  free : s.blocked (islSampler r.home) = false
  logits : s.mergedLogits (s.tentBays r.tent) ctx r.gen.drafts.length (vSize (s.reqVocab r).image) = (ls, false)

/-- The draft model's distribution of its next position. -/
def State.draftDist (s : State) (r : Request) (ls : List W32) : Dist :=
  process (r.sampleArgs (r.gen.drafts.map (·.1))) none (s.free + vSize (s.reqVocab r).image) ls

/-- The draw is counted, its free values are used, and its context is free again. -/
def State.draftCounted (s : State) (r : Request) (ctx : Nat) (d : Dist) : State :=
  (({ s with free := s.free + 2 * vSize (s.reqVocab r).image } : State).dropCtx (s.tentBays r.tent) ctx).countDraws
    (if d.point.isSome then 0 else 1)

theorem State.req_draftCounted (s : State) (r : Request) (ctx : Nat) (d : Dist) (n : Nat) :
    (s.draftCounted r ctx d).req n = s.req n :=
  State.dropCtx_kept (·.req n) (fun _ _ _ _ => rfl) _ _ _

theorem execDraftDraw_draws {s : State} {n ctx : Nat} {r : Request} {x : StepSeq} {ls : List W32}
    (h : s.Drafts n ctx r x ls) {w : W32} {tok : Nat} (hdraw : (s.draftDist r ls).draw w = some tok) :
    execDraftDraw n ctx w s = .next ((s.draftCounted r ctx (s.draftDist r ls)).modReq n fun q =>
      { q with gen := { q.gen with drafts := q.gen.drafts ++ [(tok, (s.draftDist r ls).probs)] } }) := by
  have deep := h.depth
  unfold State.draftDist at hdraw ⊢
  unfold execDraftDraw
  simp only [h.req, h.part]
  rw [if_neg (by simp [h.open_, h.undecided, h.closed, h.free, deep])]
  simp only [h.logits, Bool.false_eq_true, if_false, hdraw]
  rfl

/-- What Kerf makes of the tokens that a pass emits. -/
def State.kerfOut (s : State) (r : Request) (ts : List Nat) : List (Nat × List Byte) × Detok × Option Nat :=
  kerfTokens (s.reqVocab r).image r.stop ((dFlags r.desc).testBit 0) (dMaxNew r.desc - r.gen.tokens.length)
    { held := r.gen.held, state := r.gen.stopState } ts

/-- A sequence's part decided by the tokens that Kerf keeps and a configuration of its grammar. -/
def StepSeq.decide_ (x : StepSeq) (out : List (Nat × List Byte) × Detok × Option Nat) (c : GConf) : StepSeq :=
  { x with
    decided := true, tokens := out.1.map (·.1), released := out.1, status := out.2.2, held := out.2.1.held
    stopState := out.2.1.state, guyState := c.state, guyStack := c.stack }

/-- The configuration that the kept tokens lead to: without a grammar the request's own. -/
def State.leadsTo (s : State) (r : Request) (ids : List Nat) (c : GConf) : Prop :=
  if r.gen.guy = none then c = r.gen.conf
  else ∃ i, s.gImage (r.grammar.getD 0) = .ok i ∧ s.gTokens i (s.reqVocab r).image r.gen.conf ids = .ok (some c)

/-- The state with a match of the stop automaton counted. -/
def State.stopCounted (s : State) (r : Request) (status : Option Nat) : State :=
  if status = some 2 then s.addFld (rKerfStatus r.kerf) fKerfStatusStopMatches 1 else s

theorem State.stopCounted_loops (s : State) (r : Request) (status : Option Nat) :
    (s.stopCounted r status).dev.text.loops = s.dev.text.loops := by
  unfold State.stopCounted
  split
  · rw [State.addFld_text]
  · rfl

theorem State.takeTokens_decides {s : State} {r : Request} {ts : List Nat} {c : GConf} (x : StepSeq)
    (hc : s.leadsTo r ((s.kerfOut r ts).1.map (·.1)) c) : s.takeTokens r x ts =
      (s.stopCounted r (s.kerfOut r ts).2.2).setStepSeq r (x.decide_ (s.kerfOut r ts) c) := by
  unfold State.leadsTo at hc
  unfold State.takeTokens
  dsimp only
  cases hguy : r.gen.guy with
  | none =>
    rw [hguy, if_pos rfl] at hc
    subst hc
    rfl
  | some g =>
    rw [hguy, if_neg (by simp)] at hc
    obtain ⟨i, himage, htokens⟩ := hc
    unfold State.kerfOut at htokens
    rw [if_neg (by simp)]
    simp only [himage, bind, Except.bind, htokens]
    rfl

/-- A draw of the sampler whose masks are in and whose logits are clean. -/
structure State.Samples (s : State) (n ctx : Nat) (r : Request) (x : StepSeq) (ds : List (Option Dist)) : Prop where
  req : s.req n = some r
  part : s.stepSeq r = some x
  open_ : r.ended = none
  draws : x.draws = true
  undecided : x.decided = false
  drafted : x.depth ≤ r.gen.drafts.length
  closed : s.ctxClosed (s.tentBays r.tent) ctx = true
  free : s.blocked (islSampler r.home) = false
  masks : ∀ j, j ≤ x.depth → r.maskAt j ≠ .wait
  dists : s.positionDists r ctx (vSize (s.reqVocab r).image) (x.depth + 1) 0 = (ds, false)

/-- The pass is counted, its free values are used, and its context is free again. -/
def State.passCounted (s : State) (r : Request) (x : StepSeq) (ctx draws emitted : Nat) (ds : List (Option Dist)) : State :=
  ((({ s with free := s.free + 2 * vSize (s.reqVocab r).image * (x.depth + 1) } : State).dropCtx (s.tentBays r.tent)
    ctx).countDraws draws).countDists r.tent emitted ds

theorem State.passCounted_loops (s : State) (r : Request) (x : StepSeq) (ctx draws emitted : Nat)
    (ds : List (Option Dist)) : (s.passCounted r x ctx draws emitted ds).dev.text.loops = s.dev.text.loops := by
  unfold State.passCounted State.countDists
  dsimp only
  rw [State.addFld_text, State.addFld_text]
  exact State.dropCtx_kept (·.dev.text.loops) (fun _ _ _ _ => rfl) _ _ _

theorem execSamplerDraw_draws {s : State} {n ctx : Nat} {r : Request} {x : StepSeq} {ds : List (Option Dist)}
    (h : s.Samples n ctx r x ds) (ws : List W32) : execSamplerDraw n ctx ws s =
      (let ts := verify r.greedy ds r.gen.drafts ws
       .next (((s.passCounted r x ctx ws.length ts.length ds).takeTokens r x ts).skipForm)) := by
  have drafted := h.drafted
  have masks : ((List.range (x.depth + 1)).any fun j => r.maskAt j == .wait) = false := by
    simpa [List.any_eq_false, Nat.lt_succ_iff] using h.masks
  unfold execSamplerDraw
  simp only [h.req, h.part]
  rw [if_neg (by simp [h.open_, h.draws, h.undecided, h.closed, h.free, drafted]), masks, if_neg Bool.false_ne_true]
  simp only [h.dists, Bool.false_eq_true, if_false]
  rfl

/-! Commit (R335, R342, R408). -/

/-- The end of a cut changes its request, the host region and the accounts alone. -/
theorem State.endCut_kept {α : Type} (p : State → α) (hq : ∀ s n r, p (State.setReq s n r) = p s)
    (hw : ∀ s a bs, p (State.hostWrite s a bs) = p s) (ha : ∀ s f, p (State.modAcct s f) = p s) (s : State) (n : Nat)
    (st : Stamp) : p (s.endCut n st) = p s := by
  unfold State.endCut
  split
  · rfl
  · split
    · rfl
    · exact (State.modReq_kept p hq _ _ _).trans (State.contribute_kept p hw ha _ _)

theorem State.journalTokens_kept {α : Type} (p : State → α) (h : ∀ s x, p (State.sendJournal s x) = p s) (s : State)
    (r : Request) (st : Stamp) (records : Nat) (ids : List Nat) : p (s.journalTokens r st records ids) = p s := by
  unfold State.journalTokens
  split
  · rfl
  · exact h _ _

/-- A step commit sends one TOKENS record, none for a VOLATILE tent (R410). -/
theorem State.length_sent_journalTokens (s : State) (r : Request) (st : Stamp) (records : Nat) (ids : List Nat) :
    (s.journalTokens r st records ids).dev.jrnl.sent.length =
      s.dev.jrnl.sent.length + if s.durability r.tent = 0 then 0 else 1 := by
  unfold State.journalTokens
  split
  · rfl
  · exact List.length_append

/-- The stamp of a step commit. -/
def State.commitStamp (s : State) (r : Request) : Stamp := (s.originate (islSequencer r.home)).1

/-- The tokens of a step commit have gone to the journal. -/
def State.tokensSent (s : State) (r : Request) (x : StepSeq) : State :=
  (s.originate (islSequencer r.home)).2.journalTokens r (s.commitStamp r)
    (x.released.flatMap fun e => tokenRecords (s.commitStamp r).tick e.1 e.2).length x.tokens

/-- A sequence's part is committed, and the commit is traced. -/
def State.partCommitted (s : State) (n : Nat) (r : Request) (x : StepSeq) : State :=
  let u := ((s.tokensSent r x).setStepSeq r { x with committed := true }).traceAt (s.commitStamp r) 0x21 r.tent
    x.tokens.length n
  if r.legs.head? = some 7 then
    (u.trace (islSequencer r.home) 0x12 r.tent 7 n).trace (islSequencer r.home) 0x11 r.tent 8 n
  else u

/-- The request has taken the tokens of its part. -/
def State.tokensTaken (s : State) (n : Nat) (r : Request) (x : StepSeq) : State :=
  let u := s.partCommitted n r x
  (u.modReq n fun q => q.commitStep (s.commitStamp r) x (u.durability r.tent == 0) u.ao.tick).endCut n (s.commitStamp r)

/-- A step commit is complete: one that ends its request is traced, and lets go of the request's blocks. -/
def State.stepCommitted (s : State) (n : Nat) (r : Request) (x : StepSeq) : State :=
  if x.status.isSome then ((s.tokensTaken n r x).trace (islSequencer r.home) 0x12 r.tent 8 n).dropHolds n
  else s.tokensTaken n r x

theorem execStepCommit_commits {s : State} {n : Nat} {r : Request} {x : StepSeq} (hr : s.req n = some r)
    (hx : s.stepSeq r = some x) (hopen : r.ended = none) (hdecided : x.decided = true) (hnot : x.committed = false)
    (hb : s.blocked (islSequencer r.home) = false) : execStepCommit n s = .next (s.stepCommitted n r x) := by
  unfold execStepCommit
  simp only [hr, hx]
  rw [if_neg (by simp [hopen, hdecided, hnot, hb])]
  rfl

/-- Tracing the commit of a part changes an island's clock and the trace alone. -/
theorem State.partCommitted_kept {α : Type} (p : State → α) (hi : ∀ s n i, p (State.setIsl s n i) = p s)
    (ho : ∀ s f, p (State.modObs s f) = p s) (s : State) (n : Nat) (r : Request) (x : StepSeq) :
    p (s.partCommitted n r x) = p ((s.tokensSent r x).setStepSeq r { x with committed := true }) := by
  unfold State.partCommitted
  dsimp only
  split
  · rw [State.trace_kept p hi ho, State.trace_kept p hi ho, State.traceAt_kept p ho]
  · rw [State.traceAt_kept p ho]

/-- What a commit does to the end of its part stands when the commit is complete. -/
theorem State.stepCommitted_kept {α : Type} (p : State → α) (hi : ∀ s n i, p (State.setIsl s n i) = p s)
    (ho : ∀ s f, p (State.modObs s f) = p s) (hd : ∀ s n, p (State.dropHolds s n) = p s) (s : State) (n : Nat)
    (r : Request) (x : StepSeq) : p (s.stepCommitted n r x) = p (s.tokensTaken n r x) := by
  unfold State.stepCommitted
  split
  · rw [hd, State.trace_kept p hi ho]
  · rfl

theorem State.stepSeq_stepCommitted {s : State} {n : Nat} {r : Request} {x : StepSeq} (h : s.stepSeq r = some x) :
    (s.stepCommitted n r x).stepSeq r = some { x with committed := true } := by
  have sent : (s.tokensSent r x).stepSeq r = some x :=
    (State.journalTokens_kept (·.stepSeq r) (fun _ _ => rfl) _ _ _ _ _).trans h
  rw [State.stepCommitted_kept (·.stepSeq r) (fun _ _ _ => rfl) (fun _ _ => rfl) (fun _ _ => rfl), State.tokensTaken,
    State.endCut_kept (·.stepSeq r) (fun _ _ _ => rfl) (fun _ _ _ => rfl) (fun _ _ => rfl),
    State.modReq_kept (·.stepSeq r) (fun _ _ _ => rfl),
    State.partCommitted_kept (·.stepSeq r) (fun _ _ _ => rfl) (fun _ _ => rfl)]
  exact State.stepSeq_setStepSeq sent rfl

theorem State.length_sent_stepCommitted (s : State) (n : Nat) (r : Request) (x : StepSeq) :
    (s.stepCommitted n r x).dev.jrnl.sent.length =
      s.dev.jrnl.sent.length + if s.durability r.tent = 0 then 0 else 1 := by
  rw [State.stepCommitted_kept (·.dev.jrnl) (fun _ _ _ => rfl) (fun _ _ => rfl) (fun _ _ => rfl), State.tokensTaken,
    State.endCut_jrnl, State.modReq_jrnl,
    State.partCommitted_kept (·.dev.jrnl) (fun _ _ _ => rfl) (fun _ _ => rfl)]
  exact State.length_sent_journalTokens ..

/-- After a commit the request stands as its step leaves it, but for the ticks lost by a cut. -/
theorem State.req_stepCommitted {s : State} {n : Nat} {r : Request} (h : s.req n = some r) (x : StepSeq) :
    ∃ covered now lost cut, (s.stepCommitted n r x).req n =
      some { r.commitStep (s.commitStamp r) x covered now with preemptTicks := lost, cutSince := cut } := by
  have part : (s.partCommitted n r x).req n = some r := by
    rw [State.partCommitted_kept (·.req n) (fun _ _ _ => rfl) (fun _ _ => rfl)]
    exact (State.journalTokens_kept (·.req n) (fun _ _ => rfl) _ _ _ _ _).trans h
  rw [State.stepCommitted_kept (·.req n) (fun _ _ _ => rfl) (fun _ _ => rfl) (fun _ _ => rfl)]
  obtain ⟨lost, cut, there⟩ := State.req_endCut (State.req_modReq_of_req part _) (s.commitStamp r)
  exact ⟨_, _, lost, cut, there⟩

/-- An end leaves the tokens of the request. -/
theorem Request.tokens_end (r : Request) (status : Nat) (st : Stamp) : (r.end_ status st).gen.tokens = r.gen.tokens := by
  unfold Request.end_
  dsimp only
  split_ifs
  · rfl
  · rfl
  · rfl

section
variable (r : Request) (st : Stamp) (x : StepSeq) (covered : Bool) (now : Nat)

/-- The request with the tokens of its part, their records as one group, and its PREFILL done. -/
def Request.stepTaken : Request :=
  { r with
    gen := { r.gen with tokens := r.gen.tokens ++ x.tokens, running := true, held := x.held, stopState := x.stopState
                        guyState := x.guyState, guyStack := x.guyStack, drafts := [], masks := []
                        prefilled := if r.legs.head? == some 7 then r.target.length else r.gen.prefilled }
    groups := r.groups ++ [{ records := x.released.flatMap fun e => tokenRecords st.tick e.1 e.2, stamp := st
                             covered := covered, tokens := x.tokens.length }]
    legs := if r.legs.head? == some 7 then r.legs.drop 1 else r.legs
    legTick := if r.legs.head? == some 7 then now else r.legTick }

theorem Request.commitStep_none (h : x.status = none) : r.commitStep st x covered now = r.stepTaken st x covered now := by
  unfold Request.commitStep
  rw [h]
  rfl

theorem Request.commitStep_some {e : Nat} (h : x.status = some e) :
    r.commitStep st x covered now = (r.stepTaken st x covered now).end_ e st := by
  unfold Request.commitStep
  rw [h]
  rfl

/-- A commit adds the tokens of its part. -/
theorem Request.tokens_commitStep : (r.commitStep st x covered now).gen.tokens = r.gen.tokens ++ x.tokens := by
  cases h : x.status with
  | none =>
    rw [r.commitStep_none st x covered now h]
    rfl
  | some e =>
    rw [r.commitStep_some st x covered now h]
    exact Request.tokens_end ..

/-- A request that has not ended ends where the tokens of its part end it. -/
theorem Request.ended_commitStep (hopen : r.ended = none) (hclosing : r.closing = false) :
    (r.commitStep st x covered now).ended = x.status.map fun e => (e, st) := by
  cases h : x.status with
  | none =>
    rw [r.commitStep_none st x covered now h]
    exact hopen
  | some e =>
    rw [r.commitStep_some st x covered now h]
    exact (Request.end_open (r.stepTaken st x covered now) e st hopen hclosing).1

/-- Where they do not, the request runs on, its PREFILL done, and the records of the tokens form one group. -/
theorem Request.commitStep_runs (h : x.status = none) :
    (r.commitStep st x covered now).legs = (if r.legs.head? = some 7 then r.legs.drop 1 else r.legs) ∧
      (r.commitStep st x covered now).gen.running = true ∧
      ∃ g, (r.commitStep st x covered now).groups = r.groups ++ [g] ∧ g.stamp = st ∧ g.tokens = x.tokens.length ∧
        g.records = x.released.flatMap fun e => tokenRecords st.tick e.1 e.2 := by
  rw [r.commitStep_none st x covered now h]
  refine ⟨?_, rfl, _, rfl, rfl, rfl, rfl⟩
  unfold Request.stepTaken
  simp only [beq_iff_eq]

end

/-! Close (R343). -/

/-- A part that draws is still to commit for a request that has not ended. -/
def State.partOpen (s : State) (x : StepSeq) : Bool :=
  x.draws && !x.committed && (match s.req x.seq with
    | some r => r.ended.isNone
    | none => false)

theorem State.partOpen_of_done {s : State} {x : StepSeq}
    (h : x.draws = true → x.committed = true ∨ ∀ r, s.req x.seq = some r → r.ended.isSome = true) :
    s.partOpen x = false := by
  unfold State.partOpen
  cases hdraws : x.draws with
  | false => rfl
  | true =>
    rcases h hdraws with committed | ended
    · simp [committed]
    · cases hr : s.req x.seq with
      | none => simp
      | some r => simp [ended r hr]

/-- The step of a loop whose every drawing part is committed, or its request ended, closes. -/
theorem execStepClose_closes {s : State} {n k : Nat} {p : GenStep} (hp : (s.genLoop n k).step = some p)
    (hb : s.blocked (s.leadSeq n) = false)
    (hdone : ∀ x ∈ p.seqs, x.draws = true → x.committed = true ∨ ∀ r, s.req x.seq = some r → r.ended.isSome = true) :
    ∃ u : State, execStepClose n k s =
      .next (u.setLoop n k { step := none, steps := (s.genLoop n k).steps + 1 }) := by
  have closed : (p.seqs.any s.partOpen || s.blocked (s.leadSeq n)) = false := by
    rw [hb, Bool.or_false]
    exact List.any_eq_false.2 fun x hx => by simp [State.partOpen_of_done (hdone x hx)]
  unfold execStepClose
  simp only [hp]
  refine ⟨_, if_neg (c := (p.seqs.any s.partOpen || s.blocked (s.leadSeq n)) = true) ?_⟩
  rw [closed]
  exact Bool.false_ne_true

/-! The obligation. -/

/-- Settles O48, command by command. The records of the tokens of one step commit form one group (log entry 56). -/
theorem stepsDrawAndCommit : Obligations.StepsDrawAndCommit := by
  unfold Obligations.StepsDrawAndCommit
  refine ⟨?boundary, ?draft, ?draw, ?commit, ?close⟩
  case boundary =>
    intro s n k risk cuts s1 p1 s2 p2 hn hidle hb hrunning hjoins
    refine ⟨_, execStepBoundary_plans hn hidle hb hrunning hjoins, ?_⟩
    split
    · rfl
    · exact s2.genLoop_stepOpened n k _ _ p2
  case draft =>
    intro s n ctx w r x ls tok hr hx hopen hundecided hdepth hclosed hb hlogits
    dsimp only
    intro hdraw
    have h : s.Drafts n ctx r x ls := ⟨hr, hx, hopen, hundecided, hdepth, hclosed, hb, hlogits⟩
    exact ⟨_, execDraftDraw_draws h hdraw, State.req_modReq_of_req ((State.req_draftCounted ..).trans hr) _⟩
  case draw =>
    intro s n ctx ws r x ds hr hx hopen hdraws hundecided hdrafted hclosed hb hmasks hdists
    dsimp only
    intro c hc
    have h : s.Samples n ctx r x ds := ⟨hr, hx, hopen, hdraws, hundecided, hdrafted, hclosed, hb, hmasks, hdists⟩
    refine ⟨_, execSamplerDraw_draws h ws, ?_⟩
    have part (status : Option Nat) : ((s.passCounted r x ctx ws.length (verify r.greedy ds r.gen.drafts ws).length
        ds).stopCounted r status).stepSeq r = some x :=
      (State.stepSeq_of_loops ((State.stopCounted_loops ..).trans (State.passCounted_loops ..)) r).trans hx
    exact (congrArg (fun u : State => u.skipForm.stepSeq r) (State.takeTokens_decides x hc)).trans
      (State.stepSeq_setStepSeq (part _) rfl)
  case commit =>
    intro s n r x hr hx hopen hclosing hdecided hnot hb
    obtain ⟨covered, now, lost, cut, there⟩ := State.req_stepCommitted hr x
    refine ⟨_, _, execStepCommit_commits hr hx hopen hdecided hnot hb, there, ?_, ?_, State.stepSeq_stepCommitted hx,
      fun hstatus => ?_, s.length_sent_stepCommitted n r x⟩
    · exact r.tokens_commitStep ..
    · exact r.ended_commitStep _ x covered now hopen hclosing
    · exact r.commitStep_runs _ x covered now hstatus
  case close =>
    intro s n k p hp hb hdone
    obtain ⟨u, closes⟩ := execStepClose_closes hp hb hdone
    exact ⟨_, closes, State.genLoop_setLoop_same ..⟩

end Sys2Proof.Machine
end

section
/-! SUPPORT. Fixed batches (R350) and the versions of an adapter slot (R366 to R368, R370). -/

namespace Sys2Proof.Machine

/-! The queue of batch descriptors and the start of the one at its front (R350). -/

/-- A descriptor joins a queue that has room. -/
theorem execBatchDescriptorWrite_joins {s : State} {n : Nat} (v : W64) (hn : n < 64) (hstate : s.tentState n ≠ 0)
    (hroom : (s.batchQueue n).length < 4) :
    execBatchDescriptorWrite n v s = .next (s.modText fun x => { x with
      batches := SMap.set (fun _ => []) x.batches n (s.batchQueue n ++ [getBits v 6 50 * 64]) }) := by
  unfold execBatchDescriptorWrite
  rw [if_neg (Nat.not_le.2 hn), if_neg hstate, if_neg (Nat.not_le.2 hroom)]

theorem State.hostNum_addFld (s : State) (off : Nat) (f : Nat × Nat) (k a n : Nat) :
    (s.addFld off f k).hostNum a n = s.hostNum a n := by
  unfold State.hostNum
  rw [State.addFld_mem]

/-- The MODEL_SLOT that the descriptor at `a` names. -/
def State.batchSlot (s : State) (a : Nat) : Nat := s.hostNum (a + 4) 2

/-- The requests that the descriptor at `a` names, in order. -/
def State.batchNames (s : State) (a : Nat) : List Nat :=
  (List.range (s.hostNum (a + 2) 2)).map fun i => s.hostNum (a + 0x40 + 8 * i) 8

/-- The descriptor at `a` is well formed, its slot runs no batch, and every request it names is at PREFILL or ended. -/
structure State.BatchReady (s : State) (n a : Nat) : Prop where
  inHost : s.inHost a (64 + 8 * s.hostNum (a + 2) 2) = true
  format : s.hostNum a 2 = 1
  nonempty : 1 ≤ s.hostNum (a + 2) 2
  most : s.hostNum (a + 2) 2 ≤ 256
  idle : ∀ b ∈ s.liveBatches n, b.slot ≠ s.batchSlot a
  prefilled : ∀ m ∈ s.batchNames a, s.atPrefill m = true

/-- The batch of the descriptor at `a`: its members are the requests named that are not skipped. -/
def State.batchAt (s : State) (n a : Nat) : Batch :=
  ⟨s.batchSlot a, BitVec.ofNat 64 (s.hostNum (a + 8) 8), s.batchMembers n (s.batchSlot a) [] (s.batchNames a)⟩

/-- The batch of the descriptor at `a` runs, where it has a member, and the descriptors `as` stay queued. -/
def State.batchStarted (s : State) (n a : Nat) (as : List Nat) : State :=
  let b := s.batchAt n a
  let skipped := (s.batchNames a).length - b.members.length
  (s.addFld (rGenStatus n) fGenStatusBatchSkipped skipped).modText fun x => { x with
    batches := SMap.set (fun _ => []) x.batches n as, named := x.named ++ b.members
    running := SMap.set (fun _ => []) x.running n
      (if b.members = [] then s.liveBatches n else s.liveBatches n ++ [b]) }

theorem execBatchStart_starts {s : State} {n a : Nat} {as : List Nat} (hqueue : s.batchQueue n = a :: as)
    (hb : s.blocked (s.leadSeq n) = false) (h : s.BatchReady n a) :
    execBatchStart n s = .next (s.batchStarted n a as) := by
  have ok : (s.inHost a (64 + 8 * s.hostNum (a + 2) 2) && s.hostNum a 2 == 1 && decide (1 ≤ s.hostNum (a + 2) 2) &&
      decide (s.hostNum (a + 2) 2 ≤ 256)) = true := by
    simp [h.inHost, h.format, h.nonempty, h.most]
  have idle : ((s.liveBatches n).any fun b => b.slot == s.hostNum (a + 4) 2) = false := by
    simpa [List.any_eq_false, State.batchSlot] using h.idle
  have prefilled : (s.batchNames a).all s.atPrefill = true := List.all_eq_true.2 h.prefilled
  unfold State.batchNames at prefilled
  unfold execBatchStart
  rw [hqueue]
  dsimp only
  rw [ok, if_pos rfl, if_neg (by simp [idle, prefilled, hb]), State.hostNum_addFld]
  rfl

theorem State.batchQueue_batchStarted (s : State) (n a : Nat) (as : List Nat) :
    (s.batchStarted n a as).batchQueue n = as :=
  SMap.get_set_same ..

/-- The requests that are not skipped are named from the start of their batch. -/
theorem State.named_batchStarted (s : State) (n a : Nat) (as : List Nat) :
    (s.batchStarted n a as).dev.text.named = s.dev.text.named ++ (s.batchAt n a).members := by
  unfold State.batchStarted
  rw [State.modText_dev, State.addFld_text]

/-- A batch that has a member runs. -/
theorem State.running_batchStarted (s : State) (n a : Nat) (as : List Nat)
    (h : (s.batchAt n a).members ≠ []) :
    s.batchAt n a ∈ SMap.get (fun _ => []) (s.batchStarted n a as).dev.text.running n := by
  unfold State.batchStarted
  dsimp only [State.modText]
  rw [SMap.get_set_same, if_neg h]
  exact List.mem_append_right _ List.mem_cons_self

/-! The versions of an adapter slot. -/

@[simp] theorem State.adapters_setAdapters_same (s : State) (t a : Nat) (vs : List AdapterVer) :
    (s.setAdapters t a vs).adapters t a = vs :=
  SMap.get_set_same ..

theorem State.adapters_of_text {s u : State} (h : u.dev.text = s.dev.text) (t a : Nat) :
    u.adapters t a = s.adapters t a := by
  unfold State.adapters
  rw [h]

/-- Versions that are no longer current: the ones that were are ended at the stamp `st`. -/
def endVersions (st : Stamp) (vs : List AdapterVer) : List AdapterVer :=
  vs.map fun x => { x with ended := some (x.ended.getD st) }

theorem endVersions_ended {st : Stamp} {vs : List AdapterVer} {y : AdapterVer} (h : y ∈ endVersions st vs) :
    y.ended.isSome = true := by
  obtain ⟨x, -, rfl⟩ := List.mem_map.1 h
  rfl

/-- Where every version is ended, none is current. -/
theorem currentVersion_eq_none {vs : List AdapterVer} (h : ∀ y ∈ vs, y.ended.isSome = true) :
    currentVersion vs = none :=
  List.find?_eq_none.2 fun y hy => by simp [Option.isSome_iff_ne_none.1 (h y hy)]

/-- The versions kept are versions of the slot. -/
theorem State.mem_of_mem_keptVersions {s : State} {t a : Nat} {y : AdapterVer} (h : y ∈ s.keptVersions t a) :
    y ∈ s.adapters t a :=
  (List.mem_filter.1 h).1

/-! RESULT, VERSION and DRAINED (R370). -/

@[simp] theorem State.text_adapterResult (s : State) (result version : Nat) :
    (s.adapterResult result version).dev.text = s.dev.text := by
  rw [State.adapterResult, State.setFld_text, State.setFld_text]

theorem State.result_adapterResult (s : State) {result : Nat} (version : Nat) (h : result < 8) :
    (s.adapterResult result version).fld rGenAdapterStatus fGenAdapterStatusResult = result := by
  rw [State.adapterResult, State.fld_setFld_apart _ _ _ _ _ (by decide) (by decide),
    State.fld_setFld_same _ _ _ _ (by decide)]
  exact Nat.mod_eq_of_lt h

theorem State.version_adapterResult (s : State) (result version : Nat) :
    (s.adapterResult result version).fld rGenAdapterStatus fGenAdapterStatusVersion = version % 2 ^ 32 :=
  State.fld_setFld_same _ _ _ _ (by decide)

theorem State.drained_adapterResult (s : State) (result version : Nat) :
    (s.adapterResult result version).flag rGenAdapterStatus fGenAdapterStatusDrained =
      s.flag rGenAdapterStatus fGenAdapterStatusDrained := by
  rw [State.adapterResult, State.flag_setFld_apart _ _ _ _ _ (by decide) (by decide),
    State.flag_setFld_apart _ _ _ _ _ (by decide) (by decide)]

/-! INSTALL (R366). -/

/-- The address that GEN_ADAPTER_ADDR gives. -/
def State.adapterAddr (s : State) : Nat := s.fld rGenAdapterAddr fGenAdapterAddrAddr * 64

/-- The number of a slot's next version. -/
def State.nextVersion (s : State) (t a : Nat) : Nat := SMap.get (fun _ => 0) s.dev.text.lastVersion (1024 * t + a) + 1

/-- The version that an image of header `h` at `addr` becomes. -/
def State.newVersion (s : State) (t a addr : Nat) (h : List Byte) : AdapterVer :=
  { version := s.nextVersion t a, model := adapterModel h, image := addr, installed := (s.originate (s.leadSeq t)).1 }

/-- The new version is the slot's last, and the others that still hold requests are ended. -/
def State.adapterInstalled (s : State) (t a addr : Nat) (h : List Byte) : State :=
  let (st, u) := s.originate (s.leadSeq t)
  let u := u.setAdapters t a (endVersions st (u.keptVersions t a) ++ [s.newVersion t a addr h])
  (u.modText fun x => { x with
    lastVersion := SMap.set (fun _ => 0) x.lastVersion (1024 * t + a) (s.nextVersion t a) }).adapterResult 0
    (s.nextVersion t a)

theorem execAdapterInstall_busy {s : State} {n a : Nat} (hn : n < 64) (ha : a < 1024)
    (hb : s.blocked (s.leadSeq n) = false) (hheld : s.adapterDrained n a = false) :
    execAdapterInstall n a s = .next (s.adapterResult 4 0) := by
  unfold execAdapterInstall
  rw [if_neg (by simp [hn, ha, hb]), hheld]
  rfl

/-- An install whose header is read makes a version of it, or tells the check that failed. -/
theorem execAdapterInstall_reads {s s1 : State} {n a : Nat} {h : List Byte} (hn : n < 64) (ha : a < 1024)
    (hb : s.blocked (s.leadSeq n) = false) (hdrained : s.adapterDrained n a = true)
    (hread : s.unitRead n s.adapterAddr 64 = .ok (h, s1)) :
    execAdapterInstall n a s = .next (
      if s1.adapterCheck n s.adapterAddr h = 0 then s1.adapterInstalled n a s.adapterAddr h
      else s1.adapterResult (s1.adapterCheck n s.adapterAddr h) 0) := by
  unfold State.adapterAddr at hread
  unfold execAdapterInstall
  rw [if_neg (by simp [hn, ha, hb]), hdrained]
  dsimp only
  rw [hread]
  dsimp only
  by_cases passes : s1.adapterCheck n s.adapterAddr h = 0
  · rw [if_pos passes]
    exact if_neg (not_not_intro passes)
  · rw [if_neg passes]
    exact if_pos passes

theorem State.adapterCheck_le (s : State) (t a : Nat) (h : List Byte) : s.adapterCheck t a h ≤ 3 := by
  unfold State.adapterCheck
  dsimp only
  split
  · decide
  split
  · decide
  split
  · decide
  · decide
  · split <;> decide

theorem State.adapters_adapterInstalled (s : State) (t a addr : Nat) (h : List Byte) :
    (s.adapterInstalled t a addr h).adapters t a =
      endVersions (s.originate (s.leadSeq t)).1 ((s.originate (s.leadSeq t)).2.keptVersions t a) ++
        [s.newVersion t a addr h] :=
  (State.adapters_of_text (State.text_adapterResult ..) t a).trans (State.adapters_setAdapters_same ..)

/-- The last version of the slot is the new one, and any other is ended. -/
theorem State.adapterInstalled_last (s : State) (t a addr : Nat) (h : List Byte) :
    ((s.adapterInstalled t a addr h).adapters t a).getLast? = some (s.newVersion t a addr h) ∧
      ∀ y ∈ (s.adapterInstalled t a addr h).adapters t a, y ≠ s.newVersion t a addr h → y.ended.isSome = true := by
  rw [State.adapters_adapterInstalled]
  refine ⟨List.getLast?_concat .., fun y hy other => ?_⟩
  rcases List.mem_append.1 hy with old | new
  · exact endVersions_ended old
  · exact absurd (List.mem_singleton.1 new) other

/-! RETIRE (R368). -/

/-- The slot's versions are ended, and those that still hold requests kept. -/
def State.adapterRetired (s : State) (t a : Nat) : State :=
  let (st, u) := s.originate (s.leadSeq t)
  let u := u.setAdapters t a (endVersions st (u.adapters t a))
  (u.setAdapters t a (u.keptVersions t a)).adapterResult 0 0

theorem execAdapterRetire_eq {s : State} {n a : Nat} (hn : n < 64) (ha : a < 1024)
    (hb : s.blocked (s.leadSeq n) = false) :
    execAdapterRetire n a s = .next (if (currentVersion (s.adapters n a)).isSome then s.adapterRetired n a
      else s.adapterResult 5 0) := by
  unfold execAdapterRetire
  rw [if_neg (by simp [hn, ha, hb])]
  cases currentVersion (s.adapters n a) with
  | none => rfl
  | some v => rfl

theorem State.currentVersion_adapterRetired (s : State) (t a : Nat) :
    currentVersion ((s.adapterRetired t a).adapters t a) = none := by
  have kept : (s.adapterRetired t a).adapters t a = ((s.originate (s.leadSeq t)).2.setAdapters t a
      (endVersions (s.originate (s.leadSeq t)).1 ((s.originate (s.leadSeq t)).2.adapters t a))).keptVersions t a :=
    (State.adapters_of_text (State.text_adapterResult ..) t a).trans (State.adapters_setAdapters_same ..)
  refine currentVersion_eq_none fun y hy => ?_
  rw [kept] at hy
  have ended := State.mem_of_mem_keptVersions hy
  rw [State.adapters_setAdapters_same] at ended
  exact endVersions_ended ended

/-! QUERY (R370). -/

/-- A query tells DRAINED, and the current version or that there is none. -/
theorem execAdapterQuery_eq (s : State) {n a : Nat} (hn : n < 64) (ha : a < 1024) :
    execAdapterQuery n a s =
      .next ((s.setFlag rGenAdapterStatus fGenAdapterStatusDrained (s.adapterDrained n a)).adapterResult
        (if currentVersion (s.adapters n a) = none then 5 else 0)
        ((currentVersion (s.adapters n a)).elim 0 (·.version))) := by
  have same : (s.setFlag rGenAdapterStatus fGenAdapterStatusDrained (s.adapterDrained n a)).adapters n a =
      s.adapters n a := State.adapters_of_text (State.setFlag_text ..) n a
  unfold execAdapterQuery
  rw [if_neg (by omega)]
  dsimp only
  rw [same]
  cases currentVersion (s.adapters n a) with
  | none => rfl
  | some v => rfl

/-! The obligation. -/

/-- Settles O49, command by command. A query of a slot without a version answers 5 (log entry 70), and each tent has the
queue of four (log entry 69). -/
theorem batchesAndAdapters : Obligations.BatchesAndAdapters := by
  unfold Obligations.BatchesAndAdapters
  refine ⟨?descriptor, ?start, fun s n a hn ha hb => ⟨?busy, ?install⟩, fun s n a hn ha hb => ⟨?none, ?retire⟩, ?query⟩
  case descriptor =>
    intro s n v hn hstate hroom
    exact ⟨_, execBatchDescriptorWrite_joins v hn hstate hroom, SMap.get_set_same ..⟩
  case start =>
    intro s n a as hqueue hb
    dsimp only
    intro hhost hformat hleast hmost hidle hprefill
    exact ⟨_, execBatchStart_starts hqueue hb ⟨hhost, hformat, hleast, hmost, hidle, hprefill⟩,
      s.batchQueue_batchStarted n a as, s.named_batchStarted n a as, fun hmembers =>
        ⟨s.batchAt n a, s.running_batchStarted n a as hmembers, rfl, rfl⟩⟩
  case busy =>
    intro hheld
    exact ⟨_, execAdapterInstall_busy hn ha hb hheld, s.text_adapterResult .., s.result_adapterResult _ (by decide)⟩
  case install =>
    intro hdrained h s1 hread
    refine ⟨_, execAdapterInstall_reads hn ha hb hdrained hread, ?_⟩
    have check : s1.adapterCheck n s.adapterAddr h < 8 := (s1.adapterCheck_le n _ h).trans_lt (by decide)
    by_cases passes : s1.adapterCheck n s.adapterAddr h = 0
    · obtain ⟨last, others⟩ := s1.adapterInstalled_last n a s.adapterAddr h
      rw [if_pos passes]
      refine ⟨(State.result_adapterResult _ _ (by decide)).trans passes.symm, ?_⟩
      exact (if_pos passes).mpr ⟨State.version_adapterResult .., _, last, rfl, rfl, rfl, rfl, others⟩
    · rw [if_neg passes]
      exact ⟨s1.result_adapterResult _ check, (if_neg passes).mpr (s1.text_adapterResult ..)⟩
  case none =>
    intro hnone
    refine ⟨_, execAdapterRetire_eq hn ha hb, ?_⟩
    rw [hnone]
    exact ⟨s.text_adapterResult .., s.result_adapterResult _ (by decide)⟩
  case retire =>
    intro hcurrent
    refine ⟨_, execAdapterRetire_eq hn ha hb, ?_⟩
    rw [if_pos hcurrent]
    exact ⟨State.result_adapterResult _ _ (by decide), s.currentVersion_adapterRetired n a⟩
  case query =>
    intro s n a hn ha
    refine ⟨_, execAdapterQuery_eq s hn ha, ?text, ?drained, State.result_adapterResult _ _ ?result, ?version⟩
    case text => rw [State.text_adapterResult, State.setFlag_text]
    case drained => rw [State.drained_adapterResult, State.flag_setFlag_same _ _ _ _ (by decide) rfl]
    case result => split <;> decide
    case version =>
      intro v hv
      rw [State.version_adapterResult, hv]
      rfl

end Sys2Proof.Machine
end

section
/-! SUPPORT. The check code under inverted bits (R483, R484). -/

namespace Sys2Proof.Machine

/-- The syndrome of a codeword as read (R484). -/
def eccSyndrome (c : Nat) : Nat := c / 2 ^ 32 % 128 ^^^ eccCheck (c % 2 ^ 32)

/-- A syndrome of no other kind (R484). -/
def eccUncorrectable (syn : Nat) : Prop := syn ≠ 0 ∧ syn ≠ 0x70 ∧ (∀ j, j < 7 → syn ≠ 2 ^ j) ∧ syn ∉ eccCols

theorem mem_checkBits_iff (syn : Nat) : syn ∈ [1, 2, 4, 8, 16, 32, 64] ↔ ∃ j, j < 7 ∧ syn = 2 ^ j := by
  constructor
  · intro h
    have rows : ∀ x ∈ [1, 2, 4, 8, 16, 32, 64], ∃ j, j < 7 ∧ x = 2 ^ j := by decide
    exact rows syn h
  · rintro ⟨j, hj, rfl⟩
    exact (by decide : ∀ j < 7, 2 ^ j ∈ [1, 2, 4, 8, 16, 32, 64]) j hj

theorem eccDecode_clean {c : Nat} (h : eccSyndrome c = 0) : eccDecode c = .clean (c % 2 ^ 32) := if_pos h

theorem eccDecode_poisoned {c : Nat} (h : eccSyndrome c = 0x70) : eccDecode c = .poisoned (c % 2 ^ 32) := by
  unfold eccSyndrome at h
  unfold eccDecode
  dsimp only
  rw [h]
  rfl

/-- A single set bit corrects a check bit. -/
theorem eccDecode_checkBit {c j : Nat} (hj : j < 7) (h : eccSyndrome c = 2 ^ j) :
    eccDecode c = .corrected (c % 2 ^ 32) (2 ^ j) := by
  have apart : ∀ j < 7, 2 ^ j ≠ 0 ∧ 2 ^ j ≠ 0x70 := by decide
  unfold eccSyndrome at h
  unfold eccDecode
  dsimp only
  rw [h, if_neg (apart j hj).1, if_neg (apart j hj).2, if_pos ((mem_checkBits_iff _).2 ⟨j, hj, rfl⟩)]

/-- A column inverts its data bit. -/
theorem eccDecode_column {c i : Nat} (hi : i < 32) (h : eccSyndrome c = eccCols.getD i 0) :
    eccDecode c = .corrected (c % 2 ^ 32 ^^^ 2 ^ i) (eccCols.getD i 0) := by
  have column : ∀ i < 32, eccCols.getD i 0 ≠ 0 ∧ eccCols.getD i 0 ≠ 0x70 ∧
      eccCols.getD i 0 ∉ [1, 2, 4, 8, 16, 32, 64] ∧ eccCols.findIdx? (· == eccCols.getD i 0) = some i := by decide
  obtain ⟨h0, h70, hbit, hidx⟩ := column i hi
  unfold eccSyndrome at h
  unfold eccDecode
  dsimp only
  rw [h, if_neg h0, if_neg h70, if_neg hbit, hidx]

theorem eccDecode_uncorrectable {c : Nat} (h : eccUncorrectable (eccSyndrome c)) :
    eccDecode c = .bad (c % 2 ^ 32) (eccSyndrome c) := by
  obtain ⟨h0, h70, hbit, hcol⟩ := h
  have none : eccCols.findIdx? (· == eccSyndrome c) = none :=
    List.findIdx?_eq_none_iff.2 fun x hx => beq_eq_false_iff_ne.2 fun e => hcol (e ▸ hx)
  unfold eccSyndrome at h0 h70 hbit none ⊢
  unfold eccDecode
  dsimp only
  rw [if_neg h0, if_neg h70, if_neg, none]
  rw [mem_checkBits_iff]
  rintro ⟨j, hj, e⟩
  exact hbit j hj e

/-- The check bits are linear in the data: each set bit adds its column. -/
theorem eccCheck_xor (d e : Nat) : eccCheck (d ^^^ e) = eccCheck d ^^^ eccCheck e := by
  have fold (l : List (Nat × Nat)) (a b : Nat) :
      l.foldl (fun c x => if (d ^^^ e).testBit x.1 then c ^^^ x.2 else c) (a ^^^ b) =
        l.foldl (fun c x => if d.testBit x.1 then c ^^^ x.2 else c) a ^^^
          l.foldl (fun c x => if e.testBit x.1 then c ^^^ x.2 else c) b := by
    induction l generalizing a b with
    | nil => rfl
    | cons x l ih =>
      simp only [List.foldl_cons]
      rw [← ih, Nat.testBit_xor]
      congr 1
      cases d.testBit x.1 <;> cases e.testBit x.1
      · rfl
      · simp [Nat.xor_assoc]
      · simp [Nat.xor_assoc, Nat.xor_comm b]
      · simpa [Nat.xor_left_comm] using Nat.xor_comm a b
  exact fold _ 0 0

/-- Inverting the bits of `m` in a stored word gives the syndrome of `m`, whatever the data. -/
theorem eccSyndrome_stored_xor (d m : Nat) (hd : d < 2 ^ 32) :
    eccSyndrome (eccEncode d false ^^^ m) = eccSyndrome m := by
  have hc := eccCheck_lt d
  have data : eccEncode d false % 2 ^ 32 = d := by simp only [eccEncode]; simp; omega
  have check : eccEncode d false / 2 ^ 32 % 2 ^ 7 = eccCheck d := by simp only [eccEncode]; simp; omega
  unfold eccSyndrome
  rw [show 128 = 2 ^ 7 from rfl, Nat.xor_mod_two_pow, Nat.xor_div_two_pow, Nat.xor_mod_two_pow, data, check, eccCheck_xor]
  rw [Nat.xor_comm (eccCheck d), Nat.xor_assoc, ← Nat.xor_assoc (eccCheck d), Nat.xor_self, Nat.zero_xor]

theorem eccSyndrome_double : ∀ j < 39, ∀ i < j,
    (eccSyndrome (2 ^ i ^^^ 2 ^ j) ≠ 0 ∧ eccSyndrome (2 ^ i ^^^ 2 ^ j) ≠ 0x70 ∧
      (∀ k < 7, eccSyndrome (2 ^ i ^^^ 2 ^ j) ≠ 2 ^ k) ∧ eccSyndrome (2 ^ i ^^^ 2 ^ j) ∉ eccCols) ∧
    ((List.range 7).filter (eccSyndrome (2 ^ i ^^^ 2 ^ j)).testBit).length % 2 = 0 := by decide +kernel

/-- Settles O58: a syndrome of a stored word depends on the inverted bits alone, as the check bits are linear in the data,
and every pair of columns adds up to a value of even weight. -/
theorem checkCode : Obligations.CheckCode := by
  unfold Obligations.CheckCode
  refine ⟨fun c => ⟨eccDecode_clean, ?bit, ?column, eccDecode_poisoned, ?other⟩, ?double, by decide, ?deliver⟩
  case bit =>
    intro j hj h
    rw [h]
    exact eccDecode_checkBit hj h
  case column =>
    intro i hi h
    rw [h]
    exact eccDecode_column hi h
  case other => exact fun h0 h70 hbit hcol => eccDecode_uncorrectable ⟨h0, h70, hbit, hcol⟩
  case double =>
    intro d i j hd hij hj
    have syn : eccSyndrome (eccEncode d false ^^^ 2 ^ i ^^^ 2 ^ j) = eccSyndrome (2 ^ i ^^^ 2 ^ j) := by
      rw [Nat.xor_assoc, eccSyndrome_stored_xor _ _ hd]
    obtain ⟨bad, even⟩ := eccSyndrome_double j hj i hij
    refine ⟨_, _, eccDecode_uncorrectable ?_, ?_⟩
    · rwa [syn]
    · rwa [syn]
  case deliver => exact fun s isl detector space addr flags d syn => ⟨rfl, rfl, rfl, rfl⟩

end Sys2Proof.Machine
end

section
/-! SUPPORT. Bays that are to be reset (R385, R563), and the placement cuts (R387 to R389). -/

namespace Sys2Proof.Machine

/-! The tents. -/

@[simp] theorem State.tent_setTent_same (s : State) (n : Nat) (x : Tent) : (s.setTent n x).tent n = x :=
  SMap.get_set_same ..

@[simp] theorem State.tent_modTent_same (s : State) (n : Nat) (f : Tent → Tent) : (s.modTent n f).tent n = f (s.tent n) :=
  SMap.get_set_same ..

theorem State.tent_of_tents {s t : State} (h : t.dev.tents = s.dev.tents) (n : Nat) : t.tent n = s.tent n := by
  unfold State.tent
  rw [h]

/-- What no store of a register changes, no store of a field does. -/
theorem State.setFld_kept {α : Type} (p : State → α) (hw : ∀ s off v, p (State.wr s off v) = p s) (s : State) (off : Nat)
    (f : Nat × Nat) (v : Nat) : p (s.setFld off f v) = p s := hw _ _ _

theorem State.setFlag_kept {α : Type} (p : State → α) (hw : ∀ s off v, p (State.wr s off v) = p s) (s : State) (off : Nat)
    (f : Nat × Nat) (b : Bool) : p (s.setFlag off f b) = p s := hw _ _ _

theorem State.addFld_kept {α : Type} (p : State → α) (hw : ∀ s off v, p (State.wr s off v) = p s) (s : State) (off : Nat)
    (f : Nat × Nat) (n : Nat) : p (s.addFld off f n) = p s := hw _ _ _

@[simp] theorem State.tent_wr (s : State) (off : Nat) (v : W64) (n : Nat) : (s.wr off v).tent n = s.tent n := (rfl)
@[simp] theorem State.tent_setFld (s : State) (off : Nat) (f : Nat × Nat) (v n : Nat) :
    (s.setFld off f v).tent n = s.tent n := (rfl)
@[simp] theorem State.tent_setFlag (s : State) (off : Nat) (f : Nat × Nat) (b : Bool) (n : Nat) :
    (s.setFlag off f b).tent n = s.tent n := (rfl)
@[simp] theorem State.setFld_bays (s : State) (off : Nat) (f : Nat × Nat) (v : Nat) :
    (s.setFld off f v).dev.bays = s.dev.bays := (rfl)
@[simp] theorem State.setFlag_bays (s : State) (off : Nat) (f : Nat × Nat) (b : Bool) :
    (s.setFlag off f b).dev.bays = s.dev.bays := (rfl)

theorem State.bay_of_bays {s t : State} (h : t.dev.bays = s.dev.bays) (n : Nat) : t.bay n = s.bay n := by
  unfold State.bay
  rw [h]

/-! Condemned bays. -/

/-- A bay as it stands until the part resets it: its crews and queues are discarded (R508, R563). -/
def Bay.condemned (b : Bay) : Bay :=
  { b with crews := [], launchq := [], selq := [], smpq := [], dma := [], resetDue := true, truss := { b.truss with queue := [] } }

/-- Every bay that is a tent's is one of the 64 tents'. -/
def State.TentsNamed (s : State) : Prop := ∀ k u, (s.bay k).tent = some u → u < 64

theorem State.condemnBay_bays (s : State) (n : Nat) :
    (s.condemnBay n).dev.bays = SMap.set (fun _ => {}) s.dev.bays n (s.bay n).condemned := by
  unfold State.condemnBay
  simp only [State.setBay_dev, State.orphanOps, State.modFab_dev]
  congr 1
  split
  · exact State.addFld_bays ..
  · rfl

theorem State.bay_condemnBay (s : State) (n k : Nat) :
    (s.condemnBay n).bay k = if k = n then (s.bay n).condemned else s.bay k := by
  unfold State.bay
  rw [State.condemnBay_bays]
  exact SMap.get_set ..

theorem State.bay_condemnBays (l : List Nat) (s : State) (k : Nat) :
    (l.foldl (fun s n => s.condemnBay n) s).bay k = if k ∈ l then (s.bay k).condemned else s.bay k := by
  induction l generalizing s with
  | nil => rfl
  | cons n l ih =>
    rw [List.foldl_cons, ih, State.bay_condemnBay]
    by_cases here : k = n
    · subst here
      simp [Bay.condemned]
    · simp [here]

/-- Condemning a bay changes that bay, the saved crews and their accesses, and the replies counted at its tent. -/
theorem State.condemnBay_kept {α : Type} (p : State → α) (hf : ∀ s f, p (State.modFab s f) = p s)
    (hb : ∀ s n b, p (State.setBay s n b) = p s)
    (hd : ∀ (s : State) saved held, p { s with dev := { s.dev with
      saved := saved, mem := { s.dev.mem with held := held } } } = p s) (s : State) (n : Nat)
    (hs : ∀ u, (s.bay n).tent = some u → ∀ v c, p (State.addFld v (rTentStatus u) fTentStatusStale c) = p v) :
    p (s.condemnBay n) = p s := by
  unfold State.condemnBay
  dsimp only
  refine (hd _ _ _).trans ((hb _ _ _).trans ((hf _ _).trans ?_))
  cases hu : (s.bay n).tent with
  | none => rfl
  | some u => exact hs u hu s _

theorem State.condemnBays_kept {α : Type} (p : State → α) (hf : ∀ s f, p (State.modFab s f) = p s)
    (hb : ∀ s n b, p (State.setBay s n b) = p s)
    (hd : ∀ (s : State) saved held, p { s with dev := { s.dev with
      saved := saved, mem := { s.dev.mem with held := held } } } = p s) (l : List Nat) {s : State}
    (hs : ∀ k u, (s.bay k).tent = some u → ∀ v c, p (State.addFld v (rTentStatus u) fTentStatusStale c) = p v) :
    p (l.foldl (fun s n => s.condemnBay n) s) = p s := by
  induction l generalizing s with
  | nil => rfl
  | cons n l ih =>
    have later : ∀ k u, ((s.condemnBay n).bay k).tent = some u →
        ∀ v c, p (State.addFld v (rTentStatus u) fTentStatusStale c) = p v := by
      intro k u hk
      rw [State.bay_condemnBay] at hk
      split at hk
      · exact hs n u hk
      · exact hs k u hk
    exact (ih later).trans (State.condemnBay_kept p hf hb hd s n (hs n))

/-! What a cut does to the requests and steps of its tent. -/

theorem State.notePreempt_kept {α : Type} (p : State → α) (hq : ∀ s n r, p (State.setReq s n r) = p s) (s : State) (n : Nat) :
    p (s.notePreempt n) = p s := State.modReq_kept p hq s n _

theorem State.cutLeg_kept {α : Type} (p : State → α) (hq : ∀ s n r, p (State.setReq s n r) = p s) (s : State) (n : Nat) :
    p (s.cutLeg n) = p s := by
  unfold State.cutLeg
  split
  · rfl
  · split
    · exact (State.modReq_kept p hq _ n _).trans (State.notePreempt_kept p hq s n)
    · rfl

theorem State.cutSteps_kept {α : Type} (p : State → α) (hq : ∀ s n r, p (State.setReq s n r) = p s)
    (ht : ∀ s f, p (State.modText s f) = p s) (s : State) (n : Nat)
    (hs : ∀ s k, p (State.addFld s (rTentStatus n) fTentStatusStale k) = p s) : p (s.cutSteps n) = p s := by
  unfold State.cutSteps
  refine (hs _ _).trans ((foldl_kept p _ (fun s x => ?_) _ _).trans (foldl_kept p _ (fun s e => ht s _) _ _))
  exact (State.modReq_kept p hq _ _ _).trans (State.notePreempt_kept p hq s x.seq)

theorem State.rehome_kept {α : Type} (p : State → α) (ha : ∀ s f, p (State.modAdm s f) = p s) (s : State) (n : Nat) :
    p (s.rehome n) = p s := by
  unfold State.rehome
  refine foldl_kept p _ (fun s k => ?_) _ _
  split
  · rfl
  · split
    · rfl
    · exact (ha _ _).trans (State.modReq_kept p (fun s n r => ha s _) s k _)

theorem State.remode_kept {α : Type} (p : State → α) (n : Nat) (hb : ∀ s f v, p (State.setFld s (rTentBatch n) f v) = p s)
    (ht : ∀ s f, p (State.modText s f) = p s) (s : State) : p (s.remode n) = p s := by
  have batch : p (s.setBatch n) = p s := (hb _ _ _).trans (hb _ _ _)
  unfold State.remode
  dsimp only
  split
  · exact batch
  · exact (ht _ _).trans batch

/-! The cut (R388). -/

/-- Bay `k` is in a mask of bays. -/
def maskHas (mask : List W64) (k : Nat) : Bool := (mask.getD (k / 64) 0).toNat.testBit (k % 64)

theorem State.maskHas_bayMask (s : State) (n : Nat) {k : Nat} (hk : k < 256) : maskHas (s.bayMask n) k = s.hasBay n k := by
  unfold maskHas State.bayMask State.hasBay State.dieBays
  have die : k / 64 < 4 := by omega
  rw [List.getD_eq_getElem?_getD, List.getElem?_map, List.getElem?_range die]
  rfl

/-- The registers of the placement take the new one, and EPOCH counts. -/
def State.cutPlaced (s : State) (n : Nat) : State :=
  let u := (List.range 4).foldl (fun u j => u.wr (rTentBays n j) ((s.tent n).cutBays.getD j 0)) s
  let u := (u.modTent n fun x => { x with cutAt := none, cutBays := [] }).setFlag (rTentStatus n) fTentStatusCutPending false
  u.setFld (rTentStatus n) fTentStatusEpoch (u.fld (rTentStatus n) fTentStatusEpoch + 1)

/-- The bays that leave at the cut, and those that arrive. -/
def State.cutLeaving (s : State) (n : Nat) : List Nat :=
  (List.range 256).filter fun k => maskHas (s.bayMask n) k && !maskHas (s.tent n).cutBays k
def State.cutArriving (s : State) (n : Nat) : List Nat :=
  (List.range 256).filter fun k => maskHas (s.tent n).cutBays k && !maskHas (s.bayMask n) k

/-- The legs and steps that run on bays that leave are cut. -/
def State.cutWork (s : State) (n : Nat) : State :=
  if s.cutLeaving n = [] then s.cutPlaced n
  else ((((s.cutPlaced n).allReqs.filter (·.tent == n)).map (·.seq)).foldl (fun u k => u.cutLeg k) (s.cutPlaced n)).cutSteps n

/-- The bays that arrive are the tent's. -/
def State.takeBays (s : State) (n : Nat) (l : List Nat) : State :=
  l.foldl (fun u k => u.setBay k { u.bay k with tent := some n }) s

theorem State.cut_eq (s : State) (n : Nat) : s.cut n =
    ((((s.cutLeaving n).foldl (fun u k => u.condemnBay k) (s.cutWork n)).takeBays n (s.cutArriving n)).rehome n).remode n := rfl

theorem State.bay_takeBays (n : Nat) (l : List Nat) (s : State) (k : Nat) :
    (s.takeBays n l).bay k = if k ∈ l then { s.bay k with tent := some n } else s.bay k := by
  unfold State.takeBays
  induction l generalizing s with
  | nil => rfl
  | cons m l ih =>
    rw [List.foldl_cons, ih, State.bay_setBay]
    by_cases here : k = m
    · subst here
      simp
    · simp [here]

theorem State.cutWork_kept {α : Type} (p : State → α) (hq : ∀ s n r, p (State.setReq s n r) = p s)
    (ht : ∀ s f, p (State.modText s f) = p s) (s : State) (n : Nat)
    (hs : ∀ s k, p (State.addFld s (rTentStatus n) fTentStatusStale k) = p s) : p (s.cutWork n) = p (s.cutPlaced n) := by
  unfold State.cutWork
  split
  · rfl
  · exact (State.cutSteps_kept p hq ht _ n hs).trans (foldl_kept p _ (State.cutLeg_kept p hq) _ _)

theorem State.cutPlaced_bays (s : State) (n : Nat) : (s.cutPlaced n).dev.bays = s.dev.bays := by
  unfold State.cutPlaced
  dsimp only
  rw [State.setFld_bays, State.setFlag_bays]
  exact foldl_kept (·.dev.bays) _ (fun _ _ => rfl) (List.range 4) s

theorem State.cutWork_bay (s : State) (n k : Nat) : (s.cutWork n).bay k = s.bay k :=
  State.bay_of_bays ((State.cutWork_kept (·.dev.bays) (fun _ _ _ => rfl) (fun _ _ => rfl) s n
    fun s _ => State.addFld_bays s ..).trans (s.cutPlaced_bays n)) k

/-- After the placement is in effect a cut changes requests, steps, bays, TENT_BATCH, and the replies counted at tents. -/
theorem State.cut_kept {α : Type} (p : State → α) (ha : ∀ s f, p (State.modAdm s f) = p s)
    (ht : ∀ s f, p (State.modText s f) = p s) (hf : ∀ s f, p (State.modFab s f) = p s)
    (hb : ∀ s n b, p (State.setBay s n b) = p s)
    (hd : ∀ (s : State) saved held, p { s with dev := { s.dev with
      saved := saved, mem := { s.dev.mem with held := held } } } = p s)
    (hs : ∀ s u k, u < 64 → p (State.addFld s (rTentStatus u) fTentStatusStale k) = p s) {s : State} {n : Nat} (hn : n < 64)
    (hbatch : ∀ s f v, p (State.setFld s (rTentBatch n) f v) = p s) (named : s.TentsNamed) :
    p (s.cut n) = p (s.cutPlaced n) := by
  have named' : (s.cutWork n).TentsNamed := fun k u h => named k u (by rwa [State.cutWork_bay] at h)
  rw [State.cut_eq]
  calc p _ = p _ := State.remode_kept p n hbatch ht _
    _ = p _ := State.rehome_kept p ha _ n
    _ = p _ := foldl_kept p _ (fun u k => hb u k _) _ _
    _ = p _ := State.condemnBays_kept p hf hb hd _ fun k u hk v c => hs v u c (named' k u hk)
    _ = p _ := State.cutWork_kept p (fun s n r => ha s _) ht s n fun s k => hs s n k hn

/-- The bays that leave are condemned, and those that arrive are the tent's. -/
theorem State.bay_cut (s : State) (n k : Nat) : (s.cut n).bay k =
    if k ∈ s.cutArriving n then { (if k ∈ s.cutLeaving n then (s.bay k).condemned else s.bay k) with tent := some n }
    else if k ∈ s.cutLeaving n then (s.bay k).condemned else s.bay k := by
  rw [State.cut_eq, State.bay_of_bays (State.remode_kept (·.dev.bays) n (fun _ _ _ => rfl) (fun _ _ => rfl) _),
    State.bay_of_bays (State.rehome_kept (·.dev.bays) (fun _ _ => rfl) _ n), State.bay_takeBays, State.bay_condemnBays,
    State.cutWork_bay]

theorem tentStatus_ne_tentBays {u n j : Nat} (hj : j < 4) : rTentBays n j ≠ rTentStatus u := by
  simp only [rTentBays, rTentStatus]
  omega

theorem tentBatch_ne_tentBays {u n j : Nat} (hj : j < 4) : rTentBays n j ≠ rTentBatch u := by
  simp only [rTentBays, rTentBatch]
  omega

theorem tentBatch_ne_tentStatus (n u : Nat) : rTentStatus n ≠ rTentBatch u := by
  simp only [rTentStatus, rTentBatch]
  omega

theorem State.rd_addFld_other (s : State) (off : Nat) (f : Nat × Nat) (k : Nat) {o : Nat} (h : o ≠ off) :
    (s.addFld off f k).rd o = s.rd o := State.rd_setFld_other s off f _ o h

/-- The replies counted at a tent leave the other fields of TENT_STATUS. -/
theorem State.fld_addStale (s : State) (u k n : Nat) {g : Nat × Nat} (hg : g.1 + g.2 ≤ 48) :
    (s.addFld (rTentStatus u) fTentStatusStale k).fld (rTentStatus n) g = s.fld (rTentStatus n) g := by
  by_cases same : rTentStatus n = rTentStatus u
  · rw [same]
    exact State.fld_setFld_apart _ _ _ _ _ (by decide) (.inl hg)
  · exact State.fld_setFld_other _ _ _ _ _ _ same

theorem State.rd_cutPlaced_bays (s : State) (n : Nat) {j : Nat} (hj : j < 4) :
    (s.cutPlaced n).rd (rTentBays n j) = (s.tent n).cutBays.getD j 0 := by
  have apart : rTentBays n j ≠ rTentStatus n := tentStatus_ne_tentBays hj
  have row (u : State) (l : List Nat) : (l.foldl (fun u j => u.wr (rTentBays n j) ((s.tent n).cutBays.getD j 0)) u).rd
      (rTentBays n j) = if j ∈ l then (s.tent n).cutBays.getD j 0 else u.rd (rTentBays n j) := by
    induction l generalizing u with
    | nil => rfl
    | cons i l ih =>
      have same : rTentBays n j = rTentBays n i ↔ j = i := by simp only [rTentBays]; omega
      rw [List.foldl_cons, ih, State.rd_wr]
      by_cases here : j = i
      · subst here
        simp
      · simp [here, same]
  unfold State.cutPlaced
  dsimp only
  rw [State.rd_setFld_other _ _ _ _ _ apart, State.rd_setFlag_other _ _ _ _ _ apart]
  exact (row s _).trans (if_pos (List.mem_range.2 hj))

theorem State.cutPlaced_status (s : State) (n : Nat) :
    (s.cutPlaced n).fld (rTentStatus n) fTentStatusEpoch = (s.fld (rTentStatus n) fTentStatusEpoch + 1) % 2 ^ 32 ∧
      (s.cutPlaced n).flag (rTentStatus n) fTentStatusCutPending = false := by
  have placed : ((List.range 4).foldl (fun u j => u.wr (rTentBays n j) ((s.tent n).cutBays.getD j 0)) s).fld
      (rTentStatus n) fTentStatusEpoch = s.fld (rTentStatus n) fTentStatusEpoch := by
    simp only [List.range_succ, List.range_zero, List.nil_append, List.cons_append, List.foldl_cons, List.foldl_nil]
    repeat rw [State.fld_wr_other _ _ _ _ _ (Ne.symm (tentStatus_ne_tentBays (by decide)))]
  unfold State.cutPlaced
  dsimp only
  constructor
  · rw [State.fld_setFld_same _ _ _ _ (by decide), State.fld_setFlag_apart _ _ _ _ _ (by decide) (by decide)]
    exact congrArg (fun x => (x + 1) % 2 ^ 32) placed
  · rw [State.flag_setFld_apart _ _ _ _ _ (by decide) (by decide)]
    exact State.flag_setFlag_same _ _ _ _ (by decide) rfl

/-- A cut whose tick has come leaves the new placement in effect. -/
theorem State.cut_effect {s : State} {n : Nat} (hn : n < 64) (named : s.TentsNamed) :
    ((s.cut n).tent n).cutAt = none ∧ (∀ j, j < 4 → (s.cut n).rd (rTentBays n j) = (s.tent n).cutBays.getD j 0) ∧
      (s.cut n).fld (rTentStatus n) fTentStatusEpoch = (s.fld (rTentStatus n) fTentStatusEpoch + 1) % 2 ^ 32 ∧
      (s.cut n).flag (rTentStatus n) fTentStatusCutPending = false := by
  have field (g : Nat × Nat) (hg : g.1 + g.2 ≤ 48) :
      (s.cut n).fld (rTentStatus n) g = (s.cutPlaced n).fld (rTentStatus n) g :=
    State.cut_kept (·.fld (rTentStatus n) g) (fun _ _ => rfl) (fun _ _ => rfl) (fun _ _ => rfl) (fun _ _ _ => rfl)
      (fun _ _ _ => rfl) (fun u v k _ => u.fld_addStale v k n hg) hn
      (fun u f v => State.fld_setFld_other _ _ _ _ _ _ (tentBatch_ne_tentStatus n n)) named
  have tents : (s.cut n).dev.tents = (s.cutPlaced n).dev.tents :=
    State.cut_kept (·.dev.tents) (fun _ _ => rfl) (fun _ _ => rfl) (fun _ _ => rfl) (fun _ _ _ => rfl) (fun _ _ _ => rfl)
      (fun u v k _ => State.addFld_kept (·.dev.tents) (fun _ _ _ => rfl) u _ _ k) hn (fun _ _ _ => rfl) named
  refine ⟨?_, fun j hj => ?_, (field _ (by decide)).trans (s.cutPlaced_status n).1, ?_⟩
  · rw [State.tent_of_tents tents]
    unfold State.cutPlaced
    dsimp only
    rw [State.tent_setFld, State.tent_setFlag, State.tent_modTent_same]
  · rw [← s.rd_cutPlaced_bays n hj]
    exact State.cut_kept (·.rd (rTentBays n j)) (fun _ _ => rfl) (fun _ _ => rfl) (fun _ _ => rfl) (fun _ _ _ => rfl)
      (fun _ _ _ => rfl) (fun u v k _ => u.rd_addFld_other _ _ _ (tentStatus_ne_tentBays hj)) hn
      (fun u f v => State.rd_setFld_other _ _ _ _ _ (tentBatch_ne_tentBays hj)) named
  · unfold State.flag
    rw [field _ (by decide)]
    exact (s.cutPlaced_status n).2

/-! Arming (R387). -/

theorem execMigrationCutArm_arms {s : State} {n : Nat} {v : W64} (hn : n < 64) (active : s.tentState n = 2)
    (ahead : s.ao.tick + 100000 ≤ v.toNat) (free : (s.tent n).cutAt = none) (bays : s.baysOk n (s.pendingMask n) = true) :
    execMigrationCutArm n v s = .next (s.armCut n v.toNat (s.pendingMask n)) := by
  unfold execMigrationCutArm
  rw [if_neg (by omega), if_neg (by omega), if_neg]
  simp [active, free, bays, ahead]

theorem execMigrationCutArm_refuses {s : State} {n : Nat} {v : W64} (hn : n < 64) (used : s.tentState n ≠ 0)
    (h : ¬ (s.tentState n = 2 ∧ s.ao.tick + 100000 ≤ v.toNat ∧ (s.tent n).cutAt = none ∧
      s.baysOk n (s.pendingMask n) = true)) :
    execMigrationCutArm n v s = .next ((s.modTent n fun x => { x with hasPending := false, pendingBays := [] }).setFlag
      (rTentStatus n) fTentStatusCutRefused true) := by
  unfold execMigrationCutArm
  rw [if_neg (by omega), if_neg used, if_pos]
  by_contra ok
  simp only [not_or, Decidable.not_not, Bool.not_eq_true', Bool.not_eq_true, Bool.not_eq_false, Nat.not_lt,
    Option.isSome_eq_false_iff, Option.isNone_iff_eq_none] at ok
  exact h ok

/-- Settles O51. A cut is refused in every state but ACTIVE and FREE (log entry 78); which bays may be had is log entry 77. -/
theorem placementCuts : Obligations.PlacementCuts := by
  unfold Obligations.PlacementCuts
  constructor
  · intro s n v hn used
    by_cases arms : s.tentState n = 2 ∧ s.ao.tick + 100000 ≤ v.toNat ∧ (s.tent n).cutAt = none ∧
        s.baysOk n (s.pendingMask n) = true
    · obtain ⟨active, ahead, free, bays⟩ := arms
      refine ⟨_, execMigrationCutArm_arms hn active ahead free bays, ?_⟩
      rw [if_pos ⟨active, ahead, free, bays⟩]
      have armed : ((s.armCut n v.toNat (s.pendingMask n)).tent n) = { s.tent n with
        cutAt := some v.toNat, cutBays := s.pendingMask n, hasPending := false, pendingBays := [] } := by
        rw [State.armCut, State.tent_setFlag, State.tent_wr, State.tent_modTent_same]
      refine ⟨by rw [armed], by rw [armed], State.flag_setFlag_same _ _ _ _ (by decide) rfl, ?_⟩
      unfold State.armCut
      rw [State.rd_setFlag_other _ _ _ _ _ (by simp only [rTentMigrateAt, rTentStatus]; omega), State.rd_wr_same]
      exact BitVec.ofNat_toNat ..
    · refine ⟨_, execMigrationCutArm_refuses hn used arms, ?_⟩
      rw [if_neg arms]
      have refused : (((s.modTent n fun x => { x with hasPending := false, pendingBays := [] }).setFlag
          (rTentStatus n) fTentStatusCutRefused true).tent n) = { s.tent n with hasPending := false, pendingBays := [] } := by
        rw [State.tent_setFlag, State.tent_modTent_same]
      exact ⟨State.flag_setFlag_same _ _ _ _ (by decide) rfl, by rw [refused], by rw [refused]⟩
  · intro s n m hn hcut due named
    have runs : execMigrationCut n s = .next (s.cut n) := by
      unfold execMigrationCut
      rw [hcut]
      exact if_neg (Nat.not_lt.2 due)
    obtain ⟨done, placed, epoch, pending⟩ := State.cut_effect hn named
    refine ⟨_, runs, done, placed, epoch, pending, fun k hk => ?_⟩
    have new : (s.cut n).hasBay n k = maskHas (s.tent n).cutBays k := by
      unfold State.hasBay State.dieBays maskHas
      rw [placed _ (by omega)]
    have leaving : k ∈ s.cutLeaving n ↔ s.hasBay n k = true ∧ (s.cut n).hasBay n k = false := by
      simp [State.cutLeaving, hk, new, s.maskHas_bayMask n hk]
    have arriving : k ∈ s.cutArriving n ↔ (s.cut n).hasBay n k = true ∧ s.hasBay n k = false := by
      simp [State.cutArriving, hk, new, s.maskHas_bayMask n hk]
    constructor
    · intro had gone
      rw [State.bay_cut, if_neg (by rw [arriving]; simp [had]), if_pos (leaving.2 ⟨had, gone⟩)]
      exact ⟨rfl, rfl⟩
    · intro hadNot has
      rw [State.bay_cut, if_pos (arriving.2 ⟨has, hadNot⟩)]

end Sys2Proof.Machine
end

section
/-! SUPPORT. Shapers (R391), gate lists (R393, R394) and the accounts (R396, R397, R399). -/

namespace Sys2Proof.Machine

/-! Shapers. -/

theorem State.writeReg_kept {α : Type} (p : State → α) (hw : ∀ s off v, p (State.wr s off v) = p s) (s : State) (off : Nat)
    (v : W64) : p (s.writeReg off v) = p s := by
  unfold State.writeReg
  split
  · rfl
  · exact hw _ _ _

@[simp] theorem State.tent_writeReg (s : State) (off : Nat) (v : W64) (n : Nat) : (s.writeReg off v).tent n = s.tent n :=
  State.writeReg_kept (·.tent n) (fun _ _ _ => rfl) s off v

theorem State.writeReg_regs_congr {s t : State} (h : t.dev.regs = s.dev.regs) (off : Nat) (v : W64) :
    (t.writeReg off v).dev.regs = (s.writeReg off v).dev.regs := by
  unfold State.writeReg
  split
  · exact h
  · rw [State.wr_dev, State.wr_dev, State.rd_of_regs h, h]

theorem State.tentWrite_used {s : State} {n : Nat} (hn : n < 64) (used : s.tentState n ≠ 0) (f : State → State) :
    s.tentWrite n f = f s := by
  unfold State.tentWrite
  rw [if_neg (Nat.not_le.2 hn), if_neg used]

theorem State.credit_setCredit (s : State) (n c tick x : Nat) :
    SMap.get (fun _ => {}) ((s.setCredit n c tick x).tent n).credits c = ⟨x, tick⟩ := by
  unfold State.setCredit
  rw [State.tent_modTent_same]
  exact SMap.get_set_same ..

@[simp] theorem State.setCredit_regs (s : State) (n c tick x : Nat) : (s.setCredit n c tick x).dev.regs = s.dev.regs := (rfl)

theorem execShapeRateWrite_eq {s : State} {n c : Nat} (v : W64) (hn : n < 64) (hc : c < 8) (used : s.tentState n ≠ 0) :
    execShapeRateWrite n c v s = .next ((s.setCredit n c (s.copy islAdmit) (s.creditAt n c (s.copy islAdmit))).writeReg
      (rShapeRate n c) v) := by
  unfold execShapeRateWrite
  rw [if_neg (Nat.not_le.2 hc), State.tentWrite_used hn used]

theorem execShapeBurstWrite_eq {s : State} {n c : Nat} (v : W64) (hn : n < 64) (hc : c < 8) (used : s.tentState n ≠ 0) :
    execShapeBurstWrite n c v s = .next ((s.writeReg (rShapeBurst n c) v).setCredit n c (s.copy islAdmit)
      (min (s.creditAt n c (s.copy islAdmit)) ((s.writeReg (rShapeBurst n c) v).burst n c * 1000000000))) := by
  unfold execShapeBurstWrite
  rw [if_neg (Nat.not_le.2 hc), State.tentWrite_used hn used]

/-! Gate lists. -/

/-- A gate list that may be armed for tick `a` (R393). -/
def State.GateArms (s : State) (a : W64) : Prop :=
  s.ao.tick + 20000 ≤ a.toNat ∧
    s.inHost (s.fld rGateListBase fGateListBaseAddr * 64) (16 * (s.fld rGateListBase fGateListBaseCountM1 + 1)) = true ∧
    ∀ e ∈ s.readGateList, 1000 ≤ e.1 ∧ e.1 ≤ 2 ^ 48

/-- The registers of a list armed for tick `a`. -/
def State.gatePending (s : State) (a : W64) : State := (s.wr rGateActivateAt a).setFlag rGateCurrent fGateCurrentPending true

theorem State.gatePending_fields (s : State) (a : W64) : (s.gatePending a).flag rGateCurrent fGateCurrentPending = true ∧
    (s.gatePending a).rd rGateActivateAt = a ∧ (s.gatePending a).dev.gate = s.dev.gate :=
  ⟨State.flag_setFlag_same _ _ _ _ (by decide) rfl,
    (State.rd_setFlag_other _ _ _ _ _ (by decide)).trans (State.rd_wr_same ..),
    State.setFlag_kept (·.dev.gate) (fun _ _ _ => rfl) ..⟩

/-- Arm a gate list. -/
def State.armGate (s : State) (g : GateList) : State := { s with dev := { s.dev with gateArmed := some g } }

theorem State.armGate_kept (s : State) (g : GateList) : (s.armGate g).dev.gateArmed = some g ∧
    (s.armGate g).dev.regs = s.dev.regs ∧ (s.armGate g).dev.gate = s.dev.gate := ⟨rfl, rfl, rfl⟩

theorem execGateListArm_arms {s : State} {a : W64} (h : s.GateArms a) :
    execGateListArm a s = .next ((s.gatePending a).armGate ⟨s.readGateList, a.toNat⟩) := by
  obtain ⟨ahead, host, entries⟩ := h
  have all : (s.readGateList.all fun e => decide (1000 ≤ e.1) && decide (e.1 ≤ 2 ^ 48)) = true := by
    simpa [List.all_eq_true] using fun x y h => entries (x, y) h
  unfold execGateListArm
  dsimp only
  rw [if_neg]
  · rfl
  · rw [host, all]
    simpa using ahead

theorem execGateListArm_refuses {s : State} {a : W64} (h : ¬ s.GateArms a) :
    execGateListArm a s = .next (s.setFlag rGateCurrent fGateCurrentRefused true) := by
  unfold execGateListArm
  dsimp only
  rw [if_pos]
  by_contra ok
  simp only [not_or, Nat.not_lt, Bool.not_eq_false, List.all_eq_true, Bool.and_eq_true, decide_eq_true_eq] at ok
  exact h ok

theorem State.showGate_some {s : State} {g : GateList} (h : s.dev.gate = some g) :
    s.showGate = ((s.setFld rGateCurrent fGateCurrentEntry (g.at_ s.ao.tick).1).setFlag rGateCurrent fGateCurrentList
      true).setFld rGateCurrent fGateCurrentOpen (g.at_ s.ao.tick).2 := by
  unfold State.showGate
  rw [h]

/-- GATE_CURRENT shows the entry in effect, beside PENDING. -/
theorem State.showGate_fields {s : State} {g : GateList} (h : s.dev.gate = some g) :
    s.showGate.fld rGateCurrent fGateCurrentEntry = (g.at_ s.ao.tick).1 % 64 ∧
      s.showGate.flag rGateCurrent fGateCurrentList = true ∧
      s.showGate.fld rGateCurrent fGateCurrentOpen = (g.at_ s.ao.tick).2 % 256 ∧
      s.showGate.flag rGateCurrent fGateCurrentPending = s.flag rGateCurrent fGateCurrentPending := by
  rw [State.showGate_some h]
  refine ⟨?_, ?_, State.fld_setFld_same _ _ _ _ (by decide), ?_⟩
  · rw [State.fld_setFld_apart _ _ _ _ _ (by decide) (by decide), State.fld_setFlag_apart _ _ _ _ _ (by decide) (by decide)]
    exact State.fld_setFld_same _ _ _ _ (by decide)
  · rw [State.flag_setFld_apart _ _ _ _ _ (by decide) (by decide)]
    exact State.flag_setFlag_same _ _ _ _ (by decide) rfl
  · rw [State.flag_setFld_apart _ _ _ _ _ (by decide) (by decide), State.flag_setFlag_apart _ _ _ _ _ (by decide) (by decide),
      State.flag_setFld_apart _ _ _ _ _ (by decide) (by decide)]

theorem State.rd_showGate_other (s : State) {o : Nat} (h : o ≠ rGateCurrent) : s.showGate.rd o = s.rd o := by
  unfold State.showGate
  split
  · rfl
  · dsimp only
    rw [State.rd_setFld_other _ _ _ _ _ h, State.rd_setFlag_other _ _ _ _ _ h, State.rd_setFld_other _ _ _ _ _ h]

theorem State.showGate_kept {α : Type} (p : State → α) (hw : ∀ s off v, p (State.wr s off v) = p s) (s : State) :
    p s.showGate = p s := by
  unfold State.showGate
  split
  · rfl
  · exact (hw _ _ _).trans ((hw _ _ _).trans (hw _ _ _))

/-- The armed list `g` takes the place of the one before it. -/
def State.gateTaken (s : State) (g : GateList) : State :=
  ({ s with dev := { s.dev with gate := some g, gateArmed := none } } : State).setFlag rGateCurrent fGateCurrentPending false

theorem execGateListActivate_due {s : State} {g : GateList} (h : s.dev.gateArmed = some g) (due : g.start ≤ s.ao.tick) :
    execGateListActivate s = .next (s.gateTaken g).showGate := by
  unfold execGateListActivate
  rw [h]
  exact if_neg (Nat.not_lt.2 due)

/-! Accounts. -/

/-- The area from `a` overlaps that of another table that is on. -/
def State.acctOverlaps (s : State) (n a : Nat) : Bool :=
  (List.range 64).any fun u => u != n && s.acctOn u &&
    decide (a < s.acctBase u + acctArea) && decide (s.acctBase u < a + acctArea)

/-- ACCT_TABLE_BASE of a table that comes on at the area from `64 * x`, which holds zeros. -/
def State.acctPlaced (s : State) (n x : Nat) : State :=
  let r := rAcctTableBase n
  let u := ((s.originate islPort).2.hostZero (x * 64) acctArea).setFld r fAcctTableBaseAddr x
  (u.setFlag r fAcctTableBaseValid true).setFlag r fAcctTableBaseCfgError false

/-- The accounting table of a tent comes on. -/
def State.acctTaken (s : State) (n x : Nat) : State :=
  (s.acctPlaced n x).modAcct fun y => { y with
    since := SMap.set (fun _ => 0) y.since n (s.originate islPort).1.key, count := SMap.set (fun _ => 0) y.count n 0 }

theorem execAcctEnable_eq {s : State} {n : Nat} (v : W64) (hn : n < 64) :
    execAcctEnable n v s = .next (
      if s.inHost (getBits v 6 50 * 64) acctArea = true ∧ s.acctOverlaps n (getBits v 6 50 * 64) = false then
        s.acctTaken n (getBits v 6 50)
      else s.setFlag (rAcctTableBase n) fAcctTableBaseCfgError true) := by
  unfold execAcctEnable
  dsimp only
  rw [if_neg (Nat.not_le.2 hn)]
  by_cases ok : s.inHost (getBits v 6 50 * 64) acctArea = true ∧ s.acctOverlaps n (getBits v 6 50 * 64) = false
  · have overlap := ok.2
    unfold State.acctOverlaps at overlap
    rw [if_pos ok, if_neg]
    · rfl
    · rw [ok.1, overlap]
      decide
  · rw [if_neg ok, if_pos]
    by_contra h
    simp only [not_or, Bool.not_eq_true', Bool.not_eq_false, Bool.not_eq_true] at h
    exact ok h

theorem SMap.get_clearRange {α : Type} (d : Nat → α) (m : SMap α) (k n j : Nat) (h : k ≤ j ∧ j < k + n) :
    SMap.get d (SMap.clearRange m k n) j = d j := by
  unfold SMap.clearRange
  induction m with
  | nil => rfl
  | cons e m ih =>
    obtain ⟨i, x⟩ := e
    rw [List.filter_cons]
    split
    · next out =>
      have apart : i ≠ j := by
        rintro rfl
        simp at out
        omega
      rw [SMap.get, if_neg apart]
      exact ih
    · exact ih

theorem State.byte_hostZero (s : State) (a n x : Nat) (h : a ≤ x ∧ x < a + n) : (s.hostZero a n).dev.mem.host.byte x = 0 :=
  SMap.get_clearRange _ _ _ _ _ h

theorem State.acctPlaced_fields (s : State) (n : Nat) {x : Nat} (hx : x < 2 ^ 50) :
    (s.acctPlaced n x).acctOn n = true ∧ (s.acctPlaced n x).acctBase n = x * 64 ∧
      (s.acctPlaced n x).flag (rAcctTableBase n) fAcctTableBaseCfgError = false := by
  unfold State.acctPlaced State.acctOn State.acctBase
  refine ⟨?_, ?_, State.flag_setFlag_same _ _ _ _ (by decide) rfl⟩
  · rw [State.flag_setFlag_apart _ _ _ _ _ (by decide) (by decide)]
    exact State.flag_setFlag_same _ _ _ _ (by decide) rfl
  · rw [State.fld_setFlag_apart _ _ _ _ _ (by decide) (by decide), State.fld_setFlag_apart _ _ _ _ _ (by decide) (by decide),
      State.fld_setFld_same _ _ _ _ (by decide)]
    exact congrArg (· * 64) (Nat.mod_eq_of_lt hx)

theorem State.acctPlaced_kept {α : Type} (p : State → α) (hw : ∀ s off v, p (State.wr s off v) = p s) (s : State)
    (n x : Nat) : p (s.acctPlaced n x) = p ((s.originate islPort).2.hostZero (x * 64) acctArea) := by
  unfold State.acctPlaced
  dsimp only
  rw [State.setFlag_kept p hw, State.setFlag_kept p hw, State.setFld_kept p hw]

theorem State.host_acctTaken (s : State) (n x : Nat) :
    (s.acctTaken n x).dev.mem.host = ((s.originate islPort).2.hostZero (x * 64) acctArea).dev.mem.host := by
  have accounts (u : State) (f : Acct → Acct) : (u.modAcct f).dev.mem.host = u.dev.mem.host := rfl
  exact (accounts _ _).trans (State.acctPlaced_kept (·.dev.mem.host) (fun _ _ _ => rfl) s n x)

theorem State.acctTaken_fields (s : State) (n : Nat) {x : Nat} (hx : x < 2 ^ 50) :
    (s.acctTaken n x).acctOn n = true ∧ (s.acctTaken n x).acctBase n = x * 64 ∧
      (s.acctTaken n x).flag (rAcctTableBase n) fAcctTableBaseCfgError = false := by
  have regs (u : State) (f : Acct → Acct) : (u.modAcct f).dev.regs = u.dev.regs := rfl
  obtain ⟨on, base, error⟩ := s.acctPlaced_fields n hx
  exact ⟨(State.flag_of_regs (regs _ _) _ _).trans on,
    (congrArg (· * 64) (State.fld_of_regs (regs _ _) _ _)).trans base, (State.flag_of_regs (regs _ _) _ _).trans error⟩

theorem State.since_acctTaken (s : State) (n x : Nat) :
    SMap.get (fun _ => 0) (s.acctTaken n x).dev.acct.since n = (s.originate islPort).1.key := SMap.get_set_same ..

theorem execAcctSnapshotArm_eq (v : W64) (s : State) : execAcctSnapshotArm v s = .next (
    if s.ao.tick + 10000 ≤ v.toNat ∧ s.acctPending = false then
      ((s.wr rAcctSnapshotAt v).setFlag rAcctSnapshotDone fAcctSnapshotDoneDone false).setFlag rAcctSnapshotDone
        fAcctSnapshotDonePending true
    else s.setFlag rAcctSnapshotDone fAcctSnapshotDoneRefused true) := by
  unfold execAcctSnapshotArm
  by_cases ok : s.ao.tick + 10000 ≤ v.toNat ∧ s.acctPending = false
  · rw [if_pos ok, if_neg]
    simp [ok.2, ok.1]
  · rw [if_neg ok, if_pos]
    by_contra h
    simp only [not_or, Nat.not_lt, Bool.not_eq_true] at h
    exact ok h

/-! The snapshot (R399). -/

/-- SNAPSHOTS of a tent after the next snapshot (R397). -/
def State.nextSnapshot (s : State) (n : Nat) : Nat := (SMap.get (fun _ => 0) s.dev.acct.count n + 1) % 2 ^ 32

/-- The snapshot table of a tent in the host region. -/
def State.snapshotWritten (s : State) (n : Nat) : State :=
  let b := s.acctBase n + acctTable
  let u := s.hostCopy (s.acctBase n + 64) (b + 64) (acctTable - 64)
  ((u.hostPut b 8 (u.rd rAcctSnapshotAt).toNat).hostPut (b + 8) 4 u.ao.epoch).hostPut (b + 0xC) 4 (s.nextSnapshot n)

theorem State.snapshotTent_on {s : State} {n : Nat} (on : s.acctOn n = true) : s.snapshotTent n =
    (s.snapshotWritten n).modAcct fun x => { x with count := SMap.set (fun _ => 0) x.count n (s.nextSnapshot n) } := by
  unfold State.snapshotTent
  rw [on]
  rfl

theorem State.snapshotTent_off {s : State} {n : Nat} (off : s.acctOn n = false) : s.snapshotTent n = s := by
  unfold State.snapshotTent
  rw [off]
  rfl

theorem State.hostCopy_kept {α : Type} (p : State → α) (hm : ∀ s f, p (State.modMem s f) = p s) (s : State) (a b n : Nat) :
    p (s.hostCopy a b n) = p s :=
  (hm (s.hostZero b n) fun m => { m with host := { m.host with bytes := _ } }).trans (hm s fun m => { m with host := _ })

theorem State.hostPut_kept {α : Type} (p : State → α) (hm : ∀ s f, p (State.modMem s f) = p s) (s : State) (a n x : Nat) :
    p (s.hostPut a n x) = p s := hm s fun m => { m with host := m.host.write a (leBytes n x) }

/-- A snapshot table lies in the host region alone. -/
theorem State.snapshotWritten_kept {α : Type} (p : State → α) (hm : ∀ s f, p (State.modMem s f) = p s) (s : State) (n : Nat) :
    p (s.snapshotWritten n) = p s :=
  (State.hostPut_kept p hm ..).trans ((State.hostPut_kept p hm ..).trans ((State.hostPut_kept p hm ..).trans
    (State.hostCopy_kept p hm ..)))

theorem State.count_snapshotTent (s : State) (n u : Nat) : SMap.get (fun _ => 0) (s.snapshotTent n).dev.acct.count u =
    if u = n ∧ s.acctOn n = true then s.nextSnapshot n else SMap.get (fun _ => 0) s.dev.acct.count u := by
  cases on : s.acctOn n with
  | false => simp [State.snapshotTent_off on]
  | true =>
    rw [State.snapshotTent_on on, State.modAcct_dev,
      State.snapshotWritten_kept (·.dev.acct) (fun _ _ => rfl)]
    simpa using SMap.get_set ..

theorem State.acctOn_snapshotTent (s : State) (n u : Nat) : (s.snapshotTent n).acctOn u = s.acctOn u := by
  cases on : s.acctOn n with
  | false => rw [State.snapshotTent_off on]
  | true =>
    rw [State.snapshotTent_on on]
    exact State.snapshotWritten_kept (·.acctOn u) (fun _ _ => rfl) s n

theorem State.count_snapshotTents (l : List Nat) (once : l.Nodup) (s : State) (u : Nat) :
    SMap.get (fun _ => 0) (l.foldl State.snapshotTent s).dev.acct.count u =
      if u ∈ l ∧ s.acctOn u = true then s.nextSnapshot u else SMap.get (fun _ => 0) s.dev.acct.count u := by
  induction l generalizing s with
  | nil => simp
  | cons n l ih =>
    obtain ⟨fresh, once⟩ := List.nodup_cons.1 once
    rw [List.foldl_cons, ih once, State.acctOn_snapshotTent, State.nextSnapshot, State.count_snapshotTent]
    by_cases here : u = n
    · subst here
      simp [fresh]
    · simp [here, State.nextSnapshot]

/-- Every table that is on is written, and the snapshot is done. -/
def State.snapshotDone (s : State) : State :=
  (((List.range 64).foldl State.snapshotTent s).setFlag rAcctSnapshotDone fAcctSnapshotDonePending false).setFlag
    rAcctSnapshotDone fAcctSnapshotDoneDone true

/-- The contributions that waited for the snapshot are counted, and none waits. -/
def State.lateCounted (s : State) : State :=
  s.dev.acct.late.foldl (fun u c => if u.acctOn c.tent then u.acctApply c else u) (s.modAcct fun x => { x with late := [] })

theorem execAcctSnapshotWrite_writes {s : State} (pending : s.acctPending = true)
    (settled : (s.rd rAcctSnapshotAt).toNat + 200 ≤ s.ao.tick) (hb : s.blocked islAdmit = false) (owed : s.acctOwed = false) :
    execAcctSnapshotWrite s = .next s.snapshotDone.lateCounted := by
  unfold execAcctSnapshotWrite
  rw [if_neg]
  · rfl
  · simpa [pending, hb, owed] using settled

theorem State.lateCounted_host {α : Type} (p : State → α) (hw : ∀ s a bs, p (State.hostWrite s a bs) = p s) (s : State) :
    p s.lateCounted = p (s.modAcct fun x => { x with late := [] }) := by
  unfold State.lateCounted
  refine foldl_kept p _ (fun u c => ?_) _ _
  split
  · exact State.acctApply_kept p hw u c
  · rfl

theorem State.lateCounted_kept {α : Type} (p : State → α) (hw : ∀ s a bs, p (State.hostWrite s a bs) = p s)
    (ha : ∀ s f, p (State.modAcct s f) = p s) (s : State) : p s.lateCounted = p s :=
  (State.lateCounted_host p hw s).trans (ha _ _)

theorem State.acct_lateCounted (s : State) : s.lateCounted.dev.acct = { s.dev.acct with late := [] } :=
  State.lateCounted_host (·.dev.acct) (fun _ _ _ => rfl) s

theorem State.snapshotDone_flags (s : State) : s.snapshotDone.acctPending = false ∧
    s.snapshotDone.flag rAcctSnapshotDone fAcctSnapshotDoneDone = true := by
  refine ⟨?_, State.flag_setFlag_same _ _ _ _ (by decide) rfl⟩
  unfold State.snapshotDone State.acctPending
  rw [State.flag_setFlag_apart _ _ _ _ _ (by decide) (by decide)]
  exact State.flag_setFlag_same _ _ _ _ (by decide) rfl

theorem State.snapshotDone_acct (s : State) : s.snapshotDone.dev.acct = ((List.range 64).foldl State.snapshotTent s).dev.acct := by
  unfold State.snapshotDone
  rw [State.setFlag_kept (·.dev.acct) fun _ _ _ => rfl, State.setFlag_kept (·.dev.acct) fun _ _ _ => rfl]

/-! The obligation. -/

/-- Settles O52. The control-window port stamps an area that comes on (log entry 85), a contribution is owed as log entry 51
says, and the snapshot's tick is settled 200 ticks later (log entry 21). -/
theorem shapersGatesAccounts : Obligations.ShapersGatesAccounts := by
  unfold Obligations.ShapersGatesAccounts
  refine ⟨fun s n c v hn hc used => ⟨⟨_, execShapeRateWrite_eq v hn hc used, ?rateRegs, ?rateCredit⟩,
    ⟨_, execShapeBurstWrite_eq v hn hc used, rfl, ?burstCredit⟩⟩, ?arm, ?activate, ?advance, ?enable, ?disable, ?snapshotArm,
    ?snapshotWrite⟩
  case rateRegs => exact State.writeReg_regs_congr (State.setCredit_regs ..) _ v
  case rateCredit => rw [State.tent_writeReg, State.credit_setCredit]
  case burstCredit => exact State.credit_setCredit ..
  case arm =>
    intro s a
    by_cases arms : s.GateArms a
    · refine ⟨_, execGateListArm_arms arms, ?_⟩
      unfold State.GateArms at arms
      rw [if_pos arms]
      obtain ⟨armed, regs, gate⟩ := (s.gatePending a).armGate_kept ⟨s.readGateList, a.toNat⟩
      obtain ⟨pending, at_, before⟩ := s.gatePending_fields a
      exact ⟨armed, (State.flag_of_regs regs _ _).trans pending, (State.rd_of_regs regs _).trans at_, gate.trans before⟩
    · refine ⟨_, execGateListArm_refuses arms, ?_⟩
      unfold State.GateArms at arms
      rw [if_neg arms]
  case activate =>
    intro s g armed due
    have taken : (s.gateTaken g).dev.gate = some g ∧ (s.gateTaken g).dev.gateArmed = none :=
      ⟨State.setFlag_kept (·.dev.gate) (fun _ _ _ => rfl) .., State.setFlag_kept (·.dev.gateArmed) (fun _ _ _ => rfl) ..⟩
    obtain ⟨entry, -, shut, pending⟩ := State.showGate_fields taken.1
    refine ⟨_, execGateListActivate_due armed due, (State.showGate_kept (·.dev.gate) (fun _ _ _ => rfl) _).trans taken.1,
      (State.showGate_kept (·.dev.gateArmed) (fun _ _ _ => rfl) _).trans taken.2, pending.trans ?_, entry, shut⟩
    exact State.flag_setFlag_same _ _ _ _ (by decide) rfl
  case advance =>
    intro s g hg
    obtain ⟨entry, list, shut, -⟩ := State.showGate_fields hg
    exact ⟨_, rfl, entry, list, shut, fun o ho => s.rd_showGate_other ho⟩
  case enable =>
    intro s n v hn
    refine ⟨_, execAcctEnable_eq v hn, ?_⟩
    simp only [← Bool.and_assoc]
    change if s.inHost _ acctArea = true ∧ s.acctOverlaps n _ = false then _ else _
    split
    · obtain ⟨on, base, error⟩ := s.acctTaken_fields n (getBits_lt v 6 50)
      refine ⟨on, base, error, s.since_acctTaken n _, fun x hlow hhigh => ?_⟩
      rw [State.host_acctTaken]
      exact State.byte_hostZero _ _ _ _ ⟨hlow, hhigh⟩
    · rfl
  case disable =>
    intro s n hn
    refine ⟨_, if_neg (Nat.not_le.2 hn), ?_, fun o ho => ?_⟩
    · exact (State.flag_setFlag_apart _ _ _ _ _ (by decide) (by decide)).trans
        (State.flag_setFlag_same _ _ _ _ (by decide) rfl)
    · rw [State.rd_setFlag_other _ _ _ _ _ ho, State.rd_setFlag_other _ _ _ _ _ ho]
  case snapshotArm =>
    intro s v
    refine ⟨_, execAcctSnapshotArm_eq v s, ?_⟩
    split
    · refine ⟨State.flag_setFlag_same _ _ _ _ (by decide) rfl, ?_, ?_⟩
      · rw [State.rd_setFlag_other _ _ _ _ _ (by decide), State.rd_setFlag_other _ _ _ _ _ (by decide), State.rd_wr_same]
      · exact (State.flag_setFlag_apart _ _ _ _ _ (by decide) (by decide)).trans
          (State.flag_setFlag_same _ _ _ _ (by decide) rfl)
    · rfl
  case snapshotWrite =>
    intro s pending settled hb owed
    obtain ⟨none, done⟩ := s.snapshotDone_flags
    refine ⟨_, execAcctSnapshotWrite_writes pending settled hb owed, ?_, ?_, by rw [State.acct_lateCounted], fun n hn => ?_⟩
    · exact (State.lateCounted_kept (·.acctPending) (fun _ _ _ => rfl) (fun _ _ => rfl) _).trans none
    · exact (State.lateCounted_kept (·.flag rAcctSnapshotDone fAcctSnapshotDoneDone) (fun _ _ _ => rfl)
        (fun _ _ => rfl) _).trans done
    · have count := s.count_snapshotTents (List.range 64) List.nodup_range n
      rw [← State.snapshotDone_acct] at count
      rw [State.acct_lateCounted]
      simpa [hn, State.nextSnapshot] using count

end Sys2Proof.Machine
end

section
/-! SUPPORT. The life cycle of a tent (R372 to R377, R379). -/

namespace Sys2Proof.Machine

theorem State.tentCommand_from {s : State} {n x : Nat} (hn : n < 64) (h : s.tentState n = x) (f : State → State) :
    s.tentCommand n x f = f s := by
  unfold State.tentCommand
  rw [if_neg (Nat.not_le.2 hn), if_pos h]

theorem State.tentCommand_other {s : State} {n x : Nat} (hn : n < 64) (h : s.tentState n ≠ x) (f : State → State) :
    s.tentCommand n x f = s.setFld (rTentCtl n) fTentCtlError 1 := by
  unfold State.tentCommand
  rw [if_neg (Nat.not_le.2 hn), if_neg h]
  rfl

theorem State.tentState_setTentState (s : State) (n x : Nat) : (s.setTentState n x).tentState n = x % 8 :=
  State.fld_setFld_same _ _ _ _ (by decide)

theorem State.setTentState_kept {α : Type} (p : State → α) (hw : ∀ s off v, p (State.wr s off v) = p s) (s : State)
    (n x : Nat) : p (s.setTentState n x) = p s := hw _ _ _

theorem State.tentState_of_rd {s t : State} {n : Nat} (h : t.rd (rTentCtl n) = s.rd (rTentCtl n)) :
    t.tentState n = s.tentState n := by
  unfold State.tentState State.fld
  rw [h]

theorem State.tentBays_of_rd {s t : State} {n : Nat} (h : ∀ j, j < 4 → t.rd (rTentBays n j) = s.rd (rTentBays n j)) :
    t.tentBays n = s.tentBays n := by
  unfold State.tentBays
  refine List.filter_congr fun k hk => ?_
  have hk := List.mem_range.1 hk
  unfold State.hasBay State.dieBays
  rw [h _ (by omega)]

/-! Configuration (R373). -/

theorem State.rd_resetRegs (l : List Nat) (s : State) (o : Nat) :
    (l.foldl (fun u off => u.wr off (regReset off)) s).rd o = if o ∈ l then regReset o else s.rd o := by
  induction l generalizing s with
  | nil => rfl
  | cons off l ih =>
    rw [List.foldl_cons, ih, State.rd_wr]
    by_cases here : o = off
    · subst here
      simp
    · simp [here]

theorem tentCtl_not_configReg {n : Nat} (_hn : n < 64) : ∀ o ∈ configRegs n, o ≠ rTentCtl n := by
  intro o ho
  simp only [configRegs, List.mem_append, List.mem_cons, List.mem_flatMap, List.mem_range, List.not_mem_nil, or_false] at ho
  simp only [rTentBays, rTentHbm, rTentFlash, rTentDurability, rTentBatch, rTentKeyslot, rTentQuota, rTentCairnKey0,
    rTentCairnKey1, rTentModels, rTentSave, rTentMigrateAt, rTentStatus, rGenCfg, rGenBatch, rGenStatus, rGenCounts,
    rFabTentSpan, rFabTentCollq, rShapeRate, rShapeBurst, rShapeCredit, rShapeHeld] at ho
  simp only [rTentCtl]
  omega

/-- A tent in CONFIG with the key `key`: its registers at their reset values, nothing measured, no batch waiting. -/
def State.configured (s : State) (n : Nat) (key : W128) : State :=
  let u := (configRegs n).foldl (fun u off => u.wr off (regReset off)) s
  ((u.setTent n { cairnKey := key }).setTentLog n {}).modText fun x => { x with
    batches := SMap.set (fun _ => []) x.batches n [] }

theorem execTentConfigure_free {s : State} {n : Nat} (key : W128) (hn : n < 64) (h : s.tentState n = 0) :
    execTentConfigure n key s = .next ((s.configured n key).setTentState n 1) := by
  unfold execTentConfigure
  rw [State.tentCommand_from hn h]
  rfl

theorem State.configured_fields (s : State) (n : Nat) (key : W128) : (s.configured n key).tent n = { cairnKey := key } ∧
    ∀ o ∈ configRegs n, (s.configured n key).rd o = regReset o := by
  have tent (u : State) (x : Tent) (l : MLog) (f : TextSt → TextSt) :
      (((u.setTent n x).setTentLog n l).modText f).tent n = x := State.tent_setTent_same ..
  have regs (u : State) (x : Tent) (l : MLog) (f : TextSt → TextSt) (o : Nat) :
      (((u.setTent n x).setTentLog n l).modText f).rd o = u.rd o := rfl
  unfold State.configured
  dsimp only
  refine ⟨tent _ _ _ _, fun o ho => ?_⟩
  rw [regs, State.rd_resetRegs, if_pos ho]

/-! Activation (R373, R374, R377). -/

/-- The tent has its model table, its key and full credits (R373, R377, R391). -/
def State.activating (s : State) (n m : Nat) (b : List Byte) : State :=
  let (st, u) := s.leaveA2.originate islAdmit
  let ns := u.namespaceKey n
  let key := u.tentKeyId n
  let u := u.useModels n m b
  let u := u.modTent n fun x => { x with
    activated := some st, released := none, keyId := key, cairnKey := ns, hasPending := false, cutAt := none }
  (List.range 8).foldl (fun u c => u.setCredit n c st.tick (u.burst n c * 1000000000)) u

/-- The stamp at which the tent is activated. -/
def State.activation (s : State) : Stamp := (s.leaveA2.originate islAdmit).1

theorem State.activate_eq (s : State) (n m : Nat) (b : List Byte) : s.activate n m b =
    let u := (s.activating n m b).takeBays n ((s.activating n m b).tentBays n)
    let u := (u.setTable n { u.table n with retention := none }).setFlag (rMemPanelTableBase n)
      fMemPanelTableBaseRetained false
    ((u.setBatch n).measureTent n 0x10 s.activation (u.tentConfig n)).setTentState n 2 := rfl

theorem execTentActivate_fails {s : State} {n : Nat} (hn : n < 64) (h : s.tentState n = 1) (e : s.activateError n ≠ 0) :
    execTentActivate n s = .next (s.setFld (rTentCtl n) fTentCtlError (s.activateError n)) := by
  unfold execTentActivate
  rw [State.tentCommand_from hn h]
  dsimp only
  rw [if_pos e]
  rfl

/-- Where the checks before it pass and the model table is read, the sum of HOLD_MAX decides (R374). -/
theorem execTentActivate_reads {s s1 : State} {n m : Nat} {b : List Byte} (hn : n < 64) (h : s.tentState n = 1)
    (e : s.activateError n = 0) (hb : s.blocked islAdmit = false)
    (hread : (s.setFlag (rMemPanelTableBase n) fMemPanelTableBaseRetained false).readModels n = .ok (m, b, s1)) :
    execTentActivate n s = .next (if 16384 < s.holdSum n then s.setFld (rTentCtl n) fTentCtlError 8
      else s.activate n m b) := by
  unfold execTentActivate
  rw [State.tentCommand_from hn h]
  dsimp only
  rw [if_neg (not_not_intro e), hb, hread]
  rfl

theorem State.useModels_tent (s : State) (n m : Nat) (b : List Byte) : (s.useModels n m b).tent n =
    { s.tent n with models := b, modelCount := m, modelAddr := s.fld (rTentModels n) fTentModelsAddr * 64 } := by
  unfold State.useModels
  dsimp only
  rw [State.tent_modTent_same]
  rfl

theorem State.useModels_kept {α : Type} (p : State → α) (hx : ∀ s f, p (State.modText s f) = p s)
    (ht : ∀ s n x, p (State.setTent s n x) = p s) (s : State) (n m : Nat) (b : List Byte) :
    p (s.useModels n m b) = p s := (ht _ _ _).trans (hx _ _)

theorem State.powerBays_kept {α : Type} (p : State → α) (hb : ∀ s n b, p (State.setBay s n b) = p s)
    (hi : ∀ s n i, p (State.setIsl s n i) = p s) (s : State) : p s.powerBays = p s := by
  unfold State.powerBays
  refine foldl_kept p _ (fun u n => ?_) _ _
  dsimp only
  split
  · exact (hi _ _ _).trans (hb _ _ _)
  · rfl

theorem State.leaveA2_kept {α : Type} (p : State → α) (hb : ∀ s n b, p (State.setBay s n b) = p s)
    (hi : ∀ s n i, p (State.setIsl s n i) = p s) (hm : ∀ s f, p (State.modMem s f) = p s)
    (hw : ∀ s v, p (State.wr s rPwrState v) = p s) (s : State) : p s.leaveA2 = p s := by
  unfold State.leaveA2
  split
  · exact (hm _ _).trans ((hw _ _).trans ((hw _ _).trans (State.powerBays_kept p hb hi s)))
  · rfl

theorem State.activating_kept {α : Type} (p : State → α) (hb : ∀ s n b, p (State.setBay s n b) = p s)
    (hi : ∀ s n i, p (State.setIsl s n i) = p s) (hm : ∀ s f, p (State.modMem s f) = p s)
    (hw : ∀ s v, p (State.wr s rPwrState v) = p s) (hx : ∀ s f, p (State.modText s f) = p s)
    (ht : ∀ s n x, p (State.setTent s n x) = p s) (s : State) (n m : Nat) (b : List Byte) :
    p (s.activating n m b) = p s := by
  unfold State.activating
  refine (foldl_kept p _ (fun u c => ht _ _ _) _ _).trans ((ht _ _ _).trans ((State.useModels_kept p hx ht _ n m b).trans ?_))
  exact (hi _ _ _).trans (State.leaveA2_kept p hb hi hm hw s)

/-- The credits aside, a tent that is activated has the models read, the stamp of its activation and no release. -/
theorem State.activating_tent (s : State) (n m : Nat) (b : List Byte) :
    ((s.activating n m b).tent n).models = b ∧ ((s.activating n m b).tent n).modelCount = m ∧
      ((s.activating n m b).tent n).activated = some s.activation ∧ ((s.activating n m b).tent n).released = none := by
  have credits {α : Type} (q : Tent → α) (hq : ∀ x c, q { x with credits := c } = q x) (l : List Nat) (u : State)
      (tick : Nat) : q ((l.foldl (fun u c => u.setCredit n c tick (u.burst n c * 1000000000)) u).tent n) = q (u.tent n) := by
    refine foldl_kept (fun u => q (u.tent n)) _ (fun u c => ?_) l u
    unfold State.setCredit
    rw [State.tent_modTent_same]
    exact hq _ _
  unfold State.activating
  dsimp only
  rw [credits (·.models) (fun _ _ => rfl), credits (·.modelCount) (fun _ _ => rfl), credits (·.activated) (fun _ _ => rfl),
    credits (·.released) (fun _ _ => rfl), State.tent_modTent_same, State.useModels_tent]
  exact ⟨rfl, rfl, rfl, rfl⟩

theorem State.rd_activating_bays (s : State) (n m : Nat) (b : List Byte) {j : Nat} (hj : j < 4) (hn : n < 64) :
    (s.activating n m b).rd (rTentBays n j) = s.rd (rTentBays n j) :=
  State.activating_kept (·.rd (rTentBays n j)) (fun _ _ _ => rfl) (fun _ _ _ => rfl) (fun _ _ => rfl)
    (fun u v => State.rd_wr_other _ _ _ _ (by simp only [rTentBays, rPwrState]; omega)) (fun _ _ => rfl) (fun _ _ _ => rfl) s n m b

/-- Once the bays are the tent's, activation changes registers, the tent's table and its log. -/
theorem State.activate_kept {α : Type} (p : State → α) (hm : ∀ s f, p (State.modMem s f) = p s)
    (hw : ∀ s off v, p (State.wr s off v) = p s) (hs : ∀ s f, p (State.modSec s f) = p s) (s : State) (n m : Nat)
    (b : List Byte) : p (s.activate n m b) = p ((s.activating n m b).takeBays n ((s.activating n m b).tentBays n)) := by
  rw [State.activate_eq]
  dsimp only
  rw [State.setTentState_kept p hw]
  unfold State.measureTent State.setTentLog State.setBatch
  dsimp only
  rw [hs, State.setFld_kept p hw, State.setFld_kept p hw, State.setFlag_kept p hw]
  exact hm _ _

theorem State.takeBays_kept {α : Type} (p : State → α) (hb : ∀ s n b, p (State.setBay s n b) = p s) (s : State) (n : Nat)
    (l : List Nat) : p (s.takeBays n l) = p s := foldl_kept p _ (fun _ _ => hb _ _ _) l s

/-- An activation leaves the tent ACTIVE with its models and its bays. -/
theorem State.activate_active (s : State) {n : Nat} (hn : n < 64) (m : Nat) (b : List Byte) :
    (s.activate n m b).tentState n = 2 ∧ ((s.activate n m b).tent n).models = b ∧
      ((s.activate n m b).tent n).modelCount = m ∧ ((s.activate n m b).tent n).activated = some s.activation ∧
      ((s.activate n m b).tent n).released = none ∧ ∀ k ∈ s.tentBays n, ((s.activate n m b).bay k).tent = some n := by
  have tents : (s.activate n m b).dev.tents = (s.activating n m b).dev.tents :=
    (State.activate_kept (·.dev.tents) (fun _ _ => rfl) (fun _ _ _ => rfl) (fun _ _ => rfl) s n m b).trans
      (State.takeBays_kept (·.dev.tents) (fun _ _ _ => rfl) ..)
  have bays := State.activate_kept (·.dev.bays) (fun _ _ => rfl) (fun _ _ _ => rfl) (fun _ _ => rfl) s n m b
  refine ⟨?_, ?_⟩
  · rw [State.activate_eq]
    exact State.tentState_setTentState ..
  · rw [State.tent_of_tents tents]
    obtain ⟨models, count, active, released⟩ := s.activating_tent n m b
    refine ⟨models, count, active, released, fun k hk => ?_⟩
    rw [State.bay_of_bays bays, State.bay_takeBays,
      State.tentBays_of_rd fun j hj => s.rd_activating_bays n m b hj hn, if_pos hk]

/-! The model table read anew (R377). -/

theorem execTentReloadModels_reads {s s1 : State} {n m : Nat} {b : List Byte} (hn : n < 64) (h : s.tentState n = 2)
    (room : s.tentLogFull n = false) (hb : s.blocked islAdmit = false) (hread : s.readModels n = .ok (m, b, s1)) :
    execTentReloadModels n s = .next (((s1.originate islAdmit).2.useModels n m b).measureTent n 0x12
      (s1.originate islAdmit).1 (Config.sha3 b)) := by
  unfold execTentReloadModels
  rw [State.tentCommand_from hn h]
  dsimp only
  rw [room, hb, hread]
  rfl

/-! Reset (R375). -/

/-- The requests of the tent end as if a CANCEL had been decided against them at the stamp `r`. -/
def State.requestsReset (s : State) (r : Stamp) (n : Nat) : State :=
  ((s.allReqs.filter (·.tent == n)).map (·.seq)).foldl (fun u k => u.resetRequest r k) s

/-- The tent is RESETTING and its held descriptors are rejected. -/
def State.resetBegun (s : State) (n : Nat) : State :=
  let u := ((s.setTentState n 3).originate islAdmit).2
  (u.heldOf n).foldl (fun u f => u.reject f 7) (u.modAdm fun a => { a with held := a.held.filter fun f => dTent f.bytes != n })

/-- The stamp of the reset. -/
def State.resetStamp (s : State) (n : Nat) : Stamp := ((s.setTentState n 3).originate islAdmit).1

/-- Nothing of the tent runs any more, and its requests have ended. -/
def State.resetEnded (s : State) (n : Nat) : State :=
  ((((s.resetBegun n).requestsReset (s.resetStamp n) n).lanternDiscardTent n).tableDiscardTent n).modText fun x => { x with
    loops := x.loops.filter fun e => e.1 / 256 != n }

theorem execTentReset_active {s : State} {n : Nat} (hn : n < 64) (h : s.tentState n = 2) (hb : s.blocked islAdmit = false) :
    execTentReset n s = .next ((((s.resetEnded n).tentBays n).foldl (fun u k => u.condemnBay k) (s.resetEnded n)).resetOver n) := by
  unfold execTentReset
  rw [State.tentCommand_from hn h]
  dsimp only
  rw [hb]
  rfl

theorem State.resetRequest_kept {α : Type} (p : State → α) (hq : ∀ s n r, p (State.setReq s n r) = p s)
    (hx : ∀ s f, p (State.modText s f) = p s) (s : State) (r : Stamp) (k : Nat) : p (s.resetRequest r k) = p s := by
  unfold State.resetRequest
  split
  · rfl
  · split
    · rfl
    · split
      · exact State.modReq_kept p hq ..
      · exact (hx _ _).trans (State.modReq_kept p hq ..)

/-- Ending the tent's work changes requests, texts, Lantern and the table engines. -/
theorem State.resetEnded_kept {α : Type} (p : State → α) (hq : ∀ s n r, p (State.setReq s n r) = p s)
    (hx : ∀ s f, p (State.modText s f) = p s) (hl : ∀ s f, p (State.modLantern s f) = p s)
    (hb : ∀ s f, p (State.modTables s f) = p s) (s : State) (n : Nat) : p (s.resetEnded n) = p (s.resetBegun n) :=
  (hx _ _).trans ((hb _ _).trans ((hl _ _).trans (foldl_kept p _ (fun u k => State.resetRequest_kept p hq hx u _ k) _ _)))

theorem State.held_rejects (l : List Fetched) (s : State) (reason : Nat) :
    (l.foldl (fun u f => u.reject f reason) s).dev.adm.held = s.dev.adm.held ∧
      (l.foldl (fun u f => u.reject f reason) s).dev.adm.requests = s.dev.adm.requests := by
  constructor
  · exact foldl_kept (·.dev.adm.held) _ (fun u f => by rw [State.reject_adm]) l s
  · exact foldl_kept (·.dev.adm.requests) _ (fun u f => by rw [State.reject_adm]) l s

theorem execTentAbort_config {s : State} {n : Nat} (hn : n < 64) (h : s.tentState n = 1) :
    execTentAbort n s = .next (s.setTentState n 0) :=
  congrArg Host.Outcome.next (State.tentCommand_from hn h _)

theorem State.setTentState_adm (s : State) (n x : Nat) : (s.setTentState n x).dev.adm = s.dev.adm := (rfl)

theorem State.held_resetBegun (s : State) (n : Nat) :
    (s.resetBegun n).dev.adm.held = s.dev.adm.held.filter fun f => dTent f.bytes != n := by
  unfold State.resetBegun
  dsimp only
  rw [(State.held_rejects _ _ _).1, State.modAdm_dev]
  dsimp only
  rw [State.originate_adm, State.setTentState_adm]

theorem State.req_resetBegun (s : State) (n k : Nat) : (s.resetBegun n).req k = s.req k := by
  unfold State.resetBegun State.req
  dsimp only
  rw [(State.held_rejects _ _ _).2, State.modAdm_dev]
  dsimp only
  rw [State.originate_adm, State.setTentState_adm]

theorem State.rd_resetBegun (s : State) (n : Nat) {o : Nat} (hj : o ≠ rJrnlStatus) (h : o < 0x380000) :
    (s.resetBegun n).rd o = (s.setTentState n 3).rd o :=
  foldl_kept (·.rd o) _ (fun u f => State.rd_reject u f 7 hj h) _ _

theorem State.resetBegun_bay (s : State) (n k : Nat) : (s.resetBegun n).bay k = s.bay k := by
  have bays (u : State) (f : Fetched) : (u.reject f 7).dev.bays = u.dev.bays := by
    unfold State.reject
    dsimp only
    rw [State.contribute_kept (·.dev.bays) (fun _ _ _ => rfl) (fun _ _ => rfl)]
    exact State.countEvent_kept (·.dev.bays) (fun _ _ _ => rfl) _ _ _ _ _ _ _ _
  have begun (u : State) (f : Admit → Admit) : ((u.originate islAdmit).2.modAdm f).dev.bays = u.dev.bays := rfl
  refine State.bay_of_bays ?_ k
  unfold State.resetBegun
  dsimp only
  rw [foldl_kept (·.dev.bays) _ bays, begun, State.setTentState_kept (·.dev.bays) fun _ _ _ => rfl]

/-- A request that the reset at `r` is to end, or has ended. -/
def Request.ResetAt (r : Stamp) (q : Request) (past : Bool) : Prop :=
  q.ended = some (0x10, r) ∨ past = false ∧ q.finalDone = false ∧ q.ended = none ∧ q.closing = false

theorem Request.cancel_open {q : Request} {r : Stamp} (he : q.ended = none) (hc : q.closing = false) :
    (q.cancel r).ended = some (0x10, r) := by
  unfold Request.cancel Request.end_
  rw [he, hc]
  rfl

theorem Stamp.before_self (r : Stamp) : r.before r = false := decide_eq_false (Nat.lt_irrefl _)

theorem Request.cancel_again {q : Request} {r : Stamp} (he : q.ended = some (0x10, r)) : q.cancel r = q := by
  unfold Request.cancel Request.end_
  rw [he]
  dsimp only
  rw [Stamp.before_self]
  rfl

theorem State.req_dropHolds (s : State) (n k : Nat) : (s.dropHolds n).req k = s.req k := (rfl)

/-- The reset ends its own request, once. -/
theorem State.req_resetRequest {s : State} {r : Stamp} {k j : Nat} {q : Request} {past : Bool} (h : s.req k = some q)
    (hq : q.ResetAt r past) : ∃ p, (s.resetRequest r j).req k = some p ∧ p.ResetAt r (past || j == k) := by
  by_cases own : j = k
  · subst own
    rcases hq with ended | ⟨-, open_, unended, closing⟩
    · have late : (q.ended.any fun e => e.2.before r) = false := by
        rw [ended, Option.any_some, Stamp.before_self]
      unfold State.resetRequest
      rw [h]
      dsimp only
      split
      · exact ⟨q, h, .inl ended⟩
      · rw [late]
        refine ⟨q, ?_, .inl ended⟩
        rw [if_neg Bool.false_ne_true, State.req_dropHolds, State.req_modReq_of_req h, Request.cancel_again ended]
    · refine ⟨q.cancel r, ?_, .inl (Request.cancel_open unended closing)⟩
      unfold State.resetRequest
      rw [h]
      dsimp only
      rw [open_, unended, Option.any_none, if_neg Bool.false_ne_true, if_neg Bool.false_ne_true, State.req_dropHolds,
        State.req_modReq_of_req h]
  · refine ⟨q, ?_, ?_⟩
    · unfold State.resetRequest
      split
      · exact h
      · split
        · exact h
        · split
          · exact (State.req_modReq_other _ _ _ (Ne.symm own)).trans h
          · exact (State.req_dropHolds ..).trans ((State.req_modReq_other _ _ _ (Ne.symm own)).trans h)
    · rwa [beq_eq_false_iff_ne.2 own, Bool.or_false]

theorem State.req_resetRequests (l : List Nat) {s : State} {r : Stamp} {k : Nat} {q : Request} {past : Bool}
    (h : s.req k = some q) (hq : q.ResetAt r past) :
    ∃ p, (l.foldl (fun u j => u.resetRequest r j) s).req k = some p ∧ p.ResetAt r (past || l.contains k) := by
  induction l generalizing s q past with
  | nil => exact ⟨q, h, by simpa using hq⟩
  | cons j l ih =>
    obtain ⟨p, hp, hpast⟩ := State.req_resetRequest (j := j) h hq
    obtain ⟨p', hp', hpast'⟩ := ih hp hpast
    refine ⟨p', hp', ?_⟩
    rw [List.contains_cons, ← Bool.or_assoc]
    rwa [Bool.beq_comm] at hpast'

theorem SMap.mem_of_get {α : Type} (d : Nat → α) (m : SMap α) (k : Nat) (h : SMap.get d m k ≠ d k) :
    (k, SMap.get d m k) ∈ m := by
  induction m with
  | nil => exact absurd rfl h
  | cons e m ih =>
    obtain ⟨i, x⟩ := e
    rw [SMap.get] at h ⊢
    by_cases here : i = k
    · subst here
      rw [if_pos rfl]
      exact List.mem_cons_self
    · rw [if_neg here] at h ⊢
      exact List.mem_cons_of_mem _ (ih h)

theorem State.mem_allReqs {s : State} {k : Nat} {r : Request} (h : s.req k = some r) : r ∈ s.allReqs := by
  have listed := SMap.mem_of_get (fun _ => none) s.dev.adm.requests k (by
    have some_ := h
    unfold State.req at some_
    rw [some_]
    exact Option.some_ne_none r)
  refine List.mem_filterMap.2 ⟨_, listed, h⟩

/-- Every open request of the tent ends CANCELLED at the reset stamp. -/
theorem State.req_resetEnded {s : State} {n k : Nat} {r : Request} (h : s.req k = some r) (hseq : r.seq = k)
    (ht : r.tent = n) (hopen : r.finalDone = false) (hend : r.ended = none) (hc : r.closing = false) :
    ∃ p, (s.resetEnded n).req k = some p ∧ p.ended = some (0x10, s.resetStamp n) := by
  have begun : (s.resetBegun n).req k = some r := (s.req_resetBegun n k).trans h
  have listed : k ∈ (((s.resetBegun n).allReqs.filter (·.tent == n)).map (·.seq)) :=
    List.mem_map.2 ⟨r, List.mem_filter.2 ⟨State.mem_allReqs begun, beq_iff_eq.2 ht⟩, hseq⟩
  obtain ⟨p, hp, past⟩ := State.req_resetRequests (((s.resetBegun n).allReqs.filter (·.tent == n)).map (·.seq))
    (r := s.resetStamp n) (past := false) begun (.inr ⟨rfl, hopen, hend, hc⟩)
  rw [List.contains_iff_mem.2 listed] at past
  have discarded (u : State) (f : TextSt → TextSt) :
      (((u.lanternDiscardTent n).tableDiscardTent n).modText f).req k = u.req k := rfl
  rcases past with ended | ⟨no, -⟩
  · exact ⟨p, (discarded _ _).trans hp, ended⟩
  · cases no

/-- The bays of the tent are to be reset, and its registers are as the start of the reset left them. -/
def State.baysCondemned (s : State) (n : Nat) : State :=
  ((s.resetEnded n).tentBays n).foldl (fun u k => u.condemnBay k) (s.resetEnded n)

theorem State.resetOver_kept {α : Type} (p : State → α) (hw : ∀ s off v, p (State.wr s off v) = p s) (s : State) (n : Nat) :
    p (s.resetOver n) = p s := by
  unfold State.resetOver
  split
  · exact hw _ _ _
  · rfl

section
variable {s : State} {n : Nat} (hn : n < 64) (named : s.TentsNamed)
include hn

theorem State.rd_resetEnded_ctl : (s.resetEnded n).tentState n = 3 := by
  have begun : (s.resetBegun n).rd (rTentCtl n) = (s.setTentState n 3).rd (rTentCtl n) :=
    s.rd_resetBegun n (by simp only [rTentCtl, rJrnlStatus]; omega) (by simp only [rTentCtl]; omega)
  have ended := State.resetEnded_kept (·.rd (rTentCtl n)) (fun _ _ _ => rfl) (fun _ _ => rfl) (fun _ _ => rfl)
    (fun _ _ => rfl) s n
  exact (State.tentState_of_rd (ended.trans begun)).trans (State.tentState_setTentState ..)

theorem State.tentBays_resetEnded : (s.resetEnded n).tentBays n = s.tentBays n := by
  refine State.tentBays_of_rd fun j hj => ?_
  have apart : rTentBays n j ≠ rTentCtl n := by simp only [rTentBays, rTentCtl]; omega
  refine (State.resetEnded_kept (·.rd (rTentBays n j)) (fun _ _ _ => rfl) (fun _ _ => rfl) (fun _ _ => rfl)
    (fun _ _ => rfl) s n).trans ((s.rd_resetBegun n ?_ ?_).trans (State.rd_setFld_other _ _ _ _ _ apart))
  · simp only [rTentBays, rJrnlStatus]; omega
  · simp only [rTentBays]; omega

theorem State.bay_baysCondemned (k : Nat) : (s.baysCondemned n).bay k =
    if k ∈ s.tentBays n then (s.bay k).condemned else s.bay k := by
  unfold State.baysCondemned
  rw [State.bay_condemnBays, State.tentBays_resetEnded hn, State.bay_of_bays (State.resetEnded_kept (·.dev.bays)
    (fun _ _ _ => rfl) (fun _ _ => rfl) (fun _ _ => rfl) (fun _ _ => rfl) s n), State.resetBegun_bay]

include named

omit hn in
theorem State.rd_baysCondemned {o : Nat} (ho : ∀ u, u < 64 → o ≠ rTentStatus u) :
    (s.baysCondemned n).rd o = (s.resetEnded n).rd o := by
  refine State.condemnBays_kept (·.rd o) (fun _ _ => rfl) (fun _ _ _ => rfl) (fun _ _ _ => rfl) _ fun k u hk v c => ?_
  refine State.rd_addFld_other _ _ _ _ (ho u (named k u ?_))
  rwa [State.bay_of_bays (State.resetEnded_kept (·.dev.bays) (fun _ _ _ => rfl) (fun _ _ => rfl) (fun _ _ => rfl)
    (fun _ _ => rfl) s n), State.resetBegun_bay] at hk

/-- A tent without bays is ACTIVE again at once; any other waits for the reset of its bays. -/
theorem State.tentState_reset_bays :
    ((s.baysCondemned n).resetOver n).tentState n = if s.tentBays n = [] then 2 else 3 := by
  have apart (u : Nat) : rTentCtl n ≠ rTentStatus u := by simp only [rTentCtl, rTentStatus]; omega
  have resetting : (s.baysCondemned n).tentState n = 3 :=
    (State.tentState_of_rd (State.rd_baysCondemned named fun u _ => apart u)).trans (State.rd_resetEnded_ctl hn)
  have bays : (s.baysCondemned n).tentBays n = s.tentBays n :=
    (State.tentBays_of_rd fun j hj => State.rd_baysCondemned named fun u _ => tentStatus_ne_tentBays hj).trans
      (State.tentBays_resetEnded hn)
  unfold State.resetOver
  rw [bays]
  cases hl : s.tentBays n with
  | nil =>
    rw [if_pos ⟨resetting, rfl⟩, if_pos rfl]
    exact State.tentState_setTentState ..
  | cons k l =>
    have due : ((s.baysCondemned n).bay k).resetDue = true := by
      rw [State.bay_baysCondemned hn, if_pos (by rw [hl]; exact List.mem_cons_self)]
      rfl
    rw [if_neg (by simp [due]), resetting, if_neg (List.cons_ne_nil k l)]

end

/-- What a reset of an ACTIVE tent leaves (R375). -/
theorem State.reset_adm (s : State) (n : Nat) : ((s.baysCondemned n).resetOver n).dev.adm = (s.resetEnded n).dev.adm :=
  (State.resetOver_kept (·.dev.adm) (fun _ _ _ => rfl) _ n).trans (State.condemnBays_kept (·.dev.adm) (fun _ _ => rfl)
    (fun _ _ _ => rfl) (fun _ _ _ => rfl) _ fun _ _ _ _ _ => State.addFld_adm ..)

theorem State.held_resetEnded (s : State) (n : Nat) :
    (s.resetEnded n).dev.adm.held = s.dev.adm.held.filter fun f => dTent f.bytes != n :=
  (State.resetEnded_kept (·.dev.adm.held) (fun _ _ _ => rfl) (fun _ _ => rfl) (fun _ _ => rfl) (fun _ _ => rfl) s n).trans
    (s.held_resetBegun n)

/-! Release (R376). -/

theorem execTentRelease_active {s : State} {n : Nat} (hn : n < 64) (h : s.tentState n = 2) (hb : s.blocked islAdmit = false) :
    execTentRelease n s = .next (((s.originate islAdmit).2.modTent n fun x => { x with
      released := some (s.originate islAdmit).1 }).setTentState n 4) := by
  unfold execTentRelease
  rw [State.tentCommand_from hn h]
  dsimp only
  rw [hb]
  rfl

theorem execTentReleaseDrained_drained {s : State} {n : Nat} (hn : n < 64) (h : s.tentState n = 4)
    (drains : (s.tent n).drained = false) (hnone : s.requestCount n = 0) :
    execTentReleaseDrained n s = .next ((s.tentBays n).foldl (fun u k => u.condemnBay k)
      (s.modTent n fun x => { x with drained := true })) := by
  unfold execTentReleaseDrained
  rw [if_neg]
  simpa [h, drains, hnone] using hn

theorem execTentFree_frees {s : State} {n : Nat} (hn : n < 64) (h : s.tentState n = 4) (drained : (s.tent n).drained = true)
    (gone : ∀ k, k < 256 → (s.bay k).tent ≠ some n) (clear : s.tentRegistered n = false) :
    execTentFree n s = .next ((s.modText fun x => { x with cairn := x.cairn.filter (·.tent != n) }).setTentState n 0) := by
  have none_ : ((List.range 256).any fun k => (s.bay k).tent == some n) = false := by
    simpa [List.any_eq_false] using gone
  unfold execTentFree
  rw [if_neg]
  rw [none_, clear, drained]
  simpa [h] using hn

/-! TENT_HBM (R372, R379). -/

/-- ERROR of a tent decides no quota. -/
theorem State.tentState_tentError (s : State) (n e u : Nat) : (s.tentError n e).tentState u = s.tentState u := by
  unfold State.tentError State.tentState
  by_cases same : rTentCtl u = rTentCtl n
  · rw [same]
    exact State.fld_setFld_apart _ _ _ _ _ (by decide) (by decide)
  · exact State.fld_setFld_other _ _ _ _ _ _ same

theorem State.fld_tentHbm_tentError (s : State) (n e u : Nat) (f : Nat × Nat) :
    (s.tentError n e).fld (rTentHbm u) f = s.fld (rTentHbm u) f :=
  State.fld_setFld_other _ _ _ _ _ _ (by simp only [rTentHbm, rTentCtl]; omega)

theorem State.tentError_mem (s : State) (n e : Nat) : (s.tentError n e).dev.mem = s.dev.mem := (rfl)
theorem State.tentError_desc (s : State) (n e : Nat) : (s.tentError n e).dev.desc = s.dev.desc := (rfl)

theorem State.reservedOn_tentError (s : State) (n e σ t : Nat) : (s.tentError n e).reservedOn σ t = s.reservedOn σ t := by
  have state (u : Nat) : (s.tentError n e).fld (rTentCtl u) fTentCtlState = s.fld (rTentCtl u) fTentCtlState :=
    s.tentState_tentError n e u
  have held (u : Nat) : (s.tentError n e).heldOn σ u = s.heldOn σ u := by
    unfold State.heldOn
    rw [State.tentError_mem]
  have table (u : Nat) : (s.tentError n e).table u = s.table u := by
    unfold State.table
    rw [State.tentError_mem]
  unfold State.reservedOn State.reservedBy State.tentStacks State.quota
  simp only [held, state, State.fld_tentHbm_tentError, table]

theorem State.tentPanels_tentError (s : State) (n e σ : Nat) : (s.tentError n e).tentPanels σ = s.tentPanels σ := by
  unfold State.tentPanels
  rw [State.tentError_mem]
  rfl

theorem State.quotaFits_tentError (s : State) (n e t q : Nat) : (s.tentError n e).quotaFits t q = s.quotaFits t q := by
  unfold State.quotaFits State.tentStacks
  simp only [State.fld_tentHbm_tentError, State.reservedOn_tentError, State.tentPanels_tentError, State.tentError_desc]

theorem State.residentCount_tentError (s : State) (n e t : Nat) : (s.tentError n e).residentCount t = s.residentCount t := by
  unfold State.residentCount State.table
  rw [State.tentError_mem]

/-- A quota `q` that the stacks can supply, or that does not rise and divides evenly, and that holds what is resident. -/
def State.quotaTaken (s : State) (n q : Nat) : Prop :=
  (s.quotaFits n q = true ∨ (q ≤ s.quota n ∧ q % (bitList 12 (s.tentStacks n)).length = 0)) ∧ s.residentCount n ≤ q

theorem State.quotaTaken_tentError (s : State) (n e q : Nat) : (s.tentError n e).quotaTaken n q ↔ s.quotaTaken n q := by
  unfold State.quotaTaken State.quota State.tentStacks
  rw [State.quotaFits_tentError, State.residentCount_tentError, State.fld_tentHbm_tentError, State.fld_tentHbm_tentError]

/-- ERROR tells of a write that would change the stacks or INTERLEAVE of a tent that is not in CONFIG. -/
def State.hbmChecked (s : State) (n : Nat) (v : W64) : State :=
  if getBits v 24 12 ≠ s.tentStacks n ∨ getBits v 36 1 ≠ s.fld (rTentHbm n) fTentHbmInterleave then s.tentError n 1 else s

theorem execQuotaWrite_taken {s : State} {n : Nat} {v : W64} (hn : n < 64) (used : 2 ≤ s.tentState n)
    (taken : s.quotaTaken n (getBits v 0 24)) :
    execQuotaWrite n v s = .next ((s.hbmChecked n v).setFld (rTentHbm n) fTentHbmQuota (getBits v 0 24)) := by
  have still : (s.hbmChecked n v).quotaTaken n (getBits v 0 24) := by
    unfold State.hbmChecked
    split
    · exact (s.quotaTaken_tentError n 1 _).2 taken
    · exact taken
  unfold State.quotaTaken at still
  unfold execQuotaWrite
  rw [if_neg (by omega), if_neg (by omega), if_neg (by omega)]
  exact if_pos still

theorem State.fld_hbmChecked (s : State) (n : Nat) (v : W64) (f : Nat × Nat) :
    (s.hbmChecked n v).fld (rTentHbm n) f = s.fld (rTentHbm n) f := by
  unfold State.hbmChecked
  split
  · exact s.fld_tentHbm_tentError n 1 n f
  · rfl

/-! The obligation. -/

/-- Settles O50, command by command. Stamps come from the admission unit (log entry 74), a quota that does not rise is taken
where it divides evenly (log entry 76), a tent without bays is reset at once (log entry 79), and its Cairn blocks go when it is
FREE (log entry 81). -/
theorem tentLifeCycle : Obligations.TentLifeCycle := by
  unfold Obligations.TentLifeCycle
  refine ⟨?state, ?configure, ?abort, fun s n hn h => ⟨fun e => execTentActivate_fails hn h e, ?activate⟩, ?reload, ?reset,
    ?release, ?drained, ?free, fun s n v hn => ⟨?quotaConfig, ?quota⟩⟩
  case state =>
    intro s n key e he hn other
    simp only [List.mem_cons, List.not_mem_nil, or_false] at he
    rcases he with rfl | rfl | rfl | rfl | rfl | rfl <;> exact congrArg Host.Outcome.next (State.tentCommand_other hn other _)
  case configure =>
    intro s n key hn h
    obtain ⟨tent, regs⟩ := s.configured_fields n key
    refine ⟨_, execTentConfigure_free key hn h, State.tentState_setTentState .., ?_, fun o ho => ?_⟩
    · exact (State.setTentState_kept (·.tent n) (fun _ _ _ => rfl) ..).trans tent
    · exact (State.rd_setFld_other _ _ _ _ _ (tentCtl_not_configReg hn o ho)).trans (regs o ho)
  case abort =>
    intro s n hn h
    exact ⟨_, execTentAbort_config hn h, State.tentState_setTentState ..,
      fun o ho => State.rd_setFld_other _ _ _ _ _ ho⟩
  case activate =>
    intro e hb m b s1 hread
    have runs := execTentActivate_reads hn h e hb hread
    split
    · next many => exact runs.trans (congrArg _ (if_pos many))
    · next fits =>
      obtain ⟨active, models, count, stamp, released, bays⟩ := s.activate_active hn m b
      exact ⟨_, runs.trans (congrArg _ (if_neg fits)), active, models, count, ⟨_, stamp, rfl⟩, released, bays⟩
  case reload =>
    intro s n m b s1 hn h room hb hread
    have models := ((s1.originate islAdmit).2).useModels_tent n m b
    exact ⟨_, execTentReloadModels_reads hn h room hb hread, congrArg Tent.models models, congrArg Tent.modelCount models⟩
  case reset =>
    intro s n hn h hb named seqs
    have adm := s.reset_adm n
    refine ⟨_, execTentReset_active hn h hb, State.tentState_reset_bays hn named, fun k hk => ?_, fun f hf => ?_, ?_⟩
    · have condemned : ((s.baysCondemned n).resetOver n).bay k = (s.bay k).condemned :=
        (State.bay_of_bays (State.resetOver_kept (·.dev.bays) (fun _ _ _ => rfl) _ n) k).trans
          ((State.bay_baysCondemned hn k).trans (if_pos hk))
      change (((s.baysCondemned n).resetOver n).bay k).resetDue = true ∧ (((s.baysCondemned n).resetOver n).bay k).crews = []
      rw [condemned]
      exact ⟨rfl, rfl⟩
    · change f ∈ ((s.baysCondemned n).resetOver n).dev.adm.held at hf
      rw [adm, State.held_resetEnded] at hf
      simpa using (List.mem_filter.1 hf).2
    · intro k r hr ht hopen hend hc
      obtain ⟨p, hp, ended⟩ := State.req_resetEnded hr (seqs k r hr) ht hopen hend hc
      exact ⟨p, _, (State.req_of_adm adm k).trans hp, ended, rfl⟩
  case release =>
    intro s n hn h hb
    refine ⟨_, execTentRelease_active hn h hb, State.tentState_setTentState .., ?_⟩
    rw [State.setTentState_kept (·.tent n) fun _ _ _ => rfl, State.tent_modTent_same]
  case drained =>
    intro s n hn h drains hnone
    refine ⟨_, execTentReleaseDrained_drained hn h drains hnone, ?_, fun k hk => ?_⟩
    · have tents := State.condemnBays_kept (·.dev.tents) (fun _ _ => rfl) (fun _ _ _ => rfl) (fun _ _ _ => rfl) (s.tentBays n)
        (s := s.modTent n fun x => { x with drained := true })
        fun _ _ _ v _ => State.addFld_kept (·.dev.tents) (fun _ _ _ => rfl) v _ _ _
      rw [State.tent_of_tents tents, State.tent_modTent_same]
    · rw [State.bay_condemnBays, if_pos hk]
      rfl
  case free =>
    intro s n hn h drained gone clear
    refine ⟨_, execTentFree_frees hn h drained gone clear, State.tentState_setTentState .., fun b hb => ?_⟩
    rw [State.setTentState_kept (·.dev.text) fun _ _ _ => rfl] at hb
    simpa using (List.mem_filter.1 hb).2
  case quotaConfig =>
    intro h
    change execQuotaWrite n v s = _
    unfold execQuotaWrite
    rw [if_neg (by omega), if_neg (by omega), if_pos h]
  case quota =>
    intro used fits resident
    refine ⟨_, execQuotaWrite_taken hn used ⟨fits, resident⟩, ?_, ?_⟩
    · exact (State.fld_setFld_same _ _ _ _ (by decide)).trans (Nat.mod_eq_of_lt (getBits_lt v 0 24))
    · exact (State.fld_setFld_apart _ _ _ _ _ (by decide) (by decide)).trans (s.fld_hbmChecked n v _)

end Sys2Proof.Machine
end

section
/-! SUPPORT. What a fabric transaction of this package leaves unchanged (R441, R445). -/

namespace Sys2Proof.Machine

theorem routePrimary_lt (e : W64) : routePrimary e < 16 := getBits_lt e _ 4

section
variable {α : Type} (p : State → α) (hf : ∀ s f, p (State.modFab s f) = p s)
  (he : ∀ s l, l < 16 → p (State.addFld s (rFabLinkErrs l) fFabLinkErrsDropped 1) = p s)
include hf

theorem State.queueFlit_kept (s : State) (l : Nat) (link : Option Nat) (f : Flit) : p (s.queueFlit l link f) = p s := by
  unfold State.queueFlit State.modLink State.setLink
  exact hf _ _

theorem State.linkSend_kept (s : State) (l : Nat) (t : Txn) : p (s.linkSend l t) = p s :=
  foldl_kept p _ (fun s f => State.queueFlit_kept p hf s l none f) _ _

include he

theorem State.dropFlit_kept (s : State) (f : Flit) : p (s.dropFlit f) = p s := by
  unfold State.dropFlit
  dsimp only
  split
  · split
    · rw [hf, he _ _ (routePrimary_lt _)]
    · exact he _ _ (routePrimary_lt _)
  · exact he _ _ (routePrimary_lt _)

/-- A flit goes to a link, to a hold, or is counted as dropped. -/
theorem State.sendFlit_kept (s : State) (link : Option Nat) (f : Flit) : p (s.sendFlit link f) = p s := by
  unfold State.sendFlit
  dsimp only
  split
  · rfl
  · split
    · exact hf _ _
    · split
      · unfold State.modLink State.setLink
        exact hf _ _
      · split
        · exact State.queueFlit_kept p hf ..
        · exact State.dropFlit_kept p hf he ..

theorem State.fabSend_kept (s : State) (t : Txn) : p (s.fabSend t) = p s := by
  unfold State.fabSend
  split
  · exact hf _ _
  · exact foldl_kept p _ (fun s f => State.sendFlit_kept p hf he s none f) _ _

theorem State.mirrorSend_kept (hi : ∀ s n i, p (State.setIsl s n i) = p s) (s : State) (r : JRec) :
    p (s.mirrorSend r) = p s := by
  unfold State.mirrorSend
  split
  · exact (State.fabSend_kept p hf he _ _).trans (State.originate_kept p hi s _)
  · rfl

end

theorem State.addFld_jrnl (s : State) (off : Nat) (f : Nat × Nat) (n : Nat) :
    (s.addFld off f n).dev.jrnl = s.dev.jrnl := (rfl)

@[simp] theorem State.fabSend_jrnl (s : State) (t : Txn) : (s.fabSend t).dev.jrnl = s.dev.jrnl :=
  State.fabSend_kept (·.dev.jrnl) (fun _ _ => rfl) (fun s _ _ => s.addFld_jrnl _ _ _) s t
@[simp] theorem State.mirrorSend_jrnl (s : State) (r : JRec) : (s.mirrorSend r).dev.jrnl = s.dev.jrnl :=
  State.mirrorSend_kept (·.dev.jrnl) (fun _ _ => rfl) (fun s _ _ => s.addFld_jrnl _ _ _) (fun _ _ _ => rfl) s r
@[simp] theorem State.mirrorSend_adm (s : State) (r : JRec) : (s.mirrorSend r).dev.adm = s.dev.adm :=
  State.mirrorSend_kept (·.dev.adm) (fun _ _ => rfl) (fun s _ _ => s.addFld_adm _ _ _) (fun _ _ _ => rfl) s r

/-- A register below the fabric's reads the same after a send. -/
theorem State.rd_dropped_below (s : State) (l : Nat) {o : Nat} (h : o < 0x100100) :
    (s.addFld (rFabLinkErrs l) fFabLinkErrsDropped 1).rd o = s.rd o :=
  State.rd_addFld_other _ _ _ _ (by unfold rFabLinkErrs; omega)
theorem State.rd_fabSend_below (s : State) (t : Txn) {o : Nat} (h : o < 0x100100) : (s.fabSend t).rd o = s.rd o :=
  State.fabSend_kept (·.rd o) (fun _ _ => rfl) (fun s l _ => s.rd_dropped_below l h) s t

end Sys2Proof.Machine
end

section
/-! SUPPORT. The journal unit: appends, the failure of an ADMIT, group writes, the mirror and the host's lease (R403, R407 to
R416, R428 to R430, R454). -/

namespace Sys2Proof.Machine

@[simp] theorem State.flag_modJrnl (s : State) (f : Journal → Journal) (o : Nat) (g : Nat × Nat) :
    (s.modJrnl f).flag o g = s.flag o g := (rfl)

theorem State.flag_of_rd {s t : State} {o : Nat} (h : t.rd o = s.rd o) (f : Nat × Nat) : t.flag o f = s.flag o f := by
  unfold State.flag State.fld
  rw [h]

/-! Room in the local log (R416). -/

/-- Trimming and carrying change the records of the log and JRNL_HEAD alone. -/
theorem State.makeRoom_kept {α : Type} (p : State → α)
    (hl : ∀ s (l : List JRec), p (State.modJrnl s fun j => { j with log := l }) = p s)
    (hw : ∀ s off v, p (State.wr s off v) = p s) (s : State) (n fuel : Nat) : p (s.makeRoom n fuel) = p s := by
  induction fuel generalizing s with
  | zero => rfl
  | succ fuel ih =>
    unfold State.makeRoom
    split
    · rfl
    · split
      · rfl
      · split
        · exact (ih _).trans (hl _ _)
        · exact (ih _).trans ((hw _ _ _).trans (hl _ _))

/-- The log after a record of `n` bytes has found its room. -/
def State.roomed (s : State) (n : Nat) : State := s.trimLog.makeRoom n (s.trimLog.dev.jrnl.log.length + 1)

theorem State.roomed_kept {α : Type} (p : State → α)
    (hl : ∀ s (l : List JRec), p (State.modJrnl s fun j => { j with log := l }) = p s)
    (hw : ∀ s off v, p (State.wr s off v) = p s) (s : State) (n : Nat) : p (s.roomed n) = p s :=
  (State.makeRoom_kept p hl hw _ _ _).trans (hl s (s.dev.jrnl.log.dropWhile s.releasable))

@[simp] theorem State.roomed_adm (s : State) (n : Nat) : (s.roomed n).dev.adm = s.dev.adm :=
  State.roomed_kept (·.dev.adm) (fun _ _ => rfl) (fun _ _ _ => rfl) s n
@[simp] theorem State.roomed_nextId (s : State) (n : Nat) : (s.roomed n).dev.jrnl.nextId = s.dev.jrnl.nextId :=
  State.roomed_kept (·.dev.jrnl.nextId) (fun _ _ => rfl) (fun _ _ _ => rfl) s n
@[simp] theorem State.roomed_sent (s : State) (n : Nat) : (s.roomed n).dev.jrnl.sent = s.dev.jrnl.sent :=
  State.roomed_kept (·.dev.jrnl.sent) (fun _ _ => rfl) (fun _ _ _ => rfl) s n

/-! Appends (R407). -/

/-- A record as the log holds it. -/
def State.logged (s : State) (r : JRec) : JRec :=
  let u := s.roomed r.size
  { r with id := u.dev.jrnl.nextId, pos := u.jrnlHead + r.size, since := u.ao.tick, keyId := (u.tent r.tent).keyId }

/-- The state after an append, before the mirror's copy of the record goes. -/
def State.stored (s : State) (r : JRec) : State :=
  let u := s.roomed r.size
  let q := s.logged r
  ((u.modJrnl fun j =>
    { j with
      log := j.log ++ [q], nextId := u.dev.jrnl.nextId + 1
      gather := if q.cls = 2 then j.gather ++ [u.dev.jrnl.nextId] else j.gather
      gatherSince := if q.cls = 2 ∧ j.gather = [] then u.ao.tick else j.gatherSince }).wr
    rJrnlHead (BitVec.ofNat 64 (u.jrnlHead + r.size))).iodEvent 0 0x20F 0 q.tent

theorem State.appendRec_room {s : State} {r : JRec} (room : s.liveBytes + r.size ≤ s.logCapacity) :
    s.appendRec r = some (s.dev.jrnl.nextId, (s.stored r).mirrorSend (s.logged r)) := by
  rw [← s.roomed_nextId r.size]
  exact if_neg (Nat.not_lt.2 room)

theorem State.appendRec_full {s : State} {r : JRec} (full : s.logCapacity < s.liveBytes + r.size) : s.appendRec r = none :=
  if_pos full

theorem State.stored_jrnl (s : State) (r : JRec) : ∃ since, (s.stored r).dev.jrnl =
    { (s.roomed r.size).dev.jrnl with
      log := (s.roomed r.size).dev.jrnl.log ++ [s.logged r], nextId := s.dev.jrnl.nextId + 1
      gather := if r.cls = 2 then (s.roomed r.size).dev.jrnl.gather ++ [s.dev.jrnl.nextId]
        else (s.roomed r.size).dev.jrnl.gather
      gatherSince := since } := by
  unfold State.stored
  dsimp only
  rw [State.iodEvent_jrnl, State.roomed_nextId]
  exact ⟨_, rfl⟩

theorem State.stored_adm (s : State) (r : JRec) : (s.stored r).dev.adm = s.dev.adm := by
  unfold State.stored
  dsimp only
  rw [State.iodEvent_adm]
  exact s.roomed_adm _

/-- What an append leaves of the journal unit: `r` the newest record, under the next number. -/
structure Appends (s t : State) (r : JRec) : Prop where
  last : ∃ q, t.dev.jrnl.log.getLast? = some q ∧ q.id = s.dev.jrnl.nextId ∧ q.req = r.req ∧ q.pay = r.pay ∧
    q.stamp = r.stamp ∧ q.cls = r.cls ∧ (r.cls = 2 → q.id ∈ t.dev.jrnl.gather)
  next : t.dev.jrnl.nextId = s.dev.jrnl.nextId + 1
  sent : t.dev.jrnl.sent = s.dev.jrnl.sent

theorem Appends.of_jrnl {s t u : State} {r : JRec} (h : Appends s t r) (same : u.dev.jrnl = t.dev.jrnl) :
    Appends s u r := by
  obtain ⟨last, next, sent⟩ := h
  exact ⟨by rw [same]; exact last, by rw [same, next], by rw [same, sent]⟩

theorem State.stored_appends (s : State) (r : JRec) : Appends s (s.stored r) r := by
  obtain ⟨since, h⟩ := s.stored_jrnl r
  constructor
  case last =>
    rw [h]
    refine ⟨s.logged r, List.getLast?_concat, s.roomed_nextId _, rfl, rfl, rfl, rfl, fun two => ?_⟩
    dsimp only
    rw [if_pos two, show (s.logged r).id = s.dev.jrnl.nextId from s.roomed_nextId _]
    exact List.mem_append_right _ (List.mem_singleton_self _)
  case next => rw [h]
  case sent =>
    rw [h]
    exact s.roomed_sent _

theorem State.appended (s : State) (r : JRec) : Appends s ((s.stored r).mirrorSend (s.logged r)) r :=
  (s.stored_appends r).of_jrnl (State.mirrorSend_jrnl ..)

theorem State.req_appended (s : State) (r : JRec) (n : Nat) :
    ((s.stored r).mirrorSend (s.logged r)).req n = s.req n :=
  State.req_of_adm ((State.mirrorSend_adm ..).trans (s.stored_adm r)) n

theorem State.appendNext_room {s : State} {k : Nat} {r : JRec} (h : s.nextSent k = some r)
    (free : s.blocked islJournal = false) (room : s.liveBytes + r.size ≤ s.logCapacity) :
    s.appendNext k =
      (((s.takeSent r).stored r).mirrorSend ((s.takeSent r).logged r)).coverGroups r s.dev.jrnl.nextId := by
  unfold State.appendNext
  simp only [h, free, Bool.false_eq_true, if_false]
  rw [State.appendRec_room (s := s.takeSent r) room]
  rfl

theorem State.coverGroups_jrnl (s : State) (r : JRec) (id : Nat) : (s.coverGroups r id).dev.jrnl = s.dev.jrnl :=
  State.modReq_jrnl ..

theorem execJournalAdmit_room {s : State} {r : JRec} (h : s.nextSent 1 = some r) (free : s.blocked islJournal = false)
    (kept : s.admitLost r = false) (room : s.liveBytes + r.size ≤ s.logCapacity) :
    execJournalAdmit s = .next (((s.takeSent r).stored r).mirrorSend ((s.takeSent r).logged r)) := by
  unfold execJournalAdmit
  simp only [h, free, kept, Bool.false_eq_true, if_false]
  rw [State.appendRec_room (s := s.takeSent r) room]

theorem execJournalAdmit_fails {s : State} {r : JRec} (h : s.nextSent 1 = some r) (free : s.blocked islJournal = false)
    (lost : s.admitLost r = true ∨ s.logCapacity < s.liveBytes + r.size) :
    execJournalAdmit s = .next ((s.takeSent r).admitFailed r.req) := by
  unfold execJournalAdmit
  simp only [h, free, Bool.false_eq_true, if_false]
  split
  · rfl
  · next kept =>
    rw [State.appendRec_full (s := s.takeSent r) (lost.resolve_left kept)]

/-- An append from those on their way, and what becomes of the record taken. -/
theorem Appends.taken {s t : State} {r : JRec} (h : Appends (s.takeSent r) t r) :
    ∃ q, t.dev.jrnl.log.getLast? = some q ∧ q.id = s.dev.jrnl.nextId ∧ q.req = r.req ∧ q.pay = r.pay ∧
      q.stamp = r.stamp ∧ q.cls = r.cls ∧ t.dev.jrnl.nextId = s.dev.jrnl.nextId + 1 ∧
      t.dev.jrnl.sent = s.dev.jrnl.sent.erase r ∧ (r.cls = 2 → q.id ∈ t.dev.jrnl.gather) := by
  obtain ⟨⟨q, last, id, req, pay, stamp, cls, gather⟩, next, sent⟩ := h
  exact ⟨q, last, id, req, pay, stamp, cls, next, sent, gather⟩

/-- Each kind's command appends the oldest record of its kind. -/
theorem exec_journal_appends {s : State} {r : JRec} {e : Nat × Instr}
    (he : e ∈ [(1, Instr.journalAdmit), (2, .journalLegResult), (3, .journalTokens), (4, .journalCancel)])
    (h : s.nextSent e.1 = some r) (free : s.blocked islJournal = false) (room : s.liveBytes + r.size ≤ s.logCapacity)
    (kept : e.1 = 1 → s.admitLost r = false) : ∃ t, exec e.2 s = .next t ∧ Appends (s.takeSent r) t r := by
  have covered (k : Nat) (hk : s.nextSent k = some r) : Appends (s.takeSent r) (s.appendNext k) r := by
    rw [State.appendNext_room hk free room]
    exact ((s.takeSent r).appended r).of_jrnl (State.coverGroups_jrnl ..)
  simp only [List.mem_cons, List.not_mem_nil, or_false] at he
  obtain rfl | rfl | rfl | rfl := he
  · exact ⟨_, execJournalAdmit_room h free (kept rfl) room, (s.takeSent r).appended r⟩
  · exact ⟨_, rfl, covered 2 h⟩
  · exact ⟨_, rfl, covered 3 h⟩
  · exact ⟨_, rfl, covered 4 h⟩

/-! The failure of an ADMIT (R33, R413, R414). -/

theorem State.req_of_requests {s t : State} (h : t.dev.adm.requests = s.dev.adm.requests) (n : Nat) :
    t.req n = s.req n := by
  unfold State.req
  rw [h]

theorem State.reject_requests (s : State) (f : Fetched) (reason : Nat) :
    (s.reject f reason).dev.adm.requests = s.dev.adm.requests := by rw [State.reject_adm]

/-- A request whose ADMIT fails before its accept record is gone. -/
theorem State.req_admitFailed {s : State} {n : Nat} {q : Request} (h : s.req n = some q) (ha : q.accepted = false) :
    (s.admitFailed n).req n = none := by
  have dropped (u : State) (f : Journal → Journal) (g : Admit → Admit) (hg : ∀ a, (g a).requests = a.requests) :
      (((u.setReq n none).modJrnl f).modAdm g).req n = none :=
    (State.req_of_requests (t := ((u.setReq n none).modJrnl f).modAdm g) (hg _) n).trans (State.req_setReq_same ..)
  unfold State.admitFailed
  simp only [h, ha, Bool.false_eq_true, if_false]
  split
  · exact State.req_setReq_same ..
  · exact (State.req_of_requests (State.reject_requests ..) n).trans (dropped _ _ _ fun _ => rfl)

/-- A field of JRNL_STATUS other than REJECTED outlives the failure of an ADMIT. -/
theorem State.fld_admitFailed_status (s : State) (n : Nat) {f : Nat × Nat} (hf : f.1 + f.2 ≤ 32) :
    (s.admitFailed n).fld rJrnlStatus f = s.fld rJrnlStatus f := by
  have rejected (u : State) (g : Fetched) : (u.reject g 6).fld rJrnlStatus f = u.fld rJrnlStatus f := by
    unfold State.reject
    dsimp only
    rw [State.contribute_kept (·.fld rJrnlStatus f) (fun _ _ _ => rfl) (fun _ _ => rfl), if_pos rfl, State.fld,
      State.iodEvent, State.rd_countEvent_below _ _ _ _ _ _ _ _ (by decide)]
    exact State.fld_setFld_apart _ _ _ _ _ (by decide) (.inl hf)
  unfold State.admitFailed
  split
  · rfl
  · split
    · rfl
    · next r _ _ =>
      have ring : (match r.ring with
          | some k => s.setRing k ((s.ring k).map fun (x : Ring) => { x with bound := 0, stalled := none })
          | none => s).fld rJrnlStatus f = s.fld rJrnlStatus f := by
        split <;> rfl
      dsimp only
      split
      · exact ring
      · exact (rejected _ _).trans ring

/-! The end of a request (R332, R335, R408). -/

/-- The group that a request's end composes under its stamp. -/
def finalGroup (st : Stamp) (status : Nat) (covered : Bool) (id : Option Nat) : PubGroup :=
  { records := [finalRecord st.tick status], stamp := st, covered := covered, cover := id, final := true }

/-- The request with its end composed. -/
def Request.close (r : Request) (g : PubGroup) : Request := { r with closing := true, groups := r.groups ++ [g] }

/-- The conditions on which a request's end is composed. -/
structure State.MayClose (s : State) (n : Nat) (r : Request) (e : Nat × Stamp) : Prop where
  req : s.req n = some r
  ended : r.ended = some e
  still : r.closing = false
  ours : r.recovered = false ∨ r.resumed = true
  settled : s.settled e.2 = true
  decided : s.cancelOpen n = false
  kerf : s.blocked (islKerf r.kerf) = false
  unit : s.blocked islJournal = false

/-- What the end of a request appends: nothing for ABANDONED (R423), else the record `app`. -/
theorem execJournalComplete_eq {s u : State} {st : Stamp} {n : Nat} {r : Request} {e : Nat × Stamp}
    (h : s.MayClose n r e) (born : s.originate (islKerf r.kerf) = (st, u)) {app : Option (Nat × State)}
    (happ : u.appendRec (u.completeRec r st e.1) = app) :
    execJournalComplete n s =
      if e.1 = 0x42 then .next (u.modReq n (·.close (finalGroup st e.1 true none)))
      else app.elim (.next s) fun a => .next (a.2.modReq n (·.close (finalGroup st e.1 false (some a.1)))) := by
  have ours : (r.recovered && !r.resumed) = false := by
    rcases h.ours with no | yes
    · rw [no, Bool.false_and]
    · rw [yes, Bool.not_true, Bool.and_false]
  unfold execJournalComplete
  split
  · next none_ => exact nomatch h.req.symm.trans none_
  · next q hq =>
    obtain rfl := Option.some.inj (h.req.symm.trans hq)
    split
    · next none_ => exact nomatch h.ended.symm.trans none_
    · next x hx =>
      obtain rfl := Option.some.inj (h.ended.symm.trans hx)
      rw [if_neg (by simp [h.still, ours, h.settled, h.decided, h.kerf, h.unit])]
      split
      next st' u' born' =>
        obtain ⟨rfl, rfl⟩ := Prod.mk.inj (born.symm.trans born')
        extract_lets close
        refine if_congr Iff.rfl rfl ?_
        rw [happ]
        cases app <;> rfl

theorem execJournalComplete_closes {s u : State} {st : Stamp} {n : Nat} {r : Request} {e : Nat × Stamp}
    (h : s.MayClose n r e) (born : s.originate (islKerf r.kerf) = (st, u))
    (room : u.liveBytes + (u.completeRec r st e.1).size ≤ u.logCapacity) :
    ∃ t g, execJournalComplete n s = .next t ∧ t.req n = some (r.close g) ∧ g.final = true ∧ g.stamp = st ∧
      g.records = [finalRecord st.tick e.1] ∧
      if e.1 = 0x42 then g.covered = true ∧ t.dev.jrnl = s.dev.jrnl
      else g.covered = false ∧ g.cover = some s.dev.jrnl.nextId := by
  have hu : u = (s.originate (islKerf r.kerf)).2 := (congrArg Prod.snd born).symm
  have req : u.req n = some r := by
    rw [hu]
    exact h.req
  have jrnl : u.dev.jrnl = s.dev.jrnl := by
    rw [hu]
    rfl
  rw [execJournalComplete_eq h born (State.appendRec_room room)]
  by_cases abandoned : e.1 = 0x42
  · rw [if_pos abandoned]
    refine ⟨_, finalGroup st e.1 true none, rfl, State.req_modReq_of_req req _, rfl, rfl, rfl, ?_⟩
    rw [if_pos abandoned]
    exact ⟨rfl, (State.modReq_jrnl ..).trans jrnl⟩
  · rw [if_neg abandoned, Option.elim_some]
    refine ⟨_, finalGroup st e.1 false (some u.dev.jrnl.nextId), rfl,
      State.req_modReq_of_req ((State.req_appended ..).trans req) _, rfl, rfl, rfl, ?_⟩
    rw [if_neg abandoned]
    exact ⟨rfl, congrArg (fun j : Journal => some j.nextId) jrnl⟩

/-! Group writes (R412, R429). -/

theorem execGroupCommitWrite_due {s : State} (some_ : s.dev.jrnl.gather ≠ []) (idle : s.dev.jrnl.writing = [])
    (two : 2 ≤ s.journalSsds.length)
    (due : s.orphan = true ∨ 65536 ≤ s.gathered ∨
      s.dev.jrnl.gatherSince + 1000 * s.fld rJrnlCfg fJrnlCfgGroupUs ≤ s.ao.tick) :
    execGroupCommitWrite s =
      .next (s.modJrnl fun j => { j with writing := j.gather, gather := [], ssds := s.journalSsds }) := by
  have now : (s.orphan || decide (65536 ≤ s.gathered) ||
      decide (s.dev.jrnl.gatherSince + 1000 * s.fld rJrnlCfg fJrnlCfgGroupUs ≤ s.ao.tick)) = true := by
    simpa [or_assoc] using due
  unfold execGroupCommitWrite
  simp only [some_, idle, now, Nat.not_lt.2 two, ne_eq, not_true_eq_false, Bool.not_true, Bool.false_eq_true, or_self,
    if_false]

/-- Journal records of an SSD stay while records are added, to it or to another. -/
theorem State.mem_ssdJournal {s : State} {k : Nat} {x : JRec} (slot : Nat) (rs : List JRec)
    (h : x ∈ (SMap.get (fun _ => {}) s.nv.ssds k : Ssd).journal) :
    x ∈ (SMap.get (fun _ => {}) (s.ssdJournal slot rs).nv.ssds k : Ssd).journal := by
  unfold State.ssdJournal
  dsimp only
  rw [SMap.get_set]
  split
  · next here =>
    subst here
    exact List.mem_append_left _ h
  · exact h

/-- An SSD that is given a record holds it. -/
theorem State.ssdJournal_holds (s : State) (k : Nat) {rs : List JRec} {r : JRec} (h : r ∈ rs) :
    ∃ x ∈ (SMap.get (fun _ => {}) (s.ssdJournal k rs).nv.ssds k : Ssd).journal, x.id = r.id := by
  unfold State.ssdJournal
  dsimp only
  rw [SMap.get_set_same]
  cases held : (SMap.get (fun _ => {}) s.nv.ssds k : Ssd).journal.any (·.id == r.id) with
  | true =>
    obtain ⟨x, hx, same⟩ := List.any_eq_true.1 held
    exact ⟨x, List.mem_append_left _ hx, eq_of_beq same⟩
  | false => exact ⟨r, List.mem_append_right _ (List.mem_filter.2 ⟨h, by rw [held]; rfl⟩), rfl⟩

theorem State.ssdJournals_hold (l : List Nat) (s : State) {rs : List JRec} {r : JRec} (h : r ∈ rs) {k : Nat}
    (there : k ∈ l ∨ ∃ x ∈ (SMap.get (fun _ => {}) s.nv.ssds k : Ssd).journal, x.id = r.id) :
    ∃ x ∈ (SMap.get (fun _ => {}) (l.foldl (fun s k => s.ssdJournal k rs) s).nv.ssds k : Ssd).journal, x.id = r.id := by
  induction l generalizing s with
  | nil => exact there.resolve_left List.not_mem_nil
  | cons j l ih =>
    refine ih _ ?_
    rcases there with listed | ⟨x, hx, same⟩
    · rcases List.mem_cons.1 listed with rfl | listed
      · exact .inr (s.ssdJournal_holds k h)
      · exact .inl listed
    · exact .inr ⟨x, State.mem_ssdJournal j rs hx, same⟩

/-- The records whose numbers are in `ids`, marked by `f`. -/
def markRecs (ids : List Nat) (f : JRec → JRec) (log : List JRec) : List JRec :=
  log.map fun r => if ids.contains r.id then f r else r

theorem markRecs_marked {ids : List Nat} {f : JRec → JRec} {log : List JRec} {p : JRec → Prop}
    (hp : ∀ r, p (f r)) : ∀ r ∈ markRecs ids f log, r.id ∈ ids → p r := by
  intro r hr listed
  obtain ⟨x, -, rfl⟩ := List.mem_map.1 hr
  split at listed
  · next yes =>
    rw [if_pos yes]
    exact hp x
  · next not => exact absurd (List.contains_iff_mem.2 listed) not

theorem execGroupWriteComplete_eq {s : State} (busy : s.dev.jrnl.writing ≠ []) (two : 2 ≤ s.journalSsds.length) :
    execGroupWriteComplete s =
      let rs := s.dev.jrnl.log.filter fun r => s.dev.jrnl.writing.contains r.id
      .next ((s.journalSsds.foldl (fun s k => s.ssdJournal k rs) s).modJrnl fun j => { j with
        writing := [], log := markRecs s.dev.jrnl.writing (fun r => { r with written := true }) j.log }) := by
  have moved (l : List Nat) (rs : List JRec) : (l.foldl (fun s k => s.ssdJournal k rs) s).dev = s.dev :=
    foldl_kept State.dev _ (fun s k => s.ssdJournal_dev k rs) _ _
  unfold execGroupWriteComplete
  dsimp only
  rw [if_neg (by simp [busy, Nat.not_lt.2 two])]
  unfold State.modJrnl markRecs
  rw [moved]

/-! The mirror (R411, R413, R414, R454). -/

theorem execMirrorTimeout_late {s : State} {r : JRec} (h : r ∈ s.dev.jrnl.log) (late : s.mirrorLate r = true) :
    ∃ l, execMirrorTimeout s = .next
      (List.foldl (fun (s : State) (r : JRec) => s.admitFailed r.req) (s.setFlag rJrnlStatus fJrnlStatusMirrorStalled true) l) := by
  have some_ : s.dev.jrnl.log.filter s.mirrorLate ≠ [] :=
    List.ne_nil_of_mem (List.mem_filter.2 ⟨h, late⟩)
  exact ⟨_, if_neg some_⟩

theorem State.mirrorStalled_admitsFailed (l : List JRec) (s : State) :
    (l.foldl (fun s r => s.admitFailed r.req) s).mirrorStalled = s.mirrorStalled :=
  foldl_kept State.mirrorStalled (fun (s : State) (r : JRec) => s.admitFailed r.req) (fun s r => by
    unfold State.mirrorStalled State.flag
    rw [s.fld_admitFailed_status r.req (by decide)]) _ _

/-- The state in which the copy's transactions go to the new peer. -/
def State.resyncing (s : State) : State :=
  ((s.setFlag rJrnlMirrorPeer fJrnlMirrorPeerConnected false).setFlag rJrnlMirrorPeer fJrnlMirrorPeerResync true).modJrnl
    fun j => { j with
      resync := s.mirrorOpen, ackHeld := [], probesLost := 0
      log := j.log.map fun r => if s.mirrorOpen.contains r.id then { r with since := s.ao.tick } else r }

theorem State.beginResync_kept {α : Type} (p : State → α) (hf : ∀ s f, p (State.modFab s f) = p s)
    (he : ∀ s l, l < 16 → p (State.addFld s (rFabLinkErrs l) fFabLinkErrsDropped 1) = p s)
    (hi : ∀ s n i, p (State.setIsl s n i) = p s) (s : State) : p s.beginResync = p s.resyncing :=
  (foldl_kept p _ (fun s r => State.mirrorSend_kept p hf he hi s r) _ _).trans
    ((State.fabSend_kept p hf he _ _).trans (State.originate_kept p hi s.resyncing _))

theorem State.rd_beginResync_below (s : State) {o : Nat} (h : o < 0x100100) : s.beginResync.rd o = s.resyncing.rd o :=
  State.beginResync_kept (·.rd o) (fun _ _ => rfl) (fun s l _ => s.rd_dropped_below l h) (fun _ _ _ => rfl) s

theorem State.beginResync_jrnl (s : State) : s.beginResync.dev.jrnl = s.resyncing.dev.jrnl :=
  State.beginResync_kept (·.dev.jrnl) (fun _ _ => rfl) (fun s _ _ => s.addFld_jrnl _ _ _) (fun _ _ _ => rfl) s

theorem State.resyncing_flags (s : State) : s.resyncing.flag rJrnlMirrorPeer fJrnlMirrorPeerResync = true ∧
    s.resyncing.flag rJrnlMirrorPeer fJrnlMirrorPeerConnected = false := by
  unfold State.resyncing
  rw [State.flag_modJrnl, State.flag_modJrnl]
  refine ⟨State.flag_setFlag_same _ _ _ _ (by decide) rfl, ?_⟩
  rw [State.flag_setFlag_apart _ _ _ _ _ (by decide) (by decide)]
  exact State.flag_setFlag_same _ _ _ _ (by decide) rfl

theorem State.mirrorOpen_of_jrnl {s t : State} (h : t.dev.jrnl = s.dev.jrnl) : t.mirrorOpen = s.mirrorOpen := by
  unfold State.mirrorOpen State.completeCommitted State.committedWith State.recCommitted
  rw [h]

theorem execMirrorPeerChange_names {s : State} {v : W64} (h : s.namesPeer v = true) :
    execMirrorPeerChange v s = .next (s.writeReg rJrnlMirrorPeer v).beginResync := by
  unfold execMirrorPeerChange
  dsimp only
  rw [if_pos h]

/-- The stall and the copy are over. -/
def State.resynced (s : State) : State :=
  ((s.modJrnl fun j => { j with
      ackHeld := [], log := markRecs s.dev.jrnl.ackHeld (fun r => { r with acked := true }) j.log }).setFlag
    rJrnlMirrorPeer fJrnlMirrorPeerResync false).setFlag rJrnlStatus fJrnlStatusMirrorStalled false

theorem execMirrorResyncComplete_done {s : State} (on : s.flag rJrnlMirrorPeer fJrnlMirrorPeerResync = true)
    (copied : s.dev.jrnl.resync = []) : execMirrorResyncComplete s = .next s.resynced := by
  unfold execMirrorResyncComplete
  simp only [on, copied, Bool.not_true, Bool.false_eq_true, ne_eq, not_true_eq_false, or_self, if_false]
  rfl

theorem State.resynced_flags (s : State) : s.resynced.mirrorStalled = false ∧
    s.resynced.flag rJrnlMirrorPeer fJrnlMirrorPeerResync = false := by
  unfold State.resynced State.mirrorStalled
  refine ⟨State.flag_setFlag_same _ _ _ _ (by decide) rfl, ?_⟩
  rw [State.flag_setFlag_other _ _ _ _ _ _ (by decide)]
  exact State.flag_setFlag_same _ _ _ _ (by decide) rfl

theorem State.rd_probePeer_below (s : State) {o : Nat} (h : o < 0x100100) : s.probePeer.rd o = s.rd o :=
  State.rd_fabSend_below _ _ h

theorem execMirrorProbe_answered {s : State} (on : s.flag rJrnlMirrorPeer fJrnlMirrorPeerEnable = true)
    (free : s.blocked islJournal = false) : execMirrorProbe true s =
      .next ((s.probePeer.modJrnl fun j => { j with probesLost := 0 }).setFlag
        rJrnlMirrorPeer fJrnlMirrorPeerConnected true) := by
  unfold execMirrorProbe
  simp [on, free]

/-- A probe has had no answer. -/
def State.probeLost (s : State) : State :=
  s.probePeer.modJrnl fun j => { j with probesLost := s.dev.jrnl.probesLost + 1 }

theorem State.fld_probeLost (s : State) (f : Nat × Nat) : s.probeLost.fld rJrnlCfg f = s.fld rJrnlCfg f :=
  congrArg (getBits · f.1 f.2) (s.rd_probePeer_below (by decide))

theorem execMirrorProbe_lost {s : State} (on : s.flag rJrnlMirrorPeer fJrnlMirrorPeerEnable = true)
    (free : s.blocked islJournal = false) : execMirrorProbe false s =
      .next (if s.fld rJrnlCfg fJrnlCfgMirrorWaitMs ≤ s.dev.jrnl.probesLost + 1 then
        s.probeLost.setFlag rJrnlMirrorPeer fJrnlMirrorPeerConnected false else s.probeLost) := by
  rw [← s.fld_probeLost]
  unfold execMirrorProbe
  simp only [on, free, Bool.not_true, Bool.false_eq_true, or_self, if_false]
  rfl

/-! The host's lease (R428 to R430). -/

theorem State.enterOrphan_lease (s : State) :
    s.enterOrphan.orphan = true ∧ s.enterOrphan.dev.jrnl.leaseRunning = false := by
  unfold State.enterOrphan State.orphan
  dsimp only
  rw [State.flag_modJrnl]
  exact ⟨State.flag_setFlag_same _ _ _ _ (by decide) rfl, rfl⟩

theorem State.leaseLeft_running {s : State} (h : s.dev.jrnl.leaseRunning = true) : (s.leaseLeft == 0) = true ↔
    s.dev.jrnl.leaseSet + 1000000 * s.fld rJrnlLeaseMs fJrnlLeaseMsLeaseMs ≤ s.liveTick := by
  unfold State.leaseLeft
  rw [if_pos h, beq_iff_eq, Nat.sub_eq_zero_iff_le]

/-- The lease set anew, and no orphan. -/
def State.attached (s : State) : State :=
  (s.setFlag rJrnlStatus fJrnlStatusOrphan false).modJrnl fun j => { j with leaseSet := s.liveTick, leaseRunning := true }

theorem State.mgmtLog_kept {α : Type} (p : State → α) (hi : ∀ s n i, p (State.setIsl s n i) = p s)
    (hm : ∀ s f, p (State.modMgmt s f) = p s) (s : State) (type result source keyTag arg0 arg1 : Nat) :
    p (s.mgmtLog type result source keyTag arg0 arg1) = p s := by
  unfold State.mgmtLog
  exact (hm _ _).trans (State.originate_kept p hi s _)

/-- Committing updates changes the management flash, the version floors and the firmware processor's island. -/
theorem State.commitUpdates_kept {α : Type} (p : State → α) (hi : ∀ s n i, p (State.setIsl s n i) = p s)
    (hm : ∀ s f, p (State.modMgmt s f) = p s) (hs : ∀ s c v, c < 4 → p (State.setFld s (rSecFloor c) fSecFloorFloor v) = p s)
    (s : State) : p s.commitUpdates = p s := by
  have one (s : State) {c : Nat} (hc : c < 4) (v a b : Nat) (f : MgmtFlash → MgmtFlash) :
      p (((s.modMgmt f).setFld (rSecFloor c) fSecFloorFloor v).mgmtLog 8 0 0 0 a b) = p s :=
    (State.mgmtLog_kept p hi hm _ _ _ _ _ _ _).trans ((hs _ _ _ hc).trans (hm _ _))
  have each (l : List Nat) (small : ∀ c ∈ l, c < 4) (s : State) (f : State → Nat → State)
      (hf : ∀ s c, c < 4 → p (f s c) = p s) : p (l.foldl f s) = p s := by
    induction l generalizing s with
    | nil => rfl
    | cons c l ih =>
      rw [List.foldl_cons, ih (fun c hc => small c (List.mem_cons_of_mem _ hc)), hf _ _ (small c List.mem_cons_self)]
  refine each _ (by decide) s _ fun s c hc => ?_
  split
  · rfl
  · split
    · rfl
    · exact one s hc ..

theorem State.commitUpdates_jrnl (s : State) : s.commitUpdates.dev.jrnl = s.dev.jrnl :=
  State.commitUpdates_kept (·.dev.jrnl) (fun _ _ _ => rfl) (fun _ _ => rfl)
    (fun s _ _ _ => State.setFld_kept (·.dev.jrnl) (fun _ _ _ => rfl) s _ _ _) s

theorem State.orphan_commitUpdates (s : State) : s.commitUpdates.orphan = s.orphan := by
  refine State.commitUpdates_kept State.orphan (fun _ _ _ => rfl) (fun _ _ => rfl) (fun s c v hc => ?_) s
  exact State.flag_of_rd (State.rd_setFld_other s _ _ _ _ (by unfold rJrnlStatus rSecFloor; omega)) fJrnlStatusOrphan

theorem State.attached_lease (s : State) : s.attached.orphan = false ∧ s.attached.dev.jrnl.leaseRunning = true ∧
    s.attached.dev.jrnl.leaseSet = s.liveTick := by
  unfold State.attached State.orphan
  rw [State.flag_modJrnl]
  exact ⟨State.flag_setFlag_same _ _ _ _ (by decide) rfl, rfl, rfl⟩

/-- Settles O53: which write names a new peer, and what an ADMIT in a stall does, follow log entries 212 and 213. -/
theorem journalUnit : Obligations.JournalUnit := by
  unfold Obligations.JournalUnit
  refine ⟨?append, ?complete, ?groupDue, ?groupDone, ?late, ?peer, ?copied, ?probe, ?lease, ?unleased, ?attach⟩
  case append =>
    intro s r e he h free
    refine ⟨fun room kept => ?_, fun one lost q hq ha => ?_⟩
    · obtain ⟨t, ran, appends⟩ := exec_journal_appends he h free room kept
      obtain ⟨q, rest⟩ := appends.taken
      exact ⟨t, q, ran, rest⟩
    · obtain rfl : e = (1, .journalAdmit) := by
        simp only [List.mem_cons, List.not_mem_nil, or_false] at he
        rcases he with rfl | rfl | rfl | rfl
        · rfl
        all_goals exact absurd one (by decide)
      exact ⟨_, execJournalAdmit_fails h free lost, State.req_admitFailed (s := s.takeSent r) hq ha⟩
  case complete =>
    intro s n r e req ended still ours settled decided kerf unit
    dsimp only
    intro room
    obtain ⟨t, g, ran, closed, final, stamp, records, cover⟩ :=
      execJournalComplete_closes ⟨req, ended, still, ours, settled, decided, kerf, unit⟩ rfl room
    refine ⟨t, r.close g, g, ran, closed, rfl, List.getLast?_concat, final, stamp, records, ?_⟩
    split at cover
    · next abandoned => rwa [if_pos abandoned]
    · next other =>
      rw [if_neg other]
      exact ⟨cover.1, cover.2, List.length_append⟩
  case groupDue => exact fun s some_ idle two due => execGroupCommitWrite_due some_ idle two due
  case groupDone =>
    intro s busy two
    refine ⟨_, execGroupWriteComplete_eq busy two, rfl,
      markRecs_marked (f := fun r => { r with written := true }) (p := (·.written = true)) fun _ => rfl, fun k hk r hr listed => ?_⟩
    exact State.ssdJournals_hold _ s (List.mem_filter.2 ⟨hr, List.elem_iff.2 listed⟩) (.inl hk)
  case late =>
    intro s r h late
    obtain ⟨l, ran⟩ := execMirrorTimeout_late h late
    exact ⟨_, ran, (State.mirrorStalled_admitsFailed l _).trans (State.flag_setFlag_same _ _ _ _ (by decide) rfl)⟩
  case peer =>
    intro s v names
    let w := s.writeReg rJrnlMirrorPeer v
    have same : w.dev.jrnl = s.dev.jrnl := State.writeReg_kept (·.dev.jrnl) (fun _ _ _ => rfl) s _ v
    have peer := w.rd_beginResync_below (o := rJrnlMirrorPeer) (by decide)
    obtain ⟨resync, connected⟩ := w.resyncing_flags
    refine ⟨_, execMirrorPeerChange_names names, ?_, ?_, ?_, ?_⟩
    · rw [State.beginResync_jrnl]
      exact State.mirrorOpen_of_jrnl same
    · rw [State.beginResync_jrnl]
      rfl
    · exact (State.flag_of_rd peer _).trans resync
    · exact (State.flag_of_rd peer _).trans connected
  case copied =>
    intro s on copied
    obtain ⟨stalled, resync⟩ := s.resynced_flags
    exact ⟨_, execMirrorResyncComplete_done on copied, stalled, resync,
      markRecs_marked (f := fun r => { r with acked := true }) (p := (·.acked = true)) fun _ => rfl⟩
  case probe =>
    intro s on free
    refine ⟨⟨_, execMirrorProbe_answered on free, rfl, State.flag_setFlag_same _ _ _ _ (by decide) rfl⟩,
      _, execMirrorProbe_lost on free, ?_, fun lost => ?_⟩
    · split <;> rfl
    · rw [if_pos lost]
      exact State.flag_setFlag_same _ _ _ _ (by decide) rfl
  case lease =>
    intro s running
    have beat : exec .hostBeat s = .next (if s.dev.jrnl.leaseRunning then _ else s) := rfl
    have detach : exec .hostDetach s = .next (if s.dev.jrnl.leaseRunning then s.enterOrphan else s) := rfl
    refine ⟨by rw [beat, if_pos running], ⟨_, detach.trans (by rw [if_pos running]), s.enterOrphan_lease⟩, _, rfl, ?_⟩
    simp only [running, Bool.true_and, State.leaseLeft_running running]
    split
    · exact s.enterOrphan_lease
    · rfl
  case unleased =>
    intro s idle
    have still (t : State) : (if s.dev.jrnl.leaseRunning then t else s) = s := if_neg (by simp [idle])
    exact ⟨congrArg Host.Outcome.next (still _), congrArg Host.Outcome.next (still _), congrArg Host.Outcome.next
      (if_neg (by simp [idle]))⟩
  case attach =>
    intro s
    obtain ⟨orphan, running, set⟩ := s.attached_lease
    refine ⟨if s.attached.booted then s.attached.commitUpdates else s.attached, rfl, ?_⟩
    split
    · rw [State.orphan_commitUpdates, State.commitUpdates_jrnl]
      exact ⟨orphan, running, set⟩
    · exact ⟨orphan, running, set⟩

end Sys2Proof.Machine
end

section
/-! SUPPORT. What events to firmware and an entry into FAILSAFE leave unchanged (R503, R504, R534, R535). -/

namespace Sys2Proof.Machine

section
variable {α : Type} (p : State → α) (ht : ∀ s f v, p (State.setFld s rFwEvtqTail f v) = p s)
  (hh : ∀ s a bs, p (State.hostWrite s a bs) = p s) (hf : ∀ s f, p (State.modFw s f) = p s)
include ht hh hf

/-- An event's entry goes to the host region, and TAIL moves on. -/
theorem State.writeEvent_kept (s : State) (e : FwEvent) : p (s.writeEvent e) = p s := by
  simp only [State.writeEvent, apply_ite p, hf, ht, hh, ite_self]

theorem State.postEvent_kept (hl : ∀ s n, p (State.addFld s rFwEvtqLost fFwEvtqLostLost n) = p s)
    (hi : ∀ s n i, p (State.setIsl s n i) = p s) (s : State) (core type status tag : Nat) (args : List Nat) :
    p (s.postEvent core type status tag args) = p s := by
  have born := State.originate_kept p hi s (islRanger core)
  unfold State.postEvent
  split
  · rfl
  · dsimp only
    split
    · rw [State.writeEvent_kept p ht hh hf, born]
    · split
      · rw [hl, born]
      · rw [hf, born]

end

theorem State.setFld_rangers (s : State) (off : Nat) (f : Nat × Nat) (v : Nat) :
    (s.setFld off f v).dev.rangers = s.dev.rangers := (rfl)
theorem State.setFlag_rangers (s : State) (off : Nat) (f : Nat × Nat) (b : Bool) :
    (s.setFlag off f b).dev.rangers = s.dev.rangers := (rfl)
theorem State.addFld_rangers (s : State) (off : Nat) (f : Nat × Nat) (n : Nat) :
    (s.addFld off f n).dev.rangers = s.dev.rangers := (rfl)
theorem State.wr_rangers (s : State) (off : Nat) (v : W64) : (s.wr off v).dev.rangers = s.dev.rangers := (rfl)

theorem State.failTent_rangers (s : State) (f : Stamp) (t : Nat) : (s.failTent f t).dev.rangers = s.dev.rangers :=
  foldl_kept (·.dev.rangers) _ (fun s n => State.modReq_kept (·.dev.rangers) (fun _ _ _ => rfl) s n _) _ _

theorem State.postEvent_rangers (s : State) (core type status tag : Nat) (args : List Nat) :
    (s.postEvent core type status tag args).dev.rangers = s.dev.rangers :=
  State.postEvent_kept (·.dev.rangers) (fun s f v => s.setFld_rangers _ f v) (fun _ _ _ => rfl) (fun _ _ => rfl)
    (fun s n => s.addFld_rangers _ _ n) (fun _ _ _ => rfl) s core type status tag args

theorem State.logAt_rangers (s : State) (isl : Nat) (r : ErrRec) : (s.logAt isl r).2.dev.rangers = s.dev.rangers :=
  State.logAt_kept (·.dev.rangers) (fun _ _ _ => rfl) (fun _ _ _ => rfl) (fun _ _ => rfl) (fun _ _ => rfl) s isl r

theorem State.failStamp_rangers (s : State) (isl : Nat) (r : ErrRec) (cause : Nat) :
    (s.failStamp isl r cause).2.dev.rangers = s.dev.rangers :=
  s.logAt_rangers isl { r with severity := 2, action := 11, detail := cause }

/-- The watchdogs' restarts are kept in FAILSAFE. -/
theorem State.enterFailsafe_rangers (s : State) (isl : Nat) (r : ErrRec) (cause : Nat) (scope : Option Nat) :
    (s.enterFailsafe isl r cause scope).dev.rangers = s.dev.rangers := by
  have stamped := s.failStamp_rangers isl r cause
  have links (u : State) (f : FabricSt → FabricSt) : (u.modFab f).dev.rangers = u.dev.rangers := rfl
  have tents (ts : List Nat) (f : Stamp) (u : State) :
      (ts.foldl (fun s t => s.failTent f t) u).dev.rangers = u.dev.rangers :=
    foldl_kept (·.dev.rangers) _ (fun s t => s.failTent_rangers f t) ts u
  unfold State.enterFailsafe
  generalize s.failStamp isl r cause = p at stamped
  obtain ⟨f, u⟩ := p
  dsimp only at stamped ⊢
  rw [State.mgmtLog_kept (·.dev.rangers) (fun _ _ _ => rfl) (fun _ _ => rfl), State.postEvent_rangers, tents, links,
    State.wr_rangers, ← stamped]
  have scopeAll (v : State) (b : Bool) :
      (if b then v.setFlag rRasFailsafe fRasFailsafeScopeAll true else v).dev.rangers = v.dev.rangers := by
    split
    · exact State.setFlag_rangers ..
    · rfl
  rw [scopeAll]
  split
  · rw [State.wr_rangers, State.setFld_rangers, State.setFlag_rangers]
  · rfl

end Sys2Proof.Machine
end

section
/-! SUPPORT. Recovery from the journal and ranger restart (R418 to R420, R425, R426, R431). -/

namespace Sys2Proof.Machine

/-! Sorted lists. -/

theorem insertBy_perm {α : Type} (lt : α → α → Bool) (x : α) (l : List α) : (insertBy lt x l).Perm (x :: l) := by
  induction l with
  | nil => exact .refl _
  | cons y l ih =>
    unfold insertBy
    split
    · exact .refl _
    · exact (ih.cons y).trans (.swap x y l)

theorem sortBy_perm {α : Type} (lt : α → α → Bool) (l : List α) : (sortBy lt l).Perm l := by
  induction l with
  | nil => exact .refl _
  | cons x l ih => exact (insertBy_perm lt x _).trans (ih.cons x)

/-! The scan (R418 to R420, R423). -/

/-- A request that the scan has made of the ADMIT of number `n`. -/
structure Request.Back (r : Request) (n : Nat) : Prop where
  seq : r.seq = n
  recovered : r.recovered = true
  accepted : r.accepted = true

theorem Request.ofAdmit_back {a : JRec} (h : a.pay.kind = 1) (rs : List JRec) (c : Option (Nat × Stamp)) :
    ∃ r, Request.ofAdmit a rs c = some r ∧ r.Back a.req := by
  unfold Request.ofAdmit
  split
  · exact ⟨_, rfl, rfl, rfl, rfl⟩
  · next other =>
    unfold JPay.kind at h
    split at h
    · next pay => exact (other _ _ _ _ _ _ _ _ pay).elim
    all_goals exact absurd h (by decide)

theorem Request.Back.abandon {r : Request} {n : Nat} (h : r.Back n) (cls : Nat) (st : Stamp) :
    (r.abandon cls st).Back n := by
  obtain ⟨seq, recovered, accepted⟩ := h
  unfold Request.abandon
  split <;> exact ⟨seq, recovered, accepted⟩

/-- One ADMIT of the counted records `rs` makes its request. -/
def State.admitBack (rs : List JRec) (st : Stamp) (s : State) (a : JRec) : State :=
  match Request.ofAdmit a (sortBy JRec.earlier (rs.filter (·.req == a.req))) (cancelOf rs a.req) with
  | some r => s.setReq a.req (some (r.abandon a.cls st))
  | none => s

theorem State.admitBack_makes (rs : List JRec) (st : Stamp) (s : State) {a : JRec} (h : a.pay.kind = 1) :
    ∃ r, (s.admitBack rs st a).req a.req = some r ∧ r.Back a.req := by
  obtain ⟨r, made, back⟩ := Request.ofAdmit_back h (sortBy JRec.earlier (rs.filter (·.req == a.req))) (cancelOf rs a.req)
  unfold State.admitBack
  rw [made]
  exact ⟨_, State.req_setReq_same .., back.abandon a.cls st⟩

theorem State.admitBack_other (rs : List JRec) (st : Stamp) (s : State) (a : JRec) {n : Nat} (h : n ≠ a.req) :
    (s.admitBack rs st a).req n = s.req n := by
  unfold State.admitBack
  split
  · exact State.req_setReq_other _ _ _ h
  · rfl

/-- Each ADMIT has its request, whatever further ADMIT records follow. -/
theorem State.admitsBack_make (rs : List JRec) (st : Stamp) (l : List JRec) (kinds : ∀ a ∈ l, a.pay.kind = 1) (s : State)
    {n : Nat} (h : (∃ a ∈ l, a.req = n) ∨ ∃ r, s.req n = some r ∧ r.Back n) :
    ∃ r, (l.foldl (State.admitBack rs st) s).req n = some r ∧ r.Back n := by
  induction l generalizing s with
  | nil => exact h.resolve_left fun ⟨a, ha, _⟩ => List.not_mem_nil ha
  | cons a l ih =>
    refine ih (fun b hb => kinds b (List.mem_cons_of_mem _ hb)) _ ?_
    by_cases here : n = a.req
    · subst here
      exact .inr (State.admitBack_makes rs st s (kinds a List.mem_cons_self))
    · rw [State.admitBack_other rs st s a here]
      refine h.imp_left fun ⟨b, hb, req⟩ => ⟨b, (List.mem_cons.1 hb).resolve_left fun same => here ?_, req⟩
      rw [← req, same]

/-- The counted ADMIT records in the order of their requests. -/
def State.admitsOf (s : State) (bad : List Nat) (peer : List JRec) : List JRec :=
  sortBy (fun (a b : JRec) => decide (a.req < b.req)) ((s.counted bad peer).filter (·.pay.kind == 1))

/-- The requests that the scan makes. -/
def State.scanned (s : State) (bad : List Nat) (peer : List JRec) : State :=
  (s.admitsOf bad peer).foldl (State.admitBack (s.counted bad peer) (s.originate (islRanger 0)).1)
    (s.originate (islRanger 0)).2

theorem execReplayScan_scans {s : State} (bad : List Nat) (peer : List JRec) (step : s.ao.startStep = 11)
    (on : s.flag rJrnlStatus fJrnlStatusReplaying = true) :
    ∃ u : State, execReplayScan bad peer s = .next ((u.setFld rJrnlRecoveryStatus fJrnlRecoveryStatusEntries
        (s.admitsOf bad peer).length).setFlag rJrnlStatus fJrnlStatusReplaying false) ∧
      u.dev.jrnl.recovered = (s.admitsOf bad peer).map (·.req) ∧ ∀ n, u.req n = (s.scanned bad peer).req n := by
  have kept (u v : State) (c : Prop) [Decidable c] (off : Nat) (x : W64) (n : Nat) (j : Journal → Journal) :
      (((if c then u else u.wr off x).modAdm fun a => { a with nextSeq := n }).modJrnl j).req = u.req := by
    split <;> rfl
  unfold execReplayScan
  rw [if_neg (by simp [step, on])]
  exact ⟨_, rfl, rfl, fun n => congrFun (kept (s.scanned bad peer) s _ _ _ _ _) n⟩

/-! The recovery table (R425). -/

theorem State.inHost_of_rd {s t : State} (h : t.rd rMemHostRegion = s.rd rMemHostRegion) (a n : Nat) :
    t.inHost a n = s.inHost a n := by
  unfold State.inHost State.hostBase State.hostSize State.fld
  rw [h]

/-- Writing JRNL_RECOVERY clears DONE. -/
def State.tableAsked (s : State) (v : W64) : State :=
  (s.writeReg rJrnlRecovery v).setFlag rJrnlRecoveryStatus fJrnlRecoveryStatusDone false

theorem State.rd_tableAsked (s : State) (v : W64) {o : Nat} (h : o ≠ rJrnlRecoveryStatus) :
    (s.tableAsked v).rd o = (s.writeReg rJrnlRecovery v).rd o := State.rd_setFlag_other _ _ _ _ _ h

theorem State.tableAsked_kept {α : Type} (p : State → α) (hw : ∀ s off v, p (State.wr s off v) = p s) (s : State)
    (v : W64) : p (s.tableAsked v) = p s :=
  (State.setFlag_kept p hw _ _ _ _).trans (State.writeReg_kept p hw s _ v)

theorem execRecoveryTableWrite_eq (s : State) (v : W64) : execRecoveryTableWrite v s =
    let a := (s.writeReg rJrnlRecovery v).fld rJrnlRecovery fJrnlRecoveryAddr * 64
    let rs := s.dev.jrnl.recovered.filterMap s.req
    if (s.writeReg rJrnlRecovery v).inHost a (32 * rs.length) then
      .next (((s.tableAsked v).hostWrite a (rs.flatMap Request.recoveryEntry)).setFlag rJrnlRecoveryStatus
        fJrnlRecoveryStatusDone true)
    else .next (s.tableAsked v) := by
  have jrnl : (s.tableAsked v).dev.jrnl = s.dev.jrnl := s.tableAsked_kept (·.dev.jrnl) (fun _ _ _ => rfl) v
  have req : (s.tableAsked v).req = s.req := s.tableAsked_kept State.req (fun _ _ _ => rfl) v
  have addr : (s.tableAsked v).fld rJrnlRecovery fJrnlRecoveryAddr =
      (s.writeReg rJrnlRecovery v).fld rJrnlRecovery fJrnlRecoveryAddr :=
    congrArg (getBits · _ _) (s.rd_tableAsked v (by decide))
  have region (a n : Nat) : (s.tableAsked v).inHost a n = (s.writeReg rJrnlRecovery v).inHost a n :=
    State.inHost_of_rd (s.rd_tableAsked v (by decide)) a n
  dsimp only
  rw [← jrnl, ← req, ← addr, ← region]
  rfl

/-! Recovery of a tent (R425). -/

/-- A tent's requests that the scan found. -/
def State.foundOf (s : State) (n : Nat) : List Request := (s.dev.jrnl.recovered.filterMap s.req).filter (·.tent == n)

/-- The tent's requests resumed, as far as they can be. -/
def State.resumedOf (s : State) (n : Nat) : State :=
  ((s.foundOf n).map (·.seq)).foldl (fun s k => s.resumeRequest k) s

/-- A request still waits for a panel. -/
def State.resumeBusy (s : State) (n : Nat) : Bool :=
  ((s.foundOf n).map (·.seq)).any fun k => match (s.resumedOf n).req k with
    | some r => !r.resumed
    | none => false

/-- What a recovery that may go on leaves. -/
def State.tentRecovered (s : State) (n : Nat) : State :=
  (((s.resumedOf n).recoverResult 0).setFlag rJrnlRecover fJrnlRecoverBusy (s.resumeBusy n)).modJrnl fun j =>
    { j with resuming := if s.resumeBusy n then some n else none }

theorem execTentRecover_eq {s : State} {n : Nat} (hn : n < 64) : execTentRecover n s =
    if s.dev.jrnl.resuming.any (· != n) then .next (s.recoverResult 4)
    else if s.tentState n ≠ 2 then .next (s.recoverResult 1)
    else if s.foundOf n = [] then .next (s.recoverResult 3)
    else if (s.foundOf n).any fun r => r.replay.any fun x => x.keyId != (s.tent n).keyId then .next (s.recoverResult 2)
    else if s.blocked (islRanger 0) then .next s
    else .next (s.tentRecovered n) :=
  if_neg (Nat.not_le.2 hn)

theorem State.resumeBusy_iff (s : State) (n : Nat) : s.resumeBusy n = true ↔
    ∃ r ∈ s.foundOf n, ∃ p, (s.resumedOf n).req r.seq = some p ∧ p.resumed = false := by
  unfold State.resumeBusy
  rw [List.any_map, List.any_eq_true]
  refine exists_congr fun r => and_congr_right fun _ => ?_
  dsimp only [Function.comp]
  cases (s.resumedOf n).req r.seq with
  | none => simp
  | some p => simp

theorem State.recoverResult_flag (s : State) (k : Nat) (b : Bool) :
    ((s.recoverResult k).setFlag rJrnlRecover fJrnlRecoverBusy b).fld rJrnlRecover fJrnlRecoverResult = k % 8 := by
  rw [State.fld_setFlag_apart _ _ _ _ _ (by decide) (by decide)]
  exact State.fld_setFld_same _ _ _ _ (by decide)

theorem State.fld_modJrnl (s : State) (f : Journal → Journal) (o : Nat) (g : Nat × Nat) :
    (s.modJrnl f).fld o g = s.fld o g := (rfl)

theorem State.tentRecovered_fields (s : State) (n : Nat) :
    (s.tentRecovered n).fld rJrnlRecover fJrnlRecoverResult = 0 ∧
    (s.tentRecovered n).flag rJrnlRecover fJrnlRecoverBusy = s.resumeBusy n ∧
    (s.tentRecovered n).req = (s.resumedOf n).req ∧
    (s.tentRecovered n).dev.jrnl.resuming = if s.resumeBusy n then some n else none := by
  have req (u : State) (o : Nat) (f g : Nat × Nat) (k : Nat) (b : Bool) (j : Journal → Journal) :
      (((u.setFld o f k).setFlag o g b).modJrnl j).req = u.req := rfl
  unfold State.tentRecovered
  rw [State.fld_modJrnl, State.flag_modJrnl]
  exact ⟨State.recoverResult_flag _ 0 _, State.flag_setFlag_same _ _ _ _ (by decide) rfl, req .., rfl⟩

/-! Reattachment (R426). -/

/-- The ring that a request had before is bound to none. -/
def State.unbound (s : State) (k : Option Nat) : State :=
  match k with
  | some j => s.setRing j ((s.ring j).map fun (y : Ring) => { y with bound := 0, stalled := none })
  | none => s

/-- A request and its new ring `x`. -/
def State.reattached (s : State) (n k : Nat) (q : Request) (x : Ring) : State :=
  if q.ring.isNone then s.setReq n (some q)
  else (((s.setReq n (some q)).setRing k (some { x with producer := 0, consumer := 0 })).hostPut x.addr 8 0).bindRing k n

/-- The conditions on which a reattachment may be had. -/
structure State.MayReattach (s : State) (k : Nat) (r : Request) (x : Ring) : Prop where
  req : s.req (s.rd rJrnlReattachSeq).toNat = some r
  waits : r.recovered = true ∨ r.orphaned = true
  live : r.finalDone = false
  next : (s.rd rJrnlReattachNext).toNat ≤ s.takenOver r
  ring : s.ring k = some x
  ours : x.tent = r.tent
  free : x.bound = 0

theorem execRequestReattach_binds {s : State} {k : Nat} {r : Request} {x : Ring} (h : s.MayReattach k r x) :
    execRequestReattach k s = .next (((s.unbound r.ring).reattached (s.rd rJrnlReattachSeq).toNat k
      (r.reattach (s.rd rJrnlReattachNext).toNat k) x).setFld rJrnlReattachStatus fJrnlReattachStatusResult 0) := by
  obtain ⟨req, waits, live, next, ring, ours, free⟩ := h
  have waiting : ¬ ((!r.recovered) = true ∧ (!r.orphaned) = true) := by
    simpa [Classical.or_iff_not_imp_left] using waits
  unfold execRequestReattach
  extract_lets n nx answer
  split
  · next none_ => exact nomatch req.symm.trans none_
  · next q hq =>
    obtain rfl := Option.some.inj (req.symm.trans hq)
    rw [if_neg waiting, if_neg (by simp [live]), if_neg (Nat.not_lt.2 next)]
    split
    · next none_ => exact nomatch ring.symm.trans none_
    · next y hy =>
      obtain rfl := Option.some.inj (ring.symm.trans hy)
      rw [if_neg (by simp [ours, free])]
      unfold State.reattached
      extract_lets u q' v
      split
      · rfl
      · rfl

theorem State.reattached_fields (s : State) (n k : Nat) (q : Request) (x : Ring) : (s.reattached n k q x).req n = some q ∧
    (q.ring ≠ none → (s.reattached n k q x).ring k = some { x with
      producer := 0, consumer := 0, bound := n, stalls := 0, stalled := none }) := by
  unfold State.reattached
  split
  · next gone => exact ⟨State.req_setReq_same .., fun has => absurd (Option.isNone_iff_eq_none.1 gone) has⟩
  · let u := ((s.setReq n (some q)).setRing k (some { x with producer := 0, consumer := 0 })).hostPut x.addr 8 0
    have req : u.req n = some q := State.req_setReq_same s n (some q)
    have ring : u.ring k = some { x with producer := 0, consumer := 0 } := State.ring_setRing_same ..
    exact ⟨(congrFun (State.bindRing_kept State.req (fun _ _ _ => rfl) (fun _ _ _ => rfl) u k n) n).trans req,
      fun _ => State.ring_bindRing ring n⟩

theorem execRequestReattach_none {s : State} {k : Nat} (h : s.req (s.rd rJrnlReattachSeq).toNat = none ∨
      ∃ r, s.req (s.rd rJrnlReattachSeq).toNat = some r ∧ r.recovered = false ∧ r.orphaned = false) :
    execRequestReattach k s = .next (s.setFld rJrnlReattachStatus fJrnlReattachStatusResult 1) := by
  unfold execRequestReattach
  extract_lets n nx answer
  split
  · rfl
  · next q hq =>
    rcases h with none_ | ⟨r, req, recovered, orphaned⟩
    · exact nomatch none_.symm.trans hq
    · obtain rfl := Option.some.inj (req.symm.trans hq)
      rw [if_pos (by simp [recovered, orphaned])]

/-! Ranger restart (R431). -/

/-- Watchdog expiries of a ranger in the last second. -/
def State.recentRestarts (s : State) (r : Nat) : List Nat :=
  (SMap.get (fun _ => []) s.dev.rangers r).filter fun t => decide (s.liveTick < t + 1000000000)

/-- A ranger's core is down, and its expiry is noted. -/
def State.rangerDown (s : State) (r : Nat) : State :=
  ({ s with dev := { s.dev with
      rangers := SMap.set (fun _ => []) s.dev.rangers r (s.recentRestarts r ++ [s.liveTick]) } } : State).setFld
    rFwStatus fFwStatusRangersUp (setBit (s.fld rFwStatus fFwStatusRangersUp) r false)

theorem State.rangerDown_rangers (s : State) (r : Nat) :
    SMap.get (fun _ => []) (s.rangerDown r).dev.rangers r = s.recentRestarts r ++ [s.liveTick] := by
  unfold State.rangerDown
  rw [State.setFld_rangers]
  exact SMap.get_set_same ..

theorem execRangerWatchdogExpire_up {s : State} {r : Nat} (hr : r < 8) (up : s.rangerUp r = true) :
    execRangerWatchdogExpire r s =
      if 2 ≤ (s.recentRestarts r).length then
        .next ((s.rangerDown r).enterFailsafe (islRanger r) { detector := 0x0E00 } 3 none)
      else .next ((s.rangerDown r).log (islRanger r) { detector := 0x0E00, severity := 3 }) :=
  if_neg (by simp [up, hr])

theorem execRangerRestartComplete_down {s : State} {r : Nat} (ok : Bool) (hr : r < 8) (down : s.rangerUp r = false)
    (noted : SMap.get (fun _ => []) s.dev.rangers r ≠ []) : execRangerRestartComplete r ok s =
      if !ok ∨ s.armedAt (islRanger r) 0x0E01 then .next (s.enterFailsafe (islRanger r) { detector := 0x0E01 } 3 none)
      else .next ((s.setFld rFwStatus fFwStatusRangersUp
        (setBit (s.fld rFwStatus fFwStatusRangersUp) r true)).postEvent r 4 0 0 [r]) :=
  if_neg (by simp [down, noted, hr])

theorem State.rangerUp_postEvent (s : State) (core type status tag : Nat) (args : List Nat) :
    (s.postEvent core type status tag args).rangerUp = s.rangerUp := by
  have same : (s.postEvent core type status tag args).fld rFwStatus fFwStatusRangersUp =
      s.fld rFwStatus fFwStatusRangersUp :=
    State.postEvent_kept (·.fld rFwStatus fFwStatusRangersUp)
      (fun s f v => State.fld_setFld_other _ _ _ _ _ _ (by decide)) (fun _ _ _ => rfl) (fun _ _ => rfl)
      (fun s n => congrArg (getBits · _ _) (s.rd_addFld_other _ _ _ (by decide))) (fun _ _ _ => rfl)
      s core type status tag args
  unfold State.rangerUp
  rw [same]

theorem State.rangerUp_set (s : State) {r : Nat} (hr : r < 8) :
    (s.setFld rFwStatus fFwStatusRangersUp (setBit (s.fld rFwStatus fFwStatusRangersUp) r true)).rangerUp r = true := by
  unfold State.rangerUp
  rw [State.fld_setFld_same _ _ _ _ (by decide)]
  exact (Nat.testBit_mod_two_pow _ 8 r).trans (by simp [hr, testBit_setBit_true])

/-- Settles O54: the ring restarts at 0 by log entry 91, a recovery goes on with the next write by log entry 93, and a
table outside the host region is not written by log entry 95. -/
theorem recoveryFromTheJournal : Obligations.RecoveryFromTheJournal := by
  unfold Obligations.RecoveryFromTheJournal
  refine ⟨?scan, ?table, ?recover, ?reattach, ?unknown, ?watchdog, ?restart⟩
  case scan =>
    intro s bad peer step on
    obtain ⟨u, ran, recovered, req⟩ := execReplayScan_scans bad peer step on
    have found : (s.admitsOf bad peer).Perm ((s.counted bad peer).filter fun r => r.pay.kind == 1) := sortBy_perm _ _
    have kept (o o' : Nat) (f g : Nat × Nat) (v : Nat) (b : Bool) :
        ((u.setFld o f v).setFlag o' g b).dev.jrnl = u.dev.jrnl ∧ ((u.setFld o f v).setFlag o' g b).req = u.req := ⟨rfl, rfl⟩
    refine ⟨_, ran, State.flag_setFlag_same _ _ _ _ (by decide) rfl, ?_, fun a ha => ⟨?_, ?_⟩⟩
    · rw [State.fld_setFlag_other _ _ _ _ _ _ (by decide), ← found.length_eq]
      exact State.fld_setFld_same _ _ _ _ (by decide)
    · rw [(kept ..).1, recovered]
      exact List.mem_map_of_mem (found.mem_iff.2 ha)
    · rw [(kept ..).2, req]
      obtain ⟨r, made, seq, back, accepted⟩ := State.admitsBack_make (s.counted bad peer)
        (s.originate (islRanger 0)).1 (s.admitsOf bad peer)
        (fun b hb => eq_of_beq (List.mem_filter.1 (found.mem_iff.1 hb)).2) (s.originate (islRanger 0)).2
        (.inl ⟨a, found.mem_iff.2 ha, rfl⟩)
      exact ⟨r, made, seq, back, accepted⟩
  case table =>
    intro s v
    have host : (s.tableAsked v).dev.mem = s.dev.mem := s.tableAsked_kept (·.dev.mem) (fun _ _ _ => rfl) v
    have written (u : State) (a o : Nat) (bs : List Byte) (f : Nat × Nat) (b : Bool) :
        ((u.hostWrite a bs).setFlag o f b).dev.mem.host = u.dev.mem.host.write a bs := rfl
    dsimp only
    have ran := execRecoveryTableWrite_eq s v
    dsimp only at ran
    split at ran
    · next fits =>
      refine ⟨_, ran, ?_⟩
      rw [if_pos fits, written, host]
      exact ⟨State.flag_setFlag_same _ _ _ _ (by decide) rfl, rfl⟩
    · next out =>
      refine ⟨_, ran, ?_⟩
      rw [if_neg out]
      exact ⟨State.flag_setFlag_same _ _ _ _ (by decide) rfl, host⟩
  case recover =>
    intro s n hn
    dsimp only
    have ran := execTentRecover_eq (s := s) hn
    have keys : ((s.foundOf n).any fun r => r.replay.any fun x => x.keyId != (s.tent n).keyId) = true ↔
        ∃ r ∈ s.foundOf n, ∃ x ∈ r.replay, x.keyId ≠ (s.tent n).keyId := by
      simp only [List.any_eq_true, bne_iff_ne]
    have mine : (s.dev.jrnl.recovered.filterMap s.req).filter (fun r => r.tent == n) = s.foundOf n := rfl
    rw [mine]
    split at ran
    · next other => exact ⟨_, ran, by rw [if_pos other]; rfl⟩
    next alone =>
    split at ran
    · next idle => exact ⟨_, ran, by rw [if_neg alone, if_pos idle]; rfl⟩
    next active =>
    split at ran
    · next nothing => exact ⟨_, ran, by rw [if_neg alone, if_neg active, if_pos nothing]; rfl⟩
    next some_ =>
    split at ran
    · next key => exact ⟨_, ran, by rw [if_neg alone, if_neg active, if_neg some_, if_pos (keys.1 key)]; rfl⟩
    next same =>
    split at ran
    · next blocked =>
      exact ⟨_, ran, by rw [if_neg alone, if_neg active, if_neg some_, if_neg (mt keys.2 same), if_pos blocked]⟩
    next free =>
    refine ⟨_, ran, ?_⟩
    rw [if_neg alone, if_neg active, if_neg some_, if_neg (mt keys.2 same), if_neg free]
    obtain ⟨result, busy, req, resuming⟩ := s.tentRecovered_fields n
    refine ⟨result, ?_, ?_⟩
    · rw [busy, req]
      exact s.resumeBusy_iff n
    · rw [busy]
      exact resuming
  case reattach =>
    intro s k r x
    dsimp only
    intro req waits live next ring ours free
    obtain ⟨bound, ring'⟩ := (s.unbound r.ring).reattached_fields (s.rd rJrnlReattachSeq).toNat k
      (r.reattach (s.rd rJrnlReattachNext).toNat k) x
    exact ⟨_, execRequestReattach_binds ⟨req, waits, live, next, ring, ours, free⟩,
      State.fld_setFld_same _ _ _ _ (by decide), bound, ring'⟩
  case unknown => exact fun s k none_ => execRequestReattach_none none_
  case watchdog =>
    intro s r hr up
    have ran := execRangerWatchdogExpire_up hr up
    split at ran
    · refine ⟨_, ran, ?_, fun _ => State.inFailsafe_enterFailsafe ..⟩
      rw [State.enterFailsafe_rangers]
      exact s.rangerDown_rangers r
    · next few =>
      refine ⟨_, ran, ?_, fun many => absurd many few⟩
      rw [show ((s.rangerDown r).log (islRanger r) _).dev.rangers = (s.rangerDown r).dev.rangers from
        State.logAt_rangers ..]
      exact s.rangerDown_rangers r
  case restart =>
    intro s r hr down noted
    refine ⟨⟨_, (execRangerRestartComplete_down false hr down noted).trans (if_pos (.inl rfl)),
      State.inFailsafe_enterFailsafe ..⟩, fun unarmed => ⟨_,
        (execRangerRestartComplete_down true hr down noted).trans (if_neg (by simp [unarmed])), ?_⟩⟩
    rw [State.rangerUp_postEvent]
    exact s.rangerUp_set hr

end Sys2Proof.Machine
end

section
/-! SUPPORT. Flits on a link: sending, timers, receiving and forwarding (R434 to R438). -/

namespace Sys2Proof.Machine

/-! A link in the fabric's state. -/

theorem State.link_of_fab {s t : State} (h : t.dev.fab = s.dev.fab) (l : Nat) : t.link l = s.link l := by
  unfold State.link
  rw [h]

theorem State.link_setLink (s : State) (k : Nat) (x : Link) (l : Nat) :
    (s.setLink k x).link l = if l = k then x else s.link l := SMap.get_set ..
@[simp] theorem State.link_setLink_same (s : State) (l : Nat) (x : Link) : (s.setLink l x).link l = x :=
  SMap.get_set_same ..
theorem State.link_modLink (s : State) (k : Nat) (f : Link → Link) (l : Nat) :
    (s.modLink k f).link l = if l = k then f (s.link k) else s.link l := s.link_setLink k _ l
@[simp] theorem State.link_modLink_same (s : State) (l : Nat) (f : Link → Link) :
    (s.modLink l f).link l = f (s.link l) := s.link_setLink_same l _

@[simp] theorem State.originate_fab (s : State) (n : Nat) : (s.originate n).2.dev.fab = s.dev.fab := (rfl)
@[simp] theorem State.receive_fab (s : State) (n t : Nat) : (s.receive n t).dev.fab = s.dev.fab := (rfl)
@[simp] theorem State.iodEvent_fab (s : State) (i code inst tent n : Nat) :
    (s.iodEvent i code inst tent n).dev.fab = s.dev.fab :=
  State.countEvent_kept (·.dev.fab) (fun _ _ _ => rfl) s _ _ _ _ _ _ _
@[simp] theorem State.addFld_fab (s : State) (off : Nat) (f : Nat × Nat) (n : Nat) :
    (s.addFld off f n).dev.fab = s.dev.fab := (rfl)
@[simp] theorem State.busy_fab (s : State) (e n : Nat) : (s.busy e n).dev.fab = s.dev.fab := (rfl)
@[simp] theorem State.log_fab (s : State) (isl : Nat) (r : ErrRec) : (s.log isl r).dev.fab = s.dev.fab :=
  State.logAt_kept (·.dev.fab) (fun _ _ _ => rfl) (fun _ _ _ => rfl) (fun _ _ => rfl) (fun _ _ => rfl) s isl r
@[simp] theorem State.fire_fab (s : State) (isl det : Nat) : (s.fire isl det).2.dev.fab = s.dev.fab :=
  State.fire_kept (·.dev.fab) (fun _ _ _ => rfl) s isl det

/-! Sending (R434 to R437). -/

/-- Link `y` is link `x` after flit `f` has gone out as `g`. -/
structure Link.Sends (x y : Link) (f g : Flit) : Prop where
  wire : y.wire = some g
  lseq : g.lseq = x.txSeq
  ack : g.ack = some ((x.rxSeq + 4095) % 4096)
  type : g.type = f.type
  txn : g.txn = f.txn
  dest : g.dest = f.dest
  retry : y.retry = x.retry ++ [g]
  txSeq : y.txSeq = (x.txSeq + 1) % 4096
  queue : y.queue = x.queue
  ackDue : y.ackDue = 0
  sealTx : f.type = 4 → y.sealTx = 0

/-- Credits given back leave the rest of the link as it is. -/
theorem Link.giveCredits_rest (x : Link) : ∃ rs fl, x.giveCredits.2 = { x with returns := rs, filled := fl } := by
  unfold Link.giveCredits
  split
  · exact ⟨x.returns, x.filled, rfl⟩
  · exact ⟨_, _, rfl⟩

theorem State.transmit_sends (s : State) (l : Nat) (f : Flit) :
    ∃ g, (s.link l).Sends ((s.transmit l f).link l) f g := by
  obtain ⟨rs, fl, rest⟩ := (s.link l).giveCredits_rest
  unfold State.transmit
  generalize (s.link l).giveCredits = c at rest
  obtain ⟨cr, y⟩ := c
  obtain rfl : y = _ := rest
  dsimp only
  rw [State.link_of_fab ((State.busy_fab ..).trans (State.iodEvent_fab ..)), State.link_setLink_same]
  exact ⟨_, rfl, rfl, rfl, rfl, rfl, rfl, rfl, rfl, rfl, rfl, fun sealed => if_pos sealed⟩

theorem execFlitSend_picks {s : State} {l : Nat} {f : Flit} (up : s.linkUp l = true) (resend : (s.link l).resend = [])
    (room : (s.link l).retry.length < 1024) (block : (s.link l).sealTx < 255) (noNak : (s.link l).nakDue = false)
    (pick : (s.link l).pick = some f) (free : s.blocked (islLink l) = false) (runs : s.failsafe = false ∨ f.cls = 0) :
    execFlitSend l s = .next ((s.modLink l fun y => { y with queue := y.queue.erase f }).transmit l f) := by
  unfold execFlitSend
  extract_lets x
  rw [if_neg (by simp [up])]
  split
  · next h => exact nomatch resend.symm.trans h
  · rw [if_neg (Nat.not_le.2 room)]
    split
    next st u born =>
      rw [if_neg (Nat.not_le.2 block), if_neg (by simp [x, noNak])]
      split
      · next none_ => exact nomatch pick.symm.trans none_
      · next g hg =>
        obtain rfl := Option.some.inj (pick.symm.trans hg)
        rw [if_neg (by simp [free])]
        extract_lets v
        rw [if_neg fun drops => ?_]
        obtain ⟨fails, other⟩ := drops
        rcases runs with runs | system
        · exact absurd fails (by rw [show v.flag rRasFailsafe fRasFailsafeActive = false from runs]; decide)
        · exact other system

theorem execFlitSend_replays {s : State} {l : Nat} {f : Flit} {fs : List Flit} (up : s.linkUp l = true)
    (resend : (s.link l).resend = f :: fs) : ∃ t, execFlitSend l s = .next t ∧
      t.link l = { s.link l with wire := some f, resend := fs, lastTx := s.ao.tick, flits := (s.link l).flits + 1 } := by
  unfold execFlitSend
  extract_lets x
  rw [if_neg (by simp [up])]
  split
  · next g gs h =>
    obtain ⟨rfl, rfl⟩ := List.cons.inj (resend.symm.trans h)
    refine ⟨_, rfl, ?_⟩
    rw [State.link_of_fab ((State.iodEvent_fab ..).trans ((State.iodEvent_fab ..).trans (State.addFld_fab ..)))]
    exact State.link_setLink_same ..
  · next h => exact nomatch resend.symm.trans h

theorem execAckTimer_due {s : State} {l : Nat} (up : s.linkUp l = true) (due : 64 ≤ (s.link l).ackDue)
    (room : (s.link l).retry.length < 1024) :
    ∃ g t, execAckTimer l s = .next t ∧ (s.link l).Sends (t.link l) { stamp := (s.originate (islLink l)).1, type := 5 } g := by
  unfold execAckTimer
  extract_lets x
  rw [if_neg (by simp only [up, x]; simp; omega)]
  obtain ⟨g, sends⟩ := (s.originate (islLink l)).2.transmit_sends l { stamp := (s.originate (islLink l)).1, type := 5 }
  exact ⟨g, _, rfl, by rwa [State.link_of_fab (s.originate_fab _)] at sends⟩

theorem execSealIdleClose_due {s : State} {l : Nat} (up : s.linkUp l = true) (some_ : (s.link l).sealTx ≠ 0)
    (idle : (s.link l).lastTx + 1000 ≤ s.ao.tick) (room : (s.link l).retry.length < 1024) :
    ∃ g t, execSealIdleClose l s = .next t ∧
      (s.link l).Sends (t.link l) { stamp := (s.originate (islLink l)).1, type := 4 } g := by
  unfold execSealIdleClose
  extract_lets x
  rw [if_neg (by simp only [up, x]; simp; omega)]
  obtain ⟨g, sends⟩ := (s.originate (islLink l)).2.transmit_sends l { stamp := (s.originate (islLink l)).1, type := 4 }
  exact ⟨g, _, rfl, by rwa [State.link_of_fab (s.originate_fab _)] at sends⟩

/-! Receiving (R435 to R437, R445). -/

theorem execFlitReceive_badCrc {s : State} {l : Nat} (f : Flit) (good : Bool) (up : s.linkUp l = true) :
    ∃ u : State, execFlitReceive l f false good s = .next (u.modLink l fun x => { x with nakDue := true }) ∧
      u.dev.fab = s.dev.fab := by
  unfold execFlitReceive
  rw [if_neg (by simp [up])]
  have fired := s.fire_fab (islLink l) 0x0800
  split
  next inj u fires =>
    rw [fires] at fired
    rw [if_pos (.inl rfl)]
    exact ⟨_, rfl, (State.log_fab ..).trans fired⟩

/-- A flit that comes in order goes to `acceptFlit` once its ACK, NAK and credits are taken. -/
theorem execFlitReceive_inOrder {s : State} {l : Nat} {f : Flit} (good : Bool) (up : s.linkUp l = true)
    (unarmed : s.unarmed = true) (type : f.type = 2) (noNak : f.nak = false) (few : (s.link l).replays < 8)
    (next : f.lseq = (s.link l).rxSeq) :
    execFlitReceive l f true good s = .next ((s.modLink l fun x => x.control f s.ao.tick).acceptFlit l f good) := by
  have replays : ((s.link l).control f s.ao.tick).replays < 8 := by
    have low (c p : Prop) [Decidable c] [Decidable p] (a : Nat) {b : Nat} (h : b < 8) :
        (if c then 0 else if false = true ∧ p then a else b) < 8 := by
      split
      · decide
      · rwa [if_neg fun both => Bool.false_ne_true both.1]
    unfold Link.control
    rw [noNak]
    exact low _ _ _ few
  unfold execFlitReceive
  rw [if_neg (by simp [up])]
  have fires := State.fire_unarmed s (islLink l) 0x0800 unarmed
  split
  next inj u fired =>
    obtain ⟨rfl, rfl⟩ := Prod.mk.inj (fires.symm.trans fired)
    rw [if_neg (by simp), if_neg (by omega)]
    extract_lets v
    have same : v.link l = (s.link l).control f s.ao.tick := State.link_modLink_same ..
    rw [if_neg (by rw [same]; omega), if_neg (by omega), if_neg (by rw [same]; exact not_not.2 next)]

theorem State.rd_iodEvent_below (s : State) (i code inst tent n : Nat) {o : Nat} (h : o < 0x380000) :
    (s.iodEvent i code inst tent n).rd o = s.rd o := State.rd_countEvent_below _ _ _ _ _ _ _ _ (by omega)

/-- A flit of a transaction is counted by LSEQ and for the seal. -/
def State.accepted (s : State) (l : Nat) (f : Flit) : State :=
  ((s.modLink l fun x => { x with
    rxSeq := (x.rxSeq + 1) % 4096, ackDue := x.ackDue + 1
    sealRx := if f.type = 4 then 0 else if (f.type = 2 ∨ f.type = 3) ∨ f.type = 5 then x.sealRx + 1 else x.sealRx }).receive
      (islLink l) f.stamp.tick).iodEvent (l / 4) 0x20B (l % 4) 0xFF

theorem State.rd_accepted (s : State) (l : Nat) (f : Flit) {o : Nat} (h : o < 0x380000) :
    (s.accepted l f).rd o = s.rd o := State.rd_iodEvent_below _ _ _ _ _ _ h

theorem State.accepted_fab (s : State) (l : Nat) (f : Flit) : (s.accepted l f).dev.fab =
    (s.modLink l fun x => { x with
      rxSeq := (x.rxSeq + 1) % 4096, ackDue := x.ackDue + 1
      sealRx := if f.type = 4 then 0 else if (f.type = 2 ∨ f.type = 3) ∨ f.type = 5 then x.sealRx + 1 else x.sealRx }).dev.fab :=
  (State.iodEvent_fab ..).trans (State.receive_fab ..)

theorem State.acceptFlit_head {s : State} {l : Nat} {f : Flit} (good : Bool) (type : f.type = 2)
    (room : SMap.get (fun _ => 0) (s.link l).filled (creditKey f.cls f.vc) < 64) :
    s.acceptFlit l f good = (s.accepted l f).takeFlit l f := by
  have data : f.type = 2 ∨ f.type = 3 := .inl type
  have filled : ((s.accepted l f).link l).filled = (s.link l).filled := by
    rw [State.link_of_fab (s.accepted_fab l f), State.link_modLink_same]
  unfold State.acceptFlit
  extract_lets d u v
  rw [if_neg (by simp [type]), if_pos data]
  exact if_neg (Nat.not_le.2 (by rwa [show (v.link l).filled = _ from filled]))

/-- A package's own SYSTEM transactions are none of these. -/
structure Txn.Waits (x : Txn) : Prop where
  one : x.flitCount = 1
  probe : ∀ b, x.pay ≠ .probe b
  keyId : ∀ a b, x.pay ≠ .keyId a b
  ack : ∀ a, x.pay ≠ .ack a

theorem State.systemTxn_other (s : State) {x : Txn} (h : x.Waits) : s.systemTxn x = none := by
  unfold State.systemTxn
  split
  · next b pay => exact absurd pay (h.probe b)
  · next a b pay => exact absurd pay (h.keyId a b)
  · next a pay => exact absurd pay (h.ack a)
  · rfl

theorem State.assemble_whole {s : State} {f : Flit} {x : Txn} (l : Nat) (txn : f.txn = some x) (waits : x.Waits)
    (alone : s.dev.fab.partial_ = []) : (s.assemble l f).dev.fab =
      { s.dev.fab with partial_ := [], arrived := s.dev.fab.arrived ++ [(l, x)] } := by
  have other (u : State) : u.systemTxn x = none := u.systemTxn_other waits
  unfold State.assemble
  rw [alone]
  dsimp only [List.find?, List.filter]
  rw [txn]
  dsimp only
  rw [if_pos (by rw [waits.one]; exact Nat.le_refl 1), other]
  rfl

theorem State.deviceNum_of_rd {s t : State} (h : t.rd rFabDeviceNum = s.rd rFabDeviceNum) : t.deviceNum = s.deviceNum :=
  congrArg (getBits · _ _) h

theorem State.takeFlit_mine {s : State} {l : Nat} {f : Flit} {x : Txn} (txn : f.txn = some x) (waits : x.Waits)
    (alone : s.dev.fab.partial_ = []) (runs : s.failsafe = false) (mine : f.dest = s.deviceNum) :
    (s.takeFlit l f).dev.fab.arrived = s.dev.fab.arrived ++ [(l, x)] ∧
      ((s.takeFlit l f).link l).rxSeq = (s.link l).rxSeq := by
  unfold State.takeFlit
  extract_lets u
  rw [if_neg (fun fails => absurd fails.1 (by
    rw [show u.flag rRasFailsafe fRasFailsafeActive = false from runs]; decide)),
    if_pos (show f.dest = u.deviceNum from mine)]
  have whole : (u.assemble l f).dev.fab = { u.dev.fab with partial_ := [], arrived := u.dev.fab.arrived ++ [(l, x)] } :=
    State.assemble_whole l txn waits alone
  constructor
  · exact congrArg FabricSt.arrived whole
  · unfold State.returnCredit
    rw [State.link_modLink_same]
    calc
      ((u.assemble l f).link l).rxSeq = (u.link l).rxSeq := by
        unfold State.link
        rw [whole]
      _ = (s.link l).rxSeq := by
        rw [show u.link l = _ from State.link_modLink_same ..]

/-! Forwarding (R438, R441). -/

theorem State.forward_modLink (s : State) (k : Nat) (f : Link → Link) (hf : ∀ x, (f x).forward = x.forward) (l : Nat) :
    ((s.modLink k f).link l).forward = (s.link l).forward := by
  rw [State.link_modLink]
  split
  · next here => rw [hf, here]
  · rfl

theorem State.link_modOps (s : State) (g : List RemoteOp → List RemoteOp) (l : Nat) :
    (s.modFab fun x => { x with ops := g x.ops }).link l = s.link l := (rfl)

theorem State.forward_dropFlit (s : State) (f : Flit) (l : Nat) : ((s.dropFlit f).link l).forward = (s.link l).forward := by
  have counted : (s.addFld (rFabLinkErrs (routePrimary (s.route f.dest))) fFabLinkErrsDropped 1).link l = s.link l :=
    State.link_of_fab (State.addFld_fab ..) l
  unfold State.dropFlit
  dsimp only
  split
  · split
    · rw [State.link_modOps _ (List.map _), counted]
    · rw [counted]
  · rw [counted]

/-- Sending a flit on takes none out of a receive buffer. -/
theorem State.forward_sendFlit (s : State) (link : Option Nat) (f : Flit) (l : Nat) :
    ((s.sendFlit link f).link l).forward = (s.link l).forward := by
  unfold State.sendFlit
  dsimp only
  split
  · rfl
  · split
    · rfl
    · split
      · refine State.forward_modLink s _ _ ?_ l
        exact fun _ => rfl
      · split
        · refine State.forward_modLink s _ _ ?_ l
          exact fun _ => rfl
        · exact s.forward_dropFlit f l

theorem execFlitForward_sends {s : State} {l : Nat} {f : Flit} {fs : List Flit} (h : (s.link l).forward = f :: fs)
    (free : s.blocked (islLink l) = false) : execFlitForward l s =
      .next ((((s.modLink l fun x => { x with forward := fs }).returnCredit l f).sendFlit (some l) f)) := by
  unfold execFlitForward
  split
  · next none_ => exact nomatch h.symm.trans none_
  · next g gs hg =>
    obtain ⟨rfl, rfl⟩ := List.cons.inj (h.symm.trans hg)
    rw [if_neg (by simp [free])]

/-- Settles O27: every flit sent takes an LSEQ of its own, as log entry 125 reads R434. -/
theorem flitsInSequence : Obligations.FlitsInSequence := by
  unfold Obligations.FlitsInSequence
  refine ⟨?send, ?replay, ?ack, ?close, ?bad, ?arrive, ?forward⟩
  case send =>
    intro s l f up resend room block noNak pick free runs
    obtain ⟨g, sends⟩ := (s.modLink l fun y => { y with queue := y.queue.erase f }).transmit_sends l f
    rw [State.link_modLink_same] at sends
    exact ⟨_, g, execFlitSend_picks up resend room block noNak pick free runs, sends.wire, sends.lseq, sends.txn,
      sends.dest, sends.retry, sends.txSeq, sends.queue⟩
  case replay =>
    intro s l f fs up resend
    obtain ⟨t, ran, link⟩ := execFlitSend_replays up resend
    refine ⟨t, ran, ?_⟩
    rw [link]
    exact ⟨rfl, rfl, rfl⟩
  case ack =>
    intro s l up due room
    obtain ⟨g, t, ran, sends⟩ := execAckTimer_due up due room
    exact ⟨t, g, ran, sends.wire, sends.type, sends.ack, sends.ackDue⟩
  case close =>
    intro s l up some_ idle room
    obtain ⟨g, t, ran, sends⟩ := execSealIdleClose_due up some_ idle room
    exact ⟨t, g, ran, sends.wire, sends.type, sends.sealTx rfl⟩
  case bad =>
    intro s l f good up
    obtain ⟨u, ran, fab⟩ := execFlitReceive_badCrc f good up
    refine ⟨_, ran, ?_, ?_, ?_⟩
    · rw [State.link_modLink_same]
    · rw [State.link_modLink_same, State.link_of_fab fab]
    · show u.dev.fab.arrived = s.dev.fab.arrived
      rw [fab]
  case arrive =>
    intro s l f x good up unarmed type txn one noNak few next mine runs room alone probe keyId ack
    let u := s.modLink l fun x => x.control f s.ao.tick
    have link : u.link l = (s.link l).control f s.ao.tick := State.link_modLink_same ..
    have accepted : (u.accepted l f).link l = _ := (State.link_of_fab (u.accepted_fab l f) l).trans
      (State.link_modLink_same ..)
    have roomy : SMap.get (fun _ => 0) (u.link l).filled (creditKey f.cls f.vc) < 64 := by
      rw [link]
      exact room
    have below (o : Nat) (h : o < 0x380000) : (u.accepted l f).rd o = s.rd o := u.rd_accepted l f h
    obtain ⟨arrived, rxSeq⟩ := State.takeFlit_mine (s := u.accepted l f) (l := l) txn ⟨one, probe, keyId, ack⟩
      ((congrArg FabricSt.partial_ (u.accepted_fab l f)).trans alone)
      ((State.flag_of_rd (below rRasFailsafe (by decide)) _).trans runs)
      (mine.trans (State.deviceNum_of_rd (below _ (by decide))).symm)
    refine ⟨_, (execFlitReceive_inOrder good up unarmed type noNak few next).trans
      (congrArg Host.Outcome.next (State.acceptFlit_head good type roomy)), ?_, ?_⟩
    · rw [arrived, u.accepted_fab l f]
      rfl
    · rw [rxSeq, accepted, link]
      rfl
  case forward =>
    intro s l f fs h free
    refine ⟨_, execFlitForward_sends h free, ?_⟩
    rw [State.forward_sendFlit, State.returnCredit, State.link_modLink_same, State.link_modLink_same]

end Sys2Proof.Machine
end

section
/-! SUPPORT. Replies and faults of remote operations, the mirror's transactions, and a freeze that spreads (R62, R118, R411,
R445 to R447). -/

namespace Sys2Proof.Machine

/-! A crew's operations. -/

theorem State.modCrew_fab (s : State) (bay slot : Nat) (f : Crew → Crew) : (s.modCrew bay slot f).dev.fab = s.dev.fab := by
  unfold State.modCrew
  split
  · rfl
  · split <;> rfl

theorem State.crew_modCrew (s : State) (bay : Nat) {slot : Nat} (hs : slot < 256) (f : Crew → Crew) :
    (s.modCrew bay slot f).crew bay slot = (s.crew bay slot).map f := by
  unfold State.modCrew
  rw [if_neg (Nat.not_le.2 hs)]
  split
  · next none_ => rw [none_]; rfl
  · next c here => rw [here, State.crew_setCrew_same]; rfl

/-- The crew's operation of a number has no reply outstanding. -/
def Crew.opOver (id : Nat) (c : Crew) : Crew :=
  { c with ops := c.ops.map fun o => if o.id = id then { o with remote := none, ready := true } else o }

theorem Crew.opOver_ready (id : Nat) (c : Crew) : ∀ q ∈ (c.opOver id).ops, q.id = id → q.remote = none ∧ q.ready = true := by
  intro q hq
  obtain ⟨o, -, rfl⟩ := List.mem_map.1 hq
  split
  · exact fun _ => ⟨rfl, rfl⟩
  · next other => exact fun same => absurd same other

/-- The crew's operation of a number has a trap in place of its landing. -/
def Crew.Trapped (c : Crew) (id : Nat) : Prop := ∃ q ∈ c.ops, q.id = id ∧ q.trap.isSome = true

theorem Crew.Trapped.opOver {c : Crew} {id : Nat} (h : c.Trapped id) (n : Nat) : (c.opOver n).Trapped id := by
  obtain ⟨q, hq, same, trap⟩ := h
  refine ⟨_, List.mem_map.2 ⟨q, hq, rfl⟩, ?_⟩
  split <;> exact ⟨same, trap⟩

/-- The fault of a lane in the crew's operation, or in an operation of its own. -/
def Crew.opFails (id pc cause l addr : Nat) (c : Crew) : Crew :=
  if c.ops.any (·.id == id) then
    { c with ops := c.ops.map fun o => if o.id = id then o.fault cause l addr else o }
  else { c with ops := c.ops ++ [({ id := id, pc := pc, ready := true } : LongOp).fault cause l addr] }

theorem Crew.opFails_trapped (id pc cause l addr : Nat) (c : Crew) : (c.opFails id pc cause l addr).Trapped id := by
  unfold Crew.opFails
  split
  · next there =>
    obtain ⟨o, ho, same⟩ := List.any_eq_true.1 there
    refine ⟨_, List.mem_map.2 ⟨o, ho, rfl⟩, ?_⟩
    rw [if_pos (eq_of_beq same)]
    exact ⟨eq_of_beq same, rfl⟩
  · exact ⟨_, List.mem_append_right _ (List.mem_singleton_self _), rfl, rfl⟩

/-! Replies (R118, R445 to R447). -/

theorem State.remoteOver_fab (s : State) (bay slot id : Nat) : (s.remoteOver bay slot id).dev.fab = s.dev.fab := by
  unfold State.remoteOver
  split
  · rfl
  · exact State.modCrew_fab ..

/-- With no other transaction of the operation out, its reply makes it ready. -/
theorem State.remoteOver_last {s : State} {bay slot id : Nat}
    (last : (s.dev.fab.ops.any fun o => o.bay == bay && o.slot == slot && o.opId == id && !o.dead) = false) :
    s.remoteOver bay slot id = s.modCrew bay slot (·.opOver id) := by
  unfold State.remoteOver
  rw [if_neg (by rw [last]; decide)]
  rfl

theorem State.crew_remoteOver_trapped {s : State} {bay slot : Nat} (hs : slot < 256) {c : Crew} {id : Nat}
    (h : s.crew bay slot = some c) (trapped : c.Trapped id) (n : Nat) :
    ∃ d, (s.remoteOver bay slot n).crew bay slot = some d ∧ d.Trapped id := by
  unfold State.remoteOver
  split
  · exact ⟨c, h, trapped⟩
  · refine ⟨c.opOver n, ?_, trapped.opOver n⟩
    rw [State.crew_modCrew _ _ hs, h]
    rfl

/-- The data of a reply in the operation that waits for them. -/
def State.dataFilled (s : State) (o : RemoteOp) (b : List Byte) (bad : Bool) : State :=
  match o.use with
  | .regs d n => s.fillOp o.bay o.slot o.opId (fillRegs d n false (leNat b) bad)
  | .store off => s.modCrew o.bay o.slot fun c => { c with ops := c.ops.map fun (q : LongOp) =>
      if q.id = o.opId then
        { q with bytes := q.bytes.take off ++ b ++ q.bytes.drop (off + b.length), poisoned := q.poisoned || bad }
      else q }
  | .done => s

theorem State.dataFilled_fab (s : State) (o : RemoteOp) (b : List Byte) (bad : Bool) :
    (s.dataFilled o b bad).dev.fab = s.dev.fab := by
  unfold State.dataFilled
  split
  · exact State.modCrew_fab ..
  · exact State.modCrew_fab ..
  · rfl

theorem State.crew_dataFilled {s : State} {o : RemoteOp} (hs : o.slot < 256) {c : Crew} (h : s.crew o.bay o.slot = some c)
    (b : List Byte) (bad : Bool) : ∃ d, (s.dataFilled o b bad).crew o.bay o.slot = some d := by
  have changed (f : Crew → Crew) : ∃ d, (s.modCrew o.bay o.slot f).crew o.bay o.slot = some d :=
    ⟨f c, by rw [State.crew_modCrew _ _ hs, h]; rfl⟩
  unfold State.dataFilled
  split
  · exact changed _
  · exact changed _
  · exact ⟨c, h⟩

theorem State.remoteData_live {s : State} {o : RemoteOp} (live : o.dead = false) (b : List Byte) (bad : Bool) :
    s.remoteData o b bad = ((s.dropOp o).dataFilled o b bad).remoteOver o.bay o.slot o.opId := by
  unfold State.remoteData
  extract_lets u
  rw [if_neg (by rw [live]; decide)]
  rfl

theorem State.dropOp_ops (s : State) (o : RemoteOp) : (s.dropOp o).dev.fab.ops = s.dev.fab.ops.filter (·.tag != o.tag) := rfl

theorem State.remoteData_fab {s : State} {o : RemoteOp} (live : o.dead = false) (b : List Byte) (bad : Bool) :
    (s.remoteData o b bad).dev.fab = (s.dropOp o).dev.fab := by
  rw [State.remoteData_live live, State.remoteOver_fab, State.dataFilled_fab]

/-- No other live transaction of the operation is out. -/
def State.lastOf (s : State) (o : RemoteOp) : Prop :=
  (s.dev.fab.ops.filter fun q => q.tag != o.tag && q.bay == o.bay && q.slot == o.slot && q.opId == o.opId && !q.dead) = []

theorem State.remoteData_readies {s : State} {o : RemoteOp} (live : o.dead = false) (last : s.lastOf o) (hs : o.slot < 256)
    {c : Crew} (h : s.crew o.bay o.slot = some c) (b : List Byte) (bad : Bool) :
    ∃ d, (s.remoteData o b bad).crew o.bay o.slot = some d ∧
      ∀ q ∈ d.ops, q.id = o.opId → q.remote = none ∧ q.ready = true := by
  have alone : (((s.dropOp o).dataFilled o b bad).dev.fab.ops.any fun q =>
      q.bay == o.bay && q.slot == o.slot && q.opId == o.opId && !q.dead) = false := by
    rw [State.dataFilled_fab, State.dropOp_ops, List.any_filter, List.any_eq_false]
    intro q hq both
    have none_ := List.filter_eq_nil_iff.1 last q hq
    simp only [Bool.and_eq_true] at both none_
    obtain ⟨tag, ⟨⟨bay, slot⟩, id⟩, alive⟩ := both
    exact none_ ⟨⟨⟨⟨tag, bay⟩, slot⟩, id⟩, alive⟩
  obtain ⟨d, filled⟩ := State.crew_dataFilled (s := s.dropOp o) hs h b bad
  refine ⟨d.opOver o.opId, ?_, d.opOver_ready _⟩
  rw [State.remoteData_live live, State.remoteOver_last alone, State.crew_modCrew _ _ hs, filled]
  rfl

/-- The trap that a fault leaves, by its code and by whether the access stayed in this package (R109, R446). -/
def State.faultTrap (s : State) (o : RemoteOp) (code : Nat) : State :=
  if o.dest = s.deviceNum ∧ code = 3 then s.remoteTrap o trapDeviceRange o.addr
  else if o.dest = s.deviceNum ∧ code = 4 then s.remoteTrap o trapPanelRetired o.addr
  else s.remoteTrap o trapRemoteFault code

theorem State.faultTrap_fab (s : State) (o : RemoteOp) (code : Nat) : (s.faultTrap o code).dev.fab = s.dev.fab := by
  have trapped (cause detail : Nat) : (s.remoteTrap o cause detail).dev.fab = s.dev.fab := State.modCrew_fab ..
  unfold State.faultTrap
  split
  · exact trapped ..
  · split <;> exact trapped ..

theorem State.crew_faultTrap {s : State} {o : RemoteOp} (hs : o.slot < 256) {c : Crew} (h : s.crew o.bay o.slot = some c)
    (code : Nat) : ∃ d, (s.faultTrap o code).crew o.bay o.slot = some d ∧ d.Trapped o.opId := by
  have trapped (cause detail : Nat) :
      ∃ d, (s.remoteTrap o cause detail).crew o.bay o.slot = some d ∧ d.Trapped o.opId := by
    refine ⟨_, ?_, c.opFails_trapped o.opId o.pc cause o.lane detail⟩
    unfold State.remoteTrap State.failOp
    rw [State.crew_modCrew _ _ hs, h]
    rfl
  unfold State.faultTrap
  split
  · exact trapped ..
  · split <;> exact trapped ..

theorem State.remoteFault_eq (s : State) (o : RemoteOp) (code : Nat) : s.remoteFault o code =
    if o.dead then s.dropOp o else ((s.dropOp o).faultTrap o code).remoteOver o.bay o.slot o.opId := rfl

theorem State.remoteFault_fab (s : State) (o : RemoteOp) (code : Nat) :
    (s.remoteFault o code).dev.fab = (s.dropOp o).dev.fab := by
  rw [State.remoteFault_eq]
  split
  · rfl
  · rw [State.remoteOver_fab, State.faultTrap_fab]

theorem State.remoteFault_traps {s : State} {o : RemoteOp} (live : o.dead = false) (hs : o.slot < 256) {c : Crew}
    (h : s.crew o.bay o.slot = some c) (code : Nat) :
    ∃ d, (s.remoteFault o code).crew o.bay o.slot = some d ∧ d.Trapped o.opId := by
  obtain ⟨d, crew, trapped⟩ := State.crew_faultTrap (s := s.dropOp o) hs h code
  rw [State.remoteFault_eq, if_neg (by rw [live]; decide)]
  exact State.crew_remoteOver_trapped hs crew trapped _

theorem State.takeReply_live {s : State} {k op l : Nat} {x : Txn} {o : RemoteOp} (arrived : s.arrivedTxn k op = some (l, x))
    (free : s.blocked (serveIsland l) = false) (waits : s.opOf x.tag = some o) (live : o.dead = false)
    (go : RemoteOp → Txn → State → State) : s.takeReply k op go = go o x (s.takeTxn k) := by
  unfold State.takeReply
  split
  · next none_ => exact nomatch arrived.symm.trans none_
  · next m y here =>
    obtain ⟨rfl, rfl⟩ := Prod.mk.inj (Option.some.inj (arrived.symm.trans here))
    rw [if_neg (by rw [free]; decide)]
    extract_lets u
    split
    · next none_ => exact nomatch waits.symm.trans none_
    · next p hp =>
      obtain rfl := Option.some.inj (waits.symm.trans hp)
      rw [if_neg (by rw [live]; decide)]

theorem State.takeReply_stale {s : State} {k op l : Nat} {x : Txn} (arrived : s.arrivedTxn k op = some (l, x))
    (free : s.blocked (serveIsland l) = false) (none_ : s.opOf x.tag = none) (go : RemoteOp → Txn → State → State) :
    s.takeReply k op go = (s.takeTxn k).addFld rFabStale fFabStaleStaleReplies 1 := by
  unfold State.takeReply
  split
  · next gone => exact nomatch arrived.symm.trans gone
  · next m y here =>
    obtain ⟨rfl, rfl⟩ := Prod.mk.inj (Option.some.inj (arrived.symm.trans here))
    rw [if_neg (by rw [free]; decide)]
    extract_lets u
    split
    · rfl
    · next p hp => exact nomatch none_.symm.trans hp

/-- A counter field after an addition, as it saturates. -/
theorem State.fld_addFld_same (s : State) (off : Nat) (f : Nat × Nat) (n : Nat) (h : f.1 + f.2 ≤ 64) :
    (s.addFld off f n).fld off f = min (s.fld off f + n) (2 ^ f.2 - 1) := by
  unfold State.addFld
  rw [State.fld_setFld_same _ _ _ _ h]
  exact Nat.mod_eq_of_lt (Nat.lt_of_le_of_lt (Nat.min_le_right _ _) (Nat.sub_lt (Nat.two_pow_pos _) Nat.one_pos))

/-- The replies with data or a completion take them to the operation. -/
theorem exec_reply_data {s : State} {k l : Nat} {x : Txn} {o : RemoteOp} {r : Nat × (Nat → Instr)}
    (hr : r ∈ [(0x11, Instr.txnReadData), (0x12, .txnWriteDone), (0x13, .txnAtomicData)])
    (arrived : s.arrivedTxn k r.1 = some (l, x)) (free : s.blocked (serveIsland l) = false)
    (waits : s.opOf x.tag = some o) (live : o.dead = false) :
    ∃ b, exec (r.2 k) s = .next ((s.takeTxn k).remoteData o b false) := by
  simp only [List.mem_cons, List.not_mem_nil, or_false] at hr
  obtain rfl | rfl | rfl := hr
  · exact ⟨_, congrArg Host.Outcome.next (State.takeReply_live arrived free waits live _)⟩
  · exact ⟨_, congrArg Host.Outcome.next (State.takeReply_live arrived free waits live _)⟩
  · exact ⟨_, congrArg Host.Outcome.next (State.takeReply_live arrived free waits live _)⟩

theorem exec_reply_stale {s : State} {k l : Nat} {x : Txn} {r : Nat × (Nat → Instr)}
    (hr : r ∈ [(0x11, Instr.txnReadData), (0x12, .txnWriteDone), (0x13, .txnAtomicData), (0x1F, .txnFault)])
    (arrived : s.arrivedTxn k r.1 = some (l, x)) (free : s.blocked (serveIsland l) = false)
    (none_ : s.opOf x.tag = none) :
    exec (r.2 k) s = .next ((s.takeTxn k).addFld rFabStale fFabStaleStaleReplies 1) := by
  simp only [List.mem_cons, List.not_mem_nil, or_false] at hr
  obtain rfl | rfl | rfl | rfl := hr
  · exact congrArg Host.Outcome.next (State.takeReply_stale arrived free none_ _)
  · exact congrArg Host.Outcome.next (State.takeReply_stale arrived free none_ _)
  · exact congrArg Host.Outcome.next (State.takeReply_stale arrived free none_ _)
  · exact congrArg Host.Outcome.next (State.takeReply_stale arrived free none_ _)

theorem execRemoteTimeout_late {s : State} {tag : Nat} {o : RemoteOp} (waits : s.opOf tag = some o)
    (late : o.since + 1000000 * s.fld rFabCfg fFabCfgRemoteTimeoutMs ≤ s.liveTick) :
    ∃ t, execRemoteTimeout tag s = .next t ∧ t.dev.fab = (s.dropOp o).dev.fab := by
  have dropped (c : Prop) [Decidable c] (code : Nat) :
      (if c then s.dropOp o else s.remoteFault o code).dev.fab = (s.dropOp o).dev.fab := by
    split
    · rfl
    · exact State.remoteFault_fab ..
  unfold execRemoteTimeout
  split
  · next none_ => exact nomatch waits.symm.trans none_
  · next p hp =>
    obtain rfl := Option.some.inj (waits.symm.trans hp)
    rw [if_neg (Nat.not_lt.2 late)]
    exact ⟨_, rfl, dropped ..⟩

/-! The mirror's transactions (R411, R414). -/

theorem execTxnJournal_keeps {s : State} {k l i : Nat} {x : Txn} {r : JRec} (arrived : s.arrivedTxn k 0x30 = some (l, x))
    (pay : x.pay = .journal r) (free : s.blocked islJournal = false) (region : s.mirrorRegion x.stamp.device = some i) :
    ∃ t, execTxnJournal k s = .next t ∧
      t.dev.jrnl.incoming = SMap.mod (fun _ => []) s.dev.jrnl.incoming i (· ++ [r]) := by
  have named (u : State) (o o' : Nat) (f g : Nat × Nat) (v : Nat) (b : Bool) :
      ((u.setFld o f v).setFlag o' g b).dev.jrnl = u.dev.jrnl := rfl
  unfold execTxnJournal
  split
  · next gone => exact nomatch arrived.symm.trans gone
  · next m y here =>
    obtain ⟨rfl, rfl⟩ := Prod.mk.inj (Option.some.inj (arrived.symm.trans here))
    split
    · next q hq =>
      obtain rfl := TxnPay.journal.inj (pay.symm.trans hq)
      extract_lets dev
      rw [if_neg (by rw [free]; decide)]
      split
      · next none_ => exact nomatch region.symm.trans none_
      · next j hj =>
        obtain rfl := Option.some.inj (region.symm.trans hj)
        refine ⟨_, rfl, ?_⟩
        rw [State.fabSend_jrnl]
        have kept (c : Prop) [Decidable c] (a b : State) (h1 : a.dev.jrnl = s.dev.jrnl) (h2 : b.dev.jrnl = s.dev.jrnl) :
            (((if c then a else b).modJrnl fun j =>
              { j with incoming := SMap.mod (fun _ => []) j.incoming i (· ++ [r]) }).originate islJournal).2.dev.jrnl.incoming =
              SMap.mod (fun _ => []) s.dev.jrnl.incoming i (· ++ [r]) := by
          split
          · rw [← h1]; rfl
          · rw [← h2]; rfl
        exact kept _ _ _ (named ..) (named ..)
    · next tail ids hq => exact nomatch pay.symm.trans hq
    · next other _ => exact absurd pay (other r)

theorem execTxnJournalAck_takes {s : State} {k l id : Nat} {x : Txn} (arrived : s.arrivedTxn k 0x31 = some (l, x))
    (pay : x.pay = .journalAck id) (free : s.blocked islJournal = false)
    (peer : x.stamp.device = s.fld rJrnlMirrorPeer fJrnlMirrorPeerDevice) : execTxnJournalAck k s =
      if s.mirrorWaits then .next ((s.takeTxn k).modJrnl fun j =>
        { j with resync := j.resync.filter (· != id), ackHeld := j.ackHeld ++ [id] })
      else .next ((s.takeTxn k).modJrnl fun j =>
        { j with log := j.log.map fun r => if r.id = id then { r with acked := true } else r }) := by
  unfold execTxnJournalAck
  split
  · next gone => exact nomatch arrived.symm.trans gone
  · next m y here =>
    obtain ⟨rfl, rfl⟩ := Prod.mk.inj (Option.some.inj (arrived.symm.trans here))
    rw [if_neg (by rw [free]; decide)]
    extract_lets u
    split
    · next j hj =>
      obtain rfl := TxnPay.journalAck.inj (pay.symm.trans hj)
      rw [if_neg (show ¬ x.stamp.device ≠ u.fld rJrnlMirrorPeer fJrnlMirrorPeerDevice from not_not.2 peer)]
      rfl
    · next other => exact absurd pay (other id)

/-! A freeze that spreads (R61, R62). -/

theorem State.rd_forwardBroadcast (s : State) (l : Nat) (t : Txn) (o : Nat) : (s.forwardBroadcast l t).rd o = s.rd o :=
  foldl_kept (·.rd o) _ (fun s m => State.linkSend_kept (·.rd o) (fun _ _ => rfl) s m t) _ _

/-- TIME_FREEZE_AT and STATE as a package that hears of a freeze has them. -/
def State.heard (s : State) (n state : Nat) : State :=
  ((s.wr rTimeFreezeAt (BitVec.ofNat 64 n)).setFlag rTimeFreezeStatus fTimeFreezeStatusScopeFabric true).setFld
    rTimeFreezeStatus fTimeFreezeStatusState state

theorem State.heard_fields (s : State) (n state : Nat) : (s.heard n state).freezeState = state % 8 ∧
    (s.heard n state).rd rTimeFreezeAt = BitVec.ofNat 64 n := by
  unfold State.heard
  refine ⟨State.fld_setFld_same _ _ _ _ (by decide), ?_⟩
  rw [State.rd_setFld_other _ _ _ _ _ (by decide), State.rd_setFlag_other _ _ _ _ _ (by decide), State.rd_wr_same]

theorem execTxnFreeze_hears {s : State} {k l n : Nat} {x : Txn} (arrived : s.arrivedTxn k 0x41 = some (l, x))
    (pay : x.pay = .tick n) (idle : s.freezeState = 0) :
    ∃ t, execTxnFreeze k s = .next t ∧ ∀ o, o < 0x100100 →
      t.rd o = ((s.takeTxn k).heard n (if n < s.ao.tick + 1000 then 2 else 1)).rd o := by
  have told (u : State) (m : Txn) (y : Txn) (o : Nat) (h : o < 0x100100) :
      (((u.forwardBroadcast l m).originate islPort).2.fabSend y).rd o = u.rd o :=
    (State.rd_fabSend_below _ _ h).trans (u.rd_forwardBroadcast l m o)
  unfold execTxnFreeze
  split
  · next gone => exact nomatch arrived.symm.trans gone
  · next m y here =>
    obtain ⟨rfl, rfl⟩ := Prod.mk.inj (Option.some.inj (arrived.symm.trans here))
    split
    · next j hj =>
      obtain rfl := TxnPay.tick.inj (pay.symm.trans hj)
      extract_lets u late v w dev frz z
      rw [if_neg (not_not.2 (show u.freezeState = 0 from idle))]
      have drain (c : Prop) [Decidable c] (f : FreezeSt) (o : Nat) :
          (if c then { w with dev := { w.dev with freeze := f } } else w : State).rd o = w.rd o := by
        split <;> rfl
      refine ⟨_, rfl, fun o h => (told z x _ o h).trans ((drain _ _ o).trans ?_)⟩
      by_cases soon : n < s.ao.tick + 1000
      · have isLate : late = true := decide_eq_true soon
        rw [if_pos soon, show w = _ from if_pos isLate]
        rfl
      · have notLate : ¬ late = true := by
          rw [show late = decide (n < s.ao.tick + 1000) from rfl, decide_eq_true_eq]
          exact soon
        rw [if_neg soon, show w = _ from if_neg notLate]
        rfl
    · next other => exact absurd pay (other n)

theorem execTxnResume_frozen {s : State} {k l n : Nat} {x : Txn} (arrived : s.arrivedTxn k 0x42 = some (l, x))
    (pay : x.pay = .tick n) (frozen : s.freezeState = 3) : execTxnResume k s =
      .next ((((s.takeTxn k).wr rTimeResumeAt (BitVec.ofNat 64 n)).setFld rTimeFreezeStatus fTimeFreezeStatusState
        4).forwardBroadcast l x) := by
  unfold execTxnResume
  split
  · next gone => exact nomatch arrived.symm.trans gone
  · next m y here =>
    obtain ⟨rfl, rfl⟩ := Prod.mk.inj (Option.some.inj (arrived.symm.trans here))
    split
    · next j hj =>
      obtain rfl := TxnPay.tick.inj (pay.symm.trans hj)
      rw [if_neg (by omega)]
      exact if_neg (not_not.2 frozen)
    · next other => exact absurd pay (other n)

theorem State.freezeState_of_rd {s t : State} (h : t.rd rTimeFreezeStatus = s.rd rTimeFreezeStatus) :
    t.freezeState = s.freezeState := congrArg (getBits · _ _) h

/-- Settles O29: an acknowledgement is kept while MIRROR commits wait by log entry 212, and the incoming region is in the
order of arrival by log entry 134. -/
theorem repliesAndPeers : Obligations.RepliesAndPeers := by
  unfold Obligations.RepliesAndPeers
  refine ⟨⟨?data, ?fault, ?stale, ?timeout⟩, ?journal, ?ack, ?freeze, ?late, ?resume⟩
  case data =>
    intro s k l x o r hr arrived free waits live last hs
    obtain ⟨b, ran⟩ := exec_reply_data hr arrived free waits live
    refine ⟨_, ran, ?_, ?_, fun c hc => State.remoteData_readies (s := s.takeTxn k) live last hs hc b false⟩
    · rw [State.remoteData_fab live]
      rfl
    · rw [State.remoteData_fab live]
      rfl
  case fault =>
    intro s k l x o c arrived free waits live hs hc
    obtain ⟨d, crew, q, hq, id, trap⟩ := State.remoteFault_traps (s := s.takeTxn k) live hs hc (x.addr % 256)
    refine ⟨_, d, q, congrArg Host.Outcome.next (State.takeReply_live arrived free waits live _), ?_, crew, hq, id, trap⟩
    rw [State.remoteFault_fab]
    rfl
  case stale =>
    intro s k l x r hr arrived free none_
    refine ⟨_, exec_reply_stale hr arrived free none_, ?_, State.fld_addFld_same _ _ _ _ (by decide)⟩
    rw [State.addFld_fab]
    rfl
  case timeout =>
    intro s tag o waits late
    obtain ⟨t, ran, fab⟩ := execRemoteTimeout_late waits late
    exact ⟨t, ran, by rw [fab]; rfl⟩
  case journal =>
    intro s k l x r i arrived pay free region
    obtain ⟨t, ran, incoming⟩ := execTxnJournal_keeps arrived pay free region
    refine ⟨t, ran, ?_⟩
    rw [incoming, SMap.get_mod, if_pos rfl]
  case ack =>
    intro s k l x id arrived pay free peer
    have ran := execTxnJournalAck_takes arrived pay free peer
    split at ran
    · next waits =>
      refine ⟨_, ran, ?_, rfl⟩
      rw [if_pos waits]
      exact ⟨List.mem_append_right _ (List.mem_singleton_self _), fun listed => by simpa using (List.mem_filter.1 listed).2, rfl⟩
    · next clear =>
      refine ⟨_, ran, ?_, rfl⟩
      rw [if_neg clear]
      intro r hr same
      obtain ⟨q, -, rfl⟩ := List.mem_map.1 hr
      split at same
      · next here => rw [if_pos here]
      · next other => exact absurd same other
  case freeze =>
    intro s k l x n arrived pay idle far
    obtain ⟨t, ran, rd⟩ := execTxnFreeze_hears arrived pay idle
    rw [if_neg (Nat.not_lt.2 far)] at rd
    obtain ⟨state, at_⟩ := (s.takeTxn k).heard_fields n 1
    exact ⟨t, ran, (State.freezeState_of_rd (rd _ (by decide))).trans state, (rd _ (by decide)).trans at_⟩
  case late =>
    intro s k l x n arrived pay idle soon
    obtain ⟨t, ran, rd⟩ := execTxnFreeze_hears arrived pay idle
    rw [if_pos soon] at rd
    obtain ⟨state, at_⟩ := (s.takeTxn k).heard_fields n 2
    exact ⟨t, ran, (State.freezeState_of_rd (rd _ (by decide))).trans state, (rd _ (by decide)).trans at_⟩
  case resume =>
    intro s k l x n arrived pay frozen
    refine ⟨_, execTxnResume_frozen arrived pay frozen, ?_, ?_⟩
    · rw [State.freezeState_of_rd (State.rd_forwardBroadcast _ _ _ _)]
      exact State.fld_setFld_same _ _ _ _ (by decide)
    · rw [State.rd_forwardBroadcast, State.rd_setFld_other _ _ _ _ _ (by decide), State.rd_wr_same]

end Sys2Proof.Machine
end

section
/-! SUPPORT. The key engine: its commands' ends, keys, KEM slots and sessions (R462, R469 to R475). -/

namespace Sys2Proof.Machine

/-! The end of a command (R469). -/

theorem State.secCommand_idle {s : State} (h : s.flag rSecCmdStatus fSecCmdStatusBusy = false) (f : State → State) :
    s.secCommand f = f s := if_neg (by rw [h]; decide)

theorem State.secCommand_busy {s : State} (h : s.flag rSecCmdStatus fSecCmdStatusBusy = true) (f : State → State) :
    s.secCommand f = s := if_pos h

theorem State.secDone_ends (s : State) {res : Nat} (h : res < 16) (out : Nat) : SecEnds (s.secDone res out) res out := by
  unfold SecEnds State.flag State.fld State.secDone
  rw [State.rd_wr_same, getBits_setBits_apart _ _ _ _ _ _ (by decide) (by decide),
    getBits_setBits_same _ _ _ _ (by decide), getBits_setBits_same _ _ _ _ (by decide),
    getBits_setBits_apart _ _ _ _ _ _ (by decide) (by decide), getBits_setBits_apart _ _ _ _ _ _ (by decide) (by decide)]
  exact ⟨Nat.mod_eq_of_lt h, rfl, by decide⟩

@[simp] theorem State.wr_sec (s : State) (off : Nat) (v : W64) : (s.wr off v).dev.sec = s.dev.sec := (rfl)
@[simp] theorem State.wr_mem (s : State) (off : Nat) (v : W64) : (s.wr off v).dev.mem = s.dev.mem := (rfl)
@[simp] theorem State.secDone_sec (s : State) (res out : Nat) : (s.secDone res out).dev.sec = s.dev.sec := by
  unfold State.secDone
  rw [State.wr_sec]
@[simp] theorem State.secDone_mem (s : State) (res out : Nat) : (s.secDone res out).dev.mem = s.dev.mem := by
  unfold State.secDone
  rw [State.wr_mem]
theorem State.rd_secDone (s : State) (res out : Nat) {o : Nat} (h : o ≠ rSecCmdStatus) :
    (s.secDone res out).rd o = s.rd o := State.rd_wr_other _ _ _ _ h

theorem State.keyValid_of_rd {s t : State} {k : Nat} (h : t.rd (rSecKeyslot k) = s.rd (rSecKeyslot k)) :
    t.keyValid k = s.keyValid k := State.flag_of_rd h _
theorem State.keyValid_secDone (s : State) (res out k : Nat) : (s.secDone res out).keyValid k = s.keyValid k :=
  State.keyValid_of_rd (s.rd_secDone res out (by unfold rSecKeyslot rSecCmdStatus; omega))
theorem State.keySlot_of_sec {s t : State} (h : t.dev.sec = s.dev.sec) (k : Nat) : t.keySlot k = s.keySlot k := by
  unfold State.keySlot
  rw [h]
theorem State.session_of_sec {s t : State} (h : t.dev.sec = s.dev.sec) (n : Nat) : t.session n = s.session n := by
  unfold State.session
  rw [h]
theorem State.kem_of_sec {s t : State} (h : t.dev.sec = s.dev.sec) (n : Nat) : t.kem n = s.kem n := by
  unfold State.kem
  rw [h]
@[simp] theorem State.hostWrite_sec (s : State) (a : Nat) (bs : List Byte) : (s.hostWrite a bs).dev.sec = s.dev.sec := (rfl)

/-- Bytes go to the host region, and the command ends. -/
theorem State.written_sec (s : State) (a res out : Nat) (bs : List Byte) :
    ((s.hostWrite a bs).secDone res out).dev.sec = s.dev.sec := by rw [State.secDone_sec, State.hostWrite_sec]
theorem State.rd_written (s : State) (a res out : Nat) (bs : List Byte) {o : Nat} (h : o ≠ rSecCmdStatus) :
    ((s.hostWrite a bs).secDone res out).rd o = s.rd o := State.rd_secDone (s.hostWrite a bs) res out h
theorem State.keyValid_written (s : State) (a res out k : Nat) (bs : List Byte) :
    ((s.hostWrite a bs).secDone res out).keyValid k = s.keyValid k := State.keyValid_secDone (s.hostWrite a bs) res out k

/-! Keys (R462, R469, R471). -/

theorem rSecKeyid_ne_keyslot (i j : Nat) : rSecKeyslot i ≠ rSecKeyid j := by
  unfold rSecKeyslot rSecKeyid
  omega

/-- What an installed key leaves in its slot and registers. -/
structure State.KeyIn (t : State) (k : Nat) (root : W256) (policy : Nat) : Prop where
  valid : t.keyValid k = true
  slot : t.keySlot k = { root := root, policy := policy, counter := 0 }
  id : t.rd (rSecKeyid k) = BitVec.ofNat 64 (keyIdOf root)

theorem State.installKey_in (s : State) (k : Nat) (root : W256) (policy : Nat) : (s.installKey k root policy).KeyIn k root policy := by
  have slot (u : State) (o o' o'' p : Nat) (f g h : Nat × Nat) (a b c : Bool) (x : W64) :
      ((((u.setFlag o f a).setFlag o' g b).setFlag o'' h c).wr p x).dev.sec = u.dev.sec := rfl
  constructor
  case valid =>
    unfold State.installKey State.keyValid
    dsimp only
    rw [State.flag, State.fld_wr_other _ _ _ _ _ (rSecKeyid_ne_keyslot k k), ← State.flag,
      State.flag_setFlag_apart _ _ _ _ _ (by decide) (by decide),
      State.flag_setFlag_apart _ _ _ _ _ (by decide) (by decide)]
    exact State.flag_setFlag_same _ _ _ _ (by decide) rfl
  case slot =>
    unfold State.installKey
    rw [State.keySlot_of_sec (slot ..)]
    exact SMap.get_set_same (α := KeySlot) ..
  case id =>
    unfold State.installKey
    exact State.rd_wr_same ..

theorem State.kem_installKey (s : State) (k : Nat) (root : W256) (policy n : Nat) :
    (s.installKey k root policy).kem n = s.kem n := by
  have marked (u : State) (o o' o'' p : Nat) (f g h : Nat × Nat) (a b c : Bool) (x : W64) :
      ((((u.setFlag o f a).setFlag o' g b).setFlag o'' h c).wr p x).dev.sec = u.dev.sec := rfl
  unfold State.installKey
  rw [State.kem_of_sec (marked ..)]
  rfl

theorem State.KeyIn.written {t : State} {k : Nat} {root : W256} {policy : Nat} (h : t.KeyIn k root policy) (a res out : Nat)
    (bs : List Byte) : ((t.hostWrite a bs).secDone res out).KeyIn k root policy where
  valid := (t.keyValid_written a res out k bs).trans h.valid
  slot := (State.keySlot_of_sec (t.written_sec a res out bs) k).trans h.slot
  id := (t.rd_written a res out bs (by unfold rSecKeyid rSecCmdStatus; omega)).trans h.id

theorem State.KeyIn.secDone {t : State} {k : Nat} {root : W256} {policy : Nat} (h : t.KeyIn k root policy) (res out : Nat) :
    (t.secDone res out).KeyIn k root policy where
  valid := (t.keyValid_secDone res out k).trans h.valid
  slot := (State.keySlot_of_sec (t.secDone_sec res out) k).trans h.slot
  id := (t.rd_secDone res out (by unfold rSecKeyid rSecCmdStatus; omega)).trans h.id

theorem State.eraseKey_gone (s : State) (k : Nat) : (s.eraseKey k).keyValid k = false ∧ (s.eraseKey k).keySlot k = {} := by
  have cleared (u : State) (o p : Nat) (x y : W64) : ((u.wr o x).wr p y).dev.sec = u.dev.sec := rfl
  unfold State.eraseKey
  constructor
  · rw [State.keyValid, State.flag, State.fld_wr_other _ _ _ _ _ (rSecKeyid_ne_keyslot k k), State.fld, State.rd_wr_same]
    decide
  · rw [State.keySlot_of_sec (cleared ..)]
    exact SMap.get_set_same (fun _ => {}) s.dev.sec.keys k {}

/-! KEM slots and the DRBG (R470, R482). -/

theorem State.kem_set (s : State) (k : Nat) (x : Option W256) :
    (s.modSec fun y => { y with kem := SMap.set (fun _ => none) y.kem k x }).kem k = x :=
  SMap.get_set_same (fun _ => none) s.dev.sec.kem k x
theorem State.kem_consumeKem (s : State) (k : Nat) : (s.consumeKem k).kem k = none := s.kem_set k none
theorem State.keyValid_consumeKem (s : State) (k n : Nat) : (s.consumeKem k).keyValid n = s.keyValid n := (rfl)

/-- The state with a value drawn. -/
theorem State.drbg_eq (s : State) : s.drbg = (Config.drbg s.free, s.drbg.2) := (rfl)
theorem State.blob_eq (s : State) (kind policy tent client keyId : Nat) (secret : W256) :
    s.blob kind policy tent client keyId secret = ((s.blob kind policy tent client keyId secret).1, s.drbg.2) := (rfl)

/-- The pair that a KEM slot is given. -/
def State.kemDrawn (s : State) (k : Nat) : State :=
  (s.consumeKem k).drbg.2.modSec fun x => { x with kem := SMap.set (fun _ => none) x.kem k (some (Config.drbg s.free)) }

theorem execKemGenerate_draws {s : State} {v : W64} (idle : s.flag rSecCmdStatus fSecCmdStatusBusy = false)
    (slot : secSlot v < 16) (buf : s.secBufOk 1184 = true) (entropy : s.entropyOk = true) :
    execKemGenerate v s = .next (((s.kemDrawn (secSlot v)).hostWrite s.secBuf
      ((List.range 1184).map fun i => (Config.kemKey (Config.drbg s.free)).getD i 0)).secDone 0 1184) := by
  unfold execKemGenerate
  rw [State.secCommand_idle idle]
  dsimp only
  rw [if_neg (Nat.not_le.2 slot), if_neg (by rw [show (s.consumeKem (secSlot v)).secBufOk 1184 = true from buf]; decide),
    if_neg (by rw [show (s.consumeKem (secSlot v)).entropyOk = true from entropy]; decide)]
  rfl

/-! Commands that install a key (R470, R471, R473). -/

theorem execKeyGenerate_draws {s : State} {v : W64} (idle : s.flag rSecCmdStatus fSecCmdStatusBusy = false)
    (slot : secSlot v < 64) (buf : s.secBufOk 128 = true) (entropy : s.entropyOk = true)
    (empty : s.keyValid (secSlot v) = false) :
    ∃ b, execKeyGenerate v s = .next (((s.drbg.2.drbg.2.installKey (secSlot v) (Config.drbg s.free) 0).hostWrite
      s.secBuf b).secDone 0 128) := by
  unfold execKeyGenerate
  rw [State.secCommand_idle idle]
  dsimp only
  rw [if_neg (by simp [buf, slot]), if_neg (by rw [empty]; decide), if_neg (by rw [entropy]; decide), State.drbg_eq,
    State.blob_eq]
  exact ⟨_, rfl⟩

/-- The plaintext of a key import: the root key, where its tag verifies (R471). -/
def importedRoot (d : W256) (p : List Byte) : Option (List Byte) :=
  gcmOpen (kdf (Config.kemSecret d (p.take 1088)) "vothes-keyimport" []) 0 ((p.drop 0x440).take 8)
    ((p.drop 0x448).take 32) (field p 0x468 16)

/-- The conditions on which a key import comes to its tag. -/
structure State.MayImport (s : State) (v : W64) (p : List Byte) (d : W256) : Prop where
  idle : s.flag rSecCmdStatus fSecCmdStatusBusy = false
  slot : secSlot v < 64
  buf : s.secBufOk 0x500 = true
  read : p = s.hostRead s.secBuf 0x478
  entropy : s.entropyOk = true
  empty : s.keyValid (secSlot v) = false
  kem : field p 0x444 1 < 16
  version : field p 0x440 2 = 1
  policy : field p 0x442 2 < 4
  pair : s.kem (field p 0x444 1) = some d

theorem execKeyImport_opens {s : State} {v : W64} {p : List Byte} {d : W256} (h : s.MayImport v p d) :
    ∃ b, execKeyImport v s = .next (
      match importedRoot d p with
      | none => (s.consumeKem (field p 0x444 1)).secDone 4
      | some r => ((((s.consumeKem (field p 0x444 1)).drbg.2.installKey (secSlot v) (BitVec.ofNat 256 (leNat r))
          (field p 0x442 2)).hostWrite (s.secBuf + 0x480) b).secDone 0 128)) := by
  obtain ⟨idle, slot, buf, read, entropy, empty, kem, version, policy, pair⟩ := h
  unfold execKeyImport
  rw [State.secCommand_idle idle]
  dsimp only
  rw [if_neg (by rw [buf]; decide), ← read, if_neg (by omega),
    if_neg (by rw [State.keyValid_consumeKem, empty]; decide)]
  split
  · next none_ => exact nomatch pair.symm.trans none_
  · next d' hd =>
    obtain rfl := Option.some.inj (pair.symm.trans hd)
    rw [if_neg (by rw [show (s.consumeKem _).entropyOk = true from entropy]; decide)]
    unfold importedRoot
    generalize gcmOpen _ _ _ _ _ = root
    cases root with
    | none => exact ⟨[], rfl⟩
    | some r =>
      dsimp only
      rw [State.blob_eq]
      exact ⟨_, rfl⟩

theorem execKeyLoad_opens {s : State} {v : W64} (idle : s.flag rSecCmdStatus fSecCmdStatusBusy = false)
    (slot : secSlot v < 64) (buf : s.secBufOk 128 = true) (empty : s.keyValid (secSlot v) = false) :
    execKeyLoad v s = .next (
      match s.openBlob 1 (s.hostRead s.secBuf 128) with
      | .error e => s.secDone e
      | .ok root => (s.installKey (secSlot v) root (field (s.hostRead s.secBuf 128) 4 2)).secDone 0) := by
  unfold execKeyLoad
  rw [State.secCommand_idle idle]
  dsimp only
  rw [if_neg (by simp [buf, slot])]
  generalize s.openBlob 1 _ = opened
  cases opened with
  | error e => rfl
  | ok root => exact congrArg Host.Outcome.next (if_neg (by rw [empty]; decide))

theorem State.openBlob_error {s : State} {kind : Nat} {b : List Byte} {e : Nat} (h : s.openBlob kind b = .error e) :
    e < 16 := by
  unfold State.openBlob at h
  split at h
  · exact Except.error.inj h ▸ by decide
  · split at h
    · exact Except.error.inj h ▸ by decide
    · split at h
      · exact Except.error.inj h ▸ by decide
      · exact nomatch h

theorem execKeyClear_valid {s : State} {v : W64} (idle : s.flag rSecCmdStatus fSecCmdStatusBusy = false)
    (slot : secSlot v < 64) (valid : s.keyValid (secSlot v) = true) : execKeyClear v s =
      .next (if s.keyInUse (secSlot v) then s.secDone 3 else (s.eraseKey (secSlot v)).secDone 0) := by
  unfold execKeyClear
  rw [State.secCommand_idle idle]
  dsimp only
  rw [if_neg (Nat.not_le.2 slot), if_neg (by rw [valid]; decide)]
  rfl

/-! Sessions (R473, R475). -/

theorem State.session_setSession (s : State) (k : Nat) (x : Option Session) (n : Nat) :
    (s.setSession k x).session n = if n = k then x else s.session n := SMap.get_set ..
theorem State.kem_setSession (s : State) (k : Nat) (x : Option Session) (n : Nat) : (s.setSession k x).kem n = s.kem n := (rfl)

/-- What SESSION_OPEN reads: the buffer's bytes, the client and the KEY_ID of the tent's key. -/
structure OpenParams where
  p : List Byte
  d : W256
  key : W256
  keyId : Nat
  tent : Nat

def OpenParams.client (x : OpenParams) : Nat := field x.p 0x444 4
def OpenParams.digest (x : OpenParams) : List Byte :=
  leBytes 32 (Config.sha3 ((List.range 1184).map fun i => (Config.kemKey x.d).getD i 0)).toNat
/-- The authenticator holds. -/
def OpenParams.authentic (x : OpenParams) : Prop :=
  (Config.gcmTag (kdf x.key "vothes-session-auth" []) (leNat (x.digest.take 12))
    (x.digest ++ leBytes 4 x.client ++ leBytes 8 x.keyId) []).toNat = field x.p 0x448 16
/-- The session that opens. -/
def OpenParams.opened (x : OpenParams) : Session :=
  { tent := x.tent, client := x.client
    secret := kdf (Config.kemSecret x.d (x.p.take 1088)) "vothes-session" (leBytes 8 x.keyId ++ leBytes 4 x.client) }

/-- The conditions on which SESSION_OPEN comes to its authenticator. -/
structure State.MayOpen (s : State) (v : W64) (x : OpenParams) : Prop where
  idle : s.flag rSecCmdStatus fSecCmdStatusBusy = false
  buf : s.secBufOk 0x500 = true
  entropy : s.entropyOk = true
  kem : field x.p 0x442 1 < 16
  version : field x.p 0x440 2 = 1
  client : x.client < 65536
  active : s.tentState (secTent v) = 2
  sealed_ : s.sealed (secTent v) = true
  closed : s.session (secSlot v) = none
  pair : s.kem (field x.p 0x442 1) = some x.d
  read : s.hostRead s.secBuf 0x458 = x.p
  keyId : (s.rd (rSecKeyid (s.tentKey (secTent v)))).toNat = x.keyId
  key : (s.keySlot (s.tentKey (secTent v))).root = x.key
  tent : secTent v = x.tent

theorem execSessionOpen_opens {s : State} {v : W64} {x : OpenParams} (h : s.MayOpen v x) :
    (x.authentic → ∃ b, execSessionOpen v s = .next
      ((((s.consumeKem (field x.p 0x442 1)).drbg.2.setSession (secSlot v) (some x.opened)).hostWrite
        (s.secBuf + 0x480) b).secDone 0 128)) ∧
    (¬ x.authentic → execSessionOpen v s = .next ((s.consumeKem (field x.p 0x442 1)).secDone 4)) := by
  obtain ⟨idle, buf, entropy, kem, version, client, active, sealed_, closed, pair, read, keyId, key, tent⟩ := h
  let u := s.consumeKem (field x.p 0x442 1)
  have blobbed (c : Nat) (i : Nat) (w : W256) : u.blob 2 0 (secTent v) c i w = ((u.blob 2 0 (secTent v) c i w).1, u.drbg.2) :=
    u.blob_eq ..
  unfold execSessionOpen
  rw [State.secCommand_idle idle]
  dsimp only
  rw [if_neg (by rw [buf]; decide), read, if_neg (by unfold OpenParams.client at client; omega),
    if_neg (by
      rw [show u.tentState (secTent v) = 2 from active, show u.sealed (secTent v) = true from sealed_,
        show u.session (secSlot v) = none from closed]
      simp)]
  split
  · next none_ => exact nomatch pair.symm.trans none_
  · next d' hd =>
    obtain rfl := Option.some.inj (pair.symm.trans hd)
    rw [if_neg (by rw [show u.entropyOk = true from entropy]; decide),
      show u.tentKey (secTent v) = s.tentKey (secTent v) from rfl,
      show (u.rd (rSecKeyid (s.tentKey (secTent v)))).toNat = x.keyId from keyId,
      show (u.keySlot (s.tentKey (secTent v))).root = x.key from key]
    split
    · next differs => exact ⟨fun good => absurd good differs, fun _ => rfl⟩
    · next same =>
      refine ⟨fun _ => ?_, fun bad => absurd (show x.authentic from not_not.1 same) bad⟩
      rw [blobbed]
      exact ⟨_, congrArg (fun t => Host.Outcome.next (((u.drbg.2.setSession (secSlot v) (some
        { tent := t, client := field x.p 0x444 4, secret := _ })).hostWrite (s.secBuf + 0x480) _).secDone 0 128)) tent⟩

theorem execSessionLoad_opens {s : State} {v : W64} {k : Nat} (idle : s.flag rSecCmdStatus fSecCmdStatusBusy = false)
    (buf : s.secBufOk 128 = true) (closed : s.session (secSlot v) = none) (hk : k < 64) (valid : s.keyValid k = true)
    (named : (s.rd (rSecKeyid k)).toNat = field (s.hostRead s.secBuf 128) 0x10 8) :
    execSessionLoad v s = .next (
      match s.openBlob 2 (s.hostRead s.secBuf 128) with
      | .error e => s.secDone e
      | .ok key => (s.setSession (secSlot v) (some { tent := field (s.hostRead s.secBuf 128) 6 2
                                                     client := field (s.hostRead s.secBuf 128) 8 4, secret := key })).secDone 0) := by
  have installed : ((List.range 64).any fun k =>
      s.keyValid k && (s.rd (rSecKeyid k)).toNat == field (s.hostRead s.secBuf 128) 0x10 8) = true :=
    List.any_eq_true.2 ⟨k, List.mem_range.2 hk, by rw [valid, named, beq_self_eq_true]; rfl⟩
  unfold execSessionLoad
  rw [State.secCommand_idle idle]
  dsimp only
  rw [if_neg (by rw [buf]; decide)]
  generalize s.openBlob 2 _ = opened
  cases opened with
  | error e => rfl
  | ok key =>
    dsimp only
    rw [if_neg (by rw [closed]; decide), if_neg (by rw [installed]; decide)]

theorem execSessionClose_closes {s : State} {v : W64} (idle : s.flag rSecCmdStatus fSecCmdStatusBusy = false) :
    execSessionClose v s = .next ((s.setSession (secSlot v) none).secDone 0) :=
  congrArg Host.Outcome.next (State.secCommand_idle idle _)

/-- Settles O31: the ciphers are the opaque functions of log entry 16. -/
theorem keysAndSessions : Obligations.KeysAndSessions := by
  unfold Obligations.KeysAndSessions
  refine ⟨?kem, ?generate, ?import_, ?load, ?clear, ?open_, ?loadSession, ?close⟩
  case kem =>
    intro s v idle slot buf entropy
    refine ⟨_, execKemGenerate_draws idle slot buf entropy, State.secDone_ends _ (by decide) _, ?_, ?_⟩
    · rw [State.kem_of_sec (State.written_sec ..)]
      exact State.kem_set ..
    · rw [State.secDone_mem]
      rfl
  case generate =>
    intro s v idle slot buf entropy empty
    obtain ⟨b, ran⟩ := execKeyGenerate_draws idle slot buf entropy empty
    obtain ⟨valid, key, id⟩ := (s.drbg.2.drbg.2.installKey_in (secSlot v) (Config.drbg s.free) 0).written s.secBuf 0 128 b
    exact ⟨_, ran, State.secDone_ends _ (by decide) _, valid, key, id⟩
  case import_ =>
    intro s v d idle slot buf entropy empty kem version policy pair
    obtain ⟨b, ran⟩ := execKeyImport_opens ⟨idle, slot, buf, rfl, entropy, empty, kem, version, policy, pair⟩
    unfold importedRoot at ran
    split at ran
    · next none_ =>
      refine ⟨_, ran, ?_, ?_⟩
      · rw [State.kem_of_sec (State.secDone_sec ..)]
        exact s.kem_consumeKem _
      · rw [none_]
        exact ⟨State.secDone_ends _ (by decide) _, (State.keyValid_secDone ..).trans empty⟩
    · next r hr =>
      let u := (s.consumeKem (field (s.hostRead s.secBuf 0x478) 0x444 1)).drbg.2
      obtain ⟨valid, key, -⟩ := (u.installKey_in (secSlot v) (BitVec.ofNat 256 (leNat r))
        (field (s.hostRead s.secBuf 0x478) 0x442 2)).written (s.secBuf + 0x480) 0 128 b
      refine ⟨_, ran, ?_, ?_⟩
      · rw [State.kem_of_sec (State.written_sec ..), State.kem_installKey]
        exact s.kem_consumeKem _
      · rw [hr]
        exact ⟨State.secDone_ends _ (by decide) _, valid, key⟩
  case load =>
    intro s v idle slot buf empty
    have ran := execKeyLoad_opens idle slot buf empty
    split at ran
    · next e he =>
      refine ⟨_, ran, ?_⟩
      rw [he]
      exact ⟨State.secDone_ends _ (State.openBlob_error he) _, State.secDone_sec ..⟩
    · next root hroot =>
      obtain ⟨valid, key, -⟩ := (s.installKey_in (secSlot v) root (field (s.hostRead s.secBuf 128) 4 2)).secDone 0 0
      refine ⟨_, ran, ?_⟩
      rw [hroot]
      exact ⟨State.secDone_ends _ (by decide) _, valid, key⟩
  case clear =>
    intro s v idle slot valid
    refine ⟨_, execKeyClear_valid idle slot valid, ?_⟩
    split
    · exact ⟨State.secDone_ends _ (by decide) _, State.secDone_sec ..⟩
    · obtain ⟨gone, empty⟩ := s.eraseKey_gone (secSlot v)
      exact ⟨State.secDone_ends _ (by decide) _, (State.keyValid_secDone ..).trans gone,
        (State.keySlot_of_sec (State.secDone_sec ..) _).trans empty⟩
  case open_ =>
    intro s v d idle buf entropy
    dsimp only
    intro kem version client active sealed_ closed pair
    generalize read : s.hostRead s.secBuf 0x458 = p at kem version client pair ⊢
    let x : OpenParams := ⟨p, d, (s.keySlot (s.tentKey (secTent v))).root,
      (s.rd (rSecKeyid (s.tentKey (secTent v)))).toNat, secTent v⟩
    obtain ⟨opens, refuses⟩ := execSessionOpen_opens (x := x)
      ⟨idle, buf, entropy, kem, version, client, active, sealed_, closed, pair, read, rfl, rfl, rfl⟩
    by_cases good : x.authentic
    · obtain ⟨b, ran⟩ := opens good
      refine ⟨_, ran, ?_, ?_⟩
      · rw [State.kem_of_sec (State.written_sec ..), State.kem_setSession]
        exact s.kem_consumeKem _
      · split
        · refine ⟨State.secDone_ends _ (by decide) _, ?_⟩
          rw [State.session_of_sec (State.written_sec ..), State.session_setSession, if_pos rfl]
          rfl
        · next bad => exact absurd good bad
    · refine ⟨_, refuses good, ?_, ?_⟩
      · rw [State.kem_of_sec (State.secDone_sec ..)]
        exact s.kem_consumeKem _
      · split
        · next holds => exact absurd holds good
        · exact ⟨State.secDone_ends _ (by decide) _, (State.session_of_sec (State.secDone_sec ..) _).trans closed⟩
  case loadSession =>
    intro s v k idle buf closed hk valid named
    have ran := execSessionLoad_opens idle buf closed hk valid named
    split at ran
    · next e he =>
      refine ⟨_, ran, ?_⟩
      rw [he]
      exact ⟨State.secDone_ends _ (State.openBlob_error he) _, State.secDone_sec ..⟩
    · next key hkey =>
      refine ⟨_, ran, ?_⟩
      rw [hkey]
      refine ⟨State.secDone_ends _ (by decide) _, ?_⟩
      rw [State.session_of_sec (State.secDone_sec ..), State.session_setSession, if_pos rfl]
  case close =>
    intro s v idle
    refine ⟨_, execSessionClose_closes idle, State.secDone_ends _ (by decide) _, ?_, fun n other => ?_⟩
    · rw [State.session_of_sec (State.secDone_sec ..), State.session_setSession, if_pos rfl]
    · rw [State.session_of_sec (State.secDone_sec ..), State.session_setSession, if_neg other]

end Sys2Proof.Machine
end

section
/-! SUPPORT. Reports, sealed imports, consents, the measurement logs and the entropy source (R466 to R469, R479, R481,
R482). -/

namespace Sys2Proof.Machine

/-! Commands that write bytes to the buffer (R468, R469). -/

theorem State.host_written (s : State) (a res out : Nat) (bs : List Byte) :
    ((s.hostWrite a bs).secDone res out).dev.mem.host = s.dev.mem.host.write a bs := by
  rw [State.secDone_mem]
  rfl

theorem execSecAttest_reports {s : State} {v : W64} (idle : s.flag rSecCmdStatus fSecCmdStatusBusy = false)
    (buf : s.secBufOk (0x40 + 3072) = true) : execSecAttest v s =
      .next ((s.hostWrite (s.secBuf + 0x40) (s.reportBody v (s.hostRead s.secBuf 64) ++
        signed "vothes-report" (s.reportBody v (s.hostRead s.secBuf 64)) ++ List.replicate 140 0)).secDone 0 3072) := by
  unfold execSecAttest
  rw [State.secCommand_idle idle]
  dsimp only
  rw [if_neg (by rw [buf]; decide)]

theorem State.secOut_fits {s : State} {b : List Byte} (buf : s.secBufOk b.length = true) :
    s.secOut b = (s.hostWrite s.secBuf b).secDone 0 b.length := if_neg (by rw [buf]; decide)

theorem State.secOut_refuses {s : State} {b : List Byte} (buf : ¬ s.secBufOk b.length = true) :
    s.secOut b = s.secDone 2 := if_pos (by rw [Bool.eq_false_of_not_eq_true buf]; rfl)

/-! Writes to a device range beside the other units. -/

theorem State.setPanel_kept {α : Type} (p : State → α) (hm : ∀ s f, p (State.modMem s f) = p s) (s : State) (n v : Nat)
    (x : Panel) : p (s.setPanel n v x) = p s := by
  unfold State.setPanel State.setTable
  exact hm _ _

/-- A write to a device range changes the memories alone. -/
theorem State.devWriteFrom_kept {α : Type} (p : State → α) (hm : ∀ s f, p (State.modMem s f) = p s) (s : State) (t : Nat)
    (bad : Bool) (fuel a : Nat) (bs : List Byte) : p (s.devWriteFrom t bad fuel a bs) = p s := by
  induction fuel generalizing s a bs with
  | zero => rfl
  | succ fuel ih =>
    unfold State.devWriteFrom
    split
    · rfl
    · refine (ih _ _ _).trans ?_
      unfold State.devWriteIn State.touch
      exact (State.setPanel_kept p hm _ _ _ _).trans (hm _ _)

theorem State.devWrite_kept {α : Type} (p : State → α) (hm : ∀ s f, p (State.modMem s f) = p s) (s : State) (t a : Nat)
    (bs : List Byte) : p (s.devWrite t a bs) = p s := State.devWriteFrom_kept p hm s t false _ a bs

/-- Whether an item is born before it changes nothing of what a write leaves in the memories. -/
theorem State.devWriteFrom_setIsl (s : State) (n : Nat) (i : Island) (t : Nat) (bad : Bool) (fuel a : Nat) (bs : List Byte) :
    (s.setIsl n i).devWriteFrom t bad fuel a bs = (s.devWriteFrom t bad fuel a bs).setIsl n i := by
  induction fuel generalizing s a bs with
  | zero => rfl
  | succ fuel ih =>
    unfold State.devWriteFrom
    split
    · rfl
    · exact ih (s.devWriteIn t a (bs.take (4096 - a % 4096)) bad) _ _

theorem State.devWrite_originate_mem (s : State) (n t a : Nat) (bs : List Byte) :
    ((s.originate n).2.devWrite t a bs).dev.mem = (s.devWrite t a bs).dev.mem :=
  congrArg (·.dev.mem) (s.devWriteFrom_setIsl n _ t false _ a bs)

/-! Tent logs (R466). -/

/-- The tent's log with one entry more. -/
def State.MeasuredAs (s t : State) (n component : Nat) (digest : W256) : Prop :=
  ∃ e, (t.tentLog n).entries = (s.tentLog n).entries ++ [e] ∧ e.component = component ∧ e.digest = digest

theorem State.tentLog_of_logs {s t : State} (h : t.dev.sec.tentLogs = s.dev.sec.tentLogs) (n : Nat) :
    t.tentLog n = s.tentLog n := by
  unfold State.tentLog
  rw [h]

theorem State.tentLog_setTentLog (s : State) (n : Nat) (l : MLog) : (s.setTentLog n l).tentLog n = l :=
  SMap.get_set_same (fun _ => ({} : MLog)) s.dev.sec.tentLogs n l

theorem State.measureTent_measures {s u : State} {n : Nat} (same : u.tentLog n = s.tentLog n) (component : Nat) (st : Stamp)
    (digest : W256) : s.MeasuredAs (u.measureTent n component st digest) n component digest := by
  refine ⟨{ component := component, epoch := u.ao.epoch, stamp := st, digest := digest }, ?_, rfl, rfl⟩
  unfold State.measureTent
  rw [State.tentLog_setTentLog, same]
  rfl

/-! Sealed import (R479). -/

/-- An import that is carried out is in progress no more. -/
def State.imported (s : State) : State := s.modSec fun x => { x with importing := none }

theorem State.imported_mem (s : State) : s.imported.dev.mem = s.dev.mem := (rfl)
theorem State.imported_logs (s : State) : s.imported.dev.sec.tentLogs = s.dev.sec.tentLogs := (rfl)

/-- The plaintext of the image in the buffer, where its tag verifies. -/
def State.importPlain (s : State) (t : Nat) : Option (List Byte) :=
  gcmOpen (kdf (s.keySlot (s.tentKey t)).root "vothes-import" []) (field (s.hostRead s.secBuf 64) 0x10 12)
    ((s.hostRead s.secBuf 64).take 0x30) (s.hostRead (s.secBuf + 64) (field (s.hostRead s.secBuf 64) 8 8))
    (field (s.hostRead s.secBuf 64) 0x30 16)

theorem State.importInto_bad {s : State} {t dst : Nat} (tag : s.importPlain t = none) :
    s.importInto t s.secBuf dst =
      (s.devWrite t dst (List.replicate (field (s.hostRead s.secBuf 64) 8 8) 0)).imported.secDone 4 := by
  unfold State.importInto
  dsimp only
  split
  · rfl
  · next p good => exact nomatch tag.symm.trans good

theorem State.importInto_good {s : State} {t dst : Nat} {p : List Byte} (tag : s.importPlain t = some p) :
    s.importInto t s.secBuf dst = (((s.originate islLookout).2.devWrite t dst p).measureTent t 0x11
      (s.originate islLookout).1 (Config.sha3 p)).imported.secDone 0 := by
  unfold State.importInto
  dsimp only
  split
  · next bad => exact nomatch tag.symm.trans bad
  · next q good =>
    obtain rfl := Option.some.inj (tag.symm.trans good)
    rfl

/-- The conditions on which SEALED_IMPORT writes at once. -/
structure State.MayImportImage (s : State) (v : W64) : Prop where
  idle : s.flag rSecCmdStatus fSecCmdStatusBusy = false
  fresh : s.dev.sec.importing = none
  head : s.secBufOk 64 = true
  version : field (s.hostRead s.secBuf 64) 0 2 = 1
  whole : field (s.hostRead s.secBuf 64) 8 8 % 64 = 0
  least : 64 ≤ field (s.hostRead s.secBuf 64) 8 8
  most : field (s.hostRead s.secBuf 64) 8 8 ≤ 2 ^ 30
  body : s.secBufOk (64 + field (s.hostRead s.secBuf 64) 8 8) = true
  aligned : s.fld rSecImportDst fSecImportDstAddr % 64 = 0
  mapped : s.spanMapped (secTent v) (s.fld rSecImportDst fSecImportDstAddr) (field (s.hostRead s.secBuf 64) 8 8) = true
  used : s.tentState (secTent v) ≠ 0
  key : s.keyValid (s.tentKey (secTent v)) = true
  room : s.tentLogFull (secTent v) = false
  unheld : s.writesHeld = false
  served : s.servedSpan (secTent v) (s.fld rSecImportDst fSecImportDstAddr) (field (s.hostRead s.secBuf 64) 8 8) = .hbm

theorem execSealedImport_writes {s : State} {v : W64} (h : s.MayImportImage v) :
    execSealedImport v s = .next (s.importInto (secTent v) s.secBuf (s.fld rSecImportDst fSecImportDstAddr)) := by
  obtain ⟨idle, fresh, head, version, whole, least, most, body, aligned, mapped, used, key, room, unheld, served⟩ := h
  have checks : ¬ ((!s.secBufOk 64) = true ∨ field (s.hostRead s.secBuf 64) 0 2 ≠ 1 ∨
      field (s.hostRead s.secBuf 64) 8 8 % 64 ≠ 0 ∨ field (s.hostRead s.secBuf 64) 8 8 < 64 ∨
      2 ^ 30 < field (s.hostRead s.secBuf 64) 8 8 ∨ (!s.secBufOk (64 + field (s.hostRead s.secBuf 64) 8 8)) = true ∨
      s.fld rSecImportDst fSecImportDstAddr % 64 ≠ 0 ∨
      (!s.spanMapped (secTent v) (s.fld rSecImportDst fSecImportDstAddr) (field (s.hostRead s.secBuf 64) 8 8)) = true) := by
    rw [head, body, mapped]
    rintro (no | no | no | no | no | no | no | no)
    · exact absurd no (by decide)
    · exact no version
    · exact no whole
    · exact absurd no (Nat.not_lt.2 least)
    · exact absurd no (Nat.not_lt.2 most)
    · exact absurd no (by decide)
    · exact no aligned
    · exact absurd no (by decide)
  unfold execSealedImport
  rw [fresh]
  dsimp only
  rw [State.secCommand_idle idle]
  rw [if_neg checks, if_neg (by rw [key]; simpa using used), if_neg (by rw [room]; decide)]
  unfold State.importStep
  dsimp only
  rw [if_neg (by rw [unheld]; decide), served]

/-! Consents (R481). -/

theorem State.consentBits_kept {α : Type} (p : State → α) (hw : ∀ s off v, p (State.wr s off v) = p s) (s : State) :
    p s.consentBits = p s :=
  (foldl_kept p _ (fun s _ => State.setFlag_kept p hw s _ _ _) _ _).trans (State.setFlag_kept p hw s _ _ _)

theorem State.consentBits_sec (s : State) : s.consentBits.dev.sec = s.dev.sec :=
  State.consentBits_kept (·.dev.sec) (fun _ _ _ => rfl) s

theorem State.consentResult_lt (s : State) (t : Nat) (b : List Byte) : s.consentResult t b < 16 := by
  unfold State.consentResult
  dsimp only
  split
  · decide
  · split
    · decide
    · split
      · decide
      · split <;> decide

/-- The consent that a token gives tent `t`. -/
def consentOf (t : Nat) (b : List Byte) : Consent :=
  { tent := t, scope := field b 2 2, start := field b 0x10 8, stop := field b 0x18 8 }

/-- A consent in force, and the token's counter kept. -/
def State.consented (s : State) (t : Nat) (b : List Byte) : State :=
  let u := (s.originate islLookout).2.measureTent t 0x13 (s.originate islLookout).1 (Config.sha3 b)
  u.modSec fun x => { x with
    consents := x.consents ++ [consentOf t b]
    keys := SMap.mod (fun _ => {}) x.keys (s.tentKey t) fun (y : KeySlot) => { y with counter := field b 0x20 8 } }

theorem execConsent_decides {s : State} {v : W64} (idle : s.flag rSecCmdStatus fSecCmdStatusBusy = false)
    (buf : s.secBufOk 64 = true) : execConsent v s = .next (
      if s.consentResult (secTent v) (s.hostRead s.secBuf 64) ≠ 0 then
        s.secDone (s.consentResult (secTent v) (s.hostRead s.secBuf 64))
      else (s.consented (secTent v) (s.hostRead s.secBuf 64)).consentBits.secDone 0) := by
  unfold execConsent
  rw [State.secCommand_idle idle]
  dsimp only
  rw [if_neg (by rw [buf]; decide)]
  rfl

theorem State.consented_counter (s : State) (t : Nat) (b : List Byte) :
    ((s.consented t b).keySlot (s.tentKey t)).counter = field b 0x20 8 := by
  have modified (u : State) (k : Nat) (cs : List Consent → List Consent) (f : KeySlot → KeySlot) :
      (u.modSec fun x => { x with consents := cs x.consents, keys := SMap.mod (fun _ => {}) x.keys k f }).keySlot k =
        f (u.keySlot k) := by
    refine (SMap.get_mod (fun _ => {}) u.dev.sec.keys k f k).trans ?_
    rw [if_pos rfl]
    rfl
  unfold State.consented
  dsimp only
  rw [modified _ _ (· ++ [consentOf t b])]

/-- Settles O32: what the part signs, opens and hashes with is opaque (log entry 16). -/
theorem reportsImportsConsents : Obligations.ReportsImportsConsents := by
  unfold Obligations.ReportsImportsConsents
  refine ⟨?attest, ?import_, ?consent, ?revoke, ?window, ?cert, ?log, ?busy, ?reseed, ?health⟩
  case attest =>
    intro s v idle buf
    exact ⟨_, execSecAttest_reports idle buf, State.secDone_ends _ (by decide) _, State.host_written ..⟩
  case import_ =>
    intro s v idle fresh
    dsimp only
    intro head version whole least most body aligned mapped used key room unheld served
    have ran := execSealedImport_writes
      ⟨idle, fresh, head, version, whole, least, most, body, aligned, mapped, used, key, room, unheld, served⟩
    have kept (u : State) (p : List Byte) : (u.devWrite (secTent v) (s.fld rSecImportDst fSecImportDstAddr) p).dev.sec =
        u.dev.sec := State.devWrite_kept (·.dev.sec) (fun _ _ => rfl) ..
    rcases tag : s.importPlain (secTent v) with _ | p
    · rw [State.importInto_bad tag] at ran
      refine ⟨_, ran, by rw [State.secDone_sec]; rfl, ?_⟩
      unfold State.importPlain at tag
      rw [tag]
      refine ⟨State.secDone_ends _ (by decide) _, ?_, State.tentLog_of_logs ?_ _⟩
      · rw [State.secDone_mem, State.imported_mem]
      · rw [State.secDone_sec, State.imported_logs, kept]
    · rw [State.importInto_good tag] at ran
      refine ⟨_, ran, by rw [State.secDone_sec]; rfl, ?_⟩
      unfold State.importPlain at tag
      rw [tag]
      refine ⟨State.secDone_ends _ (by decide) _, ?_, ?_⟩
      · rw [State.secDone_mem, State.imported_mem]
        exact s.devWrite_originate_mem ..
      · obtain ⟨e, entries, component, digest⟩ := State.measureTent_measures
          (State.tentLog_of_logs (congrArg SecSt.tentLogs (kept (s.originate islLookout).2 p)) (secTent v))
          0x11 (s.originate islLookout).1 (Config.sha3 p)
        refine ⟨e, ?_, component, digest⟩
        rw [State.tentLog_of_logs (congrArg SecSt.tentLogs (State.secDone_sec ..)),
          State.tentLog_of_logs (State.imported_logs _), entries]
        rfl
  case consent =>
    intro s v idle buf
    have ran := execConsent_decides (v := v) idle buf
    by_cases accepted : s.consentResult (secTent v) (s.hostRead s.secBuf 64) = 0
    · rw [if_neg (not_not.2 accepted)] at ran
      have sec : ((s.consented (secTent v) (s.hostRead s.secBuf 64)).consentBits.secDone 0).dev.sec =
          (s.consented (secTent v) (s.hostRead s.secBuf 64)).dev.sec := by rw [State.secDone_sec, State.consentBits_sec]
      refine ⟨_, ran, ?_, ?_⟩
      · rw [accepted]
        exact State.secDone_ends _ (by decide) _
      · rw [if_pos accepted, State.keySlot_of_sec sec, sec, State.consented_counter]
        refine ⟨rfl, rfl, ?_⟩
        obtain ⟨e, entries, component, -⟩ := State.measureTent_measures (s := s) (u := (s.originate islLookout).2)
          (n := secTent v) rfl 0x13 (s.originate islLookout).1 (Config.sha3 (s.hostRead s.secBuf 64))
        exact ⟨e, (congrArg MLog.entries (State.tentLog_of_logs (congrArg SecSt.tentLogs sec) _)).trans entries, component⟩
    · rw [if_pos accepted] at ran
      refine ⟨_, ran, State.secDone_ends _ (s.consentResult_lt ..) _, ?_⟩
      rw [if_neg accepted, State.secDone_sec]
  case revoke =>
    intro s v idle
    refine ⟨_, congrArg Host.Outcome.next (State.secCommand_idle idle _), State.secDone_ends _ (by decide) _, ?_⟩
    rw [State.secDone_sec, State.consentBits_sec]
    rfl
  case window =>
    intro s
    refine ⟨_, rfl, ?_⟩
    rw [State.consentBits_sec]
    rfl
  case cert =>
    intro s idle
    refine ⟨_, congrArg Host.Outcome.next (State.secCommand_idle idle _), ?_⟩
    split
    · next fits =>
      rw [State.secOut_fits fits]
      exact ⟨State.secDone_ends _ (by decide) _, State.host_written ..⟩
    · next out =>
      rw [State.secOut_refuses out]
      exact ⟨State.secDone_ends _ (by decide) _, State.secDone_mem ..⟩
  case log =>
    intro s v idle
    dsimp only
    intro fits
    refine ⟨_, congrArg Host.Outcome.next (State.secCommand_idle idle _), ?_⟩
    rw [State.secOut_fits fits]
    exact ⟨State.secDone_ends _ (by decide) _, State.host_written ..⟩
  case busy =>
    intro s v busy
    have ignored (f : State → State) : (.next (s.secCommand f) : Host.Outcome State Fault Refusal) = .next s :=
      congrArg Host.Outcome.next (State.secCommand_busy busy f)
    refine ⟨fun c hc => ?_, fun fresh => ?_⟩
    · simp only [List.mem_cons, List.not_mem_nil, or_false] at hc
      rcases hc with rfl | rfl | rfl | rfl | rfl | rfl | rfl | rfl | rfl | rfl | rfl | rfl | rfl <;> exact ignored _
    · show execSealedImport v s = _
      unfold execSealedImport
      rw [fresh]
      exact ignored _
  case reseed =>
    intro s
    refine ⟨_, rfl, ?_⟩
    split <;> rfl
  case health => exact fun s => ⟨_, rfl, State.inFailsafe_enterFailsafe ..⟩

end Sys2Proof.Machine
end

section
/-! SUPPORT. The error log ring, injection, remapping, bay retirement, patrol scrub and a forced FAILSAFE (R487, R493, R494,
R496 to R499, R503). -/

namespace Sys2Proof.Machine

/-! The log ring (R497). -/

theorem State.modRas_ras (s : State) (f : RasSt → RasSt) : (s.modRas f).dev.ras = f s.dev.ras := rfl
theorem State.modRas_mem (s : State) (f : RasSt → RasSt) : (s.modRas f).dev.mem = s.dev.mem := rfl
theorem State.hostWrite_ras (s : State) (a : Nat) (bs : List Byte) : (s.hostWrite a bs).dev.ras = s.dev.ras := rfl
theorem State.hostPut_ras (s : State) (a n x : Nat) : (s.hostPut a n x).dev.ras = s.dev.ras := rfl
theorem State.hostWrite_host (s : State) (a : Nat) (bs : List Byte) :
    (s.hostWrite a bs).dev.mem.host = s.dev.mem.host.write a bs := rfl
theorem State.hostPut_host (s : State) (a n x : Nat) : (s.hostPut a n x).dev.mem.host = s.dev.mem.host.put a n x := rfl
theorem State.hostWrite_rd (s : State) (a : Nat) (bs : List Byte) (o : Nat) : (s.hostWrite a bs).rd o = s.rd o := rfl
theorem State.modRas_rd (s : State) (g : RasSt → RasSt) (o : Nat) : (s.modRas g).rd o = s.rd o := rfl
theorem State.hostWrite_fld (s : State) (a : Nat) (bs : List Byte) (o : Nat) (f : Nat × Nat) :
    (s.hostWrite a bs).fld o f = s.fld o f := rfl

/-- A record in the ring, before its trace event. -/
def State.logStored (s : State) (r : ErrRec) : State :=
  ((s.hostWrite (s.logRing + 64 + 64 * (s.dev.ras.producer % 2 ^ s.logLog2))
    ({ r with logSeq := s.dev.ras.logSeq } : ErrRec).encode).hostPut s.logRing 8 (s.dev.ras.producer + 1)).modRas
      fun x => { x with logSeq := x.logSeq + 1, producer := x.producer + 1 }

theorem State.logPut_eq (s : State) (r : ErrRec) : s.logPut r =
    if r.detector = 0 then s.logStored r
    else (s.logStored r).traceAt r.stamp 0x0070 r.tent r.detector s.dev.ras.logSeq (if r.flags.testBit 0 then 4 else 0) := by
  unfold State.logPut State.logStored State.logRing
  dsimp only
  rw [State.hostWrite_fld]

/-- A record's trace event leaves the RAS unit and the memories. -/
theorem State.logPut_kept {α : Type} (p : State → α) (h : ∀ s f, p (State.modObs s f) = p s) (s : State) (r : ErrRec) :
    p (s.logPut r) = p (s.logStored r) := by
  rw [State.logPut_eq]
  split
  · rfl
  · exact State.traceAt_kept p h ..

theorem State.logPut_ras (s : State) (r : ErrRec) :
    (s.logPut r).dev.ras = { s.dev.ras with logSeq := s.dev.ras.logSeq + 1, producer := s.dev.ras.producer + 1 } := by
  rw [State.logPut_kept (·.dev.ras) (fun _ _ => rfl), State.logStored, State.modRas_ras, State.hostPut_ras,
    State.hostWrite_ras]

theorem State.logPut_host (s : State) (r : ErrRec) : (s.logPut r).dev.mem.host =
    (s.dev.mem.host.write (s.logRing + 64 + 64 * (s.dev.ras.producer % 2 ^ s.logLog2))
      ({ r with logSeq := s.dev.ras.logSeq } : ErrRec).encode).put s.logRing 8 (s.dev.ras.producer + 1) := by
  rw [State.logPut_kept (·.dev.mem.host) (fun _ _ => rfl), State.logStored, State.modRas_mem, State.hostPut_host,
    State.hostWrite_host]

/-- A record dropped is counted in the ring's header and in the RAS unit. -/
theorem State.lossCounted_coalescing (u : State) (valid : Bool) (a n : Nat) (st : Option Stamp → Option Stamp) :
    ((if valid = true then u.hostPut a 8 n else u).modRas fun x =>
      { x with lossFirst := st x.lossFirst, lossCount := x.lossCount + 1 }).dev.ras.coalescing =
      u.dev.ras.coalescing := by
  cases valid <;> rfl

theorem State.logTake_coalescing (s : State) (r : ErrRec) : (s.logTake r).dev.ras.coalescing = s.dev.ras.coalescing := by
  unfold State.logTake
  split
  · rw [State.logPut_ras]
  · split
    · rfl
    · exact (State.lossCounted_coalescing _ _ _ _ (fun o => some (o.getD r.stamp))).trans (congrArg RasSt.coalescing
        ((State.setFlag_kept (·.dev.ras) (fun _ _ _ => rfl) _ _ _ _).trans
          (State.addFld_kept (·.dev.ras) (fun _ _ _ => rfl) _ _ _ _)))

/-- Where nothing waits, a record is written if there is room. -/
theorem State.logTake_room {s : State} (r : ErrRec) (held : s.dev.ras.held = []) (loss : s.dev.ras.lossFirst = none)
    (room : s.logRoom = true) : s.logTake r = s.logPut r := if_pos (by rw [room, held, loss]; rfl)

/-- Where nothing waits and there is no room, a record is held. -/
theorem State.logTake_full {s : State} (r : ErrRec) (held : s.dev.ras.held = []) (room : ¬ s.logRoom = true) :
    s.logTake r = s.modRas fun x => { x with held := x.held ++ [r] } := by
  unfold State.logTake
  rw [if_neg (by rw [Bool.eq_false_of_not_eq_true room]; exact Bool.false_ne_true), if_pos (by rw [held]; decide)]

/-- Where nothing waits, nothing is written. -/
theorem State.logDrain_nothing {s : State} (held : s.dev.ras.held = []) (loss : s.dev.ras.lossFirst = none) (fuel : Nat) :
    s.logDrain fuel = s := by
  cases fuel with
  | zero => rfl
  | succ fuel =>
    unfold State.logDrain
    rw [loss, held]
    exact ite_self _

theorem State.pollLogConsumer_takes {s : State} {c : Nat}
    (taken : takeConsumer s.dev.ras.producer s.dev.ras.consumer s.logLog2 (s.hostNum (s.logRing + 8) 8) = (c, false)) :
    s.pollLogConsumer = s.modRas fun x => { x with consumer := c } := by
  unfold State.pollLogConsumer
  dsimp only
  rw [taken]
  rfl

/-- A log ring registered, with its header cleared. -/
def State.logRegistered (s : State) (v : W64) : State :=
  let u := (s.writeReg rRasLogBase v).setFlag rRasLogBase fRasLogBaseCfgError false
  (u.hostWrite u.logRing (List.replicate 64 0)).modRas fun x => { x with producer := 0, consumer := 0, badConsumer := [] }

theorem State.logRing_setCfgError (s : State) (b : Bool) :
    (s.setFlag rRasLogBase fRasLogBaseCfgError b).logRing = s.logRing :=
  congrArg (· * 64) (State.fld_setFlag_apart s rRasLogBase fRasLogBaseCfgError b fRasLogBaseAddr (by decide) (by decide))

theorem State.logRegistered_host (s : State) (v : W64) : (s.logRegistered v).dev.mem.host =
    s.dev.mem.host.write ((s.writeReg rRasLogBase v).logRing) (List.replicate 64 0) := by
  have mem : ((s.writeReg rRasLogBase v).setFlag rRasLogBase fRasLogBaseCfgError false).dev.mem = s.dev.mem :=
    (State.setFlag_kept (·.dev.mem) (fun _ _ _ => rfl) ..).trans
      (State.writeReg_kept (·.dev.mem) (fun _ _ _ => rfl) ..)
  unfold State.logRegistered
  rw [State.modRas_mem, State.hostWrite_host, State.logRing_setCfgError, mem]

theorem State.logRegistered_rd (s : State) (v : W64) (o : Nat) : (s.logRegistered v).rd o =
    ((s.writeReg rRasLogBase v).setFlag rRasLogBase fRasLogBaseCfgError false).rd o := by
  unfold State.logRegistered
  rw [State.modRas_rd, State.hostWrite_rd]

theorem State.logRegistered_cfgError (s : State) (v : W64) :
    (s.logRegistered v).flag rRasLogBase fRasLogBaseCfgError = false :=
  (State.flag_of_rd (s.logRegistered_rd v _) _).trans
    (State.flag_setFlag_same (s.writeReg rRasLogBase v) rRasLogBase fRasLogBaseCfgError false (by decide) rfl)

theorem State.logRegistered_ras (s : State) (v : W64) : (s.logRegistered v).dev.ras =
    { s.dev.ras with producer := 0, consumer := 0, badConsumer := [] } := by
  have ras : ((s.writeReg rRasLogBase v).setFlag rRasLogBase fRasLogBaseCfgError false).dev.ras = s.dev.ras :=
    (State.setFlag_kept (·.dev.ras) (fun _ _ _ => rfl) ..).trans
      (State.writeReg_kept (·.dev.ras) (fun _ _ _ => rfl) ..)
  unfold State.logRegistered
  rw [State.modRas_ras, State.hostWrite_ras, ras]

/-! Injection and remapping (R499, R493). -/

/-- What INJECT_ARM leaves: the injection armed with a stamp of the register port, or REFUSED. -/
theorem State.injectArm_decides {s : State} {v : W64} (arm : getBits v 0 1 = 1) : exec (.injectArm v) s = .next (
    if (s.writeReg rRasInjectArm v).flag rRasInjectArm fRasInjectArmArmed = false ∧
        (s.writeReg rRasInjectArm v).detectorExists (s.fld rRasInjectSel fRasInjectSelIsland)
          (s.fld rRasInjectSel fRasInjectSelDetector) = true then
      (((s.writeReg rRasInjectArm v).originate islPort).2.setFlag rRasInjectArm fRasInjectArmArmed true).modRas
        fun x => { x with injectStamp := some ((s.writeReg rRasInjectArm v).originate islPort).1 }
    else (s.writeReg rRasInjectArm v).setFlag rRasInjectArm fRasInjectArmRefused true) := by
  have sel (f : Nat × Nat) : (s.writeReg rRasInjectArm v).fld rRasInjectSel f = s.fld rRasInjectSel f := by
    unfold State.fld
    rw [State.rd_writeReg_other _ _ _ (by decide)]
  show execInjectArm v s = _
  unfold execInjectArm
  rw [if_neg (by rw [arm]; decide), sel, sel]
  generalize (s.writeReg rRasInjectArm v).flag rRasInjectArm fRasInjectArmArmed = armed
  generalize (s.writeReg rRasInjectArm v).detectorExists _ _ = there
  cases armed <;> cases there <;> rfl

/-- The list with a word more, and its count shown. -/
theorem State.sramRemap_adds {s : State} {isl m w : Nat} (island : s.isIsland isl = true) (few : s.nv.remaps.length < 4096)
    (fresh : (isl, m, w) ∉ s.nv.remaps) (room : (s.nv.remaps.filter fun e => e.1 == isl && e.2.1 == m).length < 4) :
    exec (.sramRemap isl m w) s = .next (
      ((({ s with nv := { s.nv with remaps := s.nv.remaps ++ [(isl, m, w)] } } : State).setFld rRasRemapStatus
        fRasRemapStatusEntries (s.nv.remaps.length + 1)).setFlag rRasRemapStatus fRasRemapStatusListFull
          (s.nv.remaps.length + 1 == 4096))) := by
  refine if_neg ?_
  rw [island, List.contains_iff_mem]
  rintro (no | no | no | no)
  · exact absurd no (by decide)
  · exact absurd no (Nat.not_le.2 few)
  · exact fresh no
  · exact absurd no (Nat.not_le.2 room)

/-! Retirement and scrub (R494, R487). -/

theorem State.firmwareCut_nv (s : State) (t bay : Nat) : (s.firmwareCut t bay).nv = s.nv := by
  have armed (m : Nat) (mask : List W64) : (s.armCut t m mask).nv = s.nv :=
    State.setFlag_kept (·.nv) (fun _ _ _ => rfl) _ _ _ _
  unfold State.firmwareCut
  dsimp only
  split <;> exact armed ..

theorem State.postEvent_nv (s : State) (core type status tag : Nat) (args : List Nat) :
    (s.postEvent core type status tag args).nv = s.nv :=
  State.postEvent_kept (·.nv) (fun s f v => s.setFld_nv _ f v) (fun _ _ _ => rfl) (fun _ _ => rfl)
    (fun s _ => s.setFld_nv _ _ _) (fun _ _ _ => rfl) s core type status tag args

theorem State.addFld_nv (s : State) (off : Nat) (f : Nat × Nat) (n : Nat) : (s.addFld off f n).nv = s.nv := (rfl)

theorem State.bayIsland_setBay (s : State) (n : Nat) (b : Bay) (m : Nat) : (s.setBay n b).bayIsland m = s.bayIsland m :=
  rfl

theorem State.retireBay_retires {s : State} {bay : Nat} (lt : bay < 256) (serves : (s.bay bay).retired = false) :
    (s.retireBay bay).nv.retiredBays = s.nv.retiredBays ++ [s.bayIsland bay] := by
  have goes : ¬ (256 ≤ bay ∨ (s.bay bay).retired = true) := by
    rw [serves, not_or]
    exact ⟨Nat.not_le.2 lt, Bool.false_ne_true⟩
  have island := s.bayIsland_setBay bay { s.bay bay with retired := true } bay
  simp only [State.retireBay, if_neg goes]
  split
  · split
    · rw [State.firmwareCut_nv, State.postEvent_nv, State.addFld_nv, island, State.setBay_nv]
    · rw [State.postEvent_nv, State.addFld_nv, island, State.setBay_nv]
  · rw [State.postEvent_nv, State.addFld_nv, island, State.setBay_nv]

/-- Settles O33: a refused registration leaves VALID 0 (log entry 154). -/
theorem errorLogAndFaults : Obligations.ErrorLogAndFaults := by
  unfold Obligations.ErrorLogAndFaults
  refine ⟨?write, ?space, ?coalesce, ?register, ?inject, ?remap, ?retire, ?scrub, ?force⟩
  case write =>
    intro s r rs arrived held loss
    have ran : exec .errorLogWrite s = .next ((s.modRas fun x => { x with arrived := rs }).logTake r) := by
      show execErrorLogWrite s = _
      unfold execErrorLogWrite
      rw [arrived]
    refine ⟨_, ran, ?_⟩
    by_cases room : s.logRoom = true
    · rw [State.logTake_room (s := s.modRas fun x => { x with arrived := rs }) r held loss room, if_pos room,
        State.logPut_ras, State.logPut_host]
      exact ⟨rfl, rfl, rfl, held, rfl⟩
    · rw [State.logTake_full (s := s.modRas fun x => { x with arrived := rs }) r held room, if_neg room]
      refine ⟨rfl, ?_, rfl⟩
      show s.dev.ras.held ++ [r] = [r]
      rw [held]
      rfl
  case space =>
    intro s c valid held loss taken
    refine ⟨_, rfl, ?_⟩
    rw [if_pos valid, State.pollLogConsumer_takes taken,
      State.logDrain_nothing (s := s.modRas fun x => { x with consumer := c }) held loss]
    rfl
  case coalesce =>
    exact fun s => ⟨_, rfl, foldl_kept (·.dev.ras.coalescing) _ (fun s c => s.logTake_coalescing (Coalesce.record c)) _ _⟩
  case register =>
    intro s v valid held loss
    have ran : exec (.errorLogRegister v) s = .next (if s.ringRefused v = true then
        (s.setFlag rRasLogBase fRasLogBaseValid false).setFlag rRasLogBase fRasLogBaseCfgError true
        else (s.logRegistered v).logDrain 1026) := by
      show execErrorLogRegister v s = _
      unfold execErrorLogRegister
      rw [if_neg (by rw [valid]; decide)]
      split <;> rfl
    refine ⟨_, ran, ?_⟩
    split
    · exact ⟨(State.flag_setFlag_apart _ _ _ _ _ (by decide) (by decide)).trans
        (State.flag_setFlag_same _ _ _ _ (by decide) rfl), State.flag_setFlag_same _ _ _ _ (by decide) rfl⟩
    · have ras := s.logRegistered_ras v
      rw [State.logDrain_nothing (by rw [ras]; exact held) (by rw [ras]; exact loss), ras]
      exact ⟨rfl, rfl, s.logRegistered_cfgError v, s.logRegistered_host v⟩
  case inject =>
    intro s v arm
    refine ⟨_, State.injectArm_decides arm, ?_⟩
    split
    · refine ⟨(State.flag_of_rd (State.modRas_rd ..) _).trans (State.flag_setFlag_same _ _ _ _ (by decide) rfl),
        ((s.writeReg rRasInjectArm v).originate islPort).1, ?_, rfl⟩
      rw [State.modRas_ras]
    · refine ⟨State.flag_setFlag_same _ _ _ _ (by decide) rfl, ?_⟩
      rw [State.setFlag_kept (·.dev.ras) (fun _ _ _ => rfl), State.writeReg_kept (·.dev.ras) (fun _ _ _ => rfl)]
  case remap =>
    intro s isl m w island few fresh room
    refine ⟨_, State.sramRemap_adds island few fresh room, ?_, ?_⟩
    · rw [State.setFlag_nv, State.setFld_nv]
    · rw [State.fld_setFlag_apart _ _ _ _ _ (by decide) (by decide), State.fld_setFld_same _ _ _ _ (by decide)]
      exact Nat.mod_eq_of_lt (Nat.lt_of_le_of_lt (Nat.succ_le_of_lt few) (by decide))
  case retire =>
    intro s bay lt serves free
    refine ⟨_, rfl, ?_⟩
    rw [State.acting, if_neg (by rw [free]; decide)]
    exact State.retireBay_retires lt serves
  case scrub =>
    intro s flips owner on lines free
    refine ⟨_, if_neg ?_, ?_⟩
    · rw [on, not_or]
      exact ⟨by decide, Nat.mul_ne_zero lines (by decide)⟩
    · rw [State.acting, if_neg (by rw [free]; decide), State.modRas_ras]
  case force => exact fun s => ⟨_, rfl, State.inFailsafe_enterFailsafe ..⟩

end Sys2Proof.Machine
end

section
/-! SUPPORT. Loading Yedal, the firmware queues and commands, and the handling of traps (R533 to R537). -/

namespace Sys2Proof.Machine

/-! Events (R534 to R536). -/

theorem State.modFw_fw (s : State) (f : FwSt → FwSt) : (s.modFw f).dev.fw = f s.dev.fw := rfl
theorem State.modFw_mem (s : State) (f : FwSt → FwSt) : (s.modFw f).dev.mem = s.dev.mem := rfl
theorem State.setFld_fw (s : State) (off : Nat) (f : Nat × Nat) (v : Nat) : (s.setFld off f v).dev.fw = s.dev.fw := (rfl)
theorem State.setFld_mem (s : State) (off : Nat) (f : Nat × Nat) (v : Nat) : (s.setFld off f v).dev.mem = s.dev.mem :=
  (rfl)
theorem State.setFld_saved (s : State) (off : Nat) (f : Nat × Nat) (v : Nat) :
    (s.setFld off f v).dev.saved = s.dev.saved := (rfl)
theorem State.setFld_traps (s : State) (off : Nat) (f : Nat × Nat) (v : Nat) :
    (s.setFld off f v).dev.traps = s.dev.traps := (rfl)
theorem State.modBay_saved (s : State) (n : Nat) (f : Bay → Bay) : (s.modBay n f).dev.saved = s.dev.saved := rfl
theorem State.modBay_traps (s : State) (n : Nat) (f : Bay → Bay) : (s.modBay n f).dev.traps = s.dev.traps := rfl
theorem State.hostWrite_fw (s : State) (a : Nat) (bs : List Byte) : (s.hostWrite a bs).dev.fw = s.dev.fw := rfl
theorem State.originate_regs (s : State) (n : Nat) : (s.originate n).2.dev.regs = s.dev.regs := rfl

theorem State.evtRoom_of_regs {s t : State} (h : t.dev.regs = s.dev.regs) : t.evtRoom = s.evtRoom := by
  unfold State.evtRoom State.fwqSize State.flag State.fld
  simp only [State.rd_of_regs h]

theorem State.fwqSize_of_rd {s t : State} {base : Nat} (h : t.rd base = s.rd base) : t.fwqSize base = s.fwqSize base := by
  unfold State.fwqSize State.flag State.fld
  rw [h]

theorem State.writeEvent_waiting (s : State) (e : FwEvent) : (s.writeEvent e).dev.fw.waiting = s.dev.fw.waiting := by
  simp only [State.writeEvent, apply_ite (fun t : State => t.dev.fw.waiting), State.modFw_fw, State.setFld_fw,
    State.hostWrite_fw, ite_self]

theorem State.writeEvent_host (s : State) (e : FwEvent) : (s.writeEvent e).dev.mem.host =
    s.dev.mem.host.write (s.fld rFwEvtqBase fFwEvtqBaseAddr * 64 +
      64 * (s.fld rFwEvtqTail fFwEvtqTailTail % s.fwqSize rFwEvtqBase)) (e.encode (s.fld rFwEvtqTail fFwEvtqTailPhase)) := by
  simp only [State.writeEvent, apply_ite (fun t : State => t.dev.mem.host), State.modFw_mem, State.setFld_mem,
    State.hostWrite_host, ite_self]

/-- A response is written, or waits. -/
theorem State.respond_posts {s : State} (runs : s.fwRuns = true) (e : List Byte) (status arg : Nat) :
    Posts s (s.respond e status arg) 1 status (cmdTag e) [arg] := by
  have regs := s.originate_regs (islRanger (s.rangerOf 0))
  have fw : (s.originate (islRanger (s.rangerOf 0))).2.dev.fw = s.dev.fw := rfl
  have host : (s.originate (islRanger (s.rangerOf 0))).2.dev.mem.host = s.dev.mem.host := rfl
  refine ⟨{ type := 1, status := status, tag := cmdTag e, stamp := (s.originate (islRanger (s.rangerOf 0))).1, args := [arg] },
    rfl, rfl, rfl, rfl, ?_⟩
  have goes : ¬ (!s.fwRuns) = true := by rw [runs]; decide
  by_cases room : s.evtRoom = true ∧ s.dev.fw.waiting = []
  · rw [if_pos room]
    unfold State.respond State.postEvent
    rw [if_neg goes]
    generalize s.originate (islRanger (s.rangerOf 0)) = p at regs fw host ⊢
    obtain ⟨st, u⟩ := p
    dsimp only at regs fw host ⊢
    rw [State.evtRoom_of_regs regs, fw, if_pos (by rw [room.1, room.2]; rfl), State.writeEvent_host, host]
    simp only [State.fld, State.rd_of_regs regs, State.fwqSize_of_rd (State.rd_of_regs regs rFwEvtqBase)]
  · rw [if_neg room]
    unfold State.respond State.postEvent
    rw [if_neg goes]
    generalize s.originate (islRanger (s.rangerOf 0)) = p at regs fw host ⊢
    obtain ⟨st, u⟩ := p
    dsimp only at regs fw host ⊢
    rw [State.evtRoom_of_regs regs, fw, if_neg (by rwa [Bool.and_eq_true, List.isEmpty_iff]), if_neg (fun h => h.1 rfl),
      State.modFw_fw, fw]

/-- A post changes no register but the event queue's. -/
theorem State.rd_postEvent (s : State) (core type status tag : Nat) (args : List Nat) {o : Nat} (tail : o ≠ rFwEvtqTail)
    (lost : o ≠ rFwEvtqLost) : (s.postEvent core type status tag args).rd o = s.rd o :=
  State.postEvent_kept (·.rd o) (fun s _ _ => s.rd_setFld_other _ _ _ _ tail) (fun _ _ _ => rfl) (fun _ _ => rfl)
    (fun s _ => s.rd_addFld_other _ _ _ lost) (fun _ _ _ => rfl) s core type status tag args

theorem State.postEvent_bays (s : State) (core type status tag : Nat) (args : List Nat) :
    (s.postEvent core type status tag args).dev.bays = s.dev.bays :=
  State.postEvent_kept (·.dev.bays) (fun s f v => s.setFld_bays _ f v) (fun _ _ _ => rfl) (fun _ _ => rfl)
    (fun s _ => s.setFld_bays _ _ _) (fun _ _ _ => rfl) s core type status tag args

theorem State.postEvent_saved (s : State) (core type status tag : Nat) (args : List Nat) :
    (s.postEvent core type status tag args).dev.saved = s.dev.saved :=
  State.postEvent_kept (·.dev.saved) (fun s f v => s.setFld_saved _ f v) (fun _ _ _ => rfl) (fun _ _ => rfl)
    (fun s _ => s.setFld_saved _ _ _) (fun _ _ _ => rfl) s core type status tag args

theorem State.postEvent_traps (s : State) (core type status tag : Nat) (args : List Nat) :
    (s.postEvent core type status tag args).dev.traps = s.dev.traps :=
  State.postEvent_kept (·.dev.traps) (fun s f v => s.setFld_traps _ f v) (fun _ _ _ => rfl) (fun _ _ => rfl)
    (fun s _ => s.setFld_traps _ _ _) (fun _ _ _ => rfl) s core type status tag args

/-! The command queue (R536). -/

/-- A command of firmware's that stands at HEAD and is taken. -/
theorem State.fwCommand_takes {s u : State} {op : Nat} {e : List Byte} (h : Takes s op e)
    {f : List Byte → State → Bool × State} (done : f e s = (true, u)) : s.fwCommand op f = u.fwTaken := by
  obtain ⟨running, unblocked, reaped, entry, known, op_⟩ := h
  have reap : s.fwReap = s := by
    unfold State.fwReap
    rw [reaped]
    rfl
  unfold State.fwCommand
  rw [if_neg (by rw [running, unblocked]; decide), reap]
  dsimp only
  rw [entry]
  dsimp only
  rw [op_, if_neg (by omega), if_neg (not_not.2 rfl), done]
  rfl

theorem State.fwTaken_advanced {s u : State} (head : u.rd rFwCmdqHead = s.rd rFwCmdqHead)
    (base : u.rd rFwCmdqBase = s.rd rFwCmdqBase) : Advanced s u.fwTaken := by
  unfold Advanced State.fwTaken
  rw [State.fld_setFld_same _ _ _ _ (by decide), State.fwqSize_of_rd base]
  unfold State.fld
  rw [head]
  rfl

theorem Posts.fwTaken {s u : State} {type status tag : Nat} {args : List Nat} (h : Posts s u type status tag args) :
    Posts s u.fwTaken type status tag args := by
  obtain ⟨e, ty, st, tg, ar, posted⟩ := h
  refine ⟨e, ty, st, tg, ar, ?_⟩
  unfold State.fwTaken
  rw [State.setFld_mem, State.setFld_fw]
  exact posted

/-- A command that only responds. -/
theorem State.respond_taken {s u : State} (runs : u.fwRuns = true) (head : u.rd rFwCmdqHead = s.rd rFwCmdqHead)
    (base : u.rd rFwCmdqBase = s.rd rFwCmdqBase) (e : List Byte) (status arg : Nat) :
    Advanced s (u.respond e status arg).fwTaken ∧ Posts u (u.respond e status arg).fwTaken 1 status (cmdTag e) [arg] :=
  ⟨State.fwTaken_advanced ((u.rd_postEvent _ _ _ _ _ (by decide) (by decide)).trans head)
    ((u.rd_postEvent _ _ _ _ _ (by decide) (by decide)).trans base), (State.respond_posts runs e status arg).fwTaken⟩

/-- GET_INFO and GET_REMAP write at most ARG1 bytes. -/
theorem State.fwWrite_fits {s : State} {e : List Byte} (fits : s.inHost (cmdArg e 0) (cmdArg e 1) = true) (b : List Byte) :
    s.fwWrite e b = (s.hostWrite (cmdArg e 0) (b.take (cmdArg e 1))).respond e 0 (b.take (cmdArg e 1)).length :=
  if_neg (by rw [fits]; decide)

theorem State.fwRuns_hostWrite (s : State) (a : Nat) (bs : List Byte) : (s.hostWrite a bs).fwRuns = s.fwRuns := rfl
theorem State.fwRuns_setCrew (s : State) (bay slot : Nat) (c : Crew) : (s.setCrew bay slot c).fwRuns = s.fwRuns := rfl
theorem State.setCrew_rd (s : State) (bay slot : Nat) (c : Crew) (o : Nat) : (s.setCrew bay slot c).rd o = s.rd o := rfl

/-! LAUNCH (R536). -/

/-- The crew of command `e`, and the command in progress. -/
def State.launchDesc (s : State) (d : LaunchDesc) : LaunchDesc := { d with cmd := s.dev.fw.launches + 1 }
def State.launchCmd (s : State) (e : List Byte) (d : LaunchDesc) : FwCmd :=
  { id := s.dev.fw.launches + 1, tag := cmdTag e, tent := cmdTent e, bay := cmdArg e 0, desc := s.launchDesc d }

/-- A crew of command `e` is queued. -/
def State.launched (s : State) (e : List Byte) (d : LaunchDesc) : State :=
  (s.modBay (cmdArg e 0) fun b => { b with launchq := b.launchq ++ [s.launchDesc d] }).modFw fun f =>
    { f with progress := f.progress ++ [s.launchCmd e d], launches := s.dev.fw.launches + 1 }

theorem execFwLaunch_queues {s s1 : State} {e b : List Byte} {d : LaunchDesc} (h : Takes s 3 e) (right : s.bayRefusal e = 0)
    (open_ : s.sealed (cmdTent e) = false) (few : s.dev.fw.progress.length < 64)
    (room : (s.bay (cmdArg e 0)).launchq.length < 16) (here : s.servedSpan (cmdTent e) (cmdArg e 1) 136 = .hbm)
    (read : s.devRead (cmdTent e) (cmdArg e 1) 136 = (b, false, s1)) (aligned : cmdArg e 1 % 8 = 0)
    (desc : readLaunch (({} : Store).write 0 b) 0 0 0 = some d) : exec .fwLaunch s = .next (s1.launched e d).fwTaken := by
  refine congrArg Host.Outcome.next (State.fwCommand_takes h ?_)
  dsimp only
  rw [if_neg (not_not.2 right), if_neg (by rw [open_]; decide), if_neg (by omega), here]
  dsimp only
  rw [read]
  dsimp only
  rw [if_neg (by rw [aligned]; decide), desc]
  rfl

theorem State.bay_modFw (s : State) (f : FwSt → FwSt) (n : Nat) : (s.modFw f).bay n = s.bay n := rfl

theorem State.launched_launchq (s : State) (e : List Byte) (d : LaunchDesc) :
    ((s.launched e d).bay (cmdArg e 0)).launchq =
      (s.bay (cmdArg e 0)).launchq ++ [s.launchDesc d] := by
  unfold State.launched
  rw [State.bay_modFw, State.bay_modBay_same]

theorem State.bay_fwTaken (s : State) (n : Nat) : s.fwTaken.bay n = s.bay n := by
  unfold State.fwTaken State.bay
  rw [State.setFld_bays]

/-! Crews that are discarded (R536, R537). -/

/-- Discarding crews drops their saved contexts. -/
theorem State.dropCrews_saved (s : State) (bay : Nat) (p : Crew → Bool) :
    (s.dropCrews bay p).dev.saved = s.dev.saved.filter fun x => x.bay != bay || !p x.crew := by
  simp only [State.dropCrews, State.modBay_saved]
  refine congrArg (List.filter _) (foldl_kept (·.dev.saved) _ ?_ _ s)
  exact fun _ _ => rfl

theorem State.dropCrews_traps (s : State) (bay : Nat) (p : Crew → Bool) : (s.dropCrews bay p).dev.traps = s.dev.traps := by
  simp only [State.dropCrews, State.modBay_traps]
  refine foldl_kept (·.dev.traps) _ ?_ _ s
  exact fun _ _ => rfl

theorem State.endAt_kept {α : Type} (p : State → α) (hr : ∀ s n r, p (State.setReq s n r) = p s)
    (hi : ∀ s n i, p (State.setIsl s n i) = p s) (s : State) (n status isl : Nat) : p (s.endAt n status isl) = p s :=
  (State.modReq_kept p hr _ n _).trans (State.originate_kept p hi s isl)

theorem State.endLaunch_saved (s : State) (id status arg : Nat) : (s.endLaunch id status arg).dev.saved = s.dev.saved := by
  unfold State.endLaunch
  split
  · rfl
  · exact State.postEvent_saved ..

theorem State.endLaunch_traps (s : State) (id status arg : Nat) : (s.endLaunch id status arg).dev.traps = s.dev.traps := by
  unfold State.endLaunch
  split
  · rfl
  · exact State.postEvent_traps ..

/-- A held crew is discarded with its bay's others of the same slot, and what it ran for ends. -/
def State.heldDropped (s : State) (bay slot : Nat) (c : Crew) : State :=
  let u := s.dropCrews bay fun x => x.held == some slot
  (u.endAt c.request 0x41 (islRanger (u.rangerOf (bay / 64)))).endLaunch c.cmd 6 trapBreakpoint

theorem State.heldDropped_saved (s : State) (bay slot : Nat) (c : Crew) : (s.heldDropped bay slot c).dev.saved =
    s.dev.saved.filter fun x => x.bay != bay || !(x.crew.held == some slot) := by
  unfold State.heldDropped
  rw [State.endLaunch_saved, State.endAt_kept (·.dev.saved) (fun _ _ _ => rfl) (fun _ _ _ => rfl), State.dropCrews_saved]

/-! Traps (R537). -/

theorem State.endRequest_traps (s : State) (n status : Nat) (st : Stamp) :
    (s.endRequest n status st).dev.traps = s.dev.traps := State.modReq_kept (·.dev.traps) (fun _ _ _ => rfl) s n _

theorem State.stepTrap_traps (s : State) (k : Nat) (l : GenLoop) (status : Nat) (st : Stamp) :
    (s.stepTrap k l status st).dev.traps = s.dev.traps := by
  simp only [State.stepTrap]
  split
  · exact foldl_kept (·.dev.traps) (fun s n => s.endRequest n status st) (fun s n => s.endRequest_traps n status st) _ s
  · refine (foldl_kept (·.dev.traps) _ ?_ _ _).trans ?_
    · exact fun s n => State.modReq_kept (·.dev.traps) (fun _ _ _ => rfl) s n _
    · rfl

theorem State.trapEnds_traps (s : State) (r : TrapRec) (c : Crew) (status : Nat) :
    (s.trapEnds r c status).dev.traps = s.dev.traps := by
  unfold State.trapEnds
  split
  · rw [State.endLaunch_traps, State.dropCrews_traps]
  · split
    · exact State.dropCrews_traps ..
    · refine (State.dropCrews_traps ..).trans ?_
      split
      · split
        · exact State.stepTrap_traps ..
        · exact State.endRequest_traps ..
      · exact State.endRequest_traps ..

theorem State.saveContext_traps {s t : State} {bay n k : Nat} {loc : Bool} (h : s.saveContext bay n k = some (loc, t)) :
    t.dev.traps = s.dev.traps := by
  simp only [State.saveContext] at h
  split at h
  · obtain ⟨-, rfl⟩ := Prod.mk.inj (Option.some.inj h)
    rfl
  · split at h
    · obtain ⟨-, rfl⟩ := Prod.mk.inj (Option.some.inj h)
      exact State.devWrite_kept (·.dev.traps) (fun _ _ => rfl) ..
    · exact nomatch h

theorem State.holdCrew_traps (s : State) (r : TrapRec) (c : Crew) : (s.holdCrew r c).dev.traps = s.dev.traps := by
  simp only [State.holdCrew]
  split
  · rfl
  · split
    · exact (State.logAt_kept (·.dev.traps) (fun _ _ _ => rfl) (fun _ _ _ => rfl) (fun _ _ => rfl) (fun _ _ => rfl) ..).trans rfl
    · next saved => exact (State.saveContext_traps saved).symm ▸ rfl

/-- Firmware takes the oldest trap record of a die. -/
def State.trapTaken (s : State) (d : Nat) (rs : List TrapRec) : State :=
  { s with dev := { s.dev with traps := SMap.set (fun _ => []) s.dev.traps d rs } }

theorem State.trapTaken_traps (s : State) (d : Nat) (rs : List TrapRec) :
    SMap.get (fun _ => []) (s.trapTaken d rs).dev.traps d = rs := SMap.get_set_same (fun _ => ([] : List TrapRec)) s.dev.traps d rs

/-- What firmware does about a record of crew `c`. -/
def State.trapAnswered (s : State) (core : Nat) (r : TrapRec) (dataErr : Bool) (c : Crew) : State :=
  if !c.trapped then s
  else if r.cause = trapSoftware ∧ 0x8000 ≤ r.detail.toNat then
    (s.setCrew r.bay r.slot c.afterBreak).postEvent core 2 0 0 [r.cause, r.detail.toNat, r.pc, r.bay]
  else if r.cause = trapBreakpoint then
    (s.holdCrew r c).postEvent core 2 0 0 [r.cause, r.detail.toNat, r.pc, r.bay]
  else (if r.cause = 0x0D then
      s.modBay r.bay fun b => { b with istoreBad := SMap.set (fun _ => false) b.istoreBad r.pc false }
    else s).trapEnds r c (trapStatus r dataErr)

theorem State.trapAnswered_traps (s : State) (core : Nat) (r : TrapRec) (dataErr : Bool) (c : Crew) :
    (s.trapAnswered core r dataErr c).dev.traps = s.dev.traps := by
  unfold State.trapAnswered
  split
  · rfl
  · split
    · exact State.postEvent_traps ..
    · split
      · rw [State.postEvent_traps, State.holdCrew_traps]
      · rw [State.trapEnds_traps]
        split <;> rfl

theorem execTrapRecordHandle_takes {s : State} {d : Nat} {r : TrapRec} {rs : List TrapRec} (dataErr : Bool) (die : d < 4)
    (runs : s.fwRuns = true) (up : s.rangerUp (s.rangerOf d) = true) (free : s.blocked (islRanger (s.rangerOf d)) = false)
    (first : SMap.get (fun _ => []) s.dev.traps d = r :: rs) : exec (.trapRecordHandle d dataErr) s =
      .next ((s.crew r.bay r.slot).elim (s.trapTaken d rs) ((s.trapTaken d rs).trapAnswered (s.rangerOf d) r dataErr)) := by
  have crew : (s.trapTaken d rs).crew r.bay r.slot = s.crew r.bay r.slot := rfl
  show execTrapRecordHandle d dataErr s = _
  unfold execTrapRecordHandle
  dsimp only
  rw [if_neg (by rw [runs, up, free]; simpa using die), first, ← crew]
  unfold State.trapTaken
  dsimp only
  generalize State.crew _ r.bay r.slot = o
  cases o with
  | none => rfl
  | some c =>
    dsimp only [Option.elim]
    unfold State.trapAnswered
    split
    · rfl
    · split
      · rfl
      · split <;> rfl

/-! Loading (R533). -/

theorem execFwLoad_copies {s : State} {v : W64} (go : getBits v 0 1 = 1)
    (ready : s.fld rFwStatus fFwStatusState = 0 ∨ s.fld rFwStatus fFwStatusState = 4)
    (head : s.inHost (s.fld rFwLoadBase fFwLoadBaseAddr * 4096) 4096 = true)
    (fits : 4096 + s.hostNum (s.fld rFwLoadBase fFwLoadBaseAddr * 4096 + 8) 8 ≤ 2 ^ 26)
    (whole : s.inHost (s.fld rFwLoadBase fFwLoadBaseAddr * 4096)
      (4096 + s.hostNum (s.fld rFwLoadBase fFwLoadBaseAddr * 4096 + 8) 8) = true) : exec (.fwLoad v) s =
      .next (((s.setFld rFwStatus fFwStatusState 2).setFld rFwStatus fFwStatusReason 0).modFw fun f =>
        { f with image := s.hostRead (s.fld rFwLoadBase fFwLoadBaseAddr * 4096)
                   (4096 + s.hostNum (s.fld rFwLoadBase fFwLoadBaseAddr * 4096 + 8) 8) }) := by
  show execFwLoad v s = _
  unfold execFwLoad
  dsimp only
  rw [if_neg (by rw [go]; decide), if_neg (by omega), if_neg (by rw [head]; decide), if_neg (Nat.not_lt.2 fits),
    if_neg (by rw [whole]; decide)]

theorem State.fld_modFw (s : State) (g : FwSt → FwSt) (o : Nat) (f : Nat × Nat) : (s.modFw g).fld o f = s.fld o f := rfl

theorem State.fwRefused_shows (s : State) (reason : Nat) : (s.fwRefused reason).fld rFwStatus fFwStatusState = 4 ∧
    (s.fwRefused reason).fld rFwStatus fFwStatusReason = reason % 16 :=
  ⟨(State.fld_setFld_apart _ _ _ _ _ (by decide) (by decide)).trans (State.fld_setFld_same _ _ _ _ (by decide)),
    State.fld_setFld_same _ _ _ _ (by decide)⟩

/-- Every ranger starts the image. -/
def State.fwStarted (s : State) (svn : Nat) : State :=
  (((s.setFld rFwStatus fFwStatusState 3).setFld rFwStatus fFwStatusRangersUp 0xFF).setFld rFwStatus fFwStatusSvn svn).setFld
    (rSecFloor 4) fSecFloorRunningSvn svn

theorem State.fwStarted_shows (s : State) (svn : Nat) : (s.fwStarted svn).fld rFwStatus fFwStatusState = 3 ∧
    (s.fwStarted svn).fld rFwStatus fFwStatusRangersUp = 0xFF := by
  unfold State.fwStarted
  constructor
  · rw [State.fld_setFld_other _ _ _ _ _ _ (by decide), State.fld_setFld_apart _ _ _ _ _ (by decide) (by decide),
      State.fld_setFld_apart _ _ _ _ _ (by decide) (by decide), State.fld_setFld_same _ _ _ _ (by decide)]
    rfl
  · rw [State.fld_setFld_other _ _ _ _ _ _ (by decide), State.fld_setFld_apart _ _ _ _ _ (by decide) (by decide),
      State.fld_setFld_same _ _ _ _ (by decide)]
    rfl

theorem execFwVerify_decides {s s1 : State} {r : Nat} (loaded : s.fld rFwStatus fFwStatusState = 2)
    (verified : s.verifyImage (islRanger 0) 0x0F02 4 s.dev.fw.image = (r, s1)) : exec .fwVerify s =
      .next (if r ≠ 0 then s1.fwRefused r else s1.fwStarted (imageSvn s.dev.fw.image)) := by
  show execFwVerify s = _
  unfold execFwVerify
  rw [if_neg (not_not.2 loaded)]
  dsimp only
  rw [verified]
  rfl

/-! Queues (R534). -/

theorem State.fwDoorbell_takes {s : State} {base : Nat} {v : W64} (off : Nat) (inRange : getBits v 0 16 < s.fwqSize base) :
    s.fwDoorbell off base v = s.writeReg off v := if_neg (Nat.not_le.2 inRange)

theorem State.writeReg_fw (s : State) (off : Nat) (v : W64) : (s.writeReg off v).dev.fw = s.dev.fw :=
  State.writeReg_kept (·.dev.fw) (fun _ _ _ => rfl) s off v

/-- The one event that waits takes the free slot. -/
theorem State.drainEvents_one {s : State} {e : FwEvent} (waiting : s.dev.fw.waiting = [e]) (room : s.evtRoom = true) :
    (State.drainEvents 1 s).dev.fw.waiting = [] := by
  have drained : State.drainEvents 1 s = (s.modFw fun f => { f with waiting := [] }).writeEvent e := by
    unfold State.drainEvents
    rw [waiting]
    exact if_pos room
  rw [drained, State.writeEvent_waiting, State.modFw_fw]

theorem State.bayRefusal_lt {s : State} {e : List Byte} (h : s.bayRefusal e = 0) : cmdArg e 0 < 256 := by
  unfold State.bayRefusal at h
  split at h
  · exact nomatch h
  · next no => exact Nat.not_le.1 fun out => no (.inr (.inl out))

theorem State.crew_fwTaken (s : State) (bay slot : Nat) : s.fwTaken.crew bay slot = s.crew bay slot :=
  congrArg (Bay.crew · slot) (s.bay_fwTaken bay)

theorem State.crew_postEvent (s : State) (core type status tag : Nat) (args : List Nat) (bay slot : Nat) :
    (s.postEvent core type status tag args).crew bay slot = s.crew bay slot := by
  unfold State.crew State.bay
  rw [State.postEvent_bays]

/-- Settles O35: a trap's crew goes on past the instruction that reported it, and what GET_INFO and GET_REMAP write is the
configured table and list (log entry 171). -/
theorem firmwareCommands : Obligations.FirmwareCommands := by
  unfold Obligations.FirmwareCommands
  refine ⟨?load, ?verify, ?cmdq, ?evtq, ?ping, ?info, ?remap, ?launch, ?retire, ?resume, ?discard, ?trap⟩
  case load =>
    intro s v go ready
    dsimp only
    intro head fits whole
    refine ⟨_, execFwLoad_copies go ready head fits whole, by rw [State.modFw_fw], ?_⟩
    rw [State.fld_modFw, State.fld_setFld_apart _ _ _ _ _ (by decide) (by decide), State.fld_setFld_same _ _ _ _ (by decide)]
    rfl
  case verify =>
    intro s r s1 loaded verified
    refine ⟨_, execFwVerify_decides loaded verified, ?_⟩
    by_cases accepted : r = 0
    · rw [if_pos accepted, if_neg (not_not.2 accepted)]
      exact State.fwStarted_shows ..
    · rw [if_neg accepted, if_pos accepted]
      exact State.fwRefused_shows ..
  case cmdq => exact fun s v inRange => congrArg Host.Outcome.next (State.fwDoorbell_takes _ inRange)
  case evtq =>
    intro s v inRange
    have ran : exec (.fwEvtqDoorbell v) s = .next ((s.writeReg rFwEvtqHead v).drainEvents s.dev.fw.waiting.length) := by
      show execFwEvtqDoorbell v s = _
      unfold execFwEvtqDoorbell
      rw [State.fwDoorbell_takes _ inRange]
      dsimp only
      rw [State.writeReg_fw]
    refine ⟨fun none_ => ?_, fun e one room => ⟨_, ran, ?_⟩⟩
    · rw [ran, none_]
      rfl
    · rw [one]
      exact State.drainEvents_one (by rw [State.writeReg_fw, one]) room
  case ping => exact fun s e h => ⟨_, congrArg Host.Outcome.next (State.fwCommand_takes h rfl),
    State.respond_taken (u := s) h.running rfl rfl e 0 _⟩
  case info =>
    intro s e h fits
    refine ⟨_, congrArg Host.Outcome.next (State.fwCommand_takes h rfl), ?_⟩
    rw [State.fwWrite_fits fits]
    exact State.respond_taken ((State.fwRuns_hostWrite ..).trans h.running) (State.hostWrite_rd ..) (State.hostWrite_rd ..) e 0 _
  case remap =>
    intro s e h fits
    refine ⟨_, congrArg Host.Outcome.next (State.fwCommand_takes h rfl), ?_⟩
    rw [State.fwWrite_fits fits]
    exact State.respond_taken ((State.fwRuns_hostWrite ..).trans h.running) (State.hostWrite_rd ..) (State.hostWrite_rd ..) e 0 _
  case launch =>
    intro s e b s1 d h right open_ few room here read aligned desc
    refine ⟨_, s1.launchCmd e d, execFwLaunch_queues h right open_ few room here read aligned desc, ?_, rfl, rfl, rfl, ?_⟩
    · unfold State.fwTaken
      rw [State.setFld_fw]
      rfl
    · rw [State.bay_fwTaken, State.launched_launchq]
      rfl
  case retire =>
    intro s e h right serves
    refine ⟨_, congrArg Host.Outcome.next (State.fwCommand_takes h rfl), ?_⟩
    rw [if_neg (not_not.2 right)]
    unfold State.fwTaken State.respond
    rw [State.setFld_nv, State.postEvent_nv, State.retireBay_retires (State.bayRefusal_lt right) serves]
  case resume =>
    intro s e c h right slot held
    refine ⟨((s.setCrew (cmdArg e 0) (cmdArg e 1) c.afterBreak).respond e 0).fwTaken,
      congrArg Host.Outcome.next (State.fwCommand_takes h ?_),
      (State.respond_taken ?_ (State.setCrew_rd ..) (State.setCrew_rd ..) e 0 0).1, ?_⟩
    · dsimp only
      rw [if_neg (not_not.2 right), held]
      rfl
    · exact (State.fwRuns_setCrew ..).trans h.running
    · unfold State.respond
      rw [State.crew_fwTaken, State.crew_postEvent, State.crew_setCrew_same]
  case discard =>
    intro s e k c h right held
    refine ⟨((s.heldDropped (cmdArg e 0) (cmdArg e 1) c).respond e 0).fwTaken,
      congrArg Host.Outcome.next (State.fwCommand_takes h ?_), ?_⟩
    · dsimp only
      rw [if_neg (not_not.2 right), held]
      rfl
    · unfold State.fwTaken State.respond
      rw [State.setFld_saved, State.postEvent_saved, State.heldDropped_saved]
  case trap =>
    intro s d dataErr r rs die runs up free first
    refine ⟨_, execTrapRecordHandle_takes dataErr die runs up free first, ?_, ?_⟩
    · rcases s.crew r.bay r.slot with _ | c
      · exact State.trapTaken_traps ..
      · exact (congrArg (SMap.get _ · d) (State.trapAnswered_traps ..)).trans (State.trapTaken_traps ..)
    · intro c there trapped software high
      rw [there]
      dsimp only [Option.elim]
      unfold State.trapAnswered
      rw [if_neg (by rw [trapped]; decide), if_pos ⟨software, high⟩, State.crew_postEvent, State.crew_setCrew_same]

end Sys2Proof.Machine
end

section
/-! SUPPORT. Basecamp resets, sensors, the thermal cap, the mailbox and management sessions (R538 to R543). -/

namespace Sys2Proof.Machine

/-! The units' stores. -/

theorem State.modLook_look (s : State) (f : LookSt → LookSt) : (s.modLook f).dev.look = f s.dev.look := rfl
theorem State.setFld_look (s : State) (off : Nat) (f : Nat × Nat) (v : Nat) : (s.setFld off f v).dev.look = s.dev.look :=
  (rfl)

theorem State.setFld_jrnl (s : State) (off : Nat) (f : Nat × Nat) (v : Nat) : (s.setFld off f v).dev.jrnl = s.dev.jrnl :=
  (rfl)

/-- What a management log record leaves unchanged of the flash. -/
theorem State.mgmtLog_mgmt {α : Type} (p : MgmtFlash → α) (hp : ∀ m l n, p { m with log := l, nextSeq := n } = p m)
    (s : State) (type result source keyTag arg0 arg1 : Nat) :
    p (s.mgmtLog type result source keyTag arg0 arg1).nv.mgmt = p s.nv.mgmt := by
  unfold State.mgmtLog
  exact hp _ _ _

theorem State.mgmtLog_look (s : State) (type result source keyTag arg0 arg1 : Nat) :
    (s.mgmtLog type result source keyTag arg0 arg1).dev.look = s.dev.look :=
  State.mgmtLog_kept (·.dev.look) (fun _ _ _ => rfl) (fun _ _ => rfl) ..

/-- The record that a management log ends with. -/
theorem State.mgmtLog_last (s : State) (type result source keyTag arg0 arg1 : Nat) :
    ∃ r, (s.mgmtLog type result source keyTag arg0 arg1).nv.mgmt.log.getLast? = some r ∧ r.type = type ∧
      r.keyTag = keyTag := by
  have kept (l : List MgmtRec) (r : MgmtRec) : ((l ++ [r]).drop (l.length + 1 - 65536)).getLast? = some r := by
    rw [List.getLast?_drop, if_neg (by simp), List.getLast?_concat]
  unfold State.mgmtLog State.modMgmt
  dsimp only
  rw [kept]
  exact ⟨_, rfl, rfl, rfl⟩

/-! Basecamp resets (R538). -/

theorem State.wr_look (s : State) (off : Nat) (v : W64) : (s.wr off v).dev.look = s.dev.look := (rfl)

/-- A kept projection is kept by the end of a freeze. -/
theorem State.endFreeze_kept {α : Type} (p : State → α) (hw : ∀ s off v, p (State.wr s off v) = p s)
    (hf : ∀ (s : State) f, p { s with dev := { s.dev with freeze := f } } = p s) (s : State) : p s.endFreeze = p s := by
  unfold State.endFreeze
  split
  · rfl
  · dsimp only
    unfold State.freezeIdle State.setFreeze State.setFlag State.setFld
    simp only [hw]
    exact hf s _

theorem State.freezeState_endFreeze (s : State) : s.endFreeze.freezeState = 0 := by
  unfold State.endFreeze
  split
  · assumption
  · exact State.freezeState_freezeIdle _

theorem State.enterOrphan_kept {α : Type} (p : State → α) (hw : ∀ s off v, p (State.wr s off v) = p s)
    (hr : ∀ s n r, p (State.setReq s n r) = p s) (hj : ∀ s f, p (State.modJrnl s f) = p s) (s : State) :
    p s.enterOrphan = p s := by
  unfold State.enterOrphan
  refine (hj _ _).trans ((hw _ _ _).trans (foldl_kept p _ ?_ _ s))
  exact fun s n => State.modReq_kept p hr s n _

/-- The lease that a Basecamp reset takes away (R429, R538). -/
def State.leaseEnded (s : State) : State := if s.dev.jrnl.leaseRunning then s.enterOrphan else s

theorem State.leaseEnded_lease (s : State) : s.leaseEnded.dev.jrnl.leaseRunning = false := by
  unfold State.leaseEnded
  split
  · exact s.enterOrphan_lease.2
  · next off => exact Bool.eq_false_of_not_eq_true off

/-- What a Basecamp reset leaves before the boot image is checked. -/
def State.basecampDown (s : State) : State :=
  s.endFreeze.leaseEnded.modLook fun l => { l with restart := false, basecamp := false }

theorem execBasecampReset_boots {s : State} (due : s.dev.look.restart = true) (up : s.lookoutUp = true)
    (cool : s.ao.warm = none) (ok : Bool) : exec (.basecampReset ok) s = .next (
      if (s.basecampDown.bootVerify 3 ok).1 = true then
        ((s.basecampDown.bootVerify 3 ok).2.2.writeHandoff 3 (s.basecampDown.bootVerify 3 ok).2.2.areaList).modLook
          fun l => { l with basecamp := true }
      else (s.basecampDown.bootVerify 3 ok).2.2) := by
  show execBasecampReset ok s = _
  unfold execBasecampReset
  rw [if_neg (by rw [due, up, cool]; decide)]
  rfl

/-- A kept projection is kept by the check of a boot image. -/
theorem State.bootVerify_kept {α : Type} (p : State → α) (hl : ∀ s r, p (State.log s islLookout r) = p s)
    (hi : ∀ s n i, p (State.setIsl s n i) = p s) (hm : ∀ s f, p (State.modMgmt s f) = p s)
    (hs : ∀ s f, p (State.modSec s f) = p s) (hf : ∀ s c f v, p (State.setFld s (rSecFloor c) f v) = p s)
    (s : State) (c : Nat) (ok : Bool) : p (s.bootVerify c ok).2.2 = p s := by
  have image : p (s.bootImage c).2 = p s := by
    unfold State.bootImage
    dsimp only
    split
    · rfl
    · split
      · exact (State.mgmtLog_kept p hi hm ..).trans (hm _ _)
      · dsimp only
        exact hm _ _
  unfold State.bootVerify
  generalize s.bootImage c = q at image ⊢
  obtain ⟨i, u⟩ := q
  have image : p u = p s := image
  dsimp only
  generalize (if u.armedAt islLookout 0x0F01 = true ∨ (!ok) = true then 3
    else if i.bytes = [] then 0 else u.imageResult c i.bytes) = r
  have kept : p (if r = 0 then u else u.log islLookout
      { detector := 0x0F01, severity := 3, action := 12, detail := r }) = p s := by
    split
    · exact image
    · exact (hl _ _).trans image
  generalize (if r = 0 then u else _) = w at kept
  have same := (State.originate_kept p hi w islLookout).trans kept
  have measured (v : State) (c svn : Nat) (good : Bool) (st : Stamp) (d : W256) :
      p (v.measureImage c svn good st d) = p v := by
    unfold State.measureImage
    exact hs _ _
  split
  · exact (hf _ _ _ _).trans ((measured ..).trans same)
  · exact (measured ..).trans same

/-- A boot image that is not as delivered is refused. -/
theorem State.bootVerify_refuses (s : State) (c : Nat) : (s.bootVerify c false).1 = false := by
  unfold State.bootVerify
  dsimp only
  rw [if_pos (.inr rfl)]
  rfl

/-- With no image pending and none in flash, the image delivered is accepted. -/
theorem State.bootVerify_accepts {s : State} {c : Nat} (unarmed : s.unarmed = true)
    (pending : SMap.get (fun _ => none) s.nv.mgmt.pending c = none)
    (empty : (SMap.get (fun _ => {}) s.nv.mgmt.active c).bytes = []) : (s.bootVerify c true).1 = true := by
  have image : s.bootImage c = (SMap.get (fun _ => {}) s.nv.mgmt.active c, s) := by
    unfold State.bootImage
    dsimp only
    rw [pending]
  have inert : s.armedAt islLookout 0x0F01 = false := by
    unfold State.armedAt
    rw [State.unarmed_flag s unarmed]
    rfl
  unfold State.bootVerify
  rw [image]
  dsimp only
  rw [inert, if_neg (by decide), if_pos empty]
  rfl

theorem State.basecampDown_kept {α : Type} (p : State → α) (hw : ∀ s off v, p (State.wr s off v) = p s)
    (hf : ∀ (s : State) f, p { s with dev := { s.dev with freeze := f } } = p s)
    (hr : ∀ s n r, p (State.setReq s n r) = p s) (hj : ∀ s f, p (State.modJrnl s f) = p s)
    (hl : ∀ s f, p (State.modLook s f) = p s) (s : State) : p s.basecampDown = p s := by
  unfold State.basecampDown State.leaseEnded
  refine (hl _ _).trans (Eq.trans ?_ (State.endFreeze_kept p hw hf s))
  split
  · exact State.enterOrphan_kept p hw hr hj _
  · rfl

theorem State.rd_enterOrphan (s : State) {o : Nat} (h : o ≠ rJrnlStatus) : s.enterOrphan.rd o = s.rd o := by
  have jrnl (u : State) (f : Journal → Journal) : (u.modJrnl f).rd o = u.rd o := rfl
  unfold State.enterOrphan
  dsimp only
  rw [jrnl, State.rd_setFlag_other _ _ _ _ _ h]
  refine foldl_kept (·.rd o) _ ?_ _ s
  exact fun s n => State.modReq_kept (·.rd o) (fun _ _ _ => rfl) s n _

theorem State.rd_leaseEnded (s : State) {o : Nat} (h : o ≠ rJrnlStatus) : s.leaseEnded.rd o = s.rd o := by
  unfold State.leaseEnded
  split
  · exact s.rd_enterOrphan h
  · rfl

theorem State.modLook_rd (s : State) (f : LookSt → LookSt) (o : Nat) : (s.modLook f).rd o = s.rd o := rfl

theorem State.basecampDown_freezeState (s : State) : s.basecampDown.freezeState = 0 := by
  refine (State.freezeState_of_rd ?_).trans s.freezeState_endFreeze
  unfold State.basecampDown
  rw [State.modLook_rd, State.rd_leaseEnded _ (by decide)]

/-- An end of a freeze writes the freeze's registers alone. -/
theorem State.rd_endFreeze (s : State) {o : Nat} (status : o ≠ rTimeFreezeStatus) (at_ : o ≠ rTimeFreezeAt)
    (resume : o ≠ rTimeResumeAt) (dump : o ≠ rTimeDumpCtl) : s.endFreeze.rd o = s.rd o := by
  unfold State.endFreeze
  split
  · rfl
  · dsimp only
    unfold State.freezeIdle State.setFreeze
    rw [State.rd_setFlag_other _ _ _ _ _ dump, State.rd_setFlag_other _ _ _ _ _ status,
      State.rd_setFld_other _ _ _ _ _ status, State.rd_wr_other _ _ _ _ resume, State.rd_wr_other _ _ _ _ at_,
      State.rd_setFld_other _ _ _ _ _ status]
    rfl

/-- An injection armed before a Basecamp reset is armed after it. -/
theorem State.basecampDown_unarmed (s : State) : s.basecampDown.unarmed = s.unarmed := by
  unfold State.unarmed State.basecampDown
  rw [State.flag_of_rd (s := s)]
  rw [State.modLook_rd, State.rd_leaseEnded _ (by decide),
    State.rd_endFreeze _ (by decide) (by decide) (by decide) (by decide)]

/-- What the check of a boot image keeps of a Basecamp reset. -/
structure State.BasecampStopped (s : State) : Prop where
  taken : s.dev.look.restart = false
  down : s.dev.look.basecamp = false
  thawed : s.freezeState = 0
  orphaned : s.dev.jrnl.leaseRunning = false

theorem State.bootVerify_stopped (s : State) (ok : Bool) : (s.basecampDown.bootVerify 3 ok).2.2.BasecampStopped := by
  have look : (s.basecampDown.bootVerify 3 ok).2.2.dev.look = s.basecampDown.dev.look :=
    State.bootVerify_kept (·.dev.look) (fun s r => State.logAt_kept (·.dev.look) (fun s _ _ => s.wr_look _ _)
      (fun _ _ _ => rfl) (fun _ _ => rfl) (fun _ _ => rfl) s _ r) (fun _ _ _ => rfl) (fun _ _ => rfl) (fun _ _ => rfl)
      (fun _ _ _ _ => State.setFld_look ..) ..
  have jrnl : (s.basecampDown.bootVerify 3 ok).2.2.dev.jrnl = s.basecampDown.dev.jrnl :=
    State.bootVerify_kept (·.dev.jrnl) (fun s r => State.logAt_kept (·.dev.jrnl) (fun _ _ _ => rfl) (fun _ _ _ => rfl)
      (fun _ _ => rfl) (fun _ _ => rfl) s _ r) (fun _ _ _ => rfl) (fun _ _ => rfl) (fun _ _ => rfl)
      (fun s _ f v => s.setFld_jrnl _ f v) ..
  have freeze : (s.basecampDown.bootVerify 3 ok).2.2.rd rTimeFreezeStatus = s.basecampDown.rd rTimeFreezeStatus :=
    State.bootVerify_kept (·.rd rTimeFreezeStatus) (fun s r => s.rd_log_below (by decide) _ r) (fun _ _ _ => rfl)
      (fun _ _ => rfl) (fun _ _ => rfl)
      (fun s c f v => s.rd_setFld_other _ f v _ (by unfold rTimeFreezeStatus rSecFloor; omega)) ..
  refine ⟨by rw [look]; rfl, by rw [look]; rfl, (State.freezeState_of_rd freeze).trans s.basecampDown_freezeState, ?_⟩
  rw [jrnl]
  exact State.leaseEnded_lease _

/-- Basecamp starts again. -/
def State.basecampStarted (s : State) : State :=
  (s.writeHandoff 3 s.areaList).modLook fun l => { l with basecamp := true }

theorem State.BasecampStopped.start {s : State} (h : s.BasecampStopped) : s.basecampStarted.dev.look.restart = false ∧
    s.basecampStarted.freezeState = 0 ∧ s.basecampStarted.dev.jrnl.leaseRunning = false ∧
    s.basecampStarted.dev.look.basecamp = true := by
  obtain ⟨taken, -, thawed, orphaned⟩ := h
  refine ⟨taken, (State.freezeState_of_rd ?_).trans thawed, orphaned, rfl⟩
  unfold State.basecampStarted State.writeHandoff
  rw [State.modLook_rd, State.hostWrite_rd]

/-! Sensors and the cap (R539 to R541). -/

theorem presentOnly_getD (p : Nat → Bool) (n : Nat) (f : Nat → Nat) {k : Nat} (h : k < n) :
    (presentOnly p n f).getD k 0 = if p k = true then f k else 0 := by
  unfold presentOnly
  rw [List.getD_eq_getElem?_getD, List.getElem?_map, List.getElem?_range h]
  rfl

theorem State.capWatts_congr {s t : State} (desc : t.dev.desc = s.dev.desc)
    (cap : t.nv.mgmt.operatorCap = s.nv.mgmt.operatorCap) (steps : t.dev.look.capSteps = s.dev.look.capSteps) :
    t.capWatts = s.capWatts := by
  unfold State.capWatts
  rw [desc, cap, steps]

/-- What Lookout writes to PWR_CAP_W is kept, and keeps the rest. -/
theorem State.writeCap_kept {α : Type} (p : State → α) (hf : ∀ s v, p (State.setFld s rPwrCapW fPwrCapWWatts v) = p s)
    (hl : ∀ s type result source keyTag arg0, p (State.mgmtLog s type result source keyTag arg0) = p s) (s : State)
    (type source keyTag : Nat) : p (s.writeCap type source keyTag) = p s := by
  unfold State.writeCap
  split
  · rfl
  · exact (hl ..).trans (hf _ _)

theorem State.setFld_desc (s : State) (off : Nat) (f : Nat × Nat) (v : Nat) : (s.setFld off f v).dev.desc = s.dev.desc :=
  (rfl)

theorem State.writeCap_look (s : State) (type source keyTag : Nat) : (s.writeCap type source keyTag).dev.look = s.dev.look :=
  State.writeCap_kept (·.dev.look) (fun _ _ => State.setFld_look ..) (fun _ _ _ _ _ _ => State.mgmtLog_look ..) ..

theorem State.writeCap_mgmt {α : Type} (p : MgmtFlash → α) (hp : ∀ m l n, p { m with log := l, nextSeq := n } = p m)
    (s : State) (type source keyTag : Nat) : p (s.writeCap type source keyTag).nv.mgmt = p s.nv.mgmt :=
  State.writeCap_kept (fun t => p t.nv.mgmt) (fun _ _ => by rw [State.setFld_nv])
    (fun _ _ _ _ _ _ => State.mgmtLog_mgmt p hp ..) s type source keyTag

theorem State.writeCap_shows (s : State) (type source keyTag : Nat) :
    (s.writeCap type source keyTag).fld rPwrCapW fPwrCapWWatts = (s.writeCap type source keyTag).capWatts % 2 ^ 16 := by
  have desc : (s.writeCap type source keyTag).dev.desc = s.dev.desc :=
    State.writeCap_kept (·.dev.desc) (fun _ _ => State.setFld_desc ..)
      (fun _ _ _ _ _ _ => State.mgmtLog_kept (·.dev.desc) (fun _ _ _ => rfl) (fun _ _ => rfl) ..) ..
  rw [State.capWatts_congr desc (State.writeCap_mgmt MgmtFlash.operatorCap (fun _ _ _ => rfl) ..)
    (congrArg LookSt.capSteps (State.writeCap_look ..))]
  unfold State.writeCap
  split
  · next shown =>
    rw [← shown]
    exact (Nat.mod_eq_of_lt (Nat.mod_lt _ (by decide))).symm
  · rw [State.fld, State.rd_of_regs (State.mgmtLog_regs ..)]
    exact State.fld_setFld_same _ _ _ _ (by decide)

/-! The mailbox (R542). -/

theorem State.lkDone_ends (s : State) {res : Nat} (h : res < 8) (n : Nat) : LkEnds (s.lkDone res n) res n := by
  unfold State.lkDone
  refine ⟨?_, ?_, State.flag_setFlag_same _ _ _ _ (by decide) rfl⟩
  · rw [State.fld_setFlag_apart _ _ _ _ _ (by decide) (by decide), State.fld_setFld_apart _ _ _ _ _ (by decide) (by decide),
      State.fld_setFld_same _ _ _ _ (by decide)]
    exact Nat.mod_eq_of_lt h
  · rw [State.fld_setFlag_apart _ _ _ _ _ (by decide) (by decide), State.fld_setFld_same _ _ _ _ (by decide)]
    rfl

theorem State.lkDone_mem (s : State) (res n : Nat) : (s.lkDone res n).dev.mem = s.dev.mem := by
  unfold State.lkDone State.setFlag
  rw [State.setFld_mem, State.setFld_mem, State.setFld_mem]

theorem State.lkDone_nv (s : State) (res n : Nat) : (s.lkDone res n).nv = s.nv := by
  unfold State.lkDone
  rw [State.setFlag_nv, State.setFld_nv, State.setFld_nv]

theorem State.lkCommand_idle {s : State} (idle : s.flag rLkStatus fLkStatusBusy = false) (f : State → State) :
    s.lkCommand f = f s := if_neg (by rw [idle]; decide)

/-- A mailbox result is written where the buffer can take it. -/
theorem State.lkOut_ends (s : State) (b : List Byte) :
    if s.inHost s.lkBuf b.length = true then
      LkEnds (s.lkOut b) 0 b.length ∧ (s.lkOut b).dev.mem.host = s.dev.mem.host.write s.lkBuf b
    else LkEnds (s.lkOut b) 2 0 ∧ (s.lkOut b).dev.mem = s.dev.mem := by
  split
  · next fits =>
    rw [show s.lkOut b = (s.hostWrite s.lkBuf b).lkDone 0 b.length from if_neg (by rw [fits]; decide)]
    exact ⟨State.lkDone_ends _ (by decide) _, by rw [State.lkDone_mem, State.hostWrite_host]⟩
  · next out =>
    rw [show s.lkOut b = s.lkDone 2 from if_pos (by rw [Bool.eq_false_of_not_eq_true out]; rfl)]
    exact ⟨State.lkDone_ends _ (by decide) _, State.lkDone_mem ..⟩

theorem State.trustAdd_trust (s : State) (digest : W256) (source keyTag : Nat) :
    (s.trustAdd digest source keyTag).nv.mgmt.trust = s.nv.mgmt.trust ++ [digest] :=
  State.mgmtLog_mgmt MgmtFlash.trust (fun _ _ _ => rfl) ..

/-! Management sessions (R543). -/

theorem State.mgmtSession_of_look {s t : State} (h : t.dev.look.sessions = s.dev.look.sessions) (n : Nat) :
    t.mgmtSession n = s.mgmtSession n := by
  unfold State.mgmtSession
  rw [h]

theorem State.mgmtSession_set (s : State) (conn : Nat) (x : Option MgmtSession) :
    (s.setMgmtSession conn x).mgmtSession conn = x :=
  SMap.get_set_same (fun _ => none) s.dev.look.sessions conn x

theorem State.refuseSession_closed (s : State) (conn : Nat) (key : List Byte) :
    (s.refuseSession conn key).mgmtSession conn = none :=
  (State.mgmtSession_of_look (congrArg LookSt.sessions (State.mgmtLog_look ..)) conn).trans (s.mgmtSession_set conn none)

/-- What ACCEPT of a HELLO opens, and the message. -/
def State.helloSession (s : State) (hello : List Byte) : MgmtSession :=
  { key := hello.drop 34, seed := s.drbg.2.drbg.1,
    h1 := Config.sha3 (hello ++ (leBytes 32 s.drbg.1.toNat ++ Config.kemKey s.drbg.2.drbg.1 ++ Config.certificate)) }

def State.helloAccepted (s : State) (conn : Nat) (hello : List Byte) : State :=
  (s.drbg.2.drbg.2.setMgmtSession conn (some (s.helloSession hello))).modLook fun l =>
    { l with replies := SMap.set (fun _ => []) l.replies conn
               (leBytes 32 s.drbg.1.toNat ++ Config.kemKey s.drbg.2.drbg.1 ++ Config.certificate ++
                 signed "" (leBytes 32 (s.helloSession hello).h1.toNat)) }

theorem execMgmtHello_accepts {s : State} {conn : Nat} {hello : List Byte} (up : s.lookoutUp = true)
    (free : s.mgmtSession conn = none) (room : (s.dev.look.sessions.filter (·.2.isSome)).length < 4)
    (format : field hello 0 2 = 1) (size : hello.length = 1346) :
    exec (.mgmtHello conn hello) s = .next (s.helloAccepted conn hello) := by
  show execMgmtHello conn hello s = _
  unfold execMgmtHello
  dsimp only
  rw [if_neg (by rw [up]; decide), free]
  dsimp only
  rw [if_neg (by rw [format, size]; omega)]
  rfl

theorem State.helloAccepted_session (s : State) (conn : Nat) (hello : List Byte) :
    (s.helloAccepted conn hello).mgmtSession conn = some (s.helloSession hello) :=
  (State.mgmtSession_of_look (s := s.drbg.2.drbg.2.setMgmtSession conn (some (s.helloSession hello))) rfl conn).trans
    (State.mgmtSession_set ..)

/-- The session that FINISH opens. -/
def MgmtSession.opened (x : MgmtSession) (ct : List Byte) : MgmtSession :=
  let h2 := Config.sha3 (leBytes 32 x.h1.toNat ++ ct)
  { x with
    on := true, c2l := kdf (Config.kemSecret x.seed ct) "vothes-mgmt-c2l" (leBytes 32 h2.toNat)
    l2c := kdf (Config.kemSecret x.seed ct) "vothes-mgmt-l2c" (leBytes 32 h2.toNat) }

theorem execMgmtFinish_decides {s : State} {conn : Nat} {ct : List Byte} {x : MgmtSession} (sig : List Byte)
    (up : s.lookoutUp = true) (half : s.mgmtSession conn = some x) (off : x.on = false)
    (trusted : Config.sha3 x.key ∈ s.nv.mgmt.trust) (size : ct.length = 1088) : exec (.mgmtFinish conn ct sig) s = .next (
      if Config.verify x.key (leBytes 2 0 ++ leBytes 32 (Config.sha3 (leBytes 32 x.h1.toNat ++ ct)).toNat) sig = true then
        (s.setMgmtSession conn (some (x.opened ct))).mgmtLog 2 0 1 (clientTag x.key)
      else s.refuseSession conn x.key) := by
  show execMgmtFinish conn ct sig s = _
  unfold execMgmtFinish
  rw [half]
  dsimp only
  rw [if_neg (by rw [up]; decide), if_neg (by rw [off]; decide), List.contains_iff_mem.2 trusted, size]
  generalize Config.verify _ _ _ = good
  cases good <;> rfl

/-- Settles O36: HELLO's layout and the empty signing context are log entry 186, a Basecamp restart's two steps log entry
196. -/
theorem lookoutAndMailbox : Obligations.LookoutAndMailbox := by
  unfold Obligations.LookoutAndMailbox
  refine ⟨?reset, ?halt, ?poll, ?cap, ?mailbox, ?enroll, ?hello, ?finish, ?close⟩
  case reset =>
    intro s ok due up cool
    have stopped := s.bootVerify_stopped ok
    refine ⟨_, execBasecampReset_boots due up cool ok, ?_⟩
    by_cases good : (s.basecampDown.bootVerify 3 ok).1 = true
    · rw [if_pos good]
      obtain ⟨taken, thawed, orphaned, runs⟩ := stopped.start
      refine ⟨taken, thawed, orphaned, fun bad => ?_, fun _ _ _ _ => runs⟩
      rw [bad, State.bootVerify_refuses] at good
      exact nomatch good
    · rw [if_neg good]
      obtain ⟨taken, down, thawed, orphaned⟩ := stopped
      refine ⟨taken, thawed, orphaned, fun _ => down, fun asDelivered unarmed pending empty => (good ?_).elim⟩
      rw [asDelivered]
      have mgmt : s.basecampDown.nv.mgmt = s.nv.mgmt :=
        State.basecampDown_kept (·.nv.mgmt) (fun _ _ _ => rfl) (fun _ _ => rfl) (fun _ _ _ => rfl) (fun _ _ => rfl)
          (fun _ _ => rfl) s
      exact State.bootVerify_accepts (s.basecampDown_unarmed.trans unarmed) (by rw [mgmt, pending]) (by rw [mgmt, empty])
  case halt =>
    intro s runs started cool
    refine ⟨s.modLook fun l => { l with restart := true }, ?_, rfl⟩
    show execBasecampHaltTimeout s = _
    unfold execBasecampHaltTimeout State.requestBasecamp
    rw [if_pos runs, if_neg (by omega), if_neg (by rw [cool]; simpa using started)]
  case poll =>
    intro s p temps st rails up
    refine ⟨_, if_neg (by rw [up]; decide), rfl, rfl, fun n h => ?_⟩
    exact presentOnly_getD _ _ _ h
  case cap =>
    intro s up due
    refine ⟨_, if_neg (by rw [up, not_or]; exact ⟨by decide, Nat.not_lt.2 due⟩), ?_, ?_, State.writeCap_shows ..⟩
    · rw [State.writeCap_look]
      rfl
    · rw [State.writeCap_look]
      rfl
  case mailbox =>
    intro s v idle e he
    simp only [List.mem_cons, List.not_mem_nil, or_false] at he
    rcases he with rfl | rfl | rfl <;>
      exact ⟨_, congrArg Host.Outcome.next (State.lkCommand_idle idle _), State.lkOut_ends ..⟩
  case enroll =>
    intro s idle
    refine ⟨_, congrArg Host.Outcome.next (State.lkCommand_idle idle _), ?_⟩
    by_cases fresh : s.nv.mgmt.trust = []
    · rw [if_neg (not_not.2 fresh)]
      by_cases fits : s.inHost s.lkBuf 1312 = true
      · rw [if_pos ⟨fresh, fits⟩, if_neg (by rw [fits]; decide)]
        refine ⟨State.lkDone_ends _ (by decide) _, ?_⟩
        rw [State.lkDone_nv, State.trustAdd_trust, fresh]
        rfl
      · rw [if_neg (fun h => fits h.2), if_pos (by rw [Bool.eq_false_of_not_eq_true fits]; rfl), if_pos fresh]
        exact ⟨State.lkDone_nv .., (State.lkDone_ends _ (by decide) _).1⟩
    · rw [if_pos fresh, if_neg (fun h => fresh h.1), if_neg fresh]
      exact ⟨State.lkDone_nv .., (State.lkDone_ends _ (by decide) _).1⟩
  case hello =>
    intro s conn hello up free room format size
    exact ⟨_, _, execMgmtHello_accepts up free room format size, State.helloAccepted_session .., rfl, rfl, rfl, rfl⟩
  case finish =>
    intro s conn ct sig x up half off trusted size
    refine ⟨_, execMgmtFinish_decides sig up half off trusted size, ?_⟩
    split
    · obtain ⟨r, last, type, tag⟩ := State.mgmtLog_last (s.setMgmtSession conn (some (x.opened ct))) 2 0 1 (clientTag x.key) 0 0
      refine ⟨⟨x.opened ct, ?_, rfl, rfl⟩, r, last, type, tag⟩
      exact (State.mgmtSession_of_look (congrArg LookSt.sessions (State.mgmtLog_look ..)) conn).trans
        (s.mgmtSession_set conn _)
    · exact s.refuseSession_closed ..
  case close =>
    intro s conn x live
    have ran : exec (.mgmtConnectionClose conn) s = .next
        (if x.on then s.setMgmtSession conn none else s.refuseSession conn x.key) := by
      show execMgmtConnectionClose conn s = _
      unfold execMgmtConnectionClose
      rw [live]
    refine ⟨_, ran, ?_⟩
    split
    · exact s.mgmtSession_set ..
    · exact s.refuseSession_closed ..

end Sys2Proof.Machine
end

section
/-! SUPPORT. The management requests (R544 to R548). -/

namespace Sys2Proof.Machine

/-! Taking and answering a request (R544). -/

/-- A request has been taken: its SEQ counts. -/
def State.asked (s : State) (conn : Nat) (x : MgmtSession) : State :=
  s.setMgmtSession conn (some { x with seqIn := x.seqIn + 1 })

theorem State.mgmtBody_asks {s : State} {conn type seq tag : Nat} {cipher b : List Byte} {x : MgmtSession}
    (h : Asks s conn type seq cipher tag x b) : s.mgmtBody conn type seq cipher tag = some (b, clientTag x.key) := by
  unfold State.mgmtBody
  rw [h.session]
  dsimp only
  rw [if_neg (by rw [h.open_, h.inOrder]; exact fun no => no.elim (by decide) (· rfl)), h.opens]
  rfl

theorem State.mgmtRequest_takes {s : State} {conn type seq tag : Nat} {cipher b : List Byte} {x : MgmtSession}
    (h : Asks s conn type seq cipher tag x b) {f : List Byte → Nat → State → Nat × List Byte × State} {status : Nat}
    {out : List Byte} {u : State} (done : f b (clientTag x.key) (s.asked conn x) = (status, out, u)) :
    s.mgmtRequest conn type seq cipher tag f = u.mgmtReply conn type status out := by
  have body := State.mgmtBody_asks h
  obtain ⟨up, session, -, -, -, size⟩ := h
  unfold State.mgmtRequest
  rw [if_neg (by rw [up, session]; exact fun no => no.elim (by decide) nofun), body, session]
  dsimp only [Option.map]
  rw [if_pos size]
  exact congrArg (fun r : Nat × List Byte × State => r.2.2.mgmtReply conn type r.1 r.2.1) done

/-- A kept projection of Lookout's state is kept by an answer. -/
theorem State.mgmtReply_look {α : Type} (q : LookSt → α)
    (hq : ∀ l ss rs, q { l with sessions := ss, replies := rs } = q l) (s : State) (conn type status : Nat) (out : List Byte) :
    q (s.mgmtReply conn type status out).dev.look = q s.dev.look := by
  unfold State.mgmtReply
  split
  · rfl
  · dsimp only
    exact hq s.dev.look _ _

theorem State.mgmtReply_kept {α : Type} (p : State → α) (hl : ∀ s f, p (State.modLook s f) = p s) (s : State)
    (conn type status : Nat) (out : List Byte) : p (s.mgmtReply conn type status out) = p s := by
  unfold State.mgmtReply State.setMgmtSession
  split
  · rfl
  · exact (hl _ _).trans (hl _ _)

/-- An answer goes out on a session. -/
theorem State.mgmtSession_answered (s : State) (conn : Nat) (x : MgmtSession) (msg : List Byte) :
    ((s.setMgmtSession conn (some x)).modLook fun l =>
      { l with replies := SMap.set (fun _ => []) l.replies conn msg }).mgmtSession conn = some x :=
  s.mgmtSession_set conn (some x)

theorem State.replies_answered (s : State) (conn : Nat) (x : MgmtSession) (msg : List Byte) :
    SMap.get (fun _ => []) ((s.setMgmtSession conn (some x)).modLook fun l =>
      { l with replies := SMap.set (fun _ => []) l.replies conn msg }).dev.look.replies conn = msg :=
  SMap.get_set_same (fun _ => ([] : List Byte)) s.dev.look.replies conn msg

theorem State.mgmtReply_replied {u : State} {conn : Nat} {x : MgmtSession}
    (session : u.mgmtSession conn = some { x with seqIn := x.seqIn + 1 }) (type status : Nat) (out : List Byte) :
    Replied (u.mgmtReply conn type status out) conn type x status out := by
  unfold State.mgmtReply
  rw [session]
  dsimp only
  exact ⟨State.mgmtSession_answered .., State.replies_answered ..⟩

/-- A request whose work leaves the sessions is answered on its own. -/
theorem State.asked_replied {s u : State} {conn : Nat} {x : MgmtSession}
    (kept : u.dev.look.sessions = (s.asked conn x).dev.look.sessions) (type status : Nat) (out : List Byte) :
    Replied (u.mgmtReply conn type status out) conn type x status out :=
  State.mgmtReply_replied ((State.mgmtSession_of_look kept conn).trans (s.mgmtSession_set conn _)) type status out

/-! What the requests read and write (R545 to R548). -/

theorem State.mgmtReply_mgmt (s : State) (conn type status : Nat) (out : List Byte) :
    (s.mgmtReply conn type status out).nv = s.nv := State.mgmtReply_kept (·.nv) (fun _ _ => rfl) ..

theorem State.mgmtReply_rd (s : State) (conn type status : Nat) (out : List Byte) (o : Nat) :
    (s.mgmtReply conn type status out).rd o = s.rd o := State.mgmtReply_kept (·.rd o) (fun _ _ => rfl) ..

theorem State.mgmtReply_capWatts (s : State) (conn type status : Nat) (out : List Byte) :
    (s.mgmtReply conn type status out).capWatts = s.capWatts :=
  State.capWatts_congr (State.mgmtReply_kept (·.dev.desc) (fun _ _ => rfl) ..) (by rw [State.mgmtReply_mgmt])
    (State.mgmtReply_look LookSt.capSteps (fun _ _ _ => rfl) ..)

/-! What SET_POWER_CAP, SET_CONFIG and the TRUST requests leave (R545). -/

def State.capSet (s : State) (w k : Nat) : State := (s.modMgmt fun m => { m with operatorCap := some w }).writeCap 5 1 k

theorem State.capSet_look (s : State) (w k : Nat) : (s.capSet w k).dev.look = s.dev.look := State.writeCap_look ..

theorem State.capSet_cap (s : State) (w k : Nat) : (s.capSet w k).nv.mgmt.operatorCap = some w :=
  State.writeCap_mgmt MgmtFlash.operatorCap (fun _ _ _ => rfl) ..

def State.configSet (s : State) (gib soft domain k : Nat) : State :=
  (s.modMgmt fun m => { m with hostGib := gib, softC := soft, ptpDomain := domain }).mgmtLog 4 0 1 k 5

theorem State.configSet_look (s : State) (gib soft domain k : Nat) : (s.configSet gib soft domain k).dev.look = s.dev.look :=
  State.mgmtLog_look ..

theorem State.configSet_mgmt (s : State) (gib soft domain k : Nat) : (s.configSet gib soft domain k).nv.mgmt.hostGib = gib ∧
    (s.configSet gib soft domain k).nv.mgmt.softC = soft ∧ (s.configSet gib soft domain k).nv.mgmt.ptpDomain = domain :=
  ⟨State.mgmtLog_mgmt MgmtFlash.hostGib (fun _ _ _ => rfl) .., State.mgmtLog_mgmt MgmtFlash.softC (fun _ _ _ => rfl) ..,
    State.mgmtLog_mgmt MgmtFlash.ptpDomain (fun _ _ _ => rfl) ..⟩

theorem State.trustAdd_look (s : State) (digest : W256) (source k : Nat) :
    (s.trustAdd digest source k).dev.look = s.dev.look := State.mgmtLog_look ..

def State.trustRemoved (s : State) (d : W256) (k : Nat) : State :=
  (s.modMgmt fun m => { m with trust := m.trust.filter (· != d) }).mgmtLog 12 0 1 k (d.toNat % 2 ^ 64)

theorem State.trustRemoved_look (s : State) (d : W256) (k : Nat) : (s.trustRemoved d k).dev.look = s.dev.look :=
  State.mgmtLog_look ..

theorem State.trustRemoved_trust (s : State) (d : W256) (k : Nat) :
    (s.trustRemoved d k).nv.mgmt.trust = s.nv.mgmt.trust.filter (· != d) :=
  State.mgmtLog_mgmt MgmtFlash.trust (fun _ _ _ => rfl) ..

/-! Resets (R545, R561). -/

/-- The bodies of the three RESET requests differ. -/
theorem reset_scopes_apart : ∀ scope < 3,
    ([0, 1, 2].any fun n => n != scope && some (leBytes 1 scope) == some (leBytes 1 n)) = false := by decide

/-- A RESET request is logged and answered, before the reset is asked for. -/
def State.resetAnswered (s : State) (conn scope : Nat) (x : MgmtSession) : State :=
  ((s.asked conn x).mgmtLog 11 0 1 (clientTag x.key) scope).mgmtReply conn 6 0 []

theorem State.mgmtReset_goes {s : State} {conn seq tag scope : Nat} {cipher : List Byte} {x : MgmtSession}
    (h : Asks s conn 6 seq cipher tag x (leBytes 1 scope)) (known : scope < 3) (go : State → State) :
    s.mgmtReset conn seq cipher tag scope go =
      go (s.resetAnswered conn scope x) := by
  have body : (s.mgmtBody conn 6 seq cipher tag).map (·.1) = some (leBytes 1 scope) := by
    rw [State.mgmtBody_asks h]
    rfl
  unfold State.mgmtReset
  rw [body]
  dsimp only
  rw [if_neg (by rw [reset_scopes_apart scope known]; decide), if_pos (by rw [beq_self_eq_true, h.up]; rfl),
    State.mgmtRequest_takes h (if_pos (beq_self_eq_true _))]
  rfl

theorem State.resetAnswered_replied (s : State) (conn scope : Nat) (x : MgmtSession) :
    Replied (s.resetAnswered conn scope x) conn 6 x 0 [] :=
  State.asked_replied (congrArg LookSt.sessions (State.mgmtLog_look ..)) ..

theorem State.resetAnswered_ao (s : State) (conn scope : Nat) (x : MgmtSession) :
    (s.resetAnswered conn scope x).ao = s.ao := by
  unfold State.resetAnswered
  rw [State.mgmtReply_kept (·.ao) (fun _ _ => rfl), State.mgmtLog_ao]
  rfl

theorem State.resetRank_of_ao {s t : State} (h : t.ao = s.ao) : t.resetRank = s.resetRank := by
  unfold State.resetRank
  rw [h]

/-- An answer stands where Lookout's state does. -/
theorem Replied.of_look {s t : State} {conn type status : Nat} {x : MgmtSession} {out : List Byte}
    (h : Replied s conn type x status out) (sessions : t.dev.look.sessions = s.dev.look.sessions)
    (replies : t.dev.look.replies = s.dev.look.replies) : Replied t conn type x status out := by
  obtain ⟨session, reply⟩ := h
  exact ⟨(State.mgmtSession_of_look sessions conn).trans session, by rw [replies]; exact reply⟩

theorem State.lookoutUp_iff {s : State} : s.lookoutUp = true ↔
    2 ≤ s.ao.startStep ∧ s.ao.heldInReset = false ∧ s.ao.s1 = false := by
  unfold State.lookoutUp
  rw [Bool.and_eq_true, Bool.and_eq_true, decide_eq_true_iff, Bool.not_eq_true', Bool.not_eq_true', and_assoc]

/-- A warm reset that nothing refuses. -/
theorem State.requestWarm_asks {s : State} (boot : s.ao.bootSel ≠ 2) (idle : s.resetRank = 0) (awake : s.ao.s1 = false)
    (started : 4 ≤ s.ao.startStep) (source : Nat) : ∃ n, (s.requestWarm source).ao.warm = some (n, source) ∧
      (s.requestWarm source).dev.look = s.dev.look := by
  have look : (s.endFreeze.originate islAlwaysOn).2.dev.look = s.dev.look :=
    (State.originate_kept (·.dev.look) (fun _ _ _ => rfl) ..).trans
      (State.endFreeze_kept (·.dev.look) (fun s _ _ => s.wr_look _ _) (fun _ _ => rfl) s)
  unfold State.requestWarm
  rw [if_neg boot, if_neg (by rw [idle, awake, not_or, not_or]; exact ⟨by decide, by decide, Nat.not_lt.2 started⟩)]
  exact ⟨_, rfl, look⟩

/-- A cold reset that nothing refuses. -/
theorem State.requestCold_resets {s : State} (idle : s.resetRank < 2) (awake : s.ao.s1 = false) (on : 2 ≤ s.ao.startStep)
    (source : Nat) : s.requestCold source = s.coldReset 1 source 1 :=
  if_neg (by
    rw [awake, not_or, not_or]
    exact ⟨Nat.not_le.2 idle, by decide, Nat.ne_of_gt (Nat.lt_of_lt_of_le Nat.two_pos on)⟩)

theorem State.keepAreas_ao (s old : State) : (s.keepAreas old).ao = s.ao := by
  unfold State.keepAreas
  rw [State.setFld_ao, State.setFld_ao]

theorem State.coldReset_ao (s : State) (kind source step : Nat) : (s.coldReset kind source step).ao.causeKind = kind ∧
    (s.coldReset kind source step).ao.causeSource = source ∧ (s.coldReset kind source step).ao.startStep = step ∧
    (s.coldReset kind source step).ao.tick = s.ao.tick := by
  unfold State.coldReset
  dsimp only
  rw [State.keepAreas_ao]
  exact ⟨rfl, rfl, rfl, rfl⟩

/-! The update path (R547, R548). -/

theorem SMap.get_pendingSet (m : MgmtFlash) (c : Nat) (i : Option Image) :
    SMap.get (fun _ => none) (SMap.set (fun _ => none) m.pending c i) c = i :=
  SMap.get_set_same (fun _ => none) m.pending c i

/-- An update is open, and the inactive bank or pending slot erased. -/
def State.updateOpened (s : State) (c n k : Nat) : State :=
  ((s.modMgmt fun m => { m with
    pending := SMap.set (fun _ => none) m.pending c none, attempts := SMap.set (fun _ => 0) m.attempts c 0 }).modLook
      fun l => { l with update := some { component := c, bytes := n, data := [] } }).mgmtLog 4 0 1 k 7 c

/-- More of the open update's image has come. -/
def State.updateExtended (s : State) (u : Update) (d : List Byte) : State :=
  s.modLook fun l => { l with update := some { u with data := u.data ++ d } }

/-- An image that is staged is pending. -/
def State.updateStaged (s : State) (u : Update) (k : Nat) : State :=
  (s.modMgmt fun m => { m with
    pending := SMap.set (fun _ => none) m.pending u.component (some { bytes := u.data, svn := imageSvn u.data })
    attempts := SMap.set (fun _ => 0) m.attempts u.component 0 }).mgmtLog 7 0 1 k u.component (imageSvn u.data)

theorem State.updateOpened_look (s : State) (c n k : Nat) : (s.updateOpened c n k).dev.look =
    { s.dev.look with update := some { component := c, bytes := n, data := [] } } := State.mgmtLog_look ..

theorem State.updateOpened_pending (s : State) (c n k : Nat) :
    SMap.get (fun _ => none) (s.updateOpened c n k).nv.mgmt.pending c = none := by
  unfold State.updateOpened
  rw [State.mgmtLog_mgmt MgmtFlash.pending (fun _ _ _ => rfl)]
  exact SMap.get_pendingSet s.nv.mgmt c none

theorem State.updateStaged_look (s : State) (u : Update) (k : Nat) : (s.updateStaged u k).dev.look = s.dev.look :=
  State.mgmtLog_look ..

theorem State.updateStaged_pending (s : State) (u : Update) (k : Nat) :
    SMap.get (fun _ => none) (s.updateStaged u k).nv.mgmt.pending u.component =
      some { bytes := u.data, svn := imageSvn u.data } := by
  unfold State.updateStaged
  rw [State.mgmtLog_mgmt MgmtFlash.pending (fun _ _ _ => rfl)]
  exact SMap.get_pendingSet s.nv.mgmt u.component (some { bytes := u.data, svn := imageSvn u.data })

/-- The update is closed, with its image checked. -/
def State.updateChecked (s : State) (u : Update) : State :=
  (s.verifyImage islLookout 0x0F01 u.component u.data).2.modLook fun l => { l with update := none }

/-- What UPDATE_COMMIT asks of an image. -/
def State.updatePasses (s : State) (u : Update) : Prop :=
  s.imageResult u.component u.data = 0 ∧ u.data.length = u.bytes ∧
    (u.component = 2 → Config.descriptorField (u.data.drop 4096) 0 = (s.rd rSecId).toNat)

theorem State.verifyImage_result {s : State} (unarmed : s.unarmed = true) (isl det component : Nat) (b : List Byte) :
    (s.verifyImage isl det component b).1 = s.imageResult component b := by
  have inert : s.armedAt isl det = false := by
    unfold State.armedAt
    rw [State.unarmed_flag s unarmed]
    rfl
  unfold State.verifyImage
  rw [inert]
  rfl

/-- A kept projection is kept by the check of an image. -/
theorem State.verifyImage_kept {α : Type} (p : State → α) (hl : ∀ s isl r, p (State.log s isl r) = p s)
    (hi : ∀ s n i, p (State.setIsl s n i) = p s) (hs : ∀ s f, p (State.modSec s f) = p s) (s : State)
    (isl det component : Nat) (b : List Byte) : p (s.verifyImage isl det component b).2 = p s := by
  unfold State.verifyImage State.measureImage
  generalize (if s.armedAt isl det = true then 3 else s.imageResult component b) = r
  dsimp only
  have kept : p (if r = 0 then s else s.log isl { detector := det, severity := 3, action := 12, detail := r }) = p s := by
    split
    · rfl
    · exact hl ..
  generalize (if r = 0 then s else _) = w at kept
  exact (hs _ _).trans ((State.originate_kept p hi w isl).trans kept)

theorem State.verifyImage_accepted_regs {s : State} {isl det component : Nat} {b : List Byte}
    (good : (s.verifyImage isl det component b).1 = 0) : (s.verifyImage isl det component b).2.dev.regs = s.dev.regs := by
  unfold State.verifyImage State.measureImage at good ⊢
  generalize (if s.armedAt isl det = true then 3 else s.imageResult component b) = r at good ⊢
  obtain rfl : r = 0 := good
  rfl

theorem State.updateChecked_look (s : State) (u : Update) : (s.updateChecked u).dev.look = { s.dev.look with update := none } := by
  have look : (s.verifyImage islLookout 0x0F01 u.component u.data).2.dev.look = s.dev.look :=
    State.verifyImage_kept (·.dev.look) (fun s isl r => State.logAt_kept (·.dev.look) (fun s _ _ => s.wr_look _ _)
      (fun _ _ _ => rfl) (fun _ _ => rfl) (fun _ _ => rfl) s isl r) (fun _ _ _ => rfl) (fun _ _ => rfl) ..
  unfold State.updateChecked
  rw [State.modLook_look, look]

theorem State.updateChecked_nv (s : State) (u : Update) : (s.updateChecked u).nv = s.nv :=
  State.verifyImage_kept (·.nv) (fun s isl r => State.logAt_kept (·.nv) (fun _ _ _ => rfl) (fun _ _ _ => rfl)
    (fun _ _ => rfl) (fun _ _ => rfl) s isl r) (fun _ _ _ => rfl) (fun _ _ => rfl) ..

/-- UPDATE_COMMIT of an open update. -/
def State.commit (s : State) (u : Update) (k : Nat) : Nat × List Byte × State :=
  if (s.verifyImage islLookout 0x0F01 u.component u.data).1 ≠ 0 ∨ u.data.length ≠ u.bytes ∨
      u.component = 2 ∧ Config.descriptorField (u.data.drop 4096) 0 ≠ ((s.updateChecked u).rd rSecId).toNat then
    (5, [], s.updateChecked u)
  else (0, [], (s.updateChecked u).updateStaged u k)

theorem State.commit_passes {s : State} (unarmed : s.unarmed = true) {u : Update} (h : s.updatePasses u) (k : Nat) :
    s.commit u k = (0, [], (s.updateChecked u).updateStaged u k) := by
  obtain ⟨good, whole, own⟩ := h
  have result := State.verifyImage_result unarmed islLookout 0x0F01 u.component u.data
  have id_ : (s.updateChecked u).rd rSecId = s.rd rSecId :=
    State.rd_of_regs (State.verifyImage_accepted_regs (result.trans good)) rSecId
  refine if_neg ?_
  rw [result, id_]
  rintro (no | no | ⟨descriptor, no⟩)
  · exact no good
  · exact no whole
  · exact no (own descriptor)

theorem State.commit_fails {s : State} (unarmed : s.unarmed = true) {u : Update} (h : ¬ s.updatePasses u) (k : Nat) :
    s.commit u k = (5, [], s.updateChecked u) := by
  have result := State.verifyImage_result unarmed islLookout 0x0F01 u.component u.data
  refine if_pos (by_contra fun no => h ?_)
  rw [result, not_or, not_or, not_not, not_not, not_and, not_not] at no
  obtain ⟨good, whole, own⟩ := no
  have id_ : (s.updateChecked u).rd rSecId = s.rd rSecId :=
    State.rd_of_regs (State.verifyImage_accepted_regs (result.trans good)) rSecId
  exact ⟨good, whole, fun descriptor => (own descriptor).trans (congrArg BitVec.toNat id_)⟩

theorem State.updateCommit_commits {s : State} {conn seq tag : Nat} {cipher : List Byte} {x : MgmtSession} {u : Update}
    (h : Asks s conn 9 seq cipher tag x []) (open_ : s.dev.look.update = some u) {status : Nat} {out : List Byte} {t : State}
    (done : (s.asked conn x).commit u (clientTag x.key) = (status, out, t)) :
    exec (.updateCommit conn seq cipher tag) s = .next (t.mgmtReply conn 9 status out) := by
  have still : (s.asked conn x).dev.look.update = some u := open_
  refine congrArg Host.Outcome.next (State.mgmtRequest_takes h ?_)
  rw [← done]
  unfold State.commit State.updateChecked
  dsimp only
  rw [still]
  dsimp only
  rw [if_neg (not_not.2 rfl)]
  generalize (s.asked conn x).verifyImage islLookout 0x0F01 u.component u.data = q
  obtain ⟨r, v⟩ := q
  rfl

/-- Settles O37: at most 16,383 log records are sent (log entry 190), and UPDATE_BEGIN and UPDATE_COMMIT are in the form of
log entries 193 and 194. -/
theorem managementRequests : Obligations.ManagementRequests := by
  unfold Obligations.ManagementRequests
  refine ⟨?info, ?other, ?sensors, ?log, ?attest, ?cap, ?config, ?warm, ?cold, ?basecamp, ?begin, ?data, ?commit, ?add,
    ?remove⟩
  case info =>
    intro s conn seq cipher tag x b h
    exact ⟨_, congrArg Host.Outcome.next (State.mgmtRequest_takes h rfl), State.asked_replied rfl ..⟩
  case other =>
    intro s conn type seq cipher tag x b h unknown
    refine ⟨(s.asked conn x).mgmtReply conn type 1 [], ?_, State.asked_replied rfl ..⟩
    show execMgmtInfo conn type seq cipher tag s = _
    unfold execMgmtInfo
    rw [if_neg (by omega), State.mgmtRequest_takes h (if_neg (by omega))]
  case sensors =>
    intro s conn seq cipher tag x b h
    exact ⟨_, congrArg Host.Outcome.next (State.mgmtRequest_takes h rfl), State.asked_replied rfl ..⟩
  case log =>
    intro s conn seq cipher tag x b h size some_ most
    exact ⟨_, congrArg Host.Outcome.next (State.mgmtRequest_takes h (if_neg (by omega))), State.asked_replied rfl ..⟩
  case attest =>
    intro s conn seq cipher tag x b h size
    exact ⟨_, congrArg Host.Outcome.next (State.mgmtRequest_takes h (if_neg (not_not.2 size))), State.asked_replied rfl ..⟩
  case cap =>
    intro s conn seq cipher tag x b h size least most
    refine ⟨_, congrArg Host.Outcome.next (State.mgmtRequest_takes h (if_neg ?_)),
      State.asked_replied (congrArg LookSt.sessions (State.capSet_look ..)) .., ?_, ?_⟩
    · show ¬ (b.length ≠ 4 ∨ 100 * field b 0 4 < 30 * s.dev.desc.envelope ∨ s.dev.desc.envelope < field b 0 4)
      omega
    · rw [State.mgmtReply_mgmt]
      exact State.capSet_cap ..
    · rw [State.fld, State.mgmtReply_rd, State.mgmtReply_capWatts]
      exact State.writeCap_shows ..
  case config =>
    intro s conn seq cipher tag x b h size gib most soft hot zero
    refine ⟨_, congrArg Host.Outcome.next (State.mgmtRequest_takes h (if_neg (by omega))),
      State.asked_replied (congrArg LookSt.sessions (State.configSet_look ..)) .., ?_⟩
    rw [State.mgmtReply_mgmt]
    exact State.configSet_mgmt ..
  case warm =>
    intro s conn seq cipher tag x h boot idle started
    have ao := s.resetAnswered_ao conn 0 x
    obtain ⟨n, warm, look⟩ := State.requestWarm_asks (s := s.resetAnswered conn 0 x) (by rwa [ao])
      ((State.resetRank_of_ao ao).trans idle) (by rw [ao]; exact (State.lookoutUp_iff.1 h.up).2.2) (by rwa [ao]) 3
    exact ⟨_, n, congrArg Host.Outcome.next (State.mgmtReset_goes h (by decide) _),
      (s.resetAnswered_replied conn 0 x).of_look (congrArg LookSt.sessions look) (congrArg LookSt.replies look), warm⟩
  case cold =>
    intro s conn seq cipher tag x h idle
    have ao := s.resetAnswered_ao conn 1 x
    obtain ⟨on, -, awake⟩ := State.lookoutUp_iff.1 h.up
    refine ⟨_, congrArg Host.Outcome.next (State.mgmtReset_goes h (by decide) _), ?_⟩
    rw [State.requestCold_resets (by rwa [State.resetRank_of_ao ao]) (by rwa [ao]) (by rwa [ao]), ← ao]
    exact State.coldReset_ao ..
  case basecamp =>
    intro s conn seq cipher tag x h started cool
    have ao := s.resetAnswered_ao conn 2 x
    have asked : (s.resetAnswered conn 2 x).requestBasecamp =
        (s.resetAnswered conn 2 x).modLook fun l => { l with restart := true } := by
      unfold State.requestBasecamp
      rw [ao, if_neg (by omega), if_neg (by rw [cool]; simpa using started)]
    refine ⟨_, congrArg Host.Outcome.next ((State.mgmtReset_goes h (by decide) _).trans asked), ?_, rfl⟩
    exact (s.resetAnswered_replied conn 2 x).of_look rfl rfl
  case begin =>
    intro s conn seq cipher tag x b h size least most few closed
    refine ⟨((s.asked conn x).updateOpened (field b 0 1) (field b 1 8) (clientTag x.key)).mgmtReply conn 7 0 [],
      congrArg Host.Outcome.next (State.mgmtRequest_takes h ?_),
      State.asked_replied (by rw [State.updateOpened_look]) .., ?_, ?_⟩
    · have still : (s.asked conn x).dev.look.update = none := closed
      dsimp only
      rw [if_neg (by omega), still]
      rfl
    · rw [State.mgmtReply_look LookSt.update (fun _ _ _ => rfl), State.updateOpened_look]
    · rw [State.mgmtReply_mgmt, State.updateOpened_pending]
  case data =>
    intro s conn seq cipher tag x b u h open_ some_ next_ fits
    refine ⟨((s.asked conn x).updateExtended u (b.drop 8)).mgmtReply conn 8 0 [],
      congrArg Host.Outcome.next (State.mgmtRequest_takes h ?_),
      State.asked_replied (u := (s.asked conn x).updateExtended u (b.drop 8)) rfl .., ?_⟩
    · have still : (s.asked conn x).dev.look.update = some u := open_
      dsimp only
      rw [still]
      exact if_neg (fun no => no.elim some_ fun no => no.elim (· next_) (Nat.not_lt.2 fits))
    · rw [State.mgmtReply_look LookSt.update (fun _ _ _ => rfl)]
      rfl
  case commit =>
    intro s conn seq cipher tag x u h open_ unarmed
    by_cases passes : s.updatePasses u
    · refine ⟨_, State.updateCommit_commits h open_ (State.commit_passes (s := s.asked conn x) unarmed passes _), ?_, ?_⟩
      · rw [State.mgmtReply_look LookSt.update (fun _ _ _ => rfl), State.updateStaged_look, State.updateChecked_look]
      · refine (if_pos passes).symm ▸ ⟨State.asked_replied (s := s) ?_ .., ?_⟩
        · rw [State.updateStaged_look, State.updateChecked_look]
        · rw [State.mgmtReply_mgmt, State.updateStaged_pending]
    · refine ⟨_, State.updateCommit_commits h open_ (State.commit_fails (s := s.asked conn x) unarmed passes _), ?_, ?_⟩
      · rw [State.mgmtReply_look LookSt.update (fun _ _ _ => rfl), State.updateChecked_look]
      · refine (if_neg passes).symm ▸ ⟨State.asked_replied (s := s) ?_ .., ?_⟩
        · rw [State.updateChecked_look]
        · rw [State.mgmtReply_mgmt, State.updateChecked_nv]
          rfl
  case add =>
    intro s conn seq cipher tag x b h size fresh room
    refine ⟨((s.asked conn x).trustAdd (Config.sha3 b) 1 (clientTag x.key)).mgmtReply conn 0x0A 0 [],
      congrArg Host.Outcome.next (State.mgmtRequest_takes h ?_),
      State.asked_replied (congrArg LookSt.sessions (State.trustAdd_look ..)) .., ?_⟩
    · have trust : (s.asked conn x).nv.mgmt.trust = s.nv.mgmt.trust := rfl
      rw [if_neg (not_not.2 size), trust, if_neg (by rwa [List.contains_iff_mem]), if_neg (Nat.not_le.2 room)]
    · rw [State.mgmtReply_mgmt, State.trustAdd_trust]
      rfl
  case remove =>
    intro s conn seq cipher tag x b h size there more
    refine ⟨((s.asked conn x).trustRemoved (BitVec.ofNat 256 (field b 0 32)) (clientTag x.key)).mgmtReply conn 0x0B 0 [],
      congrArg Host.Outcome.next (State.mgmtRequest_takes h ?_),
      State.asked_replied (congrArg LookSt.sessions (State.trustRemoved_look ..)) .., ?_⟩
    · have trust : (s.asked conn x).nv.mgmt.trust = s.nv.mgmt.trust := rfl
      extract_lets d
      rw [trust, List.contains_iff_mem.2 there, if_neg (fun no => no.elim (· size) (by decide)),
        if_neg (Nat.not_le.2 more)]
      rfl
    · rw [State.mgmtReply_mgmt, State.trustRemoved_trust]
      rfl

end Sys2Proof.Machine
end

section
/-! SUPPORT. Power states, wakes, trips and the duty controller (R550 to R560). -/

namespace Sys2Proof.Machine

/-! Power states (R551 to R553). -/

theorem State.modMem_fld (s : State) (g : MemSt → MemSt) (o : Nat) (f : Nat × Nat) : (s.modMem g).fld o f = s.fld o f := rfl

theorem State.modMem_bays (s : State) (g : MemSt → MemSt) : (s.modMem g).dev.bays = s.dev.bays := rfl

theorem State.inA2_iff {s : State} : s.inA2 = true ↔ s.fld rPwrState fPwrStateCurrent = 2 := by
  unfold State.inA2
  exact beq_iff_eq

theorem State.leaveA2_a0 {s : State} (a2 : s.inA2 = true) :
    s.leaveA2.fld rPwrState fPwrStateCurrent = 0 ∧ s.leaveA2.dev.mem.selfRefresh = [] := by
  unfold State.leaveA2
  rw [if_pos (State.inA2_iff.1 a2)]
  refine ⟨?_, rfl⟩
  rw [State.modMem_fld, State.fld_setFlag_apart _ _ _ _ _ (by decide) (by decide), State.fld_setFld_same _ _ _ _ (by decide)]
  rfl

/-- A bay without power: its memories have lost their contents (R552). -/
structure Bay.Dark (b : Bay) : Prop where
  gated : b.gated = true
  store : b.store = {}
  crews : b.crews = []

theorem Bay.gate_dark (b : Bay) : b.gate.Dark := ⟨rfl, rfl, rfl⟩

theorem State.bay_gateBay (s : State) (m n : Nat) : (s.gateBay m).bay n = if n = m then (s.bay m).gate else s.bay n :=
  s.bay_setBay m (s.bay m).gate n

theorem State.gateBays_dark (l : List Nat) (s : State) {n : Nat} (h : n ∈ l ∨ (s.bay n).Dark) :
    ((l.foldl State.gateBay s).bay n).Dark := by
  induction l generalizing s with
  | nil => exact h.elim nofun id
  | cons m l ih =>
    refine ih (s.gateBay m) ?_
    rw [State.bay_gateBay]
    split
    · exact .inr (Bay.gate_dark _)
    · next other =>
      rcases h with here | dark
      · exact .inl ((List.mem_cons.1 here).resolve_left other)
      · exact .inr dark

theorem SMap.get_allTrue (l : List Nat) {k : Nat} (h : k ∈ l) :
    SMap.get (fun _ => false) (l.map fun k => (k, true)) k = true := by
  induction l with
  | nil => exact nomatch h
  | cons m l ih =>
    unfold SMap.get List.map
    dsimp only
    split
    · rfl
    · next other => exact ih ((List.mem_cons.1 h).resolve_left fun e => other e.symm)

/-- The part in A2. -/
def State.asleep (s : State) : State :=
  (((List.range 256).foldl State.gateBay s).modMem fun m => { m with
    selfRefresh := (List.range ((List.range 256).foldl State.gateBay s).dev.desc.stackCount).map fun σ => (σ, true) }).setPwrState 2

theorem State.bay_asleep (s : State) (n : Nat) : s.asleep.bay n = ((List.range 256).foldl State.gateBay s).bay n := by
  unfold State.asleep State.setPwrState State.bay
  rw [State.setFld_bays, State.modMem_bays]

theorem State.setPwrState_inA2 (s : State) : (s.setPwrState 2).inA2 = true := by
  rw [State.inA2_iff, State.setPwrState, State.fld_setFld_same _ _ _ _ (by decide)]
  rfl

theorem State.asleep_selfRefresh (s : State) {σ : Nat} (h : σ < s.dev.desc.stackCount) :
    SMap.get (fun _ => false) s.asleep.dev.mem.selfRefresh σ = true := by
  have desc : ((List.range 256).foldl State.gateBay s).dev.desc = s.dev.desc :=
    foldl_kept (·.dev.desc) State.gateBay (fun _ _ => rfl) _ s
  unfold State.asleep State.setPwrState
  rw [State.setFld_mem, desc]
  exact SMap.get_allTrue _ (List.mem_range.2 h)

/-! S1 and wakes (R554, R555). -/

theorem State.keepAreas_bays (s old : State) : (s.keepAreas old).dev.bays = s.dev.bays := by
  unfold State.keepAreas
  rw [State.setFld_bays, State.setFld_bays]

theorem State.keepAreas_nv (s old : State) : (s.keepAreas old).nv = s.nv := by
  unfold State.keepAreas
  rw [State.setFld_nv, State.setFld_nv]

/-- In S1 only the always-on domain is left. -/
theorem State.enterS1_leaves (s : State) : s.enterS1.ao.s1 = true ∧ s.enterS1.ao.mainEn = false ∧ s.enterS1.dev.bays = [] ∧
    s.enterS1.ao.tick = s.ao.tick ∧ s.enterS1.nv = s.nv := by
  unfold State.enterS1
  rw [State.keepAreas_ao, State.keepAreas_bays, State.keepAreas_nv]
  exact ⟨rfl, rfl, rfl, rfl, rfl⟩

theorem State.coldReset_s1 (s : State) (kind source step : Nat) : (s.coldReset kind source step).ao.s1 = false := by
  unfold State.coldReset
  dsimp only
  rw [State.keepAreas_ao]

/-! Islands (R550). -/

theorem State.isl_setIsl (s : State) (n : Nat) (i : Island) (m : Nat) :
    (s.setIsl n i).isl m = if m = n then i else s.isl m := SMap.get_set (fun _ => ({} : Island)) s.dev.islands n i m

/-! Trips (R556, R557). -/

/-- What a trip that no injection causes leaves as it was. -/
structure State.TripsKept (s t : State) : Prop where
  active : t.fld rPwrTripStatus fPwrTripStatusTripActive = s.fld rPwrTripStatus fPwrTripStatusTripActive
  temp : t.rd rObsAoTemp = s.rd rObsAoTemp
  unarmed : t.unarmed = true
  ao : t.ao = s.ao

theorem State.unarmed_of_rd {s t : State} (h : t.rd rRasInjectArm = s.rd rRasInjectArm) : t.unarmed = s.unarmed :=
  congrArg (!·) (State.flag_of_rd h _)

theorem State.logEnv_kept {s : State} (unarmed : s.unarmed = true) (isl unit : Nat) : s.TripsKept (s.log isl (envRec unit)) := by
  have rd (o : Nat) : (s.log isl (envRec unit)).rd o = s.rd o := s.rd_log_uncounted isl (envRec unit) o unarmed (Nat.le_refl 3)
  refine ⟨congrArg (getBits · _ _) (rd _), rd _, (State.unarmed_of_rd (rd _)).trans unarmed, ?_⟩
  exact State.logAt_kept (·.ao) (fun _ _ _ => rfl) (fun _ _ _ => rfl) (fun _ _ => rfl) (fun _ _ => rfl) s isl _

theorem State.TripsKept.trans {s t u : State} (h : s.TripsKept t) (g : t.TripsKept u) : s.TripsKept u :=
  ⟨g.active.trans h.active, g.temp.trans h.temp, g.unarmed, g.ao.trans h.ao⟩

theorem State.mgmtLog_tripsKept {s : State} (unarmed : s.unarmed = true) (type : Nat) : s.TripsKept (s.mgmtLog type) := by
  have rd := State.rd_of_regs (s.mgmtLog_regs type 0 0 0 0 0)
  exact ⟨congrArg (getBits · _ _) (rd _), rd _, (State.unarmed_of_rd (rd _)).trans unarmed, s.mgmtLog_ao ..⟩

theorem State.tripSeen_kept {s : State} (unarmed : s.unarmed = true) (v : Nat) :
    s.TripsKept (s.setFld rPwrTripStatus fPwrTripStatusTripSeen v) :=
  ⟨State.fld_setFld_apart _ _ _ _ _ (by decide) (by decide), State.rd_setFld_other _ _ _ _ _ (by decide),
    (State.unarmed_of_rd (State.rd_setFld_other _ _ _ _ _ (by decide))).trans unarmed, State.setFld_ao ..⟩

theorem State.tripFire_kept {s : State} (unarmed : s.unarmed = true) {k : Nat} (h : k < 2) :
    s.TripsKept (s.tripFire k false) := by
  have seen := State.tripSeen_kept unarmed (setBit (s.fld rPwrTripStatus fPwrTripStatusTripSeen) k true)
  have logged := seen.trans (State.logEnv_kept seen.unarmed islAlwaysOn k)
  unfold State.tripFire
  obtain rfl | rfl : k = 0 ∨ k = 1 := by omega
  · exact logged.trans (State.mgmtLog_tripsKept logged.unarmed 6)
  · exact logged

/-- A comparator after a reading. -/
def State.tripStep (new old : Nat) (s : State) (k : Nat) : State :=
  let t := if s.armedAt islAlwaysOn (0x0D00 + k) = true ∧ k = 3 then (s.fire islAlwaysOn 0x0D03).2 else s
  if !t.ao.s1 ∧ (s.armedAt islAlwaysOn (0x0D00 + k) = true ∨ (new.testBit k ∧ !old.testBit k)) then
    t.tripFire k (decide (s.armedAt islAlwaysOn (0x0D00 + k) = true) && !new.testBit k)
  else t

theorem State.tripStep_kept {s : State} (unarmed : s.unarmed = true) {new old k : Nat}
    (low : k < 2 ∨ new.testBit k = false) : s.TripsKept (s.tripStep new old k) := by
  have inert : s.armedAt islAlwaysOn (0x0D00 + k) = false := by
    unfold State.armedAt
    rw [State.unarmed_flag s unarmed]
    rfl
  have same : s.TripsKept s := ⟨rfl, rfl, unarmed, rfl⟩
  unfold State.tripStep
  rw [inert]
  dsimp only
  rw [if_neg (show ¬ (false = true ∧ k = 3) from fun no => Bool.false_ne_true no.1)]
  split
  · next fires =>
    rcases low with low | off
    · exact State.tripFire_kept unarmed low
    · rw [off] at fires
      exact absurd fires (by simp)
  · exact same

theorem State.tripSteps_kept (new old : Nat) (l : List Nat) {s : State} (unarmed : s.unarmed = true)
    (low : ∀ k ∈ l, k < 2 ∨ new.testBit k = false) : s.TripsKept (l.foldl (State.tripStep new old) s) := by
  induction l generalizing s with
  | nil => exact ⟨rfl, rfl, unarmed, rfl⟩
  | cons k l ih =>
    have first := State.tripStep_kept (old := old) unarmed (low k (List.mem_cons_self ..))
    exact first.trans (ih first.unarmed fun j hj => low j (List.mem_cons_of_mem _ hj))

theorem testBit_setBit_below {x i j : Nat} (h : j < i) : (setBit x i false).testBit j = x.testBit j := by
  unfold setBit
  split
  · next set =>
    have whole : 2 ^ i + (x - 2 ^ i) = x := Nat.add_sub_cancel' (Nat.ge_two_pow_of_testBit set)
    rw [if_neg Bool.false_ne_true]
    conv_rhs => rw [← whole]
    exact (Nat.testBit_two_pow_add_gt h _).symm
  · rfl

/-- A reading below the level of TRIP2 leaves TRIP2 and TRIP3 clear. -/
theorem tripsAfter_low {x : Int} (h : x < 105) (a : Nat) :
    (tripsAfter a x).testBit 2 = false ∧ (tripsAfter a x).testBit 3 = false := by
  have steps : ∃ b, tripsAfter a x = setBit (setBit b 2 false) 3 false := by
    unfold tripsAfter
    simp only [List.range_succ, List.range_zero, List.nil_append, List.cons_append, List.foldl_cons, List.foldl_nil]
    rw [if_neg (show ¬ ((tripLevel 3 : Nat) : Int) ≤ x by simp [tripLevel]; omega),
      if_pos (show x < ((tripClear 3 : Nat) : Int) by simp [tripClear]; omega),
      if_neg (show ¬ ((tripLevel 2 : Nat) : Int) ≤ x by simp [tripLevel]; omega),
      if_pos (show x < ((tripClear 2 : Nat) : Int) by simpa [tripClear] using h)]
    exact ⟨_, rfl⟩
  obtain ⟨b, steps⟩ := steps
  rw [steps]
  exact ⟨(testBit_setBit_below (by decide)).trans (testBit_setBit_false ..), testBit_setBit_false ..⟩

/-- TRIP_ACTIVE, MAX_NOW and PEAK after one sensor's reading. -/
def State.sensed (s : State) (x : Int) : State :=
  let s := (s.setFld rPwrTripStatus fPwrTripStatusTripActive (tripsAfter (s.fld rPwrTripStatus fPwrTripStatusTripActive) x)).setFld
    rObsAoTemp fObsAoTempMaxNow (BitVec.ofInt 8 x).toNat
  if s.fld rObsAoTemp fObsAoTempPeak < (BitVec.ofInt 8 x).toNat then
    (s.setFld rObsAoTemp fObsAoTempPeak (BitVec.ofInt 8 x).toNat).setFld rObsAoTemp fObsAoTempPeakSensor 0
  else s

theorem State.sensed_shows (s : State) (x : Int) :
    (s.sensed x).fld rPwrTripStatus fPwrTripStatusTripActive =
      tripsAfter (s.fld rPwrTripStatus fPwrTripStatusTripActive) x % 16 ∧
    (s.sensed x).fld rObsAoTemp fObsAoTempMaxNow = (BitVec.ofInt 8 x).toNat ∧
    (s.sensed x).rd rRasInjectArm = s.rd rRasInjectArm ∧ (s.sensed x).ao = s.ao := by
  have byte : (BitVec.ofInt 8 x).toNat % 2 ^ 8 = (BitVec.ofInt 8 x).toNat := Nat.mod_eq_of_lt (BitVec.isLt _)
  unfold State.sensed
  dsimp only
  split
  · refine ⟨?_, ?_, ?_, ?_⟩
    · rw [State.fld_setFld_other _ _ _ _ _ _ (by decide), State.fld_setFld_other _ _ _ _ _ _ (by decide),
        State.fld_setFld_other _ _ _ _ _ _ (by decide), State.fld_setFld_same _ _ _ _ (by decide)]
      rfl
    · rw [State.fld_setFld_apart _ _ _ _ _ (by decide) (by decide), State.fld_setFld_apart _ _ _ _ _ (by decide) (by decide),
        State.fld_setFld_same _ _ _ _ (by decide)]
      exact byte
    · rw [State.rd_setFld_other _ _ _ _ _ (by decide), State.rd_setFld_other _ _ _ _ _ (by decide),
        State.rd_setFld_other _ _ _ _ _ (by decide), State.rd_setFld_other _ _ _ _ _ (by decide)]
    · rw [State.setFld_ao, State.setFld_ao, State.setFld_ao, State.setFld_ao]
  · refine ⟨?_, ?_, ?_, ?_⟩
    · rw [State.fld_setFld_other _ _ _ _ _ _ (by decide), State.fld_setFld_same _ _ _ _ (by decide)]
      rfl
    · rw [State.fld_setFld_same _ _ _ _ (by decide)]
      exact byte
    · rw [State.rd_setFld_other _ _ _ _ _ (by decide), State.rd_setFld_other _ _ _ _ _ (by decide)]
    · rw [State.setFld_ao, State.setFld_ao]

/-- What the comparators leave after a reading, before THERMAL_ALERT_N follows. -/
def State.compared (s : State) (x : Int) : State :=
  (List.range 4).foldl (State.tripStep (tripsAfter (s.fld rPwrTripStatus fPwrTripStatusTripActive) x)
    (s.fld rPwrTripStatus fPwrTripStatusTripActive)) (s.sensed x)

def State.alerted (s : State) (new : Nat) : State :=
  { s with ao := { s.ao with thermAlertN := decide (new = 0) && decide (s.ao.alertUntil ≤ s.ao.tick) } }

theorem execAoSensorRead_one {s : State} (awake : s.ao.s1 = false) (on : s.ao.startStep ≠ 0) (x : Int) :
    exec (.aoSensorRead [x]) s =
      .next ((s.compared x).alerted (tripsAfter (s.fld rPwrTripStatus fPwrTripStatusTripActive) x)) := by
  have top : ((List.range [x].length).zip [x]).foldl
      (fun (b : Int × Nat) e => if b.1 < e.2 then (e.2, e.1) else b) ([x].headD 0, 0) = (x, 0) := if_neg (Int.lt_irrefl x)
  show execAoSensorRead [x] s = _
  unfold execAoSensorRead
  rw [if_neg (by rw [awake, not_or]; exact ⟨Bool.false_ne_true, on⟩), top]
  rfl

theorem State.compared_kept {s : State} (unarmed : s.unarmed = true) {x : Int} (h : x < 105) :
    (s.sensed x).TripsKept (s.compared x) := by
  obtain ⟨off2, off3⟩ := tripsAfter_low h (s.fld rPwrTripStatus fPwrTripStatusTripActive)
  obtain ⟨-, -, arm, -⟩ := s.sensed_shows x
  refine State.tripSteps_kept _ _ _ ((State.unarmed_of_rd arm).trans unarmed) fun k hk => ?_
  obtain rfl | rfl | low : k = 2 ∨ k = 3 ∨ k < 2 := by
    have := List.mem_range.1 hk
    omega
  · exact .inr off2
  · exact .inr off3
  · exact .inl low

/-! Duty (R558, R559). -/

/-- What a duty update leaves. -/
theorem execDutyUpdate_updates {s : State} (awake : s.ao.s1 = false) (on : 4 ≤ s.ao.startStep) (p : Nat) :
    ∃ t, exec (.dutyUpdate p) s = .next t ∧
      t.fld rPwrDuty fPwrDutyDuty =
        dutyNext ((s.fld rPwrTripStatus fPwrTripStatusTripActive).testBit 1 || s.ao.trip1Once) p
          (1000 * min s.dev.desc.envelope (s.fld rPwrCapW fPwrCapWWatts)) (s.fld rPwrDuty fPwrDutyDuty)
          s.dev.desc.dutyCeil % 2 ^ 9 ∧
      t.fld rPwrPower fPwrPowerPowerMw = p % 2 ^ 32 ∧ t.ao.trip1Once = false := by
  have kept (u : State) (n o : Nat) (f : Nat × Nat) :
      ({ u with dev := { u.dev with throttle := n } } : State).fld o f = u.fld o f := rfl
  have keptAo (u : State) (n : Nat) : ({ u with dev := { u.dev with throttle := n } } : State).ao = u.ao := rfl
  refine ⟨_, if_neg (by rw [awake, not_or]; exact ⟨Bool.false_ne_true, Nat.not_lt.2 on⟩), ?_, ?_, ?_⟩
  · rw [kept, State.addFld, State.fld_setFld_apart _ _ _ _ _ (by decide) (by decide),
      State.fld_setFld_other _ _ _ _ _ _ (by decide), State.fld_setFld_other _ _ _ _ _ _ (by decide),
      State.fld_setFld_apart _ _ _ _ _ (by decide) (by decide), State.fld_setFld_same _ _ _ _ (by decide)]
    rfl
  · rw [kept, State.addFld, State.fld_setFld_other _ _ _ _ _ _ (by decide),
      State.fld_setFld_apart _ _ _ _ _ (by decide) (by decide), State.fld_setFld_same _ _ _ _ (by decide)]
    rfl
  · rw [keptAo, State.addFld, State.setFld_ao, State.setFld_ao, State.setFld_ao, State.setFld_ao, State.setFld_ao]

/-- Settles O23: a reading below the level of TRIP2 fires TRIP0 and TRIP1 at most, which leave TRIP_ACTIVE and MAX_NOW. -/
theorem powerTripsAndDuty : Obligations.PowerTripsAndDuty := by
  unfold Obligations.PowerTripsAndDuty
  refine ⟨⟨?a0, ?a2, ?s1, ?entry, ?stop, ?restart, ?wake, ?refresh, ?latch, ?start⟩, ?sensor, ?supply, ?duty, ?clear⟩
  case a0 => exact fun s a2 => ⟨_, rfl, State.leaveA2_a0 a2⟩
  case a2 =>
    intro s free a0
    have ran : exec .requestA2 s = .next s.asleep := by
      show execRequestA2 s = _
      unfold execRequestA2
      rw [if_neg (by rw [free]; decide), if_neg (by rw [a0]; decide)]
      rfl
    refine ⟨_, ran, State.setPwrState_inA2 _, fun n h => ?_, fun σ h => s.asleep_selfRefresh h⟩
    obtain ⟨gated, store, crews⟩ := State.gateBays_dark (List.range 256) s (.inl (List.mem_range.2 h))
    rw [State.bay_asleep]
    exact ⟨gated, store, crews⟩
  case s1 =>
    intro s free idle
    have ran : exec .requestS1 s = _ := (if_neg (by rw [free]; decide)).trans (if_neg (by rw [idle]; decide))
    refine ⟨_, ran, rfl, rfl, ?_, ?_⟩
    · exact State.rd_setFlag_other _ _ _ _ _ (by decide)
    · exact State.flag_setFlag_same s rPwrState fPwrStateTransition true (by decide) rfl
  case entry =>
    intro s pending none_
    refine ⟨_, ?_, s.enterS1_leaves⟩
    show execS1Entry true s = _
    unfold execS1Entry
    rw [if_neg (by rw [pending]; simp), none_]
  case stop =>
    intro s n island other runs due idle
    refine ⟨_, if_neg ?_, ?_, fun m h => ?_⟩
    · rw [island, runs, idle, not_or, not_or, not_or, not_or]
      exact ⟨by decide, other, by decide, Nat.not_lt.2 due, by decide⟩
    · rw [State.isl_setIsl, if_pos rfl]
      rfl
    · rw [State.isl_setIsl, if_neg h]
  case restart =>
    intro s n stopped item noBay
    have arrived : (s.dev.couplers.any fun e => e.1 % 4096 == n && !e.2.isEmpty) ||
        !(SMap.get (fun _ => []) s.dev.inbox n).isEmpty := by
      rw [Bool.or_eq_true, Bool.not_eq_true', List.isEmpty_eq_false_iff]
      exact .inr item
    have ungated : ((List.range 256).any fun b => s.bayIsland b == n && (s.bay b).gated) = false := by
      rw [List.any_eq_false]
      intro b hb
      rw [Bool.and_eq_true, beq_iff_eq]
      exact fun h => noBay b (List.mem_range.1 hb) h.1
    refine ⟨_, if_pos ⟨stopped, arrived, by rw [ungated]; rfl⟩, ?_, ?_⟩
    · rw [State.isl_setIsl, if_pos rfl]
      rfl
    · unfold State.copy
      rw [State.isl_setIsl, if_pos rfl]
      rfl
  case wake =>
    intro s σ a2 h
    refine ⟨_, if_neg ?_, ?_⟩
    · rw [a2, not_or]
      exact ⟨by decide, Nat.not_le.2 h⟩
    · exact SMap.get_set_same (fun _ => false) s.dev.mem.selfRefresh σ false
  case refresh =>
    intro s σ a2 h due
    refine ⟨_, if_neg ?_, ?_⟩
    · rw [a2, not_or, not_or]
      exact ⟨by decide, Nat.not_le.2 h, Nat.not_lt.2 due⟩
    · exact SMap.get_set_same (fun _ => false) s.dev.mem.selfRefresh σ true
  case latch =>
    intro s pending none_
    refine ⟨_, congrArg Host.Outcome.next (if_pos pending), ?_⟩
    rw [none_]
    rfl
  case start =>
    intro s idle asleep cold
    refine ⟨s.coldReset 3 6 1, ?_, State.coldReset_s1 .., State.coldReset_ao ..⟩
    show execWakeEvent s = _
    unfold execWakeEvent State.wakeEvent
    rw [if_neg (by rw [idle]; decide), if_pos asleep, cold]
    rfl
  case sensor =>
    intro s x awake on unarmed h
    obtain ⟨active, now, -, ao⟩ := s.sensed_shows x
    have kept := State.compared_kept unarmed h
    refine ⟨_, execAoSensorRead_one awake on x, kept.active.trans active, ?_, ?_⟩
    · exact (congrArg (getBits · _ _) kept.temp).trans now
    · unfold State.alerted
      rw [kept.ao, ao]
  case supply =>
    intro s awake on
    exact ⟨_, if_neg (by rw [awake, on]; decide), State.inFailsafe_enterFailsafe ..⟩
  case duty => exact fun s p awake on => execDutyUpdate_updates awake on p
  case clear =>
    intro s
    refine ⟨_, rfl, ?_, fun o h => State.rd_setFld_other _ _ _ _ _ h⟩
    rw [State.fld_setFld_same _ _ _ _ (by decide)]
    exact Nat.mod_eq_of_lt (Nat.mod_lt _ (by decide))

end Sys2Proof.Machine
end
